-- ==== Sys2Proof/Word.lean ====
section
/-!
DEFINITION. The word types of the block: a register is 32 bits (R9), a byte of memory is 8,
an engine accumulator is 48 (R72) and a bus word of the log and of snapshots is 64.
-/
namespace Sys2Proof

/-- One byte. -/
abbrev Byte := BitVec 8

/-- One register word (R9), one engine data word and one program word (R36). -/
abbrev Word := BitVec 32

/-- One engine accumulator. -/
abbrev Acc := BitVec 48

/-- Two register words read as one value (R161). -/
abbrev DWord := BitVec 64

end Sys2Proof
end

