-- ==== Sys2Proof/Syntax.lean ====
section
/-!
DEFINITION. The commands of the block: one constructor for each row of spec/opcode_table.json, in the table's order
of chapters, with the operands the row's rule gives it. A command that stands for an event (an edge, a
conversion, a frame that arrives, a time that has passed) carries what the outside world decides of it; all
else the command finds in the state.
-/
namespace Sys2Proof

/-- A manager die: 0 is MGR_A, 1 is MGR_B. -/
abbrev Mgr := Fin 2
/-- A tile. -/
abbrev Tile := Fin 4
/-- A phase PH_nn. -/
abbrev Phase := Fin 96
/-- A rail RAIL_nn. -/
abbrev Rail := Fin 48
/-- An input group VING_gg. -/
abbrev Group := Fin 8
/-- A die with a PLL and a register window: 0 to 3 the tiles, 4 HPD. -/
abbrev Unit5 := Fin 5
/-- An engine slot of a tile: 0 to 23 the phases' own, 24 the spare. -/
abbrev Slot := Fin 25
/-- A neighbour pair of tiles: pair n joins TILE_n and TILE_(n+1). -/
abbrev Pair := Fin 3

/-- The initiators of R13, in the order that R13 serialises them. -/
inductive Who where
  | sc | mc0 | mc1 | mc2 | host | svc
  deriving DecidableEq, Repr

/-- A same-cycle hardware update of a register (R11): the lowest bit of the field it reaches, and the value. For a
counter the update is an increment and the value is not used. -/
structure HwUpdate where
  lo  : Fin 32
  val : Word
  deriving DecidableEq, Repr

/-- A write of one initiator among those of one cycle (R13). -/
structure OneWrite where
  who    : Who
  secure : Bool
  addr   : BitVec 32
  bytes  : Nat
  data   : Word
  deriving DecidableEq, Repr

/-- A receive path whose two lanes carry the same frame (R16). -/
inductive FramePath where
  /-- Manager to tile or HPD. -/
  | down (u : Unit5) (m : Mgr)
  /-- Tile or HPD to manager. -/
  | up (m : Mgr) (u : Unit5)
  /-- The Rein link toward manager m. -/
  | rein (m : Mgr)
  deriving DecidableEq, Repr

/-- What the comparators and the scan show of one phase during a probe (R60, R63): the fault comparator tripped in
the low-side pulse or its watch; it tripped, confirmed, while the stage was at mid; the group's STG_TF line was at or
above 2.50 V for 200 ns; and the sum of the 256 codes of the offset measurement. -/
structure ProbeObs where
  hsTrip  : Bool
  midTrip : Bool
  tfTrip  : Bool
  codeSum : Nat
  deriving DecidableEq, Repr

/-- What the scrubber finds in the two copies of a word of an engine memory (R89): nothing; an error that one copy
repairs; a word uncorrectable in both copies; or a copy with three or more upset bits that passed as valid. -/
inductive Upset where
  | clean | corrected | lost | passed
  deriving DecidableEq, Repr

/-- The kinds of engine fault of R98, INJECTED apart: that one has a command of its own. -/
inductive EngFault where
  | datapath | regfile | sequence | memProg | memData
  deriving DecidableEq, Repr

/-- A voltage at the input of a converter (R459), in units of 1/128 µV: every converter's code step and half of it are whole in them. -/
abbrev Level := Int

/-- What a Sequence Lane command frame carries beside its OPCODE and ARGS (R183): DEST, SEQ and CRC-16. -/
structure LaneHead where
  dest : BitVec 4
  seq  : Byte
  crc  : BitVec 16
  deriving DecidableEq, Repr

/-- A telemetry energy accumulator (R160): a rail's on one tile, or an input group's on one manager. -/
inductive EnergyAcc where
  | rail (t : Tile) (r : Rail)
  | group (m : Mgr) (g : Group)
  deriving DecidableEq, Repr


/-- A die with temperature sensors (R203). -/
inductive Die where
  | tile (t : Tile)
  | mgr (m : Mgr)
  | hpd
  deriving DecidableEq, Repr

/-- HPD's own readings as it shares the input limit (R212): VAUX, VBB and VBAT in mV, the input current, the buck's input current and the buck's output current
in 1/16 A, the voltage across the battery shunt in nV, positive charging. -/
structure HpdMeas where
  vaux  : BitVec 16
  vbb   : BitVec 16
  vbat  : BitVec 16
  iin   : BitVec 16
  iBuck : BitVec 16
  iOut  : BitVec 16
  ush   : Int
  deriving DecidableEq, Repr

/-- A periodic repeat of MET (R266). -/
inductive MetRepeat where
  | record | ident | health
  deriving DecidableEq, Repr

/-- The fields of a calibration bank (R275); trims are signed. -/
structure MetBank where
  iR      : BitVec 16
  uR      : BitVec 16
  fsI     : BitVec 32
  gainI   : BitVec 16
  ofsI    : BitVec 16
  fsV     : BitVec 32
  gainV   : BitVec 16
  ofsV    : BitVec 16
  iStart  : Byte
  pulse   : BitVec 2
  deriving DecidableEq, Repr

/-- What an update command arrives in (R417): the bytes of a host-bus message after its command byte, or the tag and the payload of a
service-port frame. -/
inductive PortMsg where
  | host (bytes : List Byte)
  | svc (tag : BitVec 16) (payload : List Byte)
  deriving DecidableEq, Repr

/-- The commands of the block. -/
inductive Instr where
  /-- A software write to a register with no row of its own, resolved field by field under the access-type, lock and same-cycle collision rules. A write of `bytes` bytes by initiator `w` of manager `m`, with the hardware updates of the same cycle to its register and the writes of other initiators in the same cycle; `secure`: the core is in secure state. -/
  | regWrite (w : Who) (m : Mgr) (secure : Bool) (addr : BitVec 32) (bytes : Nat) (data : Word) (hw : List HwUpdate) (more : List OneWrite)
  /-- A read of the low word of a 64-bit or paired value takes the reading initiator's snapshot, which later high-word reads return. A read of `bytes` bytes; `secure`: the core is in secure state. -/
  | lowWordSnapshotRead (w : Who) (m : Mgr) (secure : Bool) (addr : BitVec 32) (bytes : Nat)
  /-- A manager-path frame arrives; the receiver checks the CRC of both copies, takes lane 0 or lane 1, or discards the frame and counts the failure. `ok0`, `ok1`: the copy of that lane passed its CRC. -/
  | crossingFrameReceive (path : FramePath) (ok0 ok1 : Bool)
  /-- The third consecutive CRC failure on a lane marks that lane failed, reports the failure to both managers and leaves the path on the other lane. -/
  | crossingLaneFail (path : FramePath) (lane : Fin 2)
  /-- A register write frame reaches a tile or HPD; it is applied when it comes from the ROLE holder and is otherwise refused and counted. `sentActive`: the manager held ROLE when it started the frame. -/
  | crossingRegWrite (u : Unit5) (m : Mgr) (w : Who) (sentActive : Bool) (off : BitVec 24) (data : Word)
  /-- Every 10 µs each manager sends a beat frame carrying its beat and role to every tile and to HPD. -/
  | beatFrameSend (m : Mgr)
  /-- A tile-to-tile slot arrives; it is used when valid, or discarded when its CRC or sequence count fails, leaving the last reference stale. `t` is the receiver, `upper` its upper neighbour's lanes; `crcOk`: the slot passes its CRC on arrival. -/
  | slotReceive (t : Tile) (upper : Bool) (slot : Fin 8) (crcOk : Bool)
  /-- The third consecutive slot failure on a working lane marks the lane failed and moves its slot to the spare lane. -/
  | slotLaneFail (t : Tile) (upper : Bool) (lane : Fin 9)
  /-- A new SSC_MODE value starts the relock of the shadow root, then of the active root, with the tiles switching references around each relock. -/
  | sscModeWrite (w : Who) (m : Mgr) (mode : BitVec 2)
  /-- A relocking root has held lock for 10 µs, and the tiles and HPD switch reference for the next stage of the relock. -/
  | rootRelockDone
  /-- The followed reference misses 4 consecutive edges, and the tile or HPD PLL enters holdover. -/
  | refEdgeLoss (u : Unit5)
  /-- A reference has been valid for 10 µs during holdover or free-run, and the PLL locks or switches to it. -/
  | refValid10us (u : Unit5) (m : Mgr)
  /-- Holdover reaches 100 µs with no valid reference, and the PLL enters free-run. -/
  | holdoverExpire (u : Unit5)
  /-- A tile PLL has followed its new reference for 50 µs and is no longer settling. -/
  | settlingEnd (u : Unit5)
  /-- The internal oscillator detects that a manager's crystal has stopped; XTAL_FAIL sets and the manager's reference stops. -/
  | xtalStop (m : Mgr)
  /-- A 1 ms comparison window against the peer manager's reference ends, giving XTAL_FAIL or CLOCK_DISAGREE on a difference above 500 ppm. `failA`, `failB`: that manager measured a difference above 500 ppm. -/
  | xtalCompareWindow (failA failB : Bool)
  /-- A command waiting for clock-readiness runs on the first clock-ready tick. -/
  | commandClockReady
  /-- A waiting command has not become clock-ready 200 µs after its acceptance and is rejected with PLL_NOT_READY. -/
  | pllNotReadyReject
  /-- The beat advances by one microsecond of its crystal. -/
  | beatAdvance (m : Mgr)
  /-- A 10 ns control tick boundary on a tile: engine snapshots, event latching, output commits and per-tick tile hardware. `levels`: the voltages that slices A and B of the channels 0 to 11 sampled; `spare`: the one that the spare sampled; `pg`: the levels of the tile's four PG pins; `upsets`: the words of the engine memories, by slot and word, whose copies were upset in the tick that ends. -/
  | tickBoundary (t : Tile) (levels : List (Level × Level)) (spare : Level) (pg : BitVec 4) (upsets : List (Slot × BitVec 12 × Upset))
  /-- A rail's cycle counter starts a new switching period, and a pending PER_ACT change and phase offsets take effect. -/
  | cycleStart (r : Rail) (t : Tile)
  /-- A phase reaches its leading-edge instant; a pending mid marking, add or OFFSET change takes effect there. -/
  | phaseLeadingEdge (p : Phase)
  /-- A phase-scan slice converts one IMON input into IPH, which feeds the limit, IPK and discharge comparisons. `level`: IMON − IREF as the slice of the phase samples it; `spare`: as the spare samples it, where it visits that slice. -/
  | phaseScanConversion (p : Phase) (level spare : Level)
  /-- IMON stays at or above IREF + 0.600 V for 20 ns, and the phase is shed with cause IMON_FAULT. -/
  | imonFaultTrip (p : Phase)
  /-- IMON stays below IREF − 0.550 V for 1 µs, and the phase is shed with cause NO_REPORT. -/
  | imonNoReport (p : Phase)
  /-- STG_TF stays at or above 2.50 V for 200 ns, and every ACTIVE or PARKED phase of the group is shed with cause TF_FAULT. -/
  | stgTfFault (t : Tile) (g : Fin 6)
  /-- STG_TF stays below 0.20 V for 10 µs, and TF_LOW and TF_FLT_EVT set. -/
  | stgTfLow (t : Tile) (g : Fin 6)
  /-- A phase has been at mid for the minimum 200 ns and may take another level. -/
  | midHoldEnd (p : Phase)
  /-- The park condition has held for SHED_DWELL, and the load rule parks one phase. -/
  | parkDwellExpire (r : Rail)
  /-- Per-phase current has stayed above ADD_ABOVE for 1 µs, and the load rule adds one PARKED phase. -/
  | addThresholdHeld (r : Rail)
  /-- A host SHED in PH_CMD marks an ACTIVE or PARKED phase for SHED with cause HOST. `withAdd`: the write set ADD as well. -/
  | phShed (w : Who) (p : Phase) (withAdd : Bool)
  /-- A host ADD in PH_CMD unparks a PARKED phase, or starts the re-add probe of a SHED phase after the clock-readiness wait. -/
  | phAdd (w : Who) (p : Phase)
  /-- An UNBLOCK in PH_CMD returns a BLOCKED phase of an off rail to OFF, or sets CMD_DROP. -/
  | phUnblock (w : Who) (p : Phase)
  /-- A re-add probe ends; the phase becomes ACTIVE, or BLOCKED with its verdict applied. -/
  | readdProbeComplete (p : Phase) (obs : ProbeObs)
  /-- The pre-start test ends at 60 + 3N µs; soft-start begins, or failing phases block and the enable fails. -/
  | prestartTestComplete (r : Rail) (obs : List (Phase × ProbeObs))
  /-- Host ASSERT in ISO_CTRL latches this manager's assertion of ISO_N for the group. -/
  | isoAssert (w : Who) (m : Mgr) (g : Group)
  /-- Host RELEASE of a group clears every latch of ISO_N when all its rails are off, and is otherwise dropped with ISO_BUSY. -/
  | isoRelease (w : Who) (g : Group)
  /-- A tile senses ISO_N low and sheds its ACTIVE or PARKED phases of the group with cause ISOLATED. -/
  | isoNSensedLow (t : Tile) (g : Group)
  /-- A PH_TIMING write is accepted, accepted for OFFSET alone, or refused according to the phase state. -/
  | phTimingWrite (w : Who) (p : Phase) (offset : BitVec 16) (tonMin toffMin : Byte)
  /-- The engine instruction that does nothing for one slot. -/
  | nop (t : Tile) (e : Slot)
  /-- The engine instruction that sets d = a + b, wrapping, and sets the flags. -/
  | add (t : Tile) (e : Slot) (d a b : Fin 16)
  /-- The engine instruction that sets d = a − b, wrapping, and sets the flags. -/
  | sub (t : Tile) (e : Slot) (d a b : Fin 16)
  /-- The engine instruction that sets d to the 32-bit saturated sum of a and b. -/
  | adds (t : Tile) (e : Slot) (d a b : Fin 16)
  /-- The engine instruction that sets d to the 32-bit saturated difference of a and b. -/
  | subs (t : Tile) (e : Slot) (d a b : Fin 16)
  /-- The engine instruction that sets d to the bitwise AND of a and b. -/
  | andOp (t : Tile) (e : Slot) (d a b : Fin 16)
  /-- The engine instruction that sets d to the bitwise OR of a and b. -/
  | orOp (t : Tile) (e : Slot) (d a b : Fin 16)
  /-- The engine instruction that sets d to the bitwise XOR of a and b. -/
  | xor (t : Tile) (e : Slot) (d a b : Fin 16)
  /-- The engine instruction that sets d to the signed minimum of a and b. -/
  | minOp (t : Tile) (e : Slot) (d a b : Fin 16)
  /-- The engine instruction that sets d to the signed maximum of a and b. -/
  | maxOp (t : Tile) (e : Slot) (d a b : Fin 16)
  /-- The engine instruction that shifts a left by b[4:0] into d. -/
  | shl (t : Tile) (e : Slot) (d a b : Fin 16)
  /-- The engine instruction that shifts a logically right by b[4:0] into d. -/
  | shr (t : Tile) (e : Slot) (d a b : Fin 16)
  /-- The engine instruction that shifts a arithmetically right by b[4:0] into d. -/
  | sra (t : Tile) (e : Slot) (d a b : Fin 16)
  /-- The engine instruction that sets d = sat32((a × b) >> sh). -/
  | muls (t : Tile) (e : Slot) (d a b : Fin 16) (sh : Fin 32)
  /-- The engine instruction that clamps d to [a, b] and sets C when the value changed. -/
  | clamp (t : Tile) (e : Slot) (d a b : Fin 16)
  /-- The engine instruction that sets the flags of a − b and writes no register. -/
  | cmp (t : Tile) (e : Slot) (a b : Fin 16)
  /-- The engine instruction that sets d = a + IMM18. -/
  | addi (t : Tile) (e : Slot) (d a : Fin 16) (imm : BitVec 18)
  /-- The engine instruction that shifts a left by an immediate count into d. -/
  | shli (t : Tile) (e : Slot) (d a : Fin 16) (imm : BitVec 5)
  /-- The engine instruction that shifts a arithmetically right by an immediate count into d. -/
  | srai (t : Tile) (e : Slot) (d a : Fin 16) (imm : BitVec 5)
  /-- The engine instruction that loads the sign-extended IMM16 into d. -/
  | lil (t : Tile) (e : Slot) (d : Fin 16) (imm : BitVec 16)
  /-- The engine instruction that loads IMM16 into d[31:16] and keeps d[15:0]. -/
  | lih (t : Tile) (e : Slot) (d : Fin 16) (imm : BitVec 16)
  /-- The engine instruction that sets the flags of a − IMM18. -/
  | cmpi (t : Tile) (e : Slot) (a : Fin 16) (imm : BitVec 18)
  /-- The engine instruction that loads a data-memory word into d. -/
  | ld (t : Tile) (e : Slot) (d a : Fin 16) (off : BitVec 9)
  /-- The engine instruction that stores d into a data-memory word. -/
  | st (t : Tile) (e : Slot) (d a : Fin 16) (off : BitVec 9)
  /-- The engine instruction that adds a × b[15:0] to an accumulator with 48-bit saturation. -/
  | mac (t : Tile) (e : Slot) (a b : Fin 16) (acc : Fin 2)
  /-- The engine instruction that subtracts a × b[15:0] from an accumulator with 48-bit saturation. -/
  | msu (t : Tile) (e : Slot) (a b : Fin 16) (acc : Fin 2)
  /-- The engine instruction that loads a sign-extended, shifted register into an accumulator. -/
  | ald (t : Tile) (e : Slot) (a : Fin 16) (sh : Fin 17) (acc : Fin 2)
  /-- The engine instruction that rounds, shifts and saturates an accumulator into d. -/
  | ard (t : Tile) (e : Slot) (d : Fin 16) (sh : Fin 32) (acc : Fin 2)
  /-- The engine instruction that reads one input port from the snapshot. -/
  | inPort (t : Tile) (e : Slot) (d : Fin 16) (port : Fin 14)
  /-- The engine instruction that stages a value for an output port. -/
  | outPort (t : Tile) (e : Slot) (port : Fin 4) (a : Fin 16)
  /-- The engine instruction that reads the event word into d. -/
  | evr (t : Tile) (e : Slot) (d : Fin 16)
  /-- The engine instruction that clears the event bits selected by MASK. -/
  | eclr (t : Tile) (e : Slot) (mask : BitVec 16)
  /-- The engine instruction that branches to base + j for the highest-priority enabled pending event j. -/
  | bev (t : Tile) (e : Slot) (target : BitVec 10)
  /-- The engine instruction that branches when its condition holds. -/
  | br (t : Tile) (e : Slot) (cond : Fin 13) (target : BitVec 10)
  /-- The engine instruction that saves the return address in d and jumps. -/
  | jl (t : Tile) (e : Slot) (d : Fin 16) (target : BitVec 10)
  /-- The engine instruction that jumps to a[9:0]. -/
  | jr (t : Tile) (e : Slot) (a : Fin 16)
  /-- The engine instruction that ends the tick's work and waits for the next boundary. -/
  | waitt (t : Tile) (e : Slot)
  /-- A reserved encoding is fetched; the engine halts without executing it and sets ILLEGAL, HALTED and HALT_PC. -/
  | illegalInstruction (t : Tile) (e : Slot) (w : Word)
  /-- The third consecutive overrun sheds the engine's phase with cause OVERRUN. -/
  | overrunShed (t : Tile) (e : Slot)
  /-- A manager write to an engine program bank is applied to an inactive or stopped bank, or refused with PM_WR_REJ. -/
  | programBankWrite (t : Tile) (e : Slot) (bank : Bool) (idx : BitVec 10) (v : Word)
  /-- The CRC-32 of the inactive bank has been recomputed, and CRC_VALID returns to 1. -/
  | bankCrcDone (t : Tile) (e : Slot)
  /-- A manager write to engine data memory takes effect at the first tick boundary after it arrives. -/
  | dataMemoryWrite (t : Tile) (e : Slot) (idx : BitVec 9) (v : Word)
  /-- The background scrubber reads and repairs a word of an engine memory. -/
  | engineScrub (t : Tile) (e : Slot) (off : BitVec 12)
  /-- SWAP_ARM arms a bank swap at RAIL_SWAP_AT, or is refused with SWAP_REJ. -/
  | swapArm (w : Who) (t : Tile) (r : Rail)
  /-- At the boundary that begins tick RAIL_SWAP_AT, waiting and halted engines of the rail change bank and restart at word 0. -/
  | bankSwap (t : Tile) (r : Rail)
  /-- An engine fault is detected; its phase passes to the spare when allowed, or is shed with ENGINE_LOST. `ckptOk`: the checkpoint passes its parity. -/
  | engineFault (t : Tile) (e : Slot) (kind : EngFault) (ckptOk : Bool)
  /-- The spare's first outputs commit, and SPARE_HOLD ends in ACTIVE with ON_SPARE set. -/
  | spareTakeoverDone (t : Tile)
  /-- FAIL_INJ injects an engine fault of kind INJECTED. -/
  | failInj (w : Who) (p : Phase) (ckptOk : Bool)
  /-- HANDBACK returns a phase from the spare to its own engine, or is refused with HANDBACK_REJ. -/
  | handback (w : Who) (t : Tile)
  /-- Every 100 µs the standing-by spare's self-exercise signature is compared, and a mismatch takes the spare out of service. -/
  | spareSelfCheck (t : Tile) (pass : Bool)
  /-- A RAIL_LAW write of LAW_ID starts copying a Ziluoz law into the rail's engines, or is refused with LAW_REJ. -/
  | lawSelect (w : Who) (r : Rail) (law : Byte)
  /-- The law copy completes, LOADED_ID shows the law, and a waiting enable continues. -/
  | lawCopyDone (r : Rail)
  /-- A VSET_TGT write to a running rail starts a set-point step or ramp after the clock-readiness wait. `stopSameTick`: SEQ_STOP takes effect on the same tick. -/
  | setpointCommand (w : Who) (r : Rail) (target : BitVec 16) (stopSameTick : Bool)
  /-- The slope detector fires and opens or extends a slope window. `fall`: the falling rate at the sense pins, averaged over 2 ns, 1/8 mV/ns. -/
  | slopeFire (t : Tile) (r : Rail) (fall : BitVec 8)
  /-- The slope window closes SLOPE_WIN × 10 ns after the last firing. -/
  | slopeWindowEnd (t : Tile) (r : Rail)
  /-- An armed window meets its MODE condition; the trip latches and the rail's phases fire high. `v`: the sense voltage at the pins as the level detector sees it, 1/4 mV; `onBoundary`: the trip falls on the boundary that began the present tick. -/
  | cinchTrip (t : Tile) (r : Rail) (v : BitVec 16) (onBoundary : Bool)
  /-- The release boundary B_R is reached; the fire ends and each phase returns to its committed duty. `v`: the sense voltage at the pins as the level detector sees it, 1/4 mV. -/
  | cinchRelease (t : Tile) (r : Rail) (v : BitVec 16)
  /-- At B_R + 40 ns CPRESET is taken and CINCH_REL latches in every waiting engine of the rail. -/
  | cinchHandoverEnd (t : Tile) (r : Rail)
  /-- At B_R + 500 ns the window reference unfreezes, and the window may re-arm. -/
  | cinchHoldoffEnd (t : Tile) (r : Rail)
  /-- A second consecutive mismatch between the Cinch wire and its slot flag sets CWIRE_FLT. -/
  | cinchWireMismatch (t : Tile) (upper : Bool) (slot : Fin 8)
  /-- A complete Forecast word is received and then discarded, refused, or accepted as a new pending forecast or a cancel. `stopOk`: the stop position read 1; `lostToA`: an FCA word for the same rail is accepted on the same boundary. -/
  | forecastWord (t : Tile) (portB : Bool) (word : Word) (stopOk : Bool) (lostToA : Bool)
  /-- No FCx clock edge arrives for 100 ns; NOCLK_x sets and words in progress are discarded. -/
  | forecastClockLoss (t : Tile) (portB : Bool)
  /-- The boundary that begins due tick D is reached, and FC_DUE becomes pending. -/
  | forecastDue (t : Tile) (r : Rail)
  /-- At tick S the home tile ranks its ACTIVE phases and schedules the staggered forecast pulses. -/
  | forecastFireStart (t : Tile) (r : Rail)
  /-- A phase's scheduled forecast pulse starts high. -/
  | forecastPulseStart (p : Phase)
  /-- A forecast pulse reaches Tp, and the phase returns to its committed duty. -/
  | forecastPulseEnd (p : Phase)
  /-- At D + FC_JUDGE the pending forecast is judged met or expired. -/
  | forecastJudge (t : Tile) (r : Rail)
  /-- The SKEW_CAL command starts skew calibration of every channel whose rails are off. -/
  | skewCal (w : Who) (t : Tile)
  /-- Skew calibration of a channel completes, and its SKEW trim is set. The trims that make the mean difference smallest, for slice B and for the spare in its place. -/
  | skewCalDone (t : Tile) (ch : Fin 12) (trim spareTrim : BitVec 6)
  /-- The spare moves to the next rotation position and converts alongside that slice. -/
  | rotationPositionStart (t : Tile)
  /-- The 16-pair comparison between the spare and a slice ends in handover, in passing the position over, or in retiring the slice. -/
  | rotationCompare (t : Tile)
  /-- A slice finishes calibrating against the internal references, and its new trims are checked against their limits. `p`: the slice's position; `ofs`, `gain`: its new trims, in codes and in 1/32 768. -/
  | sliceCalibrationDone (t : Tile) (p : Fin 32) (ofs gain : Int)
  /-- The spare finishes its self-calibration, ROT_COUNT increments, or SPARE_OUT sets. `trims`: the spare's new offset and gain trims for the positions 0 to 31, in codes and in 1/32 768. -/
  | spareSelfCalDone (t : Tile) (trims : List (Int × Int))
  /-- The test-voltage converter takes one measure-mode conversion of a group voltage, an STG_TF line or a reference. `level`: the voltage at the input that the frame reads next. -/
  | tvcConversion (t : Tile) (level : Level)
  /-- START in DIAG_START begins a front-end diagnosis, or is refused with DIAG_REJ. -/
  | diagStart (w : Who) (t : Tile)
  /-- A diagnosis ends; its verdict is written and its effects are applied. `beyond`, `within`: the comparator under test was active at the level just beyond its threshold, and at the one just within. -/
  | diagComplete (t : Tile) (beyond within : Bool)
  /-- A manager housekeeping converter converts one HKV or HKI input. `level`: the voltage at the input that is next in turn. -/
  | hkConversion (m : Mgr) (level : Level)
  /-- Manager and tile VIN readings have differed by more than 2 % for 100 µs, and VIN_DISAGREE latches. -/
  | vinDisagreeConfirm (g : Group)
  /-- A telemetry window ends, and V_AVG, I_AVG and P_AVG update. -/
  | tlmWindowEnd (t : Tile) (r : Rail)
  /-- PK_CLR restarts V_MIN and V_MAX at the next tick boundary. -/
  | pkClr (w : Who) (t : Tile) (r : Rail)
  /-- A low-word write of an energy accumulator is staged for the writing initiator. -/
  | accLowWrite (w : Who) (acc : EnergyAcc) (v : Word)
  /-- A high-word write commits both staged words of the accumulator, or changes nothing when no low word is staged. `incSame`: an increment falls in the same cycle. -/
  | accHighWrite (w : Who) (acc : EnergyAcc) (v : Word) (incSame : Bool)
  /-- Every 1 µs each tile estimates the input power of its phases in each input group. -/
  | powerEstimate (t : Tile)
  /-- Every 10 µs a tile sends the mean of its last ten estimates to both managers. -/
  | powerPartialSend (t : Tile)
  /-- A tile partial becomes older than 100 µs, counts as 0, and EST_STALE sets. -/
  | powerPartialStale (m : Mgr) (t : Tile) (g : Group)
  /-- The ON command of RAIL_SUP_CMD, or a sequence stage, enables a regulated or watched rail. `withOff`: OFF arrives for the rail in the same write or on the same tick. -/
  | railOn (w : Who) (r : Rail) (withOff : Bool)
  /-- The OFF command of RAIL_SUP_CMD starts a single-rail turn-off. `withOn`: ON arrives for the rail in the same write or on the same tick. -/
  | railOff (w : Who) (r : Rail) (withOn : Bool)
  /-- The PG condition has held for PG_ON_DLY, and the rail's PG sets. -/
  | pgAssert (r : Rail)
  /-- The PG condition has failed for PG_OFF_DLY; PG clears and the loss is counted. -/
  | pgLoss (r : Rail)
  /-- An enable's PG wait runs out, and the enable ends with PG_TIMEOUT. -/
  | enablePgTimeout (r : Rail)
  /-- RUN in SEQ_CTRL starts a turn-on or shut-down sequence, or is refused as SEQ_BUSY. -/
  | seqRun (w : Who) (q : Fin 8)
  /-- A stage's DELAY expires, and its rails are enabled or stopped together. `tile`: a tile in Kerb mode by itself whose own stage starts (R171); none for the sequencer. -/
  | seqStageStart (tile : Option Tile)
  /-- A turn-on stage's TMO expires before every rail is PG, and ON_FAIL is applied. -/
  | seqStageTimeout
  /-- A stopping rail has stayed below its off threshold for 8 ticks; discharge stops and its phases go OFF. -/
  | railBelowOffThreshold (r : Rail)
  /-- A shut-down's first timeout steps discharge to the high level and sets TMO2. -/
  | shutdownFirstTimeout (r : Rail)
  /-- A shut-down's second timeout forces the phases OFF, marks the rail STUCK and takes a snapshot. -/
  | shutdownSecondTimeout (r : Rail)
  /-- A snapshot trigger, including SNAP_CTRL.TAKE, names tick T, or joins a snapshot in progress. -/
  | snapTake (w : Who)
  /-- At the boundary that begins tick T every die latches its readings and sends its part to both managers. The pin levels of the snapshot, and the bias and VIO voltages in mV. -/
  | snapshotLatch (isoPins : Byte) (fltLow : Bool) (vbiasA vbiasB vio : BitVec 32)
  /-- The record completes, or 200 µs pass, and it is written to the ring with SOURCE_OK. Bit per die, as SOURCE_OK has them: the part was delivered within 200 µs of T. -/
  | snapshotComplete (delivered : BitVec 7)
  /-- The master starts a 10 µs lane cycle with a beat frame and a command, or a granted reply field. `readBackBad`: the master read its own last beat frame back with a failed CRC. -/
  | laneCycleStart (readBackBad : Bool)
  /-- A worker receives a valid beat frame and adjusts its beat under the forward, hold or regression rule. -/
  | laneBeatFrame (beat : BitVec 40) (flags : BitVec 4) (crc : Byte)
  /-- A lane HELLO command clears the worker's duplicate memory, and the worker replies with its identity. -/
  | hello (f : LaneHead)
  /-- A lane STATUS command is answered with the worker's state and fault data. -/
  | laneStatus (f : LaneHead)
  /-- A lane SEQ_RUN command schedules a sequence run after delay D. -/
  | seqRunLane (f : LaneHead) (q : Byte) (d : BitVec 24)
  /-- A lane RAIL_ON command schedules a rail enable after delay D. -/
  | laneRailOn (f : LaneHead) (r : Byte) (d : BitVec 24)
  /-- A lane RAIL_OFF command schedules a rail turn-off after delay D. -/
  | laneRailOff (f : LaneHead) (r : Byte) (d : BitVec 24)
  /-- A lane SNAP command schedules a snapshot with cause LANE after delay D. -/
  | laneSnap (f : LaneHead) (d : BitVec 24)
  /-- A lane KERB command enters Kerb mode at once. -/
  | laneKerb (f : LaneHead)
  /-- A lane FLT_RELEASE command releases this package's FLT_N assertion. -/
  | laneFltRelease (f : LaneHead)
  /-- A lane SEQ_QUERY command is answered with the sequence's last RESULT and stage. -/
  | seqQuery (f : LaneHead) (q : Byte)
  /-- A lane command with a reserved opcode or argument is answered BAD_OPCODE. `args`: the first ARGS byte lowest. -/
  | laneBadOpcode (f : LaneHead) (op : Byte) (args : BitVec 56)
  /-- The master receives a valid reply in a granted field and completes the command. `data`: the first DATA byte lowest. -/
  | laneReply (src : BitVec 4) (seq status : Byte) (data : BitVec 56) (crc : BitVec 16)
  /-- No valid reply arrives in the granted field; the master resends, or after RETRY resends sets WORKER_LOST. -/
  | laneReplyMissing
  /-- A worker's beat reaches the deadline of an accepted command, which then executes once. -/
  | laneDeadline
  /-- A worker receives no valid beat frame for 3 cycles, sets LANE_LOST and runs on its own beat. -/
  | laneLost
  /-- A master's 30 µs listening period ends, and it begins sending beat frames unless it heard a conflict. -/
  | masterListenEnd
  /-- GO in SQL_TX sends a host-built lane command after the clock-readiness wait. -/
  | sqlTxGo (w : Who) (m : Mgr)
  /-- FLT_N has been low for 1 µs; FLT_SEEN sets, a snapshot is taken and ACTION is applied. -/
  | fltNFault
  /-- RELEASE in FLT_CFG releases this package's FLT_N assertion. -/
  | fltRelease (w : Who)
  /-- Limiting has acted in OC_CYC consecutive cycles, and the phase is shed with cause PHASE_OC. -/
  | phaseOcShed (p : Phase)
  /-- One channel of a mirrored rail alone has held a voltage condition for 100 ticks, and CH_DISAGREE sets. -/
  | chDisagree (r : Rail)
  /-- Overvoltage is confirmed after OV_DLY ticks, and OV_ACT is applied. -/
  | railOvConfirm (r : Rail)
  /-- Undervoltage is confirmed after UV_DLY µs, and UV_ACT is applied. -/
  | railUvConfirm (r : Rail)
  /-- Rail overcurrent is confirmed after OC_DLY µs, and OC_ACT is applied. -/
  | railOcConfirm (r : Rail)
  /-- 1 µs after a home channel is lost, every phase of the rail goes to OFF. -/
  | senseLostOff (r : Rail)
  /-- A die reads its sensors, and the warning and throttle levels update. `a`, `b`: the temperatures of the die's two sensors, 1/16 °C. -/
  | thermalReading (d : Die) (a b : Int)
  /-- The deglitched shutdown comparator trips, and the tile takes its phases to mid, sheds them and drops its rails and halves. -/
  | tileThermalShutdown (t : Tile)
  /-- The tile has cooled below 135 °C for 10 readings and 100 ms have passed; it restarts and its rails are re-enabled. -/
  | tileThermalRestart (t : Tile)
  /-- TSD_CLR clears a latched shutdown as a restart, or is refused with PROT_REJ. -/
  | tsdClr (w : Who) (u : Unit5)
  /-- A manager's shutdown comparator trips, and the manager holds itself in manager reset. -/
  | mgrThermalShutdown (m : Mgr)
  /-- HPD's shutdown comparator trips; the buck and charger stop and the pair closes with cause HPD_TSD. -/
  | hpdThermalShutdown
  /-- HPD restarts after its shutdown and hands the load back to the buck. -/
  | hpdThermalRestart
  /-- Throttle held for THR_LIM seconds makes the active manager enter Kerb mode. -/
  | throttleKerb
  /-- A die's two sensors have differed by more than 10 °C for 1 ms, and SENSOR_DISAGREE sets. -/
  | sensorDisagree (d : Die)
  /-- VAUX has stayed within 17–34 V for 1 ms and becomes valid. -/
  | vauxValid
  /-- VAUX has stayed out of range for 2 µs, becomes invalid, and stops the buck and charger. `vaux`: the level at which VAUX has stayed for 2 µs, mV. -/
  | vauxInvalid (vaux : BitVec 16)
  /-- Every 10 µs HPD shares the input limit between the buck and the charger. -/
  | iinShare (meas : HpdMeas)
  /-- The SEARCH command starts an input limit search. -/
  | iinSearch (w : Who)
  /-- 60 s after the previous search ended, a new input limit search starts. -/
  | iinSearchStart
  /-- A 5 ms dwell ends, and the search raises, pauses or ends with CEILING. -/
  | iinSearchStep
  /-- A paused search reaches the limit, or ends with DEMAND_LOW after 1 s. -/
  | iinSearchPauseEnd
  /-- VAUX has been below VAUX_SAG for 100 µs, and the input limit is cut. -/
  | sagWatch
  /-- VBB has been below VBB_SET − TRIP_OFS for 1 µs, and the armed pair closes. `vbb`: the level below which VBB has stayed for 1 µs, mV. -/
  | vbbTrip (vbb : BitVec 16)
  /-- |VBAT − VBB| falls below 0.3 V, and the discharge switch becomes fully enhanced. -/
  | bfetLinearEnd
  /-- Battery current reverses in CARRY, and the charge-block switch turns off. -/
  | chargeBlockOff
  /-- The discharge current has been held at IBAT_DLIM for DSG_OC_T; the pair opens and DSG_OC latches. -/
  | dsgOc
  /-- VBAT has been below 6 V at the current limit for 100 µs; the pair opens and DSG_SHORT latches. -/
  | dsgShort
  /-- More than 0.5 V across the closed pair at over 50 A for 1 ms sets FET_DEGRADED. -/
  | fetDegraded
  /-- VAUX has been valid for RET_DLY, and the pair enters HANDBACK. -/
  | handbackStart
  /-- The discharge limit steps down by IBAT_DLIM per 200 µs, reaching ARMED at 0 A. -/
  | handbackRampStep
  /-- MODE = OPEN opens the pair when STATE is ARMED, or is refused with HOLDUP_BUSY. -/
  | bfetOpen (w : Who)
  /-- MODE = ARMED arms the pair at once, and closes it when a trigger holds. -/
  | bfetArm (w : Who)
  /-- Clearing the last latched pair fault returns the pair to ARMED. The bits written back as 1. -/
  | bfetFaultClear (w : Who) (oc short : Bool)
  /-- Writing CHG_EN starts the charger at DETECT, or stops it to OFF. -/
  | chgEnable (w : Who) (en : Bool)
  /-- VBAT has been at or above VPRE for 1 s, and TRICKLE moves to PRECHARGE. -/
  | chgVpreReached
  /-- VBAT has been at or above VCC for 1 s, and PRECHARGE moves to CC. -/
  | chgVccReached
  /-- VBAT reaches VCV, and CC moves to CV. -/
  | chgVcvReached
  /-- The current has been below ITERM for 30 s in CV, and the charger enters DONE. -/
  | chgTerminate
  /-- VBAT has been below VRCH for 10 s in DONE, and the charger returns to DETECT. -/
  | chgRecharge
  /-- HPD converts BTS, and the battery temperature window updates. `mv`: the voltage on BTS, mV; `temp`: the battery temperature that it stands for, 1/16 °C. -/
  | btsConversion (mv : BitVec 11) (temp : Int)
  /-- BTS has been out of range for 100 ms, and BTS_FLT latches. -/
  | btsFault
  /-- A charge safety timer expires, and its TMO fault latches. -/
  | chgTimerExpire
  /-- The battery has been above VCV + 0.2 V for 1 ms, and BAT_OV latches. -/
  | batOv
  /-- A presence test starts, at DETECT or on its 10 s repeat, holding the charger off and sinking 20 mA. -/
  | presenceTestStart
  /-- The 20 ms presence test ends, and BAT_PRESENT and NO_BAT update. `packId`: what GET_ID read, where a battery was found. -/
  | presenceTestEnd (packId : Option (BitVec 64))
  /-- VBAT has been below 2.0 V in TRICKLE for 2 s, and BAT_SHORT latches. -/
  | batShort
  /-- The charge current has exceeded its target by more than 5 A for 1 ms, and CHG_OC latches. -/
  | chgOc
  /-- Clearing the last CHG_FAULT bit starts DETECT when CHG_EN is set. -/
  | chgFaultClear (w : Who) (mask : BitVec 9)
  /-- A buck phase held at its limit for 8 cycles is stopped, and the buck output limit falls to 225 A. -/
  | buckPhaseStop (k : Fin 6)
  /-- A 1 ms gauge frame produces a sample and updates the count, SOC, vec and KERB_LOW. `ush`: the mean voltage across the battery shunt over the frame, nV, positive charging; `vbat`: mV. -/
  | gaugeFrame (ush : Int) (vbat : BitVec 16)
  /-- The 500th consecutive frame with vec below V_EMPTY sets Q to 0 and ends any learning run. -/
  | emptyAnchor
  /-- 60 000 samples below 50 mA put the gauge into hibernation, and a store follows. -/
  | hibernate
  /-- Once per second in hibernation the gauge integrates for 10 ms and adds to Q. `ush`: the mean voltage across the battery shunt over 10 ms, nV. -/
  | hibConversion (ush : Int)
  /-- CARRY, the shunt comparator or a register access wakes the gauge from hibernation. -/
  | gaugeWake
  /-- The active manager stores the gauge state into the next gauge cell of both arrays. -/
  | gaugeStore
  /-- The STORE command in GG_CMD stores the gauge state now. -/
  | ggStore (w : Who)
  /-- The INVALIDATE command discards the charge state as a same-pack swap without authentication. -/
  | invalidate (w : Who)
  /-- AUTH_START begins a new pack authentication series. -/
  | authStart (w : Who)
  /-- The pack's GET_ID reply is taken, and PACK_ID is read. `reply`: the bytes of the pack's reply; `nonce`: what the safety core draws for the challenge. -/
  | getId (reply : List Byte) (nonce : BitVec 128)
  /-- The pack's CHALLENGE reply is taken, and the safety core's comparison gives the verdict. `reply`: the bytes of the pack's reply. -/
  | challenge (reply : List Byte)
  /-- A pack reply is missing or bad; LINE_ERR sets and the verdict is NO_REPLY. -/
  | packReplyTimeout
  /-- The 10 s or hourly retry timer of a failed authentication starts a new attempt. -/
  | authRetry
  /-- VDD_MET reaches 3.0 V; MET senses its fuses, restores its tallies and takes a power-up record. `serial` is the serial number of the fuses; `serialOk`, `keyOk` and bit n of `bankOk` say whether the field passes its CRC check at this sensing (a blank field's bit is not used). -/
  | metPowerUp (serial : BitVec 64) (serialOk keyOk : Bool) (bankOk : BitVec 4)
  /-- A 250 µs filtered sample is scaled and its energy added to import or export. The filter outputs of current and voltage, signed, 2^-23 of the modulator's full scale; `flat`: the stream of current (bit 0), of voltage (bit 1), had no transition in the sample's 250 µs. -/
  | metSample (xi xv : BitVec 25) (flat : BitVec 2)
  /-- At a half-sample grid instant the pulse accumulator advances, and a pulse may start. -/
  | metHalfSample
  /-- A MET_PULSE pulse ends after its length. -/
  | metPulseEnd
  /-- A modulator stream stuck for 1 ms stops counting and sets MOD_FAULT. Stream 0 is MET_DI, 1 is MET_DV. -/
  | metStreamStuck (stream : Fin 2)
  /-- Both streams have been free for 10 ms, and counting resumes. -/
  | metStreamResume
  /-- The 1 ms crystal check switches MET to or from its internal oscillator. The cycles of the 25 MHz crystal in 1 ms of the internal oscillator. -/
  | metClockCheck (count : BitVec 16)
  /-- OPSEC reaches a multiple of 900, and MET takes, signs and sends an interval record. `completed` is false when MET is interrupted before the slot is DONE. -/
  | metIntervalRecord (completed : Bool)
  /-- MET's 100 ms watchdog expires and resets its processor only. -/
  | metWatchdog
  /-- Every 100 ms MET writes the next tally cell. `completed` is false when the store is interrupted. -/
  | metTallyStore (completed : Bool)
  /-- VDD_MET falls below 2.9 V; MET stops counting and writes a supply-fall store. `completed` is false when the supply-fall store is cut off. -/
  | metSupplyFall (completed : Bool)
  /-- Every 1 ms MET sends a LIVE frame on both lanes. -/
  | metLiveSend
  /-- MET sends its periodic repeats of the latest record, ID and HEALTH frames. Which of the repeats is due. -/
  | metPeriodicSend (rep : MetRepeat)
  /-- MET answers the SEND_ID request code with an ID frame. -/
  | sendId (m : Mgr)
  /-- MET answers the SEND_HEALTH request code with a HEALTH frame. -/
  | sendHealth (m : Mgr)
  /-- MET sends its latest record with tag 1 and sets the asking manager's replay pointer to it. -/
  | sendLast (m : Mgr)
  /-- MET moves the asking manager's replay pointer back one record and sends that record. -/
  | replayPrev (m : Mgr)
  /-- STROBE in MET_REQ presents CODE on the request wires, or is refused with REQ_REJ while BUSY. -/
  | metReqStrobe (w : Who) (m : Mgr) (code : BitVec 3)
  /-- No answer arrives within 10 ms; BUSY clears and REQ_TMO sets. -/
  | metReqTimeout (m : Mgr)
  /-- A manager takes a MET frame into its read-out buffer and handles new records and replay answers. The bytes of the next frame of the lane as they arrive. -/
  | metFrameReceive (m : Mgr) (arrived : List Byte)
  /-- No valid MET frame arrives for 10 ms; LINK_OK falls and LINK_LOST_EVT sets. -/
  | metLinkLost (m : Mgr)
  /-- A calibration bank write blows the next audit step and writes the bank, or is refused. `completed` is false when the write is interrupted before its CRC. -/
  | metCalBankWrite (n : Fin 4) (bank : MetBank) (completed : Bool)
  /-- Setting the MET lock generates the key pair and disables the calibration port for life. The private key that MET's true random source gives. -/
  | metLock (key : BitVec 256)
  /-- A tile losing its half sets HALF_DOWN in the slot and takes its phases to mid. `cause`: why the tile loses its half, as CAUSE encodes it. -/
  | halfLossAnnounce (t : Tile) (r : Rail) (cause : Fin 16)
  /-- The surviving tile declares the other half lost and reconfigures roles, ISUM, limits, Cinch and the load rule. `t` survives. -/
  | halfLossDeclare (t : Tile) (r : Rail)
  /-- 25 µs after a loss, the Cinch window returns to its normal reference and MODE. -/
  | halfLossHoldEnd (t : Tile) (r : Rail)
  /-- The active manager sees SPLIT and commands the partner half to withdraw with cause YIELD. -/
  | splitYield (r : Rail)
  /-- REJOIN starts restoring a lost half, or is refused with REJOIN_REJ. -/
  | rejoin (w : Who) (t : Tile) (r : Rail)
  /-- At the named tick the home lead becomes acting lead again, and the rejoin completes. -/
  | rejoinRoleSwap (r : Rail)
  /-- Every 20 µs a manager sends a heartbeat over the Rein link. -/
  | heartbeatSend (m : Mgr)
  /-- A heartbeat arrives, and the shadow aligns its beat and checks the health word. The manager that receives; `ok`: the frame is valid on arrival. -/
  | heartbeatReceive (m : Mgr) (ok : Bool)
  /-- A 20 µs interval passes without a heartbeat, and a third miss triggers a takeover. The manager that has waited. -/
  | heartbeatMiss (m : Mgr)
  /-- A manager's deadman is not re-armed for 30 µs, and ROLE is released. -/
  | roleDeadmanRelease (m : Mgr)
  /-- The shadow claims ROLE, increments the epoch and resumes management from the mirrored state. The manager that claims, and that it senses ROLE high. -/
  | takeover (m : Mgr) (high : Bool)
  /-- HANDOVER on the active manager hands the role to a ready shadow. -/
  | handover (w : Who) (m : Mgr)
  /-- A write to the active mirror window is copied to the shadow. The written byte's offset in the mirror window. -/
  | mirrorCopy (addr : BitVec 14)
  /-- Every 1 ms a full sweep is sent, and the shadow fixes words that differ. -/
  | mirrorSweep
  /-- A returning manager has passed self-test and mirrored for 10 ms without a difference, and SHADOW_READY sets. -/
  | shadowReady (m : Mgr)
  /-- A tile hears no beat frame from either manager for 30 µs and sets MGR_SILENT. -/
  | mgrSilent (t : Tile)
  /-- The silence lasts KERB_HOLD, and the tile enters Kerb mode by itself. -/
  | autoKerb (t : Tile)
  /-- An Awl probe starts on a unit that is out of service after an error. Unit kind by the row of R297's table from 1, its tile, its index. -/
  | awlProbeStart (kind : Fin 8) (tile : Tile) (unit : Byte)
  /-- A probe ends TRANSIENT or LASTING, and PROBE_OK or the unit's service state follows. `pass`: the probe passed. -/
  | awlVerdict (kind : Fin 8) (tile : Tile) (unit : Byte) (pass : Bool)
  /-- A probe has waited 1 s for its unit and is dropped with verdict NOT_RUN. -/
  | awlNotRun (kind : Fin 8) (tile : Tile) (unit : Byte)
  /-- START in LBIST_CTRL begins a logic self-test of a target die, or is refused. -/
  | lbistStart (w : Who) (m : Mgr) (target : Fin 16)
  /-- A logic self-test ends PASS or FAIL, and its die leaves it by reset. The signature that the die's responses compress into. -/
  | lbistDone (sig : DWord)
  /-- Setting ARM in CAP_CTRL starts capture from segment 0. -/
  | captureArm (w : Who) (t : Tile)
  /-- TRIG triggers capture now. -/
  | capTrig (w : Who) (t : Tile)
  /-- POST segments after a trigger have been recorded; capture stops and STOPPED sets. -/
  | captureStop (t : Tile)
  /-- ENTER in KERB_CTRL enters Kerb mode with cause HOST. -/
  | kerbEnter (w : Who)
  /-- KERB_LOW has held for 100 ms while the pair carries VBB, and the device enters Kerb mode. -/
  | kerbSocEntry
  /-- EXIT in KERB_CTRL leaves Kerb mode when no cause persists, or sets KERB_REJ. -/
  | kerbExit (w : Who)
  /-- A die's event report reaches the controller, and line changes make occurrences that are recorded, folded or counted. The source whose line changed, and TICK of the change. -/
  | eventReport (src : Fin 640) (tick : Word)
  /-- Every 10 µs a die re-reports every line that is 1. The reporting die: 0 to 3 the tiles, 4 HPD, 5 MGR_A, 6 MGR_B, 7 the software lines. -/
  | eventReportRefresh (die : Fin 8)
  /-- FOLD_WIN after its first arrival a fold closes and becomes takeable. -/
  | foldClose (cls : Fin 16)
  /-- A read of EVC_TAKE takes the oldest takeable routed record into the reader's window. -/
  | evcTake (w : Who) (m : Mgr)
  /-- A safety-core read of EVC_SC_TAKE takes the oldest safety-queue record. -/
  | evcScTake (w : Who) (m : Mgr)
  /-- A read of EVC_HQ_REC_0 takes the oldest host-queue entry into the reader's snapshot. -/
  | evcHqTake (w : Who) (m : Mgr)
  /-- A write of EVC_COMPLETE naming a source completes it, or counts a stray completion. -/
  | evcComplete (w : Who) (m : Mgr) (target : BitVec 16)
  /-- A write of EVC_COMPLETE with FOLD completes every active member of the fold. -/
  | foldComplete (w : Who) (m : Mgr) (seq : BitVec 16)
  /-- The first VBIAS input rises with no manager running, and every die except MET starts from reset. The manager whose VBIAS input rises first. -/
  | powerOnReset (m : Mgr)
  /-- A manager completes fuse sensing and starts the fuse broadcast. `vio33`: VIO is above 2.50 V as the broadcast starts. -/
  | fuseSenseDone (m : Mgr) (vio33 : Bool)
  /-- A tile or HPD receives the broadcast block, judges it and leaves reset on a pass. The blocks of MGR_A and MGR_B as they arrive, the first bit in bit 0; one of a manager that does not send is not used; the receiver's own fuse array passes its CRC; its own fields are programmed. -/
  | broadcastReceive (u : Unit5) (copyA copyB : BitVec 2048) (own fused : Bool)
  /-- The managers decide fuse integrity, then claim ROLE and start LOAD, or enter FUSE_HOLD. -/
  | integrityDecision
  /-- Streaming ends; digest and rules pass and the image commits, or the next slot is tried. -/
  | loadCommit
  /-- The ARM criteria hold with AUTO_RUN set, and the device enters RUN and starts the AUTO sequence. -/
  | armToRun
  /-- The RUN command enters RUN from ARM, or is refused with ARM_NOT_READY. -/
  | devRun (w : Who) (m : Mgr)
  /-- The ARM criteria still fail at ARM_TMO, and ARM_LATE sets. -/
  | armLate
  /-- GO in FUSE_PROG starts a fuse program operation, or it is refused with a reason. The fields of FUSE_PROG as written with GO; `supplyOk`: both VBIAS inputs are at least 3.15 V. -/
  | fuseProgram (w : Who) (m : Mgr) (key : BitVec 16) (field word : BitVec 5) (len : BitVec 4) (supplyOk : Bool)
  /-- A fuse operation finishes on both dies with PROG_RESULT OK or WEAK. The copies that failed verification three times: manager, physical bit of the field, and whether a normal read finds it blown. -/
  | fuseProgramDone (fails : List (Mgr × Nat × Bool))
  /-- A pending fuse programming map is run again on dies not yet done once R344 allows. As for FUSE_PROGRAM. -/
  | fuseProgramResume (supplyOk : Bool)
  /-- ADVANCE in LC_CTRL moves LIFE_STAGE forward one stage, or is refused. As for FUSE_PROGRAM. -/
  | lcAdvance (w : Who) (m : Mgr) (key : BitVec 16) (supplyOk : Bool)
  /-- WIPE in LC_CTRL blows WIPE_STARTED and performs a system reset. -/
  | lcWipe (w : Who) (m : Mgr) (key : BitVec 16)
  /-- RST_N is held low for 1 µs, and the device enters system reset. -/
  | rstNAssert
  /-- RST_N is released, and the start resumes from crystal valid. -/
  | rstNRelease
  /-- SYS_RST with KEY 0x9D62 performs a system reset. -/
  | sysRst (w : Who) (m : Mgr) (key : BitVec 16)
  /-- TILE_RST with its key resets one tile, which is handled as a tile loss. -/
  | tileRst (w : Who) (m : Mgr) (t : Tile) (key : BitVec 16)
  /-- The PARK command enters PARK through the entry steps, or is refused with PARK_BUSY. -/
  | devPark (w : Who) (m : Mgr)
  /-- A wake source leaves PARK through relock, tile restart and rewrite, and returns to ARM. The sources active now, in the bit order of PARK_CFG; the tiles whose verdict on the broadcast passes. -/
  | devWake (src : BitVec 5) (pass : BitVec 4)
  /-- Both VBIAS inputs fall with VBACKUP present, and only the Mews domain runs. -/
  | mewsEnter
  /-- One VBIAS input falls; its manager is lost and the ORed dies stay powered. -/
  | vbiasLoss (m : Mgr)
  /-- VIO has been in range for 100 µs, and the ADDR pins are sampled. 9 × D2 + 3 × D1 + D0 of the ADDR pins. -/
  | vioValid (pins : Fin 27)
  /-- A core executes WAIT and sleeps until an occurrence wakes it. Core 3 is the safety core; `pc` is where it sleeps. -/
  | coreWait (m : Mgr) (core : Fin 4) (pc : Word)
  /-- A store to the scratchpad or mirror window is performed as a row read-modify-write, or refused with a bus error. `secure`: the core is in secure state; the store has 2^size bytes; `rowRead`: what the read of its rows finds. -/
  | scratchpadStore (w : Who) (m : Mgr) (secure : Bool) (addr : Word) (size : Fin 3) (v : Word) (rowRead : Upset)
  /-- An aligned store to the ferroelectric array is written, or refused in a hardware region. The store has 2^size bytes. -/
  | framStore (w : Who) (m : Mgr) (addr : Word) (size : Fin 3) (v : Word)
  /-- The scrubber reads, corrects and rewrites one row of a manager memory. The address of the row, and what its read finds. -/
  | memoryScrub (m : Mgr) (addr : Word) (rowRead : Upset)
  /-- A write of KEY_A to WDT_SERVICE opens a service pair, or is a violation. -/
  | keyA (w : Who) (m : Mgr)
  /-- A write of KEY_B completes watchdog service and starts a new period, or is a violation. -/
  | keyB (w : Who) (m : Mgr)
  /-- A write of any other value to WDT_SERVICE is a WRONG_KEY violation when armed. -/
  | wdtBadKey (w : Who) (m : Mgr)
  /-- 75 % of a watchdog period passes without service, and EWARN sets. -/
  | ewarn
  /-- A watchdog period ends without service, and the watchdog expires. -/
  | wdtTimeout
  /-- The WDT_OUT_N pulse ends, and a system reset follows when RST_EN is set. -/
  | wdtPulseEnd
  /-- The calendar reaches a second boundary; CAL_SEC advances, a pending DST change applies and the alarm is checked. -/
  | rtcSecond
  /-- Setting HALT stops the calendar. -/
  | rtcHalt (w : Who) (m : Mgr)
  /-- Clearing HALT resumes counting, and a backward step is journalled. -/
  | rtcResume (w : Who) (m : Mgr)
  /-- A write of CAL_SEC is accepted while halted, or refused with CFG_REJ. -/
  | rtcSecWrite (w : Who) (m : Mgr) (v : Word)
  /-- DST_ADD schedules summer time for the next second, or sets CMD_REJ. -/
  | dstAdd (w : Who) (m : Mgr)
  /-- DST_SUB schedules the end of summer time for the next second, or sets CMD_REJ. -/
  | dstSub (w : Who) (m : Mgr)
  /-- VBACKUP is sensed below 2.0 V, or the Mews domain powers up, and BKUP_LOW sets. `lost`: the Mews domain powers up and has lost its B fields. -/
  | bkupLow (lost : Bool)
  /-- An enabled tamper input stays active for 3 samples; TAMP_EVT sets and the secure part may be zeroed. The levels of the input's last three samples at 1 024 Hz. -/
  | tamper (input : Fin 2) (samples : BitVec 3)
  /-- A write of TRACE_MARK writes a MARK record to the trace ring. -/
  | traceMark (w : Who) (m : Mgr) (v : Word)
  /-- The PMBus PAGE command selects a rail page or the device page. `rd`: the host reads; else `bytes` are those after the command byte, a byte count first in a block, the PEC last where one is sent. -/
  | page (rd : Bool) (bytes : List Byte)
  /-- The PMBus OPERATION command turns the page's rail on or off, or reads its state. As for PAGE. -/
  | operation (rd : Bool) (bytes : List Byte)
  /-- The PMBus ON_OFF_CONFIG command returns 0x18. -/
  | onOffConfig
  /-- The PMBus CLEAR_FAULTS command clears the page's rail event bits and STATUS_CML. As for PAGE. -/
  | clearFaults (bytes : List Byte)
  /-- The PMBus WRITE_PROTECT command reads or sets HB_CFG.WP. As for PAGE. -/
  | writeProtect (rd : Bool) (bytes : List Byte)
  /-- The PMBus CAPABILITY command returns 0xD0. -/
  | capability
  /-- The PMBus VOUT_MODE command returns the exponent for DIVIDER. -/
  | voutMode
  /-- The PMBus VOUT_COMMAND command reads or writes VSET_TGT. As for PAGE. -/
  | voutCommand (rd : Bool) (bytes : List Byte)
  /-- The PMBus VOUT_MAX command returns the highest VSET_TGT allowed. -/
  | voutMax
  /-- The PMBus VOUT_OV_FAULT_LIMIT command reads or writes OV_LIM. As for PAGE. -/
  | voutOvFaultLimit (rd : Bool) (bytes : List Byte)
  /-- The PMBus IOUT_OC_FAULT_LIMIT command reads or writes OCL. As for PAGE. -/
  | ioutOcFaultLimit (rd : Bool) (bytes : List Byte)
  /-- The PMBus STATUS_BYTE command returns the low byte of STATUS_WORD. -/
  | statusByte
  /-- The PMBus STATUS_WORD command returns the page's status word. -/
  | statusWord
  /-- The PMBus STATUS_VOUT command returns OV and UV status. -/
  | statusVout
  /-- The PMBus STATUS_IOUT command returns OC and limit status. -/
  | statusIout
  /-- The PMBus STATUS_CML command returns the communication fault byte. -/
  | statusCml
  /-- The PMBus READ_VIN command returns the rail's input group voltage, or VAUX. -/
  | readVin
  /-- The PMBus READ_IIN command returns the input current on the device page. -/
  | readIin
  /-- The PMBus READ_VOUT command returns V_AVG, or VBB. -/
  | readVout
  /-- The PMBus READ_IOUT command returns I_AVG, or IBAT. -/
  | readIout
  /-- The PMBus READ_TEMPERATURE_1 command returns the hottest stage group, or the hottest die. -/
  | readTemperature1
  /-- The PMBus READ_TEMPERATURE_2 command returns the battery temperature. -/
  | readTemperature2
  /-- The PMBus READ_POUT command returns P_AVG. -/
  | readPout
  /-- The PMBus READ_PIN command returns VAUX × IIN. -/
  | readPin
  /-- The PMBUS_REVISION command returns 0x44. -/
  | pmbusRevision
  /-- The MFR_ID command returns DEHAPIN. -/
  | mfrId
  /-- The MFR_MODEL command returns YM4896. -/
  | mfrModel
  /-- The MFR_REVISION command returns the silicon revision. -/
  | mfrRevision
  /-- The MFR_SERIAL command returns DEVICE_ID. -/
  | mfrSerial
  /-- The MFR_WIN_ADDR command sets or reads the window address. As for PAGE. -/
  | mfrWinAddr (rd : Bool) (bytes : List Byte)
  /-- The MFR_WIN_DATA command writes or reads consecutive words through the window under permission checks. As for PAGE. -/
  | mfrWinData (rd : Bool) (bytes : List Byte)
  /-- The MFR_WIN_RLEN command sets or reads the window read length. As for PAGE. -/
  | mfrWinRlen (rd : Bool) (bytes : List Byte)
  /-- The MFR_WIN_STATUS command returns the status of the last window command. -/
  | mfrWinStatus
  /-- The MFR_DEV_STATE command returns DEV_STATE. -/
  | mfrDevState
  /-- The MFR_JRNL_HEAD command returns NEXT_SEQ and OLDEST_SEQ. -/
  | mfrJrnlHead
  /-- The MFR_JRNL_READ process call returns the journal entry for a SEQ. The written part, as for PAGE. -/
  | mfrJrnlRead (bytes : List Byte)
  /-- The MFR_JRNL_ACK command sets ACK_SEQ, or is refused. As for PAGE. -/
  | mfrJrnlAck (bytes : List Byte)
  /-- The MFR_HQ_READ command takes the oldest host-queue entry. -/
  | mfrHqRead
  /-- The MFR_TAG command sets or reads the journal tag of later commands. As for PAGE. -/
  | mfrTag (rd : Bool) (bytes : List Byte)
  /-- An address with no following byte is acknowledged and does nothing. -/
  | quickCommand
  /-- An Alert Response Address read is answered with the target's address while ALERT_N is low. `lost`: a target with a lower address answers too. -/
  | alertResponse (lost : Bool)
  /-- An unsupported command byte is not acknowledged, and BAD_CMD and CML bit 7 set. -/
  | unsupportedCommand (cmd : Byte)
  /-- SCL has been low for 30 ms; the target resets its interface and discards the message. -/
  | sclTimeout
  /-- SDA has been low with SCL high for 30 ms; the target resets its interface. -/
  | sdaTimeout
  /-- A stretch limit is reached; SCL is released, 0xFF and a bad PEC are sent, and STRETCH_TMO sets. The command being read, the bytes already sent, and how many the message still asks for. -/
  | stretchTimeout (cmd : Byte) (sent : List Byte) (left : Byte)
  /-- An address match in PARK is acknowledged and wakes the device while SCL is stretched. `resumed`: the cores resumed within 200 µs. -/
  | hbParkWake (resumed : Bool)
  /-- The service-port PING command returns DEVICE_ID, DEV_STATE and stage. TAG and payload of the request frame. -/
  | svcPing (tag : BitVec 16) (payload : List Byte)
  /-- The service-port WIN_READ command reads words through the window. As for PING. -/
  | winRead (tag : BitVec 16) (payload : List Byte)
  /-- The service-port WIN_WRITE command writes words through the window. As for PING. -/
  | winWrite (tag : BitVec 16) (payload : List Byte)
  /-- The service-port JRNL_READ command returns retained journal entries. As for PING. -/
  | jrnlRead (tag : BitVec 16) (payload : List Byte)
  /-- The service-port HQ_READ command takes host-queue entries. As for PING. -/
  | hqRead (tag : BitVec 16) (payload : List Byte)
  /-- The service-port SET_BAUD command is answered and schedules the new rate. As for PING. -/
  | setBaud (tag : BitVec 16) (payload : List Byte)
  /-- The service-port DEV_STATE command returns DEV_STATE, LOAD_STATUS and RST_CAUSE. As for PING. -/
  | devState (tag : BitVec 16) (payload : List Byte)
  /-- A service-port vendor test command is served in BLANK and BUILD only. CMD is 0x70 + k. -/
  | vendorTest (k : Fin 16) (tag : BitVec 16) (payload : List Byte)
  /-- A reserved service-port command is answered MALFORMED. As for PING, with the frame's CMD. -/
  | svcReservedCmd (cmd : Byte) (tag : BitVec 16) (payload : List Byte)
  /-- A frame with a bad CRC or a framing error is discarded without reply. `framing`: a stop bit read 0. `raw`: what arrived, from LEN to the CRC. -/
  | svcBadFrame (framing : Bool) (raw : List Byte)
  /-- A gap of more than 1 ms inside a frame discards it and sets GAP_TMO. -/
  | svcGapTimeout
  /-- 1 ms after the SET_BAUD answer the new rate applies. -/
  | svcBaudApply
  /-- No valid frame arrives within 2 s at a new rate, and the port returns to 115 200 bit/s. -/
  | svcBaudFallback
  /-- A write of JRNL_NOTE appends a NOTE entry to the journal. -/
  | jrnlNote (w : Who) (m : Mgr) (code : BitVec 16)
  /-- A write of ACK_SEQ is accepted within the retained range, or refused with CFG_REJ. The value written to ACK_SEQ. -/
  | jrnlAckWrite (w : Who) (m : Mgr) (v : Word)
  /-- The update STATUS command returns UPD_STATUS, UPD_PROGRESS and UPD_TRIAL. The message or frame it arrives in. -/
  | updateStatusCmd (msg : PortMsg)
  /-- The BEGIN command checks the header, opens a session and erases chunk 0. -/
  | updBegin (msg : PortMsg)
  /-- The DATA command writes bytes into the port's chunk buffer. -/
  | updData (msg : PortMsg)
  /-- The COMMIT command programs a blank chunk from the buffer and reads it back. -/
  | updCommit (msg : PortMsg)
  /-- The ERASE command starts a background erase of chunks. -/
  | updErase (msg : PortMsg)
  /-- A background chunk erase ends, the chunk is blank-checked, and the next chunk starts. `ok`: the erase has ended in time and the whole chunk is blank. -/
  | eraseChunkDone (ok : Bool)
  /-- The FINISH command checks completeness and starts the digest check and header programming. -/
  | updFinish (msg : PortMsg)
  /-- The digest and header checks end, and the state becomes VERIFIED or stays RECEIVING. `none`: the digest check has ended; else the header has been programmed too, and read back equal or not. -/
  | finishComplete (header : Option Bool)
  /-- The PREPARE command stages the firmware and writes the inactive program banks. -/
  | updPrepare (msg : PortMsg)
  /-- Staging and bank writes finish, and the state becomes PREPARED or fails. `good`: BANK_CRC of every written bank is that of what was written. -/
  | prepareComplete (good : Bool)
  /-- The ACTIVATE command checks staleness, live conflicts and rules, then starts the activation or a recovery load. -/
  | updActivate (msg : PortMsg)
  /-- A rail's swap completes, and the activation proceeds to the next rail or step. -/
  | activationRailStep
  /-- A manager takes an activation reset and restarts on the staged firmware. -/
  | activationReset (m : Mgr)
  /-- The HEALTH_CONFIRM command ends the trial and advances the rollback fuses, or is refused. `supplyOk`: as for FUSE_PROGRAM. -/
  | healthConfirm (msg : PortMsg) (supplyOk : Bool)
  /-- The REVERT command returns the device to the prior image. -/
  | updRevert (msg : PortMsg)
  /-- The trial deadline passes without confirmation, and the device reverts. -/
  | trialDeadline
  /-- The ABORT command ends the session and returns the state to IDLE. -/
  | updAbort (msg : PortMsg)
  /-- The MAP process call returns 32 bytes of the chunk table. -/
  | updMap (msg : PortMsg)
  /-- Every 60 s a held rollback fuse advance is tried again. As for FUSE_PROGRAM. -/
  | rollbackRetry (supplyOk : Bool)
  /-- The two halves of the safety-core lockstep pair disagree, which is an explicit fault of their manager and triggers takeover. -/
  | lockstepMismatch (m : Mgr)
  /-- A manager's root PLL loses lock outside a commanded relock; LOCK_LOST sets and its forwarded reference stops within 20 ns. -/
  | rootLockLoss (m : Mgr)
  /-- One VBIAS input rises while the other manager runs, and its manager starts under its own die-local power-on reset and joins as shadow or holds itself in reset on a digest mismatch. -/
  | vbiasReturn (m : Mgr)
  /-- A manager leaves manager reset and starts as shadow with SYNCING set, receiving a sweep and the missed journal entries. -/
  | managerResetExit (m : Mgr)
  /-- A tile's core-supply supervisor trips and resets that tile, which is handled as a tile loss. -/
  | coreSupplySupervisorReset (t : Tile)
  /-- VIO leaves its operating range, RST_N is treated as released, the ARM VIO criterion becomes false and VIO-domain outputs become undefined. -/
  | vioOutOfRange
  /-- VBACKUP falls away while both VBIAS inputs are absent, the Mews domain loses its B fields and the device goes from MEWS to OFF. -/
  | vbackupLoss
  /-- A Sequence Lane frame failing its CRC is discarded and CRC_ERR increments. `frame`: the bytes after SYNC: 7 of a beat frame, 12 of a command or a reply. -/
  | laneFrameCrcFail (frame : List Byte)
  /-- The background page programming and read-back of a committed chunk ends, marking it WRITTEN, or DIRTY with status FLASH, and clearing FLASH_BUSY. `ok`: the read-back of the whole chunk matches. -/
  | chunkProgramDone (ok : Bool)
  deriving DecidableEq, Repr

end Sys2Proof
end

