-- ==== Sys2Proof/Decode.lean ====
section
/-!
DEFINITION. The commands that a word spells by the opcode table's bits. The table gives no bits to any row (every row's
"fields" is empty), so no word spells a command. The words of the phase engines' own instructions (R86, R87) are
decoded and encoded in Machine/EngineCode.lean.
-/
namespace Sys2Proof

/-- The command that a word of the opcode table spells: none, because no row of the table has bits. -/
def decodeTableWord (_nbits _w : Nat) : Option Instr := none

end Sys2Proof
end

