-- ==== Sys2Proof/Machine/Field.lean ====
section
/-!
DEFINITION. What a register field is: the block that carries it, where it stands in the block, its access
type (R5), its retention code (R10) and its reset value. The field tables of the chapters are written with
this record in Machine/Regs*.lean, the state no register shows in Machine/Hidden*.lean.
-/
namespace Sys2Proof.Machine

/-- The blocks of R35 and R36, and three kinds of place that carry state no register shows:
an engine slot (100 of them: 25 on each tile), the metrology die, and the device as a whole. -/
inductive Blk where
  | phase | rail | eng | tile | hpd | met
  | seqr | rein | evc | ldr | fuse | wdt | rtc | trc | hb | svc | jrn | upd
  | mgr | dev
  deriving DecidableEq, Repr

/-- The number of a block kind, used in a field's cell number. -/
def Blk.idx : Blk → Nat
  | .phase => 0 | .rail => 1 | .eng => 2 | .tile => 3 | .hpd => 4 | .met => 5
  | .seqr => 6 | .rein => 7 | .evc => 8 | .ldr => 9 | .fuse => 10 | .wdt => 11 | .rtc => 12
  | .trc => 13 | .hb => 14 | .svc => 15 | .jrn => 16 | .upd => 17 | .mgr => 18 | .dev => 19

/-- The access types of R5; `hid` is state that no register shows. -/
inductive Access where
  | rw | ro | w1c | w1s | wo | hw | rwl | fz | hid
  deriving DecidableEq, Repr

/-- The retention codes of R10. `N` is state that no reset of this table reaches: a blown fuse, an erased
flash page, the level of a pin. -/
inductive Ret where
  | P | S | M | T | K | B | N
  deriving DecidableEq, Repr

/-- The number of a retention code, used in a field's cell number. -/
def Ret.idx : Ret → Nat
  | .P => 0 | .S => 1 | .M => 2 | .T => 3 | .K => 4 | .B => 5 | .N => 6

/-- One field of a register, or one piece of state that no register shows (`acc = .hid`). -/
structure Fld where
  /-- The field's number in the tables, different for every field. -/
  seq : Nat
  /-- The kind of block that carries it. -/
  blk : Blk
  /-- Byte offset of its register in the block. -/
  off : Nat
  /-- How many copies of the register stand in one block, `stride` bytes apart. -/
  cnt : Nat
  /-- Distance of two copies in bytes. -/
  stride : Nat
  /-- Lowest bit of the field in the register. -/
  lo : Nat
  /-- Width in bits. -/
  wid : Nat
  /-- Access type (R5). -/
  acc : Access
  /-- Retention code (R10). -/
  ret : Ret
  /-- Reset value. -/
  rst : Nat
  /-- The number of the field's OVERLAP or WR_LOST bit (R6, R5), 0 where it has none. -/
  comp : Nat
  deriving DecidableEq, Repr

/-- The cell number of a field: its number, its block and its retention code in one. -/
def Fld.id (f : Fld) : Nat := (f.seq * 32 + f.blk.idx) * 8 + f.ret.idx

end Sys2Proof.Machine
end

