-- ==== Sys2Proof/Machine/Hidden.lean ====
section
/-!
DEFINITION. The state that the rules give the machine and no register shows, one constant each, with the rule
that names it. The entries are those of a register field; offset, stride and lowest bit have no use here.
-/
namespace Sys2Proof.Machine.Hid

/-! Chapter 01 -/
/-- The beat of manager m, microseconds of its crystal (R32). -/
def BEAT : Fld := ⟨2000, .mgr, 0, 1, 0, 0, 40, .hid, .P, 0, 0⟩
/-- Beat wraps of manager m since power-on (R33). -/
def EPOCH : Fld := ⟨2001, .mgr, 0, 1, 0, 0, 16, .hid, .P, 0, 0⟩
/-- The shadow's beat was ahead and is held until the active manager's reaches it (R34). -/
def BEAT_HOLD : Fld := ⟨2002, .mgr, 0, 1, 0, 0, 1, .hid, .S, 0, 0⟩
/-- Manager m drives the ROLE wire low (R19). -/
def ROLE_LOW : Fld := ⟨2003, .mgr, 0, 1, 0, 0, 1, .hid, .S, 0, 0⟩
/-- Manager m is powered and runs (R328). -/
def PRESENT : Fld := ⟨2004, .mgr, 0, 1, 0, 0, 1, .hid, .N, 0, 0⟩
/-- The crystal of manager m has stopped (R29). -/
def XTAL_STOPPED : Fld := ⟨2005, .mgr, 0, 1, 0, 0, 1, .hid, .P, 0, 0⟩
/-- Stage of the commanded relock: 0 none; 1 the shadow's root relocks; 2 the active manager's root relocks (R27). -/
def RELOCK_STAGE : Fld := ⟨2006, .dev, 0, 1, 0, 0, 2, .hid, .S, 0, 0⟩
/-- Manager m drives its 200 MHz reference (R28). -/
def REF_OK : Fld := ⟨2007, .mgr, 0, 1, 0, 0, 1, .hid, .S, 0, 0⟩
/-- Consecutive CRC failures of receive lane l from manager m, entry 2m + l (R16). -/
def XT_FAILS : Fld := ⟨2008, .tile, 0, 4, 0, 0, 2, .hid, .T, 0, 0⟩
/-- HPD's consecutive CRC failures, as XT_FAILS (R16). -/
def XH_FAILS : Fld := ⟨2009, .hpd, 0, 4, 0, 0, 2, .hid, .S, 0, 0⟩
/-- HPD's failed receive lanes, bit 2m + l (R16). -/
def XH_LANE_FAIL : Fld := ⟨2010, .hpd, 0, 1, 0, 0, 4, .hid, .S, 0, 0⟩
/-- A manager's consecutive CRC failures from die u, entry 2u + l (R16). -/
def XM_FAILS : Fld := ⟨2011, .mgr, 0, 10, 0, 0, 2, .hid, .M, 0, 0⟩
/-- A manager's failed receive lanes, bit 2u + l (R16). -/
def XM_LANE_FAIL : Fld := ⟨2012, .mgr, 0, 1, 0, 0, 10, .hid, .M, 0, 0⟩
/-- A manager's consecutive CRC failures on the Rein lanes (R16). -/
def XR_FAILS : Fld := ⟨2013, .mgr, 0, 2, 0, 0, 2, .hid, .M, 0, 0⟩
/-- A manager's failed Rein receive lanes (R16). -/
def XR_LANE_FAIL : Fld := ⟨2014, .mgr, 0, 1, 0, 0, 2, .hid, .M, 0, 0⟩
/-- Beat of the newest beat frame from manager m, entry m (R17). -/
def BF_BEAT : Fld := ⟨2015, .tile, 0, 2, 0, 0, 40, .hid, .T, 0, 0⟩
/-- Epoch of the newest beat frame from manager m (R17). -/
def BF_EPOCH : Fld := ⟨2016, .tile, 0, 2, 0, 0, 16, .hid, .T, 0, 0⟩
/-- Role of the newest beat frame from manager m (R17). -/
def BF_ROLE : Fld := ⟨2017, .tile, 0, 2, 0, 0, 1, .hid, .T, 0, 0⟩
/-- HPD's newest beat from manager m (R17). -/
def BFH_BEAT : Fld := ⟨2018, .hpd, 0, 2, 0, 0, 40, .hid, .S, 0, 0⟩
/-- HPD's newest role from manager m (R17). -/
def BFH_ROLE : Fld := ⟨2019, .hpd, 0, 2, 0, 0, 1, .hid, .S, 0, 0⟩
/-- Slot of the neighbour pair that RAIL_r occupies; 15 none (R20). -/
def SLOT_OF : Fld := ⟨2020, .dev, 0, 48, 0, 0, 4, .hid, .S, 15, 0⟩
/-- Consecutive failures of the slot received from a neighbour, entry 8 × (upper) + slot (R22). -/
def SLOT_FAILS : Fld := ⟨2021, .tile, 0, 16, 0, 0, 2, .hid, .T, 0, 0⟩
/-- Sequence count expected in the next slot, entry as SLOT_FAILS (R22). -/
def SLOT_SEQ : Fld := ⟨2022, .tile, 0, 16, 0, 0, 4, .hid, .T, 0, 0⟩
/-- Last valid reference field of the slot (R21). -/
def SLOT_REF : Fld := ⟨2023, .tile, 0, 16, 0, 0, 16, .hid, .T, 0, 0⟩
/-- Last valid rail state flags of the slot (R20). -/
def SLOT_FLAGS : Fld := ⟨2024, .tile, 0, 16, 0, 0, 8, .hid, .T, 0, 0⟩
/-- Ticks since the slot was last valid, saturating (R22). -/
def SLOT_AGE : Fld := ⟨2025, .tile, 0, 16, 0, 0, 8, .hid, .T, 0, 0⟩
/-- The slot has no lane left (R22). -/
def SLOT_LOST : Fld := ⟨2026, .tile, 0, 16, 0, 0, 1, .hid, .T, 0, 0⟩
/-- What arrived for the coming tick: 0 nothing; 1 a slot that was discarded; 2 a valid slot (R22). -/
def SLOT_NEW : Fld := ⟨2027, .tile, 0, 16, 0, 0, 2, .hid, .T, 0, 0⟩
/-- Consecutive ticks with a valid slot, at most 1 000 (R284). -/
def SLOT_RUN : Fld := ⟨2028, .tile, 0, 16, 0, 0, 10, .hid, .T, 0, 0⟩
/-- A slot has arrived since the tile's reset, so a sequence count is expected (R22). -/
def SLOT_SYNC : Fld := ⟨2029, .tile, 0, 16, 0, 0, 1, .hid, .T, 0, 0⟩
/-- Ticks until the first slot on the spare lane can arrive (R22). -/
def SLOT_GAP : Fld := ⟨2030, .tile, 0, 16, 0, 0, 3, .hid, .T, 0, 0⟩
/-- HALF_DOWN has been received and not acted on (R279). -/
def SLOT_DOWN : Fld := ⟨2031, .tile, 0, 16, 0, 0, 1, .hid, .T, 0, 0⟩
/-- Reference fields committed to the outgoing slot in the last eight ticks, entry 8 × slot entry + TICK mod 8 (R21). -/
def SLOT_H_REF : Fld := ⟨2032, .tile, 0, 128, 0, 0, 16, .hid, .T, 0, 0⟩
/-- Flags committed with them (R20). -/
def SLOT_H_FLAGS : Fld := ⟨2033, .tile, 0, 128, 0, 0, 8, .hid, .T, 0, 0⟩
/-- Sequence counts committed with them (R22). -/
def SLOT_H_SEQ : Fld := ⟨2034, .tile, 0, 128, 0, 0, 4, .hid, .T, 0, 0⟩
/-- One more than TICK of their commitment; 0 none (R21). -/
def SLOT_H_TICK : Fld := ⟨2035, .tile, 0, 128, 0, 0, 33, .hid, .T, 0, 0⟩
/-- Sequence count of the outgoing slot (R22). -/
def SLOT_TX_SEQ : Fld := ⟨2036, .tile, 0, 16, 0, 0, 4, .hid, .T, 0, 0⟩
/-- The last access of the initiator (0 SC, 1 to 3 the cores, 4 host window, 5 service port) returned a bus error (R9). -/
def BUS_ERR : Fld := ⟨2037, .mgr, 0, 6, 0, 0, 1, .hid, .N, 0, 0⟩
/-- The word the last read of the initiator returned (R161). -/
def READ_DATA : Fld := ⟨2038, .mgr, 0, 6, 0, 0, 32, .hid, .N, 0, 0⟩
/-- Home tile of RAIL_r in the committed image (R144). -/
def HOME : Fld := ⟨2039, .dev, 0, 48, 0, 0, 2, .hid, .S, 0, 0⟩
/-- The reference the tile last followed: 0 MGR_A; 1 MGR_B; 2 none since reset (R28). -/
def FOLLOWED : Fld := ⟨2040, .tile, 0, 1, 0, 0, 2, .hid, .T, 2, 0⟩
/-- As FOLLOWED, for HPD (R28). -/
def FOLLOWED_H : Fld := ⟨2041, .hpd, 0, 1, 0, 0, 2, .hid, .S, 2, 0⟩
/-- The PLL slews from free-run to a returned reference (R28). -/
def SLEWING : Fld := ⟨2042, .tile, 0, 1, 0, 0, 1, .hid, .T, 0, 0⟩
/-- As SLEWING, for HPD (R28). -/
def SLEWING_H : Fld := ⟨2043, .hpd, 0, 1, 0, 0, 1, .hid, .S, 0, 0⟩
/-- Manager m has an explicit fault, for the purposes of takeover (R29). -/
def EXPLICIT_FAULT : Fld := ⟨2044, .mgr, 0, 1, 0, 0, 1, .hid, .M, 0, 0⟩
/-! Chapter 02 -/
/-- Level of PWM_nn: 0 high impedance (OFF); 1 low; 2 high; 3 mid (R40). -/
def PWM_LVL : Fld := ⟨2045, .phase, 0, 1, 0, 0, 2, .hid, .T, 0, 0⟩
/-- The phase went to mid in the present tick (R55). -/
def MID_TICK : Fld := ⟨2046, .phase, 0, 1, 0, 0, 1, .hid, .T, 0, 0⟩
/-- A host ADD reached the phase in the present tick (R55). -/
def HADD_TICK : Fld := ⟨2047, .phase, 0, 1, 0, 0, 1, .hid, .T, 0, 0⟩
/-- A re-add probe has passed, and the phase becomes ACTIVE at its next leading edge (R60). -/
def JOIN_PEND : Fld := ⟨2048, .phase, 0, 1, 0, 0, 1, .hid, .T, 0, 0⟩
/-- A park (1) or an add (2) that the load rule decided on the other tile and the slot's flag has not brought yet (R57). -/
def LOAD_SIG : Fld := ⟨2049, .phase, 0, 1, 0, 0, 2, .hid, .T, 0, 0⟩
/-- TICK of that decision (R57). -/
def LOAD_AT : Fld := ⟨2050, .phase, 0, 1, 0, 0, 32, .hid, .T, 0, 0⟩
/-- The load rule decided the phase's park in the present tick (R59). -/
def MARK_NEW : Fld := ⟨2051, .phase, 0, 1, 0, 0, 1, .hid, .T, 0, 0⟩
/-- The load rule added a phase in the present tick (R59). -/
def ADD_NOW : Fld := ⟨2052, .rail, 0, 1, 0, 0, 1, .hid, .T, 0, 0⟩
/-- Consecutive ticks for which the park condition has held (R57). -/
def DWELL : Fld := ⟨2053, .rail, 0, 1, 0, 0, 15, .hid, .T, 0, 0⟩
/-- Consecutive ticks for which the add condition has held (R58). -/
def ADD_HELD : Fld := ⟨2054, .rail, 0, 1, 0, 0, 7, .hid, .T, 0, 0⟩
/-- Taps of the cycle counter below CYC_CNT (R46). -/
def CYC_TAP : Fld := ⟨2055, .rail, 0, 1, 0, 0, 4, .hid, .T, 0, 0⟩
/-- Period that ended with the cycle start of the present tick (R45). -/
def CYC_WRAP : Fld := ⟨2056, .rail, 0, 1, 0, 0, 14, .hid, .T, 0, 0⟩
/-- Cycle starts of the tile in the past ticks, bit 0 the newest (R46). -/
def CYC_OWN : Fld := ⟨2057, .rail, 0, 1, 0, 0, 16, .hid, .T, 0, 0⟩
/-- Correction due at the next cycle start: 1 one tap back, 2 one tap forward (R46). -/
def CYC_FIX : Fld := ⟨2058, .rail, 0, 1, 0, 0, 2, .hid, .T, 0, 0⟩
/-- One more than the start tick that the active manager named; 0 none (R46). -/
def CYC_AT : Fld := ⟨2059, .rail, 0, 1, 0, 0, 33, .hid, .T, 0, 0⟩
/-- The phase entered mid less than 200 ns ago (R54). -/
def MID_BUSY : Fld := ⟨2060, .phase, 0, 1, 0, 0, 1, .hid, .T, 0, 0⟩
/-- Pending mid marking at the next leading edge: 0 none; 1 park; 2 host SHED; 3 shut-down of its rail (R53). -/
def MARK_MID : Fld := ⟨2061, .phase, 0, 1, 0, 0, 2, .hid, .T, 0, 0⟩
/-- The phase joins at its next leading edge (R58). -/
def ADD_PEND : Fld := ⟨2062, .phase, 0, 1, 0, 0, 1, .hid, .T, 0, 0⟩
/-- A written OFFSET awaits the phase's next cycle start (R69). -/
def OFS_PEND : Fld := ⟨2063, .phase, 0, 1, 0, 0, 1, .hid, .S, 0, 0⟩
/-- OFFSET in force (R69). -/
def OFS_ACT : Fld := ⟨2064, .phase, 0, 1, 0, 0, 16, .hid, .S, 0, 0⟩
/-- Leading-edge position in force, counts (R45). -/
def LEAD_POS : Fld := ⟨2065, .phase, 0, 1, 0, 0, 16, .hid, .T, 0, 0⟩
/-- On-time in force after the clamp, taps (R41). -/
def ONTIME_ACT : Fld := ⟨2066, .phase, 0, 1, 0, 0, 18, .hid, .T, 0, 0⟩
/-- The phase is fired high by Cinch or a forecast pulse (R124). -/
def FIRED : Fld := ⟨2067, .phase, 0, 1, 0, 0, 1, .hid, .T, 0, 0⟩
/-- A re-add probe of the phase runs (R60). -/
def PROBING : Fld := ⟨2068, .phase, 0, 1, 0, 0, 1, .hid, .T, 0, 0⟩
/-- Cause of the shed from which the phase was last re-added (R61). -/
def READD_CAUSE : Fld := ⟨2069, .phase, 0, 1, 0, 0, 4, .hid, .S, 0, 0⟩
/-- The phase was re-added since its last shed (R61). -/
def READD_DONE : Fld := ⟨2070, .phase, 0, 1, 0, 0, 1, .hid, .S, 0, 0⟩
/-- The pre-start test of RAIL_r runs (R63). -/
def PRESTART : Fld := ⟨2071, .dev, 0, 48, 0, 0, 1, .hid, .S, 0, 0⟩
/-- Manager m's own latches of ISO_N, bit g (R65). -/
def ISO_LATCH_M : Fld := ⟨2072, .mgr, 0, 1, 0, 0, 8, .hid, .P, 0, 0⟩
/-- The partner tile's last cycle start differed from the CYCLE flag (R46). -/
def CYC_ERR : Fld := ⟨2073, .rail, 0, 1, 0, 0, 1, .hid, .T, 0, 0⟩
/-- The present cycle's on-time was clamped (R42). -/
def CLAMPED_CYC : Fld := ⟨2074, .phase, 0, 1, 0, 0, 1, .hid, .T, 0, 0⟩
/-- The home tile's throttle decision for RAIL_r (R204). -/
def THR_WANT : Fld := ⟨2075, .dev, 0, 48, 0, 0, 1, .hid, .S, 0, 0⟩
/-- Tick d of that decision (R204). -/
def THR_TICK : Fld := ⟨2076, .dev, 0, 48, 0, 0, 32, .hid, .S, 0, 0⟩
/-- The tile runs the rail at the stepped period (R204). -/
def THR_ACT : Fld := ⟨2077, .rail, 0, 1, 0, 0, 1, .hid, .T, 0, 0⟩
/-- The present high interval was ended by the limiter (R193). -/
def CUT : Fld := ⟨2078, .phase, 0, 1, 0, 0, 1, .hid, .T, 0, 0⟩
/-- Diode emulation from a pre-biased soft-start to SEQ_DONE (R117). -/
def DE_FORCE : Fld := ⟨2079, .rail, 0, 1, 0, 0, 1, .hid, .T, 0, 0⟩
/-- The standby lead of RAIL_r is its acting lead (R95). -/
def STBY_ACT : Fld := ⟨2080, .dev, 0, 48, 0, 0, 1, .hid, .S, 0, 0⟩
/-! Chapter 03 -/
/-- The tile's tick count (R80). -/
def TICK : Fld := ⟨2081, .tile, 0, 1, 0, 0, 32, .hid, .T, 0, 0⟩
/-- TICK has taken its first value from the active manager's beat (R80). -/
def TICK_SET : Fld := ⟨2082, .tile, 0, 1, 0, 0, 1, .hid, .T, 0, 0⟩
/-- The engine runs (its phase has left OFF, or it is the spare) (R71). -/
def E_RUN : Fld := ⟨2083, .eng, 0, 1, 0, 0, 1, .hid, .T, 0, 0⟩
/-- WAITT was executed in the present tick (R73). -/
def E_WAIT : Fld := ⟨2084, .eng, 0, 1, 0, 0, 1, .hid, .T, 0, 0⟩
/-- The last tick boundary was a waiting boundary of this engine (R73). -/
def E_FRESH : Fld := ⟨2085, .eng, 0, 1, 0, 0, 1, .hid, .T, 0, 0⟩
/-- Slots used in the present tick, 0 to 40 (R72). -/
def E_SLOT : Fld := ⟨2086, .eng, 0, 1, 0, 0, 6, .hid, .T, 0, 0⟩
/-- Data registers w0 to w15 (R70). -/
def E_W : Fld := ⟨2087, .eng, 0, 16, 0, 0, 32, .hid, .T, 0, 0⟩
/-- Accumulators a0 and a1 (R70). -/
def E_A : Fld := ⟨2088, .eng, 0, 2, 0, 0, 48, .hid, .T, 0, 0⟩
/-- Zero flag (R70). -/
def E_Z : Fld := ⟨2089, .eng, 0, 1, 0, 0, 1, .hid, .T, 0, 0⟩
/-- Negative flag (R70). -/
def E_N : Fld := ⟨2090, .eng, 0, 1, 0, 0, 1, .hid, .T, 0, 0⟩
/-- Carry flag (R70). -/
def E_C : Fld := ⟨2091, .eng, 0, 1, 0, 0, 1, .hid, .T, 0, 0⟩
/-- Overflow flag (R70). -/
def E_V : Fld := ⟨2092, .eng, 0, 1, 0, 0, 1, .hid, .T, 0, 0⟩
/-- Program counter (R70). -/
def E_PC : Fld := ⟨2093, .eng, 0, 1, 0, 0, 10, .hid, .T, 0, 0⟩
/-- Input snapshot, one value per port (R73). -/
def E_IN : Fld := ⟨2094, .eng, 0, 14, 0, 0, 32, .hid, .T, 0, 0⟩
/-- Output staging, one value per port (R74). -/
def E_STG : Fld := ⟨2095, .eng, 0, 4, 0, 0, 32, .hid, .T, 0, 0⟩
/-- The port was staged since the last commitment (R74). -/
def E_STGW : Fld := ⟨2096, .eng, 0, 4, 0, 0, 1, .hid, .T, 0, 0⟩
/-- A bank swap waits for this engine's next waiting boundary (R97). -/
def E_LATE : Fld := ⟨2097, .eng, 0, 1, 0, 0, 1, .hid, .T, 0, 0⟩
/-- Checkpoint of w0 to w15 (R98). -/
def CK_W : Fld := ⟨2098, .eng, 0, 16, 0, 0, 32, .hid, .T, 0, 0⟩
/-- Checkpoint of a0 and a1 (R98). -/
def CK_A : Fld := ⟨2099, .eng, 0, 2, 0, 0, 48, .hid, .T, 0, 0⟩
/-- Checkpoint of the flags, in the order Z, N, C, V (R98). -/
def CK_FL : Fld := ⟨2100, .eng, 0, 4, 0, 0, 1, .hid, .T, 0, 0⟩
/-- Checkpoint of the PC (R98). -/
def CK_PC : Fld := ⟨2101, .eng, 0, 1, 0, 0, 10, .hid, .T, 0, 0⟩
/-- Checkpoint of the bank (R98). -/
def CK_BANK : Fld := ⟨2102, .eng, 0, 1, 0, 0, 1, .hid, .T, 0, 0⟩
/-- Checkpoint of the event word (R98). -/
def CK_EVW : Fld := ⟨2103, .eng, 0, 1, 0, 0, 16, .hid, .T, 0, 0⟩
/-- The spare engine is out of service (R295). -/
def SPARE_BAD : Fld := ⟨2104, .tile, 0, 1, 0, 0, 1, .hid, .T, 0, 0⟩
/-- Committed DUTY port, taps (R81). -/
def DUTY : Fld := ⟨2105, .phase, 0, 1, 0, 0, 18, .hid, .T, 0, 0⟩
/-- Committed REFOUT port, signed, 1/32 A (R81). -/
def REFOUT : Fld := ⟨2106, .phase, 0, 1, 0, 0, 16, .hid, .T, 0, 0⟩
/-- Committed MARK port (R81). -/
def MARK : Fld := ⟨2107, .phase, 0, 1, 0, 0, 32, .hid, .T, 0, 0⟩
/-- Age of the newest IPH in ticks (R79). -/
def IPH_AGE : Fld := ⟨2108, .phase, 0, 1, 0, 0, 4, .hid, .T, 0, 0⟩
/-- FFGAIN of the phase (R79). -/
def FFGAIN : Fld := ⟨2109, .phase, 0, 1, 0, 0, 31, .hid, .T, 0, 0⟩
/-- The acting lead's last six committed references on this tile, newest first (R93). -/
def REF_HIST : Fld := ⟨2110, .rail, 0, 6, 0, 0, 16, .hid, .T, 0, 0⟩
/-- Age of each of those references, less one (R93). -/
def REF_AGE : Fld := ⟨2111, .rail, 0, 6, 0, 0, 4, .hid, .T, 0, 0⟩
/-- The rail's cycle counter at the last boundary, 625 ps counts (R79). -/
def CYC_CNT : Fld := ⟨2112, .rail, 0, 1, 0, 0, 16, .hid, .T, 0, 0⟩
/-- A cycle start of the rail fell in the present tick (R79). -/
def CYC_NOW : Fld := ⟨2113, .rail, 0, 1, 0, 0, 1, .hid, .T, 0, 0⟩
/-- The CRC of the inactive bank is to be recomputed (R90). -/
def CRC_BUSY : Fld := ⟨2114, .eng, 0, 1, 0, 0, 1, .hid, .T, 0, 0⟩
/-- Stage of a handback, as HANDING_OVER (R104). -/
def HANDING_BACK : Fld := ⟨2115, .tile, 0, 1, 0, 0, 2, .hid, .T, 0, 0⟩
/-- Stage of a takeover by the spare: 0 none; 1 fault detected; 2 checkpoint loaded; 3 snapshot taken (R101). -/
def HANDING_OVER : Fld := ⟨2116, .tile, 0, 1, 0, 0, 2, .hid, .T, 0, 0⟩
/-! Chapter 04 -/
/-- Set-point generator value, Q16 of 1/4 mV (R117). -/
def SP_Q16 : Fld := ⟨2117, .rail, 0, 1, 0, 0, 32, .hid, .T, 0, 0⟩
/-- Target of the present ramp (R118). -/
def SP_TGT : Fld := ⟨2118, .rail, 0, 1, 0, 0, 16, .hid, .T, 0, 0⟩
/-- Generator mode: 0 holding; 1 soft-start; 2 commanded ramp; 3 soft-start ramp of a tracking rail after its SEQ_DONE (R117). -/
def SP_MODE : Fld := ⟨2119, .rail, 0, 1, 0, 0, 2, .hid, .T, 0, 0⟩
/-- SEQ_DONE has latched since the soft-start (R117). -/
def SP_DONE : Fld := ⟨2120, .rail, 0, 1, 0, 0, 1, .hid, .T, 0, 0⟩
/-- VSENSE of the rail at the last 32 boundaries on this tile, newest first (R114, R280) (R114). -/
def VS_HIST : Fld := ⟨2121, .rail, 0, 32, 0, 0, 16, .hid, .T, 0, 0⟩
/-- Tracked value of the newest boundary (R114). -/
def TRK_T : Fld := ⟨2122, .rail, 0, 1, 0, 0, 16, .hid, .T, 0, 0⟩
/-- A law copy of RAIL_r runs (R107). -/
def LAW_BUSY : Fld := ⟨2123, .dev, 0, 48, 0, 0, 1, .hid, .S, 0, 0⟩
/-- The engine's next tick of a Ziluoz law is its entry tick (R108). -/
def ZL_ENTRY : Fld := ⟨2124, .eng, 0, 1, 0, 0, 1, .hid, .T, 0, 0⟩
/-! Chapter 05 -/
/-- A slope window is open (R121). -/
def SLOPE_OPEN : Fld := ⟨2125, .rail, 0, 1, 0, 0, 1, .hid, .T, 0, 0⟩
/-- Window reference, signed, 1/4 mV (R120). -/
def C_VREF : Fld := ⟨2126, .rail, 0, 1, 0, 0, 18, .hid, .T, 0, 0⟩
/-- The level detector is active (R121). -/
def C_LVL : Fld := ⟨2127, .rail, 0, 1, 0, 0, 1, .hid, .T, 0, 0⟩
/-- Boundaries since the slope detector last fired (R121). -/
def SLOPE_AGE : Fld := ⟨2128, .rail, 0, 1, 0, 0, 4, .hid, .T, 0, 0⟩
/-- MODE in force (R142). -/
def C_MODE : Fld := ⟨2129, .rail, 0, 1, 0, 0, 2, .hid, .T, 0, 0⟩
/-- REL_MODE in force (R142). -/
def C_RELM : Fld := ⟨2130, .rail, 0, 1, 0, 0, 1, .hid, .T, 0, 0⟩
/-- LEVEL in force (R142). -/
def C_LEVEL : Fld := ⟨2131, .rail, 0, 1, 0, 0, 7, .hid, .T, 0, 0⟩
/-- SLOPE in force (R142). -/
def C_SLOPE : Fld := ⟨2132, .rail, 0, 1, 0, 0, 6, .hid, .T, 0, 0⟩
/-- SLOPE_WIN in force (R142). -/
def C_SWIN : Fld := ⟨2133, .rail, 0, 1, 0, 0, 4, .hid, .T, 0, 0⟩
/-- ON_TIME in force (R142). -/
def C_ONT : Fld := ⟨2134, .rail, 0, 1, 0, 0, 6, .hid, .T, 0, 0⟩
/-- IPK in force (R142). -/
def C_IPK : Fld := ⟨2135, .rail, 0, 1, 0, 0, 8, .hid, .T, 0, 0⟩
/-- Boundaries since the release boundary, at most 63 (R125). -/
def REL_AGE : Fld := ⟨2136, .rail, 0, 1, 0, 0, 6, .hid, .T, 0, 0⟩
/-- A set-point command came during the soft-start (R123). -/
def SP_CMD : Fld := ⟨2137, .rail, 0, 1, 0, 0, 1, .hid, .T, 0, 0⟩
/-- The trip of the response in progress lies inside a tick (R127). -/
def C_IN : Fld := ⟨2138, .rail, 0, 1, 0, 0, 1, .hid, .T, 0, 0⟩
/-- ON_TIME that the response in progress keeps (R142). -/
def C_ON : Fld := ⟨2139, .rail, 0, 1, 0, 0, 6, .hid, .T, 0, 0⟩
/-- The release boundary of the response in progress has passed (R127). -/
def C_RELEASED : Fld := ⟨2140, .rail, 0, 1, 0, 0, 1, .hid, .T, 0, 0⟩
/-- The rail's Cinch wire is asserted on this tile (R124). -/
def C_WIRE : Fld := ⟨2141, .rail, 0, 1, 0, 0, 1, .hid, .T, 0, 0⟩
/-- Ticks since the last trip (R79). -/
def TRIP_AGE : Fld := ⟨2142, .rail, 0, 1, 0, 0, 16, .hid, .T, 65535, 0⟩
/-- CPRESET, signed 32-bit (R129). -/
def CP_FULL : Fld := ⟨2143, .rail, 0, 1, 0, 0, 32, .hid, .T, 0, 0⟩
/-- A release occurred at the next boundary to be taken (R79). -/
def REL_NOW : Fld := ⟨2144, .rail, 0, 1, 0, 0, 1, .hid, .T, 0, 0⟩
/-- Ticks left of the 500 ns after a set-point command's SEQ_DONE (R123). -/
def SP_QUIET : Fld := ⟨2145, .rail, 0, 1, 0, 0, 6, .hid, .T, 0, 0⟩
/-- Ticks left of the 25 µs after a half loss (R123). -/
def LOSS_ARM : Fld := ⟨2146, .rail, 0, 1, 0, 0, 12, .hid, .T, 0, 0⟩
/-- Tick A of the pending forecast (R137). -/
def FCP_A : Fld := ⟨2147, .rail, 0, 1, 0, 0, 32, .hid, .T, 0, 0⟩
/-- Due tick D of the pending forecast (R137). -/
def FCP_D : Fld := ⟨2148, .rail, 0, 1, 0, 0, 32, .hid, .T, 0, 0⟩
/-- STEP of the pending forecast, signed (R135). -/
def FCP_STEP : Fld := ⟨2149, .rail, 0, 1, 0, 0, 12, .hid, .T, 0, 0⟩
/-- FC_JUDGE at acceptance (R142). -/
def FCP_JUDGE : Fld := ⟨2150, .rail, 0, 1, 0, 0, 16, .hid, .T, 0, 0⟩
/-- FC_CFG at acceptance (R142). -/
def FCP_CFG : Fld := ⟨2151, .rail, 0, 1, 0, 0, 32, .hid, .T, 0, 0⟩
/-- ISUM of the boundary that began A (R139). -/
def FCP_ISUM : Fld := ⟨2152, .rail, 0, 1, 0, 0, 32, .hid, .T, 0, 0⟩
/-- A trip has cut the pending forecast's fire (R141). -/
def FCP_CINCHED : Fld := ⟨2153, .rail, 0, 1, 0, 0, 1, .hid, .T, 0, 0⟩
/-- Forecast pulses of the phase: bit 0 one is scheduled; bit 1 one runs (R138). -/
def FPULSE : Fld := ⟨2154, .phase, 0, 1, 0, 0, 2, .hid, .T, 0, 0⟩
/-- Tick from which the scheduled pulse's start counts (R138). -/
def FP_S : Fld := ⟨2155, .phase, 0, 1, 0, 0, 32, .hid, .T, 0, 0⟩
/-- Tick in which the running pulse ends (R138). -/
def FP_END : Fld := ⟨2156, .phase, 0, 1, 0, 0, 32, .hid, .T, 0, 0⟩
/-- Tap of that tick at which it ends (R138). -/
def FP_TAP : Fld := ⟨2157, .phase, 0, 1, 0, 0, 8, .hid, .T, 0, 0⟩
/-- Start of the scheduled pulse, taps after the boundary that begins the fire (R138). -/
def FPULSE_AT : Fld := ⟨2158, .phase, 0, 1, 0, 0, 20, .hid, .T, 0, 0⟩
/-- Length of the pulse, taps (R138). -/
def FPULSE_LEN : Fld := ⟨2159, .phase, 0, 1, 0, 0, 14, .hid, .T, 0, 0⟩
/-- Summed current error s of a Ziluoz law (R110). -/
def ZL_S : Fld := ⟨2160, .eng, 0, 1, 0, 0, 32, .hid, .T, 0, 0⟩
/-- vp of a Ziluoz law (R110). -/
def ZL_VP : Fld := ⟨2161, .eng, 0, 1, 0, 0, 32, .hid, .T, 0, 0⟩
/-- vi of a Ziluoz law (R110). -/
def ZL_VI : Fld := ⟨2162, .eng, 0, 1, 0, 0, 32, .hid, .T, 0, 0⟩
/-- VSENSE of the previous tick, plus 2^16 once a tick has run since the entry (R112). -/
def ZL_VPREV : Fld := ⟨2163, .eng, 0, 1, 0, 0, 17, .hid, .T, 0, 0⟩
/-- A cycle start's work was deferred by a handler (R116). -/
def ZL_CYC : Fld := ⟨2164, .eng, 0, 1, 0, 0, 1, .hid, .T, 0, 0⟩
/-- Role whose path the law takes (R115). -/
def ZL_ROLE : Fld := ⟨2165, .eng, 0, 1, 0, 0, 2, .hid, .T, 0, 0⟩
/-- STEP that the law keeps (R140). -/
def ZL_STEP : Fld := ⟨2166, .eng, 0, 1, 0, 0, 16, .hid, .T, 0, 0⟩
/-- Remaining ticks of a forecast ramp (R140). -/
def ZL_RAMP : Fld := ⟨2167, .eng, 0, 1, 0, 0, 8, .hid, .T, 0, 0⟩
/-- Signed step of the ramp in progress (R140). -/
def ZL_RSTEP : Fld := ⟨2168, .eng, 0, 1, 0, 0, 17, .hid, .T, 0, 0⟩
/-- Parameter words 0 to 95 as read at the last entry (R108). -/
def ZL_PAR : Fld := ⟨2169, .eng, 0, 96, 0, 0, 32, .hid, .T, 0, 0⟩
/-- The rail fires on this tile, from the trip to the end of the hand-over interval (R125). -/
def C_FIRE : Fld := ⟨2170, .rail, 0, 1, 0, 0, 1, .hid, .T, 0, 0⟩
/-- The pending forecast's fire has started (R138). -/
def FCP_STARTED : Fld := ⟨2171, .rail, 0, 1, 0, 0, 1, .hid, .T, 0, 0⟩
/-- LAW_ID of the library image that program bank b holds; 0 another program (R107). -/
def BANK_LAW : Fld := ⟨2172, .eng, 0, 2, 0, 0, 8, .hid, .T, 0, 0⟩
/-! Chapter 06 -/
/-- VSENSE formed in the present tick, for the next boundary's snapshot (R146). -/
def VS_NEXT : Fld := ⟨2173, .rail, 0, 1, 0, 0, 16, .hid, .T, 0, 0⟩
/-- No working slice fills position p (R152). -/
def SLICE_LOST : Fld := ⟨2174, .tile, 0, 32, 0, 0, 1, .hid, .T, 0, 0⟩
/-- Bit c: a phase-scan slice serves slice A of channel c (R152). -/
def CH_MOVED : Fld := ⟨2175, .tile, 0, 1, 0, 0, 12, .hid, .T, 0, 0⟩
/-- Stage of the rotation: 0 none; 1 spare alongside; 2 spare in place, slice calibrating; 3 slice alongside; 4 spare self-calibrating (R150). -/
def ROT_PHASE : Fld := ⟨2176, .tile, 0, 1, 0, 0, 3, .hid, .T, 0, 0⟩
/-- Next rotation position, 32 for the spare's own (R150). -/
def ROT_NEXT : Fld := ⟨2177, .tile, 0, 1, 0, 0, 6, .hid, .T, 0, 0⟩
/-- Channels whose skew calibration is still to run (R148). -/
def SKEW_TODO : Fld := ⟨2178, .tile, 0, 1, 0, 0, 12, .hid, .T, 0, 0⟩
/-- Kind of the running diagnosis (R154). -/
def DIAG_KIND : Fld := ⟨2179, .tile, 0, 1, 0, 0, 2, .hid, .T, 0, 0⟩
/-- Target of the running diagnosis (R154). -/
def DIAG_TGT : Fld := ⟨2180, .tile, 0, 1, 0, 0, 5, .hid, .T, 0, 0⟩
/-- Consecutive readings of group g below 10.5 V (R201). -/
def VIN_LO_N : Fld := ⟨2181, .tile, 0, 8, 0, 0, 2, .hid, .T, 0, 0⟩
/-- Consecutive readings of group g above 15.0 V (R201). -/
def VIN_HI_N : Fld := ⟨2182, .tile, 0, 8, 0, 0, 2, .hid, .T, 0, 0⟩
/-- Consecutive readings of the stage group above STG_TLIM (R202). -/
def STG_HI_N : Fld := ⟨2183, .tile, 0, 6, 0, 0, 2, .hid, .T, 0, 0⟩
/-- Consecutive readings of the stage group at or below STG_TLIM − 5 °C (R202). -/
def STG_LO_N : Fld := ⟨2184, .tile, 0, 6, 0, 0, 2, .hid, .T, 0, 0⟩
/-- Consecutive conversions of group g's current above OCL (R200). -/
def IG_N : Fld := ⟨2185, .mgr, 0, 8, 0, 0, 2, .hid, .M, 0, 0⟩
/-- Newest code of the housekeeping converter's inputs (R157). -/
def HK_CODE : Fld := ⟨2186, .mgr, 0, 16, 0, 0, 16, .hid, .M, 0, 0⟩
/-- Sum of VSENSE in the present telemetry window (R159). -/
def TLM_SV : Fld := ⟨2187, .rail, 0, 1, 0, 0, 40, .hid, .T, 0, 0⟩
/-- Sum of ISUM in the window, signed (R159). -/
def TLM_SI : Fld := ⟨2188, .rail, 0, 1, 0, 0, 48, .hid, .T, 0, 0⟩
/-- Sum of VSENSE × ISUM in the window, signed (R159). -/
def TLM_SP : Fld := ⟨2189, .rail, 0, 1, 0, 0, 64, .hid, .T, 0, 0⟩
/-- TLM_WIN was written in the present window, or the tile was reset (R159). -/
def TLM_BAD : Fld := ⟨2190, .rail, 0, 1, 0, 0, 1, .hid, .T, 1, 0⟩
/-- PK_CLR takes effect at the next tick boundary (R159). -/
def PK_PEND : Fld := ⟨2191, .rail, 0, 1, 0, 0, 1, .hid, .T, 0, 0⟩
/-- Energy below one microjoule, in units of 78.125 fJ (R159). -/
def E_REM : Fld := ⟨2192, .rail, 0, 1, 0, 0, 24, .hid, .T, 0, 0⟩
/-- Low word staged by initiator w, plus 2^32 when one is staged (R160). -/
def E_STAGED : Fld := ⟨2193, .rail, 0, 6, 0, 0, 33, .hid, .T, 0, 0⟩
/-- Input energy of group g below one microjoule, nanojoules (R160). -/
def HK_E_REM : Fld := ⟨2194, .mgr, 0, 8, 0, 0, 10, .hid, .M, 0, 0⟩
/-- Low word of group g staged by initiator w, entry 6g + w, plus 2^32 when staged (R160). -/
def HK_E_STAGED : Fld := ⟨2195, .mgr, 0, 48, 0, 0, 33, .hid, .M, 0, 0⟩
/-- Last ten power estimates of group g, entry 10g + k, newest first (R163). -/
def EST_HIST : Fld := ⟨2196, .tile, 0, 80, 0, 0, 32, .hid, .T, 0, 0⟩
/-- Newest partial estimate of tile t for group g, entry 8t + g (R163). -/
def PART_VAL : Fld := ⟨2197, .mgr, 0, 32, 0, 0, 32, .hid, .M, 0, 0⟩
/-- Bit 8t + g: that partial is older than 100 µs (R163). -/
def PART_STALE : Fld := ⟨2198, .mgr, 0, 1, 0, 0, 32, .hid, .M, 0, 0⟩
/-- Place plus 1 of the initiator whose ADD waits for the diagnosis of the phase; 0 none (R156). -/
def DIAG_ADD : Fld := ⟨2199, .phase, 0, 1, 0, 0, 3, .hid, .T, 0, 0⟩
/-- The spare's skew trim at slice B of channel c (R148). -/
def SPARE_SKEW : Fld := ⟨2200, .tile, 0, 12, 0, 0, 6, .hid, .T, 0, 0⟩
/-- Offset trim of the slice at position p, signed, codes (R150). -/
def SL_OFS : Fld := ⟨2201, .tile, 0, 32, 0, 0, 7, .hid, .T, 0, 0⟩
/-- Gain trim of the slice at position p, signed, 1/32 768 (R150). -/
def SL_GAIN : Fld := ⟨2202, .tile, 0, 32, 0, 0, 11, .hid, .T, 0, 0⟩
/-- The spare's offset trim for position p, signed, codes (R150). -/
def SP_OFS : Fld := ⟨2203, .tile, 0, 32, 0, 0, 7, .hid, .T, 0, 0⟩
/-- The spare's gain trim for position p, signed, 1/32 768 (R150). -/
def SP_GAIN : Fld := ⟨2204, .tile, 0, 32, 0, 0, 11, .hid, .T, 0, 0⟩
/-- Sum of the absolute differences of the comparison in progress, codes (R150). -/
def DIFF_SUM : Fld := ⟨2205, .tile, 0, 1, 0, 0, 17, .hid, .T, 0, 0⟩
/-- Pairs of the comparison in progress (R150). -/
def DIFF_N : Fld := ⟨2206, .tile, 0, 1, 0, 0, 5, .hid, .T, 0, 0⟩
/-- Next conversion of the test-voltage converter in two frames of 20 (R153). -/
def TVC_POS : Fld := ⟨2207, .tile, 0, 1, 0, 0, 6, .hid, .T, 0, 0⟩
/-- Next input of the housekeeping converter (R157). -/
def HK_POS : Fld := ⟨2208, .mgr, 0, 1, 0, 0, 4, .hid, .M, 0, 0⟩
/-- Beat plus 1 since which the readings of group g differ by more than 2 %; 0 while they agree (R158). -/
def VDIS_AT : Fld := ⟨2209, .mgr, 0, 8, 0, 0, 41, .hid, .M, 0, 0⟩
/-- Ticks summed in the present telemetry window (R159). -/
def TLM_N : Fld := ⟨2210, .rail, 0, 1, 0, 0, 17, .hid, .T, 0, 0⟩
/-- Tick in which the pre-start test of RAIL_r started (R63). -/
def PS_TICK : Fld := ⟨2211, .dev, 0, 48, 0, 0, 32, .hid, .S, 0, 0⟩
/-- Sum of the 64 samples of V1 (R63). -/
def PS_V1 : Fld := ⟨2212, .dev, 0, 48, 0, 0, 22, .hid, .S, 0, 0⟩
/-- Sum of the 64 samples of V2 (R63). -/
def PS_V2 : Fld := ⟨2213, .dev, 0, 48, 0, 0, 22, .hid, .S, 0, 0⟩
/-- Tick in which the running diagnosis was accepted (R154). -/
def DG_TICK : Fld := ⟨2214, .tile, 0, 1, 0, 0, 32, .hid, .T, 0, 0⟩
/-- Sum of the samples of level i, signed, codes (R154). -/
def DG_SUM : Fld := ⟨2215, .tile, 0, 4, 0, 0, 24, .hid, .T, 0, 0⟩
/-- Samples of level i (R154). -/
def DG_N : Fld := ⟨2216, .tile, 0, 4, 0, 0, 7, .hid, .T, 0, 0⟩
/-- Beat plus 1 at which the newest partial of tile t for group g came, entry 8t + g; 0 before the first (R163). -/
def PART_AT : Fld := ⟨2217, .mgr, 0, 32, 0, 0, 41, .hid, .M, 0, 0⟩
/-- The overcurrent of group g has isolated it since it began (R200). -/
def IG_ACTED : Fld := ⟨2218, .mgr, 0, 8, 0, 0, 1, .hid, .M, 0, 0⟩
/-! Chapter 07 -/
/-- Bit k: EN_(4n+k) is driven to its active level (R167). -/
def EN_ON : Fld := ⟨2219, .tile, 0, 1, 0, 0, 4, .hid, .T, 0, 0⟩
/-- The phase is held at mid, or discharged, by its rail's shut-down (R175). -/
def HELD : Fld := ⟨2220, .phase, 0, 1, 0, 0, 1, .hid, .T, 0, 0⟩
/-- The discharge driver waits for the current to return to 0 A (R176). -/
def DIS_REC : Fld := ⟨2221, .phase, 0, 1, 0, 0, 1, .hid, .T, 0, 0⟩
/-- Step of RAIL_r's enable: 0 none; 1 clock-readiness; 2 law copy; 3 diagnosis; 4 pre-start test; 5 soft-start; 6 PG (R172). -/
def EN_STAGE : Fld := ⟨2222, .dev, 0, 48, 0, 0, 3, .hid, .S, 0, 0⟩
/-- The enable belongs to the running sequence (R172). -/
def EN_BY_SEQ : Fld := ⟨2223, .dev, 0, 48, 0, 0, 1, .hid, .S, 0, 0⟩
/-- RAIL_r's turn-off: 0 none; 1 single; 2 by a stage of the running sequence (R175). -/
def OFF_STAGE : Fld := ⟨2224, .dev, 0, 48, 0, 0, 2, .hid, .S, 0, 0⟩
/-- Timeout of that turn-off, 100 µs units (R175). -/
def OFF_TMO : Fld := ⟨2225, .dev, 0, 48, 0, 0, 16, .hid, .S, 0, 0⟩
/-- Beat at which the turn-off started (R175). -/
def OFF_BEAT : Fld := ⟨2226, .dev, 0, 48, 0, 0, 40, .hid, .S, 0, 0⟩
/-- Step of the running sequence: 0 none; 1 delay before the stage; 2 stage in progress; 3 unwinding a stage (R173). -/
def SEQ_STEP : Fld := ⟨2227, .dev, 0, 1, 0, 0, 2, .hid, .S, 0, 0⟩
/-- Beat of the run command, or of the end of the last stage, or of the stage start (R173). -/
def SEQ_BEAT : Fld := ⟨2228, .dev, 0, 1, 0, 0, 40, .hid, .S, 0, 0⟩
/-- Bit r: the running sequence enabled RAIL_r (R173). -/
def SEQ_MINE : Fld := ⟨2229, .dev, 0, 1, 0, 0, 48, .hid, .S, 0, 0⟩
/-- Bit r: a finished stage of the running sequence enabled RAIL_r (R174). -/
def SEQ_DONE_ST : Fld := ⟨2230, .dev, 0, 1, 0, 0, 48, .hid, .S, 0, 0⟩
/-- A rail of the running stage, or its worker, failed (R173). -/
def SEQ_BAD : Fld := ⟨2231, .dev, 0, 1, 0, 0, 1, .hid, .S, 0, 0⟩
/-- The lane part of the running stage is done (R184). -/
def SEQ_LANE_OK : Fld := ⟨2232, .dev, 0, 1, 0, 0, 1, .hid, .S, 0, 0⟩
/-- A rail stopped by the running sequence ended stuck (R175). -/
def SEQ_STUCK : Fld := ⟨2233, .dev, 0, 1, 0, 0, 1, .hid, .S, 0, 0⟩
/-- Last RESULT of sequence s (R183). -/
def SEQ_LAST : Fld := ⟨2234, .dev, 0, 8, 0, 0, 4, .hid, .S, 0, 0⟩
/-- Last stage of sequence s (R183). -/
def SEQ_LASTG : Fld := ⟨2235, .dev, 0, 8, 0, 0, 4, .hid, .S, 0, 0⟩
/-- Causes of the snapshot in progress (R179). -/
def SNAP_CAUSE : Fld := ⟨2236, .dev, 0, 1, 0, 0, 7, .hid, .S, 0, 0⟩
/-- Triggering rail of the snapshot in progress (R179). -/
def SNAP_RAIL : Fld := ⟨2237, .dev, 0, 1, 0, 0, 6, .hid, .S, 63, 0⟩
/-- Tick T of the snapshot in progress (R179). -/
def SNAP_T : Fld := ⟨2238, .dev, 0, 1, 0, 0, 32, .hid, .S, 0, 0⟩
/-- Snapshot: 0 none; 1 T named; 2 latched (R179). -/
def SNAP_STAGE : Fld := ⟨2239, .dev, 0, 1, 0, 0, 2, .hid, .S, 0, 0⟩
/-- Snapshots since power-on (R180). -/
def SNAP_NO : Fld := ⟨2240, .dev, 0, 1, 0, 0, 32, .hid, .P, 0, 0⟩
/-- Newest code of slice A of local channel c (R143). -/
def CODE_A : Fld := ⟨2241, .tile, 0, 12, 0, 0, 12, .hid, .T, 0, 0⟩
/-- Newest code of slice B (R143). -/
def CODE_B : Fld := ⟨2242, .tile, 0, 12, 0, 0, 12, .hid, .T, 0, 0⟩
/-- FLT_N is held low by another package (R187). -/
def FLT_LOW : Fld := ⟨2243, .dev, 0, 1, 0, 0, 1, .hid, .N, 0, 0⟩
/-- Beat at which RAIL_r's enable was accepted (R30). -/
def EN_BEAT : Fld := ⟨2244, .dev, 0, 48, 0, 0, 40, .hid, .S, 0, 0⟩
/-- The first timeout of RAIL_r's turn-off has passed (R175). -/
def OFF_T1 : Fld := ⟨2245, .dev, 0, 48, 0, 0, 1, .hid, .S, 0, 0⟩
/-- Tick at which RAIL_r's turn-off started (R177). -/
def OFF_TICK : Fld := ⟨2246, .dev, 0, 48, 0, 0, 32, .hid, .S, 0, 0⟩
/-- Stage that starts next in the running sequence, or that its unwind stops (R173). -/
def SEQ_NEXT : Fld := ⟨2247, .dev, 0, 1, 0, 0, 5, .hid, .S, 0, 0⟩
/-- The master's listening period has ended (R186). -/
def LN_LISTEN : Fld := ⟨2248, .dev, 0, 1, 0, 0, 1, .hid, .S, 0, 0⟩
/-- Consecutive own beat frames read back with failed CRC (R186). -/
def LN_RB : Fld := ⟨2249, .dev, 0, 1, 0, 0, 2, .hid, .S, 0, 0⟩
/-- Worker granted the message field of the next cycle; 0 none (R182). -/
def LN_GRANT : Fld := ⟨2250, .dev, 0, 1, 0, 0, 3, .hid, .S, 0, 0⟩
/-- Command awaiting its reply: 0 none; 1 SQL_TX; 2 a stage's SEQ_RUN; 3 its SEQ_QUERY (R184). -/
def LN_SENT : Fld := ⟨2251, .dev, 0, 1, 0, 0, 2, .hid, .S, 0, 0⟩
/-- Resends of that command (R184). -/
def LN_TRIES : Fld := ⟨2252, .dev, 0, 1, 0, 0, 4, .hid, .S, 0, 0⟩
/-- The command is sent again in the next free field (R184). -/
def LN_AGAIN : Fld := ⟨2253, .dev, 0, 1, 0, 0, 1, .hid, .S, 0, 0⟩
/-- The command of SQL_TX waits for a message field (R184). -/
def LN_HOST : Fld := ⟨2254, .dev, 0, 1, 0, 0, 1, .hid, .S, 0, 0⟩
/-- Lane part of the running stage: 0 none; 1 SEQ_RUN to send; 2 SEQ_QUERY to send (R184). -/
def LN_STAGE : Fld := ⟨2255, .dev, 0, 1, 0, 0, 2, .hid, .S, 0, 0⟩
/-- DEST of the last command frame sent (R183). -/
def LN_DEST : Fld := ⟨2256, .dev, 0, 1, 0, 0, 4, .hid, .S, 0, 0⟩
/-- SEQ of the last command frame sent (R183). -/
def LN_SEQ : Fld := ⟨2257, .dev, 0, 1, 0, 0, 8, .hid, .S, 0, 0⟩
/-- OPCODE of the last command frame sent (R183). -/
def LN_OP : Fld := ⟨2258, .dev, 0, 1, 0, 0, 8, .hid, .S, 0, 0⟩
/-- ARGS of the last command frame sent, the first byte lowest (R183). -/
def LN_ARGS : Fld := ⟨2259, .dev, 0, 1, 0, 0, 56, .hid, .S, 0, 0⟩
/-- BEAT of the last beat frame sent (R183). -/
def LN_BEAT : Fld := ⟨2260, .dev, 0, 1, 0, 0, 40, .hid, .S, 0, 0⟩
/-- FLAGS of the last beat frame sent (R183). -/
def LN_FLAGS : Fld := ⟨2261, .dev, 0, 1, 0, 0, 4, .hid, .S, 0, 0⟩
/-- The duplicate memory holds a command (R184). -/
def LW_VALID : Fld := ⟨2262, .dev, 0, 1, 0, 0, 1, .hid, .S, 0, 0⟩
/-- SEQ of the last command accepted as a worker (R184). -/
def LW_SEQ : Fld := ⟨2263, .dev, 0, 1, 0, 0, 8, .hid, .S, 0, 0⟩
/-- ARGS of that command, the first byte lowest (R184). -/
def LW_ARGS : Fld := ⟨2264, .dev, 0, 1, 0, 0, 56, .hid, .S, 0, 0⟩
/-- The worker has a reply for the granted field (R182). -/
def LW_REPLY : Fld := ⟨2265, .dev, 0, 1, 0, 0, 1, .hid, .S, 0, 0⟩
/-- SEQ that reply echoes (R183). -/
def LW_RSEQ : Fld := ⟨2266, .dev, 0, 1, 0, 0, 8, .hid, .S, 0, 0⟩
/-- STATUS of that reply (R183). -/
def LW_STATUS : Fld := ⟨2267, .dev, 0, 1, 0, 0, 8, .hid, .S, 0, 0⟩
/-- DATA of that reply, the first byte lowest (R183). -/
def LW_DATA : Fld := ⟨2268, .dev, 0, 1, 0, 0, 56, .hid, .S, 0, 0⟩
/-- Microseconds for which the worker's beat still holds (R185). -/
def LN_HOLD : Fld := ⟨2269, .dev, 0, 1, 0, 0, 5, .hid, .S, 0, 0⟩
/-- SQL_OFS, the worker's beat offset (R185). -/
def SQL_OFS : Fld := ⟨2270, .dev, 0, 1, 0, 0, 40, .hid, .P, 0, 0⟩
/-- The start-up self-test of the tile failed (R299). -/
def TILE_FAIL : Fld := ⟨2271, .tile, 0, 1, 0, 0, 1, .hid, .S, 0, 0⟩
/-- Step of the tile's own shut-down order: 0 none; 1 delay; 2 stage (R171). -/
def AK_STEP : Fld := ⟨2272, .tile, 0, 1, 0, 0, 2, .hid, .S, 0, 0⟩
/-- Stage of it that runs, or starts next (R171). -/
def AK_NEXT : Fld := ⟨2273, .tile, 0, 1, 0, 0, 5, .hid, .S, 0, 0⟩
/-- Sequence it runs (R171). -/
def AK_SEQ : Fld := ⟨2274, .tile, 0, 1, 0, 0, 4, .hid, .S, 0, 0⟩
/-- Bit r: the active manager still has to enable RAIL_r after a thermal restart (R205). -/
def TSD_QUEUE : Fld := ⟨2275, .dev, 0, 1, 0, 0, 48, .hid, .S, 0, 0⟩
/-- Rail that it enables now (R205). -/
def TSD_CUR : Fld := ⟨2276, .dev, 0, 1, 0, 0, 6, .hid, .S, 63, 0⟩
/-- Classes that made this package assert FLT_N (R187). -/
def FLT_CAUSE : Fld := ⟨2277, .dev, 0, 1, 0, 0, 8, .hid, .S, 0, 0⟩
/-- Device ID (R183). -/
def DEV_ID : Fld := ⟨2278, .dev, 0, 1, 0, 0, 32, .hid, .N, 0, 0⟩
/-- CRC of the committed configuration image (R183). -/
def IMG_CRC : Fld := ⟨2279, .dev, 0, 1, 0, 0, 32, .hid, .S, 0, 0⟩
/-- Consecutive ticks in which the PG condition held (R169). -/
def PG_GOOD_N : Fld := ⟨2280, .rail, 0, 1, 0, 0, 18, .hid, .T, 0, 0⟩
/-- Consecutive ticks in which it failed (R169). -/
def PG_FAIL_N : Fld := ⟨2281, .rail, 0, 1, 0, 0, 15, .hid, .T, 0, 0⟩
/-- Bit k: level of PG_(4n+k) behind its deglitch (R167). -/
def PG_PIN : Fld := ⟨2282, .tile, 0, 1, 0, 0, 4, .hid, .T, 0, 0⟩
/-- Consecutive ticks in which PG_(4n+k) differed from that level (R167). -/
def PG_PIN_N : Fld := ⟨2283, .tile, 0, 4, 0, 0, 7, .hid, .T, 0, 0⟩
/-- Beat at which RAIL_r's enable began to wait for PG (R172). -/
def PGW_BEAT : Fld := ⟨2284, .dev, 0, 48, 0, 0, 40, .hid, .S, 0, 0⟩
/-- Tick at which the delay of the tile's own stage began (R171). -/
def AK_TICK : Fld := ⟨2285, .tile, 0, 1, 0, 0, 32, .hid, .T, 0, 0⟩
/-- The worker's beat at the start of the present lane cycle (R184). -/
def LW_START : Fld := ⟨2286, .dev, 0, 1, 0, 0, 40, .hid, .S, 0, 0⟩
/-- The worker's beat at the last valid beat frame (R185). -/
def LW_SEEN : Fld := ⟨2287, .dev, 0, 1, 0, 0, 40, .hid, .S, 0, 0⟩
/-- FLAGS of the last valid beat frame (R183). -/
def LW_FLAGS : Fld := ⟨2288, .dev, 0, 1, 0, 0, 4, .hid, .S, 0, 0⟩
/-- Beat at which the package became master (R186). -/
def LN_FROM : Fld := ⟨2289, .dev, 0, 1, 0, 0, 40, .hid, .S, 0, 0⟩
/-- CRC-8 of the last beat frame sent (R183). -/
def LN_BCRC : Fld := ⟨2290, .dev, 0, 1, 0, 0, 8, .hid, .S, 0, 0⟩
/-- CRC-16 of the last command frame sent (R183). -/
def LN_CRC : Fld := ⟨2291, .dev, 0, 1, 0, 0, 16, .hid, .S, 0, 0⟩
/-- CRC-16 of the worker's reply (R183). -/
def LW_CRC : Fld := ⟨2292, .dev, 0, 1, 0, 0, 16, .hid, .S, 0, 0⟩
/-! Chapter 08 -/
/-- Consecutive cycles in which the limiter acted (R194). -/
def OC_N : Fld := ⟨2293, .phase, 0, 1, 0, 0, 8, .hid, .T, 0, 0⟩
/-- Consecutive tile readings at or above the warning threshold (R203). -/
def TEMP_HI_W : Fld := ⟨2294, .tile, 0, 1, 0, 0, 4, .hid, .T, 0, 0⟩
/-- Consecutive tile readings below the warning threshold less its hysteresis (R203). -/
def TEMP_LO_W : Fld := ⟨2295, .tile, 0, 1, 0, 0, 4, .hid, .T, 0, 0⟩
/-- As TEMP_HI_W, for throttle (R203). -/
def TEMP_HI_T : Fld := ⟨2296, .tile, 0, 1, 0, 0, 4, .hid, .T, 0, 0⟩
/-- As TEMP_LO_W, for throttle (R203). -/
def TEMP_LO_T : Fld := ⟨2297, .tile, 0, 1, 0, 0, 4, .hid, .T, 0, 0⟩
/-- Consecutive tile readings below 135 °C (R205). -/
def COOL_N : Fld := ⟨2298, .tile, 0, 1, 0, 0, 4, .hid, .T, 0, 0⟩
/-- The tile is at warning (R203). -/
def WARN_ON : Fld := ⟨2299, .tile, 0, 1, 0, 0, 1, .hid, .T, 0, 0⟩
/-- The tile is at throttle (R203). -/
def THR_ON : Fld := ⟨2300, .tile, 0, 1, 0, 0, 1, .hid, .T, 0, 0⟩
/-- The tile is shut down (R205). -/
def TSD_ON : Fld := ⟨2301, .tile, 0, 1, 0, 0, 1, .hid, .S, 0, 0⟩
/-- Beat of the last shutdown (R205). -/
def TSD_BEAT : Fld := ⟨2302, .tile, 0, 1, 0, 0, 40, .hid, .S, 0, 0⟩
/-- Beats of the last three restarts, newest first, plus 2^40 where the entry is filled (R206). -/
def TSD_HIST : Fld := ⟨2303, .tile, 0, 3, 0, 0, 41, .hid, .S, 0, 0⟩
/-- Bit r: the shutdown turned off RAIL_r, to be enabled at the restart (R205). -/
def TSD_RAILS : Fld := ⟨2304, .tile, 0, 1, 0, 0, 48, .hid, .S, 0, 0⟩
/-- As TEMP_HI_W, for manager m (R203). -/
def M_HI_W : Fld := ⟨2305, .mgr, 0, 1, 0, 0, 4, .hid, .M, 0, 0⟩
/-- As TEMP_LO_W, for manager m (R203). -/
def M_LO_W : Fld := ⟨2306, .mgr, 0, 1, 0, 0, 4, .hid, .M, 0, 0⟩
/-- As TEMP_HI_T, for manager m (R203). -/
def M_HI_T : Fld := ⟨2307, .mgr, 0, 1, 0, 0, 4, .hid, .M, 0, 0⟩
/-- As TEMP_LO_T, for manager m (R203). -/
def M_LO_T : Fld := ⟨2308, .mgr, 0, 1, 0, 0, 4, .hid, .M, 0, 0⟩
/-- Manager m is at warning (R203). -/
def M_WARN : Fld := ⟨2309, .mgr, 0, 1, 0, 0, 1, .hid, .M, 0, 0⟩
/-- Manager m is at throttle (R203). -/
def M_THR : Fld := ⟨2310, .mgr, 0, 1, 0, 0, 1, .hid, .M, 0, 0⟩
/-- As TEMP_HI_W, for HPD (R203). -/
def H_HI_W : Fld := ⟨2311, .hpd, 0, 1, 0, 0, 4, .hid, .S, 0, 0⟩
/-- As TEMP_LO_W, for HPD (R203). -/
def H_LO_W : Fld := ⟨2312, .hpd, 0, 1, 0, 0, 4, .hid, .S, 0, 0⟩
/-- As TEMP_HI_T, for HPD (R203). -/
def H_HI_T : Fld := ⟨2313, .hpd, 0, 1, 0, 0, 4, .hid, .S, 0, 0⟩
/-- As TEMP_LO_T, for HPD (R203). -/
def H_LO_T : Fld := ⟨2314, .hpd, 0, 1, 0, 0, 4, .hid, .S, 0, 0⟩
/-- Consecutive HPD readings below 135 °C (R220). -/
def H_COOL : Fld := ⟨2315, .hpd, 0, 1, 0, 0, 4, .hid, .S, 0, 0⟩
/-- HPD is at warning (R203). -/
def H_WARN : Fld := ⟨2316, .hpd, 0, 1, 0, 0, 1, .hid, .S, 0, 0⟩
/-- HPD is at throttle (R203). -/
def H_THR : Fld := ⟨2317, .hpd, 0, 1, 0, 0, 1, .hid, .S, 0, 0⟩
/-- HPD is shut down (R220). -/
def H_TSD : Fld := ⟨2318, .hpd, 0, 1, 0, 0, 1, .hid, .S, 0, 0⟩
/-- Bit r: RAIL_r's phases are at mid after a lost channel or a shutdown, and go OFF 1 µs later (R199). -/
def LOST_MID : Fld := ⟨2319, .dev, 0, 1, 0, 0, 48, .hid, .S, 0, 0⟩
/-- Consecutive ticks in which the overvoltage condition held (R196). -/
def OV_N : Fld := ⟨2320, .rail, 0, 1, 0, 0, 8, .hid, .T, 0, 0⟩
/-- Consecutive ticks in which the undervoltage condition held and was not blanked (R196). -/
def UV_N : Fld := ⟨2321, .rail, 0, 1, 0, 0, 15, .hid, .T, 0, 0⟩
/-- Consecutive ticks in which the rail overcurrent condition held and was not blanked (R196). -/
def ROC_N : Fld := ⟨2322, .rail, 0, 1, 0, 0, 15, .hid, .T, 0, 0⟩
/-- Bits 0 to 2: overvoltage, undervoltage, overcurrent confirmed since the condition began (R196). -/
def CONF : Fld := ⟨2323, .rail, 0, 1, 0, 0, 3, .hid, .T, 0, 0⟩
/-- Consecutive ticks in which one channel alone held overvoltage (R195). -/
def CHD_OV_N : Fld := ⟨2324, .rail, 0, 1, 0, 0, 7, .hid, .T, 0, 0⟩
/-- Consecutive ticks in which one channel alone held undervoltage (R195). -/
def CHD_UV_N : Fld := ⟨2325, .rail, 0, 1, 0, 0, 7, .hid, .T, 0, 0⟩
/-- The soft-start of the rail's last enable has ended (R196). -/
def SS_DONE : Fld := ⟨2326, .rail, 0, 1, 0, 0, 1, .hid, .T, 0, 0⟩
/-- An overvoltage response has taken RAIL_r's phases to mid (R197). -/
def OV_OFF : Fld := ⟨2327, .dev, 0, 48, 0, 0, 1, .hid, .S, 0, 0⟩
/-- Tick at which RAIL_r's phases went to mid after a lost channel or a shutdown (R199). -/
def LOST_TICK : Fld := ⟨2328, .dev, 0, 48, 0, 0, 32, .hid, .S, 0, 0⟩
/-- A throttle decision waits for tick d + 16 (R204). -/
def THR_WAIT : Fld := ⟨2329, .rail, 0, 1, 0, 0, 1, .hid, .T, 0, 0⟩
/-- Beat at which die n (tiles 0 to 3, managers 4 and 5, HPD 6) came to throttle, plus 1; 0 below it (R207). -/
def THR_AT : Fld := ⟨2330, .dev, 0, 7, 0, 0, 41, .hid, .S, 0, 0⟩
/-- Beat at which the two sensors of die n began to differ by more than 10 °C, plus 1; 0 while they do not (R203). -/
def DIS_AT : Fld := ⟨2331, .dev, 0, 7, 0, 0, 41, .hid, .S, 0, 0⟩
/-! Chapter 09 -/
/-- VBB_SET in force, 10 mV units (R229). -/
def VBB_ACT : Fld := ⟨2332, .hpd, 0, 1, 0, 0, 11, .hid, .P, 1260, 0⟩
/-- Discharge switch: 0 off; 1 linear current control; 2 fully enhanced (R216). -/
def BAT_GD : Fld := ⟨2333, .hpd, 0, 1, 0, 0, 2, .hid, .P, 0, 0⟩
/-- Charge-block switch: on under ideal-diode control (R217). -/
def BAT_GC : Fld := ⟨2334, .hpd, 0, 1, 0, 0, 1, .hid, .P, 0, 0⟩
/-- Current limit of the discharge switch, A (R218). -/
def DSG_LIM : Fld := ⟨2335, .hpd, 0, 1, 0, 0, 12, .hid, .P, 250, 0⟩
/-- Charger's input current budget, 1/16 A (R212). -/
def CHG_BUDGET : Fld := ⟨2336, .hpd, 0, 1, 0, 0, 12, .hid, .P, 0, 0⟩
/-- Low side of the battery window: 0 normal; 1 cool; 2 cold (R223). -/
def BT_LOW : Fld := ⟨2337, .hpd, 0, 1, 0, 0, 2, .hid, .P, 0, 0⟩
/-- High side: 0 normal; 1 warm; 2 hot (R223). -/
def BT_HIGH : Fld := ⟨2338, .hpd, 0, 1, 0, 0, 2, .hid, .P, 0, 0⟩
/-- Safety timers, half milliseconds: 0 TTRK, 1 TPRE, 2 total (R224). -/
def CHG_TQ : Fld := ⟨2339, .hpd, 0, 3, 0, 0, 32, .hid, .P, 0, 0⟩
/-- A presence test runs (R226). -/
def PT_BUSY : Fld := ⟨2340, .hpd, 0, 1, 0, 0, 1, .hid, .P, 0, 0⟩
/-- WINDOW was warm or worse during the present CV phase (R235). -/
def CV_WARM : Fld := ⟨2341, .hpd, 0, 1, 0, 0, 1, .hid, .P, 0, 0⟩
/-- Bit k: buck phase k is stopped (R295). -/
def BUCK_STOP : Fld := ⟨2342, .hpd, 0, 1, 0, 0, 6, .hid, .P, 0, 0⟩
/-- Beat of HPD's last shutdown (R220). -/
def H_TSD_BEAT : Fld := ⟨2343, .hpd, 0, 1, 0, 0, 40, .hid, .S, 0, 0⟩
/-- As TSD_HIST, for HPD (R220). -/
def H_HIST : Fld := ⟨2344, .hpd, 0, 3, 0, 0, 41, .hid, .S, 0, 0⟩
/-- Newest VBAT reading of the holdup path, mV (R212). -/
def VBAT_NOW : Fld := ⟨2345, .hpd, 0, 1, 0, 0, 16, .hid, .P, 0, 0⟩
/-- Newest battery current, signed, mA, positive charging (R212). -/
def IBAT_NOW : Fld := ⟨2346, .hpd, 0, 1, 0, 0, 32, .hid, .P, 0, 0⟩
/-- Newest input current of the buck, 1/16 A (R212). -/
def I_BUCK : Fld := ⟨2347, .hpd, 0, 1, 0, 0, 16, .hid, .P, 0, 0⟩
/-- Charge current in force, mA (R222). -/
def CHG_I : Fld := ⟨2348, .hpd, 0, 1, 0, 0, 17, .hid, .P, 0, 0⟩
/-- Consecutive 10 µs readings of VAUX between 17.0 V and 34.0 V (R210). -/
def VAUX_N : Fld := ⟨2349, .hpd, 0, 1, 0, 0, 7, .hid, .P, 0, 0⟩
/-- 10 µs readings since VAUX became valid (R218). -/
def VOK_N : Fld := ⟨2350, .hpd, 0, 1, 0, 0, 18, .hid, .P, 0, 0⟩
/-- Consecutive 10 µs readings of VAUX below VAUX_SAG (R213). -/
def SAG_N : Fld := ⟨2351, .hpd, 0, 1, 0, 0, 4, .hid, .P, 0, 0⟩
/-- Consecutive 10 µs readings of the input current within 1 A of IIN_LIM (R213). -/
def ATLIM_N : Fld := ⟨2352, .hpd, 0, 1, 0, 0, 7, .hid, .P, 0, 0⟩
/-- 10 µs readings since the search's present step or pause began, or since the last search ended (R213). -/
def SRCH_N : Fld := ⟨2353, .hpd, 0, 1, 0, 0, 23, .hid, .P, 0, 0⟩
/-- Consecutive 10 µs readings of the battery current at the discharge limit (R217). -/
def DLIM_N : Fld := ⟨2354, .hpd, 0, 1, 0, 0, 10, .hid, .P, 0, 0⟩
/-- Consecutive 10 µs readings of it at the limit with VBAT below 6.0 V (R217). -/
def DSH_N : Fld := ⟨2355, .hpd, 0, 1, 0, 0, 4, .hid, .P, 0, 0⟩
/-- Consecutive 10 µs readings of excess drop across the closed pair (R217). -/
def FDEG_N : Fld := ⟨2356, .hpd, 0, 1, 0, 0, 7, .hid, .P, 0, 0⟩
/-- 10 µs readings since the last step of the handback ramp (R218). -/
def HB_N : Fld := ⟨2357, .hpd, 0, 1, 0, 0, 5, .hid, .P, 0, 0⟩
/-- Consecutive 10 µs readings in which the leaving condition of the present charge phase held (R222). -/
def CHG_N : Fld := ⟨2358, .hpd, 0, 1, 0, 0, 22, .hid, .P, 0, 0⟩
/-- Consecutive 10 µs readings of VBAT above VCV + 0.20 V (R221). -/
def BOV_N : Fld := ⟨2359, .hpd, 0, 1, 0, 0, 7, .hid, .P, 0, 0⟩
/-- Consecutive 10 µs readings in TRICKLE of VBAT below 2.0 V while the trickle current flows (R227). -/
def BSH_N : Fld := ⟨2360, .hpd, 0, 1, 0, 0, 18, .hid, .P, 0, 0⟩
/-- Consecutive 10 µs readings of the battery current above the charge current plus 5 A (R227). -/
def COC_N : Fld := ⟨2361, .hpd, 0, 1, 0, 0, 7, .hid, .P, 0, 0⟩
/-- Consecutive conversions of BTS above 1.75 V or below 0.05 V (R223). -/
def BTS_N : Fld := ⟨2362, .hpd, 0, 1, 0, 0, 7, .hid, .P, 0, 0⟩
/-- 10 µs readings since the presence test began, or since the last one ended (R226). -/
def PT_N : Fld := ⟨2363, .hpd, 0, 1, 0, 0, 20, .hid, .P, 0, 0⟩
/-- VBAT at the start of the presence test, mV (R226). -/
def PT_V0 : Fld := ⟨2364, .hpd, 0, 1, 0, 0, 16, .hid, .P, 0, 0⟩
/-- Lowest VBAT of the presence test, mV (R226). -/
def PT_MIN : Fld := ⟨2365, .hpd, 0, 1, 0, 0, 16, .hid, .P, 0, 0⟩
/-! Chapter 10 -/
/-- Raw count Q, signed, mA ms (R234). -/
def GG_Q : Fld := ⟨2366, .hpd, 0, 1, 0, 0, 64, .hid, .P, 0, 0⟩
/-- Consecutive frames with vec below V_EMPTY, up to 500; 501 after their anchor (R236). -/
def EMPTY_N : Fld := ⟨2367, .hpd, 0, 1, 0, 0, 16, .hid, .P, 0, 0⟩
/-- Consecutive frames with vec below V_KLOW (R246). -/
def KLOW_N : Fld := ⟨2368, .hpd, 0, 1, 0, 0, 16, .hid, .P, 0, 0⟩
/-- Consecutive samples of magnitude below 50 mA (R240). -/
def HIB_N : Fld := ⟨2369, .hpd, 0, 1, 0, 0, 17, .hid, .P, 0, 0⟩
/-- The charger entered DONE in the present frame and the frame is a full anchor (R235). -/
def FULL_PEND : Fld := ⟨2370, .hpd, 0, 1, 0, 0, 1, .hid, .P, 0, 0⟩
/-- A full anchor has occurred since FCC was last reset (R236). -/
def FULL_SEEN : Fld := ⟨2371, .hpd, 0, 1, 0, 0, 1, .hid, .P, 0, 0⟩
/-- Charge discharged since the full anchor, mA ms (R238). -/
def RUN_ACC : Fld := ⟨2372, .hpd, 0, 1, 0, 0, 48, .hid, .P, 0, 0⟩
/-- Charge discharged since the last increment of CYCLE_COUNT, mA ms (R239). -/
def CYC_ACC : Fld := ⟨2373, .hpd, 0, 1, 0, 0, 48, .hid, .P, 0, 0⟩
/-- Discharged charge not yet counted in THRU, mA ms (R239). -/
def THRU_ACC : Fld := ⟨2374, .hpd, 0, 1, 0, 0, 22, .hid, .P, 0, 0⟩
/-- VBAT of the last two frames, newest first, mV (R237). -/
def PREV_V : Fld := ⟨2375, .hpd, 0, 2, 0, 0, 16, .hid, .P, 0, 0⟩
/-- IBAT of the last two frames, mA (R237). -/
def PREV_I : Fld := ⟨2376, .hpd, 0, 2, 0, 0, 32, .hid, .P, 0, 0⟩
/-- PACK_ID of the pack counted (R245). -/
def PACK_ID : Fld := ⟨2377, .hpd, 0, 1, 0, 0, 64, .hid, .P, 0, 0⟩
/-- The pack was removed; the next present pack is a swap (R245). -/
def SWAP_PEND : Fld := ⟨2378, .hpd, 0, 1, 0, 0, 1, .hid, .P, 0, 0⟩
/-- Exchange: 0 none; 1 GET_ID sent; 2 CHALLENGE sent (R248). -/
def AUTH_RUN : Fld := ⟨2379, .hpd, 0, 1, 0, 0, 2, .hid, .P, 0, 0⟩
/-- A trigger waits behind the running exchange (R249). -/
def AUTH_Q : Fld := ⟨2380, .hpd, 0, 1, 0, 0, 1, .hid, .P, 0, 0⟩
/-- Nonce of the running exchange (R248). -/
def AUTH_NONCE : Fld := ⟨2381, .hpd, 0, 1, 0, 0, 128, .hid, .P, 0, 0⟩
/-- Sequence number of the last gauge cell stored (R241). -/
def GG_SEQ : Fld := ⟨2382, .mgr, 0, 1, 0, 0, 32, .hid, .K, 0, 0⟩
/-- Gauge cell that the next store writes (R242). -/
def GG_SLOT : Fld := ⟨2383, .mgr, 0, 1, 0, 0, 2, .hid, .K, 0, 0⟩
/-- K_ROOT of the manager fuse array (R248). -/
def K_ROOT : Fld := ⟨2384, .dev, 0, 1, 0, 0, 256, .hid, .N, 0, 0⟩
/-- Frames since the gauge woke, up to 2: the entries of PREV_V and PREV_I that stand 1 ms apart (R237). -/
def PREV_N : Fld := ⟨2385, .hpd, 0, 1, 0, 0, 2, .hid, .P, 0, 0⟩
/-- Frames since the last periodic store (R242). -/
def STORE_N : Fld := ⟨2386, .hpd, 0, 1, 0, 0, 16, .hid, .P, 0, 0⟩
/-- 10 µs readings since the last request on the pack line, or since the last verdict (R249). -/
def AUTH_N : Fld := ⟨2387, .hpd, 0, 1, 0, 0, 29, .hid, .P, 0, 0⟩
/-- Last request on the pack line, the first byte lowest (R247). -/
def PL_TX : Fld := ⟨2388, .hpd, 0, 1, 0, 0, 160, .hid, .P, 0, 0⟩
/-! Chapter 11 -/
/-- MET is powered and runs (R251). -/
def MET_UP : Fld := ⟨2389, .met, 0, 1, 0, 0, 1, .hid, .N, 0, 0⟩
/-- METER_FAULT (R253). -/
def MET_FAULTED : Fld := ⟨2390, .met, 0, 1, 0, 0, 1, .hid, .N, 0, 0⟩
/-- Serial number fuses (R275). -/
def MET_SERIAL : Fld := ⟨2391, .met, 0, 1, 0, 0, 64, .hid, .N, 0, 0⟩
/-- The serial number passed its check at the last sensing (R253). -/
def MET_SERIAL_OK : Fld := ⟨2392, .met, 0, 1, 0, 0, 1, .hid, .N, 0, 0⟩
/-- Signing key fuses; 0 is blank (R275). -/
def MET_KEY : Fld := ⟨2393, .met, 0, 1, 0, 0, 256, .hid, .N, 0, 0⟩
/-- Lock bit (R275). -/
def MET_LOCKED : Fld := ⟨2394, .met, 0, 1, 0, 0, 1, .hid, .N, 0, 0⟩
/-- Audit steps blown, of 8 (R275). -/
def MET_AUDIT : Fld := ⟨2395, .met, 0, 1, 0, 0, 4, .hid, .N, 0, 0⟩
/-- Loss steps blown, of 16 (R274). -/
def MET_LOSS : Fld := ⟨2396, .met, 0, 1, 0, 0, 5, .hid, .N, 0, 0⟩
/-- Calibration bank n: 0 blank; 1 its CRC passes; 2 it fails (R275). -/
def MB_STATE : Fld := ⟨2397, .met, 0, 4, 0, 0, 2, .hid, .N, 0, 0⟩
/-- Bank n: rated current, A (R275). -/
def MB_I_R : Fld := ⟨2398, .met, 0, 4, 0, 0, 16, .hid, .N, 0, 0⟩
/-- Bank n: rated voltage, V (R275). -/
def MB_U_R : Fld := ⟨2399, .met, 0, 4, 0, 0, 16, .hid, .N, 0, 0⟩
/-- Bank n: current full scale, 0.01 A (R275). -/
def MB_FS_I : Fld := ⟨2400, .met, 0, 4, 0, 0, 32, .hid, .N, 0, 0⟩
/-- Bank n: current gain trim (R275). -/
def MB_GAIN_I : Fld := ⟨2401, .met, 0, 4, 0, 0, 16, .hid, .N, 0, 0⟩
/-- Bank n: current offset trim (R275). -/
def MB_OFS_I : Fld := ⟨2402, .met, 0, 4, 0, 0, 16, .hid, .N, 0, 0⟩
/-- Bank n: voltage full scale, 0.01 V (R275). -/
def MB_FS_V : Fld := ⟨2403, .met, 0, 4, 0, 0, 32, .hid, .N, 0, 0⟩
/-- Bank n: voltage gain trim (R275). -/
def MB_GAIN_V : Fld := ⟨2404, .met, 0, 4, 0, 0, 16, .hid, .N, 0, 0⟩
/-- Bank n: voltage offset trim (R275). -/
def MB_OFS_V : Fld := ⟨2405, .met, 0, 4, 0, 0, 16, .hid, .N, 0, 0⟩
/-- Bank n: starting current, 0.1 % (R275). -/
def MB_I_START : Fld := ⟨2406, .met, 0, 4, 0, 0, 8, .hid, .N, 0, 0⟩
/-- Bank n: PULSE_SRC (R275). -/
def MB_PULSE : Fld := ⟨2407, .met, 0, 4, 0, 0, 2, .hid, .N, 0, 0⟩
/-- Bank n: its CRC (R275). -/
def MB_CRC : Fld := ⟨2408, .met, 0, 4, 0, 0, 32, .hid, .N, 0, 0⟩
/-- Import register, mWh (R260). -/
def E_IMP : Fld := ⟨2409, .met, 0, 1, 0, 0, 64, .hid, .N, 0, 0⟩
/-- Export register, mWh (R260). -/
def E_EXP : Fld := ⟨2410, .met, 0, 1, 0, 0, 64, .hid, .N, 0, 0⟩
/-- Import remainder, nWh (R260). -/
def REM_IMP : Fld := ⟨2411, .met, 0, 1, 0, 0, 20, .hid, .N, 0, 0⟩
/-- Export remainder, nWh (R260). -/
def REM_EXP : Fld := ⟨2412, .met, 0, 1, 0, 0, 20, .hid, .N, 0, 0⟩
/-- Operating seconds (R263). -/
def OPSEC : Fld := ⟨2413, .met, 0, 1, 0, 0, 64, .hid, .N, 0, 0⟩
/-- Samples in the running operating second (R263). -/
def OPSEC_SUB : Fld := ⟨2414, .met, 0, 1, 0, 0, 12, .hid, .N, 0, 0⟩
/-- REC_NO of the next record (R263). -/
def NEXT_REC : Fld := ⟨2415, .met, 0, 1, 0, 0, 32, .hid, .N, 0, 0⟩
/-- Power-ups since first start (R264). -/
def PWRUP_TOTAL : Fld := ⟨2416, .met, 0, 1, 0, 0, 32, .hid, .N, 0, 0⟩
/-- Pulse accumulator, nWh (R262). -/
def PULSE_ACC : Fld := ⟨2417, .met, 0, 1, 0, 0, 32, .hid, .N, 0, 0⟩
/-- Energy that the next grid instant adds, nWh (R262). -/
def HALF_NOW : Fld := ⟨2418, .met, 0, 1, 0, 0, 32, .hid, .N, 0, 0⟩
/-- Energy that the grid instant after it adds, nWh (R262). -/
def HALF_NEXT : Fld := ⟨2419, .met, 0, 1, 0, 0, 32, .hid, .N, 0, 0⟩
/-- Pulses emitted since first start (R269). -/
def PULSES : Fld := ⟨2420, .met, 0, 1, 0, 0, 32, .hid, .N, 0, 0⟩
/-- Level of MET_PULSE (R262). -/
def PULSE_PIN : Fld := ⟨2421, .met, 0, 1, 0, 0, 1, .hid, .N, 0, 0⟩
/-- Grid instants since the last pulse started, at most 255 (R262). -/
def PULSE_AGE : Fld := ⟨2422, .met, 0, 1, 0, 0, 8, .hid, .N, 255, 0⟩
/-- Length of the running pulse, 62.5 µs units (R262). -/
def PULSE_LEN : Fld := ⟨2423, .met, 0, 1, 0, 0, 8, .hid, .N, 0, 0⟩
/-- E_IMP of the previous interval record (R264). -/
def PREV_IMP : Fld := ⟨2424, .met, 0, 1, 0, 0, 64, .hid, .N, 0, 0⟩
/-- E_EXP of the previous interval record (R264). -/
def PREV_EXP : Fld := ⟨2425, .met, 0, 1, 0, 0, 64, .hid, .N, 0, 0⟩
/-- PWRUP_TOTAL of the previous interval record (R264). -/
def PREV_PWRUP : Fld := ⟨2426, .met, 0, 1, 0, 0, 32, .hid, .N, 0, 0⟩
/-- FLAGS bits 1 and 3 to 6 of the running interval (R264). -/
def INT_FLAGS : Fld := ⟨2427, .met, 0, 1, 0, 0, 7, .hid, .N, 0, 0⟩
/-- The interval has had a sample (R264). -/
def INT_ANY : Fld := ⟨2428, .met, 0, 1, 0, 0, 1, .hid, .N, 0, 0⟩
/-- Lowest voltage, 0.1 V (R264). -/
def INT_VMIN : Fld := ⟨2429, .met, 0, 1, 0, 0, 16, .hid, .N, 0, 0⟩
/-- Highest voltage, 0.1 V (R264). -/
def INT_VMAX : Fld := ⟨2430, .met, 0, 1, 0, 0, 16, .hid, .N, 0, 0⟩
/-- Largest import current, 0.1 A (R264). -/
def INT_IPK_IMP : Fld := ⟨2431, .met, 0, 1, 0, 0, 16, .hid, .N, 0, 0⟩
/-- Largest export current, 0.1 A (R264). -/
def INT_IPK_EXP : Fld := ⟨2432, .met, 0, 1, 0, 0, 16, .hid, .N, 0, 0⟩
/-- Newest voltage, 10 mV (R269). -/
def LIVE_V : Fld := ⟨2433, .met, 0, 1, 0, 0, 32, .hid, .N, 0, 0⟩
/-- Newest current, mA (R269). -/
def LIVE_I : Fld := ⟨2434, .met, 0, 1, 0, 0, 32, .hid, .N, 0, 0⟩
/-- Newest power, W (R269). -/
def LIVE_P : Fld := ⟨2435, .met, 0, 1, 0, 0, 32, .hid, .N, 0, 0⟩
/-- The newest sample was clamped (R269). -/
def OVR_NOW : Fld := ⟨2436, .met, 0, 1, 0, 0, 1, .hid, .N, 0, 0⟩
/-- Consecutive clamped samples, at most 4 (R258). -/
def OVR_RUN : Fld := ⟨2437, .met, 0, 1, 0, 0, 3, .hid, .N, 0, 0⟩
/-- The running second has counted its overrange second (R258). -/
def OVR_SEC : Fld := ⟨2438, .met, 0, 1, 0, 0, 1, .hid, .N, 0, 0⟩
/-- Stream of current, of voltage: stuck (R258). -/
def STUCK : Fld := ⟨2439, .met, 0, 2, 0, 0, 1, .hid, .N, 0, 0⟩
/-- Stuck samples towards the next MOD_FAULT second (R269). -/
def MOD_SUB : Fld := ⟨2440, .met, 0, 1, 0, 0, 12, .hid, .N, 0, 0⟩
/-- MET runs from its internal oscillator (R252). -/
def CLK_INT : Fld := ⟨2441, .met, 0, 1, 0, 0, 1, .hid, .N, 0, 0⟩
/-- Consecutive passed crystal checks, ms (R252). -/
def CLK_PASS : Fld := ⟨2442, .met, 0, 1, 0, 0, 7, .hid, .N, 0, 0⟩
/-- Milliseconds on the internal oscillator towards the next second (R252). -/
def CLK_SUB : Fld := ⟨2443, .met, 0, 1, 0, 0, 10, .hid, .N, 0, 0⟩
/-- Frame number since MET's start (R269). -/
def FRAME_NO : Fld := ⟨2444, .met, 0, 1, 0, 0, 32, .hid, .N, 0, 0⟩
/-- HEALTH words 0 to 6: REQ_DROP, SELF_RESETS, TALLY_CRC_FAIL, TALLY_DISAGREE, MOD_FAULT, OVERRANGE and CLOCK_FAULT seconds (R269). -/
def MET_HEALTH : Fld := ⟨2445, .met, 0, 7, 0, 0, 32, .hid, .N, 0, 0⟩
/-- Sequence number of the last tally store (R270). -/
def CELL_SEQ : Fld := ⟨2446, .met, 0, 1, 0, 0, 32, .hid, .N, 0, 0⟩
/-- Cell that the next tally store writes (R271). -/
def CELL_NEXT : Fld := ⟨2447, .met, 0, 1, 0, 0, 2, .hid, .N, 0, 0⟩
/-- A tally store was interrupted (R255). -/
def CELL_CUT : Fld := ⟨2448, .met, 0, 1, 0, 0, 1, .hid, .N, 0, 0⟩
/-- Request of manager m that waits for its answer: CODE + 1; 0 none (R267). -/
def MET_ASKED : Fld := ⟨2449, .met, 0, 2, 0, 0, 3, .hid, .N, 0, 0⟩
/-- Replay pointer of manager m: a REC_NO (R267). -/
def MET_PTR : Fld := ⟨2450, .met, 0, 2, 0, 0, 32, .hid, .N, 0, 0⟩
/-- The last-record area of manager m holds a record (R268). -/
def MET_LAST : Fld := ⟨2451, .seqr, 0, 1, 0, 0, 1, .hid, .M, 0, 0⟩
/-- Consecutive samples of the stream of current, of voltage, with a filtered density below 2 % or above 98 % (R258). -/
def DENS_N : Fld := ⟨2452, .met, 0, 2, 0, 0, 6, .hid, .N, 0, 0⟩
/-- Consecutive samples of the stream without a transition (R258). -/
def FLAT_N : Fld := ⟨2453, .met, 0, 2, 0, 0, 6, .hid, .N, 0, 0⟩
/-- Consecutive samples at which both streams were free of the stuck condition (R258). -/
def FREE_N : Fld := ⟨2454, .met, 0, 1, 0, 0, 6, .hid, .N, 0, 0⟩
/-- Samples since the last tally store (R271). -/
def TALLY_N : Fld := ⟨2455, .met, 0, 1, 0, 0, 9, .hid, .N, 0, 0⟩
/-- Beat of manager m at its last strobe (R276). -/
def MREQ_AT : Fld := ⟨2456, .seqr, 0, 1, 0, 0, 40, .hid, .M, 0, 0⟩
/-- Beat of manager m at its last valid MET frame (R268). -/
def MLINK_AT : Fld := ⟨2457, .seqr, 0, 1, 0, 0, 40, .hid, .M, 0, 0⟩
/-! Chapter 12 -/
/-- Segments still to record after the trigger (R301). -/
def CAP_LEFT : Fld := ⟨2458, .tile, 0, 1, 0, 0, 4, .hid, .T, 0, 0⟩
/-- Capture runs out after a trigger (R301). -/
def CAP_TRIGD : Fld := ⟨2459, .tile, 0, 1, 0, 0, 1, .hid, .T, 0, 0⟩
/-- The tile has announced the loss of its half of the rail (R279). -/
def HALF_DOWN : Fld := ⟨2460, .rail, 0, 1, 0, 0, 1, .hid, .T, 0, 0⟩
/-- Cause that announcement gave (R279). -/
def MINE_CAUSE : Fld := ⟨2461, .rail, 0, 1, 0, 0, 4, .hid, .T, 0, 0⟩
/-- A rejoin of RAIL_r is in progress (R284). -/
def RJ_BUSY : Fld := ⟨2462, .dev, 0, 48, 0, 0, 1, .hid, .S, 0, 0⟩
/-- Tile whose half returns (R284). -/
def RJ_TILE : Fld := ⟨2463, .dev, 0, 48, 0, 0, 2, .hid, .S, 0, 0⟩
/-- First phase that the rejoin of RAIL_r has not probed yet (R284). -/
def RJ_POS : Fld := ⟨2464, .dev, 0, 48, 0, 0, 7, .hid, .S, 0, 0⟩
/-- The probes are over; the roles swap at the named tick (R284). -/
def RJ_SWAP : Fld := ⟨2465, .dev, 0, 48, 0, 0, 1, .hid, .S, 0, 0⟩
/-- State a phase held before its rejoin probe (R284). -/
def PRE_ST : Fld := ⟨2466, .phase, 0, 1, 0, 0, 3, .hid, .T, 0, 0⟩
/-- CAUSE it held then (R284). -/
def PRE_CAUSE : Fld := ⟨2467, .phase, 0, 1, 0, 0, 4, .hid, .T, 0, 0⟩
/-- The tile had a tile reset and its engine memories and parameter blocks are not yet rewritten (R284). -/
def BLK_BAD : Fld := ⟨2468, .tile, 0, 1, 0, 0, 1, .hid, .S, 0, 0⟩
/-- The tile had a tile reset since the rail's half was lost (R284). -/
def LEAD_RST : Fld := ⟨2469, .rail, 0, 1, 0, 0, 1, .hid, .S, 0, 0⟩
/-- The VBIAS input of manager m is above its reset threshold (R438). -/
def POWERED : Fld := ⟨2470, .mgr, 0, 1, 0, 0, 1, .hid, .N, 0, 0⟩
/-- Manager m, as shadow, has recognised a takeover trigger (R290). -/
def TRIG : Fld := ⟨2471, .mgr, 0, 1, 0, 0, 1, .hid, .M, 0, 0⟩
/-- A heartbeat of manager m travels to its peer (R288). -/
def HB_SENT : Fld := ⟨2472, .mgr, 0, 1, 0, 0, 1, .hid, .M, 0, 0⟩
/-- Its beat (R288). -/
def HB_BEAT : Fld := ⟨2473, .mgr, 0, 1, 0, 0, 40, .hid, .M, 0, 0⟩
/-- Its BEAT_EPOCH (R34). -/
def HB_EPOCH : Fld := ⟨2474, .mgr, 0, 1, 0, 0, 16, .hid, .M, 0, 0⟩
/-- Its role (R288). -/
def HB_ROLE : Fld := ⟨2475, .mgr, 0, 1, 0, 0, 1, .hid, .M, 0, 0⟩
/-- Its role epoch (R288). -/
def HB_REPOCH : Fld := ⟨2476, .mgr, 0, 1, 0, 0, 8, .hid, .M, 0, 0⟩
/-- Its health word: bit 0 an explicit fault, bit 1 SHADOW_READY (R288). -/
def HB_HEALTH : Fld := ⟨2477, .mgr, 0, 1, 0, 0, 2, .hid, .M, 0, 0⟩
/-- Its sequence count (R288). -/
def HB_SEQ : Fld := ⟨2478, .mgr, 0, 1, 0, 0, 8, .hid, .M, 0, 0⟩
/-- Sweeps in a row without a difference, at most 10 (R293). -/
def MIRR_RUN : Fld := ⟨2479, .mgr, 0, 1, 0, 0, 4, .hid, .M, 0, 0⟩
/-- Logic self-test that SHADOW_READY asks of manager m: 0 none; 1 to come; 2 passed; 3 failed (R293). -/
def ST_STATE : Fld := ⟨2480, .mgr, 0, 1, 0, 0, 2, .hid, .S, 0, 0⟩
/-- Target of the running logic self-test plus 1; 0 none (R299). -/
def LBIST_ON : Fld := ⟨2481, .dev, 0, 1, 0, 0, 3, .hid, .S, 0, 0⟩
/-- Signature of the last logic self-test (R299). -/
def LBIST_SIG : Fld := ⟨2482, .dev, 0, 1, 0, 0, 64, .hid, .S, 0, 0⟩
/-- Since the last manager reset of manager m: the shadow passed its logic self-test (R300). -/
def ST_SHADOW : Fld := ⟨2483, .mgr, 0, 1, 0, 0, 1, .hid, .M, 0, 0⟩
/-- Bit t: the spare engine of tile t passed an Awl probe (R300). -/
def ST_SPARE : Fld := ⟨2484, .mgr, 0, 1, 0, 0, 4, .hid, .M, 0, 0⟩
/-- Bit t: tile t completed a rotation without CMP_FAIL (R300). -/
def ST_ROT : Fld := ⟨2485, .mgr, 0, 1, 0, 0, 4, .hid, .M, 0, 0⟩
/-- Bytes written of the segment NEXT (R301). -/
def CAP_OFF : Fld := ⟨2486, .tile, 0, 1, 0, 0, 17, .hid, .T, 0, 0⟩
/-- The ring of segments has been filled once (R301). -/
def CAP_FULL : Fld := ⟨2487, .tile, 0, 1, 0, 0, 1, .hid, .T, 0, 0⟩
/-- SHA-256 of the management firmware that manager m runs (R427). -/
def FW_HASH : Fld := ⟨2488, .mgr, 0, 1, 0, 0, 256, .hid, .S, 0, 0⟩
/-- Ticks since the last valid beat frame of either manager (R294). -/
def SILENT_N : Fld := ⟨2489, .tile, 0, 1, 0, 0, 34, .hid, .T, 0, 0⟩
/-- Tick that the active manager has named for the role swap of RAIL_r (R284). -/
def RJ_AT : Fld := ⟨2490, .dev, 0, 48, 0, 0, 32, .hid, .S, 0, 0⟩
/-- Microseconds of manager m since its last valid heartbeat or miss (R288). -/
def HB_WAIT : Fld := ⟨2491, .mgr, 0, 1, 0, 0, 8, .hid, .M, 0, 0⟩
/-- Microseconds of manager m since its heartbeat sender last re-armed its deadman (R289). -/
def ROLE_WAIT : Fld := ⟨2492, .mgr, 0, 1, 0, 0, 8, .hid, .M, 0, 0⟩
/-- Beat of manager m at its last claim (R291). -/
def CLAIM_BEAT : Fld := ⟨2493, .mgr, 0, 1, 0, 0, 40, .hid, .M, 0, 0⟩
/-- Consecutive 1 ms gauge frames with KERB_LOW while the pair carries VBB or hands it back (R304). -/
def KSOC_N : Fld := ⟨2494, .hpd, 0, 1, 0, 0, 8, .hid, .S, 0, 0⟩
/-- Beat at which the logic self-test began (R299). -/
def LBIST_AT : Fld := ⟨2495, .dev, 0, 1, 0, 0, 40, .hid, .S, 0, 0⟩
/-! Chapter 13 -/
/-- SEQ of the newest record (R313). -/
def EV_SEQ : Fld := ⟨2496, .dev, 0, 1, 0, 0, 31, .hid, .S, 0, 0⟩
/-- Edges counted while source n is active, at most 255 (R311). -/
def EV_CNT : Fld := ⟨2497, .dev, 0, 640, 0, 0, 8, .hid, .S, 0, 0⟩
/-- Beat of the first counted edge, or of the held occurrence, of source n (R311). -/
def EV_BEAT : Fld := ⟨2498, .dev, 0, 640, 0, 0, 40, .hid, .S, 0, 0⟩
/-- SUB of the same (R311). -/
def EV_SUB : Fld := ⟨2499, .dev, 0, 640, 0, 0, 7, .hid, .S, 0, 0⟩
/-- DETAIL of the newest report of source n (R309). -/
def EV_DET : Fld := ⟨2500, .dev, 0, 640, 0, 0, 16, .hid, .S, 0, 0⟩
/-- Settings of the active source n in force until its completion, plus 2^17 where a write waits: SENSE, CLASS, PRIO, FOLD_CLS, HOST from bit 0 up (R325). -/
def EV_OLD : Fld := ⟨2501, .dev, 0, 640, 0, 0, 18, .hid, .S, 0, 0⟩
/-- Bit b of word w: source 32w + b holds an occurrence that found no space (R322). -/
def EV_HELD : Fld := ⟨2502, .dev, 0, 20, 0, 0, 32, .hid, .S, 0, 0⟩
/-- Bit b of word w: the record of source 32w + b was taken into a window (R324). -/
def EV_TAKEN : Fld := ⟨2503, .dev, 0, 20, 0, 0, 32, .hid, .S, 0, 0⟩
/-- Word j of the window of initiator w, entry 8w + j (R316). -/
def EV_TREC : Fld := ⟨2504, .mgr, 0, 48, 0, 0, 32, .hid, .S, 0, 0⟩
/-- Word j of the host-queue snapshot of initiator w, entry 8w + j (R323). -/
def EV_HREC : Fld := ⟨2505, .mgr, 0, 48, 0, 0, 32, .hid, .S, 0, 0⟩
/-- The safety core sleeps (R319). -/
def SC_SLEEP : Fld := ⟨2506, .dev, 0, 1, 0, 0, 1, .hid, .S, 0, 0⟩
/-- Next slot of the safety queue (R318). -/
def SQ_TAIL : Fld := ⟨2507, .dev, 0, 1, 0, 0, 6, .hid, .S, 0, 0⟩
/-- Program counter at which core c went to sleep; entry 3 is the safety core (R383). -/
def CORE_PC : Fld := ⟨2508, .dev, 0, 4, 0, 0, 32, .hid, .S, 0, 0⟩
/-- Bit b of word w: the condition of source 32w + b lasts until the completion of the source (R309). -/
def EV_ONCE : Fld := ⟨2509, .dev, 0, 20, 0, 0, 32, .hid, .S, 0, 0⟩
/-! Chapter 14 -/
/-- The integrity decision of this start has been taken; STATUS reads OFF before it (R329). -/
def BOOT : Fld := ⟨2510, .dev, 0, 1, 0, 0, 1, .hid, .P, 0, 0⟩
/-- RST_N is held low (R349). -/
def RST_LOW : Fld := ⟨2511, .dev, 0, 1, 0, 0, 1, .hid, .N, 0, 0⟩
/-- VIO has been within its operating range for 100 µs (R440). -/
def VIO_OK : Fld := ⟨2512, .dev, 0, 1, 0, 0, 1, .hid, .N, 0, 0⟩
/-- 9 × D2 + 3 × D1 + D0 of the ADDR pins (R386). -/
def ADDR_PINS : Fld := ⟨2513, .dev, 0, 1, 0, 0, 5, .hid, .N, 0, 0⟩
/-- Manager m has completed its fuse sensing and sends the broadcast block (R331). -/
def SENSED : Fld := ⟨2514, .mgr, 0, 1, 0, 0, 1, .hid, .S, 0, 0⟩
/-- Verdict on the broadcast: 0 none; 1 pass; 2 fail (R331). -/
def BC_VERDICT : Fld := ⟨2515, .tile, 0, 1, 0, 0, 2, .hid, .T, 0, 0⟩
/-- HPD's verdict, as BC_VERDICT (R331). -/
def BC_HPD : Fld := ⟨2516, .hpd, 0, 1, 0, 0, 2, .hid, .P, 0, 0⟩
/-- The tile has failed the CRC of its own fuse array (R333). -/
def TILE_CRC_BAD : Fld := ⟨2517, .tile, 0, 1, 0, 0, 1, .hid, .T, 0, 0⟩
/-- The tile has completed skew calibration since its last reset (R339). -/
def SKEW_OK : Fld := ⟨2518, .tile, 0, 1, 0, 0, 1, .hid, .T, 0, 0⟩
/-- The image is committed (R339). -/
def COMMITTED : Fld := ⟨2519, .dev, 0, 1, 0, 0, 1, .hid, .S, 0, 0⟩
/-- AUTO_RUN of the committed image (R339). -/
def ARM_AUTO : Fld := ⟨2520, .dev, 0, 1, 0, 0, 1, .hid, .S, 0, 0⟩
/-- ARM_TMO of the committed image, ms (R339). -/
def ARM_TMO : Fld := ⟨2521, .dev, 0, 1, 0, 0, 16, .hid, .S, 0, 0⟩
/-- Beat of ARM entry (R339). -/
def ARM_BEAT : Fld := ⟨2522, .dev, 0, 1, 0, 0, 40, .hid, .S, 0, 0⟩
/-- The gauge restore is complete (R339). -/
def GG_READY : Fld := ⟨2523, .dev, 0, 1, 0, 0, 1, .hid, .P, 0, 0⟩
/-- The K fields have stored copies (R338). -/
def KSTORED : Fld := ⟨2524, .dev, 0, 1, 0, 0, 1, .hid, .N, 0, 0⟩
/-- Slot the load tries first: 1 A; 2 B (R334). -/
def FIRST_SLOT : Fld := ⟨2525, .dev, 0, 1, 0, 0, 2, .hid, .S, 0, 0⟩
/-- Beat of the PARK_ENTRY record (R383). -/
def PARK_BEAT : Fld := ⟨2526, .dev, 0, 1, 0, 0, 40, .hid, .S, 0, 0⟩
/-- Wake sources that have become active, in the bit order of PARK_CFG (R354). -/
def WAKE_PEND : Fld := ⟨2527, .dev, 0, 1, 0, 0, 5, .hid, .S, 0, 0⟩
/-- Capacity C of the configuration flash in bytes, as its SFDP table gives it (R334). -/
def FL_SIZE : Fld := ⟨2528, .dev, 0, 1, 0, 0, 32, .hid, .N, 0, 0⟩
/-- The SFDP table lists a 4 KiB erase type (R413). -/
def FL_ERASE : Fld := ⟨2529, .dev, 0, 1, 0, 0, 1, .hid, .N, 0, 0⟩
/-- Fuse field DEVICE_ID, data and CRC-16 (R340). -/
def FU_DEVICE_ID : Fld := ⟨2530, .mgr, 0, 1, 0, 0, 80, .hid, .N, 0, 0⟩
/-- Fuse field MGR_TRIM (R340). -/
def FU_MGR_TRIM : Fld := ⟨2531, .mgr, 0, 1, 0, 0, 528, .hid, .N, 0, 0⟩
/-- Fuse field HPD_TRIM (R340). -/
def FU_HPD_TRIM : Fld := ⟨2532, .mgr, 0, 1, 0, 0, 272, .hid, .N, 0, 0⟩
/-- Fuse field LIFE_STAGE, copies 3b to 3b + 2 for logical bit b (R340). -/
def FU_LIFE : Fld := ⟨2533, .mgr, 0, 1, 0, 0, 12, .hid, .N, 0, 0⟩
/-- Fuse field WIPE_STARTED (R340). -/
def FU_WIPE : Fld := ⟨2534, .mgr, 0, 1, 0, 0, 3, .hid, .N, 0, 0⟩
/-- Fuse field PRODUCT_ID (R340). -/
def FU_PRODUCT : Fld := ⟨2535, .mgr, 0, 1, 0, 0, 48, .hid, .N, 0, 0⟩
/-- Fuse field PRIV_MASK (R340). -/
def FU_PRIV : Fld := ⟨2536, .mgr, 0, 1, 0, 0, 64, .hid, .N, 0, 0⟩
/-- Fuse fields IMG_KEY_k (R340). -/
def FU_KEY : Fld := ⟨2537, .mgr, 0, 4, 0, 0, 272, .hid, .N, 0, 0⟩
/-- Fuse field KEY_REVOKE (R340). -/
def FU_REVOKE : Fld := ⟨2538, .mgr, 0, 1, 0, 0, 12, .hid, .N, 0, 0⟩
/-- Fuse field K_ROOT (R340). -/
def FU_K_ROOT : Fld := ⟨2539, .mgr, 0, 1, 0, 0, 272, .hid, .N, 0, 0⟩
/-- Fuse field K_ROOT_KILL (R340). -/
def FU_KILL : Fld := ⟨2540, .mgr, 0, 1, 0, 0, 3, .hid, .N, 0, 0⟩
/-- Fuse field WDT_HW (R340). -/
def FU_WDT_HW : Fld := ⟨2541, .mgr, 0, 1, 0, 0, 3, .hid, .N, 0, 0⟩
/-- Fuse field DEBUG_OFF (R340). -/
def FU_DEBUG : Fld := ⟨2542, .mgr, 0, 1, 0, 0, 3, .hid, .N, 0, 0⟩
/-- Fuse field ILIM_CEIL (R340). -/
def FU_ILIM : Fld := ⟨2543, .mgr, 0, 1, 0, 0, 2016, .hid, .N, 0, 0⟩
/-- Fuse field OV_CEIL (R340). -/
def FU_OV : Fld := ⟨2544, .mgr, 0, 1, 0, 0, 1440, .hid, .N, 0, 0⟩
/-- Fuse field IG_CEIL (R340). -/
def FU_IG : Fld := ⟨2545, .mgr, 0, 1, 0, 0, 192, .hid, .N, 0, 0⟩
/-- Fuse field STG_TLIM_CEIL (R340). -/
def FU_STG : Fld := ⟨2546, .mgr, 0, 1, 0, 0, 15, .hid, .N, 0, 0⟩
/-- Fuse field ROLLBACK (R340). -/
def FU_ROLLBACK : Fld := ⟨2547, .mgr, 0, 1, 0, 0, 384, .hid, .N, 0, 0⟩
/-- The fuse programming map holds a pending operation (R344). -/
def FMAP_ON : Fld := ⟨2548, .dev, 0, 1, 0, 0, 1, .hid, .N, 0, 0⟩
/-- Its field (R344). -/
def FMAP_FIELD : Fld := ⟨2549, .dev, 0, 1, 0, 0, 5, .hid, .N, 0, 0⟩
/-- Its first word (R344). -/
def FMAP_WORD : Fld := ⟨2550, .dev, 0, 1, 0, 0, 5, .hid, .N, 0, 0⟩
/-- Its words (R344). -/
def FMAP_LEN : Fld := ⟨2551, .dev, 0, 1, 0, 0, 5, .hid, .N, 0, 0⟩
/-- Its desired value, word j of the operation (R344). -/
def FMAP_DATA : Fld := ⟨2552, .dev, 0, 16, 0, 0, 32, .hid, .N, 0, 0⟩
/-- Bit m: manager m is marked done (R344). -/
def FMAP_DONE : Fld := ⟨2553, .dev, 0, 1, 0, 0, 2, .hid, .N, 0, 0⟩
/-- What the operation serves: 0 FUSE_PROG; 1 ADVANCE; 2 ROLLBACK; 3 the wipe (R344). -/
def FMAP_BY : Fld := ⟨2554, .dev, 0, 1, 0, 0, 2, .hid, .N, 0, 0⟩
/-- The newest reading of VBB lies within 11.0 V to 14.4 V (R339). -/
def VBB_IN : Fld := ⟨2555, .hpd, 0, 1, 0, 0, 1, .hid, .P, 0, 0⟩
/-- Beat of the first reading of that run (R339). -/
def VBB_BEAT : Fld := ⟨2556, .hpd, 0, 1, 0, 0, 40, .hid, .P, 0, 0⟩
/-- HPD has its verdict and is not held by Park or a finished wipe: buck, charger and pair may run (R329). -/
def HPD_GO : Fld := ⟨2557, .hpd, 0, 1, 0, 0, 1, .hid, .P, 0, 0⟩
/-- The tile's own fuse fields are programmed (R346). -/
def TILE_FUSED : Fld := ⟨2558, .tile, 0, 1, 0, 0, 1, .hid, .N, 0, 0⟩
/-- A signed image was booted at the present start (R346). -/
def BOOT_SIGNED : Fld := ⟨2559, .dev, 0, 1, 0, 0, 1, .hid, .S, 0, 0⟩
/-- VIO levels of 3.3 V were chosen at the last power-on reset (R440). -/
def VIO_HIGH : Fld := ⟨2560, .dev, 0, 1, 0, 0, 1, .hid, .P, 0, 0⟩
/-- FUSE_DIGEST as manager m sensed it (R331). -/
def SN_DIGEST : Fld := ⟨2561, .mgr, 0, 1, 0, 0, 32, .hid, .S, 0, 0⟩
/-- Every sealed field passed as manager m sensed it (R331). -/
def SN_OK : Fld := ⟨2562, .mgr, 0, 1, 0, 0, 1, .hid, .S, 0, 0⟩
/-- LIFE_STAGE as manager m sensed it, four thermometer bits (R331). -/
def SN_LIFE : Fld := ⟨2563, .mgr, 0, 1, 0, 0, 4, .hid, .S, 0, 0⟩
/-- ILIM_CEIL of manager m's broadcast block (R331). -/
def SN_ILIM : Fld := ⟨2564, .mgr, 0, 1, 0, 0, 672, .hid, .S, 0, 0⟩
/-- OV_CEIL of the block (R331). -/
def SN_OV : Fld := ⟨2565, .mgr, 0, 1, 0, 0, 480, .hid, .S, 0, 0⟩
/-- IG_CEIL of the block (R331). -/
def SN_IG : Fld := ⟨2566, .mgr, 0, 1, 0, 0, 64, .hid, .S, 0, 0⟩
/-- STG_TLIM_CEIL of the block (R331). -/
def SN_STG : Fld := ⟨2567, .mgr, 0, 1, 0, 0, 5, .hid, .S, 0, 0⟩
/-- PRIV_MASK of the block (R331). -/
def SN_PRIV : Fld := ⟨2568, .mgr, 0, 1, 0, 0, 48, .hid, .S, 0, 0⟩
/-- HPD_TRIM of the block (R331). -/
def SN_TRIM : Fld := ⟨2569, .mgr, 0, 1, 0, 0, 256, .hid, .S, 0, 0⟩
/-- PRODUCT_ID as manager m sensed it (R345). -/
def SN_PRODUCT : Fld := ⟨2570, .mgr, 0, 1, 0, 0, 32, .hid, .S, 0, 0⟩
/-- DEVICE_ID as manager m sensed it (R345). -/
def SN_DEVICE : Fld := ⟨2571, .mgr, 0, 1, 0, 0, 64, .hid, .S, 0, 0⟩
/-- IMG_KEY_k as manager m sensed it (R345). -/
def SN_KEY : Fld := ⟨2572, .mgr, 0, 4, 0, 0, 256, .hid, .S, 0, 0⟩
/-- Blown steps of ROLLBACK as manager m sensed them (R345). -/
def SN_ROLL : Fld := ⟨2573, .mgr, 0, 1, 0, 0, 8, .hid, .S, 0, 0⟩
/-- DEBUG_OFF as manager m sensed it (R345). -/
def SN_DEBUG : Fld := ⟨2574, .mgr, 0, 1, 0, 0, 1, .hid, .S, 0, 0⟩
/-- WIPE_STARTED as manager m sensed it (R345). -/
def SN_WIPE : Fld := ⟨2575, .mgr, 0, 1, 0, 0, 1, .hid, .S, 0, 0⟩
/-- HPD_TRIM that HPD received (R331). -/
def HPD_TRIM_IN : Fld := ⟨2576, .hpd, 0, 1, 0, 0, 256, .hid, .P, 0, 0⟩
/-- SHA-256 of section k of the booted slot where it is addressed to a tile, kept in the secure part (R337). -/
def SEC_SHA : Fld := ⟨2577, .dev, 0, 256, 0, 0, 256, .hid, .S, 0, 0⟩
/-- Beat of manager m as it completed its fuse sensing (R328). -/
def SENSE_AT : Fld := ⟨2578, .mgr, 0, 1, 0, 0, 40, .hid, .S, 0, 0⟩
/-! Chapter 15 -/
/-- Beat at which the running watchdog period started (R371). -/
def WDT_BEAT : Fld := ⟨2579, .wdt, 0, 1, 0, 0, 40, .hid, .S, 0, 0⟩
/-- PERIOD of the running period (R371). -/
def WDT_PERIOD : Fld := ⟨2580, .wdt, 0, 1, 0, 0, 16, .hid, .S, 0, 0⟩
/-- RST_EN as it stood at the expiry (R375). -/
def WDT_RST : Fld := ⟨2581, .wdt, 0, 1, 0, 0, 1, .hid, .S, 0, 0⟩
/-- CAL_SEC when HALT was set (R378). -/
def RTC_AT_HALT : Fld := ⟨2582, .rtc, 0, 1, 0, 0, 32, .hid, .B, 0, 0⟩
/-- The value DST takes at the next second (R379). -/
def DST_WANT : Fld := ⟨2583, .rtc, 0, 1, 0, 0, 1, .hid, .B, 0, 0⟩
/-- Beat of the newest expiry (R374). -/
def PULSE_AT : Fld := ⟨2584, .wdt, 0, 1, 0, 0, 40, .hid, .S, 0, 0⟩
/-- PULSE as it stood at the expiry, ms (R375). -/
def PULSE_MS : Fld := ⟨2585, .wdt, 0, 1, 0, 0, 8, .hid, .S, 0, 0⟩
/-- The B fields have been lost and the Mews domain has not shown it yet (R380). -/
def MEWS_NEW : Fld := ⟨2586, .rtc, 0, 1, 0, 0, 1, .hid, .N, 1, 0⟩
/-! Chapter 16 -/
/-- TAG of the service-port frame being served (R403). -/
def SVC_TAG : Fld := ⟨2587, .svc, 0, 1, 0, 0, 16, .hid, .S, 0, 0⟩
/-- LOCK_VIOL of the event controller (R7). -/
def LV_EVC : Fld := ⟨2588, .evc, 0, 1, 0, 0, 1, .hid, .S, 0, 0⟩
/-- LOCK_VIOL of the watchdog (R7). -/
def LV_WDT : Fld := ⟨2589, .wdt, 0, 1, 0, 0, 1, .hid, .S, 0, 0⟩
/-- LOCK_VIOL of the host bus (R7). -/
def LV_HB : Fld := ⟨2590, .hb, 0, 1, 0, 0, 1, .hid, .S, 0, 0⟩
/-- LOCK_VIOL of the charger (R7). -/
def LV_CHG : Fld := ⟨2591, .hpd, 0, 1, 0, 0, 1, .hid, .P, 0, 0⟩
/-- LOCK_VIOL of the pack block (R7). -/
def LV_PACK : Fld := ⟨2592, .hpd, 0, 1, 0, 0, 1, .hid, .P, 0, 0⟩
/-- The last message was acknowledged throughout (R398). -/
def HB_ACK : Fld := ⟨2593, .hb, 0, 1, 0, 0, 1, .hid, .S, 0, 0⟩
/-- MFR_WIN_STATUS (R399). -/
def WIN_STATUS : Fld := ⟨2594, .hb, 0, 1, 0, 0, 8, .hid, .S, 0, 0⟩
/-- Rate that SET_BAUD asked for (R406). -/
def BAUD_NEXT : Fld := ⟨2595, .svc, 0, 1, 0, 0, 3, .hid, .S, 0, 0⟩
/-- SET_BAUD has been answered and the new rate is to come (R406). -/
def BAUD_PEND : Fld := ⟨2596, .svc, 0, 1, 0, 0, 1, .hid, .S, 0, 0⟩
/-- No valid frame has arrived at the new rate (R406). -/
def BAUD_TRY : Fld := ⟨2597, .svc, 0, 1, 0, 0, 1, .hid, .S, 0, 0⟩
/-- Beat of SET_BAUD's answer, then of the new rate's start (R406). -/
def BAUD_AT : Fld := ⟨2598, .svc, 0, 1, 0, 0, 40, .hid, .S, 0, 0⟩
/-- Beat of the newest wake by SVC_RX, plus 1, 0 before any (R404). -/
def WAKE_AT : Fld := ⟨2599, .dev, 0, 1, 0, 0, 41, .hid, .S, 0, 0⟩
/-! Chapter 17 -/
/-- Prior slot of the session: 1 A, 2 B, 0 none (R414). -/
def UPD_PRIOR : Fld := ⟨2600, .dev, 0, 1, 0, 0, 2, .hid, .K, 0, 0⟩
/-- Activation step reached (R426). -/
def UPD_STEP : Fld := ⟨2601, .dev, 0, 1, 0, 0, 3, .hid, .K, 0, 0⟩
/-- Next rail of the activation or revert (R414). -/
def UPD_RAIL : Fld := ⟨2602, .dev, 0, 1, 0, 0, 6, .hid, .K, 0, 0⟩
/-- Trial deadline, beat with BEAT_EPOCH above it (R414). -/
def UPD_DEADLINE : Fld := ⟨2603, .dev, 0, 1, 0, 0, 56, .hid, .K, 0, 0⟩
/-- The running revert was asked for by REVERT (R430). -/
def UPD_HOST : Fld := ⟨2604, .dev, 0, 1, 0, 0, 1, .hid, .K, 0, 0⟩
/-- What the flash is busy with: 0 nothing; 1 an erase; 2 the program of a chunk (R420). -/
def FL_OP : Fld := ⟨2605, .dev, 0, 1, 0, 0, 2, .hid, .S, 0, 0⟩
/-- Its chunk (R420). -/
def FL_CHUNK : Fld := ⟨2606, .dev, 0, 1, 0, 0, 16, .hid, .S, 0, 0⟩
/-- Chunks that the running ERASE has still to erase, its present one included (R420). -/
def FL_LEFT : Fld := ⟨2607, .dev, 0, 1, 0, 0, 16, .hid, .S, 0, 0⟩
/-- FINISH: 0 not running; 1 the digest is computed; 2 the header is programmed (R421). -/
def UPD_VERIFY : Fld := ⟨2608, .dev, 0, 1, 0, 0, 2, .hid, .S, 0, 0⟩
/-- PREPARE runs (R422). -/
def UPD_STAGE : Fld := ⟨2609, .dev, 0, 1, 0, 0, 1, .hid, .S, 0, 0⟩
/-- Manager m has taken the activation reset of the running activation (R427). -/
def FW_NEW : Fld := ⟨2610, .mgr, 0, 1, 0, 0, 1, .hid, .K, 0, 0⟩
/-- SHA-256 of the staged MGR_FW section (R422). -/
def SHA_MFW : Fld := ⟨2611, .dev, 0, 1, 0, 0, 256, .hid, .S, 0, 0⟩
/-- SHA-256 of the staged SC_FW section (R422). -/
def SHA_SFW : Fld := ⟨2612, .dev, 0, 1, 0, 0, 256, .hid, .S, 0, 0⟩
/-- Bytes of the staged MGR_FW section (R422). -/
def LEN_MFW : Fld := ⟨2613, .dev, 0, 1, 0, 0, 24, .hid, .S, 0, 0⟩
/-- Bytes of the staged SC_FW section (R422). -/
def LEN_SFW : Fld := ⟨2614, .dev, 0, 1, 0, 0, 24, .hid, .S, 0, 0⟩
/-- CRC-32 of the inactive bank as PREPARE wrote it, plus 2^32 where it wrote it (R422). -/
def BANK_PREP : Fld := ⟨2615, .eng, 0, 1, 0, 0, 33, .hid, .S, 0, 0⟩
/-- The erase of chunk 0 that BEGIN asked for waits for the flash (R418). -/
def FL_ZERO : Fld := ⟨2616, .dev, 0, 1, 0, 0, 1, .hid, .S, 0, 0⟩
/-- A manager's staged firmware no longer matched at its activation reset (R427). -/
def UPD_STALE : Fld := ⟨2617, .dev, 0, 1, 0, 0, 1, .hid, .K, 0, 0⟩
/-- ROLLBACK of the confirmed image whose fuse advance is under way or held (R431). -/
def ROLL_WANT : Fld := ⟨2618, .dev, 0, 1, 0, 0, 8, .hid, .K, 0, 0⟩
/-- Beat of the newest try of the fuse advance (R431). -/
def ROLL_AT : Fld := ⟨2619, .dev, 0, 1, 0, 0, 40, .hid, .K, 0, 0⟩

/-- Every field of this file. -/
def all : List Fld :=
  [BEAT, EPOCH, BEAT_HOLD, ROLE_LOW, PRESENT, XTAL_STOPPED, RELOCK_STAGE, REF_OK, XT_FAILS, XH_FAILS, XH_LANE_FAIL, XM_FAILS]
  ++ [XM_LANE_FAIL, XR_FAILS, XR_LANE_FAIL, BF_BEAT, BF_EPOCH, BF_ROLE, BFH_BEAT, BFH_ROLE, SLOT_OF, SLOT_FAILS, SLOT_SEQ, SLOT_REF]
  ++ [SLOT_FLAGS, SLOT_AGE, SLOT_LOST, SLOT_NEW, SLOT_RUN, SLOT_SYNC, SLOT_GAP, SLOT_DOWN, SLOT_H_REF, SLOT_H_FLAGS, SLOT_H_SEQ, SLOT_H_TICK]
  ++ [SLOT_TX_SEQ, BUS_ERR, READ_DATA, HOME, FOLLOWED, FOLLOWED_H, SLEWING, SLEWING_H, EXPLICIT_FAULT, PWM_LVL, MID_TICK, HADD_TICK]
  ++ [JOIN_PEND, LOAD_SIG, LOAD_AT, MARK_NEW, ADD_NOW, DWELL, ADD_HELD, CYC_TAP, CYC_WRAP, CYC_OWN, CYC_FIX, CYC_AT]
  ++ [MID_BUSY, MARK_MID, ADD_PEND, OFS_PEND, OFS_ACT, LEAD_POS, ONTIME_ACT, FIRED, PROBING, READD_CAUSE, READD_DONE, PRESTART]
  ++ [ISO_LATCH_M, CYC_ERR, CLAMPED_CYC, THR_WANT, THR_TICK, THR_ACT, CUT, DE_FORCE, STBY_ACT, TICK, TICK_SET, E_RUN]
  ++ [E_WAIT, E_FRESH, E_SLOT, E_W, E_A, E_Z, E_N, E_C, E_V, E_PC, E_IN, E_STG]
  ++ [E_STGW, E_LATE, CK_W, CK_A, CK_FL, CK_PC, CK_BANK, CK_EVW, SPARE_BAD, DUTY, REFOUT, MARK]
  ++ [IPH_AGE, FFGAIN, REF_HIST, REF_AGE, CYC_CNT, CYC_NOW, CRC_BUSY, HANDING_BACK, HANDING_OVER, SP_Q16, SP_TGT, SP_MODE]
  ++ [SP_DONE, VS_HIST, TRK_T, LAW_BUSY, ZL_ENTRY, SLOPE_OPEN, C_VREF, C_LVL, SLOPE_AGE, C_MODE, C_RELM, C_LEVEL]
  ++ [C_SLOPE, C_SWIN, C_ONT, C_IPK, REL_AGE, SP_CMD, C_IN, C_ON, C_RELEASED, C_WIRE, TRIP_AGE, CP_FULL]
  ++ [REL_NOW, SP_QUIET, LOSS_ARM, FCP_A, FCP_D, FCP_STEP, FCP_JUDGE, FCP_CFG, FCP_ISUM, FCP_CINCHED, FPULSE, FP_S]
  ++ [FP_END, FP_TAP, FPULSE_AT, FPULSE_LEN, ZL_S, ZL_VP, ZL_VI, ZL_VPREV, ZL_CYC, ZL_ROLE, ZL_STEP, ZL_RAMP]
  ++ [ZL_RSTEP, ZL_PAR, C_FIRE, FCP_STARTED, BANK_LAW, VS_NEXT, SLICE_LOST, CH_MOVED, ROT_PHASE, ROT_NEXT, SKEW_TODO, DIAG_KIND]
  ++ [DIAG_TGT, VIN_LO_N, VIN_HI_N, STG_HI_N, STG_LO_N, IG_N, HK_CODE, TLM_SV, TLM_SI, TLM_SP, TLM_BAD, PK_PEND]
  ++ [E_REM, E_STAGED, HK_E_REM, HK_E_STAGED, EST_HIST, PART_VAL, PART_STALE, DIAG_ADD, SPARE_SKEW, SL_OFS, SL_GAIN, SP_OFS]
  ++ [SP_GAIN, DIFF_SUM, DIFF_N, TVC_POS, HK_POS, VDIS_AT, TLM_N, PS_TICK, PS_V1, PS_V2, DG_TICK, DG_SUM]
  ++ [DG_N, PART_AT, IG_ACTED, EN_ON, HELD, DIS_REC, EN_STAGE, EN_BY_SEQ, OFF_STAGE, OFF_TMO, OFF_BEAT, SEQ_STEP]
  ++ [SEQ_BEAT, SEQ_MINE, SEQ_DONE_ST, SEQ_BAD, SEQ_LANE_OK, SEQ_STUCK, SEQ_LAST, SEQ_LASTG, SNAP_CAUSE, SNAP_RAIL, SNAP_T, SNAP_STAGE]
  ++ [SNAP_NO, CODE_A, CODE_B, FLT_LOW, EN_BEAT, OFF_T1, OFF_TICK, SEQ_NEXT, LN_LISTEN, LN_RB, LN_GRANT, LN_SENT]
  ++ [LN_TRIES, LN_AGAIN, LN_HOST, LN_STAGE, LN_DEST, LN_SEQ, LN_OP, LN_ARGS, LN_BEAT, LN_FLAGS, LW_VALID, LW_SEQ]
  ++ [LW_ARGS, LW_REPLY, LW_RSEQ, LW_STATUS, LW_DATA, LN_HOLD, SQL_OFS, TILE_FAIL, AK_STEP, AK_NEXT, AK_SEQ, TSD_QUEUE]
  ++ [TSD_CUR, FLT_CAUSE, DEV_ID, IMG_CRC, PG_GOOD_N, PG_FAIL_N, PG_PIN, PG_PIN_N, PGW_BEAT, AK_TICK, LW_START, LW_SEEN]
  ++ [LW_FLAGS, LN_FROM, LN_BCRC, LN_CRC, LW_CRC, OC_N, TEMP_HI_W, TEMP_LO_W, TEMP_HI_T, TEMP_LO_T, COOL_N, WARN_ON]
  ++ [THR_ON, TSD_ON, TSD_BEAT, TSD_HIST, TSD_RAILS, M_HI_W, M_LO_W, M_HI_T, M_LO_T, M_WARN, M_THR, H_HI_W]
  ++ [H_LO_W, H_HI_T, H_LO_T, H_COOL, H_WARN, H_THR, H_TSD, LOST_MID, OV_N, UV_N, ROC_N, CONF]
  ++ [CHD_OV_N, CHD_UV_N, SS_DONE, OV_OFF, LOST_TICK, THR_WAIT, THR_AT, DIS_AT, VBB_ACT, BAT_GD, BAT_GC, DSG_LIM]
  ++ [CHG_BUDGET, BT_LOW, BT_HIGH, CHG_TQ, PT_BUSY, CV_WARM, BUCK_STOP, H_TSD_BEAT, H_HIST, VBAT_NOW, IBAT_NOW, I_BUCK]
  ++ [CHG_I, VAUX_N, VOK_N, SAG_N, ATLIM_N, SRCH_N, DLIM_N, DSH_N, FDEG_N, HB_N, CHG_N, BOV_N]
  ++ [BSH_N, COC_N, BTS_N, PT_N, PT_V0, PT_MIN, GG_Q, EMPTY_N, KLOW_N, HIB_N, FULL_PEND, FULL_SEEN]
  ++ [RUN_ACC, CYC_ACC, THRU_ACC, PREV_V, PREV_I, PACK_ID, SWAP_PEND, AUTH_RUN, AUTH_Q, AUTH_NONCE, GG_SEQ, GG_SLOT]
  ++ [K_ROOT, PREV_N, STORE_N, AUTH_N, PL_TX, MET_UP, MET_FAULTED, MET_SERIAL, MET_SERIAL_OK, MET_KEY, MET_LOCKED, MET_AUDIT]
  ++ [MET_LOSS, MB_STATE, MB_I_R, MB_U_R, MB_FS_I, MB_GAIN_I, MB_OFS_I, MB_FS_V, MB_GAIN_V, MB_OFS_V, MB_I_START, MB_PULSE]
  ++ [MB_CRC, E_IMP, E_EXP, REM_IMP, REM_EXP, OPSEC, OPSEC_SUB, NEXT_REC, PWRUP_TOTAL, PULSE_ACC, HALF_NOW, HALF_NEXT]
  ++ [PULSES, PULSE_PIN, PULSE_AGE, PULSE_LEN, PREV_IMP, PREV_EXP, PREV_PWRUP, INT_FLAGS, INT_ANY, INT_VMIN, INT_VMAX, INT_IPK_IMP]
  ++ [INT_IPK_EXP, LIVE_V, LIVE_I, LIVE_P, OVR_NOW, OVR_RUN, OVR_SEC, STUCK, MOD_SUB, CLK_INT, CLK_PASS, CLK_SUB]
  ++ [FRAME_NO, MET_HEALTH, CELL_SEQ, CELL_NEXT, CELL_CUT, MET_ASKED, MET_PTR, MET_LAST, DENS_N, FLAT_N, FREE_N, TALLY_N]
  ++ [MREQ_AT, MLINK_AT, CAP_LEFT, CAP_TRIGD, HALF_DOWN, MINE_CAUSE, RJ_BUSY, RJ_TILE, RJ_POS, RJ_SWAP, PRE_ST, PRE_CAUSE]
  ++ [BLK_BAD, LEAD_RST, POWERED, TRIG, HB_SENT, HB_BEAT, HB_EPOCH, HB_ROLE, HB_REPOCH, HB_HEALTH, HB_SEQ, MIRR_RUN]
  ++ [ST_STATE, LBIST_ON, LBIST_SIG, ST_SHADOW, ST_SPARE, ST_ROT, CAP_OFF, CAP_FULL, FW_HASH, SILENT_N, RJ_AT, HB_WAIT]
  ++ [ROLE_WAIT, CLAIM_BEAT, KSOC_N, LBIST_AT, EV_SEQ, EV_CNT, EV_BEAT, EV_SUB, EV_DET, EV_OLD, EV_HELD, EV_TAKEN]
  ++ [EV_TREC, EV_HREC, SC_SLEEP, SQ_TAIL, CORE_PC, EV_ONCE, BOOT, RST_LOW, VIO_OK, ADDR_PINS, SENSED, BC_VERDICT]
  ++ [BC_HPD, TILE_CRC_BAD, SKEW_OK, COMMITTED, ARM_AUTO, ARM_TMO, ARM_BEAT, GG_READY, KSTORED, FIRST_SLOT, PARK_BEAT, WAKE_PEND]
  ++ [FL_SIZE, FL_ERASE, FU_DEVICE_ID, FU_MGR_TRIM, FU_HPD_TRIM, FU_LIFE, FU_WIPE, FU_PRODUCT, FU_PRIV, FU_KEY, FU_REVOKE, FU_K_ROOT]
  ++ [FU_KILL, FU_WDT_HW, FU_DEBUG, FU_ILIM, FU_OV, FU_IG, FU_STG, FU_ROLLBACK, FMAP_ON, FMAP_FIELD, FMAP_WORD, FMAP_LEN]
  ++ [FMAP_DATA, FMAP_DONE, FMAP_BY, VBB_IN, VBB_BEAT, HPD_GO, TILE_FUSED, BOOT_SIGNED, VIO_HIGH, SN_DIGEST, SN_OK, SN_LIFE]
  ++ [SN_ILIM, SN_OV, SN_IG, SN_STG, SN_PRIV, SN_TRIM, SN_PRODUCT, SN_DEVICE, SN_KEY, SN_ROLL, SN_DEBUG, SN_WIPE]
  ++ [HPD_TRIM_IN, SEC_SHA, SENSE_AT, WDT_BEAT, WDT_PERIOD, WDT_RST, RTC_AT_HALT, DST_WANT, PULSE_AT, PULSE_MS, MEWS_NEW, SVC_TAG]
  ++ [LV_EVC, LV_WDT, LV_HB, LV_CHG, LV_PACK, HB_ACK, WIN_STATUS, BAUD_NEXT, BAUD_PEND, BAUD_TRY, BAUD_AT, WAKE_AT]
  ++ [UPD_PRIOR, UPD_STEP, UPD_RAIL, UPD_DEADLINE, UPD_HOST, FL_OP, FL_CHUNK, FL_LEFT, UPD_VERIFY, UPD_STAGE, FW_NEW, SHA_MFW]
  ++ [SHA_SFW, LEN_MFW, LEN_SFW, BANK_PREP, FL_ZERO, UPD_STALE, ROLL_WANT, ROLL_AT]

end Sys2Proof.Machine.Hid
end

