-- ==== Sys2Proof/Config.lean ====
section
/-!
DEFINITION. What the silicon fixes and the rules do not state: the free values. Nothing constrains them, so a statement
that mentions one holds for every value of it.
-/
namespace Sys2Proof.Config

/-- A fresh value the rules leave open, one for each number of the state's counter (DESIGN CHOICE, log entry 4). -/
opaque freeValue : Nat → Nat

/-- The word of the Ziluoz library image of a law in boot ROM: the spec gives the laws' arithmetic and no image (R107; DESIGN CHOICE, log entry 17). First the law's LAW_ID, then the word's index in the bank. -/
opaque lawWord : Nat → Nat → BitVec 32

/-- A MET reading that falls between two units reads the higher one (R264, R269 give the unit and no rounding; DESIGN CHOICE, log entry 23). First the reading as a numerator, then the denominator. -/
opaque roundsUp : Int → Nat → Bool

/-- FW_ID of MET's mask ROM (R264). -/
opaque metFwId : BitVec 32

/-- The signature that boot ROM holds for a die kind (R299): 0 a tile, 1 HPD, 2 a manager. -/
opaque lbistSig : Nat → BitVec 64

/-- A reading that a PMBus format cannot hold exactly is read as the higher of its two neighbours (R395 gives the formats and no rounding;
DESIGN CHOICE, log entry 32). First the reading as a numerator, then the denominator. -/
opaque readsUp : Int → Nat → Bool

/-- A written PMBus value that lies halfway between two steps of its register takes the higher (R395 names the nearest; DESIGN CHOICE, log entry 32). First
twice the value's numerator, then its denominator. -/
opaque tieUp : Int → Nat → Bool

/-- The two ASCII characters of MFR_REVISION (R395). -/
opaque siliconRevision : BitVec 16

end Sys2Proof.Config
end

