-- ==== Sys2Proof/Machine/State.lean ====
section
/-!
DEFINITION. The state of the block, as plain data. Registers and the scalar state behind them are cells, listed
only where they differ from their reset value (Machine/Field.lean says what a field is, Machine/Regs*.lean and
Machine/Hidden.lean name every one); memories are bytes by address; queues, rings and records are lists.
-/
namespace Sys2Proof.Machine

/-- The name of a cell: the field's number, its block's place and the copy in the block. -/
abbrev Key := Nat × Nat × Nat

/-- Cells that stand away from their reset value, in key order. -/
abbrev Cells := List (Key × Nat)

/-- Bytes that are not 0, in address order. -/
abbrev Memory := List Host.Cell

/-- A journal entry (R408); the CRC of word 7 follows from the rest. -/
structure JEntry where
  seq    : Nat
  beat   : Nat
  epoch  : Nat
  origin : Nat
  kind   : Nat
  calSec : Nat
  tag    : Nat
  status : Nat
  target : Nat
  code   : Nat
  arg    : Nat
  deriving DecidableEq, Repr

/-- What a command between acceptance and completion asks for (R287, R409). -/
inductive CmdKind where
  /-- Enable of a rail. -/
  | railOn (r : Nat)
  /-- Turn-off of a rail. -/
  | railOff (r : Nat)
  /-- Set-point step or ramp of a rail. -/
  | setpoint (r : Nat) (target : Nat)
  /-- Re-add of a shed phase. -/
  | phAdd (p : Nat)
  /-- A Sequence Lane transmission. -/
  | lane
  /-- A sequence run. -/
  | seqRun (q : Nat)
  /-- Any other command that completes later, named by the address of its register. -/
  | other (addr : Nat)
  deriving DecidableEq, Repr

/-- A command between acceptance and completion: its ACCEPTED entry, the beat of acceptance, and whether it has
started. One that has not started waits for clock-readiness (R30). -/
structure Cmd where
  kind    : CmdKind
  seq     : Nat
  beat    : Nat
  origin  : Nat
  tag     : Nat
  target  : Nat
  code    : Nat
  started : Bool
  deriving DecidableEq, Repr

/-- The high word that an initiator's low-word read left for its high-word read (R161). -/
structure Snap where
  /-- Manager the initiator belongs to. -/
  mgr  : Nat
  /-- Place of the initiator (R13). -/
  who  : Nat
  /-- Address of the low word. -/
  addr : Nat
  /-- The words that later reads return, in the order of their addresses. -/
  high : List Nat
  /-- WRAP of the same cycle, where the value is an energy accumulator. -/
  wrap : Bool
  deriving DecidableEq, Repr
/-- What a lane command with a delay does at its deadline (R183). -/
inductive LaneWork where
  /-- Run sequence q. -/
  | run (q : Nat)
  /-- Enable RAIL_r. -/
  | railOn (r : Nat)
  /-- Turn RAIL_r off. -/
  | railOff (r : Nat)
  /-- Take a snapshot. -/
  | snap
  deriving DecidableEq, Repr

/-- An accepted lane command that waits for its deadline on the worker's beat (R184). -/
structure LaneDue where
  /-- Beat of the deadline. -/
  due  : Nat
  /-- SEQ of the command. -/
  seq  : Nat
  /-- What it does. -/
  work : LaneWork
  deriving DecidableEq, Repr
/-- A MET record (R264) and whether its archive slot is DONE (R263). -/
structure MetRec where
  kind    : Nat
  flags   : Nat
  serial  : Nat
  recNo   : Nat
  audit   : Nat
  opsec   : Nat
  pwrIn   : Nat
  pwrTot  : Nat
  eImp    : Nat
  eExp    : Nat
  dImp    : Nat
  dExp    : Nat
  vmin    : Nat
  vmax    : Nat
  ipkImp  : Nat
  ipkExp  : Nat
  calCrc  : Nat
  r       : Nat
  sg      : Nat
  isDone  : Bool
  deriving DecidableEq, Repr

/-- A frame that waits on MET's lane toward a manager (R266): its place in the order of sending, TYPE and payload. -/
structure MetFrame where
  prio : Nat
  typ  : Nat
  body : List Byte
  deriving DecidableEq, Repr

/-- An event record as the controller holds it in a queue (R313): a fold base carries its extension. -/
structure EvRec where
  typ      : Nat
  cls      : Nat
  src      : Nat
  prio     : Nat
  again    : Bool
  late     : Bool
  takeover : Bool
  line     : Bool
  sub      : Nat
  seq      : Nat
  beat     : Nat
  /-- COUNT, or LOST of an overflow record. -/
  count    : Nat
  detail   : Nat
  foldCls  : Nat
  base     : Nat
  lastSub  : Nat
  delta    : Nat
  bitmap   : Nat
  /-- A fold that has not closed, or an overflow record that is not final (R320, R322). -/
  isOpen   : Bool
  /-- A member has HOST set (R323). -/
  host     : Bool
  /-- First slot of the ring. -/
  slot     : Nat
  deriving DecidableEq, Repr

/-- A fold with members that are still active from it (R321). -/
structure EvFold where
  cls  : Nat
  seq  : Nat
  srcs : List Nat
  deriving DecidableEq, Repr

/-- A die's report that reached the shadow alone, kept for 8 µs (R324). -/
structure EvKept where
  src    : Nat
  line   : Bool
  detail : Nat
  tick   : Nat
  beat   : Nat
  deriving DecidableEq, Repr

/-- A unit under an Awl probe, or an error of a unit (R297, R298): its kind, tile and index, a beat, and whether its probe runs. -/
structure AwlUnit where
  kind : Nat
  tile : Nat
  unit : Nat
  beat : Nat
  run  : Bool
  deriving DecidableEq, Repr

/-- An entry of the permission table (R401): the first and the last byte, and the four flags. -/
structure Perm where
  first : Nat
  last  : Nat
  flags : Nat
  deriving DecidableEq, Repr


/-- The state of the block. -/
structure State where
  /-- Registers and the scalar state behind them. -/
  cells : Cells := []
  /-- Scratchpads, ferroelectric arrays, mirror windows, core-local memories, engine memories, capture buffers. -/
  mem : Memory := []
  /-- The journal in MGR_A's ferroelectric array, newest entry first, at most 4 096 (R408). -/
  jrnA : List JEntry := []
  /-- The journal in MGR_B's array. -/
  jrnB : List JEntry := []
  /-- The commands between acceptance and completion, oldest first (R409). -/
  cmds : List Cmd := []
  /-- Manager writes to engine data memory that have arrived and wait for the tile's next tick boundary, oldest first:
  tile, address and word (R91). -/
  dmPend : List (Nat × Nat × Word) := []
  /-- The initiators' snapshots of paired words (R161). -/
  snaps : List Snap := []
  /-- The lane commands accepted as a worker that wait for their deadlines, oldest first (R184). -/
  laneDue : List LaneDue := []
  /-- The snapshot record being assembled, with the regions that belong to each die (R179, R180). -/
  snapBuf : List Byte := []
  /-- MET's archive, newest record first, at most 672 (R265). -/
  metArch : List MetRec := []
  /-- The frames on MET's lane toward MGR_A, in the order they became ready (R266). -/
  metTxA : List MetFrame := []
  /-- The frames on MET's lane toward MGR_B. -/
  metTxB : List MetFrame := []
  /-- The main queue, oldest record first (R315). -/
  evMain : List EvRec := []
  /-- The safety queue (R318). -/
  evSafe : List EvRec := []
  /-- The host queue (R323). -/
  evHost : List EvRec := []
  /-- The folds with active members, open or closed (R320, R321). -/
  evFolds : List EvFold := []
  /-- The reports that the shadow keeps for a takeover (R324). -/
  evKept : List EvKept := []
  /-- The Awl probes that run or wait for their unit (R297). -/
  awlProbes : List AwlUnit := []
  /-- The errors of the units, newest first (R298). -/
  awlErrs : List AwlUnit := []
  /-- The ferroelectric words, by their address in the model, that no read can correct (R367). -/
  feBad : List Nat := []
  /-- The words of the engine memories with an upset copy, by their address in the model, and what a read of each meets (R89). -/
  ecc : List (Nat × Upset) := []
  /-- The permission table of the booted image, in its order (R401). -/
  perms : List Perm := []
  /-- The bytes that the target sent in the last read message of the host bus, PEC last (R392). -/
  hbReply : List Byte := []
  /-- The last reply frame of the service port (R403). -/
  svcReply : List Byte := []
  /-- The model's own counter of free values (DESIGN CHOICE, log entry 4). -/
  freeCtr : Nat := 0
  /-- The commands that wait, first in, first out. -/
  pending : List Instr := []
  deriving DecidableEq, Repr

/-- The block right after power-on reset: every register at its reset value, every memory and queue empty (DESIGN CHOICE, log entry 2). -/
def State.reset : State := {}

/-- Why the block stops without a next state. No rule makes it stop, so there is no reason. -/
inductive Fault where
  /-- Raised by nothing: kept so that the interface has a type. Safe. -/
  | none
  deriving DecidableEq, Repr

/-- Why a command is refused by the model. -/
inductive Refusal where
  /-- Raised by an arm of exec whose command has no meaning yet. Safe: the model stops. -/
  | notModelled (mnemonic : String)
  deriving DecidableEq, Repr

end Sys2Proof.Machine
end

