-- ==== Sys2Proof/Machine/Ops.lean ====
section
/-!
DEFINITION. The named operations over the block's state: reading and writing one cell, one byte or word of memory,
signed fields, counters that saturate, and the repetition of an operation over a range of indices.
-/
namespace Sys2Proof.Machine

/-! Cells: the register fields and the hidden fields that stand away from their reset value. -/

/-- The value listed for a key, if any. -/
def Cells.find (k : Key) : Cells → Option Nat
  | [] => none
  | (k', v) :: t => if k' = k then some v else Cells.find k t

/-- Lexicographic order of keys. -/
def Key.below (a b : Key) : Bool :=
  decide (a.1 < b.1) || (decide (a.1 = b.1) &&
    (decide (a.2.1 < b.2.1) || (decide (a.2.1 = b.2.1) && decide (a.2.2 < b.2.2))))

/-- Lists a value for a key, in key order. -/
def Cells.list (k : Key) (v : Nat) : Cells → Cells
  | [] => [(k, v)]
  | (k', v') :: t =>
    if k' = k then (k, v) :: t
    else if Key.below k k' then (k, v) :: (k', v') :: t
    else (k', v') :: Cells.list k v t

/-- Takes a key off the list. -/
def Cells.drop (k : Key) (c : Cells) : Cells := c.filter fun p => p.1 ≠ k

/-- The key of copy `j` of a field in block `i`. -/
def Fld.key (f : Fld) (i j : Nat) : Key := (f.id, i, j)

/-- The canonical form of the cells: keys strictly rising. -/
def Cells.wf : Cells → Bool
  | [] => true
  | (k, _) :: t => (t.all fun p => Key.below k p.1) && Cells.wf t

/-- The value of copy `j` of field `f` in block `i`: the listed value, or the field's reset value. -/
def State.getAt (s : State) (f : Fld) (i j : Nat) : Nat :=
  (s.cells.find (f.key i j)).getD f.rst

/-- The value of a field that stands once in its block. -/
def State.get (s : State) (f : Fld) (i : Nat) : Nat := s.getAt f i 0

/-- Writes copy `j` of field `f` in block `i`, cut to the field's width. -/
def State.putAt (s : State) (f : Fld) (i j v : Nat) : State :=
  let v' := v % 2 ^ f.wid
  let c := s.cells.drop (f.key i j)
  { s with cells := if v' = f.rst then c else c.list (f.key i j) v' }

/-- Writes a field that stands once in its block. -/
def State.put (s : State) (f : Fld) (i v : Nat) : State := s.putAt f i 0 v

/-- A one-bit field reads 1. -/
def State.on (s : State) (f : Fld) (i : Nat) : Bool := decide (s.get f i ≠ 0)

/-- As `on`, for copy `j`. -/
def State.onAt (s : State) (f : Fld) (i j : Nat) : Bool := decide (s.getAt f i j ≠ 0)

/-- Sets a one-bit field. -/
def State.raise (s : State) (f : Fld) (i : Nat) : State := s.put f i 1

/-- Clears a field. -/
def State.clr (s : State) (f : Fld) (i : Nat) : State := s.put f i 0

/-- As `raise`, for copy `j`. -/
def State.raiseAt (s : State) (f : Fld) (i j : Nat) : State := s.putAt f i j 1

/-- As `clr`, for copy `j`. -/
def State.clrAt (s : State) (f : Fld) (i j : Nat) : State := s.putAt f i j 0

/-- Writes a truth value into a one-bit field. -/
def State.putB (s : State) (f : Fld) (i : Nat) (b : Bool) : State := s.put f i b.toNat

/-- Bit `b` of a field. -/
def State.bit (s : State) (f : Fld) (i b : Nat) : Bool := (s.get f i).testBit b

/-- A number with bit `b` set or cleared. -/
def withBit (n b : Nat) (v : Bool) : Nat :=
  if n.testBit b = v then n else if v then n + 2 ^ b else n - 2 ^ b

/-- Writes bit `b` of a field. -/
def State.putBit (s : State) (f : Fld) (i b : Nat) (v : Bool) : State :=
  s.put f i (withBit (s.get f i) b v)

/-- One more on a counter, which saturates at its all-ones value (R6). -/
def State.bumpAt (s : State) (f : Fld) (i j : Nat) : State :=
  if s.getAt f i j + 1 < 2 ^ f.wid then s.putAt f i j (s.getAt f i j + 1) else s

/-- One more on a counter that stands once in its block. -/
def State.bump (s : State) (f : Fld) (i : Nat) : State := s.bumpAt f i 0

/-- A number of `w` bits read as two's complement. -/
def signed (w n : Nat) : Int := if n % 2 ^ w < 2 ^ (w - 1) then (n % 2 ^ w : Nat) else (n % 2 ^ w : Nat) - (2 ^ w : Nat)

/-- The two's complement of an integer in `w` bits. -/
def twos (w : Nat) (x : Int) : Nat := (x % (2 ^ w : Nat)).toNat

/-- An integer held between the least and the greatest value of `w` signed bits. -/
def satS (w : Nat) (x : Int) : Int := max (-(2 ^ (w - 1) : Nat)) (min x ((2 ^ (w - 1) : Nat) - 1))

/-- An integer held between two bounds. -/
def clampI (lo hi x : Int) : Int := max lo (min x hi)

/-- Shift right by `k` places, rounding toward minus infinity. -/
def asr (x : Int) (k : Nat) : Int := x / (2 ^ k : Nat)

/-- The signed value of a field. -/
def State.getI (s : State) (f : Fld) (i : Nat) : Int := signed f.wid (s.get f i)

/-- As `getI`, for copy `j`. -/
def State.getIAt (s : State) (f : Fld) (i j : Nat) : Int := signed f.wid (s.getAt f i j)

/-- Writes a signed value, saturating at the field's range. -/
def State.putI (s : State) (f : Fld) (i : Nat) (x : Int) : State := s.put f i (twos f.wid (satS f.wid x))

/-- As `putI`, for copy `j`. -/
def State.putIAt (s : State) (f : Fld) (i j : Nat) (x : Int) : State := s.putAt f i j (twos f.wid (satS f.wid x))

/-- Applies an operation where a condition holds. -/
def State.when (s : State) (b : Bool) (g : State → State) : State := if b then g s else s

/-- Applies an operation for every index of a list, in its order. -/
def State.over {α : Type} (s : State) (l : List α) (g : State → α → State) : State := l.foldl g s

/-- Takes every cell off the list that an event resets (R10). -/
def State.resetCells (s : State) (gone : Key → Bool) : State :=
  { s with cells := s.cells.filter fun p => !gone p.1 }

/-! Memory: bytes by address, unlisted bytes read 0. -/

/-- Lists a byte, in address order; a byte of 0 is never listed. -/
def Memory.write (a : Nat) (v : Byte) : Memory → Memory
  | [] => if v = 0 then [] else [(a, v)]
  | (a', v') :: t =>
    if a < a' then (if v = 0 then (a', v') :: t else (a, v) :: (a', v') :: t)
    else if a' = a then (if v = 0 then t else (a, v) :: t)
    else (a', v') :: Memory.write a v t

/-- The byte at an address. -/
def Memory.read (a : Nat) : Memory → Byte
  | [] => 0
  | (a', v) :: t => if a' = a then v else Memory.read a t

/-- The canonical form of memory: addresses strictly rising, no byte that is 0. -/
def Memory.wf : Memory → Bool
  | [] => true
  | (a, v) :: t => decide (v ≠ 0) && (t.all fun c => decide (a < c.1)) && Memory.wf t

/-- The byte at an address of the model's memory. -/
def State.rd8 (s : State) (a : Nat) : Byte := Memory.read a s.mem

/-- Writes one byte of the model's memory. -/
def State.wr8 (s : State) (a : Nat) (v : Byte) : State := { s with mem := Memory.write a v s.mem }

/-- The little-endian word at an address. -/
def State.rd32 (s : State) (a : Nat) : Word :=
  s.rd8 (a + 3) ++ s.rd8 (a + 2) ++ s.rd8 (a + 1) ++ s.rd8 a

/-- Byte `k` of a word. -/
def byteOf (k : Nat) (v : Word) : Byte := (v >>> (8 * k)).setWidth 8

/-- Writes a word, low byte first. -/
def State.wr32 (s : State) (a : Nat) (v : Word) : State :=
  (((s.wr8 a (byteOf 0 v)).wr8 (a + 1) (byteOf 1 v)).wr8 (a + 2) (byteOf 2 v)).wr8 (a + 3) (byteOf 3 v)

/-- Writes a run of bytes from an address. -/
def State.wrBytes (s : State) (a : Nat) : List Byte → State
  | [] => s
  | b :: t => (s.wr8 a b).wrBytes (a + 1) t

/-- Reads a run of bytes from an address. -/
def State.rdBytes (s : State) (a : Nat) : Nat → List Byte
  | 0 => []
  | n + 1 => s.rd8 a :: s.rdBytes (a + 1) n

/-- Writes a run of whole words of a ferroelectric array: a word that no read could correct is good again (R367). -/
def State.wrFe (s : State) (a : Nat) (l : List Byte) : State :=
  { s with feBad := s.feBad.filter fun x => x + 4 ≤ a || a + l.length ≤ x }.wrBytes a l

/-- No word of a run of the ferroelectric array is beyond correction. -/
def State.feOk (s : State) (a n : Nat) : Bool := !s.feBad.any fun x => decide (a < x + 4) && decide (x < a + n)

/-- The free value of the next place, and the state whose counter has moved on. -/
def State.draw (s : State) : Nat × State := (Config.freeValue s.freeCtr, { s with freeCtr := s.freeCtr + 1 })

/-- Writes a signed value; one outside the field's range has no stated form and leaves a free value (DESIGN CHOICE, log entry 4). -/
def State.putFit (s : State) (f : Fld) (i j : Nat) (x : Int) : State :=
  if satS f.wid x = x then s.putAt f i j (twos f.wid x) else s.draw.2.putAt f i j s.draw.1

/-- The four bytes of a word, low byte first. -/
def wordBytes (w : Word) : List Byte := [byteOf 0 w, byteOf 1 w, byteOf 2 w, byteOf 3 w]

/-- The bytes of a number, most significant first. -/
def beBytes (n v : Nat) : List Byte := (List.range n).map fun k => BitVec.ofNat 8 (v / 2 ^ (8 * (n - 1 - k)))

/-- The number that bytes spell, most significant first. -/
def beNat (l : List Byte) : Nat := l.foldl (fun a b => a * 256 + b.toNat) 0

/-- The least significant `n` bytes of a number, low byte first. -/
def leBytes (n v : Nat) : List Byte := (beBytes n v).reverse

/-- The number that a run of bytes spells, low byte first. -/
def leNat (l : List Byte) : Nat := beNat l.reverse

/-! The CRCs of the lane, the host bus, the service port and the fuses (R183, R340, R392, R403). -/

/-- One bit of the CRC-8: polynomial x^8 + x^2 + x + 1. -/
def crc8Bit (c : Byte) : Byte := if c.msb then (c <<< 1) ^^^ 0x07#8 else c <<< 1

/-- CRC-8 of a run of bytes. -/
def crc8 (l : List Byte) : Byte := l.foldl (fun c b => (List.range 8).foldl (fun c _ => crc8Bit c) (c ^^^ b)) 0#8

/-- One bit of the CRC-16, the most significant first. -/
def crc16Bit (c : BitVec 16) (b : Bool) : BitVec 16 := if c.msb = b then c <<< 1 else (c <<< 1) ^^^ 0x1021#16

/-- The CRC-16 of a run of bytes: polynomial 0x1021, initial value 0xFFFF. -/
def crc16 (l : List Byte) : BitVec 16 :=
  l.foldl (fun c x => (List.range 8).foldl (fun c k => crc16Bit c (x.getLsbD (7 - k))) c) 0xFFFF#16

/-- One bit of the CRC-32 of IEEE 802.3, reflected. -/
def crcBit (c : Word) : Word := if c.getLsbD 0 then (c >>> 1) ^^^ 0xEDB88320#32 else c >>> 1

/-- One byte of the CRC-32. -/
def crcByte (c : Word) (b : Byte) : Word :=
  crcBit (crcBit (crcBit (crcBit (crcBit (crcBit (crcBit (crcBit (c ^^^ b.setWidth 32))))))))

/-- CRC-32 (IEEE 802.3) of a run of bytes. -/
def crc32 (l : List Byte) : Word := (l.foldl crcByte 0xFFFFFFFF#32) ^^^ 0xFFFFFFFF#32

end Sys2Proof.Machine
end

