-- ==== Sys2Proof/Machine/RegsA.lean ====
section
/-!
DEFINITION. The register fields of the chapters 01 (the backbone), 02 (phase channels), 03 (phase engines), 04 (control laws), 05 (load steps),
one constant a field, as the field tables of spec/ give them. Order of the entries: number, block, offset,
copies, stride, lowest bit, width, access, retention, reset value, number of the companion bit.
-/
namespace Sys2Proof.Machine.Reg

/-! BEAT_LO (spec/01_*.md) -/
/-- Beat bits [31:0]; reading this word takes the snapshot that BEAT_HI returns. -/
def BEAT_LO.BEAT_LOW : Fld := ⟨1, .rein, 0x100, 1, 0, 0, 32, .ro, .P, 0, 0⟩
/-! BEAT_HI (spec/01_*.md) -/
/-- Number of beat wraps since power-on, from the snapshot. -/
def BEAT_HI.BEAT_EPOCH : Fld := ⟨2, .rein, 0x104, 1, 0, 8, 16, .ro, .P, 0, 0⟩
/-- Beat bits [39:32], from the snapshot. -/
def BEAT_HI.BEAT_HIGH : Fld := ⟨3, .rein, 0x104, 1, 0, 0, 8, .ro, .P, 0, 0⟩
/-! CLK_CTRL (spec/01_*.md) -/
/-- Root spread: 0b00 off; 0b01 0.25 % down; 0b10 0.5 % down; 0b11 1.0 % down; applied as in R27. -/
def CLK_CTRL.SSC_MODE : Fld := ⟨4, .rein, 0x110, 1, 0, 0, 2, .rw, .S, 0, 0⟩
/-! CLK_STATUS (spec/01_*.md) -/
/-- Counter: commands rejected with PLL_NOT_READY. -/
def CLK_STATUS.PLL_NR_COUNT : Fld := ⟨5, .rein, 0x114, 1, 0, 16, 16, .rw, .S, 0, 6⟩
/-- OVERLAP bit of PLL_NR_COUNT. -/
def CLK_STATUS.PLL_NR_OVERLAP : Fld := ⟨6, .rein, 0x114, 1, 0, 15, 1, .w1c, .S, 0, 0⟩
/-- Both managers failed the crystal comparison in one window. -/
def CLK_STATUS.CLOCK_DISAGREE : Fld := ⟨7, .rein, 0x114, 1, 0, 7, 1, .w1c, .S, 0, 0⟩
/-- The root lost lock outside a commanded relock. -/
def CLK_STATUS.LOCK_LOST : Fld := ⟨8, .rein, 0x114, 1, 0, 6, 1, .w1c, .S, 0, 0⟩
/-- This manager's crystal failed under R29. -/
def CLK_STATUS.XTAL_FAIL : Fld := ⟨9, .rein, 0x114, 1, 0, 5, 1, .w1c, .P, 0, 0⟩
/-- 1 when the device is clock-ready for every rail. -/
def CLK_STATUS.CLOCK_READY : Fld := ⟨10, .rein, 0x114, 1, 0, 3, 1, .ro, .S, 0, 0⟩
/-- 1 during a commanded relock under R27. -/
def CLK_STATUS.RELOCK_ACTIVE : Fld := ⟨11, .rein, 0x114, 1, 0, 2, 1, .ro, .S, 0, 0⟩
/-- The peer manager's reference passes the comparison. -/
def CLK_STATUS.PEER_REF_OK : Fld := ⟨12, .rein, 0x114, 1, 0, 1, 1, .ro, .S, 0, 0⟩
/-- This manager's root is locked. -/
def CLK_STATUS.ROOT_LOCK : Fld := ⟨13, .rein, 0x114, 1, 0, 0, 1, .ro, .S, 0, 0⟩
/-! TILE_CLK_STATUS (spec/01_*.md) -/
/-- Counter: reference switches. -/
def TILE_CLK_STATUS.SWITCH_COUNT : Fld := ⟨14, .tile, 0x200010, 1, 0, 24, 8, .rw, .T, 0, 15⟩
/-- OVERLAP bit of SWITCH_COUNT. -/
def TILE_CLK_STATUS.SWITCH_OVERLAP : Fld := ⟨15, .tile, 0x200010, 1, 0, 23, 1, .w1c, .T, 0, 0⟩
/-- Free-run was entered. -/
def TILE_CLK_STATUS.FREERUN_EVT : Fld := ⟨16, .tile, 0x200010, 1, 0, 7, 1, .w1c, .T, 0, 0⟩
/-- A reference switch occurred. -/
def TILE_CLK_STATUS.SWITCH_EVT : Fld := ⟨17, .tile, 0x200010, 1, 0, 6, 1, .w1c, .T, 0, 0⟩
/-- Holdover was entered. -/
def TILE_CLK_STATUS.HOLDOVER_EVT : Fld := ⟨18, .tile, 0x200010, 1, 0, 5, 1, .w1c, .T, 0, 0⟩
/-- 1 for 50 µs after a switch. -/
def TILE_CLK_STATUS.SETTLING : Fld := ⟨19, .tile, 0x200010, 1, 0, 4, 1, .ro, .T, 0, 0⟩
/-- MGR_B's reference is valid. -/
def TILE_CLK_STATUS.REF_B_OK : Fld := ⟨20, .tile, 0x200010, 1, 0, 3, 1, .ro, .T, 0, 0⟩
/-- MGR_A's reference is valid. -/
def TILE_CLK_STATUS.REF_A_OK : Fld := ⟨21, .tile, 0x200010, 1, 0, 2, 1, .ro, .T, 0, 0⟩
/-- Current source, encoded below. -/
def TILE_CLK_STATUS.REF_SRC : Fld := ⟨22, .tile, 0x200010, 1, 0, 0, 2, .ro, .T, 2, 0⟩
/-! CROSS_LANE_STATUS (spec/01_*.md) -/
/-- Working lane from the upper neighbour replaced by the spare; 0xF none. -/
def CROSS_LANE_STATUS.SPARE_MAP_UP : Fld := ⟨23, .tile, 0x201000, 1, 0, 26, 4, .ro, .T, 15, 0⟩
/-- Working lane from the lower neighbour replaced by the spare; 0xF none. -/
def CROSS_LANE_STATUS.SPARE_MAP_LO : Fld := ⟨24, .tile, 0x201000, 1, 0, 22, 4, .ro, .T, 15, 0⟩
/-- Receive lanes 0–7 and spare (bit 21) from the upper neighbour. -/
def CROSS_LANE_STATUS.LANE_FAIL_UP : Fld := ⟨25, .tile, 0x201000, 1, 0, 13, 9, .ro, .T, 0, 0⟩
/-- Receive lanes 0–7 and spare (bit 12) from the lower neighbour. -/
def CROSS_LANE_STATUS.LANE_FAIL_LO : Fld := ⟨26, .tile, 0x201000, 1, 0, 4, 9, .ro, .T, 0, 0⟩
/-- Receive lanes 1 and 0 from MGR_B. -/
def CROSS_LANE_STATUS.LANE_FAIL_B : Fld := ⟨27, .tile, 0x201000, 1, 0, 2, 2, .ro, .T, 0, 0⟩
/-- Receive lanes 1 and 0 from MGR_A. -/
def CROSS_LANE_STATUS.LANE_FAIL_A : Fld := ⟨28, .tile, 0x201000, 1, 0, 0, 2, .ro, .T, 0, 0⟩
/-! CROSS_COUNTS (spec/01_*.md) -/
/-- OVERLAP bit of CRC_COUNT. -/
def CROSS_COUNTS.CRC_OVERLAP : Fld := ⟨29, .tile, 0x201004, 1, 0, 31, 1, .w1c, .T, 0, 0⟩
/-- Counter: frames and slots discarded for CRC or sequence. -/
def CROSS_COUNTS.CRC_COUNT : Fld := ⟨30, .tile, 0x201004, 1, 0, 16, 15, .rw, .T, 0, 29⟩
/-- OVERLAP bit of ROLE_REJECT. -/
def CROSS_COUNTS.ROLE_OVERLAP : Fld := ⟨31, .tile, 0x201004, 1, 0, 15, 1, .w1c, .T, 0, 0⟩
/-- Counter: writes refused under R19. -/
def CROSS_COUNTS.ROLE_REJECT : Fld := ⟨32, .tile, 0x201004, 1, 0, 0, 15, .rw, .T, 0, 31⟩
/-! HPD_CLK_STATUS (spec/01_*.md) -/
/-- Counter: reference switches. -/
def HPD_CLK_STATUS.SWITCH_COUNT : Fld := ⟨861, .hpd, 0x10, 1, 0, 24, 8, .rw, .T, 0, 862⟩
/-- OVERLAP bit of SWITCH_COUNT. -/
def HPD_CLK_STATUS.SWITCH_OVERLAP : Fld := ⟨862, .hpd, 0x10, 1, 0, 23, 1, .w1c, .T, 0, 0⟩
/-- Free-run was entered. -/
def HPD_CLK_STATUS.FREERUN_EVT : Fld := ⟨863, .hpd, 0x10, 1, 0, 7, 1, .w1c, .T, 0, 0⟩
/-- A reference switch occurred. -/
def HPD_CLK_STATUS.SWITCH_EVT : Fld := ⟨864, .hpd, 0x10, 1, 0, 6, 1, .w1c, .T, 0, 0⟩
/-- Holdover was entered. -/
def HPD_CLK_STATUS.HOLDOVER_EVT : Fld := ⟨865, .hpd, 0x10, 1, 0, 5, 1, .w1c, .T, 0, 0⟩
/-- 1 for 50 µs after a switch. -/
def HPD_CLK_STATUS.SETTLING : Fld := ⟨866, .hpd, 0x10, 1, 0, 4, 1, .ro, .T, 0, 0⟩
/-- MGR_B's reference is valid. -/
def HPD_CLK_STATUS.REF_B_OK : Fld := ⟨867, .hpd, 0x10, 1, 0, 3, 1, .ro, .T, 0, 0⟩
/-- MGR_A's reference is valid. -/
def HPD_CLK_STATUS.REF_A_OK : Fld := ⟨868, .hpd, 0x10, 1, 0, 2, 1, .ro, .T, 0, 0⟩
/-- Current source, encoded below. -/
def HPD_CLK_STATUS.REF_SRC : Fld := ⟨869, .hpd, 0x10, 1, 0, 0, 2, .ro, .T, 2, 0⟩
/-! HPD_CROSS_COUNTS (spec/01_*.md) -/
/-- OVERLAP bit of CRC_COUNT. -/
def HPD_CROSS_COUNTS.CRC_OVERLAP : Fld := ⟨870, .hpd, 0x1004, 1, 0, 31, 1, .w1c, .T, 0, 0⟩
/-- Counter: frames and slots discarded for CRC or sequence. -/
def HPD_CROSS_COUNTS.CRC_COUNT : Fld := ⟨871, .hpd, 0x1004, 1, 0, 16, 15, .rw, .T, 0, 870⟩
/-- OVERLAP bit of ROLE_REJECT. -/
def HPD_CROSS_COUNTS.ROLE_OVERLAP : Fld := ⟨872, .hpd, 0x1004, 1, 0, 15, 1, .w1c, .T, 0, 0⟩
/-- Counter: writes refused under R19. -/
def HPD_CROSS_COUNTS.ROLE_REJECT : Fld := ⟨873, .hpd, 0x1004, 1, 0, 0, 15, .rw, .T, 0, 872⟩
/-! PH_CFG (spec/02_*.md) -/
/-- Rail of this phase, 0–47; 48–63 unassigned, and the phase stays OFF. -/
def PH_CFG.RAIL : Fld := ⟨33, .phase, 0x0, 1, 0, 20, 6, .rw, .S, 63, 0⟩
/-- Input group of the stage supply. -/
def PH_CFG.VING : Fld := ⟨34, .phase, 0x0, 1, 0, 17, 3, .rw, .S, 0, 0⟩
/-- Load-rule order: highest parked first, lowest added first. -/
def PH_CFG.SHED_RANK : Fld := ⟨35, .phase, 0x0, 1, 0, 12, 5, .rw, .S, 0, 0⟩
/-- 0: mid is high impedance; 1: mid driven to 1.65 V through 1 kΩ. -/
def PH_CFG.MID_DRIVE : Fld := ⟨36, .phase, 0x0, 1, 0, 11, 1, .rw, .S, 0, 0⟩
/-- 1: probes write the measured offset to IOFS; 0: probes measure and judge the offset but leave IOFS unchanged (R48). -/
def PH_CFG.AUTO_OFS : Fld := ⟨37, .phase, 0x0, 1, 0, 10, 1, .rw, .S, 1, 0⟩
/-- Edge delay in taps, 0–63 (R44). -/
def PH_CFG.DLY_TRIM : Fld := ⟨38, .phase, 0x0, 1, 0, 0, 6, .rw, .S, 0, 0⟩
/-! PH_TIMING (spec/02_*.md) -/
/-- Leading-edge position in 625 ps counts at PER_CNT; scaled to PER_ACT and then taken modulo PER_ACT (R45). -/
def PH_TIMING.OFFSET : Fld := ⟨39, .phase, 0x4, 1, 0, 16, 16, .rw, .S, 0, 0⟩
/-- Minimum on-time in 625 ps counts (default 20 ns). -/
def PH_TIMING.TON_MIN : Fld := ⟨40, .phase, 0x4, 1, 0, 8, 8, .rw, .S, 32, 0⟩
/-- Minimum off-time in 625 ps counts (default 40 ns). -/
def PH_TIMING.TOFF_MIN : Fld := ⟨41, .phase, 0x4, 1, 0, 0, 8, .rw, .S, 64, 0⟩
/-! PH_ICAL (spec/02_*.md) -/
/-- Current scale of R47; 0x1900 is 5 mV/A. -/
def PH_ICAL.IPH_SCALE : Fld := ⟨42, .phase, 0x8, 1, 0, 16, 16, .rw, .S, 6400, 0⟩
/-- Offset in codes, two's complement; written by probes when AUTO_OFS = 1 (R48). -/
def PH_ICAL.IOFS : Fld := ⟨43, .phase, 0x8, 1, 0, 0, 12, .hw, .S, 0, 52⟩
/-! PH_STATE (spec/02_*.md) -/
/-- Cause of the current or last SHED. -/
def PH_STATE.CAUSE : Fld := ⟨44, .phase, 0xC, 1, 0, 16, 4, .ro, .T, 0, 0⟩
/-- Result of the last probe. -/
def PH_STATE.VERDICT : Fld := ⟨45, .phase, 0xC, 1, 0, 12, 4, .ro, .S, 0, 0⟩
/-- Phase state. -/
def PH_STATE.STATE : Fld := ⟨46, .phase, 0xC, 1, 0, 8, 3, .ro, .T, 0, 0⟩
/-- 1 when the spare engine drives this phase. -/
def PH_STATE.ON_SPARE : Fld := ⟨47, .phase, 0xC, 1, 0, 0, 1, .ro, .T, 0, 0⟩
/-! PH_CMD (spec/02_*.md) -/
/-- Return a BLOCKED phase of an off rail to OFF (R62). -/
def PH_CMD.UNBLOCK : Fld := ⟨48, .phase, 0x10, 1, 0, 2, 1, .w1s, .T, 0, 0⟩
/-- Re-add through the re-add probe (R60) or unpark. -/
def PH_CMD.ADD : Fld := ⟨49, .phase, 0x10, 1, 0, 1, 1, .w1s, .T, 0, 0⟩
/-- Shed with cause HOST. -/
def PH_CMD.SHED : Fld := ⟨50, .phase, 0x10, 1, 0, 0, 1, .w1s, .T, 0, 0⟩
/-! PH_STATUS (spec/02_*.md) -/
/-- BLOCKED by the repeat rule (R61). -/
def PH_STATUS.REPEAT_BLOCK : Fld := ⟨51, .phase, 0x14, 1, 0, 9, 1, .w1c, .S, 0, 0⟩
/-- WR_LOST bit of IOFS. -/
def PH_STATUS.ICAL_WR_LOST : Fld := ⟨52, .phase, 0x14, 1, 0, 8, 1, .w1c, .T, 0, 0⟩
/-- A PH_CMD request was dropped. -/
def PH_STATUS.CMD_DROP : Fld := ⟨53, .phase, 0x14, 1, 0, 7, 1, .w1c, .T, 0, 0⟩
/-- A configuration write was refused (R69). -/
def PH_STATUS.CFG_REJ : Fld := ⟨54, .phase, 0x14, 1, 0, 6, 1, .w1c, .T, 0, 0⟩
/-- An on-time was clamped (R42). -/
def PH_STATUS.CLAMP : Fld := ⟨55, .phase, 0x14, 1, 0, 5, 1, .w1c, .T, 0, 0⟩
/-- The phase entered SHED. -/
def PH_STATUS.SHED_EVT : Fld := ⟨56, .phase, 0x14, 1, 0, 4, 1, .w1c, .T, 0, 0⟩
/-- The phase was parked by the load rule. -/
def PH_STATUS.PARK_EVT : Fld := ⟨57, .phase, 0x14, 1, 0, 3, 1, .w1c, .T, 0, 0⟩
/-- A probe gave a failing verdict. -/
def PH_STATUS.PROBE_FAIL : Fld := ⟨58, .phase, 0x14, 1, 0, 2, 1, .w1c, .S, 0, 0⟩
/-- The group's STG_TF line reported a fault. -/
def PH_STATUS.TF_FLT : Fld := ⟨59, .phase, 0x14, 1, 0, 1, 1, .w1c, .T, 0, 0⟩
/-- The IMON fault comparator tripped. -/
def PH_STATUS.IMON_FLT : Fld := ⟨60, .phase, 0x14, 1, 0, 0, 1, .w1c, .T, 0, 0⟩
/-! PH_IMEAS (spec/02_*.md) -/
/-- Phase current, signed, 1/32 A (R47). -/
def PH_IMEAS.IPH : Fld := ⟨61, .phase, 0x18, 1, 0, 16, 16, .ro, .T, 0, 0⟩
/-- Raw slice code. -/
def PH_IMEAS.CODE : Fld := ⟨62, .phase, 0x18, 1, 0, 0, 12, .ro, .T, 0, 0⟩
/-! PH_COUNTS (spec/02_*.md) -/
/-- Counter: entries to SHED. -/
def PH_COUNTS.SHED_COUNT : Fld := ⟨63, .phase, 0x1C, 1, 0, 24, 8, .rw, .S, 0, 64⟩
/-- OVERLAP bit of SHED_COUNT. -/
def PH_COUNTS.SHED_OVERLAP : Fld := ⟨64, .phase, 0x1C, 1, 0, 23, 1, .w1c, .S, 0, 0⟩
/-- Counter: clamped cycles. -/
def PH_COUNTS.CLAMP_COUNT : Fld := ⟨65, .phase, 0x1C, 1, 0, 8, 8, .rw, .T, 0, 66⟩
/-- OVERLAP bit of CLAMP_COUNT. -/
def PH_COUNTS.CLAMP_OVERLAP : Fld := ⟨66, .phase, 0x1C, 1, 0, 7, 1, .w1c, .T, 0, 0⟩
/-- Re-adds re-shed with the same cause (R61). -/
def PH_COUNTS.REPEAT : Fld := ⟨67, .phase, 0x1C, 1, 0, 0, 2, .ro, .S, 0, 0⟩
/-! RAIL_PWM (spec/02_*.md) -/
/-- Period in force, 625 ps counts (R45). -/
def RAIL_PWM.PER_ACT : Fld := ⟨68, .rail, 0x40, 1, 0, 18, 14, .ro, .T, 1600, 0⟩
/-- Diode emulation (R43). -/
def RAIL_PWM.DE : Fld := ⟨69, .rail, 0x40, 1, 0, 17, 1, .rw, .S, 0, 0⟩
/-- A PER_CNT write outside 400–8 000 was refused. -/
def RAIL_PWM.PER_REJ : Fld := ⟨70, .rail, 0x40, 1, 0, 16, 1, .w1c, .T, 0, 0⟩
/-- Configured period, 625 ps counts, 400–8 000. -/
def RAIL_PWM.PER_CNT : Fld := ⟨71, .rail, 0x40, 1, 0, 0, 14, .rw, .S, 1600, 0⟩
/-! RAIL_SHED (spec/02_*.md) -/
/-- Park threshold per phase, 0.5 A units; 0 disables parking. -/
def RAIL_SHED.SHED_BELOW : Fld := ⟨72, .rail, 0x44, 1, 0, 24, 8, .rw, .S, 0, 0⟩
/-- Add threshold per phase, 0.5 A units. -/
def RAIL_SHED.ADD_ABOVE : Fld := ⟨73, .rail, 0x44, 1, 0, 16, 8, .rw, .S, 0, 0⟩
/-- Park dwell in µs; 0 acts as 1. -/
def RAIL_SHED.SHED_DWELL : Fld := ⟨74, .rail, 0x44, 1, 0, 8, 8, .rw, .S, 100, 0⟩
/-- Fewest phases the load rule leaves active; 0 acts as 1. -/
def RAIL_SHED.MIN_ACTIVE : Fld := ⟨75, .rail, 0x44, 1, 0, 3, 5, .rw, .S, 1, 0⟩
/-- PARKED phases fire with Cinch and are added on its trip. -/
def RAIL_SHED.CINCH_JOIN : Fld := ⟨76, .rail, 0x44, 1, 0, 2, 1, .rw, .S, 1, 0⟩
/-- An accepted forecast adds every PARKED phase. -/
def RAIL_SHED.FC_ADD : Fld := ⟨77, .rail, 0x44, 1, 0, 1, 1, .rw, .S, 1, 0⟩
/-! RAIL_SHED_STATUS (spec/02_*.md) -/
/-- A RAIL_SHED write was refused (R59). -/
def RAIL_SHED_STATUS.SHED_REJ : Fld := ⟨78, .rail, 0x48, 1, 0, 17, 1, .w1c, .T, 0, 0⟩
/-- PARKED phases. -/
def RAIL_SHED_STATUS.N_PARKED : Fld := ⟨79, .rail, 0x48, 1, 0, 8, 6, .ro, .T, 0, 0⟩
/-- ACTIVE and SPARE_HOLD phases. -/
def RAIL_SHED_STATUS.N_ACTIVE : Fld := ⟨80, .rail, 0x48, 1, 0, 0, 6, .ro, .T, 0, 0⟩
/-! STG_GROUP_STATUS (spec/02_*.md) -/
/-- Latched STG_TF fault or TF_LOW event. -/
def STG_GROUP_STATUS.TF_FLT_EVT : Fld := ⟨81, .tile, 0x200040, 1, 0, 24, 6, .w1c, .T, 0, 0⟩
/-- Present level of STG_EN. -/
def STG_GROUP_STATUS.STG_EN : Fld := ⟨82, .tile, 0x200040, 1, 0, 16, 6, .ro, .T, 0, 0⟩
/-- STG_TF below 0.20 V for 10 µs, held until tile reset. -/
def STG_GROUP_STATUS.TF_LOW : Fld := ⟨83, .tile, 0x200040, 1, 0, 8, 6, .ro, .T, 0, 0⟩
/-- STG_TF at or above 2.50 V now. -/
def STG_GROUP_STATUS.TF_FAULT : Fld := ⟨84, .tile, 0x200040, 1, 0, 0, 6, .ro, .T, 0, 0⟩
/-! STG_TEMP (spec/02_*.md) -/
/-- Group 2j + 1 temperature, signed, 1/16 °C (R51). -/
def STG_TEMP.TEMP_ODD : Fld := ⟨85, .tile, 0x200044, 3, 4, 16, 16, .ro, .T, 0, 0⟩
/-- Group 2j temperature, signed, 1/16 °C. -/
def STG_TEMP.TEMP_EVEN : Fld := ⟨86, .tile, 0x200044, 3, 4, 0, 16, .ro, .T, 0, 0⟩
/-! STG_TF_CAL (spec/02_*.md) -/
/-- Line voltage at 25 °C in mV (600 mV). -/
def STG_TF_CAL.TF_V25 : Fld := ⟨87, .tile, 0x200050, 1, 0, 16, 16, .rw, .S, 600, 0⟩
/-- Slope in µV/°C (8 000 µV/°C). -/
def STG_TF_CAL.TF_SLOPE : Fld := ⟨88, .tile, 0x200050, 1, 0, 0, 16, .rw, .S, 8000, 0⟩
/-! ISO_STATE (spec/02_*.md) -/
/-- Bit g: ISO_N_g sensed low. -/
def ISO_STATE.ISO_PIN : Fld := ⟨89, .tile, 0x200060, 1, 0, 8, 8, .ro, .P, 0, 0⟩
/-- Bit g: this tile's latch asserts ISO_N_g. -/
def ISO_STATE.ISO_DRIVE : Fld := ⟨90, .tile, 0x200060, 1, 0, 0, 8, .ro, .P, 0, 0⟩
/-! ISO_CTRL (spec/02_*.md) -/
/-- Bit g: ISO_N_g sensed low. -/
def ISO_CTRL.ISO_PIN : Fld := ⟨91, .seqr, 0xF00, 1, 0, 24, 8, .ro, .P, 0, 0⟩
/-- Bit g: some die's latch asserts ISO_N_g. -/
def ISO_CTRL.ISO_LATCH : Fld := ⟨92, .seqr, 0xF00, 1, 0, 16, 8, .ro, .P, 0, 0⟩
/-- Bit g: release group g under R68. -/
def ISO_CTRL.RELEASE : Fld := ⟨93, .seqr, 0xF00, 1, 0, 8, 8, .w1s, .P, 0, 0⟩
/-- Bit g: assert ISO_N_g from this manager. -/
def ISO_CTRL.ASSERT : Fld := ⟨94, .seqr, 0xF00, 1, 0, 0, 8, .w1s, .P, 0, 0⟩
/-! ENG_CTRL (spec/03_*.md) -/
/-- Bit j: event bit j is considered by BEV and by conditions EV and NEV. -/
def ENG_CTRL.EV_EN : Fld := ⟨95, .phase, 0x100, 1, 0, 16, 16, .rw, .S, 0, 0⟩
/-- Inject an engine fault of kind INJECTED (R98). -/
def ENG_CTRL.FAIL_INJ : Fld := ⟨96, .phase, 0x100, 1, 0, 1, 1, .w1s, .T, 0, 0⟩
/-! ENG_STATUS (spec/03_*.md) -/
/-- BANK_CRC is current (R90). -/
def ENG_STATUS.CRC_VALID : Fld := ⟨97, .phase, 0x104, 1, 0, 12, 1, .ro, .T, 0, 0⟩
/-- Consecutive overruns since the last waiting boundary. -/
def ENG_STATUS.OVR_RUN : Fld := ⟨98, .phase, 0x104, 1, 0, 10, 2, .ro, .T, 0, 0⟩
/-- 0b00 follower, 0b01 acting lead, 0b10 standby lead. -/
def ENG_STATUS.ROLE : Fld := ⟨99, .phase, 0x104, 1, 0, 8, 2, .ro, .T, 0, 0⟩
/-- Bank the engine executes. -/
def ENG_STATUS.BANK : Fld := ⟨100, .phase, 0x104, 1, 0, 7, 1, .ro, .T, 0, 0⟩
/-- Halted under R77. -/
def ENG_STATUS.HALTED : Fld := ⟨101, .phase, 0x104, 1, 0, 6, 1, .ro, .T, 0, 0⟩
/-- A MAC or MSU saturated. -/
def ENG_STATUS.ACC_SAT : Fld := ⟨102, .phase, 0x104, 1, 0, 5, 1, .w1c, .T, 0, 0⟩
/-- Changed bank after the swap tick (R97). -/
def ENG_STATUS.SWAP_LATE : Fld := ⟨103, .phase, 0x104, 1, 0, 4, 1, .w1c, .T, 0, 0⟩
/-- A write to the active bank was refused. -/
def ENG_STATUS.PM_WR_REJ : Fld := ⟨104, .phase, 0x104, 1, 0, 3, 1, .w1c, .T, 0, 0⟩
/-- A follower wrote REFOUT. -/
def ENG_STATUS.REF_IGN : Fld := ⟨105, .phase, 0x104, 1, 0, 2, 1, .w1c, .T, 0, 0⟩
/-- A reserved encoding was fetched. -/
def ENG_STATUS.ILLEGAL : Fld := ⟨106, .phase, 0x104, 1, 0, 1, 1, .w1c, .T, 0, 0⟩
/-- An overrun occurred. -/
def ENG_STATUS.OVERRUN : Fld := ⟨107, .phase, 0x104, 1, 0, 0, 1, .w1c, .T, 0, 0⟩
/-! ENG_EV (spec/03_*.md) -/
/-- Events pending for the next waiting boundary. -/
def ENG_EV.PENDING : Fld := ⟨108, .phase, 0x108, 1, 0, 16, 16, .ro, .T, 0, 0⟩
/-- Event word as the engine now sees it. -/
def ENG_EV.EVW : Fld := ⟨109, .phase, 0x108, 1, 0, 0, 16, .ro, .T, 0, 0⟩
/-! ENG_COUNTS (spec/03_*.md) -/
/-- Counter: overruns. -/
def ENG_COUNTS.OVERRUN_COUNT : Fld := ⟨110, .phase, 0x10C, 1, 0, 16, 16, .rw, .T, 0, 111⟩
/-- OVERLAP bit of OVERRUN_COUNT. -/
def ENG_COUNTS.OVR_OVERLAP : Fld := ⟨111, .phase, 0x10C, 1, 0, 15, 1, .w1c, .T, 0, 0⟩
/-- Counter: corrected memory reads of this engine's memories. -/
def ENG_COUNTS.ECC_COUNT : Fld := ⟨112, .phase, 0x10C, 1, 0, 1, 7, .rw, .T, 0, 113⟩
/-- OVERLAP bit of ECC_COUNT. -/
def ENG_COUNTS.ECC_OVERLAP : Fld := ⟨113, .phase, 0x10C, 1, 0, 0, 1, .w1c, .T, 0, 0⟩
/-! ENG_PC (spec/03_*.md) -/
/-- Address of the instruction that halted the engine. -/
def ENG_PC.HALT_PC : Fld := ⟨114, .phase, 0x110, 1, 0, 16, 10, .ro, .T, 0, 0⟩
/-- Address of the last WAITT executed. -/
def ENG_PC.WAIT_PC : Fld := ⟨115, .phase, 0x110, 1, 0, 0, 10, .ro, .T, 0, 0⟩
/-! ENG_FAULT (spec/03_*.md) -/
/-- The engine passed an Awl probe since its last fault (R103). -/
def ENG_FAULT.PROBE_OK : Fld := ⟨116, .phase, 0x114, 1, 0, 7, 1, .ro, .T, 0, 0⟩
/-- Kind of the last engine fault (R98). -/
def ENG_FAULT.KIND : Fld := ⟨117, .phase, 0x114, 1, 0, 0, 4, .ro, .T, 0, 0⟩
/-! ENG_USER (spec/03_*.md) -/
/-- Last committed USER output. -/
def ENG_USER.USER : Fld := ⟨118, .phase, 0x118, 1, 0, 0, 16, .ro, .T, 0, 0⟩
/-! BANK_CRC (spec/03_*.md) -/
/-- CRC-32 of the inactive bank (R90). -/
def BANK_CRC.CRC : Fld := ⟨119, .phase, 0x11C, 1, 0, 0, 32, .ro, .T, 0, 0⟩
/-! RAIL_ENG_CFG (spec/03_*.md) -/
/-- Local phase of the standby lead; 0x1F none. -/
def RAIL_ENG_CFG.STBY_PH : Fld := ⟨120, .rail, 0x80, 1, 0, 16, 5, .rw, .S, 31, 0⟩
/-- Local phase of the acting lead on the home tile; 0x1F none. -/
def RAIL_ENG_CFG.LEAD_PH : Fld := ⟨121, .rail, 0x80, 1, 0, 8, 5, .rw, .S, 31, 0⟩
/-- Deliver the reference to local engines at age 6 (R93). -/
def RAIL_ENG_CFG.REF_ALIGN : Fld := ⟨122, .rail, 0x80, 1, 0, 1, 1, .rw, .S, 0, 0⟩
/-! RAIL_ENG_CTRL (spec/03_*.md) -/
/-- Arm a bank swap at RAIL_SWAP_AT (R96). -/
def RAIL_ENG_CTRL.SWAP_ARM : Fld := ⟨123, .rail, 0x84, 1, 0, 1, 1, .w1s, .T, 0, 0⟩
/-! RAIL_SWAP_AT (spec/03_*.md) -/
/-- TICK value of the swap boundary. -/
def RAIL_SWAP_AT.SWAP_AT : Fld := ⟨124, .rail, 0x88, 1, 0, 0, 32, .rw, .T, 0, 0⟩
/-! RAIL_ENG_STATUS (spec/03_*.md) -/
/-- Bank in force for the rail. -/
def RAIL_ENG_STATUS.ACT_BANK : Fld := ⟨125, .rail, 0x8C, 1, 0, 8, 1, .ro, .S, 0, 0⟩
/-- A RAIL_ENG_CFG write was refused (R105). -/
def RAIL_ENG_STATUS.ENG_CFG_REJ : Fld := ⟨126, .rail, 0x8C, 1, 0, 3, 1, .w1c, .T, 0, 0⟩
/-- An arming was refused (R96). -/
def RAIL_ENG_STATUS.SWAP_REJ : Fld := ⟨127, .rail, 0x8C, 1, 0, 2, 1, .w1c, .T, 0, 0⟩
/-- A swap took effect. -/
def RAIL_ENG_STATUS.SWAP_DONE : Fld := ⟨128, .rail, 0x8C, 1, 0, 1, 1, .w1c, .T, 0, 0⟩
/-- A swap is armed and not yet taken. -/
def RAIL_ENG_STATUS.SWAP_PEND : Fld := ⟨129, .rail, 0x8C, 1, 0, 0, 1, .ro, .T, 0, 0⟩
/-! SPARE_CTRL (spec/03_*.md) -/
/-- Return the served phase to its own engine (R104). -/
def SPARE_CTRL.HANDBACK : Fld := ⟨130, .tile, 0x205000, 1, 0, 1, 1, .w1s, .T, 0, 0⟩
/-! SPARE_STATUS (spec/03_*.md) -/
/-- Counter: takeovers by the spare. -/
def SPARE_STATUS.TAKEOVER_COUNT : Fld := ⟨131, .tile, 0x205004, 1, 0, 24, 8, .rw, .S, 0, 132⟩
/-- OVERLAP bit of TAKEOVER_COUNT. -/
def SPARE_STATUS.TAKE_OVERLAP : Fld := ⟨132, .tile, 0x205004, 1, 0, 23, 1, .w1c, .S, 0, 0⟩
/-- Kind of the last fault detected in the spare engine itself while it stood in (R102), KIND encoding. -/
def SPARE_STATUS.SPARE_KIND : Fld := ⟨133, .tile, 0x205004, 1, 0, 10, 4, .ro, .T, 0, 0⟩
/-- A handback was refused. -/
def SPARE_STATUS.HANDBACK_REJ : Fld := ⟨134, .tile, 0x205004, 1, 0, 9, 1, .w1c, .T, 0, 0⟩
/-- A takeover completed. -/
def SPARE_STATUS.TAKEOVER_EVT : Fld := ⟨135, .tile, 0x205004, 1, 0, 8, 1, .w1c, .T, 0, 0⟩
/-- The spare stands in for an engine. -/
def SPARE_STATUS.BUSY : Fld := ⟨136, .tile, 0x205004, 1, 0, 5, 1, .ro, .T, 0, 0⟩
/-- Local phase served; 0x1F when free. -/
def SPARE_STATUS.FOR : Fld := ⟨137, .tile, 0x205004, 1, 0, 0, 5, .ro, .T, 31, 0⟩
/-! RAIL_LAW (spec/04_*.md) -/
/-- Ziluoz library version in boot ROM. -/
def RAIL_LAW.LIB_VER : Fld := ⟨138, .rail, 0xC0, 1, 0, 24, 8, .ro, .P, 1, 0⟩
/-- A LAW_ID write was refused (R106, R107). -/
def RAIL_LAW.LAW_REJ : Fld := ⟨139, .rail, 0xC0, 1, 0, 16, 1, .w1c, .T, 0, 0⟩
/-- Law present in the engines' banks. -/
def RAIL_LAW.LOADED_ID : Fld := ⟨140, .rail, 0xC0, 1, 0, 8, 8, .ro, .T, 0, 0⟩
/-- Selected law. -/
def RAIL_LAW.LAW_ID : Fld := ⟨141, .rail, 0xC0, 1, 0, 0, 8, .rw, .S, 0, 0⟩
/-! RAIL_SETPT (spec/04_*.md) -/
/-- A VSET_TGT or DIVIDER write was refused (R119). -/
def RAIL_SETPT.SP_REJ : Fld := ⟨142, .rail, 0xC4, 1, 0, 18, 1, .w1c, .T, 0, 0⟩
/-- Soft-start from the measured pre-bias (R117). -/
def RAIL_SETPT.PREBIAS_START : Fld := ⟨143, .rail, 0xC4, 1, 0, 17, 1, .rw, .S, 1, 0⟩
/-- Divider-mode set-point range. -/
def RAIL_SETPT.DIVIDER : Fld := ⟨144, .rail, 0xC4, 1, 0, 16, 1, .rw, .S, 0, 0⟩
/-- Target set-point, 1/4 mV. -/
def RAIL_SETPT.VSET_TGT : Fld := ⟨145, .rail, 0xC4, 1, 0, 0, 16, .rw, .S, 3200, 0⟩
/-! RAIL_RAMP (spec/04_*.md) -/
/-- Soft-start rate, Q16 1/4 mV per tick. -/
def RAIL_RAMP.SS_RATE : Fld := ⟨146, .rail, 0xC8, 1, 0, 16, 16, .rw, .S, 2097, 0⟩
/-- Commanded ramp rate, Q16 1/4 mV per tick; 0 steps. -/
def RAIL_RAMP.STEP_RATE : Fld := ⟨147, .rail, 0xC8, 1, 0, 0, 16, .rw, .S, 0, 0⟩
/-! RAIL_SP_STATUS (spec/04_*.md) -/
/-- Soft-start ramp in progress. -/
def RAIL_SP_STATUS.SS_ACTIVE : Fld := ⟨148, .rail, 0xCC, 1, 0, 17, 1, .ro, .T, 0, 0⟩
/-- Commanded ramp in progress. -/
def RAIL_SP_STATUS.RAMPING : Fld := ⟨149, .rail, 0xCC, 1, 0, 16, 1, .ro, .T, 0, 0⟩
/-- Present VSET, 1/4 mV. -/
def RAIL_SP_STATUS.VSET_NOW : Fld := ⟨150, .rail, 0xCC, 1, 0, 0, 16, .ro, .T, 0, 0⟩
/-! RAIL_TRACK (spec/04_*.md) -/
/-- Tracking ratio, unsigned Q15 (0x8000 is 1.0). -/
def RAIL_TRACK.TRK_RATIO : Fld := ⟨151, .rail, 0xD0, 1, 0, 16, 16, .rw, .S, 32768, 0⟩
/-- Tracking offset, signed, 1/4 mV. -/
def RAIL_TRACK.TRK_OFS : Fld := ⟨152, .rail, 0xD0, 1, 0, 6, 10, .rw, .S, 0, 0⟩
/-- Source rail, 0–47; 0x3F none (R114). -/
def RAIL_TRACK.TRK_SRC : Fld := ⟨153, .rail, 0xD0, 1, 0, 0, 6, .rw, .S, 63, 0⟩
/-! CINCH_CFG (spec/05_*.md) -/
/-- Slope window, 10 ns units, 1–15. -/
def CINCH_CFG.SLOPE_WIN : Fld := ⟨154, .rail, 0x100, 1, 0, 24, 4, .rw, .S, 5, 0⟩
/-- Slope criterion, 0.5 mV/ns units, 1–40. -/
def CINCH_CFG.SLOPE : Fld := ⟨155, .rail, 0x100, 1, 0, 16, 6, .rw, .S, 4, 0⟩
/-- Level below the window reference, mV, 10–120. -/
def CINCH_CFG.LEVEL : Fld := ⟨156, .rail, 0x100, 1, 0, 8, 7, .rw, .S, 20, 0⟩
/-- 0: fixed on-time; 1: early release (R127). -/
def CINCH_CFG.REL_MODE : Fld := ⟨157, .rail, 0x100, 1, 0, 2, 1, .rw, .S, 0, 0⟩
/-- Trip condition (R122). -/
def CINCH_CFG.MODE : Fld := ⟨158, .rail, 0x100, 1, 0, 0, 2, .rw, .S, 0, 0⟩
/-! CINCH_TIME (spec/05_*.md) -/
/-- Per-phase fire cut, 0.5 A units; 0: none (R126). -/
def CINCH_TIME.IPK : Fld := ⟨159, .rail, 0x104, 1, 0, 24, 8, .rw, .S, 0, 0⟩
/-- On-time in ticks, 2–40. -/
def CINCH_TIME.ON_TIME : Fld := ⟨160, .rail, 0x104, 1, 0, 0, 6, .rw, .S, 10, 0⟩
/-! CINCH_DROOP (spec/05_*.md) -/
/-- Droop limit of the window reference, 1/4 mV (R120). -/
def CINCH_DROOP.C_DMAX : Fld := ⟨161, .rail, 0x108, 1, 0, 16, 16, .rw, .S, 0, 0⟩
/-- Load line of the window reference, Q16. -/
def CINCH_DROOP.C_RLL : Fld := ⟨162, .rail, 0x108, 1, 0, 0, 16, .rw, .S, 0, 0⟩
/-! CINCH_STATUS (spec/05_*.md) -/
/-- Counter: window trips. -/
def CINCH_STATUS.TRIP_COUNT : Fld := ⟨163, .rail, 0x10C, 1, 0, 16, 16, .rw, .T, 0, 164⟩
/-- OVERLAP bit of TRIP_COUNT. -/
def CINCH_STATUS.TRIP_OVERLAP : Fld := ⟨164, .rail, 0x10C, 1, 0, 15, 1, .w1c, .T, 0, 0⟩
/-- Counter: phases cut by IPK, fires and forecast pulses. -/
def CINCH_STATUS.CUT_COUNT : Fld := ⟨165, .rail, 0x10C, 1, 0, 8, 7, .rw, .T, 0, 166⟩
/-- OVERLAP bit of CUT_COUNT. -/
def CINCH_STATUS.CUT_OVERLAP : Fld := ⟨166, .rail, 0x10C, 1, 0, 7, 1, .w1c, .T, 0, 0⟩
/-- A write was refused (R142). -/
def CINCH_STATUS.CFG_REJ : Fld := ⟨167, .rail, 0x10C, 1, 0, 5, 1, .w1c, .T, 0, 0⟩
/-- A release came early (R127). -/
def CINCH_STATUS.EARLY_REL : Fld := ⟨168, .rail, 0x10C, 1, 0, 4, 1, .w1c, .T, 0, 0⟩
/-- The window tripped. -/
def CINCH_STATUS.TRIP_EVT : Fld := ⟨169, .rail, 0x10C, 1, 0, 3, 1, .w1c, .T, 0, 0⟩
/-- From the trip to B_R + 500 ns. -/
def CINCH_STATUS.HOLDOFF : Fld := ⟨170, .rail, 0x10C, 1, 0, 2, 1, .ro, .T, 0, 0⟩
/-- From the trip to B_R + 40 ns. -/
def CINCH_STATUS.FIRING : Fld := ⟨171, .rail, 0x10C, 1, 0, 1, 1, .ro, .T, 0, 0⟩
/-- The window is armed (R123). -/
def CINCH_STATUS.ARMED : Fld := ⟨172, .rail, 0x10C, 1, 0, 0, 1, .ro, .T, 0, 0⟩
/-! CINCH_LAST (spec/05_*.md) -/
/-- TICK of the tick in which the last trip occurred. -/
def CINCH_LAST.TRIP_TICK : Fld := ⟨173, .rail, 0x110, 1, 0, 0, 32, .ro, .T, 0, 0⟩
/-! CINCH_PRESET (spec/05_*.md) -/
/-- Whole ticks from the boundary that ends the trip tick to B_R of the last response. -/
def CINCH_PRESET.DUR : Fld := ⟨174, .rail, 0x114, 1, 0, 16, 16, .ro, .T, 0, 0⟩
/-- This tile's CPRESET of the last release, signed, 1/32 A, saturated to the 16-bit range; the CPRESET port carries the unsaturated value (R129). -/
def CINCH_PRESET.CPRESET : Fld := ⟨175, .rail, 0x114, 1, 0, 0, 16, .ro, .T, 0, 0⟩
/-! FC_CFG (spec/05_*.md) -/
/-- Pulse taps per 0.5 A per phase (R138). -/
def FC_CFG.FC_TPH : Fld := ⟨176, .rail, 0x140, 1, 0, 24, 8, .rw, .S, 0, 0⟩
/-- Pulse spread, ticks; 0: all pulses start at S. -/
def FC_CFG.FC_SPREAD : Fld := ⟨177, .rail, 0x140, 1, 0, 16, 8, .rw, .S, 0, 0⟩
/-- Fire advance before D, ticks. -/
def FC_CFG.FC_FADV : Fld := ⟨178, .rail, 0x140, 1, 0, 8, 8, .rw, .S, 0, 0⟩
/-- Enable the forecast fire. -/
def FC_CFG.FIRE : Fld := ⟨179, .rail, 0x140, 1, 0, 2, 1, .rw, .S, 0, 0⟩
/-- Ports accepted, encoded below. -/
def FC_CFG.SRC : Fld := ⟨180, .rail, 0x140, 1, 0, 0, 2, .rw, .S, 0, 0⟩
/-! FC_JUDGE (spec/05_*.md) -/
/-- Judgement delay after D, ticks; 0 acts as 1; each forecast keeps the value in force at its acceptance (R139, R142). -/
def FC_JUDGE.FC_JUDGE : Fld := ⟨181, .rail, 0x144, 1, 0, 0, 16, .rw, .S, 200, 0⟩
/-! FC_STATUS (spec/05_*.md) -/
/-- Counter: valid words refused (R136). -/
def FC_STATUS.REFUSE_COUNT : Fld := ⟨182, .rail, 0x148, 1, 0, 24, 8, .rw, .T, 0, 183⟩
/-- OVERLAP bit of REFUSE_COUNT. -/
def FC_STATUS.REFUSE_OVERLAP : Fld := ⟨183, .rail, 0x148, 1, 0, 23, 1, .w1c, .T, 0, 0⟩
/-- A pulse length was limited (R138). -/
def FC_STATUS.TCLAMP : Fld := ⟨184, .rail, 0x148, 1, 0, 7, 1, .w1c, .T, 0, 0⟩
/-- A write was refused (R142). -/
def FC_STATUS.CFG_REJ : Fld := ⟨185, .rail, 0x148, 1, 0, 6, 1, .w1c, .T, 0, 0⟩
/-- Due and awaiting judgement. -/
def FC_STATUS.JUDGING : Fld := ⟨186, .rail, 0x148, 1, 0, 5, 1, .ro, .T, 0, 0⟩
/-- Forecast pulses scheduled or running. -/
def FC_STATUS.FIRE_ACT : Fld := ⟨187, .rail, 0x148, 1, 0, 4, 1, .ro, .T, 0, 0⟩
/-- A forecast is pending. -/
def FC_STATUS.PENDING : Fld := ⟨188, .rail, 0x148, 1, 0, 3, 1, .ro, .T, 0, 0⟩
/-! FC_COUNT_A (spec/05_*.md) -/
/-- OVERLAP bit of MET_COUNT. -/
def FC_COUNT_A.OVERLAP_HI : Fld := ⟨189, .rail, 0x14C, 1, 0, 31, 1, .w1c, .T, 0, 0⟩
/-! FC_COUNT_B (spec/05_*.md) -/
/-- OVERLAP bit of MISS_COUNT. -/
def FC_COUNT_B.OVERLAP_HI : Fld := ⟨190, .rail, 0x150, 1, 0, 31, 1, .w1c, .T, 0, 0⟩
/-! FC_COUNT_C (spec/05_*.md) -/
/-- OVERLAP bit of CINCHED_COUNT. -/
def FC_COUNT_C.OVERLAP_HI : Fld := ⟨191, .rail, 0x154, 1, 0, 31, 1, .w1c, .T, 0, 0⟩
/-! FC_COUNT_A (spec/05_*.md) -/
/-- Counter: forecasts met. -/
def FC_COUNT_A.MET_COUNT : Fld := ⟨192, .rail, 0x14C, 1, 0, 16, 15, .rw, .T, 0, 189⟩
/-! FC_COUNT_B (spec/05_*.md) -/
/-- Counter: forecasts expired. -/
def FC_COUNT_B.MISS_COUNT : Fld := ⟨193, .rail, 0x150, 1, 0, 16, 15, .rw, .T, 0, 190⟩
/-! FC_COUNT_C (spec/05_*.md) -/
/-- Counter: fires cut by a trip (R141). -/
def FC_COUNT_C.CINCHED_COUNT : Fld := ⟨194, .rail, 0x154, 1, 0, 16, 15, .rw, .T, 0, 191⟩
/-! FC_COUNT_A (spec/05_*.md) -/
/-- OVERLAP bit of ACC_COUNT. -/
def FC_COUNT_A.OVERLAP_LO : Fld := ⟨195, .rail, 0x14C, 1, 0, 15, 1, .w1c, .T, 0, 0⟩
/-! FC_COUNT_B (spec/05_*.md) -/
/-- OVERLAP bit of REPL_COUNT. -/
def FC_COUNT_B.OVERLAP_LO : Fld := ⟨196, .rail, 0x150, 1, 0, 15, 1, .w1c, .T, 0, 0⟩
/-! FC_COUNT_C (spec/05_*.md) -/
/-- OVERLAP bit of LATE_COUNT. -/
def FC_COUNT_C.OVERLAP_LO : Fld := ⟨197, .rail, 0x154, 1, 0, 15, 1, .w1c, .T, 0, 0⟩
/-! FC_COUNT_A (spec/05_*.md) -/
/-- Counter: words accepted. -/
def FC_COUNT_A.ACC_COUNT : Fld := ⟨198, .rail, 0x14C, 1, 0, 0, 15, .rw, .T, 0, 195⟩
/-! FC_COUNT_B (spec/05_*.md) -/
/-- Counter: forecasts replaced or cancelled. -/
def FC_COUNT_B.REPL_COUNT : Fld := ⟨199, .rail, 0x150, 1, 0, 0, 15, .rw, .T, 0, 196⟩
/-! FC_COUNT_C (spec/05_*.md) -/
/-- Counter: fires started late. -/
def FC_COUNT_C.LATE_COUNT : Fld := ⟨200, .rail, 0x154, 1, 0, 0, 15, .rw, .T, 0, 197⟩
/-! FC_LAST (spec/05_*.md) -/
/-- Last accepted word, as received. -/
def FC_LAST.WORD : Fld := ⟨201, .rail, 0x158, 1, 0, 0, 32, .ro, .T, 0, 0⟩
/-! FC_PORT_CTRL (spec/05_*.md) -/
/-- FCB termination; acts on TILE_3 only, reads 0 elsewhere. -/
def FC_PORT_CTRL.TERM_B : Fld := ⟨202, .tile, 0x200080, 1, 0, 5, 1, .rw, .S, 0, 0⟩
/-- FCA termination; acts on TILE_3 only, reads 0 elsewhere. -/
def FC_PORT_CTRL.TERM_A : Fld := ⟨203, .tile, 0x200080, 1, 0, 4, 1, .rw, .S, 0, 0⟩
/-- Decode FCB. -/
def FC_PORT_CTRL.EN_B : Fld := ⟨204, .tile, 0x200080, 1, 0, 1, 1, .rw, .S, 0, 0⟩
/-- Decode FCA. -/
def FC_PORT_CTRL.EN_A : Fld := ⟨205, .tile, 0x200080, 1, 0, 0, 1, .rw, .S, 0, 0⟩
/-! FC_PORT_STATUS (spec/05_*.md) -/
/-- Counter: FCA words discarded for CRC or framing. -/
def FC_PORT_STATUS.ERR_A : Fld := ⟨206, .tile, 0x200084, 1, 0, 24, 8, .rw, .T, 0, 207⟩
/-- OVERLAP bit of ERR_A. -/
def FC_PORT_STATUS.ERR_A_OVERLAP : Fld := ⟨207, .tile, 0x200084, 1, 0, 23, 1, .w1c, .T, 0, 0⟩
/-- Counter: FCB words discarded for CRC or framing. -/
def FC_PORT_STATUS.ERR_B : Fld := ⟨208, .tile, 0x200084, 1, 0, 8, 8, .rw, .T, 0, 209⟩
/-- OVERLAP bit of ERR_B. -/
def FC_PORT_STATUS.ERR_B_OVERLAP : Fld := ⟨209, .tile, 0x200084, 1, 0, 7, 1, .w1c, .T, 0, 0⟩
/-- No FCB clock edge for 100 ns. -/
def FC_PORT_STATUS.NOCLK_B : Fld := ⟨210, .tile, 0x200084, 1, 0, 3, 1, .ro, .T, 0, 0⟩
/-- No FCA clock edge for 100 ns. -/
def FC_PORT_STATUS.NOCLK_A : Fld := ⟨211, .tile, 0x200084, 1, 0, 2, 1, .ro, .T, 0, 0⟩
/-! CINCH_WIRE_STATUS (spec/05_*.md) -/
/-- Wire from the upper neighbour disagreed with its slot flag (R132). -/
def CINCH_WIRE_STATUS.CWIRE_FLT_UP : Fld := ⟨212, .tile, 0x204000, 1, 0, 8, 8, .w1c, .T, 0, 0⟩
/-- Wire from the lower neighbour disagreed with its slot flag. -/
def CINCH_WIRE_STATUS.CWIRE_FLT_LO : Fld := ⟨213, .tile, 0x204000, 1, 0, 0, 8, .w1c, .T, 0, 0⟩

/-- Every field of this file. -/
def allA : List Fld :=
  [BEAT_LO.BEAT_LOW, BEAT_HI.BEAT_EPOCH, BEAT_HI.BEAT_HIGH, CLK_CTRL.SSC_MODE, CLK_STATUS.PLL_NR_COUNT, CLK_STATUS.PLL_NR_OVERLAP, CLK_STATUS.CLOCK_DISAGREE, CLK_STATUS.LOCK_LOST, CLK_STATUS.XTAL_FAIL, CLK_STATUS.CLOCK_READY, CLK_STATUS.RELOCK_ACTIVE, CLK_STATUS.PEER_REF_OK]
  ++ [CLK_STATUS.ROOT_LOCK, TILE_CLK_STATUS.SWITCH_COUNT, TILE_CLK_STATUS.SWITCH_OVERLAP, TILE_CLK_STATUS.FREERUN_EVT, TILE_CLK_STATUS.SWITCH_EVT, TILE_CLK_STATUS.HOLDOVER_EVT, TILE_CLK_STATUS.SETTLING, TILE_CLK_STATUS.REF_B_OK, TILE_CLK_STATUS.REF_A_OK, TILE_CLK_STATUS.REF_SRC, CROSS_LANE_STATUS.SPARE_MAP_UP, CROSS_LANE_STATUS.SPARE_MAP_LO]
  ++ [CROSS_LANE_STATUS.LANE_FAIL_UP, CROSS_LANE_STATUS.LANE_FAIL_LO, CROSS_LANE_STATUS.LANE_FAIL_B, CROSS_LANE_STATUS.LANE_FAIL_A, CROSS_COUNTS.CRC_OVERLAP, CROSS_COUNTS.CRC_COUNT, CROSS_COUNTS.ROLE_OVERLAP, CROSS_COUNTS.ROLE_REJECT, HPD_CLK_STATUS.SWITCH_COUNT, HPD_CLK_STATUS.SWITCH_OVERLAP, HPD_CLK_STATUS.FREERUN_EVT, HPD_CLK_STATUS.SWITCH_EVT]
  ++ [HPD_CLK_STATUS.HOLDOVER_EVT, HPD_CLK_STATUS.SETTLING, HPD_CLK_STATUS.REF_B_OK, HPD_CLK_STATUS.REF_A_OK, HPD_CLK_STATUS.REF_SRC, HPD_CROSS_COUNTS.CRC_OVERLAP, HPD_CROSS_COUNTS.CRC_COUNT, HPD_CROSS_COUNTS.ROLE_OVERLAP, HPD_CROSS_COUNTS.ROLE_REJECT, PH_CFG.RAIL, PH_CFG.VING, PH_CFG.SHED_RANK]
  ++ [PH_CFG.MID_DRIVE, PH_CFG.AUTO_OFS, PH_CFG.DLY_TRIM, PH_TIMING.OFFSET, PH_TIMING.TON_MIN, PH_TIMING.TOFF_MIN, PH_ICAL.IPH_SCALE, PH_ICAL.IOFS, PH_STATE.CAUSE, PH_STATE.VERDICT, PH_STATE.STATE, PH_STATE.ON_SPARE]
  ++ [PH_CMD.UNBLOCK, PH_CMD.ADD, PH_CMD.SHED, PH_STATUS.REPEAT_BLOCK, PH_STATUS.ICAL_WR_LOST, PH_STATUS.CMD_DROP, PH_STATUS.CFG_REJ, PH_STATUS.CLAMP, PH_STATUS.SHED_EVT, PH_STATUS.PARK_EVT, PH_STATUS.PROBE_FAIL, PH_STATUS.TF_FLT]
  ++ [PH_STATUS.IMON_FLT, PH_IMEAS.IPH, PH_IMEAS.CODE, PH_COUNTS.SHED_COUNT, PH_COUNTS.SHED_OVERLAP, PH_COUNTS.CLAMP_COUNT, PH_COUNTS.CLAMP_OVERLAP, PH_COUNTS.REPEAT, RAIL_PWM.PER_ACT, RAIL_PWM.DE, RAIL_PWM.PER_REJ, RAIL_PWM.PER_CNT]
  ++ [RAIL_SHED.SHED_BELOW, RAIL_SHED.ADD_ABOVE, RAIL_SHED.SHED_DWELL, RAIL_SHED.MIN_ACTIVE, RAIL_SHED.CINCH_JOIN, RAIL_SHED.FC_ADD, RAIL_SHED_STATUS.SHED_REJ, RAIL_SHED_STATUS.N_PARKED, RAIL_SHED_STATUS.N_ACTIVE, STG_GROUP_STATUS.TF_FLT_EVT, STG_GROUP_STATUS.STG_EN, STG_GROUP_STATUS.TF_LOW]
  ++ [STG_GROUP_STATUS.TF_FAULT, STG_TEMP.TEMP_ODD, STG_TEMP.TEMP_EVEN, STG_TF_CAL.TF_V25, STG_TF_CAL.TF_SLOPE, ISO_STATE.ISO_PIN, ISO_STATE.ISO_DRIVE, ISO_CTRL.ISO_PIN, ISO_CTRL.ISO_LATCH, ISO_CTRL.RELEASE, ISO_CTRL.ASSERT, ENG_CTRL.EV_EN]
  ++ [ENG_CTRL.FAIL_INJ, ENG_STATUS.CRC_VALID, ENG_STATUS.OVR_RUN, ENG_STATUS.ROLE, ENG_STATUS.BANK, ENG_STATUS.HALTED, ENG_STATUS.ACC_SAT, ENG_STATUS.SWAP_LATE, ENG_STATUS.PM_WR_REJ, ENG_STATUS.REF_IGN, ENG_STATUS.ILLEGAL, ENG_STATUS.OVERRUN]
  ++ [ENG_EV.PENDING, ENG_EV.EVW, ENG_COUNTS.OVERRUN_COUNT, ENG_COUNTS.OVR_OVERLAP, ENG_COUNTS.ECC_COUNT, ENG_COUNTS.ECC_OVERLAP, ENG_PC.HALT_PC, ENG_PC.WAIT_PC, ENG_FAULT.PROBE_OK, ENG_FAULT.KIND, ENG_USER.USER, BANK_CRC.CRC]
  ++ [RAIL_ENG_CFG.STBY_PH, RAIL_ENG_CFG.LEAD_PH, RAIL_ENG_CFG.REF_ALIGN, RAIL_ENG_CTRL.SWAP_ARM, RAIL_SWAP_AT.SWAP_AT, RAIL_ENG_STATUS.ACT_BANK, RAIL_ENG_STATUS.ENG_CFG_REJ, RAIL_ENG_STATUS.SWAP_REJ, RAIL_ENG_STATUS.SWAP_DONE, RAIL_ENG_STATUS.SWAP_PEND, SPARE_CTRL.HANDBACK, SPARE_STATUS.TAKEOVER_COUNT]
  ++ [SPARE_STATUS.TAKE_OVERLAP, SPARE_STATUS.SPARE_KIND, SPARE_STATUS.HANDBACK_REJ, SPARE_STATUS.TAKEOVER_EVT, SPARE_STATUS.BUSY, SPARE_STATUS.FOR, RAIL_LAW.LIB_VER, RAIL_LAW.LAW_REJ, RAIL_LAW.LOADED_ID, RAIL_LAW.LAW_ID, RAIL_SETPT.SP_REJ, RAIL_SETPT.PREBIAS_START]
  ++ [RAIL_SETPT.DIVIDER, RAIL_SETPT.VSET_TGT, RAIL_RAMP.SS_RATE, RAIL_RAMP.STEP_RATE, RAIL_SP_STATUS.SS_ACTIVE, RAIL_SP_STATUS.RAMPING, RAIL_SP_STATUS.VSET_NOW, RAIL_TRACK.TRK_RATIO, RAIL_TRACK.TRK_OFS, RAIL_TRACK.TRK_SRC, CINCH_CFG.SLOPE_WIN, CINCH_CFG.SLOPE]
  ++ [CINCH_CFG.LEVEL, CINCH_CFG.REL_MODE, CINCH_CFG.MODE, CINCH_TIME.IPK, CINCH_TIME.ON_TIME, CINCH_DROOP.C_DMAX, CINCH_DROOP.C_RLL, CINCH_STATUS.TRIP_COUNT, CINCH_STATUS.TRIP_OVERLAP, CINCH_STATUS.CUT_COUNT, CINCH_STATUS.CUT_OVERLAP, CINCH_STATUS.CFG_REJ]
  ++ [CINCH_STATUS.EARLY_REL, CINCH_STATUS.TRIP_EVT, CINCH_STATUS.HOLDOFF, CINCH_STATUS.FIRING, CINCH_STATUS.ARMED, CINCH_LAST.TRIP_TICK, CINCH_PRESET.DUR, CINCH_PRESET.CPRESET, FC_CFG.FC_TPH, FC_CFG.FC_SPREAD, FC_CFG.FC_FADV, FC_CFG.FIRE]
  ++ [FC_CFG.SRC, FC_JUDGE.FC_JUDGE, FC_STATUS.REFUSE_COUNT, FC_STATUS.REFUSE_OVERLAP, FC_STATUS.TCLAMP, FC_STATUS.CFG_REJ, FC_STATUS.JUDGING, FC_STATUS.FIRE_ACT, FC_STATUS.PENDING, FC_COUNT_A.OVERLAP_HI, FC_COUNT_B.OVERLAP_HI, FC_COUNT_C.OVERLAP_HI]
  ++ [FC_COUNT_A.MET_COUNT, FC_COUNT_B.MISS_COUNT, FC_COUNT_C.CINCHED_COUNT, FC_COUNT_A.OVERLAP_LO, FC_COUNT_B.OVERLAP_LO, FC_COUNT_C.OVERLAP_LO, FC_COUNT_A.ACC_COUNT, FC_COUNT_B.REPL_COUNT, FC_COUNT_C.LATE_COUNT, FC_LAST.WORD, FC_PORT_CTRL.TERM_B, FC_PORT_CTRL.TERM_A]
  ++ [FC_PORT_CTRL.EN_B, FC_PORT_CTRL.EN_A, FC_PORT_STATUS.ERR_A, FC_PORT_STATUS.ERR_A_OVERLAP, FC_PORT_STATUS.ERR_B, FC_PORT_STATUS.ERR_B_OVERLAP, FC_PORT_STATUS.NOCLK_B, FC_PORT_STATUS.NOCLK_A, CINCH_WIRE_STATUS.CWIRE_FLT_UP, CINCH_WIRE_STATUS.CWIRE_FLT_LO]

end Sys2Proof.Machine.Reg
end

