-- ==== Sys2Proof/Machine/RegsB.lean ====
section
/-!
DEFINITION. The register fields of the chapters 06 (sensing), 07 (sequencing), 08 (protection and thermal limits),
one constant a field, as the field tables of spec/ give them. Order of the entries: number, block, offset,
copies, stride, lowest bit, width, access, retention, reset value, number of the companion bit.
-/
namespace Sys2Proof.Machine.Reg

/-! SNS_CTRL (spec/06_*.md) -/
/-- Run skew calibration on every channel whose rails are off (R148). -/
def SNS_CTRL.SKEW_CAL : Fld := ⟨214, .tile, 0x203000, 1, 0, 1, 1, .w1s, .T, 0, 0⟩
/-- Run the spare rotation (R150). -/
def SNS_CTRL.ROT_EN : Fld := ⟨215, .tile, 0x203000, 1, 0, 0, 1, .rw, .S, 1, 0⟩
/-! SNS_STATUS (spec/06_*.md) -/
/-- Counter: rotations completed. -/
def SNS_STATUS.ROT_COUNT : Fld := ⟨216, .tile, 0x203004, 1, 0, 24, 8, .rw, .T, 0, 217⟩
/-- OVERLAP bit of ROT_COUNT. -/
def SNS_STATUS.ROT_OVERLAP : Fld := ⟨217, .tile, 0x203004, 1, 0, 23, 1, .w1c, .T, 0, 0⟩
/-- Skew calibration running. -/
def SNS_STATUS.SKEW_BUSY : Fld := ⟨218, .tile, 0x203004, 1, 0, 18, 1, .ro, .T, 0, 0⟩
/-- The spare holds a retired position. -/
def SNS_STATUS.SPARE_FIXED : Fld := ⟨219, .tile, 0x203004, 1, 0, 17, 1, .ro, .T, 0, 0⟩
/-- The spare failed its self-calibration. -/
def SNS_STATUS.SPARE_OUT : Fld := ⟨220, .tile, 0x203004, 1, 0, 16, 1, .ro, .T, 0, 0⟩
/-- A write was refused (R165). -/
def SNS_STATUS.CFG_REJ : Fld := ⟨221, .tile, 0x203004, 1, 0, 15, 1, .w1c, .T, 0, 0⟩
/-- A channel was lost (R152). -/
def SNS_STATUS.SNS_LOST_EVT : Fld := ⟨222, .tile, 0x203004, 1, 0, 14, 1, .w1c, .T, 0, 0⟩
/-- A slice was retired. -/
def SNS_STATUS.RETIRE_EVT : Fld := ⟨223, .tile, 0x203004, 1, 0, 13, 1, .w1c, .T, 0, 0⟩
/-- A rotation comparison failed. -/
def SNS_STATUS.CMP_FAIL : Fld := ⟨224, .tile, 0x203004, 1, 0, 12, 1, .w1c, .T, 0, 0⟩
/-- Scan frame F in ticks (R149). -/
def SNS_STATUS.SCAN_TICKS : Fld := ⟨225, .tile, 0x203004, 1, 0, 8, 3, .ro, .T, 3, 0⟩
/-- Position served, 0–31; 0x20 self-calibrating; 0x3F none. -/
def SNS_STATUS.SPARE_POS : Fld := ⟨226, .tile, 0x203004, 1, 0, 0, 6, .ro, .T, 63, 0⟩
/-! SLICE_RETIRED (spec/06_*.md) -/
/-- Bit p: the slice of position p is retired. -/
def SLICE_RETIRED.RETIRED : Fld := ⟨227, .tile, 0x203008, 1, 0, 0, 32, .ro, .T, 0, 0⟩
/-! CHAN_STATE (spec/06_*.md) -/
/-- Window centre in mV (R145). -/
def CHAN_STATE.VC : Fld := ⟨228, .tile, 0x203040, 12, 4, 8, 12, .ro, .T, 0, 0⟩
/-- Last diagnosis failed (R155). -/
def CHAN_STATE.DIAG_FAIL : Fld := ⟨229, .tile, 0x203040, 12, 4, 7, 1, .ro, .S, 0, 0⟩
/-- No slice serves the channel. -/
def CHAN_STATE.LOST : Fld := ⟨230, .tile, 0x203040, 12, 4, 6, 1, .ro, .T, 0, 0⟩
/-- The channel runs on one slice. -/
def CHAN_STATE.SINGLE : Fld := ⟨231, .tile, 0x203040, 12, 4, 5, 1, .ro, .T, 0, 0⟩
/-- The channel saturated. -/
def CHAN_STATE.SAT_EVT : Fld := ⟨232, .tile, 0x203040, 12, 4, 4, 1, .w1c, .T, 0, 0⟩
/-- The present sample is saturated. -/
def CHAN_STATE.SAT : Fld := ⟨233, .tile, 0x203040, 12, 4, 3, 1, .ro, .T, 0, 0⟩
/-! DIAG_CTRL (spec/06_*.md) -/
/-- 0b00 rail channel; 0b01 phase report; others refused. -/
def DIAG_CTRL.KIND : Fld := ⟨234, .tile, 0x203080, 1, 0, 8, 2, .rw, .T, 0, 0⟩
/-- Local channel 0–11 or local phase 0–23. -/
def DIAG_CTRL.TARGET : Fld := ⟨235, .tile, 0x203080, 1, 0, 0, 5, .rw, .T, 0, 0⟩
/-! DIAG_RESULT (spec/06_*.md) -/
/-- Largest deviation, signed, codes. -/
def DIAG_RESULT.ERR : Fld := ⟨236, .tile, 0x203084, 1, 0, 16, 16, .ro, .T, 0, 0⟩
/-- Level of the failure, 0-based; comparator test is 0xE. -/
def DIAG_RESULT.FAIL_STEP : Fld := ⟨237, .tile, 0x203084, 1, 0, 8, 4, .ro, .T, 0, 0⟩
/-- A request was refused. -/
def DIAG_RESULT.DIAG_REJ : Fld := ⟨238, .tile, 0x203084, 1, 0, 5, 1, .w1c, .T, 0, 0⟩
/-- Diagnosis running. -/
def DIAG_RESULT.BUSY : Fld := ⟨239, .tile, 0x203084, 1, 0, 4, 1, .ro, .T, 0, 0⟩
/-- Verdict (R155). -/
def DIAG_RESULT.VERDICT : Fld := ⟨240, .tile, 0x203084, 1, 0, 0, 4, .ro, .T, 0, 0⟩
/-! TILE_VIN (spec/06_*.md) -/
/-- VIN_q of group g, unsigned, 1/4 mV, 0–20.48 V (R153); 0 for a group the tile does not read. -/
def TILE_VIN.VIN : Fld := ⟨241, .tile, 0x203090, 8, 4, 0, 18, .ro, .T, 0, 0⟩
/-! RAIL_SNS (spec/06_*.md) -/
/-- Channel gain, unsigned Q15 (R146). -/
def RAIL_SNS.SNS_GAIN : Fld := ⟨242, .rail, 0x180, 1, 0, 16, 16, .rw, .S, 32768, 0⟩
/-- Channel offset, signed, 1/4 mV. -/
def RAIL_SNS.SNS_OFS : Fld := ⟨243, .rail, 0x180, 1, 0, 8, 8, .rw, .S, 0, 0⟩
/-- Partner-tile channel of a mirrored rail; 0xF none. -/
def RAIL_SNS.PCHAN : Fld := ⟨244, .rail, 0x180, 1, 0, 4, 4, .rw, .S, 15, 0⟩
/-- Home-tile channel; 0xF none. -/
def RAIL_SNS.CHAN : Fld := ⟨245, .rail, 0x180, 1, 0, 0, 4, .rw, .S, 15, 0⟩
/-! RAIL_TLM_CFG (spec/06_*.md) -/
/-- A RAIL_SNS or RAIL_TLM_CFG write was refused (R165). -/
def RAIL_TLM_CFG.TLM_REJ : Fld := ⟨246, .rail, 0x184, 1, 0, 5, 1, .w1c, .T, 0, 0⟩
/-- Restart V_MIN and V_MAX. -/
def RAIL_TLM_CFG.PK_CLR : Fld := ⟨247, .rail, 0x184, 1, 0, 4, 1, .w1s, .T, 0, 0⟩
/-- Window 2^(TLM_WIN + 4) ticks, 0–12. -/
def RAIL_TLM_CFG.TLM_WIN : Fld := ⟨248, .rail, 0x184, 1, 0, 0, 4, .rw, .S, 6, 0⟩
/-! RAIL_TLM_V (spec/06_*.md) -/
/-- Rail current, signed, 1/16 A. -/
def RAIL_TLM_V.I_AVG : Fld := ⟨249, .rail, 0x188, 1, 0, 16, 16, .ro, .T, 0, 0⟩
/-- Rail voltage, 1/4 mV. -/
def RAIL_TLM_V.V_AVG : Fld := ⟨250, .rail, 0x188, 1, 0, 0, 16, .ro, .T, 0, 0⟩
/-! RAIL_TLM_PK (spec/06_*.md) -/
/-- Highest VSENSE since PK_CLR. -/
def RAIL_TLM_PK.V_MAX : Fld := ⟨251, .rail, 0x18C, 1, 0, 16, 16, .ro, .T, 0, 0⟩
/-- Lowest VSENSE since PK_CLR. -/
def RAIL_TLM_PK.V_MIN : Fld := ⟨252, .rail, 0x18C, 1, 0, 0, 16, .ro, .T, 65535, 0⟩
/-! RAIL_TLM_P (spec/06_*.md) -/
/-- Rail output power, signed, mW. -/
def RAIL_TLM_P.P_AVG : Fld := ⟨253, .rail, 0x190, 1, 0, 0, 32, .ro, .T, 0, 0⟩
/-! RAIL_E_LO (spec/06_*.md) -/
/-- Counter: rail output energy in µJ, wrapping; low and high words (R160, R161). -/
def RAIL_E_LO.E : Fld := ⟨254, .rail, 0x194, 1, 0, 0, 32, .rw, .T, 0, 0⟩
/-! RAIL_E_HI (spec/06_*.md) -/
/-- Counter: rail output energy in µJ, wrapping; low and high words (R160, R161). -/
def RAIL_E_HI.E : Fld := ⟨255, .rail, 0x198, 1, 0, 0, 32, .rw, .T, 0, 0⟩
/-! RAIL_ACC_FLAGS (spec/06_*.md) -/
/-- OVERLAP bit of the energy accumulator. -/
def RAIL_ACC_FLAGS.E_OVERLAP : Fld := ⟨256, .rail, 0x19C, 1, 0, 2, 1, .w1c, .T, 0, 0⟩
/-- WRAP in the reading initiator's snapshot. -/
def RAIL_ACC_FLAGS.SNAP_WRAP : Fld := ⟨257, .rail, 0x19C, 1, 0, 1, 1, .ro, .T, 0, 0⟩
/-- The accumulator has wrapped. -/
def RAIL_ACC_FLAGS.WRAP : Fld := ⟨258, .rail, 0x19C, 1, 0, 0, 1, .w1c, .T, 0, 0⟩
/-! HK_CFG (spec/06_*.md) -/
/-- Bit g: a tile partial of group g is stale (R163). -/
def HK_CFG.EST_STALE : Fld := ⟨259, .seqr, 0xE00, 1, 0, 8, 8, .ro, .M, 0, 0⟩
/-- Bit g: group g has a shunt. -/
def HK_CFG.SH_EN : Fld := ⟨260, .seqr, 0xE00, 1, 0, 0, 8, .rw, .S, 0, 0⟩
/-! HK_VING (spec/06_*.md) -/
/-- Group current, signed, 1/16 A, saturating at ±511.9 A; the estimate when SH_EN = 0. -/
def HK_VING.I : Fld := ⟨261, .seqr, 0xE20, 8, 4, 18, 14, .ro, .M, 0, 0⟩
/-- Group voltage, unsigned, 1/4 mV, 0–20.48 V (R157). -/
def HK_VING.V : Fld := ⟨262, .seqr, 0xE20, 8, 4, 0, 18, .ro, .M, 0, 0⟩
/-! HK_SCALE (spec/06_*.md) -/
/-- Shunt scale (R157); 0x199A is 5 mV/A. -/
def HK_SCALE.SH_SCALE : Fld := ⟨263, .seqr, 0xE40, 8, 4, 16, 16, .rw, .S, 6554, 0⟩
/-- Divider trim, unsigned Q15; the active manager copies it to every tile. -/
def HK_SCALE.HKV_GAIN : Fld := ⟨264, .seqr, 0xE40, 8, 4, 0, 16, .rw, .S, 32768, 0⟩
/-! HK_PMEAS (spec/06_*.md) -/
/-- Measured input power, signed mW (PMEAS); estimated input power, mW (PEST). -/
def HK_PMEAS.P : Fld := ⟨265, .seqr, 0xE60, 8, 4, 0, 32, .ro, .M, 0, 0⟩
/-! HK_PEST (spec/06_*.md) -/
/-- Measured input power, signed mW (PMEAS); estimated input power, mW (PEST). -/
def HK_PEST.P : Fld := ⟨266, .seqr, 0xE80, 8, 4, 0, 32, .ro, .M, 0, 0⟩
/-! HK_E_LO (spec/06_*.md) -/
/-- Counter: input energy of group g in µJ, wrapping (R160, R162). -/
def HK_E_LO.E : Fld := ⟨267, .seqr, 0xEA0, 8, 8, 0, 32, .rw, .M, 0, 0⟩
/-! HK_E_HI (spec/06_*.md) -/
/-- Counter: input energy of group g in µJ, wrapping (R160, R162). -/
def HK_E_HI.E : Fld := ⟨268, .seqr, 0xEA4, 8, 8, 0, 32, .rw, .M, 0, 0⟩
/-! HK_FLAGS (spec/06_*.md) -/
/-- Bit g: OVERLAP bit of group g's accumulator. -/
def HK_FLAGS.E_OVERLAP : Fld := ⟨269, .seqr, 0xEE0, 1, 0, 24, 8, .w1c, .M, 0, 0⟩
/-- Bit g: R158 disagreement. -/
def HK_FLAGS.VIN_DISAGREE : Fld := ⟨270, .seqr, 0xEE0, 1, 0, 16, 8, .w1c, .M, 0, 0⟩
/-- Bit g: WRAP in the reading initiator's snapshot. -/
def HK_FLAGS.SNAP_WRAP : Fld := ⟨271, .seqr, 0xEE0, 1, 0, 8, 8, .ro, .M, 0, 0⟩
/-- Bit g: the accumulator has wrapped. -/
def HK_FLAGS.WRAP : Fld := ⟨272, .seqr, 0xEE0, 1, 0, 0, 8, .w1c, .M, 0, 0⟩
/-! EFF (spec/06_*.md) -/
/-- 1/η at 8 × (2j + 1) A per phase, Q14. -/
def EFF.INV_ETA_HI : Fld := ⟨273, .seqr, 0xD00, 32, 4, 16, 16, .rw, .S, 16384, 0⟩
/-- 1/η at 16 × j A per phase, Q14. -/
def EFF.INV_ETA_LO : Fld := ⟨274, .seqr, 0xD00, 32, 4, 0, 16, .rw, .S, 16384, 0⟩
/-! EFF_PQ (spec/06_*.md) -/
/-- Quiescent power per stage, mW. -/
def EFF_PQ.P_Q : Fld := ⟨275, .seqr, 0xD80, 8, 4, 0, 16, .rw, .S, 0, 0⟩
/-! SKEW_TRIM (spec/06_*.md) -/
/-- Skew trim of local channel 0, signed, 10 ps units (R148). -/
def SKEW_TRIM.SKEW_00 : Fld := ⟨848, .tile, 0x203070, 1, 0, 0, 6, .ro, .T, 0, 0⟩
/-- Skew trim of local channel 1, signed, 10 ps units (R148). -/
def SKEW_TRIM.SKEW_01 : Fld := ⟨849, .tile, 0x203070, 1, 0, 6, 6, .ro, .T, 0, 0⟩
/-- Skew trim of local channel 2, signed, 10 ps units (R148). -/
def SKEW_TRIM.SKEW_02 : Fld := ⟨850, .tile, 0x203070, 1, 0, 12, 6, .ro, .T, 0, 0⟩
/-- Skew trim of local channel 3, signed, 10 ps units (R148). -/
def SKEW_TRIM.SKEW_03 : Fld := ⟨851, .tile, 0x203070, 1, 0, 18, 6, .ro, .T, 0, 0⟩
/-- Skew trim of local channel 4, signed, 10 ps units (R148). -/
def SKEW_TRIM.SKEW_04 : Fld := ⟨852, .tile, 0x203074, 1, 0, 0, 6, .ro, .T, 0, 0⟩
/-- Skew trim of local channel 5, signed, 10 ps units (R148). -/
def SKEW_TRIM.SKEW_05 : Fld := ⟨853, .tile, 0x203074, 1, 0, 6, 6, .ro, .T, 0, 0⟩
/-- Skew trim of local channel 6, signed, 10 ps units (R148). -/
def SKEW_TRIM.SKEW_06 : Fld := ⟨854, .tile, 0x203074, 1, 0, 12, 6, .ro, .T, 0, 0⟩
/-- Skew trim of local channel 7, signed, 10 ps units (R148). -/
def SKEW_TRIM.SKEW_07 : Fld := ⟨855, .tile, 0x203074, 1, 0, 18, 6, .ro, .T, 0, 0⟩
/-- Skew trim of local channel 8, signed, 10 ps units (R148). -/
def SKEW_TRIM.SKEW_08 : Fld := ⟨856, .tile, 0x203078, 1, 0, 0, 6, .ro, .T, 0, 0⟩
/-- Skew trim of local channel 9, signed, 10 ps units (R148). -/
def SKEW_TRIM.SKEW_09 : Fld := ⟨857, .tile, 0x203078, 1, 0, 6, 6, .ro, .T, 0, 0⟩
/-- Skew trim of local channel 10, signed, 10 ps units (R148). -/
def SKEW_TRIM.SKEW_10 : Fld := ⟨858, .tile, 0x203078, 1, 0, 12, 6, .ro, .T, 0, 0⟩
/-- Skew trim of local channel 11, signed, 10 ps units (R148). -/
def SKEW_TRIM.SKEW_11 : Fld := ⟨859, .tile, 0x203078, 1, 0, 18, 6, .ro, .T, 0, 0⟩
/-! DIAG_START (spec/06_*.md) -/
/-- Start a diagnosis (R154). -/
def DIAG_START.START : Fld := ⟨860, .tile, 0x203088, 1, 0, 0, 1, .w1s, .T, 0, 0⟩
/-! RAIL_SUP_CFG (spec/07_*.md) -/
/-- 0b00 unused; 0b01 regulated; 0b10 watched; 0b11 refused. -/
def RAIL_SUP_CFG.KIND : Fld := ⟨276, .rail, 0x200, 1, 0, 30, 2, .rw, .S, 0, 0⟩
/-- Watched rails: 0b00 pin; 0b01 sense; 0b10 both; 0b11 refused. -/
def RAIL_SUP_CFG.PG_SRC : Fld := ⟨277, .rail, 0x200, 1, 0, 28, 2, .rw, .S, 0, 0⟩
/-- 1: PG_nn high means good. -/
def RAIL_SUP_CFG.PG_POL : Fld := ⟨278, .rail, 0x200, 1, 0, 27, 1, .rw, .S, 1, 0⟩
/-- 1: EN_nn high enables. -/
def RAIL_SUP_CFG.EN_POL : Fld := ⟨279, .rail, 0x200, 1, 0, 26, 1, .rw, .S, 1, 0⟩
/-- Local EN/PG index (R166). -/
def RAIL_SUP_CFG.EN_IDX : Fld := ⟨280, .rail, 0x200, 1, 0, 24, 2, .rw, .S, 0, 0⟩
/-- PG assertion delay, 10 µs units; 0 acts as 1. -/
def RAIL_SUP_CFG.PG_ON_DLY : Fld := ⟨281, .rail, 0x200, 1, 0, 16, 8, .rw, .S, 10, 0⟩
/-- PG deassertion delay, µs; 0 acts as 1. -/
def RAIL_SUP_CFG.PG_OFF_DLY : Fld := ⟨282, .rail, 0x200, 1, 0, 8, 8, .rw, .S, 32, 0⟩
/-- Upper window, 0.5 % units, 1–15. -/
def RAIL_SUP_CFG.PG_HI : Fld := ⟨283, .rail, 0x200, 1, 0, 4, 4, .rw, .S, 6, 0⟩
/-- Lower window, 0.5 % units, 1–15. -/
def RAIL_SUP_CFG.PG_LO : Fld := ⟨284, .rail, 0x200, 1, 0, 0, 4, .rw, .S, 6, 0⟩
/-! RAIL_OFF_CFG (spec/07_*.md) -/
/-- Off threshold, % of set-point, 1–50. -/
def RAIL_OFF_CFG.OFF_PCT : Fld := ⟨285, .rail, 0x204, 1, 0, 24, 8, .rw, .S, 10, 0⟩
/-- Threshold floor, 2 mV units, 1–255. -/
def RAIL_OFF_CFG.OFF_MIN : Fld := ⟨286, .rail, 0x204, 1, 0, 16, 8, .rw, .S, 25, 0⟩
/-- Single-rail timeout, 100 µs units; 0 acts as 1. -/
def RAIL_OFF_CFG.TMO : Fld := ⟨287, .rail, 0x204, 1, 0, 0, 16, .rw, .S, 200, 0⟩
/-! RAIL_DIS_CFG (spec/07_*.md) -/
/-- Low-level reverse limit, 0.5 A units, 1–40. -/
def RAIL_DIS_CFG.DIS_ILO : Fld := ⟨288, .rail, 0x208, 1, 0, 24, 8, .rw, .S, 4, 0⟩
/-- High-level reverse limit, 0.5 A units, 1–40. -/
def RAIL_DIS_CFG.DIS_IHI : Fld := ⟨289, .rail, 0x208, 1, 0, 16, 8, .rw, .S, 20, 0⟩
/-- Active discharge (R176). -/
def RAIL_DIS_CFG.DIS_EN : Fld := ⟨290, .rail, 0x208, 1, 0, 6, 1, .rw, .S, 1, 0⟩
/-- Phases at the low level, 1–32. -/
def RAIL_DIS_CFG.DIS_NLO : Fld := ⟨291, .rail, 0x208, 1, 0, 0, 6, .rw, .S, 2, 0⟩
/-! RAIL_SUP_CMD (spec/07_*.md) -/
/-- Single-rail turn-off (R175, R177). -/
def RAIL_SUP_CMD.OFF : Fld := ⟨292, .rail, 0x20C, 1, 0, 1, 1, .w1s, .T, 0, 0⟩
/-- Single-rail enable (R172, R177). -/
def RAIL_SUP_CMD.ON : Fld := ⟨293, .rail, 0x20C, 1, 0, 0, 1, .w1s, .T, 0, 0⟩
/-! RAIL_SUP_STATUS (spec/07_*.md) -/
/-- Counter: PG losses (R169). -/
def RAIL_SUP_STATUS.PG_LOST_COUNT : Fld := ⟨294, .rail, 0x210, 1, 0, 24, 8, .rw, .S, 0, 295⟩
/-- OVERLAP bit of PG_LOST_COUNT. -/
def RAIL_SUP_STATUS.PG_LOST_OVERLAP : Fld := ⟨295, .rail, 0x210, 1, 0, 23, 1, .w1c, .S, 0, 0⟩
/-- Encoded below. -/
def RAIL_SUP_STATUS.RSTATE : Fld := ⟨296, .rail, 0x210, 1, 0, 16, 3, .ro, .T, 0, 0⟩
/-- Last enable result. -/
def RAIL_SUP_STATUS.RESULT : Fld := ⟨297, .rail, 0x210, 1, 0, 12, 4, .ro, .S, 0, 0⟩
/-- Rail stuck (R175). -/
def RAIL_SUP_STATUS.STUCK : Fld := ⟨298, .rail, 0x210, 1, 0, 7, 1, .ro, .S, 0, 0⟩
/-- Power-good. -/
def RAIL_SUP_STATUS.PG : Fld := ⟨299, .rail, 0x210, 1, 0, 6, 1, .ro, .T, 0, 0⟩
/-- Discharge at the high level. -/
def RAIL_SUP_STATUS.DIS_HIGH : Fld := ⟨300, .rail, 0x210, 1, 0, 5, 1, .ro, .T, 0, 0⟩
/-- PG lost. -/
def RAIL_SUP_STATUS.PG_LOST_EVT : Fld := ⟨301, .rail, 0x210, 1, 0, 4, 1, .w1c, .T, 0, 0⟩
/-- An enable failed. -/
def RAIL_SUP_STATUS.EN_FAIL_EVT : Fld := ⟨302, .rail, 0x210, 1, 0, 3, 1, .w1c, .T, 0, 0⟩
/-- Rail became stuck. -/
def RAIL_SUP_STATUS.STUCK_EVT : Fld := ⟨303, .rail, 0x210, 1, 0, 2, 1, .w1c, .T, 0, 0⟩
/-- An ON was refused (R177). -/
def RAIL_SUP_STATUS.CMD_REJ : Fld := ⟨304, .rail, 0x210, 1, 0, 1, 1, .w1c, .T, 0, 0⟩
/-- A write was refused (R188). -/
def RAIL_SUP_STATUS.CFG_REJ : Fld := ⟨305, .rail, 0x210, 1, 0, 0, 1, .w1c, .T, 0, 0⟩
/-! SEQ_CTRL (spec/07_*.md) -/
/-- Run sequence SEQ (R177). -/
def SEQ_CTRL.RUN : Fld := ⟨306, .seqr, 0x0, 1, 0, 8, 1, .w1s, .S, 0, 0⟩
/-- Sequence to run. -/
def SEQ_CTRL.SEQ : Fld := ⟨307, .seqr, 0x0, 1, 0, 0, 3, .rw, .S, 0, 0⟩
/-! SEQ_STATUS (spec/07_*.md) -/
/-- A table write was refused (R170). -/
def SEQ_STATUS.CFG_REJ : Fld := ⟨308, .seqr, 0x4, 1, 0, 19, 1, .w1c, .S, 0, 0⟩
/-- A run was refused as SEQ_BUSY. -/
def SEQ_STATUS.BUSY_REJ : Fld := ⟨309, .seqr, 0x4, 1, 0, 18, 1, .w1c, .S, 0, 0⟩
/-- A sequence ended. -/
def SEQ_STATUS.SEQ_EVT : Fld := ⟨310, .seqr, 0x4, 1, 0, 17, 1, .w1c, .S, 0, 0⟩
/-- Running stage is in its second timeout. -/
def SEQ_STATUS.TMO2 : Fld := ⟨311, .seqr, 0x4, 1, 0, 16, 1, .ro, .S, 0, 0⟩
/-- Running or last stage. -/
def SEQ_STATUS.STAGE : Fld := ⟨312, .seqr, 0x4, 1, 0, 8, 4, .ro, .S, 0, 0⟩
/-- A sequence runs. -/
def SEQ_STATUS.ACTIVE : Fld := ⟨313, .seqr, 0x4, 1, 0, 7, 1, .ro, .S, 0, 0⟩
/-- Running or last sequence. -/
def SEQ_STATUS.ACT_SEQ : Fld := ⟨314, .seqr, 0x4, 1, 0, 4, 3, .ro, .S, 0, 0⟩
/-- Encoded below. -/
def SEQ_STATUS.RESULT : Fld := ⟨315, .seqr, 0x4, 1, 0, 0, 4, .ro, .S, 0, 0⟩
/-! SEQ_HDR (spec/07_*.md) -/
/-- Stored shut-down order (R171). -/
def SEQ_HDR.KERB_SDN : Fld := ⟨316, .seqr, 0x40, 8, 4, 8, 1, .rw, .S, 0, 0⟩
/-- Run on entering RUN. -/
def SEQ_HDR.AUTO : Fld := ⟨317, .seqr, 0x40, 8, 4, 7, 1, .rw, .S, 0, 0⟩
/-- 0 hold; 1 unwind (R173). -/
def SEQ_HDR.ON_FAIL : Fld := ⟨318, .seqr, 0x40, 8, 4, 6, 1, .rw, .S, 0, 0⟩
/-- 0 turn-on; 1 shut-down. -/
def SEQ_HDR.DIR : Fld := ⟨319, .seqr, 0x40, 8, 4, 5, 1, .rw, .S, 0, 0⟩
/-- Stages, 0–16. -/
def SEQ_HDR.NSTG : Fld := ⟨320, .seqr, 0x40, 8, 4, 0, 5, .rw, .S, 0, 0⟩
/-! SEQ_STG (spec/07_*.md) -/
/-- Bit r: RAIL_r, r = 0–31. -/
def SEQ_STG.RAILS_LO : Fld := ⟨321, .seqr, 0x1000, 128, 16, 0, 32, .rw, .S, 0, 0⟩
/-- Delay before the stage, µs. -/
def SEQ_STG.DELAY : Fld := ⟨322, .seqr, 0x1004, 128, 16, 16, 16, .rw, .S, 0, 0⟩
/-- Bit r: RAIL_(32 + r). -/
def SEQ_STG.RAILS_HI : Fld := ⟨323, .seqr, 0x1004, 128, 16, 0, 16, .rw, .S, 0, 0⟩
/-- Stage timeout, 100 µs units; 0 acts as 1. -/
def SEQ_STG.TMO : Fld := ⟨324, .seqr, 0x1008, 128, 16, 0, 16, .rw, .S, 200, 0⟩
/-- Run WSEQ on WORKER (R184). -/
def SEQ_STG.LANE_EN : Fld := ⟨325, .seqr, 0x100C, 128, 16, 31, 1, .rw, .S, 0, 0⟩
/-- Worker address, 1–7. -/
def SEQ_STG.WORKER : Fld := ⟨326, .seqr, 0x100C, 128, 16, 24, 3, .rw, .S, 0, 0⟩
/-- Worker's sequence. -/
def SEQ_STG.WSEQ : Fld := ⟨327, .seqr, 0x100C, 128, 16, 20, 3, .rw, .S, 0, 0⟩
/-! SNAP_CTRL (spec/07_*.md) -/
/-- Snapshot with cause HOST. -/
def SNAP_CTRL.TAKE : Fld := ⟨328, .seqr, 0x80, 1, 0, 0, 1, .w1s, .S, 0, 0⟩
/-! SNAP_STATUS (spec/07_*.md) -/
/-- Counter: triggers joined to a snapshot (R180). -/
def SNAP_STATUS.MERGE_COUNT : Fld := ⟨329, .seqr, 0x84, 1, 0, 24, 8, .rw, .S, 0, 330⟩
/-- OVERLAP bit of MERGE_COUNT. -/
def SNAP_STATUS.MERGE_OVERLAP : Fld := ⟨330, .seqr, 0x84, 1, 0, 23, 1, .w1c, .S, 0, 0⟩
/-- A record was completed. -/
def SNAP_STATUS.SNAP_EVT : Fld := ⟨331, .seqr, 0x84, 1, 0, 5, 1, .w1c, .S, 0, 0⟩
/-- A snapshot is being assembled. -/
def SNAP_STATUS.BUSY : Fld := ⟨332, .seqr, 0x84, 1, 0, 4, 1, .ro, .S, 0, 0⟩
/-- Ring slot the next record takes. -/
def SNAP_STATUS.NEXT : Fld := ⟨333, .seqr, 0x84, 1, 0, 0, 4, .ro, .S, 0, 0⟩
/-! SQL_CFG (spec/07_*.md) -/
/-- Resends before WORKER_LOST, 0–15. -/
def SQL_CFG.RETRY : Fld := ⟨334, .seqr, 0xC00, 1, 0, 8, 4, .rw, .S, 3, 0⟩
/-- Internal 120 Ω termination. -/
def SQL_CFG.TERM : Fld := ⟨335, .seqr, 0xC00, 1, 0, 7, 1, .rw, .S, 0, 0⟩
/-- Worker address, 1–7. -/
def SQL_CFG.ADDR : Fld := ⟨336, .seqr, 0xC00, 1, 0, 4, 3, .rw, .S, 0, 0⟩
/-- 0b00 off; 0b01 master; 0b10 worker; 0b11 refused. -/
def SQL_CFG.ROLE : Fld := ⟨337, .seqr, 0xC00, 1, 0, 0, 2, .rw, .S, 0, 0⟩
/-! SQL_STATUS (spec/07_*.md) -/
/-- Counter: forward steps (R185). -/
def SQL_STATUS.BEAT_STEP : Fld := ⟨338, .seqr, 0xC04, 1, 0, 24, 8, .rw, .S, 0, 339⟩
/-- OVERLAP bit of BEAT_STEP. -/
def SQL_STATUS.STEP_OVERLAP : Fld := ⟨339, .seqr, 0xC04, 1, 0, 23, 1, .w1c, .S, 0, 0⟩
/-- Bit a − 1: worker a lost (R184). -/
def SQL_STATUS.WORKER_LOST : Fld := ⟨340, .seqr, 0xC04, 1, 0, 16, 7, .w1c, .S, 0, 0⟩
/-- R186; cleared by a write of SQL_CFG. -/
def SQL_STATUS.MASTER_CONFLICT : Fld := ⟨341, .seqr, 0xC04, 1, 0, 3, 1, .ro, .S, 0, 0⟩
/-- The master's beat went backward. -/
def SQL_STATUS.BEAT_REGRESS : Fld := ⟨342, .seqr, 0xC04, 1, 0, 2, 1, .w1c, .S, 0, 0⟩
/-- No valid beat frame for 3 cycles. -/
def SQL_STATUS.LANE_LOST : Fld := ⟨343, .seqr, 0xC04, 1, 0, 1, 1, .ro, .S, 0, 0⟩
/-! SQL_OFS_LO (spec/07_*.md) -/
/-- Beat offset bits [31:0]; the read takes the snapshot. -/
def SQL_OFS_LO.OFS_LOW : Fld := ⟨344, .seqr, 0xC08, 1, 0, 0, 32, .ro, .P, 0, 0⟩
/-! SQL_OFS_HI (spec/07_*.md) -/
/-- Beat offset bits [39:32], from the snapshot. -/
def SQL_OFS_HI.OFS_HIGH : Fld := ⟨345, .seqr, 0xC0C, 1, 0, 0, 8, .ro, .P, 0, 0⟩
/-! SQL_TX (spec/07_*.md) -/
/-- OPCODE in [31:24], ARGS bytes 0–2 in [23:0]. -/
def SQL_TX.TX0 : Fld := ⟨346, .seqr, 0xC10, 1, 0, 0, 32, .rw, .S, 0, 0⟩
/-- ARGS bytes 3–6. -/
def SQL_TX.TX1 : Fld := ⟨347, .seqr, 0xC14, 1, 0, 0, 32, .rw, .S, 0, 0⟩
/-! SQL_TX_CTRL (spec/07_*.md) -/
/-- No reply after RETRY resends. -/
def SQL_TX_CTRL.NO_REPLY : Fld := ⟨348, .seqr, 0xC18, 1, 0, 6, 1, .w1c, .S, 0, 0⟩
/-- Reply received, or broadcast sent. -/
def SQL_TX_CTRL.DONE : Fld := ⟨349, .seqr, 0xC18, 1, 0, 5, 1, .w1c, .S, 0, 0⟩
/-- Send; waits for clock-readiness (R30). -/
def SQL_TX_CTRL.GO : Fld := ⟨350, .seqr, 0xC18, 1, 0, 4, 1, .w1s, .S, 0, 0⟩
/-- 1–7 or 0xF. -/
def SQL_TX_CTRL.DEST : Fld := ⟨351, .seqr, 0xC18, 1, 0, 0, 4, .rw, .S, 0, 0⟩
/-! SQL_RX (spec/07_*.md) -/
/-- STATUS in [31:24], DATA bytes 0–2. -/
def SQL_RX.RX0 : Fld := ⟨352, .seqr, 0xC1C, 1, 0, 0, 32, .ro, .S, 0, 0⟩
/-- DATA bytes 3–6. -/
def SQL_RX.RX1 : Fld := ⟨353, .seqr, 0xC20, 1, 0, 0, 32, .ro, .S, 0, 0⟩
/-! SQL_COUNTS (spec/07_*.md) -/
/-- OVERLAP bit of CRC_ERR. -/
def SQL_COUNTS.CRC_OVERLAP : Fld := ⟨354, .seqr, 0xC24, 1, 0, 31, 1, .w1c, .S, 0, 0⟩
/-- Counter: lane frames discarded. -/
def SQL_COUNTS.CRC_ERR : Fld := ⟨355, .seqr, 0xC24, 1, 0, 16, 15, .rw, .S, 0, 354⟩
/-- OVERLAP bit of BEAT_SKIP. -/
def SQL_COUNTS.SKIP_OVERLAP : Fld := ⟨356, .seqr, 0xC24, 1, 0, 15, 1, .w1c, .S, 0, 0⟩
/-- Counter: cycles without a beat frame (R182). -/
def SQL_COUNTS.BEAT_SKIP : Fld := ⟨357, .seqr, 0xC24, 1, 0, 0, 15, .rw, .S, 0, 356⟩
/-! FLT_CFG (spec/07_*.md) -/
/-- FLT_N sensed low for 1 µs. -/
def FLT_CFG.FLT_SEEN : Fld := ⟨358, .seqr, 0xC30, 1, 0, 19, 1, .w1c, .S, 0, 0⟩
/-- Present FLT_N level is low. -/
def FLT_CFG.SENSED : Fld := ⟨359, .seqr, 0xC30, 1, 0, 18, 1, .ro, .S, 0, 0⟩
/-- This package's latch asserts FLT_N. -/
def FLT_CFG.ASSERTED : Fld := ⟨360, .seqr, 0xC30, 1, 0, 17, 1, .ro, .S, 0, 0⟩
/-- Release this package's assertion. -/
def FLT_CFG.RELEASE : Fld := ⟨361, .seqr, 0xC30, 1, 0, 16, 1, .w1s, .S, 0, 0⟩
/-- Ignore FLT_N while asserting. -/
def FLT_CFG.SELF_IGN : Fld := ⟨362, .seqr, 0xC30, 1, 0, 13, 1, .rw, .S, 0, 0⟩
/-- Shut-down sequence for ACTION 0b01. -/
def FLT_CFG.FLT_SEQ : Fld := ⟨363, .seqr, 0xC30, 1, 0, 10, 3, .rw, .S, 0, 0⟩
/-- 0b00 event; 0b01 sequence; 0b10 Kerb; 0b11 refused. -/
def FLT_CFG.ACTION : Fld := ⟨364, .seqr, 0xC30, 1, 0, 8, 2, .rw, .S, 0, 0⟩
/-- Classes that assert FLT_N (R187). -/
def FLT_CFG.ASSERT_MASK : Fld := ⟨365, .seqr, 0xC30, 1, 0, 0, 8, .rw, .S, 0, 0⟩
/-! PH_PROT (spec/08_*.md) -/
/-- Decoded ceiling, 0.5 A units (R189). -/
def PH_PROT.ILIM_CEIL : Fld := ⟨366, .phase, 0x200, 1, 0, 24, 7, .fz, .P, 0, 0⟩
/-- Consecutive limited cycles before shed (R194); 0 acts as 1. -/
def PH_PROT.OC_CYC : Fld := ⟨367, .phase, 0x200, 1, 0, 16, 8, .rw, .S, 8, 0⟩
/-- Configured limit, 0.5 A units; 0 acts as ILIM_CEIL. -/
def PH_PROT.ILIM : Fld := ⟨368, .phase, 0x200, 1, 0, 0, 7, .rw, .S, 0, 0⟩
/-! PH_PROT_STATUS (spec/08_*.md) -/
/-- Counter: high intervals ended by R193. -/
def PH_PROT_STATUS.LIMIT_COUNT : Fld := ⟨369, .phase, 0x204, 1, 0, 16, 16, .rw, .T, 0, 370⟩
/-- OVERLAP bit of LIMIT_COUNT. -/
def PH_PROT_STATUS.LIMIT_OVERLAP : Fld := ⟨370, .phase, 0x204, 1, 0, 15, 1, .w1c, .T, 0, 0⟩
/-- Effective limit in force, 0.5 A units (R192). -/
def PH_PROT_STATUS.ILIM_EFF : Fld := ⟨371, .phase, 0x204, 1, 0, 7, 8, .ro, .T, 0, 0⟩
/-- A PH_PROT write was refused (R190). -/
def PH_PROT_STATUS.PROT_REJ : Fld := ⟨372, .phase, 0x204, 1, 0, 3, 1, .w1c, .T, 0, 0⟩
/-- A sample reached ILIM_CEIL (R194). -/
def PH_PROT_STATUS.HARD_EVT : Fld := ⟨373, .phase, 0x204, 1, 0, 2, 1, .w1c, .T, 0, 0⟩
/-- R193 ended a high interval. -/
def PH_PROT_STATUS.LIMITED : Fld := ⟨374, .phase, 0x204, 1, 0, 1, 1, .w1c, .T, 0, 0⟩
/-- ILIM_EFF is derated now. -/
def PH_PROT_STATUS.DERATED : Fld := ⟨375, .phase, 0x204, 1, 0, 0, 1, .ro, .T, 0, 0⟩
/-! RAIL_OV (spec/08_*.md) -/
/-- Response (ACT encoding). -/
def RAIL_OV.OV_ACT : Fld := ⟨376, .rail, 0x240, 1, 0, 24, 2, .rw, .S, 1, 0⟩
/-- Confirmation, ticks; 0 acts as 1. -/
def RAIL_OV.OV_DLY : Fld := ⟨377, .rail, 0x240, 1, 0, 16, 8, .rw, .S, 2, 0⟩
/-- Limit, 1/4 mV; 0 acts as OV_CEIL (R191). -/
def RAIL_OV.OV_LIM : Fld := ⟨378, .rail, 0x240, 1, 0, 0, 16, .rw, .S, 0, 0⟩
/-! RAIL_UV (spec/08_*.md) -/
/-- Response (ACT encoding). -/
def RAIL_UV.UV_ACT : Fld := ⟨379, .rail, 0x244, 1, 0, 24, 2, .rw, .S, 0, 0⟩
/-- Confirmation, µs; 0 acts as 1. -/
def RAIL_UV.UV_DLY : Fld := ⟨380, .rail, 0x244, 1, 0, 16, 8, .rw, .S, 50, 0⟩
/-- Threshold below vref, 0.5 % units, 2–60. -/
def RAIL_UV.UV_PCT : Fld := ⟨381, .rail, 0x244, 1, 0, 0, 6, .rw, .S, 20, 0⟩
/-! RAIL_OC (spec/08_*.md) -/
/-- Response (ACT encoding). -/
def RAIL_OC.OC_ACT : Fld := ⟨382, .rail, 0x248, 1, 0, 24, 2, .rw, .S, 0, 0⟩
/-- Confirmation, µs; 0 acts as 1. -/
def RAIL_OC.OC_DLY : Fld := ⟨383, .rail, 0x248, 1, 0, 16, 8, .rw, .S, 20, 0⟩
/-- Rail current limit, 0.5 A units. -/
def RAIL_OC.OCL : Fld := ⟨384, .rail, 0x248, 1, 0, 0, 12, .rw, .S, 4095, 0⟩
/-! RAIL_PROT_CFG (spec/08_*.md) -/
/-- Shut-down sequence for ACT 0b10. -/
def RAIL_PROT_CFG.PROT_SEQ : Fld := ⟨385, .rail, 0x24C, 1, 0, 16, 3, .rw, .S, 0, 0⟩
/-- Decoded overvoltage ceiling, 1/4 mV. -/
def RAIL_PROT_CFG.OV_CEIL : Fld := ⟨386, .rail, 0x24C, 1, 0, 0, 16, .fz, .P, 0, 0⟩
/-! RAIL_PROT_STATUS (spec/08_*.md) -/
/-- Counter: responses other than event only. -/
def RAIL_PROT_STATUS.PROT_COUNT : Fld := ⟨387, .rail, 0x250, 1, 0, 24, 8, .rw, .S, 0, 388⟩
/-- OVERLAP bit of PROT_COUNT. -/
def RAIL_PROT_STATUS.PROT_OVERLAP : Fld := ⟨388, .rail, 0x250, 1, 0, 23, 1, .w1c, .S, 0, 0⟩
/-- A write of this section was refused (R190, R191). -/
def RAIL_PROT_STATUS.PROT_REJ : Fld := ⟨389, .rail, 0x250, 1, 0, 7, 1, .w1c, .T, 0, 0⟩
/-- Home channel lost (R199). -/
def RAIL_PROT_STATUS.SENSE_LOST : Fld := ⟨390, .rail, 0x250, 1, 0, 6, 1, .ro, .T, 0, 0⟩
/-- One channel alone held a condition (R195). -/
def RAIL_PROT_STATUS.CH_DISAGREE : Fld := ⟨391, .rail, 0x250, 1, 0, 5, 1, .w1c, .T, 0, 0⟩
/-- A protection response turned the rail off. -/
def RAIL_PROT_STATUS.PROT_OFF : Fld := ⟨392, .rail, 0x250, 1, 0, 4, 1, .w1c, .S, 0, 0⟩
/-- Rail overcurrent confirmed. -/
def RAIL_PROT_STATUS.OC_EVT : Fld := ⟨393, .rail, 0x250, 1, 0, 2, 1, .w1c, .T, 0, 0⟩
/-- Undervoltage confirmed. -/
def RAIL_PROT_STATUS.UV_EVT : Fld := ⟨394, .rail, 0x250, 1, 0, 1, 1, .w1c, .T, 0, 0⟩
/-- Overvoltage confirmed. -/
def RAIL_PROT_STATUS.OV_EVT : Fld := ⟨395, .rail, 0x250, 1, 0, 0, 1, .w1c, .T, 0, 0⟩
/-! TILE_THERM (spec/08_*.md) -/
/-- Die temperature, signed, 1/16 °C. -/
def TILE_THERM.TEMP : Fld := ⟨396, .tile, 0x206000, 1, 0, 16, 16, .ro, .T, 0, 0⟩
/-- Restarts within the last hour (R206). -/
def TILE_THERM.RESTARTS : Fld := ⟨397, .tile, 0x206000, 1, 0, 14, 2, .ro, .S, 0, 0⟩
/-- Shutdown latched (R206). -/
def TILE_THERM.TSD_LATCH : Fld := ⟨398, .tile, 0x206000, 1, 0, 10, 1, .ro, .S, 0, 0⟩
/-- Sensors differ by more than 10 °C. -/
def TILE_THERM.SENSOR_DISAGREE : Fld := ⟨399, .tile, 0x206000, 1, 0, 9, 1, .w1c, .T, 0, 0⟩
/-- A shutdown occurred. -/
def TILE_THERM.TSD_EVT : Fld := ⟨400, .tile, 0x206000, 1, 0, 8, 1, .w1c, .S, 0, 0⟩
/-- Throttle was entered. -/
def TILE_THERM.THR_EVT : Fld := ⟨401, .tile, 0x206000, 1, 0, 7, 1, .w1c, .T, 0, 0⟩
/-- Warning was entered. -/
def TILE_THERM.WARN_EVT : Fld := ⟨402, .tile, 0x206000, 1, 0, 6, 1, .w1c, .T, 0, 0⟩
/-- 0b00 normal; 0b01 warning; 0b10 throttle; 0b11 shutdown. -/
def TILE_THERM.LEVEL : Fld := ⟨403, .tile, 0x206000, 1, 0, 0, 2, .ro, .T, 0, 0⟩
/-! TILE_THERM_CTRL (spec/08_*.md) -/
/-- Counter: thermal shutdowns. -/
def TILE_THERM_CTRL.SHUTDOWNS : Fld := ⟨404, .tile, 0x206004, 1, 0, 24, 8, .rw, .P, 0, 405⟩
/-- OVERLAP bit of SHUTDOWNS. -/
def TILE_THERM_CTRL.SHUT_OVERLAP : Fld := ⟨405, .tile, 0x206004, 1, 0, 23, 1, .w1c, .P, 0, 0⟩
/-- A write was refused (R190, R206). -/
def TILE_THERM_CTRL.PROT_REJ : Fld := ⟨406, .tile, 0x206004, 1, 0, 22, 1, .w1c, .T, 0, 0⟩
/-- Clear a latched shutdown (R206). -/
def TILE_THERM_CTRL.TSD_CLR : Fld := ⟨407, .tile, 0x206004, 1, 0, 21, 1, .w1s, .T, 0, 0⟩
/-- Decoded stage temperature ceiling, °C. -/
def TILE_THERM_CTRL.STG_TLIM_CEIL : Fld := ⟨408, .tile, 0x206004, 1, 0, 8, 8, .fz, .P, 0, 0⟩
/-- Stage temperature limit, °C; 0 acts as the ceiling (R202). -/
def TILE_THERM_CTRL.STG_TLIM : Fld := ⟨409, .tile, 0x206004, 1, 0, 0, 8, .rw, .S, 0, 0⟩
/-! STG_DERATE (spec/08_*.md) -/
/-- Bit j: VIN_LOW or VIN_HIGH seen on an input group from which some phase of local stage group j draws (R201). -/
def STG_DERATE.VIN_EVT : Fld := ⟨410, .tile, 0x206008, 1, 0, 8, 6, .w1c, .T, 0, 0⟩
/-- Bit j: local stage group j derated (R202). -/
def STG_DERATE.DERATE : Fld := ⟨411, .tile, 0x206008, 1, 0, 0, 6, .ro, .T, 0, 0⟩
/-! IG_OC (spec/08_*.md) -/
/-- An OCL write was refused (R190). -/
def IG_OC.PROT_REJ : Fld := ⟨412, .seqr, 0xF40, 8, 4, 17, 1, .w1c, .S, 0, 0⟩
/-- Overcurrent isolated the group (R200). -/
def IG_OC.IG_OC_EVT : Fld := ⟨413, .seqr, 0xF40, 8, 4, 16, 1, .w1c, .S, 0, 0⟩
/-- Decoded ceiling, A. -/
def IG_OC.IG_CEIL : Fld := ⟨414, .seqr, 0xF40, 8, 4, 8, 8, .fz, .P, 0, 0⟩
/-- Group current limit, A; 0 acts as IG_CEIL. -/
def IG_OC.OCL : Fld := ⟨415, .seqr, 0xF40, 8, 4, 0, 8, .rw, .S, 0, 0⟩
/-! MGR_THERM (spec/08_*.md) -/
/-- This manager's die temperature, signed, 1/16 °C. -/
def MGR_THERM.TEMP : Fld := ⟨416, .seqr, 0xF80, 1, 0, 16, 16, .ro, .M, 0, 0⟩
/-- Throttle persistence before Kerb entry, s; 0 disables (R207). -/
def MGR_THERM.THR_LIM : Fld := ⟨417, .seqr, 0xF80, 1, 0, 8, 8, .rw, .S, 30, 0⟩
/-- Sensors differ by more than 10 °C. -/
def MGR_THERM.SENSOR_DISAGREE : Fld := ⟨418, .seqr, 0xF80, 1, 0, 4, 1, .w1c, .M, 0, 0⟩
/-- Throttle was entered. -/
def MGR_THERM.THR_EVT : Fld := ⟨419, .seqr, 0xF80, 1, 0, 3, 1, .w1c, .M, 0, 0⟩
/-- Warning was entered. -/
def MGR_THERM.WARN_EVT : Fld := ⟨420, .seqr, 0xF80, 1, 0, 2, 1, .w1c, .M, 0, 0⟩
/-- As TILE_THERM.LEVEL. -/
def MGR_THERM.LEVEL : Fld := ⟨421, .seqr, 0xF80, 1, 0, 0, 2, .ro, .M, 0, 0⟩
/-! HPD_THERM (spec/08_*.md) -/
/-- Die temperature, signed, 1/16 °C. -/
def HPD_THERM.TEMP : Fld := ⟨874, .hpd, 0x6000, 1, 0, 16, 16, .ro, .T, 0, 0⟩
/-- Restarts within the last hour (R206). -/
def HPD_THERM.RESTARTS : Fld := ⟨875, .hpd, 0x6000, 1, 0, 14, 2, .ro, .S, 0, 0⟩
/-- Shutdown latched (R206). -/
def HPD_THERM.TSD_LATCH : Fld := ⟨876, .hpd, 0x6000, 1, 0, 10, 1, .ro, .S, 0, 0⟩
/-- Sensors differ by more than 10 °C. -/
def HPD_THERM.SENSOR_DISAGREE : Fld := ⟨877, .hpd, 0x6000, 1, 0, 9, 1, .w1c, .T, 0, 0⟩
/-- A shutdown occurred. -/
def HPD_THERM.TSD_EVT : Fld := ⟨878, .hpd, 0x6000, 1, 0, 8, 1, .w1c, .S, 0, 0⟩
/-- Throttle was entered. -/
def HPD_THERM.THR_EVT : Fld := ⟨879, .hpd, 0x6000, 1, 0, 7, 1, .w1c, .T, 0, 0⟩
/-- Warning was entered. -/
def HPD_THERM.WARN_EVT : Fld := ⟨880, .hpd, 0x6000, 1, 0, 6, 1, .w1c, .T, 0, 0⟩
/-- 0b00 normal; 0b01 warning; 0b10 throttle; 0b11 shutdown. -/
def HPD_THERM.LEVEL : Fld := ⟨881, .hpd, 0x6000, 1, 0, 0, 2, .ro, .T, 0, 0⟩
/-! HPD_THERM_CTRL (spec/08_*.md) -/
/-- Counter: thermal shutdowns. -/
def HPD_THERM_CTRL.SHUTDOWNS : Fld := ⟨882, .hpd, 0x6004, 1, 0, 24, 8, .rw, .P, 0, 883⟩
/-- OVERLAP bit of SHUTDOWNS. -/
def HPD_THERM_CTRL.SHUT_OVERLAP : Fld := ⟨883, .hpd, 0x6004, 1, 0, 23, 1, .w1c, .P, 0, 0⟩
/-- A write was refused (R190, R206). -/
def HPD_THERM_CTRL.PROT_REJ : Fld := ⟨884, .hpd, 0x6004, 1, 0, 22, 1, .w1c, .T, 0, 0⟩
/-- Clear a latched shutdown (R206). -/
def HPD_THERM_CTRL.TSD_CLR : Fld := ⟨885, .hpd, 0x6004, 1, 0, 21, 1, .w1s, .T, 0, 0⟩
/-- Decoded stage temperature ceiling, °C. -/
def HPD_THERM_CTRL.STG_TLIM_CEIL : Fld := ⟨886, .hpd, 0x6004, 1, 0, 8, 8, .fz, .P, 0, 0⟩
/-- Stage temperature limit, °C; 0 acts as the ceiling (R202). -/
def HPD_THERM_CTRL.STG_TLIM : Fld := ⟨887, .hpd, 0x6004, 1, 0, 0, 8, .rw, .S, 0, 0⟩

/-- Every field of this file. -/
def allB : List Fld :=
  [SNS_CTRL.SKEW_CAL, SNS_CTRL.ROT_EN, SNS_STATUS.ROT_COUNT, SNS_STATUS.ROT_OVERLAP, SNS_STATUS.SKEW_BUSY, SNS_STATUS.SPARE_FIXED, SNS_STATUS.SPARE_OUT, SNS_STATUS.CFG_REJ, SNS_STATUS.SNS_LOST_EVT, SNS_STATUS.RETIRE_EVT, SNS_STATUS.CMP_FAIL, SNS_STATUS.SCAN_TICKS]
  ++ [SNS_STATUS.SPARE_POS, SLICE_RETIRED.RETIRED, CHAN_STATE.VC, CHAN_STATE.DIAG_FAIL, CHAN_STATE.LOST, CHAN_STATE.SINGLE, CHAN_STATE.SAT_EVT, CHAN_STATE.SAT, DIAG_CTRL.KIND, DIAG_CTRL.TARGET, DIAG_RESULT.ERR, DIAG_RESULT.FAIL_STEP]
  ++ [DIAG_RESULT.DIAG_REJ, DIAG_RESULT.BUSY, DIAG_RESULT.VERDICT, TILE_VIN.VIN, RAIL_SNS.SNS_GAIN, RAIL_SNS.SNS_OFS, RAIL_SNS.PCHAN, RAIL_SNS.CHAN, RAIL_TLM_CFG.TLM_REJ, RAIL_TLM_CFG.PK_CLR, RAIL_TLM_CFG.TLM_WIN, RAIL_TLM_V.I_AVG]
  ++ [RAIL_TLM_V.V_AVG, RAIL_TLM_PK.V_MAX, RAIL_TLM_PK.V_MIN, RAIL_TLM_P.P_AVG, RAIL_E_LO.E, RAIL_E_HI.E, RAIL_ACC_FLAGS.E_OVERLAP, RAIL_ACC_FLAGS.SNAP_WRAP, RAIL_ACC_FLAGS.WRAP, HK_CFG.EST_STALE, HK_CFG.SH_EN, HK_VING.I]
  ++ [HK_VING.V, HK_SCALE.SH_SCALE, HK_SCALE.HKV_GAIN, HK_PMEAS.P, HK_PEST.P, HK_E_LO.E, HK_E_HI.E, HK_FLAGS.E_OVERLAP, HK_FLAGS.VIN_DISAGREE, HK_FLAGS.SNAP_WRAP, HK_FLAGS.WRAP, EFF.INV_ETA_HI]
  ++ [EFF.INV_ETA_LO, EFF_PQ.P_Q, SKEW_TRIM.SKEW_00, SKEW_TRIM.SKEW_01, SKEW_TRIM.SKEW_02, SKEW_TRIM.SKEW_03, SKEW_TRIM.SKEW_04, SKEW_TRIM.SKEW_05, SKEW_TRIM.SKEW_06, SKEW_TRIM.SKEW_07, SKEW_TRIM.SKEW_08, SKEW_TRIM.SKEW_09]
  ++ [SKEW_TRIM.SKEW_10, SKEW_TRIM.SKEW_11, DIAG_START.START, RAIL_SUP_CFG.KIND, RAIL_SUP_CFG.PG_SRC, RAIL_SUP_CFG.PG_POL, RAIL_SUP_CFG.EN_POL, RAIL_SUP_CFG.EN_IDX, RAIL_SUP_CFG.PG_ON_DLY, RAIL_SUP_CFG.PG_OFF_DLY, RAIL_SUP_CFG.PG_HI, RAIL_SUP_CFG.PG_LO]
  ++ [RAIL_OFF_CFG.OFF_PCT, RAIL_OFF_CFG.OFF_MIN, RAIL_OFF_CFG.TMO, RAIL_DIS_CFG.DIS_ILO, RAIL_DIS_CFG.DIS_IHI, RAIL_DIS_CFG.DIS_EN, RAIL_DIS_CFG.DIS_NLO, RAIL_SUP_CMD.OFF, RAIL_SUP_CMD.ON, RAIL_SUP_STATUS.PG_LOST_COUNT, RAIL_SUP_STATUS.PG_LOST_OVERLAP, RAIL_SUP_STATUS.RSTATE]
  ++ [RAIL_SUP_STATUS.RESULT, RAIL_SUP_STATUS.STUCK, RAIL_SUP_STATUS.PG, RAIL_SUP_STATUS.DIS_HIGH, RAIL_SUP_STATUS.PG_LOST_EVT, RAIL_SUP_STATUS.EN_FAIL_EVT, RAIL_SUP_STATUS.STUCK_EVT, RAIL_SUP_STATUS.CMD_REJ, RAIL_SUP_STATUS.CFG_REJ, SEQ_CTRL.RUN, SEQ_CTRL.SEQ, SEQ_STATUS.CFG_REJ]
  ++ [SEQ_STATUS.BUSY_REJ, SEQ_STATUS.SEQ_EVT, SEQ_STATUS.TMO2, SEQ_STATUS.STAGE, SEQ_STATUS.ACTIVE, SEQ_STATUS.ACT_SEQ, SEQ_STATUS.RESULT, SEQ_HDR.KERB_SDN, SEQ_HDR.AUTO, SEQ_HDR.ON_FAIL, SEQ_HDR.DIR, SEQ_HDR.NSTG]
  ++ [SEQ_STG.RAILS_LO, SEQ_STG.DELAY, SEQ_STG.RAILS_HI, SEQ_STG.TMO, SEQ_STG.LANE_EN, SEQ_STG.WORKER, SEQ_STG.WSEQ, SNAP_CTRL.TAKE, SNAP_STATUS.MERGE_COUNT, SNAP_STATUS.MERGE_OVERLAP, SNAP_STATUS.SNAP_EVT, SNAP_STATUS.BUSY]
  ++ [SNAP_STATUS.NEXT, SQL_CFG.RETRY, SQL_CFG.TERM, SQL_CFG.ADDR, SQL_CFG.ROLE, SQL_STATUS.BEAT_STEP, SQL_STATUS.STEP_OVERLAP, SQL_STATUS.WORKER_LOST, SQL_STATUS.MASTER_CONFLICT, SQL_STATUS.BEAT_REGRESS, SQL_STATUS.LANE_LOST, SQL_OFS_LO.OFS_LOW]
  ++ [SQL_OFS_HI.OFS_HIGH, SQL_TX.TX0, SQL_TX.TX1, SQL_TX_CTRL.NO_REPLY, SQL_TX_CTRL.DONE, SQL_TX_CTRL.GO, SQL_TX_CTRL.DEST, SQL_RX.RX0, SQL_RX.RX1, SQL_COUNTS.CRC_OVERLAP, SQL_COUNTS.CRC_ERR, SQL_COUNTS.SKIP_OVERLAP]
  ++ [SQL_COUNTS.BEAT_SKIP, FLT_CFG.FLT_SEEN, FLT_CFG.SENSED, FLT_CFG.ASSERTED, FLT_CFG.RELEASE, FLT_CFG.SELF_IGN, FLT_CFG.FLT_SEQ, FLT_CFG.ACTION, FLT_CFG.ASSERT_MASK, PH_PROT.ILIM_CEIL, PH_PROT.OC_CYC, PH_PROT.ILIM]
  ++ [PH_PROT_STATUS.LIMIT_COUNT, PH_PROT_STATUS.LIMIT_OVERLAP, PH_PROT_STATUS.ILIM_EFF, PH_PROT_STATUS.PROT_REJ, PH_PROT_STATUS.HARD_EVT, PH_PROT_STATUS.LIMITED, PH_PROT_STATUS.DERATED, RAIL_OV.OV_ACT, RAIL_OV.OV_DLY, RAIL_OV.OV_LIM, RAIL_UV.UV_ACT, RAIL_UV.UV_DLY]
  ++ [RAIL_UV.UV_PCT, RAIL_OC.OC_ACT, RAIL_OC.OC_DLY, RAIL_OC.OCL, RAIL_PROT_CFG.PROT_SEQ, RAIL_PROT_CFG.OV_CEIL, RAIL_PROT_STATUS.PROT_COUNT, RAIL_PROT_STATUS.PROT_OVERLAP, RAIL_PROT_STATUS.PROT_REJ, RAIL_PROT_STATUS.SENSE_LOST, RAIL_PROT_STATUS.CH_DISAGREE, RAIL_PROT_STATUS.PROT_OFF]
  ++ [RAIL_PROT_STATUS.OC_EVT, RAIL_PROT_STATUS.UV_EVT, RAIL_PROT_STATUS.OV_EVT, TILE_THERM.TEMP, TILE_THERM.RESTARTS, TILE_THERM.TSD_LATCH, TILE_THERM.SENSOR_DISAGREE, TILE_THERM.TSD_EVT, TILE_THERM.THR_EVT, TILE_THERM.WARN_EVT, TILE_THERM.LEVEL, TILE_THERM_CTRL.SHUTDOWNS]
  ++ [TILE_THERM_CTRL.SHUT_OVERLAP, TILE_THERM_CTRL.PROT_REJ, TILE_THERM_CTRL.TSD_CLR, TILE_THERM_CTRL.STG_TLIM_CEIL, TILE_THERM_CTRL.STG_TLIM, STG_DERATE.VIN_EVT, STG_DERATE.DERATE, IG_OC.PROT_REJ, IG_OC.IG_OC_EVT, IG_OC.IG_CEIL, IG_OC.OCL, MGR_THERM.TEMP]
  ++ [MGR_THERM.THR_LIM, MGR_THERM.SENSOR_DISAGREE, MGR_THERM.THR_EVT, MGR_THERM.WARN_EVT, MGR_THERM.LEVEL, HPD_THERM.TEMP, HPD_THERM.RESTARTS, HPD_THERM.TSD_LATCH, HPD_THERM.SENSOR_DISAGREE, HPD_THERM.TSD_EVT, HPD_THERM.THR_EVT, HPD_THERM.WARN_EVT]
  ++ [HPD_THERM.LEVEL, HPD_THERM_CTRL.SHUTDOWNS, HPD_THERM_CTRL.SHUT_OVERLAP, HPD_THERM_CTRL.PROT_REJ, HPD_THERM_CTRL.TSD_CLR, HPD_THERM_CTRL.STG_TLIM_CEIL, HPD_THERM_CTRL.STG_TLIM]

end Sys2Proof.Machine.Reg
end

