-- ==== Sys2Proof/Machine/RegsC.lean ====
section
/-!
DEFINITION. The register fields of the chapters 09 (the holdup path), 10 (the gauge), 11 (the meter link), 12 (dependability),
one constant a field, as the field tables of spec/ give them. Order of the entries: number, block, offset,
copies, stride, lowest bit, width, access, retention, reset value, number of the companion bit.
-/
namespace Sys2Proof.Machine.Reg

/-! VBB_CFG (spec/09_*.md) -/
/-- VBB trip below VBB_SET, 10 mV units, 10–200 (R216). -/
def VBB_CFG.TRIP_OFS : Fld := ⟨422, .hpd, 0x2000, 1, 0, 16, 8, .rw, .P, 60, 0⟩
/-- Buck and charger frequency, 200 kHz + 50 kHz × value; 0b111 refused. -/
def VBB_CFG.BK_FSW : Fld := ⟨423, .hpd, 0x2000, 1, 0, 12, 3, .rw, .P, 2, 0⟩
/-- VBB target, 10 mV units, 1 100–1 440 (R211). -/
def VBB_CFG.VBB_SET : Fld := ⟨424, .hpd, 0x2000, 1, 0, 0, 11, .rw, .P, 1260, 0⟩
/-! VBB_STATUS (spec/09_*.md) -/
/-- VBB, mV. -/
def VBB_STATUS.VBB : Fld := ⟨425, .hpd, 0x2004, 1, 0, 16, 16, .ro, .P, 0, 0⟩
/-- A write was refused (R230). -/
def VBB_STATUS.CFG_REJ : Fld := ⟨426, .hpd, 0x2004, 1, 0, 7, 1, .w1c, .P, 0, 0⟩
/-- VAUX above 35.0 V (R210). -/
def VBB_STATUS.VAUX_OV_EVT : Fld := ⟨427, .hpd, 0x2004, 1, 0, 3, 1, .w1c, .P, 0, 0⟩
/-- Buck at 270 A. -/
def VBB_STATUS.ILIM_OUT : Fld := ⟨428, .hpd, 0x2004, 1, 0, 2, 1, .ro, .P, 0, 0⟩
/-- Buck at the input limit. -/
def VBB_STATUS.ILIM_IN : Fld := ⟨429, .hpd, 0x2004, 1, 0, 1, 1, .ro, .P, 0, 0⟩
/-- Buck switching. -/
def VBB_STATUS.BK_RUN : Fld := ⟨430, .hpd, 0x2004, 1, 0, 0, 1, .ro, .P, 0, 0⟩
/-! IIN_CFG (spec/09_*.md) -/
/-- Start a search (R214). -/
def IIN_CFG.SEARCH : Fld := ⟨431, .hpd, 0x3000, 1, 0, 31, 1, .w1s, .P, 0, 0⟩
/-- Charger margin, A, 0–15 (R212). -/
def IIN_CFG.IIN_MARGIN : Fld := ⟨432, .hpd, 0x3000, 1, 0, 24, 4, .rw, .P, 2, 0⟩
/-- Sag threshold, 100 mV units, 160–300. -/
def IIN_CFG.VAUX_SAG : Fld := ⟨433, .hpd, 0x3000, 1, 0, 16, 8, .rw, .P, 200, 0⟩
/-- Highest input limit, A, 10–160. -/
def IIN_CFG.IIN_MAX : Fld := ⟨434, .hpd, 0x3000, 1, 0, 8, 8, .rw, .P, 160, 0⟩
/-- Search start, A, 10–160. -/
def IIN_CFG.IIN_START : Fld := ⟨435, .hpd, 0x3000, 1, 0, 0, 8, .rw, .P, 40, 0⟩
/-! IIN_STATUS (spec/09_*.md) -/
/-- Counter: sag-watch cuts (R214). -/
def IIN_STATUS.SAG_COUNT : Fld := ⟨436, .hpd, 0x3004, 1, 0, 24, 8, .rw, .P, 0, 437⟩
/-- OVERLAP bit of SAG_COUNT. -/
def IIN_STATUS.SAG_OVERLAP : Fld := ⟨437, .hpd, 0x3004, 1, 0, 23, 1, .w1c, .P, 0, 0⟩
/-- A write was refused (R230). -/
def IIN_STATUS.CFG_REJ : Fld := ⟨438, .hpd, 0x3004, 1, 0, 16, 1, .w1c, .P, 0, 0⟩
/-- VAUX valid (R210). -/
def IIN_STATUS.VAUX_OK : Fld := ⟨439, .hpd, 0x3004, 1, 0, 15, 1, .ro, .P, 0, 0⟩
/-- Last search: 0 none; 1 SAG; 2 CEILING; 3 DEMAND_LOW; 4 ABORTED; others reserved. -/
def IIN_STATUS.RESULT : Fld := ⟨440, .hpd, 0x3004, 1, 0, 12, 3, .ro, .P, 0, 0⟩
/-- 0 idle; 1 stepping; 2 paused; others reserved. -/
def IIN_STATUS.SRCH : Fld := ⟨441, .hpd, 0x3004, 1, 0, 8, 3, .ro, .P, 0, 0⟩
/-- Input limit in force, A. -/
def IIN_STATUS.IIN_LIM : Fld := ⟨442, .hpd, 0x3004, 1, 0, 0, 8, .ro, .P, 40, 0⟩
/-! IN_MEAS (spec/09_*.md) -/
/-- Input current, signed, 1/16 A. -/
def IN_MEAS.IIN : Fld := ⟨443, .hpd, 0x3008, 1, 0, 16, 16, .ro, .P, 0, 0⟩
/-- VAUX, mV. -/
def IN_MEAS.VAUX : Fld := ⟨444, .hpd, 0x3008, 1, 0, 0, 16, .ro, .P, 0, 0⟩
/-! BFET_CTRL (spec/09_*.md) -/
/-- Handback delay, 10 ms units; 0 acts as 1 (R218). -/
def BFET_CTRL.RET_DLY : Fld := ⟨445, .hpd, 0x4000, 1, 0, 16, 8, .rw, .P, 10, 0⟩
/-- Discharge limit, A, 10–250 (R217). -/
def BFET_CTRL.IBAT_DLIM : Fld := ⟨446, .hpd, 0x4000, 1, 0, 8, 8, .rw, .P, 250, 0⟩
/-- Time in limit before DSG_OC, ms, 1–10. -/
def BFET_CTRL.DSG_OC_T : Fld := ⟨447, .hpd, 0x4000, 1, 0, 4, 4, .rw, .P, 2, 0⟩
/-- 0b00 OPEN; 0b01 ARMED; others refused (R219). -/
def BFET_CTRL.MODE : Fld := ⟨448, .hpd, 0x4000, 1, 0, 0, 2, .rw, .P, 1, 0⟩
/-! BFET_STATUS (spec/09_*.md) -/
/-- Counter: entries to CARRY. -/
def BFET_STATUS.CARRY_COUNT : Fld := ⟨449, .hpd, 0x4004, 1, 0, 24, 8, .rw, .P, 0, 450⟩
/-- OVERLAP bit of CARRY_COUNT. -/
def BFET_STATUS.CARRY_OVERLAP : Fld := ⟨450, .hpd, 0x4004, 1, 0, 23, 1, .w1c, .P, 0, 0⟩
/-- Last trigger: 0 none; 1 VAUX_LOSS; 2 VBB_TRIP; 3 HPD_TSD; 4 VAUX_OV; others reserved. -/
def BFET_STATUS.CAUSE : Fld := ⟨451, .hpd, 0x4004, 1, 0, 8, 4, .ro, .P, 0, 0⟩
/-- The pair entered CARRY. -/
def BFET_STATUS.ON_BAT_EVT : Fld := ⟨452, .hpd, 0x4004, 1, 0, 7, 1, .w1c, .P, 0, 0⟩
/-- Holdup available (R215). -/
def BFET_STATUS.HOLDUP_OK : Fld := ⟨453, .hpd, 0x4004, 1, 0, 6, 1, .ro, .P, 0, 0⟩
/-- Excess drop across the closed pair (R217). -/
def BFET_STATUS.FET_DEGRADED : Fld := ⟨454, .hpd, 0x4004, 1, 0, 5, 1, .w1c, .P, 0, 0⟩
/-- Latched pair fault (R217). -/
def BFET_STATUS.DSG_SHORT : Fld := ⟨455, .hpd, 0x4004, 1, 0, 4, 1, .w1c, .P, 0, 0⟩
/-- Latched pair fault (R217). -/
def BFET_STATUS.DSG_OC : Fld := ⟨456, .hpd, 0x4004, 1, 0, 3, 1, .w1c, .P, 0, 0⟩
/-- A write was refused (R230). -/
def BFET_STATUS.CFG_REJ : Fld := ⟨457, .hpd, 0x4004, 1, 0, 2, 1, .w1c, .P, 0, 0⟩
/-- Pair state (R215). -/
def BFET_STATUS.STATE : Fld := ⟨458, .hpd, 0x4004, 1, 0, 0, 2, .ro, .P, 1, 0⟩
/-! BAT_MEAS (spec/09_*.md) -/
/-- Battery current, signed, 1/16 A, positive charging. -/
def BAT_MEAS.IBAT : Fld := ⟨459, .hpd, 0x4008, 1, 0, 16, 16, .ro, .P, 0, 0⟩
/-- Battery voltage, mV. -/
def BAT_MEAS.VBAT : Fld := ⟨460, .hpd, 0x4008, 1, 0, 0, 16, .ro, .P, 0, 0⟩
/-! CHG_CFG (spec/09_*.md) -/
/-- Locks CHEM. -/
def CHG_CFG.LOCK : Fld := ⟨461, .hpd, 0x5000, 1, 0, 31, 1, .rwl, .P, 0, 0⟩
/-- Termination current, 0.5 A units, 1–40. -/
def CHG_CFG.ITERM : Fld := ⟨462, .hpd, 0x5000, 1, 0, 16, 8, .rw, .P, 10, 0⟩
/-- CC target, 0.5 A units, 2–120. -/
def CHG_CFG.ICHG : Fld := ⟨463, .hpd, 0x5000, 1, 0, 8, 8, .rw, .P, 40, 0⟩
/-- Charger enabled. -/
def CHG_CFG.CHG_EN : Fld := ⟨464, .hpd, 0x5000, 1, 0, 1, 1, .rw, .P, 0, 0⟩
/-- 0 LiFePO4; 1 NMC (R221). -/
def CHG_CFG.CHEM : Fld := ⟨465, .hpd, 0x5000, 1, 0, 0, 1, .rwl, .P, 0, 0⟩
/-! CHG_LEVELS (spec/09_*.md) -/
/-- Pre-charge current, 0.5 A units, 1–20. -/
def CHG_LEVELS.IPRE : Fld := ⟨466, .hpd, 0x5004, 1, 0, 24, 8, .rw, .P, 10, 0⟩
/-- Trickle current, 0.1 A units, 1–20. -/
def CHG_LEVELS.ITRK : Fld := ⟨467, .hpd, 0x5004, 1, 0, 16, 8, .rw, .P, 5, 0⟩
/-- CV voltage, 10 mV units, within the range of R221. -/
def CHG_LEVELS.VCV : Fld := ⟨468, .hpd, 0x5004, 1, 0, 0, 11, .rw, .P, 1440, 0⟩
/-! CHG_TIMERS (spec/09_*.md) -/
/-- Total timer, h, 1–20. -/
def CHG_TIMERS.TCHG : Fld := ⟨469, .hpd, 0x5008, 1, 0, 16, 8, .rw, .P, 10, 0⟩
/-- Pre-charge timer, min, 1–255. -/
def CHG_TIMERS.TPRE : Fld := ⟨470, .hpd, 0x5008, 1, 0, 8, 8, .rw, .P, 60, 0⟩
/-- Trickle timer, min, 1–255. -/
def CHG_TIMERS.TTRK : Fld := ⟨471, .hpd, 0x5008, 1, 0, 0, 8, .rw, .P, 30, 0⟩
/-! CHG_STATUS (spec/09_*.md) -/
/-- Battery temperature, signed, 1/16 °C. -/
def CHG_STATUS.BTEMP : Fld := ⟨472, .hpd, 0x500C, 1, 0, 16, 16, .ro, .P, 0, 0⟩
/-- A write was refused (R230). -/
def CHG_STATUS.CFG_REJ : Fld := ⟨473, .hpd, 0x500C, 1, 0, 15, 1, .w1c, .P, 0, 0⟩
/-- Suspension reason (R225). -/
def CHG_STATUS.SUSP : Fld := ⟨474, .hpd, 0x500C, 1, 0, 12, 3, .ro, .P, 0, 0⟩
/-- The budget of R212 limits the charge current. -/
def CHG_STATUS.CUTBACK : Fld := ⟨475, .hpd, 0x500C, 1, 0, 11, 1, .ro, .P, 0, 0⟩
/-- Timers at half rate (R224). -/
def CHG_STATUS.HALF_RATE : Fld := ⟨476, .hpd, 0x500C, 1, 0, 10, 1, .ro, .P, 0, 0⟩
/-- 0b00 normal; 0b01 cool; 0b10 warm; 0b11 cold or hot. -/
def CHG_STATUS.WINDOW : Fld := ⟨477, .hpd, 0x500C, 1, 0, 8, 2, .ro, .P, 0, 0⟩
/-- Result of the latest presence test (R226). -/
def CHG_STATUS.BAT_PRESENT : Fld := ⟨478, .hpd, 0x500C, 1, 0, 7, 1, .ro, .P, 0, 0⟩
/-- Charge phase (R222). -/
def CHG_STATUS.PHASE : Fld := ⟨479, .hpd, 0x500C, 1, 0, 0, 4, .ro, .P, 0, 0⟩
/-! CHG_FAULT (spec/09_*.md) -/
/-- BTS open or shorted (R223). -/
def CHG_FAULT.BTS_FLT : Fld := ⟨480, .hpd, 0x5010, 1, 0, 8, 1, .w1c, .P, 0, 0⟩
/-- Charge overcurrent (R227). -/
def CHG_FAULT.CHG_OC : Fld := ⟨481, .hpd, 0x5010, 1, 0, 7, 1, .w1c, .P, 0, 0⟩
/-- Battery overvoltage (R221). -/
def CHG_FAULT.BAT_OV : Fld := ⟨482, .hpd, 0x5010, 1, 0, 6, 1, .w1c, .P, 0, 0⟩
/-- Total timer expired. -/
def CHG_FAULT.TCHG_TMO : Fld := ⟨483, .hpd, 0x5010, 1, 0, 5, 1, .w1c, .P, 0, 0⟩
/-- Pre-charge timer expired. -/
def CHG_FAULT.TPRE_TMO : Fld := ⟨484, .hpd, 0x5010, 1, 0, 4, 1, .w1c, .P, 0, 0⟩
/-- Trickle timer expired. -/
def CHG_FAULT.TTRK_TMO : Fld := ⟨485, .hpd, 0x5010, 1, 0, 3, 1, .w1c, .P, 0, 0⟩
/-- Shorted battery (R227). -/
def CHG_FAULT.BAT_SHORT : Fld := ⟨486, .hpd, 0x5010, 1, 0, 2, 1, .w1c, .P, 0, 0⟩
/-- Missing battery at DETECT (R226). -/
def CHG_FAULT.NO_BAT : Fld := ⟨487, .hpd, 0x5010, 1, 0, 1, 1, .w1c, .P, 0, 0⟩
/-! CHG_COUNTS (spec/09_*.md) -/
/-- Counter: recharges (R222). -/
def CHG_COUNTS.RCH_COUNT : Fld := ⟨488, .hpd, 0x5014, 1, 0, 24, 8, .rw, .P, 0, 489⟩
/-- OVERLAP bit of RCH_COUNT. -/
def CHG_COUNTS.RCH_OVERLAP : Fld := ⟨489, .hpd, 0x5014, 1, 0, 23, 1, .w1c, .P, 0, 0⟩
/-- Minutes on the running safety timer. -/
def CHG_COUNTS.ELAPSED : Fld := ⟨490, .hpd, 0x5014, 1, 0, 0, 16, .ro, .P, 0, 0⟩
/-! GG_CFG (spec/10_*.md) -/
/-- Design capacity, 0.1 Ah units, 10–5 000. -/
def GG_CFG.DESIGN_CAP : Fld := ⟨491, .hpd, 0x7000, 1, 0, 16, 16, .rw, .P, 1000, 0⟩
/-- Low-holdup SOC, %, 5–80 (R246). -/
def GG_CFG.KERB_SOC : Fld := ⟨492, .hpd, 0x7000, 1, 0, 8, 8, .rw, .P, 20, 0⟩
/-- Self-discharge while uncounted, 0.01 %/day (R244). -/
def GG_CFG.SELF_DIS : Fld := ⟨493, .hpd, 0x7000, 1, 0, 0, 8, .rw, .P, 3, 0⟩
/-! GG_EMPTY (spec/10_*.md) -/
/-- Empty threshold for vec, mV, 8 000–14 000 (R236). -/
def GG_EMPTY.V_EMPTY : Fld := ⟨494, .hpd, 0x7004, 1, 0, 16, 16, .rw, .P, 10000, 0⟩
/-- Low-holdup threshold without a valid SOC, mV, 8 000–16 800 (R246). -/
def GG_EMPTY.V_KLOW : Fld := ⟨495, .hpd, 0x7004, 1, 0, 0, 16, .rw, .P, 12000, 0⟩
/-! GG_SCALE (spec/10_*.md) -/
/-- Battery shunt, µΩ, 100–2 000; also scales BAT_MEAS. -/
def GG_SCALE.RSH : Fld := ⟨496, .hpd, 0x7008, 1, 0, 16, 16, .rw, .P, 250, 0⟩
/-- Pack resistance, 10 µΩ units, 1–10 000. -/
def GG_SCALE.RBAT_CFG : Fld := ⟨497, .hpd, 0x7008, 1, 0, 0, 16, .rw, .P, 600, 0⟩
/-! GG_STATUS (spec/10_*.md) -/
/-- State of charge, 0.01 %; 0x3FFF when not valid (R234). -/
def GG_STATUS.SOC : Fld := ⟨498, .hpd, 0x700C, 1, 0, 18, 14, .ro, .P, 16383, 0⟩
/-- SOC rests on an anchor. -/
def GG_STATUS.SOC_VALID : Fld := ⟨499, .hpd, 0x700C, 1, 0, 17, 1, .ro, .P, 0, 0⟩
/-- Hibernating (R240). -/
def GG_STATUS.HIB : Fld := ⟨500, .hpd, 0x700C, 1, 0, 16, 1, .ro, .P, 0, 0⟩
/-- Low-holdup indication (R246). -/
def GG_STATUS.KERB_LOW : Fld := ⟨501, .hpd, 0x700C, 1, 0, 15, 1, .ro, .P, 0, 0⟩
/-- A learning run is open (R238). -/
def GG_STATUS.LEARNING : Fld := ⟨502, .hpd, 0x700C, 1, 0, 14, 1, .ro, .P, 0, 0⟩
/-- FCC comes from a completed run. -/
def GG_STATUS.FCC_LEARNED : Fld := ⟨503, .hpd, 0x700C, 1, 0, 13, 1, .ro, .P, 0, 0⟩
/-- Self-discharge estimate applied since the last anchor (R244). -/
def GG_STATUS.REST_EST : Fld := ⟨504, .hpd, 0x700C, 1, 0, 12, 1, .ro, .P, 0, 0⟩
/-- RM_RAW outside 0–FCC in the newest frame. -/
def GG_STATUS.CLAMPED : Fld := ⟨505, .hpd, 0x700C, 1, 0, 11, 1, .ro, .P, 0, 0⟩
/-- A write was refused (R250). -/
def GG_STATUS.CFG_REJ : Fld := ⟨506, .hpd, 0x700C, 1, 0, 8, 1, .w1c, .P, 0, 0⟩
/-- Full anchor. -/
def GG_STATUS.FULL_EVT : Fld := ⟨507, .hpd, 0x700C, 1, 0, 7, 1, .w1c, .P, 0, 0⟩
/-- Empty anchor. -/
def GG_STATUS.EMPTY_EVT : Fld := ⟨508, .hpd, 0x700C, 1, 0, 6, 1, .w1c, .P, 0, 0⟩
/-- FCC learned. -/
def GG_STATUS.LEARN_EVT : Fld := ⟨509, .hpd, 0x700C, 1, 0, 5, 1, .w1c, .P, 0, 0⟩
/-- A completed run was outside 90–110 %. -/
def GG_STATUS.LEARN_REJ : Fld := ⟨510, .hpd, 0x700C, 1, 0, 4, 1, .w1c, .P, 0, 0⟩
/-- Pack swap (R245). -/
def GG_STATUS.SWAP_EVT : Fld := ⟨511, .hpd, 0x700C, 1, 0, 3, 1, .w1c, .P, 0, 0⟩
/-- Intact gauge cells disagreed (R243). -/
def GG_STATUS.GREC_DISAGREE : Fld := ⟨512, .hpd, 0x700C, 1, 0, 2, 1, .w1c, .P, 0, 0⟩
/-! GG_RM (spec/10_*.md) -/
/-- Remaining charge, mAh (R234). -/
def GG_RM.RM : Fld := ⟨513, .hpd, 0x7010, 1, 0, 0, 20, .ro, .P, 0, 0⟩
/-! GG_FCC (spec/10_*.md) -/
/-- FCC as % of DESIGN_CAP. -/
def GG_FCC.SOH : Fld := ⟨514, .hpd, 0x7014, 1, 0, 24, 8, .ro, .P, 100, 0⟩
/-- Full charge capacity, mAh. -/
def GG_FCC.FCC : Fld := ⟨515, .hpd, 0x7014, 1, 0, 0, 20, .ro, .P, 100000, 0⟩
/-! GG_ANCHOR (spec/10_*.md) -/
/-- Count error found at the last anchor, signed, 10 mAh units, saturating. -/
def GG_ANCHOR.ANCHOR_ERR : Fld := ⟨516, .hpd, 0x7018, 1, 0, 16, 16, .ro, .P, 0, 0⟩
/-- Q_RUN of the last completed run, 0.1 Ah units. -/
def GG_ANCHOR.LAST_RUN : Fld := ⟨517, .hpd, 0x7018, 1, 0, 0, 16, .ro, .P, 0, 0⟩
/-! GG_CYCLE (spec/10_*.md) -/
/-- Counter: full-capacity discharges (R239); restored under R243. -/
def GG_CYCLE.CYCLE_COUNT : Fld := ⟨518, .hpd, 0x701C, 1, 0, 16, 16, .rw, .P, 0, 519⟩
/-- OVERLAP bit of CYCLE_COUNT. -/
def GG_CYCLE.CYCLE_OVERLAP : Fld := ⟨519, .hpd, 0x701C, 1, 0, 15, 1, .w1c, .P, 0, 0⟩
/-! GG_THRU (spec/10_*.md) -/
/-- Counter: discharged charge, mAh; OVERLAP bit in GG_RBAT_LRN [16]. -/
def GG_THRU.THRU : Fld := ⟨520, .hpd, 0x7020, 1, 0, 0, 32, .rw, .P, 0, 521⟩
/-! GG_RBAT_LRN (spec/10_*.md) -/
/-- OVERLAP bit of THRU. -/
def GG_RBAT_LRN.THRU_OVERLAP : Fld := ⟨521, .hpd, 0x7024, 1, 0, 16, 1, .w1c, .P, 0, 0⟩
/-- Measured pack resistance, 10 µΩ units; 0 none (R237). -/
def GG_RBAT_LRN.RBAT_LRN : Fld := ⟨522, .hpd, 0x7024, 1, 0, 0, 16, .ro, .P, 0, 0⟩
/-! GG_SAMPLE_V (spec/10_*.md) -/
/-- Battery temperature of the sample, signed, 1/16 °C. -/
def GG_SAMPLE_V.BTEMP_S : Fld := ⟨523, .hpd, 0x7028, 1, 0, 16, 16, .ro, .P, 0, 0⟩
/-- Battery voltage, mV; the read takes the snapshot (R232). -/
def GG_SAMPLE_V.VBAT_S : Fld := ⟨524, .hpd, 0x7028, 1, 0, 0, 16, .ro, .P, 0, 0⟩
/-! GG_SAMPLE_I (spec/10_*.md) -/
/-- Battery current of the snapshot, signed, mA. -/
def GG_SAMPLE_I.IBAT_S : Fld := ⟨525, .hpd, 0x702C, 1, 0, 0, 32, .ro, .P, 0, 0⟩
/-! GG_CMD (spec/10_*.md) -/
/-- Discard the charge state (R245). -/
def GG_CMD.INVALIDATE : Fld := ⟨526, .hpd, 0x7030, 1, 0, 1, 1, .w1s, .P, 0, 0⟩
/-- Store the gauge state now (R242). -/
def GG_CMD.STORE : Fld := ⟨527, .hpd, 0x7030, 1, 0, 0, 1, .w1s, .P, 0, 0⟩
/-! PACK_CFG (spec/10_*.md) -/
/-- Locks AUTH_REQ. -/
def PACK_CFG.LOCK : Fld := ⟨528, .hpd, 0x8000, 1, 0, 31, 1, .rwl, .P, 0, 0⟩
/-- 1: packs must be verified before charging. -/
def PACK_CFG.AUTH_REQ : Fld := ⟨529, .hpd, 0x8000, 1, 0, 0, 1, .rwl, .P, 1, 0⟩
/-! PACK_CTRL (spec/10_*.md) -/
/-- Start a new authentication series (R249). -/
def PACK_CTRL.AUTH_START : Fld := ⟨530, .hpd, 0x8004, 1, 0, 0, 1, .w1s, .P, 0, 0⟩
/-! PACK_STATUS (spec/10_*.md) -/
/-- Counter: FAILED verdicts. -/
def PACK_STATUS.FAIL_COUNT : Fld := ⟨531, .hpd, 0x8008, 1, 0, 24, 8, .rw, .P, 0, 532⟩
/-- OVERLAP bit of FAIL_COUNT. -/
def PACK_STATUS.FAIL_OVERLAP : Fld := ⟨532, .hpd, 0x8008, 1, 0, 23, 1, .w1c, .P, 0, 0⟩
/-- A write was refused (R250). -/
def PACK_STATUS.CFG_REJ : Fld := ⟨533, .hpd, 0x8008, 1, 0, 8, 1, .w1c, .P, 0, 0⟩
/-- A verdict was reached. -/
def PACK_STATUS.AUTH_EVT : Fld := ⟨534, .hpd, 0x8008, 1, 0, 7, 1, .w1c, .P, 0, 0⟩
/-- Bad or missing pack-line frame (R247). -/
def PACK_STATUS.LINE_ERR : Fld := ⟨535, .hpd, 0x8008, 1, 0, 6, 1, .w1c, .P, 0, 0⟩
/-- Attempts made in the present series. -/
def PACK_STATUS.TRIES : Fld := ⟨536, .hpd, 0x8008, 1, 0, 4, 2, .ro, .P, 0, 0⟩
/-- Authentication state (R249). -/
def PACK_STATUS.AUTH_STATE : Fld := ⟨537, .hpd, 0x8008, 1, 0, 0, 3, .ro, .P, 0, 0⟩
/-! PACK_ID_LO (spec/10_*.md) -/
/-- PACK_ID bits [31:0] of the pack counted; the read takes the snapshot. -/
def PACK_ID_LO.ID_LOW : Fld := ⟨538, .hpd, 0x800C, 1, 0, 0, 32, .ro, .P, 0, 0⟩
/-! PACK_ID_HI (spec/10_*.md) -/
/-- PACK_ID bits [63:32], from the snapshot. -/
def PACK_ID_HI.ID_HIGH : Fld := ⟨539, .hpd, 0x8010, 1, 0, 0, 32, .ro, .P, 0, 0⟩
/-! MET_REQ (spec/11_*.md) -/
/-- A request went unanswered for 10 ms. -/
def MET_REQ.REQ_TMO : Fld := ⟨540, .seqr, 0xB00, 1, 0, 6, 1, .w1c, .M, 0, 0⟩
/-- A strobe was refused while BUSY. -/
def MET_REQ.REQ_REJ : Fld := ⟨541, .seqr, 0xB00, 1, 0, 5, 1, .w1c, .M, 0, 0⟩
/-- A request awaits its answer. -/
def MET_REQ.BUSY : Fld := ⟨542, .seqr, 0xB00, 1, 0, 4, 1, .ro, .M, 0, 0⟩
/-- Present CODE to MET (R267). -/
def MET_REQ.STROBE : Fld := ⟨543, .seqr, 0xB00, 1, 0, 3, 1, .w1s, .M, 0, 0⟩
/-- Request code. -/
def MET_REQ.CODE : Fld := ⟨544, .seqr, 0xB00, 1, 0, 0, 3, .rw, .M, 0, 0⟩
/-! MET_LINK (spec/11_*.md) -/
/-- A new record carried a fault flag (R268). -/
def MET_LINK.REC_FLAG_EVT : Fld := ⟨545, .seqr, 0xB04, 1, 0, 3, 1, .w1c, .M, 0, 0⟩
/-- A new record arrived. -/
def MET_LINK.NEW_REC_EVT : Fld := ⟨546, .seqr, 0xB04, 1, 0, 2, 1, .w1c, .M, 0, 0⟩
/-- LINK_OK fell. -/
def MET_LINK.LINK_LOST_EVT : Fld := ⟨547, .seqr, 0xB04, 1, 0, 1, 1, .w1c, .M, 0, 0⟩
/-- A valid frame arrived within 10 ms. -/
def MET_LINK.LINK_OK : Fld := ⟨548, .seqr, 0xB04, 1, 0, 0, 1, .ro, .M, 0, 0⟩
/-! MET_LINK_COUNTS (spec/11_*.md) -/
/-- OVERLAP bit of FRAME_ERR. -/
def MET_LINK_COUNTS.ERR_OVERLAP : Fld := ⟨549, .seqr, 0xB08, 1, 0, 31, 1, .w1c, .M, 0, 0⟩
/-- Counter: frames discarded (R268). -/
def MET_LINK_COUNTS.FRAME_ERR : Fld := ⟨550, .seqr, 0xB08, 1, 0, 16, 15, .rw, .M, 0, 549⟩
/-- OVERLAP bit of REC_RCVD. -/
def MET_LINK_COUNTS.REC_OVERLAP : Fld := ⟨551, .seqr, 0xB08, 1, 0, 15, 1, .w1c, .M, 0, 0⟩
/-- Counter: new records received. -/
def MET_LINK_COUNTS.REC_RCVD : Fld := ⟨552, .seqr, 0xB08, 1, 0, 0, 15, .rw, .M, 0, 551⟩
/-! MIRR_STATUS (spec/12_*.md) -/
/-- Counter: half losses declared. -/
def MIRR_STATUS.LOSS_COUNT : Fld := ⟨553, .rail, 0x280, 1, 0, 24, 8, .rw, .S, 0, 554⟩
/-- OVERLAP bit of LOSS_COUNT. -/
def MIRR_STATUS.LOSS_OVERLAP : Fld := ⟨554, .rail, 0x280, 1, 0, 23, 1, .w1c, .S, 0, 0⟩
/-- Rail is privileged (R277). -/
def MIRR_STATUS.PRIV : Fld := ⟨555, .rail, 0x280, 1, 0, 16, 1, .fz, .P, 0, 0⟩
/-- Cause of the last half loss (R279). -/
def MIRR_STATUS.CAUSE : Fld := ⟨556, .rail, 0x280, 1, 0, 8, 4, .ro, .T, 0, 0⟩
/-- Both halves declared each other lost (R283). -/
def MIRR_STATUS.SPLIT_EVT : Fld := ⟨557, .rail, 0x280, 1, 0, 6, 1, .w1c, .T, 0, 0⟩
/-- A rejoin was refused (R284). -/
def MIRR_STATUS.REJOIN_REJ : Fld := ⟨558, .rail, 0x280, 1, 0, 5, 1, .w1c, .T, 0, 0⟩
/-- A half loss was declared. -/
def MIRR_STATUS.HALF_LOST_EVT : Fld := ⟨559, .rail, 0x280, 1, 0, 4, 1, .w1c, .T, 0, 0⟩
/-- Surviving limits raised to ILIM_CEIL (R280). -/
def MIRR_STATUS.CAP_RAISED : Fld := ⟨560, .rail, 0x280, 1, 0, 3, 1, .ro, .T, 0, 0⟩
/-- Half state (R278). -/
def MIRR_STATUS.HALF : Fld := ⟨561, .rail, 0x280, 1, 0, 0, 3, .ro, .T, 0, 0⟩
/-! MIRR_CTRL (spec/12_*.md) -/
/-- Restore the lost half (R284). -/
def MIRR_CTRL.REJOIN : Fld := ⟨562, .rail, 0x284, 1, 0, 0, 1, .w1s, .T, 0, 0⟩
/-! TILE_AUTO (spec/12_*.md) -/
/-- Silence before autonomous Kerb, 10 ms units, 1–6 000 (R294). -/
def TILE_AUTO.KERB_HOLD : Fld := ⟨563, .tile, 0x200020, 1, 0, 16, 16, .rw, .S, 200, 0⟩
/-- A write was refused (R308). -/
def TILE_AUTO.CFG_REJ : Fld := ⟨564, .tile, 0x200020, 1, 0, 2, 1, .w1c, .T, 0, 0⟩
/-- The tile entered Kerb mode by itself. -/
def TILE_AUTO.AUTO_KERB : Fld := ⟨565, .tile, 0x200020, 1, 0, 1, 1, .ro, .S, 0, 0⟩
/-- No beat frame from either manager for 30 µs. -/
def TILE_AUTO.MGR_SILENT : Fld := ⟨566, .tile, 0x200020, 1, 0, 0, 1, .ro, .T, 0, 0⟩
/-! CAP_CTRL (spec/12_*.md) -/
/-- Segments recorded after a trigger. -/
def CAP_CTRL.POST : Fld := ⟨567, .tile, 0x200100, 1, 0, 28, 4, .rw, .S, 4, 0⟩
/-- [4] snapshot; [5] protection; [6] Cinch trip; [7] half loss or takeover. -/
def CAP_CTRL.TRIG_EN : Fld := ⟨568, .tile, 0x200100, 1, 0, 4, 4, .rw, .S, 0, 0⟩
/-- A write was refused (R308). -/
def CAP_CTRL.CFG_REJ : Fld := ⟨569, .tile, 0x200100, 1, 0, 3, 1, .w1c, .T, 0, 0⟩
/-- Trigger now. -/
def CAP_CTRL.TRIG : Fld := ⟨570, .tile, 0x200100, 1, 0, 2, 1, .w1s, .T, 0, 0⟩
/-- Capture running (R301). -/
def CAP_CTRL.ARM : Fld := ⟨571, .tile, 0x200100, 1, 0, 0, 1, .rw, .T, 0, 0⟩
/-! CAP_MASK (spec/12_*.md) -/
/-- Bit e: capture engine e; writable while ARM = 0. -/
def CAP_MASK.CAP_MASK : Fld := ⟨572, .tile, 0x200104, 1, 0, 0, 25, .rw, .S, 0, 0⟩
/-! CAP_STATUS (spec/12_*.md) -/
/-- Oldest complete segment. -/
def CAP_STATUS.OLDEST : Fld := ⟨573, .tile, 0x200108, 1, 0, 28, 4, .ro, .T, 0, 0⟩
/-- Segment being written. -/
def CAP_STATUS.NEXT : Fld := ⟨574, .tile, 0x200108, 1, 0, 24, 4, .ro, .T, 0, 0⟩
/-- Post-trigger segments complete. -/
def CAP_STATUS.STOPPED : Fld := ⟨575, .tile, 0x200108, 1, 0, 2, 1, .ro, .T, 0, 0⟩
/-- A trigger occurred. -/
def CAP_STATUS.TRIGGERED : Fld := ⟨576, .tile, 0x200108, 1, 0, 1, 1, .w1c, .T, 0, 0⟩
/-- Recording. -/
def CAP_STATUS.RUNNING : Fld := ⟨577, .tile, 0x200108, 1, 0, 0, 1, .ro, .T, 0, 0⟩
/-! REIN_STATUS (spec/12_*.md) -/
/-- Role epoch (R289). -/
def REIN_STATUS.EPOCH : Fld := ⟨578, .rein, 0x0, 1, 0, 24, 8, .ro, .S, 0, 0⟩
/-- Counter: words corrected by sweeps (R287). -/
def REIN_STATUS.SWEEP_FIX : Fld := ⟨579, .rein, 0x0, 1, 0, 16, 8, .rw, .M, 0, 580⟩
/-- OVERLAP bit of SWEEP_FIX. -/
def REIN_STATUS.SWEEP_OVERLAP : Fld := ⟨580, .rein, 0x0, 1, 0, 15, 1, .w1c, .M, 0, 0⟩
/-- This die may take over (R293). -/
def REIN_STATUS.SHADOW_READY : Fld := ⟨581, .rein, 0x0, 1, 0, 14, 1, .ro, .M, 0, 0⟩
/-- Receiving the sweep after a manager reset. -/
def REIN_STATUS.SYNCING : Fld := ⟨582, .rein, 0x0, 1, 0, 13, 1, .ro, .M, 0, 0⟩
/-- No valid heartbeat for three intervals. -/
def REIN_STATUS.PEER_LOST : Fld := ⟨583, .rein, 0x0, 1, 0, 12, 1, .ro, .M, 0, 0⟩
/-- A simultaneous claim was resolved (R291). -/
def REIN_STATUS.ROLE_CONTEST : Fld := ⟨584, .rein, 0x0, 1, 0, 9, 1, .w1c, .S, 0, 0⟩
/-- This die took over. -/
def REIN_STATUS.TAKEOVER_EVT : Fld := ⟨585, .rein, 0x0, 1, 0, 8, 1, .w1c, .S, 0, 0⟩
/-- Present run of misses (R288). -/
def REIN_STATUS.MISSES : Fld := ⟨586, .rein, 0x0, 1, 0, 4, 4, .ro, .M, 0, 0⟩
/-- ROLE is low. -/
def REIN_STATUS.ROLE_SENSE : Fld := ⟨587, .rein, 0x0, 1, 0, 1, 1, .ro, .M, 0, 0⟩
/-- This die is the active manager. -/
def REIN_STATUS.ACTIVE : Fld := ⟨588, .rein, 0x0, 1, 0, 0, 1, .ro, .M, 0, 0⟩
/-! REIN_CTRL (spec/12_*.md) -/
/-- Planned handover to a ready shadow; refused on the shadow. -/
def REIN_CTRL.HANDOVER : Fld := ⟨589, .rein, 0x4, 1, 0, 0, 1, .w1s, .M, 0, 0⟩
/-! REIN_COUNTS (spec/12_*.md) -/
/-- Counter: takeovers by this die. -/
def REIN_COUNTS.TAKEOVER_COUNT : Fld := ⟨590, .rein, 0x8, 1, 0, 24, 8, .rw, .P, 0, 591⟩
/-- OVERLAP bit of TAKEOVER_COUNT. -/
def REIN_COUNTS.TAKE_OVERLAP : Fld := ⟨591, .rein, 0x8, 1, 0, 23, 1, .w1c, .P, 0, 0⟩
/-- Counter: ROLE contests. -/
def REIN_COUNTS.CONTEST_COUNT : Fld := ⟨592, .rein, 0x8, 1, 0, 16, 7, .rw, .P, 0, 593⟩
/-- OVERLAP bit of CONTEST_COUNT. -/
def REIN_COUNTS.CONTEST_OVERLAP : Fld := ⟨593, .rein, 0x8, 1, 0, 15, 1, .w1c, .P, 0, 0⟩
/-- Counter: heartbeat misses. -/
def REIN_COUNTS.MISS_COUNT : Fld := ⟨594, .rein, 0x8, 1, 0, 1, 14, .rw, .P, 0, 595⟩
/-- OVERLAP bit of MISS_COUNT. -/
def REIN_COUNTS.MISS_OVERLAP : Fld := ⟨595, .rein, 0x8, 1, 0, 0, 1, .w1c, .P, 0, 0⟩
/-! AWL_CTRL (spec/12_*.md) -/
/-- Error window, minutes, 1–10 080. -/
def AWL_CTRL.AWL_WIN : Fld := ⟨596, .rein, 0x200, 1, 0, 16, 16, .rw, .S, 60, 0⟩
/-- Errors allowed in the window for TRANSIENT. -/
def AWL_CTRL.AWL_MAX : Fld := ⟨597, .rein, 0x200, 1, 0, 8, 8, .rw, .S, 1, 0⟩
/-- A write was refused (R308). -/
def AWL_CTRL.CFG_REJ : Fld := ⟨598, .rein, 0x200, 1, 0, 1, 1, .w1c, .S, 0, 0⟩
/-- Probe after every error (R297). -/
def AWL_CTRL.AUTO_EN : Fld := ⟨599, .rein, 0x200, 1, 0, 0, 1, .rw, .S, 1, 0⟩
/-! AWL_STATUS (spec/12_*.md) -/
/-- Counter: probes run. -/
def AWL_STATUS.PROBE_COUNT : Fld := ⟨600, .rein, 0x204, 1, 0, 24, 8, .rw, .S, 0, 601⟩
/-- OVERLAP bit of PROBE_COUNT. -/
def AWL_STATUS.PROBE_OVERLAP : Fld := ⟨601, .rein, 0x204, 1, 0, 23, 1, .w1c, .S, 0, 0⟩
/-- Kind of the last probe, in the row order of R297 from 0x1. -/
def AWL_STATUS.UNIT : Fld := ⟨602, .rein, 0x204, 1, 0, 16, 4, .ro, .S, 0, 0⟩
/-- Tile in [15:12], unit index in [11:4]. -/
def AWL_STATUS.INSTANCE : Fld := ⟨603, .rein, 0x204, 1, 0, 4, 12, .ro, .S, 0, 0⟩
/-- 0b00 none; 0b01 TRANSIENT; 0b10 LASTING; 0b11 NOT_RUN. -/
def AWL_STATUS.VERDICT : Fld := ⟨604, .rein, 0x204, 1, 0, 0, 2, .ro, .S, 0, 0⟩
/-! LBIST_CTRL (spec/12_*.md) -/
/-- 0x0–0x3 TILE_n; 0x4 HPD; 0x5 the shadow manager; others refused. -/
def LBIST_CTRL.TARGET : Fld := ⟨605, .rein, 0x210, 1, 0, 4, 4, .rw, .S, 0, 0⟩
/-- Start logic self-test (R299). -/
def LBIST_CTRL.START : Fld := ⟨606, .rein, 0x210, 1, 0, 0, 1, .w1s, .S, 0, 0⟩
/-! LBIST_STATUS (spec/12_*.md) -/
/-- Complete self-test passed (R300). -/
def LBIST_STATUS.COMPLETE_ST : Fld := ⟨607, .rein, 0x214, 1, 0, 3, 1, .ro, .M, 0, 0⟩
/-- 0 none; 1 PASS; 2 FAIL; 3 REFUSED; 4 RUNNING; others reserved. -/
def LBIST_STATUS.RESULT : Fld := ⟨608, .rein, 0x214, 1, 0, 0, 3, .ro, .S, 0, 0⟩
/-! LBIST_SIG_LO (spec/12_*.md) -/
/-- Signature bits [31:0]; the read takes the snapshot. -/
def LBIST_SIG_LO.SIG_LOW : Fld := ⟨609, .rein, 0x218, 1, 0, 0, 32, .ro, .S, 0, 0⟩
/-! LBIST_SIG_HI (spec/12_*.md) -/
/-- Signature bits [63:32], from the snapshot. -/
def LBIST_SIG_HI.SIG_HIGH : Fld := ⟨610, .rein, 0x21C, 1, 0, 0, 32, .ro, .S, 0, 0⟩
/-! KERB_CTRL (spec/12_*.md) -/
/-- An exit or write was refused (R306, R308). -/
def KERB_CTRL.KERB_REJ : Fld := ⟨611, .seqr, 0xFA0, 1, 0, 2, 1, .w1c, .S, 0, 0⟩
/-- Leave Kerb mode (R306). -/
def KERB_CTRL.EXIT : Fld := ⟨612, .seqr, 0xFA0, 1, 0, 1, 1, .w1s, .S, 0, 0⟩
/-- Enter Kerb mode, cause HOST. -/
def KERB_CTRL.ENTER : Fld := ⟨613, .seqr, 0xFA0, 1, 0, 0, 1, .w1s, .S, 0, 0⟩
/-! KERB_STATUS (spec/12_*.md) -/
/-- Counter: entries to Kerb mode. -/
def KERB_STATUS.ENTRY_COUNT : Fld := ⟨614, .seqr, 0xFA4, 1, 0, 24, 8, .rw, .S, 0, 615⟩
/-- OVERLAP bit of ENTRY_COUNT. -/
def KERB_STATUS.ENTRY_OVERLAP : Fld := ⟨615, .seqr, 0xFA4, 1, 0, 23, 1, .w1c, .S, 0, 0⟩
/-- [8] SOC; [9] MGR_LOST; [10] THROTTLE; [11] HOST; [12] FLT_N; [13] LANE (R304). -/
def KERB_STATUS.CAUSE : Fld := ⟨616, .seqr, 0xFA4, 1, 0, 8, 6, .w1c, .S, 0, 0⟩
/-- The device is in Kerb mode. -/
def KERB_STATUS.IN_KERB : Fld := ⟨617, .seqr, 0xFA4, 1, 0, 0, 1, .ro, .S, 0, 0⟩

/-- Every field of this file. -/
def allC : List Fld :=
  [VBB_CFG.TRIP_OFS, VBB_CFG.BK_FSW, VBB_CFG.VBB_SET, VBB_STATUS.VBB, VBB_STATUS.CFG_REJ, VBB_STATUS.VAUX_OV_EVT, VBB_STATUS.ILIM_OUT, VBB_STATUS.ILIM_IN, VBB_STATUS.BK_RUN, IIN_CFG.SEARCH, IIN_CFG.IIN_MARGIN, IIN_CFG.VAUX_SAG]
  ++ [IIN_CFG.IIN_MAX, IIN_CFG.IIN_START, IIN_STATUS.SAG_COUNT, IIN_STATUS.SAG_OVERLAP, IIN_STATUS.CFG_REJ, IIN_STATUS.VAUX_OK, IIN_STATUS.RESULT, IIN_STATUS.SRCH, IIN_STATUS.IIN_LIM, IN_MEAS.IIN, IN_MEAS.VAUX, BFET_CTRL.RET_DLY]
  ++ [BFET_CTRL.IBAT_DLIM, BFET_CTRL.DSG_OC_T, BFET_CTRL.MODE, BFET_STATUS.CARRY_COUNT, BFET_STATUS.CARRY_OVERLAP, BFET_STATUS.CAUSE, BFET_STATUS.ON_BAT_EVT, BFET_STATUS.HOLDUP_OK, BFET_STATUS.FET_DEGRADED, BFET_STATUS.DSG_SHORT, BFET_STATUS.DSG_OC, BFET_STATUS.CFG_REJ]
  ++ [BFET_STATUS.STATE, BAT_MEAS.IBAT, BAT_MEAS.VBAT, CHG_CFG.LOCK, CHG_CFG.ITERM, CHG_CFG.ICHG, CHG_CFG.CHG_EN, CHG_CFG.CHEM, CHG_LEVELS.IPRE, CHG_LEVELS.ITRK, CHG_LEVELS.VCV, CHG_TIMERS.TCHG]
  ++ [CHG_TIMERS.TPRE, CHG_TIMERS.TTRK, CHG_STATUS.BTEMP, CHG_STATUS.CFG_REJ, CHG_STATUS.SUSP, CHG_STATUS.CUTBACK, CHG_STATUS.HALF_RATE, CHG_STATUS.WINDOW, CHG_STATUS.BAT_PRESENT, CHG_STATUS.PHASE, CHG_FAULT.BTS_FLT, CHG_FAULT.CHG_OC]
  ++ [CHG_FAULT.BAT_OV, CHG_FAULT.TCHG_TMO, CHG_FAULT.TPRE_TMO, CHG_FAULT.TTRK_TMO, CHG_FAULT.BAT_SHORT, CHG_FAULT.NO_BAT, CHG_COUNTS.RCH_COUNT, CHG_COUNTS.RCH_OVERLAP, CHG_COUNTS.ELAPSED, GG_CFG.DESIGN_CAP, GG_CFG.KERB_SOC, GG_CFG.SELF_DIS]
  ++ [GG_EMPTY.V_EMPTY, GG_EMPTY.V_KLOW, GG_SCALE.RSH, GG_SCALE.RBAT_CFG, GG_STATUS.SOC, GG_STATUS.SOC_VALID, GG_STATUS.HIB, GG_STATUS.KERB_LOW, GG_STATUS.LEARNING, GG_STATUS.FCC_LEARNED, GG_STATUS.REST_EST, GG_STATUS.CLAMPED]
  ++ [GG_STATUS.CFG_REJ, GG_STATUS.FULL_EVT, GG_STATUS.EMPTY_EVT, GG_STATUS.LEARN_EVT, GG_STATUS.LEARN_REJ, GG_STATUS.SWAP_EVT, GG_STATUS.GREC_DISAGREE, GG_RM.RM, GG_FCC.SOH, GG_FCC.FCC, GG_ANCHOR.ANCHOR_ERR, GG_ANCHOR.LAST_RUN]
  ++ [GG_CYCLE.CYCLE_COUNT, GG_CYCLE.CYCLE_OVERLAP, GG_THRU.THRU, GG_RBAT_LRN.THRU_OVERLAP, GG_RBAT_LRN.RBAT_LRN, GG_SAMPLE_V.BTEMP_S, GG_SAMPLE_V.VBAT_S, GG_SAMPLE_I.IBAT_S, GG_CMD.INVALIDATE, GG_CMD.STORE, PACK_CFG.LOCK, PACK_CFG.AUTH_REQ]
  ++ [PACK_CTRL.AUTH_START, PACK_STATUS.FAIL_COUNT, PACK_STATUS.FAIL_OVERLAP, PACK_STATUS.CFG_REJ, PACK_STATUS.AUTH_EVT, PACK_STATUS.LINE_ERR, PACK_STATUS.TRIES, PACK_STATUS.AUTH_STATE, PACK_ID_LO.ID_LOW, PACK_ID_HI.ID_HIGH, MET_REQ.REQ_TMO, MET_REQ.REQ_REJ]
  ++ [MET_REQ.BUSY, MET_REQ.STROBE, MET_REQ.CODE, MET_LINK.REC_FLAG_EVT, MET_LINK.NEW_REC_EVT, MET_LINK.LINK_LOST_EVT, MET_LINK.LINK_OK, MET_LINK_COUNTS.ERR_OVERLAP, MET_LINK_COUNTS.FRAME_ERR, MET_LINK_COUNTS.REC_OVERLAP, MET_LINK_COUNTS.REC_RCVD, MIRR_STATUS.LOSS_COUNT]
  ++ [MIRR_STATUS.LOSS_OVERLAP, MIRR_STATUS.PRIV, MIRR_STATUS.CAUSE, MIRR_STATUS.SPLIT_EVT, MIRR_STATUS.REJOIN_REJ, MIRR_STATUS.HALF_LOST_EVT, MIRR_STATUS.CAP_RAISED, MIRR_STATUS.HALF, MIRR_CTRL.REJOIN, TILE_AUTO.KERB_HOLD, TILE_AUTO.CFG_REJ, TILE_AUTO.AUTO_KERB]
  ++ [TILE_AUTO.MGR_SILENT, CAP_CTRL.POST, CAP_CTRL.TRIG_EN, CAP_CTRL.CFG_REJ, CAP_CTRL.TRIG, CAP_CTRL.ARM, CAP_MASK.CAP_MASK, CAP_STATUS.OLDEST, CAP_STATUS.NEXT, CAP_STATUS.STOPPED, CAP_STATUS.TRIGGERED, CAP_STATUS.RUNNING]
  ++ [REIN_STATUS.EPOCH, REIN_STATUS.SWEEP_FIX, REIN_STATUS.SWEEP_OVERLAP, REIN_STATUS.SHADOW_READY, REIN_STATUS.SYNCING, REIN_STATUS.PEER_LOST, REIN_STATUS.ROLE_CONTEST, REIN_STATUS.TAKEOVER_EVT, REIN_STATUS.MISSES, REIN_STATUS.ROLE_SENSE, REIN_STATUS.ACTIVE, REIN_CTRL.HANDOVER]
  ++ [REIN_COUNTS.TAKEOVER_COUNT, REIN_COUNTS.TAKE_OVERLAP, REIN_COUNTS.CONTEST_COUNT, REIN_COUNTS.CONTEST_OVERLAP, REIN_COUNTS.MISS_COUNT, REIN_COUNTS.MISS_OVERLAP, AWL_CTRL.AWL_WIN, AWL_CTRL.AWL_MAX, AWL_CTRL.CFG_REJ, AWL_CTRL.AUTO_EN, AWL_STATUS.PROBE_COUNT, AWL_STATUS.PROBE_OVERLAP]
  ++ [AWL_STATUS.UNIT, AWL_STATUS.INSTANCE, AWL_STATUS.VERDICT, LBIST_CTRL.TARGET, LBIST_CTRL.START, LBIST_STATUS.COMPLETE_ST, LBIST_STATUS.RESULT, LBIST_SIG_LO.SIG_LOW, LBIST_SIG_HI.SIG_HIGH, KERB_CTRL.KERB_REJ, KERB_CTRL.EXIT, KERB_CTRL.ENTER]
  ++ [KERB_STATUS.ENTRY_COUNT, KERB_STATUS.ENTRY_OVERLAP, KERB_STATUS.CAUSE, KERB_STATUS.IN_KERB]

end Sys2Proof.Machine.Reg
end

