-- ==== Sys2Proof/Machine/RegsD.lean ====
section
/-!
DEFINITION. The register fields of the chapters 13 (events), 14 (start-up and resets), 15 (management), 16 (host bus and journal), 17 (update),
one constant a field, as the field tables of spec/ give them. Order of the entries: number, block, offset,
copies, stride, lowest bit, width, access, retention, reset value, number of the companion bit.
-/
namespace Sys2Proof.Machine.Reg

/-! EVC_CTRL (spec/13_*.md) -/
/-- Locks the settings of R325. -/
def EVC_CTRL.LOCK : Fld := ⟨618, .evc, 0x0, 1, 0, 31, 1, .rwl, .S, 0, 0⟩
/-- Fold window, µs, 0–63; 0 disables folding (R320). -/
def EVC_CTRL.FOLD_WIN : Fld := ⟨619, .evc, 0x0, 1, 0, 16, 6, .rwl, .S, 2, 0⟩
/-- ALERT_N follows the host queue (R323). -/
def EVC_CTRL.HQ_ALERT_EN : Fld := ⟨620, .evc, 0x0, 1, 0, 1, 1, .rw, .S, 1, 0⟩
/-- Main queue enabled (R315, R325). -/
def EVC_CTRL.QEN : Fld := ⟨621, .evc, 0x0, 1, 0, 0, 1, .rwl, .S, 1, 0⟩
/-! EVC_QCFG (spec/13_*.md) -/
/-- Queue start, 256-byte units from 0x1000_0000; writable while QEN = 0. -/
def EVC_QCFG.Q_BASE : Fld := ⟨622, .evc, 0x4, 1, 0, 8, 12, .rwl, .S, 3072, 0⟩
/-- 0b000 256; 0b001 512; 0b010 1 024; 0b011 2 048; 0b100 4 096 records; others refused. -/
def EVC_QCFG.Q_SIZE : Fld := ⟨623, .evc, 0x4, 1, 0, 0, 3, .rwl, .S, 2, 0⟩
/-! EVC_STATUS (spec/13_*.md) -/
/-- Main-queue slots in use. -/
def EVC_STATUS.USED : Fld := ⟨624, .evc, 0x8, 1, 0, 16, 13, .ro, .S, 0, 0⟩
/-- A write was refused (R320, R325). -/
def EVC_STATUS.CFG_REJ : Fld := ⟨625, .evc, 0x8, 1, 0, 7, 1, .w1c, .S, 0, 0⟩
/-- An overflow record was opened in any queue (R322). -/
def EVC_STATUS.OVF_EVT : Fld := ⟨626, .evc, 0x8, 1, 0, 6, 1, .w1c, .S, 0, 0⟩
/-- A fold is open. -/
def EVC_STATUS.FOLD_OPEN : Fld := ⟨627, .evc, 0x8, 1, 0, 5, 1, .ro, .S, 0, 0⟩
/-- Routed records wait with no eligible core (R317). -/
def EVC_STATUS.NO_CORE : Fld := ⟨628, .evc, 0x8, 1, 0, 4, 1, .ro, .S, 0, 0⟩
/-- The safety queue holds a takeable record. -/
def EVC_STATUS.SQ_NONEMPTY : Fld := ⟨629, .evc, 0x8, 1, 0, 3, 1, .ro, .S, 0, 0⟩
/-- The main queue holds a takeable record. -/
def EVC_STATUS.NONEMPTY : Fld := ⟨630, .evc, 0x8, 1, 0, 2, 1, .ro, .S, 0, 0⟩
/-! EVC_QPTR (spec/13_*.md) -/
/-- Next slot to be written. -/
def EVC_QPTR.TAIL : Fld := ⟨631, .evc, 0xC, 1, 0, 16, 13, .ro, .S, 0, 0⟩
/-- Oldest slot not yet freed. -/
def EVC_QPTR.HEAD : Fld := ⟨632, .evc, 0xC, 1, 0, 0, 13, .ro, .S, 0, 0⟩
/-! EVC_TAKE (spec/13_*.md) -/
/-- Read takes the oldest takeable routed record: SEQ, with bit 31 VALID set (R316). -/
def EVC_TAKE.TAKE : Fld := ⟨633, .evc, 0x20, 1, 0, 0, 32, .ro, .S, 0, 0⟩
/-! EVC_SC_TAKE (spec/13_*.md) -/
/-- As TAKE, for the safety queue; safety core only (R318). -/
def EVC_SC_TAKE.SC_TAKE : Fld := ⟨634, .evc, 0x24, 1, 0, 0, 32, .ro, .S, 0, 0⟩
/-! EVC_TREC (spec/13_*.md) -/
/-- Word j of the record last taken by the reading initiator. -/
def EVC_TREC.TREC : Fld := ⟨635, .evc, 0x40, 8, 4, 0, 32, .ro, .S, 0, 0⟩
/-! EVC_COMPLETE (spec/13_*.md) -/
/-- 1: [15:0] name a fold by SEQ[15:0] (R321). -/
def EVC_COMPLETE.FOLD : Fld := ⟨636, .evc, 0x30, 1, 0, 31, 1, .wo, .S, 0, 0⟩
/-- Source to complete (R311), or fold SEQ[15:0]. -/
def EVC_COMPLETE.TARGET : Fld := ⟨637, .evc, 0x30, 1, 0, 0, 16, .wo, .S, 0, 0⟩
/-! EVC_STRAY (spec/13_*.md) -/
/-- Counter: fold completions without an active member. -/
def EVC_STRAY.FOLD_STRAY : Fld := ⟨638, .evc, 0x34, 1, 0, 16, 16, .rw, .S, 0, 639⟩
/-- OVERLAP bit of FOLD_STRAY. -/
def EVC_STRAY.FOLD_OVERLAP : Fld := ⟨639, .evc, 0x34, 1, 0, 15, 1, .w1c, .S, 0, 0⟩
/-- Counter: completions naming sources 640 and above (R312). -/
def EVC_STRAY.BAD_COUNT : Fld := ⟨640, .evc, 0x34, 1, 0, 1, 14, .rw, .S, 0, 641⟩
/-- OVERLAP bit of BAD_COUNT. -/
def EVC_STRAY.BAD_OVERLAP : Fld := ⟨641, .evc, 0x34, 1, 0, 0, 1, .w1c, .S, 0, 0⟩
/-! EVC_CORE (spec/13_*.md) -/
/-- Counter: records taken by the core. -/
def EVC_CORE.TAKES : Fld := ⟨642, .evc, 0x80, 3, 4, 24, 8, .rw, .S, 0, 643⟩
/-- OVERLAP bit of TAKES. -/
def EVC_CORE.TAKES_OVERLAP : Fld := ⟨643, .evc, 0x80, 3, 4, 23, 1, .w1c, .S, 0, 0⟩
/-- An occurrence woke the core (R319). -/
def EVC_CORE.WAKE_EVT : Fld := ⟨644, .evc, 0x80, 3, 4, 19, 1, .w1c, .S, 0, 0⟩
/-- The non-empty interrupt is asserted to this core. -/
def EVC_CORE.IRQ : Fld := ⟨645, .evc, 0x80, 3, 4, 18, 1, .ro, .S, 0, 0⟩
/-- The core is halted. -/
def EVC_CORE.HALTED : Fld := ⟨646, .evc, 0x80, 3, 4, 17, 1, .ro, .S, 0, 0⟩
/-- The core sleeps. -/
def EVC_CORE.SLEEPING : Fld := ⟨647, .evc, 0x80, 3, 4, 16, 1, .ro, .S, 0, 0⟩
/-- Exclude the core from routing (R317). -/
def EVC_CORE.MASK : Fld := ⟨648, .evc, 0x80, 3, 4, 8, 1, .rw, .S, 0, 0⟩
/-- WR_LOST bit of CUR_PRIO. -/
def EVC_CORE.CP_WR_LOST : Fld := ⟨649, .evc, 0x80, 3, 4, 4, 1, .w1c, .S, 0, 0⟩
/-- Present priority; raised by TAKE (R317). -/
def EVC_CORE.CUR_PRIO : Fld := ⟨650, .evc, 0x80, 3, 4, 0, 4, .hw, .S, 0, 649⟩
/-! EVC_HQ_STATUS (spec/13_*.md) -/
/-- Host-queue entries, 0–128. -/
def EVC_HQ_STATUS.HQ_USED : Fld := ⟨651, .evc, 0xA0, 1, 0, 8, 8, .ro, .S, 0, 0⟩
/-- The newest entry is an open overflow record. -/
def EVC_HQ_STATUS.HQ_OVF : Fld := ⟨652, .evc, 0xA0, 1, 0, 1, 1, .ro, .S, 0, 0⟩
/-- ALERT_N is driven low (R323). -/
def EVC_HQ_STATUS.ALERT : Fld := ⟨653, .evc, 0xA0, 1, 0, 0, 1, .ro, .S, 0, 0⟩
/-! EVC_HQ_REC (spec/13_*.md) -/
/-- Word j of the reading initiator's snapshot; reading word 0 takes the oldest entry. -/
def EVC_HQ_REC.HQ_REC : Fld := ⟨654, .evc, 0xC0, 8, 4, 0, 32, .ro, .S, 0, 0⟩
/-! SW_LINE (spec/13_*.md) -/
/-- Bit k: line of SW_kk. -/
def SW_LINE.SW_LINE : Fld := ⟨655, .evc, 0x100, 1, 0, 0, 32, .rw, .S, 0, 0⟩
/-! SRC_LINE (spec/13_*.md) -/
/-- Bit b: line of source 32 × w + b. -/
def SRC_LINE.LINE : Fld := ⟨656, .evc, 0x200, 20, 4, 0, 32, .ro, .S, 0, 0⟩
/-! SRC_ACTIVE (spec/13_*.md) -/
/-- Bit b: source 32 × w + b is active (R311). -/
def SRC_ACTIVE.ACTIVE : Fld := ⟨657, .evc, 0x280, 20, 4, 0, 32, .ro, .S, 0, 0⟩
/-! SRC_CFG (spec/13_*.md) -/
/-- Counter: completions while idle (R312). -/
def SRC_CFG.STRAY_COUNT : Fld := ⟨658, .evc, 0x1000, 640, 4, 24, 8, .rw, .S, 0, 659⟩
/-- OVERLAP bit of STRAY_COUNT. -/
def SRC_CFG.STRAY_OVERLAP : Fld := ⟨659, .evc, 0x1000, 640, 4, 23, 1, .w1c, .S, 0, 0⟩
/-- Fold class; 0 never folds. -/
def SRC_CFG.FOLD_CLS : Fld := ⟨660, .evc, 0x1000, 640, 4, 16, 4, .rwl, .S, 0, 0⟩
/-- Delivery priority, 1–15; 0 acts as 1. -/
def SRC_CFG.PRIO : Fld := ⟨661, .evc, 0x1000, 640, 4, 12, 4, .rwl, .S, 4, 0⟩
/-- Class; fixed safety sources read 0b10 (R318). -/
def SRC_CFG.CLASS : Fld := ⟨662, .evc, 0x1000, 640, 4, 10, 2, .rwl, .S, 0, 0⟩
/-- Copy records to the host queue (R323). -/
def SRC_CFG.HOST : Fld := ⟨663, .evc, 0x1000, 640, 4, 9, 1, .rwl, .S, 0, 0⟩
/-- Source makes occurrences (R310). -/
def SRC_CFG.ENABLE : Fld := ⟨664, .evc, 0x1000, 640, 4, 8, 1, .rwl, .S, 1, 0⟩
/-- 0b00 level; 0b01 rising; 0b10 falling; 0b11 both. -/
def SRC_CFG.SENSE : Fld := ⟨665, .evc, 0x1000, 640, 4, 4, 2, .rwl, .S, 1, 0⟩
/-! DEV_STATE (spec/14_*.md) -/
/-- Only one manager present (R339). -/
def DEV_STATE.SINGLE_MGR : Fld := ⟨666, .ldr, 0x0, 1, 0, 15, 1, .ro, .S, 0, 0⟩
/-- Criteria unmet at ARM_TMO. -/
def DEV_STATE.ARM_LATE : Fld := ⟨667, .ldr, 0x0, 1, 0, 14, 1, .w1c, .S, 0, 0⟩
/-- [8] IMAGE; [9] TILES; [10] VBB; [11] GAUGE; [12] VIO. -/
def DEV_STATE.ARM_OK : Fld := ⟨668, .ldr, 0x0, 1, 0, 8, 5, .ro, .S, 0, 0⟩
/-- Device state (R326). -/
def DEV_STATE.STATE : Fld := ⟨669, .ldr, 0x0, 1, 0, 0, 3, .ro, .S, 2, 0⟩
/-! DEV_CTRL (spec/14_*.md) -/
/-- 0x9D62 with SYS_RST or TILE_RST. -/
def DEV_CTRL.KEY : Fld := ⟨670, .ldr, 0x4, 1, 0, 16, 16, .wo, .S, 0, 0⟩
/-- A command was refused. -/
def DEV_CTRL.CMD_REJ : Fld := ⟨671, .ldr, 0x4, 1, 0, 8, 1, .w1c, .S, 0, 0⟩
/-- Bit n: tile reset of TILE_n (R351). -/
def DEV_CTRL.TILE_RST : Fld := ⟨672, .ldr, 0x4, 1, 0, 4, 4, .w1s, .S, 0, 0⟩
/-- System reset (R349). -/
def DEV_CTRL.SYS_RST : Fld := ⟨673, .ldr, 0x4, 1, 0, 2, 1, .w1s, .S, 0, 0⟩
/-- Enter PARK (R353). -/
def DEV_CTRL.PARK : Fld := ⟨674, .ldr, 0x4, 1, 0, 1, 1, .w1s, .S, 0, 0⟩
/-- Enter RUN from ARM (R339). -/
def DEV_CTRL.RUN : Fld := ⟨675, .ldr, 0x4, 1, 0, 0, 1, .w1s, .S, 0, 0⟩
/-! RST_CAUSE (spec/14_*.md) -/
/-- Counter: system resets. -/
def RST_CAUSE.SYS_COUNT : Fld := ⟨676, .ldr, 0x8, 1, 0, 24, 8, .rw, .K, 0, 677⟩
/-- OVERLAP bit of SYS_COUNT. -/
def RST_CAUSE.SYS_OVERLAP : Fld := ⟨677, .ldr, 0x8, 1, 0, 23, 1, .w1c, .K, 0, 0⟩
/-- 1 POWER_ON; 2 PIN; 3 HOST; 4 WATCHDOG; 5 MEWS_RETURN; 6 WIPE; others reserved. -/
def RST_CAUSE.LAST : Fld := ⟨678, .ldr, 0x8, 1, 0, 0, 3, .ro, .K, 1, 0⟩
/-! LOAD_STATUS (spec/14_*.md) -/
/-- Slot B result (R336). -/
def LOAD_STATUS.FAIL_B : Fld := ⟨679, .ldr, 0xC, 1, 0, 28, 4, .ro, .S, 0, 0⟩
/-- Slot A result. -/
def LOAD_STATUS.FAIL_A : Fld := ⟨680, .ldr, 0xC, 1, 0, 24, 4, .ro, .S, 0, 0⟩
/-- A late manager's digest differed (R328). -/
def LOAD_STATUS.PEER_MISMATCH : Fld := ⟨681, .ldr, 0xC, 1, 0, 7, 1, .w1c, .S, 0, 0⟩
/-- A tile failed its own fuses after start (R333). -/
def LOAD_STATUS.TILE_FUSE_FAIL : Fld := ⟨682, .ldr, 0xC, 1, 0, 6, 1, .w1c, .S, 0, 0⟩
/-- 0b01 A; 0b10 B booted; 0b00 none. -/
def LOAD_STATUS.SLOT : Fld := ⟨683, .ldr, 0xC, 1, 0, 4, 2, .ro, .S, 0, 0⟩
/-- No slot loaded. -/
def LOAD_STATUS.LOAD_FAIL : Fld := ⟨684, .ldr, 0xC, 1, 0, 3, 1, .ro, .S, 0, 0⟩
/-- The slot not named by the selector was booted. -/
def LOAD_STATUS.FALLBACK : Fld := ⟨685, .ldr, 0xC, 1, 0, 2, 1, .w1c, .S, 0, 0⟩
/-- A K field had no stored copy (R338). -/
def LOAD_STATUS.KREST_NONE : Fld := ⟨686, .ldr, 0xC, 1, 0, 1, 1, .w1c, .S, 0, 0⟩
/-- Load in progress. -/
def LOAD_STATUS.LOADING : Fld := ⟨687, .ldr, 0xC, 1, 0, 0, 1, .ro, .S, 0, 0⟩
/-! LOAD_INFO (spec/14_*.md) -/
/-- Version of the booted image. -/
def LOAD_INFO.IMAGE_VER : Fld := ⟨688, .ldr, 0x10, 1, 0, 8, 24, .ro, .S, 0, 0⟩
/-- ROLLBACK of the booted image. -/
def LOAD_INFO.ROLLBACK : Fld := ⟨689, .ldr, 0x10, 1, 0, 0, 8, .ro, .S, 0, 0⟩
/-! LOAD_ERR (spec/14_*.md) -/
/-- Section of the entry that failed RULE. -/
def LOAD_ERR.SECTION : Fld := ⟨690, .ldr, 0x14, 1, 0, 24, 8, .ro, .S, 0, 0⟩
/-- Byte offset of that entry in its section. -/
def LOAD_ERR.OFFSET : Fld := ⟨691, .ldr, 0x14, 1, 0, 0, 24, .ro, .S, 0, 0⟩
/-! PARK_CFG (spec/14_*.md) -/
/-- Sources of the last wake, in the bit order of [4:0]. -/
def PARK_CFG.WAKE_SRC : Fld := ⟨692, .ldr, 0x18, 1, 0, 16, 5, .ro, .M, 0, 0⟩
/-- Wake on FLT_N. -/
def PARK_CFG.WK_FLT : Fld := ⟨693, .ldr, 0x18, 1, 0, 4, 1, .rw, .S, 0, 0⟩
/-- Wake on alarm or tamper. -/
def PARK_CFG.WK_RTC : Fld := ⟨694, .ldr, 0x18, 1, 0, 3, 1, .rw, .S, 1, 0⟩
/-- Wake on VAUX valid. -/
def PARK_CFG.WK_VAUX : Fld := ⟨695, .ldr, 0x18, 1, 0, 2, 1, .rw, .S, 1, 0⟩
/-- Wake on SVC_RX. -/
def PARK_CFG.WK_SVC : Fld := ⟨696, .ldr, 0x18, 1, 0, 1, 1, .rw, .S, 0, 0⟩
/-- Wake on host-bus address match. -/
def PARK_CFG.WK_BUS : Fld := ⟨697, .ldr, 0x18, 1, 0, 0, 1, .ro, .S, 1, 0⟩
/-! FUSE_STATUS (spec/14_*.md) -/
/-- Life-cycle stage (R346). -/
def FUSE_STATUS.STAGE : Fld := ⟨698, .fuse, 0x0, 1, 0, 29, 3, .fz, .P, 0, 0⟩
/-- WIPE_STARTED is blown. -/
def FUSE_STATUS.WIPE_PEND : Fld := ⟨699, .fuse, 0x0, 1, 0, 28, 1, .fz, .P, 0, 0⟩
/-- Weak step bits (R341). -/
def FUSE_STATUS.WEAK_COUNT : Fld := ⟨700, .fuse, 0x0, 1, 0, 16, 12, .fz, .P, 0, 0⟩
/-- Last refusal, encoded below. -/
def FUSE_STATUS.REFUSE : Fld := ⟨701, .fuse, 0x0, 1, 0, 12, 4, .ro, .S, 0, 0⟩
/-- A bit desired 0 read 1 (R342). -/
def FUSE_STATUS.ZERO_ATTEMPT : Fld := ⟨702, .fuse, 0x0, 1, 0, 7, 1, .w1c, .S, 0, 0⟩
/-- 0 none; 1 OK; 2 WEAK; 3 REFUSED. -/
def FUSE_STATUS.PROG_RESULT : Fld := ⟨703, .fuse, 0x0, 1, 0, 4, 2, .ro, .S, 0, 0⟩
/-- An operation runs. -/
def FUSE_STATUS.PROG_BUSY : Fld := ⟨704, .fuse, 0x0, 1, 0, 3, 1, .ro, .S, 0, 0⟩
/-- Programmed values not yet in force (R345). -/
def FUSE_STATUS.PENDING : Fld := ⟨705, .fuse, 0x0, 1, 0, 2, 1, .ro, .S, 0, 0⟩
/-- Started with one manager. -/
def FUSE_STATUS.SINGLE : Fld := ⟨706, .fuse, 0x0, 1, 0, 1, 1, .fz, .P, 0, 0⟩
/-- Every sealed field passed. -/
def FUSE_STATUS.CRC_OK : Fld := ⟨707, .fuse, 0x0, 1, 0, 0, 1, .fz, .P, 0, 0⟩
/-! FUSE_DIGEST (spec/14_*.md) -/
/-- CRC-32 of the decoded array (R341). -/
def FUSE_DIGEST.DIGEST : Fld := ⟨708, .fuse, 0x4, 1, 0, 0, 32, .fz, .P, 0, 0⟩
/-! FUSE_STAGE_L (spec/14_*.md) -/
/-- Desired value of logical word j of the operation, j = 0–15. -/
def FUSE_STAGE_L.STAGE_DATA : Fld := ⟨709, .fuse, 0x20, 8, 4, 0, 32, .rw, .S, 0, 0⟩
/-! FUSE_STAGE_H (spec/14_*.md) -/
/-- Desired value of logical word j of the operation, j = 0–15. -/
def FUSE_STAGE_H.STAGE_DATA : Fld := ⟨710, .fuse, 0x60, 8, 4, 0, 32, .rw, .S, 0, 0⟩
/-! FUSE_PROG (spec/14_*.md) -/
/-- 0x3E71 with GO. -/
def FUSE_PROG.KEY : Fld := ⟨711, .fuse, 0x40, 1, 0, 16, 16, .wo, .S, 0, 0⟩
/-- Field ID (R340). -/
def FUSE_PROG.FIELD : Fld := ⟨712, .fuse, 0x40, 1, 0, 11, 5, .rw, .S, 0, 0⟩
/-- First logical word. -/
def FUSE_PROG.WORD : Fld := ⟨713, .fuse, 0x40, 1, 0, 6, 5, .rw, .S, 0, 0⟩
/-- Words − 1, 0–15. -/
def FUSE_PROG.LEN : Fld := ⟨714, .fuse, 0x40, 1, 0, 2, 4, .rw, .S, 0, 0⟩
/-- Start the operation (R342 to R344). -/
def FUSE_PROG.GO : Fld := ⟨715, .fuse, 0x40, 1, 0, 0, 1, .w1s, .S, 0, 0⟩
/-! LC_CTRL (spec/14_*.md) -/
/-- 0x7C19 with ADVANCE or WIPE. -/
def LC_CTRL.KEY : Fld := ⟨716, .fuse, 0x50, 1, 0, 16, 16, .wo, .S, 0, 0⟩
/-- A request was refused; reason in REFUSE. -/
def LC_CTRL.LC_REJ : Fld := ⟨717, .fuse, 0x50, 1, 0, 3, 1, .w1c, .S, 0, 0⟩
/-- Start a secure wipe (R347). -/
def LC_CTRL.WIPE : Fld := ⟨718, .fuse, 0x50, 1, 0, 2, 1, .w1s, .S, 0, 0⟩
/-- Advance one stage (R346). -/
def LC_CTRL.ADVANCE : Fld := ⟨719, .fuse, 0x50, 1, 0, 1, 1, .w1s, .S, 0, 0⟩
/-! WDT_CFG (spec/15_*.md) -/
/-- Period, ms, 10–10 000 (R371). -/
def WDT_CFG.PERIOD : Fld := ⟨720, .wdt, 0x0, 1, 0, 16, 16, .rwl, .S, 1000, 0⟩
/-- WDT_OUT_N pulse, ms, 1–100. -/
def WDT_CFG.PULSE : Fld := ⟨721, .wdt, 0x0, 1, 0, 8, 8, .rwl, .S, 10, 0⟩
/-- System reset at the end of the pulse (R374). -/
def WDT_CFG.RST_EN : Fld := ⟨722, .wdt, 0x0, 1, 0, 2, 1, .rwl, .S, 0, 0⟩
/-- Locks this register. -/
def WDT_CFG.LOCK : Fld := ⟨723, .wdt, 0x0, 1, 0, 1, 1, .rwl, .S, 0, 0⟩
/-- WDT_HW is blown (R370). -/
def WDT_CFG.HW_START : Fld := ⟨724, .wdt, 0x0, 1, 0, 0, 1, .fz, .P, 0, 0⟩
/-! WDT_SERVICE (spec/15_*.md) -/
/-- KEY_A or KEY_B (R371). -/
def WDT_SERVICE.KEY : Fld := ⟨725, .wdt, 0x4, 1, 0, 0, 16, .wo, .S, 0, 0⟩
/-! WDT_STATUS (spec/15_*.md) -/
/-- Counter: expiries. -/
def WDT_STATUS.EXPIRE_COUNT : Fld := ⟨726, .wdt, 0x8, 1, 0, 24, 8, .rw, .P, 0, 727⟩
/-- OVERLAP bit of EXPIRE_COUNT. -/
def WDT_STATUS.EXP_OVERLAP : Fld := ⟨727, .wdt, 0x8, 1, 0, 23, 1, .w1c, .P, 0, 0⟩
/-- 0 none; 1 TIMEOUT; 2 EARLY; 3 WRONG_KEY; 4 ORDER; others reserved. -/
def WDT_STATUS.CAUSE : Fld := ⟨728, .wdt, 0x8, 1, 0, 8, 3, .ro, .S, 0, 0⟩
/-- The watchdog is armed. -/
def WDT_STATUS.ARMED : Fld := ⟨729, .wdt, 0x8, 1, 0, 7, 1, .ro, .S, 0, 0⟩
/-- The open window is running. -/
def WDT_STATUS.OPEN : Fld := ⟨730, .wdt, 0x8, 1, 0, 6, 1, .ro, .S, 0, 0⟩
/-- KEY_A taken; KEY_B awaited. -/
def WDT_STATUS.HALF : Fld := ⟨731, .wdt, 0x8, 1, 0, 5, 1, .ro, .S, 0, 0⟩
/-- 75 % passed without service. -/
def WDT_STATUS.EWARN : Fld := ⟨732, .wdt, 0x8, 1, 0, 4, 1, .w1c, .S, 0, 0⟩
/-- The watchdog expired. -/
def WDT_STATUS.EXPIRED : Fld := ⟨733, .wdt, 0x8, 1, 0, 3, 1, .w1c, .S, 0, 0⟩
/-- WDT_OUT_N is driven low. -/
def WDT_STATUS.PULSING : Fld := ⟨734, .wdt, 0x8, 1, 0, 2, 1, .ro, .S, 0, 0⟩
/-- A key came from a refused initiator (R373). -/
def WDT_STATUS.SRC_REJ : Fld := ⟨735, .wdt, 0x8, 1, 0, 1, 1, .w1c, .S, 0, 0⟩
/-- A write was refused (R385). -/
def WDT_STATUS.CFG_REJ : Fld := ⟨736, .wdt, 0x8, 1, 0, 0, 1, .w1c, .S, 0, 0⟩
/-! RTC_CTRL (spec/15_*.md) -/
/-- Local offset, signed, 15 min units, −56 to +56. -/
def RTC_CTRL.LOC_OFS : Fld := ⟨737, .rtc, 0x0, 1, 0, 16, 8, .rw, .B, 0, 0⟩
/-- Stop counting (R378). -/
def RTC_CTRL.HALT : Fld := ⟨738, .rtc, 0x0, 1, 0, 8, 1, .rw, .B, 0, 0⟩
/-- End summer time at the next second (R379). -/
def RTC_CTRL.DST_SUB : Fld := ⟨739, .rtc, 0x0, 1, 0, 5, 1, .w1s, .B, 0, 0⟩
/-- Begin summer time at the next second. -/
def RTC_CTRL.DST_ADD : Fld := ⟨740, .rtc, 0x0, 1, 0, 4, 1, .w1s, .B, 0, 0⟩
/-- A summer-time command was refused. -/
def RTC_CTRL.CMD_REJ : Fld := ⟨741, .rtc, 0x0, 1, 0, 0, 1, .w1c, .B, 0, 0⟩
/-! RTC_SEC (spec/15_*.md) -/
/-- Calendar seconds; writable while HALTED (R376, R378). -/
def RTC_SEC.CAL_SEC : Fld := ⟨742, .rtc, 0x4, 1, 0, 0, 32, .rw, .B, 0, 0⟩
/-! RTC_ALARM (spec/15_*.md) -/
/-- Alarm second (R381). -/
def RTC_ALARM.ALARM_SEC : Fld := ⟨743, .rtc, 0x8, 1, 0, 0, 32, .rw, .B, 4294967295, 0⟩
/-! RTC_STATUS (spec/15_*.md) -/
/-- Counter: backward steps. -/
def RTC_STATUS.BACK_COUNT : Fld := ⟨744, .rtc, 0xC, 1, 0, 24, 8, .rw, .B, 0, 745⟩
/-- OVERLAP bit of BACK_COUNT. -/
def RTC_STATUS.BACK_OVERLAP : Fld := ⟨745, .rtc, 0xC, 1, 0, 23, 1, .w1c, .B, 0, 0⟩
/-- Backward step since the last gauge store. -/
def RTC_STATUS.GAUGE_BSTEP : Fld := ⟨746, .rtc, 0xC, 1, 0, 10, 1, .ro, .B, 0, 0⟩
/-- Summer time in force. -/
def RTC_STATUS.DST : Fld := ⟨747, .rtc, 0xC, 1, 0, 9, 1, .ro, .B, 0, 0⟩
/-- CAL_SEC was set since the domain powered up (R380). -/
def RTC_STATUS.CAL_VALID : Fld := ⟨748, .rtc, 0xC, 1, 0, 8, 1, .ro, .B, 0, 0⟩
/-- A write was refused (R385). -/
def RTC_STATUS.CFG_REJ : Fld := ⟨749, .rtc, 0xC, 1, 0, 7, 1, .w1c, .B, 0, 0⟩
/-- The alarm fired. -/
def RTC_STATUS.ALM_EVT : Fld := ⟨750, .rtc, 0xC, 1, 0, 4, 1, .w1c, .B, 0, 0⟩
/-- A tamper occurred (R382). -/
def RTC_STATUS.TAMP_EVT : Fld := ⟨751, .rtc, 0xC, 1, 0, 3, 1, .w1c, .B, 0, 0⟩
/-- VBACKUP fell below 2.0 V, or the domain lost power. -/
def RTC_STATUS.BKUP_LOW : Fld := ⟨752, .rtc, 0xC, 1, 0, 2, 1, .w1c, .B, 1, 0⟩
/-- A summer-time change awaits its second. -/
def RTC_STATUS.DST_PEND : Fld := ⟨753, .rtc, 0xC, 1, 0, 1, 1, .ro, .B, 0, 0⟩
/-- Counting is stopped. -/
def RTC_STATUS.HALTED : Fld := ⟨754, .rtc, 0xC, 1, 0, 0, 1, .ro, .B, 0, 0⟩
/-! TAMP_CFG (spec/15_*.md) -/
/-- Zero the secure part on tamper. -/
def TAMP_CFG.TACT : Fld := ⟨755, .rtc, 0x10, 1, 0, 4, 1, .rw, .B, 0, 0⟩
/-- TAMP_1 active level. -/
def TAMP_CFG.TPOL1 : Fld := ⟨756, .rtc, 0x10, 1, 0, 3, 1, .rw, .B, 0, 0⟩
/-- TAMP_1 enabled. -/
def TAMP_CFG.TEN1 : Fld := ⟨757, .rtc, 0x10, 1, 0, 2, 1, .rw, .B, 0, 0⟩
/-- TAMP_0 active level. -/
def TAMP_CFG.TPOL0 : Fld := ⟨758, .rtc, 0x10, 1, 0, 1, 1, .rw, .B, 0, 0⟩
/-- TAMP_0 enabled. -/
def TAMP_CFG.TEN0 : Fld := ⟨759, .rtc, 0x10, 1, 0, 0, 1, .rw, .B, 0, 0⟩
/-! TAMP_TIME (spec/15_*.md) -/
/-- CAL_SEC of the first tamper since TAMP_EVT cleared. -/
def TAMP_TIME.TAMP_TIME : Fld := ⟨760, .rtc, 0x14, 1, 0, 0, 32, .ro, .B, 0, 0⟩
/-! BKUP (spec/15_*.md) -/
/-- Backup word j. -/
def BKUP.BKUP : Fld := ⟨761, .rtc, 0x40, 16, 4, 0, 32, .rw, .B, 0, 0⟩
/-! MEM_STATUS (spec/15_*.md) -/
/-- Counter: corrected words, all memories (R366). -/
def MEM_STATUS.CORR_COUNT : Fld := ⟨762, .rein, 0x300, 1, 0, 16, 16, .rw, .M, 0, 763⟩
/-- OVERLAP bit of CORR_COUNT. -/
def MEM_STATUS.CORR_OVERLAP : Fld := ⟨763, .rein, 0x300, 1, 0, 15, 1, .w1c, .M, 0, 0⟩
/-- A write to MEM_STATUS or a trace register was refused (R385). -/
def MEM_STATUS.CFG_REJ : Fld := ⟨764, .rein, 0x300, 1, 0, 13, 1, .w1c, .M, 0, 0⟩
/-- Spare scratchpad rows left. -/
def MEM_STATUS.SP_SPARES : Fld := ⟨765, .rein, 0x300, 1, 0, 8, 5, .ro, .P, 16, 0⟩
/-- Spare ferroelectric rows left. -/
def MEM_STATUS.FE_SPARES : Fld := ⟨766, .rein, 0x300, 1, 0, 4, 4, .ro, .P, 8, 0⟩
/-- A refused access to the secure part (R364). -/
def MEM_STATUS.SEC_VIOL : Fld := ⟨767, .rein, 0x300, 1, 0, 3, 1, .w1c, .M, 0, 0⟩
/-- An uncorrectable error (R367). -/
def MEM_STATUS.UNCORR : Fld := ⟨768, .rein, 0x300, 1, 0, 2, 1, .w1c, .M, 0, 0⟩
/-- A ferroelectric word was corrected. -/
def MEM_STATUS.FE_CORR : Fld := ⟨769, .rein, 0x300, 1, 0, 1, 1, .w1c, .M, 0, 0⟩
/-- A scratchpad, core-local or mirror-window row was corrected. -/
def MEM_STATUS.SP_CORR : Fld := ⟨770, .rein, 0x300, 1, 0, 0, 1, .w1c, .M, 0, 0⟩
/-! TRACE_CTRL (spec/15_*.md) -/
/-- Stop when the ring is full. -/
def TRACE_CTRL.STOP_FULL : Fld := ⟨771, .trc, 0x0, 1, 0, 8, 1, .rw, .M, 0, 0⟩
/-- Bits 0–2: MC_0–MC_2; bit 3: SC. -/
def TRACE_CTRL.CORE_EN : Fld := ⟨772, .trc, 0x0, 1, 0, 0, 4, .rw, .M, 0, 0⟩
/-! TRACE_STATUS (spec/15_*.md) -/
/-- Counter: records not written while stopped. -/
def TRACE_STATUS.LOST : Fld := ⟨773, .trc, 0x4, 1, 0, 16, 16, .rw, .M, 0, 774⟩
/-- OVERLAP bit of LOST. -/
def TRACE_STATUS.LOST_OVERLAP : Fld := ⟨774, .trc, 0x4, 1, 0, 15, 1, .w1c, .M, 0, 0⟩
/-- The ring has filled since the last enable. -/
def TRACE_STATUS.FULL : Fld := ⟨775, .trc, 0x4, 1, 0, 11, 1, .ro, .M, 0, 0⟩
/-- Next record slot, 0–2 047. -/
def TRACE_STATUS.WPTR : Fld := ⟨776, .trc, 0x4, 1, 0, 0, 11, .ro, .M, 0, 0⟩
/-! TRACE_MARK (spec/15_*.md) -/
/-- Writes a MARK record (R383). -/
def TRACE_MARK.MARK : Fld := ⟨777, .trc, 0x8, 1, 0, 0, 32, .wo, .S, 0, 0⟩
/-! HB_CFG (spec/16_*.md) -/
/-- Longest single stretch, 50 µs units, 1–200 (R389). -/
def HB_CFG.STRETCH_MAX : Fld := ⟨778, .hb, 0x0, 1, 0, 24, 8, .rw, .S, 20, 0⟩
/-- WRITE_PROTECT: 0x00, 0x20, 0x40 or 0x80 (R396). -/
def HB_CFG.WP : Fld := ⟨779, .hb, 0x0, 1, 0, 16, 8, .rwl, .S, 0, 0⟩
/-- Locks this register. -/
def HB_CFG.LOCK : Fld := ⟨780, .hb, 0x0, 1, 0, 15, 1, .rwl, .S, 0, 0⟩
/-- Staging buffer: 0 128 bytes; 1 256 bytes (R402). -/
def HB_CFG.STG_SIZE : Fld := ⟨781, .hb, 0x0, 1, 0, 8, 1, .rwl, .S, 1, 0⟩
/-- Writes must carry a PEC (R392). -/
def HB_CFG.PEC_REQ : Fld := ⟨782, .hb, 0x0, 1, 0, 2, 1, .rwl, .S, 0, 0⟩
/-- SMBus timeouts (R391). -/
def HB_CFG.TOUT_EN : Fld := ⟨783, .hb, 0x0, 1, 0, 1, 1, .rwl, .S, 1, 0⟩
/-! HB_STATUS (spec/16_*.md) -/
/-- Target address; 0x00 until the pins are sampled (R386, R440). -/
def HB_STATUS.ADDR : Fld := ⟨784, .hb, 0x4, 1, 0, 24, 7, .ro, .S, 0, 0⟩
/-- STATUS_CML (R398). -/
def HB_STATUS.CML : Fld := ⟨785, .hb, 0x4, 1, 0, 16, 8, .ro, .S, 0, 0⟩
/-- A write was refused (R412). -/
def HB_STATUS.CFG_REJ : Fld := ⟨786, .hb, 0x4, 1, 0, 9, 1, .w1c, .S, 0, 0⟩
/-- A window or protected access was refused. -/
def HB_STATUS.DENIED : Fld := ⟨787, .hb, 0x4, 1, 0, 8, 1, .w1c, .S, 0, 0⟩
/-- A malformed write was refused. -/
def HB_STATUS.MALFORMED : Fld := ⟨788, .hb, 0x4, 1, 0, 7, 1, .w1c, .S, 0, 0⟩
/-- A stretch limit was reached (R389). -/
def HB_STATUS.STRETCH_TMO : Fld := ⟨789, .hb, 0x4, 1, 0, 6, 1, .w1c, .S, 0, 0⟩
/-- SDA low-time timeout (R391). -/
def HB_STATUS.SDA_TMO : Fld := ⟨790, .hb, 0x4, 1, 0, 5, 1, .w1c, .S, 0, 0⟩
/-- SCL low-time timeout. -/
def HB_STATUS.SCL_TMO : Fld := ⟨791, .hb, 0x4, 1, 0, 4, 1, .w1c, .S, 0, 0⟩
/-- A PEC failed. -/
def HB_STATUS.PEC_ERR : Fld := ⟨792, .hb, 0x4, 1, 0, 3, 1, .w1c, .S, 0, 0⟩
/-- A block exceeded staging (R402). -/
def HB_STATUS.OVERSIZE : Fld := ⟨793, .hb, 0x4, 1, 0, 2, 1, .w1c, .S, 0, 0⟩
/-- An unsupported command was not acknowledged. -/
def HB_STATUS.BAD_CMD : Fld := ⟨794, .hb, 0x4, 1, 0, 1, 1, .w1c, .S, 0, 0⟩
/-- A message is in progress. -/
def HB_STATUS.BUSY : Fld := ⟨795, .hb, 0x4, 1, 0, 0, 1, .ro, .S, 0, 0⟩
/-! HB_COUNTS (spec/16_*.md) -/
/-- Counter: write-type commands accepted. -/
def HB_COUNTS.CMD_COUNT : Fld := ⟨796, .hb, 0x8, 1, 0, 16, 16, .rw, .S, 0, 797⟩
/-- OVERLAP bit of CMD_COUNT. -/
def HB_COUNTS.CMD_OVERLAP : Fld := ⟨797, .hb, 0x8, 1, 0, 15, 1, .w1c, .S, 0, 0⟩
/-- Counter: messages refused or discarded. -/
def HB_COUNTS.ERR_COUNT : Fld := ⟨798, .hb, 0x8, 1, 0, 1, 14, .rw, .S, 0, 799⟩
/-- OVERLAP bit of ERR_COUNT. -/
def HB_COUNTS.ERR_OVERLAP : Fld := ⟨799, .hb, 0x8, 1, 0, 0, 1, .w1c, .S, 0, 0⟩
/-! HB_WIN (spec/16_*.md) -/
/-- Present window address. -/
def HB_WIN.WIN_ADDR : Fld := ⟨800, .hb, 0xC, 1, 0, 0, 32, .ro, .S, 0, 0⟩
/-! HB_WIN_FAIL (spec/16_*.md) -/
/-- Address of the last window bus error (R400). -/
def HB_WIN_FAIL.FAIL_ADDR : Fld := ⟨801, .hb, 0x10, 1, 0, 0, 32, .ro, .S, 0, 0⟩
/-! HB_PORT (spec/16_*.md) -/
/-- MFR_TAG. -/
def HB_PORT.TAG : Fld := ⟨802, .hb, 0x14, 1, 0, 16, 16, .ro, .S, 0, 0⟩
/-- MFR_WIN_RLEN. -/
def HB_PORT.RLEN : Fld := ⟨803, .hb, 0x14, 1, 0, 8, 8, .ro, .S, 128, 0⟩
/-- PAGE. -/
def HB_PORT.PAGE : Fld := ⟨804, .hb, 0x14, 1, 0, 0, 8, .ro, .S, 0, 0⟩
/-! SP_CFG (spec/16_*.md) -/
/-- 115 200, 230 400, 460 800, 921 600, 1 500 000, 2 000 000, 3 000 000 bit/s for 0–6; 0b111 refused. -/
def SP_CFG.BAUD : Fld := ⟨805, .svc, 0x0, 1, 0, 8, 3, .rw, .S, 0, 0⟩
/-- Staging: 0b00 256; 0b01 1 024; 0b10 4 160 bytes; 0b11 refused. -/
def SP_CFG.STG_SIZE : Fld := ⟨806, .svc, 0x0, 1, 0, 4, 2, .rw, .S, 1, 0⟩
/-- RTS_N/CTS_N flow control (R404). -/
def SP_CFG.FLOW_EN : Fld := ⟨807, .svc, 0x0, 1, 0, 1, 1, .rw, .S, 1, 0⟩
/-! SP_STATUS (spec/16_*.md) -/
/-- A write was refused (R412). -/
def SP_STATUS.CFG_REJ : Fld := ⟨808, .svc, 0x4, 1, 0, 8, 1, .w1c, .S, 0, 0⟩
/-- A command was refused for state or stage (R394, R405). -/
def SP_STATUS.BAD_STAGE : Fld := ⟨809, .svc, 0x4, 1, 0, 7, 1, .w1c, .S, 0, 0⟩
/-- A window access was refused. -/
def SP_STATUS.DENIED : Fld := ⟨810, .svc, 0x4, 1, 0, 6, 1, .w1c, .S, 0, 0⟩
/-- Bytes arrived while RTS_N was high. -/
def SP_STATUS.OVERRUN : Fld := ⟨811, .svc, 0x4, 1, 0, 5, 1, .w1c, .S, 0, 0⟩
/-- A frame broke off for 1 ms. -/
def SP_STATUS.GAP_TMO : Fld := ⟨812, .svc, 0x4, 1, 0, 4, 1, .w1c, .S, 0, 0⟩
/-- LEN exceeded staging. -/
def SP_STATUS.OVERSIZE : Fld := ⟨813, .svc, 0x4, 1, 0, 3, 1, .w1c, .S, 0, 0⟩
/-- A frame failed its CRC. -/
def SP_STATUS.CRC_ERR : Fld := ⟨814, .svc, 0x4, 1, 0, 2, 1, .w1c, .S, 0, 0⟩
/-- A stop bit read 0. -/
def SP_STATUS.FRAMING : Fld := ⟨815, .svc, 0x4, 1, 0, 1, 1, .w1c, .S, 0, 0⟩
/-- A request is being served. -/
def SP_STATUS.BUSY : Fld := ⟨816, .svc, 0x4, 1, 0, 0, 1, .ro, .S, 0, 0⟩
/-! SP_COUNTS (spec/16_*.md) -/
/-- Counter: requests answered. -/
def SP_COUNTS.FRAMES : Fld := ⟨817, .svc, 0x8, 1, 0, 16, 16, .rw, .S, 0, 818⟩
/-- OVERLAP bit of FRAMES. -/
def SP_COUNTS.FRAMES_OVERLAP : Fld := ⟨818, .svc, 0x8, 1, 0, 15, 1, .w1c, .S, 0, 0⟩
/-- Counter: frames discarded or refused. -/
def SP_COUNTS.ERR_COUNT : Fld := ⟨819, .svc, 0x8, 1, 0, 1, 14, .rw, .S, 0, 820⟩
/-- OVERLAP bit of ERR_COUNT. -/
def SP_COUNTS.ERR_OVERLAP : Fld := ⟨820, .svc, 0x8, 1, 0, 0, 1, .w1c, .S, 0, 0⟩
/-! JRNL_NEXT (spec/16_*.md) -/
/-- SEQ of the next entry. -/
def JRNL_NEXT.NEXT_SEQ : Fld := ⟨821, .jrn, 0x0, 1, 0, 0, 32, .ro, .K, 0, 0⟩
/-! JRNL_OLDEST (spec/16_*.md) -/
/-- Oldest retained SEQ. -/
def JRNL_OLDEST.OLDEST_SEQ : Fld := ⟨822, .jrn, 0x4, 1, 0, 0, 32, .ro, .K, 0, 0⟩
/-! JRNL_ACK (spec/16_*.md) -/
/-- Entries read by host firmware (R411). -/
def JRNL_ACK.ACK_SEQ : Fld := ⟨823, .jrn, 0x8, 1, 0, 0, 32, .rw, .K, 0, 0⟩
/-! JRNL_STATUS (spec/16_*.md) -/
/-- A write was refused. -/
def JRNL_STATUS.CFG_REJ : Fld := ⟨824, .jrn, 0xC, 1, 0, 3, 1, .w1c, .S, 0, 0⟩
/-- Intact copies differed (R410). -/
def JRNL_STATUS.DISAGREE : Fld := ⟨825, .jrn, 0xC, 1, 0, 2, 1, .w1c, .S, 0, 0⟩
/-- A torn entry was discarded. -/
def JRNL_STATUS.TORN : Fld := ⟨826, .jrn, 0xC, 1, 0, 1, 1, .w1c, .S, 0, 0⟩
/-- A failure entry lies beyond ACK_SEQ. -/
def JRNL_STATUS.UNREAD_FAIL : Fld := ⟨827, .jrn, 0xC, 1, 0, 0, 1, .ro, .K, 0, 0⟩
/-! JRNL_NOTE (spec/16_*.md) -/
/-- A write appends a NOTE entry with this CODE and ARG = NOTE_ARG. -/
def JRNL_NOTE.NOTE_CODE : Fld := ⟨828, .jrn, 0x10, 1, 0, 0, 16, .wo, .S, 0, 0⟩
/-! JRNL_NOTE_ARG (spec/16_*.md) -/
/-- ARG of the next NOTE. -/
def JRNL_NOTE_ARG.NOTE_ARG : Fld := ⟨829, .jrn, 0x14, 1, 0, 0, 32, .rw, .S, 0, 0⟩
/-! UPD_CFG (spec/17_*.md) -/
/-- Trial deadline, minutes, 1–60 (R426, R429). -/
def UPD_CFG.HC_DEADLINE : Fld := ⟨830, .upd, 0x0, 1, 0, 16, 6, .rw, .S, 10, 0⟩
/-- Target slot B when no slot is booted (R413). -/
def UPD_CFG.TGT_B : Fld := ⟨831, .upd, 0x0, 1, 0, 0, 1, .rw, .S, 0, 0⟩
/-! UPD_STATUS (spec/17_*.md) -/
/-- Journal STATUS of the last update command. -/
def UPD_STATUS.LAST_STATUS : Fld := ⟨832, .upd, 0x4, 1, 0, 16, 8, .ro, .S, 0, 0⟩
/-- STATE changed (R434). -/
def UPD_STATUS.EVT : Fld := ⟨833, .upd, 0x4, 1, 0, 15, 1, .w1c, .S, 0, 0⟩
/-- The device returned to the prior image (R428, R430). -/
def UPD_STATUS.REVERTED : Fld := ⟨834, .upd, 0x4, 1, 0, 14, 1, .w1c, .K, 0, 0⟩
/-- A revert found the prior slot unusable. -/
def UPD_STATUS.REVERT_FAIL : Fld := ⟨835, .upd, 0x4, 1, 0, 13, 1, .w1c, .K, 0, 0⟩
/-- The prior image waits for the next reset. -/
def UPD_STATUS.REVERT_PEND : Fld := ⟨836, .upd, 0x4, 1, 0, 12, 1, .ro, .K, 0, 0⟩
/-- The fuse advance of R431 waits. -/
def UPD_STATUS.ROLLBACK_PEND : Fld := ⟨837, .upd, 0x4, 1, 0, 11, 1, .ro, .K, 0, 0⟩
/-- An erase or program runs (R420). -/
def UPD_STATUS.FLASH_BUSY : Fld := ⟨838, .upd, 0x4, 1, 0, 10, 1, .ro, .S, 0, 0⟩
/-- Map copies differed (R416). -/
def UPD_STATUS.MAP_DISAGREE : Fld := ⟨839, .upd, 0x4, 1, 0, 9, 1, .w1c, .S, 0, 0⟩
/-- A write was refused (R434). -/
def UPD_STATUS.CFG_REJ : Fld := ⟨840, .upd, 0x4, 1, 0, 8, 1, .w1c, .S, 0, 0⟩
/-- Target slot: 0b01 A; 0b10 B; 0b00 none. -/
def UPD_STATUS.TARGET : Fld := ⟨841, .upd, 0x4, 1, 0, 6, 2, .ro, .K, 0, 0⟩
/-- Update state, encoded below. -/
def UPD_STATUS.STATE : Fld := ⟨842, .upd, 0x4, 1, 0, 0, 3, .ro, .K, 0, 0⟩
/-! UPD_PROGRESS (spec/17_*.md) -/
/-- N of the session. -/
def UPD_PROGRESS.TOTAL : Fld := ⟨843, .upd, 0x8, 1, 0, 16, 16, .ro, .K, 0, 0⟩
/-- Chunks in state WRITTEN. -/
def UPD_PROGRESS.WRITTEN : Fld := ⟨844, .upd, 0x8, 1, 0, 0, 16, .ro, .K, 0, 0⟩
/-! UPD_TRIAL (spec/17_*.md) -/
/-- Seconds to the deadline; 0 outside TRIAL. -/
def UPD_TRIAL.TRIAL_LEFT : Fld := ⟨845, .upd, 0xC, 1, 0, 0, 16, .ro, .S, 0, 0⟩
/-! UPD_ROLLBACK (spec/17_*.md) -/
/-- ROLLBACK of the session's image. -/
def UPD_ROLLBACK.IMAGE_RB : Fld := ⟨846, .upd, 0x10, 1, 0, 8, 8, .ro, .K, 0, 0⟩
/-- Blown steps of the ROLLBACK field, 0–128. -/
def UPD_ROLLBACK.BLOWN : Fld := ⟨847, .upd, 0x10, 1, 0, 0, 8, .fz, .P, 0, 0⟩

/-- Every field of this file. -/
def allD : List Fld :=
  [EVC_CTRL.LOCK, EVC_CTRL.FOLD_WIN, EVC_CTRL.HQ_ALERT_EN, EVC_CTRL.QEN, EVC_QCFG.Q_BASE, EVC_QCFG.Q_SIZE, EVC_STATUS.USED, EVC_STATUS.CFG_REJ, EVC_STATUS.OVF_EVT, EVC_STATUS.FOLD_OPEN, EVC_STATUS.NO_CORE, EVC_STATUS.SQ_NONEMPTY]
  ++ [EVC_STATUS.NONEMPTY, EVC_QPTR.TAIL, EVC_QPTR.HEAD, EVC_TAKE.TAKE, EVC_SC_TAKE.SC_TAKE, EVC_TREC.TREC, EVC_COMPLETE.FOLD, EVC_COMPLETE.TARGET, EVC_STRAY.FOLD_STRAY, EVC_STRAY.FOLD_OVERLAP, EVC_STRAY.BAD_COUNT, EVC_STRAY.BAD_OVERLAP]
  ++ [EVC_CORE.TAKES, EVC_CORE.TAKES_OVERLAP, EVC_CORE.WAKE_EVT, EVC_CORE.IRQ, EVC_CORE.HALTED, EVC_CORE.SLEEPING, EVC_CORE.MASK, EVC_CORE.CP_WR_LOST, EVC_CORE.CUR_PRIO, EVC_HQ_STATUS.HQ_USED, EVC_HQ_STATUS.HQ_OVF, EVC_HQ_STATUS.ALERT]
  ++ [EVC_HQ_REC.HQ_REC, SW_LINE.SW_LINE, SRC_LINE.LINE, SRC_ACTIVE.ACTIVE, SRC_CFG.STRAY_COUNT, SRC_CFG.STRAY_OVERLAP, SRC_CFG.FOLD_CLS, SRC_CFG.PRIO, SRC_CFG.CLASS, SRC_CFG.HOST, SRC_CFG.ENABLE, SRC_CFG.SENSE]
  ++ [DEV_STATE.SINGLE_MGR, DEV_STATE.ARM_LATE, DEV_STATE.ARM_OK, DEV_STATE.STATE, DEV_CTRL.KEY, DEV_CTRL.CMD_REJ, DEV_CTRL.TILE_RST, DEV_CTRL.SYS_RST, DEV_CTRL.PARK, DEV_CTRL.RUN, RST_CAUSE.SYS_COUNT, RST_CAUSE.SYS_OVERLAP]
  ++ [RST_CAUSE.LAST, LOAD_STATUS.FAIL_B, LOAD_STATUS.FAIL_A, LOAD_STATUS.PEER_MISMATCH, LOAD_STATUS.TILE_FUSE_FAIL, LOAD_STATUS.SLOT, LOAD_STATUS.LOAD_FAIL, LOAD_STATUS.FALLBACK, LOAD_STATUS.KREST_NONE, LOAD_STATUS.LOADING, LOAD_INFO.IMAGE_VER, LOAD_INFO.ROLLBACK]
  ++ [LOAD_ERR.SECTION, LOAD_ERR.OFFSET, PARK_CFG.WAKE_SRC, PARK_CFG.WK_FLT, PARK_CFG.WK_RTC, PARK_CFG.WK_VAUX, PARK_CFG.WK_SVC, PARK_CFG.WK_BUS, FUSE_STATUS.STAGE, FUSE_STATUS.WIPE_PEND, FUSE_STATUS.WEAK_COUNT, FUSE_STATUS.REFUSE]
  ++ [FUSE_STATUS.ZERO_ATTEMPT, FUSE_STATUS.PROG_RESULT, FUSE_STATUS.PROG_BUSY, FUSE_STATUS.PENDING, FUSE_STATUS.SINGLE, FUSE_STATUS.CRC_OK, FUSE_DIGEST.DIGEST, FUSE_STAGE_L.STAGE_DATA, FUSE_STAGE_H.STAGE_DATA, FUSE_PROG.KEY, FUSE_PROG.FIELD, FUSE_PROG.WORD]
  ++ [FUSE_PROG.LEN, FUSE_PROG.GO, LC_CTRL.KEY, LC_CTRL.LC_REJ, LC_CTRL.WIPE, LC_CTRL.ADVANCE, WDT_CFG.PERIOD, WDT_CFG.PULSE, WDT_CFG.RST_EN, WDT_CFG.LOCK, WDT_CFG.HW_START, WDT_SERVICE.KEY]
  ++ [WDT_STATUS.EXPIRE_COUNT, WDT_STATUS.EXP_OVERLAP, WDT_STATUS.CAUSE, WDT_STATUS.ARMED, WDT_STATUS.OPEN, WDT_STATUS.HALF, WDT_STATUS.EWARN, WDT_STATUS.EXPIRED, WDT_STATUS.PULSING, WDT_STATUS.SRC_REJ, WDT_STATUS.CFG_REJ, RTC_CTRL.LOC_OFS]
  ++ [RTC_CTRL.HALT, RTC_CTRL.DST_SUB, RTC_CTRL.DST_ADD, RTC_CTRL.CMD_REJ, RTC_SEC.CAL_SEC, RTC_ALARM.ALARM_SEC, RTC_STATUS.BACK_COUNT, RTC_STATUS.BACK_OVERLAP, RTC_STATUS.GAUGE_BSTEP, RTC_STATUS.DST, RTC_STATUS.CAL_VALID, RTC_STATUS.CFG_REJ]
  ++ [RTC_STATUS.ALM_EVT, RTC_STATUS.TAMP_EVT, RTC_STATUS.BKUP_LOW, RTC_STATUS.DST_PEND, RTC_STATUS.HALTED, TAMP_CFG.TACT, TAMP_CFG.TPOL1, TAMP_CFG.TEN1, TAMP_CFG.TPOL0, TAMP_CFG.TEN0, TAMP_TIME.TAMP_TIME, BKUP.BKUP]
  ++ [MEM_STATUS.CORR_COUNT, MEM_STATUS.CORR_OVERLAP, MEM_STATUS.CFG_REJ, MEM_STATUS.SP_SPARES, MEM_STATUS.FE_SPARES, MEM_STATUS.SEC_VIOL, MEM_STATUS.UNCORR, MEM_STATUS.FE_CORR, MEM_STATUS.SP_CORR, TRACE_CTRL.STOP_FULL, TRACE_CTRL.CORE_EN, TRACE_STATUS.LOST]
  ++ [TRACE_STATUS.LOST_OVERLAP, TRACE_STATUS.FULL, TRACE_STATUS.WPTR, TRACE_MARK.MARK, HB_CFG.STRETCH_MAX, HB_CFG.WP, HB_CFG.LOCK, HB_CFG.STG_SIZE, HB_CFG.PEC_REQ, HB_CFG.TOUT_EN, HB_STATUS.ADDR, HB_STATUS.CML]
  ++ [HB_STATUS.CFG_REJ, HB_STATUS.DENIED, HB_STATUS.MALFORMED, HB_STATUS.STRETCH_TMO, HB_STATUS.SDA_TMO, HB_STATUS.SCL_TMO, HB_STATUS.PEC_ERR, HB_STATUS.OVERSIZE, HB_STATUS.BAD_CMD, HB_STATUS.BUSY, HB_COUNTS.CMD_COUNT, HB_COUNTS.CMD_OVERLAP]
  ++ [HB_COUNTS.ERR_COUNT, HB_COUNTS.ERR_OVERLAP, HB_WIN.WIN_ADDR, HB_WIN_FAIL.FAIL_ADDR, HB_PORT.TAG, HB_PORT.RLEN, HB_PORT.PAGE, SP_CFG.BAUD, SP_CFG.STG_SIZE, SP_CFG.FLOW_EN, SP_STATUS.CFG_REJ, SP_STATUS.BAD_STAGE]
  ++ [SP_STATUS.DENIED, SP_STATUS.OVERRUN, SP_STATUS.GAP_TMO, SP_STATUS.OVERSIZE, SP_STATUS.CRC_ERR, SP_STATUS.FRAMING, SP_STATUS.BUSY, SP_COUNTS.FRAMES, SP_COUNTS.FRAMES_OVERLAP, SP_COUNTS.ERR_COUNT, SP_COUNTS.ERR_OVERLAP, JRNL_NEXT.NEXT_SEQ]
  ++ [JRNL_OLDEST.OLDEST_SEQ, JRNL_ACK.ACK_SEQ, JRNL_STATUS.CFG_REJ, JRNL_STATUS.DISAGREE, JRNL_STATUS.TORN, JRNL_STATUS.UNREAD_FAIL, JRNL_NOTE.NOTE_CODE, JRNL_NOTE_ARG.NOTE_ARG, UPD_CFG.HC_DEADLINE, UPD_CFG.TGT_B, UPD_STATUS.LAST_STATUS, UPD_STATUS.EVT]
  ++ [UPD_STATUS.REVERTED, UPD_STATUS.REVERT_FAIL, UPD_STATUS.REVERT_PEND, UPD_STATUS.ROLLBACK_PEND, UPD_STATUS.FLASH_BUSY, UPD_STATUS.MAP_DISAGREE, UPD_STATUS.CFG_REJ, UPD_STATUS.TARGET, UPD_STATUS.STATE, UPD_PROGRESS.TOTAL, UPD_PROGRESS.WRITTEN, UPD_TRIAL.TRIAL_LEFT]
  ++ [UPD_ROLLBACK.IMAGE_RB, UPD_ROLLBACK.BLOWN]

end Sys2Proof.Machine.Reg
end

