-- ==== Sys2Proof/Machine/Operands.lean ====
section
/-!
DEFINITION. What a command's operands name: the tile and local number of a phase, the copies of a rail's block, the
home tile, the initiator's places, the active manager, the states of phases and rails by their encodings.
-/
namespace Sys2Proof.Machine

/-! Phases and tiles (R36). -/

/-- The tile that carries phase `p`. -/
def tileOf (p : Nat) : Nat := p / 24

/-- The local number of phase `p`. -/
def localOf (p : Nat) : Nat := p % 24

/-- The place of RAIL_r's block on tile `t`. A number that names no rail has a place of its own, which no register shows. -/
def railIx (t r : Nat) : Nat := if r < 48 then t * 48 + r else 192

/-- The place of engine slot `e` of tile `t`. -/
def engIx (t e : Nat) : Nat := t * 25 + e

/-- The rail a phase is assigned to; 48 to 63 is none. -/
def State.railOf (s : State) (p : Nat) : Nat := s.get Reg.PH_CFG.RAIL p

/-- The phases of RAIL_r, in ascending number. -/
def State.phasesOf (s : State) (r : Nat) : List Nat := (List.range 96).filter fun p => s.railOf p = r

/-- The phases of RAIL_r on tile `t`. -/
def State.phasesOn (s : State) (t r : Nat) : List Nat := (s.phasesOf r).filter fun p => tileOf p = t

/-- The phases of tile `t`. -/
def phasesOfTile (t : Nat) : List Nat := (List.range 24).map fun k => t * 24 + k

/-- The phases of local stage group `g` of tile `t`. -/
def phasesOfStage (t g : Nat) : List Nat := (List.range 4).map fun k => t * 24 + g * 4 + k

/-- The phases of tile `t` in input group `g`. -/
def State.phasesInGroup (s : State) (t g : Nat) : List Nat :=
  (phasesOfTile t).filter fun p => s.get Reg.PH_CFG.VING p = g

/-- The home tile of RAIL_r (R144). -/
def State.home (s : State) (r : Nat) : Nat := s.getAt Hid.HOME 0 r

/-- The tiles that home RAIL_r or carry phases of it, the home tile first. -/
def State.tilesOf (s : State) (r : Nat) : List Nat :=
  s.home r :: (List.range 4).filter fun t => t ≠ s.home r && !(s.phasesOn t r).isEmpty

/-- The other tile of a cross-tile rail. -/
def State.partner (s : State) (r : Nat) : Option Nat := (s.tilesOf r)[1]?

/-- The place of RAIL_r's block on its home tile. -/
def State.homeIx (s : State) (r : Nat) : Nat := railIx (s.home r) r

/-- The rail is mirrored: a channel on the partner tile serves its standby lead (R144). -/
def State.mirrored (s : State) (r : Nat) : Bool := decide (s.get Reg.RAIL_SNS.PCHAN (s.homeIx r) ≠ 15)

/-- The tile that runs a rail and whose copy of its status counts: the home tile, but the partner while only its half of a mirrored rail runs, while
the home half returns, and while the home tile's copy stands at reset (R278, R280, R284; DEDUCED, log entry 91). -/
def State.leadTile (s : State) (r : Nat) : Nat :=
  let h := s.home r
  if !s.mirrored r then h else
    match s.partner r with
    | none => h
    | some q =>
      let a := s.get Reg.MIRR_STATUS.HALF (railIx h r)
      let b := s.get Reg.MIRR_STATUS.HALF (railIx q r)
      if b = 3 || a = 3 || (a = 0 && b ≠ 0) || (s.onAt Hid.RJ_BUSY 0 r && s.getAt Hid.RJ_TILE 0 r = h) then q else h

/-- The place of RAIL_r's block on the tile that runs it. -/
def State.leadIx (s : State) (r : Nat) : Nat := railIx (s.leadTile r) r

/-- The kind of a rail on its home tile: 0 unused, 1 regulated, 2 watched (R166). -/
def State.kindOf (s : State) (r : Nat) : Nat := s.get Reg.RAIL_SUP_CFG.KIND (s.homeIx r)

/-- Writes a per-rail field on every tile of the rail: both tiles hold the same values. -/
def State.putRail (s : State) (f : Fld) (r v : Nat) : State := s.over (s.tilesOf r) fun s t => s.put f (railIx t r) v

/-! Phase states (R56), shed causes and probe verdicts (R63). -/

namespace Ph
/-- Rail off. -/
abbrev off : Nat := 0
/-- Pre-start test or re-add probe. -/
abbrev probe : Nat := 1
/-- Failed a probe. -/
abbrev blocked : Nat := 2
/-- Switching. -/
abbrev active : Nat := 3
/-- Taken out by the load rule. -/
abbrev parked : Nat := 4
/-- Taken out by a fault or by the host. -/
abbrev shed : Nat := 5
/-- Holding its duty during a takeover by the spare engine. -/
abbrev spareHold : Nat := 6
end Ph

namespace Cause
/-- The fault comparator of IMON. -/
abbrev imonFault : Nat := 1
/-- The group's STG_TF line. -/
abbrev tfFault : Nat := 2
/-- Third consecutive missed WAITT. -/
abbrev overrun : Nat := 3
/-- The engine failed and the spare cannot stand in. -/
abbrev engineLost : Nat := 4
/-- Host SHED. -/
abbrev host : Nat := 5
/-- The input group was isolated. -/
abbrev isolated : Nat := 6
/-- IMON silent. -/
abbrev noReport : Nat := 7
/-- Thermal shutdown of the tile. -/
abbrev tileShutdown : Nat := 8
/-- Diagnosis verdict. -/
abbrev diag : Nat := 9
/-- Per-phase overcurrent. -/
abbrev phaseOc : Nat := 10
end Cause

/-- Levels of a PWM pin. `pulse` is the modulated cycle: high from the leading edge for the on-time, then low. -/
inductive Pwm where
  | hiZ | low | pulse | mid
  deriving DecidableEq, Repr

/-- The number of a level in `Hid.PWM_LVL`. -/
def Pwm.num : Pwm → Nat
  | .hiZ => 0 | .low => 1 | .pulse => 2 | .mid => 3

/-- The state of a phase. -/
def State.ph (s : State) (p : Nat) : Nat := s.get Reg.PH_STATE.STATE p

/-- The phase is ACTIVE or PARKED, the states a fault sheds. -/
def State.sheddable (s : State) (p : Nat) : Bool := s.ph p = Ph.active || s.ph p = Ph.parked

/-- The phase is OFF or BLOCKED. -/
def State.idlePh (s : State) (p : Nat) : Bool := s.ph p = Ph.off || s.ph p = Ph.blocked

/-- Every phase of the rail is OFF or BLOCKED. -/
def State.railIdle (s : State) (r : Nat) : Bool := (s.phasesOf r).all s.idlePh

/-- The phases of the rail that are ACTIVE or in SPARE_HOLD: what N_ACTIVE counts. -/
def State.activeOf (s : State) (r : Nat) : List Nat :=
  (s.phasesOf r).filter fun p => s.ph p = Ph.active || s.ph p = Ph.spareHold

/-- A running diagnosis holds the phase (R156). -/
def State.underDiag (s : State) (p : Nat) : Bool :=
  s.on Reg.DIAG_RESULT.BUSY (tileOf p) && decide (s.get Hid.DIAG_KIND (tileOf p) = 1) &&
    decide (s.get Hid.DIAG_TGT (tileOf p) = localOf p)

/-- The PARKED phases of the rail that no diagnosis holds. -/
def State.parkedOf (s : State) (r : Nat) : List Nat := (s.phasesOf r).filter fun p => s.ph p = Ph.parked && !s.underDiag p

/-! Rail states (R188's table of RSTATE). -/

namespace Rs
/-- Off. -/
abbrev off : Nat := 0
/-- Waits and pre-start test of an enable. -/
abbrev enabling : Nat := 1
/-- Soft-start, or EN driven. -/
abbrev ramping : Nat := 2
/-- On. -/
abbrev on : Nat := 3
/-- Shut-down at the low discharge level. -/
abbrev stopLo : Nat := 4
/-- Shut-down after the first timeout. -/
abbrev stopHi : Nat := 5
end Rs

/-- The state of a rail, on the tile that runs it. -/
def State.rs (s : State) (r : Nat) : Nat := s.get Reg.RAIL_SUP_STATUS.RSTATE (s.leadIx r)

/-- The rail is neither off nor on its way off. -/
def State.running (s : State) (r : Nat) : Bool := s.rs r = Rs.enabling || s.rs r = Rs.ramping || s.rs r = Rs.on

/-! Managers and initiators (R13, R19). -/

/-- The place of an initiator: SC, the three cores, the host window, the service port. -/
def whoIx : Who → Nat
  | .sc => 0 | .mc0 => 1 | .mc1 => 2 | .mc2 => 3 | .host => 4 | .svc => 5

/-- Manager `m` is the active manager. -/
def State.isActive (s : State) (m : Nat) : Bool := s.on Reg.REIN_STATUS.ACTIVE m

/-- The active manager, if there is one; MGR_A is named first (R291). -/
def State.active (s : State) : Option Nat :=
  if s.isActive 0 then some 0 else if s.isActive 1 then some 1 else none

/-- The manager whose copies commands act on: the active one, MGR_A while none is active. -/
def State.act (s : State) : Nat := s.active.getD 0

/-- The other manager. -/
def peer (m : Nat) : Nat := 1 - m

/-- The manager an access of `w` reaches: the host window and the service port reach the active manager only (R38). -/
def State.reach (s : State) (w : Who) (m : Nat) : Nat :=
  match w with
  | .host | .svc => s.act
  | _ => m

/-- The beat of the active manager. -/
def State.beat (s : State) : Nat := s.get Hid.BEAT s.act

/-- The forward difference of two beats, modulo 2^40 (R33). -/
def beatDiff (later earlier : Nat) : Nat := (later + 2 ^ 40 - earlier % 2 ^ 40) % 2 ^ 40

/-! Where a field of a block stands: one copy for both managers, or one a die (DEDUCED, log entry 6). -/

/-- The field belongs to its own manager die; every other field of a manager block is one setting, the active manager's,
which the shadow's copy follows (R458). -/
def Fld.perDie (f : Fld) : Bool :=
  match f.blk with
  | .mgr => true
  | .rein => f.ret = .M || !(f.off = 0x110 || f.off = 0x200 || (decide (0x210 ≤ f.off) && decide (f.off < 0x220)))
  | .trc => true
  | .seqr | .evc | .ldr | .fuse | .wdt | .rtc | .hb | .svc | .jrn | .upd => f.ret = .M
  | _ => false

/-- The place of a manager-block field for manager `m`. -/
def Fld.home (f : Fld) (m : Nat) : Nat := if f.perDie then m else 0

/-- The base address of a block's window in the map of R35 and R36. -/
def Blk.base (b : Blk) (i : Nat) : Nat :=
  match b with
  | .phase => 0x50000000 + tileOf i * 0x1000000 + localOf i * 0x1000
  | .rail => 0x50000000 + (i / 48) * 0x1000000 + 0x100000 + (i % 48) * 0x1000
  | .tile => 0x50000000 + i * 0x1000000
  | .hpd => 0x58000000
  | .evc => 0x40000000 | .seqr => 0x40010000 | .jrn => 0x40020000 | .fuse => 0x40030000
  | .ldr => 0x40040000 | .wdt => 0x40050000 | .rtc => 0x40060000 | .hb => 0x40070000
  | .svc => 0x40080000 | .rein => 0x40090000 | .upd => 0x400A0000 | .trc => 0x400B0000
  | .eng | .met | .mgr | .dev => 0

/-- The address of copy `j` of a field's register in block `i`. -/
def Fld.addr (f : Fld) (i j : Nat) : Nat := f.blk.base i + f.off + j * f.stride

/-! Memories: every manager has its own map below 0x4000_0000; the tile windows are one for both. -/

/-- The model's address of a byte of manager `m`'s own memories. -/
def mgrMem (m a : Nat) : Nat := (m + 1) * 0x100000000 + a

/-- The model's address of a core-local byte: each core of each manager sees its own (R35). -/
def coreMem (m c a : Nat) : Nat := (3 + m * 4 + c) * 0x100000000 + a

/-- Address of the memory of engine slot `e` of tile `t` (R36). -/
def engMem (t e : Nat) : Nat := 0x50000000 + t * 0x1000000 + 0x400000 + e * 0x4000

/-- Address of word `i` of program bank `b` of an engine. -/
def progAddr (t e b i : Nat) : Nat := engMem t e + b * 0x1000 + i * 4

/-- Writes a run of bytes of an engine memory: both copies of every word it reaches are good again (R89). -/
def State.wrEng (s : State) (a : Nat) (l : List Byte) : State :=
  { s with ecc := s.ecc.filter fun x => x.1 + 4 ≤ a || a + l.length ≤ x.1 }.wrBytes a l

/-- A program bank is filled with an image; `law` is the LAW_ID of a library image, 0 for another program. -/
def State.bankFill (s : State) (t e b law : Nat) (l : List Byte) : State :=
  (s.wrEng (progAddr t e b 0) l).putAt Hid.BANK_LAW (engIx t e) b law

/-- One word of a program bank is written: the bank holds no library image any more. -/
def State.bankWord (s : State) (t e b i : Nat) (v : Word) : State :=
  (s.wrEng (progAddr t e b i) (wordBytes v)).clrAt Hid.BANK_LAW (engIx t e) b

/-- Address of word `i` of an engine's data memory. -/
def dmAddr (t e i : Nat) : Nat := engMem t e + 0x2000 + i * 4

/-- Writes a word of an engine's data memory. -/
def State.wrData (s : State) (t e i : Nat) (v : Word) : State := s.wrEng (dmAddr t e i) (wordBytes v)

/-- Address of the capture buffer of tile `t`. -/
def capAddr (t : Nat) : Nat := 0x50000000 + t * 0x1000000 + 0x300000

/-! Fields kept as bits in words of 32, one bit an event source. -/

/-- Bit `n` of a field kept in words of 32. -/
def State.bitAt (s : State) (f : Fld) (n : Nat) : Bool := (s.getAt f 0 (n / 32)).testBit (n % 32)

/-- Writes bit `n` of a field kept in words of 32. -/
def State.putBitAt (s : State) (f : Fld) (n : Nat) (v : Bool) : State :=
  s.putAt f 0 (n / 32) (withBit (s.getAt f 0 (n / 32)) (n % 32) v)

/-- A condition that R309 lets last until the next completion of its source holds (DEDUCED, log entry 29). -/
def State.once (s : State) (n : Nat) : State := s.putBitAt Hid.EV_ONCE n true

/-- As `once`, for line `k` of the manager-local sources of the active manager. -/
def State.onceMgr (s : State) (k : Nat) : State := s.once (504 + 32 * s.act + k)

end Sys2Proof.Machine
end

