-- ==== Sys2Proof/Machine/Awl.lean ====
section
/-!
DEFINITION. The error events of the units that the Awl probe tests (R297, R298): each is counted, and asks for a probe.
-/
namespace Sys2Proof.Machine

/-! The unit kinds of R297's table, in its order from 1. -/
namespace Awl
abbrev engine : Nat := 1
abbrev spare : Nat := 2
abbrev engineWord : Nat := 3
abbrev slice : Nat := 4
abbrev lane : Nat := 5
abbrev memory : Nat := 6
abbrev manager : Nat := 7
end Awl

/-- The beat of the active manager, counted on through its wraps (R33). -/
def State.fullBeat (s : State) : Nat := s.get Hid.EPOCH s.act * 2 ^ 40 + s.beat

/-- A kind and index name a unit. -/
def awlNames (kind u : Nat) : Bool :=
  match kind with
  | 1 => decide (u < 24)
  | 2 => true
  | 3 => decide (u < 25)
  | 4 => decide (u < 32)
  | 5 => decide (u < 22)
  | 6 => decide (u < 2)
  | 7 => decide (u < 2)
  | _ => false

/-- A probe of the unit runs or waits. -/
def State.awlHas (s : State) (kind t u : Nat) (run : Bool) : Bool :=
  s.awlProbes.any fun (y : AwlUnit) => y.kind = kind && y.tile = t && y.unit = u && y.run = run

/-- An error event of a unit: it is counted, and with AUTO_EN set it asks for a probe, which waits until the unit is out of service (R297). A unit that
has a probe asks for no second one. Errors older than the longest window are forgotten (DEDUCED, log entry 72). -/
def State.awlError (s : State) (kind t u : Nat) : State :=
  if !awlNames kind u then s
  else
    let x : AwlUnit := ⟨kind, t, u, s.fullBeat, false⟩
    let s := { s with awlErrs := x :: s.awlErrs.filter fun (y : AwlUnit) => s.fullBeat ≤ y.beat + 10080 * 60000000 }
    let has := s.awlHas kind t u false || s.awlHas kind t u true
    if s.on Reg.AWL_CTRL.AUTO_EN 0 && !has then { s with awlProbes := s.awlProbes ++ [x] } else s

end Sys2Proof.Machine
end

