-- ==== Sys2Proof/Machine/Journal.lean ====
section
/-!
DEFINITION. The command journal (R407 to R411): making an entry, accepting, refusing and completing a command,
and the list of commands between acceptance and completion.
-/
namespace Sys2Proof.Machine

/-- ORIGIN of an initiator (R408). -/
def originOf : Who → Nat
  | .host => 1 | .svc => 2 | .mc0 => 3 | .mc1 => 4 | .mc2 => 5 | .sc => 6

/-- ORIGIN of a hardware action. -/
def originDevice : Nat := 7

/-- ORIGIN of a command received as a lane worker. -/
def originLane : Nat := 8

namespace JKind
abbrev accepted : Nat := 1
abbrev done : Nat := 2
abbrev refused : Nat := 3
abbrev complete : Nat := 4
abbrev action : Nat := 5
abbrev timeStep : Nat := 6
abbrev note : Nat := 7
end JKind

namespace JStatus
abbrev ok : Nat := 0
abbrev failed : Nat := 1
abbrev pllNotReady : Nat := 2
abbrev cancelled : Nat := 3
abbrev interrupted : Nat := 4
abbrev seqBusy : Nat := 5
abbrev isoBusy : Nat := 6
abbrev holdupBusy : Nat := 7
abbrev armNotReady : Nat := 8
abbrev parkBusy : Nat := 9
abbrev refused : Nat := 10
abbrev denied : Nat := 11
abbrev oversize : Nat := 12
abbrev badPec : Nat := 13
abbrev malformed : Nat := 14
abbrev badState : Nat := 15
abbrev busError : Nat := 16
end JStatus

/-- The TAG of an initiator's commands (R408): MFR_TAG, or the tag of the service-port frame. -/
def State.tagOf (s : State) : Who → Nat
  | .host => s.get Reg.HB_PORT.TAG 0
  | .svc => s.get Hid.SVC_TAG 0
  | _ => 0

/-- A retained entry with a failure status has a SEQ forward of ACK_SEQ (R411). -/
def unreadFail (l : List JEntry) (ack : Nat) : Bool :=
  l.any fun e => e.status ≠ 0 && decide (0 < (e.seq + 2 ^ 32 - ack) % 2 ^ 32) && decide ((e.seq + 2 ^ 32 - ack) % 2 ^ 32 < 2 ^ 31)

/-- An entry stands in both arrays, and a ring of 4 096 forgets the oldest. -/
def State.jrnPush (s : State) (e : JEntry) : State := { s with jrnA := (e :: s.jrnA).take 4096, jrnB := (e :: s.jrnB).take 4096 }

/-- OLDEST_SEQ after the entry `seq`, where it was `old`. -/
def oldestAfter (seq old : Nat) : Nat := if 4096 ≤ seq then seq + 1 - 4096 else old

/-- The entry that takes the next SEQ now. -/
def State.entryNow (s : State) (origin kind tag status target code arg : Nat) : JEntry :=
  { seq := s.get Reg.JRNL_NEXT.NEXT_SEQ 0, beat := s.beat, epoch := s.get Hid.EPOCH s.act, origin := origin, kind := kind,
    calSec := s.get Reg.RTC_SEC.CAL_SEC 0, tag := tag, status := status, target := target, code := code, arg := arg % 2 ^ 32 }

/-- One entry: it takes the next SEQ (R408 to R411). -/
def State.journal (s : State) (origin kind tag status target code arg : Nat) : State :=
  let e := s.entryNow origin kind tag status target code arg
  let s := (s.jrnPush e).put Reg.JRNL_NEXT.NEXT_SEQ 0 (e.seq + 1)
  let s := s.put Reg.JRNL_OLDEST.OLDEST_SEQ 0 (oldestAfter e.seq (s.get Reg.JRNL_OLDEST.OLDEST_SEQ 0))
  s.putB Reg.JRNL_STATUS.UNREAD_FAIL 0 (unreadFail s.jrnA (s.get Reg.JRNL_ACK.ACK_SEQ 0))

/-- No target. -/
def noTarget : Nat := 0xFFFF

/-- An entry for a command on a register: CODE is the register's offset, ARG its address (R408). -/
def State.jReg (s : State) (w : Who) (f : Fld) (i j target kind status : Nat) : State :=
  s.journal (originOf w) kind (s.tagOf w) status target ((f.off + j * f.stride) % 0x10000) (f.addr i j)

/-- A command executed at once. -/
def State.jDone (s : State) (w : Who) (f : Fld) (i target : Nat) : State := s.jReg w f i 0 target JKind.done JStatus.ok

/-- A command refused. -/
def State.jRefused (s : State) (w : Who) (f : Fld) (i target status : Nat) : State :=
  s.jReg w f i 0 target JKind.refused status

/-- A hardware action, with the number of its event source or register as CODE (DEDUCED, log entry 75). -/
def State.jAction (s : State) (status target code arg : Nat) : State :=
  s.journal originDevice JKind.action 0 status target code arg

/-- Accepts a command whose execution runs on: its ACCEPTED entry, and its place in the list of R409. -/
def State.accept (s : State) (kind : CmdKind) (origin tag target code arg : Nat) (started : Bool) : State :=
  let c : Cmd := { kind := kind, seq := s.get Reg.JRNL_NEXT.NEXT_SEQ 0, beat := s.beat, origin := origin, tag := tag,
                   target := target, code := code, started := started }
  { s.journal origin JKind.accepted tag JStatus.ok target code arg with cmds := s.cmds ++ [c] }

/-- Accepts a register command of an initiator. -/
def State.acceptReg (s : State) (w : Who) (kind : CmdKind) (f : Fld) (i target : Nat) (started : Bool) : State :=
  s.accept kind (originOf w) (s.tagOf w) target (f.off % 0x10000) (f.addr i 0) started

/-- The COMPLETE entry of a command: ARG is the SEQ of its ACCEPTED entry, or the command's own result code where it
failed (R408; DEDUCED, log entry 12). -/
def State.jComplete (s : State) (c : Cmd) (status result : Nat) : State :=
  s.journal c.origin JKind.complete c.tag status c.target c.code (if status = JStatus.failed then result else c.seq)

/-- Completes every accepted command of a kind. -/
def State.complete (s : State) (kind : CmdKind) (status result : Nat) : State :=
  let ended := s.cmds.filter fun c => c.kind = kind
  let s := { s with cmds := s.cmds.filter fun c => c.kind ≠ kind }
  s.over ended fun s c => s.jComplete c status result

/-- The command of a register field that runs on after its acceptance (R292, R408; DEDUCED, log entry 93). -/
def regCmd (f : Fld) (i : Nat) : CmdKind := .other (f.addr i 0 + f.lo)

/-- A command of a register field is accepted and runs on. -/
def State.acceptRun (s : State) (w : Who) (f : Fld) (i target : Nat) : State := s.acceptReg w (regCmd f i) f i target true

/-- A command of a register field that ran on ends. -/
def State.endRun (s : State) (f : Fld) (i : Nat) (ok : Bool) : State :=
  s.complete (regCmd f i) (if ok then JStatus.ok else JStatus.failed) 0

/-- The command of a kind has been accepted and not completed. -/
def State.accepted (s : State) (kind : CmdKind) : Bool := s.cmds.any fun c => c.kind = kind

/-- Marks the accepted commands of a kind as started. -/
def State.start (s : State) (kind : CmdKind) : State :=
  { s with cmds := s.cmds.map fun c => if c.kind = kind then { c with started := true } else c }

end Sys2Proof.Machine
end

