-- ==== Sys2Proof/Machine/Backbone.lean ====
section
/-!
DEFINITION. The Crossing's lanes and slots, the clocks and the beat (R14 to R34): the meanings of those commands.
-/
namespace Sys2Proof.Machine

/-! Lanes that carry one frame twice (R16). -/

/-- Where a path counts consecutive CRC failures: field, block, and entry of lane 0. -/
def pathCounts : FramePath → Fld × Nat × Nat
  | .down u m => if u.val < 4 then (Hid.XT_FAILS, u.val, 2 * m.val) else (Hid.XH_FAILS, 0, 2 * m.val)
  | .up m u => (Hid.XM_FAILS, m.val, 2 * u.val)
  | .rein m => (Hid.XR_FAILS, m.val, 0)

/-- Where a path marks a failed lane: field, block, and bit of lane 0. -/
def pathMarks : FramePath → Fld × Nat × Nat
  | .down u m =>
    if u.val < 4 then (if m.val = 0 then Reg.CROSS_LANE_STATUS.LANE_FAIL_A else Reg.CROSS_LANE_STATUS.LANE_FAIL_B, u.val, 0)
    else (Hid.XH_LANE_FAIL, 0, 2 * m.val)
  | .up m u => (Hid.XM_LANE_FAIL, m.val, 2 * u.val)
  | .rein m => (Hid.XR_LANE_FAIL, m.val, 0)

/-- The die's Crossing CRC counter, one more discarded frame. Tiles and HPD show one; a manager shows none. -/
def State.crcError (s : State) (u : Nat) : State :=
  if u < 4 then s.bump Reg.CROSS_COUNTS.CRC_COUNT u else s.bump Reg.HPD_CROSS_COUNTS.CRC_COUNT 0

/-- Lane `l` of a path is marked failed. -/
def State.laneFailed (s : State) (path : FramePath) (l : Nat) : Bool :=
  let (f, i, b) := pathMarks path
  s.bit f i (b + l)

/-- Notes whether one copy passed its CRC: consecutive failures are counted up to three. -/
def State.noteCopy (s : State) (path : FramePath) (l : Nat) (ok : Bool) : State :=
  let (f, i, b) := pathCounts path
  if ok then s.clrAt f i (b + l) else s.bumpAt f i (b + l)

/-- A frame arrives: the copy of a lane that works and passes is taken, lane 0 before lane 1; when there is none the
frame is discarded and counted (R16). -/
def State.frameReceive (s : State) (path : FramePath) (ok0 ok1 : Bool) : State :=
  let taken := (ok0 && !s.laneFailed path 0) || (ok1 && !s.laneFailed path 1)
  let s := (s.noteCopy path 0 ok0).noteCopy path 1 ok1
  if taken then s else
    match path with
    | .down u _ => s.crcError u.val
    | _ => s

/-- CROSSING_FRAME_RECEIVE (R16). -/
def execCrossingFrameReceive (path : FramePath) (ok0 ok1 : Bool) (s : State) : Host.Outcome State Fault Refusal :=
  .next (s.frameReceive path ok0 ok1)

/-- A failed lane of a tile is an error event (R297): lanes 0 and 1 from MGR_A are units 18 and 19, those from MGR_B 20 and 21 (DEDUCED, log entry 72). -/
def State.laneError (s : State) (path : FramePath) (l : Nat) : State :=
  match path with
  | .down u m => if u.val < 4 then s.awlError Awl.lane u.val (18 + 2 * m.val + l) else s
  | _ => s

/-- The third consecutive failure on a lane marks it failed until the receiving die's reset (R16). -/
def State.laneFail (s : State) (path : FramePath) (l : Nat) : State :=
  let (fc, ic, bc) := pathCounts path
  let (fm, im, bm) := pathMarks path
  if s.getAt fc ic (bc + l) = 3 then (s.putBit fm im (bm + l) true).laneError path l else s

/-- CROSSING_LANE_FAIL (R16). -/
def execCrossingLaneFail (path : FramePath) (lane : Fin 2) (s : State) : Host.Outcome State Fault Refusal :=
  .next (s.laneFail path lane.val)

/-! Beat frames and the beat (R17, R32 to R34). -/

/-- A running manager's beat frame reaches every tile and HPD, with its beat and its role (R17). A tile that hears one is not
silent any more (R294). -/
def State.beatFrame (s : State) (m : Nat) : State :=
  if s.on Hid.PRESENT m then
    let b := s.get Hid.BEAT m
    let e := s.get Hid.EPOCH m
    let a := (s.isActive m).toNat
    let s := s.over (List.range 4) fun s t =>
      ((((s.putAt Hid.BF_BEAT t m b).putAt Hid.BF_EPOCH t m e).putAt Hid.BF_ROLE t m a).clr Reg.TILE_AUTO.MGR_SILENT t).clr Hid.SILENT_N t
    (s.putAt Hid.BFH_BEAT 0 m b).putAt Hid.BFH_ROLE 0 m a
  else s

/-- BEAT_FRAME_SEND (R17). -/
def execBeatFrameSend (m : Mgr) (s : State) : Host.Outcome State Fault Refusal := .next (s.beatFrame m.val)

/-- A microsecond passes on manager `m`: its wait for the next heartbeat and the age of its deadman's last re-arming (R288,
R289). Park suspends the checking (R354). -/
def State.linkWait (s : State) (m : Nat) : State :=
  if s.on Hid.PRESENT m && !s.on Hid.XTAL_STOPPED m && s.get Reg.DEV_STATE.STATE 0 ≠ 6 then (s.bump Hid.HB_WAIT m).bump Hid.ROLE_WAIT m else s

/-- The beat advances by one microsecond of its crystal while its manager has its supply, and wraps into BEAT_EPOCH (R32, R33). A held shadow does not count, and
goes on when the active manager's beat reaches its own (R34); a lane worker's beat holds until its master's reaches it (R185). -/
def State.beatAdvance (s : State) (m : Nat) : State :=
  if !s.on Hid.POWERED m || s.on Hid.XTAL_STOPPED m || s.on Hid.BEAT_HOLD m then s.linkWait m
  else if m = s.act && s.on Hid.LN_HOLD 0 then s.put Hid.LN_HOLD 0 (s.get Hid.LN_HOLD 0 - 1)
  else
    let b := s.get Hid.BEAT m
    let s := (s.linkWait m).put Hid.BEAT m (b + 1)
    let s := s.when (decide (b = 2 ^ 40 - 1)) fun s => s.put Hid.EPOCH m (s.get Hid.EPOCH m + 1)
    s.when (s.on Hid.BEAT_HOLD (peer m) && decide (s.get Hid.BEAT m = s.get Hid.BEAT (peer m))) fun s =>
      s.clr Hid.BEAT_HOLD (peer m)

/-- BEAT_ADVANCE (R32). -/
def execBeatAdvance (m : Mgr) (s : State) : Host.Outcome State Fault Refusal := .next (s.beatAdvance m.val)

/-! Tile-to-tile slots (R20 to R22). -/

/-- The entry of a received slot: 0 to 7 from the lower neighbour, 8 to 15 from the upper. -/
def slotIx (upper : Bool) (slot : Nat) : Nat := (if upper then 8 else 0) + slot

/-- The mark of failed receive lanes from a neighbour. -/
def laneFailFld (upper : Bool) : Fld := if upper then Reg.CROSS_LANE_STATUS.LANE_FAIL_UP else Reg.CROSS_LANE_STATUS.LANE_FAIL_LO

/-- The working lane that the spare replaces. -/
def spareMapFld (upper : Bool) : Fld := if upper then Reg.CROSS_LANE_STATUS.SPARE_MAP_UP else Reg.CROSS_LANE_STATUS.SPARE_MAP_LO

/-- The tile has that neighbour. -/
def hasNeighbour (t : Nat) (upper : Bool) : Bool := if upper then decide (t < 3) else decide (0 < t)

/-- The neighbour on a side. -/
def neighbour (t : Nat) (upper : Bool) : Nat := if upper then t + 1 else t - 1

/-- The entry, among the words a tile committed to its slot `x`, of the tick `k`. -/
def ringIx (x k : Nat) : Nat := 8 * x + k % 8

/-- The tick whose words arrive for the tick that comes next: the sixth tick after their commitment (R21). -/
def State.slotTick (s : State) (t : Nat) : Nat := (s.get Hid.TICK t + 2 ^ 32 - 4) % 2 ^ 32

/-- A valid slot: its reference and flags are the rail's from the coming boundary on. HALF_DOWN that was not set before waits to be acted on (R21,
R279). -/
def State.slotTake (s : State) (t x u e : Nat) : State :=
  let flags := s.getAt Hid.SLOT_H_FLAGS u e
  let s := s.when (flags.testBit 5 && !(s.getAt Hid.SLOT_FLAGS t x).testBit 5) fun s => s.raiseAt Hid.SLOT_DOWN t x
  let s := (s.putAt Hid.SLOT_REF t x (s.getAt Hid.SLOT_H_REF u e)).putAt Hid.SLOT_FLAGS t x flags
  ((s.clrAt Hid.SLOT_AGE t x).clrAt Hid.SLOT_FAILS t x).putAt Hid.SLOT_NEW t x 2

/-- The word that the neighbour committed to a slot arrives on the sixth tick, once for each tick; nothing arrives that was not sent, on a slot with no
lane, or in the four ticks of a move to the spare lane. A slot is used when its CRC passes and its sequence count is the expected one; otherwise it is
discarded and the last valid one stays. After a slot whose count can be read, the next count is expected (R21, R22; DEDUCED, log entry 101). -/
def State.slotReceive (s : State) (t : Nat) (upper : Bool) (slot : Nat) (crcOk : Bool) : State :=
  let x := slotIx upper slot
  let u := neighbour t upper
  let e := ringIx (slotIx (!upper) slot) (s.slotTick t)
  if !hasNeighbour t upper || s.onAt Hid.SLOT_LOST t x || s.onAt Hid.SLOT_NEW t x || s.onAt Hid.SLOT_GAP t x ||
      decide (s.getAt Hid.SLOT_H_TICK u e ≠ s.slotTick t + 1) then s else
    let seq := s.getAt Hid.SLOT_H_SEQ u e
    let ok := crcOk && (!s.onAt Hid.SLOT_SYNC t x || decide (seq = s.getAt Hid.SLOT_SEQ t x))
    let s := s.putAt Hid.SLOT_SEQ t x ((if crcOk then seq else s.getAt Hid.SLOT_SEQ t x) + 1)
    let s := s.when crcOk fun s => s.raiseAt Hid.SLOT_SYNC t x
    if ok then s.slotTake t x u e
    else ((s.putAt Hid.SLOT_NEW t x 1).bumpAt Hid.SLOT_FAILS t x).crcError t

/-- SLOT_RECEIVE (R22). -/
def execSlotReceive (t : Tile) (upper : Bool) (slot : Fin 8) (crcOk : Bool) (s : State) : Host.Outcome State Fault Refusal :=
  .next (s.slotReceive t.val upper slot.val crcOk)

/-- The third consecutive failure on a working lane marks it failed and moves its slot to the spare lane, which brings its first slot in tick m + 5;
with the spare taken or failed, the slot has no lane left (R22). -/
def State.slotLaneFail (s : State) (t : Nat) (upper : Bool) (lane : Nat) : State :=
  let fl := laneFailFld upper
  let sm := spareMapFld upper
  let slot := if lane = 8 then s.get sm t else lane
  let x := slotIx upper slot
  if !hasNeighbour t upper || decide (8 ≤ slot) || s.bit fl t lane || decide (s.getAt Hid.SLOT_FAILS t x ≠ 3) then s else
    let s := (s.putBit fl t lane true).awlError Awl.lane t (if upper then 9 + lane else lane)
    if lane < 8 && decide (s.get sm t = 0xF) && !s.bit fl t 8 then
      ((s.put sm t lane).clrAt Hid.SLOT_FAILS t x).putAt Hid.SLOT_GAP t x 5
    else s.raiseAt Hid.SLOT_LOST t x

/-- SLOT_LANE_FAIL (R22). -/
def execSlotLaneFail (t : Tile) (upper : Bool) (lane : Fin 9) (s : State) : Host.Outcome State Fault Refusal :=
  .next (s.slotLaneFail t.val upper lane.val)

/-! References and PLLs (R27 to R29). Unit 4 is HPD. -/

/-- A clock field of a tile, or of HPD's copy of the same register. -/
def clkF (u : Nat) (tile hpd : Fld) : Fld := if u < 4 then tile else hpd

/-- The block of a PLL unit. -/
def clkI (u : Nat) : Nat := if u < 4 then u else 0

/-- REF_SRC of a unit: 0 and 1 locked to that manager, 2 holdover, 3 free-run. -/
def State.refSrc (s : State) (u : Nat) : Nat := s.get (clkF u Reg.TILE_CLK_STATUS.REF_SRC Reg.HPD_CLK_STATUS.REF_SRC) (clkI u)

/-- The field that shows manager `m`'s reference valid at unit `u`. -/
def refOkF (u m : Nat) : Fld :=
  if m = 0 then clkF u Reg.TILE_CLK_STATUS.REF_A_OK Reg.HPD_CLK_STATUS.REF_A_OK
  else clkF u Reg.TILE_CLK_STATUS.REF_B_OK Reg.HPD_CLK_STATUS.REF_B_OK

/-- The unit follows manager `m`'s reference from now on, without a switch (R28, second row). -/
def State.lockTo (s : State) (u m : Nat) : State :=
  (s.put (clkF u Reg.TILE_CLK_STATUS.REF_SRC Reg.HPD_CLK_STATUS.REF_SRC) (clkI u) m).put
    (clkF u Hid.FOLLOWED Hid.FOLLOWED_H) (clkI u) m

/-- The unit switches to manager `m`'s reference: SWITCH_EVT, SWITCH_COUNT, and 50 µs of settling (R28). -/
def State.switchTo (s : State) (u m : Nat) : State :=
  (((s.lockTo u m).raise (clkF u Reg.TILE_CLK_STATUS.SWITCH_EVT Reg.HPD_CLK_STATUS.SWITCH_EVT) (clkI u)).bump
    (clkF u Reg.TILE_CLK_STATUS.SWITCH_COUNT Reg.HPD_CLK_STATUS.SWITCH_COUNT) (clkI u)).raise
    (clkF u Reg.TILE_CLK_STATUS.SETTLING Reg.HPD_CLK_STATUS.SETTLING) (clkI u)

/-- Manager `m` stops driving its reference; every unit sees it invalid (R28). -/
def State.refStop (s : State) (m : Nat) : State :=
  let s := (s.clr Reg.CLK_STATUS.ROOT_LOCK m).clr Hid.REF_OK m
  s.over (List.range 5) fun s u => s.clr (refOkF u m) (clkI u)

/-- Manager `m`'s root is locked and its reference driven: it drives whenever its root is locked (R28, R329). -/
def State.refDrive (s : State) (m : Nat) : State := (s.raise Reg.CLK_STATUS.ROOT_LOCK m).raise Hid.REF_OK m

/-- The other manager runs. -/
def State.shadowPresent (s : State) : Bool := s.on Hid.PRESENT (peer s.act)

/-- An access that an initiator is refused with a bus error (R9, R19, R458; DEDUCED, log entry 70). -/
def State.busError (s : State) (w : Who) (m : Nat) : State := s.putAt Hid.BUS_ERR (s.reach w m) (whoIx w) 1

/-- An access that was served. -/
def State.served (s : State) (w : Who) (m : Nat) : State := s.putAt Hid.BUS_ERR (s.reach w m) (whoIx w) 0

/-- A new SSC_MODE relocks the shadow's root, then the active manager's; with no shadow, the active manager's alone. The shadow's
own CLK_CTRL takes no core write (R27, R458). A value that comes while a relock runs starts the procedure again from its first step (DESIGN CHOICE,
log entry 99). -/
def State.sscWrite (s : State) (w : Who) (m mode : Nat) : State :=
  if s.reach w m ≠ s.act then s.busError w m else
    let s := s.served w m
    if mode = s.get Reg.CLK_CTRL.SSC_MODE 0 then s else
      let s := s.put Reg.CLK_CTRL.SSC_MODE 0 mode
      let s := (s.raise Reg.CLK_STATUS.RELOCK_ACTIVE 0).raise Reg.CLK_STATUS.RELOCK_ACTIVE 1
      if s.shadowPresent then (s.put Hid.RELOCK_STAGE 0 1).refStop (peer s.act)
      else (s.put Hid.RELOCK_STAGE 0 2).refStop s.act

/-- SSC_MODE_WRITE (R27). -/
def execSscModeWrite (w : Who) (m : Mgr) (mode : BitVec 2) (s : State) : Host.Outcome State Fault Refusal :=
  .next (s.sscWrite w m.val mode.toNat)

/-- A relocking root has held lock for 10 µs: the units switch to the shadow's reference and the active root relocks, or they
switch back and the relock ends. With no shadow the units lock again by themselves, under R28. -/
def State.relockDone (s : State) : State :=
  let a := s.act
  if s.get Hid.RELOCK_STAGE 0 = 1 then
    let s := s.refDrive (peer a)
    let s := s.over (List.range 5) fun s u => (s.raise (refOkF u (peer a)) (clkI u)).switchTo u (peer a)
    (s.put Hid.RELOCK_STAGE 0 2).refStop a
  else if s.get Hid.RELOCK_STAGE 0 = 2 then
    let s := s.refDrive a
    let s := s.when s.shadowPresent fun s =>
      s.over (List.range 5) fun s u => (s.raise (refOkF u a) (clkI u)).switchTo u a
    ((s.clr Hid.RELOCK_STAGE 0).clr Reg.CLK_STATUS.RELOCK_ACTIVE 0).clr Reg.CLK_STATUS.RELOCK_ACTIVE 1
  else s

/-- ROOT_RELOCK_DONE (R27). -/
def execRootRelockDone (s : State) : Host.Outcome State Fault Refusal := .next s.relockDone

/-- Four edges of the followed reference are missing: holdover (R28). -/
def State.refEdgeLoss (s : State) (u : Nat) : State :=
  let src := s.refSrc u
  if src < 2 then
    ((s.clr (refOkF u src) (clkI u)).put (clkF u Reg.TILE_CLK_STATUS.REF_SRC Reg.HPD_CLK_STATUS.REF_SRC) (clkI u) 2).raise
      (clkF u Reg.TILE_CLK_STATUS.HOLDOVER_EVT Reg.HPD_CLK_STATUS.HOLDOVER_EVT) (clkI u)
  else s

/-- REF_EDGE_LOSS (R28). -/
def execRefEdgeLoss (u : Unit5) (s : State) : Host.Outcome State Fault Refusal := .next (s.refEdgeLoss u.val)

/-- Manager `m` cannot drive its reference: its supply is out, its crystal has stopped, or its root relocks (R27 to R29). -/
def State.refBarred (s : State) (m : Nat) : Bool :=
  !s.on Hid.POWERED m || s.on Hid.XTAL_STOPPED m || (s.get Hid.RELOCK_STAGE 0 = 1 && m = peer s.act) || (s.get Hid.RELOCK_STAGE 0 = 2 && m = s.act)

/-- A reference has been valid for 10 µs: its manager's root is locked, after a start or again (DEDUCED, log entry 98). In holdover the unit locks to the reference it followed again, or switches to the other
one when the followed one is not valid; in free-run it switches to the one that returned (R28). A unit fresh from reset
follows the active manager's reference, and the other one while that is not valid. -/
def State.refValid (s : State) (u m : Nat) : State :=
  if s.refBarred m then s else
  let fol := s.get (clkF u Hid.FOLLOWED Hid.FOLLOWED_H) (clkI u)
  let s := (s.refDrive m).raise (refOkF u m) (clkI u)
  if s.refSrc u = 2 then
    if fol = m then s.lockTo u m
    else if fol = 2 then (if s.active.isNone || m = s.act || !s.on (refOkF u s.act) (clkI u) then s.lockTo u m else s)
    else if s.on (refOkF u fol) (clkI u) then s
    else s.switchTo u m
  else if s.refSrc u = 3 then (s.switchTo u m).raise (clkF u Hid.SLEWING Hid.SLEWING_H) (clkI u)
  else s

/-- REF_VALID_10US (R28). -/
def execRefValid10us (u : Unit5) (m : Mgr) (s : State) : Host.Outcome State Fault Refusal := .next (s.refValid u.val m.val)

/-- Holdover without a valid reference ends in free-run (R28). -/
def State.holdoverExpire (s : State) (u : Nat) : State :=
  if s.refSrc u = 2 && !s.on (refOkF u 0) (clkI u) && !s.on (refOkF u 1) (clkI u) then
    (s.put (clkF u Reg.TILE_CLK_STATUS.REF_SRC Reg.HPD_CLK_STATUS.REF_SRC) (clkI u) 3).raise
      (clkF u Reg.TILE_CLK_STATUS.FREERUN_EVT Reg.HPD_CLK_STATUS.FREERUN_EVT) (clkI u)
  else s

/-- HOLDOVER_EXPIRE (R28). -/
def execHoldoverExpire (u : Unit5) (s : State) : Host.Outcome State Fault Refusal := .next (s.holdoverExpire u.val)

/-- 50 µs after a switch the unit is no longer settling (R28). -/
def State.settlingEnd (s : State) (u : Nat) : State :=
  (s.clr (clkF u Reg.TILE_CLK_STATUS.SETTLING Reg.HPD_CLK_STATUS.SETTLING) (clkI u)).clr (clkF u Hid.SLEWING Hid.SLEWING_H) (clkI u)

/-- SETTLING_END (R28). -/
def execSettlingEnd (u : Unit5) (s : State) : Host.Outcome State Fault Refusal := .next (s.settlingEnd u.val)

/-- ROLE has changed to manager `m`: a unit that follows the other reference switches when both are valid (R28). -/
def State.refFollowRole (s : State) (m : Nat) : State :=
  s.over (List.range 5) fun s u =>
    if s.refSrc u = peer m && s.on (refOkF u m) (clkI u) && s.on (refOkF u (peer m)) (clkI u) then s.switchTo u m else s

/-- A crystal failure: XTAL_FAIL sets, the reference stops, and the manager has an explicit fault (R29). -/
def State.xtalFail (s : State) (m : Nat) : State :=
  ((s.raise Reg.CLK_STATUS.XTAL_FAIL m).refStop m).raise Hid.EXPLICIT_FAULT m

/-- A comparison window ends. One manager that fails it alone has XTAL_FAIL; when both fail and neither crystal has stopped, the
active manager logs CLOCK_DISAGREE and keeps its role. When both fail and a crystal has stopped, the stop has acted already and the comparison adds
nothing (R29; DESIGN CHOICE, log entry 99). -/
def State.xtalCompare (s : State) (failA failB : Bool) : State :=
  let s := (s.putB Reg.CLK_STATUS.PEER_REF_OK 0 !failA).putB Reg.CLK_STATUS.PEER_REF_OK 1 !failB
  if failA && failB then
    if s.on Hid.XTAL_STOPPED 0 || s.on Hid.XTAL_STOPPED 1 then s
    else s.raise Reg.CLK_STATUS.CLOCK_DISAGREE s.act
  else if failA then s.xtalFail 0
  else if failB then s.xtalFail 1
  else s

/-- A manager's root loses lock outside a commanded relock (R28). -/
def State.rootLockLoss (s : State) (m : Nat) : State :=
  if s.on Reg.CLK_STATUS.ROOT_LOCK m then (s.raise Reg.CLK_STATUS.LOCK_LOST m).refStop m else s

/-- ROOT_LOCK_LOSS (R28). -/
def execRootLockLoss (m : Mgr) (s : State) : Host.Outcome State Fault Refusal := .next (s.rootLockLoss m.val)

/-! Clock-readiness (R30). -/

/-- A unit is locked to a reference and not settling. -/
def State.unitReady (s : State) (u : Nat) : Bool :=
  decide (s.refSrc u < 2) && !s.on (clkF u Reg.TILE_CLK_STATUS.SETTLING Reg.HPD_CLK_STATUS.SETTLING) (clkI u)

/-- The active manager's root is locked and not relocking, and every unit the command touches is ready. -/
def State.clockReady (s : State) (units : List Nat) : Bool :=
  s.on Reg.CLK_STATUS.ROOT_LOCK s.act && !(s.get Hid.RELOCK_STAGE 0 = 2) && units.all s.unitReady

/-- The units a rail's commands touch. -/
def State.railReady (s : State) (r : Nat) : Bool := s.clockReady (s.tilesOf r)

end Sys2Proof.Machine
end

