-- ==== Sys2Proof/Machine/Flags.lean ====
section
/-!
DEFINITION. The results and flags of the engine instructions (R87, R88): exact integers first, then the narrowing.
-/
namespace Sys2Proof.Machine

/-- A result of an instruction that sets flags: the word, and C and V. Z and N follow from the word. -/
structure Alu where
  val : Word
  c   : Bool
  v   : Bool
  deriving DecidableEq, Repr

/-- d = a + b, wrapping: C the unsigned carry, V the signed overflow. -/
def aluAdd (a b : Word) : Alu :=
  { val := a + b, c := decide (2 ^ 32 ≤ a.toNat + b.toNat), v := decide ((a + b).toInt ≠ a.toInt + b.toInt) }

/-- d = a − b, wrapping: C is no borrow, V the signed overflow. -/
def aluSub (a b : Word) : Alu :=
  { val := a - b, c := decide (b.toNat ≤ a.toNat), v := decide ((a - b).toInt ≠ a.toInt - b.toInt) }

/-- An exact integer saturated to 32 bits, V set when it was outside. -/
def aluSat (x : Int) : Alu := { val := BitVec.ofInt 32 (satS 32 x), c := false, v := decide (satS 32 x ≠ x) }

/-- A result with C and V clear. -/
def aluLogic (w : Word) : Alu := { val := w, c := false, v := false }

/-- a << n: C is the last bit shifted out, 0 for a shift of 0. -/
def aluShl (a : Word) (n : Nat) : Alu := { val := a <<< n, c := n ≠ 0 && a.getLsbD (32 - n), v := false }

/-- a >> n, logical. -/
def aluShr (a : Word) (n : Nat) : Alu := { val := a >>> n, c := n ≠ 0 && a.getLsbD (n - 1), v := false }

/-- a >> n, arithmetic. -/
def aluSra (a : Word) (n : Nat) : Alu := { val := a.sshiftRight n, c := n ≠ 0 && a.getLsbD (n - 1), v := false }

/-- The signed minimum. -/
def minS (a b : Word) : Word := if a.toInt ≤ b.toInt then a else b

/-- The signed maximum. -/
def maxS (a b : Word) : Word := if a.toInt ≤ b.toInt then b else a

/-- CLAMP: min(max(d, a), b), C set when the result differs from the old d. -/
def aluClamp (d a b : Word) : Alu :=
  let r := minS (maxS d a) b
  { val := r, c := decide (r ≠ d), v := false }

/-- The low half of a word, signed. -/
def low16 (b : Word) : Int := (b.setWidth 16).toInt

/-- An accumulator after adding an exact integer, saturated to 48 bits, and whether it saturated. -/
def accAdd (acc : Acc) (x : Int) : Acc × Bool :=
  let y := acc.toInt + x
  (BitVec.ofInt 48 (satS 48 y), decide (satS 48 y ≠ y))

/-- The rounding constant of ARD: half of the last place, none for a shift of 0. -/
def ardRound (sh : Nat) : Int := if sh = 0 then 0 else (2 ^ (sh - 1) : Nat)

/-- ARD: sat32((acc + r) >> sh). -/
def aluArd (acc : Acc) (sh : Nat) : Alu := aluSat (asr (acc.toInt + ardRound sh) sh)

end Sys2Proof.Machine
end

