-- ==== Sys2Proof/Machine/Phase.lean ====
section
/-!
DEFINITION. Phase channels (R40 to R69): mid, shedding, parking and adding, probes and their verdicts, isolation of
input groups, and the meanings of those commands that need no other unit.
-/
namespace Sys2Proof.Machine

/-! Events toward engines (R83): a bit is pending until the engine's next waiting boundary. -/

namespace Ev
abbrev cinchTrip : Nat := 0
abbrev cinchRel : Nat := 1
abbrev railOv : Nat := 2
abbrev railUv : Nat := 3
abbrev railOc : Nat := 4
abbrev phOut : Nat := 5
abbrev fcNew : Nat := 6
abbrev fcDue : Nat := 7
abbrev fcExp : Nat := 8
abbrev seqStart : Nat := 9
abbrev seqDone : Nat := 10
abbrev seqStop : Nat := 11
abbrev vsetChg : Nat := 12
abbrev roleChg : Nat := 13
abbrev swapped : Nat := 14
abbrev restored : Nat := 15
end Ev

/-- Event `b` is pending for the engine of phase `p`. -/
def State.event (s : State) (p b : Nat) : State := s.putBit Reg.ENG_EV.PENDING p b true

/-- Event `b` is pending for every engine of RAIL_r on tile `t`. -/
def State.railEventOn (s : State) (t r b : Nat) : State := s.over (s.phasesOn t r) fun s p => s.event p b

/-- Event `b` is pending for every engine of RAIL_r. -/
def State.railEvent (s : State) (r b : Nat) : State := s.over (s.phasesOf r) fun s p => s.event p b

/-! Halves of a rail (R278). -/

namespace Half
abbrev none : Nat := 0
abbrev both : Nat := 1
abbrev homeOnly : Nat := 2
abbrev partOnly : Nat := 3
abbrev rejoining : Nat := 4
abbrev split : Nat := 5
end Half

/-- HALF of a rail on tile `t`. -/
def State.half (s : State) (t r : Nat) : Nat := s.get Reg.MIRR_STATUS.HALF (railIx t r)

/-- The tile acts for the rail in telemetry and forecasts: the home tile, or the partner while HALF reads PART_ONLY there
(R136, R159). -/
def State.serves (s : State) (t r : Nat) : Bool :=
  if t = s.home r then decide (s.half t r ≠ Half.partOnly) && (s.partner r).all fun q => decide (s.half q r ≠ Half.partOnly)
  else s.mirrored r && decide (s.partner r = some t) && decide (s.half t r = Half.partOnly)

/-- The tile counts its own half of the rail alone: the other half is lost (R280, R283). -/
def State.alone (s : State) (t r : Nat) : Bool :=
  s.half t r = Half.homeOnly || s.half t r = Half.partOnly || s.half t r = Half.split

/-- The phases of a rail that tile `t` counts. -/
def State.counted (s : State) (t r : Nat) : List Nat := if s.alone t r then s.phasesOn t r else s.phasesOf r

/-- ACTIVE or in SPARE_HOLD. -/
def State.isActivePh (s : State) (p : Nat) : Bool := s.ph p = Ph.active || s.ph p = Ph.spareHold

/-- N_ACTIVE of the NACT port on tile `t`. -/
def State.nActive (s : State) (t r : Nat) : Nat := ((s.counted t r).filter s.isActivePh).length

/-- A count of RAIL_SHED_STATUS: the home tile's copy counts both tiles, a partner tile's its own phases (02's register table). -/
def State.shown (s : State) (t r : Nat) (f : Nat → Bool) : Nat :=
  ((if t = s.home r then s.counted t r else s.phasesOn t r).filter f).length

/-- N_PARKED of the NACT port. -/
def State.nParked (s : State) (t r : Nat) : Nat := ((s.counted t r).filter fun p => s.ph p = Ph.parked).length

/-! Pins (R40, R52 to R55). -/

/-- The engine place that drives a phase: its own slot, or the spare. -/
def State.engOf (s : State) (p : Nat) : Nat :=
  let t := tileOf p
  let stands := (s.on Reg.SPARE_STATUS.BUSY t || s.on Hid.HANDING_OVER t) && !s.on Hid.HANDING_BACK t
  engIx t (if stands && s.get Reg.SPARE_STATUS.FOR t = localOf p then 24 else localOf p)

/-- PWM to mid: both switches off, for at least 200 ns (R53, R54). Any fire or pending add ends, one that comes later in the tick is discarded, and
a host ADD of the same tick sets CMD_DROP: mid wins (R55). -/
def State.toMid (s : State) (p : Nat) : State :=
  let s := s.when (s.on Hid.HADD_TICK p) fun s => s.raise Reg.PH_STATUS.CMD_DROP p
  ((((s.put Hid.PWM_LVL p Pwm.mid.num).raise Hid.MID_BUSY p).raise Hid.MID_TICK p).clr Hid.FIRED p).clr Hid.ADD_PEND p

/-- The bit of a phase's stage group in STG_GROUP_STATUS. -/
def stageBit (p : Nat) : Nat := localOf p / 4

/-- STG_EN of the phase's stage group goes high (R52). -/
def State.stageOn (s : State) (p : Nat) : State := s.putBit Reg.STG_GROUP_STATUS.STG_EN (tileOf p) (stageBit p) true

/-- STG_EN goes low when all four phases of the group are OFF or BLOCKED, or shed by isolation (R52). -/
def State.stageCheck (s : State) (p : Nat) : State :=
  let four := phasesOfStage (tileOf p) (stageBit p)
  if four.all (fun q => s.idlePh q || (s.ph q = Ph.shed && s.get Reg.PH_STATE.CAUSE q = Cause.isolated)) then
    s.putBit Reg.STG_GROUP_STATUS.STG_EN (tileOf p) (stageBit p) false
  else s

/-- The engine of a phase stops and keeps nothing (R71); a halt ends here (R77). -/
def State.engineStop (s : State) (p : Nat) : State :=
  let x := s.engOf p
  let s := (((s.clr Hid.E_RUN x).clr Hid.E_WAIT x).clr Hid.E_SLOT x).clr Reg.ENG_STATUS.HALTED p
  ((s.clr Reg.ENG_EV.PENDING p).clr Reg.ENG_EV.EVW p).clr Reg.ENG_STATUS.OVR_RUN p

/-- The role of a phase's engine: 0 follower, 1 acting lead, 2 standby lead, which a mirrored rail alone has (R92). In a split each half has an acting lead (R283). -/
def State.roleOf (s : State) (p : Nat) : Nat :=
  let r := s.railOf p
  let t := tileOf p
  let sb := s.onAt Hid.STBY_ACT 0 r
  let split := decide (s.get Reg.MIRR_STATUS.HALF (railIx t r) = 5)
  if t = s.home r then
    if s.get Reg.RAIL_ENG_CFG.LEAD_PH (railIx t r) = localOf p then (if sb && !split then 2 else 1) else 0
  else
    if s.mirrored r && s.get Reg.RAIL_ENG_CFG.STBY_PH (railIx t r) = localOf p then (if sb || split then 1 else 2) else 0

/-- The committed output ports of an engine. -/
def engPortFlds : List Fld := [Hid.DUTY, Hid.REFOUT, Hid.MARK, Reg.ENG_USER.USER]

/-- What a Ziluoz law carries from tick to tick beside the accumulators. -/
def lawFlds : List Fld :=
  [Hid.ZL_S, Hid.ZL_VP, Hid.ZL_VI, Hid.ZL_VPREV, Hid.ZL_CYC, Hid.ZL_ROLE, Hid.ZL_STEP, Hid.ZL_RAMP, Hid.ZL_RSTEP]

/-- The engine of a phase executes from a bank. With a change of it the other bank is the inactive one, whose CRC is computed anew (R90). -/
def State.bankTo (s : State) (p b : Nat) : State :=
  if s.get Reg.ENG_STATUS.BANK p = b then s
  else ((s.put Reg.ENG_STATUS.BANK p b).clr Reg.ENG_STATUS.CRC_VALID p).raise Hid.CRC_BUSY (engIx (tileOf p) (localOf p))

/-- The engine of a phase starts with cleared registers and ports at word 0 of the rail's active bank. It takes its first snapshot at the
next boundary (R71; DEDUCED, log entry 14). A phase with no rail starts no engine. -/
def State.engineStart (s : State) (p : Nat) : State :=
  if 48 ≤ s.railOf p then s else
    let x := s.engOf p
    let s := s.over (List.range 16) fun s k => s.clrAt Hid.E_W x k
    let s := (s.clrAt Hid.E_A x 0).clrAt Hid.E_A x 1
    let s := (((s.clr Hid.E_Z x).clr Hid.E_N x).clr Hid.E_C x).clr Hid.E_V x
    let s := s.over (List.range 4) fun s k => s.clrAt Hid.E_STGW x k
    let s := (((s.clr Hid.E_PC x).clr Hid.E_SLOT x).clr Hid.E_LATE x).raise Hid.ZL_ENTRY x
    let s := (((s.clr Reg.ENG_EV.EVW p).clr Reg.ENG_EV.PENDING p).clr Reg.ENG_STATUS.OVR_RUN p).clr Reg.ENG_STATUS.HALTED p
    let s := s.over (engPortFlds ++ lawFlds) fun s f => s.clr f (if f.blk = .phase then p else x)
    let s := s.bankTo p (s.get Reg.RAIL_ENG_STATUS.ACT_BANK (railIx (tileOf p) (s.railOf p)))
    let s := s.put Reg.ENG_STATUS.ROLE p (s.roleOf p)
    (s.raise Hid.E_RUN x).raise Hid.E_WAIT x

/-- No probe of the phase runs or waits for the leading edge that ends it. -/
def State.probeOver (s : State) (p : Nat) : State := (s.clr Hid.PROBING p).clr Hid.JOIN_PEND p

/-- No mark of the phase is pending, on its tile or in the slot that brings it. -/
def State.unmark (s : State) (p : Nat) : State := (s.clr Hid.MARK_MID p).clr Hid.LOAD_SIG p

/-- The phase goes to OFF: PWM at high impedance, engine stopped, marks gone. A re-add still counts for R61 when the rail is turned off and enabled
again before the next shed (DESIGN CHOICE, log entry 100). -/
def State.toOff (s : State) (p : Nat) : State :=
  let s := s.engineStop p
  let s := ((s.put Reg.PH_STATE.STATE p Ph.off).put Hid.PWM_LVL p Pwm.hiZ.num).clr Hid.MID_BUSY p
  let s := (((s.unmark p).clr Hid.ADD_PEND p).clr Hid.FIRED p).probeOver p
  let s := ((s.clr Hid.HELD p).clr Hid.DIS_REC p).clr Hid.FPULSE p
  s.stageCheck p

/-- The phase becomes BLOCKED, held at mid. -/
def State.toBlocked (s : State) (p : Nat) : State :=
  let s := (s.engineStop p).put Reg.PH_STATE.STATE p Ph.blocked
  let s := ((s.toMid p).unmark p).probeOver p
  s.stageCheck p

/-- The phase enters PROBE: mid, stage enabled; from OFF its engine starts (R52, R63, R71). -/
def State.toProbe (s : State) (p : Nat) : State :=
  let wasOff := decide (s.ph p = Ph.off)
  let s := ((s.toMid p).put Reg.PH_STATE.STATE p Ph.probe).stageOn p
  if wasOff then s.engineStart p else s

/-- The phase is ACTIVE and joins at its next leading edge (R58; DEDUCED, log entry 15). -/
def State.toActive (s : State) (p : Nat) : State := (s.put Reg.PH_STATE.STATE p Ph.active).raise Hid.ADD_PEND p

/-! Shedding (R49, R53, R56, R61). -/

/-- The phase was re-added and is shed again with the same cause, for the third time (R61). -/
def State.thirdRepeat (s : State) (p cause : Nat) : Bool :=
  s.on Hid.READD_DONE p && decide (s.get Hid.READD_CAUSE p = cause) && decide (2 ≤ s.get Reg.PH_COUNTS.REPEAT p)

/-- Counts a re-add that ended in a shed with the same cause. -/
def State.countRepeat (s : State) (p cause : Nat) : State :=
  if s.on Hid.READD_DONE p && decide (s.get Hid.READD_CAUSE p = cause) then s.bump Reg.PH_COUNTS.REPEAT p else s

/-- A phase that is not OFF, BLOCKED or SHED is shed with a cause: mid, SHED_EVT, SHED_COUNT, PH_OUT to its engine. The third
repeat of R61 leaves it BLOCKED. -/
def State.shedNow (s : State) (p cause : Nat) : State :=
  let third := s.thirdRepeat p cause
  let s := (s.countRepeat p cause).clr Hid.READD_DONE p
  if third then (s.toBlocked p).raise Reg.PH_STATUS.REPEAT_BLOCK p else
    let s := ((s.toMid p).unmark p).probeOver p
    let s := (s.put Reg.PH_STATE.STATE p Ph.shed).put Reg.PH_STATE.CAUSE p cause
    ((s.raise Reg.PH_STATUS.SHED_EVT p).bump Reg.PH_COUNTS.SHED_COUNT p).event p Ev.phOut

/-- A fault sheds an ACTIVE or PARKED phase, and one in SPARE_HOLD (R49, R101). -/
def State.shed (s : State) (p cause : Nat) : State :=
  if s.sheddable p || s.ph p = Ph.spareHold then s.shedNow p cause else s

/-- A fault of the engine, or its third overrun, sheds a phase in every state but OFF, BLOCKED and SHED: a probe of it ends, and a re-add command
with it (R53, R76, R99, R102). -/
def State.shedAny (s : State) (p cause : Nat) : State :=
  if s.idlePh p || s.ph p = Ph.shed then s
  else ((if s.on Hid.PROBING p then s.complete (.phAdd p) JStatus.failed 0 else s).shedNow p cause)

/-- IMON_FAULT_TRIP (R49): the comparator's trip sheds the phase; in other states it feeds the pre-start verdicts only. -/
def execImonFaultTrip (p : Phase) (s : State) : Host.Outcome State Fault Refusal :=
  .next (if s.sheddable p || s.ph p = Ph.spareHold then (s.shed p.val Cause.imonFault).raise Reg.PH_STATUS.IMON_FLT p.val else s)

/-- IMON_NO_REPORT (R49). -/
def execImonNoReport (p : Phase) (s : State) : Host.Outcome State Fault Refusal := .next (s.shed p.val Cause.noReport)

/-- A stage group's fault line: the level and event show, and every ACTIVE or PARKED phase of the group is shed (R50). -/
def State.stageFault (s : State) (t g : Nat) : State :=
  let s := (s.putBit Reg.STG_GROUP_STATUS.TF_FAULT t g true).putBit Reg.STG_GROUP_STATUS.TF_FLT_EVT t g true
  s.over (phasesOfStage t g) fun s p =>
    if s.sheddable p || s.ph p = Ph.spareHold then (s.shed p Cause.tfFault).raise Reg.PH_STATUS.TF_FLT p else s

/-- STG_TF_FAULT (R50). -/
def execStgTfFault (t : Tile) (g : Fin 6) (s : State) : Host.Outcome State Fault Refusal := .next (s.stageFault t.val g.val)

/-- The readable temperature of a group with TF_LOW set is 0x8000, no valid temperature (R51). -/
def State.noStageTemp (s : State) (t g : Nat) : State :=
  if g % 2 = 0 then s.putAt Reg.STG_TEMP.TEMP_EVEN t (g / 2) 0x8000 else s.putAt Reg.STG_TEMP.TEMP_ODD t (g / 2) 0x8000

/-- A stage group is no longer derated, and its readings count anew. -/
def State.unDerate (s : State) (t g : Nat) : State :=
  ((s.putBit Reg.STG_DERATE.DERATE t g false).clrAt Hid.STG_HI_N t g).clrAt Hid.STG_LO_N t g

/-- STG_TF_LOW (R50, R202): an open or shorted line sets TF_LOW and the event, sheds nothing, and ends the group's derating. -/
def execStgTfLow (t : Tile) (g : Fin 6) (s : State) : Host.Outcome State Fault Refusal :=
  .next ((((s.putBit Reg.STG_GROUP_STATUS.TF_LOW t.val g.val true).putBit Reg.STG_GROUP_STATUS.TF_FLT_EVT t.val g.val true).noStageTemp
    t.val g.val).unDerate t.val g.val)

/-- The 200 ns of mid are over; a phase that fires goes high now (R54). -/
def State.midHoldEnd (s : State) (p : Nat) : State :=
  let s := s.clr Hid.MID_BUSY p
  if s.on Hid.FIRED p then s.put Hid.PWM_LVL p Pwm.pulse.num else s

/-- MID_HOLD_END (R54). -/
def execMidHoldEnd (p : Phase) (s : State) : Host.Outcome State Fault Refusal := .next (s.midHoldEnd p.val)

/-! The cycle and the pulse (R41 to R46, R69). -/

/-- PER_ACT a tile wants: PER_CNT, or 5/4 of it up to 8 000 while throttled (R45, R204). -/
def State.wantedPeriod (s : State) (i : Nat) : Nat :=
  let c := s.get Reg.RAIL_PWM.PER_CNT i
  if s.on Hid.THR_ACT i then min (c * 5 / 4) 8000 else c

/-- The throttle decision takes effect at the first cycle start at or after tick d + 16, from which on it no longer waits (R204). -/
def State.throttleStep (s : State) (t r : Nat) : State :=
  if s.on Hid.THR_WAIT (railIx t r) then s else s.put Hid.THR_ACT (railIx t r) (s.getAt Hid.THR_WANT 0 r)

/-- A phase's leading-edge position: OFFSET scaled to the period in force, then modulo the period (R45). -/
def leadPos (offset perAct perCnt : Nat) : Nat := (offset * perAct / perCnt) % perAct

/-- The rail's cycle counter on a tile at the last boundary, in taps. -/
def State.cycTaps (s : State) (i : Nat) : Nat := s.get Hid.CYC_CNT i * 16 + s.get Hid.CYC_TAP i

/-- The counter passes through 0 in the present tick: it stood there at its boundary, or reaches the end of its period before the next one. -/
def State.cycleDue (s : State) (i : Nat) : Bool :=
  !s.on Hid.CYC_NOW i && (s.cycTaps i = 0 || decide (s.get Reg.RAIL_PWM.PER_ACT i * 16 < s.cycTaps i + 256))

/-- A rail's cycle counter starts a new period on a tile, in the tick in which it ends the old one: PER_ACT and the phases' offsets take effect
(R45, R46, R69). -/
def State.cycleStart (s : State) (r t : Nat) : State :=
  let i := railIx t r
  if !s.cycleDue i then s else
  let s := s.throttleStep t r
  let s := s.put Hid.CYC_WRAP i (s.get Reg.RAIL_PWM.PER_ACT i)
  let s := (s.put Reg.RAIL_PWM.PER_ACT i (s.wantedPeriod i)).raise Hid.CYC_NOW i
  s.over (s.phasesOn t r) fun s p =>
    let s := s.when (s.on Hid.OFS_PEND p) fun s => (s.put Hid.OFS_ACT p (s.get Reg.PH_TIMING.OFFSET p)).clr Hid.OFS_PEND p
    s.put Hid.LEAD_POS p (leadPos (s.get Hid.OFS_ACT p) (s.get Reg.RAIL_PWM.PER_ACT i) (s.get Reg.RAIL_PWM.PER_CNT i))

/-- CYCLE_START (R45). -/
def execCycleStart (r : Rail) (t : Tile) (s : State) : Host.Outcome State Fault Refusal := .next (s.cycleStart r.val t.val)

/-- The clamp of an on-time in taps; 0 is not clamped (R42). -/
def clampOnTime (ton tonMin toffMin perAct : Nat) : Nat :=
  if ton = 0 then 0 else max (tonMin * 16) (min ton ((perAct - toffMin) * 16))

/-- The on-time in force becomes the clamped committed duty; a clamped cycle is counted once (R41, R42). -/
def State.setOnTime (s : State) (p : Nat) : State :=
  let d := s.get Hid.DUTY p
  let v := clampOnTime d (s.get Reg.PH_TIMING.TON_MIN p) (s.get Reg.PH_TIMING.TOFF_MIN p)
    (s.get Reg.RAIL_PWM.PER_ACT (railIx (tileOf p) (s.railOf p)))
  let s := s.put Hid.ONTIME_ACT p v
  if v ≠ d && !s.on Hid.CLAMPED_CYC p then
    ((s.raise Reg.PH_STATUS.CLAMP p).bump Reg.PH_COUNTS.CLAMP_COUNT p).raise Hid.CLAMPED_CYC p
  else s

/-- Diode emulation holds for the rail on the phase's tile (R43, R117). -/
def State.deOn (s : State) (p : Nat) : Bool :=
  let i := railIx (tileOf p) (s.railOf p)
  s.on Reg.RAIL_PWM.DE i || s.on Hid.DE_FORCE i

/-- A phase whose re-add probe has passed becomes ACTIVE at its leading edge (R60). -/
def State.joinActive (s : State) (p : Nat) : State :=
  if s.on Hid.JOIN_PEND p && s.ph p = Ph.probe then (s.clr Hid.JOIN_PEND p).toActive p else s

/-- A phase reaches its leading edge. One whose probe has passed becomes ACTIVE. A pending mark takes it to mid: shed by the host, held by its rail's
shut-down, or parked by the load rule. Otherwise an ACTIVE phase joins or pulses with its on-time, which is in force also while the phase fires. An
on-time of 0 skips the pulse: low, or mid where diode emulation holds it; a phase still in its 200 ns of mid, one that fires and one that a shut-down
holds are left at their level (R41, R42, R53, R54, R60, R62, R82, R175). A cycle in which the limiter did not act restarts its count (R194). -/
def State.leadingEdge (s : State) (p : Nat) : State :=
  let s := s.when (!s.on Hid.CUT p) fun s => s.clr Hid.OC_N p
  let s := ((s.clr Hid.CLAMPED_CYC p).clr Hid.CUT p).joinActive p
  let mark := s.get Hid.MARK_MID p
  if mark = 3 then (((s.toMid p).clr Hid.MARK_MID p)).raise Hid.HELD p
  else if mark = 2 && (s.sheddable p || s.ph p = Ph.spareHold) then s.shedNow p Cause.host
  else if s.on Hid.HELD p then s.clr Hid.MARK_MID p
  else if mark = 1 && s.ph p = Ph.active then
    (((s.toMid p).clr Hid.MARK_MID p).put Reg.PH_STATE.STATE p Ph.parked).raise Reg.PH_STATUS.PARK_EVT p
  else
    let s := s.clr Hid.MARK_MID p
    if !(s.ph p = Ph.active || s.ph p = Ph.spareHold) then s else
    let s := s.setOnTime p
    if s.on Hid.FIRED p || s.on Hid.MID_BUSY p then s else
      let held := s.get Hid.PWM_LVL p = Pwm.mid.num && s.deOn p && !s.on Hid.ADD_PEND p
      let s := s.clr Hid.ADD_PEND p
      if s.get Hid.ONTIME_ACT p = 0 then (if held then s else s.put Hid.PWM_LVL p Pwm.low.num)
      else s.put Hid.PWM_LVL p Pwm.pulse.num

/-- PHASE_LEADING_EDGE (R53). -/
def execPhaseLeadingEdge (p : Phase) (s : State) : Host.Outcome State Fault Refusal := .next (s.leadingEdge p.val)

/-! The load rule (R57 to R59). -/

/-- The phase of a list with the highest rank, the highest number breaking a tie. -/
def State.highestRank (s : State) (l : List Nat) : Option Nat :=
  l.foldl (fun best p =>
    match best with
    | none => some p
    | some q => if s.get Reg.PH_CFG.SHED_RANK q ≤ s.get Reg.PH_CFG.SHED_RANK p then some p else some q) none

/-- The phase of a list with the lowest rank, the lowest number breaking a tie. -/
def State.lowestRank (s : State) (l : List Nat) : Option Nat :=
  l.foldl (fun best p =>
    match best with
    | none => some p
    | some q => if s.get Reg.PH_CFG.SHED_RANK p < s.get Reg.PH_CFG.SHED_RANK q then some p else some q) none

/-- The phases of a rail that its load rule may park: ACTIVE, on the tiles the rule counts, with no mark pending. -/
def State.parkable (s : State) (r : Nat) : List Nat :=
  (s.counted (s.leadTile r) r).filter fun p => s.ph p = Ph.active && s.get Hid.MARK_MID p = 0 && s.get Hid.LOAD_SIG p = 0

/-- The phases it may add: PARKED, with no diagnosis and no add on its way. -/
def State.addable (s : State) (r : Nat) : List Nat :=
  (s.counted (s.leadTile r) r).filter fun p => s.ph p = Ph.parked && !s.underDiag p && s.get Hid.LOAD_SIG p = 0

/-- The half of a mirrored rail that a park is taken from: the one with more active phases, the home half when equal. -/
def State.parkFrom (s : State) (r : Nat) : List Nat :=
  let all := s.parkable r
  if s.mirrored r && !s.alone (s.leadTile r) r then
    let h := all.filter fun p => tileOf p = s.home r
    let q := all.filter fun p => tileOf p ≠ s.home r
    if h.length < q.length then q else h
  else all

/-- The half an add comes from: the one with fewer active phases, the home half when equal, the other half when it holds no PARKED
phase. -/
def State.addFrom (s : State) (r : Nat) : List Nat :=
  let all := s.addable r
  if s.mirrored r && !s.alone (s.leadTile r) r then
    let act := s.activeOf r
    let hn := (act.filter fun p => tileOf p = s.home r).length
    let h := all.filter fun p => tileOf p = s.home r
    let q := all.filter fun p => tileOf p ≠ s.home r
    let first := if act.length - hn < hn then q else h
    let other := if act.length - hn < hn then h else q
    if first.isEmpty then other else first
  else all

/-- MIN_ACTIVE, of which 0 acts as 1. -/
def State.minActive (s : State) (r : Nat) : Nat := max 1 (s.get Reg.RAIL_SHED.MIN_ACTIVE (s.homeIx r))

/-- A PARKED phase is added: ACTIVE, joining at its next leading edge (R58). A mid cause of the same tick wins, and a host SHED that is pending stays so
(R55, R62). -/
def State.addParked (s : State) (p : Nat) : State :=
  if s.ph p = Ph.parked && !s.on Hid.MID_TICK p then
    (s.when (s.get Hid.MARK_MID p = 1) fun s => s.clr Hid.MARK_MID p).toActive p
  else s

/-- The load rule of tile `t` acts on a phase: at once on its own tile, by the flag of the rail's slot on the other one (R57; DESIGN CHOICE, log
entry 38). -/
def State.loadSignal (s : State) (t p k : Nat) : State :=
  if tileOf p = t then (if k = 1 then s.put Hid.MARK_MID p 1 else s.addParked p)
  else (s.put Hid.LOAD_SIG p k).put Hid.LOAD_AT p (s.get Hid.TICK t)

/-- The ticks of SHED_DWELL, of which 0 acts as 1. -/
def State.dwellTicks (s : State) (i : Nat) : Nat := max 1 (s.get Reg.RAIL_SHED.SHED_DWELL i) * 100

/-- The park condition has held for SHED_DWELL, with more phases active than MIN_ACTIVE, those counted out whose park is pending: one phase is marked
for mid, and the dwell restarts. An add of the same tick wins (R57, R59; DEDUCED, log entry 123). -/
def State.parkOne (s : State) (r : Nat) : State :=
  let t := s.leadTile r
  let i := railIx t r
  let going := (s.counted t r).filter fun p => s.get Hid.MARK_MID p = 1 || s.get Hid.LOAD_SIG p = 1
  if s.get Reg.RAIL_SHED.SHED_BELOW i = 0 || decide (s.get Hid.DWELL i < s.dwellTicks i) || decide (s.nActive t r ≤ s.minActive r + going.length) then s
  else if s.on Hid.ADD_NOW i then s.clr Hid.DWELL i
  else
    match s.highestRank (s.parkFrom r) with
    | some p => ((s.loadSignal t p 1).raise Hid.MARK_NEW p).clr Hid.DWELL i
    | none => s

/-- PARK_DWELL_EXPIRE (R57). -/
def execParkDwellExpire (r : Rail) (s : State) : Host.Outcome State Fault Refusal := .next (s.parkOne r.val)

/-- One PARKED phase is added back when the add condition has held for 1 µs, which starts again after it (R58; DESIGN CHOICE, log entry 100). An add
wins over a park of the same tick, and the dwell restarts (R59). -/
def State.addOne (s : State) (r : Nat) : State :=
  let t := s.leadTile r
  let i := railIx t r
  if s.get Hid.ADD_HELD i < 100 then s else
    match s.lowestRank (s.addFrom r) with
    | some p =>
      let parked := (s.counted t r).filter fun q => s.on Hid.MARK_NEW q
      let s := s.over parked fun s q => (s.unmark q).clr Hid.MARK_NEW q
      let s := (s.clr Hid.ADD_HELD i).when (!parked.isEmpty) fun s => s.clr Hid.DWELL i
      (s.loadSignal t p 2).raise Hid.ADD_NOW i
    | none => s

/-- ADD_THRESHOLD_HELD (R58). -/
def execAddThresholdHeld (r : Rail) (s : State) : Host.Outcome State Fault Refusal := .next (s.addOne r.val)

/-- Every PARKED phase is added by tile `t` at once: an accepted forecast with FC_ADD (R58). -/
def State.addAllParked (s : State) (t r : Nat) : State := s.over (s.addable r) fun s p => s.loadSignal t p 2

/-! PH_CMD (R60, R62). -/

/-- SHED: an ACTIVE or PARKED phase is marked and becomes SHED with cause HOST at its next leading edge. An ADD in the same write is
dropped. -/
def State.hostShed (s : State) (w : Who) (p : Nat) (withAdd : Bool) : State :=
  let s := s.jDone w Reg.PH_CMD.SHED p (s.railOf p)
  let s := s.when withAdd fun s => s.raise Reg.PH_STATUS.CMD_DROP p
  s.when (s.sheddable p) fun s => s.put Hid.MARK_MID p 2

/-- PH_SHED (R62). -/
def execPhShed (w : Who) (p : Phase) (withAdd : Bool) (s : State) : Host.Outcome State Fault Refusal :=
  .next (s.hostShed w p.val withAdd)

/-- The re-add probe starts: the phase goes to PROBE, and the cause it was shed with is remembered (R60, R61). -/
def State.readdStart (s : State) (p : Nat) : State :=
  if s.ph p = Ph.shed then
    ((s.put Hid.READD_CAUSE p (s.get Reg.PH_STATE.CAUSE p)).toProbe p).raise Hid.PROBING p
  else s

/-- ADD: a PARKED phase is added at once; a SHED phase starts its re-add probe, after the clock-readiness wait; a mid cause of the
same tick, and the shutdown of the tile, discard the add; in any other state nothing happens (R55, R60, R62, R205, R206; DEDUCED, log entry 42). -/
def State.hostAdd (s : State) (w : Who) (p : Nat) : State :=
  let out := s.ph p = Ph.parked || s.ph p = Ph.shed
  if out && (s.on Hid.MID_TICK p || s.on Hid.TSD_ON (tileOf p)) then (s.jDone w Reg.PH_CMD.ADD p (s.railOf p)).raise Reg.PH_STATUS.CMD_DROP p
  else if s.underDiag p then s.put Hid.DIAG_ADD p (whoIx w + 1)
  else if s.ph p = Ph.shed then
    let ready := s.clockReady [tileOf p]
    let s := s.acceptReg w (.phAdd p) Reg.PH_CMD.ADD p (s.railOf p) ready
    if ready then (s.readdStart p).raise Hid.HADD_TICK p else s
  else ((s.jDone w Reg.PH_CMD.ADD p (s.railOf p)).addParked p).when out fun s => s.raise Hid.HADD_TICK p

/-- PH_ADD (R60). -/
def execPhAdd (w : Who) (p : Phase) (s : State) : Host.Outcome State Fault Refusal := .next (s.hostAdd w p.val)

/-- UNBLOCK: a BLOCKED phase whose rail is off returns to OFF; in any other case the request is dropped (R62). -/
def State.hostUnblock (s : State) (w : Who) (p : Nat) : State :=
  let off := decide (48 ≤ s.railOf p) || decide (s.rs (s.railOf p) = Rs.off)
  let s := s.jDone w Reg.PH_CMD.UNBLOCK p (s.railOf p)
  if s.ph p = Ph.blocked && off then s.toOff p else s.raise Reg.PH_STATUS.CMD_DROP p

/-- PH_UNBLOCK (R62). -/
def execPhUnblock (w : Who) (p : Phase) (s : State) : Host.Outcome State Fault Refusal := .next (s.hostUnblock w p.val)

/-! Isolation (R65 to R68). -/

/-- ISO_N of a group is low: some die's latch asserts it (R65). -/
def State.isoLow (s : State) (g : Nat) : Bool :=
  (List.range 4).any (fun t => s.bit Reg.ISO_STATE.ISO_DRIVE t g) || (List.range 2).any fun m => s.bit Hid.ISO_LATCH_M m g

/-- A tile latches its assertion of ISO_N. -/
def State.isoTile (s : State) (t g : Nat) : State := s.putBit Reg.ISO_STATE.ISO_DRIVE t g true

/-- A manager latches its assertion of ISO_N. -/
def State.isoMgr (s : State) (m g : Nat) : State := s.putBit Hid.ISO_LATCH_M m g true

/-- ISO_ASSERT (R66): the manager that takes the write latches its assertion; the shadow's ISO_CTRL takes no core write (R458). -/
def execIsoAssert (w : Who) (m : Mgr) (g : Group) (s : State) : Host.Outcome State Fault Refusal :=
  .next (if s.reach w m = s.act then ((s.served w m.val).jDone w Reg.ISO_CTRL.ASSERT 0 noTarget).isoMgr s.act g.val
    else s.busError w m.val)

/-- The rails with a phase in an input group. -/
def State.railsOfGroup (s : State) (g : Nat) : List Nat :=
  (List.range 48).filter fun r => (s.phasesOf r).any fun p => s.get Reg.PH_CFG.VING p = g

/-- RELEASE clears the latch on every die when every rail with a phase in the group is off, and is dropped and journalled with
status ISO_BUSY otherwise (R68). -/
def State.isoRelease (s : State) (w : Who) (g : Nat) : State :=
  if (s.railsOfGroup g).all fun r => s.rs r = Rs.off then
    let s := s.jDone w Reg.ISO_CTRL.RELEASE 0 noTarget
    let s := s.over (List.range 4) fun s t => s.putBit Reg.ISO_STATE.ISO_DRIVE t g false
    s.over (List.range 2) fun s m => s.putBit Hid.ISO_LATCH_M m g false
  else s.jRefused w Reg.ISO_CTRL.RELEASE 0 noTarget JStatus.isoBusy

/-- ISO_RELEASE (R68). -/
def execIsoRelease (w : Who) (g : Group) (s : State) : Host.Outcome State Fault Refusal := .next (s.isoRelease w g.val)

/-- A tile that senses ISO_N low sheds its ACTIVE or PARKED phases of the group (R66). -/
def State.isoShed (s : State) (t g : Nat) : State :=
  if s.isoLow g then s.over (s.phasesInGroup t g) fun s p => (s.shed p Cause.isolated).stageCheck p else s

/-! Configuration of the phase (R69). -/

/-- PH_TIMING_WRITE (R69): accepted whole in OFF or BLOCKED; otherwise only when TON_MIN and TOFF_MIN stay as they are, and then
OFFSET takes effect at the next cycle start. -/
def execPhTimingWrite (_w : Who) (p : Phase) (offset : BitVec 16) (tonMin toffMin : Byte) (s : State) :
    Host.Outcome State Fault Refusal :=
  let q := p.val
  let same := s.get Reg.PH_TIMING.TON_MIN q = tonMin.toNat && s.get Reg.PH_TIMING.TOFF_MIN q = toffMin.toNat
  .next (
    if s.idlePh q || same then
      (((s.put Reg.PH_TIMING.OFFSET q offset.toNat).put Reg.PH_TIMING.TON_MIN q tonMin.toNat).put
        Reg.PH_TIMING.TOFF_MIN q toffMin.toNat).raise Hid.OFS_PEND q
    else s.raise Reg.PH_STATUS.CFG_REJ q)

/-! The current report and the probes (R47, R48, R60, R63, R64). -/

/-- IPH of a code (R47). -/
def iphOf (code : Nat) (iofs : Int) (scale : Nat) : Int :=
  satS 16 (asr (((code : Int) - 2048 - iofs) * scale) 12)

/-- The measured offset of 256 codes (R48). -/
def offsetOf (codeSum : Nat) : Int := ((codeSum + 128) / 256 : Nat) - 2048

namespace Verdict
abbrev pass : Nat := 1
abbrev hsShort : Nat := 2
abbrev prebias : Nat := 3
abbrev unprompted : Nat := 4
abbrev tfGroup : Nat := 5
abbrev noReport : Nat := 6
abbrev offset : Nat := 7
end Verdict

/-- The verdict of a probe: the first failing one in table order. `prebias` is given only where it applies (R63). -/
def verdictOf (o : ProbeObs) (prebias : Bool) : Nat :=
  if o.hsTrip then Verdict.hsShort
  else if prebias then Verdict.prebias
  else if o.midTrip then Verdict.unprompted
  else if o.tfTrip then Verdict.tfGroup
  else if offsetOf o.codeSum < -512 then Verdict.noReport
  else if (offsetOf o.codeSum).natAbs > 64 then Verdict.offset
  else Verdict.pass

/-- An offset within 64 codes is written to IOFS with AUTO_OFS set (R48). -/
def State.writeOffset (s : State) (p : Nat) (o : ProbeObs) : State :=
  if s.on Reg.PH_CFG.AUTO_OFS p && decide ((offsetOf o.codeSum).natAbs ≤ 64) then
    s.putI Reg.PH_ICAL.IOFS p (offsetOf o.codeSum)
  else s

/-- A failing verdict blocks the phase and sets PROBE_FAIL; HS_SHORT and PREBIAS assert ISO_N of its input group (R64, R66). -/
def State.probeFailed (s : State) (p v : Nat) : State :=
  let s := (s.toBlocked p).raise Reg.PH_STATUS.PROBE_FAIL p
  if v = Verdict.hsShort || v = Verdict.prebias then s.isoTile (tileOf p) (s.get Reg.PH_CFG.VING p) else s

/-- READD_PROBE_COMPLETE (R60): a pass makes the phase ACTIVE at its next leading edge; a failing verdict blocks it. On a rail that runs, the rail goes
on and its other phases stay as they are: of R64's responses the block, PROBE_FAIL and the isolation apply (DESIGN CHOICE, log entry 100). -/
def State.readdComplete (s : State) (p : Nat) (o : ProbeObs) : State :=
  if !s.on Hid.PROBING p then s else
    let v := verdictOf o false
    let s := ((s.writeOffset p o).put Reg.PH_STATE.VERDICT p v).clr Hid.PROBING p
    if v = Verdict.pass then ((s.raise Hid.JOIN_PEND p).raise Hid.READD_DONE p).complete (.phAdd p) JStatus.ok 0
    else (s.probeFailed p v).complete (.phAdd p) JStatus.failed v

end Sys2Proof.Machine
end

