-- ==== Sys2Proof/Machine/Engine.lean ====
section
/-!
DEFINITION. The phase engines' instructions (R70 to R88). A command names the engine and the operands; it executes in one slot
of an engine that runs, is not halted and has not executed WAITT in the present tick, and does nothing otherwise
(DEDUCED, log entry 3).
-/
namespace Sys2Proof.Machine

/-- The spare of a tile stands in, or is taking over, for some engine. -/
def State.spareServes (s : State) (t : Nat) : Bool :=
  s.on Reg.SPARE_STATUS.BUSY t || s.on Hid.HANDING_OVER t

/-- The place of an engine's registers: its phase's block. The spare shows in the block of the phase it serves; while it stands by
its registers have a place of their own, 96 + t (DESIGN CHOICE, log entry 16). -/
def State.engPhase (s : State) (t e : Nat) : Nat :=
  if e < 24 then t * 24 + e
  else if s.spareServes t then t * 24 + s.get Reg.SPARE_STATUS.FOR t else 96 + t

/-- The slot whose memories an engine executes from: its own, or for the spare that of the engine it serves (R100). -/
def State.memSlot (s : State) (t e : Nat) : Nat :=
  if e < 24 then e else if s.spareServes t then s.get Reg.SPARE_STATUS.FOR t else 24

/-- A data register. -/
def State.w (s : State) (x k : Nat) : Word := BitVec.ofNat 32 (s.getAt Hid.E_W x k)

/-- Writes a data register. -/
def State.setW (s : State) (x k : Nat) (v : Word) : State := s.putAt Hid.E_W x k v.toNat

/-- An accumulator. -/
def State.acc (s : State) (x k : Nat) : Acc := BitVec.ofNat 48 (s.getAt Hid.E_A x k)

/-- Writes an accumulator. -/
def State.setAcc (s : State) (x k : Nat) (v : Acc) : State := s.putAt Hid.E_A x k v.toNat

/-- Writes the four flags. -/
def State.setFlags (s : State) (x : Nat) (z n c v : Bool) : State :=
  (((s.putB Hid.E_Z x z).putB Hid.E_N x n).putB Hid.E_C x c).putB Hid.E_V x v

/-- Z and N from a word, C and V as given. -/
def State.aluFlags (s : State) (x : Nat) (r : Alu) : State := s.setFlags x (r.val = 0) r.val.msb r.c r.v

/-- Writes a result with its flags. -/
def State.setAlu (s : State) (x d : Nat) (r : Alu) : State := (s.setW x d r.val).aluFlags x r

/-- The engine executes an instruction in this slot (R72, R73, R77). -/
def State.engReady (s : State) (x i : Nat) : Bool :=
  s.on Hid.E_RUN x && !s.on Reg.ENG_STATUS.HALTED i && !s.on Hid.E_WAIT x && decide (s.get Hid.E_SLOT x < 40)

/-! Engine faults and the spare (R98 to R104). -/

/-- KIND of a fault (R98). -/
def faultKind : EngFault → Nat
  | .datapath => 1 | .regfile => 2 | .sequence => 3 | .memProg => 4 | .memData => 5

/-- KIND of an injected fault. -/
def kindInjected : Nat := 6

/-- The spare may take an engine over. -/
def State.spareFree (s : State) (t : Nat) : Bool :=
  !s.spareServes t && !s.on Hid.HANDING_BACK t && !s.on Hid.SPARE_BAD t

/-- The checkpoint of one engine place becomes the state of another; a bank swap that waited for the engine waits on (R97, R101, R104). -/
def State.loadCheckpoint (s : State) (src dst p : Nat) : State :=
  let s := s.over (List.range 16) fun s k => s.putAt Hid.E_W dst k (s.getAt Hid.CK_W src k)
  let s := (s.putAt Hid.E_A dst 0 (s.getAt Hid.CK_A src 0)).putAt Hid.E_A dst 1 (s.getAt Hid.CK_A src 1)
  let s := s.setFlags dst (s.onAt Hid.CK_FL src 0) (s.onAt Hid.CK_FL src 1) (s.onAt Hid.CK_FL src 2) (s.onAt Hid.CK_FL src 3)
  let s := s.over (List.range 4) fun s k => s.clrAt Hid.E_STGW dst k
  let s := ((s.put Hid.E_PC dst (s.get Hid.CK_PC src)).clr Hid.E_SLOT dst).put Hid.E_LATE dst (s.get Hid.E_LATE src)
  let s := (s.bankTo p (s.get Hid.CK_BANK src)).put Reg.ENG_EV.EVW p (s.get Hid.CK_EVW src)
  let s := s.over (Hid.ZL_ENTRY :: lawFlds) fun s f => s.put f dst (s.get f src)
  let s := s.over (List.range 96) fun s k => s.putAt Hid.ZL_PAR dst k (s.getAt Hid.ZL_PAR src k)
  ((s.clr Reg.ENG_STATUS.OVR_RUN p).event p Ev.restored).raise Hid.E_WAIT dst

/-- An ACTIVE phase holds its duty while its engine changes. -/
def State.holdDuty (s : State) (p : Nat) : State := if s.ph p = Ph.active then s.put Reg.PH_STATE.STATE p Ph.spareHold else s

/-- The spare runs in the place of engine `e`. -/
def State.spareRuns (s : State) (t e : Nat) : Bool :=
  s.spareServes t && !s.on Hid.HANDING_BACK t && decide (s.get Reg.SPARE_STATUS.FOR t = e)

/-- A fault of an engine: its kind is recorded, and the spare takes the phase when the kind and the checkpoint allow it, the engine is not halted and
the spare is free; otherwise the phase is shed with cause ENGINE_LOST. A fault of the spare while it stands in sheds the phase it
serves (R98, R99, R101, R102). -/
def State.engineFault (s : State) (t e kind : Nat) (ckptOk : Bool) : State :=
  if e = 24 then
    if s.spareServes t then
      ((s.put Reg.SPARE_STATUS.SPARE_KIND t kind).shedAny (s.engPhase t 24) Cause.engineLost).awlError Awl.spare t 0
    else s
  else
    let p := t * 24 + e
    if s.spareRuns t e then s else
      let loading := s.on Hid.HANDING_BACK t && decide (s.get Reg.SPARE_STATUS.FOR t = e)
      let s := ((s.put Reg.ENG_FAULT.KIND p kind).clr Reg.ENG_FAULT.PROBE_OK p).awlError Awl.engine t e
      if !s.on Hid.E_RUN (engIx t e) && !loading then s
      else if kind ≠ 4 && kind ≠ 5 && ckptOk && !s.on Reg.ENG_STATUS.HALTED p && s.spareFree t then
        let s := (s.clr Hid.E_RUN (engIx t e)).holdDuty p
        let s := s.loadCheckpoint (engIx t e) (engIx t 24) p
        ((s.put Reg.SPARE_STATUS.FOR t e).put Hid.HANDING_OVER t 1).clr Hid.E_RUN (engIx t 24)
      else s.shedAny p Cause.engineLost

/-! Upsets of the engine memories (R89). -/

/-- What a read of a word meets. -/
def State.upsetAt (s : State) (a : Nat) : Upset := ((s.ecc.find? fun x => x.1 = a).map fun x => x.2).getD .clean

/-- The word at an address is good in both copies. -/
def State.repaired (s : State) (a : Nat) : State := { s with ecc := s.ecc.filter fun x => x.1 ≠ a }

/-- A word is lost in both copies: a fault of the engine that executes from the memory, its own one or the spare. The spare's own memory serves no
phase (R98, R100, R102). -/
def State.memFault (s : State) (t e kind : Nat) : State :=
  if e = 24 then s else s.engineFault t (if s.spareRuns t e then 24 else e) kind true

/-- Word `off` of the memory of slot `e` is read: a correction counts and repairs the bad copy; one with three or more upset bits that passes as valid is
used as read, and the rules do not say what it reads as; a word lost in both copies is an engine fault (R89). The flag says that the word
can be used. -/
def State.eccRead (s : State) (t e off : Nat) : State × Bool :=
  let a := engMem t e + off * 4
  match s.upsetAt a with
  | .clean => (s, true)
  | .corrected => (((s.bump Reg.ENG_COUNTS.ECC_COUNT (if e < 24 then t * 24 + e else 96 + t)).repaired a).awlError Awl.engineWord t e, true)
  | .lost => ((s.memFault t e (if off < 2048 then 4 else 5)).awlError Awl.engineWord t e, false)
  | .passed => (s.draw.2.wrEng a (wordBytes (BitVec.ofNat 32 s.draw.1)), true)

/-! Instructions. -/

/-- The word that an engine fetches next. -/
def State.fetchOff (s : State) (x i : Nat) : Nat := s.get Reg.ENG_STATUS.BANK i * 1024 + s.get Hid.E_PC x

/-- One instruction in one slot: its word is fetched, the PC moves to the next word, and the operation follows; a branch sets the PC again. A word that
no read can correct is a fault and executes nothing (R72, R89). -/
def State.engExec (s : State) (t e : Nat) (g : State → Nat → Nat → State) : State :=
  let x := engIx t e
  let i := s.engPhase t e
  if s.engReady x i then
    let f := s.eccRead t (s.memSlot t e) (s.fetchOff x i)
    if f.2 then g ((f.1.put Hid.E_PC x (f.1.get Hid.E_PC x + 1)).put Hid.E_SLOT x (f.1.get Hid.E_SLOT x + 1)) x i else f.1
  else s

/-- An instruction that writes register d from registers a and b with flags. -/
def State.engAlu (s : State) (t e : Nat) (d a b : Fin 16) (f : Word → Word → Alu) : State :=
  s.engExec t e fun s x _ => s.setAlu x d (f (s.w x a) (s.w x b))

/-- NOP (R87). -/
def execNop (t : Tile) (e : Slot) (s : State) : Host.Outcome State Fault Refusal := .next (s.engExec t e fun s _ _ => s)

/-- ADD (R87). -/
def execAdd (t : Tile) (e : Slot) (d a b : Fin 16) (s : State) : Host.Outcome State Fault Refusal := .next (s.engAlu t e d a b aluAdd)

/-- SUB (R87). -/
def execSub (t : Tile) (e : Slot) (d a b : Fin 16) (s : State) : Host.Outcome State Fault Refusal := .next (s.engAlu t e d a b aluSub)

/-- ADDS (R87). -/
def execAdds (t : Tile) (e : Slot) (d a b : Fin 16) (s : State) : Host.Outcome State Fault Refusal :=
  .next (s.engAlu t e d a b fun a b => aluSat (a.toInt + b.toInt))

/-- SUBS (R87). -/
def execSubs (t : Tile) (e : Slot) (d a b : Fin 16) (s : State) : Host.Outcome State Fault Refusal :=
  .next (s.engAlu t e d a b fun a b => aluSat (a.toInt - b.toInt))

/-- AND (R87). -/
def execAndOp (t : Tile) (e : Slot) (d a b : Fin 16) (s : State) : Host.Outcome State Fault Refusal :=
  .next (s.engAlu t e d a b fun a b => aluLogic (a &&& b))

/-- OR (R87). -/
def execOrOp (t : Tile) (e : Slot) (d a b : Fin 16) (s : State) : Host.Outcome State Fault Refusal :=
  .next (s.engAlu t e d a b fun a b => aluLogic (a ||| b))

/-- XOR (R87). -/
def execXor (t : Tile) (e : Slot) (d a b : Fin 16) (s : State) : Host.Outcome State Fault Refusal :=
  .next (s.engAlu t e d a b fun a b => aluLogic (a ^^^ b))

/-- MIN (R87). -/
def execMinOp (t : Tile) (e : Slot) (d a b : Fin 16) (s : State) : Host.Outcome State Fault Refusal :=
  .next (s.engAlu t e d a b fun a b => aluLogic (minS a b))

/-- MAX (R87). -/
def execMaxOp (t : Tile) (e : Slot) (d a b : Fin 16) (s : State) : Host.Outcome State Fault Refusal :=
  .next (s.engAlu t e d a b fun a b => aluLogic (maxS a b))

/-- SHL (R87). -/
def execShl (t : Tile) (e : Slot) (d a b : Fin 16) (s : State) : Host.Outcome State Fault Refusal :=
  .next (s.engAlu t e d a b fun a b => aluShl a (b.toNat % 32))

/-- SHR (R87). -/
def execShr (t : Tile) (e : Slot) (d a b : Fin 16) (s : State) : Host.Outcome State Fault Refusal :=
  .next (s.engAlu t e d a b fun a b => aluShr a (b.toNat % 32))

/-- SRA (R87). -/
def execSra (t : Tile) (e : Slot) (d a b : Fin 16) (s : State) : Host.Outcome State Fault Refusal :=
  .next (s.engAlu t e d a b fun a b => aluSra a (b.toNat % 32))

/-- MULS (R87): both operands signed, the product exact before the shift. -/
def execMuls (t : Tile) (e : Slot) (d a b : Fin 16) (sh : Fin 32) (s : State) : Host.Outcome State Fault Refusal :=
  .next (s.engAlu t e d a b fun a b => aluSat (asr (a.toInt * b.toInt) sh))

/-- CLAMP (R87). -/
def execClamp (t : Tile) (e : Slot) (d a b : Fin 16) (s : State) : Host.Outcome State Fault Refusal :=
  .next (s.engExec t e fun s x _ => s.setAlu x d (aluClamp (s.w x d) (s.w x a) (s.w x b)))

/-- CMP (R87): the flags of a − b, nothing written. -/
def execCmp (t : Tile) (e : Slot) (a b : Fin 16) (s : State) : Host.Outcome State Fault Refusal :=
  .next (s.engExec t e fun s x _ => s.aluFlags x (aluSub (s.w x a) (s.w x b)))

/-- ADDI (R87). -/
def execAddi (t : Tile) (e : Slot) (d a : Fin 16) (imm : BitVec 18) (s : State) : Host.Outcome State Fault Refusal :=
  .next (s.engExec t e fun s x _ => s.setAlu x d (aluAdd (s.w x a) (imm.signExtend 32)))

/-- SHLI (R87). -/
def execShli (t : Tile) (e : Slot) (d a : Fin 16) (imm : BitVec 5) (s : State) : Host.Outcome State Fault Refusal :=
  .next (s.engExec t e fun s x _ => s.setAlu x d (aluShl (s.w x a) imm.toNat))

/-- SRAI (R87). -/
def execSrai (t : Tile) (e : Slot) (d a : Fin 16) (imm : BitVec 5) (s : State) : Host.Outcome State Fault Refusal :=
  .next (s.engExec t e fun s x _ => s.setAlu x d (aluSra (s.w x a) imm.toNat))

/-- LIL (R87). -/
def execLil (t : Tile) (e : Slot) (d : Fin 16) (imm : BitVec 16) (s : State) : Host.Outcome State Fault Refusal :=
  .next (s.engExec t e fun s x _ => s.setW x d (imm.signExtend 32))

/-- LIH (R87). -/
def execLih (t : Tile) (e : Slot) (d : Fin 16) (imm : BitVec 16) (s : State) : Host.Outcome State Fault Refusal :=
  .next (s.engExec t e fun s x _ => s.setW x d (imm ++ (s.w x d).setWidth 16))

/-- CMPI (R87). -/
def execCmpi (t : Tile) (e : Slot) (a : Fin 16) (imm : BitVec 18) (s : State) : Host.Outcome State Fault Refusal :=
  .next (s.engExec t e fun s x _ => s.aluFlags x (aluSub (s.w x a) (imm.signExtend 32)))

/-- The data-memory word an LD or ST names: (a[8:0] + OFF9) mod 512 (R87). -/
def dmIndex (a : Word) (off : BitVec 9) : Nat := (a.toNat % 512 + off.toNat) % 512

/-- The address of that word in the memory the engine executes from. -/
def State.dmAt (s : State) (t e x : Nat) (a : Fin 16) (off : BitVec 9) : Nat :=
  dmAddr t (s.memSlot t e) (dmIndex (s.w x a) off)

/-- LD (R87, R89). -/
def execLd (t : Tile) (e : Slot) (d a : Fin 16) (off : BitVec 9) (s : State) : Host.Outcome State Fault Refusal :=
  .next (s.engExec t e fun s x _ =>
    let f := s.eccRead t (s.memSlot t e) (2048 + dmIndex (s.w x a) off)
    if f.2 then f.1.setW x d (f.1.rd32 (s.dmAt t e x a off)) else f.1)

/-- ST (R87): both copies of the word are written (R89). -/
def execSt (t : Tile) (e : Slot) (d a : Fin 16) (off : BitVec 9) (s : State) : Host.Outcome State Fault Refusal :=
  .next (s.engExec t e fun s x _ => s.wrEng (s.dmAt t e x a off) (wordBytes (s.w x d)))

/-- An accumulator takes an exact product; saturation sets ACC_SAT (R87). -/
def State.accumulate (s : State) (x i : Nat) (k : Fin 2) (y : Int) : State :=
  let (v, sat) := accAdd (s.acc x k) y
  (s.setAcc x k v).when sat fun s => s.raise Reg.ENG_STATUS.ACC_SAT i

/-- MAC (R87). -/
def execMac (t : Tile) (e : Slot) (a b : Fin 16) (acc : Fin 2) (s : State) : Host.Outcome State Fault Refusal :=
  .next (s.engExec t e fun s x i => s.accumulate x i acc ((s.w x a).toInt * low16 (s.w x b)))

/-- MSU (R87). -/
def execMsu (t : Tile) (e : Slot) (a b : Fin 16) (acc : Fin 2) (s : State) : Host.Outcome State Fault Refusal :=
  .next (s.engExec t e fun s x i => s.accumulate x i acc (-((s.w x a).toInt * low16 (s.w x b))))

/-- ALD (R87). -/
def execAld (t : Tile) (e : Slot) (a : Fin 16) (sh : Fin 17) (acc : Fin 2) (s : State) : Host.Outcome State Fault Refusal :=
  .next (s.engExec t e fun s x _ => s.setAcc x acc ((s.w x a).signExtend 48 <<< sh.val))

/-- ARD (R87). -/
def execArd (t : Tile) (e : Slot) (d : Fin 16) (sh : Fin 32) (acc : Fin 2) (s : State) : Host.Outcome State Fault Refusal :=
  .next (s.engExec t e fun s x _ => s.setAlu x d (aluArd (s.acc x acc) sh))

/-- IN (R79): one port of the snapshot. -/
def execInPort (t : Tile) (e : Slot) (d : Fin 16) (port : Fin 14) (s : State) : Host.Outcome State Fault Refusal :=
  .next (s.engExec t e fun s x _ => s.setW x d (BitVec.ofNat 32 (s.getAt Hid.E_IN x port)))

/-- Stages a value for a port (R74). -/
def State.stage (s : State) (x port : Nat) (v : Word) : State := (s.putAt Hid.E_STG x port v.toNat).raiseAt Hid.E_STGW x port

/-- OUT (R74). -/
def execOutPort (t : Tile) (e : Slot) (port : Fin 4) (a : Fin 16) (s : State) : Host.Outcome State Fault Refusal :=
  .next (s.engExec t e fun s x _ => s.stage x port (s.w x a))

/-- EVR (R87). -/
def execEvr (t : Tile) (e : Slot) (d : Fin 16) (s : State) : Host.Outcome State Fault Refusal :=
  .next (s.engExec t e fun s x i => s.setAlu x d (aluLogic (BitVec.ofNat 32 (s.get Reg.ENG_EV.EVW i))))

/-- ECLR (R84): the pending events are not touched. -/
def execEclr (t : Tile) (e : Slot) (mask : BitVec 16) (s : State) : Host.Outcome State Fault Refusal :=
  .next (s.engExec t e fun s _ i =>
    s.put Reg.ENG_EV.EVW i (BitVec.ofNat 16 (s.get Reg.ENG_EV.EVW i) &&& ~~~mask).toNat)

/-- The order in which BEV considers the event bits: class 0, then 1, 2, 3, and the lowest bit within a class. Bits 14 and 15 have no
class and are never selected (R83, R85). -/
def bevOrder : List Nat := [0, 1, 2, 3, 4, 5, 13, 6, 7, 8, 9, 10, 11, 12]

/-- The event bits that are set and enabled. -/
def State.enabledEvents (s : State) (i : Nat) : Nat := s.get Reg.ENG_EV.EVW i &&& s.get Reg.ENG_CTRL.EV_EN i

/-- BEV (R85). -/
def execBev (t : Tile) (e : Slot) (target : BitVec 10) (s : State) : Host.Outcome State Fault Refusal :=
  .next (s.engExec t e fun s x i =>
    match bevOrder.find? fun j => (s.enabledEvents i).testBit j with
    | some j => s.put Hid.E_PC x (target.toNat + j)
    | none => s)

/-- Whether a branch condition holds (R87, COND encoding). -/
def State.condHolds (s : State) (x i : Nat) (cond : Fin 13) : Bool :=
  let z := s.on Hid.E_Z x
  let n := s.on Hid.E_N x
  let c := s.on Hid.E_C x
  let v := s.on Hid.E_V x
  match cond.val with
  | 0 => true
  | 1 => z
  | 2 => !z
  | 3 => n != v
  | 4 => n == v
  | 5 => !z && n == v
  | 6 => z || n != v
  | 7 => c
  | 8 => !c
  | 9 => v
  | 10 => !v
  | 11 => decide (s.enabledEvents i ≠ 0)
  | _ => decide (s.enabledEvents i = 0)

/-- B (R87). -/
def execBr (t : Tile) (e : Slot) (cond : Fin 13) (target : BitVec 10) (s : State) : Host.Outcome State Fault Refusal :=
  .next (s.engExec t e fun s x i => if s.condHolds x i cond then s.put Hid.E_PC x target.toNat else s)

/-- JL (R87): the PC has moved on already, so it is the return address. -/
def execJl (t : Tile) (e : Slot) (d : Fin 16) (target : BitVec 10) (s : State) : Host.Outcome State Fault Refusal :=
  .next (s.engExec t e fun s x _ => (s.setW x d (BitVec.ofNat 32 (s.get Hid.E_PC x))).put Hid.E_PC x target.toNat)

/-- JR (R87). -/
def execJr (t : Tile) (e : Slot) (a : Fin 16) (s : State) : Host.Outcome State Fault Refusal :=
  .next (s.engExec t e fun s x _ => s.put Hid.E_PC x (s.w x a).toNat)

/-- WAITT (R73): the tick's work ends; WAIT_PC shows where. -/
def execWaitt (t : Tile) (e : Slot) (s : State) : Host.Outcome State Fault Refusal :=
  .next (s.engExec t e fun s x i =>
    (s.put Reg.ENG_PC.WAIT_PC i (s.get Hid.E_PC x + 1023)).raise Hid.E_WAIT x)

/-! Overruns and the program memories (R76, R89 to R91). -/

/-- OVERRUN_SHED (R76): the third consecutive overrun sheds the engine's phase. -/
def execOverrunShed (t : Tile) (e : Slot) (s : State) : Host.Outcome State Fault Refusal :=
  let i := s.engPhase t e
  .next (if s.get Reg.ENG_STATUS.OVR_RUN i = 3 && decide (i < 96) then s.shedAny i Cause.overrun else s)

/-- Some engine executes from the memories of slot `e`. -/
def State.memRuns (s : State) (t e : Nat) : Bool :=
  (s.on Hid.E_RUN (engIx t e)) || (s.on Hid.E_RUN (engIx t 24) && decide (s.memSlot t 24 = e))

/-- A manager write to a program bank: refused for the active bank of a running engine; a write to the inactive bank makes its CRC
stale (R90). -/
def State.bankWrite (s : State) (t e : Nat) (bank : Bool) (idx : Nat) (v : Word) : State :=
  let i := if e < 24 then t * 24 + e else 96 + t
  let act := decide (s.get Reg.ENG_STATUS.BANK i = bank.toNat)
  if act && s.memRuns t e then s.raise Reg.ENG_STATUS.PM_WR_REJ i else
    let s := s.bankWord t e bank.toNat idx v
    if act then s else (s.clr Reg.ENG_STATUS.CRC_VALID i).raise Hid.CRC_BUSY (engIx t e)

/-- PROGRAM_BANK_WRITE (R90). -/
def execProgramBankWrite (t : Tile) (e : Slot) (bank : Bool) (idx : BitVec 10) (v : Word) (s : State) :
    Host.Outcome State Fault Refusal := .next (s.bankWrite t e bank idx.toNat v)

/-- CRC-32 of a bank's 1 024 words, least significant byte first (R90). -/
def State.bankCrc (s : State) (t e b : Nat) : Word := crc32 (s.rdBytes (progAddr t e b 0) 4096)

/-- The recomputation of the inactive bank's CRC is done (R90). -/
def State.bankCrcDone (s : State) (t e : Nat) : State :=
  let i := if e < 24 then t * 24 + e else 96 + t
  if s.on Hid.CRC_BUSY (engIx t e) then
    ((s.put Reg.BANK_CRC.CRC i (s.bankCrc t e (1 - s.get Reg.ENG_STATUS.BANK i)).toNat).raise Reg.ENG_STATUS.CRC_VALID i).clr
      Hid.CRC_BUSY (engIx t e)
  else s

/-- BANK_CRC_DONE (R90). -/
def execBankCrcDone (t : Tile) (e : Slot) (s : State) : Host.Outcome State Fault Refusal := .next (s.bankCrcDone t.val e.val)

/-- DATA_MEMORY_WRITE (R91): the write waits for the tile's next tick boundary. -/
def execDataMemoryWrite (t : Tile) (e : Slot) (idx : BitVec 9) (v : Word) (s : State) : Host.Outcome State Fault Refusal :=
  .next { s with dmPend := s.dmPend ++ [(t.val, dmAddr t e idx.toNat, v)] }

/-! Bank swap (R96, R97). -/

/-- A value is less than 100 ticks ahead of the present tick, or behind it, counting forward modulo 2^32. -/
def tooSoon (at_ now : Nat) : Bool :=
  let d := (at_ + 2 ^ 32 - now % 2 ^ 32) % 2 ^ 32
  decide (d < 100) || decide (2 ^ 31 ≤ d)

/-- SWAP_ARM (R96). -/
def State.swapArm (s : State) (w : Who) (t r : Nat) : State :=
  let i := railIx t r
  if tooSoon (s.get Reg.RAIL_SWAP_AT.SWAP_AT i) (s.get Hid.TICK t) || s.on Reg.RAIL_ENG_STATUS.SWAP_PEND i then
    (s.raise Reg.RAIL_ENG_STATUS.SWAP_REJ i).jRefused w Reg.RAIL_ENG_CTRL.SWAP_ARM i r JStatus.refused
  else (s.acceptRun w Reg.RAIL_ENG_CTRL.SWAP_ARM i r).raise Reg.RAIL_ENG_STATUS.SWAP_PEND i

/-- SWAP_ARM (R96). -/
def execSwapArm (w : Who) (t : Tile) (r : Rail) (s : State) : Host.Outcome State Fault Refusal := .next (s.swapArm w t.val r.val)

/-- A waiting boundary writes the engine's checkpoint (R101). -/
def State.checkpoint (s : State) (x p : Nat) : State :=
  let s := s.over (List.range 16) fun s k => s.putAt Hid.CK_W x k (s.getAt Hid.E_W x k)
  let s := s.over (List.range 2) fun s k => s.putAt Hid.CK_A x k (s.getAt Hid.E_A x k)
  let s := s.over [Hid.E_Z, Hid.E_N, Hid.E_C, Hid.E_V].zipIdx fun s f => s.putAt Hid.CK_FL x f.2 (s.get f.1 x)
  ((s.put Hid.CK_PC x (s.get Hid.E_PC x)).put Hid.CK_BANK x (s.get Reg.ENG_STATUS.BANK p)).put Hid.CK_EVW x
    (s.get Reg.ENG_EV.EVW p)

/-- An engine changes to the other bank at word 0, keeping its registers; a halted one resumes (R96; DEDUCED, log entry 82). -/
def State.swapEngine (s : State) (p : Nat) : State :=
  let x := s.engOf p
  let s := s.bankTo p (1 - s.get Reg.ENG_STATUS.BANK p)
  let s := (((s.clr Hid.E_PC x).clr Hid.E_LATE x).clr Reg.ENG_STATUS.HALTED p).raise Hid.ZL_ENTRY x
  let s := s.putBit Reg.ENG_EV.EVW p Ev.swapped true
  s.when (s.on Hid.E_FRESH x) fun s => s.checkpoint x p

/-- The engine of the phase is being loaded, on the spare or back on its own slot (R101, R104). -/
def State.changesEngine (s : State) (p : Nat) : Bool :=
  (s.on Hid.HANDING_OVER (tileOf p) || s.on Hid.HANDING_BACK (tileOf p)) && decide (s.get Reg.SPARE_STATUS.FOR (tileOf p) = localOf p)

/-- The boundary that begins tick RAIL_SWAP_AT: engines that waited there or are halted, and one that is being loaded, change bank at once;
the others at their next waiting boundary (R96, R97). A TICK that steps over RAIL_SWAP_AT (R80) leaves the swap pending (DESIGN CHOICE, log entry
103). -/
def State.bankSwap (s : State) (t r : Nat) : State :=
  let i := railIx t r
  if s.on Reg.RAIL_ENG_STATUS.SWAP_PEND i && decide (s.get Hid.TICK t = s.get Reg.RAIL_SWAP_AT.SWAP_AT i) then
    let s := s.over (s.phasesOn t r) fun s p =>
      let x := s.engOf p
      if !s.on Hid.E_RUN x && !s.changesEngine p then s
      else if s.on Hid.E_FRESH x || s.on Reg.ENG_STATUS.HALTED p || s.changesEngine p then s.swapEngine p
      else s.raise Hid.E_LATE x
    (((s.put Reg.RAIL_ENG_STATUS.ACT_BANK i (1 - s.get Reg.RAIL_ENG_STATUS.ACT_BANK i)).clr
      Reg.RAIL_ENG_STATUS.SWAP_PEND i).raise Reg.RAIL_ENG_STATUS.SWAP_DONE i).endRun Reg.RAIL_ENG_CTRL.SWAP_ARM i true
  else s

/-- BANK_SWAP (R96). -/
def execBankSwap (t : Tile) (r : Rail) (s : State) : Host.Outcome State Fault Refusal := .next (s.bankSwap t.val r.val)

/-! Engine faults and the spare (R98 to R104). -/

/-- ENGINE_FAULT (R99). -/
def execEngineFault (t : Tile) (e : Slot) (kind : EngFault) (ckptOk : Bool) (s : State) : Host.Outcome State Fault Refusal :=
  .next (s.engineFault t.val e.val (faultKind kind) ckptOk)

/-- FAIL_INJ of a phase: a fault of kind INJECTED in the engine that serves it, its own or the spare (R98, R100). -/
def State.failInj (s : State) (w : Who) (p : Nat) (ckptOk : Bool) : State :=
  let e := if s.spareRuns (tileOf p) (localOf p) then 24 else localOf p
  (s.jDone w Reg.ENG_CTRL.FAIL_INJ p (s.railOf p)).engineFault (tileOf p) e kindInjected ckptOk

/-- FAIL_INJ (R98). -/
def execFailInj (w : Who) (p : Phase) (ckptOk : Bool) (s : State) : Host.Outcome State Fault Refusal := .next (s.failInj w p.val ckptOk)

/-- A phase that held its duty is ACTIVE again. -/
def State.endHold (s : State) (p : Nat) : State := if s.ph p = Ph.spareHold then s.put Reg.PH_STATE.STATE p Ph.active else s

/-- The first outputs of the engine that took over have committed. After a takeover the phase is on the spare; after a handback it
is on its own engine again, and ON_SPARE, BUSY and KIND clear, but for the kind of a fault in the handback itself (R101, R102, R104). -/
def State.takeoverDone (s : State) (t : Nat) : State :=
  let p := t * 24 + s.get Reg.SPARE_STATUS.FOR t
  if s.on Hid.HANDING_OVER t then
    let s := (s.endHold p).raise Reg.PH_STATE.ON_SPARE p
    (((s.raise Reg.SPARE_STATUS.BUSY t).raise Reg.SPARE_STATUS.TAKEOVER_EVT t).bump Reg.SPARE_STATUS.TAKEOVER_COUNT t).clr
      Hid.HANDING_OVER t
  else if s.on Hid.HANDING_BACK t then
    let s := s.when (s.on Reg.ENG_FAULT.PROBE_OK p) fun s => s.clr Reg.ENG_FAULT.KIND p
    let s := ((s.endHold p).clr Reg.PH_STATE.ON_SPARE p).clr Reg.SPARE_STATUS.BUSY t
    ((s.put Reg.SPARE_STATUS.FOR t 0x1F).clr Hid.HANDING_BACK t).endRun Reg.SPARE_CTRL.HANDBACK t true
  else s

/-- SPARE_TAKEOVER_DONE (R101). -/
def execSpareTakeoverDone (t : Tile) (s : State) : Host.Outcome State Fault Refusal := .next (s.takeoverDone t.val)

/-- HANDBACK (R104): accepted with the spare busy and the served engine probed; the spare's checkpoint loads into that engine. A second one while a
handback runs is refused (DESIGN CHOICE, log entry 103). -/
def State.handback (s : State) (w : Who) (t : Nat) : State :=
  let k := s.get Reg.SPARE_STATUS.FOR t
  let p := t * 24 + k
  if s.on Reg.SPARE_STATUS.BUSY t && s.on Reg.ENG_FAULT.PROBE_OK p && !s.on Hid.HANDING_BACK t then
    let s := (s.acceptRun w Reg.SPARE_CTRL.HANDBACK t noTarget).holdDuty p
    let s := s.loadCheckpoint (engIx t 24) (engIx t k) p
    ((s.clr Hid.E_RUN (engIx t 24)).clr Hid.E_RUN (engIx t k)).put Hid.HANDING_BACK t 1
  else (s.raise Reg.SPARE_STATUS.HANDBACK_REJ t).jRefused w Reg.SPARE_CTRL.HANDBACK t noTarget JStatus.refused

/-- HANDBACK (R104). -/
def execHandback (w : Who) (t : Tile) (s : State) : Host.Outcome State Fault Refusal := .next (s.handback w t.val)

/-- SPARE_SELF_CHECK (R295): a mismatch takes a standing-by spare out of service. -/
def execSpareSelfCheck (t : Tile) (pass : Bool) (s : State) : Host.Outcome State Fault Refusal :=
  .next (if !s.spareServes t.val && !pass then (s.raise Hid.SPARE_BAD t.val).awlError Awl.spare t.val 0 else s)

/-- ENGINE_SCRUB (R89): the scrubber reads a word. -/
def execEngineScrub (t : Tile) (e : Slot) (off : BitVec 12) (s : State) : Host.Outcome State Fault Refusal :=
  .next (if off.toNat < 2560 then (s.eccRead t e off.toNat).1 else s)

end Sys2Proof.Machine
end

