-- ==== Sys2Proof/Machine/Sha.lean ====
section
/-!
DEFINITION. SHA-256 (FIPS 180-4) and HMAC-SHA-256, which the rules name for pack authentication (R248) and image digests (R336).
-/
namespace Sys2Proof.Machine

/-- The round constants of SHA-256. -/
def shaK : List Word :=
  [0x428a2f98#32, 0x71374491#32, 0xb5c0fbcf#32, 0xe9b5dba5#32, 0x3956c25b#32, 0x59f111f1#32, 0x923f82a4#32, 0xab1c5ed5#32,
   0xd807aa98#32, 0x12835b01#32, 0x243185be#32, 0x550c7dc3#32, 0x72be5d74#32, 0x80deb1fe#32, 0x9bdc06a7#32, 0xc19bf174#32]
  ++ [0xe49b69c1#32, 0xefbe4786#32, 0x0fc19dc6#32, 0x240ca1cc#32, 0x2de92c6f#32, 0x4a7484aa#32, 0x5cb0a9dc#32, 0x76f988da#32,
   0x983e5152#32, 0xa831c66d#32, 0xb00327c8#32, 0xbf597fc7#32, 0xc6e00bf3#32, 0xd5a79147#32, 0x06ca6351#32, 0x14292967#32]
  ++ [0x27b70a85#32, 0x2e1b2138#32, 0x4d2c6dfc#32, 0x53380d13#32, 0x650a7354#32, 0x766a0abb#32, 0x81c2c92e#32, 0x92722c85#32,
   0xa2bfe8a1#32, 0xa81a664b#32, 0xc24b8b70#32, 0xc76c51a3#32, 0xd192e819#32, 0xd6990624#32, 0xf40e3585#32, 0x106aa070#32]
  ++ [0x19a4c116#32, 0x1e376c08#32, 0x2748774c#32, 0x34b0bcb5#32, 0x391c0cb3#32, 0x4ed8aa4a#32, 0x5b9cca4f#32, 0x682e6ff3#32,
   0x748f82ee#32, 0x78a5636f#32, 0x84c87814#32, 0x8cc70208#32, 0x90befffa#32, 0xa4506ceb#32, 0xbef9a3f7#32, 0xc67178f2#32]

/-- The eight working words. -/
structure Sha where
  a : Word
  b : Word
  c : Word
  d : Word
  e : Word
  f : Word
  g : Word
  h : Word
  deriving DecidableEq, Repr

/-- The initial hash value. -/
def shaInit : Sha :=
  ⟨0x6a09e667#32, 0xbb67ae85#32, 0x3c6ef372#32, 0xa54ff53a#32, 0x510e527f#32, 0x9b05688c#32, 0x1f83d9ab#32, 0x5be0cd19#32⟩

/-- One round with its constant and message word. -/
def shaRound (x : Sha) (kw : Word × Word) : Sha :=
  let s1 := x.e.rotateRight 6 ^^^ x.e.rotateRight 11 ^^^ x.e.rotateRight 25
  let ch := (x.e &&& x.f) ^^^ (~~~x.e &&& x.g)
  let t1 := x.h + s1 + ch + kw.1 + kw.2
  let s0 := x.a.rotateRight 2 ^^^ x.a.rotateRight 13 ^^^ x.a.rotateRight 22
  let maj := (x.a &&& x.b) ^^^ (x.a &&& x.c) ^^^ (x.b &&& x.c)
  ⟨t1 + (s0 + maj), x.a, x.b, x.c, x.d + t1, x.e, x.f, x.g⟩

/-- The next word of the message schedule, from the latest sixteen, newest first. -/
def shaNext (l : List Word) : Word :=
  let w := fun k => l.getD (k - 1) 0
  let s0 := (w 15).rotateRight 7 ^^^ (w 15).rotateRight 18 ^^^ (w 15) >>> 3
  let s1 := (w 2).rotateRight 17 ^^^ (w 2).rotateRight 19 ^^^ (w 2) >>> 10
  w 16 + s0 + w 7 + s1

/-- The schedule extended by a number of words, newest first. -/
def shaExtend : Nat → List Word → List Word
  | 0, l => l
  | n + 1, l => shaExtend n (shaNext l :: l)

/-- A big-endian word of four bytes. -/
def beWord (l : List Byte) : Word := l.getD 0 0 ++ l.getD 1 0 ++ l.getD 2 0 ++ l.getD 3 0

/-- One block of 64 bytes. -/
def shaBlock (x : Sha) (blk : List Byte) : Sha :=
  let w16 := (List.range 16).map fun k => beWord (blk.drop (4 * k))
  let w := (shaExtend 48 w16.reverse).reverse
  let y := (shaK.zip w).foldl shaRound x
  ⟨x.a + y.a, x.b + y.b, x.c + y.c, x.d + y.d, x.e + y.e, x.f + y.f, x.g + y.g, x.h + y.h⟩

/-- The blocks of a padded message. -/
def shaBlocks : Nat → Sha → List Byte → Sha
  | 0, x, _ => x
  | n + 1, x, l => shaBlocks n (shaBlock x (l.take 64)) (l.drop 64)

/-- SHA-256 of a message (PRESUMED, log entry 86). -/
def sha256 (msg : List Byte) : List Byte :=
  let n := msg.length
  let pad := (119 - n % 64) % 64
  let full := msg ++ [0x80#8] ++ List.replicate pad 0 ++ beBytes 8 (8 * n)
  let x := shaBlocks (full.length / 64) shaInit full
  [x.a, x.b, x.c, x.d, x.e, x.f, x.g, x.h].flatMap fun w => beBytes 4 w.toNat

/-- HMAC-SHA-256 with a key of at most 64 bytes. -/
def hmac (key msg : List Byte) : List Byte :=
  let k := key ++ List.replicate (64 - key.length) 0
  let inner := sha256 ((k.map fun b => b ^^^ 0x36#8) ++ msg)
  sha256 ((k.map fun b => b ^^^ 0x5C#8) ++ inner)

end Sys2Proof.Machine
end

