-- ==== Sys2Proof/Machine/Readings.lean ====
section
/-!
DEFINITION. What a tile forms from its samples: the counts and current sums of a rail, the references, the input ports
of the snapshot, the limits in force, and the off thresholds and windows that follow from configuration.
-/
namespace Sys2Proof.Machine

/-! Currents (R79, R94). -/

/-- IPH of a phase, 1/32 A. -/
def State.iph (s : State) (p : Nat) : Int := s.getI Reg.PH_IMEAS.IPH p

/-- The sum of the latest IPH of some phases. -/
def State.iSum (s : State) (l : List Nat) : Int := l.foldl (fun a p => a + s.iph p) 0

/-- round(65 536 / n), 0 for 0. -/
def recip (n : Nat) : Nat := if n = 0 then 0 else (2 * 65536 + n) / (2 * n)

/-- The current of the rail's ACTIVE and SPARE_HOLD phases on a tile. -/
def State.ownSum (s : State) (t r : Nat) : Int := s.iSum ((s.phasesOn t r).filter s.isActivePh)

/-- The entry of the rail's slot among the slots a tile receives; `none` where the rail has no slot. -/
def State.slotEntry (s : State) (t r : Nat) : Option Nat :=
  let j := s.getAt Hid.SLOT_OF 0 r
  if 8 ≤ j then none else
    match s.partner r with
    | some q =>
      let other := if t = s.home r then q else s.home r
      some (slotIx (decide (t < other)) j)
    | none => none

/-- The slot field a tile last received for the rail, signed. -/
def State.slotIn (s : State) (t r : Nat) : Int :=
  match s.slotEntry t r with
  | some x => s.getIAt Hid.SLOT_REF t x
  | none => 0

/-- A flag of the rail's slot as the tile last received it. -/
def State.slotFlag (s : State) (t r b : Nat) : Bool := (s.slotEntry t r).any fun x => (s.getAt Hid.SLOT_FLAGS t x).testBit b

/-- The rail's slots have been valid in both directions for 1 000 consecutive ticks (R284). -/
def State.slotsValid (s : State) (r : Nat) : Bool :=
  (s.tilesOf r).all fun t => (s.slotEntry t r).any fun x => decide (1000 ≤ s.getAt Hid.SLOT_RUN t x)

/-- A flag of the rail's slot arrived for the present tick. -/
def State.slotArrived (s : State) (t r b : Nat) : Bool :=
  s.slotFlag t r b && (s.slotEntry t r).any fun x => s.onAt Hid.SLOT_RUN t x

/-- Ticks since that slot was last valid. -/
def State.slotAge (s : State) (t r : Nat) : Nat :=
  match s.slotEntry t r with
  | some x => s.getAt Hid.SLOT_AGE t x
  | none => 0

/-- ISUM of the rail as tile `t` sees it, signed 32 bits, 1/32 A: own sum and the doubled partner sum on the home tile, the own half
scaled to the whole rail on the partner tile, the own half alone after a loss (R79, R94, R280). -/
def State.isum (s : State) (t r : Nat) : Int :=
  if s.kindOf r = 2 then 0
  else if (s.partner r).isNone || s.alone t r then satS 32 (s.ownSum t r)
  else if t = s.home r then satS 32 (s.ownSum t r + 2 * s.slotIn t r)
  else
    let np := ((s.phasesOn t r).filter s.isActivePh).length
    satS 32 (asr (s.ownSum t r * (s.nActive t r : Nat) * (recip np : Nat)) 16)

/-- The partner half's sum in 1/16 A, the field of the partner-to-home slot (R94). -/
def State.partnerSum (s : State) (t r : Nat) : Int := clampI (-32767) 32767 (asr (s.ownSum t r) 1)

/-! Voltages (R79, R120, R144). -/

/-- The rail's sense channel on tile `t`; 15 is none. -/
def State.chanOf (s : State) (t r : Nat) : Nat :=
  if t = s.home r then s.get Reg.RAIL_SNS.CHAN (railIx t r)
  else if s.mirrored r then s.get Reg.RAIL_SNS.PCHAN (railIx t r) else 15

/-- VSET of the rail on tile `t`. -/
def State.vset (s : State) (t r : Nat) : Nat := s.get Reg.RAIL_SP_STATUS.VSET_NOW (railIx t r)

/-- VSENSE of the rail on tile `t` as the newest snapshot has it; VSET_NOW on a partner tile without a channel (R79). -/
def State.vsense (s : State) (t r : Nat) : Nat :=
  if t ≠ s.home r && !s.mirrored r then s.vset t r else s.getAt Hid.VS_HIST (railIx t r) 0

/-- The window reference of R120: VSET less the clamped droop. -/
def State.windowRef (s : State) (t r : Nat) : Int :=
  let i := railIx t r
  let d : Int := s.get Reg.CINCH_DROOP.C_DMAX i
  (s.vset t r : Int) - clampI (-d) d (asr (s.isum t r * (s.get Reg.CINCH_DROOP.C_RLL i : Int)) 16)

/-- VIN_q of a phase's input group on its tile, 1/4 mV. -/
def State.vinOf (s : State) (p : Nat) : Nat := s.getAt Reg.TILE_VIN.VIN (tileOf p) (s.get Reg.PH_CFG.VING p)

/-- FFGAIN of a phase (R79). -/
def State.ffgain (s : State) (p : Nat) : Nat :=
  let v := s.vinOf p
  if v = 0 then 0 else
    min 0x7FFFFFFF (s.get Reg.RAIL_PWM.PER_ACT (railIx (tileOf p) (s.railOf p)) * 16 * 65536 / v)

/-- The off threshold of a rail, 1/4 mV (R175). -/
def State.offThreshold (s : State) (r : Nat) : Nat :=
  let i := s.leadIx r
  max (s.get Reg.RAIL_SETPT.VSET_TGT i * s.get Reg.RAIL_OFF_CFG.OFF_PCT i / 100) (s.get Reg.RAIL_OFF_CFG.OFF_MIN i * 8)

/-- The rail's newest eight VSENSE are below its off threshold (R175; DEDUCED, log entry 63). -/
def State.belowOff (s : State) (r : Nat) : Bool :=
  (List.range 8).all fun k => decide (s.getAt Hid.VS_HIST (s.leadIx r) k < s.offThreshold r)

/-! Limits in force (R189 to R192). -/

/-- The rail is privileged. -/
def State.privileged (s : State) (r : Nat) : Bool := s.on Reg.MIRR_STATUS.PRIV (s.homeIx r)

/-- The base limit of a phase: ILIM, or ILIM_CEIL when ILIM is 0. -/
def State.baseLimit (s : State) (p : Nat) : Nat :=
  if s.get Reg.PH_PROT.ILIM p = 0 then s.get Reg.PH_PROT.ILIM_CEIL p else s.get Reg.PH_PROT.ILIM p

/-- The phase's limit is derated now: throttle of its tile or derating of its stage group, on a rail that is not privileged. -/
def State.derated (s : State) (p : Nat) : Bool :=
  !s.privileged (s.railOf p) &&
    (decide (2 ≤ s.get Reg.TILE_THERM.LEVEL (tileOf p)) || s.bit Reg.STG_DERATE.DERATE (tileOf p) (stageBit p))

/-- ILIM_EFF of a phase: raised to the ceiling while its half carries a mirrored rail alone, else derated or the base limit (R192,
R280). -/
def State.ilimEff (s : State) (p : Nat) : Nat :=
  if s.on Reg.MIRR_STATUS.CAP_RAISED (railIx (tileOf p) (s.railOf p)) then s.get Reg.PH_PROT.ILIM_CEIL p
  else if s.derated p then s.baseLimit p * 3 / 4 else s.baseLimit p

/-- OV_LIM_EFF of a rail. -/
def State.ovLimEff (s : State) (i : Nat) : Nat :=
  if s.get Reg.RAIL_OV.OV_LIM i = 0 then s.get Reg.RAIL_PROT_CFG.OV_CEIL i else s.get Reg.RAIL_OV.OV_LIM i

/-- The overvoltage ceiling forbids a set-point (R191). -/
def State.ovForbids (s : State) (i v : Nat) : Bool := decide (s.ovLimEff i * 25 < v * 26)

/-- VSET_TGT accepts the value (R119, R191). -/
def State.setptOk (s : State) (i v : Nat) : Bool :=
  let grid := if s.on Reg.RAIL_SETPT.DIVIDER i then decide (4000 ≤ v) && decide (v ≤ 64000) && v % 8 = 0
    else decide (1000 ≤ v) && decide (v ≤ 14400) && v % 2 = 0
  grid && !s.ovForbids i v

/-! Enabled, on, stopping. -/

/-- The rail is being shut down. -/
def State.stopping (s : State) (r : Nat) : Bool := s.rs r = Rs.stopLo || s.rs r = Rs.stopHi

/-- The rail's phases that an operation of a tile's hardware acts on, with the rail's other half left out where it is lost. -/
def State.aliveOf (s : State) (r : Nat) : List Nat :=
  let t := s.leadTile r
  if s.alone t r && s.half t r ≠ Half.split then s.phasesOn t r else s.phasesOf r

end Sys2Proof.Machine
end

