-- ==== Sys2Proof/Machine/Setpoint.lean ====
section
/-!
DEFINITION. The set-point generator of a rail on each of its tiles (R114, R117, R118), set-point commands, and the selection of
a law (R106, R107).
-/
namespace Sys2Proof.Machine

namespace SpMode
abbrev hold : Nat := 0
abbrev soft : Nat := 1
abbrev ramp : Nat := 2
/-- The soft-start ramp of a tracking rail after its SEQ_DONE (R114). -/
abbrev tail : Nat := 3
end SpMode

/-- The law that a rail's engines run: the selected law where the banks hold it, else 0, a customer program (R107). -/
def State.lawOf (s : State) (r : Nat) : Nat :=
  let i := s.homeIx r
  if s.get Reg.RAIL_LAW.LAW_ID i = s.get Reg.RAIL_LAW.LOADED_ID i then s.get Reg.RAIL_LAW.LAW_ID i else 0

/-- LAW_ID of ZL_TRK. -/
def zlTrk : Nat := 0x12

/-- A tracking rail with a source: its generator presents the lesser of the tracked value and its ramp (R114; DEDUCED, log entry 94). -/
def State.tracks (s : State) (i : Nat) : Bool := s.get Reg.RAIL_LAW.LAW_ID i = zlTrk && decide (s.get Reg.RAIL_TRACK.TRK_SRC i < 48)

/-- VSET from the generator's value. -/
def State.presentVset (s : State) (t r : Nat) : State :=
  let i := railIx t r
  let ramp := s.get Hid.SP_Q16 i / 65536
  s.put Reg.RAIL_SP_STATUS.VSET_NOW i (if s.tracks i then min (s.get Hid.TRK_T i) ramp else ramp)

/-- The tracked value of a rail on its home tile: the mean of the source's last 16 values, scaled, offset and limited to the set-point
range (R114). -/
def State.trackedValue (s : State) (t r : Nat) : Nat :=
  let i := railIx t r
  let src := s.get Reg.RAIL_TRACK.TRK_SRC i
  let sum := if src < 48 then (List.range 16).foldl (fun a k => a + s.getAt Hid.VS_HIST (railIx t src) k) 0 else 0
  let m := (sum + 8) / 16
  let v := asr ((m : Int) * (s.get Reg.RAIL_TRACK.TRK_RATIO i : Int)) 15 + s.getI Reg.RAIL_TRACK.TRK_OFS i
  let (lo, hi) : Int × Int := if s.on Reg.RAIL_SETPT.DIVIDER i then (4000, 64000) else (1000, 14400)
  (clampI lo hi v).toNat

/-- The generator's value one tick later: by `rate` toward the target, landing on it exactly; a rate of 0 steps (R117, R118). -/
def rampStep (q target rate : Nat) : Nat :=
  if rate = 0 then target
  else if q < target then min target (q + rate)
  else max target (q - rate)

/-- SEQ_DONE of the generator on one tile: the event latches, the soft-start is over, and Cinch stays quiet for 500 ns after the ramp of
a command, one that came during the soft-start included (R117, R118, R123; DEDUCED, log entry 43). -/
def State.spDone (s : State) (t r : Nat) (soft : Bool) : State :=
  let i := railIx t r
  let s := s.railEventOn t r Ev.seqDone
  let s := if soft then
      let s := (s.when (s.on Hid.SP_CMD i) fun s => s.put Hid.SP_QUIET i 50).clr Hid.SP_CMD i
      ((((s.raise Hid.SP_DONE i).raise Hid.SS_DONE i).clr Hid.DE_FORCE i).clr Reg.RAIL_SP_STATUS.SS_ACTIVE i).putAt Hid.PGW_BEAT 0 r s.beat
    else (s.put Hid.SP_QUIET i 50).clr Reg.RAIL_SP_STATUS.RAMPING i
  s.when (decide (t = s.leadTile r)) fun s =>
    s.over (s.cmds.filter fun c => match c.kind with | .setpoint q _ => decide (q = r) && c.started | _ => false)
      fun s c => s.complete c.kind JStatus.ok 0

/-- One tick of the generator on a tile. The generator of a partner tile presents the home tile's tracked value, so that both present equal VSET (R114,
R117; DEDUCED, log entry 94). -/
def State.spStep (s : State) (t r : Nat) : State :=
  let i := railIx t r
  let s := s.when (s.tracks i) fun s => s.put Hid.TRK_T i (s.trackedValue (s.home r) r)
  let mode := s.get Hid.SP_MODE i
  let s :=
    if mode = SpMode.hold then s else
      let rate := if mode = SpMode.ramp then s.get Reg.RAIL_RAMP.STEP_RATE i else max 1 (s.get Reg.RAIL_RAMP.SS_RATE i)
      let target := s.get Hid.SP_TGT i * 65536
      let q := rampStep (s.get Hid.SP_Q16 i) target rate
      let s := s.put Hid.SP_Q16 i q
      let reached := decide (q = target)
      let met := mode = SpMode.soft && s.tracks i && decide (s.get Hid.TRK_T i * 65536 ≤ q)
      if reached then
        let s := s.put Hid.SP_MODE i SpMode.hold
        if mode = SpMode.tail then s else s.spDone t r (mode = SpMode.soft)
      else if met then (s.put Hid.SP_MODE i SpMode.tail).spDone t r true
      else s
  s.presentVset t r

/-- Soft-start on every tile of the rail: from the measured pre-bias, limited to the target, or from 0; SEQ_START at the ramp's first
tick; diode emulation until SEQ_DONE where the rail starts from pre-bias (R117). -/
def State.softStart (s : State) (r : Nat) (v2 : Nat) : State :=
  s.over (s.tilesOf r) fun s t =>
    let i := railIx t r
    let tgt := s.get Reg.RAIL_SETPT.VSET_TGT i
    let pre := s.on Reg.RAIL_SETPT.PREBIAS_START i
    let s := s.put Hid.SP_Q16 i ((if pre then min v2 tgt else 0) * 65536)
    let s := (((s.put Hid.SP_TGT i tgt).put Hid.SP_MODE i SpMode.soft).clr Hid.SP_DONE i).clr Hid.SP_CMD i
    let s := ((s.raise Reg.RAIL_SP_STATUS.SS_ACTIVE i).clr Reg.RAIL_SP_STATUS.RAMPING i).putB Hid.DE_FORCE i pre
    (s.railEventOn t r Ev.seqStart).presentVset t r

/-- The generator holds its present value: the rail is stopping (R118). -/
def State.spHold (s : State) (r : Nat) : State :=
  s.over (s.tilesOf r) fun s t =>
    let i := railIx t r
    (((s.put Hid.SP_MODE i SpMode.hold).clr Reg.RAIL_SP_STATUS.SS_ACTIVE i).clr Reg.RAIL_SP_STATUS.RAMPING i).clr Hid.SP_DONE i

/-- A set-point command starts: the new target, VSET_CHG at the first tick, a ramp at STEP_RATE. During soft-start it replaces the
target and the ramp goes on at SS_RATE (R118). -/
def State.setpointStart (s : State) (r target : Nat) : State :=
  s.over (s.tilesOf r) fun s t =>
    let i := railIx t r
    let soft := decide (s.get Hid.SP_MODE i = SpMode.soft)
    let s := s.put Hid.SP_TGT i target
    let s := if soft then s.raise Hid.SP_CMD i else (s.put Hid.SP_MODE i SpMode.ramp).raise Reg.RAIL_SP_STATUS.RAMPING i
    s.railEventOn t r Ev.vsetChg

/-- A write of VSET_TGT. A value outside R119 or forbidden by the ceiling changes nothing; a command so refused is journalled. A rail that no soft-start
has begun or finished takes the value; on a running rail it is a set-point command, which waits for clock-readiness, and is cancelled when SEQ_STOP
takes effect on its tick (R118, R119, R191). -/
def State.setpointWrite (s : State) (w : Who) (r target : Nat) (stopSameTick : Bool) : State :=
  let i := s.leadIx r
  if !s.setptOk i target then
    (s.putRail Reg.RAIL_SETPT.SP_REJ r 1).when (s.running r) fun s => s.jRefused w Reg.RAIL_SETPT.VSET_TGT i r JStatus.refused
  else if !s.on Hid.SP_DONE i && decide (s.get Hid.SP_MODE i ≠ SpMode.soft) then
    (s.when (s.running r) fun s => s.jDone w Reg.RAIL_SETPT.VSET_TGT i r).putRail Reg.RAIL_SETPT.VSET_TGT r target
  else if stopSameTick then
    (s.acceptReg w (.setpoint r target) Reg.RAIL_SETPT.VSET_TGT i r true).complete (.setpoint r target) JStatus.cancelled 0
  else
    let ready := s.railReady r
    let s := s.acceptReg w (.setpoint r target) Reg.RAIL_SETPT.VSET_TGT i r ready
    let s := s.putRail Reg.RAIL_SETPT.VSET_TGT r target
    if ready then s.setpointStart r target else s

/-- SETPOINT_COMMAND (R118). -/
def execSetpointCommand (w : Who) (r : Rail) (target : BitVec 16) (stopSameTick : Bool) (s : State) :
    Host.Outcome State Fault Refusal :=
  .next (s.setpointWrite w r.val target.toNat stopSameTick)

/-! Selecting a law. -/

/-- LAW_ID has a meaning for the value (R106). -/
def lawKnown (law : Nat) : Bool := law = 0 || law = 0x10 || law = 0x11 || law = zlTrk

/-- A RAIL_LAW write: a reserved value, or a change while a phase of the rail is in a state other than OFF or BLOCKED, sets LAW_REJ; the
present value does nothing; another value is taken, and a law of the library starts its copy (R106, R107). -/
def State.lawSelect (s : State) (r law : Nat) : State :=
  if !lawKnown law then s.putRail Reg.RAIL_LAW.LAW_REJ r 1
  else if s.get Reg.RAIL_LAW.LAW_ID (s.homeIx r) = law then s
  else if !s.railIdle r then s.putRail Reg.RAIL_LAW.LAW_REJ r 1
  else (s.putRail Reg.RAIL_LAW.LAW_ID r law).putAt Hid.LAW_BUSY 0 r (if law = 0 then 0 else 1)

/-- LAW_SELECT (R107). -/
def execLawSelect (_w : Who) (r : Rail) (law : Byte) (s : State) : Host.Outcome State Fault Refusal :=
  .next (s.lawSelect r.val law.toNat)

/-- The bytes of a law's image. -/
def lawBytes (law : Nat) : List Byte := (List.range 1024).flatMap fun k => wordBytes (Config.lawWord law k)

/-- The law stands in both banks of every engine of the rail, EV_EN is 0x3FFF, LOADED_ID shows the law (R107). -/
def State.lawCopied (s : State) (r : Nat) : State :=
  let law := s.get Reg.RAIL_LAW.LAW_ID (s.homeIx r)
  let s := s.over (s.phasesOf r) fun s p =>
    let t := tileOf p
    let e := localOf p
    let s := (s.bankFill t e 0 law (lawBytes law)).bankFill t e 1 law (lawBytes law)
    ((s.put Reg.ENG_CTRL.EV_EN p 0x3FFF).clr Reg.ENG_STATUS.CRC_VALID p).raise Hid.CRC_BUSY (engIx t e)
  (s.putRail Reg.RAIL_LAW.LOADED_ID r law).putAt Hid.LAW_BUSY 0 r 0

end Sys2Proof.Machine
end

