-- ==== Sys2Proof/Machine/Cinch.lean ====
section
/-!
DEFINITION. The Cinch response (R120 to R132) and the Forecast port (R133 to R141).
-/
namespace Sys2Proof.Machine

/-- A capture trigger of a kind (bit of TRIG_EN) reaches tile `t` (R301). -/
def State.capTrigger (s : State) (t kind : Nat) : State :=
  if s.on Reg.CAP_STATUS.RUNNING t && !s.on Hid.CAP_TRIGD t && s.bit Reg.CAP_CTRL.TRIG_EN t kind then
    ((s.raise Reg.CAP_STATUS.TRIGGERED t).raise Hid.CAP_TRIGD t).put Hid.CAP_LEFT t (s.get Reg.CAP_CTRL.POST t)
  else s

/-- An engine of the rail is captured on tile `t`. -/
def State.captures (s : State) (t r : Nat) : Bool := (s.phasesOn t r).any fun p => s.bit Reg.CAP_MASK.CAP_MASK t (localOf p)

/-- A capture trigger for the captured engines of a rail. -/
def State.capTriggerRail (s : State) (r kind : Nat) : State :=
  s.over (List.range 4) fun s t => if s.captures t r then s.capTrigger t kind else s

/-! The window (R120 to R123, R280, R285). -/

/-- The rail is off or on its way off on the way R123 counts. -/
def State.offOrStopping (s : State) (r : Nat) : Bool := s.rs r = Rs.off || s.stopping r

/-- The slot of the rail shows a Cinch wire fault on the partner tile (R132). -/
def State.wireFault (s : State) (t r : Nat) : Bool :=
  match s.slotEntry t r with
  | some x =>
    if x < 8 then s.bit Reg.CINCH_WIRE_STATUS.CWIRE_FLT_LO t x else s.bit Reg.CINCH_WIRE_STATUS.CWIRE_FLT_UP t (x - 8)
  | none => false

/-- Tile `t` carries a window of the rail that may act: the home tile's, or the partner's of a mirrored rail under R285. -/
def State.windowHere (s : State) (t r : Nat) : Bool :=
  s.kindOf r = 1 &&
    (t = s.home r ||
      (s.mirrored r && s.partner r = some t && (s.half t r ≠ Half.both || s.wireFault t r)))

/-- The window is armed (R123); in the 25 µs after a half loss whatever MODE says (R280). -/
def State.armed (s : State) (t r : Nat) : Bool :=
  let i := railIx t r
  let quiet := s.offOrStopping r || s.on Reg.CINCH_STATUS.FIRING i || s.on Reg.CINCH_STATUS.HOLDOFF i
  if s.on Hid.LOSS_ARM i then !quiet
  else
    s.windowHere t r && !quiet && s.get Hid.C_MODE i ≠ 0 && s.on Hid.SP_DONE i &&
      s.get Hid.SP_MODE i ≠ SpMode.ramp && !s.on Hid.SP_QUIET i

/-- The window reference of the tick; frozen from a trip to the end of the hold-off, held at V_HOLD after a half loss (R120, R131,
R280). -/
def State.windowUpdate (s : State) (t r : Nat) : State :=
  let i := railIx t r
  if s.on Reg.CINCH_STATUS.HOLDOFF i || s.on Hid.LOSS_ARM i then s
  else s.putI Hid.C_VREF i (s.windowRef t r)

/-- The fields of CINCH_CFG and CINCH_TIME, each with the copy that is in force. -/
def cinchFlds : List (Fld × Fld) :=
  [(Hid.C_MODE, Reg.CINCH_CFG.MODE), (Hid.C_RELM, Reg.CINCH_CFG.REL_MODE), (Hid.C_LEVEL, Reg.CINCH_CFG.LEVEL), (Hid.C_SLOPE, Reg.CINCH_CFG.SLOPE),
   (Hid.C_SWIN, Reg.CINCH_CFG.SLOPE_WIN), (Hid.C_ONT, Reg.CINCH_TIME.ON_TIME), (Hid.C_IPK, Reg.CINCH_TIME.IPK)]

/-- What the window counts and latches at a boundary: written settings take effect (R142), the ages of the slope window and of the release grow. -/
def State.windowTick (s : State) (i : Nat) : State :=
  ((s.over cinchFlds fun s f => s.put f.1 i (s.get f.2 i)).bump Hid.SLOPE_AGE i).bump Hid.REL_AGE i

/-- A quantity at the sense pins as it stands at the rail: four times as much behind the divider (R121, R147). -/
def State.railSide (s : State) (i x : Nat) : Nat := if s.on Reg.RAIL_SETPT.DIVIDER i then 4 * x else x

/-- The level detector with the sense voltage `v`: active below vref − LEVEL, released at 2 mV above that (R121). -/
def State.levelSense (s : State) (i v : Nat) : State :=
  let edge := s.getI Hid.C_VREF i - (s.get Hid.C_LEVEL i : Int) * 4
  let x : Int := s.railSide i v
  if x < edge then s.raise Hid.C_LVL i else if edge + 8 ≤ x then s.clr Hid.C_LVL i else s

/-- The falling rate reaches SLOPE (R121). -/
def State.steep (s : State) (i fall : Nat) : Bool := decide (s.get Hid.C_SLOPE i * 4 ≤ s.railSide i fall)

/-- SLOPE_FIRE (R121): a firing opens the slope window, or holds it open; it opens none while the window is disarmed (R123). -/
def execSlopeFire (t : Tile) (r : Rail) (fall : BitVec 8) (s : State) : Host.Outcome State Fault Refusal :=
  let i := railIx t r
  .next (if s.armed t r && s.steep i fall.toNat then (s.raise Hid.SLOPE_OPEN i).clr Hid.SLOPE_AGE i else s)

/-- SLOPE_WINDOW_END (R121): SLOPE_WIN ticks after the last firing. -/
def execSlopeWindowEnd (t : Tile) (r : Rail) (s : State) : Host.Outcome State Fault Refusal :=
  let i := railIx t r
  .next (if s.get Hid.C_SWIN i ≤ s.get Hid.SLOPE_AGE i then s.clr Hid.SLOPE_OPEN i else s)

/-! Firing (R124 to R126, R141). -/

/-- A phase is driven high; within 200 ns of mid it waits for the end of that time (R54). A mid of the same tick discards the fire (R55). -/
def State.fire (s : State) (p : Nat) : State :=
  if s.on Hid.MID_TICK p then s else
  let s := s.raise Hid.FIRED p
  if s.on Hid.MID_BUSY p then s else s.put Hid.PWM_LVL p Pwm.pulse.num

/-- The phases of a rail on a tile that a trip fires; PARKED ones join where CINCH_JOIN is set (R124, R58). -/
def State.fireTile (s : State) (t r : Nat) : State :=
  let s := s.when (s.on Reg.RAIL_SHED.CINCH_JOIN (railIx t r)) fun s =>
    s.over ((s.phasesOn t r).filter fun p => s.ph p = Ph.parked && !s.underDiag p) fun s p => s.addParked p
  let s := s.over ((s.phasesOn t r).filter fun p => s.isActivePh p && !s.underDiag p) fun s p => s.fire p
  let i := railIx t r
  let s := ((s.raise Hid.C_FIRE i).raise Hid.C_WIRE i).put Hid.TRIP_AGE i 0
  s.railEventOn t r Ev.cinchTrip

/-- The tiles that a trip of tile `t`'s window fires: the home window fires both halves, a partner's window and a half that stands alone
their own (R124, R280, R285). -/
def State.fireTiles (s : State) (t r : Nat) : List Nat :=
  if t ≠ s.home r || s.alone t r then [t] else s.tilesOf r

/-- Pulses of the rail's forecast that have not started are cancelled. -/
def State.cancelPulses (s : State) (t r : Nat) : State :=
  s.over (s.phasesOn t r) fun s p => s.put Hid.FPULSE p (s.get Hid.FPULSE p / 2 * 2)

/-- Some forecast pulse of the rail is scheduled or running: FIRE_ACT. -/
def State.pulsing (s : State) (t r : Nat) : Bool := (s.phasesOn t r).any fun p => s.on Hid.FPULSE p

/-- FIRE of the pending forecast. -/
def fcFire (cfg : Nat) : Bool := cfg.testBit 2

/-- A trip between acceptance and the end of the last pulse of a forecast that fires, judged meanwhile or not: pulses that run go on as part of the Cinch fire,
the others are cancelled, CINCHED_COUNT counts the forecast once (R141). -/
def State.cutForecast (s : State) (t r : Nat) : State :=
  let i := railIx t r
  if fcFire (s.get Hid.FCP_CFG i) && decide (0 < s.getI Hid.FCP_STEP i) && !s.on Hid.FCP_CINCHED i &&
      (if s.on Hid.FCP_STARTED i then s.pulsing t r else s.on Reg.FC_STATUS.PENDING i) then
    let s := s.over (s.phasesOn t r) fun s p => s.clr Hid.FPULSE p
    (s.raise Hid.FCP_CINCHED i).bump Reg.FC_COUNT_C.CINCHED_COUNT i
  else s.over (s.phasesOn t r) fun s p => s.clr Hid.FPULSE p

/-- The window of tile `t` trips, where it is armed, its level detector is active and its MODE lets it: level and slope need an open slope window; after a half loss
the level alone counts (R122, R125, R280; DEDUCED, log entry 55). -/
def State.cinchTrip (s : State) (t r v : Nat) (onBoundary : Bool) : State :=
  let i := railIx t r
  let mode := s.get Hid.C_MODE i
  let s := s.levelSense i v
  if s.armed t r && s.on Hid.C_LVL i && (s.on Hid.LOSS_ARM i || mode = 2 || (mode = 1 && s.on Hid.SLOPE_OPEN i)) then
    let s := (s.raise Reg.CINCH_STATUS.TRIP_EVT i).bump Reg.CINCH_STATUS.TRIP_COUNT i
    let s := s.put Reg.CINCH_LAST.TRIP_TICK i (s.get Hid.TICK t)
    let s := (s.raise Reg.CINCH_STATUS.HOLDOFF i).raise Reg.CINCH_STATUS.FIRING i
    let s := ((s.put Hid.C_ON i (s.get Hid.C_ONT i)).clr Hid.C_RELEASED i).clr Hid.SLOPE_OPEN i
    let s := s.putB Hid.C_IN i !onBoundary
    let s := s.cutForecast t r
    let s := s.over (s.fireTiles t r) fun s u => s.fireTile u r
    s.capTriggerRail r 2
  else s

/-- CINCH_TRIP (R125). -/
def execCinchTrip (t : Tile) (r : Rail) (v : BitVec 16) (onBoundary : Bool) (s : State) : Host.Outcome State Fault Refusal :=
  .next (s.cinchTrip t.val r.val v.toNat onBoundary)

/-- The instant `off` taps after the last boundary lies between the phase's leading edge and that edge plus its on-time. -/
def State.inOnTimeAt (s : State) (p off : Nat) : Bool :=
  let i := railIx (tileOf p) (s.railOf p)
  let per := max 1 (s.get Reg.RAIL_PWM.PER_ACT i) * 16
  decide ((s.cycTaps i + off + per - s.get Hid.LEAD_POS p * 16 % per) % per < s.get Hid.ONTIME_ACT p)

/-- As `inOnTimeAt`, for the boundary itself. -/
def State.inOnTime (s : State) (p : Nat) : Bool := s.inOnTimeAt p 0

/-- The end of a fire: high until the trailing edge where the engine's pulse runs, else low, or mid under diode emulation (R128). -/
def State.fireEnd (s : State) (p : Nat) (inOn : Bool) : State :=
  if s.on Hid.FIRED p then
    let s := s.clr Hid.FIRED p
    if s.on Hid.MID_BUSY p then s
    else if inOn then s.put Hid.PWM_LVL p Pwm.pulse.num
    else if s.deOn p && decide (s.iph p ≤ 0) then s.toMid p
    else s.put Hid.PWM_LVL p Pwm.low.num
  else s

/-- IPK: a firing phase whose sample reaches it ends its fire, and does not fire again before the release (R126). -/
def State.ipkCut (s : State) (p : Nat) (inOn : Bool) : State :=
  let i := railIx (tileOf p) (s.railOf p)
  let ipk := s.get Hid.C_IPK i
  if s.on Hid.FIRED p && ipk ≠ 0 && decide ((ipk : Int) * 16 ≤ s.iph p) then
    ((s.fireEnd p inOn).clr Hid.FPULSE p).bump Reg.CINCH_STATUS.CUT_COUNT i
  else s

/-! Release and hand-over (R127 to R131). -/

/-- The release boundary: the first at or after ON_TIME ticks from the trip, or with REL_MODE 1 the first at or after 20 ns from it at which the level
detector has released. A trip inside a tick lies before the first boundary that is counted, so one more is needed (R127). -/
def State.cinchRelease (s : State) (t r v : Nat) : State :=
  let i := railIx t r
  let s := s.levelSense i v
  let age := s.get Hid.TRIP_AGE i
  let part := s.get Hid.C_IN i
  let full := decide (s.get Hid.C_ON i + part ≤ age)
  let early := s.on Hid.C_RELM i && !s.on Hid.C_LVL i && decide (2 + part ≤ age)
  if s.on Reg.CINCH_STATUS.FIRING i && !s.on Hid.C_RELEASED i && (full || early) then
    let s := (s.raise Hid.C_RELEASED i).clr Hid.REL_AGE i
    let s := s.when (!full) fun s => s.raise Reg.CINCH_STATUS.EARLY_REL i
    s.over (s.fireTiles t r) fun s u =>
      let s := (s.clr Hid.C_WIRE (railIx u r)).put Reg.CINCH_PRESET.DUR (railIx u r) (age - 1)
      s.over (s.phasesOn u r) fun s p => s.fireEnd p (s.inOnTime p)
  else s

/-- CINCH_RELEASE (R127). -/
def execCinchRelease (t : Tile) (r : Rail) (v : BitVec 16) (s : State) : Host.Outcome State Fault Refusal :=
  .next (s.cinchRelease t.val r.val v.toNat)

/-- The phases CPRESET counts on a tile. -/
def State.presetPhases (s : State) (t r : Nat) : List Nat :=
  (s.phasesOn t r).filter fun p => s.isActivePh p || s.ph p = Ph.parked

/-- CPRESET of a tile: its own sum for a rail on one tile, its half scaled to the whole rail for a cross-tile rail (R129, R280). -/
def State.cpreset (s : State) (t r : Nat) : Int :=
  let own := s.presetPhases t r
  let sum := s.iSum own
  if (s.partner r).isNone || s.alone t r then satS 32 sum
  else
    let all := ((s.tilesOf r).map fun u => (s.presetPhases u r).length).foldl (· + ·) 0
    satS 32 (asr (sum * (all : Nat) * (recip own.length : Nat)) 16)

/-- B_R + 40 ns: CPRESET is taken, CINCH_REL becomes pending, the rail no longer fires (R125, R129, R130). -/
def State.handoverEnd (s : State) (t r : Nat) : State :=
  let i := railIx t r
  if s.on Reg.CINCH_STATUS.FIRING i && s.on Hid.C_RELEASED i && decide (4 ≤ s.get Hid.REL_AGE i) then
    let s := (s.clr Reg.CINCH_STATUS.FIRING i).clr Hid.C_RELEASED i
    s.over (s.fireTiles t r) fun s u =>
      let k := railIx u r
      let c := s.cpreset u r
      let s := (s.put Hid.CP_FULL k (twos 32 c)).putI Reg.CINCH_PRESET.CPRESET k c
      ((s.clr Hid.C_FIRE k).raise Hid.REL_NOW k).railEventOn u r Ev.cinchRel
  else s

/-- CINCH_HANDOVER_END (R129). -/
def execCinchHandoverEnd (t : Tile) (r : Rail) (s : State) : Host.Outcome State Fault Refusal := .next (s.handoverEnd t.val r.val)

/-- CINCH_HOLDOFF_END (R131): 50 ticks after the release boundary the reference unfreezes and the window may arm again. -/
def execCinchHoldoffEnd (t : Tile) (r : Rail) (s : State) : Host.Outcome State Fault Refusal :=
  .next (let i := railIx t.val r.val
    if s.on Reg.CINCH_STATUS.FIRING i || decide (s.get Hid.REL_AGE i < 50) then s else s.clr Reg.CINCH_STATUS.HOLDOFF i)

/-- CINCH_WIRE_MISMATCH (R132). -/
def execCinchWireMismatch (t : Tile) (upper : Bool) (slot : Fin 8) (s : State) : Host.Outcome State Fault Refusal :=
  .next (
    if hasNeighbour t.val upper then
      s.putBit (if upper then Reg.CINCH_WIRE_STATUS.CWIRE_FLT_UP else Reg.CINCH_WIRE_STATUS.CWIRE_FLT_LO) t.val slot.val true
    else s)

/-! Forecast words (R133 to R137). -/

/-- One bit of the CRC-6 of x^6 + x + 1. -/
def crc6Bit (c : BitVec 6) (b : Bool) : BitVec 6 :=
  let fb := c.getLsbD 5 ^^ b
  (c <<< 1) ^^^ (if fb then 0b000011#6 else 0#6)

/-- CRC-6 of a forecast word's bits 31 to 6, bit 31 first (R135). -/
def fcCrc (w : Word) : BitVec 6 := (List.range 26).foldl (fun c k => crc6Bit c (w.getLsbD (31 - k))) 0#6

/-- RAIL of a forecast word. -/
def fcRail (w : Word) : Nat := (w >>> 26).toNat

/-- STEP of a forecast word, signed, 0.5 A units. -/
def fcStep (w : Word) : Int := signed 12 ((w >>> 14).toNat)

/-- LEAD of a forecast word, 50 ns units. -/
def fcLead (w : Word) : Nat := (w >>> 6).toNat % 256

/-- The pending forecast ends without a judgement: a later word or a cancel takes its place (R137). -/
def State.fcDrop (s : State) (t r : Nat) : State :=
  let i := railIx t r
  if s.on Reg.FC_STATUS.PENDING i then
    let s := (s.bump Reg.FC_COUNT_B.REPL_COUNT i).cancelPulses t r
    (s.clr Reg.FC_STATUS.PENDING i).clr Reg.FC_STATUS.JUDGING i
  else s

/-- A word is accepted at the boundary that begins the present tick, A (R137). -/
def State.fcAccept (s : State) (t r : Nat) (w : Word) : State :=
  let i := railIx t r
  let s := (s.bump Reg.FC_COUNT_A.ACC_COUNT i).put Reg.FC_LAST.WORD i w.toNat
  let s := s.fcDrop t r
  if fcStep w = 0 then s else
    let a := s.get Hid.TICK t
    let s := s.railEventOn t r Ev.fcNew
    let s := s.when (s.on Reg.RAIL_SHED.FC_ADD i) fun s => s.addAllParked t r
    let s := ((s.put Hid.FCP_A i a).put Hid.FCP_D i (a + 5 * fcLead w)).put Hid.FCP_STEP i (twos 12 (fcStep w))
    let cfg := s.get Reg.FC_CFG.FC_TPH i * 2 ^ 24 + s.get Reg.FC_CFG.FC_SPREAD i * 2 ^ 16 +
      s.get Reg.FC_CFG.FC_FADV i * 2 ^ 8 + s.get Reg.FC_CFG.FIRE i * 4
    let s := (s.put Hid.FCP_JUDGE i (s.get Reg.FC_JUDGE.FC_JUDGE i)).put Hid.FCP_CFG i cfg
    let s := (s.put Hid.FCP_ISUM i (twos 32 (s.isum t r))).clr Hid.FCP_CINCHED i
    ((s.clr Hid.FCP_STARTED i).raise Reg.FC_STATUS.PENDING i).clr Reg.FC_STATUS.JUDGING i

/-- A word is received on a tile: discarded and counted, ignored where another tile serves its rail, refused and counted, or accepted
(R134 to R137). -/
def State.fcWord (s : State) (t : Nat) (portB : Bool) (w : Word) (stopOk lostToA : Bool) : State :=
  if !s.on (if portB then Reg.FC_PORT_CTRL.EN_B else Reg.FC_PORT_CTRL.EN_A) t then s else
    let s := s.clr (if portB then Reg.FC_PORT_STATUS.NOCLK_B else Reg.FC_PORT_STATUS.NOCLK_A) t
    let r := fcRail w
    if !stopOk || decide (fcCrc w ≠ w.setWidth 6) then
      (s.bump (if portB then Reg.FC_PORT_STATUS.ERR_B else Reg.FC_PORT_STATUS.ERR_A) t).once (448 + 8 * t + 6)
    else if 48 ≤ r || !s.serves t r then s
    else
      let i := railIx t r
      let okSrc := (s.get Reg.FC_CFG.SRC i).testBit (if portB then 1 else 0)
      if s.kindOf r = 1 && okSrc && s.on Hid.SP_DONE i && !s.offOrStopping r && !(portB && lostToA) then s.fcAccept t r w
      else s.bump Reg.FC_STATUS.REFUSE_COUNT i

/-- FORECAST_WORD (R136). -/
def execForecastWord (t : Tile) (portB : Bool) (word : Word) (stopOk lostToA : Bool) (s : State) :
    Host.Outcome State Fault Refusal :=
  .next (s.fcWord t.val portB word stopOk lostToA)

/-- FORECAST_CLOCK_LOSS (R133; DEDUCED, log entry 44). -/
def execForecastClockLoss (t : Tile) (portB : Bool) (s : State) : Host.Outcome State Fault Refusal :=
  .next (s.raise (if portB then Reg.FC_PORT_STATUS.NOCLK_B else Reg.FC_PORT_STATUS.NOCLK_A) t.val)

/-! Due, fire, judgement (R137 to R139). -/

/-- Tick `at_` has been reached: its forward distance to the present tick is below 2^31. -/
def tickReached (at_ now : Nat) : Bool := decide ((now + 2 ^ 32 - at_ % 2 ^ 32) % 2 ^ 32 < 2 ^ 31)

/-- FORECAST_DUE (R137). -/
def execForecastDue (t : Tile) (r : Rail) (s : State) : Host.Outcome State Fault Refusal :=
  .next (
    let i := railIx t.val r.val
    if s.on Reg.FC_STATUS.PENDING i && !s.on Reg.FC_STATUS.JUDGING i && tickReached (s.get Hid.FCP_D i) (s.get Hid.TICK t.val) then
      (s.railEventOn t.val r.val Ev.fcDue).raise Reg.FC_STATUS.JUDGING i
    else s)

/-- The length of a pulse in taps, and whether it was limited (R138). -/
def pulseLen (step tph n : Nat) : Nat × Bool :=
  let x := step * tph * recip n / 65536
  (max 512 (min x 10240), x < 512 || 10240 < x)

/-- The fire starts at S, or at A where S lies before it: the ACTIVE phases of the tile are ranked and their pulses scheduled (R138). -/
def State.fcFireStart (s : State) (t r : Nat) : State :=
  let i := railIx t r
  let cfg := s.get Hid.FCP_CFG i
  let fadv := cfg / 256 % 256
  let late := decide ((s.get Hid.FCP_D i + 2 ^ 32 - s.get Hid.FCP_A i) % 2 ^ 32 < fadv)
  let start := if late then s.get Hid.FCP_A i else s.get Hid.FCP_D i + 2 ^ 32 - fadv
  let step := s.getI Hid.FCP_STEP i
  if s.on Reg.FC_STATUS.PENDING i && fcFire cfg && decide (0 < step) && !s.on Hid.FCP_STARTED i && !s.on Hid.FCP_CINCHED i &&
      tickReached start (s.get Hid.TICK t) then
    let l := (s.phasesOn t r).filter fun p => s.ph p = Ph.active && !s.underDiag p
    let s := (s.raise Hid.FCP_STARTED i).when late fun s => s.bump Reg.FC_COUNT_C.LATE_COUNT i
    if l.isEmpty then s else
      let (len, cut) := pulseLen step.toNat (cfg / 2 ^ 24) l.length
      let s := s.when cut fun s => s.raise Reg.FC_STATUS.TCLAMP i
      s.over l.zipIdx fun s pk =>
        let s := (s.put Hid.FPULSE pk.1 (s.get Hid.FPULSE pk.1 / 2 * 2 + 1)).put Hid.FP_S pk.1 start
        (s.put Hid.FPULSE_AT pk.1 (pk.2 * (cfg / 2 ^ 16 % 256) * 256 / l.length)).put Hid.FPULSE_LEN pk.1 len
  else s

/-- FORECAST_FIRE_START (R138). -/
def execForecastFireStart (t : Tile) (r : Rail) (s : State) : Host.Outcome State Fault Refusal := .next (s.fcFireStart t.val r.val)

/-- A scheduled pulse starts in its tick, unless a Cinch fire or its hand-over holds the rail, or the phase is no longer ACTIVE. A pulse of a replaced
forecast that still runs on the phase goes on in it (R137, R138, R141). -/
def State.pulseStart (s : State) (p : Nat) : State :=
  let f := s.get Hid.FPULSE p
  let begins := s.get Hid.FP_S p + s.get Hid.FPULSE_AT p / 256
  let ends := s.get Hid.FPULSE_AT p + s.get Hid.FPULSE_LEN p
  if f % 2 = 0 || !tickReached begins (s.get Hid.TICK (tileOf p)) then s
  else if s.on Hid.C_FIRE (railIx (tileOf p) (s.railOf p)) || s.ph p ≠ Ph.active || s.underDiag p then s.put Hid.FPULSE p (f / 2 * 2)
  else (((s.put Hid.FPULSE p 2).put Hid.FP_END p (s.get Hid.FP_S p + ends / 256)).put Hid.FP_TAP p (ends % 256)).fire p

/-- FORECAST_PULSE_START (R138). -/
def execForecastPulseStart (p : Phase) (s : State) : Host.Outcome State Fault Refusal := .next (s.pulseStart p.val)

/-- The pulse ends in its tick, and the phase returns to its committed duty (R138). -/
def State.pulseEnd (s : State) (p : Nat) : State :=
  if 2 ≤ s.get Hid.FPULSE p && tickReached (s.get Hid.FP_END p) (s.get Hid.TICK (tileOf p)) then
    (s.put Hid.FPULSE p (s.get Hid.FPULSE p % 2)).fireEnd p (s.inOnTimeAt p (s.get Hid.FP_TAP p))
  else s

/-- FORECAST_PULSE_END (R138). -/
def execForecastPulseEnd (p : Phase) (s : State) : Host.Outcome State Fault Refusal := .next (s.pulseEnd p.val)

/-- The pending forecast expires: FC_EXP, MISS_COUNT (R139). -/
def State.fcExpire (s : State) (t r : Nat) : State :=
  let i := railIx t r
  if s.on Reg.FC_STATUS.PENDING i then
    let s := ((s.railEventOn t r Ev.fcExp).bump Reg.FC_COUNT_B.MISS_COUNT i).once (288 + r)
    (s.clr Reg.FC_STATUS.PENDING i).clr Reg.FC_STATUS.JUDGING i
  else s

/-- At least half the announced step arrived with the announced sign (R139). -/
def fcMet (di step : Int) : Bool := decide ((step.natAbs : Int) * 8 ≤ di * step.sign)

/-- The forecast is judged at the boundary that begins tick D + FC_JUDGE (R139). -/
def State.fcJudge (s : State) (t r : Nat) : State :=
  let i := railIx t r
  let due := s.get Hid.FCP_D i + max 1 (s.get Hid.FCP_JUDGE i)
  if s.on Reg.FC_STATUS.PENDING i && s.on Reg.FC_STATUS.JUDGING i && tickReached due (s.get Hid.TICK t) then
    if fcMet (s.isum t r - s.getI Hid.FCP_ISUM i) (s.getI Hid.FCP_STEP i) then
      ((s.bump Reg.FC_COUNT_A.MET_COUNT i).clr Reg.FC_STATUS.PENDING i).clr Reg.FC_STATUS.JUDGING i
    else s.fcExpire t r
  else s

/-- FORECAST_JUDGE (R139). -/
def execForecastJudge (t : Tile) (r : Rail) (s : State) : Host.Outcome State Fault Refusal := .next (s.fcJudge t.val r.val)

end Sys2Proof.Machine
end

