-- ==== Sys2Proof/Machine/Faults.lean ====
section
/-!
DEFINITION. What a fault starts beside its own response: a snapshot (R179, R180), FLT_N (R187), an entry in the journal.
-/
namespace Sys2Proof.Machine

namespace SnapCause
abbrev stuck : Nat := 0
abbrev enableFail : Nat := 1
abbrev protect : Nat := 2
abbrev kerb : Nat := 3
abbrev fltN : Nat := 4
abbrev lane : Nat := 5
abbrev host : Nat := 6
end SnapCause

/-- No triggering rail. -/
def noRail : Nat := 0x3F

/-- A snapshot trigger: the active manager names tick T, 100 ticks ahead, or the trigger joins the snapshot in progress (R179, R180; DEDUCED, log entry 41). -/
def State.snapTrigger (s : State) (cause rail : Nat) : State :=
  if s.active.isNone then s
  else if s.on Reg.SNAP_STATUS.BUSY 0 then
    (s.putBit Hid.SNAP_CAUSE 0 cause true).bump Reg.SNAP_STATUS.MERGE_COUNT 0
  else
    let s := ((s.raise Reg.SNAP_STATUS.BUSY 0).put Hid.SNAP_CAUSE 0 (2 ^ cause)).put Hid.SNAP_RAIL 0 rail
    let s := (s.put Hid.SNAP_T 0 (s.beat * 100 + 100)).put Hid.SNAP_STAGE 0 1
    s.over (List.range 4) fun s t => s.capTrigger t 0

/-- A class of ASSERT_MASK has occurred: the active manager's latch asserts FLT_N (R187). -/
def State.fltAssert (s : State) (cls : Nat) : State :=
  if s.active.isSome && s.bit Reg.FLT_CFG.ASSERT_MASK 0 cls then
    (s.raise Reg.FLT_CFG.ASSERTED 0).putBit Hid.FLT_CAUSE 0 cls true else s

/-- The classes of ASSERT_MASK. -/
def fltStuck : Nat := 0
/-- An enable failed. -/
def fltEnable : Nat := 1
/-- A protection shut-down. -/
def fltProtect : Nat := 2
/-- Kerb entry. -/
def fltKerb : Nat := 3
/-- A worker was lost. -/
def fltWorker : Nat := 4

/-- A hardware action on a rail is journalled under the offset of a register of the rail's block (R408). -/
def State.jRail (s : State) (f : Fld) (r status : Nat) : State := s.jAction status r (f.off % 0x10000) (f.addr (s.homeIx r) 0)

end Sys2Proof.Machine
end

