-- ==== Sys2Proof/Machine/Sense.lean ====
section
/-!
DEFINITION. Conversions and telemetry (R143 to R165): the phase scan and the comparisons it feeds, the sense channels, the
test-voltage and housekeeping converters, telemetry windows, energy accumulators, power estimates.
-/
namespace Sys2Proof.Machine

/-! Converters (R459) and the slices of a tile (R143, R149 to R152). -/

/-- The code of an input: the nearer level, halfway the higher one, beyond the ends the end code. Code 0 stands for `zero`, the levels are `step` apart
(R459). -/
def codeOf (bits : Nat) (zero step x : Level) : Nat :=
  (clampI 0 ((2 ^ bits - 1 : Nat) : Int) ((2 * (x - zero) + step) / (2 * step))).toNat

/-- One millivolt. -/
abbrev mV : Level := 128000

/-- A code corrected by a slice's offset and gain trims (R146, R150; DESIGN CHOICE, log entry 104). -/
def correctCode (code : Nat) (ofs gain : Int) : Nat :=
  (clampI 0 4095 (2048 + asr (((code : Int) - 2048) * (32768 + gain) + 16384) 15 - ofs)).toNat

/-- The code of the slice at a position, corrected. -/
def State.sliceCode (s : State) (t p code : Nat) : Nat := correctCode code (s.getIAt Hid.SL_OFS t p) (s.getIAt Hid.SL_GAIN t p)

/-- The code of the spare at a position, corrected. -/
def State.spareCode (s : State) (t p code : Nat) : Nat := correctCode code (s.getIAt Hid.SP_OFS t p) (s.getIAt Hid.SP_GAIN t p)

/-- The spare stands in for the slice at a position: it holds a retired one, or the slice calibrates (R150, R151). -/
def State.spareIn (s : State) (t p : Nat) : Bool :=
  decide (s.get Reg.SNS_STATUS.SPARE_POS t = p) &&
    (s.on Reg.SNS_STATUS.SPARE_FIXED t || s.get Hid.ROT_PHASE t = 2 || s.get Hid.ROT_PHASE t = 3)

/-- What a position converts, before and after correction: the slice's code, or the spare's in its place. -/
def State.posCode (s : State) (t p code spare : Nat) : Nat × Nat :=
  if s.spareIn t p then (spare, s.spareCode t p spare) else (code, s.sliceCode t p code)

/-- While the slice and the spare convert alongside, sixteen pairs of corrected codes enter the comparison (R150). -/
def State.pairNote (s : State) (t p code spare : Nat) : State :=
  let n := s.get Hid.DIFF_N t
  if s.get Reg.SNS_STATUS.SPARE_POS t = p && (s.get Hid.ROT_PHASE t = 1 || s.get Hid.ROT_PHASE t = 3) && decide (n < 16) then
    let d := ((s.sliceCode t p code : Nat) : Int) - (s.spareCode t p spare : Nat)
    (s.put Hid.DIFF_SUM t (s.get Hid.DIFF_SUM t + d.natAbs)).put Hid.DIFF_N t (n + 1)
  else s

/-- The slice at a position works, or another fills its place. -/
def State.sliceWorks (s : State) (t p : Nat) : Bool := !s.onAt Hid.SLICE_LOST t p

/-- The working phase-scan slices of a tile, by position (R149). -/
def State.scanSlices (s : State) (t : Nat) : List Nat := ((List.range 8).map fun k => 24 + k).filter fun p => s.sliceWorks t p

/-- Ticks of a scan frame: F = ceil(24 / W) (R149). -/
def scanFrame (w : Nat) : Nat := (24 + w - 1) / w

/-- The position whose conversion of a phase ended in the present tick, if one did: it sampled the phase in the tick before, by the scan's schedule
(R149; DEDUCED, log entry 105). -/
def State.scanPos (s : State) (p : Nat) : Option Nat :=
  let t := tileOf p
  let l := s.scanSlices t
  let f := scanFrame l.length
  if l ≠ [] && (s.get Hid.TICK t + 2 ^ 32 - 1) % 2 ^ 32 % f = localOf p / l.length then l[localOf p % l.length]? else none

/-- The running diagnosis of a tile takes a sample of its target: after 2 µs of settling at each level, 64 of them (R154). -/
def State.diagNote (s : State) (t n : Nat) (x : Int) : State :=
  let age := (s.get Hid.TICK t + 2 ^ 32 - s.get Hid.DG_TICK t) % 2 ^ 32
  let i := age / 400
  if 200 ≤ age % 400 && decide (i < 4) && decide (s.getAt Hid.DG_N t i < 64) then
    (s.putIAt Hid.DG_SUM t i (s.getIAt Hid.DG_SUM t i + x)).putAt Hid.DG_N t i (s.getAt Hid.DG_N t i + n)
  else s

/-! The phase scan (R43, R47, R126, R149, R176, R193, R194). -/

/-- The rail's discharge runs at the high level, as tile `t` knows it: the other tile has it from the flags of the slot (R176). -/
def State.disHigh (s : State) (t r : Nat) : Bool :=
  if t = s.leadTile r then s.on Reg.RAIL_SUP_STATUS.DIS_HIGH (railIx t r) else s.slotFlag t r 6

/-- The phase may discharge: it is not BLOCKED or SHED and its input group is not isolated (R176). -/
def State.eligible (s : State) (p : Nat) : Bool :=
  s.ph p ≠ Ph.blocked && s.ph p ≠ Ph.shed && !s.isoLow (s.get Reg.PH_CFG.VING p)

/-- The discharge driver works on the phase: its rail is stopping with DIS_EN, and the phase is one of the level's (R176). -/
def State.discharges (s : State) (p : Nat) : Bool :=
  let r := s.railOf p
  let i := s.leadIx r
  decide (r < 48) && s.stopping r && !s.bit Hid.LOST_MID 0 r && s.on Reg.RAIL_DIS_CFG.DIS_EN i && s.on Hid.HELD p && s.eligible p &&
    (s.aliveOf r).contains p &&
    (s.disHigh (tileOf p) r ||
      (((s.phasesOn (s.leadTile r) r).filter s.eligible).take (s.get Reg.RAIL_DIS_CFG.DIS_NLO i)).contains p)

/-- The discharge driver takes the newest sample of a phase: low above −DIS_I, mid at or below it, low again from 0 A on once the 200 ns
of mid have passed (R176). -/
def State.dischargeSample (s : State) (p : Nat) : State :=
  if !s.discharges p then s else
    let i := s.leadIx (s.railOf p)
    let lim : Int := s.get (if s.disHigh (tileOf p) (s.railOf p) then Reg.RAIL_DIS_CFG.DIS_IHI else Reg.RAIL_DIS_CFG.DIS_ILO) i * 16
    let x := s.iph p
    if s.get Hid.PWM_LVL p = Pwm.low.num then
      (if x ≤ -lim then (s.toMid p).raise Hid.DIS_REC p else s)
    else if s.get Hid.PWM_LVL p = Pwm.mid.num && !s.on Hid.MID_BUSY p then
      (if (if s.on Hid.DIS_REC p then 0 else 1 - lim) ≤ x then (s.put Hid.PWM_LVL p Pwm.low.num).clr Hid.DIS_REC p else s)
    else s

/-- PWM_nn is high: a fire, or the engine's pulse within its on-time. -/
def State.isHigh (s : State) (p : Nat) (inOn : Bool) : Bool :=
  decide (s.get Hid.PWM_LVL p = Pwm.pulse.num) && (s.on Hid.FIRED p || inOn)

/-- The PWM level of a phase outside its high intervals: mid where diode emulation and the newest sample say so (R43). -/
def State.fallLow (s : State) (p : Nat) : State :=
  if s.deOn p && decide (s.iph p ≤ 0) then s.toMid p else s.put Hid.PWM_LVL p Pwm.low.num

/-- A high interval ends at the limit: LIMITED, LIMIT_COUNT, one more consecutive cycle; it does not start again before the next leading
edge (R193, R194). -/
def State.limitAct (s : State) (p : Nat) : State :=
  let s := s.when (!s.on Hid.CUT p) fun s => s.bump Hid.OC_N p
  let s := (((s.raise Hid.CUT p).clr Hid.FIRED p).clr Hid.FPULSE p).raise Reg.PH_PROT_STATUS.LIMITED p
  (s.bump Reg.PH_PROT_STATUS.LIMIT_COUNT p).fallLow p

/-- Diode emulation: in off-time a current at or below 0 A takes the phase to mid (R43). -/
def State.diodeMid (s : State) (p : Nat) (inOn : Bool) : State :=
  if s.isActivePh p && s.deOn p && !inOn && !s.on Hid.FIRED p && !s.on Hid.HELD p && decide (s.iph p ≤ 0) &&
      decide (s.get Hid.PWM_LVL p ≠ Pwm.mid.num) then s.toMid p
  else s

/-- One code of a phase's report: IPH, then IPK, the limit, else diode emulation and the discharge driver, and the ceiling (R126, R193). A phase under
diagnosis is off its ball: its code is a sample of the diagnosis and nothing else (R154). -/
def State.phaseCode (s : State) (p code : Nat) (inOn : Bool) : State :=
  if s.underDiag p then s.diagNote (tileOf p) 1 code else
    let x := iphOf code (s.getI Reg.PH_ICAL.IOFS p) (s.get Reg.PH_ICAL.IPH_SCALE p)
    let s := ((s.put Reg.PH_IMEAS.CODE p code).put Reg.PH_IMEAS.IPH p (twos 16 x)).put Hid.IPH_AGE p 1
    let running := s.sheddable p || s.ph p = Ph.spareHold
    let limits := s.isHigh p inOn && decide (((s.ilimEff p : Nat) : Int) * 16 ≤ x)
    let s := s.ipkCut p inOn
    let s := if limits then s.limitAct p else (s.diodeMid p inOn).dischargeSample p
    s.when (running && decide (((s.get Reg.PH_PROT.ILIM_CEIL p : Nat) : Int) * 16 ≤ x)) fun s =>
      (s.raise Reg.PH_PROT_STATUS.HARD_EVT p).shed p Cause.phaseOc

/-- One conversion of a phase's report, where the schedule has one: 2 048 stands for IMON = IREF, one code is 244.140625 µV (R46, R149). -/
def State.phaseScan (s : State) (p : Nat) (level spare : Level) : State :=
  match s.scanPos p with
  | none => s
  | some q =>
    let t := tileOf p
    let code := fun x => codeOf 12 (-2048 * 31250) 31250 x
    (s.pairNote t q (code level) (code spare)).phaseCode p (s.posCode t q (code level) (code spare)).2 (s.inOnTimeAt p 8)

/-- PHASE_SCAN_CONVERSION (R149). -/
def execPhaseScanConversion (p : Phase) (level spare : Level) (s : State) : Host.Outcome State Fault Refusal :=
  .next (s.phaseScan p.val level spare)

/-! Sense channels (R145 to R147). -/

/-- The codes of a channel's two positions, the other slice's where none serves one (R152). -/
def State.codesOf (s : State) (t c : Nat) (a b : Nat × Nat) : (Nat × Nat) × (Nat × Nat) :=
  if s.onAt Hid.SLICE_LOST t (2 * c) then (b, b) else if s.onAt Hid.SLICE_LOST t (2 * c + 1) then (a, a) else (a, b)

/-- The raw value at the sense pins, 1/4 mV (R146). -/
def rawOf (vc a b : Nat) : Int := 4 * (vc : Int) + asr ((a : Int) + b - 4096 + 2) 2

/-- The window centre that follows a raw value: kept within 192 mV of it, else moved to it (R145). -/
def centreOf (vc : Nat) (raw : Int) : Nat :=
  if (raw - 4 * (vc : Int)).natAbs ≤ 768 then vc else (clampI 0 4095 (asr (raw + 2) 2)).toNat

/-- VSENSE from a raw value (R146, R147). -/
def vsenseOf (raw : Int) (divider : Bool) (gain : Nat) (ofs : Int) : Nat :=
  let raw := if divider then 4 * raw else raw
  (clampI 0 65535 (asr (raw * gain) 15 + ofs)).toNat

/-- A code before correction at an end of the range saturates (R145). -/
def isSat (code : Nat) : Bool := decide (code = 0) || decide (code = 4095)

/-- A channel's two positions in one tick, each as its code before and after correction: saturation, the value of the tick, the window centre of the next
samples (R145, R146). -/
def State.channelConvert (s : State) (t c : Nat) (a b : Nat × Nat) : State × Int :=
  let x := s.codesOf t c a b
  let sat := isSat x.1.1 || isSat x.2.1
  let vc := s.getAt Reg.CHAN_STATE.VC t c
  let raw := rawOf vc x.1.2 x.2.2
  let s := (s.putAt Hid.CODE_A t c x.1.2).putAt Hid.CODE_B t c x.2.2
  let s := (s.putAt Reg.CHAN_STATE.SAT t c sat.toNat).when sat fun s => s.raiseAt Reg.CHAN_STATE.SAT_EVT t c
  (s.putAt Reg.CHAN_STATE.VC t c (centreOf vc raw), raw)

/-- The rails whose sense channel on tile `t` is channel `c`. -/
def State.railsOfChan (s : State) (t c : Nat) : List Nat :=
  (List.range 48).filter fun r => (t = s.home r || s.partner r = some t) && s.chanOf t r = c

/-- A running diagnosis holds the channel (R154). -/
def State.chanDiag (s : State) (t c : Nat) : Bool :=
  s.on Reg.DIAG_RESULT.BUSY t && decide (s.get Hid.DIAG_KIND t = 0) && decide (s.get Hid.DIAG_TGT t = c)

/-- The newest VSENSE enters the snapshot, and the value formed from the tick's codes waits for the next boundary: an age of 2 (R79, R146). A channel under
diagnosis is off its balls: its codes are samples of the diagnosis, its window follows the forced levels, and the rail's readings keep their values
(R154; DEDUCED, log entry 126). -/
def State.senseConversion (s : State) (t c : Nat) (a b : Nat × Nat) : State :=
  let rails := s.railsOfChan t c
  let centre := s.getAt Reg.CHAN_STATE.VC t c
  let (s, raw) := s.channelConvert t c a b
  if s.chanDiag t c then
    s.diagNote t 2 (16 * centre + s.getAt Hid.CODE_A t c + s.getAt Hid.CODE_B t c - 4096)
  else
    s.over rails fun s r =>
      let i := railIx t r
      let hist := (List.range 31).map fun k => s.getAt Hid.VS_HIST i k
      let s := s.putAt Hid.VS_HIST i 0 (s.get Hid.VS_NEXT i)
      let s := s.over hist.zipIdx fun s vk => s.putAt Hid.VS_HIST i (vk.2 + 1) vk.1
      s.put Hid.VS_NEXT i (vsenseOf raw (s.on Reg.RAIL_SETPT.DIVIDER i) (s.get Reg.RAIL_SNS.SNS_GAIN i) (s.getI Reg.RAIL_SNS.SNS_OFS i))

/-- The samples that slices A and B of a channel took in the tick that ends, each beside the spare's: code 2 048 stands for the window centre, one code is
0.125 mV (R145, R459). -/
def State.senseLevels (s : State) (t c : Nat) (a b spare : Level) : State :=
  let zero := s.getAt Reg.CHAN_STATE.VC t c * mV - 256 * mV
  let code := fun x => codeOf 12 zero 16000 x
  let s := (s.pairNote t (2 * c) (code a) (code spare)).pairNote t (2 * c + 1) (code b) (code spare)
  s.senseConversion t c (s.posCode t (2 * c) (code a) (code spare)) (s.posCode t (2 * c + 1) (code b) (code spare))

/-! Skew calibration (R148). -/

/-- The skew trim of slice B of a channel. -/
def skewFld (c : Nat) : Fld :=
  match c with
  | 0 => Reg.SKEW_TRIM.SKEW_00 | 1 => Reg.SKEW_TRIM.SKEW_01 | 2 => Reg.SKEW_TRIM.SKEW_02 | 3 => Reg.SKEW_TRIM.SKEW_03
  | 4 => Reg.SKEW_TRIM.SKEW_04 | 5 => Reg.SKEW_TRIM.SKEW_05 | 6 => Reg.SKEW_TRIM.SKEW_06 | 7 => Reg.SKEW_TRIM.SKEW_07
  | 8 => Reg.SKEW_TRIM.SKEW_08 | 9 => Reg.SKEW_TRIM.SKEW_09 | 10 => Reg.SKEW_TRIM.SKEW_10 | _ => Reg.SKEW_TRIM.SKEW_11

/-- The channels of a tile whose rails are all off, as a mask. -/
def State.idleChannels (s : State) (t : Nat) : Nat :=
  (List.range 12).foldl (fun a c => if (s.railsOfChan t c).all fun r => s.rs r = Rs.off then a + 2 ^ c else a) 0

/-- Skew calibration of a set of channels starts (R148). -/
def State.skewRun (s : State) (t m : Nat) : State :=
  if m = 0 then s else (s.put Hid.SKEW_TODO t m).raise Reg.SNS_STATUS.SKEW_BUSY t

/-- SKEW_CAL: it runs for the idle channels; with none it is over at once (R148). -/
def State.skewCommand (s : State) (w : Who) (t : Nat) : State :=
  if s.idleChannels t = 0 then s.jDone w Reg.SNS_CTRL.SKEW_CAL t noTarget
  else (s.acceptRun w Reg.SNS_CTRL.SKEW_CAL t noTarget).skewRun t (s.idleChannels t)

/-- SKEW_CAL (R148). -/
def execSkewCal (w : Who) (t : Tile) (s : State) : Host.Outcome State Fault Refusal := .next (s.skewCommand w t.val)

/-! The test-voltage converter (R51, R153, R201, R202). -/

/-- One more consecutive reading, held at 3, or none. -/
def State.streak (s : State) (f : Fld) (i j : Nat) (b : Bool) : State := if b then s.bumpAt f i j else s.clrAt f i j

/-- The local stage groups of a tile with a phase that draws from an input group. -/
def State.stagesOfGroup (s : State) (t g : Nat) : List Nat :=
  (List.range 6).filter fun k => (phasesOfStage t k).any fun p => decide (s.get Reg.PH_CFG.VING p = g)

/-- The tile reads an input group: a phase of the tile draws from it (R153). -/
def State.readsGroup (s : State) (t g : Nat) : Bool := !(s.stagesOfGroup t g).isEmpty

/-- A condition has held since a beat, or holds no longer. -/
def State.since (s : State) (f : Fld) (i j : Nat) (b : Bool) : State :=
  if !b then s.clrAt f i j else s.when (decide (s.getAt f i j = 0)) fun s => s.putAt f i j (s.beat + 1)

/-- The condition has held for `n` µs. -/
def State.heldFor (s : State) (f : Fld) (i j n : Nat) : Bool :=
  decide (s.getAt f i j ≠ 0) && decide (n ≤ beatDiff s.beat (s.getAt f i j - 1))

/-- The active manager's voltage of a group and the newest VIN_q of some tile that reads the group differ by more than 2 % of the manager's own (R158). -/
def State.vinDiffers (s : State) (g : Nat) : Bool :=
  let v := s.getAt Reg.HK_VING.V s.act g
  (List.range 4).any fun t => s.readsGroup t g &&
    decide ((v : Int) < 50 * (((v : Int) - (s.getAt Reg.TILE_VIN.VIN t g : Nat)).natAbs : Int))

/-- A voltage of a group is new: the comparison of R158 starts or ends. -/
def State.vinCheck (s : State) (g : Nat) : State := s.since Hid.VDIS_AT s.act g (s.vinDiffers g)

/-- One condition of the input window, confirmed at the second consecutive reading (R201). -/
def State.vinWindow (s : State) (t g : Nat) (f : Fld) (bad : Bool) : State :=
  let s := s.streak f t g bad
  if s.getAt f t g = 2 && bad then
    s.over (s.stagesOfGroup t g) fun s k => s.putBit Reg.STG_DERATE.VIN_EVT t k true
  else s

/-- VIN_q of a group from a code (R153). -/
def State.vinReading (s : State) (t g code : Nat) : State :=
  if !s.readsGroup t g then s else
    let v := code * 5 * s.getAt Reg.HK_SCALE.HKV_GAIN 0 g / 2 ^ 15
    let s := s.putAt Reg.TILE_VIN.VIN t g v
    ((s.vinWindow t g Hid.VIN_LO_N (v < 42000)).vinWindow t g Hid.VIN_HI_N (60000 < v)).vinCheck g

/-- STG_TLIM in force, °C. -/
def State.stgTlim (s : State) (t : Nat) : Nat :=
  if s.get Reg.TILE_THERM_CTRL.STG_TLIM t = 0 then s.get Reg.TILE_THERM_CTRL.STG_TLIM_CEIL t
  else s.get Reg.TILE_THERM_CTRL.STG_TLIM t

/-- A stage temperature in 1/16 °C; `none` where no valid temperature exists (R51). -/
def State.stageTemp (s : State) (t k code : Nat) : Option Int :=
  let slope := s.get Reg.STG_TF_CAL.TF_SLOPE t
  if slope = 0 || s.bit Reg.STG_GROUP_STATUS.TF_LOW t k then none
  else some (clampI (-32767) 32767 (400 + 16 * ((code : Int) * 125 - s.get Reg.STG_TF_CAL.TF_V25 t * 1000) / slope))

/-- Writes a stage temperature. -/
def State.putStageTemp (s : State) (t k v : Nat) : State :=
  s.putAt (if k % 2 = 0 then Reg.STG_TEMP.TEMP_EVEN else Reg.STG_TEMP.TEMP_ODD) t (k / 2) v

/-- A reading of an STG_TF line, and the derating of its group (R51, R202). A code below the end code shows the line below 2.50 V, where TF_FAULT reads 0
(R50; DEDUCED, log entry 107). -/
def State.stageReading (s : State) (t k code : Nat) : State :=
  let s := s.when (decide (code < 16383)) fun s => s.putBit Reg.STG_GROUP_STATUS.TF_FAULT t k false
  match s.stageTemp t k code with
  | none =>
    (((s.putStageTemp t k 0x8000).putBit Reg.STG_DERATE.DERATE t k false).clrAt Hid.STG_HI_N t k).clrAt Hid.STG_LO_N t k
  | some x =>
    let lim : Int := s.stgTlim t * 16
    let s := s.putStageTemp t k (twos 16 x)
    let s := (s.streak Hid.STG_HI_N t k (lim < x)).streak Hid.STG_LO_N t k (x ≤ lim - 80)
    let s := s.when (s.getAt Hid.STG_HI_N t k = 3) fun s => s.putBit Reg.STG_DERATE.DERATE t k true
    s.when (s.getAt Hid.STG_LO_N t k = 3) fun s => s.putBit Reg.STG_DERATE.DERATE t k false

/-- The line or reference that one of the four slots of a frame reads: the six lines and the two references in turn, four a frame (R153; DEDUCED, log
entry 107). -/
def tvcTurn (pos : Nat) : Nat := pos / 20 * 4 + (if pos % 20 < 10 then pos % 20 - 8 else pos % 20 - 16)

/-- The next conversion of the test-voltage converter's frame: code 0 stands for 0 V, one code is 125 µV. Numbers g and 10 + g read input group g, the
others the lines and references (R153). While a diagnosis holds the converter the readings keep their last values. -/
def State.tvcConvert (s : State) (t : Nat) (level : Level) : State :=
  if s.on Reg.DIAG_RESULT.BUSY t then s else
    let pos := s.get Hid.TVC_POS t
    let code := codeOf 14 0 16000 level
    let s := s.put Hid.TVC_POS t ((pos + 1) % 40)
    if pos % 10 < 8 then s.vinReading t (pos % 10) code
    else if tvcTurn pos < 6 then s.stageReading t (tvcTurn pos) code
    else s

/-- TVC_CONVERSION (R153). -/
def execTvcConversion (t : Tile) (level : Level) (s : State) : Host.Outcome State Fault Refusal := .next (s.tvcConvert t.val level)

/-- A diagnosis request: accepted for a channel whose rails are all off, or a phase that is OFF, PARKED, SHED or BLOCKED, while none
runs (R154). -/
def State.diagStart (s : State) (t : Nat) : State :=
  let kind := s.get Reg.DIAG_CTRL.KIND t
  let tgt := s.get Reg.DIAG_CTRL.TARGET t
  let p := t * 24 + tgt
  let okChan := kind = 0 && decide (tgt < 12) && (s.railsOfChan t tgt).all fun r => s.rs r = Rs.off
  let okPhase := kind = 1 && decide (tgt < 24) &&
    (s.ph p = Ph.off || s.ph p = Ph.parked || s.ph p = Ph.shed || s.ph p = Ph.blocked)
  if !s.on Reg.DIAG_RESULT.BUSY t && (okChan || okPhase) then
    let s := ((s.raise Reg.DIAG_RESULT.BUSY t).put Hid.DIAG_KIND t kind).put Hid.DIAG_TGT t tgt
    (s.over (List.range 4) fun s i => (s.clrAt Hid.DG_SUM t i).clrAt Hid.DG_N t i).put Hid.DG_TICK t (s.get Hid.TICK t)
  else (s.put Reg.DIAG_RESULT.VERDICT t 7).raise Reg.DIAG_RESULT.DIAG_REJ t

/-- DIAG_START (R154). -/
def execDiagStart (_w : Who) (t : Tile) (s : State) : Host.Outcome State Fault Refusal := .next (s.diagStart t.val)

/-! Manager housekeeping (R157, R158, R162, R200). -/

/-- OCL of an input group in force, A. -/
def State.igLimit (s : State) (g : Nat) : Nat :=
  if s.getAt Reg.IG_OC.OCL 0 g = 0 then s.getAt Reg.IG_OC.IG_CEIL 0 g else s.getAt Reg.IG_OC.OCL 0 g

/-- The group current is compared with its limit; the active manager isolates the group at the second consecutive conversion above it, once until the
current falls or the group is released (R200). -/
def State.igCompare (s : State) (m g : Nat) (i : Int) : State :=
  let above := decide (((s.igLimit g : Nat) : Int) * 16 < i)
  let s := (s.streak Hid.IG_N m g above).when (!above) fun s => s.clrAt Hid.IG_ACTED m g
  if above && decide (2 ≤ s.getAt Hid.IG_N m g) && s.isActive m && !(s.bit Hid.ISO_LATCH_M m g && s.onAt Hid.IG_ACTED m g) then
    let s := ((s.isoMgr m g).raiseAt Hid.IG_ACTED m g).raiseAt Reg.IG_OC.IG_OC_EVT 0 g
    let s := s.over (s.railsOfGroup g) fun s r => s.railEvent r Ev.railOc
    s.snapTrigger SnapCause.protect noRail
  else s

/-- Energy of `P` mW over 16 µs joins a group's accumulator, whose remainder below one microjoule is carried (R160, R162). -/
def State.groupEnergy (s : State) (m g : Nat) (p : Int) : State :=
  let x := (s.getAt Hid.HK_E_REM m g : Int) + 16 * p
  let e : Int := s.getAt Reg.HK_E_HI.E m g * 2 ^ 32 + s.getAt Reg.HK_E_LO.E m g
  let y := e + x / 1000
  let n := (y % (2 ^ 64 : Nat)).toNat
  let s := s.putAt Hid.HK_E_REM m g (x % 1000).toNat
  let s := (s.putAt Reg.HK_E_LO.E m g n).putAt Reg.HK_E_HI.E m g (n / 2 ^ 32)
  s.when (decide ((2 ^ 64 : Nat) ≤ y)) fun s => s.putBit Reg.HK_FLAGS.WRAP m g true

/-- I of a group without a shunt: P_EST / V in 1/16 A, rounded half up. At 0 V the quotient is not stated: a free value. -/
def State.estCurrent (s : State) (m g : Nat) : State :=
  let v := s.getAt Reg.HK_VING.V m g
  let p := s.getAt Reg.HK_PEST.P m g
  if v = 0 then s.draw.2.putAt Reg.HK_VING.I m g s.draw.1
  else s.putAt Reg.HK_VING.I m g (twos 14 (min 8191 ((2 * 64 * p + v) / (2 * v) : Nat)))

/-- One conversion of a housekeeping input: a group voltage, or a group current and with it the pair's power, energy and overcurrent
comparison (R157, R162, R200; DEDUCED, log entry 39). -/
def State.hkConvert (s : State) (m input code : Nat) : State :=
  let s := s.putAt Hid.HK_CODE m input code
  if input < 8 then
    let s := s.putAt Reg.HK_VING.V m input (code * 5 * s.getAt Reg.HK_SCALE.HKV_GAIN 0 input / 2 ^ 17)
    s.when (s.isActive m) fun s => s.vinCheck input
  else
    let g := input - 8
    if s.bit Reg.HK_CFG.SH_EN 0 g then
      let i := clampI (-8191) 8191 (asr (((code : Int) - 32768) * s.getAt Reg.HK_SCALE.SH_SCALE 0 g) 16)
      let s := s.putAt Reg.HK_VING.I m g (twos 14 i)
      let p := asr (((s.getAt Reg.HK_VING.V m g : Nat) : Int) * i) 6
      let s := s.when (s.isActive m) fun s => (s.putAt Reg.HK_PMEAS.P m g (twos 32 p)).groupEnergy m g p
      s.igCompare m g i
    else
      let s := ((s.clrAt Hid.IG_N m g).clrAt Hid.IG_ACTED m g).estCurrent m g
      s.when (s.isActive m) fun s => s.groupEnergy m g (s.getAt Reg.HK_PEST.P m g : Nat)

/-- The conversion of the input that is next in turn: code 0 stands for 0 V, one code is 31.25 µV (R157, R459). -/
def State.hkNext (s : State) (m : Nat) (level : Level) : State :=
  let n := s.get Hid.HK_POS m
  (s.put Hid.HK_POS m (n + 1)).hkConvert m n (codeOf 16 0 4000 level)

/-- HK_CONVERSION (R157). -/
def execHkConversion (m : Mgr) (level : Level) (s : State) : Host.Outcome State Fault Refusal := .next (s.hkNext m.val level)

/-- VIN_DISAGREE_CONFIRM (R158): the difference has been held for 100 µs. -/
def execVinDisagreeConfirm (g : Group) (s : State) : Host.Outcome State Fault Refusal :=
  .next (s.when (s.heldFor Hid.VDIS_AT s.act g.val 100) fun s => s.putBit Reg.HK_FLAGS.VIN_DISAGREE s.act g.val true)

/-! Rail telemetry (R159 to R161). -/

/-- Units of 78.125 fJ in a microjoule. -/
def energyUnit : Nat := 12800000

/-- Energy of one tick joins a rail's accumulator: positive products only, the remainder carried (R159). -/
def State.railEnergy (s : State) (i : Nat) (x : Int) : State :=
  if x ≤ 0 then s else
    let y := s.get Hid.E_REM i + x.toNat
    let e := s.get Reg.RAIL_E_HI.E i * 2 ^ 32 + s.get Reg.RAIL_E_LO.E i + y / energyUnit
    let s := s.put Hid.E_REM i (y % energyUnit)
    let s := (s.put Reg.RAIL_E_LO.E i e).put Reg.RAIL_E_HI.E i (e / 2 ^ 32)
    s.when (decide (2 ^ 64 ≤ e)) fun s => s.raise Reg.RAIL_ACC_FLAGS.WRAP i

/-- Ticks of a telemetry window. -/
def State.tlmLen (s : State) (i : Nat) : Nat := 2 ^ (s.get Reg.RAIL_TLM_CFG.TLM_WIN i + 4)

/-- A window starts with empty sums at a tick that is a multiple of its length (R159). -/
def State.windowBegin (s : State) (t i : Nat) : State :=
  if s.get Hid.TICK t % s.tlmLen i = 0 then
    ((((s.clr Hid.TLM_SV i).clr Hid.TLM_SI i).clr Hid.TLM_SP i).clr Hid.TLM_BAD i).clr Hid.TLM_N i
  else s

/-- The telemetry of one tick on the tile that serves the rail: window sums, extremes, energy (R159). -/
def State.telemetryTick (s : State) (t r : Nat) : State :=
  let i := railIx t r
  let v := s.vsense t r
  let c := s.isum t r
  let s := (s.windowBegin t i).bump Hid.TLM_N i
  let s := s.put Hid.TLM_SV i (s.get Hid.TLM_SV i + v)
  let s := (s.putI Hid.TLM_SI i (s.getI Hid.TLM_SI i + c)).putI Hid.TLM_SP i (s.getI Hid.TLM_SP i + v * c)
  let s :=
    if s.on Hid.PK_PEND i then ((s.put Reg.RAIL_TLM_PK.V_MAX i v).put Reg.RAIL_TLM_PK.V_MIN i v).clr Hid.PK_PEND i
    else (s.put Reg.RAIL_TLM_PK.V_MAX i (max v (s.get Reg.RAIL_TLM_PK.V_MAX i))).put Reg.RAIL_TLM_PK.V_MIN i
      (min v (s.get Reg.RAIL_TLM_PK.V_MIN i))
  s.railEnergy i (v * c)

/-- The window that ends with the present tick was observed whole: every one of its ticks is in the sums, and TLM_WIN was not written in it (R159). -/
def State.windowWhole (s : State) (t i : Nat) : Bool :=
  decide ((s.get Hid.TICK t + 1) % s.tlmLen i = 0) && decide (s.get Hid.TLM_N i = s.tlmLen i) && !s.on Hid.TLM_BAD i

/-- A window ends: the means of a window observed whole, each rounded half up (R159). -/
def State.windowEnd (s : State) (t r : Nat) : State :=
  let i := railIx t r
  if s.serves t r && s.windowWhole t i then
    let n : Int := (s.tlmLen i : Nat)
    let s := s.put Reg.RAIL_TLM_V.V_AVG i (((s.get Hid.TLM_SV i : Int) * 2 + n) / (2 * n)).toNat
    let s := s.putFit Reg.RAIL_TLM_V.I_AVG i 0 ((s.getI Hid.TLM_SI i + n) / (2 * n))
    (s.putFit Reg.RAIL_TLM_P.P_AVG i 0 ((s.getI Hid.TLM_SP i + 64 * n) / (128 * n))).clr Hid.TLM_N i
  else s

/-- TLM_WINDOW_END (R159). -/
def execTlmWindowEnd (t : Tile) (r : Rail) (s : State) : Host.Outcome State Fault Refusal := .next (s.windowEnd t.val r.val)

/-- PK_CLR (R159): the extremes restart at the next tick boundary. -/
def execPkClr (_w : Who) (t : Tile) (r : Rail) (s : State) : Host.Outcome State Fault Refusal :=
  .next (s.raise Hid.PK_PEND (railIx t.val r.val))

/-- A low word is staged for its initiator (R160). -/
def State.accLow (s : State) (w : Who) (a : EnergyAcc) (v : Nat) : State :=
  match a with
  | .rail t r => s.putAt Hid.E_STAGED (railIx t r) (whoIx w) (2 ^ 32 + v)
  | .group m g => s.putAt Hid.HK_E_STAGED m (6 * g.val + whoIx w) (2 ^ 32 + v)

/-- ACC_LOW_WRITE (R160). -/
def execAccLowWrite (w : Who) (acc : EnergyAcc) (v : Word) (s : State) : Host.Outcome State Fault Refusal :=
  .next (s.accLow w acc v.toNat)

/-- A high word commits both words, clears the remainder and the staging; with no staged low word it changes nothing. An increment of the
same cycle is lost and sets OVERLAP (R11, R160). -/
def State.accHigh (s : State) (w : Who) (a : EnergyAcc) (v : Nat) (inc : Bool) : State :=
  match a with
  | .rail t r =>
    let i := railIx t r
    let st := s.getAt Hid.E_STAGED i (whoIx w)
    if st < 2 ^ 32 then s else
      let s := (s.put Reg.RAIL_E_LO.E i st).put Reg.RAIL_E_HI.E i v
      ((s.clr Hid.E_REM i).clrAt Hid.E_STAGED i (whoIx w)).when inc fun s => s.raise Reg.RAIL_ACC_FLAGS.E_OVERLAP i
  | .group m g =>
    let k := 6 * g.val + whoIx w
    let st := s.getAt Hid.HK_E_STAGED m k
    if st < 2 ^ 32 then s else
      let s := (s.putAt Reg.HK_E_LO.E m g st).putAt Reg.HK_E_HI.E m g v
      ((s.clrAt Hid.HK_E_REM m g).clrAt Hid.HK_E_STAGED m k).when inc fun s => s.putBit Reg.HK_FLAGS.E_OVERLAP m g true

/-- ACC_HIGH_WRITE (R160). -/
def execAccHighWrite (w : Who) (acc : EnergyAcc) (v : Word) (incSame : Bool) (s : State) : Host.Outcome State Fault Refusal :=
  .next (s.accHigh w acc v.toNat incSame)

/-! Power estimates (R163). -/

/-- INV_ETA point `k` of a group. -/
def State.invEta (s : State) (g k : Nat) : Nat :=
  s.getAt (if k % 2 = 0 then Reg.EFF.INV_ETA_LO else Reg.EFF.INV_ETA_HI) 0 (g * 4 + k / 2)

/-- The interpolated 1/η at a phase current, Q14. -/
def State.invAt (s : State) (g i : Nat) : Int :=
  let k := min (i / 256) 6
  let f := if 6 < i / 256 then 256 else i % 256
  let a : Int := s.invEta g k
  a + asr (((s.invEta g (k + 1) : Nat) - a) * f) 8

/-- The estimate of a tile for a group, mW. -/
def State.powerEst (s : State) (t g : Nat) : Int :=
  let l := s.phasesInGroup t g
  let sum := (l.filter s.isActivePh).foldl (fun (a : Int) p =>
    let i := (max (s.iph p) 0).toNat
    a + asr (((s.vsense t (s.railOf p) * i : Nat) : Int) * s.invAt g i) 14) 0
  asr sum 7 + (s.getAt Reg.EFF_PQ.P_Q 0 g * (l.filter fun p => s.isActivePh p || s.ph p = Ph.parked).length : Nat)

/-- POWER_ESTIMATE (R163): one more estimate of every group, of which the last ten are kept. -/
def State.powerEstimate (s : State) (t : Nat) : State :=
  s.over (List.range 8) fun s g =>
    let old := (List.range 9).map fun k => s.getAt Hid.EST_HIST t (10 * g + k)
    let s := s.putAt Hid.EST_HIST t (10 * g) (twos 32 (s.powerEst t g))
    s.over old.zipIdx fun s vk => s.putAt Hid.EST_HIST t (10 * g + vk.2 + 1) vk.1

/-- POWER_ESTIMATE (R163). -/
def execPowerEstimate (t : Tile) (s : State) : Host.Outcome State Fault Refusal := .next (s.powerEstimate t.val)

/-- The partials of a group that a manager counts, summed into P_EST; a stale one counts as 0 (R163). -/
def State.sumPartials (s : State) (m g : Nat) : State :=
  let sum := (List.range 4).foldl (fun (a : Int) t =>
    if s.bit Hid.PART_STALE m (8 * t + g) then a else a + signed 32 (s.getAt Hid.PART_VAL m (8 * t + g))) 0
  s.putAt Reg.HK_PEST.P m g (twos 32 sum)

/-- EST_STALE of a group: some tile's partial is stale. -/
def State.estStale (s : State) (m g : Nat) : State :=
  s.putBit Reg.HK_CFG.EST_STALE m g ((List.range 4).any fun t => s.bit Hid.PART_STALE m (8 * t + g))

/-- A tile sends the mean of its last ten estimates, rounded toward minus infinity, to both managers (R163; DESIGN CHOICE, log entry 104). -/
def State.partialSend (s : State) (t : Nat) : State :=
  s.over (List.range 8) fun s g =>
    let sum := (List.range 10).foldl (fun (a : Int) k => a + signed 32 (s.getAt Hid.EST_HIST t (10 * g + k))) 0
    s.over (List.range 2) fun s m =>
      let s := (s.putAt Hid.PART_VAL m (8 * t + g) (twos 32 (sum / 10))).putAt Hid.PART_AT m (8 * t + g) (s.get Hid.BEAT m + 1)
      ((s.putBit Hid.PART_STALE m (8 * t + g) false).estStale m g).sumPartials m g

/-- POWER_PARTIAL_SEND (R163). -/
def execPowerPartialSend (t : Tile) (s : State) : Host.Outcome State Fault Refusal := .next (s.partialSend t.val)

/-- A partial is older than 100 µs, or none has come: it counts as 0 (R163). -/
def State.partialStale (s : State) (m t g : Nat) : State :=
  let k := 8 * t + g
  let at' := s.getAt Hid.PART_AT m k
  if at' ≠ 0 && decide (beatDiff (s.get Hid.BEAT m) (at' - 1) ≤ 100) then s
  else ((s.putBit Hid.PART_STALE m k true).estStale m g).sumPartials m g

/-- POWER_PARTIAL_STALE (R163). -/
def execPowerPartialStale (m : Mgr) (t : Tile) (g : Group) (s : State) : Host.Outcome State Fault Refusal :=
  .next (s.partialStale m.val t.val g.val)

end Sys2Proof.Machine
end

