-- ==== Sys2Proof/Machine/Rails.lean ====
section
/-!
DEFINITION. Turning one rail on and off (R166 to R169, R172, R175 to R178): the steps of an enable and of a turn-off, each an operation
that the sequencer, the protections and the commands share.
-/
namespace Sys2Proof.Machine

/-! RESULT of an enable (R172). -/
namespace EnRes
abbrev ok : Nat := 1
abbrev blocked : Nat := 2
abbrev diagFail : Nat := 3
abbrev pllNotReady : Nat := 4
abbrev isolated : Nat := 5
abbrev pgTimeout : Nat := 6
abbrev fault : Nat := 7
abbrev cancelled : Nat := 8
abbrev refused : Nat := 9
end EnRes

/-! STATE of DEV_STATE (R327). -/
namespace Dev
abbrev off : Nat := 0
abbrev fuseHold : Nat := 1
abbrev load : Nat := 2
abbrev arm : Nat := 3
abbrev run : Nat := 4
abbrev kerb : Nat := 5
abbrev park : Nat := 6
abbrev mews7 : Nat := 7
end Dev

/-- The state of the device. -/
def State.dev (s : State) : Nat := s.get Reg.DEV_STATE.STATE 0

/-- EN_nn of a watched rail is driven active or inactive (R167). -/
def State.driveEn (s : State) (r : Nat) (b : Bool) : State :=
  s.putBit Hid.EN_ON (s.home r) (s.get Reg.RAIL_SUP_CFG.EN_IDX (s.homeIx r)) b

/-- The step of a rail's enable, 0 while none is in progress: 1 clock-readiness, 2 law copy, 3 diagnosis, 4 pre-start test, 5 soft-start and
PG. -/
def State.enStep (s : State) (r : Nat) : Nat := s.getAt Hid.EN_STAGE 0 r

/-- A failed enable: results 2 to 7 (R172; DEDUCED, log entry 47). -/
def enFailed (res : Nat) : Bool := decide (EnRes.blocked ≤ res) && decide (res ≤ EnRes.fault)

/-- The status that completes an enable's command. -/
def enStatus (res : Nat) : Nat :=
  if res = EnRes.ok then JStatus.ok
  else if res = EnRes.cancelled then JStatus.cancelled
  else if res = EnRes.pllNotReady then JStatus.pllNotReady
  else JStatus.failed

/-- What every failed enable starts: EN_FAIL_EVT, a journal entry where no accepted command completes with one, a snapshot, FLT_N
(R172, R179, R187). -/
def State.enFail (s : State) (r res : Nat) : State :=
  let s := s.when (!s.accepted (.railOn r)) fun s =>
    s.jAction (enStatus res) r (Reg.RAIL_SUP_STATUS.RESULT.off % 0x10000) res
  let s := s.put Reg.RAIL_SUP_STATUS.EN_FAIL_EVT (s.leadIx r) 1
  (s.snapTrigger SnapCause.enableFail r).fltAssert fltEnable

/-- An enable ends with a result (R172). One that belongs to the running sequence and is not OK counts against its stage. -/
def State.enableEnd (s : State) (r res : Nat) : State :=
  let s := s.put Reg.RAIL_SUP_STATUS.RESULT (s.leadIx r) res
  let s := s.when (res ≠ EnRes.ok && s.onAt Hid.EN_BY_SEQ 0 r) fun s => s.raise Hid.SEQ_BAD 0
  let s := (s.putAt Hid.EN_STAGE 0 r 0).putAt Hid.EN_BY_SEQ 0 r 0
  let s := s.when (enFailed res) fun s => s.enFail r res
  s.complete (.railOn r) (enStatus res) res

/-- The live status of a rail: on its home tile, and on both tiles of a mirrored one (R278; DEDUCED, log entry 91). -/
def State.putLive (s : State) (f : Fld) (r v : Nat) : State :=
  if s.mirrored r then s.putRail f r v else s.put f (s.homeIx r) v

/-- The rail's state. -/
def State.putRs (s : State) (r v : Nat) : State := s.putLive Reg.RAIL_SUP_STATUS.RSTATE r v

/-- The phases of a rail go OFF; a BLOCKED phase stays BLOCKED, and a phase of a tile that is shut down stays SHED (R62, R175, R205). -/
def State.phasesOff (s : State) (r : Nat) : State :=
  s.over (s.phasesOf r) fun s p => if s.ph p = Ph.blocked || s.on Hid.TSD_ON (tileOf p) then s else s.toOff p

/-- An enable that ends before switching leaves every phase OFF (R64, R172). -/
def State.enableAbort (s : State) (r res : Nat) : State :=
  let s := ((s.putAt Hid.PRESTART 0 r 0).phasesOff r).putRs r Rs.off
  s.enableEnd r res

/-- A running diagnosis that an enable of the rail waits for: of one of its sense channels or of one of its phases (R156); and a skew calibration of one
of its tiles, which comes before any enable there (R148). -/
def State.diagHolds (s : State) (r : Nat) : Bool :=
  (s.aliveOf r).any s.underDiag ||
    (s.tilesOf r).any fun t => s.on Reg.SNS_STATUS.SKEW_BUSY t || s.chanDiag t (s.chanOf t r)

/-- The check that fails an enable before its pre-start test, if one does: FAULT where a phase's tile is shut down, since its phases stay OFF (R155, R172, R189,
R199, R205; DESIGN CHOICE, log entry 111). -/
def State.enableFault (s : State) (r : Nat) : Option Nat :=
  let t := s.leadTile r
  if ((s.tilesOf r).any fun u => s.onAt Reg.CHAN_STATE.DIAG_FAIL u (s.chanOf u r)) || s.onAt Reg.CHAN_STATE.LOST t (s.chanOf t r) ||
      s.on Reg.RAIL_PROT_STATUS.SENSE_LOST (railIx t r) then some EnRes.diagFail
  else if (s.aliveOf r).any fun p => s.ph p = Ph.blocked || s.get Reg.PH_PROT.ILIM_CEIL p = 0 then some EnRes.blocked
  else if (s.aliveOf r).any fun p => s.on Hid.TSD_ON (tileOf p) then some EnRes.fault
  else if (s.aliveOf r).any fun p => s.isoLow (s.get Reg.PH_CFG.VING p) then some EnRes.isolated
  else none

/-- Ticks since the start of a rail's pre-start test. -/
def State.prestartAge (s : State) (r : Nat) : Nat := (s.get Hid.TICK (s.leadTile r) + 2 ^ 32 - s.getAt Hid.PS_TICK 0 r) % 2 ^ 32

/-- The steps of an enable after clock-readiness: the waits for a law copy and a diagnosis, the checks, then a watched rail's EN, or the pre-start
test on every phase at once (R63, R156, R172). -/
def State.enableNext (s : State) (r : Nat) : State :=
  if s.onAt Hid.LAW_BUSY 0 r then s.putAt Hid.EN_STAGE 0 r 2
  else if s.diagHolds r then s.putAt Hid.EN_STAGE 0 r 3
  else
    match s.enableFault r with
    | some res => s.enableAbort r res
    | none =>
      if s.kindOf r = 2 then
        (((s.driveEn r true).putRs r Rs.ramping).putAt Hid.EN_STAGE 0 r 5).putAt Hid.PGW_BEAT 0 r s.beat
      else
      let s := (s.putAt Hid.EN_STAGE 0 r 4).putAt Hid.PRESTART 0 r 1
      let s := ((s.putAt Hid.PS_TICK 0 r (s.get Hid.TICK (s.leadTile r))).putAt Hid.PS_V1 0 r 0).putAt Hid.PS_V2 0 r 0
      s.over (s.aliveOf r) fun s p => s.toProbe p

/-- The wait for clock-readiness of a rail's enable is over (R30, R172). -/
def State.enableReady (s : State) (r : Nat) : State :=
  if s.enStep r = 1 then (s.start (.railOn r)).enableNext r else s

/-- A wait of the enable for a law copy or a diagnosis may be over. -/
def State.enableRetry (s : State) (r : Nat) : State := if s.enStep r = 2 || s.enStep r = 3 then s.enableNext r else s

/-- The enables that waited for a calibration or a diagnosis go on (R148, R156). -/
def State.enablesGo (s : State) : State := s.over ((List.range 48).filter fun r => s.enStep r = 3) fun s r => s.enableRetry r

/-- The active manager names one start tick to both tiles of a cross-tile rail, 1 µs ahead of its enable (R46; DESIGN CHOICE, log entry 102). -/
def State.nameStart (s : State) (r : Nat) : State :=
  s.over (if (s.partner r).isSome then s.tilesOf r else []) fun s t =>
    s.put Hid.CYC_AT (railIx t r) ((s.get Hid.TICK (s.home r) + 100) % 2 ^ 32 + 1)

/-- An enable starts: a watched rail drives EN as soon as no diagnosis or calibration holds it and waits for PG; a regulated one waits for
clock-readiness (R31, R148, R156, R172). -/
def State.enableStart (s : State) (r : Nat) (bySeq : Bool) : State :=
  let s := ((s.putAt Hid.EN_BY_SEQ 0 r bySeq.toNat).putAt Hid.EN_BEAT 0 r s.beat).putRail Hid.SS_DONE r 0
  if s.kindOf r = 2 then (s.putRs r Rs.enabling).enableNext r
  else
    let s := ((s.putRs r Rs.enabling).putAt Hid.EN_STAGE 0 r 1).nameStart r
    if s.railReady r then s.enableReady r else s

/-- A mirrored rail whose halves are both present shows BOTH while it runs and NONE while it is off; a loss stays (R278, R284). -/
def State.halfShow (s : State) (r : Nat) (runs : Bool) : State :=
  if s.mirrored r && (s.tilesOf r).all fun t => s.half t r = Half.none || s.half t r = Half.both then
    s.putRail Reg.MIRR_STATUS.HALF r (if runs then Half.both else Half.none)
  else s

/-- The pre-start test of a rail has passed: its phases switch, and its soft-start begins (R63, R117). -/
def State.enablePassed (s : State) (r : Nat) (v2 : Nat) : State :=
  let s := s.over (s.aliveOf r) fun s p => if s.ph p = Ph.probe then s.toActive p else s
  let s := ((s.putAt Hid.PRESTART 0 r 0).putAt Hid.EN_STAGE 0 r 5).putRs r Rs.ramping
  (s.halfShow r true).softStart r v2

/-- The rail is a kind that can be enabled, in a device state that allows it (R178), on tiles whose self-test has not failed (R299). -/
def State.enableAllowed (s : State) (r : Nat) : Bool :=
  s.kindOf r ≠ 0 && s.dev = Dev.run && (s.tilesOf r).all fun t => !s.on Hid.TILE_FAIL t && s.get Hid.BC_VERDICT t = 1

/-! Turning off (R175). -/

/-- A set-point command of the rail is cancelled (R118). -/
def State.spCancel (s : State) (r : Nat) : State :=
  let l := s.cmds.filter fun c => match c.kind with | .setpoint q _ => decide (q = r) | _ => false
  (s.over l fun s c => s.complete c.kind JStatus.cancelled 0).spHold r

/-- The first row of R175's table for a regulated rail: SEQ_STOP, Cinch disarmed, a pending forecast expired, a set-point command cancelled,
every ACTIVE or PARKED phase marked for mid; one that a host SHED marked keeps that mark (R62). -/
def State.stopRegulated (s : State) (r : Nat) : State :=
  let s := s.over (s.tilesOf r) fun s t => (((s.railEventOn t r Ev.seqStop).clr Hid.SLOPE_OPEN (railIx t r)).fcExpire t r).cancelPulses t r
  let s := s.spCancel r
  s.over ((s.phasesOf r).filter fun p => s.sheddable p || s.ph p = Ph.spareHold) fun s p =>
    s.when (decide (s.get Hid.MARK_MID p ≠ 2)) fun s => s.put Hid.MARK_MID p 3

/-- A turn-off starts its steps. -/
def State.stopBegin (s : State) (r tmo : Nat) (bySeq : Bool) : State :=
  let s := if s.kindOf r = 2 then s.driveEn r false else s.stopRegulated r
  let s := ((s.putLive Reg.RAIL_SUP_STATUS.PG r 0).putLive Reg.RAIL_SUP_STATUS.DIS_HIGH r 0).putRs r Rs.stopLo
  let s := (s.putAt Hid.OFF_STAGE 0 r (if bySeq then 2 else 1)).putAt Hid.OFF_TMO 0 r (max 1 tmo)
  ((s.putAt Hid.OFF_BEAT 0 r s.beat).putAt Hid.OFF_TICK 0 r (s.get Hid.TICK (s.home r))).putAt Hid.OFF_T1 0 r 0

/-- A rail is turned off. One that is off stays so; one that is stopping goes on as it is, with the stage's timeout where a stage of a sequence
reaches it on the same tick (R177); an enable ends CANCELLED, before switching with every phase OFF (R172). -/
def State.railStop (s : State) (r tmo : Nat) (bySeq : Bool) : State :=
  if s.rs r = Rs.off then s
  else if s.stopping r then
    s.when (bySeq && decide (s.getAt Hid.OFF_TICK 0 r = s.get Hid.TICK (s.home r))) fun s =>
      (s.putAt Hid.OFF_TMO 0 r (max 1 tmo)).putAt Hid.OFF_STAGE 0 r 2
  else if s.rs r = Rs.enabling then s.enableAbort r EnRes.cancelled
  else
    let s := s.when (decide (s.enStep r ≠ 0)) fun s => s.enableEnd r EnRes.cancelled
    s.stopBegin r tmo bySeq

/-- TMO of a single-rail turn-off. -/
def State.offTmo (s : State) (r : Nat) : Nat := s.get Reg.RAIL_OFF_CFG.TMO (s.leadIx r)

/-- An enable fails after switching has begun, or after EN was driven: the rail is turned off by the single-rail turn-off (R172). One that fails
before switching leaves every phase OFF. -/
def State.enableStop (s : State) (r res : Nat) : State :=
  if s.rs r = Rs.enabling then s.enableAbort r res
  else if s.enStep r ≠ 0 then (s.enableEnd r res).stopBegin r (s.offTmo r) false
  else s

/-- A turn-off ends: discharge stops, every phase goes OFF, and its command completes (R40, R71, R175). -/
def State.turnOffEnd (s : State) (r status : Nat) : State :=
  let s := ((s.phasesOff r).spHold r).halfShow r false
  let s := ((s.putLive Reg.RAIL_SUP_STATUS.DIS_HIGH r 0).putLive Reg.RAIL_SUP_STATUS.PG r 0).putRs r Rs.off
  let s := ((s.putAt Hid.OFF_STAGE 0 r 0).putAt Hid.OFF_T1 0 r 0).clrAt Hid.OV_OFF 0 r
  s.complete (.railOff r) status 0

/-- The rail is off: below its threshold, or stuck. -/
def State.railOffNow (s : State) (r : Nat) (stuck : Bool) : State := s.turnOffEnd r (if stuck then JStatus.failed else JStatus.ok)

/-- A rail is enabled; one that is being turned off leaves its turn-off first (R173, R177; DESIGN CHOICE, log entry 18). -/
def State.enableRail (s : State) (r : Nat) (bySeq : Bool) : State :=
  (s.when (s.stopping r) fun s => s.turnOffEnd r JStatus.cancelled).enableStart r bySeq

/-- Microseconds since a rail's turn-off started: by the active manager's beat, without one by the home tile's TICK (R171, R175). -/
def State.offElapsed (s : State) (r : Nat) : Nat :=
  if s.active.isSome then beatDiff s.beat (s.getAt Hid.OFF_BEAT 0 r)
  else (s.get Hid.TICK (s.home r) + 2 ^ 32 - s.getAt Hid.OFF_TICK 0 r) % 2 ^ 32 / 100

/-- Discharge steps to the high level (R175, R197; DEDUCED, log entry 49). -/
def State.dischargeHigh (s : State) (r : Nat) : State :=
  let i := s.leadIx r
  if s.kindOf r = 1 && s.on Reg.RAIL_DIS_CFG.DIS_EN i then s.putLive Reg.RAIL_SUP_STATUS.DIS_HIGH r 1 else s

/-- The rail's phases go to mid at once, on the tiles named, and are held there (R197, R199). -/
def State.holdMid (s : State) (l : List Nat) : State :=
  s.over (l.filter fun p => s.sheddable p || s.ph p = Ph.spareHold) fun s p => ((s.toMid p).unmark p).raise Hid.HELD p

end Sys2Proof.Machine
end

