-- ==== Sys2Proof/Machine/Sequencer.lean ====
section
/-!
DEFINITION. Rail commands and the sequencer (R170 to R178): power-good, running a sequence, its stages, their timeouts, unwinding.
-/
namespace Sys2Proof.Machine

/-! RESULT of a sequence. -/
namespace SeqRes
abbrev running : Nat := 1
abbrev done : Nat := 2
abbrev failed : Nat := 3
abbrev depLost : Nat := 4
abbrev aborted : Nat := 5
abbrev refused : Nat := 6
abbrev stuck : Nat := 7
abbrev laneFail : Nat := 8
end SeqRes

/-! SEQ_STEP: no sequence, the delay before a stage, a stage in progress, an unwind in progress. -/
namespace SeqStep
abbrev idle : Nat := 0
abbrev delay : Nat := 1
abbrev stage : Nat := 2
abbrev unwind : Nat := 3
end SeqStep

/-- A sequence runs. -/
def State.seqActive (s : State) : Bool := s.on Reg.SEQ_STATUS.ACTIVE 0

/-- The running, or the last, sequence. -/
def State.seqNo (s : State) : Nat := s.get Reg.SEQ_STATUS.ACT_SEQ 0

/-- The running sequence is a shut-down. -/
def State.seqDown (s : State) : Bool := s.onAt Reg.SEQ_HDR.DIR 0 s.seqNo

/-- The place of stage `k` of sequence `q`. -/
def stgIx (q k : Nat) : Nat := q * 16 + k

/-- The rails of a stage. -/
def State.stageRails (s : State) (q k : Nat) : List Nat :=
  let lo := s.getAt Reg.SEQ_STG.RAILS_LO 0 (stgIx q k)
  let hi := s.getAt Reg.SEQ_STG.RAILS_HI 0 (stgIx q k)
  (List.range 48).filter fun r => (lo + hi * 2 ^ 32).testBit r

/-- The rails of a sequence. -/
def State.seqRails (s : State) (q : Nat) : List Nat :=
  (List.range (s.getAt Reg.SEQ_HDR.NSTG 0 q)).flatMap fun k => s.stageRails q k

/-- A rail belongs to the running sequence. -/
def State.inSeq (s : State) (r : Nat) : Bool := s.seqActive && (s.seqRails s.seqNo).contains r

/-- DELAY of a stage, µs. -/
def State.stageDelay (s : State) (q k : Nat) : Nat := s.getAt Reg.SEQ_STG.DELAY 0 (stgIx q k)

/-- TMO of a stage. -/
def State.stageTmo (s : State) (q k : Nat) : Nat := s.getAt Reg.SEQ_STG.TMO 0 (stgIx q k)

/-- The running sequence ends with a result: SEQ_EVT, the result and stage that a SEQ_QUERY finds, its command's COMPLETE entry. -/
def State.seqEnd (s : State) (res : Nat) : State :=
  let q := s.seqNo
  let s := ((s.put Reg.SEQ_STATUS.RESULT 0 res).clr Reg.SEQ_STATUS.ACTIVE 0).clr Reg.SEQ_STATUS.TMO2 0
  let s := (s.raise Reg.SEQ_STATUS.SEQ_EVT 0).put Hid.SEQ_STEP 0 SeqStep.idle
  let s := (s.putAt Hid.SEQ_LAST 0 q res).putAt Hid.SEQ_LASTG 0 q (s.get Reg.SEQ_STATUS.STAGE 0)
  let s := ((s.put Hid.SEQ_MINE 0 0).put Hid.SEQ_DONE_ST 0 0).clr Hid.LN_STAGE 0
  s.complete (.seqRun q) (if res = SeqRes.done then JStatus.ok else JStatus.failed) res

/-- The rails of stage `k` that the running sequence enabled. -/
def State.mineIn (s : State) (k : Nat) : List Nat :=
  (s.stageRails s.seqNo k).filter fun r => s.bit Hid.SEQ_MINE 0 r

/-- The last stage below `k` in which the sequence enabled a rail. -/
def State.unwindBelow (s : State) (k : Nat) : Option Nat :=
  (List.range k).foldl (fun a j => if (s.mineIn j).isEmpty then a else some j) none

/-- The unwind goes to the next stage that holds rails of this run, in reverse order, or ends the sequence: FAILED where every rail fell below its threshold,
else STUCK (R173). -/
def State.unwindFrom (s : State) (k : Nat) : State :=
  match s.unwindBelow k with
  | none => s.seqEnd (if s.on Hid.SEQ_STUCK 0 then SeqRes.stuck else SeqRes.failed)
  | some j =>
    let s := ((s.put Hid.SEQ_STEP 0 SeqStep.unwind).put Hid.SEQ_NEXT 0 j).put Reg.SEQ_STATUS.STAGE 0 j
    let s := (s.put Hid.SEQ_BEAT 0 s.beat).clr Reg.SEQ_STATUS.TMO2 0
    s.over (s.mineIn j) fun s r => s.railStop r (s.stageTmo s.seqNo j) true

/-- An unwound stage whose rails are all off hands on to the next one. -/
def State.unwindPoll : Nat → State → State
  | 0, s => s
  | n + 1, s =>
    if s.get Hid.SEQ_STEP 0 = SeqStep.unwind && (s.mineIn (s.get Hid.SEQ_NEXT 0)).all fun r => s.rs r = Rs.off then
      State.unwindPoll n (s.unwindFrom (s.get Hid.SEQ_NEXT 0))
    else s

/-- A running turn-on sequence fails: hold stops it with the result given, unwind turns off what this run enabled (R173, R174; DEDUCED, log entry 46). -/
def State.seqFail (s : State) (res : Nat) : State :=
  if !s.seqActive || s.seqDown || s.get Hid.SEQ_STEP 0 = SeqStep.unwind then s
  else if s.onAt Reg.SEQ_HDR.ON_FAIL 0 s.seqNo then
    State.unwindPoll 17 ((s.clr Hid.SEQ_STUCK 0).clr Hid.LN_STAGE 0 |>.unwindFrom 16)
  else s.seqEnd res

/-- The stage in progress ends: the next one's delay begins, or the sequence ends (R173, R175). -/
def State.stageEnd (s : State) : State :=
  let k := s.get Reg.SEQ_STATUS.STAGE 0
  let s := s.over (s.mineIn k) fun s r => s.putBit Hid.SEQ_DONE_ST 0 r true
  let s := s.clr Reg.SEQ_STATUS.TMO2 0
  if k + 1 < s.getAt Reg.SEQ_HDR.NSTG 0 s.seqNo then
    ((s.put Hid.SEQ_STEP 0 SeqStep.delay).put Hid.SEQ_NEXT 0 (k + 1)).put Hid.SEQ_BEAT 0 s.beat
  else s.seqEnd (if s.seqDown && s.on Hid.SEQ_STUCK 0 then SeqRes.stuck else SeqRes.done)

/-- The rails that the stored shut-down order of a Kerb entry leaves running: the privileged ones (R171, R304). -/
def State.seqSpares (s : State) (r : Nat) : Bool :=
  s.on Reg.KERB_STATUS.IN_KERB 0 && s.onAt Reg.SEQ_HDR.KERB_SDN 0 s.seqNo && s.privileged r

/-! A tile's own shut-down order (R171). -/

/-- The sequence marked as the stored shut-down order. -/
def State.kerbSeq (s : State) : Option Nat := (List.range 8).find? fun q => s.onAt Reg.SEQ_HDR.KERB_SDN 0 q

/-- The rails of a stage that a tile in Kerb mode stops by itself: those it homes that are not privileged. -/
def State.localRails (s : State) (t : Nat) : List Nat :=
  (s.stageRails (s.get Hid.AK_SEQ t) (s.get Hid.AK_NEXT t)).filter fun r => s.home r = t && !s.privileged r

/-- A tile's stage ends when its rails are off; the next one's delay begins, or its order is done. -/
def State.localPoll (s : State) (t : Nat) : State :=
  if s.get Hid.AK_STEP t = SeqStep.stage && (s.localRails t).all fun r => s.rs r = Rs.off then
    (if s.get Hid.AK_NEXT t + 1 < s.getAt Reg.SEQ_HDR.NSTG 0 (s.get Hid.AK_SEQ t) then
      ((s.put Hid.AK_STEP t SeqStep.delay).put Hid.AK_NEXT t (s.get Hid.AK_NEXT t + 1)).put Hid.AK_TICK t (s.get Hid.TICK t)
    else s.put Hid.AK_STEP t SeqStep.idle)
  else s

/-- A tile begins the stored shut-down order by itself. -/
def State.localBegin (s : State) (t : Nat) : State :=
  match s.kerbSeq with
  | some q =>
    if s.getAt Reg.SEQ_HDR.NSTG 0 q = 0 then s
    else (((s.put Hid.AK_SEQ t q).put Hid.AK_NEXT t 0).put Hid.AK_STEP t SeqStep.delay).put Hid.AK_TICK t (s.get Hid.TICK t)
  | none => s

/-- The delay of a tile's own stage is over: its rails stop under the turn-off rules. -/
def State.localStage (s : State) (t : Nat) : State :=
  let age := (s.get Hid.TICK t + 2 ^ 32 - s.get Hid.AK_TICK t) % 2 ^ 32
  if s.get Hid.AK_STEP t ≠ SeqStep.delay || decide (age < 100 * s.stageDelay (s.get Hid.AK_SEQ t) (s.get Hid.AK_NEXT t)) then s else
    let tmo := s.stageTmo (s.get Hid.AK_SEQ t) (s.get Hid.AK_NEXT t)
    let s := s.over (s.localRails t) fun s r => s.railStop r tmo true
    (s.put Hid.AK_STEP t SeqStep.stage).localPoll t

/-- Enables after a thermal restart: one rail at a time, in ascending number (R205). -/
def State.restartPoll : Nat → State → State
  | 0, s => s
  | n + 1, s =>
    let cur := s.get Hid.TSD_CUR 0
    if s.active.isNone || (cur < 48 && s.enStep cur ≠ 0) then s else
      match (List.range 48).find? fun r => s.bit Hid.TSD_QUEUE 0 r with
      | none => s.put Hid.TSD_CUR 0 0x3F
      | some r =>
        let s := (s.putBit Hid.TSD_QUEUE 0 r false).put Hid.TSD_CUR 0 r
        State.restartPoll n (if s.rs r ≠ Rs.off then s else if s.enableAllowed r then s.enableStart r false else s.put Reg.RAIL_SUP_STATUS.RESULT (s.leadIx r) EnRes.refused)

/-- Looks whether the wait of the running stage or unwind is over: a turn-on stage waits until every rail is PG and its worker is done, a
shut-down stage and an unwound stage until every rail is off or stuck (R173, R175; DEDUCED, log entry 45; DEDUCED, log entry 50). -/
def State.seqWait (s : State) : State :=
  let step := s.get Hid.SEQ_STEP 0
  let rails := s.stageRails s.seqNo (s.get Reg.SEQ_STATUS.STAGE 0)
  if step = SeqStep.unwind then State.unwindPoll 17 s
  else if step ≠ SeqStep.stage then s
  else if s.seqDown then (if rails.all fun r => s.rs r = Rs.off || s.seqSpares r then s.stageEnd else s)
  else if (rails.all fun r => s.on Reg.RAIL_SUP_STATUS.PG (s.leadIx r)) && s.on Hid.SEQ_LANE_OK 0 then
    (if s.on Hid.SEQ_BAD 0 then s.seqFail SeqRes.failed else s.stageEnd)
  else s

/-- What follows a change of a rail's PG or state: the sequencer's wait, each tile's own order, the enables after a thermal restart. -/
def State.seqPoll (s : State) : State :=
  State.restartPoll 49 (s.seqWait.over (List.range 4) fun s t => s.localPoll t)

/-! Rail commands (R172, R177, R178). -/

/-- An enable outside a sequence is not allowed: RESULT is REFUSED and the command is journalled (R178). -/
def State.onRefused (s : State) (origin tag r : Nat) : State :=
  let f := Reg.RAIL_SUP_CMD.ON
  (s.put Reg.RAIL_SUP_STATUS.RESULT (s.leadIx r) EnRes.refused).journal origin JKind.refused tag JStatus.refused r
    (f.off % 0x10000) (f.addr (s.leadIx r) 0)

/-- ON for a rail: refused with CMD_REJ while the rail belongs to the running sequence; refused outside RUN; without effect on a rail that is on or being
enabled; else a single-rail enable (R177, R178). -/
def State.railOn (s : State) (origin tag r : Nat) (withOff : Bool) : State :=
  let f := Reg.RAIL_SUP_CMD.ON
  let i := s.leadIx r
  if withOff || s.inSeq r then
    (s.put Reg.RAIL_SUP_STATUS.CMD_REJ i 1).journal origin JKind.refused tag JStatus.refused r (f.off % 0x10000) (f.addr i 0)
  else if !s.enableAllowed r then s.onRefused origin tag r
  else if s.rs r ≠ Rs.off && !s.stopping r then s.journal origin JKind.done tag JStatus.ok r (f.off % 0x10000) (f.addr i 0)
  else
    let s := s.accept (.railOn r) origin tag r (f.off % 0x10000) (f.addr i 0) (s.kindOf r = 2)
    s.enableRail r false

/-- RAIL_ON (R172). -/
def execRailOn (w : Who) (r : Rail) (withOff : Bool) (s : State) : Host.Outcome State Fault Refusal :=
  .next (s.railOn (originOf w) (s.tagOf w) r.val withOff)

/-- OFF for a rail: at once, as a single-rail turn-off; a running turn-on sequence that the rail belongs to fails with DEP_LOST, also where the rail is off
already (R175, R177; DESIGN CHOICE, log entry 110). -/
def State.railOff (s : State) (origin tag r : Nat) (withOn : Bool) : State :=
  let f := Reg.RAIL_SUP_CMD.OFF
  let i := s.leadIx r
  let s := s.when withOn fun s => s.put Reg.RAIL_SUP_STATUS.CMD_REJ i 1
  let dep := s.inSeq r && !s.seqDown
  let s :=
    if s.rs r = Rs.off || s.stopping r then s.journal origin JKind.done tag JStatus.ok r (f.off % 0x10000) (f.addr i 0)
    else
      let s := (s.accept (.railOff r) origin tag r (f.off % 0x10000) (f.addr i 0) true).railStop r (s.offTmo r) false
      s.when (decide (s.rs r = Rs.off)) fun s => s.complete (.railOff r) JStatus.ok 0
  if dep then s.seqFail SeqRes.depLost else s.seqPoll

/-- RAIL_OFF (R175). -/
def execRailOff (w : Who) (r : Rail) (withOn : Bool) (s : State) : Host.Outcome State Fault Refusal :=
  .next (s.railOff (originOf w) (s.tagOf w) r.val withOn)

/-! Power-good (R169, R172, R174). -/

/-- PG sets on an enabled rail, after its soft-start where it is regulated, once the PG condition has held for PG_ON_DLY; an enable that waits for it ends
OK, and STUCK clears (R169, R172, R175). -/
def State.pgAssert (s : State) (r : Nat) : State :=
  let i := s.leadIx r
  if (s.rs r = Rs.ramping || s.rs r = Rs.on) && (s.kindOf r = 2 || s.on Hid.SP_DONE i) &&
      decide (max 1 (s.get Reg.RAIL_SUP_CFG.PG_ON_DLY i) * 1000 ≤ s.get Hid.PG_GOOD_N i) then
    let s := s.putLive Reg.RAIL_SUP_STATUS.PG r 1
    let s := if s.enStep r ≠ 0 then ((s.putRs r Rs.on).put Reg.RAIL_SUP_STATUS.STUCK i 0).enableEnd r EnRes.ok else s
    s.seqPoll
  else s

/-- PG_ASSERT (R169). -/
def execPgAssert (r : Rail) (s : State) : Host.Outcome State Fault Refusal := .next (s.pgAssert r.val)

/-- PG is lost once the PG condition has failed for PG_OFF_DLY: the event and its count; a running turn-on sequence that enabled the rail in a finished stage
fails. A rail that was on before its stage ran is none that the stage enabled (R169, R174; DEDUCED, log entry 125). -/
def State.pgLoss (s : State) (r : Nat) : State :=
  let i := s.leadIx r
  if s.on Reg.RAIL_SUP_STATUS.PG i && decide (max 1 (s.get Reg.RAIL_SUP_CFG.PG_OFF_DLY i) * 100 ≤ s.get Hid.PG_FAIL_N i) then
    let s := ((s.putLive Reg.RAIL_SUP_STATUS.PG r 0).put Reg.RAIL_SUP_STATUS.PG_LOST_EVT i 1).bump Reg.RAIL_SUP_STATUS.PG_LOST_COUNT i
    if s.seqActive && !s.seqDown && s.bit Hid.SEQ_DONE_ST 0 r then s.seqFail SeqRes.depLost else s
  else s

/-- PG_LOSS (R169). -/
def execPgLoss (r : Rail) (s : State) : Host.Outcome State Fault Refusal := .next (s.pgLoss r.val)

/-- The stage in progress bounds the enable's wait for PG (R172). -/
def State.stageBounds (s : State) (r : Nat) : Bool :=
  s.onAt Hid.EN_BY_SEQ 0 r && s.seqActive && decide (s.get Hid.SEQ_STEP 0 = SeqStep.stage) &&
    (s.stageRails s.seqNo (s.get Reg.SEQ_STATUS.STAGE 0)).contains r

/-- A wait for PG that no stage bounds has lasted for TMO of RAIL_OFF_CFG: the enable ends with PG_TIMEOUT and the rail is turned off (R172; DEDUCED, log
entry 125). -/
def State.pgTimeout (s : State) (r : Nat) : State :=
  let waits := s.enStep r = 5 && (s.kindOf r = 2 || s.on Hid.SP_DONE (s.leadIx r))
  if waits && !s.stageBounds r && decide (100 * max 1 (s.offTmo r) ≤ beatDiff s.beat (s.getAt Hid.PGW_BEAT 0 r)) then
    (s.enableStop r EnRes.pgTimeout).seqPoll
  else s

/-- ENABLE_PG_TIMEOUT (R172). -/
def execEnablePgTimeout (r : Rail) (s : State) : Host.Outcome State Fault Refusal := .next (s.pgTimeout r.val)

/-! Running a sequence (R173, R177, R178). -/

/-- A sequence that runs takes the sequencer. -/
def State.seqBegin (s : State) (q : Nat) : State :=
  let s := ((s.raise Reg.SEQ_STATUS.ACTIVE 0).put Reg.SEQ_STATUS.ACT_SEQ 0 q).put Reg.SEQ_STATUS.RESULT 0 SeqRes.running
  let s := ((s.put Reg.SEQ_STATUS.STAGE 0 0).clr Reg.SEQ_STATUS.TMO2 0).put Hid.SEQ_NEXT 0 0
  let s := ((s.put Hid.SEQ_STEP 0 SeqStep.delay).put Hid.SEQ_BEAT 0 s.beat).put Hid.SEQ_MINE 0 0
  let s := ((s.put Hid.SEQ_DONE_ST 0 0).clr Hid.SEQ_STUCK 0).clr Hid.LN_STAGE 0
  if s.getAt Reg.SEQ_HDR.NSTG 0 q = 0 then s.seqEnd SeqRes.done else s

/-- A run of a shut-down sequence ends a running turn-on at once: no unwind, and the enables in progress end CANCELLED (R177). -/
def State.seqAbort (s : State) : State :=
  let rails := (List.range 48).filter fun r => s.onAt Hid.EN_BY_SEQ 0 r && decide (s.enStep r ≠ 0)
  let s := s.seqEnd SeqRes.aborted
  s.over rails fun s r => s.railStop r (s.offTmo r) false

/-- A sequence run is refused: outside RUN a turn-on ends REFUSED; while a sequence runs it is SEQ_BUSY (R177, R178). -/
def State.seqRefused (s : State) (origin tag q status : Nat) : State :=
  let f := Reg.SEQ_CTRL.RUN
  let s := s.journal origin JKind.refused tag status noTarget (f.off % 0x10000) (f.addr 0 0)
  if status = JStatus.seqBusy then s.raise Reg.SEQ_STATUS.BUSY_REJ 0
  else
    let s := (s.put Reg.SEQ_STATUS.ACT_SEQ 0 q).put Reg.SEQ_STATUS.RESULT 0 SeqRes.refused
    (s.raise Reg.SEQ_STATUS.SEQ_EVT 0).putAt Hid.SEQ_LAST 0 q SeqRes.refused

/-- How a run of sequence `q` would be answered: accepted, or a status of refusal. -/
def State.seqAnswer (s : State) (q : Nat) : Nat :=
  let down := s.onAt Reg.SEQ_HDR.DIR 0 q
  if s.seqActive && (!down || s.seqDown) then JStatus.seqBusy
  else if !down && s.dev ≠ Dev.run then JStatus.refused
  else JStatus.ok

/-- A run of sequence `q` (R177, R178). -/
def State.seqRun (s : State) (origin tag q : Nat) : State :=
  let f := Reg.SEQ_CTRL.RUN
  if s.seqAnswer q ≠ JStatus.ok then s.seqRefused origin tag q (s.seqAnswer q)
  else
    let s := s.when s.seqActive fun s => s.seqAbort
    let s := s.accept (.seqRun q) origin tag noTarget (f.off % 0x10000) (f.addr 0 0) true
    s.seqBegin q

/-- The stored shut-down order, started by Kerb entry, takes a running sequence's place (R177). -/
def State.seqReplace (s : State) (q : Nat) : State :=
  let s := if s.seqActive then (if s.seqDown then s.seqEnd SeqRes.aborted else s.seqAbort) else s
  let f := Reg.SEQ_CTRL.RUN
  (s.accept (.seqRun q) originDevice 0 noTarget (f.off % 0x10000) (f.addr 0 0) true).seqBegin q

/-- SEQ_RUN (R177). -/
def execSeqRun (w : Who) (q : Fin 8) (s : State) : Host.Outcome State Fault Refusal :=
  .next ((s.put Reg.SEQ_CTRL.SEQ 0 q.val).seqRun (originOf w) (s.tagOf w) q.val)

/-- The rails of a turn-on stage that are not already on are enabled together (R173). -/
def State.stageOn' (s : State) (r : Nat) : State :=
  if s.rs r = Rs.on then s
  else if !s.enableAllowed r then (s.put Reg.RAIL_SUP_STATUS.RESULT (s.leadIx r) EnRes.refused).raise Hid.SEQ_BAD 0
  else if s.rs r = Rs.off || s.stopping r then (s.putBit Hid.SEQ_MINE 0 r true).enableRail r true
  else s

/-- A stage starts once its DELAY is over: its rails are enabled or stopped on one tick, and a lane part begins (R173, R175, R184). -/
def State.stageStart (s : State) : State :=
  let q := s.seqNo
  let k := s.get Hid.SEQ_NEXT 0
  if s.get Hid.SEQ_STEP 0 ≠ SeqStep.delay || decide (beatDiff s.beat (s.get Hid.SEQ_BEAT 0) < s.stageDelay q k) then s else
    let lane := s.onAt Reg.SEQ_STG.LANE_EN 0 (stgIx q k)
    let s := ((s.put Reg.SEQ_STATUS.STAGE 0 k).put Hid.SEQ_STEP 0 SeqStep.stage).put Hid.SEQ_BEAT 0 s.beat
    let s := (s.clr Hid.SEQ_BAD 0).putB Hid.SEQ_LANE_OK 0 (!lane)
    let s := s.when lane fun s => s.put Hid.LN_STAGE 0 1
    let rails := s.stageRails q k
    let s :=
      if s.seqDown then s.over (rails.filter fun r => !s.seqSpares r) fun s r => s.railStop r (s.stageTmo q k) true
      else s.over rails fun s r => s.stageOn' r
    s.seqPoll

/-- SEQ_STAGE_START (R173): of the sequencer, or of a tile that runs its own order. -/
def execSeqStageStart (tile : Option Tile) (s : State) : Host.Outcome State Fault Refusal :=
  .next (match tile with
    | none => s.stageStart
    | some t => s.localStage t.val)

/-- A turn-on stage's timeout, TMO from its start: enables of the stage that still wait for PG end with PG_TIMEOUT; the sequence fails, with LANE_FAIL where only
its worker is missing (R172, R173). -/
def State.stageTimeout (s : State) : State :=
  if s.get Hid.SEQ_STEP 0 ≠ SeqStep.stage || s.seqDown ||
      decide (beatDiff s.beat (s.get Hid.SEQ_BEAT 0) < 100 * max 1 (s.stageTmo s.seqNo (s.get Reg.SEQ_STATUS.STAGE 0))) then s
  else
    let rails := s.stageRails s.seqNo (s.get Reg.SEQ_STATUS.STAGE 0)
    let pg := rails.all fun r => s.on Reg.RAIL_SUP_STATUS.PG (s.leadIx r)
    let s := s.over (rails.filter fun r => s.onAt Hid.EN_BY_SEQ 0 r && s.enStep r = 5) fun s r => s.enableStop r EnRes.pgTimeout
    s.seqFail (if pg && !s.on Hid.SEQ_BAD 0 then SeqRes.laneFail else SeqRes.failed)

/-- SEQ_STAGE_TIMEOUT (R173). -/
def execSeqStageTimeout (s : State) : Host.Outcome State Fault Refusal := .next s.stageTimeout

/-! Shut-down of a rail (R175). -/

/-- RAIL_BELOW_OFF_THRESHOLD (R175). -/
def execRailBelowOffThreshold (r : Rail) (s : State) : Host.Outcome State Fault Refusal :=
  .next (if s.stopping r.val && s.belowOff r.val then (s.railOffNow r.val false).seqPoll else s)

/-- The stage in progress, of a shut-down or of an unwind, waits for the rail (R173, R175). -/
def State.stageHolds (s : State) (r : Nat) : Bool :=
  let step := s.get Hid.SEQ_STEP 0
  s.seqActive &&
    ((step = SeqStep.stage && s.seqDown && (s.stageRails s.seqNo (s.get Reg.SEQ_STATUS.STAGE 0)).contains r) ||
      (step = SeqStep.unwind && (s.mineIn (s.get Hid.SEQ_NEXT 0)).contains r))

/-- The first timeout: discharge at the high level; TMO2 for a rail of the running sequence's stage. -/
def State.firstTimeout (s : State) (r : Nat) : State :=
  if s.stopping r && !s.onAt Hid.OFF_T1 0 r && decide (100 * s.getAt Hid.OFF_TMO 0 r ≤ s.offElapsed r) then
    let s := ((s.putAt Hid.OFF_T1 0 r 1).putRs r Rs.stopHi).dischargeHigh r
    s.when (s.stageHolds r) fun s => s.raise Reg.SEQ_STATUS.TMO2 0
  else s

/-- SHUTDOWN_FIRST_TIMEOUT (R175). -/
def execShutdownFirstTimeout (r : Rail) (s : State) : Host.Outcome State Fault Refusal := .next (s.firstTimeout r.val)

/-- The second timeout: every phase goes OFF, the rail is stuck, a snapshot is taken, the event is journalled. -/
def State.secondTimeout (s : State) (r : Nat) : State :=
  if s.stopping r && s.onAt Hid.OFF_T1 0 r && decide (200 * s.getAt Hid.OFF_TMO 0 r ≤ s.offElapsed r) then
    let i := s.leadIx r
    let mine := s.stageHolds r || (s.inSeq r && s.seqDown)
    let s := s.railOffNow r true
    let s := (s.put Reg.RAIL_SUP_STATUS.STUCK i 1).put Reg.RAIL_SUP_STATUS.STUCK_EVT i 1
    let s := (s.jRail Reg.RAIL_SUP_STATUS.STUCK r JStatus.failed).when mine fun s => s.raise Hid.SEQ_STUCK 0
    ((s.snapTrigger SnapCause.stuck r).fltAssert fltStuck).seqPoll
  else s

/-- SHUTDOWN_SECOND_TIMEOUT (R175). -/
def execShutdownSecondTimeout (r : Rail) (s : State) : Host.Outcome State Fault Refusal := .next (s.secondTimeout r.val)

/-! The pre-start test and a law copy, which an enable waits for (R63, R107). -/

/-- The verdict of a phase under test; one that gave no observation has not reported. -/
def probeVerdict (obs : List (Phase × ProbeObs)) (pre : Bool) (p : Nat) : Nat :=
  match obs.find? fun o => decide (o.1.val = p) with
  | some o => verdictOf o.2 pre
  | none => Verdict.noReport

/-- The pre-bias check fails: V2 above set-point + 50 mV, or 25 mV above V1, each the sum of 64 samples (R63). -/
def prebiased (v1 v2 : Nat) (vset : Nat) : Bool := decide (64 * (vset + 200) < v2) || decide (v1 + 6400 < v2)

/-- PRESTART_TEST_COMPLETE (R63): the verdict of every phase under test; with every phase passing the soft-start begins, else the failing phases
are blocked, the others are OFF, and the enable ends BLOCKED (R64). -/
def State.prestartDone (s : State) (r : Nat) (obs : List (Phase × ProbeObs)) : State :=
  if !s.onAt Hid.PRESTART 0 r || s.enStep r ≠ 4 || decide (s.prestartAge r < 6000 + 300 * (s.aliveOf r).length) then s else
    let l := (s.aliveOf r).filter fun p => s.ph p = Ph.probe
    let v2 := s.getAt Hid.PS_V2 0 r
    let pre := prebiased (s.getAt Hid.PS_V1 0 r) v2 (s.get Reg.RAIL_SETPT.VSET_TGT (s.leadIx r)) && !l.any fun p => probeVerdict obs false p = Verdict.hsShort
    let verdict : Nat → Nat := probeVerdict obs pre
    let s := s.over l fun s p => s.put Reg.PH_STATE.VERDICT p (verdict p)
    let s := s.over obs fun s o => if l.contains o.1.val then s.writeOffset o.1.val o.2 else s
    if l.all fun p => verdict p = Verdict.pass then s.enablePassed r ((v2 + 32) / 64)
    else
      let s := s.over l fun s p => if verdict p = Verdict.pass then s.toOff p else s.probeFailed p (verdict p)
      (s.enableAbort r EnRes.blocked).seqPoll

/-- PRESTART_TEST_COMPLETE (R63). -/
def execPrestartTestComplete (r : Rail) (obs : List (Phase × ProbeObs)) (s : State) : Host.Outcome State Fault Refusal :=
  .next (s.prestartDone r.val obs)

/-- LAW_COPY_DONE (R107): a copy in progress ends, and an enable that waited for it goes on. -/
def execLawCopyDone (r : Rail) (s : State) : Host.Outcome State Fault Refusal :=
  .next (if s.onAt Hid.LAW_BUSY 0 r.val then ((s.lawCopied r.val).enableRetry r.val).seqPoll else s)

end Sys2Proof.Machine
end

