-- ==== Sys2Proof/Machine/Protection.lean ====
section
/-!
DEFINITION. Protection of phases and rails (R189 to R199): overcurrent of a phase, the confirmed conditions of a rail and their
responses, sense loss, and the turn-off without discharge.
-/
namespace Sys2Proof.Machine

/-- PHASE_OC_SHED (R194): limiting acted in OC_CYC consecutive cycles. -/
def execPhaseOcShed (p : Phase) (s : State) : Host.Outcome State Fault Refusal :=
  .next (if max 1 (s.get Reg.PH_PROT.OC_CYC p) ≤ s.get Hid.OC_N p then s.shed p Cause.phaseOc else s)

/-- One channel alone has held a condition for 100 ticks: CH_DISAGREE, and the count begins again (R195). -/
def State.chDisagree (s : State) (r : Nat) : State :=
  let i := s.leadIx r
  if 100 ≤ s.get Hid.CHD_OV_N i || 100 ≤ s.get Hid.CHD_UV_N i then
    ((s.put Reg.RAIL_PROT_STATUS.CH_DISAGREE i 1).clr Hid.CHD_OV_N i).clr Hid.CHD_UV_N i
  else s

/-- CH_DISAGREE (R195). -/
def execChDisagree (r : Rail) (s : State) : Host.Outcome State Fault Refusal := .next (s.chDisagree r.val)

/-- What every protection response other than event only starts: PROT_OFF, PROT_COUNT, a journal entry, a snapshot, FLT_N (R179, R197). -/
def State.protectNote (s : State) (r : Nat) : State :=
  let i := s.leadIx r
  let s := (s.put Reg.RAIL_PROT_STATUS.PROT_OFF i 1).bump Reg.RAIL_PROT_STATUS.PROT_COUNT i
  ((s.jRail Reg.RAIL_PROT_STATUS.PROT_OFF r JStatus.ok).snapTrigger SnapCause.protect r).fltAssert fltProtect

/-- The rail is turned off by a protection: an enable in progress ends with FAULT, a rail that stops goes on stopping (R172, R198). -/
def State.protectOff (s : State) (r : Nat) : State :=
  if s.rs r = Rs.off || s.stopping r then s
  else if s.enStep r ≠ 0 then s.enableStop r EnRes.fault
  else s.stopBegin r (s.offTmo r) false

/-- A confirmed overvoltage that acts: mid at once on every phase of the tile that confirms it, on the other tile six ticks later with the slot's flag, and
discharge at the high level (R197). -/
def State.overvoltageOff (s : State) (r : Nat) : State :=
  let s := s.protectOff r
  if s.stopping r then
    let s := ((s.holdMid (s.phasesOn (s.leadTile r) r)).putAt Hid.OV_OFF 0 r 1).dischargeHigh r
    s.when (s.disHigh (s.leadTile r) r) fun s => s.putRs r Rs.stopHi
  else s

/-- The response that ACT names, after a condition is confirmed (R196, R197). -/
def State.protectAct (s : State) (r act : Nat) (ov : Bool) : State :=
  if act = 0 then s else
    let s := s.protectNote r
    let s := if ov then s.overvoltageOff r else s.protectOff r
    let s := s.when (act = 2 && s.active.isSome) fun s =>
      s.seqRun originDevice 0 (s.get Reg.RAIL_PROT_CFG.PROT_SEQ (s.leadIx r))
    s.seqPoll

/-- A condition is confirmed: its event in every engine of the rail, its status bit, a capture trigger, its response. -/
def State.confirm (s : State) (r ev : Nat) (f : Fld) (act : Nat) : State :=
  let s := ((s.railEvent r ev).put f (s.leadIx r) 1).capTriggerRail r 1
  s.protectAct r act (ev = Ev.railOv)

/-- A condition that has held for its delay is confirmed, once until it ends (R196). -/
def State.confirmAfter (s : State) (r b : Nat) (n : Fld) (ticks ev : Nat) (f : Fld) (act : Nat) : State :=
  let i := s.leadIx r
  if s.kindOf r = 1 && s.rs r ≠ Rs.off && decide (ticks ≤ s.get n i) && !s.bit Hid.CONF i b then
    (s.putBit Hid.CONF i b true).confirm r ev f act
  else s

/-- RAIL_OV_CONFIRM (R196): after OV_DLY ticks. -/
def execRailOvConfirm (r : Rail) (s : State) : Host.Outcome State Fault Refusal :=
  .next (s.confirmAfter r.val 0 Hid.OV_N (max 1 (s.get Reg.RAIL_OV.OV_DLY (s.leadIx r.val))) Ev.railOv Reg.RAIL_PROT_STATUS.OV_EVT
    (s.get Reg.RAIL_OV.OV_ACT (s.leadIx r.val)))

/-- RAIL_UV_CONFIRM (R196): after UV_DLY µs. -/
def execRailUvConfirm (r : Rail) (s : State) : Host.Outcome State Fault Refusal :=
  .next (s.confirmAfter r.val 1 Hid.UV_N (100 * max 1 (s.get Reg.RAIL_UV.UV_DLY (s.leadIx r.val))) Ev.railUv Reg.RAIL_PROT_STATUS.UV_EVT
    (s.get Reg.RAIL_UV.UV_ACT (s.leadIx r.val)))

/-- RAIL_OC_CONFIRM (R196): after OC_DLY µs. -/
def execRailOcConfirm (r : Rail) (s : State) : Host.Outcome State Fault Refusal :=
  .next (s.confirmAfter r.val 2 Hid.ROC_N (100 * max 1 (s.get Reg.RAIL_OC.OC_DLY (s.leadIx r.val))) Ev.railOc Reg.RAIL_PROT_STATUS.OC_EVT
    (s.get Reg.RAIL_OC.OC_ACT (s.leadIx r.val)))

/-- The rail's home channel is LOST. -/
def State.homeLost (s : State) (r : Nat) : Bool := s.onAt Reg.CHAN_STATE.LOST (s.home r) (s.chanOf (s.home r) r)

/-- SENSE_LOST sets where the rail's home channel is lost (R199). -/
def State.lostShow (s : State) (r : Nat) : State := s.when (s.homeLost r) fun s => s.put Reg.RAIL_PROT_STATUS.SENSE_LOST (s.leadIx r) 1

/-- A rail is turned off without discharge: every phase to mid at once, and OFF 1 µs later (R199, R205; DEDUCED, log entry 48). -/
def State.railKill (s : State) (r : Nat) : State :=
  if s.rs r = Rs.off then s
  else if s.rs r = Rs.enabling then ((s.protectNote r).enableAbort r EnRes.fault).lostShow r
  else
    let s := (s.protectNote r).protectOff r
    let s := (s.holdMid (s.phasesOf r)).putLive Reg.RAIL_SUP_STATUS.DIS_HIGH r 0
    (s.putBit Hid.LOST_MID 0 r true).putAt Hid.LOST_TICK 0 r (s.get Hid.TICK (s.leadTile r))

/-- SENSE_LOST_OFF (R199): 1 µs after its phases went to mid the rail is OFF; SENSE_LOST sets where the home channel is lost. -/
def State.lostOff (s : State) (r : Nat) : State :=
  let ticks := (s.get Hid.TICK (s.leadTile r) + 2 ^ 32 - s.getAt Hid.LOST_TICK 0 r) % 2 ^ 32
  if s.bit Hid.LOST_MID 0 r && decide (100 ≤ ticks) then (((s.putBit Hid.LOST_MID 0 r false).railOffNow r false).lostShow r).seqPoll else s

/-- SENSE_LOST_OFF (R199). -/
def execSenseLostOff (r : Rail) (s : State) : Host.Outcome State Fault Refusal := .next (s.lostOff r.val)

end Sys2Proof.Machine
end

