-- ==== Sys2Proof/Machine/Halves.lean ====
section
/-!
DEFINITION. Mirrored rails (R277 to R286): the loss of a half, what the surviving tile does, splits, rejoining.
-/
namespace Sys2Proof.Machine

/-! CAUSE of a half loss (R279). -/
namespace Loss
abbrev silent : Nat := 1
abbrev shutdown : Nat := 2
abbrev senseLost : Nat := 3
abbrev leadLost : Nat := 4
abbrev yield : Nat := 5
end Loss

/-- The tile of a cross-tile rail that is not `t`. -/
def State.otherTile (s : State) (t r : Nat) : Nat := if t = s.home r then (s.partner r).getD t else s.home r

/-- HALF when tile `t` carries the rail alone. -/
def State.onlyHalf (s : State) (t r : Nat) : Nat := if t = s.home r then Half.homeOnly else Half.partOnly

/-- The tile carries a half of a mirrored rail. -/
def State.carries (s : State) (t r : Nat) : Bool := s.mirrored r && (t = s.home r || s.partner r = some t)

/-- Every surviving half of the rail is gone: it is turned off as after sense loss (R199; DEDUCED, log entry 19). -/
def State.lastHalf (s : State) (t r : Nat) : State := (s.railKill r).put Hid.HALF_DOWN (railIx t r) 1

/-- A rejoin in progress ends: its probe gives no verdict, and its phase returns to the state and CAUSE it held (R284). -/
def State.rejoinEnd (s : State) (r : Nat) : State :=
  if !s.onAt Hid.RJ_BUSY 0 r then s else
    let u := s.getAt Hid.RJ_TILE 0 r
    let s := s.over ((s.phasesOn u r).filter fun p => s.on Hid.PROBING p) fun s p =>
      let s := ((s.toMid p).probeOver p).put Reg.PH_STATE.CAUSE p (s.get Hid.PRE_CAUSE p)
      let s := s.put Reg.PH_STATE.STATE p (s.get Hid.PRE_ST p)
      if s.get Hid.PRE_ST p = Ph.off then s.toOff p else s.raise Hid.HELD p
    ((s.putAt Hid.RJ_BUSY 0 r 0).putAt Hid.RJ_SWAP 0 r 0).endRun Reg.MIRR_CTRL.REJOIN (railIx (s.otherTile u r) r) false

/-- A tile loses its half: HALF_DOWN in the rail's slot, its phases to mid, its copy of HALF shows the survivor (R279). A half that stood alone takes
the rail with it. -/
def State.halfAnnounce (s : State) (t r cause : Nat) : State :=
  let i := railIx t r
  let u := s.otherTile t r
  if !s.carries t r || s.on Hid.HALF_DOWN i then s
  else if s.half t r = s.onlyHalf t r && s.on Hid.HALF_DOWN (railIx u r) then s.lastHalf t r
  else
    let s := s.rejoinEnd r
    let s := ((s.put Hid.HALF_DOWN i 1).put Hid.MINE_CAUSE i cause).clr Hid.LEAD_RST i
    let s := ((s.put Reg.MIRR_STATUS.HALF i (s.onlyHalf u r)).put Reg.MIRR_STATUS.CAUSE i cause).bump Reg.MIRR_STATUS.LOSS_COUNT i
    s.holdMid (s.phasesOn t r)

/-- The cause that an announcement names holds on the tile. -/
def State.lossHolds (s : State) (t r cause : Nat) : Bool :=
  if cause = Loss.shutdown then s.on Hid.TSD_ON t
  else if cause = Loss.senseLost then s.onAt Reg.CHAN_STATE.LOST t (s.chanOf t r)
  else if cause = Loss.leadLost then
    (s.phasesOn t r).any fun p => s.roleOf p ≠ 0 && s.ph p = Ph.shed && s.get Reg.PH_STATE.CAUSE p = Cause.engineLost
  else if cause = Loss.yield then s.half t r = Half.split
  else false

/-- HALF_LOSS_ANNOUNCE (R279). -/
def execHalfLossAnnounce (t : Tile) (r : Rail) (cause : Fin 16) (s : State) : Host.Outcome State Fault Refusal :=
  .next (if s.lossHolds t.val r.val cause.val then s.halfAnnounce t.val r.val cause.val else s)

/-- The standby lead becomes acting lead, or the home lead again: ROLE_CHG latches in both lead engines (R95, R280, R284). -/
def State.actStandby (s : State) (r : Nat) (standby : Bool) : State :=
  if s.onAt Hid.STBY_ACT 0 r = standby then s else
    let s := s.putAt Hid.STBY_ACT 0 r standby.toNat
    s.over (s.phasesOf r) fun s p =>
      let role := s.roleOf p
      if s.get Reg.ENG_STATUS.ROLE p ≠ role then (s.put Reg.ENG_STATUS.ROLE p role).event p Ev.roleChg else s

/-- V_HOLD of the surviving tile: the mean of the own-channel VSENSE of ticks D − 31 to D − 16 (R280). -/
def State.vHold (s : State) (i : Nat) : Nat :=
  (((List.range 16).foldl (fun a k => a + s.getAt Hid.VS_HIST i (16 + k)) 0) + 8) / 16

/-- What the surviving tile does at its declaration boundary (R280). -/
def State.survive (s : State) (t r cause : Nat) : State :=
  let i := railIx t r
  let u := s.otherTile t r
  let s := (s.rejoinEnd r).over (s.phasesOn u r) fun s p => s.clr Hid.LOAD_SIG p
  let s := ((s.put Reg.MIRR_STATUS.HALF i (s.onlyHalf t r)).put Reg.MIRR_STATUS.CAUSE i cause).bump Reg.MIRR_STATUS.LOSS_COUNT i
  let s := (s.clr Hid.LEAD_RST (railIx u r)).raise Reg.MIRR_STATUS.CAP_RAISED i
  let s := s.when (decide (t ≠ s.home r)) fun s =>
    ((s.actStandby r true).clr Reg.FC_STATUS.PENDING (railIx u r)).clr Reg.FC_STATUS.JUDGING (railIx u r)
  let s := (s.put Hid.C_VREF i (s.vHold i)).put Hid.LOSS_ARM i 2501
  let s := s.over ((s.phasesOn t r).filter fun p => s.ph p = Ph.parked && !s.underDiag p) fun s p => s.addParked p
  let s := s.over ((List.range 4).filter fun v => s.captures v r) fun s v => s.capTrigger v 3
  (s.raise Reg.MIRR_STATUS.HALF_LOST_EVT i).snapTrigger SnapCause.protect r

/-- HALF_DOWN of the rail's slot has arrived and waits to be acted on (R279). -/
def State.downHeard (s : State) (t r : Nat) : Bool := (s.slotEntry t r).any fun x => s.onAt Hid.SLOT_DOWN t x

/-- It has been acted on. -/
def State.downTaken (s : State) (t r : Nat) : State := (s.slotEntry t r).elim s fun x => s.clrAt Hid.SLOT_DOWN t x

/-- A tile declares the other half lost: for an announced loss with its cause once HALF_DOWN has arrived, else when the rail's slot was stale for eight
ticks. Two tiles that each declared the other silent show SPLIT (R279, R283). A non-mirrored cross-tile rail goes on with its home half, or is turned
off with its home half lost (R286; DEDUCED, log entry 51). -/
def State.halfDeclare (s : State) (t r : Nat) : State :=
  let i := railIx t r
  let u := s.otherTile t r
  let k := railIx u r
  let told := s.downHeard t r
  let silent := decide (8 ≤ s.slotAge t r)
  let s := s.downTaken t r
  if !(told || silent) || (s.partner r).isNone || !(t = s.home r || s.partner r = some t) then s
  else if !s.mirrored r then
    (if t = s.home r then s.holdMid (s.phasesOn u r) else s.railKill r)
  else if s.half t r = s.onlyHalf t r || s.half t r = Half.split || s.on Hid.HALF_DOWN i then s
  else if told then s.survive t r (s.get Hid.MINE_CAUSE k)
  else
    let s := s.survive t r Loss.silent
    if s.half u r = s.onlyHalf u r then
      s.over [t, u] fun s v =>
        (s.put Reg.MIRR_STATUS.HALF (railIx v r) Half.split).raise Reg.MIRR_STATUS.SPLIT_EVT (railIx v r)
    else s

/-- HALF_LOSS_DECLARE (R280). -/
def execHalfLossDeclare (t : Tile) (r : Rail) (s : State) : Host.Outcome State Fault Refusal :=
  .next (s.halfDeclare t.val r.val)

/-- HALF_LOSS_HOLD_END (R280): 25 µs after the declaration the window's reference and MODE are the rail's again. -/
def execHalfLossHoldEnd (t : Tile) (r : Rail) (s : State) : Host.Outcome State Fault Refusal :=
  .next (let i := railIx t.val r.val
    if s.get Hid.LOSS_ARM i ≤ 1 then s.clr Hid.LOSS_ARM i else s)

/-- SPLIT_YIELD (R283): the partner half withdraws with cause YIELD, and the home tile shows HOME_ONLY with that cause. -/
def State.splitYield (s : State) (r : Nat) : State :=
  match s.partner r with
  | none => s
  | some u =>
    if s.active.isSome && s.half (s.home r) r = Half.split && s.half u r = Half.split then
      let i := s.homeIx r
      let s := s.halfAnnounce u r Loss.yield
      let s := (s.put Reg.MIRR_STATUS.HALF i Half.homeOnly).put Reg.MIRR_STATUS.CAUSE i Loss.yield
      s.actStandby r false
    else s

/-- SPLIT_YIELD (R283). -/
def execSplitYield (r : Rail) (s : State) : Host.Outcome State Fault Refusal := .next (s.splitYield r.val)

/-! Rejoining (R284). -/

/-- The lead engine of the rail's half on a tile. -/
def State.leadOn (s : State) (t r : Nat) : Nat :=
  t * 24 + s.get (if t = s.home r then Reg.RAIL_ENG_CFG.LEAD_PH else Reg.RAIL_ENG_CFG.STBY_PH) (railIx t r)

/-- The cause that removed the half of tile `u` is gone (R284's table). -/
def State.causeGone (s : State) (u r cause : Nat) : Bool :=
  if cause = Loss.shutdown then !s.on Hid.TSD_ON u && !s.on Reg.TILE_THERM.TSD_LATCH u
  else if cause = Loss.senseLost then
    !s.onAt Reg.CHAN_STATE.LOST u (s.chanOf u r) && !s.onAt Reg.CHAN_STATE.DIAG_FAIL u (s.chanOf u r)
  else if cause = Loss.leadLost then s.on Reg.ENG_FAULT.PROBE_OK (s.leadOn u r) || s.on Hid.LEAD_RST (railIx u r)
  else true

/-- A rejoin commanded on the surviving tile is accepted (R284). -/
def State.rejoinOk (s : State) (t r : Nat) : Bool :=
  let u := s.otherTile t r
  s.carries t r && s.half t r = s.onlyHalf t r && s.slotsValid r && s.active.isSome && !s.on Hid.BLK_BAD u && !s.on Hid.TSD_ON u &&
    s.causeGone u r (s.get Reg.MIRR_STATUS.CAUSE (railIx t r))

/-- The half is part of the rail again: HALF on both tiles, the raised limits and the announcement end. -/
def State.rejoined (s : State) (r half : Nat) : State :=
  let s := s.over (s.tilesOf r) fun s t =>
    let i := railIx t r
    ((s.put Reg.MIRR_STATUS.HALF i half).clr Reg.MIRR_STATUS.CAP_RAISED i).clr Hid.HALF_DOWN i
  let s := (s.putAt Hid.RJ_BUSY 0 r 0).putAt Hid.RJ_SWAP 0 r 0
  s.over (s.tilesOf r) fun s t => s.endRun Reg.MIRR_CTRL.REJOIN (railIx t r) true

/-- The next phase of the returning half runs its re-add probe, in ascending order; when none is left the rejoin is complete, but for the role swap
of a returning home half, for which the manager names the tick 100 ahead. -/
def State.rejoinNext (s : State) (r : Nat) : State :=
  if !s.onAt Hid.RJ_BUSY 0 r || s.onAt Hid.RJ_SWAP 0 r then s else
    let u := s.getAt Hid.RJ_TILE 0 r
    match (s.phasesOn u r).find? fun p =>
        decide (s.getAt Hid.RJ_POS 0 r ≤ p) && s.ph p ≠ Ph.blocked && decide (s.get Reg.PH_PROT.ILIM_CEIL p ≠ 0) && !s.on Hid.JOIN_PEND p && (s.ph p ≠ Ph.active || s.on Hid.HELD p) with
    | some p =>
      let s := ((s.put Hid.PRE_ST p (s.ph p)).put Hid.PRE_CAUSE p (s.get Reg.PH_STATE.CAUSE p)).put Hid.READD_CAUSE p
        (s.get Reg.PH_STATE.CAUSE p)
      (((s.toProbe p).raise Hid.PROBING p).clr Hid.HELD p).putAt Hid.RJ_POS 0 r (p + 1)
    | none =>
      if u = s.home r then (s.putAt Hid.RJ_SWAP 0 r 1).putAt Hid.RJ_AT 0 r (s.get Hid.TICK u + 100) else s.rejoined r Half.both

/-- What a returning half takes over from tile `t`, so that both generators and both cycle counters run in step. -/
def joinFlds : List Fld :=
  [Hid.SP_Q16, Hid.SP_TGT, Hid.SP_MODE, Hid.SP_DONE, Hid.DE_FORCE, Hid.SP_QUIET, Hid.CYC_CNT, Hid.CYC_TAP, Hid.THR_ACT, Reg.RAIL_PWM.PER_ACT,
   Reg.RAIL_SP_STATUS.VSET_NOW, Reg.RAIL_SP_STATUS.SS_ACTIVE, Reg.RAIL_SP_STATUS.RAMPING,
   Reg.RAIL_SUP_STATUS.RSTATE, Reg.RAIL_SUP_STATUS.PG, Reg.RAIL_SUP_STATUS.DIS_HIGH]

/-- Tile `u` runs its half in step with tile `t` again (R46, R117; DEDUCED, log entry 91). -/
def State.joinHalf (s : State) (t u r : Nat) : State := s.over joinFlds fun s f => s.put f (railIx u r) (s.get f (railIx t r))

/-- REJOIN on the surviving tile (R284). -/
def State.rejoin (s : State) (w : Who) (t r : Nat) : State :=
  let i := railIx t r
  if !s.rejoinOk t r then (s.raise Reg.MIRR_STATUS.REJOIN_REJ i).jRefused w Reg.MIRR_CTRL.REJOIN i r JStatus.refused
  else
    if s.rs r = Rs.off then (((s.jDone w Reg.MIRR_CTRL.REJOIN i r).joinHalf t (s.otherTile t r) r).rejoined r Half.none).actStandby r false
    else
      let s := (s.acceptRun w Reg.MIRR_CTRL.REJOIN i r).joinHalf t (s.otherTile t r) r
      let u := s.otherTile t r
      let s := s.over [t, u] fun s v => s.put Reg.MIRR_STATUS.HALF (railIx v r) Half.rejoining
      let s := ((s.putAt Hid.RJ_BUSY 0 r 1).putAt Hid.RJ_TILE 0 r u).putAt Hid.RJ_POS 0 r 0
      ((s.clr Hid.HALF_DOWN (railIx u r)).downTaken t r).rejoinNext r

/-- REJOIN (R284). -/
def execRejoin (w : Who) (t : Tile) (r : Rail) (s : State) : Host.Outcome State Fault Refusal :=
  .next (s.rejoin w t.val r.val)

/-- REJOIN_ROLE_SWAP (R284): at the named tick the home lead acts again, and the rejoin completes. -/
def execRejoinRoleSwap (r : Rail) (s : State) : Host.Outcome State Fault Refusal :=
  .next (if s.onAt Hid.RJ_SWAP 0 r.val && tickReached (s.getAt Hid.RJ_AT 0 r.val) (s.get Hid.TICK (s.home r.val)) then (s.actStandby r.val false).rejoined r.val Half.both else s)

/-- READD_PROBE_COMPLETE (R60): the re-add of a shed phase, or one probe of a rejoin, which goes on with the next phase, also past one that was shed in
its probe (R284). -/
def execReaddProbeComplete (p : Phase) (obs : ProbeObs) (s : State) : Host.Outcome State Fault Refusal :=
  let r := s.railOf p.val
  .next (
    if s.on Hid.PROBING p.val then (s.readdComplete p.val obs).rejoinNext r
    else if s.getAt Hid.RJ_POS 0 r = p.val + 1 && s.getAt Hid.RJ_TILE 0 r = tileOf p && s.ph p.val = Ph.shed then s.rejoinNext r
    else s)

/-! A sense channel that is lost, and an engine with no spare (R199, R279). -/

/-- A channel of tile `t` is LOST: the half of a mirrored rail that it senses, or the whole of another rail, is lost with it. -/
def State.senseLost (s : State) (t c : Nat) : State :=
  s.over (s.railsOfChan t c) fun s r =>
    if s.mirrored r then s.halfAnnounce t r Loss.senseLost
    else if s.rs r = Rs.off then s.put Reg.RAIL_PROT_STATUS.SENSE_LOST (s.homeIx r) 1
    else s.railKill r

end Sys2Proof.Machine
end

