-- ==== Sys2Proof/Machine/Kerb.lean ====
section
/-!
DEFINITION. Kerb mode (R294, R304 to R307): entering by each of its causes, a tile's own entry, leaving.
-/
namespace Sys2Proof.Machine

/-! The cause bits of KERB_STATUS (R304). -/
namespace KCause
abbrev soc : Nat := 0
abbrev mgrLost : Nat := 1
abbrev throttle : Nat := 2
abbrev host : Nat := 3
abbrev fltN : Nat := 4
abbrev lane : Nat := 5
end KCause

/-- The cause bit latches. -/
def State.kerbCause (s : State) (c : Nat) : State := s.putBit Reg.KERB_STATUS.CAUSE 0 c true

/-- A core of the event controller halts or is released. -/
def State.haltCore (s : State) (c : Nat) (b : Bool) : State := s.putAt Reg.EVC_CORE.HALTED 0 c b.toNat

/-- A cause of Kerb mode occurs: from RUN the device enters, stops its turn-on sequence and runs the stored shut-down order on the non-privileged
rails; in Kerb mode the cause only latches; in other device states nothing happens (R304, R305, R307, R327; DEDUCED, log entry 20). -/
def State.kerbEnter (s : State) (c : Nat) : State :=
  if s.dev = Dev.kerb then s.kerbCause c
  else if s.dev ≠ Dev.run || s.active.isNone then s
  else
    let s := ((s.put Reg.DEV_STATE.STATE 0 Dev.kerb).raise Reg.KERB_STATUS.IN_KERB 0).kerbCause c
    let s := (s.bump Reg.KERB_STATUS.ENTRY_COUNT 0).snapTrigger SnapCause.kerb noRail
    let s := (s.jAction JStatus.ok noTarget (Reg.KERB_STATUS.IN_KERB.off % 0x10000) c).fltAssert fltKerb
    let s := (s.haltCore 1 true).haltCore 2 true
    match s.kerbSeq with
    | some q => s.seqReplace q
    | none => if s.seqActive && !s.seqDown then s.seqAbort else s

/-- ENTER (R304). -/
def execKerbEnter (w : Who) (s : State) : Host.Outcome State Fault Refusal :=
  .next ((s.jDone w Reg.KERB_CTRL.ENTER 0 noTarget).kerbEnter KCause.host)

/-- The pair carries VBB, or hands it back (R216, R218). -/
def State.onBattery (s : State) : Bool := decide (2 ≤ s.get Reg.BFET_STATUS.STATE 0)

/-- KERB_SOC_ENTRY (R304): both have held for 100 ms, which is 100 frames of the gauge. -/
def execKerbSocEntry (s : State) : Host.Outcome State Fault Refusal :=
  .next (if s.on Reg.GG_STATUS.KERB_LOW 0 && s.onBattery && 100 ≤ s.get Hid.KSOC_N 0 then s.kerbEnter KCause.soc else s)

/-- Die `n` is at throttle: tiles 0 to 3, managers 4 and 5, HPD 6 (R203). -/
def State.throttled (s : State) (n : Nat) : Bool :=
  if n < 4 then s.on Hid.THR_ON n else if n < 6 then s.on Hid.M_THR (n - 4) else s.on Hid.H_THR 0

/-- A die has been at throttle for THR_LIM seconds without a break (R207). -/
def State.throttleHeld (s : State) : Bool :=
  (List.range 7).any fun n => s.throttled n && s.heldFor Hid.THR_AT 0 n (s.get Reg.MGR_THERM.THR_LIM 0 * 1000000)

/-- THROTTLE_KERB (R207): throttle was held for THR_LIM seconds; a THR_LIM of 0 disables the entry. -/
def execThrottleKerb (s : State) : Host.Outcome State Fault Refusal :=
  .next (if s.throttleHeld && s.get Reg.MGR_THERM.THR_LIM 0 ≠ 0 then s.kerbEnter KCause.throttle else s)

/-- The tile has heard no beat frame of either manager for `n` µs of its own count. -/
def State.silentFor (s : State) (t n : Nat) : Bool := decide (n * 100 ≤ s.get Hid.SILENT_N t)

/-- MGR_SILENT (R294): a tile has heard no beat frame for 30 µs. -/
def execMgrSilent (t : Tile) (s : State) : Host.Outcome State Fault Refusal :=
  .next (if s.silentFor t.val 30 then s.raise Reg.TILE_AUTO.MGR_SILENT t.val else s)

/-- AUTO_KERB (R294): the silence lasted KERB_HOLD; the tile keeps its privileged rails and runs the stored order on the others it homes. -/
def execAutoKerb (t : Tile) (s : State) : Host.Outcome State Fault Refusal :=
  .next (if s.on Reg.TILE_AUTO.MGR_SILENT t.val && s.silentFor t.val (s.get Reg.TILE_AUTO.KERB_HOLD t.val * 10000) &&
      !s.on Reg.TILE_AUTO.AUTO_KERB t.val then
    (s.raise Reg.TILE_AUTO.AUTO_KERB t.val).localBegin t.val else s)

/-- A latched cause persists (R306). -/
def State.kerbPersists (s : State) : Bool :=
  (s.bit Reg.KERB_STATUS.CAUSE 0 KCause.soc && (s.on Reg.GG_STATUS.KERB_LOW 0 || s.get Reg.BFET_STATUS.STATE 0 = 2)) ||
    (s.bit Reg.KERB_STATUS.CAUSE 0 KCause.mgrLost && (List.range 4).any fun t => s.on Reg.TILE_AUTO.MGR_SILENT t) ||
    (s.bit Reg.KERB_STATUS.CAUSE 0 KCause.throttle && (List.range 7).any s.throttled)

/-- The stored shut-down order has ended, on the sequencer and on every tile. -/
def State.orderEnded (s : State) : Bool :=
  !(s.seqActive && s.onAt Reg.SEQ_HDR.KERB_SDN 0 s.seqNo) && (List.range 4).all fun t => s.get Hid.AK_STEP t = SeqStep.idle

/-- The AUTO sequence runs as the device enters RUN (R171). -/
def State.autoRun (s : State) : State :=
  match (List.range 8).find? fun q => s.onAt Reg.SEQ_HDR.AUTO 0 q with
  | some q => s.seqRun originDevice 0 q
  | none => s

/-- EXIT: accepted in Kerb mode once the stored order has ended and no cause persists; the device returns to RUN (R306). -/
def State.kerbExit (s : State) (w : Who) : State :=
  if s.dev = Dev.kerb && s.orderEnded && !s.kerbPersists then
    let s := s.jDone w Reg.KERB_CTRL.EXIT 0 noTarget
    let s := s.over (List.range 4) fun s t => s.clr Reg.TILE_AUTO.AUTO_KERB t
    let s := (s.clr Reg.KERB_STATUS.CAUSE 0).clr Reg.KERB_STATUS.IN_KERB 0
    let s := (s.haltCore 1 false).haltCore 2 false
    (s.put Reg.DEV_STATE.STATE 0 Dev.run).autoRun
  else (s.raise Reg.KERB_CTRL.KERB_REJ 0).jRefused w Reg.KERB_CTRL.EXIT 0 noTarget JStatus.refused

/-- EXIT (R306). -/
def execKerbExit (w : Who) (s : State) : Host.Outcome State Fault Refusal := .next (s.kerbExit w)

end Sys2Proof.Machine
end

