-- ==== Sys2Proof/Machine/Thermal.lean ====
section
/-!
DEFINITION. Die thermal levels (R203 to R206): readings, throttle, the shutdown and restart of a tile.
-/
namespace Sys2Proof.Machine

/-- The fields of one kind of die: its block, streaks, levels, events. -/
structure ThermF where
  hiW : Fld
  loW : Fld
  hiT : Fld
  loT : Fld
  warn : Fld
  thr : Fld
  temp : Fld
  level : Fld
  warnEvt : Fld
  thrEvt : Fld
  disagree : Fld
  deriving DecidableEq, Repr

/-- The thermal fields of a die. -/
def thermF : Die → ThermF
  | .tile _ => ⟨Hid.TEMP_HI_W, Hid.TEMP_LO_W, Hid.TEMP_HI_T, Hid.TEMP_LO_T, Hid.WARN_ON, Hid.THR_ON, Reg.TILE_THERM.TEMP, Reg.TILE_THERM.LEVEL,
      Reg.TILE_THERM.WARN_EVT, Reg.TILE_THERM.THR_EVT, Reg.TILE_THERM.SENSOR_DISAGREE⟩
  | .mgr _ => ⟨Hid.M_HI_W, Hid.M_LO_W, Hid.M_HI_T, Hid.M_LO_T, Hid.M_WARN, Hid.M_THR, Reg.MGR_THERM.TEMP, Reg.MGR_THERM.LEVEL,
      Reg.MGR_THERM.WARN_EVT, Reg.MGR_THERM.THR_EVT, Reg.MGR_THERM.SENSOR_DISAGREE⟩
  | .hpd => ⟨Hid.H_HI_W, Hid.H_LO_W, Hid.H_HI_T, Hid.H_LO_T, Hid.H_WARN, Hid.H_THR, Reg.HPD_THERM.TEMP, Reg.HPD_THERM.LEVEL,
      Reg.HPD_THERM.WARN_EVT, Reg.HPD_THERM.THR_EVT, Reg.HPD_THERM.SENSOR_DISAGREE⟩

/-- The block of a die. -/
def dieIx : Die → Nat
  | .tile t => t.val | .mgr m => m.val | .hpd => 0

/-- The die is shut down. -/
def State.dieShut (s : State) : Die → Bool
  | .tile t => s.on Hid.TSD_ON t.val
  | .mgr _ => false
  | .hpd => s.on Hid.H_TSD 0

/-- LEVEL of a die. -/
def State.levelShow (s : State) (d : Die) : State :=
  let f := thermF d
  let i := dieIx d
  s.put f.level i (if s.dieShut d then 3 else if s.on f.thr i then 2 else if s.on f.warn i then 1 else 0)

/-- A level sets after ten readings at or above its threshold and clears after ten below the threshold less 5 °C (R203). -/
def State.levelStep (s : State) (i : Nat) (hi lo on evt : Fld) (x thr : Int) : State :=
  let s := (s.streak hi i 0 (thr ≤ x)).streak lo i 0 (x < thr - 80)
  let s := s.when (10 ≤ s.get hi i && !s.on on i) fun s => (s.raise on i).raise evt i
  s.when (10 ≤ s.get lo i) fun s => s.clr on i

/-- The rails with a phase on a tile. -/
def State.railsWith (s : State) (t : Nat) : List Nat := (List.range 48).filter fun r => !(s.phasesOn t r).isEmpty

/-- The number of a die: tiles 0 to 3, the managers 4 and 5, HPD 6. -/
def dieNo : Die → Nat
  | .tile t => t.val | .mgr m => 4 + m.val | .hpd => 6

/-- A die reads its sensors: the higher temperature, the levels, since when it is at throttle and since when its sensors differ by more than 10 °C, the readings
below 135 °C (R203, R205, R207, R220). -/
def State.thermalReading (s : State) (d : Die) (a b : Int) : State :=
  let f := thermF d
  let i := dieIx d
  let x := max a b
  let s := s.put f.temp i (twos 16 (satS 16 x))
  let s := (s.levelStep i f.hiW f.loW f.warn f.warnEvt x 2000).levelStep i f.hiT f.loT f.thr f.thrEvt x 2240
  let s := ((s.levelShow d).since Hid.THR_AT 0 (dieNo d) (s.on f.thr i)).since Hid.DIS_AT 0 (dieNo d) (decide (160 < (a - b).natAbs))
  match d with
  | .tile t => s.streak Hid.COOL_N t.val 0 (x < 2160)
  | .mgr _ => s
  | .hpd => s.streak Hid.H_COOL 0 0 (x < 2160)

/-- THERMAL_READING (R203). -/
def execThermalReading (d : Die) (a b : Int) (s : State) : Host.Outcome State Fault Refusal := .next (s.thermalReading d a b)

/-- SENSOR_DISAGREE (R203): the sensors of the die have differed by more than 10 °C for 1 ms. -/
def execSensorDisagree (d : Die) (s : State) : Host.Outcome State Fault Refusal :=
  .next (s.when (s.heldFor Hid.DIS_AT 0 (dieNo d) 1000) fun s => s.raise (thermF d).disagree (dieIx d))

/-! The shutdown of a tile (R205, R206). -/

/-- 3 600 000 000 µs. -/
def hourUs : Nat := 3600000000

/-- Restarts of the last hour: the entries of the history that lie within it. -/
def State.restartsOf (s : State) (t : Nat) : Nat :=
  ((List.range 3).filter fun k =>
    let e := s.getAt Hid.TSD_HIST t k
    decide (2 ^ 40 ≤ e) && decide (beatDiff s.beat (e % 2 ^ 40) ≤ hourUs)).length

/-- One phase of a tile that shuts down (R205, step 1). -/
def State.shutPhase (s : State) (p : Nat) : State :=
  if s.ph p = Ph.off then s
  else if s.ph p = Ph.blocked || s.ph p = Ph.shed then s.toMid p
  else
    let probing := s.on Hid.PROBING p
    let s := s.shedNow p Cause.tileShutdown
    s.when probing fun s => s.complete (.phAdd p) JStatus.failed EnRes.fault

/-- The rails that the shutdown of a tile turns off: every non-mirrored rail with a phase on the tile that is not off. -/
def State.shutRails (s : State) (t : Nat) : List Nat :=
  (s.railsWith t).filter fun r => !s.mirrored r && s.rs r ≠ Rs.off

/-- A tile's thermal shutdown (R205): its phases, its events and counts, its rails, its halves. A trip after three restarts within the hour latches (R206). -/
def State.tileShutdown (s : State) (t : Nat) : State :=
  if s.on Hid.TSD_ON t then s else
    let s := (s.raise Hid.TSD_ON t).put Hid.TSD_BEAT t s.beat
    let rails := s.shutRails t
    let starts := (s.railsWith t).filter fun r => s.enStep r = 4
    let s := s.over (phasesOfTile t) fun s p => s.shutPhase p
    let s := s.over starts fun s r => s.enableStop r EnRes.fault
    let s := (s.raise Reg.TILE_THERM.TSD_EVT t).bump Reg.TILE_THERM_CTRL.SHUTDOWNS t
    let s := (s.put Reg.TILE_THERM.RESTARTS t (s.restartsOf t)).when (s.restartsOf t = 3) fun s => s.raise Reg.TILE_THERM.TSD_LATCH t
    let s := s.put Hid.TSD_RAILS t (rails.foldl (fun a r => a + 2 ^ r) 0)
    let s := s.over rails fun s r => s.railKill r
    let s := s.over ((s.railsWith t).filter fun r => s.mirrored r) fun s r => s.halfAnnounce t r Loss.shutdown
    ((s.levelShow (.tile (Fin.ofNat 4 t))).clr Hid.COOL_N t).seqPoll

/-- TILE_THERMAL_SHUTDOWN (R205). -/
def execTileThermalShutdown (t : Tile) (s : State) : Host.Outcome State Fault Refusal := .next (s.tileShutdown t.val)

/-- The restart enters the history of R206. -/
def State.restartNote (s : State) (t : Nat) : State :=
  let s := (s.putAt Hid.TSD_HIST t 2 (s.getAt Hid.TSD_HIST t 1)).putAt Hid.TSD_HIST t 1 (s.getAt Hid.TSD_HIST t 0)
  let s := s.putAt Hid.TSD_HIST t 0 (2 ^ 40 + s.beat)
  s.put Reg.TILE_THERM.RESTARTS t (s.restartsOf t)

/-- The restart history of a tile is empty. -/
def State.restartForget (s : State) (t : Nat) : State :=
  (s.over (List.range 3) fun s k => s.clrAt Hid.TSD_HIST t k).put Reg.TILE_THERM.RESTARTS t 0

/-! The end of a skew calibration (R148, R205). -/

/-- A tile that is back from a thermal restart: the active manager enables the rails that the shutdown turned off, one at a time; without one,
none (R205; DEDUCED, log entry 92). -/
def State.restartRails (s : State) (t : Nat) : State :=
  let mask := s.get Hid.TSD_RAILS t
  if mask = 0 || s.on Hid.TSD_ON t then s
  else
    let s := s.clr Hid.TSD_RAILS t
    if s.active.isNone then s else (s.put Hid.TSD_QUEUE 0 (s.get Hid.TSD_QUEUE 0 ||| mask)).seqPoll

/-- A channel's calibration ends: its trims are set. After the last one SKEW_BUSY clears, and what waited for the calibration goes on (R148). -/
def State.skewDone (s : State) (t c trim spare : Nat) : State :=
  if s.bit Hid.SKEW_TODO t c then
    let s := ((s.put (skewFld c) t trim).putAt Hid.SPARE_SKEW t c spare).putBit Hid.SKEW_TODO t c false
    if s.on Hid.SKEW_TODO t then s
    else
      let s := ((s.clr Reg.SNS_STATUS.SKEW_BUSY t).raise Hid.SKEW_OK t).endRun Reg.SNS_CTRL.SKEW_CAL t true
      (s.enablesGo).restartRails t
  else s

/-- SKEW_CAL_DONE (R148). -/
def execSkewCalDone (t : Tile) (ch : Fin 12) (trim spareTrim : BitVec 6) (s : State) : Host.Outcome State Fault Refusal :=
  .next (s.skewDone t.val ch.val trim.toNat spareTrim.toNat)

end Sys2Proof.Machine
end

