-- ==== Sys2Proof/Machine/Lane.lean ====
section
/-!
DEFINITION. The Sequence Lane (R181 to R186) as master and as worker, and the shared fault wire FLT_N (R187).
-/
namespace Sys2Proof.Machine

/-! STATUS of a reply, and OPCODEs (R183). -/
namespace LStatus
abbrev accepted : Nat := 0
abbrev duplicate : Nat := 1
abbrev refused : Nat := 2
abbrev busy : Nat := 3
abbrev badOpcode : Nat := 4
end LStatus

/-- The package is the lane's master and has found no conflict. -/
def State.laneMaster (s : State) : Bool := s.get Reg.SQL_CFG.ROLE 0 = 1 && !s.on Reg.SQL_STATUS.MASTER_CONFLICT 0

/-- The package is a worker. -/
def State.laneWorker (s : State) : Bool := s.get Reg.SQL_CFG.ROLE 0 = 2

/-! Frames (R183): the bytes after SYNC, TYPE and the four bits beside it first, then each field from its most significant byte, ARGS and DATA from their
first byte. -/

/-- The bytes of a beat frame under its CRC. -/
def beatBytes (flags beat : Nat) : List Byte := BitVec.ofNat 8 (0x10 + flags) :: (leBytes 5 beat).reverse

/-- The bytes of a command (TYPE 2) or reply (TYPE 3) under its CRC. -/
def msgBytes (typ addr seq code args : Nat) : List Byte :=
  [BitVec.ofNat 8 (16 * typ + addr), BitVec.ofNat 8 seq, BitVec.ofNat 8 code] ++ leBytes 7 args

/-- A frame whose CRC fails is discarded and counted. -/
def State.laneCrcErr (s : State) : State := s.bump Reg.SQL_COUNTS.CRC_ERR 0

/-! The master (R182, R184, R186). -/

/-- The master sends a command frame: one worker's command grants it the next message field; a broadcast has no reply (R182). -/
def State.laneSend (s : State) (kind dest op args : Nat) : State :=
  let s := ((s.put Hid.LN_DEST 0 dest).put Hid.LN_SEQ 0 (s.get Hid.LN_SEQ 0 + 1)).put Hid.LN_OP 0 op
  let s := (s.put Hid.LN_ARGS 0 args).clr Hid.LN_TRIES 0
  let s := s.put Hid.LN_CRC 0 (crc16 (msgBytes 2 dest (s.get Hid.LN_SEQ 0) op args)).toNat
  if dest = 0xF then s else (s.put Hid.LN_GRANT 0 dest).put Hid.LN_SENT 0 kind

/-- The frame that SQL_TX asks for: OPCODE in TX0[31:24], then ARGS bytes 0 to 2 and 3 to 6. -/
def State.laneSendHost (s : State) : State :=
  let tx0 := s.getAt Reg.SQL_TX.TX0 0 0
  let dest := s.get Reg.SQL_TX_CTRL.DEST 0
  let s := (s.clr Hid.LN_HOST 0).laneSend 1 dest (tx0 / 2 ^ 24) (tx0 % 2 ^ 24 + s.getAt Reg.SQL_TX.TX1 0 0 * 2 ^ 24)
  if dest = 0xF then (s.raise Reg.SQL_TX_CTRL.DONE 0).complete .lane JStatus.ok 0 else s

/-- The place of the running stage. -/
def State.stgNow (s : State) : Nat := stgIx s.seqNo (s.get Reg.SEQ_STATUS.STAGE 0)

/-- The worker and the sequence of the running stage. -/
def State.stageWorker (s : State) : Nat × Nat :=
  (s.getAt Reg.SEQ_STG.WORKER 0 s.stgNow, s.getAt Reg.SEQ_STG.WSEQ 0 s.stgNow)

/-- The lane part of the running stage in a free message field: SEQ_RUN first, then SEQ_QUERY. The cycle after each belongs to the worker's reply, so the
queries go out in every second cycle (R184). -/
def State.laneStage (s : State) : State :=
  let (wk, q) := s.stageWorker
  let st := s.get Hid.LN_STAGE 0
  if st = 1 then (s.put Hid.LN_STAGE 0 2).laneSend 2 wk 0x02 q
  else if st = 2 then s.laneSend 3 wk 0x08 q
  else s

/-- The message field of a cycle: it belongs to the worker granted by the previous cycle's command; otherwise a resend, a command of SQL_TX, or the
running stage's command is sent (R182, R184). -/
def State.laneField (s : State) : State :=
  if s.get Hid.LN_GRANT 0 ≠ 0 then s
  else if s.on Hid.LN_AGAIN 0 then (s.clr Hid.LN_AGAIN 0).put Hid.LN_GRANT 0 (s.get Hid.LN_DEST 0)
  else if s.get Hid.LN_SENT 0 ≠ 0 then s
  else if s.on Hid.LN_HOST 0 then s.laneSendHost
  else s.laneStage

/-- The master's cycle, at a beat that is a multiple of 10: the beat frame, and the message field. A cycle that starts while the master is not clock-ready
carries no beat frame. The third consecutive own frame read back bad is a conflict (R182, R186). -/
def State.masterCycle (s : State) (readBackBad : Bool) : State :=
  if !s.on Hid.LN_LISTEN 0 || decide (s.beat % 10 ≠ 0) then s else
    let s := s.streak Hid.LN_RB 0 0 readBackBad
    if s.get Hid.LN_RB 0 = 3 then s.raise Reg.SQL_STATUS.MASTER_CONFLICT 0
    else if s.clockReady [] then
      let flags := (decide (s.dev = Dev.run)).toNat + 2 * s.get Reg.FLT_CFG.ASSERTED 0
      let s := ((s.put Hid.LN_BEAT 0 s.beat).put Hid.LN_FLAGS 0 flags).put Hid.LN_BCRC 0 (crc8 (beatBytes flags s.beat)).toNat
      s.laneField
    else s.bump Reg.SQL_COUNTS.BEAT_SKIP 0

/-- A lane cycle starts: the master's part, and at a worker the beat that its deadlines count from (R182, R184, R185). -/
def State.laneCycle (s : State) (readBackBad : Bool) : State :=
  if s.laneMaster then s.masterCycle readBackBad
  else s.when s.laneWorker fun s => s.put Hid.LW_START 0 s.beat

/-- LANE_CYCLE_START (R182). -/
def execLaneCycleStart (readBackBad : Bool) (s : State) : Host.Outcome State Fault Refusal := .next (s.laneCycle readBackBad)

/-- MASTER_LISTEN_END (R186): 30 µs of listening are over, in which no valid beat frame was a conflict. -/
def execMasterListenEnd (s : State) : Host.Outcome State Fault Refusal :=
  .next (s.when (s.laneMaster && decide (30 ≤ beatDiff s.beat (s.get Hid.LN_FROM 0))) fun s => s.raise Hid.LN_LISTEN 0)

/-- The lane part of the running stage ends: done, or failed with the stage (R184). -/
def State.laneStageEnd (s : State) (ok : Bool) : State :=
  let s := s.clr Hid.LN_STAGE 0
  if s.get Hid.SEQ_STEP 0 ≠ SeqStep.stage then s
  else if ok then (s.raise Hid.SEQ_LANE_OK 0).seqPoll
  else s.seqFail SeqRes.laneFail

/-- SQL_RX from a reply: STATUS in RX0[31:24], then DATA. -/
def State.laneRx (s : State) (status data : Nat) : State :=
  (s.putAt Reg.SQL_RX.RX0 0 0 (status * 2 ^ 24 + data % 2 ^ 24)).putAt Reg.SQL_RX.RX1 0 0 (data / 2 ^ 24)

/-- A valid reply in the granted field completes the command: its CRC holds, and it is the granted worker's to the SEQ sent (R183, R184). -/
def State.laneReply (s : State) (src seq status data : Nat) (crc : BitVec 16) : State :=
  if s.get Hid.LN_GRANT 0 = 0 then s
  else if crc16 (msgBytes 3 src seq status data) ≠ crc then s.laneCrcErr
  else if s.get Hid.LN_GRANT 0 ≠ src || s.get Hid.LN_SEQ 0 ≠ seq then s
  else
    let kind := s.get Hid.LN_SENT 0
    let s := (s.clr Hid.LN_GRANT 0).clr Hid.LN_SENT 0
    if kind = 1 then ((s.laneRx status data).raise Reg.SQL_TX_CTRL.DONE 0).complete .lane JStatus.ok 0
    else if s.get Hid.LN_STAGE 0 = 0 then s
    else if kind = 2 then (if status = LStatus.accepted || status = LStatus.duplicate then s else s.laneStageEnd false)
    else
      let res := data % 256
      if status ≠ LStatus.accepted && status ≠ LStatus.duplicate then s.laneStageEnd false
      else if res ≤ SeqRes.running then s
      else s.laneStageEnd (res = SeqRes.done)

/-- LANE_REPLY (R184). -/
def execLaneReply (src : BitVec 4) (seq status : Byte) (data : BitVec 56) (crc : BitVec 16) (s : State) :
    Host.Outcome State Fault Refusal :=
  .next (s.laneReply src.toNat seq.toNat status.toNat data.toNat crc)

/-- No valid reply: the command is sent again with the same SEQ; after RETRY resends the worker is lost (R184, R187). -/
def State.laneMissing (s : State) : State :=
  let wk := s.get Hid.LN_GRANT 0
  if wk = 0 then s else
    let s := s.clr Hid.LN_GRANT 0
    if s.get Hid.LN_TRIES 0 < s.get Reg.SQL_CFG.RETRY 0 then (s.put Hid.LN_TRIES 0 (s.get Hid.LN_TRIES 0 + 1)).raise Hid.LN_AGAIN 0
    else
      let kind := s.get Hid.LN_SENT 0
      let s := ((s.clr Hid.LN_SENT 0).putBit Reg.SQL_STATUS.WORKER_LOST 0 (wk - 1) true).fltAssert fltWorker
      let s := s.when (kind = 1) fun s => (s.raise Reg.SQL_TX_CTRL.NO_REPLY 0).complete .lane JStatus.failed 0
      if s.get Hid.LN_STAGE 0 ≠ 0 && s.stageWorker.1 = wk then s.laneStageEnd false else s

/-- LANE_REPLY_MISSING (R184). -/
def execLaneReplyMissing (s : State) : Host.Outcome State Fault Refusal := .next s.laneMissing

/-- SQL_TX_GO (R184): the command waits for clock-readiness, then for a free message field. -/
def State.laneGo (s : State) (w : Who) (m : Nat) : State :=
  if s.reach w m ≠ s.act then s.busError w m else
    let ready := s.clockReady []
    let s := (s.served w m).acceptReg w .lane Reg.SQL_TX_CTRL.GO 0 noTarget ready
    s.when ready fun s => s.raise Hid.LN_HOST 0

/-- SQL_TX_GO (R184). -/
def execSqlTxGo (w : Who) (m : Mgr) (s : State) : Host.Outcome State Fault Refusal := .next (s.laneGo w m.val)

/-! The worker: the beat (R185). -/

/-- A forward step of the beat moves every lane deadline with it, and wraps into BEAT_EPOCH (R33, R185). -/
def State.laneStep (s : State) (d : Nat) : State :=
  let b := s.beat + d
  let s := s.when (decide (2 ^ 40 ≤ b)) fun s => s.put Hid.EPOCH s.act (s.get Hid.EPOCH s.act + 1)
  let s := ((s.put Hid.BEAT s.act b).put Hid.LW_START 0 (s.get Hid.LW_START 0 + d)).bump Reg.SQL_STATUS.BEAT_STEP 0
  { s with laneDue := s.laneDue.map fun x => { x with due := (x.due + d) % 2 ^ 40 } }

/-- A valid beat frame reaches a worker: it is compared with the worker's beat at the cycle's start (R185). -/
def State.laneBeat (s : State) (b : Nat) : State :=
  let s := s.clr Reg.SQL_STATUS.LANE_LOST 0
  let d := beatDiff (b + s.get Hid.SQL_OFS 0) (s.get Hid.LW_START 0)
  let s :=
    if d ≤ 1 || d = 2 ^ 40 - 1 then s
    else if d < 2 ^ 39 then s.laneStep d
    else if 2 ^ 40 - d ≤ 16 then s.put Hid.LN_HOLD 0 (2 ^ 40 - d)
    else
      let s := (s.put Hid.SQL_OFS 0 (s.get Hid.SQL_OFS 0 + (2 ^ 40 - d))).raise Reg.SQL_STATUS.BEAT_REGRESS 0
      (s.clr Hid.LW_VALID 0).jAction JStatus.ok noTarget (Reg.SQL_STATUS.BEAT_REGRESS.off % 0x10000) (2 ^ 40 - d)
  s.put Hid.LW_SEEN 0 s.beat

/-- A beat frame ends on the lane: one that fails its CRC is discarded; a worker follows it; a master that hears it while it listens has a conflict (R183,
R185, R186). -/
def State.beatFrameIn (s : State) (beat flags : Nat) (crc : Byte) : State :=
  if s.get Reg.SQL_CFG.ROLE 0 = 0 then s
  else if crc8 (beatBytes flags beat) ≠ crc then s.laneCrcErr
  else if s.laneWorker then (s.put Hid.LW_FLAGS 0 flags).laneBeat beat
  else s.when (s.laneMaster && !s.on Hid.LN_LISTEN 0) fun s => s.raise Reg.SQL_STATUS.MASTER_CONFLICT 0

/-- LANE_BEAT_FRAME (R185). -/
def execLaneBeatFrame (beat : BitVec 40) (flags : BitVec 4) (crc : Byte) (s : State) : Host.Outcome State Fault Refusal :=
  .next (s.beatFrameIn beat.toNat flags.toNat crc)

/-- LANE_LOST (R185): no valid beat frame for three cycles of 10 µs. -/
def execLaneLost (s : State) : Host.Outcome State Fault Refusal :=
  .next (s.when (s.laneWorker && decide (30 ≤ beatDiff s.beat (s.get Hid.LW_SEEN 0))) fun s => s.raise Reg.SQL_STATUS.LANE_LOST 0)

/-- The CRC that ends a frame's bytes fails: CRC-8 over a beat frame, CRC-16 over the others (R183). -/
def laneCrcBad (l : List Byte) : Bool :=
  if l.length = 7 then decide ([crc8 (l.take 6)] ≠ l.drop 6)
  else decide ((leBytes 2 (crc16 (l.take 10)).toNat).reverse ≠ l.drop 10)

/-- LANE_FRAME_CRC_FAIL (R183): the frame is discarded and counted. -/
def execLaneFrameCrcFail (frame : List Byte) (s : State) : Host.Outcome State Fault Refusal :=
  .next (s.when (decide (s.get Reg.SQL_CFG.ROLE 0 ≠ 0) && laneCrcBad frame) fun s => s.laneCrcErr)

/-! The worker: commands (R183, R184). -/

/-- The worker's reply to a command addressed to it alone. -/
def State.laneAnswer (s : State) (bcast : Bool) (seq status data : Nat) : State :=
  if bcast then s
  else
    let s := (((s.raise Hid.LW_REPLY 0).put Hid.LW_RSEQ 0 seq).put Hid.LW_STATUS 0 status).put Hid.LW_DATA 0 data
    s.put Hid.LW_CRC 0 (crc16 (msgBytes 3 (s.get Reg.SQL_CFG.ADDR 0) seq status data)).toNat

/-- A command frame that is for this worker, valid: its CRC holds, and DEST is the worker's address or all workers (R183). -/
def State.laneMine (s : State) (f : LaneHead) : Bool := f.dest = 0xF#4 || decide (f.dest.toNat = s.get Reg.SQL_CFG.ADDR 0)

/-- A worker takes a command: one equal in SEQ and ARGS to the last it accepted is answered DUPLICATE; one that may not be broadcast is not taken from a
broadcast; otherwise the status that the command's own check gives is answered, and an accepted command takes effect and is remembered (R184). -/
def State.laneTake (s : State) (f : LaneHead) (mayBcast : Bool) (op args status data : Nat) (effect : State → State) : State :=
  let seq := f.seq.toNat
  let bcast : Bool := f.dest = 0xF#4
  if !s.laneWorker then s
  else if crc16 (msgBytes 2 f.dest.toNat seq op args) ≠ f.crc then s.laneCrcErr
  else if !s.laneMine f || (bcast && !mayBcast) then s
  else
    let s := s.when (decide (op = 0) && decide (status = LStatus.accepted)) fun s => s.clr Hid.LW_VALID 0
    if s.on Hid.LW_VALID 0 && s.get Hid.LW_SEQ 0 = seq && s.get Hid.LW_ARGS 0 = args then
      s.laneAnswer bcast seq LStatus.duplicate 0
    else if status = LStatus.accepted then
      (effect (((s.raise Hid.LW_VALID 0).put Hid.LW_SEQ 0 seq).put Hid.LW_ARGS 0 args)).laneAnswer bcast seq status data
    else
      let s := s.when (status = LStatus.refused || status = LStatus.busy) fun s =>
        s.journal originLane JKind.refused seq (if status = LStatus.busy then JStatus.seqBusy else JStatus.refused) noTarget op args
      s.laneAnswer bcast seq status 0

/-- The reply DATA of HELLO: the device ID and the configuration image's CRC (R183). -/
def State.helloData (s : State) : Nat := s.get Hid.DEV_ID 0 + (s.get Hid.IMG_CRC 0 % 2 ^ 24) * 2 ^ 32

/-- HELLO (R183): the duplicate memory is cleared first. -/
def execHello (f : LaneHead) (s : State) : Host.Outcome State Fault Refusal :=
  .next (s.laneTake f true 0x00 0 LStatus.accepted s.helloData id)

/-- The low half of SEQ_STATUS. -/
def State.seqStatusLow (s : State) : Nat :=
  s.get Reg.SEQ_STATUS.RESULT 0 + s.seqNo * 2 ^ 4 + s.get Reg.SEQ_STATUS.ACTIVE 0 * 2 ^ 7 + s.get Reg.SEQ_STATUS.STAGE 0 * 2 ^ 8

/-- The reply DATA of STATUS: device state, running sequence and stage, SEQ_STATUS[15:0], FLT cause mask (R183; DEDUCED, log entry 21). -/
def State.statusData (s : State) : Nat :=
  s.dev + (s.seqNo * 16 + s.get Reg.SEQ_STATUS.STAGE 0) * 2 ^ 8 + s.seqStatusLow * 2 ^ 16 + s.get Hid.FLT_CAUSE 0 * 2 ^ 32

/-- LANE_STATUS (R183). -/
def execLaneStatus (f : LaneHead) (s : State) : Host.Outcome State Fault Refusal :=
  .next (s.laneTake f false 0x01 0 LStatus.accepted s.statusData id)

/-- A lane command with a delay waits for its deadline: the worker's beat at the cycle's start plus D (R184). -/
def State.laneDefer (s : State) (seq d : Nat) (x : LaneWork) : State :=
  { s with laneDue := s.laneDue ++ [{ due := (s.get Hid.LW_START 0 + d) % 2 ^ 40, seq := seq, work := x }] }

/-- How a worker answers a SEQ_RUN for a sequence. -/
def State.laneSeqStatus (s : State) (q : Nat) : Nat :=
  if 8 ≤ q then LStatus.badOpcode
  else if s.seqAnswer q = JStatus.seqBusy then LStatus.busy
  else if s.seqAnswer q = JStatus.ok then LStatus.accepted
  else LStatus.refused

/-- SEQ_RUN_LANE (R184). -/
def execSeqRunLane (f : LaneHead) (q : Byte) (d : BitVec 24) (s : State) : Host.Outcome State Fault Refusal :=
  .next (s.laneTake f true 0x02 (q.toNat + d.toNat * 256) (s.laneSeqStatus q.toNat) 0 fun s =>
    s.laneDefer f.seq.toNat d.toNat (.run q.toNat))

/-- How a worker answers a RAIL_ON. -/
def State.laneOnStatus (s : State) (r : Nat) : Nat :=
  if 48 ≤ r then LStatus.badOpcode
  else if s.inSeq r || !s.enableAllowed r then LStatus.refused
  else LStatus.accepted

/-- LANE_RAIL_ON (R184). -/
def execLaneRailOn (f : LaneHead) (r : Byte) (d : BitVec 24) (s : State) : Host.Outcome State Fault Refusal :=
  .next (s.laneTake f false 0x03 (r.toNat + d.toNat * 256) (s.laneOnStatus r.toNat) 0 fun s =>
    s.laneDefer f.seq.toNat d.toNat (.railOn r.toNat))

/-- LANE_RAIL_OFF (R184). -/
def execLaneRailOff (f : LaneHead) (r : Byte) (d : BitVec 24) (s : State) : Host.Outcome State Fault Refusal :=
  .next (s.laneTake f true 0x04 (r.toNat + d.toNat * 256) (if 48 ≤ r.toNat then LStatus.badOpcode else LStatus.accepted) 0
    fun s => s.laneDefer f.seq.toNat d.toNat (.railOff r.toNat))

/-- LANE_SNAP (R184). -/
def execLaneSnap (f : LaneHead) (d : BitVec 24) (s : State) : Host.Outcome State Fault Refusal :=
  .next (s.laneTake f true 0x05 d.toNat LStatus.accepted 0 fun s => s.laneDefer f.seq.toNat d.toNat .snap)

/-- LANE_KERB (R183): at once. -/
def execLaneKerb (f : LaneHead) (s : State) : Host.Outcome State Fault Refusal :=
  .next (s.laneTake f true 0x06 0 LStatus.accepted 0 fun s =>
    (s.journal originLane JKind.done f.seq.toNat JStatus.ok noTarget 0x06 0).kerbEnter KCause.lane)

/-- This package's assertion of FLT_N is released (R187). -/
def State.fltRelease (s : State) : State := (s.clr Reg.FLT_CFG.ASSERTED 0).clr Hid.FLT_CAUSE 0

/-- LANE_FLT_RELEASE (R183). -/
def execLaneFltRelease (f : LaneHead) (s : State) : Host.Outcome State Fault Refusal :=
  .next (s.laneTake f true 0x07 0 LStatus.accepted 0 fun s =>
    (s.journal originLane JKind.done f.seq.toNat JStatus.ok noTarget 0x07 0).fltRelease)

/-- RESULT of a sequence as SEQ_QUERY finds it. -/
def State.queryResult (s : State) (q : Nat) : Nat :=
  if s.seqNo = q && s.seqActive then SeqRes.running else s.getAt Hid.SEQ_LAST 0 q

/-- The stage that SEQ_QUERY finds. -/
def State.queryStage (s : State) (q : Nat) : Nat :=
  if s.seqNo = q && s.seqActive then s.get Reg.SEQ_STATUS.STAGE 0 else s.getAt Hid.SEQ_LASTG 0 q

/-- SEQ_QUERY (R183). -/
def execSeqQuery (f : LaneHead) (q : Byte) (s : State) : Host.Outcome State Fault Refusal :=
  .next (s.laneTake f false 0x08 q.toNat (if 8 ≤ q.toNat then LStatus.badOpcode else LStatus.accepted)
    (s.queryResult q.toNat + s.queryStage q.toNat * 256) id)

/-- An OPCODE is reserved, or a reserved argument of it is not zero (R183). -/
def laneBad (op args : Nat) : Bool :=
  match op with
  | 0 | 1 | 6 | 7 => decide (args ≠ 0)
  | 2 => decide (args % 256 ≥ 8 || args / 2 ^ 32 ≠ 0)
  | 3 | 4 => decide (args % 256 ≥ 48 || args / 2 ^ 32 ≠ 0)
  | 5 => decide (args / 2 ^ 24 ≠ 0)
  | 8 => decide (args % 256 ≥ 8 || args / 256 ≠ 0)
  | _ => true

/-- LANE_BAD_OPCODE (R183): a command with a reserved opcode or argument is answered BAD_OPCODE. -/
def execLaneBadOpcode (f : LaneHead) (op : Byte) (args : BitVec 56) (s : State) : Host.Outcome State Fault Refusal :=
  .next (if laneBad op.toNat args.toNat then s.laneTake f true op.toNat args.toNat LStatus.badOpcode 0 id else s)

/-- A deferred lane command executes. -/
def State.laneRun (s : State) (x : LaneDue) : State :=
  match x.work with
  | .run q => s.seqRun originLane x.seq q
  | .railOn r => s.railOn originLane x.seq r false
  | .railOff r => s.railOff originLane x.seq r false
  | .snap => s.snapTrigger SnapCause.lane noRail

/-- The worker's beat reaches the deadline of an accepted command, which executes once (R184). -/
def State.laneDeadline (s : State) : State :=
  match s.laneDue.find? fun x => decide (beatDiff s.beat x.due < 2 ^ 39) with
  | some x => { s with laneDue := s.laneDue.erase x }.laneRun x
  | none => s

/-- LANE_DEADLINE (R184). -/
def execLaneDeadline (s : State) : Host.Outcome State Fault Refusal := .next s.laneDeadline

/-! FLT_N (R187). -/

/-- FLT_N has been low for 1 µs: FLT_SEEN, a snapshot, and ACTION once; with SELF_IGN not while this package asserts. -/
def State.fltSeen (s : State) : State :=
  if s.on Reg.FLT_CFG.SELF_IGN 0 && s.on Reg.FLT_CFG.ASSERTED 0 then s else
    let s := s.when (!s.on Reg.FLT_CFG.ASSERTED 0) fun s => s.raise Hid.FLT_LOW 0
    let s := (s.raise Reg.FLT_CFG.FLT_SEEN 0).snapTrigger SnapCause.fltN noRail
    let act := s.get Reg.FLT_CFG.ACTION 0
    if act = 1 then s.seqRun originDevice 0 (s.get Reg.FLT_CFG.FLT_SEQ 0)
    else if act = 2 then s.kerbEnter KCause.fltN
    else s

/-- FLT_N_FAULT (R187). -/
def execFltNFault (s : State) : Host.Outcome State Fault Refusal := .next s.fltSeen

/-- FLT_RELEASE (R187). -/
def execFltRelease (_w : Who) (s : State) : Host.Outcome State Fault Refusal := .next s.fltRelease

end Sys2Proof.Machine
end

