-- ==== Sys2Proof/Machine/Slices.lean ====
section
/-!
DEFINITION. The sense slices' rotation, retirement and degradation (R150 to R152), and the end of a diagnosis (R155, R156).
-/
namespace Sys2Proof.Machine

/-- SCAN_TICKS follows the number of working phase-scan slices: F = ceil(24 / W). Above 7 ticks, and with no slice left, the field has no stated
value (R149; DESIGN CHOICE, log entry 4). -/
def State.scanShow (s : State) (t : Nat) : State :=
  let w := (s.scanSlices t).length
  let f := scanFrame w
  if w = 0 || 7 < f then s.draw.2.put Reg.SNS_STATUS.SCAN_TICKS t s.draw.1 else s.put Reg.SNS_STATUS.SCAN_TICKS t f

/-- A slice fails with no spare free (R152): a rail slice leaves its channel on the other one, or on a phase-scan slice moved to it, or the channel is
LOST; a phase-scan slice lengthens the scan. -/
def State.degrade (s : State) (t p : Nat) : State :=
  let s := s.raiseAt Hid.SLICE_LOST t p
  if 24 ≤ p then s.scanShow t
  else
    let c := p / 2
    let s := s.raiseAt Reg.CHAN_STATE.SINGLE t c
    if s.sliceWorks t (2 * c) || s.sliceWorks t (2 * c + 1) then s
    else
      match (s.scanSlices t).reverse with
      | q :: _ =>
        let s := ((s.raiseAt Hid.SLICE_LOST t q).clrAt Hid.SLICE_LOST t (2 * c)).putBit Hid.CH_MOVED t c true
        ((s.putAt Hid.SL_OFS t (2 * c) (s.getAt Hid.SL_OFS t q)).putAt Hid.SL_GAIN t (2 * c) (s.getAt Hid.SL_GAIN t q)).scanShow t
      | [] => ((s.raiseAt Reg.CHAN_STATE.LOST t c).raise Reg.SNS_STATUS.SNS_LOST_EVT t).senseLost t c

/-- No spare is free: it holds a retired position, or it is out (R152). -/
def State.noSpare (s : State) (t : Nat) : Bool := s.on Reg.SNS_STATUS.SPARE_FIXED t || s.on Reg.SNS_STATUS.SPARE_OUT t

/-- A slice fails: with the spare free its position is retired and the spare keeps it; otherwise the tile degrades (R151, R152). -/
def State.sliceFail (s : State) (t p : Nat) : State :=
  let s := s.awlError Awl.slice t p
  if s.noSpare t then s.degrade t p
  else
    let s := ((s.putBit Reg.SLICE_RETIRED.RETIRED t p true).raise Reg.SNS_STATUS.SPARE_FIXED t).raise Reg.SNS_STATUS.RETIRE_EVT t
    (s.put Reg.SNS_STATUS.SPARE_POS t p).clr Hid.ROT_PHASE t

/-- A full rotation without CMP_FAIL counts for the complete self-test (R300). -/
def State.rotPassed (s : State) (t : Nat) : State :=
  if s.on Reg.SNS_STATUS.CMP_FAIL t then s else s.putBit Hid.ST_ROT s.act t true

/-- The rotation runs: enabled, and neither stopped by a retirement nor by the loss of the spare. -/
def State.rotates (s : State) (t : Nat) : Bool := s.on Reg.SNS_CTRL.ROT_EN t && !s.noSpare t

/-- A position of the rotation starts; one without a working slice of its own is passed over; after position 31 the spare calibrates itself (R150). With
ROT_EN clear the position in progress finishes, and the rotation goes on with the next position once ROT_EN is set again (DESIGN CHOICE, log entry 104). -/
def State.rotStart (s : State) (t : Nat) : State :=
  if !s.rotates t || decide (s.get Hid.ROT_PHASE t ≠ 0) then s else
    let p := s.get Hid.ROT_NEXT t
    let s := ((s.put Hid.ROT_NEXT t (if 32 ≤ p then 0 else p + 1)).clr Hid.DIFF_SUM t).clr Hid.DIFF_N t
    if 32 ≤ p then (s.put Reg.SNS_STATUS.SPARE_POS t 0x20).put Hid.ROT_PHASE t 4
    else if !s.sliceWorks t p then s.put Reg.SNS_STATUS.SPARE_POS t 0x3F
    else (s.put Reg.SNS_STATUS.SPARE_POS t p).put Hid.ROT_PHASE t 1

/-- ROTATION_POSITION_START (R150). -/
def execRotationPositionStart (t : Tile) (s : State) : Host.Outcome State Fault Refusal := .next (s.rotStart t.val)

/-- The spare leaves its position. -/
def State.rotFree (s : State) (t : Nat) : State := (s.put Reg.SNS_STATUS.SPARE_POS t 0x3F).clr Hid.ROT_PHASE t

/-- A comparison of 16 pairs: a mean difference of at most 2 codes passes (R150, R151). -/
def State.rotCompare (s : State) (t : Nat) : State :=
  if s.get Hid.DIFF_N t < 16 then s else
    let pass := decide (s.get Hid.DIFF_SUM t ≤ 32)
    let s := (s.clr Hid.DIFF_SUM t).clr Hid.DIFF_N t
    if s.get Hid.ROT_PHASE t = 1 then
      (if pass then s.put Hid.ROT_PHASE t 2 else (s.raise Reg.SNS_STATUS.CMP_FAIL t).rotFree t)
    else if s.get Hid.ROT_PHASE t = 3 then
      (if pass then s.rotFree t else s.sliceFail t (s.get Reg.SNS_STATUS.SPARE_POS t))
    else s

/-- ROTATION_COMPARE (R150). -/
def execRotationCompare (t : Tile) (s : State) : Host.Outcome State Fault Refusal := .next (s.rotCompare t.val)

/-- The limits of new trims: ±40 codes of offset, ±3 % of gain (R151). -/
def trimsOk (ofs gain : Int) : Bool := decide (ofs.natAbs ≤ 40) && decide (gain.natAbs * 100 ≤ 3 * 32768)

/-- A slice has calibrated itself: its new trims are written and it converts alongside the spare again, or it fails. With no spare free a working slice whose
calibration fails degrades the tile, and one whose calibration passes keeps its last trims (R150 to R152; DEDUCED, log entry 109). -/
def State.sliceCalibrated (s : State) (t p : Nat) (ofs gain : Int) : State :=
  if s.noSpare t then s.when (!trimsOk ofs gain && s.sliceWorks t p && !s.bit Reg.SLICE_RETIRED.RETIRED t p) fun s => s.degrade t p
  else if s.get Hid.ROT_PHASE t ≠ 2 || s.get Reg.SNS_STATUS.SPARE_POS t ≠ p then s
  else if trimsOk ofs gain then
    let s := ((s.putIAt Hid.SL_OFS t p ofs).putIAt Hid.SL_GAIN t p gain).put Hid.ROT_PHASE t 3
    (s.clr Hid.DIFF_SUM t).clr Hid.DIFF_N t
  else s.sliceFail t p

/-- SLICE_CALIBRATION_DONE (R151). -/
def execSliceCalibrationDone (t : Tile) (p : Fin 32) (ofs gain : Int) (s : State) : Host.Outcome State Fault Refusal :=
  .next (s.sliceCalibrated t.val p.val ofs gain)

/-- The spare has calibrated itself: its trims for every position are written and the rotation counts, or it leaves service. A retired position that it held
then has no slice (R150 to R152; DEDUCED, log entry 109). -/
def State.spareCalibrated (s : State) (t : Nat) (trims : List (Int × Int)) : State :=
  let ok := trims.all fun x => trimsOk x.1 x.2
  if s.on Reg.SNS_STATUS.SPARE_FIXED t then
    if ok then s
    else
      let p := s.get Reg.SNS_STATUS.SPARE_POS t
      ((((s.clr Reg.SNS_STATUS.SPARE_FIXED t).raise Reg.SNS_STATUS.SPARE_OUT t).rotFree t)).degrade t p
  else if s.get Hid.ROT_PHASE t ≠ 4 then s
  else if ok then
    let s := s.over trims.zipIdx fun s x => (s.putIAt Hid.SP_OFS t x.2 x.1.1).putIAt Hid.SP_GAIN t x.2 x.1.2
    ((s.rotFree t).bump Reg.SNS_STATUS.ROT_COUNT t).rotPassed t
  else (s.rotFree t).raise Reg.SNS_STATUS.SPARE_OUT t

/-- SPARE_SELF_CAL_DONE (R150, R151). -/
def execSpareSelfCalDone (t : Tile) (trims : List (Int × Int)) (s : State) : Host.Outcome State Fault Refusal :=
  .next (s.spareCalibrated t.val trims)

/-! The end of a diagnosis. -/

/-- The initiator at a place. -/
def whoAt (n : Nat) : Who :=
  match n with
  | 0 => .sc | 1 => .mc0 | 2 => .mc1 | 3 => .mc2 | 4 => .host | _ => .svc

/-- A failing verdict of a phase report: PARKED and SHED become SHED with cause DIAG, a SHED phase keeping its earlier cause; OFF becomes BLOCKED (R155). -/
def State.diagPhase (s : State) (p : Nat) : State :=
  if s.ph p = Ph.parked then s.shedNow p Cause.diag
  else if s.ph p = Ph.off then s.toBlocked p
  else s

/-- The levels that a diagnosis forces, in its own steps of 300 mV from 0 V for a channel and of 400 mV from IREF for a report, and the codes of one such
step as a fraction (R154, R155). -/
def diagLevels (chan : Bool) : List Int × Int × Int := if chan then ([1, 4, 8, 12], 2400, 1) else ([-1, 0, 1], 8192, 5)

/-- A straight line fitted to measured levels by least squares, each given as its position and its value times `k`: the common divisor, the slope and the
value at position 0 over it, and how far each level lies from the line (R155; DESIGN CHOICE, log entry 106). -/
def lineFit (pts : List (Int × Int)) : Int × Int × Int × List Int :=
  let n : Int := pts.length
  let sx := (pts.map fun q => q.1).sum
  let sy := (pts.map fun q => q.2).sum
  let sxx := (pts.map fun q => q.1 * q.1).sum
  let sxy := (pts.map fun q => q.1 * q.2).sum
  let d := n * sxx - sx * sx
  let m := n * sxy - sx * sy
  let b := sxx * sy - sx * sxy
  (d, m, b, pts.map fun q => d * q.2 - m * q.1 - b)

/-- The place and the value of the largest deviation, the first of equals. -/
def largest (l : List Int) : Nat × Int := l.zipIdx.foldl (fun a x => if a.2.natAbs < x.1.natAbs then (x.2, x.1) else a) (0, 0)

/-- VERDICT, ERR and FAIL_STEP of a diagnosis: the first failing verdict in the table's order (R155). `sums` and `ns` are the samples' sums and numbers at
each level. -/
def diagVerdict (chan beyond within : Bool) (sums : List Int) (ns : List Nat) : Nat × Int × Nat :=
  let (xs, num, den) := diagLevels chan
  let k : Int := ns.foldl (fun (a : Int) (n : Nat) => a * (n : Int)) 1
  let ys := (sums.zip ns).map fun q => q.1 * (k / (q.2 : Int))
  let (d, m, b, dev) := lineFit (xs.zip ys)
  let hi := ys.foldl max (ys.getD 0 0)
  let lo := ys.foldl min (ys.getD 0 0)
  let far := largest dev
  let u := d * k
  let err := (2 * far.2 + u) / (2 * u)
  if hi - lo ≤ 4 * k then (2, err, far.1)
  else if (if chan then 16 * u < b.natAbs else 8 * k < (ys.getD 1 0 - 2048 * k).natAbs) then (3, err, far.1)
  else if num * u < 200 * ((m * den - num * u).natAbs : Int) then (4, err, far.1)
  else if 2 * u < far.2.natAbs then (5, err, far.1)
  else if !beyond || within then (6, err, 14)
  else (1, err, far.1)

/-- A verdict is written and its effects follow; an ADD that waited goes on (R155, R156). -/
def State.diagShow (s : State) (t verdict : Nat) (err : Int) (step : Nat) : State :=
  let tgt := s.get Hid.DIAG_TGT t
  let chan := decide (s.get Hid.DIAG_KIND t = 0)
  let s := ((s.put Reg.DIAG_RESULT.VERDICT t verdict).put Reg.DIAG_RESULT.ERR t (twos 16 (satS 16 err))).put Reg.DIAG_RESULT.FAIL_STEP t step
  let s := s.clr Reg.DIAG_RESULT.BUSY t
  let s :=
    if chan then s.putAt Reg.CHAN_STATE.DIAG_FAIL t tgt (if verdict = 1 then 0 else 1)
    else if verdict = 1 then s else s.diagPhase (t * 24 + tgt)
  let p := t * 24 + tgt
  s.when (!chan && s.on Hid.DIAG_ADD p) fun s => (s.clr Hid.DIAG_ADD p).hostAdd (whoAt (s.get Hid.DIAG_ADD p - 1)) p

/-- How many levels the running diagnosis forces. -/
def State.diagCount (s : State) (t : Nat) : Nat := (diagLevels (decide (s.get Hid.DIAG_KIND t = 0))).1.length

/-- The levels of the running diagnosis, 4 µs each, and the 4 µs of its comparator test are over, and every level has been sampled (R154, R155). -/
def State.diagRipe (s : State) (t : Nat) : Bool :=
  s.on Reg.DIAG_RESULT.BUSY t && decide (400 * s.diagCount t + 400 ≤ (s.get Hid.TICK t + 2 ^ 32 - s.get Hid.DG_TICK t) % 2 ^ 32) &&
    (List.range (s.diagCount t)).all fun i => s.getAt Hid.DG_N t i ≠ 0

/-- VERDICT, ERR and FAIL_STEP of the running diagnosis, from its samples and its comparator test. -/
def State.diagOutcome (s : State) (t : Nat) (beyond within : Bool) : Nat × Int × Nat :=
  let l := List.range (s.diagCount t)
  diagVerdict (decide (s.get Hid.DIAG_KIND t = 0)) beyond within (l.map fun i => s.getIAt Hid.DG_SUM t i) (l.map fun i => s.getAt Hid.DG_N t i)

/-- A diagnosis ends, with its verdict and what waited for it (R154, R155). -/
def State.diagDone (s : State) (t : Nat) (beyond within : Bool) : State :=
  if s.diagRipe t then
    let v := s.diagOutcome t beyond within
    ((s.diagShow t v.1 v.2.1 v.2.2).enablesGo).seqPoll
  else s

/-- DIAG_COMPLETE (R155). -/
def execDiagComplete (t : Tile) (beyond within : Bool) (s : State) : Host.Outcome State Fault Refusal :=
  .next (s.diagDone t.val beyond within)

/-! ISO_N (R66). -/

/-- The rails homed on a tile whose phases all lie in one group. -/
def State.railsWithin (s : State) (t g : Nat) : List Nat :=
  (s.railsOfGroup g).filter fun r => s.home r = t && (s.phasesOf r).all fun p => s.get Reg.PH_CFG.VING p = g

/-- A tile that senses ISO_N low sheds its phases of the group; a rail that has no phase in another group is shut down (R66). -/
def State.isoSensed (s : State) (t g : Nat) : State :=
  if s.isoLow g then
    ((s.isoShed t g).over (s.railsWithin t g) fun s r => s.railStop r (s.offTmo r) false).seqPoll
  else s

/-- ISO_N_SENSED_LOW (R66). -/
def execIsoNSensedLow (t : Tile) (g : Group) (s : State) : Host.Outcome State Fault Refusal := .next (s.isoSensed t.val g.val)

end Sys2Proof.Machine
end

