-- ==== Sys2Proof/Machine/Holdup.lean ====
section
/-!
DEFINITION. The holdup power path and the charger (R209 to R229), the gauge and pack authentication beside them (R231 to R249).
-/
namespace Sys2Proof.Machine

/-! Gauge quantities (R234, R236). -/

/-- RM_RAW, µAh. -/
def State.rmRaw (s : State) : Int := s.getI Hid.GG_Q 0 / 3600

/-- FCC, mAh. -/
def State.fcc (s : State) : Nat := s.get Reg.GG_FCC.FCC 0

/-- RM, mAh. -/
def State.rmNow (s : State) : Nat := (clampI 0 s.fcc (s.rmRaw / 1000)).toNat

/-- SOC in 0.01 %. An FCC of 0 leaves the quotient unstated: a free value (DESIGN CHOICE, log entry 4). -/
def State.socShow (s : State) : State :=
  let s := (s.put Reg.GG_RM.RM 0 s.rmNow).putB Reg.GG_STATUS.CLAMPED 0
    (decide (s.rmRaw < 0) || decide ((s.fcc : Int) * 1000 < s.rmRaw))
  if !s.on Reg.GG_STATUS.SOC_VALID 0 then s.put Reg.GG_STATUS.SOC 0 0x3FFF
  else if s.fcc = 0 then s.draw.2.put Reg.GG_STATUS.SOC 0 s.draw.1
  else s.put Reg.GG_STATUS.SOC 0 (s.rmNow * 10000 / s.fcc)

/-- FCC and SOH (R238). DESIGN_CAP is never 0. -/
def State.setFcc (s : State) (v : Nat) : State :=
  (s.put Reg.GG_FCC.FCC 0 v).put Reg.GG_FCC.SOH 0 (min 255 (v * 100 / (s.get Reg.GG_CFG.DESIGN_CAP 0 * 100)))

/-- A learning run ends without a result. -/
def State.learnDrop (s : State) : State := s.clr Reg.GG_STATUS.LEARNING 0

/-! The gauge cells (R241, R242). -/

/-- The first 28 bytes of a gauge cell. -/
def State.gaugeBytes (s : State) (seq : Nat) : List Byte :=
  let le := fun (n v : Nat) => (beBytes n v).reverse
  le 4 seq ++ le 8 (s.get Hid.PACK_ID 0) ++ le 4 (twos 32 s.rmRaw) ++ le 4 s.fcc ++ le 4 (s.get Reg.RTC_SEC.CAL_SEC 0) ++
    le 2 (s.get Reg.GG_CYCLE.CYCLE_COUNT 0) ++
    le 1 (s.get Reg.GG_STATUS.SOC_VALID 0 + 2 * s.get Reg.GG_STATUS.FCC_LEARNED 0) ++ le 1 0

/-- Address of a gauge cell in a manager's ferroelectric array. -/
def gaugeCell (m k : Nat) : Nat := mgrMem m (0x2003FE00 + k * 0x20)

/-- The active manager stores the gauge state: each present manager writes its own next cell in rotation. With no active manager there is no store. -/
def State.gaugeStore (s : State) : State :=
  match s.active with
  | none => s
  | some a =>
    let seq := s.get Hid.GG_SEQ a + 1
    let bytes := s.gaugeBytes seq
    let cell := bytes ++ wordBytes (crc32 bytes)
    s.over ((List.range 2).filter fun m => s.on Hid.PRESENT m) fun s m =>
      let k := s.get Hid.GG_SLOT m
      (((s.wrFe (gaugeCell m k) cell).clr Reg.RTC_STATUS.GAUGE_BSTEP 0).put Hid.GG_SEQ m seq).put Hid.GG_SLOT m (if 2 ≤ k then 0 else k + 1)

/-! Pack authentication (R247 to R249). -/

/-! AUTH_STATE. -/
namespace Auth
abbrev none : Nat := 0
abbrev pending : Nat := 1
abbrev verified : Nat := 2
abbrev failed : Nat := 3
abbrev noReply : Nat := 4
abbrev notRequired : Nat := 5
abbrev noManager : Nat := 6
end Auth

/-- The pack may be charged. -/
def State.packOk (s : State) : Bool :=
  s.get Reg.PACK_STATUS.AUTH_STATE 0 = Auth.verified || s.get Reg.PACK_STATUS.AUTH_STATE 0 = Auth.notRequired

/-- A request goes out on the pack line: CMD, LEN, the payload, and the CRC-8 over them (R247). -/
def State.packSend (s : State) (cmd : Nat) (l : List Byte) : State :=
  let f := BitVec.ofNat 8 cmd :: BitVec.ofNat 8 l.length :: l
  (s.put Hid.PL_TX 0 (leNat (f ++ [crc8 f]))).clr Hid.AUTH_N 0

/-- An authentication starts with GET_ID: behind a running exchange it is queued; it needs a pack, a requirement and a manager to compute (R248, R249). -/
def State.authBegin (s : State) : State :=
  if s.on Hid.AUTH_RUN 0 then s.raise Hid.AUTH_Q 0
  else if !s.on Reg.CHG_STATUS.BAT_PRESENT 0 then s.put Reg.PACK_STATUS.AUTH_STATE 0 Auth.none
  else if !s.on Reg.PACK_CFG.AUTH_REQ 0 then s.put Reg.PACK_STATUS.AUTH_STATE 0 Auth.notRequired
  else if s.active.isNone then s.put Reg.PACK_STATUS.AUTH_STATE 0 Auth.noManager
  else ((s.put Reg.PACK_STATUS.AUTH_STATE 0 Auth.pending).put Hid.AUTH_RUN 0 1).packSend 1 []

/-- A new series of up to three attempts. -/
def State.authSeries (s : State) : State := (s.put Reg.PACK_STATUS.TRIES 0 0).authBegin

/-- A pack swap (R245): the charge state is discarded, a store follows; a new PACK_ID, or one that is 0, resets what was learned. -/
def State.packSwap (s : State) (id : Nat) (auth : Bool) : State :=
  let old := s.get Hid.PACK_ID 0
  let s := ((s.clr Reg.GG_STATUS.SOC_VALID 0).learnDrop.put Hid.GG_Q 0 0).clr Hid.FULL_PEND 0
  let s := (s.raise Reg.GG_STATUS.SWAP_EVT 0).clr Hid.SWAP_PEND 0
  let s := s.when (id ≠ old || id = 0 || old = 0) fun s =>
    (((s.setFcc (s.get Reg.GG_CFG.DESIGN_CAP 0 * 100)).clr Reg.GG_STATUS.FCC_LEARNED 0).clr Hid.FULL_SEEN 0).put Reg.GG_RBAT_LRN.RBAT_LRN 0 0
  let s := (s.put Hid.PACK_ID 0 id).socShow
  let s := s.when auth fun s => (s.put Reg.PACK_STATUS.AUTH_STATE 0 Auth.pending).authSeries
  s.gaugeStore

/-! The charger (R221 to R228). -/

/-! PHASE of the charger. -/
namespace Chg
abbrev off : Nat := 0
abbrev detect : Nat := 1
abbrev trickle : Nat := 2
abbrev pre : Nat := 3
abbrev cc : Nat := 4
abbrev cv : Nat := 5
abbrev done : Nat := 6
abbrev suspend : Nat := 7
abbrev fault : Nat := 8
end Chg

/-- PHASE. -/
def State.chg (s : State) : Nat := s.get Reg.CHG_STATUS.PHASE 0

/-- VBAT at a chemistry's level: VPRE and VCC in mV. -/
def State.vpre (s : State) : Nat := if s.on Reg.CHG_CFG.CHEM 0 then 10000 else 8000
/-- As `vpre`, for VCC. -/
def State.vcc (s : State) : Nat := if s.on Reg.CHG_CFG.CHEM 0 then 12000 else 11200

/-- VBAT below which a full battery is charged again, mV (R221). -/
def State.vrch (s : State) : Nat := s.get Reg.CHG_LEVELS.VCV 0 * 10 - (if s.on Reg.CHG_CFG.CHEM 0 then 400 else 800)
/-- VBAT of the newest reading, mV. -/
def State.vbat (s : State) : Nat := s.get Hid.VBAT_NOW 0
/-- The battery current of the newest reading, mA. -/
def State.ibat (s : State) : Int := s.getI Hid.IBAT_NOW 0

/-- The charge voltage in force, mV: VCV, lowered in the warm window (R223). -/
def State.vcvNow (s : State) : Nat :=
  s.get Reg.CHG_LEVELS.VCV 0 * 10 -
    (if s.get Reg.CHG_STATUS.WINDOW 0 = 2 then (if s.on Reg.CHG_CFG.CHEM 0 then 400 else 200) else 0)

/-- The pair's state. -/
def State.bfet (s : State) : Nat := s.get Reg.BFET_STATUS.STATE 0

/-- The lowest reason to suspend (R225). -/
def State.chgReason (s : State) : Nat :=
  if !s.on Reg.IIN_STATUS.VAUX_OK 0 then 1
  else if 2 ≤ s.bfet then 2
  else if s.get Reg.CHG_STATUS.WINDOW 0 = 3 then 3
  else if !s.packOk then 4
  else 0

/-- The charger must stop: a reason of R225, HPD's shutdown (R220), or an HPD that does not run (R329, R354; DEDUCED, log entry 54). -/
def State.chgStops (s : State) : Bool := s.chgReason ≠ 0 || s.on Hid.H_TSD 0 || !s.on Hid.HPD_GO 0

/-- The three timers restart at 0 (R224). -/
def State.chgTimer0 (s : State) : State := (s.over (List.range 3) fun s k => s.clrAt Hid.CHG_TQ 0 k).put Reg.CHG_COUNTS.ELAPSED 0 0

/-- A phase has a safety timer. -/
def timed (ph : Nat) : Bool := Chg.trickle ≤ ph && ph ≤ Chg.cv

/-- The safety timer of a phase: TTRK in TRICKLE, TPRE in PRECHARGE, the total timer in CC and CV (R224). -/
def timerOf (ph : Nat) : Nat := min (ph - Chg.trickle) 2

/-- ELAPSED: the minutes on the running safety timer. -/
def State.elapsedShow (s : State) : State :=
  s.when (timed s.chg) fun s => s.put Reg.CHG_COUNTS.ELAPSED 0 (s.getAt Hid.CHG_TQ 0 (timerOf s.chg) / 120000)

/-! The charge current (R212, R222 to R224). -/

/-- The target of the present phase, mA: ITRK, IPRE or ICHG; 0 where the charger does not charge. -/
def State.chgTarget (s : State) : Nat :=
  match s.chg with
  | 2 => s.get Reg.CHG_LEVELS.ITRK 0 * 100
  | 3 => s.get Reg.CHG_LEVELS.IPRE 0 * 500
  | 4 | 5 => s.get Reg.CHG_CFG.ICHG 0 * 500
  | _ => 0

/-- The temperature factor, in quarters: of CC and CV alone (R223). -/
def State.chgQuarters (s : State) : Nat :=
  if s.chg = Chg.cc || s.chg = Chg.cv then
    match s.get Reg.CHG_STATUS.WINDOW 0 with
    | 1 => if s.on Reg.CHG_CFG.CHEM 0 then 2 else 1
    | 2 => 2
    | _ => 4
  else 4

/-- The current that the target, the temperature factor, the throttle derating and 60 A allow, mA (R222). -/
def State.chgAllowed (s : State) : Nat := min (s.chgTarget * s.chgQuarters * (if s.on Hid.H_THR 0 then 3 else 4) / 16) 60000

/-- The charger's input current has reached its budget (R212). -/
def State.atBudget (s : State) : Bool := decide ((s.get Hid.CHG_BUDGET 0 : Int) ≤ s.getI Reg.IN_MEAS.IIN 0 - (s.get Hid.I_BUCK 0 : Nat))

/-- The charge current in force: the lowest of the target, the derated target, 60 A, and what flows where the input current has reached the budget. CUTBACK
shows that the budget holds it, HALF_RATE that it is held below half the target (R212, R222, R224; DEDUCED, log entry 112). -/
def State.chgShow (s : State) : State :=
  let allowed := s.chgAllowed
  let cut := s.atBudget && decide (s.ibat < allowed)
  let x := if cut then (max 0 s.ibat).toNat else allowed
  let run := timed s.chg
  ((s.put Hid.CHG_I 0 (if run then x else 0)).putB Reg.CHG_STATUS.CUTBACK 0 (run && cut)).putB Reg.CHG_STATUS.HALF_RATE 0
    (run && decide (2 * x < s.chgTarget))

/-- The charger's phase, and with it the running timer, changes; its current is the new phase's, its leaving condition counts from 0. -/
def State.chgTo (s : State) (ph : Nat) : State :=
  (((s.put Reg.CHG_STATUS.PHASE 0 ph).clr Hid.CHG_N 0).chgShow).elapsedShow

/-- What suspends the present phase: the reasons of R225, of which AUTH lets the presence test of DETECT end (R226; DEDUCED, log entry 95). -/
def State.chgSuspends (s : State) : Bool :=
  if s.chg = Chg.detect then s.chgStops && (s.chgReason ≠ 4 || s.on Hid.H_TSD 0 || !s.on Hid.HPD_GO 0) else s.chgStops

/-- A charging phase suspends while a reason holds, and SUSPEND is left through DETECT when none does (R225); with CHG_EN cleared DETECT ends in OFF (R229). -/
def State.chgEval (s : State) : State :=
  let ph := s.chg
  if Chg.detect ≤ ph && ph ≤ Chg.cv && s.chgSuspends then
    (if s.on Reg.CHG_CFG.CHG_EN 0 then (s.chgTo Chg.suspend).put Reg.CHG_STATUS.SUSP 0 s.chgReason else s.chgTo Chg.off)
  else if ph = Chg.suspend then
    (if s.chgStops then s.put Reg.CHG_STATUS.SUSP 0 s.chgReason else (s.chgTo Chg.detect).put Reg.CHG_STATUS.SUSP 0 0)
  else s

/-- DETECT starts, with the timers at 0. -/
def State.chgDetect (s : State) : State := ((s.chgTo Chg.detect).chgTimer0).chgEval

/-- A charger fault latches: PHASE is FAULT, the event is journalled (R228). -/
def State.chgFault (s : State) (f : Fld) : State :=
  if s.on f 0 then s else
    let s := ((s.raise f 0).chgTo Chg.fault).put Reg.CHG_STATUS.SUSP 0 0
    s.jAction JStatus.ok noTarget (f.off % 0x10000) f.lo

/-- CHG_EN is written (R222, R224, R229). -/
def State.chgEnable (s : State) (en : Bool) : State :=
  let was := s.on Reg.CHG_CFG.CHG_EN 0
  let s := s.putB Reg.CHG_CFG.CHG_EN 0 en
  if en && !was then (if s.chg = Chg.off then s.chgDetect else s.chgTimer0)
  else if !en && s.chg ≠ Chg.detect && s.chg ≠ Chg.fault then (s.chgTo Chg.off).put Reg.CHG_STATUS.SUSP 0 0
  else s

/-- CHG_ENABLE (R222). -/
def execChgEnable (_w : Who) (en : Bool) (s : State) : Host.Outcome State Fault Refusal := .next (s.chgEnable en)

/-- The leaving condition of the present phase on VBAT and the battery current: VPRE in TRICKLE, VCC in PRECHARGE, the charge voltage in CC, ITERM in CV, VRCH
in DONE (R222). -/
def State.chgLeaves (s : State) : Bool :=
  match s.chg with
  | 2 => decide (s.vpre ≤ s.vbat)
  | 3 => decide (s.vcc ≤ s.vbat)
  | 4 => decide (s.vcvNow ≤ s.vbat)
  | 5 => decide (s.ibat < (s.get Reg.CHG_CFG.ITERM 0 * 500 : Nat))
  | 6 => decide (s.vbat < s.vrch)
  | _ => false

/-- The leaving condition of a phase has held for a number of 10 µs readings. -/
def State.chgDue (s : State) (ph n : Nat) : Bool := s.chg = ph && s.chgLeaves && decide (n ≤ s.get Hid.CHG_N 0)

/-- The charger's phase becomes CV or another; a warm window during CV spoils the full anchor (R235). -/
def State.chgBegin (s : State) (ph : Nat) : State := (s.chgTo ph).putB Hid.CV_WARM 0 (decide (2 ≤ s.get Reg.CHG_STATUS.WINDOW 0))

/-- CHG_VPRE_REACHED (R222): VPRE for 1 s. -/
def execChgVpreReached (s : State) : Host.Outcome State Fault Refusal := .next (s.when (s.chgDue Chg.trickle 100000) fun s => s.chgTo Chg.pre)

/-- CHG_VCC_REACHED (R222): VCC for 1 s. -/
def execChgVccReached (s : State) : Host.Outcome State Fault Refusal := .next (s.when (s.chgDue Chg.pre 100000) fun s => s.chgTo Chg.cc)

/-- CHG_VCV_REACHED (R222): CV begins. -/
def execChgVcvReached (s : State) : Host.Outcome State Fault Refusal := .next (s.when (s.chgDue Chg.cc 0) fun s => s.chgBegin Chg.cv)

/-- CHG_TERMINATE (R222): below ITERM for 30 s: DONE, which is a full anchor of the present frame where the window allowed it (R235). -/
def execChgTerminate (s : State) : Host.Outcome State Fault Refusal :=
  .next (s.when (s.chgDue Chg.cv 3000000) fun s => (s.chgTo Chg.done).putB Hid.FULL_PEND 0 (!s.on Hid.CV_WARM 0))

/-- CHG_RECHARGE (R222): below VRCH for 10 s. -/
def execChgRecharge (s : State) : Host.Outcome State Fault Refusal :=
  .next (s.when (s.chgDue Chg.done 1000000) fun s => (s.bump Reg.CHG_COUNTS.RCH_COUNT 0).chgDetect)

/-- One side of the temperature windows: it is entered at its bound and left 3 °C inside it (R223). -/
def windowSide (cur enter stay : Nat) : Nat := max enter (min cur stay)

/-- The level of a side: 2 beyond the outer bound, 1 beyond the inner one. -/
def sideOf (outer inner : Bool) : Nat := if outer then 2 else if inner then 1 else 0

/-- The safety timers count, at half rate where R224 says so, in TRICKLE to CV; ELAPSED shows minutes. -/
def State.chgCount (s : State) : State :=
  if timed s.chg then
    let k := timerOf s.chg
    (s.putAt Hid.CHG_TQ 0 k (s.getAt Hid.CHG_TQ 0 k + (if s.on Reg.CHG_STATUS.HALF_RATE 0 then 1 else 2))).elapsedShow
  else s

/-- A conversion of BTS, every 1 ms: the temperature, the window, the charge current, the timers, and for how long BTS has been out of range (R223, R224). How a
voltage on BTS becomes a temperature on the NTC's curve is the conversion's own (DESIGN CHOICE, log entry 113). -/
def State.btsConvert (s : State) (mv : Nat) (t : Int) : State :=
  let nmc := s.on Reg.CHG_CFG.CHEM 0
  let hot : Int := if nmc then 960 else 880
  let lo := windowSide (s.get Hid.BT_LOW 0) (sideOf (t < 0) (t < 160)) (sideOf (t < 48) (t < 208))
  let hi := windowSide (s.get Hid.BT_HIGH 0) (sideOf (hot < t) (720 < t)) (sideOf (hot - 48 < t) (672 < t))
  let w := if lo = 2 || hi = 2 then 3 else if lo = 1 then 1 else if hi = 1 then 2 else 0
  let s := ((s.put Reg.CHG_STATUS.BTEMP 0 (twos 16 (satS 16 t))).put Hid.BT_LOW 0 lo).put Hid.BT_HIGH 0 hi
  let s := (s.put Reg.CHG_STATUS.WINDOW 0 w).when (s.chg = Chg.cv && 2 ≤ w) fun s => s.raise Hid.CV_WARM 0
  ((s.streak Hid.BTS_N 0 0 (1750 < mv || mv < 50)).chgShow.chgCount).chgEval

/-- BTS_CONVERSION (R223). -/
def execBtsConversion (mv : BitVec 11) (temp : Int) (s : State) : Host.Outcome State Fault Refusal := .next (s.btsConvert mv.toNat temp)

/-- BTS_FAULT (R223): BTS out of range for 100 ms. -/
def execBtsFault (s : State) : Host.Outcome State Fault Refusal :=
  .next (s.when (decide (100 ≤ s.get Hid.BTS_N 0)) fun s => s.chgFault Reg.CHG_FAULT.BTS_FLT)

/-- The limit of safety timer `k`, minutes (R224). -/
def State.timerLimit (s : State) (k : Nat) : Nat :=
  match k with
  | 0 => s.get Reg.CHG_TIMERS.TTRK 0
  | 1 => s.get Reg.CHG_TIMERS.TPRE 0
  | _ => s.get Reg.CHG_TIMERS.TCHG 0 * 60

/-- The latch of safety timer `k`. -/
def timerLatch (k : Nat) : Fld :=
  match k with
  | 0 => Reg.CHG_FAULT.TTRK_TMO
  | 1 => Reg.CHG_FAULT.TPRE_TMO
  | _ => Reg.CHG_FAULT.TCHG_TMO

/-- The running safety timer has reached its limit (R224). -/
def State.timerDue (s : State) : Bool := timed s.chg && decide (s.timerLimit (timerOf s.chg) * 120000 ≤ s.getAt Hid.CHG_TQ 0 (timerOf s.chg))

/-- CHG_TIMER_EXPIRE (R224). -/
def execChgTimerExpire (s : State) : Host.Outcome State Fault Refusal := .next (s.when s.timerDue fun s => s.chgFault (timerLatch (timerOf s.chg)))

/-- BAT_OV (R221): VBAT above VCV + 0.20 V for 1 ms; in CC or CV the pack may have been removed (R226, R245). -/
def execBatOv (s : State) : Host.Outcome State Fault Refusal :=
  .next (s.when (decide (100 ≤ s.get Hid.BOV_N 0)) fun s =>
    (s.when (s.chg = Chg.cc || s.chg = Chg.cv) fun s => s.raise Hid.SWAP_PEND 0).chgFault Reg.CHG_FAULT.BAT_OV)

/-- BAT_SHORT (R227): in TRICKLE, VBAT below 2.0 V for 2 s while ITRK flows. -/
def execBatShort (s : State) : Host.Outcome State Fault Refusal :=
  .next (s.when (s.chg = Chg.trickle && decide (200000 ≤ s.get Hid.BSH_N 0)) fun s => s.chgFault Reg.CHG_FAULT.BAT_SHORT)

/-- CHG_OC (R227): the charge current plus 5 A exceeded for 1 ms, in any phase. -/
def execChgOc (s : State) : Host.Outcome State Fault Refusal :=
  .next (s.when (decide (100 ≤ s.get Hid.COC_N 0)) fun s => s.chgFault Reg.CHG_FAULT.CHG_OC)

/-- The charger's latched faults. -/
def chgFaultBits : List Fld :=
  [Reg.CHG_FAULT.NO_BAT, Reg.CHG_FAULT.BAT_SHORT, Reg.CHG_FAULT.TTRK_TMO, Reg.CHG_FAULT.TPRE_TMO, Reg.CHG_FAULT.TCHG_TMO, Reg.CHG_FAULT.BAT_OV,
   Reg.CHG_FAULT.CHG_OC, Reg.CHG_FAULT.BTS_FLT]

/-- CHG_FAULT bits are written back as 1; clearing the last starts DETECT when CHG_EN is set (R228). -/
def State.chgFaultClear (s : State) (mask : Nat) : State :=
  let s := s.over (chgFaultBits.filter fun f => mask.testBit f.lo) fun s f => s.clr f 0
  if s.chg = Chg.fault && chgFaultBits.all fun f => !s.on f 0 then
    (if s.on Reg.CHG_CFG.CHG_EN 0 then s.chgDetect else (s.chgTo Chg.off).chgTimer0)
  else s

/-- CHG_FAULT_CLEAR (R228). -/
def execChgFaultClear (_w : Who) (mask : BitVec 9) (s : State) : Host.Outcome State Fault Refusal := .next (s.chgFaultClear mask.toNat)

/-! The presence test (R226). -/

/-- A presence test starts at DETECT, or 10 s after the last one while the charger does not charge and the pair is OPEN or ARMED. -/
def State.presenceStart (s : State) : State :=
  let idle := s.chg = Chg.off || Chg.done ≤ s.chg
  if !s.on Hid.PT_BUSY 0 && (s.chg = Chg.detect || (idle && s.bfet ≤ 1 && decide (1000000 ≤ s.get Hid.PT_N 0))) then
    (((s.raise Hid.PT_BUSY 0).clr Hid.PT_N 0).put Hid.PT_V0 0 s.vbat).put Hid.PT_MIN 0 s.vbat
  else s

/-- PRESENCE_TEST_START (R226). -/
def execPresenceTestStart (s : State) : Host.Outcome State Fault Refusal := .next s.presenceStart

/-- What a found battery means for the gauge and its authentication: a returning or different pack is a swap; a rising BAT_PRESENT authenticates
(R245, R249). -/
def State.packFound (s : State) (was : Bool) (id : Option (BitVec 64)) : State :=
  let new := match id with
    | some v => v.toNat
    | none => 0
  let s := s.when id.isNone fun s => s.raise Reg.PACK_STATUS.LINE_ERR 0
  if s.on Hid.SWAP_PEND 0 || (id.isSome && new ≠ s.get Hid.PACK_ID 0) then s.packSwap new true
  else if !was then s.authSeries
  else s

/-- The first charge phase that fits VBAT. -/
def State.firstPhase (s : State) (v : Nat) : Nat :=
  if v < s.vpre then Chg.trickle else if v < s.vcc then Chg.pre else if v < s.vcvNow then Chg.cc else Chg.cv

/-- The battery is missing: VBAT below 1.0 V, or fallen by more than 1.0 V, during the test. -/
def State.missing (s : State) : Bool := decide (s.get Hid.PT_MIN 0 < 1000) || decide (s.get Hid.PT_MIN 0 + 1000 < s.get Hid.PT_V0 0)

/-- The 20 ms of a presence test are over: BAT_PRESENT; a battery missing at DETECT latches NO_BAT, else the first phase that fits VBAT begins; with
CHG_EN cleared PHASE becomes OFF (R222, R226, R229). -/
def State.presenceEnd (s : State) (id : Option (BitVec 64)) : State :=
  if !s.on Hid.PT_BUSY 0 || decide (s.get Hid.PT_N 0 < 2000) then s else
    let missing := s.missing
    let was := s.on Reg.CHG_STATUS.BAT_PRESENT 0
    let s := ((s.clr Hid.PT_BUSY 0).clr Hid.PT_N 0).putB Reg.CHG_STATUS.BAT_PRESENT 0 (!missing)
    let s :=
      if missing then (s.when was fun s => s.raise Hid.SWAP_PEND 0).put Reg.PACK_STATUS.AUTH_STATE 0 Auth.none
      else s.packFound was id
    if s.chg ≠ Chg.detect then s.chgEval
    else if missing then s.chgFault Reg.CHG_FAULT.NO_BAT
    else if !s.on Reg.CHG_CFG.CHG_EN 0 then s.chgTo Chg.off
    else (s.chgBegin (s.firstPhase s.vbat)).chgEval

/-- PRESENCE_TEST_END (R226). -/
def execPresenceTestEnd (packId : Option (BitVec 64)) (s : State) : Host.Outcome State Fault Refusal := .next (s.presenceEnd packId)

/-! The battery switch pair (R215 to R219, R228). -/

/-! CAUSE of BFET_STATUS. -/
namespace Trip
abbrev vauxLoss : Nat := 1
abbrev vbb : Nat := 2
abbrev tsd : Nat := 3
abbrev vauxOv : Nat := 4
end Trip

/-- The gauge wakes (R240). -/
def State.gaugeWake (s : State) : State :=
  ((s.when (s.on Reg.GG_STATUS.HIB 0) fun s => s.clr Hid.PREV_N 0).clr Reg.GG_STATUS.HIB 0).put Hid.HIB_N 0 0

/-- The pair carries VBB: both switches work, the gauge wakes, the charger suspends (R216, R240). -/
def State.pairCarry (s : State) (cause : Nat) : State :=
  let s := ((s.put Reg.BFET_STATUS.STATE 0 2).put Reg.BFET_STATUS.CAUSE 0 cause).raise Reg.BFET_STATUS.ON_BAT_EVT 0
  let s := ((s.put Hid.BAT_GD 0 1).raise Hid.BAT_GC 0).put Hid.DSG_LIM 0 (s.get Reg.BFET_CTRL.IBAT_DLIM 0)
  s.gaugeWake.chgEval

/-- A trigger of R216: it closes an armed pair, and returns a handback to CARRY without a new CARRY_COUNT (R218). -/
def State.pairTrigger (s : State) (cause : Nat) : State :=
  if s.bfet = 1 then (s.bump Reg.BFET_STATUS.CARRY_COUNT 0).pairCarry cause
  else if s.bfet = 3 then s.pairCarry cause
  else s

/-- The trigger that holds at present, if any (R219). -/
def State.triggerNow (s : State) : Option Nat :=
  if !s.on Reg.IIN_STATUS.VAUX_OK 0 then some (if 35000 < s.get Reg.IN_MEAS.VAUX 0 then Trip.vauxOv else Trip.vauxLoss)
  else if s.on Hid.H_TSD 0 then some Trip.tsd
  else if s.get Reg.VBB_STATUS.VBB 0 < (s.get Reg.VBB_CFG.VBB_SET 0 - s.get Reg.VBB_CFG.TRIP_OFS 0) * 10 then some Trip.vbb
  else none

/-- VBB has stayed at or below a level for 1 µs: below VBB_SET − TRIP_OFS it is a trigger (R216). -/
def State.vbbTrip (s : State) (v : Nat) : State :=
  if v < (s.get Reg.VBB_CFG.VBB_SET 0 - s.get Reg.VBB_CFG.TRIP_OFS 0) * 10 then (s.put Reg.VBB_STATUS.VBB 0 v).pairTrigger Trip.vbb else s

/-- VBB_TRIP (R216). -/
def execVbbTrip (vbb : BitVec 16) (s : State) : Host.Outcome State Fault Refusal := .next (s.vbbTrip vbb.toNat)

/-- VBAT and VBB of the newest reading lie apart by this many millivolts. -/
def State.pairDrop (s : State) : Nat := ((s.vbat : Int) - (s.get Reg.VBB_STATUS.VBB 0 : Nat)).natAbs

/-- BFET_LINEAR_END (R216): linear control ends once VBAT and VBB are less than 0.3 V apart. -/
def execBfetLinearEnd (s : State) : Host.Outcome State Fault Refusal :=
  .next (if s.bfet = 2 && s.get Hid.BAT_GD 0 = 1 && decide (s.pairDrop < 300) then s.put Hid.BAT_GD 0 2 else s)

/-- CHARGE_BLOCK_OFF (R217). -/
def execChargeBlockOff (s : State) : Host.Outcome State Fault Refusal := .next (if s.bfet = 2 then s.clr Hid.BAT_GC 0 else s)

/-- Both switches off. -/
def State.pairOff (s : State) (st : Nat) : State := ((s.put Reg.BFET_STATUS.STATE 0 st).put Hid.BAT_GD 0 0).clr Hid.BAT_GC 0

/-- A pair fault in CARRY: the pair opens, the fault latches and is journalled (R217, R228). -/
def State.pairFault (s : State) (f : Fld) : State :=
  if s.bfet = 2 then (((s.pairOff 0).raise f 0).jAction JStatus.ok noTarget (f.off % 0x10000) f.lo).chgEval else s

/-- DSG_OC (R217): the current was held to IBAT_DLIM for DSG_OC_T. -/
def execDsgOc (s : State) : Host.Outcome State Fault Refusal :=
  .next (s.when (decide (s.get Reg.BFET_CTRL.DSG_OC_T 0 * 100 ≤ s.get Hid.DLIM_N 0)) fun s => s.pairFault Reg.BFET_STATUS.DSG_OC)

/-- DSG_SHORT (R217): VBAT was below 6.0 V with the current held to IBAT_DLIM for 100 µs. -/
def execDsgShort (s : State) : Host.Outcome State Fault Refusal :=
  .next (s.when (decide (10 ≤ s.get Hid.DSH_N 0)) fun s => s.pairFault Reg.BFET_STATUS.DSG_SHORT)

/-- FET_DEGRADED (R217): more than 0.5 V across the closed pair at more than 50 A for 1 ms; the pair stays closed. -/
def execFetDegraded (s : State) : Host.Outcome State Fault Refusal :=
  .next (if s.bfet = 2 && decide (100 ≤ s.get Hid.FDEG_N 0) then s.raise Reg.BFET_STATUS.FET_DEGRADED 0 else s)

/-- HANDBACK_START (R218): VAUX has been valid for RET_DLY × 10 ms, and the buck runs; the limit starts from the present battery current. -/
def State.handbackStart (s : State) : State :=
  if s.bfet = 2 && s.on Reg.IIN_STATUS.VAUX_OK 0 && !s.on Hid.H_TSD 0 && decide (max 1 (s.get Reg.BFET_CTRL.RET_DLY 0) * 1000 ≤ s.get Hid.VOK_N 0) then
    ((s.put Reg.BFET_STATUS.STATE 0 3).clr Hid.HB_N 0).put Hid.DSG_LIM 0 (min (s.get Reg.BFET_CTRL.IBAT_DLIM 0) (((max 0 (-s.ibat)).toNat + 999) / 1000))
  else s

/-- HANDBACK_START (R218). -/
def execHandbackStart (s : State) : Host.Outcome State Fault Refusal := .next s.handbackStart

/-- The buck is at its input limit or at its output limit. -/
def State.buckAtLimit (s : State) : Bool := s.on Reg.VBB_STATUS.ILIM_IN 0 || s.on Reg.VBB_STATUS.ILIM_OUT 0

/-- 200 µs of the handback ramp, without the time for which the buck was at its limit: the limit falls by IBAT_DLIM; at 0 A the pair is ARMED, and the buck's
target moves to VBB_SET (R218). -/
def State.handbackStep (s : State) : State :=
  if s.bfet ≠ 3 || s.buckAtLimit || decide (s.get Hid.HB_N 0 < 20) then s else
    let lim := s.get Hid.DSG_LIM 0 - s.get Reg.BFET_CTRL.IBAT_DLIM 0
    let s := (s.put Hid.DSG_LIM 0 lim).clr Hid.HB_N 0
    if lim = 0 then (s.pairOff 1).chgEval else s

/-- HANDBACK_RAMP_STEP (R218). -/
def execHandbackRampStep (s : State) : Host.Outcome State Fault Refusal := .next s.handbackStep

/-- A pair fault is latched. -/
def State.pairFaulted (s : State) : Bool := s.on Reg.BFET_STATUS.DSG_OC 0 || s.on Reg.BFET_STATUS.DSG_SHORT 0

/-- A MODE write is refused: HOLDUP_BUSY (R219). -/
def State.modeBusy (s : State) (w : Who) : State :=
  (s.raise Reg.BFET_STATUS.CFG_REJ 0).jRefused w Reg.BFET_CTRL.MODE 0 noTarget JStatus.holdupBusy

/-- A MODE write meets a pair that carries, or an invalid VAUX (R219; DEDUCED, log entry 85). -/
def State.modeRefused (s : State) : Bool := 2 ≤ s.bfet || !s.on Reg.IIN_STATUS.VAUX_OK 0 || !s.on Hid.HPD_GO 0

/-- MODE = OPEN takes effect in ARMED alone: a pair that a fault holds OPEN keeps its mode (R219). -/
def State.bfetOpen (s : State) (w : Who) : State :=
  if s.modeRefused then s.modeBusy w
  else if s.bfet = 0 then s.jDone w Reg.BFET_CTRL.MODE 0 noTarget
  else (((s.jDone w Reg.BFET_CTRL.MODE 0 noTarget).put Reg.BFET_CTRL.MODE 0 0).pairOff 0).chgEval

/-- BFET_OPEN (R219). -/
def execBfetOpen (w : Who) (s : State) : Host.Outcome State Fault Refusal := .next (s.bfetOpen w)

/-- The pair arms, and closes where a trigger holds at that moment (R219). -/
def State.pairArm (s : State) : State :=
  let s := s.pairOff 1
  match s.triggerNow with
  | some c => s.pairTrigger c
  | none => s.chgEval

/-- MODE = ARMED: at once from OPEN, unless a pair fault holds the pair OPEN (R219, R228). -/
def State.bfetArm (s : State) (w : Who) : State :=
  if s.modeRefused then s.modeBusy w
  else
    let s := (s.jDone w Reg.BFET_CTRL.MODE 0 noTarget).put Reg.BFET_CTRL.MODE 0 1
    if s.bfet = 0 && !s.pairFaulted then s.pairArm else s

/-- BFET_ARM (R219). -/
def execBfetArm (w : Who) (s : State) : Host.Outcome State Fault Refusal := .next (s.bfetArm w)

/-- Pair faults are written back as 1; clearing the last returns the pair to ARMED where MODE is ARMED (R228). -/
def State.pairFaultClear (s : State) (oc short : Bool) : State :=
  let was := s.pairFaulted
  let s := (s.when oc fun s => s.clr Reg.BFET_STATUS.DSG_OC 0).when short fun s => s.clr Reg.BFET_STATUS.DSG_SHORT 0
  if was && !s.pairFaulted && s.bfet = 0 && s.get Reg.BFET_CTRL.MODE 0 = 1 then s.pairArm else s

/-- BFET_FAULT_CLEAR (R228). -/
def execBfetFaultClear (_w : Who) (oc short : Bool) (s : State) : Host.Outcome State Fault Refusal := .next (s.pairFaultClear oc short)

/-! VAUX, the buck and the input limit (R210 to R214). -/

/-- BK_RUN: the buck switches while VAUX is valid and HPD runs and is not shut down (R210, R329, R354). -/
def State.buckShow (s : State) : State :=
  s.putB Reg.VBB_STATUS.BK_RUN 0 (s.on Reg.IIN_STATUS.VAUX_OK 0 && !s.on Hid.H_TSD 0 && s.on Hid.HPD_GO 0)

/-! RESULT of a search. -/
namespace Srch
abbrev sag : Nat := 1
abbrev ceiling : Nat := 2
abbrev demandLow : Nat := 3
abbrev aborted : Nat := 4
end Srch

/-- A search starts from IIN_START, while VAUX is valid (R213, R214; DEDUCED, log entry 53). -/
def State.searchStart (s : State) : State :=
  if s.on Reg.IIN_STATUS.VAUX_OK 0 then
    ((s.put Reg.IIN_STATUS.SRCH 0 1).clr Hid.SRCH_N 0).put Reg.IIN_STATUS.IIN_LIM 0 (s.get Reg.IIN_CFG.IIN_START 0)
  else s

/-- A search ends with a result and keeps its limit. -/
def State.searchEnd (s : State) (res : Nat) : State := ((s.put Reg.IIN_STATUS.SRCH 0 0).clr Hid.SRCH_N 0).put Reg.IIN_STATUS.RESULT 0 res

/-- The input current has been within 1 A of IIN_LIM for 1 ms (R213). -/
def State.atLimit (s : State) : Bool := decide (100 ≤ s.get Hid.ATLIM_N 0)

/-- SEARCH (R214). -/
def execIinSearch (_w : Who) (s : State) : Host.Outcome State Fault Refusal := .next s.searchStart

/-- IIN_SEARCH_START (R214): 60 s after the last search. -/
def execIinSearchStart (s : State) : Host.Outcome State Fault Refusal :=
  .next (if s.get Reg.IIN_STATUS.SRCH 0 = 0 && decide (6000000 ≤ s.get Hid.SRCH_N 0) then s.searchStart else s)

/-- The limit rises by 2 A, not beyond IIN_MAX. -/
def State.searchUp (s : State) : State :=
  ((s.put Reg.IIN_STATUS.SRCH 0 1).clr Hid.SRCH_N 0).put Reg.IIN_STATUS.IIN_LIM 0 (min (s.get Reg.IIN_STATUS.IIN_LIM 0 + 2) (s.get Reg.IIN_CFG.IIN_MAX 0))

/-- A dwell of 5 ms ends without a sag (R213). -/
def State.searchStep (s : State) : State :=
  if s.get Reg.IIN_STATUS.SRCH 0 ≠ 1 || decide (s.get Hid.SRCH_N 0 < 500) then s
  else if s.get Reg.IIN_CFG.IIN_MAX 0 ≤ s.get Reg.IIN_STATUS.IIN_LIM 0 then
    (s.put Reg.IIN_STATUS.IIN_LIM 0 (s.get Reg.IIN_CFG.IIN_MAX 0)).searchEnd Srch.ceiling
  else if s.atLimit then s.searchUp
  else (s.put Reg.IIN_STATUS.SRCH 0 2).clr Hid.SRCH_N 0

/-- IIN_SEARCH_STEP (R213). -/
def execIinSearchStep (s : State) : Host.Outcome State Fault Refusal := .next s.searchStep

/-- A pause ends once the input current is at the limit, or after 1 s (R213). -/
def State.pauseEnd (s : State) : State :=
  if s.get Reg.IIN_STATUS.SRCH 0 ≠ 2 then s
  else if s.atLimit then s.searchUp
  else if 100000 ≤ s.get Hid.SRCH_N 0 then s.searchEnd Srch.demandLow
  else s

/-- IIN_SEARCH_PAUSE_END (R213). -/
def execIinSearchPauseEnd (s : State) : Host.Outcome State Fault Refusal := .next s.pauseEnd

/-- VAUX has been below VAUX_SAG for 100 µs: a dwell of a search ends it with SAG, 4 A lower; a paused search goes on; without one the sag watch cuts the limit to the present input
current less 4 A. Neither goes below 10 A or above IIN_MAX (R212 to R214). A sag that goes on for another 100 µs counts again (DEDUCED, log entry 53). -/
def State.sagWatch (s : State) : State :=
  if s.get Reg.IIN_STATUS.SRCH 0 = 2 || decide (s.get Hid.SAG_N 0 < 10) then s else
  let s := s.clr Hid.SAG_N 0
  if s.get Reg.IIN_STATUS.SRCH 0 ≠ 0 then
    (s.put Reg.IIN_STATUS.IIN_LIM 0 (max (s.get Reg.IIN_STATUS.IIN_LIM 0 - 4) 10)).searchEnd Srch.sag
  else
    (s.put Reg.IIN_STATUS.IIN_LIM 0 (min (max ((s.getI Reg.IN_MEAS.IIN 0 / 16).toNat - 4) 10) (s.get Reg.IIN_CFG.IIN_MAX 0))).bump
      Reg.IIN_STATUS.SAG_COUNT 0

/-- SAG_WATCH (R214). -/
def execSagWatch (s : State) : Host.Outcome State Fault Refusal := .next s.sagWatch

/-- In CARRY the buck takes the load back from the present VBB, limited to 11.0 to 14.4 V (R218). -/
def State.buckBack (s : State) : State :=
  s.when (s.bfet = 2) fun s => s.put Hid.VBB_ACT 0 (min 1440 (max 1100 (s.get Reg.VBB_STATUS.VBB 0 / 10)))

/-- VAUX becomes valid after 1 ms in range: the buck runs, a search starts, the charger may go on (R210, R214, R218). -/
def State.vauxValid (s : State) : State :=
  if s.on Reg.IIN_STATUS.VAUX_OK 0 then s
  else (((((s.clr Hid.VOK_N 0).raise Reg.IIN_STATUS.VAUX_OK 0).buckShow).buckBack).when (s.on Hid.HPD_GO 0) fun s => s.searchStart).chgEval

/-- VAUX has stayed at a level below 16.0 V or above 35.0 V for 2 µs and becomes invalid: buck and charger stop, a search is aborted, a presence test is discarded, an armed pair closes (R210, R214, R216, R229). -/
def State.vauxInvalid (s : State) (v : Nat) : State :=
  let above := decide (35000 < v)
  if !above && decide (16000 ≤ v) then s else
  let s := ((s.put Reg.IN_MEAS.VAUX 0 v).clr Hid.VAUX_N 0).when above fun s => s.raise Reg.VBB_STATUS.VAUX_OV_EVT 0
  if !s.on Reg.IIN_STATUS.VAUX_OK 0 then s else
    let s := ((s.clr Reg.IIN_STATUS.VAUX_OK 0).buckShow).clr Hid.PT_BUSY 0
    let s := s.when (s.on Reg.IIN_STATUS.SRCH 0) fun s => s.searchEnd Srch.aborted
    (s.pairTrigger (if above then Trip.vauxOv else Trip.vauxLoss)).chgEval

/-- VAUX_INVALID (R210). -/
def execVauxInvalid (vaux : BitVec 16) (s : State) : Host.Outcome State Fault Refusal := .next (s.vauxInvalid vaux.toNat)

/-- The output limit of the buck, A: 270, and 45 less for each stopped phase (R211, R295; DEDUCED, log entry 114). -/
def State.buckMax (s : State) : Nat := 270 - 45 * ((List.range 6).filter fun k => s.bit Hid.BUCK_STOP 0 k).length

/-- The battery current for a voltage across the shunt, held to ±75 mV: nV over µΩ, to the nearest mA (R231; DESIGN CHOICE, log entry 115). -/
def State.shuntMa (s : State) (u : Int) : Int :=
  let r : Int := s.get Reg.GG_SCALE.RSH 0
  (2 * clampI (-75000000) 75000000 u + r) / (2 * r)

/-- The newest readings show, and the limits that the buck is at (R211, R212). -/
def State.hpdRead (s : State) (x : HpdMeas) : State :=
  let s := ((s.put Reg.IN_MEAS.VAUX 0 x.vaux.toNat).put Reg.IN_MEAS.IIN 0 x.iin.toNat).put Reg.VBB_STATUS.VBB 0 x.vbb.toNat
  let s := ((s.put Hid.VBAT_NOW 0 x.vbat.toNat).putI Hid.IBAT_NOW 0 (s.shuntMa x.ush)).put Hid.I_BUCK 0 x.iBuck.toNat
  let run := s.on Reg.VBB_STATUS.BK_RUN 0
  (s.putB Reg.VBB_STATUS.ILIM_IN 0 (run && decide (s.get Reg.IIN_STATUS.IIN_LIM 0 * 16 ≤ x.iBuck.toNat))).putB Reg.VBB_STATUS.ILIM_OUT 0
    (run && decide (s.buckMax * 16 ≤ x.iOut.toNat))

/-- The charger's budget: what the buck and the margin leave, the margin counting as 0 during a search (R212). -/
def State.budgetShow (s : State) : State :=
  let margin := if s.get Reg.IIN_STATUS.SRCH 0 ≠ 0 then 0 else s.get Reg.IIN_CFG.IIN_MARGIN 0
  s.put Hid.CHG_BUDGET 0 ((s.get Reg.IIN_STATUS.IIN_LIM 0 - margin) * 16 - s.get Hid.I_BUCK 0)

/-- VAUX and the search, counted in readings of 10 µs (R210, R213, R214, R218). -/
def State.inputCounts (s : State) : State :=
  let v := s.get Reg.IN_MEAS.VAUX 0
  let s := s.streak Hid.VAUX_N 0 0 (decide (17000 ≤ v) && decide (v ≤ 34000))
  let s := s.streak Hid.SAG_N 0 0 (s.on Reg.IIN_STATUS.VAUX_OK 0 && decide (v < s.get Reg.IIN_CFG.VAUX_SAG 0 * 100))
  let s := s.streak Hid.ATLIM_N 0 0 (decide ((s.getI Reg.IN_MEAS.IIN 0 - (s.get Reg.IIN_STATUS.IIN_LIM 0 * 16 : Nat)).natAbs ≤ 16))
  (s.bump Hid.SRCH_N 0).bump Hid.VOK_N 0

/-- The pair, counted in readings of 10 µs: the current at its limit in CARRY, a short, an excess drop, the ramp of a handback (R217, R218). While current flows
out of the battery in CARRY the charge-block switch is on. -/
def State.pairCounts (s : State) : State :=
  let carry := decide (s.bfet = 2)
  let held := carry && decide ((s.get Hid.DSG_LIM 0 * 1000 : Nat) ≤ -s.ibat)
  let s := (s.streak Hid.DLIM_N 0 0 held).streak Hid.DSH_N 0 0 (held && decide (s.vbat < 6000))
  let s := s.streak Hid.FDEG_N 0 0 (carry && decide (500 < s.pairDrop) && decide (s.ibat < -50000))
  let s := s.when (s.bfet = 3 && !s.buckAtLimit) fun s => s.bump Hid.HB_N 0
  s.when (carry && decide (s.ibat < 0)) fun s => s.raise Hid.BAT_GC 0

/-- The charger and the pack line, counted in readings of 10 µs: the leaving condition of the phase, overvoltage, a short, overcurrent, the presence test, the
time since a request or a verdict (R221, R222, R226, R227, R247, R249). -/
def State.chgCounts (s : State) : State :=
  let s := s.streak Hid.CHG_N 0 0 s.chgLeaves
  let s := s.streak Hid.BOV_N 0 0 (decide (s.get Reg.CHG_LEVELS.VCV 0 * 10 + 200 < s.vbat))
  let s := s.streak Hid.BSH_N 0 0 (s.chg = Chg.trickle && decide (s.vbat < 2000) && decide (0 < s.ibat))
  let s := s.streak Hid.COC_N 0 0 (decide ((s.get Hid.CHG_I 0 + 5000 : Nat) < s.ibat))
  let s := s.when (s.on Hid.PT_BUSY 0) fun s => s.put Hid.PT_MIN 0 (min (s.get Hid.PT_MIN 0) s.vbat)
  (s.bump Hid.PT_N 0).bump Hid.AUTH_N 0

/-- The buck's target moves toward VBB_SET at 1 V/ms, not while the battery carries (R211, R218, R229). -/
def State.vbbStep (s : State) : State :=
  let a := s.get Hid.VBB_ACT 0
  let b := s.get Reg.VBB_CFG.VBB_SET 0
  if 2 ≤ s.bfet then s else s.put Hid.VBB_ACT 0 (if a < b then a + 1 else if b < a then a - 1 else a)

/-- Every 10 µs HPD reads its inputs and shares the input limit (R212). -/
def State.iinShare (s : State) (x : HpdMeas) : State :=
  let s := ((((((s.hpdRead x).budgetShow).inputCounts).pairCounts).chgShow).chgCounts).vbbStep
  let inRange := decide (11000 ≤ x.vbb.toNat) && decide (x.vbb.toNat ≤ 14400)
  let s := s.when (inRange && !s.on Hid.VBB_IN 0) fun s => s.put Hid.VBB_BEAT 0 s.beat
  s.putB Hid.VBB_IN 0 inRange

/-- IIN_SHARE (R212). -/
def execIinShare (meas : HpdMeas) (s : State) : Host.Outcome State Fault Refusal := .next (s.iinShare meas)

/-- BUCK_PHASE_STOP (R295). -/
def execBuckPhaseStop (k : Fin 6) (s : State) : Host.Outcome State Fault Refusal := .next (s.putBit Hid.BUCK_STOP 0 k.val true)

/-! HPD's thermal shutdown (R220). -/

/-- HPD's restarts of the last hour. -/
def State.hpdRestarts (s : State) : Nat :=
  ((List.range 3).filter fun k =>
    let e := s.getAt Hid.H_HIST 0 k
    decide (2 ^ 40 ≤ e) && decide (beatDiff s.beat (e % 2 ^ 40) ≤ hourUs)).length

/-- HPD shuts down: buck and charger stop, the pair closes; a trip after three restarts within the hour latches (R206, R220). -/
def State.hpdShutdown (s : State) : State :=
  if s.on Hid.H_TSD 0 then s else
    let s := ((s.raise Hid.H_TSD 0).put Hid.H_TSD_BEAT 0 s.beat).clr Hid.H_COOL 0
    let s := (s.raise Reg.HPD_THERM.TSD_EVT 0).bump Reg.HPD_THERM_CTRL.SHUTDOWNS 0
    let s := (s.put Reg.HPD_THERM.RESTARTS 0 s.hpdRestarts).when (s.hpdRestarts = 3) fun s => s.raise Reg.HPD_THERM.TSD_LATCH 0
    (((s.levelShow .hpd).buckShow).pairTrigger Trip.tsd).chgEval

/-- HPD_THERMAL_SHUTDOWN (R220). -/
def execHpdThermalShutdown (s : State) : Host.Outcome State Fault Refusal := .next s.hpdShutdown

/-- HPD restarts: the buck runs where VAUX is valid, and takes the load back under R218. -/
def State.hpdRestart (s : State) : State := ((((s.clr Hid.H_TSD 0).levelShow .hpd).buckShow).buckBack).chgEval

/-- HPD_THERMAL_RESTART (R220): ten readings below 135 °C, 100 ms since the trip, no latch. -/
def State.hpdRestartDue (s : State) : State :=
  if s.on Hid.H_TSD 0 && !s.on Reg.HPD_THERM.TSD_LATCH 0 && 10 ≤ s.get Hid.H_COOL 0 && 100000 ≤ beatDiff s.beat (s.get Hid.H_TSD_BEAT 0) then
    let s := (s.putAt Hid.H_HIST 0 2 (s.getAt Hid.H_HIST 0 1)).putAt Hid.H_HIST 0 1 (s.getAt Hid.H_HIST 0 0)
    let s := s.putAt Hid.H_HIST 0 0 (2 ^ 40 + s.beat)
    (s.put Reg.HPD_THERM.RESTARTS 0 s.hpdRestarts).hpdRestart
  else s

/-- HPD_THERMAL_RESTART (R220). -/
def execHpdThermalRestart (s : State) : Host.Outcome State Fault Refusal := .next s.hpdRestartDue

/-- HPD's latch and its restart history are cleared (R206). -/
def State.hpdForget (s : State) : State :=
  ((s.over (List.range 3) fun s k => s.clrAt Hid.H_HIST 0 k).put Reg.HPD_THERM.RESTARTS 0 0).clr Reg.HPD_THERM.TSD_LATCH 0

/-- TSD_CLR of HPD, as a tile's (R206, R220). -/
def State.hpdTsdClr (s : State) (w : Who) : State :=
  if 2160 ≤ s.getI Reg.HPD_THERM.TEMP 0 then
    (s.raise Reg.HPD_THERM_CTRL.PROT_REJ 0).jRefused w Reg.HPD_THERM_CTRL.TSD_CLR 0 noTarget JStatus.refused
  else
    let s := s.jDone w Reg.HPD_THERM_CTRL.TSD_CLR 0 noTarget
    if s.on Reg.HPD_THERM.TSD_LATCH 0 then s.hpdForget.hpdRestart else s

end Sys2Proof.Machine
end

