-- ==== Sys2Proof/Machine/Gauge.lean ====
section
/-!
DEFINITION. The gauge's frames and anchors (R231 to R246) and the steps of pack authentication (R247 to R249).
-/
namespace Sys2Proof.Machine

/-- RBAT in force, 10 µΩ. -/
def State.rbat (s : State) : Nat :=
  if s.get Reg.GG_RBAT_LRN.RBAT_LRN 0 = 0 then s.get Reg.GG_SCALE.RBAT_CFG 0 else s.get Reg.GG_RBAT_LRN.RBAT_LRN 0

/-- The load-compensated voltage, mV (R236). -/
def State.vec (s : State) (v : Nat) (i : Int) : Int := v + max (-i) 0 * s.rbat / 100000

/-- Discharged charge joins the cycle count, THRU and the learning run (R238, R239; DEDUCED, log entry 52). -/
def State.countOut (s : State) (q : Nat) : State :=
  let c := s.get Hid.CYC_ACC 0 + q
  let full := s.fcc * 3600000
  let s := if full ≤ c && full ≠ 0 then (s.put Hid.CYC_ACC 0 (c - full)).bump Reg.GG_CYCLE.CYCLE_COUNT 0 else s.put Hid.CYC_ACC 0 c
  let t := s.get Hid.THRU_ACC 0 + q
  let thru := s.get Reg.GG_THRU.THRU 0 + t / 3600000
  let s := (s.put Hid.THRU_ACC 0 (t % 3600000)).put Reg.GG_THRU.THRU 0 (min (2 ^ 32 - 1) thru)
  s.put Hid.RUN_ACC 0 (s.get Hid.RUN_ACC 0 + q)

/-- A charge in mA·ms joins Q. -/
def State.countQ (s : State) (q : Int) : State :=
  let s := s.put Hid.GG_Q 0 (twos 64 (s.getI Hid.GG_Q 0 + q))
  if q < 0 then s.countOut (-q).toNat else s

/-- One load step (R237): at least 20 A between two discharge samples; the first accepted value is taken whole. -/
def State.rbatStep (s : State) (v0 : Nat) (i0 : Int) (v : Nat) (i : Int) : State :=
  let cfg : Int := s.get Reg.GG_SCALE.RBAT_CFG 0
  let r := ((v : Int) - v0) * 100000 / (i - i0)
  let lrn : Int := s.get Reg.GG_RBAT_LRN.RBAT_LRN 0
  if cfg ≤ 4 * r && r ≤ 4 * cfg then
    s.put Reg.GG_RBAT_LRN.RBAT_LRN 0 (if lrn = 0 then r else lrn + (r - lrn) / 8).toNat
  else s

/-- The steps qualify (R237). -/
def stepQualifies (i0 i : Int) : Bool := decide (20000 ≤ (i - i0).natAbs) && decide (i0 < 0) && decide (i < 0)

/-- RBAT is measured from a step over the last frame, or over the last two where neither half of them was a step; frames from before a hibernation are none of
them. -/
def State.rbatUpdate (s : State) (v : Nat) (i : Int) : State :=
  let i1 := s.getIAt Hid.PREV_I 0 0
  let i2 := s.getIAt Hid.PREV_I 0 1
  let n := s.get Hid.PREV_N 0
  let s :=
    if decide (1 ≤ n) && stepQualifies i1 i then s.rbatStep (s.getAt Hid.PREV_V 0 0) i1 v i
    else if decide (2 ≤ n) && stepQualifies i2 i && !stepQualifies i2 i1 then s.rbatStep (s.getAt Hid.PREV_V 0 1) i2 v i
    else s
  let s := (s.putAt Hid.PREV_V 0 1 (s.getAt Hid.PREV_V 0 0)).putAt Hid.PREV_I 0 1 (s.getAt Hid.PREV_I 0 0)
  ((s.putAt Hid.PREV_V 0 0 v).putIAt Hid.PREV_I 0 0 i).put Hid.PREV_N 0 (min 2 (n + 1))

/-- ANCHOR_ERR, 10 mAh units, saturating, from an error in µAh. -/
def State.anchorErr (s : State) (e : Int) : State := s.putI Reg.GG_ANCHOR.ANCHOR_ERR 0 (e / 10000)

/-- A full anchor (R235). -/
def State.fullAnchor (s : State) : State :=
  let s := s.anchorErr (s.rmRaw - (s.fcc : Int) * 1000)
  let s := (s.put Hid.GG_Q 0 (twos 64 ((s.fcc : Int) * 3600000))).raise Reg.GG_STATUS.SOC_VALID 0
  let s := ((s.raise Reg.GG_STATUS.FULL_EVT 0).raise Reg.GG_STATUS.LEARNING 0).raise Hid.FULL_SEEN 0
  ((s.put Hid.RUN_ACC 0 0).clr Reg.GG_STATUS.REST_EST 0).gaugeStore

/-- KERB_LOW of a frame (R246). -/
def State.kerbLow (s : State) (vec : Int) : State :=
  let s := if vec < s.get Reg.GG_EMPTY.V_KLOW 0 then s.bump Hid.KLOW_N 0 else s.put Hid.KLOW_N 0 0
  if s.on Reg.GG_STATUS.SOC_VALID 0 then
    s.putB Reg.GG_STATUS.KERB_LOW 0 (s.get Reg.GG_STATUS.SOC 0 < s.get Reg.GG_CFG.KERB_SOC 0 * 100)
  else s.putB Reg.GG_STATUS.KERB_LOW 0 (1000 ≤ s.get Hid.KLOW_N 0)

/-- The newest sample shows (R231, R232). -/
def State.sampleShow (s : State) (i : Int) (v : Nat) : State :=
  let s := (s.put Reg.GG_SAMPLE_V.VBAT_S 0 v).put Reg.GG_SAMPLE_V.BTEMP_S 0 (s.get Reg.CHG_STATUS.BTEMP 0)
  let s := s.putI Reg.GG_SAMPLE_I.IBAT_S 0 i
  (s.put Reg.BAT_MEAS.VBAT 0 v).putI Reg.BAT_MEAS.IBAT 0 ((i * 32 + 1000) / 2000)

/-- A 1 ms frame: the sample, the count, the anchor of the charger's DONE unless an empty anchor falls in the same frame, SOC, vec and KERB_LOW, the streaks
of R236 and R240, RBAT (R231 to R246). -/
def State.gaugeFrame (s : State) (u : Int) (v : Nat) : State :=
  if s.on Reg.GG_STATUS.HIB 0 then s else
    let i := s.shuntMa u
    let s := (((s.sampleShow i v).countQ i).rbatUpdate v i).bump Hid.STORE_N 0
    let s := s.when (500 < i) fun s => s.learnDrop
    let vec := s.vec v i
    let s := if vec < s.get Reg.GG_EMPTY.V_EMPTY 0 then (if s.get Hid.EMPTY_N 0 < 500 then s.bump Hid.EMPTY_N 0 else s) else s.put Hid.EMPTY_N 0 0
    let full := s.on Hid.FULL_PEND 0 && s.get Hid.EMPTY_N 0 ≠ 500
    let s := (s.clr Hid.FULL_PEND 0).when full fun s => s.fullAnchor
    let s := if i.natAbs < 50 then s.bump Hid.HIB_N 0 else s.put Hid.HIB_N 0 0
    let s := s.socShow.kerbLow vec
    s.streak Hid.KSOC_N 0 0 (s.on Reg.GG_STATUS.KERB_LOW 0 && decide (2 ≤ s.get Reg.BFET_STATUS.STATE 0))

/-- GAUGE_FRAME (R231). -/
def execGaugeFrame (ush : Int) (vbat : BitVec 16) (s : State) : Host.Outcome State Fault Refusal := .next (s.gaugeFrame ush vbat.toNat)

/-- A completed learning run (R238): within 90 to 110 % of FCC, FCC moves half-way, rounded toward zero. -/
def State.learnEnd (s : State) : State :=
  if !s.on Reg.GG_STATUS.LEARNING 0 then s else
    let q := s.get Hid.RUN_ACC 0 / 3600000
    let s := (s.learnDrop).put Reg.GG_ANCHOR.LAST_RUN 0 (q / 100)
    if s.fcc * 90 ≤ q * 100 && q * 100 ≤ s.fcc * 110 then
      ((s.setFcc ((s.fcc : Int) + Int.tdiv ((q : Int) - s.fcc) 2).toNat).raise Reg.GG_STATUS.FCC_LEARNED 0).raise Reg.GG_STATUS.LEARN_EVT 0
    else s.raise Reg.GG_STATUS.LEARN_REJ 0

/-- EMPTY_ANCHOR (R236): the 500th consecutive frame below V_EMPTY; the frames that follow it make no further one. -/
def State.emptyAnchor (s : State) : State :=
  if s.get Hid.EMPTY_N 0 ≠ 500 then s else
    let s := (s.anchorErr s.rmRaw).learnEnd
    let s := (s.put Hid.GG_Q 0 0).raise Reg.GG_STATUS.EMPTY_EVT 0
    let s := s.when (s.on Reg.GG_STATUS.FCC_LEARNED 0 || s.on Hid.FULL_SEEN 0) fun s => s.raise Reg.GG_STATUS.SOC_VALID 0
    (((s.put Hid.EMPTY_N 0 501).clr Reg.GG_STATUS.REST_EST 0).socShow).gaugeStore

/-- EMPTY_ANCHOR (R236). -/
def execEmptyAnchor (s : State) : Host.Outcome State Fault Refusal := .next s.emptyAnchor

/-- HIBERNATE (R240): after 60 000 samples below 50 mA. -/
def execHibernate (s : State) : Host.Outcome State Fault Refusal :=
  .next (if 60000 ≤ s.get Hid.HIB_N 0 && !s.on Reg.GG_STATUS.HIB 0 then
    ((s.raise Reg.GG_STATUS.HIB 0).learnDrop).gaugeStore else s)

/-- HIB_CONVERSION (R240): the mean current of 10 ms stands for a second. -/
def execHibConversion (ush : Int) (s : State) : Host.Outcome State Fault Refusal :=
  .next (if s.on Reg.GG_STATUS.HIB 0 then (s.countQ (s.shuntMa ush * 1000)).socShow else s)

/-- GAUGE_WAKE (R240). -/
def execGaugeWake (s : State) : Host.Outcome State Fault Refusal := .next s.gaugeWake

/-- GAUGE_STORE (R242): every 60 s while the gauge is awake. -/
def execGaugeStore (s : State) : Host.Outcome State Fault Refusal :=
  .next (if s.on Reg.GG_STATUS.HIB 0 || decide (s.get Hid.STORE_N 0 < 60000) then s else (s.clr Hid.STORE_N 0).gaugeStore)

/-- STORE (R242): a write of a gauge register also wakes the gauge (R240). -/
def execGgStore (w : Who) (s : State) : Host.Outcome State Fault Refusal :=
  .next (((s.jDone w Reg.GG_CMD.STORE 0 noTarget).gaugeStore).gaugeWake)

/-- INVALIDATE (R245): a swap of a pack with the same PACK_ID that starts no authentication. -/
def execInvalidate (w : Who) (s : State) : Host.Outcome State Fault Refusal :=
  .next (((s.jDone w Reg.GG_CMD.INVALIDATE 0 noTarget).packSwap (s.get Hid.PACK_ID 0) false).gaugeWake)

/-! Authentication. -/

/-- AUTH_START (R249): a new series, behind a running exchange. -/
def execAuthStart (w : Who) (s : State) : Host.Outcome State Fault Refusal :=
  .next (((s.jDone w Reg.PACK_CTRL.AUTH_START 0 noTarget).authSeries).chgEval)

/-- A verdict: AUTH_EVT, the journal, the count of FAILED, the attempts of the series; a queued trigger begins (R249). -/
def State.authVerdict (s : State) (v : Nat) : State :=
  let s := ((s.put Reg.PACK_STATUS.AUTH_STATE 0 v).raise Reg.PACK_STATUS.AUTH_EVT 0).put Hid.AUTH_RUN 0 0
  let s := s.clr Hid.AUTH_N 0
  let s := s.jAction JStatus.ok noTarget (Reg.PACK_STATUS.AUTH_STATE.off % 0x10000) v
  let s := s.when (v = Auth.failed) fun s => s.bump Reg.PACK_STATUS.FAIL_COUNT 0
  let s := s.when (v ≠ Auth.noManager) fun s => s.bump Reg.PACK_STATUS.TRIES 0
  let s := s.when (s.on Hid.AUTH_Q 0) fun s => (s.clr Hid.AUTH_Q 0).authSeries
  s.chgEval

/-- The payload of a good reply: CMD echoed with bit 7 set, the LEN of that command, and the CRC-8 over all before it (R247). -/
def packPayload (cmd len : Nat) (l : List Byte) : Option (List Byte) :=
  let f := l.take (len + 2)
  if l.length = len + 3 && f.take 2 = [BitVec.ofNat 8 (cmd + 0x80), BitVec.ofNat 8 len] && l.drop (len + 2) = [crc8 f] then some (f.drop 2) else none

/-- The reply of a pack that cannot serve a request: 0xFF, LEN 0 (R247). -/
def packRefuses (l : List Byte) : Bool := l = [0xFF#8, 0#8, crc8 [0xFF#8, 0#8]]

/-- A reply that is none: NO_REPLY; one that is no good frame sets LINE_ERR (R247, R249; DEDUCED, log entry 116). -/
def State.packNone (s : State) (l : List Byte) : State :=
  (s.when (!packRefuses l) fun s => s.raise Reg.PACK_STATUS.LINE_ERR 0).authVerdict Auth.noReply

/-- The pack's GET_ID reply: another PACK_ID is a swap; the safety core of the active manager draws the nonce of the challenge, which goes out (R245, R248). -/
def State.getId (s : State) (reply : List Byte) (nonce : Nat) : State :=
  if s.get Hid.AUTH_RUN 0 ≠ 1 then s
  else
    match packPayload 1 8 reply with
    | none => s.packNone reply
    | some b =>
      let s := if leNat b ≠ s.get Hid.PACK_ID 0 then s.packSwap (leNat b) true else s
      if s.active.isNone then (s.authVerdict Auth.noManager)
      else ((s.put Hid.AUTH_RUN 0 2).put Hid.AUTH_NONCE 0 nonce).packSend 2 (beBytes 16 nonce)

/-- GET_ID (R247). -/
def execGetId (reply : List Byte) (nonce : BitVec 128) (s : State) : Host.Outcome State Fault Refusal := .next (s.getId reply nonce.toNat)

/-- The MAC that the safety core expects (R248). PACK_ID and the nonce stand in the order in which their bytes travel, least significant byte of
PACK_ID first (DESIGN CHOICE, log entry 22). -/
def State.packMac (s : State) : Nat :=
  let id := (beBytes 8 (s.get Hid.PACK_ID 0)).reverse
  let k := hmac (beBytes 32 (s.get Hid.K_ROOT 0)) ([0x59#8, 0x50#8, 0x4B#8, 0x31#8] ++ id)
  beNat (hmac k (beBytes 16 (s.get Hid.AUTH_NONCE 0) ++ id ++ [0x02#8]))

/-- The pack's MAC gives the verdict; with no active manager there is none to compute it (R248, R249). -/
def State.challenge (s : State) (reply : List Byte) : State :=
  if s.get Hid.AUTH_RUN 0 ≠ 2 then s
  else
    match packPayload 2 32 reply with
    | none => s.packNone reply
    | some b =>
      if s.active.isNone then s.authVerdict Auth.noManager
      else s.authVerdict (if beNat b = s.packMac then Auth.verified else Auth.failed)

/-- CHALLENGE (R248). -/
def execChallenge (reply : List Byte) (s : State) : Host.Outcome State Fault Refusal := .next (s.challenge reply)

/-- The reply has not begun within 20 ms of GET_ID, or 250 ms of CHALLENGE (R247). -/
def State.packLate (s : State) : Bool :=
  s.on Hid.AUTH_RUN 0 && decide ((if s.get Hid.AUTH_RUN 0 = 1 then 2000 else 25000) ≤ s.get Hid.AUTH_N 0)

/-- PACK_REPLY_TIMEOUT (R247). -/
def execPackReplyTimeout (s : State) : Host.Outcome State Fault Refusal :=
  .next (s.when s.packLate fun s => (s.raise Reg.PACK_STATUS.LINE_ERR 0).authVerdict Auth.noReply)

/-- A FAILED or NO_REPLY attempt is due to be repeated: after 10 s, and after the third of a series every hour (R249). -/
def State.authDue (s : State) : Bool :=
  (s.get Reg.PACK_STATUS.AUTH_STATE 0 = Auth.failed || s.get Reg.PACK_STATUS.AUTH_STATE 0 = Auth.noReply) &&
    decide ((if s.get Reg.PACK_STATUS.TRIES 0 < 3 then 1000000 else 360000000) ≤ s.get Hid.AUTH_N 0)

/-- AUTH_RETRY (R249). -/
def execAuthRetry (s : State) : Host.Outcome State Fault Refusal := .next (s.when s.authDue fun s => s.authBegin.chgEval)

end Sys2Proof.Machine
end

