-- ==== Sys2Proof/Machine/P256.lean ====
section
/-!
DEFINITION. ECDSA over curve P-256 with SHA-256 and the nonce of RFC 6979, as R263 and R334 name them: FIPS 186-4 gives the
curve and the two algorithms, RFC 6979 the derivation of the nonce.
-/
namespace Sys2Proof.Machine

/-- The prime of the field. -/
def p256P : Nat := 2 ^ 256 - 2 ^ 224 + 2 ^ 192 + 2 ^ 96 - 1

/-- The order of the base point. -/
def p256N : Nat := 0xFFFFFFFF00000000FFFFFFFFFFFFFFFFBCE6FAADA7179E84F3B9CAC2FC632551

/-- The coefficient b; a is -3. -/
def p256B : Nat := 0x5AC635D8AA3A93E7B3EBBD55769886BC651D06B0CC53B0F63BCE3C3E27D2604B

/-- A point of the curve; none is the point at infinity. -/
abbrev EcPoint := Option (Nat × Nat)

/-- The base point. -/
def p256G : EcPoint :=
  some (0x6B17D1F2E12C4247F8BCE6E563A440F277037D812DEB33A0F4A13945D898C296,
    0x4FE342E2FE1A7F9B8EE7EB4A7C0F9E162BCE33576B315ECECBB6406837BF51F5)

/-- b to the power of the lowest `n` bits of e, modulo m. -/
def powMod (m : Nat) : Nat → Nat → Nat → Nat
  | 0, _, _ => 1
  | n + 1, b, e => (if e % 2 = 1 then b else 1) * powMod m n (b * b % m) (e / 2) % m

/-- The inverse modulo a prime. -/
def invMod (m a : Nat) : Nat := powMod m 256 (a % m) (m - 2)

/-- The difference modulo m. -/
def subMod (m a b : Nat) : Nat := (a + (m - b % m)) % m

/-- The sum of two points. -/
def ecAdd (a b : EcPoint) : EcPoint :=
  match a, b with
  | none, q => q
  | q, none => q
  | some (x1, y1), some (x2, y2) =>
    if x1 = x2 && (y1 + y2) % p256P = 0 then none
    else
      let l :=
        if x1 = x2 then subMod p256P (3 * x1 * x1) 3 * invMod p256P (2 * y1) % p256P
        else subMod p256P y2 y1 * invMod p256P (subMod p256P x2 x1) % p256P
      let x3 := subMod p256P (l * l) (x1 + x2)
      some (x3, subMod p256P (l * subMod p256P x1 x3) y1)

/-- k times a point, over the lowest `n` bits of k. -/
def ecMul : Nat → Nat → EcPoint → EcPoint
  | 0, _, _ => none
  | n + 1, k, q => ecAdd (if k % 2 = 1 then q else none) (ecMul n (k / 2) (ecAdd q q))

/-- The public key of a private key. -/
def p256Public (key : Nat) : Nat × Nat := (ecMul 256 key p256G).getD (0, 0)

/-- The next nonce candidates of RFC 6979, from K and V, until one gives a signature. -/
def ecdsaTry (key z : Nat) : Nat → List Byte → List Byte → Nat × Nat
  | 0, _, _ => (0, 0)
  | n + 1, kk, v =>
    let v := hmac kk v
    let k := beNat v
    let r := ((ecMul 256 k p256G).getD (0, 0)).1 % p256N
    let sg := invMod p256N k * (z + r * key) % p256N
    if 0 < k && k < p256N && r ≠ 0 && sg ≠ 0 then (r, sg)
    else
      let kk := hmac kk (v ++ [0#8])
      ecdsaTry key z n kk (hmac kk v)

/-- The signature of a message: r and s. -/
def ecdsaSign (key : Nat) (msg : List Byte) : Nat × Nat :=
  let z := beNat (sha256 msg)
  let xh := beBytes 32 key ++ beBytes 32 (z % p256N)
  let v := List.replicate 32 1#8
  let kk := hmac (List.replicate 32 0#8) (v ++ [0#8] ++ xh)
  let v := hmac kk v
  let kk := hmac kk (v ++ [1#8] ++ xh)
  ecdsaTry key z 64 kk (hmac kk v)

/-- The point lies on the curve. -/
def onCurve (x y : Nat) : Bool :=
  decide (x < p256P) && decide (y < p256P) && decide ((x * x * x + p256B) % p256P = (y * y + 3 * x) % p256P)

/-- The signature fits the message and the public key. -/
def ecdsaVerify (x y : Nat) (msg : List Byte) (r sg : Nat) : Bool :=
  let z := beNat (sha256 msg)
  let w := invMod p256N sg
  let q := ecAdd (ecMul 256 (z * w % p256N) p256G) (ecMul 256 (r * w % p256N) (some (x, y)))
  onCurve x y && decide (0 < r) && decide (r < p256N) && decide (0 < sg) && decide (sg < p256N) &&
    (match q with
     | none => false
     | some (qx, _) => decide (qx % p256N = r))

end Sys2Proof.Machine
end

