-- ==== Sys2Proof/Machine/Met.lean ====
section
/-!
DEFINITION. The MET die: its fuses, modulators, energy registers, test pulse, records, tallies and frames, and the
managers' side of the read-out (R251 to R276).
-/
namespace Sys2Proof.Machine

/-- MET is powered. -/
def State.metUp (s : State) : Bool := s.on Hid.MET_UP 0

/-- MET is powered and not in METER_FAULT: it counts (R253). -/
def State.metRuns (s : State) : Bool := s.metUp && !s.on Hid.MET_FAULTED 0

/-! The calibration bank in force (R254, R275). -/

/-- A bank as MET uses it. -/
structure MetCal where
  iR     : Nat
  uR     : Nat
  fsI    : Nat
  gainI  : Int
  ofsI   : Int
  fsV    : Nat
  gainV  : Int
  ofsV   : Int
  iStart : Nat
  pulse  : Nat
  crc    : Nat
  deriving DecidableEq, Repr

/-- The default bank (R254). -/
def metDefault : MetCal := ⟨1000, 1000, 125000, 0, 0, 125000, 0, 0, 2, 0, 0⟩

/-- The highest-numbered bank whose CRC passes. -/
def State.metBankNo (s : State) : Option Nat := [3, 2, 1, 0].find? fun n => s.getAt Hid.MB_STATE 0 n = 1

/-- The bank in force. -/
def State.metCal (s : State) : MetCal :=
  match s.metBankNo with
  | none => metDefault
  | some n =>
    { iR := s.getAt Hid.MB_I_R 0 n, uR := s.getAt Hid.MB_U_R 0 n, fsI := s.getAt Hid.MB_FS_I 0 n,
      gainI := s.getIAt Hid.MB_GAIN_I 0 n, ofsI := s.getIAt Hid.MB_OFS_I 0 n, fsV := s.getAt Hid.MB_FS_V 0 n,
      gainV := s.getIAt Hid.MB_GAIN_V 0 n, ofsV := s.getIAt Hid.MB_OFS_V 0 n, iStart := s.getAt Hid.MB_I_START 0 n,
      pulse := s.getAt Hid.MB_PULSE 0 n, crc := s.getAt Hid.MB_CRC 0 n }

/-! Samples (R257 to R260). -/

/-- The denominator of a scaled current or voltage: hundredths, trims of 2^-20 and codes of 2^-23. -/
def metDen : Nat := 100 * 2 ^ 43

/-- The numerator of R257's scaling. -/
def metScale (fs : Nat) (gain ofs x : Int) : Int := fs * (2 ^ 20 + gain) * (x - 8 * ofs)

/-- A code held within plus and minus 1.0 (R258). -/
def metClamp (x : Int) : Int := clampI (-(2 ^ 23)) (2 ^ 23) x

/-- The energy of a power `num / den` W over 250 µs, nWh, rounded half up (R259). -/
def metEnergy (num den : Nat) : Nat := (2 * num * 625 + 9 * den) / (18 * den)

/-- A reading in its unit; between two units one of them, by a free choice (DESIGN CHOICE, log entry 23). -/
def metRead (num : Int) (den : Nat) : Int :=
  if num % den = 0 then num / den else num / den + (Config.roundsUp num den).toNat

/-- Energy in nWh joins a register and its remainder (R260). -/
def State.metCount (s : State) (reg rem : Fld) (e : Nat) : State :=
  let t := s.get rem 0 + e
  (s.put reg 0 (s.get reg 0 + t / 1000000)).put rem 0 (t % 1000000)

/-- Sets FLAGS bits of the running interval. -/
def State.metFlag (s : State) (b : Nat) : State := s.putBit Hid.INT_FLAGS 0 b true

/-- The clamp's flags: OVERRANGE, and an overrange second for a 1 ms run, at most one a second (R258). -/
def State.metOver (s : State) (above : Bool) : State :=
  let s := s.putB Hid.OVR_NOW 0 above
  if !above then s.put Hid.OVR_RUN 0 0 else
    let s := s.metFlag 3
    let s := s.put Hid.OVR_RUN 0 (min 4 (s.get Hid.OVR_RUN 0 + 1))
    s.when (decide (s.get Hid.OVR_RUN 0 = 4) && !s.on Hid.OVR_SEC 0) fun s =>
      (((s.raise Hid.OVR_SEC 0).put Hid.OVR_RUN 0 0).bumpAt Hid.MET_HEALTH 0 5)

/-- The extremes of the interval take a sample in (R264): voltage and current over their denominator. -/
def State.metExtremes (s : State) (vNum iNum : Int) : State :=
  let v := twos 16 (metRead (vNum * 10) metDen)
  let i := (metRead ((iNum.natAbs * 10 : Nat) : Int) metDen).toNat
  let first := !s.on Hid.INT_ANY 0
  let s := s.raise Hid.INT_ANY 0
  let s := s.when (first || decide (v < s.get Hid.INT_VMIN 0)) fun s => s.put Hid.INT_VMIN 0 v
  let s := s.when (first || decide (s.get Hid.INT_VMAX 0 < v)) fun s => s.put Hid.INT_VMAX 0 v
  let s := s.when (decide (0 < iNum) && decide (s.get Hid.INT_IPK_IMP 0 < i)) fun s => s.put Hid.INT_IPK_IMP 0 i
  s.when (decide (iNum < 0) && decide (s.get Hid.INT_IPK_EXP 0 < i)) fun s => s.put Hid.INT_IPK_EXP 0 i

/-- What the two streams show of a stuck modulator: runs of samples whose filtered density lies below 2 % or above 98 %, which is |x| > 1.2 by R256,
runs of samples without a transition, and the run of samples at which both streams were free (R258; DEDUCED, log entry 117). -/
def State.metStreams (s : State) (xi xv : Int) (flat : BitVec 2) : State :=
  let dense (x : Int) : Bool := decide (10066329 < x.natAbs)
  let step (s : State) (j : Nat) (x : Int) : State := (s.streak Hid.DENS_N 0 j (dense x)).streak Hid.FLAT_N 0 j (flat.getLsbD j)
  ((step (step s 0 xi) 1 xv).streak Hid.FREE_N 0 0 (!dense xi && !dense xv && flat = 0))

/-- The stream has been stuck for 1 ms: four samples without a transition, or of a density out of range. -/
def State.metSticks (s : State) (j : Nat) : Bool := decide (4 ≤ s.getAt Hid.DENS_N 0 j) || decide (4 ≤ s.getAt Hid.FLAT_N 0 j)

/-- One sample of the operating second (R263). -/
def State.metSecond (s : State) : State :=
  if s.get Hid.OPSEC_SUB 0 < 3999 then s.put Hid.OPSEC_SUB 0 (s.get Hid.OPSEC_SUB 0 + 1)
  else ((s.put Hid.OPSEC_SUB 0 0).put Hid.OPSEC 0 (s.get Hid.OPSEC 0 + 1)).clr Hid.OVR_SEC 0

/-- Either stream is stuck. -/
def State.metStuck (s : State) : Bool := s.onAt Hid.STUCK 0 0 || s.onAt Hid.STUCK 0 1

/-- A stuck sample: MOD_FAULT for the interval, and its seconds in health. -/
def State.metStuckSample (s : State) : State :=
  let s := s.metFlag 4
  if s.get Hid.MOD_SUB 0 < 3999 then s.put Hid.MOD_SUB 0 (s.get Hid.MOD_SUB 0 + 1)
  else (s.put Hid.MOD_SUB 0 0).bumpAt Hid.MET_HEALTH 0 4

/-- The energy of a sample in nWh: none in the dead band, none at v at or below 0 (R259). -/
def metSampleEnergy (c : MetCal) (iNum vNum : Int) : Nat :=
  if iNum.natAbs * 1000 < c.iStart * c.iR * metDen || vNum ≤ 0 then 0
  else metEnergy (iNum.natAbs * vNum.natAbs) (metDen * metDen)

/-- A sample's energy joins its register and, where PULSE_SRC takes it, the halves that wait for the grid (R259, R262). -/
def State.metAdd (s : State) (c : MetCal) (iNum : Int) (e : Nat) : State :=
  let s := s.when (0 < iNum) fun s => s.metCount Hid.E_IMP Hid.REM_IMP e
  let s := s.when (iNum < 0) fun s => s.metCount Hid.E_EXP Hid.REM_EXP e
  let taken := c.pulse = 0 || (c.pulse = 1 && 0 < iNum) || (c.pulse = 2 && iNum < 0)
  s.when taken fun s =>
    (s.put Hid.HALF_NOW 0 (s.get Hid.HALF_NOW 0 + s.get Hid.HALF_NEXT 0 + e / 2)).put Hid.HALF_NEXT 0 (e - e / 2)

/-- A filtered sample (R257 to R260). -/
def State.metSample (s : State) (xi xv : Int) (flat : BitVec 2) : State :=
  if !s.metRuns then s else
    let s := (s.metStreams xi xv flat).bump Hid.TALLY_N 0
    let c := s.metCal
    let iNum := metScale c.fsI c.gainI c.ofsI (metClamp xi)
    let vNum := metScale c.fsV c.gainV c.ofsV (metClamp xv)
    let s := s.metOver (metClamp xi ≠ xi || metClamp xv ≠ xv)
    let s := (s.put Hid.LIVE_V 0 (twos 32 (metRead (vNum * 100) metDen))).put Hid.LIVE_I 0 (twos 32 (metRead (iNum * 1000) metDen))
    let s := s.put Hid.LIVE_P 0 (twos 32 (metRead (vNum * iNum) (metDen * metDen)))
    let s := s.metExtremes vNum iNum
    let s := if s.metStuck then s.metStuckSample else s.metAdd c iNum (metSampleEnergy c iNum vNum)
    s.metSecond

/-- MET_SAMPLE (R259). -/
def execMetSample (xi xv : BitVec 25) (flat : BitVec 2) (s : State) : Host.Outcome State Fault Refusal :=
  .next (s.metSample xi.toInt xv.toInt flat)

/-! The test pulse (R262). -/

/-- A grid instant: the accumulator advances, and 100 mWh start a pulse. It lasts 10 ms, or half the time since the last
start. -/
def State.metHalf (s : State) : State :=
  if !s.metRuns then s else
    let s := s.put Hid.PULSE_ACC 0 (s.get Hid.PULSE_ACC 0 + s.get Hid.HALF_NOW 0)
    let s := (s.put Hid.HALF_NOW 0 (s.get Hid.HALF_NEXT 0)).put Hid.HALF_NEXT 0 0
    let s := s.bump Hid.PULSE_AGE 0
    if s.get Hid.PULSE_ACC 0 < 100000000 || s.metStuck then s else
      let s := (s.put Hid.PULSE_ACC 0 (s.get Hid.PULSE_ACC 0 - 100000000)).put Hid.PULSES 0 (s.get Hid.PULSES 0 + 1)
      ((s.raise Hid.PULSE_PIN 0).put Hid.PULSE_LEN 0 (min 160 (s.get Hid.PULSE_AGE 0))).put Hid.PULSE_AGE 0 0

/-- MET_HALF_SAMPLE (R262). -/
def execMetHalfSample (s : State) : Host.Outcome State Fault Refusal := .next s.metHalf

/-- The pulse has lasted its length, in units of half a grid step. -/
def State.pulseOver (s : State) : Bool := decide (s.get Hid.PULSE_LEN 0 ≤ 2 * s.get Hid.PULSE_AGE 0 + 1)

/-- MET_PULSE_END (R262). -/
def execMetPulseEnd (s : State) : Host.Outcome State Fault Refusal := .next (if s.pulseOver then s.clr Hid.PULSE_PIN 0 else s)

/-- MET_STREAM_STUCK (R258). -/
def execMetStreamStuck (stream : Fin 2) (s : State) : Host.Outcome State Fault Refusal :=
  .next (if s.metRuns && s.metSticks stream.val then (s.raiseAt Hid.STUCK 0 stream.val).metFlag 4 else s)

/-- MET_STREAM_RESUME (R258): both streams have been free for 10 ms, which is 40 samples. -/
def execMetStreamResume (s : State) : Host.Outcome State Fault Refusal :=
  .next (if 40 ≤ s.get Hid.FREE_N 0 then (s.clrAt Hid.STUCK 0 0).clrAt Hid.STUCK 0 1 else s)

/-- The 1 ms crystal check (R252): a failure takes the internal oscillator, 100 passes in a row the crystal. -/
def State.metClock (s : State) (ok : Bool) : State :=
  if !s.metUp then s else
    let s := if ok then s.put Hid.CLK_PASS 0 (min 100 (s.get Hid.CLK_PASS 0 + 1))
             else (s.put Hid.CLK_PASS 0 0).raise Hid.CLK_INT 0
    if !s.on Hid.CLK_INT 0 then s
    else if s.get Hid.CLK_PASS 0 = 100 then s.clr Hid.CLK_INT 0
    else
      let s := s.metFlag 5
      if s.get Hid.CLK_SUB 0 < 999 then s.put Hid.CLK_SUB 0 (s.get Hid.CLK_SUB 0 + 1)
      else (s.put Hid.CLK_SUB 0 0).bumpAt Hid.MET_HEALTH 0 6

/-- The crystal runs and differs from the internal oscillator by at most 2 %: 24 500 to 25 500 cycles in 1 ms. -/
def metClockOk (count : Nat) : Bool := decide (24500 ≤ count) && decide (count ≤ 25500)

/-- MET_CLOCK_CHECK (R252). -/
def execMetClockCheck (count : BitVec 16) (s : State) : Host.Outcome State Fault Refusal := .next (s.metClock (metClockOk count.toNat))

/-! Records (R263 to R265). -/

/-- The first 0x60 bytes of a record: what the signature covers. -/
def MetRec.body (x : MetRec) : List Byte :=
  leBytes 4 0x4D455431 ++ leBytes 1 1 ++ leBytes 1 x.kind ++ leBytes 2 x.flags ++ leBytes 8 x.serial ++
  leBytes 4 x.recNo ++ leBytes 4 x.audit ++ leBytes 8 x.opsec ++ leBytes 4 x.pwrIn ++ leBytes 4 x.pwrTot ++
  leBytes 8 x.eImp ++ leBytes 8 x.eExp ++ leBytes 4 x.dImp ++ leBytes 4 x.dExp ++ leBytes 2 x.vmin ++ leBytes 2 x.vmax ++
  leBytes 2 x.ipkImp ++ leBytes 2 x.ipkExp ++ leBytes 4 Config.metFwId.toNat ++ leBytes 4 x.calCrc ++ leBytes 16 0

/-- The 160 bytes of a record. -/
def MetRec.bytes (x : MetRec) : List Byte := x.body ++ beBytes 32 x.r ++ beBytes 32 x.sg

/-- The newest DONE record. -/
def State.metNewest (s : State) : Option MetRec := s.metArch.find? fun x => x.isDone

/-- A frame on the lane toward manager `m`; an unpowered receiver takes none. -/
def State.metSend (s : State) (m : Nat) (f : MetFrame) : State :=
  if !s.on Hid.PRESENT m then s
  else if m = 0 then { s with metTxA := s.metTxA ++ [f] } else { s with metTxB := s.metTxB ++ [f] }

/-- A frame on both lanes. -/
def State.metSendBoth (s : State) (f : MetFrame) : State := (s.metSend 0 f).metSend 1 f

/-- A RECORD frame. -/
def metRecFrame (prio tag : Nat) (x : MetRec) : MetFrame := ⟨prio, 2, leBytes 4 tag ++ x.bytes⟩

/-- Signs a record; before lock r and s are zero (R263, R264). -/
def State.metSign (s : State) (x : MetRec) : MetRec :=
  if s.on Hid.MET_LOCKED 0 then
    let (r, sg) := ecdsaSign (s.get Hid.MET_KEY 0) x.body
    { x with r := r, sg := sg, isDone := true }
  else { x with isDone := true }

/-- Every PENDING record is signed, marked DONE and sent. -/
def State.metComplete (s : State) : State :=
  let old := s.metArch.filter fun (x : MetRec) => !x.isDone
  let s := { s with metArch := s.metArch.map fun (x : MetRec) => if x.isDone then x else s.metSign x }
  s.over old.reverse fun (s : State) (x : MetRec) => s.metSendBoth (metRecFrame 1 0 (s.metSign x))

/-- The difference of two totals; one that has fallen has no stated difference (DESIGN CHOICE, log entry 4). -/
def State.metDelta (s : State) (now before : Nat) : Nat × State := if before ≤ now then (now - before, s) else s.draw

/-- The value of an extreme; an interval without a sample has none stated (DESIGN CHOICE, log entry 4). -/
def State.metExt (s : State) (f : Fld) : Nat × State := if s.on Hid.INT_ANY 0 then (s.get f 0, s) else s.draw

/-- Takes a record: the body goes to the next archive slot, PENDING, and REC_NO moves on (R263, R264). -/
def State.metTake (s : State) (kind : Nat) : State :=
  let pwrIn := s.get Hid.PWRUP_TOTAL 0 - s.get Hid.PREV_PWRUP 0
  let fl := s.get Hid.INT_FLAGS 0 + (if pwrIn ≠ 0 || kind = 2 then 1 else 0) + (if s.on Hid.MET_LOSS 0 then 4 else 0) +
    (if s.on Hid.MET_LOCKED 0 then 0 else 128)
  let (dI, s) := if kind = 2 then (0, s) else s.metDelta (s.get Hid.E_IMP 0) (s.get Hid.PREV_IMP 0)
  let (dE, s) := if kind = 2 then (0, s) else s.metDelta (s.get Hid.E_EXP 0) (s.get Hid.PREV_EXP 0)
  let (vmin, s) := s.metExt Hid.INT_VMIN
  let (vmax, s) := s.metExt Hid.INT_VMAX
  let x : MetRec :=
    { kind := kind, flags := fl, serial := s.get Hid.MET_SERIAL 0, recNo := s.get Hid.NEXT_REC 0, audit := s.get Hid.MET_AUDIT 0,
      opsec := s.get Hid.OPSEC 0, pwrIn := pwrIn, pwrTot := s.get Hid.PWRUP_TOTAL 0, eImp := s.get Hid.E_IMP 0,
      eExp := s.get Hid.E_EXP 0, dImp := dI % 2 ^ 32, dExp := dE % 2 ^ 32, vmin := vmin % 65536, vmax := vmax % 65536,
      ipkImp := s.get Hid.INT_IPK_IMP 0, ipkExp := s.get Hid.INT_IPK_EXP 0, calCrc := s.metCal.crc, r := 0, sg := 0,
      isDone := false }
  let s := { s with metArch := (x :: s.metArch).take 672 }
  s.put Hid.NEXT_REC 0 (s.get Hid.NEXT_REC 0 + 1)

/-- A new interval begins. -/
def State.metNewInterval (s : State) : State :=
  let s := ((s.put Hid.PREV_IMP 0 (s.get Hid.E_IMP 0)).put Hid.PREV_EXP 0 (s.get Hid.E_EXP 0)).put Hid.PREV_PWRUP 0 (s.get Hid.PWRUP_TOTAL 0)
  ((((s.put Hid.INT_FLAGS 0 0).put Hid.INT_ANY 0 0).put Hid.INT_VMIN 0 0).put Hid.INT_VMAX 0 0).put Hid.INT_IPK_IMP 0 0
    |>.put Hid.INT_IPK_EXP 0 0

/-- The record of the running second has been taken. -/
def State.metTaken (s : State) : Bool :=
  s.metArch.any fun x => x.kind = 1 && x.opsec = s.get Hid.OPSEC 0

/-- An interval ends at a multiple of 900 operating seconds (R263). -/
def State.metInterval (s : State) (completed : Bool) : State :=
  if s.metRuns && s.get Hid.OPSEC 0 % 900 = 0 && s.get Hid.OPSEC 0 ≠ 0 && !s.metTaken then
    let s := (s.metTake 1).metNewInterval
    s.when completed fun s => s.metComplete
  else s

/-- MET_INTERVAL_RECORD (R263). -/
def execMetIntervalRecord (completed : Bool) (s : State) : Host.Outcome State Fault Refusal := .next (s.metInterval completed)

/-! Tallies (R270, R271, R273, R274). -/

/-- The model's address of tally cell `k` in MET's ferroelectric array. -/
def metCell (k : Nat) : Nat := 15 * 0x100000000 + 64 * k

/-- Bytes 0x00 to 0x3B of the next tally cell. -/
def State.metTally (s : State) : List Byte :=
  leBytes 4 (s.get Hid.CELL_SEQ 0) ++ leBytes 8 (s.get Hid.E_IMP 0) ++ leBytes 8 (s.get Hid.E_EXP 0) ++
  leBytes 4 (s.get Hid.REM_IMP 0) ++ leBytes 4 (s.get Hid.REM_EXP 0) ++ leBytes 8 (s.get Hid.OPSEC 0) ++
  leBytes 4 (s.get Hid.NEXT_REC 0) ++ leBytes 4 (s.get Hid.PWRUP_TOTAL 0) ++ leBytes 4 (s.get Hid.PULSE_ACC 0) ++ leBytes 12 0

/-- Writes the next cell in rotation with the next sequence number; one cut off keeps a CRC that fails. -/
def State.metStore (s : State) (completed : Bool) : State :=
  let k := s.get Hid.CELL_NEXT 0
  let s := s.put Hid.CELL_SEQ 0 (s.get Hid.CELL_SEQ 0 + 1)
  let b := s.metTally
  let c := crc32 b
  (s.wrBytes (metCell k) (b ++ wordBytes (if completed then c else ~~~c))).put Hid.CELL_NEXT 0 ((k + 1) % 3)

/-- MET_TALLY_STORE (R271): 100 ms, which is 400 samples, after the last one. -/
def execMetTallyStore (completed : Bool) (s : State) : Host.Outcome State Fault Refusal :=
  .next (if s.metRuns && 400 ≤ s.get Hid.TALLY_N 0 then ((s.metStore completed).putB Hid.CELL_CUT 0 !completed).clr Hid.TALLY_N 0 else s)

/-- The watchdog resets MET's processor: SELF_RESET, its health counter, and what was interrupted is completed (R255). -/
def State.metWatchdog (s : State) : State :=
  if !s.metRuns then s else
    let s := (s.metFlag 6).bumpAt Hid.MET_HEALTH 0 1
    let s := s.when (s.on Hid.CELL_CUT 0) fun s => (s.metStore true).clr Hid.CELL_CUT 0
    s.metComplete

/-- MET_WATCHDOG (R255). -/
def execMetWatchdog (s : State) : Host.Outcome State Fault Refusal := .next s.metWatchdog

/-- VDD_MET falls: counting stops, one more cell, and MET is off (R271). -/
def State.metFall (s : State) (completed : Bool) : State :=
  if !s.metUp then s else
    let s := s.when s.metRuns fun s => s.metStore completed
    (((((s.clr Hid.MET_UP 0).clr Hid.MET_FAULTED 0).clr Hid.PULSE_PIN 0).put Hid.HALF_NOW 0 0).put Hid.HALF_NEXT 0 0).put Hid.CELL_CUT 0 0

/-- MET_SUPPLY_FALL (R271). -/
def execMetSupplyFall (completed : Bool) (s : State) : Host.Outcome State Fault Refusal := .next (s.metFall completed)

/-- The CRC of cell `k` passes. -/
def State.metCellOk (s : State) (k : Nat) : Bool :=
  decide (crc32 (s.rdBytes (metCell k) 60) = s.rd32 (metCell k + 60))

/-- A field of cell `k`. -/
def State.metCellAt (s : State) (k off n : Nat) : Nat := leNat (s.rdBytes (metCell k + off) n)

/-- The least of a list of numbers. -/
def leastOf (l : List Nat) : Nat := l.foldl min (l.headD 0)

/-- The greatest of a list of numbers. -/
def mostOf (l : List Nat) : Nat := l.foldl max 0

/-- Restores from the cells of the highest sequence number, each datum by its own rule where they differ (R273). -/
def State.metFromCells (s : State) (ks : List Nat) (seq : Nat) : State :=
  let low (off n : Nat) := leastOf (ks.map fun k => s.metCellAt k off n)
  let high (off n : Nat) := mostOf (ks.map fun k => s.metCellAt k off n)
  let differ := ks.any fun k => s.rdBytes (metCell k) 60 ≠ s.rdBytes (metCell (ks.headD 0)) 60
  let acc := if differ then 0 else low 0x2C 4
  let s := (((s.put Hid.E_IMP 0 (low 4 8)).put Hid.E_EXP 0 (low 0xC 8)).put Hid.REM_IMP 0 (low 0x14 4)).put Hid.REM_EXP 0 (low 0x18 4)
  let s := ((s.put Hid.OPSEC 0 (high 0x1C 8)).put Hid.NEXT_REC 0 (high 0x24 4)).put Hid.PWRUP_TOTAL 0 (high 0x28 4)
  let s := (s.put Hid.PULSE_ACC 0 acc).put Hid.CELL_SEQ 0 seq
  s.when differ fun s => (s.metFlag 1).bumpAt Hid.MET_HEALTH 0 3

/-- Rebuilds from the newest DONE record, or from zero totals, and blows a loss step (R274). -/
def State.metRebuild (s : State) : State :=
  let x := s.metNewest
  let s := ((s.put Hid.E_IMP 0 ((x.map (·.eImp)).getD 0)).put Hid.E_EXP 0 ((x.map (·.eExp)).getD 0)).put Hid.OPSEC 0 ((x.map (·.opsec)).getD 0)
  let s := (s.put Hid.NEXT_REC 0 ((x.map (·.recNo + 1)).getD 0)).put Hid.PWRUP_TOTAL 0 ((x.map (·.pwrTot)).getD 0)
  let s := ((s.put Hid.REM_IMP 0 0).put Hid.REM_EXP 0 0).put Hid.PULSE_ACC 0 0
  let s := s.when x.isNone fun s => ((s.put Hid.PREV_IMP 0 0).put Hid.PREV_EXP 0 0).put Hid.PREV_PWRUP 0 0
  (s.metFlag 1).put Hid.MET_LOSS 0 (min 16 (s.get Hid.MET_LOSS 0 + 1))

/-- The restore of a start (R273, R274): PWRUP_TOTAL increments and all three cells are rewritten. REC_NO goes on behind
every record of the archive, so that it never repeats (R263; DEDUCED, log entry 24). -/
def State.metRestore (s : State) : State :=
  let ok := [0, 1, 2].filter s.metCellOk
  let s := s.over (List.range (3 - ok.length)) fun s _ => s.bumpAt Hid.MET_HEALTH 0 2
  let seq := mostOf (ok.map fun k => s.metCellAt k 0 4)
  let best := ok.filter fun k => s.metCellAt k 0 4 = seq
  let s := if ok.isEmpty then s.metRebuild else s.metFromCells best seq
  let s := s.put Hid.NEXT_REC 0 (max (s.get Hid.NEXT_REC 0) (mostOf (s.metArch.map fun x => x.recNo + 1)))
  let s := s.put Hid.PWRUP_TOTAL 0 (s.get Hid.PWRUP_TOTAL 0 + 1)
  ((s.metStore true).metStore true).metStore true

/-- The fields a start clears: what MET kept outside its tallies and its archive. -/
def metVolatile : List Fld :=
  [Hid.OPSEC_SUB, Hid.HALF_NOW, Hid.HALF_NEXT, Hid.PULSE_PIN, Hid.PULSE_AGE, Hid.PULSE_LEN, Hid.INT_FLAGS, Hid.INT_ANY, Hid.INT_VMIN,
   Hid.INT_VMAX, Hid.INT_IPK_IMP, Hid.INT_IPK_EXP, Hid.LIVE_V, Hid.LIVE_I, Hid.LIVE_P, Hid.OVR_NOW, Hid.OVR_RUN, Hid.OVR_SEC,
   Hid.STUCK, Hid.MOD_SUB, Hid.CLK_INT, Hid.CLK_PASS, Hid.CLK_SUB, Hid.FRAME_NO, Hid.CELL_CUT, Hid.MET_ASKED, Hid.MET_PTR,
   Hid.DENS_N, Hid.FLAT_N, Hid.FREE_N, Hid.TALLY_N]

/-- Every copy of a field at its reset value. -/
def State.resetFld (s : State) (f : Fld) : State := s.over (List.range f.cnt) fun s j => s.putAt f 0 j f.rst

/-- Senses a bank's fuses: a bank that is not blank passes or fails its CRC. -/
def State.metSenseBank (s : State) (bankOk : BitVec 4) (n : Nat) : State :=
  if s.getAt Hid.MB_STATE 0 n = 0 then s
  else s.putAt Hid.MB_STATE 0 n (if bankOk.getLsbD n then 1 else 2)

/-- METER_FAULT after sensing: the serial number, the key or every bank fails; before lock a blank field is no failure and
the default bank stands in for banks that are passed over (R253, R254, R275; DEDUCED, log entry 25). -/
def State.metSenseFault (s : State) (serialOk keyOk : Bool) : Bool :=
  if s.on Hid.MET_LOCKED 0 then
    s.get Hid.MET_SERIAL 0 = 0 || !serialOk || s.get Hid.MET_KEY 0 = 0 || !keyOk || s.metBankNo.isNone
  else
    (s.get Hid.MET_SERIAL 0 ≠ 0 && !serialOk) || (s.get Hid.MET_KEY 0 ≠ 0 && !keyOk) ||
      [0, 1, 2, 3].all fun n => s.getAt Hid.MB_STATE 0 n = 2

/-- MET starts (R253). The lock closes the calibration port for life, so a locked serial number is the one that was programmed (R275). -/
def State.metStart (s : State) (serial : Nat) (serialOk keyOk : Bool) (bankOk : BitVec 4) : State :=
  if s.metUp then s else
    let s := { s.over metVolatile State.resetFld with metTxA := [], metTxB := [] }
    let s := (s.raise Hid.MET_UP 0).when (!s.on Hid.MET_LOCKED 0) fun s => s.put Hid.MET_SERIAL 0 serial
    let s := s.putB Hid.MET_SERIAL_OK 0 (decide (s.get Hid.MET_SERIAL 0 ≠ 0) && serialOk)
    let s := s.over [0, 1, 2, 3] fun s n => s.metSenseBank bankOk n
    let bad := s.metSenseFault serialOk keyOk
    let s := (s.putB Hid.MET_FAULTED 0 bad).metRestore
    if bad then s else ((s.metComplete).metTake 2).metComplete

/-- MET_POWER_UP (R253). -/
def execMetPowerUp (serial : BitVec 64) (serialOk keyOk : Bool) (bankOk : BitVec 4) (s : State) : Host.Outcome State Fault Refusal :=
  .next (s.metStart serial.toNat serialOk keyOk bankOk)

/-! Frames (R266, R267, R269). -/

/-- The STATE word of a LIVE frame. -/
def State.metLiveState (s : State) : Nat :=
  s.get Hid.MET_FAULTED 0 + 2 * s.metStuck.toNat + 4 * s.get Hid.CLK_INT 0 + 8 * s.get Hid.OVR_NOW 0 +
    16 * (!s.on Hid.MET_LOCKED 0).toNat + 32 * (s.on Hid.MET_LOSS 0).toNat

/-- The LIVE area. -/
def State.metLive (s : State) : List Byte :=
  leBytes 8 (s.get Hid.OPSEC 0) ++ leBytes 8 (s.get Hid.E_IMP 0) ++ leBytes 8 (s.get Hid.E_EXP 0) ++ leBytes 4 (s.get Hid.LIVE_V 0) ++
  leBytes 4 (s.get Hid.LIVE_I 0) ++ leBytes 4 (s.get Hid.LIVE_P 0) ++ leBytes 4 s.metLiveState ++ leBytes 4 (s.get Hid.PULSES 0) ++
  leBytes 4 (s.get Hid.FRAME_NO 0)

/-- The public key; none before lock. -/
def State.metPublic (s : State) : Nat × Nat := if s.on Hid.MET_LOCKED 0 then p256Public (s.get Hid.MET_KEY 0) else (0, 0)

/-- The ID area. -/
def State.metIdent (s : State) : List Byte :=
  let c := s.metCal
  let (x, y) := s.metPublic
  leBytes 8 (s.get Hid.MET_SERIAL 0) ++ leBytes 4 Config.metFwId.toNat ++ leBytes 4 c.crc ++ leBytes 2 (s.get Hid.MET_AUDIT 0) ++
  leBytes 2 (s.get Hid.MET_LOSS 0) ++ leBytes 2 c.uR ++ leBytes 2 c.iR ++
  leBytes 4 (c.pulse + 16 * s.metBankNo.getD 0 + 256 * c.iStart) ++ beBytes 32 x ++ beBytes 32 y ++ leBytes 12 0

/-- The HEALTH area. -/
def State.metHealth (s : State) : List Byte :=
  ((List.range 7).map fun k => leBytes 4 (s.getAt Hid.MET_HEALTH 0 k)).flatten ++ leBytes 4 s.metArch.length

/-- MET_LIVE_SEND (R266). -/
def execMetLiveSend (s : State) : Host.Outcome State Fault Refusal :=
  .next (if s.metUp then (s.metSendBoth ⟨2, 1, s.metLive⟩).put Hid.FRAME_NO 0 (s.get Hid.FRAME_NO 0 + 1) else s)

/-- A periodic repeat on both lanes. -/
def State.metRepeat (s : State) (rep : MetRepeat) : State :=
  if !s.metUp then s else
    match rep with
    | .record =>
      match s.metNewest with
      | some x => s.metSendBoth (metRecFrame 3 0 x)
      | none => s
    | .ident => s.metSendBoth ⟨3, 3, s.metIdent⟩
    | .health => s.metSendBoth ⟨3, 4, s.metHealth⟩

/-- MET_PERIODIC_SEND (R266). -/
def execMetPeriodicSend (rep : MetRepeat) (s : State) : Host.Outcome State Fault Refusal := .next (s.metRepeat rep)

/-- MET serves manager `m`'s waiting request where it is this one. -/
def State.metServe (s : State) (m code : Nat) (g : State → State) : State :=
  if s.metUp && s.getAt Hid.MET_ASKED 0 m = code + 1 then g (s.putAt Hid.MET_ASKED 0 m 0) else s

/-- SEND_ID (R267). -/
def execSendId (m : Mgr) (s : State) : Host.Outcome State Fault Refusal :=
  .next (s.metServe m.val 0 fun s => s.metSend m.val ⟨0, 3, s.metIdent⟩)

/-- SEND_HEALTH (R267). -/
def execSendHealth (m : Mgr) (s : State) : Host.Outcome State Fault Refusal :=
  .next (s.metServe m.val 1 fun s => s.metSend m.val ⟨0, 4, s.metHealth⟩)

/-- The latest record, and the replay pointer on it. -/
def State.metSendLast (s : State) (m : Nat) : State :=
  match s.metNewest with
  | some x => (s.putAt Hid.MET_PTR 0 m x.recNo).metSend m (metRecFrame 0 1 x)
  | none => s

/-- SEND_LAST (R267). -/
def execSendLast (m : Mgr) (s : State) : Host.Outcome State Fault Refusal :=
  .next (s.metServe m.val 2 fun s => s.metSendLast m.val)

/-- The record before the pointer with tag 1; from the oldest retained record on, that one with tag 2. -/
def State.metReplay (s : State) (m : Nat) : State :=
  let ptr := s.getAt Hid.MET_PTR 0 m
  match (s.metArch.filter fun x => x.isDone).getLast? with
  | none => s
  | some o =>
    if ptr ≤ o.recNo then (s.putAt Hid.MET_PTR 0 m o.recNo).metSend m (metRecFrame 0 2 o)
    else
      match s.metArch.find? fun x => x.isDone && x.recNo + 1 = ptr with
      | some x => (s.putAt Hid.MET_PTR 0 m x.recNo).metSend m (metRecFrame 0 1 x)
      | none => s

/-- REPLAY_PREV (R267). -/
def execReplayPrev (m : Mgr) (s : State) : Host.Outcome State Fault Refusal :=
  .next (s.metServe m.val 3 fun s => s.metReplay m.val)

/-! The managers' side (R267, R268, R276). -/

/-- A strobe presents CODE to MET, or is refused while BUSY. MET ignores codes outside the set, and drops a strobe while
the manager's last request is unanswered. -/
def State.metStrobe (s : State) (w : Who) (m code : Nat) : State :=
  let m := s.reach w m
  let s := (s.served w m).put Reg.MET_REQ.CODE m code
  if s.on Reg.MET_REQ.BUSY m then s.raise Reg.MET_REQ.REQ_REJ m else
    let s := (s.raise Reg.MET_REQ.BUSY m).put Hid.MREQ_AT m (s.get Hid.BEAT m)
    if !s.metUp then s
    else if s.getAt Hid.MET_ASKED 0 m ≠ 0 then s.bumpAt Hid.MET_HEALTH 0 0
    else if code < 4 then s.putAt Hid.MET_ASKED 0 m (code + 1)
    else s

/-- MET_REQ_STROBE (R276). -/
def execMetReqStrobe (w : Who) (m : Mgr) (code : BitVec 3) (s : State) : Host.Outcome State Fault Refusal :=
  .next (s.metStrobe w m.val code.toNat)

/-- 10 ms of manager `m` have passed since the beat of a field. -/
def State.metSince (s : State) (f : Fld) (m : Nat) : Bool := decide (10000 ≤ beatDiff (s.get Hid.BEAT m) (s.get f m))

/-- MET_REQ_TIMEOUT (R276). -/
def execMetReqTimeout (m : Mgr) (s : State) : Host.Outcome State Fault Refusal :=
  .next (if s.on Reg.MET_REQ.BUSY m.val && s.metSince Hid.MREQ_AT m.val then (s.clr Reg.MET_REQ.BUSY m.val).raise Reg.MET_REQ.REQ_TMO m.val else s)

/-- The model's address of a byte of manager `m`'s read-out window. -/
def metWin (m off : Nat) : Nat := mgrMem m (0x5C000000 + off)

/-- The request that manager `m` waits for is this one. -/
def State.metWaits (s : State) (m code : Nat) : Bool := s.on Reg.MET_REQ.BUSY m && decide (s.get Reg.MET_REQ.CODE m = code)

/-- A new record, or a repeat of the one held (R268). -/
def State.metNewRec (s : State) (m : Nat) (b : List Byte) : State :=
  let no := leNat ((b.drop 16).take 4)
  let fl := leNat ((b.drop 6).take 2)
  if s.on Hid.MET_LAST m && no ≤ (s.rd32 (metWin m 0x110)).toNat then s else
    let s := ((s.wrBytes (metWin m 0x100) b).raise Hid.MET_LAST m).raise Reg.MET_LINK.NEW_REC_EVT m
    let s := s.bump Reg.MET_LINK_COUNTS.REC_RCVD m
    s.when (decide (fl &&& 0x7A ≠ 0)) fun s => s.raise Reg.MET_LINK.REC_FLAG_EVT m

/-- A valid frame goes into the buffer whole; the answer that is waited for clears BUSY. -/
def State.metTakeFrame (s : State) (m : Nat) (f : MetFrame) : State :=
  let s := (s.raise Reg.MET_LINK.LINK_OK m).put Hid.MLINK_AT m (s.get Hid.BEAT m)
  if f.typ = 1 then s.wrBytes (metWin m 0) f.body
  else if f.typ = 3 then
    (s.wrBytes (metWin m 0x40) f.body).when (s.metWaits m 0) fun s => s.clr Reg.MET_REQ.BUSY m
  else if f.typ = 4 then
    (s.wrBytes (metWin m 0x300) f.body).when (s.metWaits m 1) fun s => s.clr Reg.MET_REQ.BUSY m
  else
    let tag := leNat (f.body.take 4)
    let b := f.body.drop 4
    if tag = 0 then s.metNewRec m b
    else ((s.wrBytes (metWin m 0x200) b).wrBytes (metWin m 0x2A0) (leBytes 4 tag)).clr Reg.MET_REQ.BUSY m

/-- The frame that MET sends first of those that wait: the lowest place in the order, the oldest of its place. -/
def metFirst (l : List MetFrame) : Option MetFrame :=
  (List.range 4).findSome? fun p => l.find? fun f => f.prio = p

/-- The payload length of a frame type, words; none of an unknown type (R266). -/
def metLen (typ : Nat) : Nat :=
  match typ with
  | 1 => 12
  | 2 => 41
  | 3 => 26
  | 4 => 8
  | _ => 0

/-- Header and payload of a frame, the bytes of each word low first (DESIGN CHOICE, log entry 128). -/
def MetFrame.head (f : MetFrame) : List Byte := leBytes 4 (0x7E5A0000 + f.typ * 256 + f.body.length / 4) ++ f.body

/-- A frame as the lane carries it: header, payload, and the CRC-32 over both (R266). -/
def MetFrame.bytes (f : MetFrame) : List Byte := f.head ++ wordBytes (crc32 f.head)

/-- The frame that a manager reads from what arrives: a header of a known TYPE with its LEN, and a CRC that passes (R268). -/
def metParse (b : List Byte) : Option MetFrame :=
  let head := leNat (b.take 4)
  let typ := head / 256 % 256
  let n := metLen typ
  if n ≠ 0 && head / 65536 = 0x7E5A && head % 256 = n && b.length = 4 * n + 8 && b.drop (4 * n + 4) = wordBytes (crc32 (b.take (4 * n + 4))) then
    some ⟨0, typ, (b.drop 4).take (4 * n)⟩
  else none

/-- The next frame of a lane reaches its manager. -/
def State.metReceive (s : State) (m : Nat) (arrived : List Byte) : State :=
  match metFirst (if m = 0 then s.metTxA else s.metTxB) with
  | none => s
  | some f =>
    let s := if m = 0 then { s with metTxA := s.metTxA.erase f } else { s with metTxB := s.metTxB.erase f }
    if !s.on Hid.PRESENT m then s
    else
      match metParse arrived with
      | some x => s.metTakeFrame m x
      | none => s.bump Reg.MET_LINK_COUNTS.FRAME_ERR m

/-- MET_FRAME_RECEIVE (R268). -/
def execMetFrameReceive (m : Mgr) (arrived : List Byte) (s : State) : Host.Outcome State Fault Refusal := .next (s.metReceive m.val arrived)

/-- MET_LINK_LOST (R268). -/
def execMetLinkLost (m : Mgr) (s : State) : Host.Outcome State Fault Refusal :=
  .next (if s.on Reg.MET_LINK.LINK_OK m.val && s.metSince Hid.MLINK_AT m.val then (s.clr Reg.MET_LINK.LINK_OK m.val).raise Reg.MET_LINK.LINK_LOST_EVT m.val else s)

/-! The calibration port (R272, R275). -/

/-- The largest magnitude that R257 gives for a clamped sample. -/
def metPeak (fs : Nat) (gain ofs : Int) : Nat :=
  max (metScale fs gain ofs (2 ^ 23)).natAbs (metScale fs gain ofs (-(2 ^ 23))).natAbs

/-- MET refuses the bank: PULSE_SRC 0b11, a rating above 1 800 kW, or a full-scale power above 2 880 kW (R272, R275). -/
def metRefuses (b : MetBank) : Bool :=
  decide (b.pulse = 3) || decide (1800000 < b.uR.toNat * b.iR.toNat) ||
    decide (2880000 * (metDen * metDen) < metPeak b.fsI.toNat b.gainI.toInt b.ofsI.toInt * metPeak b.fsV.toNat b.gainV.toInt b.ofsV.toInt)

/-- A bank write blows the next audit step, then writes the bank with its CRC. The layout of a bank's bits is not stated, so its
CRC is a free value (DESIGN CHOICE, log entry 4). -/
def State.metBankWrite (s : State) (n : Nat) (b : MetBank) (completed : Bool) : State :=
  if !s.metUp || s.on Hid.MET_LOCKED 0 || metRefuses b || 8 ≤ s.get Hid.MET_AUDIT 0 then s else
    let s := s.put Hid.MET_AUDIT 0 (s.get Hid.MET_AUDIT 0 + 1)
    let (crc, s) := s.draw
    let s := ((s.putAt Hid.MB_I_R 0 n b.iR.toNat).putAt Hid.MB_U_R 0 n b.uR.toNat).putAt Hid.MB_FS_I 0 n b.fsI.toNat
    let s := ((s.putAt Hid.MB_GAIN_I 0 n b.gainI.toNat).putAt Hid.MB_OFS_I 0 n b.ofsI.toNat).putAt Hid.MB_FS_V 0 n b.fsV.toNat
    let s := ((s.putAt Hid.MB_GAIN_V 0 n b.gainV.toNat).putAt Hid.MB_OFS_V 0 n b.ofsV.toNat).putAt Hid.MB_I_START 0 n b.iStart.toNat
    ((s.putAt Hid.MB_PULSE 0 n b.pulse.toNat).putAt Hid.MB_CRC 0 n crc).putAt Hid.MB_STATE 0 n (if completed then 1 else 2)

/-- MET_CAL_BANK_WRITE (R275). -/
def execMetCalBankWrite (n : Fin 4) (bank : MetBank) (completed : Bool) (s : State) : Host.Outcome State Fault Refusal :=
  .next (s.metBankWrite n.val bank completed)

/-- The lock: it needs a serial number that passes and a bank in force; it writes the private key and closes the port. -/
def State.metLock (s : State) (key : Nat) : State :=
  if s.metUp && !s.on Hid.MET_LOCKED 0 && s.on Hid.MET_SERIAL_OK 0 && s.metBankNo.isSome && 0 < key && key < p256N then
    (s.put Hid.MET_KEY 0 key).raise Hid.MET_LOCKED 0
  else s

/-- MET_LOCK (R275). -/
def execMetLock (key : BitVec 256) (s : State) : Host.Outcome State Fault Refusal := .next (s.metLock key.toNat)

end Sys2Proof.Machine
end

