-- ==== Sys2Proof/Machine/Lines.lean ====
section
/-!
DEFINITION. The lines of the event sources (R309): which bits of a unit make a source's line 1.
-/
namespace Sys2Proof.Machine

/-- Some of the bits is set, in one block. -/
def State.anyOf (s : State) (l : List Fld) (i : Nat) : Bool := l.any fun f => s.on f i

/-- Some of the bits is set, in one of the blocks. -/
def State.anyIn (s : State) (l : List Fld) (is : List Nat) : Bool := is.any fun i => s.anyOf l i

/-- Some of the bits of manager `m` is set; a setting that both managers hold once is the active manager's (DEDUCED, log entry 6). -/
def State.anyMgr (s : State) (l : List Fld) (m : Nat) : Bool :=
  l.any fun f => s.on f (f.home m) && (f.perDie || s.isActive m)

/-- The W1C bits of PH_STATUS and PH_PROT_STATUS. -/
def phaseLine : List Fld :=
  [Reg.PH_STATUS.IMON_FLT, Reg.PH_STATUS.TF_FLT, Reg.PH_STATUS.PROBE_FAIL, Reg.PH_STATUS.PARK_EVT, Reg.PH_STATUS.SHED_EVT,
   Reg.PH_STATUS.CLAMP, Reg.PH_STATUS.CFG_REJ, Reg.PH_STATUS.CMD_DROP, Reg.PH_STATUS.ICAL_WR_LOST, Reg.PH_STATUS.REPEAT_BLOCK,
   Reg.PH_PROT_STATUS.LIMITED, Reg.PH_PROT_STATUS.HARD_EVT, Reg.PH_PROT_STATUS.PROT_REJ, Reg.PH_PROT_STATUS.LIMIT_OVERLAP]

/-- The W1C bits of RAIL_PROT_STATUS. -/
def railProtLine : List Fld :=
  [Reg.RAIL_PROT_STATUS.OV_EVT, Reg.RAIL_PROT_STATUS.UV_EVT, Reg.RAIL_PROT_STATUS.OC_EVT, Reg.RAIL_PROT_STATUS.PROT_OFF,
   Reg.RAIL_PROT_STATUS.CH_DISAGREE, Reg.RAIL_PROT_STATUS.PROT_REJ, Reg.RAIL_PROT_STATUS.PROT_OVERLAP]

/-- A tile with a phase that is assigned to a rail. -/
def State.tilePhases (s : State) (t : Nat) : Bool := (phasesOfTile t).any fun p => decide (s.railOf p < 48)

/-- The blocks of a rail that is not marked unused. -/
def State.railBlocks (s : State) (r : Nat) : List Nat := if s.kindOf r = 0 then [] else (s.tilesOf r).map fun t => railIx t r

/-- Line TILE_t_k. -/
def State.tileLine (s : State) (t k : Nat) : Bool :=
  match k with
  | 0 => s.anyOf [Reg.TILE_CLK_STATUS.FREERUN_EVT, Reg.TILE_CLK_STATUS.SWITCH_EVT, Reg.TILE_CLK_STATUS.HOLDOVER_EVT] t
  | 1 => s.anyOf [Reg.CROSS_LANE_STATUS.LANE_FAIL_UP, Reg.CROSS_LANE_STATUS.LANE_FAIL_LO, Reg.CROSS_LANE_STATUS.LANE_FAIL_B,
      Reg.CROSS_LANE_STATUS.LANE_FAIL_A] t
  | 2 => s.anyOf [Reg.TILE_THERM.SENSOR_DISAGREE, Reg.TILE_THERM.TSD_EVT, Reg.TILE_THERM.THR_EVT, Reg.TILE_THERM.WARN_EVT] t
  | 3 => s.anyOf [Reg.SNS_STATUS.SNS_LOST_EVT, Reg.SNS_STATUS.RETIRE_EVT, Reg.SNS_STATUS.SPARE_OUT, Reg.SNS_STATUS.CMP_FAIL, Reg.DIAG_RESULT.DIAG_REJ] t
  | 4 => s.anyOf [Reg.SPARE_STATUS.TAKEOVER_EVT, Reg.SPARE_STATUS.HANDBACK_REJ, Hid.SPARE_BAD] t
  | 5 => s.anyOf [Reg.CINCH_WIRE_STATUS.CWIRE_FLT_UP, Reg.CINCH_WIRE_STATUS.CWIRE_FLT_LO] t
  | 6 => s.anyOf [Reg.FC_PORT_STATUS.NOCLK_A, Reg.FC_PORT_STATUS.NOCLK_B] t || s.bitAt Hid.EV_ONCE (448 + 8 * t + 6)
  | _ => s.anyOf [Reg.TILE_AUTO.MGR_SILENT, Reg.TILE_AUTO.AUTO_KERB, Reg.CAP_STATUS.TRIGGERED] t

/-- Line HPD_k. -/
def State.hpdLine (s : State) (k : Nat) : Bool :=
  match k with
  | 0 => s.on Reg.BFET_STATUS.ON_BAT_EVT 0
  | 1 => s.anyOf [Reg.BFET_STATUS.DSG_SHORT, Reg.BFET_STATUS.DSG_OC] 0
  | 2 => s.on Reg.BFET_STATUS.FET_DEGRADED 0
  | 3 => s.on Reg.VBB_STATUS.VAUX_OV_EVT 0
  | 4 => s.anyOf [Reg.CHG_FAULT.BTS_FLT, Reg.CHG_FAULT.CHG_OC, Reg.CHG_FAULT.BAT_OV, Reg.CHG_FAULT.TCHG_TMO, Reg.CHG_FAULT.TPRE_TMO,
      Reg.CHG_FAULT.TTRK_TMO, Reg.CHG_FAULT.BAT_SHORT, Reg.CHG_FAULT.NO_BAT] 0
  | 5 => s.anyOf [Reg.GG_STATUS.FULL_EVT, Reg.GG_STATUS.EMPTY_EVT] 0
  | 6 => s.on Reg.GG_STATUS.SWAP_EVT 0
  | 7 => s.on Reg.PACK_STATUS.AUTH_EVT 0
  | 8 => s.anyOf [Reg.HPD_THERM.SENSOR_DISAGREE, Reg.HPD_THERM.TSD_EVT, Reg.HPD_THERM.THR_EVT, Reg.HPD_THERM.WARN_EVT] 0
  | 9 => s.on Reg.GG_STATUS.GREC_DISAGREE 0
  | 10 => s.on Reg.GG_STATUS.KERB_LOW 0
  | _ => false

/-- Line MET_k, which the link of either manager shows. -/
def State.metLine (s : State) (k : Nat) : Bool :=
  match k with
  | 0 => s.on Reg.MET_LINK.NEW_REC_EVT s.act
  | 1 => s.on Reg.MET_LINK.REC_FLAG_EVT s.act
  | 2 => s.on Reg.MET_LINK.LINK_LOST_EVT s.act
  | _ => false

/-- Line `k` of manager `m`'s own sources. -/
def State.mgrLine (s : State) (m k : Nat) : Bool :=
  match k with
  | 0 => s.anyMgr [Reg.CLK_STATUS.XTAL_FAIL, Reg.CLK_STATUS.LOCK_LOST] m
  | 1 => s.anyMgr [Reg.CLK_STATUS.CLOCK_DISAGREE] m
  | 3 => s.anyMgr [Reg.MEM_STATUS.UNCORR] m
  | 4 => s.anyMgr [Reg.MEM_STATUS.SP_CORR, Reg.MEM_STATUS.FE_CORR] m
  | 5 => s.anyMgr [Reg.WDT_STATUS.EWARN] m
  | 6 => s.anyMgr [Reg.WDT_STATUS.EXPIRED] m
  | 7 => s.anyMgr [Reg.MGR_THERM.WARN_EVT, Reg.MGR_THERM.THR_EVT, Reg.MGR_THERM.SENSOR_DISAGREE] m
  | 8 => s.anyMgr [Reg.REIN_STATUS.TAKEOVER_EVT, Reg.REIN_STATUS.ROLE_CONTEST, Reg.REIN_STATUS.PEER_LOST] m
  | 9 => s.anyMgr [Reg.SEQ_STATUS.SEQ_EVT, Reg.SEQ_STATUS.BUSY_REJ, Reg.SNAP_STATUS.SNAP_EVT] m
  | 10 => s.anyMgr [Reg.KERB_STATUS.IN_KERB] m
  | 11 => s.anyMgr [Reg.FLT_CFG.FLT_SEEN] m
  | 12 => s.anyMgr [Reg.SQL_STATUS.BEAT_REGRESS, Reg.SQL_STATUS.LANE_LOST, Reg.SQL_STATUS.MASTER_CONFLICT, Reg.SQL_STATUS.WORKER_LOST] m
  | 13 => s.anyMgr [Reg.JRNL_STATUS.UNREAD_FAIL] m
  | 14 => s.anyMgr [Reg.UPD_STATUS.EVT] m
  | 15 => s.anyMgr [Reg.HB_STATUS.CFG_REJ, Reg.HB_STATUS.DENIED, Reg.HB_STATUS.MALFORMED, Reg.HB_STATUS.STRETCH_TMO, Reg.HB_STATUS.SDA_TMO,
      Reg.HB_STATUS.SCL_TMO, Reg.HB_STATUS.PEC_ERR, Reg.HB_STATUS.OVERSIZE, Reg.HB_STATUS.BAD_CMD] m
  | 16 => s.anyMgr [Reg.SP_STATUS.CFG_REJ, Reg.SP_STATUS.BAD_STAGE, Reg.SP_STATUS.DENIED, Reg.SP_STATUS.OVERRUN, Reg.SP_STATUS.GAP_TMO,
      Reg.SP_STATUS.OVERSIZE, Reg.SP_STATUS.CRC_ERR, Reg.SP_STATUS.FRAMING] m
  | 17 => s.anyMgr [Reg.FUSE_STATUS.ZERO_ATTEMPT, Reg.LC_CTRL.LC_REJ] m
  | 18 => s.anyMgr [Reg.LOAD_STATUS.PEER_MISMATCH, Reg.LOAD_STATUS.TILE_FUSE_FAIL, Reg.LOAD_STATUS.FALLBACK, Reg.LOAD_STATUS.KREST_NONE,
      Reg.DEV_STATE.ARM_LATE, Reg.DEV_CTRL.CMD_REJ] m
  | 19 => s.anyMgr [Reg.RTC_STATUS.ALM_EVT, Reg.RTC_STATUS.TAMP_EVT, Reg.RTC_STATUS.BKUP_LOW] m
  | 23 => s.isActive m && (List.range 8).any s.isoLow
  | 2 | 20 | 21 | 22 => s.bitAt Hid.EV_ONCE (504 + 32 * m + k)
  | _ => false

/-- The level of source `n`'s line (R309). A reserved source, or a source of a unit that is not configured, is never 1 (DEDUCED, log entry 8). -/
def State.lineNow (s : State) (n : Nat) : Bool :=
  if n < 96 then decide (s.railOf n < 48) && s.anyOf phaseLine n
  else if n < 192 then
    s.anyOf [Reg.ENG_STATUS.OVERRUN, Reg.ENG_STATUS.ILLEGAL, Reg.ENG_STATUS.ACC_SAT, Reg.ENG_FAULT.KIND] (n - 96) && s.tilePhases (tileOf (n - 96))
  else if n < 240 then s.anyIn railProtLine (s.railBlocks (n - 192))
  else if n < 288 then
    s.anyIn [Reg.RAIL_SUP_STATUS.PG_LOST_EVT, Reg.RAIL_SUP_STATUS.EN_FAIL_EVT, Reg.RAIL_SUP_STATUS.STUCK_EVT] (s.railBlocks (n - 240))
  else if n < 336 then
    s.anyIn [Reg.CINCH_STATUS.TRIP_EVT] (s.railBlocks (n - 288)) || (s.bitAt Hid.EV_ONCE n && !(s.railBlocks (n - 288)).isEmpty)
  else if n < 384 then
    s.anyIn [Reg.MIRR_STATUS.HALF_LOST_EVT, Reg.MIRR_STATUS.SPLIT_EVT, Reg.MIRR_STATUS.REJOIN_REJ, Reg.RAIL_PROT_STATUS.CH_DISAGREE]
      (s.railBlocks (n - 336))
  else if n < 408 then s.bit Reg.STG_GROUP_STATUS.TF_FLT_EVT ((n - 384) / 6) ((n - 384) % 6) && s.tilePhases ((n - 384) / 6)
  else if n < 440 then
    let t := (n - 408) / 8
    let g := (n - 408) % 8
    s.tilePhases t && (decide (2 ≤ s.getAt Hid.VIN_LO_N t g) || decide (2 ≤ s.getAt Hid.VIN_HI_N t g))
  else if n < 448 then
    let g := n - 440
    s.onAt Reg.IG_OC.IG_OC_EVT 0 g || s.bit Reg.HK_FLAGS.VIN_DISAGREE s.act g || s.bit Reg.HK_CFG.EST_STALE s.act g
  else if n < 480 then s.tilePhases ((n - 448) / 8) && s.tileLine ((n - 448) / 8) ((n - 448) % 8)
  else if n < 496 then s.hpdLine (n - 480)
  else if n < 504 then s.metLine (n - 496)
  else if n < 568 then s.mgrLine ((n - 504) / 32) ((n - 504) % 32)
  else if n < 600 then s.bit Reg.SW_LINE.SW_LINE 0 (n - 568)
  else false

end Sys2Proof.Machine
end

