-- ==== Sys2Proof/Machine/Events.lean ====
section
/-!
DEFINITION. The trace unit (R383), and the event controller's sources, records, queues, folds and overflow (R310 to R325).
-/
namespace Sys2Proof.Machine

/-! Trace. -/

/-- The model's address of trace record `k` of manager `m`. -/
def traceAddr (m k : Nat) : Nat := mgrMem m (0x400B8000 + 16 * k)

/-- One trace record for core `c` (3 is the safety core): TYPE, the low 26 bits of `low`, word 1, beat and epoch (R383). -/
def State.trace (s : State) (m c typ low w1 : Nat) : State :=
  if !s.bit Reg.TRACE_CTRL.CORE_EN m c then s
  else if s.on Reg.TRACE_CTRL.STOP_FULL m && s.on Reg.TRACE_STATUS.FULL m then s.bump Reg.TRACE_STATUS.LOST m
  else
    let k := s.get Reg.TRACE_STATUS.WPTR m
    let w0 := typ * 2 ^ 28 + c * 2 ^ 26 + low % 2 ^ 26
    let b := s.get Hid.BEAT m + s.get Hid.EPOCH m * 2 ^ 40
    let s := s.wrBytes (traceAddr m k) (leBytes 4 w0 ++ leBytes 4 w1 ++ leBytes 8 b)
    (s.put Reg.TRACE_STATUS.WPTR m ((k + 1) % 2048)).when (k = 2047) fun s => s.raise Reg.TRACE_STATUS.FULL m

/-! Sources. -/

/-- The manager-local sources whose class is fixed to safety (R309). -/
def fixedSafety (n : Nat) : Bool :=
  decide (504 ≤ n) && decide (n < 568) && [0, 2, 3, 5, 6, 10, 23].contains ((n - 504) % 32)

/-- The class a source has from reset on (R309). -/
def classAtReset (n : Nat) : Nat :=
  if fixedSafety n then 2
  else if n = 497 then 3
  else if 504 ≤ n && n < 568 && [1, 7, 8, 11, 12, 17, 18, 19].contains ((n - 504) % 32) then 1
  else 0

/-- The fold class a source has from reset on (R320). -/
def foldAtReset (n : Nat) : Nat :=
  if n < 96 then 2 else if n < 192 then 3 else if n < 240 then 4 else if n < 288 then 5
  else if 384 ≤ n && n < 408 then 6 else if 408 ≤ n && n < 440 then 1 else 0

/-- CLASS of a source: its register holds the difference from the class at reset; a fixed source stays safety. -/
def State.srcClassReg (s : State) (n : Nat) : Nat :=
  if fixedSafety n then 2 else s.getAt Reg.SRC_CFG.CLASS 0 n ^^^ classAtReset n

/-- FOLD_CLS of a source: its register holds the difference from the fold class at reset. -/
def State.srcFoldReg (s : State) (n : Nat) : Nat := s.getAt Reg.SRC_CFG.FOLD_CLS 0 n ^^^ foldAtReset n

/-- Settings of a source: SENSE, CLASS, PRIO, FOLD_CLS, HOST from bit 0 up. -/
def State.srcPack (s : State) (n : Nat) : Nat :=
  s.getAt Reg.SRC_CFG.SENSE 0 n + s.srcClassReg n * 4 + s.getAt Reg.SRC_CFG.PRIO 0 n * 16 + s.srcFoldReg n * 256 +
    s.getAt Reg.SRC_CFG.HOST 0 n * 4096

/-- The settings in force: those from before a write that waits for the completion (R325). -/
def State.srcSet (s : State) (n : Nat) : Nat :=
  if 2 ^ 17 ≤ s.getAt Hid.EV_OLD 0 n then s.getAt Hid.EV_OLD 0 n - 2 ^ 17 else s.srcPack n

/-- SENSE in force. -/
def State.srcSense (s : State) (n : Nat) : Nat := s.srcSet n % 4
/-- CLASS in force. -/
def State.srcClass (s : State) (n : Nat) : Nat := s.srcSet n / 4 % 4
/-- PRIO in force; 0 acts as 1 (R317). -/
def State.srcPrio (s : State) (n : Nat) : Nat := max 1 (s.srcSet n / 16 % 16)
/-- FOLD_CLS in force. -/
def State.srcFold (s : State) (n : Nat) : Nat := s.srcSet n / 256 % 16
/-- HOST in force. -/
def State.srcHost (s : State) (n : Nat) : Bool := (s.srcSet n).testBit 12

/-- The source is active (R311). -/
def State.srcActive (s : State) (n : Nat) : Bool := s.bitAt Reg.SRC_ACTIVE.ACTIVE n

/-! Records in memory (R313). -/

/-- The words of a record: four, or eight with the extension of a fold. -/
def EvRec.words (r : EvRec) : List Nat :=
  let hi := r.beat / 2 ^ 32 % 256 * 2 ^ 24
  let w0 := r.typ * 2 ^ 28 + r.cls * 2 ^ 26 + r.src * 2 ^ 16 + r.prio * 2 ^ 12 + (decide (r.typ = 2)).toNat * 2 ^ 11 + r.again.toNat * 2 ^ 10 +
    r.late.toNat * 2 ^ 9 + r.takeover.toNat * 2 ^ 8 + r.line.toNat * 2 ^ 7 + r.sub
  if r.typ = 4 then [4 * 2 ^ 28 + 0x3FF * 2 ^ 16, r.seq, r.beat % 2 ^ 32, hi + min r.count (2 ^ 24 - 1)]
  else if r.typ = 2 then
    [w0, r.seq, r.beat % 2 ^ 32, hi + min r.count 4095 * 2 ^ 12 + r.foldCls * 2 ^ 8,
     3 * 2 ^ 28 + r.base * 2 ^ 18 + r.lastSub * 2 ^ 11 + min r.delta 2047, r.bitmap % 2 ^ 32, r.bitmap / 2 ^ 32 % 2 ^ 32, r.bitmap / 2 ^ 64]
  else [w0, r.seq, r.beat % 2 ^ 32, hi + r.count * 2 ^ 16 + r.detail]

/-- The slots a record takes. -/
def EvRec.slots (r : EvRec) : Nat := if r.typ = 2 then 2 else 1

/-- The slots a queue uses. -/
def slotsUsed (l : List EvRec) : Nat := (l.map EvRec.slots).sum

/-- Slots of the main queue's ring (R315). -/
def State.qSize (s : State) : Nat := 256 * 2 ^ s.get Reg.EVC_QCFG.Q_SIZE 0

/-- Writes a record into a ring of both managers' scratchpads, the active one's and the shadow's (R315, R324). -/
def State.ringWrite (s : State) (base size : Nat) (r : EvRec) : State :=
  s.over ((List.range 2).filter fun m => s.on Hid.PRESENT m) fun s m =>
    s.over (List.range r.slots) fun s k =>
      s.wrBytes (mgrMem m (base + 16 * ((r.slot + k) % size))) (((r.words.drop (4 * k)).take 4).map (leBytes 4)).flatten

/-- Writes a record of the main queue into its ring. -/
def State.mainWrite (s : State) (r : EvRec) : State :=
  s.ringWrite (0x10000000 + 256 * s.get Reg.EVC_QCFG.Q_BASE 0) s.qSize r

/-- The next SEQ (R313). -/
def State.nextSeq (s : State) : Nat × State :=
  let q := (s.get Hid.EV_SEQ 0 + 1) % 2 ^ 31
  (q, s.put Hid.EV_SEQ 0 q)

/-! Queues with a reserve for an overflow record (R322). -/

/-- The three queues. -/
inductive EvQueue where
  | main | safe | host
  deriving DecidableEq, Repr

/-- The records of a queue. -/
def State.queue (s : State) : EvQueue → List EvRec
  | .main => s.evMain
  | .safe => s.evSafe
  | .host => s.evHost

/-- Sets the records of a queue. -/
def State.setQueue (s : State) (q : EvQueue) (l : List EvRec) : State :=
  match q with
  | .main => { s with evMain := l }
  | .safe => { s with evSafe := l }
  | .host => { s with evHost := l }

/-- The places a queue uses; a host-queue entry holds a fold whole. -/
def State.qUsed (s : State) (q : EvQueue) : Nat := if q = .host then s.evHost.length else slotsUsed (s.queue q)

/-- The places of a queue. -/
def State.qRoom (s : State) : EvQueue → Nat
  | .main => s.qSize
  | .safe => 64
  | .host => 128

/-- The record fits and leaves the reserve. -/
def State.qFits (s : State) (q : EvQueue) (r : EvRec) : Bool :=
  decide (s.qUsed q + (if q = .host then 1 else r.slots) ≤ s.qRoom q - 1) && !(q = .main && !s.on Reg.EVC_CTRL.QEN 0)

/-- Every record written makes the overflow records before it final. -/
def closeOvf (l : List EvRec) : List EvRec := l.map fun r => if r.typ = 4 then { r with isOpen := false } else r

/-- Puts a record at a queue's tail and into its ring. -/
def State.qPut (s : State) (q : EvQueue) (r : EvRec) : State :=
  match q with
  | .main =>
    let r := { r with slot := s.get Reg.EVC_QPTR.TAIL 0 }
    let s := s.setQueue .main (closeOvf s.evMain ++ [r])
    (s.mainWrite r).put Reg.EVC_QPTR.TAIL 0 ((r.slot + r.slots) % s.qSize)
  | .safe =>
    let r := { r with slot := s.get Hid.SQ_TAIL 0 }
    let s := s.setQueue .safe (closeOvf s.evSafe ++ [r])
    (s.ringWrite 0x100FF000 64 r).put Hid.SQ_TAIL 0 ((r.slot + 1) % 64)
  | .host => s.setQueue .host (closeOvf s.evHost ++ [r])

/-- A record of its own with nothing set. -/
def evBlank : EvRec :=
  { typ := 1, cls := 0, src := 0, prio := 0, again := false, late := false, takeover := false, line := false, sub := 0, seq := 0,
    beat := 0, count := 1, detail := 0, foldCls := 0, base := 0, lastSub := 0, delta := 0, bitmap := 0, isOpen := false,
    host := false, slot := 0 }

/-- A loss: LOST of the newest record where that is an open overflow record, or a new overflow record in the reserve. -/
def State.qLose (s : State) (q : EvQueue) (beat : Nat) : State :=
  match (s.queue q).getLast? with
  | some r =>
    if r.typ = 4 && r.isOpen then
      let r := { r with count := min (r.count + 1) (2 ^ 24 - 1) }
      let s := s.setQueue q ((s.queue q).dropLast ++ [r])
      match q with
      | .main => s.mainWrite r
      | .safe => s.ringWrite 0x100FF000 64 r
      | .host => s
    else if s.qUsed q < s.qRoom q && !(q = .main && !s.on Reg.EVC_CTRL.QEN 0) then
      let (n, s) := s.nextSeq
      (s.qPut q { evBlank with typ := 4, seq := n, beat := beat, isOpen := true }).raise Reg.EVC_STATUS.OVF_EVT 0
    else s
  | none => s

/-- A record's copy in the host queue (R323). -/
def State.hostCopy (s : State) (r : EvRec) : State :=
  if s.qFits .host r then s.qPut .host { r with isOpen := false } else s.qLose .host r.beat

/-! Recording an occurrence (R311, R313, R320). -/

/-- BASE of a fold class: the lowest source of the class. -/
def State.foldBase (s : State) (k : Nat) : Nat := ((List.range 640).find? fun n => s.srcFold n = k).getD 0

/-- A source becomes active. -/
def State.activate (s : State) (n : Nat) : State :=
  (s.putBitAt Reg.SRC_ACTIVE.ACTIVE n true).putBitAt Hid.EV_HELD n false

/-- A fold closes: it becomes takeable and, where a member has HOST, goes to the host queue (R320, R323). -/
def State.foldClose (s : State) (k : Nat) : State :=
  match s.evMain.find? fun (r : EvRec) => r.typ = 2 && r.isOpen && r.foldCls = k with
  | none => s
  | some r =>
    let s := { s with evMain := s.evMain.map fun (x : EvRec) => if x.seq = r.seq && x.typ = 2 then { x with isOpen := false } else x }
    s.when r.host fun s => s.hostCopy r

/-- The occurrence comes more than FOLD_WIN µs after the first of the fold; one that another die detected before the first does not (R314, R320; DEDUCED,
log entry 127). -/
def State.foldPast (s : State) (r : EvRec) (beat sub : Nat) : Bool :=
  let d := beatDiff beat r.beat
  decide (d < 2 ^ 39) && decide (s.get Reg.EVC_CTRL.FOLD_WIN 0 * 100 + r.sub < d * 100 + sub)

/-- A fold whose time is over closes before another occurrence of its class is recorded. -/
def State.foldEnds (s : State) (k beat sub : Nat) : State :=
  s.when (s.evMain.any fun (r : EvRec) => r.typ = 2 && r.isOpen && r.foldCls = k && s.foldPast r beat sub) fun s => s.foldClose k

/-- The occurrence joins an open fold. -/
def State.foldJoin (s : State) (r : EvRec) (n beat sub : Nat) : State :=
  let r' := { r with count := min (r.count + 1) 4095, bitmap := withBit r.bitmap (n - r.base) true, lastSub := sub,
                     delta := beatDiff beat r.beat, host := r.host || s.srcHost n }
  let s := { s with evMain := s.evMain.map fun (x : EvRec) => if x.seq = r.seq && x.typ = 2 then r' else x,
                    evFolds := s.evFolds.map fun (f : EvFold) => if f.seq = r.seq then { f with srcs := f.srcs ++ [n] } else f }
  (s.mainWrite r').activate n

/-- An occurrence that finds no space: an edge is lost, a level-sensed source keeps its occurrence held and counts once. -/
def State.noRoom (s : State) (q : EvQueue) (n beat sub : Nat) : State :=
  if s.srcSense n = 0 then
    if s.bitAt Hid.EV_HELD n then s
    else (((s.putBitAt Hid.EV_HELD n true).putAt Hid.EV_BEAT 0 n beat).putAt Hid.EV_SUB 0 n sub).qLose q beat
  else s.qLose q beat

/-- Records an occurrence of an idle source. -/
def State.record (s : State) (n beat sub count : Nat) (again late takeover : Bool) : State :=
  let cls := s.srcClass n
  let k := s.srcFold n
  let folds := decide (cls ≠ 2) && decide (k ≠ 0) && decide (s.get Reg.EVC_CTRL.FOLD_WIN 0 ≠ 0) && !again
  let s := s.when folds fun s => s.foldEnds k beat sub
  match (if folds then s.evMain.find? fun (r : EvRec) => r.typ = 2 && r.isOpen && r.foldCls = k else none) with
  | some r => s.foldJoin r n beat sub
  | none =>
    let r : EvRec :=
      { evBlank with typ := if folds then 2 else 1, cls := cls, src := n, prio := s.srcPrio n, again := again, late := late,
                     takeover := takeover, line := s.bitAt Reg.SRC_LINE.LINE n, sub := sub, beat := beat, count := count,
                     detail := s.getAt Hid.EV_DET 0 n, foldCls := k, base := if folds then s.foldBase k else 0, lastSub := sub,
                     bitmap := if folds then 2 ^ (n - s.foldBase k) else 0, isOpen := folds, host := s.srcHost n }
    let q := if cls = 2 then EvQueue.safe else EvQueue.main
    if !s.qFits q r then s.noRoom q n beat sub
    else
      let (seq, s) := s.nextSeq
      let r := { r with seq := seq }
      let s := (s.qPut q r).activate n
      let s := s.when folds fun s => { s with evFolds := s.evFolds ++ [⟨k, seq, [n]⟩] }
      s.when (r.host && !folds) fun s => s.hostCopy r

/-- Any enabled source's occurrence wakes the sleeping management cores that are not halted; the safety core wakes on safety class (R319). -/
def State.wakeCores (s : State) (n : Nat) : State :=
  let s := s.over ((List.range 3).filter fun c => s.onAt Reg.EVC_CORE.SLEEPING 0 c && !s.onAt Reg.EVC_CORE.HALTED 0 c) fun s c =>
    ((s.clrAt Reg.EVC_CORE.SLEEPING 0 c).raiseAt Reg.EVC_CORE.WAKE_EVT 0 c).trace s.act c 4 (s.getAt Hid.CORE_PC 0 c) n
  s.when (s.on Hid.SC_SLEEP 0 && s.srcClass n = 2) fun s =>
    (s.clr Hid.SC_SLEEP 0).trace s.act 3 4 (s.getAt Hid.CORE_PC 0 3) n

/-- An edge at an active source is counted (R311). -/
def State.countEdge (s : State) (n beat sub : Nat) : State :=
  let s := s.when (s.getAt Hid.EV_CNT 0 n = 0) fun s => (s.putAt Hid.EV_BEAT 0 n beat).putAt Hid.EV_SUB 0 n sub
  s.bumpAt Hid.EV_CNT 0 n

/-- An occurrence at an enabled source. -/
def State.occur (s : State) (n beat sub : Nat) (takeover : Bool) : State :=
  if !s.onAt Reg.SRC_CFG.ENABLE 0 n then s
  else
    let s := s.wakeCores n
    if s.srcActive n then (if s.srcSense n = 0 then s else s.countEdge n beat sub)
    else s.record n beat sub 1 false false takeover

/-- A line takes a level; a change or a level that is 1 makes an occurrence, as SENSE says (R310). -/
def State.lineSet (s : State) (n : Nat) (v : Bool) (detail beat sub : Nat) (takeover : Bool) : State :=
  let old := s.bitAt Reg.SRC_LINE.LINE n
  let s := (s.putBitAt Reg.SRC_LINE.LINE n v).putAt Hid.EV_DET 0 n detail
  let k := s.srcSense n
  let occ := if k = 0 then v && !s.srcActive n else (k.testBit 0 && !old && v) || (k.testBit 1 && old && !v)
  if occ then s.occur n beat sub takeover else s

/-- Held occurrences are recorded in ascending source order as soon as there is space (R322). -/
def State.heldFlush (s : State) : State :=
  s.over ((List.range 640).filter fun n => s.bitAt Hid.EV_HELD n) fun s n =>
    let q := if s.srcClass n = 2 then EvQueue.safe else EvQueue.main
    let need := if s.srcFold n ≠ 0 && s.srcClass n ≠ 2 then { evBlank with typ := 2 } else evBlank
    if s.qFits q need then s.record n (s.getAt Hid.EV_BEAT 0 n) (s.getAt Hid.EV_SUB 0 n) 1 false true false else s

/-- The time of a report: the TICK nearest to the controller's own beat that has these 32 bits (R80, R314), as a beat and the ticks within it. -/
def State.tickStamp (s : State) (tick : Nat) : Nat × Nat :=
  let now := (s.get Hid.EPOCH s.act * 2 ^ 40 + s.beat) * 100
  let d := (tick + 2 ^ 32 - now % 2 ^ 32) % 2 ^ 32
  let t := if d < 2 ^ 31 then now + d else now + d - 2 ^ 32
  (t / 100 % 2 ^ 40, t % 100)

/-! Completion (R311, R312, R321). -/

/-- A condition that lasts until the completion of its source ends with it: its line falls, and a falling edge at the active source is counted
(DEDUCED, log entry 29). -/
def State.onceEnd (s : State) (n : Nat) : State :=
  if !s.bitAt Hid.EV_ONCE n then s
  else
    let s := s.putBitAt Hid.EV_ONCE n false
    if s.bitAt Reg.SRC_LINE.LINE n && !s.lineNow n then
      let s := s.putBitAt Reg.SRC_LINE.LINE n false
      s.when (s.srcSense n ≠ 0 && (s.srcSense n).testBit 1) fun s => s.countEdge n s.beat 0
    else s

/-- Completes a source: its waiting settings take effect, a line that is still 1 occurs again, counted edges make one record. -/
def State.srcComplete (s : State) (n : Nat) : State :=
  if 640 ≤ n then s.bump Reg.EVC_STRAY.BAD_COUNT 0
  else if !s.srcActive n then s.bumpAt Reg.SRC_CFG.STRAY_COUNT 0 n
  else
    let s := s.onceEnd n
    let edges := s.getAt Hid.EV_CNT 0 n
    let level := decide (s.srcSense n = 0)
    let s := (((s.putBitAt Reg.SRC_ACTIVE.ACTIVE n false).putBitAt Hid.EV_TAKEN n false).clrAt Hid.EV_CNT 0 n).clrAt Hid.EV_OLD 0 n
    let s := { s with evFolds := (s.evFolds.map fun (f : EvFold) => { f with srcs := f.srcs.filter fun x => x ≠ n }).filter fun f => !f.srcs.isEmpty }
    if edges ≠ 0 && !level then s.record n (s.getAt Hid.EV_BEAT 0 n) (s.getAt Hid.EV_SUB 0 n) edges true false false
    else if s.srcSense n = 0 && s.bitAt Reg.SRC_LINE.LINE n then s.occur n s.beat 0 false
    else s

/-- Completes every member that is still active from the named fold. -/
def State.foldComplete (s : State) (seq : Nat) : State :=
  match s.evFolds.find? fun (f : EvFold) => f.seq % 65536 = seq with
  | some f => s.over f.srcs fun s n => s.srcComplete n
  | none => s.bump Reg.EVC_STRAY.FOLD_STRAY 0

/-- The controller that an initiator's access reaches; the shadow's own takes no write (R324, R458). -/
def State.evcAccess (s : State) (w : Who) (m : Nat) (g : State → State) : State :=
  if s.reach w m ≠ s.act || s.active.isNone then s.busError w m else g (s.served w m)

/-- EVC_COMPLETE (R311). -/
def execEvcComplete (w : Who) (m : Mgr) (target : BitVec 16) (s : State) : Host.Outcome State Fault Refusal :=
  .next (s.evcAccess w m.val fun s => s.srcComplete target.toNat)

/-- FOLD_COMPLETE (R321). -/
def execFoldComplete (w : Who) (m : Mgr) (seq : BitVec 16) (s : State) : Host.Outcome State Fault Refusal :=
  .next (s.evcAccess w m.val fun s => s.foldComplete seq.toNat)

/-- FOLD_WIN has passed since the first member of the open fold of class `k`, on the manager's beat. -/
def State.foldRipe (s : State) (k : Nat) : Bool :=
  s.evMain.any fun (r : EvRec) => r.typ = 2 && r.isOpen && r.foldCls = k && decide (s.get Reg.EVC_CTRL.FOLD_WIN 0 ≤ beatDiff s.beat r.beat) &&
    decide (beatDiff s.beat r.beat < 2 ^ 39)

/-- FOLD_CLOSE (R320). -/
def execFoldClose (cls : Fin 16) (s : State) : Host.Outcome State Fault Refusal :=
  .next (if s.foldRipe cls.val then s.foldClose cls.val else s)

/-! Taking records (R316, R318, R323). -/

/-- The oldest record of a queue that can be taken: a fold once it has closed. -/
def State.takeable (s : State) (q : EvQueue) : Option EvRec :=
  match s.queue q with
  | [] => none
  | r :: _ => if r.typ = 2 && r.isOpen then none else some r

/-- A record's words in an initiator's window. -/
def State.window (s : State) (f : Fld) (m who : Nat) (r : EvRec) : State :=
  s.over (List.range 8) fun s j => s.putAt f m (8 * who + j) (r.words.getD j 0)

/-- The sources of a record count as taken. -/
def State.markTaken (s : State) (r : EvRec) : State :=
  if r.typ = 4 then s
  else if r.typ = 2 then
    s.over ((s.evFolds.filter fun (f : EvFold) => f.seq = r.seq).flatMap fun f => f.srcs) fun s n => s.putBitAt Hid.EV_TAKEN n true
  else s.putBitAt Hid.EV_TAKEN r.src true

/-- The core of an initiator, and that it is a management core. -/
def coreOf : Who → Option Nat
  | .mc0 => some 0
  | .mc1 => some 1
  | .mc2 => some 2
  | .sc => some 3
  | _ => none

/-- PRIO of a record; an overflow record, which has none, acts as 1 (DESIGN CHOICE, log entry 26). -/
def EvRec.prioOf (r : EvRec) : Nat := max 1 r.prio

/-- A taking core's priority and counter rise (R317). -/
def State.coreTakes (s : State) (c : Nat) (r : EvRec) : State :=
  if 3 ≤ c then s
  else
    let s := s.when (decide (s.getAt Reg.EVC_CORE.CUR_PRIO 0 c < r.prioOf)) fun s => s.putAt Reg.EVC_CORE.CUR_PRIO 0 c r.prioOf
    s.bumpAt Reg.EVC_CORE.TAKES 0 c

/-- The read of a take register: the oldest takeable record goes into the reader's window and its slots are free. -/
def State.take (s : State) (q : EvQueue) (w : Who) (m : Nat) : State :=
  let m := s.reach w m
  match s.takeable q with
  | none => s.putAt Hid.READ_DATA m (whoIx w) 0
  | some r =>
    let s := s.setQueue q ((s.queue q).drop 1)
    let s := (s.window Hid.EV_TREC m (whoIx w) r).markTaken r
    let s := s.putAt Hid.READ_DATA m (whoIx w) (2 ^ 31 + r.seq)
    let s := s.when (q = .main) fun s => s.put Reg.EVC_QPTR.HEAD 0 ((r.slot + r.slots) % s.qSize)
    let s :=
      match coreOf w with
      | some c => let (pc, s) := s.draw; (s.coreTakes c r).trace m c 2 pc r.seq
      | none => s
    s.heldFlush

/-- EVC_TAKE (R316). -/
def execEvcTake (w : Who) (m : Mgr) (s : State) : Host.Outcome State Fault Refusal :=
  .next (s.evcAccess w m.val fun s => s.take .main w m.val)

/-- EVC_SC_TAKE (R318): any initiator but the safety core has a bus error. -/
def execEvcScTake (w : Who) (m : Mgr) (s : State) : Host.Outcome State Fault Refusal :=
  .next (if w ≠ .sc then s.busError w m.val else s.evcAccess w m.val fun s => s.take .safe w m.val)

/-- A read of EVC_HQ_REC_0: the oldest entry goes into the reader's snapshot (R323). -/
def State.hostTake (s : State) (w : Who) (m : Nat) : State :=
  let m := s.reach w m
  match s.evHost with
  | [] => s.putAt Hid.READ_DATA m (whoIx w) 0
  | r :: t =>
    let s := ({ s with evHost := t }).window Hid.EV_HREC m (whoIx w) r
    s.putAt Hid.READ_DATA m (whoIx w) (r.words.getD 0 0)

/-- EVC_HQ_TAKE (R323). -/
def execEvcHqTake (w : Who) (m : Mgr) (s : State) : Host.Outcome State Fault Refusal :=
  .next (s.evcAccess w m.val fun s => s.hostTake w m.val)

/-! What the controller shows (R317, R323). -/

/-- The core the non-empty interrupt goes to: of the cores neither halted nor masked, the lowest CUR_PRIO, then the lowest number. -/
def State.chosenCore (s : State) : Option Nat :=
  let l := (List.range 3).filter fun c => !s.onAt Reg.EVC_CORE.HALTED 0 c && !s.onAt Reg.EVC_CORE.MASK 0 c
  l.find? fun c => l.all fun d => s.getAt Reg.EVC_CORE.CUR_PRIO 0 c ≤ s.getAt Reg.EVC_CORE.CUR_PRIO 0 d

/-- The non-empty interrupt is asserted to core `c`. -/
def State.coreIrq (s : State) (c : Nat) : Bool :=
  match s.takeable .main with
  | none => false
  | some r => s.active.isSome && decide (s.chosenCore = some c) && decide (s.getAt Reg.EVC_CORE.CUR_PRIO 0 c < r.prioOf)

/-- ALERT_N is driven low (R323). -/
def State.alertLow (s : State) : Bool := s.active.isSome && s.on Reg.EVC_CTRL.HQ_ALERT_EN 0 && !s.evHost.isEmpty

end Sys2Proof.Machine
end

