-- ==== Sys2Proof/Machine/Resets.lean ====
section
/-!
DEFINITION. The resets (R10, R348 to R352, R358): what each clears, and a tile reset as the loss of its tile.
-/
namespace Sys2Proof.Machine

/-- The kind of block a cell belongs to. -/
def Key.blk (k : Key) : Nat := k.1 / 8 % 32

/-- The retention code of a cell. -/
def Key.ret (k : Key) : Nat := k.1 % 8

/-- The cell belongs to a tile: its window, its phases, its rails, its engines. -/
def Key.ofTile (k : Key) (t : Nat) : Bool :=
  (k.blk = Blk.tile.idx && k.2.1 = t) || (k.blk = Blk.phase.idx && k.2.1 / 24 = t) || (k.blk = Blk.rail.idx && k.2.1 / 48 = t) ||
    (k.blk = Blk.eng.idx && k.2.1 / 25 = t)

/-- The cell belongs to a manager block. -/
def Key.ofMgr (k : Key) : Bool := decide (Blk.seqr.idx ≤ k.blk) && decide (k.blk ≤ Blk.mgr.idx)

/-- Bytes from `lo` up to `hi` read 0. -/
def State.zeroMem (s : State) (lo hi : Nat) : State :=
  { s with mem := s.mem.filter fun c => c.1 < lo || hi ≤ c.1
           ecc := s.ecc.filter fun c => c.1 < lo || hi ≤ c.1 }

/-! Tile reset (R351). -/

/-- A rail that a reset of its tile turns off: no phase of it is driven any more. -/
def State.tileDrops (s : State) (r : Nat) : State :=
  if s.rs r = Rs.off then s
  else if s.rs r = Rs.enabling then (s.protectNote r).enableAbort r EnRes.fault
  else ((s.protectNote r).protectOff r).railOffNow r false

/-- The rails that go with tile `t`: every non-mirrored rail homed there, and a mirrored rail whose other half is lost (R296). -/
def State.railsGone (s : State) (t : Nat) : List Nat :=
  (s.railsWith t).filter fun r => s.rs r ≠ Rs.off && ((!s.mirrored r && s.home r = t) || (s.mirrored r && s.half t r = s.onlyHalf t r))

/-- The commands that ran on in a tile end with its reset: armed bank swaps, a handback, a skew calibration (DEDUCED, log entry 93). -/
def State.tileEnds (s : State) (t : Nat) : State :=
  let s := s.over (List.range 48) fun s r => s.endRun Reg.RAIL_ENG_CTRL.SWAP_ARM (railIx t r) false
  (s.endRun Reg.SPARE_CTRL.HANDBACK t false).endRun Reg.SNS_CTRL.SKEW_CAL t false

/-- The snapshots of accumulators within an address range are gone (R161). -/
def State.snapsDrop (s : State) (a b : Nat) : State := { s with snaps := s.snaps.filter fun x => decide (x.addr < a) || decide (b ≤ x.addr) }

/-- A tile reset: its rails go, its T fields, engine memories and capture buffer clear, and the broadcast comes again. -/
def State.tileReset (s : State) (t : Nat) : State :=
  let s := s.over (s.railsGone t) fun s r => s.tileDrops r
  let s := s.tileEnds t
  let s := s.resetCells fun k => k.ret = Ret.T.idx && k.ofTile t
  let base := 0x50000000 + t * 0x1000000
  let s := s.zeroMem (base + 0x300000) (base + 0x400000 + 25 * 0x4000)
  let s := s.snapsDrop base (base + 0x1000000)
  let s := s.raise Hid.BLK_BAD t
  (s.over (List.range 48) fun s r => s.when (s.tilesOf r |>.contains t) fun s => s.raise Hid.LEAD_RST (railIx t r)).seqPoll

/-! The restart of a tile after a thermal shutdown (R205, R206): a tile reset (R348). -/

/-- A tile restarts: it is reset, its phases are OFF, and the rails that its shutdown turned off wait for the end of its skew calibration; without
an active manager none of them is enabled (R205, R348, R351; DEDUCED, log entry 92). -/
def State.tileRestart (s : State) (t : Nat) : State :=
  let s := (s.clr Hid.TSD_ON t).tileReset t
  s.when s.active.isNone fun s => s.clr Hid.TSD_RAILS t

/-- TILE_THERMAL_RESTART (R205): ten readings below 135 °C, 100 ms since the trip, and no latch. -/
def execTileThermalRestart (t : Tile) (s : State) : Host.Outcome State Fault Refusal :=
  .next (if s.on Hid.TSD_ON t && !s.on Reg.TILE_THERM.TSD_LATCH t && 10 ≤ s.get Hid.COOL_N t &&
      100000 ≤ beatDiff s.beat (s.get Hid.TSD_BEAT t) then (s.restartNote t).tileRestart t else s)

/-- TSD_CLR of a tile: below 135 °C it clears a latched shutdown, as a restart, and empties the history; else it is refused (R206). -/
def State.tileTsdClr (s : State) (w : Who) (t : Nat) : State :=
  if 2160 ≤ s.getI Reg.TILE_THERM.TEMP t then
    (s.raise Reg.TILE_THERM_CTRL.PROT_REJ t).jRefused w Reg.TILE_THERM_CTRL.TSD_CLR t noTarget JStatus.refused
  else
    let s := s.jDone w Reg.TILE_THERM_CTRL.TSD_CLR t noTarget
    if s.on Reg.TILE_THERM.TSD_LATCH t then ((s.clr Reg.TILE_THERM.TSD_LATCH t).restartForget t).tileRestart t else s

/-- TSD_CLR (R206). -/
def execTsdClr (w : Who) (u : Unit5) (s : State) : Host.Outcome State Fault Refusal :=
  .next (if u.val < 4 then s.tileTsdClr w u.val else s.hpdTsdClr w)

/-! Manager reset (R350). -/

/-- A manager reset of die `m`: its M fields, the secure part of its scratchpad, its trace ring and its read-out buffer. The die is out until it
leaves the reset. -/
def State.managerReset (s : State) (m : Nat) : State :=
  let s := s.resetCells fun k => k.ret = Ret.M.idx && k.ofMgr && k.2.1 = m
  let s := s.zeroMem (mgrMem m 0x100F0000) (mgrMem m 0x10100000)
  let s := (s.zeroMem (traceAddr m 0) (traceAddr m 2048)).zeroMem (metWin m 0) (metWin m 0x400)
  let s := ((s.clr Hid.ROLE_LOW m).clr Hid.PRESENT m).clr Reg.REIN_STATUS.ACTIVE m
  { s with snaps := s.snaps.filter fun x => x.mgr ≠ m }

/-- A manager with an explicit fault releases ROLE in the same cycle and holds itself in manager reset; the shadow has its trigger (R290). -/
def State.explicitFault (s : State) (m : Nat) : State :=
  if !s.on Hid.PRESENT m then s
  else
    let lead := s.isActive m
    let s := ((s.managerReset m).put Hid.ST_STATE m 1).awlError Awl.manager 0 m
    s.when lead fun s => s.raise Hid.TRIG (peer m)

/-! System reset and power-on reset (R348, R349, R358). -/

/-- The memories that no reset of the managers and tiles reaches: the ferroelectric arrays, MET's array, the configuration flash, core-local RAM (DEDUCED, log entry 58). -/
def keptMem (a : Nat) : Bool :=
  let b := a % 0x100000000
  let hi := a / 0x100000000
  decide (3 ≤ hi) || ((hi = 1 || hi = 2) && decide (0x20000000 ≤ b) && decide (b < 0x20040000))

/-! The configuration flash and an update's chunks. The flash's bytes are kept inverted, so that an erased flash is one without listed bytes. -/

/-- The model's address of a byte of the flash (DESIGN CHOICE, log entry 66). -/
def flashMem (a : Nat) : Nat := 16 * 0x100000000 + a

/-- The first address of a slot: 0 is slot A, 1 slot B. -/
def State.slotBase (s : State) (k : Nat) : Nat := if k = 0 then 0 else s.get Hid.FL_SIZE 0 / 2

/-- The target slot of the session, 0 for slot A. -/
def State.updSlot (s : State) : Nat := s.get Reg.UPD_STATUS.TARGET 0 - 1

/-- The flash address of chunk `c` of the session. -/
def State.chunkAddr (s : State) (c : Nat) : Nat := s.slotBase s.updSlot + c * 0x1000

/-- A run of flash bytes takes a value. -/
def State.flashPut (s : State) (a : Nat) (l : List Byte) : State := s.wrBytes (flashMem a) (l.map fun b => b ^^^ 0xFF#8)

/-- A run of free bytes. -/
def State.freeBytes (s : State) (n : Nat) : State × List Byte :=
  ({ s with freeCtr := s.freeCtr + n }, (List.range n).map fun j => BitVec.ofNat 8 (Config.freeValue (s.freeCtr + j)))

/-- The content of a chunk that was not erased or programmed to its end is undefined (R414). -/
def State.chunkUndefined (s : State) (c : Nat) : State :=
  let (s, l) := s.freeBytes 4096
  s.flashPut (s.chunkAddr c) l

/-- An erase or a program that is under way is cut off: its chunk, DIRTY since before it began, has no defined content (R414, R415). A cut header leaves the
slot unbootable, as it stood (R432; DESIGN CHOICE, log entry 119). -/
def State.flashCut (s : State) : State := s.when (s.get Hid.FL_OP 0 ≠ 0) fun s => s.chunkUndefined (s.get Hid.FL_CHUNK 0)

/-- Everything of the managers and tiles that is under way. -/
def State.dropWork (s : State) : State :=
  { s with mem := s.mem.filter fun c => keptMem c.1
           ecc := [], cmds := [], dmPend := [], snaps := [], laneDue := [], snapBuf := [], evMain := [], evSafe := [], evHost := [], evFolds := []
           evKept := [], awlProbes := [], awlErrs := [], perms := [], hbReply := [], svcReply := [] }

/-- The target address that the pins give, once VIO is in range (R386, R440). -/
def State.addrSample (s : State) : State :=
  if s.on Hid.VIO_OK 0 then s.put Reg.HB_STATUS.ADDR 0 (0x40 + s.get Hid.ADDR_PINS 0) else s

/-! The causes of RST_CAUSE. -/
namespace RstCause
abbrev powerOn : Nat := 1
abbrev pin : Nat := 2
abbrev host : Nat := 3
abbrev watchdog : Nat := 4
abbrev mewsReturn : Nat := 5
abbrev wipe : Nat := 6
end RstCause

/-- A system reset: S, M and T fields of both managers and every tile return to their reset values, their memories read zero and every phase is OFF; HPD
and MET run on (R349, R358), and HPD's thermal latch and history clear (R206, R220). A root that is locked stays locked (R329). The start runs again. -/
def State.systemReset (s : State) (cause : Nat) : State :=
  let locked := (List.range 2).filter fun m => s.on Reg.CLK_STATUS.ROOT_LOCK m && !s.on Hid.XTAL_STOPPED m
  let s := s.flashCut.resetCells fun k =>
    (k.ret = Ret.S.idx || k.ret = Ret.M.idx || k.ret = Ret.T.idx) && k.blk ≠ Blk.hpd.idx && k.blk ≠ Blk.met.idx
  let s := (((s.dropWork).clr Hid.BOOT 0).hpdForget).over locked fun s m => s.refDrive m
  let s := s.over (List.range 2) fun s m => s.put Hid.PRESENT m (s.get Hid.POWERED m)
  ((s.put Reg.RST_CAUSE.LAST 0 cause).bump Reg.RST_CAUSE.SYS_COUNT 0).addrSample

/-- A power-on reset of every die but MET: the P fields go as well (R328). -/
def State.powerOnReset (s : State) (cause : Nat) : State :=
  let s := s.resetCells fun k =>
    (k.ret = Ret.P.idx || k.ret = Ret.S.idx || k.ret = Ret.M.idx || k.ret = Ret.T.idx) && k.blk ≠ Blk.met.idx
  ((s.dropWork).put Reg.RST_CAUSE.LAST 0 cause).addrSample

end Sys2Proof.Machine
end

