-- ==== Sys2Proof/Machine/UpdState.lean ====
section
/-!
DEFINITION. The update engine's state, its header area in the resumption map, its command statuses, and what a takeover makes of it (R414, R432, R434).
-/
namespace Sys2Proof.Machine

/-! STATE of the update engine (R434). -/
namespace Upd
abbrev idle : Nat := 0
abbrev receiving : Nat := 1
abbrev verifying : Nat := 2
abbrev verified : Nat := 3
abbrev prepared : Nat := 4
abbrev activating : Nat := 5
abbrev trial : Nat := 6
abbrev reverting : Nat := 7
end Upd

/-- The update engine's state. -/
def State.upd (s : State) : Nat := s.get Reg.UPD_STATUS.STATE 0

/-- The managers that run. -/
def State.present (s : State) : List Nat := (List.range 2).filter fun m => s.on Hid.PRESENT m

/-! The map (R414). -/

/-- The model's address of byte `off` of manager `m`'s resumption map. -/
def mapMem (m off : Nat) : Nat := mgrMem m (0x20020000 + off)

/-- Bytes of the chunk table. -/
def tableSize : Nat := 32256

/-- A byte of manager `m`'s map; a word that no read corrects reads as zero, the least advanced state. -/
def State.mapByte (s : State) (m off : Nat) : Nat := if s.feOk (mapMem m off) 1 then (s.rd8 (mapMem m off)).toNat else 0

/-- Bytes 0x00 to 0x1B of the header area, as the fields stand. -/
def State.mapFields (s : State) (seq : Nat) : List Byte :=
  leBytes 4 seq ++ leBytes 1 s.upd ++ leBytes 1 (s.get Reg.UPD_STATUS.TARGET 0) ++ leBytes 1 (s.get Hid.UPD_PRIOR 0) ++
    leBytes 1 (s.get Hid.UPD_STEP 0) ++ leBytes 4 (s.get Reg.UPD_PROGRESS.TOTAL 0) ++ leBytes 4 (s.get Reg.UPD_PROGRESS.WRITTEN 0) ++
    leBytes 8 (s.get Hid.UPD_DEADLINE 0) ++ leBytes 4 (s.get Hid.UPD_RAIL 0)

/-- Every present manager's array takes a run of bytes of the map. -/
def State.mapWrite (s : State) (off : Nat) (l : List Byte) : State := s.over s.present fun s m => s.wrFe (mapMem m off) l

/-- A header-area write: the sequence number goes up, and both arrays take the fields with their CRC. -/
def State.mapSave (s : State) : State :=
  let h := s.mapFields (leNat (s.rdBytes (mapMem s.act 0) 4) + 1)
  s.mapWrite 0 (h ++ wordBytes (crc32 h))

/-- The update engine's state changes: EVT sets, and the map shows it (R414, R434). -/
def State.updTo (s : State) (st : Nat) : State :=
  (if s.upd = st then s else (s.put Reg.UPD_STATUS.STATE 0 st).raise Reg.UPD_STATUS.EVT 0).mapSave

/-- The step of an activation is written to the map (R426). -/
def State.updStep (s : State) (n : Nat) : State := (s.put Hid.UPD_STEP 0 n).mapSave

/-- A device action of the update engine is journalled with its event source, MGR_x_14, as CODE (R408, R434). -/
def State.updAction (s : State) (status : Nat) : State := s.jAction status noTarget (504 + 32 * s.act + 14) 0

/-! Commands of the update service that complete later (R417). -/

/-- The command `k` of the table of R417 in the list of R409. -/
def updKind (k : Nat) : CmdKind := .other (0x400A0000 + k)

/-- A command of the update service completes with a status, which LAST_STATUS shows. -/
def State.updComplete (s : State) (k st arg : Nat) : State :=
  let s := s.when (s.accepted (updKind k)) fun s => s.put Reg.UPD_STATUS.LAST_STATUS 0 st
  s.complete (updKind k) st arg

/-- The flash is idle. -/
def State.flashIdle (s : State) : State :=
  ((s.clr Reg.UPD_STATUS.FLASH_BUSY 0).clr Hid.FL_OP 0).clr Hid.FL_LEFT 0

/-- A takeover: what ran in the old manager alone has ended, its chunk DIRTY; an activation, a trial and a revert go on (R292, R432). -/
def State.updInterrupt (s : State) : State :=
  let s := s.flashCut
  let s := [3, 4, 5, 6].foldl (fun s k => s.updComplete k JStatus.interrupted 0) s
  let verify := s.upd = Upd.verifying
  let s := (((s.flashIdle).clr Hid.FL_ZERO 0).clr Hid.UPD_VERIFY 0).when (s.upd ≠ Upd.reverting) fun s => s.clr Hid.UPD_STAGE 0
  s.when verify fun s => s.updTo Upd.receiving

end Sys2Proof.Machine
end

