-- ==== Sys2Proof/Machine/Managers.lean ====
section
/-!
DEFINITION. The two managers: explicit faults, heartbeats, the deadman, takeover and handover, the mirror window (R287 to R293).
-/
namespace Sys2Proof.Machine

/-! Explicit faults (R29, R203, R290, R361). -/

/-- A crystal fault is an explicit fault of its manager. -/
def State.xtalFaults (s : State) : State :=
  s.over ((List.range 2).filter fun m => s.on Hid.EXPLICIT_FAULT m) fun s m => s.explicitFault m

/-- XTAL_STOP (R29). -/
def execXtalStop (m : Mgr) (s : State) : Host.Outcome State Fault Refusal :=
  .next (((s.raise Hid.XTAL_STOPPED m.val).xtalFail m.val).xtalFaults)

/-- XTAL_COMPARE_WINDOW (R29). -/
def execXtalCompareWindow (failA failB : Bool) (s : State) : Host.Outcome State Fault Refusal :=
  .next ((s.xtalCompare failA failB).xtalFaults)

/-- MGR_THERMAL_SHUTDOWN (R203). -/
def execMgrThermalShutdown (m : Mgr) (s : State) : Host.Outcome State Fault Refusal := .next (s.explicitFault m.val)

/-- LOCKSTEP_MISMATCH (R361): an explicit fault, and line MGR_x_2 (R309). -/
def execLockstepMismatch (m : Mgr) (s : State) : Host.Outcome State Fault Refusal :=
  .next ((s.explicitFault m.val).once (504 + 32 * m.val + 2))

/-! The mirror (R287, R293). -/

/-- The model's address of byte `off` of a manager's mirror window. -/
def mirrorAddr (m off : Nat) : Nat := mgrMem m (0x10100000 + off)

/-- The shadow runs and there is an active manager that it mirrors. -/
def State.mirrors (s : State) : Bool := s.active.isSome && s.on Hid.PRESENT (peer s.act) && !s.isActive (peer s.act)

/-- The written word lands in the shadow's window (DEDUCED, log entry 56). -/
def State.mirrorCopy (s : State) (off : Nat) : State :=
  if s.mirrors then
    let o := off / 4 * 4
    s.wr32 (mirrorAddr (peer s.act) o) (s.rd32 (mirrorAddr s.act o))
  else s

/-- MIRROR_COPY (R287). -/
def execMirrorCopy (addr : BitVec 14) (s : State) : Host.Outcome State Fault Refusal := .next (s.mirrorCopy addr.toNat)

/-- The offsets of the window's words at which the two copies differ. -/
def State.mirrorDiffs (s : State) : List Nat :=
  let a := s.act
  let off (m : Nat) : List Nat := (s.mem.filter fun c => mirrorAddr m 0 ≤ c.1 && c.1 < mirrorAddr m 0x4000).map fun c => (c.1 - mirrorAddr m 0) / 4 * 4
  ((off a ++ off (peer a)).eraseDups).filter fun o => s.rd32 (mirrorAddr a o) ≠ s.rd32 (mirrorAddr (peer a) o)

/-- A full sweep: every word that differs is rewritten and counted; sweeps without a difference count toward readiness. -/
def State.mirrorSweep (s : State) : State :=
  if !s.mirrors then s
  else
    let b := peer s.act
    let l := s.mirrorDiffs
    let s := s.over l fun s o => (s.wr32 (mirrorAddr b o) (s.rd32 (mirrorAddr s.act o))).bump Reg.REIN_STATUS.SWEEP_FIX b
    s.put Hid.MIRR_RUN b (if l.isEmpty then min 10 (s.get Hid.MIRR_RUN b + 1) else 0)

/-- MIRROR_SWEEP (R287). -/
def execMirrorSweep (s : State) : Host.Outcome State Fault Refusal := .next s.mirrorSweep

/-- The word of a record of the journal as its array holds it: entries that one array lacks are copied into the other; where two differ MGR_A's wins and an
entry records it (R410). -/
def State.journalRestore (s : State) : State :=
  let differ := s.jrnA.any fun (e : JEntry) => s.jrnB.any fun (f : JEntry) => f.seq = e.seq && f ≠ e
  let extra := s.jrnB.filter fun (f : JEntry) => !s.jrnA.any fun (e : JEntry) => e.seq = f.seq
  let l := ((s.jrnA ++ extra).mergeSort fun (e f : JEntry) => decide (f.seq ≤ e.seq)).take 4096
  let s := { s with jrnA := l, jrnB := l }
  s.when differ fun s =>
    (s.raise Reg.JRNL_STATUS.DISAGREE 0).jAction JStatus.ok noTarget (Reg.JRNL_STATUS.DISAGREE.off % 0x10000) 0

/-! Claims (R289 to R291). -/

/-- ROLE is low. -/
def State.roleLow (s : State) : Bool := s.on Hid.ROLE_LOW 0 || s.on Hid.ROLE_LOW 1

/-- Manager `m` claims ROLE: every claim increments the epoch, which both managers hold; of two claims at once each has the same value. -/
def State.claim (s : State) (m : Nat) : State :=
  let both := s.isActive (peer m)
  let e := if both then s.get Reg.REIN_STATUS.EPOCH (peer m) else s.get Reg.REIN_STATUS.EPOCH m + 1
  let s := ((s.raise Hid.ROLE_LOW m).raise Reg.REIN_STATUS.ACTIVE m).put Reg.REIN_STATUS.EPOCH m e
  let s := (s.put Hid.CLAIM_BEAT m (s.get Hid.BEAT m)).when (!both) fun s => s.put Reg.REIN_STATUS.EPOCH (peer m) e
  ((s.clr Reg.REIN_STATUS.SHADOW_READY m).clr Hid.TRIG m).clr Hid.BEAT_HOLD m

/-- The reports of the last 8 µs that no record holds are recorded, and every active source whose record was taken is recorded again, each with flag
TAKEOVER (R324). -/
def State.eventReplay (s : State) : State :=
  let b := s.beat
  let kept := s.evKept.filter fun (k : EvKept) => beatDiff b k.beat ≤ 8
  let s := { s with evKept := [] }
  let s := s.over kept fun s k => s.lineSet k.src k.line k.detail (s.tickStamp k.tick).1 (s.tickStamp k.tick).2 true
  s.over ((List.range 640).filter fun n => s.bitAt Hid.EV_TAKEN n && s.srcActive n) fun s n =>
    (s.putBitAt Hid.EV_TAKEN n false).record n s.beat 0 1 true false true

/-- The commands of the old manager: one that ran in it alone is completed INTERRUPTED; the others stay in the list (R292). -/
def State.resumeCmds (s : State) : State :=
  ((s.complete .lane JStatus.interrupted 0).put Hid.LN_SENT 0 0).clr Hid.LN_HOST 0

/-- A claiming manager resumes management: references, cores, commands, events, Kerb mode, the sequencer (R28, R290, R307, R324). -/
def State.resume (s : State) (m : Nat) : State :=
  let s := s.refFollowRole m
  let s := (s.over (List.range 3) fun s c => s.clrAt Reg.EVC_CORE.SLEEPING 0 c).clr Hid.SC_SLEEP 0
  let s := (((s.resumeCmds).updInterrupt).clr Reg.FUSE_STATUS.PROG_BUSY 0).eventReplay
  let s := s.over (List.range 4) fun s t => s.capTrigger t 3
  let s := s.when ((List.range 4).any fun t => s.on Reg.TILE_AUTO.AUTO_KERB t) fun s => s.kerbEnter KCause.mgrLost
  let s := ((s.put Hid.WDT_BEAT 0 s.beat).put Hid.WDT_PERIOD 0 (s.get Reg.WDT_CFG.PERIOD 0)).clr Reg.WDT_STATUS.HALF 0
  s.seqPoll

/-- A manager may still sense ROLE high: no driver holds it low, or its peer's claim is not older than the beat before (R291; DEDUCED, log entry 117). -/
def State.roleOpen (s : State) (m : Nat) : Bool :=
  !s.roleLow || (s.isActive (peer m) && !s.on Hid.ROLE_LOW m && decide (beatDiff (s.get Hid.BEAT (peer m)) (s.get Hid.CLAIM_BEAT (peer m)) ≤ 1))

/-- The shadow takes over: it is ready, has its trigger and senses ROLE high. -/
def State.takeover (s : State) (m : Nat) (high : Bool) : State :=
  if s.on Hid.PRESENT m && !s.isActive m && s.on Reg.REIN_STATUS.SHADOW_READY m && s.on Hid.TRIG m && high && s.roleOpen m then
    (((s.claim m).raise Reg.REIN_STATUS.TAKEOVER_EVT m).bump Reg.REIN_COUNTS.TAKEOVER_COUNT m).resume m
  else s

/-- TAKEOVER (R290). -/
def execTakeover (m : Mgr) (high : Bool) (s : State) : Host.Outcome State Fault Refusal := .next (s.takeover m.val high)

/-- Manager `m` releases ROLE. -/
def State.roleRelease (s : State) (m : Nat) : State := (s.clr Hid.ROLE_LOW m).clr Reg.REIN_STATUS.ACTIVE m

/-- The deadman holds no longer: not re-armed for 30 µs, no clock, or no running manager. -/
def State.deadmanOut (s : State) (m : Nat) : Bool :=
  decide (30 ≤ s.get Hid.ROLE_WAIT m) || s.on Hid.XTAL_STOPPED m || !s.on Hid.PRESENT m

/-- ROLE_DEADMAN_RELEASE (R289). -/
def execRoleDeadmanRelease (m : Mgr) (s : State) : Host.Outcome State Fault Refusal :=
  .next (if s.deadmanOut m.val then s.roleRelease m.val else s)

/-- HANDOVER on the active manager hands the role to a ready shadow; elsewhere it is refused (R290; DEDUCED, log entry 27). -/
def State.handover (s : State) (w : Who) (m : Nat) : State :=
  let m := s.reach w m
  let b := peer m
  if s.isActive m && s.on Hid.PRESENT b && s.on Reg.REIN_STATUS.SHADOW_READY b then
    let s := (s.jDone w Reg.REIN_CTRL.HANDOVER m noTarget).roleRelease m
    (s.raise Hid.TRIG b).takeover b true
  else s.jRefused w Reg.REIN_CTRL.HANDOVER m noTarget JStatus.refused

/-- HANDOVER (R290). -/
def execHandover (w : Who) (m : Mgr) (s : State) : Host.Outcome State Fault Refusal := .next (s.handover w m.val)

/-! Heartbeats (R288). -/

/-- A manager sends its heartbeat, and re-arms its deadman (R289). -/
def State.heartbeatSend (s : State) (m : Nat) : State :=
  if !s.on Hid.PRESENT m then s
  else
    let s := (((s.clr Hid.ROLE_WAIT m).raise Hid.HB_SENT m).put Hid.HB_BEAT m (s.get Hid.BEAT m)).put Hid.HB_EPOCH m (s.get Hid.EPOCH m)
    let s := (s.putB Hid.HB_ROLE m (s.isActive m)).put Hid.HB_REPOCH m (s.get Reg.REIN_STATUS.EPOCH m)
    (s.put Hid.HB_HEALTH m (s.get Hid.EXPLICIT_FAULT m + 2 * s.get Reg.REIN_STATUS.SHADOW_READY m)).put Hid.HB_SEQ m (s.get Hid.HB_SEQ m + 1)

/-- HEARTBEAT_SEND (R288); an authentication that found no manager begins again at the next heartbeat (R249). -/
def execHeartbeatSend (m : Mgr) (s : State) : Host.Outcome State Fault Refusal :=
  .next (let s := s.heartbeatSend m.val
         if s.isActive m.val && s.get Reg.PACK_STATUS.AUTH_STATE 0 = Auth.noManager then s.authBegin.chgEval else s)

/-- The shadow's beat follows the active manager's: forward at once, and held where it is ahead (R34). -/
def State.beatAlign (s : State) (m b e : Nat) : State :=
  let own := s.get Hid.EPOCH m * 2 ^ 40 + s.get Hid.BEAT m
  let act := e * 2 ^ 40 + b
  if own < act then ((s.put Hid.BEAT m b).put Hid.EPOCH m e).clr Hid.BEAT_HOLD m
  else if act < own then s.raise Hid.BEAT_HOLD m
  else s.clr Hid.BEAT_HOLD m

/-- Both managers have claimed: MGR_B withdraws (R291). -/
def State.roleContest (s : State) : State :=
  if s.isActive 0 && s.isActive 1 then
    let s := ((s.roleRelease 1).raise Reg.REIN_STATUS.ROLE_CONTEST 1).bump Reg.REIN_COUNTS.CONTEST_COUNT 0
    ((s.bump Reg.REIN_COUNTS.CONTEST_COUNT 1).jAction JStatus.ok noTarget 544 0).refFollowRole 0
  else s

/-- A heartbeat arrives. -/
def State.heartbeatReceive (s : State) (m : Nat) (ok : Bool) : State :=
  let p := peer m
  if !s.on Hid.PRESENT m || !s.on Hid.HB_SENT p then s
  else
    let s := s.clr Hid.HB_SENT p
    if !ok then s
    else
      let s := ((s.put Reg.REIN_STATUS.MISSES m 0).clr Reg.REIN_STATUS.PEER_LOST m).clr Hid.HB_WAIT m
      let s := s.when (s.on Hid.HB_ROLE p && !s.isActive m) fun s =>
        ((s.beatAlign m (s.get Hid.HB_BEAT p) (s.get Hid.HB_EPOCH p)).put Reg.REIN_STATUS.EPOCH m (s.get Hid.HB_REPOCH p)).when
          (s.bit Hid.HB_HEALTH p 0) fun s => s.raise Hid.TRIG m
      s.roleContest

/-- HEARTBEAT_RECEIVE (R288). -/
def execHeartbeatReceive (m : Mgr) (ok : Bool) (s : State) : Host.Outcome State Fault Refusal := .next (s.heartbeatReceive m.val ok)

/-! The complete self-test (R300). -/

/-- The peer of the active manager is absent: it neither runs nor is held in a manager reset (R328, R339). -/
def State.singleMgr (s : State) : Bool := s.active.isSome && !s.on Hid.PRESENT (peer s.act) && s.get Hid.ST_STATE (peer s.act) = 0

/-- All parts have passed since the last manager reset of manager `m`; without a peer the first is not asked. -/
def State.selfTested (s : State) (m : Nat) : Bool :=
  (s.on Hid.ST_SHADOW m || s.singleMgr || s.on Reg.REIN_STATUS.PEER_LOST m) &&
    s.get Hid.ST_SPARE m = 15 && s.get Hid.ST_ROT m = 15

/-- COMPLETE_ST sets (DEDUCED, log entry 57). -/
def State.stCheck (s : State) : State :=
  s.when (s.active.isSome && s.selfTested s.act) fun s => s.raise Reg.LBIST_STATUS.COMPLETE_ST s.act

/-- A 20 µs interval without a heartbeat; the third in a row loses the peer and triggers a takeover. -/
def State.heartbeatMiss (s : State) (m : Nat) : State :=
  if !s.on Hid.PRESENT m || s.get Hid.HB_WAIT m < 20 then s
  else
    let s := (s.clr Hid.HB_WAIT m).bump Reg.REIN_STATUS.MISSES m |>.bump Reg.REIN_COUNTS.MISS_COUNT m
    if 3 ≤ s.get Reg.REIN_STATUS.MISSES m then
      ((s.raise Reg.REIN_STATUS.PEER_LOST m).when (!s.isActive m) fun s => s.raise Hid.TRIG m).stCheck
    else s

/-- HEARTBEAT_MISS (R288). -/
def execHeartbeatMiss (m : Mgr) (s : State) : Host.Outcome State Fault Refusal := .next (s.heartbeatMiss m.val)

/-! A manager returns (R293). -/

/-- The shadow takes everything it mirrors from the active manager: the window, the journal, the queues' slots. -/
def State.sweepIn (s : State) (m : Nat) : State :=
  let a := peer m
  let cells := (s.mem.filter fun c => mirrorAddr a 0 ≤ c.1 && c.1 < mirrorAddr a 0x4000).map fun c => (c.1 - mirrorAddr a 0, c.2)
  let s := s.zeroMem (mirrorAddr m 0) (mirrorAddr m 0x4000)
  let s := s.over cells fun s c => s.wr8 (mirrorAddr m c.1) c.2
  let s := { s with jrnA := (if a = 0 then s.jrnA else s.jrnB), jrnB := (if a = 0 then s.jrnA else s.jrnB) }
  (s.over s.evMain fun s r => s.mainWrite r).over s.evSafe fun s r => s.ringWrite 0x100FF000 64 r

/-- The shadow starts: it mirrors, and its beat follows the active manager's: forward at once, held where it is ahead (R34). -/
def State.joinShadow (s : State) (m : Nat) : State :=
  let s := (s.raise Hid.PRESENT m).raise Reg.REIN_STATUS.SYNCING m
  let s := s.beatAlign m (s.get Hid.BEAT (peer m)) (s.get Hid.EPOCH (peer m))
  (s.put Reg.REIN_STATUS.EPOCH m (s.get Reg.REIN_STATUS.EPOCH (peer m))).sweepIn m

/-- SHADOW_READY (R293): the self-test that the return asks for has passed, and ten sweeps found no difference. A manager whose firmware differs takes
a manager reset instead, but for one that has taken its activation reset before the active manager's (R427). -/
def State.shadowReady (s : State) (m : Nat) : State :=
  if !s.on Hid.PRESENT m || s.isActive m || s.active.isNone || s.get Hid.MIRR_RUN m < 10 || s.get Hid.ST_STATE m = 1 || s.get Hid.ST_STATE m = 3 then s
  else if s.get Hid.FW_HASH m ≠ s.get Hid.FW_HASH (peer m) && !s.on Hid.FW_NEW m then ((s.managerReset m).put Hid.ST_STATE m 1).awlError Awl.manager 0 m
  else ((s.journalRestore).raise Reg.REIN_STATUS.SHADOW_READY m).clr Reg.REIN_STATUS.SYNCING m

/-- SHADOW_READY (R293). -/
def execShadowReady (m : Mgr) (s : State) : Host.Outcome State Fault Refusal := .next (s.shadowReady m.val)

end Sys2Proof.Machine
end

