-- ==== Sys2Proof/Machine/Probes.lean ====
section
/-!
DEFINITION. The Awl probe (R297, R298) and the logic self-test (R299, R300).
-/
namespace Sys2Proof.Machine

/-! The Awl probe. -/

/-- A unit of the table of R297 is out of service, so that its probe may run: an engine that the spare serves, a spare that stands by, a slice that is
retired or lost, a lane marked failed (bits of CROSS_LANE_STATUS), a manager that does not hold the role; memories always. -/
def State.outOfService (s : State) (kind t u : Nat) : Bool :=
  match kind with
  | 1 => s.on Reg.SPARE_STATUS.BUSY t && decide (s.get Reg.SPARE_STATUS.FOR t = u) && !s.on Hid.HANDING_BACK t
  | 2 => !s.spareServes t
  | 4 => s.bit Reg.SLICE_RETIRED.RETIRED t u || s.onAt Hid.SLICE_LOST t u
  | 5 =>
    if u < 9 then s.bit Reg.CROSS_LANE_STATUS.LANE_FAIL_LO t u
    else if u < 18 then s.bit Reg.CROSS_LANE_STATUS.LANE_FAIL_UP t (u - 9)
    else if u < 20 then s.bit Reg.CROSS_LANE_STATUS.LANE_FAIL_A t (u - 18)
    else s.bit Reg.CROSS_LANE_STATUS.LANE_FAIL_B t (u - 20)
  | 7 => decide (u ≠ s.act)
  | _ => true

/-- The probe of the unit runs. -/
def State.awlRuns (s : State) (kind t u : Nat) : State :=
  { s with awlProbes := (s.awlProbes.filter fun (y : AwlUnit) => !(y.kind = kind && y.tile = t && y.unit = u)) ++ [⟨kind, t, u, s.fullBeat, true⟩] }

/-- A probe of the unit is asked for: after an error, or, for the spare of a tile, because the complete self-test still lacks one (R297, R300; DEDUCED, log
entry 72). -/
def State.awlAsked (s : State) (kind t u : Nat) : Bool :=
  s.awlHas kind t u false || (decide (kind = Awl.spare) && decide (u = 0) && s.active.isSome && !s.bit Hid.ST_SPARE s.act t && !s.awlHas kind t u true)

/-- A logic self-test begins; a manager's die is held in its reset (R299). -/
def State.lbistBegin (s : State) (target : Nat) : State :=
  let s := ((s.put Reg.LBIST_STATUS.RESULT 0 4).put Hid.LBIST_ON 0 (target + 1)).put Hid.LBIST_AT 0 s.beat
  s.when (target = 5) fun s => s.managerReset (peer s.act)

/-- The shadow is back from a reset that asks its self-test, its sweep is complete, and no other test runs (R293). -/
def State.dieTestable (s : State) (u : Nat) : Bool :=
  s.active.isSome && decide (u = peer s.act) && s.get Hid.ST_STATE u = 1 && s.on Hid.PRESENT u && s.on Reg.REIN_STATUS.SYNCING u &&
    decide (s.get Hid.LBIST_ON 0 = 0)

/-- A probe starts once its unit is out of service. That of a manager die is the logic self-test, which R293 asks for whatever AUTO_EN reads. -/
def State.awlStart (s : State) (kind t u : Nat) : State :=
  if kind = Awl.manager then
    if t = 0 && s.dieTestable u then (s.awlRuns kind t u).lbistBegin 5 else s
  else if s.awlAsked kind t u && s.outOfService kind t u then s.awlRuns kind t u
  else s

/-- AWL_PROBE_START (R297). -/
def execAwlProbeStart (kind : Fin 8) (tile : Tile) (unit : Byte) (s : State) : Host.Outcome State Fault Refusal :=
  .next (s.awlStart kind.val tile.val unit.toNat)

/-- The unit has had at most AWL_MAX errors within the last AWL_WIN minutes (R298). -/
def State.awlFew (s : State) (kind t u : Nat) : Bool :=
  decide ((s.awlErrs.filter fun (y : AwlUnit) => y.kind = kind && y.tile = t && y.unit = u &&
    decide (s.fullBeat ≤ y.beat + s.get Reg.AWL_CTRL.AWL_WIN 0 * 60000000)).length ≤ s.get Reg.AWL_CTRL.AWL_MAX 0)

/-- A verdict is shown, journalled and reported, and the probe is over. -/
def State.awlEnd (s : State) (kind t u verdict : Nat) : State :=
  let s := { s with awlProbes := s.awlProbes.filter fun (y : AwlUnit) => !(y.kind = kind && y.tile = t && y.unit = u) }
  let s := (s.put Reg.AWL_STATUS.UNIT s.act kind).put Reg.AWL_STATUS.INSTANCE s.act (t * 256 + u)
  let s := s.put Reg.AWL_STATUS.VERDICT s.act verdict
  (s.jAction JStatus.ok noTarget (504 + 32 * s.act + 20) (kind * 65536 + (t * 256 + u) * 16 + verdict)).onceMgr 20

/-- What a verdict does to the unit: a TRANSIENT engine may be handed back and a TRANSIENT spare stands by again; a LASTING spare is out of service, a slice
stays retired, a memory word takes a spare row of its manager's memory when one is left. -/
def State.awlEffect (s : State) (kind t u : Nat) (transient : Bool) : State :=
  match kind with
  | 1 => if transient then s.raise Reg.ENG_FAULT.PROBE_OK (t * 24 + u) else s
  | 2 => s.putB Hid.SPARE_BAD t !transient
  | 6 =>
    if transient then s
    else if u = 0 then s.put Reg.MEM_STATUS.SP_SPARES t (s.get Reg.MEM_STATUS.SP_SPARES t - 1)
    else s.put Reg.MEM_STATUS.FE_SPARES t (s.get Reg.MEM_STATUS.FE_SPARES t - 1)
  | _ => s

/-- A probe ends: TRANSIENT when it passes and the errors are few, LASTING otherwise. A manager die's probe ends with its logic self-test and has its
result. -/
def State.awlVerdict (s : State) (kind t u : Nat) (passed : Bool) : State :=
  if !s.awlHas kind t u true || (kind = Awl.manager && s.get Hid.LBIST_ON 0 ≠ 0) then s
  else
    let pass := if kind = Awl.manager then decide (s.get Hid.ST_STATE u = 2) else passed
    let transient := pass && s.awlFew kind t u
    let s := (s.awlEnd kind t u (if transient then 1 else 2)).bump Reg.AWL_STATUS.PROBE_COUNT s.act
    ((s.awlEffect kind t u transient).when (kind = Awl.spare) fun s => s.putBit Hid.ST_SPARE s.act t pass).stCheck

/-- AWL_VERDICT (R298). -/
def execAwlVerdict (kind : Fin 8) (tile : Tile) (unit : Byte) (pass : Bool) (s : State) : Host.Outcome State Fault Refusal :=
  .next (s.awlVerdict kind.val tile.val unit.toNat pass)

/-- A probe has waited 1 s for its unit. -/
def State.awlLate (s : State) (kind t u : Nat) : Bool :=
  s.awlProbes.any fun (y : AwlUnit) => y.kind = kind && y.tile = t && y.unit = u && !y.run && y.beat + 1000000 ≤ s.fullBeat

/-- AWL_NOT_RUN (R297): a probe that still waits for its unit is dropped. -/
def execAwlNotRun (kind : Fin 8) (tile : Tile) (unit : Byte) (s : State) : Host.Outcome State Fault Refusal :=
  .next (if s.awlLate kind.val tile.val unit.toNat && !s.outOfService kind.val tile.val unit.toNat then
      s.awlEnd kind.val tile.val unit.toNat 3
    else s)

/-! The logic self-test. -/

namespace LbRes
abbrev pass : Nat := 1
abbrev fail : Nat := 2
abbrev refused : Nat := 3
abbrev running : Nat := 4
end LbRes

/-- The target may be tested (R299, R308): it names a die, no phase of a tile runs, HPD is not past ARM, there is a shadow to test. -/
def State.lbistAllowed (s : State) (target : Nat) : Bool :=
  s.get Hid.LBIST_ON 0 = 0 &&
    (if target < 4 then (phasesOfTile target).all s.idlePh
     else if target = 4 then decide (s.dev ≤ Dev.arm)
     else target = 5 && s.active.isSome && s.on Hid.PRESENT (peer s.act))

/-- The block of a manager's Rein link that an access reaches; the shadow's own copy of a governed register takes no write (R458). -/
def State.governed (s : State) (w : Who) (m : Nat) (g : State → State) : State :=
  if s.reach w m ≠ s.act then s.busError w m else g (s.served w m)

/-- START in LBIST_CTRL. -/
def State.lbistStart (s : State) (w : Who) (target : Nat) : State :=
  let s := s.put Reg.LBIST_CTRL.TARGET 0 target
  if s.lbistAllowed target then
    let s := s.acceptReg w (.other (Reg.LBIST_CTRL.START.addr 0 0)) Reg.LBIST_CTRL.START 0 noTarget true
    s.lbistBegin target
  else
    (s.jRefused w Reg.LBIST_CTRL.START 0 noTarget JStatus.refused).when (s.get Hid.LBIST_ON 0 = 0) fun s =>
      s.put Reg.LBIST_STATUS.RESULT 0 LbRes.refused

/-- LBIST_START (R299). -/
def execLbistStart (w : Who) (m : Mgr) (target : Fin 16) (s : State) : Host.Outcome State Fault Refusal :=
  .next (s.governed w m.val fun s => s.lbistStart w target.val)

/-- The kind of die whose signature is in boot ROM: 0 a tile, 1 HPD, 2 a manager. -/
def lbistKind (target : Nat) : Nat := if target < 4 then 0 else if target = 4 then 1 else 2

/-- How long the test of a die takes, µs; none is stated for HPD's (R299). -/
def lbistTime (target : Nat) : Nat := if target < 4 then 4000 else if target = 4 then 0 else 8000

/-- A logic self-test ends: PASS when the signature is the ROM's; a tile leaves it by tile reset, a manager by manager reset. -/
def State.lbistDone (s : State) (sig : DWord) : State :=
  let on := s.get Hid.LBIST_ON 0
  if on = 0 || beatDiff s.beat (s.get Hid.LBIST_AT 0) < lbistTime (on - 1) then s
  else
    let target := on - 1
    let pass := decide (sig = Config.lbistSig (lbistKind target))
    let s := ((s.put Reg.LBIST_STATUS.RESULT 0 (if pass then LbRes.pass else LbRes.fail)).put Hid.LBIST_SIG 0 sig.toNat).clr Hid.LBIST_ON 0
    let s := s.onceMgr 21
    let s := s.complete (.other (Reg.LBIST_CTRL.START.addr 0 0)) (if pass then JStatus.ok else JStatus.failed) LbRes.fail
    let s :=
      if target < 4 then (s.tileReset target).putB Hid.TILE_FAIL target !pass
      else if target = 4 then s.resetCells fun k => k.blk = Blk.hpd.idx && (k.ret = Ret.S.idx || k.ret = Ret.T.idx)
      else (s.put Hid.ST_STATE (peer s.act) (if pass then 2 else 3)).putB Hid.ST_SHADOW s.act pass
    s.stCheck

/-- LBIST_DONE (R299). -/
def execLbistDone (sig : DWord) (s : State) : Host.Outcome State Fault Refusal := .next (s.lbistDone sig)

end Sys2Proof.Machine
end

