-- ==== Sys2Proof/Machine/Capture.lean ====
section
/-!
DEFINITION. The capture buffers of the tiles (R301, R302). The places of a record's parts that R302 leaves open are the model's (DESIGN CHOICE, log entry 30).
-/
namespace Sys2Proof.Machine

/-- The tile records: ARM, and no trigger whose segments are complete. -/
def State.capturing (s : State) (t : Nat) : Bool :=
  s.on Reg.CAP_STATUS.RUNNING t && !(s.on Hid.CAP_TRIGD t && s.get Hid.CAP_LEFT t = 0)

/-- ARM starts capture from segment 0. -/
def State.capArm (s : State) (t : Nat) : State :=
  let s := ((s.raise Reg.CAP_CTRL.ARM t).raise Reg.CAP_STATUS.RUNNING t).clr Reg.CAP_STATUS.STOPPED t
  let s := ((s.clr Reg.CAP_STATUS.NEXT t).clr Reg.CAP_STATUS.OLDEST t).clr Hid.CAP_OFF t
  ((s.clr Hid.CAP_FULL t).clr Hid.CAP_TRIGD t).clr Hid.CAP_LEFT t

/-- CAPTURE_ARM (R301). -/
def execCaptureArm (w : Who) (t : Tile) (s : State) : Host.Outcome State Fault Refusal :=
  .next (s.jDone w Reg.CAP_CTRL.ARM t noTarget |>.capArm t)

/-- ARM cleared: the tile records no more. -/
def State.capDisarm (s : State) (t : Nat) : State := (s.clr Reg.CAP_CTRL.ARM t).clr Reg.CAP_STATUS.RUNNING t

/-- TRIG triggers now, whatever TRIG_EN enables. -/
def State.capNow (s : State) (t : Nat) : State :=
  if s.on Reg.CAP_STATUS.RUNNING t && !s.on Hid.CAP_TRIGD t then
    ((s.raise Reg.CAP_STATUS.TRIGGERED t).raise Hid.CAP_TRIGD t).put Hid.CAP_LEFT t (s.get Reg.CAP_CTRL.POST t)
  else s

/-- TRIG (R301). -/
def execCapTrig (w : Who) (t : Tile) (s : State) : Host.Outcome State Fault Refusal :=
  .next (s.jDone w Reg.CAP_CTRL.TRIG t noTarget |>.capNow t)

/-- CAPTURE_STOP (R301): the segments after the trigger are complete. -/
def execCaptureStop (t : Tile) (s : State) : Host.Outcome State Fault Refusal :=
  .next (if s.on Reg.CAP_STATUS.RUNNING t.val && s.on Hid.CAP_TRIGD t.val && decide (s.get Hid.CAP_LEFT t.val = 0) then
      (s.clr Reg.CAP_STATUS.RUNNING t).raise Reg.CAP_STATUS.STOPPED t
    else s)

/-! Records (R302). -/

/-- The engines that CAP_MASK selects. -/
def State.capEngines (s : State) (t : Nat) : List Nat := (List.range 25).filter fun e => s.bit Reg.CAP_MASK.CAP_MASK t e

/-- Bytes filled up with zeros to a length. -/
def padTo (n : Nat) (l : List Byte) : List Byte := l ++ List.replicate (n - l.length) 0

/-- The keyframe of an engine, 2 176 bytes. -/
def State.keyframe (s : State) (t e : Nat) : List Byte :=
  let x := engIx t e
  let i := s.engPhase t e
  let flags := s.get Hid.E_Z x + 2 * s.get Hid.E_N x + 4 * s.get Hid.E_C x + 8 * s.get Hid.E_V x
  let b := s.get Reg.ENG_STATUS.BANK i
  let m := s.memSlot t e
  let head := leBytes 4 (3 * 2 ^ 30 + e * 2 ^ 25) ++ (List.range 16).flatMap (fun k => leBytes 4 (s.getAt Hid.E_W x k)) ++
    (List.range 2).flatMap (fun k => leBytes 8 (s.getAt Hid.E_A x k))
  let tail := leBytes 4 flags ++ leBytes 4 (s.get Hid.E_PC x) ++ leBytes 4 b ++ leBytes 4 (s.get Reg.ENG_EV.EVW i) ++
    wordBytes (s.bankCrc t m b) ++ wordBytes (s.bankCrc t m (1 - b))
  padTo 128 (head ++ tail) ++ s.rdBytes (dmAddr t m 0) 2048

/-- A record of 64 bytes: TYPE, the engine, the rest of word 0, and the bytes from 0x04 on. -/
def capRecord (typ e low : Nat) (body : List Byte) : List Byte := padTo 64 (leBytes 4 (typ * 2 ^ 30 + e * 2 ^ 25 + low) ++ body)

/-- Bytes go to the end of the segment. -/
def State.capAppend (s : State) (t : Nat) (l : List Byte) : State :=
  let s := s.wrBytes (capAddr t + s.get Reg.CAP_STATUS.NEXT t * 0x10000 + s.get Hid.CAP_OFF t) l
  s.put Hid.CAP_OFF t (s.get Hid.CAP_OFF t + l.length)

/-- The segment is complete: capture moves to the next one, and a triggered capture has one less to record. -/
def State.capRoll (s : State) (t : Nat) : State :=
  let n := (s.get Reg.CAP_STATUS.NEXT t + 1) % 16
  let s := ((s.put Reg.CAP_STATUS.NEXT t n).clr Hid.CAP_OFF t).when (n = 0) fun s => s.raise Hid.CAP_FULL t
  let s := s.when (s.on Hid.CAP_FULL t) fun s => s.put Reg.CAP_STATUS.OLDEST t ((n + 1) % 16)
  s.when (s.on Hid.CAP_TRIGD t) fun s => s.put Hid.CAP_LEFT t (s.get Hid.CAP_LEFT t - 1)

/-- A segment that has nothing in it yet begins with the keyframes. -/
def State.capOpen (s : State) (t : Nat) : State :=
  if s.get Hid.CAP_OFF t = 0 then s.over (s.capEngines t) fun s e => s.capAppend t (s.keyframe t e) else s

/-- One record is written; a full segment is left first. -/
def State.capOne (s : State) (t : Nat) (r : List Byte) : State :=
  let s := if 0x10000 < s.get Hid.CAP_OFF t + r.length then s.capRoll t else s
  if s.capturing t then (s.capOpen t).capAppend t r else s

/-- The records of a boundary: all in one segment where they fit. -/
def State.capWrite (s : State) (t : Nat) (l : List (List Byte)) : State :=
  if !s.capturing t || l.isEmpty then s
  else
    let s := s.capOpen t
    let s := if 0x10000 < s.get Hid.CAP_OFF t + 64 * l.length then s.capRoll t else s
    s.over l fun s r => s.capOne t r

/-- The records of one boundary (R302): the data-memory writes that take effect, the MARK outputs, and a tick record for each selected engine. `writes` are
the applied words with their addresses, `marks` the committed MARK values by engine, `waited` the engines at a waiting boundary. -/
def State.capTick (s : State) (t : Nat) (writes : List (Nat × Word)) (marks : List (Nat × Nat)) (waited : Nat → Bool) : State :=
  if !s.capturing t then s
  else
    let l := s.capEngines t
    let chosen := fun a => l.contains ((a - engMem t 0) / 0x4000)
    let dm := (writes.filter fun w => chosen w.1).map fun w => capRecord 1 ((w.1 - engMem t 0) / 0x4000) 0 (leBytes 4 w.1 ++ wordBytes w.2)
    let mk := (marks.filter fun m => l.contains m.1).map fun m => capRecord 2 m.1 0 (leBytes 4 m.2)
    let tk := l.map fun e =>
      capRecord 0 e ((waited e).toNat * 2 ^ 24 + s.get Reg.ENG_EV.EVW (s.engPhase t e))
        ((List.range 14).flatMap (fun k => leBytes 4 (s.getAt Hid.E_IN (engIx t e) k)) ++ leBytes 4 (s.get Hid.DUTY (s.engPhase t e)))
    s.capWrite t (dm ++ mk ++ tk)

end Sys2Proof.Machine
end

