-- ==== Sys2Proof/Machine/EngineCode.lean ====
section
/-!
DEFINITION. The encoding of the phase engines' instructions (R86, R87), its reading, and the halt on a reserved word (R77).
-/
namespace Sys2Proof.Machine

/-- Format R: OP, D, A, B, SH. -/
def codeR (op d a b sh : Nat) : Nat := op * 2 ^ 26 + d * 2 ^ 22 + a * 2 ^ 18 + b * 2 ^ 14 + sh * 2 ^ 9

/-- Format I: OP, D, A, IMM18. -/
def codeI (op d a imm : Nat) : Nat := op * 2 ^ 26 + d * 2 ^ 22 + a * 2 ^ 18 + imm

/-- Formats M, L, P and E, and J with its A zero: OP, D, A and a field at bit 0. -/
def codeM (op d a low : Nat) : Nat := op * 2 ^ 26 + d * 2 ^ 22 + a * 2 ^ 18 + low

/-- Format X: OP, D, A, B, SH, ACC. -/
def codeX (op d a b sh acc : Nat) : Nat := op * 2 ^ 26 + d * 2 ^ 22 + a * 2 ^ 18 + b * 2 ^ 14 + sh * 2 ^ 9 + acc * 2 ^ 8

/-- The word of an engine instruction, with zeros in the fields it does not use; `none` for a command that is no engine instruction. -/
def engEncode : Instr → Option Nat
  | .nop _ _ => some 0
  | .add _ _ d a b => some (codeR 0x01 d a b 0)
  | .sub _ _ d a b => some (codeR 0x02 d a b 0)
  | .adds _ _ d a b => some (codeR 0x03 d a b 0)
  | .subs _ _ d a b => some (codeR 0x04 d a b 0)
  | .andOp _ _ d a b => some (codeR 0x05 d a b 0)
  | .orOp _ _ d a b => some (codeR 0x06 d a b 0)
  | .xor _ _ d a b => some (codeR 0x07 d a b 0)
  | .minOp _ _ d a b => some (codeR 0x08 d a b 0)
  | .maxOp _ _ d a b => some (codeR 0x09 d a b 0)
  | .shl _ _ d a b => some (codeR 0x0A d a b 0)
  | .shr _ _ d a b => some (codeR 0x0B d a b 0)
  | .sra _ _ d a b => some (codeR 0x0C d a b 0)
  | .muls _ _ d a b sh => some (codeR 0x0D d a b sh)
  | .clamp _ _ d a b => some (codeR 0x0E d a b 0)
  | .cmp _ _ a b => some (codeR 0x0F 0 a b 0)
  | .addi _ _ d a imm => some (codeI 0x10 d a imm.toNat)
  | .shli _ _ d a imm => some (codeI 0x11 d a imm.toNat)
  | .srai _ _ d a imm => some (codeI 0x12 d a imm.toNat)
  | .lil _ _ d imm => some (codeM 0x13 d 0 imm.toNat)
  | .lih _ _ d imm => some (codeM 0x14 d 0 imm.toNat)
  | .cmpi _ _ a imm => some (codeI 0x15 0 a imm.toNat)
  | .ld _ _ d a off => some (codeM 0x18 d a off.toNat)
  | .st _ _ d a off => some (codeM 0x19 d a off.toNat)
  | .mac _ _ a b acc => some (codeX 0x20 0 a b 0 acc)
  | .msu _ _ a b acc => some (codeX 0x21 0 a b 0 acc)
  | .ald _ _ a sh acc => some (codeX 0x22 0 a 0 sh acc)
  | .ard _ _ d sh acc => some (codeX 0x23 d 0 0 sh acc)
  | .inPort _ _ d port => some (codeM 0x28 d 0 port)
  | .outPort _ _ port a => some (codeM 0x29 0 a port)
  | .evr _ _ d => some (codeM 0x2A d 0 0)
  | .eclr _ _ mask => some (codeM 0x2B 0 0 mask.toNat)
  | .bev _ _ target => some (codeM 0x2C 0 0 target.toNat)
  | .br _ _ cond target => some (codeM 0x30 cond 0 target.toNat)
  | .jl _ _ d target => some (codeM 0x31 d 0 target.toNat)
  | .jr _ _ a => some (codeM 0x32 0 a 0)
  | .waitt _ _ => some (codeM 0x3E 0 0 0)
  | _ => none

/-- The word is a number below `n`. -/
def below (n x : Nat) : Option (Fin n) := if h : x < n then some ⟨x, h⟩ else none

/-- D, or COND, of a word. -/
def fieldD (w : Nat) : Fin 16 := Fin.ofNat 16 (w / 2 ^ 22)
/-- A of a word. -/
def fieldA (w : Nat) : Fin 16 := Fin.ofNat 16 (w / 2 ^ 18)
/-- B of a word. -/
def fieldB (w : Nat) : Fin 16 := Fin.ofNat 16 (w / 2 ^ 14)
/-- SH of a word. -/
def fieldSh (w : Nat) : Nat := w / 2 ^ 9 % 32
/-- ACC of a word. -/
def fieldAcc (w : Nat) : Fin 2 := Fin.ofNat 2 (w / 2 ^ 8)

/-- The instruction that the opcode and the fields it uses name, whatever stands in the other bits. -/
def engFields (t : Tile) (e : Slot) (w : Nat) : Option Instr :=
  let d := fieldD w
  let a := fieldA w
  let b := fieldB w
  match w / 2 ^ 26 with
  | 0x00 => some (.nop t e)
  | 0x01 => some (.add t e d a b)
  | 0x02 => some (.sub t e d a b)
  | 0x03 => some (.adds t e d a b)
  | 0x04 => some (.subs t e d a b)
  | 0x05 => some (.andOp t e d a b)
  | 0x06 => some (.orOp t e d a b)
  | 0x07 => some (.xor t e d a b)
  | 0x08 => some (.minOp t e d a b)
  | 0x09 => some (.maxOp t e d a b)
  | 0x0A => some (.shl t e d a b)
  | 0x0B => some (.shr t e d a b)
  | 0x0C => some (.sra t e d a b)
  | 0x0D => some (.muls t e d a b (Fin.ofNat 32 (fieldSh w)))
  | 0x0E => some (.clamp t e d a b)
  | 0x0F => some (.cmp t e a b)
  | 0x10 => some (.addi t e d a (BitVec.ofNat 18 w))
  | 0x11 => some (.shli t e d a (BitVec.ofNat 5 w))
  | 0x12 => some (.srai t e d a (BitVec.ofNat 5 w))
  | 0x13 => some (.lil t e d (BitVec.ofNat 16 w))
  | 0x14 => some (.lih t e d (BitVec.ofNat 16 w))
  | 0x15 => some (.cmpi t e a (BitVec.ofNat 18 w))
  | 0x18 => some (.ld t e d a (BitVec.ofNat 9 w))
  | 0x19 => some (.st t e d a (BitVec.ofNat 9 w))
  | 0x20 => some (.mac t e a b (fieldAcc w))
  | 0x21 => some (.msu t e a b (fieldAcc w))
  | 0x22 => (below 17 (fieldSh w)).map fun sh => .ald t e a sh (fieldAcc w)
  | 0x23 => some (.ard t e d (Fin.ofNat 32 (fieldSh w)) (fieldAcc w))
  | 0x28 => (below 14 (w % 32)).map fun port => .inPort t e d port
  | 0x29 => (below 4 (w % 32)).map fun port => .outPort t e port a
  | 0x2A => some (.evr t e d)
  | 0x2B => some (.eclr t e (BitVec.ofNat 16 w))
  | 0x2C => some (.bev t e (BitVec.ofNat 10 w))
  | 0x30 => (below 13 d.val).map fun c => .br t e c (BitVec.ofNat 10 w)
  | 0x31 => some (.jl t e d (BitVec.ofNat 10 w))
  | 0x32 => some (.jr t e a)
  | 0x3E => some (.waitt t e)
  | _ => none

/-- The instruction of a word; `none` for a reserved one: an opcode, a condition, a port or an SH that the tables do not have, or a bit that is not zero
in a field which the instruction does not use (R77, R86; DEDUCED, log entry 84). -/
def engDecode (t : Tile) (e : Slot) (w : Nat) : Option Instr :=
  match engFields t e w with
  | some i => if engEncode i = some w then some i else none
  | none => none

/-- ILLEGAL_INSTRUCTION (R77): a reserved word in the slot of an engine that executes halts it and is not executed. -/
def execIllegalInstruction (t : Tile) (e : Slot) (w : Word) (s : State) : Host.Outcome State Fault Refusal :=
  let x := engIx t e
  let i := s.engPhase t e
  .next (if s.engReady x i && (engDecode t e w.toNat).isNone then
      ((s.raise Reg.ENG_STATUS.ILLEGAL i).raise Reg.ENG_STATUS.HALTED i).put Reg.ENG_PC.HALT_PC i (s.get Hid.E_PC x)
    else s)

end Sys2Proof.Machine
end

