-- ==== Sys2Proof/Machine/Mgmt.lean ====
section
/-!
DEFINITION. The management cores' sleep, the managers' memories, the watchdog, the calendar, the tamper inputs and TRACE_MARK (R360 to R384).
-/
namespace Sys2Proof.Machine

/-! Cores (R361, R383). -/

/-- A core that is not halted goes to sleep; the controller shows the active manager's cores. -/
def State.coreSleep (s : State) (m c pc : Nat) : State :=
  if !s.on Hid.PRESENT m || (c < 3 && s.onAt Reg.EVC_CORE.HALTED 0 c) then s
  else
    let s := s.trace m c 3 pc 0
    if m ≠ s.act then s
    else
      let s := s.putAt Hid.CORE_PC 0 c pc
      if c < 3 then s.raiseAt Reg.EVC_CORE.SLEEPING 0 c else s.raise Hid.SC_SLEEP 0

/-- WAIT (R361). -/
def execCoreWait (m : Mgr) (core : Fin 4) (pc : Word) (s : State) : Host.Outcome State Fault Refusal :=
  .next (s.coreSleep m.val core.val pc.toNat)

/-- TRACE_MARK (R383): the record belongs to the core that writes; the host window and the service port are no core. -/
def execTraceMark (w : Who) (m : Mgr) (v : Word) (s : State) : Host.Outcome State Fault Refusal :=
  .next (
    let s := s.served w m.val
    match coreOf w with
    | some c => s.trace m.val c 5 v.toNat v.toNat
    | none => s)

/-! The scratchpad and the mirror window (R362 to R367). -/

/-- The memory of a manager that holds an address: 0 scratchpad, 1 core-local, 2 mirror window, 3 ferroelectric array; 4 none. -/
def memOf (a : Nat) : Nat :=
  if 0x10000000 ≤ a && a < 0x10100000 then 0
  else if 0x10100000 ≤ a && a < 0x10104000 then 2
  else if 0x20000000 ≤ a && a < 0x20040000 then 3
  else if 0xE0000000 ≤ a && a < 0xE0020000 then 1
  else 4

/-- An address in the secure part of the scratchpad. -/
def inSecure (a : Nat) : Bool := decide (0x100F0000 ≤ a) && decide (a < 0x10100000)

/-- The initiator reaches the secure part (R364). -/
def mayReachSecure (w : Who) (secure : Bool) : Bool :=
  match w with
  | .sc => true
  | .mc0 | .mc1 | .mc2 => secure
  | _ => false

/-- An error in a word of manager `m`'s scratchpad or ferroelectric array is one that an Awl probe follows (R297). -/
def State.memError (s : State) (m mem : Nat) : State :=
  if mem = 0 then s.awlError Awl.memory m 0 else if mem = 3 then s.awlError Awl.memory m 1 else s

/-- A corrected error: counted, and its flag sets (R366). -/
def State.memCorrected (s : State) (m mem : Nat) : State :=
  ((s.memError m mem).bump Reg.MEM_STATUS.CORR_COUNT m).raise (if mem = 3 then Reg.MEM_STATUS.FE_CORR else Reg.MEM_STATUS.SP_CORR) m

/-- An uncorrectable error in the scratchpad, core-local RAM or mirror window: UNCORR, and an explicit fault of the manager (R367). -/
def State.memUncorrectable (s : State) (m mem : Nat) : State := ((s.memError m mem).explicitFault m).raise Reg.MEM_STATUS.UNCORR m

/-- The low `n` bytes of a word. -/
def lowBytes (n : Nat) (v : Word) : List Byte := (wordBytes v).take n

/-- A store to the scratchpad or the mirror window (R287, R362 to R364, R367; DEDUCED, log entry 71). -/
def State.spStore (s : State) (w : Who) (m : Nat) (secure : Bool) (a n : Nat) (v : Word) (row : Upset) : State :=
  let m := s.reach w m
  let last := a + n - 1
  let touches := inSecure a || inSecure last
  if memOf a ≠ memOf last || !(memOf a = 0 || memOf a = 2) then s.busError w m
  else if touches && !mayReachSecure w secure then (s.busError w m).raise Reg.MEM_STATUS.SEC_VIOL m
  else if memOf a = 2 && m ≠ s.act then s.busError w m
  else
    match row with
    | .lost => (s.busError w m).memUncorrectable m (memOf a)
    | .corrected => ((s.served w m).memCorrected m 0).wrBytes (mgrMem m a) (lowBytes n v)
    | _ => (s.served w m).wrBytes (mgrMem m a) (lowBytes n v)

/-- SCRATCHPAD_STORE (R362). -/
def execScratchpadStore (w : Who) (m : Mgr) (secure : Bool) (addr : Word) (size : Fin 3) (v : Word) (rowRead : Upset) (s : State) :
    Host.Outcome State Fault Refusal :=
  .next (s.spStore w m.val secure addr.toNat (2 ^ size.val) v rowRead)

/-! The ferroelectric array (R368, R369). -/

/-- The firmware region, the one that cores may write. -/
def feFirmware (a : Nat) : Bool := decide (0x2002A000 ≤ a) && decide (a < 0x2003E000)

/-- The word at an address of the array can be read again (DEDUCED, log entry 69). -/
def State.feGood (s : State) (a : Nat) : State := { s with feBad := s.feBad.filter fun x => x ≠ a / 4 * 4 }

/-- A store to the ferroelectric array: aligned, and in the firmware region; a partial store of a word that no read corrects has a bus error. -/
def State.feStore (s : State) (w : Who) (m a n : Nat) (v : Word) : State :=
  let m := s.reach w m
  let x := mgrMem m a
  if a % n ≠ 0 || !feFirmware a || (n < 4 && s.feBad.contains (x / 4 * 4)) then s.busError w m
  else ((s.served w m).feGood x).wrBytes x (lowBytes n v)

/-- FRAM_STORE (R368). -/
def execFramStore (w : Who) (m : Mgr) (addr : Word) (size : Fin 3) (v : Word) (s : State) : Host.Outcome State Fault Refusal :=
  .next (s.feStore w m.val addr.toNat (2 ^ size.val) v)

/-- The scrubber reads a row: a corrected error is rewritten and counted, an uncorrectable one handled under R367. -/
def State.scrub (s : State) (m a : Nat) (row : Upset) : State :=
  if !s.on Hid.PRESENT m || memOf a = 4 then s
  else
    match row with
    | .corrected => s.memCorrected m (memOf a)
    | .lost =>
      if memOf a = 3 then
        let s := s.memError m 3
        { s with feBad := (mgrMem m a / 4 * 4) :: (s.feGood (mgrMem m a)).feBad }
      else s.memUncorrectable m (memOf a)
    | _ => s

/-- MEMORY_SCRUB (R366). -/
def execMemoryScrub (m : Mgr) (addr : Word) (rowRead : Upset) (s : State) : Host.Outcome State Fault Refusal :=
  .next (s.scrub m.val addr.toNat rowRead)

/-! The watchdog (R370 to R375). -/

namespace WdCause
abbrev timeout : Nat := 1
abbrev early : Nat := 2
abbrev wrongKey : Nat := 3
abbrev order : Nat := 4
end WdCause

/-- Microseconds since the running period started. -/
def State.wdtAge (s : State) : Nat := beatDiff s.beat (s.get Hid.WDT_BEAT 0)

/-- The running period in microseconds. -/
def State.wdtLength (s : State) : Nat := s.get Hid.WDT_PERIOD 0 * 1000

/-- The watchdog counts: armed, on the active manager, outside PARK (R375). -/
def State.wdtCounts (s : State) : Bool := s.on Reg.WDT_STATUS.ARMED 0 && s.active.isSome && decide (s.dev ≠ Dev.park)

/-- The open window, from half of the period to its end. -/
def State.wdtOpen (s : State) : Bool := s.wdtCounts && decide (s.wdtLength ≤ 2 * s.wdtAge) && decide (s.wdtAge < s.wdtLength)

/-- A period starts, armed, with the PERIOD in force. -/
def State.wdtStart (s : State) : State :=
  (((s.raise Reg.WDT_STATUS.ARMED 0).put Hid.WDT_BEAT 0 s.beat).put Hid.WDT_PERIOD 0 (s.get Reg.WDT_CFG.PERIOD 0)).clr Reg.WDT_STATUS.HALF 0

/-- An expiry: it shows, WDT_OUT_N is low, and the manager has an explicit fault (R374). -/
def State.wdtExpire (s : State) (cause : Nat) : State :=
  let s := ((s.raise Reg.WDT_STATUS.EXPIRED 0).put Reg.WDT_STATUS.CAUSE 0 cause).bump Reg.WDT_STATUS.EXPIRE_COUNT 0
  let s := ((s.raise Reg.WDT_STATUS.PULSING 0).put Hid.WDT_RST 0 (s.get Reg.WDT_CFG.RST_EN 0)).clr Reg.WDT_STATUS.HALF 0
  let s := (s.put Hid.PULSE_AT 0 s.beat).put Hid.PULSE_MS 0 (s.get Reg.WDT_CFG.PULSE 0)
  s.explicitFault s.act

/-- A key from an initiator that may not write one sets SRC_REJ; the shadow's register takes no write (R373, R458). -/
def State.wdtKey (s : State) (w : Who) (m : Nat) (g : State → State) : State :=
  match coreOf w with
  | none => (s.served w m).raise Reg.WDT_STATUS.SRC_REJ 0
  | some _ => s.governed w m g

/-- KEY_A (R371, R372). -/
def State.keyA (s : State) : State :=
  if !s.on Reg.WDT_STATUS.ARMED 0 then
    (if s.on Reg.WDT_STATUS.HALF 0 then s.clr Reg.WDT_STATUS.HALF 0 else s.raise Reg.WDT_STATUS.HALF 0)
  else if !s.wdtCounts || s.wdtLength ≤ s.wdtAge then s
  else if !s.wdtOpen then s.wdtExpire WdCause.early
  else if s.on Reg.WDT_STATUS.HALF 0 then s.wdtExpire WdCause.order
  else s.raise Reg.WDT_STATUS.HALF 0

/-- KEY_A (R371). -/
def execKeyA (w : Who) (m : Mgr) (s : State) : Host.Outcome State Fault Refusal := .next (s.wdtKey w m.val State.keyA)

/-- KEY_B: the service completes and the next period starts; a KEY_B at the end of the period is too late (R371, R372). -/
def State.keyB (s : State) : State :=
  if !s.on Reg.WDT_STATUS.ARMED 0 then (if s.on Reg.WDT_STATUS.HALF 0 then s.wdtStart else s)
  else if !s.wdtCounts || s.wdtLength ≤ s.wdtAge then s
  else if !s.wdtOpen then s.wdtExpire WdCause.early
  else if s.on Reg.WDT_STATUS.HALF 0 then s.wdtStart
  else s.wdtExpire WdCause.order

/-- KEY_B (R371). -/
def execKeyB (w : Who) (m : Mgr) (s : State) : Host.Outcome State Fault Refusal := .next (s.wdtKey w m.val State.keyB)

/-- A value that is neither key: a violation while armed, else a discarded half pair (R370, R372). -/
def State.badKey (s : State) : State :=
  if !s.on Reg.WDT_STATUS.ARMED 0 then s.clr Reg.WDT_STATUS.HALF 0
  else if !s.wdtCounts || s.wdtLength ≤ s.wdtAge then s
  else s.wdtExpire WdCause.wrongKey

/-- WDT_BAD_KEY (R372). -/
def execWdtBadKey (w : Who) (m : Mgr) (s : State) : Host.Outcome State Fault Refusal := .next (s.wdtKey w m.val State.badKey)

/-- EWARN (R371): 75 % of the period has passed. -/
def execEwarn (s : State) : Host.Outcome State Fault Refusal :=
  .next (if s.wdtCounts && decide (3 * s.wdtLength ≤ 4 * s.wdtAge) then s.raise Reg.WDT_STATUS.EWARN 0 else s)

/-- WDT_TIMEOUT (R372): the period has ended. -/
def execWdtTimeout (s : State) : Host.Outcome State Fault Refusal :=
  .next (if s.wdtCounts && decide (s.wdtLength ≤ s.wdtAge) then s.wdtExpire WdCause.timeout else s)

/-- The pulse has lasted PULSE ms as it stood at the expiry. -/
def State.pulsed (s : State) : Bool := decide (s.get Hid.PULSE_MS 0 * 1000 ≤ beatDiff s.beat (s.get Hid.PULSE_AT 0))

/-- WDT_PULSE_END (R374). -/
def execWdtPulseEnd (s : State) : Host.Outcome State Fault Refusal :=
  .next (if s.on Reg.WDT_STATUS.PULSING 0 && s.pulsed then
      (s.clr Reg.WDT_STATUS.PULSING 0).when (s.on Hid.WDT_RST 0) fun s => s.systemReset RstCause.watchdog
    else s)

/-! Wake sources of PARK (R354, R355), in the bit order of PARK_CFG. -/

namespace Wk
abbrev bus : Nat := 0
abbrev svc : Nat := 1
abbrev vaux : Nat := 2
abbrev rtc : Nat := 3
abbrev flt : Nat := 4
end Wk

/-- A wake source becomes active in PARK. -/
def State.wakeSource (s : State) (b : Nat) : State := s.when (s.dev = Dev.park) fun s => s.putBit Hid.WAKE_PEND 0 b true

/-! The calendar (R376 to R381). -/

/-- The alarm fires (R381). -/
def State.alarm (s : State) : State := (s.raise Reg.RTC_STATUS.ALM_EVT 0).wakeSource Wk.rtc

/-- A summer-time command is in the list. -/
def dstCmd (add : Bool) : CmdKind := .other ((if add then Reg.RTC_CTRL.DST_ADD else Reg.RTC_CTRL.DST_SUB).addr 0 0 + (if add then 1 else 0))

/-- A pending summer-time change takes effect (R379). -/
def State.dstApply (s : State) : State :=
  if !s.on Reg.RTC_STATUS.DST_PEND 0 then s
  else
    let add := s.on Hid.DST_WANT 0
    ((s.putB Reg.RTC_STATUS.DST 0 add).clr Reg.RTC_STATUS.DST_PEND 0).complete (dstCmd add) JStatus.ok 0

/-- A second boundary of the counting calendar. -/
def State.rtcSecond (s : State) : State :=
  if s.on Reg.RTC_STATUS.HALTED 0 then s
  else
    let c := s.get Reg.RTC_SEC.CAL_SEC 0
    let s := (s.put Reg.RTC_SEC.CAL_SEC 0 (min (c + 1) 0xFFFFFFFF)).dstApply
    s.when (c + 1 = s.get Reg.RTC_ALARM.ALARM_SEC 0) fun s => s.alarm

/-- RTC_SECOND (R376). -/
def execRtcSecond (s : State) : Host.Outcome State Fault Refusal := .next s.rtcSecond

/-- HALT sets: the calendar stops. -/
def State.rtcHalt (s : State) : State :=
  let s := s.raise Reg.RTC_CTRL.HALT 0
  if s.on Reg.RTC_STATUS.HALTED 0 then s
  else (s.raise Reg.RTC_STATUS.HALTED 0).put Hid.RTC_AT_HALT 0 (s.get Reg.RTC_SEC.CAL_SEC 0)

/-- HALT (R378). -/
def execRtcHalt (w : Who) (m : Mgr) (s : State) : Host.Outcome State Fault Refusal := .next (s.governed w m.val State.rtcHalt)

/-- HALT clears: counting resumes; a calendar that was set back is a backward step, and an alarm at the first counted second fires (DEDUCED, log entry 31). -/
def State.rtcResume (s : State) : State :=
  let s := s.clr Reg.RTC_CTRL.HALT 0
  if !s.on Reg.RTC_STATUS.HALTED 0 then s
  else
    let old := s.get Hid.RTC_AT_HALT 0
    let s := s.clr Reg.RTC_STATUS.HALTED 0
    let s := s.when (decide (s.get Reg.RTC_SEC.CAL_SEC 0 < old)) fun s =>
      ((s.journal originDevice JKind.timeStep 0 JStatus.ok noTarget (504 + 32 * s.act + 19) old).bump Reg.RTC_STATUS.BACK_COUNT 0).raise
        Reg.RTC_STATUS.GAUGE_BSTEP 0
    s.when (s.get Reg.RTC_SEC.CAL_SEC 0 = s.get Reg.RTC_ALARM.ALARM_SEC 0 && decide (s.get Reg.RTC_SEC.CAL_SEC 0 ≠ old)) fun s => s.alarm

/-- RTC_RESUME (R378). -/
def execRtcResume (w : Who) (m : Mgr) (s : State) : Host.Outcome State Fault Refusal := .next (s.governed w m.val State.rtcResume)

/-- A write of CAL_SEC: accepted while halted (R378, R380). -/
def State.rtcSecWrite (s : State) (v : Nat) : State :=
  if s.on Reg.RTC_STATUS.HALTED 0 then (s.put Reg.RTC_SEC.CAL_SEC 0 v).raise Reg.RTC_STATUS.CAL_VALID 0
  else s.raise Reg.RTC_STATUS.CFG_REJ 0

/-- RTC_SEC_WRITE (R378). -/
def execRtcSecWrite (w : Who) (m : Mgr) (v : Word) (s : State) : Host.Outcome State Fault Refusal :=
  .next (s.governed w m.val fun s => s.rtcSecWrite v.toNat)

/-- DST_ADD or DST_SUB: refused where DST has that value already; it waits for the next second, and replaces a command that waits (R379). -/
def State.dstCommand (s : State) (w : Who) (add : Bool) : State :=
  let f := if add then Reg.RTC_CTRL.DST_ADD else Reg.RTC_CTRL.DST_SUB
  if s.on Reg.RTC_STATUS.DST 0 = add then (s.raise Reg.RTC_CTRL.CMD_REJ 0).jRefused w f 0 noTarget JStatus.refused
  else
    let s := (s.complete (dstCmd true) JStatus.cancelled 0).complete (dstCmd false) JStatus.cancelled 0
    ((s.acceptReg w (dstCmd add) f 0 noTarget true).raise Reg.RTC_STATUS.DST_PEND 0).putB Hid.DST_WANT 0 add

/-- DST_ADD (R379). -/
def execDstAdd (w : Who) (m : Mgr) (s : State) : Host.Outcome State Fault Refusal := .next (s.governed w m.val fun s => s.dstCommand w true)

/-- DST_SUB (R379). -/
def execDstSub (w : Who) (m : Mgr) (s : State) : Host.Outcome State Fault Refusal := .next (s.governed w m.val fun s => s.dstCommand w false)

/-- BKUP_LOW (R380): sensed low while a VBIAS input is present, or the Mews domain powers up with its B fields lost. -/
def execBkupLow (lost : Bool) (s : State) : Host.Outcome State Fault Refusal :=
  .next (if lost && s.on Hid.MEWS_NEW 0 then (((s.clr Hid.MEWS_NEW 0).clr Reg.RTC_SEC.CAL_SEC 0).clr Reg.RTC_STATUS.CAL_VALID 0).raise Reg.RTC_STATUS.BKUP_LOW 0
    else if !lost && (s.on Hid.POWERED 0 || s.on Hid.POWERED 1) then s.raise Reg.RTC_STATUS.BKUP_LOW 0
    else s)

/-! Tamper (R382). -/

/-- The secure part of a manager's scratchpad reads zeros. -/
def State.zeroSecure (s : State) (m : Nat) : State := s.zeroMem (mgrMem m 0x100F0000) (mgrMem m 0x10100000)

/-- Three consecutive samples are at the active level of the input. -/
def State.tampered (s : State) (n : Nat) (samples : BitVec 3) : Bool :=
  decide (samples = if s.on (if n = 0 then Reg.TAMP_CFG.TPOL0 else Reg.TAMP_CFG.TPOL1) 0 then 7 else 0)

/-- An enabled input has been active for three samples. -/
def State.tamper (s : State) (n : Nat) (samples : BitVec 3) : State :=
  if !s.on (if n = 0 then Reg.TAMP_CFG.TEN0 else Reg.TAMP_CFG.TEN1) 0 || !s.tampered n samples then s
  else
    let s := s.when (!s.on Reg.RTC_STATUS.TAMP_EVT 0) fun s => s.put Reg.TAMP_TIME.TAMP_TIME 0 (s.get Reg.RTC_SEC.CAL_SEC 0)
    let s := (s.raise Reg.RTC_STATUS.TAMP_EVT 0).wakeSource Wk.rtc
    s.when (s.on Reg.TAMP_CFG.TACT 0) fun s =>
      (s.over ((List.range 2).filter fun m => s.on Hid.POWERED m) fun s m => s.zeroSecure m).resetCells fun k => k.1 = Hid.SEC_SHA.id

/-- TAMPER (R382). -/
def execTamper (input : Fin 2) (samples : BitVec 3) (s : State) : Host.Outcome State Fault Refusal := .next (s.tamper input.val samples)

end Sys2Proof.Machine
end

