-- ==== Sys2Proof/Machine/Views.lean ====
section
/-!
DEFINITION. What a register shows: the fields whose value follows from other state, a register as a word, the words that a read of a low word leaves for
the later reads of the same initiator (R161), and what stands at an address of the map (R35 to R38).
-/
namespace Sys2Proof.Machine

/-! The ARM criteria (R339). -/

/-- The tile carries a phase or a sense channel of a configured rail. -/
def State.tileUsed (s : State) (t : Nat) : Bool :=
  (List.range 48).any fun r => s.kindOf r ≠ 0 && (s.tilesOf r).contains t

/-- The tile has its verdict, is locked and settled, and has completed skew calibration. -/
def State.tileArmed (s : State) (t : Nat) : Bool :=
  decide (s.get Hid.BC_VERDICT t = 1) && s.unitReady t && s.on Hid.SKEW_OK t

/-- IMAGE, TILES, VBB, GAUGE and VIO, from bit 0 up. -/
def State.armOk (s : State) : Nat :=
  (s.on Hid.COMMITTED 0).toNat +
  2 * ((List.range 4).all fun t => !s.tileUsed t || s.tileArmed t).toNat +
  4 * (s.on Hid.VBB_IN 0 && decide (1000 ≤ beatDiff s.beat (s.get Hid.VBB_BEAT 0))).toNat +
  8 * (s.on Hid.GG_READY 0).toNat + 16 * (s.on Hid.VIO_OK 0).toNat

/-! Fields that follow from other state. -/

/-- The rail has a forecast pulse scheduled or running on the tile. -/
def State.fireAct (s : State) (i : Nat) : Bool := (s.phasesOn (i / 48) (i % 48)).any fun p => s.on Hid.FPULSE p

/-- Bit `g` for every input group for which `f` holds. -/
def groupMask (f : Nat → Bool) : Nat := (List.range 8).foldl (fun a g => a + (f g).toNat * 2 ^ g) 0

/-- FLT_N is low. -/
def State.fltLow (s : State) : Bool := s.on Hid.FLT_LOW 0 || s.on Reg.FLT_CFG.ASSERTED 0

/-- Routed records wait and no core is eligible (R317). -/
def State.noCore (s : State) : Bool := !s.evMain.isEmpty && s.chosenCore.isNone

/-- The newest entry of the host queue is an open overflow record. -/
def State.hqOvf (s : State) : Bool := (s.evHost.getLast?.map fun (r : EvRec) => r.typ = 4 && r.isOpen).getD false

/-- Seconds to the trial's deadline; 0 outside TRIAL (R434). -/
def State.trialLeft (s : State) : Nat := if s.upd = Upd.trial then (s.get Hid.UPD_DEADLINE 0 - s.fullBeat) / 1000000 else 0

/-- A command that was accepted waits for clock-readiness: its request is not taken up yet (R5, R30). -/
def State.asksStill (s : State) (k : CmdKind) : Bool := s.cmds.any fun c => c.kind = k && !c.started

/-- What a tile's copy of a telemetry field shows: on the partner tile 0 unless it reports in place of the home half (R159). -/
def State.telShown (s : State) (f : Fld) (i : Nat) : Nat := if i / 48 = s.home (i % 48) || s.serves (i / 48) (i % 48) then s.get f i else 0

/-- The fields that follow from other state, each with what it shows: manager, block and copy are given. -/
def derived : List (Fld × (State → Nat → Nat → Nat → Nat)) :=
  [(Reg.BEAT_LO.BEAT_LOW, fun s m _ _ => s.get Hid.BEAT m % 2 ^ 32),
   (Reg.CLK_STATUS.CLOCK_READY, fun s _ _ _ => (s.active.isSome && (List.range 48).all fun r => s.kindOf r = 0 || s.railReady r).toNat),
   (Reg.RAIL_SHED_STATUS.N_PARKED, fun s _ i _ => s.shown (i / 48) (i % 48) fun p => s.ph p = Ph.parked),
   (Reg.RAIL_SHED_STATUS.N_ACTIVE, fun s _ i _ => s.shown (i / 48) (i % 48) s.isActivePh),
   (Reg.ISO_STATE.ISO_PIN, fun s _ _ _ => groupMask s.isoLow),
   (Reg.ISO_CTRL.ISO_PIN, fun s _ _ _ => groupMask s.isoLow),
   (Reg.ISO_CTRL.ISO_LATCH, fun s _ _ _ => groupMask s.isoLow),
   (Reg.CINCH_STATUS.ARMED, fun s _ i _ => (s.armed (i / 48) (i % 48)).toNat),
   (Reg.FC_STATUS.FIRE_ACT, fun s _ i _ => (s.fireAct i).toNat)]
  ++
  [(Reg.SQL_OFS_LO.OFS_LOW, fun s _ _ _ => s.get Hid.SQL_OFS 0 % 2 ^ 32),
   (Reg.SQL_OFS_HI.OFS_HIGH, fun s _ _ _ => s.get Hid.SQL_OFS 0 / 2 ^ 32),
   (Reg.FLT_CFG.SENSED, fun s _ _ _ => s.fltLow.toNat),
   (Reg.PH_PROT_STATUS.ILIM_EFF, fun s _ i _ => s.ilimEff i),
   (Reg.PH_PROT_STATUS.DERATED, fun s _ i _ => (s.derated i).toNat),
   (Reg.BFET_STATUS.HOLDUP_OK, fun s _ _ _ =>
     (s.bfet = 1 && s.on Reg.CHG_STATUS.BAT_PRESENT 0 && decide (8000 ≤ s.vbat)).toNat),
   (Reg.PACK_ID_LO.ID_LOW, fun s _ _ _ => s.get Hid.PACK_ID 0 % 2 ^ 32),
   (Reg.PACK_ID_HI.ID_HIGH, fun s _ _ _ => s.get Hid.PACK_ID 0 / 2 ^ 32),
   (Reg.REIN_STATUS.ROLE_SENSE, fun s _ _ _ => s.roleLow.toNat),
   (Reg.LBIST_SIG_LO.SIG_LOW, fun s _ _ _ => s.get Hid.LBIST_SIG 0 % 2 ^ 32),
   (Reg.LBIST_SIG_HI.SIG_HIGH, fun s _ _ _ => s.get Hid.LBIST_SIG 0 / 2 ^ 32),
   (Reg.DEV_STATE.SINGLE_MGR, fun s _ _ _ => s.singleMgr.toNat),
   (Reg.DEV_STATE.ARM_OK, fun s _ _ _ => s.armOk),
   (Reg.WDT_STATUS.OPEN, fun s _ _ _ => s.wdtOpen.toNat)]
  ++
  [(Reg.EVC_STATUS.USED, fun s _ _ _ => slotsUsed s.evMain),
   (Reg.EVC_STATUS.FOLD_OPEN, fun s _ _ _ => (s.evMain.any fun (r : EvRec) => r.typ = 2 && r.isOpen).toNat),
   (Reg.EVC_STATUS.NO_CORE, fun s _ _ _ => s.noCore.toNat),
   (Reg.EVC_STATUS.SQ_NONEMPTY, fun s _ _ _ => (s.takeable .safe).isSome.toNat),
   (Reg.EVC_STATUS.NONEMPTY, fun s _ _ _ => (s.takeable .main).isSome.toNat),
   (Reg.EVC_CORE.IRQ, fun s _ _ j => (s.coreIrq j).toNat),
   (Reg.EVC_HQ_STATUS.HQ_USED, fun s _ _ _ => s.evHost.length),
   (Reg.EVC_HQ_STATUS.HQ_OVF, fun s _ _ _ => s.hqOvf.toNat),
   (Reg.EVC_HQ_STATUS.ALERT, fun s _ _ _ => s.alertLow.toNat),
   (Reg.SRC_CFG.CLASS, fun s _ _ j => s.srcClassReg j),
   (Reg.SRC_CFG.FOLD_CLS, fun s _ _ j => s.srcFoldReg j),
   (Reg.UPD_TRIAL.TRIAL_LEFT, fun s _ _ _ => s.trialLeft)]
  ++
  ([Reg.RAIL_TLM_V.V_AVG, Reg.RAIL_TLM_V.I_AVG, Reg.RAIL_TLM_P.P_AVG, Reg.RAIL_TLM_PK.V_MAX, Reg.RAIL_TLM_PK.V_MIN, Reg.RAIL_E_LO.E, Reg.RAIL_E_HI.E,
    Reg.RAIL_ACC_FLAGS.WRAP].map fun f => (f, fun s _ i _ => s.telShown f i))
  ++
  [(Reg.BEAT_HI.BEAT_HIGH, fun s m _ _ => s.get Hid.BEAT m / 2 ^ 32),
   (Reg.BEAT_HI.BEAT_EPOCH, fun s m _ _ => s.get Hid.EPOCH m),
   (Reg.RAIL_TLM_CFG.PK_CLR, fun s _ i _ => s.get Hid.PK_PEND i),
   (Reg.PH_CMD.ADD, fun s _ i _ => (s.on Hid.DIAG_ADD i || s.asksStill (.phAdd i)).toNat),
   (Reg.RAIL_SUP_CMD.ON, fun s _ i _ => (s.asksStill (.railOn (i % 48))).toNat),
   (Reg.SQL_TX_CTRL.GO, fun s _ _ _ => (s.on Hid.LN_HOST 0 || s.asksStill .lane).toNat),
   (Reg.RTC_CTRL.DST_ADD, fun s _ _ _ => (s.on Reg.RTC_STATUS.DST_PEND 0 && s.on Hid.DST_WANT 0).toNat),
   (Reg.RTC_CTRL.DST_SUB, fun s _ _ _ => (s.on Reg.RTC_STATUS.DST_PEND 0 && !s.on Hid.DST_WANT 0).toNat)]

/-- What copy `j` of a field in block `i` shows on manager `m`. In FUSE_HOLD the K fields show their reset values (R332; DEDUCED, log entry 10). -/
def State.view (s : State) (f : Fld) (m i j : Nat) : Nat :=
  match derived.find? fun d => d.1.seq = f.seq with
  | some d => d.2 s m i j % 2 ^ f.wid
  | none => if f.ret = .K && s.dev = Dev.fuseHold then f.rst else s.getAt f i j


/-! Registers as words. -/

/-- The copy of a field that stands at an offset of its block, if it does. -/
def Fld.copyAt (f : Fld) (off : Nat) : Option Nat :=
  if off < f.off then none
  else if f.stride = 0 then (if off = f.off then some 0 else none)
  else if (off - f.off) % f.stride = 0 && decide ((off - f.off) / f.stride < f.cnt) then some ((off - f.off) / f.stride)
  else none

/-- Every field of the register tables. -/
def allFields : List Fld := Reg.allA ++ Reg.allB ++ Reg.allC ++ Reg.allD

/-- The fields at an offset of a block, each with its copy. -/
def fieldsAt (b : Blk) (off : Nat) : List (Fld × Nat) :=
  allFields.filterMap fun f => if f.blk = b then (f.copyAt off).map fun j => (f, j) else none

/-- A block of a manager: its fields have one place a manager, or one for both. -/
def Blk.onMgr (b : Blk) : Bool :=
  match b with
  | .seqr | .rein | .evc | .ldr | .fuse | .wdt | .rtc | .trc | .hb | .svc | .jrn | .upd => true
  | _ => false

/-- The place of a field in the block that manager `m` reaches at place `i`. -/
def Fld.at (f : Fld) (m i : Nat) : Nat := if f.blk.onMgr then f.home m else i

/-- The word a register shows; write-only fields read 0. A W1S field reads 1 while its request waits to be taken up, and every request that nothing
holds back is taken up at once (R5; DEDUCED, log entry 97). -/
def State.regWord (s : State) (b : Blk) (m i off : Nat) : Nat :=
  (fieldsAt b off).foldl (fun a fj =>
    if fj.1.acc = .wo then a else a + s.view fj.1 m (fj.1.at m i) fj.2 * 2 ^ fj.1.lo) 0

/-- The word of the register that carries a field, in block `i`. -/
def State.wordOf (s : State) (f : Fld) (i j : Nat) : Nat := s.regWord f.blk s.act i (f.off + j * f.stride)

end Sys2Proof.Machine
end

