-- ==== Sys2Proof/Machine/Fuses.lean ====
section
/-!
DEFINITION. The manager fuse array (R340 to R345): its fields, their decoding, the digest, program operations; the life cycle and the secure wipe
(R346, R347).
-/
namespace Sys2Proof.Machine

/-- A field of the manager fuse array: its ID, where its physical bits stand, sealed or step, and its logical bits (R340). -/
structure FuseFld where
  id       : Nat
  fld      : Fld
  copy     : Nat
  isSealed : Bool
  bits     : Nat

/-! IDs of R340 that a rule names. -/
namespace FuseId
abbrev life : Nat := 0x03
abbrev wipe : Nat := 0x04
abbrev revoke : Nat := 0x0B
abbrev kRoot : Nat := 0x0C
abbrev kill : Nat := 0x0D
abbrev rollback : Nat := 0x14
end FuseId

/-- The manager fuse fields, in ID order (R340). -/
def fuseTable : List FuseFld :=
  [⟨0x00, Hid.FU_DEVICE_ID, 0, true, 64⟩, ⟨0x01, Hid.FU_MGR_TRIM, 0, true, 512⟩, ⟨0x02, Hid.FU_HPD_TRIM, 0, true, 256⟩,
   ⟨0x03, Hid.FU_LIFE, 0, false, 4⟩, ⟨0x04, Hid.FU_WIPE, 0, false, 1⟩, ⟨0x05, Hid.FU_PRODUCT, 0, true, 32⟩,
   ⟨0x06, Hid.FU_PRIV, 0, true, 48⟩, ⟨0x07, Hid.FU_KEY, 0, true, 256⟩, ⟨0x08, Hid.FU_KEY, 1, true, 256⟩,
   ⟨0x09, Hid.FU_KEY, 2, true, 256⟩, ⟨0x0A, Hid.FU_KEY, 3, true, 256⟩]
  ++
  [⟨0x0B, Hid.FU_REVOKE, 0, false, 4⟩, ⟨0x0C, Hid.FU_K_ROOT, 0, true, 256⟩, ⟨0x0D, Hid.FU_KILL, 0, false, 1⟩,
   ⟨0x0E, Hid.FU_WDT_HW, 0, false, 1⟩, ⟨0x0F, Hid.FU_DEBUG, 0, false, 1⟩, ⟨0x10, Hid.FU_ILIM, 0, false, 672⟩,
   ⟨0x11, Hid.FU_OV, 0, false, 480⟩, ⟨0x12, Hid.FU_IG, 0, false, 64⟩, ⟨0x13, Hid.FU_STG, 0, false, 5⟩,
   ⟨0x14, Hid.FU_ROLLBACK, 0, false, 128⟩]

/-- The field with an ID. -/
def fuseById (id : Nat) : Option FuseFld := fuseTable.find? fun f => f.id = id

/-! Decoding (R341). -/

/-- A sum of powers of two over the bits of a range for which `p` holds. -/
def bitsWhere (n : Nat) (p : Nat → Bool) : Nat := (List.range n).foldl (fun a b => a + (p b).toNat * 2 ^ b) 0

/-- Copies of step bit `b` that read 1. -/
def stepCount (raw b : Nat) : Nat := (raw.testBit (3 * b)).toNat + (raw.testBit (3 * b + 1)).toNat + (raw.testBit (3 * b + 2)).toNat

/-- The logical bits of a step field. -/
def stepValue (n raw : Nat) : Nat := bitsWhere n fun b => 2 ≤ stepCount raw b

/-- Its weak bits. -/
def weakBits (n raw : Nat) : Nat := ((List.range n).filter fun b => stepCount raw b = 1 || stepCount raw b = 2).length

/-- Bits that read 1. -/
def ones (n v : Nat) : Nat := ((List.range n).filter fun b => v.testBit b).length

/-- The CRC of a sealed field's data. -/
def sealedCrc (n data : Nat) : Nat := (crc16 (leBytes (n / 8) data)).toNat

/-- The physical bits of a field in manager `m`'s array (DEDUCED, log entry 87). -/
def State.fuseRaw (s : State) (m : Nat) (f : FuseFld) : Nat := s.getAt f.fld m f.copy

/-- The logical value of a field's physical bits. -/
def FuseFld.value (f : FuseFld) (raw : Nat) : Nat := if f.isSealed then raw % 2 ^ f.bits else stepValue f.bits raw

/-- A sealed field passes: its CRC matches, or nothing of it is programmed. A step field always passes. -/
def FuseFld.passes (f : FuseFld) (raw : Nat) : Bool :=
  !f.isSealed || raw = 0 || raw / 2 ^ f.bits = sealedCrc f.bits (raw % 2 ^ f.bits)

/-- A sealed field is programmed: it passes with data other than 0. -/
def FuseFld.programmed (f : FuseFld) (raw : Nat) : Bool := f.passes raw && decide (f.value raw ≠ 0)

/-- The logical value of a field in manager `m`'s array. -/
def State.fuse (s : State) (m id : Nat) : Nat := (fuseById id).elim 0 fun f => f.value (s.fuseRaw m f)

/-- The field is programmed in manager `m`'s array. -/
def State.fuseHas (s : State) (m id : Nat) : Bool := (fuseById id).elim false fun f => f.programmed (s.fuseRaw m f)

/-- FUSE_DIGEST: the CRC-32 of every decoded logical field in ID order (DESIGN CHOICE, log entry 59). -/
def State.fuseDigest (s : State) (m : Nat) : Word :=
  crc32 (fuseTable.flatMap fun f => leBytes ((f.bits + 7) / 8) (f.value (s.fuseRaw m f)))

/-- Every sealed field passes. -/
def State.fuseSealsOk (s : State) (m : Nat) : Bool := fuseTable.all fun f => f.passes (s.fuseRaw m f)

/-- Weak step bits of the array. -/
def State.fuseWeak (s : State) (m : Nat) : Nat :=
  fuseTable.foldl (fun a f => if f.isSealed then a else a + weakBits f.bits (s.fuseRaw m f)) 0

/-- A thermometer pattern. -/
def thermometer (v : Nat) : Bool := [0, 1, 3, 7, 15].contains v

/-- The life-cycle stage by manager `m`'s array as it stands (R345: in force at once for writability). -/
def State.lifeStage (s : State) (m : Nat) : Nat := ones 4 (s.fuse m FuseId.life)

/-! Stages (R346). -/
namespace Stage
abbrev blank : Nat := 0
abbrev build : Nat := 1
abbrev maker : Nat := 2
abbrev field : Nat := 3
abbrev retired : Nat := 4
end Stage

/-- The field may be programmed through FUSE_PROG in the stage (R340, R342). -/
def fuseWritable (id st : Nat) : Bool :=
  match id with
  | 0x00 | 0x01 | 0x02 => st = Stage.blank
  | 0x05 | 0x06 | 0x07 | 0x08 | 0x09 | 0x0A | 0x0E => decide (st ≤ Stage.maker)
  | 0x0B | 0x0F => st = Stage.maker || st = Stage.field
  | 0x0C => st = Stage.maker
  | 0x10 | 0x11 | 0x12 | 0x13 => decide (st ≤ Stage.field)
  | _ => false

/-! REFUSE (R342, R344, R346). -/
namespace Fr
abbrev key : Nat := 1
abbrev stage : Nat := 2
abbrev sealedDiff : Nat := 3
abbrev noPeer : Nat := 4
abbrev supply : Nat := 5
abbrev busy : Nat := 6
abbrev range : Nat := 7
abbrev condition : Nat := 8
end Fr

/-- An update runs (R432). -/
def State.updRuns (s : State) : Bool :=
  s.upd = Upd.verifying || decide (Upd.activating ≤ s.upd) || s.on Reg.UPD_STATUS.FLASH_BUSY 0

/-- Both managers are present and the shadow is ready. -/
def State.peerReady (s : State) : Bool :=
  s.active.isSome && s.on Hid.PRESENT (peer s.act) && s.on Reg.REIN_STATUS.SHADOW_READY (peer s.act)

/-- Why a program operation may not run now, 0 where it may; the update service's own operation does not wait for the update (R344, R431). -/
def State.fuseHolds (s : State) (supplyOk ownUpdate : Bool) : Nat :=
  if !s.peerReady then Fr.noPeer
  else if !supplyOk then Fr.supply
  else if s.on Reg.FUSE_STATUS.PROG_BUSY 0 || s.dev = Dev.park || (s.updRuns && !ownUpdate) then Fr.busy
  else 0

/-! What a pending operation serves. -/
namespace For
abbrev prog : Nat := 0
abbrev advance : Nat := 1
abbrev rollback : Nat := 2
end For

/-- A program operation starts: it stands in the fuse programming map, mirrored, before anything is blown (R344). `d` is the value desired of the
words from `word` on. -/
def State.fuseBegin (s : State) (id word len d by' : Nat) : State :=
  let s := ((s.raise Hid.FMAP_ON 0).put Hid.FMAP_FIELD 0 id).put Hid.FMAP_WORD 0 word
  let s := ((s.put Hid.FMAP_LEN 0 len).put Hid.FMAP_DONE 0 0).put Hid.FMAP_BY 0 by'
  let s := s.over (List.range 16) fun s j => s.putAt Hid.FMAP_DATA 0 j (d / 2 ^ (32 * j))
  s.raise Reg.FUSE_STATUS.PROG_BUSY 0

/-- A value held as words of 32 bits, the lowest first. -/
def joinWords (n : Nat) (g : Nat → Nat) : Nat := (List.range n).foldl (fun a j => a + g j * 2 ^ (32 * j)) 0

/-- The physical bits that a desired value asks for: data with its CRC, or three copies of each step bit. -/
def FuseFld.physical (f : FuseFld) (desired : Nat) : Nat :=
  if f.isSealed then desired + sealedCrc f.bits desired * 2 ^ f.bits
  else bitsWhere (3 * f.bits) fun k => desired.testBit (k / 3)

/-- Words of a field. -/
def FuseFld.words (f : FuseFld) : Nat := (f.bits + 31) / 32

/-- A refused fuse operation. -/
def State.fuseRefuse (s : State) (reason : Nat) : State :=
  (s.put Reg.FUSE_STATUS.PROG_RESULT 0 3).put Reg.FUSE_STATUS.REFUSE 0 reason

/-- The value in the staging words for an operation of `n` words. -/
def State.fuseStaged (s : State) (n : Nat) : Nat :=
  joinWords n fun j => if j < 8 then s.getAt Reg.FUSE_STAGE_L.STAGE_DATA 0 j else s.getAt Reg.FUSE_STAGE_H.STAGE_DATA 0 (j - 8)

/-- Why a program operation on a field is refused, 0 where it is not; of several reasons the lowest shows (R342, R344; DEDUCED, log entry 60). -/
def State.fuseReason (s : State) (f : FuseFld) (word n : Nat) (supplyOk : Bool) : Nat :=
  let raw := s.fuseRaw s.act f
  let outside := f.words < word + n || (f.isSealed && !(word = 0 && n = f.words))
  if !fuseWritable f.id (s.lifeStage s.act) then Fr.stage
  else if f.isSealed && !outside && f.programmed raw && f.value raw ≠ s.fuseStaged n % 2 ^ f.bits then Fr.sealedDiff
  else if s.fuseHolds supplyOk false ≠ 0 then s.fuseHolds supplyOk false
  else if s.on Hid.FMAP_ON 0 then Fr.busy
  else if outside then Fr.range
  else 0

/-- A bit desired 0 reads 1 (R342). -/
def zeroAsked (f : FuseFld) (raw word n desired : Nat) : Bool :=
  (List.range f.bits).any fun b => decide (32 * word ≤ b) && decide (b < 32 * (word + n)) && (f.value raw).testBit b && !desired.testBit b

/-- GO in FUSE_PROG: FIELD, WORD and LEN are written and the operation starts, or it is refused (R342, R344, R359). -/
def State.fuseGo (s : State) (key field word len : Nat) (supplyOk : Bool) : State :=
  if key ≠ 0x3E71 then s.fuseRefuse Fr.key
  else
    let s := ((s.put Reg.FUSE_PROG.FIELD 0 field).put Reg.FUSE_PROG.WORD 0 word).put Reg.FUSE_PROG.LEN 0 len
    let n := len + 1
    match fuseById field with
    | none => s.fuseRefuse Fr.stage
    | some f =>
      let why := s.fuseReason f word n supplyOk
      if why ≠ 0 then s.fuseRefuse why
      else
        let d := s.fuseStaged n * 2 ^ (32 * word)
        (s.when (zeroAsked f (s.fuseRaw s.act f) word n d) fun s => s.raise Reg.FUSE_STATUS.ZERO_ATTEMPT 0).fuseBegin field word n
          (s.fuseStaged n) For.prog

/-- FUSE_PROGRAM (R342). -/
def execFuseProgram (w : Who) (m : Mgr) (key : BitVec 16) (field word : BitVec 5) (len : BitVec 4) (supplyOk : Bool) (s : State) :
    Host.Outcome State Fault Refusal :=
  .next (s.governed w m.val fun s => s.fuseGo key.toNat field.toNat word.toNat len.toNat supplyOk)

/-- The pending operation programs manager `m`'s array: bits desired 1 that read 0 are blown; a copy that fails verification reads as `fails` says. -/
def State.fuseBlow (s : State) (m : Nat) (f : FuseFld) (desired : Nat) (fails : List (Nat × Bool)) : State :=
  let raw := s.fuseRaw m f
  let want := f.physical desired
  s.putAt f.fld m f.copy (bitsWhere f.fld.wid fun k =>
    raw.testBit k || (want.testBit k && !fails.any fun x => x.1 = k && !x.2))

/-- The logical value that the map asks of its field. A sealed field that is already programmed with it needs no more. -/
def State.fmapDesired (s : State) (f : FuseFld) : Nat :=
  joinWords (s.get Hid.FMAP_LEN 0) (fun j => s.getAt Hid.FMAP_DATA 0 j) * 2 ^ (32 * s.get Hid.FMAP_WORD 0) % 2 ^ f.bits

/-- The values that are in force at once: a killed K_ROOT reads as zeros (R345). -/
def State.killApply (s : State) : State :=
  s.when (s.fuse s.act FuseId.kill ≠ 0) fun s => s.put Hid.K_ROOT 0 0

/-- What an ended operation served: an ADVANCE completes, a held rollback advance is over (R346, R431). -/
def State.fuseServed (s : State) (by' : Nat) (weak : Bool) : State :=
  if by' = For.advance then
    s.complete (.other (Reg.LC_CTRL.ADVANCE.addr 0 0 + Reg.LC_CTRL.ADVANCE.lo)) (if weak then JStatus.failed else JStatus.ok) 2
  else if by' = For.rollback then s.clr Reg.UPD_STATUS.ROLLBACK_PEND 0
  else s

/-- A fuse operation has programmed the managers that are present and not yet marked done; when both are done the map is closed, else it stays pending
(R343 to R345). -/
def State.fuseDone (s : State) (fails : List (Nat × Nat × Bool)) : State :=
  match fuseById (s.get Hid.FMAP_FIELD 0) with
  | none => s
  | some f =>
    if !s.on Reg.FUSE_STATUS.PROG_BUSY 0 || !s.on Hid.FMAP_ON 0 then s
    else
      let todo := (List.range 2).filter fun m => s.on Hid.PRESENT m && !s.bit Hid.FMAP_DONE 0 m
      let d := s.fmapDesired f
      let mine := fun m => (fails.filter fun (x : Nat × Nat × Bool) => x.1 = m && (f.physical d).testBit x.2.1 && !(s.fuseRaw m f).testBit x.2.1).map
        fun x => x.2
      let weak := todo.any fun m => !(mine m).isEmpty
      let by' := s.get Hid.FMAP_BY 0
      let s := s.over todo fun s m => (s.fuseBlow m f d (mine m)).putBit Hid.FMAP_DONE 0 m true
      let s := s.clr Reg.FUSE_STATUS.PROG_BUSY 0
      if s.get Hid.FMAP_DONE 0 ≠ 3 then s
      else
        let s := (s.clr Hid.FMAP_ON 0).put Reg.FUSE_STATUS.PROG_RESULT 0 (if weak then 2 else 1)
        let s := s.when (!(f.id = FuseId.revoke || f.id = FuseId.life || f.id = FuseId.kill)) fun s => s.raise Reg.FUSE_STATUS.PENDING 0
        s.killApply.fuseServed by' weak

/-- FUSE_PROGRAM_DONE (R343). -/
def execFuseProgramDone (fails : List (Mgr × Nat × Bool)) (s : State) : Host.Outcome State Fault Refusal :=
  .next (s.fuseDone (fails.map fun x => (x.1.val, x.2)))

/-- A pending map is run again as soon as R344 allows. -/
def State.fuseResume (s : State) (supplyOk : Bool) : State :=
  s.when (s.on Hid.FMAP_ON 0 && s.fuseHolds supplyOk (s.get Hid.FMAP_BY 0 = For.rollback) = 0) fun s => s.raise Reg.FUSE_STATUS.PROG_BUSY 0

/-- FUSE_PROGRAM_RESUME (R344). -/
def execFuseProgramResume (supplyOk : Bool) (s : State) : Host.Outcome State Fault Refusal := .next (s.fuseResume supplyOk)

/-! The life cycle (R346, R347). -/

/-- The condition for leaving a stage holds on both managers. -/
def State.lcCondition (s : State) : Bool :=
  let both := fun (g : Nat → Bool) => (List.range 2).all g
  match s.lifeStage s.act with
  | 0 => both (fun m => [0x00, 0x01, 0x02].all fun id => s.fuseHas m id) && (List.range 4).all fun t => s.on Hid.TILE_FUSED t
  | 1 => s.on Hid.MET_LOCKED 0
  | 2 => both (fun m => s.fuseHas m 0x05 && s.fuseHas m FuseId.kRoot && [0x07, 0x08, 0x09, 0x0A].any fun id => s.fuseHas m id) &&
      s.on Hid.BOOT_SIGNED 0
  | _ => false

/-- A refused request of LC_CTRL. -/
def State.lcRefuse (s : State) (w : Who) (f : Fld) (reason : Nat) : State :=
  ((s.raise Reg.LC_CTRL.LC_REJ 0).put Reg.FUSE_STATUS.REFUSE 0 reason).jRefused w f 0 noTarget JStatus.refused

/-- ADVANCE: the next step of the thermometer is programmed under R343 and R344. -/
def State.lcAdvance (s : State) (w : Who) (key : Nat) (supplyOk : Bool) : State :=
  let f := Reg.LC_CTRL.ADVANCE
  if key ≠ 0x7C19 then s.lcRefuse w f Fr.key
  else if !s.lcCondition then s.lcRefuse w f Fr.condition
  else if s.fuseHolds supplyOk false ≠ 0 then s.lcRefuse w f (s.fuseHolds supplyOk false)
  else if s.on Hid.FMAP_ON 0 then s.lcRefuse w f Fr.busy
  else
    let s := s.acceptReg w (.other (f.addr 0 0 + f.lo)) f 0 noTarget true
    s.fuseBegin FuseId.life 0 1 (2 ^ (s.lifeStage s.act + 1) - 1) For.advance

/-- ADVANCE (R346). -/
def execLcAdvance (w : Who) (m : Mgr) (key : BitVec 16) (supplyOk : Bool) (s : State) : Host.Outcome State Fault Refusal :=
  .next (s.governed w m.val fun s => s.lcAdvance w key.toNat supplyOk)

/-- Every rail is off. -/
def State.allOff (s : State) : Bool := (List.range 48).all fun r => s.rs r = Rs.off

/-- The device is in a state in which a wipe may start (R347). -/
def State.wipeAllowed (s : State) : Bool :=
  s.dev = Dev.arm || (s.dev = Dev.run && s.allOff) || (s.dev = Dev.load && s.on Reg.LOAD_STATUS.LOAD_FAIL 0)

/-- Every copy of a step field is blown on the managers that have their supply. -/
def State.blowAll (s : State) (f : Fld) : State :=
  s.over ((List.range 2).filter fun m => s.on Hid.POWERED m) fun s m => s.put f m (2 ^ f.wid - 1)

/-- WIPE: WIPE_STARTED is blown on both managers and a system reset follows. -/
def State.lcWipe (s : State) (w : Who) (key : Nat) : State :=
  let f := Reg.LC_CTRL.WIPE
  let st := s.lifeStage s.act
  if key ≠ 0x7C19 then s.lcRefuse w f Fr.key
  else if st ≠ Stage.maker && st ≠ Stage.field then s.lcRefuse w f Fr.stage
  else if !s.wipeAllowed then s.lcRefuse w f Fr.busy
  else ((s.jDone w f 0 noTarget).blowAll Hid.FU_WIPE).systemReset RstCause.wipe

/-- WIPE (R347). -/
def execLcWipe (w : Who) (m : Mgr) (key : BitVec 16) (s : State) : Host.Outcome State Fault Refusal :=
  .next (s.governed w m.val fun s => s.lcWipe w key.toNat)

end Sys2Proof.Machine
end

