-- ==== Sys2Proof/Machine/Power.lean ====
section
/-!
DEFINITION. Supplies, fuse sensing, reset commands, ARM and RUN, Park and Mews (R326 to R331, R339, R348 to R356, R438 to R440).
-/
namespace Sys2Proof.Machine

/-! Loss and return of supplies. -/

/-- A field of a manager block that stands once a die. -/
def dieFields : List Nat := (allFields.filter fun f => f.blk.onMgr && f.perDie).map Fld.id

/-- The state of one manager die is lost with its supply: its memories but the ferroelectric array, and its own registers. -/
def State.dieLost (s : State) (m : Nat) : State :=
  let s := s.resetCells fun k =>
    k.2.1 = m && k.ret ≠ Ret.K.idx && k.ret ≠ Ret.N.idx && k.ret ≠ Ret.B.idx &&
      (k.blk = Blk.mgr.idx || dieFields.contains k.1 || (k.ofMgr && k.ret = Ret.M.idx))
  let s := { s with mem := s.mem.filter fun c => keptMem c.1 || c.1 / 0x100000000 ≠ m + 1, snaps := s.snaps.filter fun x => x.mgr ≠ m }
  (s.clr Hid.PRESENT m).clr Hid.POWERED m

/-- Every die but MET loses its power: only K, B and fuse cells stay (R327). -/
def State.powerLost (s : State) (st : Nat) : State :=
  let s := s.flashCut.over (List.range 2) fun s m => s.dieLost m
  let s := s.resetCells fun k =>
    (k.ret = Ret.P.idx || k.ret = Ret.S.idx || k.ret = Ret.M.idx || k.ret = Ret.T.idx) && k.blk ≠ Blk.met.idx
  (s.dropWork).put Reg.DEV_STATE.STATE 0 st

/-- One VBIAS input falls: its manager is lost, a ready shadow takes over; the last one takes the device to OFF (R327, R438; DEDUCED, log entry 61). -/
def State.vbiasLoss (s : State) (m : Nat) : State :=
  if !s.on Hid.POWERED m then s
  else if !s.on Hid.POWERED (peer m) then s.powerLost Dev.off
  else
    let lead := s.isActive m
    (s.dieLost m).when lead fun s => s.raise Hid.TRIG (peer m)

/-- VBIAS_LOSS (R438). -/
def execVbiasLoss (m : Mgr) (s : State) : Host.Outcome State Fault Refusal := .next (s.vbiasLoss m.val)

/-- MEWS_ENTER (R356): both VBIAS inputs fall while VBACKUP is present. -/
def execMewsEnter (s : State) : Host.Outcome State Fault Refusal := .next (s.powerLost Dev.mews7)

/-- VBACKUP_LOSS (R327): with no VBIAS input the B fields are lost and the device is OFF. -/
def execVbackupLoss (s : State) : Host.Outcome State Fault Refusal :=
  .next (if s.on Hid.POWERED 0 || s.on Hid.POWERED 1 then s
    else ((s.resetCells fun k => k.ret = Ret.B.idx).raise Hid.MEWS_NEW 0).put Reg.DEV_STATE.STATE 0 Dev.off)

/-- POWER_ON_RESET (R328): the first VBIAS input rises while no manager runs. -/
def State.firstVbias (s : State) (m : Nat) : State :=
  if s.on Hid.POWERED 0 || s.on Hid.POWERED 1 then s
  else
    let s := s.powerOnReset (if s.dev = Dev.mews7 then RstCause.mewsReturn else RstCause.powerOn)
    (s.raise Hid.POWERED m).raise Hid.PRESENT m

/-- POWER_ON_RESET (R328). -/
def execPowerOnReset (m : Mgr) (s : State) : Host.Outcome State Fault Refusal := .next (s.firstVbias m.val)

/-- VBIAS_RETURN (R328): the other manager's input rises; before the integrity decision it takes part in the start, later it senses its fuses first. -/
def State.vbiasReturn (s : State) (m : Nat) : State :=
  if s.on Hid.POWERED m || !s.on Hid.POWERED (peer m) then s
  else ((s.dieLost m).raise Hid.POWERED m).when (!s.on Hid.BOOT 0) fun s => s.raise Hid.PRESENT m

/-- VBIAS_RETURN (R328). -/
def execVbiasReturn (m : Mgr) (s : State) : Host.Outcome State Fault Refusal := .next (s.vbiasReturn m.val)

/-! VIO (R386, R440). -/

/-- VIO_VALID (R440): VIO has been in range for 100 µs and the ADDR pins are sampled. -/
def execVioValid (pins : Fin 27) (s : State) : Host.Outcome State Fault Refusal :=
  .next (((s.raise Hid.VIO_OK 0).put Hid.ADDR_PINS 0 pins.val).addrSample)

/-- VIO_OUT_OF_RANGE (R440): RST_N counts as released and the target has no address. -/
def execVioOutOfRange (s : State) : Host.Outcome State Fault Refusal :=
  .next (((s.clr Hid.VIO_OK 0).clr Hid.RST_LOW 0).put Reg.HB_STATUS.ADDR 0 0)

/-- VAUX_VALID (R210): in Park a VAUX that becomes valid is a wake source too (R355). -/
def execVauxValid (s : State) : Host.Outcome State Fault Refusal :=
  .next (s.when (decide (100 ≤ s.get Hid.VAUX_N 0)) fun s => (s.vauxValid).wakeSource Wk.vaux)

/-! Fuse sensing (R331, R341). -/

/-- What manager `m` sensed. -/
def State.senseKeep (s : State) (m : Nat) : State :=
  let s := ((s.put Hid.SN_DIGEST m (s.fuseDigest m).toNat).putB Hid.SN_OK m (s.fuseSealsOk m)).put Hid.SN_LIFE m (s.fuse m FuseId.life)
  let s := ((s.put Hid.SN_ILIM m (s.fuse m 0x10)).put Hid.SN_OV m (s.fuse m 0x11)).put Hid.SN_IG m (s.fuse m 0x12)
  let s := ((s.put Hid.SN_STG m (s.fuse m 0x13)).put Hid.SN_PRIV m (s.fuse m 0x06)).put Hid.SN_TRIM m (s.fuse m 0x02)
  let s := ((s.put Hid.SN_PRODUCT m (s.fuse m 0x05)).put Hid.SN_DEVICE m (s.fuse m 0x00)).put Hid.SN_DEBUG m (s.fuse m 0x0F)
  let s := s.over (List.range 4) fun s k => s.putAt Hid.SN_KEY m k (s.fuse m (7 + k))
  (s.put Hid.SN_ROLL m (ones 128 (s.fuse m FuseId.rollback))).put Hid.SN_WIPE m (s.fuse m FuseId.wipe)

/-- The FZ fields of the managers, as manager `m` decoded them. -/
def State.senseShow (s : State) (m : Nat) : State :=
  let s := ((s.put Reg.FUSE_STATUS.STAGE 0 (ones 4 (s.get Hid.SN_LIFE m))).put Reg.FUSE_STATUS.WIPE_PEND 0 (s.get Hid.SN_WIPE m)).put
    Reg.FUSE_STATUS.WEAK_COUNT 0 (min 4095 (s.fuseWeak m))
  let s := ((s.put Reg.FUSE_STATUS.CRC_OK 0 (s.get Hid.SN_OK m)).put Reg.FUSE_DIGEST.DIGEST 0 (s.get Hid.SN_DIGEST m)).put
    Reg.WDT_CFG.HW_START 0 (s.fuse m 0x0E)
  let s := (s.put Reg.UPD_ROLLBACK.BLOWN 0 (s.get Hid.SN_ROLL m)).put Hid.K_ROOT 0 (if s.fuse m FuseId.kill = 0 then s.fuse m FuseId.kRoot else 0)
  s.over (List.range 8) fun s g => s.putAt Reg.IG_OC.IG_CEIL 0 g (255 - s.get Hid.SN_IG m / 2 ^ (8 * g) % 256)

/-! Resets by command and by pin (R348 to R351). -/

/-- RST_N_ASSERT (R349): RST_N has been low for 1 µs while VIO is in range. -/
def execRstNAssert (s : State) : Host.Outcome State Fault Refusal :=
  .next (if (s.on Hid.POWERED 0 || s.on Hid.POWERED 1) && s.on Hid.VIO_OK 0 && !s.on Hid.RST_LOW 0 then
      (s.systemReset RstCause.pin).raise Hid.RST_LOW 0
    else s)

/-- RST_N_RELEASE (R329): the start goes on with fuse sensing; the ADDR pins are sampled (R386). -/
def execRstNRelease (s : State) : Host.Outcome State Fault Refusal := .next ((s.clr Hid.RST_LOW 0).addrSample)

/-- A command of DEV_CTRL is refused. -/
def State.devRefuse (s : State) (w : Who) (f : Fld) (status : Nat) : State := (s.raise Reg.DEV_CTRL.CMD_REJ 0).jRefused w f 0 noTarget status

/-- SYS_RST acts with its KEY only (R349). -/
def State.sysRst (s : State) (w : Who) (key : Nat) : State :=
  if key = 0x9D62 then (s.jDone w Reg.DEV_CTRL.SYS_RST 0 noTarget).systemReset RstCause.host
  else s.devRefuse w Reg.DEV_CTRL.SYS_RST JStatus.refused

/-- SYS_RST (R349). -/
def execSysRst (w : Who) (m : Mgr) (key : BitVec 16) (s : State) : Host.Outcome State Fault Refusal :=
  .next (s.governed w m.val fun s => s.sysRst w key.toNat)

/-- TILE_RST needs its KEY, and waits for no self-test of the tile (R351). -/
def State.tileRst (s : State) (w : Who) (t key : Nat) : State :=
  if key ≠ 0x9D62 || s.get Hid.LBIST_ON 0 = t + 1 then s.devRefuse w Reg.DEV_CTRL.TILE_RST JStatus.refused
  else (s.jDone w Reg.DEV_CTRL.TILE_RST 0 noTarget).tileReset t

/-- TILE_RST (R351). -/
def execTileRst (w : Who) (m : Mgr) (t : Tile) (key : BitVec 16) (s : State) : Host.Outcome State Fault Refusal :=
  .next (s.governed w m.val fun s => s.tileRst w t.val key.toNat)

/-- CORE_SUPPLY_SUPERVISOR_RESET (R348): the tile's supervisor resets the tile. -/
def execCoreSupplySupervisorReset (t : Tile) (s : State) : Host.Outcome State Fault Refusal := .next (s.tileReset t.val)

/-! ARM and RUN (R339). -/

/-- The device enters ARM. -/
def State.armEnter (s : State) : State := (s.put Reg.DEV_STATE.STATE 0 Dev.arm).put Hid.ARM_BEAT 0 s.beat

/-- The device enters RUN and starts the AUTO sequence (R171). -/
def State.runEnter (s : State) : State := (s.put Reg.DEV_STATE.STATE 0 Dev.run).autoRun

/-- Every ARM criterion holds. -/
def State.armed5 (s : State) : Bool := s.armOk = 31

/-- ARM_TO_RUN (R339): the criteria hold with AUTO_RUN set. -/
def execArmToRun (s : State) : Host.Outcome State Fault Refusal :=
  .next (if s.dev = Dev.arm && s.on Hid.ARM_AUTO 0 && s.armed5 then s.runEnter else s)

/-- RUN enters RUN from ARM when the criteria hold, and is refused otherwise. -/
def State.runCmd (s : State) (w : Who) : State :=
  if s.dev = Dev.arm && s.armed5 then (s.jDone w Reg.DEV_CTRL.RUN 0 noTarget).runEnter
  else s.devRefuse w Reg.DEV_CTRL.RUN JStatus.armNotReady

/-- RUN (R339). -/
def execDevRun (w : Who) (m : Mgr) (s : State) : Host.Outcome State Fault Refusal := .next (s.governed w m.val fun s => s.runCmd w)

/-- ARM_TMO of the image in µs; 0 acts as 1 000 ms (R335). -/
def State.armTmo (s : State) : Nat := (if s.get Hid.ARM_TMO 0 = 0 then 1000 else s.get Hid.ARM_TMO 0) * 1000

/-- ARM_LATE (R339): the criteria do not all hold at ARM_TMO. -/
def execArmLate (s : State) : Host.Outcome State Fault Refusal :=
  .next (if s.dev = Dev.arm && !s.armed5 && decide (s.armTmo ≤ beatDiff s.beat (s.get Hid.ARM_BEAT 0)) then s.raise Reg.DEV_STATE.ARM_LATE 0 else s)

/-! Park (R353, R354). -/

/-- A PARK command may be accepted (R353). -/
def State.parkAllowed (s : State) : Bool :=
  s.dev = Dev.run && s.allOff && !s.seqActive && !s.updRuns && !s.on Reg.FUSE_STATUS.PROG_BUSY 0 && decide (s.bfet ≤ 1)

/-- The numbers of the FZ fields. -/
def fzIds : List Nat := (allFields.filter fun f => f.acc = .fz).map Fld.id

/-- The tiles' supplies turn off: their ISO latches move to the active manager's, their registers but the FZ fields and their memories are lost (R354,
R358). -/
def State.tilesPark (s : State) : State :=
  let s := s.over ((List.range 8).filter fun g => (List.range 4).any fun t => s.bit Reg.ISO_STATE.ISO_DRIVE t g) fun s g => s.isoMgr s.act g
  let s := s.resetCells fun k =>
    (k.blk = Blk.tile.idx || k.blk = Blk.phase.idx || k.blk = Blk.rail.idx || k.blk = Blk.eng.idx) &&
      (k.ret = Ret.P.idx || k.ret = Ret.S.idx || k.ret = Ret.T.idx) && !fzIds.contains k.1
  { s.zeroMem 0x50000000 0x54000000 with dmPend := [] }

/-- HPD in Park: buck and charger stop, the pair is held off, the gauge hibernates (R354). -/
def State.hpdPark (s : State) : State :=
  ((((s.clr Hid.HPD_GO 0).buckShow).pairOff 0).raise Reg.GG_STATUS.HIB 0).chgEval

/-- PARK: entry through the steps of R354, or a refusal. -/
def State.parkCmd (s : State) (w : Who) : State :=
  if !s.parkAllowed then s.devRefuse w Reg.DEV_CTRL.PARK JStatus.parkBusy
  else
    let s := s.jDone w Reg.DEV_CTRL.PARK 0 noTarget
    let s := s.over (List.range 4) fun s c => s.trace s.act c 6 (s.getAt Hid.CORE_PC 0 c) 0
    let s := ((s.put Hid.PARK_BEAT 0 s.beat).hpdPark).tilesPark
    let s := s.over (List.range 2) fun s m => (s.clr Hid.HB_WAIT m).clr Hid.ROLE_WAIT m
    (((s.refStop 0).refStop 1).clr Hid.WAKE_PEND 0).put Reg.DEV_STATE.STATE 0 Dev.park

/-- PARK (R353). -/
def execDevPark (w : Who) (m : Mgr) (s : State) : Host.Outcome State Fault Refusal := .next (s.governed w m.val fun s => s.parkCmd w)

end Sys2Proof.Machine
end

