-- ==== Sys2Proof/Machine/RegRules.lean ====
section
/-!
DEFINITION. When a register refuses a write, and the bit that says so (R45, R59, R69, R105, R106, R119, R142, R165, R170, R188, R190, R191, R219, R221, R230,
R250, R301, R308, R315, R320, R325, R359, R385, R411, R412, R434).
-/
namespace Sys2Proof.Machine

/-- What a word written to a register gives a field. -/
def Fld.part (f : Fld) (v : Nat) : Nat := v / 2 ^ f.lo % 2 ^ f.wid

/-- The fields with a stated range of plain numbers, with its bounds. -/
def fieldRanges : List (Fld × Nat × Nat) :=
  [(Reg.RAIL_PWM.PER_CNT, 400, 8000), (Reg.CINCH_CFG.SLOPE_WIN, 1, 15), (Reg.CINCH_CFG.SLOPE, 1, 40), (Reg.CINCH_CFG.LEVEL, 10, 120),
   (Reg.CINCH_CFG.MODE, 0, 2), (Reg.CINCH_TIME.ON_TIME, 2, 40), (Reg.RAIL_TLM_CFG.TLM_WIN, 0, 12), (Reg.DIAG_CTRL.KIND, 0, 1),
   (Reg.RAIL_SUP_CFG.KIND, 0, 2), (Reg.RAIL_SUP_CFG.PG_SRC, 0, 2), (Reg.RAIL_SUP_CFG.PG_HI, 1, 15), (Reg.RAIL_SUP_CFG.PG_LO, 1, 15)]
  ++
  [(Reg.RAIL_OFF_CFG.OFF_PCT, 1, 50), (Reg.RAIL_OFF_CFG.OFF_MIN, 1, 255), (Reg.RAIL_DIS_CFG.DIS_ILO, 1, 40),
   (Reg.RAIL_DIS_CFG.DIS_IHI, 1, 40), (Reg.RAIL_DIS_CFG.DIS_NLO, 1, 32), (Reg.SEQ_HDR.NSTG, 0, 16), (Reg.SQL_CFG.ROLE, 0, 2),
   (Reg.FLT_CFG.ACTION, 0, 2), (Reg.RAIL_OV.OV_ACT, 0, 2), (Reg.RAIL_UV.UV_ACT, 0, 2), (Reg.RAIL_UV.UV_PCT, 2, 60), (Reg.RAIL_OC.OC_ACT, 0, 2)]
  ++
  [(Reg.VBB_CFG.TRIP_OFS, 10, 200), (Reg.VBB_CFG.BK_FSW, 0, 6), (Reg.VBB_CFG.VBB_SET, 1100, 1440), (Reg.IIN_CFG.VAUX_SAG, 160, 300),
   (Reg.IIN_CFG.IIN_MAX, 10, 160), (Reg.IIN_CFG.IIN_START, 10, 160), (Reg.BFET_CTRL.IBAT_DLIM, 10, 250), (Reg.BFET_CTRL.DSG_OC_T, 1, 10),
   (Reg.BFET_CTRL.MODE, 0, 1), (Reg.CHG_CFG.ITERM, 1, 40), (Reg.CHG_CFG.ICHG, 2, 120), (Reg.CHG_LEVELS.IPRE, 1, 20),
   (Reg.CHG_LEVELS.ITRK, 1, 20)]
  ++
  [(Reg.CHG_TIMERS.TCHG, 1, 20), (Reg.CHG_TIMERS.TPRE, 1, 255), (Reg.CHG_TIMERS.TTRK, 1, 255), (Reg.GG_CFG.DESIGN_CAP, 10, 5000),
   (Reg.GG_CFG.KERB_SOC, 5, 80), (Reg.GG_EMPTY.V_EMPTY, 8000, 14000), (Reg.GG_EMPTY.V_KLOW, 8000, 16800), (Reg.GG_SCALE.RSH, 100, 2000),
   (Reg.GG_SCALE.RBAT_CFG, 1, 10000), (Reg.TILE_AUTO.KERB_HOLD, 1, 6000), (Reg.AWL_CTRL.AWL_WIN, 1, 10080), (Reg.LBIST_CTRL.TARGET, 0, 5)]
  ++
  [(Reg.EVC_QCFG.Q_SIZE, 0, 4), (Reg.WDT_CFG.PERIOD, 10, 10000), (Reg.WDT_CFG.PULSE, 1, 100), (Reg.HB_CFG.STRETCH_MAX, 1, 200),
   (Reg.SP_CFG.BAUD, 0, 6), (Reg.SP_CFG.STG_SIZE, 0, 2), (Reg.UPD_CFG.HC_DEADLINE, 1, 60)]

/-- A field of the register at an offset stands outside its range in the word written. -/
def outOfRange (b : Blk) (off v : Nat) : Bool :=
  fieldRanges.any fun r => r.1.blk = b && (r.1.copyAt off).isSome && !(decide (r.2.1 ≤ r.1.part v) && decide (r.1.part v ≤ r.2.2))

/-- The bit that shows a refused write, by block and range of offsets. -/
def refusalBits : List (Blk × Nat × Nat × Fld) :=
  [(.rail, 0x40, 0x40, Reg.RAIL_PWM.PER_REJ), (.rail, 0x44, 0x44, Reg.RAIL_SHED_STATUS.SHED_REJ), (.rail, 0x80, 0x80, Reg.RAIL_ENG_STATUS.ENG_CFG_REJ),
   (.rail, 0xC0, 0xC0, Reg.RAIL_LAW.LAW_REJ), (.rail, 0xC4, 0xC4, Reg.RAIL_SETPT.SP_REJ), (.rail, 0x100, 0x11F, Reg.CINCH_STATUS.CFG_REJ),
   (.rail, 0x140, 0x15F, Reg.FC_STATUS.CFG_REJ), (.rail, 0x180, 0x187, Reg.RAIL_TLM_CFG.TLM_REJ), (.rail, 0x200, 0x20F, Reg.RAIL_SUP_STATUS.CFG_REJ),
   (.rail, 0x240, 0x24F, Reg.RAIL_PROT_STATUS.PROT_REJ), (.phase, 0x00, 0x0F, Reg.PH_STATUS.CFG_REJ), (.phase, 0x200, 0x200, Reg.PH_PROT_STATUS.PROT_REJ)]
  ++
  [(.tile, 0x203000, 0x203FFF, Reg.SNS_STATUS.CFG_REJ), (.tile, 0x206004, 0x206004, Reg.TILE_THERM_CTRL.PROT_REJ),
   (.tile, 0x200020, 0x200020, Reg.TILE_AUTO.CFG_REJ), (.tile, 0x200100, 0x20010F, Reg.CAP_CTRL.CFG_REJ), (.seqr, 0xF40, 0xF5F, Reg.IG_OC.PROT_REJ),
   (.seqr, 0x00, 0x7F, Reg.SEQ_STATUS.CFG_REJ), (.seqr, 0xC00, 0xC3F, Reg.SEQ_STATUS.CFG_REJ), (.seqr, 0x1000, 0x1FFF, Reg.SEQ_STATUS.CFG_REJ),
   (.seqr, 0xFA0, 0xFA7, Reg.KERB_CTRL.KERB_REJ), (.hpd, 0x2000, 0x2FFF, Reg.VBB_STATUS.CFG_REJ), (.hpd, 0x3000, 0x3FFF, Reg.IIN_STATUS.CFG_REJ)]
  ++
  [(.hpd, 0x4000, 0x4FFF, Reg.BFET_STATUS.CFG_REJ), (.hpd, 0x5000, 0x5FFF, Reg.CHG_STATUS.CFG_REJ), (.hpd, 0x6004, 0x6004, Reg.HPD_THERM_CTRL.PROT_REJ),
   (.hpd, 0x7000, 0x7FFF, Reg.GG_STATUS.CFG_REJ), (.hpd, 0x8000, 0x8FFF, Reg.PACK_STATUS.CFG_REJ), (.rein, 0x200, 0x20F, Reg.AWL_CTRL.CFG_REJ),
   (.rein, 0x300, 0x300, Reg.MEM_STATUS.CFG_REJ), (.evc, 0, 0xFFFF, Reg.EVC_STATUS.CFG_REJ), (.ldr, 0, 0xFFFF, Reg.DEV_CTRL.CMD_REJ),
   (.fuse, 0x50, 0x50, Reg.LC_CTRL.LC_REJ), (.wdt, 0, 0xFFFF, Reg.WDT_STATUS.CFG_REJ), (.rtc, 0, 0xFFFF, Reg.RTC_STATUS.CFG_REJ)]
  ++
  [(.hb, 0, 0xFFFF, Reg.HB_STATUS.CFG_REJ), (.svc, 0, 0xFFFF, Reg.SP_STATUS.CFG_REJ), (.jrn, 0, 0xFFFF, Reg.JRNL_STATUS.CFG_REJ),
   (.upd, 0, 0xFFFF, Reg.UPD_STATUS.CFG_REJ)]

/-- The field that shows the refusal of a write at an offset. -/
def refusalBit (b : Blk) (off : Nat) : Option Fld :=
  (refusalBits.find? fun x => x.1 = b && decide (x.2.1 ≤ off) && decide (off ≤ x.2.2.1)).map fun x => x.2.2.2

/-! Rules of single registers. `p` is the phase, `i` the place of a rail's block. -/

/-- The register of the given field stands at the offset. -/
def Fld.here (f : Fld) (off : Nat) : Bool := (f.copyAt off).isSome

/-- A register of a phase refuses the word. -/
def State.phaseRefuses (s : State) (p off v : Nat) : Bool :=
  (Reg.PH_CFG.RAIL.here off && !s.idlePh p) ||
    (Reg.PH_TIMING.OFFSET.here off && !s.idlePh p &&
      !(s.get Reg.PH_TIMING.TON_MIN p = Reg.PH_TIMING.TON_MIN.part v && s.get Reg.PH_TIMING.TOFF_MIN p = Reg.PH_TIMING.TOFF_MIN.part v)) ||
    (Reg.PH_PROT.ILIM.here off && decide (s.get Reg.PH_PROT.ILIM_CEIL p < Reg.PH_PROT.ILIM.part v))

/-- The phases of a rail on the tile are all OFF or BLOCKED. -/
def State.idleOn (s : State) (i : Nat) : Bool := (s.phasesOn (i / 48) (i % 48)).all s.idlePh

/-- A channel number, or none. -/
def chanNumber (c : Nat) : Bool := decide (c < 12) || c = 15

/-- A set-point that the ceiling of a new OV_LIM forbids (R191). -/
def State.ovLimBad (s : State) (i lim : Nat) : Bool :=
  let eff := if lim = 0 then s.get Reg.RAIL_PROT_CFG.OV_CEIL i else lim
  decide (s.get Reg.RAIL_PROT_CFG.OV_CEIL i < lim) || decide (eff * 25 < s.get Reg.RAIL_SETPT.VSET_TGT i * 26)

/-- RAIL_SETPT refuses the word: DIVIDER changes while a phase is not OFF or BLOCKED, or the target is not one of R119. -/
def State.setptRefuses (s : State) (i v : Nat) : Bool :=
  (s.get Reg.RAIL_SETPT.DIVIDER i ≠ Reg.RAIL_SETPT.DIVIDER.part v && !s.railIdle (i % 48)) ||
    !(s.put Reg.RAIL_SETPT.DIVIDER i (Reg.RAIL_SETPT.DIVIDER.part v)).setptOk i (Reg.RAIL_SETPT.VSET_TGT.part v)

/-- A register of a rail refuses the word. -/
def State.railRefuses (s : State) (i off v : Nat) : Bool :=
  let r := i % 48
  (Reg.RAIL_SHED.SHED_BELOW.here off && Reg.RAIL_SHED.SHED_BELOW.part v ≠ 0 && decide (Reg.RAIL_SHED.ADD_ABOVE.part v ≤ Reg.RAIL_SHED.SHED_BELOW.part v)) ||
  (Reg.RAIL_ENG_CFG.LEAD_PH.here off && !s.idleOn i) ||
  (Reg.RAIL_LAW.LAW_ID.here off && (!lawKnown (Reg.RAIL_LAW.LAW_ID.part v) ||
    (Reg.RAIL_LAW.LAW_ID.part v ≠ s.get Reg.RAIL_LAW.LAW_ID i && !s.railIdle r))) ||
  (Reg.RAIL_SETPT.VSET_TGT.here off && s.setptRefuses i v) ||
  (Reg.RAIL_SNS.CHAN.here off && (!s.railIdle r || !chanNumber (Reg.RAIL_SNS.CHAN.part v) || !chanNumber (Reg.RAIL_SNS.PCHAN.part v))) ||
  (Reg.RAIL_SUP_CFG.KIND.here off && s.rs r ≠ Rs.off) || (Reg.RAIL_DIS_CFG.DIS_EN.here off && s.rs r ≠ Rs.off) ||
  (Reg.RAIL_OV.OV_LIM.here off && s.ovLimBad i (Reg.RAIL_OV.OV_LIM.part v))

/-- A register of a tile refuses the word. -/
def State.tileRefuses (s : State) (t off v : Nat) : Bool :=
  (Reg.DIAG_CTRL.TARGET.here off && decide ((if Reg.DIAG_CTRL.KIND.part v = 0 then 12 else 24) ≤ Reg.DIAG_CTRL.TARGET.part v)) ||
    (Reg.TILE_THERM_CTRL.STG_TLIM.here off && decide (s.get Reg.TILE_THERM_CTRL.STG_TLIM_CEIL t < Reg.TILE_THERM_CTRL.STG_TLIM.part v)) ||
    (Reg.CAP_MASK.CAP_MASK.here off && s.on Reg.CAP_CTRL.ARM t)

/-- The charger may take a new CHEM or VCV (R221). -/
def State.chemOpen (s : State) : Bool := s.chg = Chg.off || s.chg = Chg.done || s.chg = Chg.fault

/-- VCV stands in its chemistry's range (R221). -/
def vcvOk (chem vcv : Nat) : Bool := if chem = 0 then decide (1380 ≤ vcv) && decide (vcv ≤ 1460) else decide (1600 ≤ vcv) && decide (vcv ≤ 1680)

/-- A register of HPD refuses the word. A locked CHEM does not change, so its write is not judged (R7). -/
def State.hpdRefuses (s : State) (off v : Nat) : Bool :=
  (Reg.IIN_CFG.IIN_MAX.here off && decide (Reg.IIN_CFG.IIN_MAX.part v < Reg.IIN_CFG.IIN_START.part v)) ||
  (Reg.BFET_CTRL.MODE.here off && Reg.BFET_CTRL.MODE.part v ≠ s.get Reg.BFET_CTRL.MODE 0 && s.modeRefused) ||
  (Reg.CHG_CFG.CHEM.here off && !s.on Reg.CHG_CFG.LOCK 0 && Reg.CHG_CFG.CHEM.part v ≠ s.get Reg.CHG_CFG.CHEM 0 && !s.chemOpen) ||
  (Reg.CHG_LEVELS.VCV.here off && (!vcvOk (s.get Reg.CHG_CFG.CHEM 0) (Reg.CHG_LEVELS.VCV.part v) ||
    (Reg.CHG_LEVELS.VCV.part v ≠ s.get Reg.CHG_LEVELS.VCV 0 && !s.chemOpen))) ||
  (Reg.HPD_THERM_CTRL.STG_TLIM.here off && decide (s.get Reg.HPD_THERM_CTRL.STG_TLIM_CEIL 0 < Reg.HPD_THERM_CTRL.STG_TLIM.part v))

/-- The sequence whose header or stage entries stand at the offset runs (R170). -/
def State.seqTableBusy (s : State) (off : Nat) : Bool :=
  s.seqActive &&
    ((0x40 ≤ off && off < 0x60 && decide ((off - 0x40) / 4 = s.seqNo)) || (0x1000 ≤ off && off < 0x1800 && decide ((off - 0x1000) / 0x100 = s.seqNo)))

/-- The word with WORKER of a stage entry asks for no worker where it enables the lane (R184). -/
def stageLaneBad (off v : Nat) : Bool := Reg.SEQ_STG.WORKER.here off && Reg.SEQ_STG.LANE_EN.part v = 1 && Reg.SEQ_STG.WORKER.part v = 0

/-- DEST names no receiver. -/
def destBad (v : Nat) : Bool :=
  let d := Reg.SQL_TX_CTRL.DEST.part v
  (8 ≤ d && d < 15) || (d = 0 && Reg.SQL_TX_CTRL.GO.part v = 1)

/-- A register of the sequencer refuses the word. -/
def State.seqrRefuses (s : State) (off v : Nat) : Bool :=
  s.seqTableBusy off || stageLaneBad off v || (Reg.SQL_TX_CTRL.DEST.here off && destBad v) ||
    (Reg.SQL_CFG.ROLE.here off && Reg.SQL_CFG.ROLE.part v = 2 && Reg.SQL_CFG.ADDR.part v = 0) ||
    ((Reg.IG_OC.OCL.copyAt off).any fun g => decide (s.getAt Reg.IG_OC.IG_CEIL 0 g < Reg.IG_OC.OCL.part v))

/-- With a source's fold class changed, the class would span more than 96 source numbers (R320). -/
def State.foldSpanBad (s : State) (n k : Nat) : Bool :=
  let l := (List.range 640).filter fun x => if x = n then true else s.srcFoldReg x = k
  k ≠ 0 && decide (96 ≤ l.getLastD 0 - l.headD 0)

/-- A register of the event controller refuses the word. -/
def State.evcRefuses (s : State) (off v : Nat) : Bool :=
  (Reg.EVC_QCFG.Q_SIZE.here off && s.on Reg.EVC_CTRL.QEN 0) ||
    ((Reg.SRC_CFG.FOLD_CLS.copyAt off).any fun n => !s.on Reg.EVC_CTRL.LOCK 0 && s.foldSpanBad n (Reg.SRC_CFG.FOLD_CLS.part v))

/-- WRITE_PROTECT takes the value (R396). -/
def wpOk (v : Nat) : Bool := v = 0 || v = 0x20 || v = 0x40 || v = 0x80

/-- ACK_SEQ would lie forward of the newest SEQ or behind the oldest (R411). -/
def State.ackBad (s : State) (v : Nat) : Bool :=
  let newest := (s.get Reg.JRNL_NEXT.NEXT_SEQ 0 + 2 ^ 32 - 1) % 2 ^ 32
  let ahead := fun (a b : Nat) => decide (a ≠ b) && decide ((a + 2 ^ 32 - b % 2 ^ 32) % 2 ^ 32 < 2 ^ 31)
  ahead v newest || ahead (s.get Reg.JRNL_OLDEST.OLDEST_SEQ 0) v

/-- The lock of the registers around an offset, and the LOCK_VIOL that goes with it (R7). -/
def lockOf (b : Blk) (off : Nat) : Option (Fld × Fld) :=
  match b with
  | .evc => some (Reg.EVC_CTRL.LOCK, Hid.LV_EVC)
  | .wdt => some (Reg.WDT_CFG.LOCK, Hid.LV_WDT)
  | .hb => some (Reg.HB_CFG.LOCK, Hid.LV_HB)
  | .hpd => if off < 0x8000 then some (Reg.CHG_CFG.LOCK, Hid.LV_CHG) else some (Reg.PACK_CFG.LOCK, Hid.LV_PACK)
  | _ => none

/-- The lock of a register is set. -/
def State.locked (s : State) (b : Blk) (off : Nat) : Bool := (lockOf b off).any fun l => s.on l.1 0

/-- The word writes a locked field of the register (R7). -/
def State.lockHit (s : State) (b : Blk) (off : Nat) : Bool := s.locked b off && (fieldsAt b off).any fun fj => fj.1.acc = .rwl

/-- A register of the calendar refuses the word. -/
def rtcRefuses (off v : Nat) : Bool :=
  Reg.RTC_CTRL.LOC_OFS.here off && !(decide (-56 ≤ signed 8 (Reg.RTC_CTRL.LOC_OFS.part v)) && decide (signed 8 (Reg.RTC_CTRL.LOC_OFS.part v) ≤ 56))

/-- A register refuses a word: nothing of it changes (DEDUCED, log entry 13). -/
def State.regRefuses (s : State) (b : Blk) (i off v : Nat) : Bool :=
  outOfRange b off v ||
    match b with
    | .phase => s.phaseRefuses i off v
    | .rail => s.railRefuses i off v
    | .tile => s.tileRefuses i off v
    | .hpd => s.hpdRefuses off v
    | .seqr => s.seqrRefuses off v
    | .evc => s.evcRefuses off v
    | .wdt => s.lockHit b off
    | .hb => s.lockHit b off || (Reg.HB_CFG.WP.here off && !wpOk (Reg.HB_CFG.WP.part v))
    | .rtc => rtcRefuses off v
    | .jrn => Reg.JRNL_ACK.ACK_SEQ.here off && s.ackBad v
    | _ => false

end Sys2Proof.Machine
end

