-- ==== Sys2Proof/Machine/RegWrite.lean ====
section
/-!
DEFINITION. A write to an address of a manager's map: where it goes (R35 to R38), what a register's fields make of it (R5 to R13), and what the
commands in its bits do.
-/
namespace Sys2Proof.Machine

/-! Where an address points (R35, R36). -/

/-- What stands at an address of a manager's map. -/
inductive Place where
  /-- Scratchpad or mirror window. -/
  | ram
  /-- Ferroelectric array. -/
  | fe
  /-- Core-local memory. -/
  | core
  /-- Read-only memory: boot ROM, MET's read-out window, the trace ring, a capture buffer. -/
  | readOnly
  /-- A register block: the place of the block and the offset in it. -/
  | block (b : Blk) (i off : Nat)
  /-- A word of a program bank. -/
  | prog (t e bank idx : Nat)
  /-- A word of an engine's data memory. -/
  | data (t e idx : Nat)
  /-- Nothing. -/
  | nothing
  deriving DecidableEq, Repr

/-- The manager blocks in the order of their bases. -/
def mgrBlocks : List Blk := [.evc, .seqr, .jrn, .fuse, .ldr, .wdt, .rtc, .hb, .svc, .rein, .upd, .trc]

/-- What stands at an offset of a tile's window (R36). -/
def tilePlace (t o : Nat) : Place :=
  if o < 0x18000 then .block .phase (t * 24 + o / 0x1000) (o % 0x1000)
  else if o < 0x100000 then .nothing
  else if o < 0x130000 then .block .rail (railIx t ((o - 0x100000) / 0x1000)) (o % 0x1000)
  else if o < 0x200000 then .nothing
  else if o < 0x207000 then .block .tile t o
  else if o < 0x300000 then .nothing
  else if o < 0x400000 then .readOnly
  else if o < 0x464000 then
    let e := (o - 0x400000) / 0x4000
    let x := o % 0x4000
    if x < 0x2000 then .prog t e (x / 0x1000) (x % 0x1000 / 4) else if x < 0x2800 then .data t e ((x - 0x2000) / 4) else .nothing
  else .nothing

/-- What stands at an address of a manager's map (DEDUCED, log entry 65). -/
def place (a : Nat) : Place :=
  if a < 0x20000 then .readOnly
  else if memOf a = 0 || memOf a = 2 then .ram
  else if memOf a = 3 then .fe
  else if memOf a = 1 then .core
  else if 0x400B8000 ≤ a && a < 0x400C0000 then .readOnly
  else if 0x40000000 ≤ a && a < 0x400C0000 then .block (mgrBlocks.getD ((a - 0x40000000) / 0x10000) .evc) 0 (a % 0x10000)
  else if 0x50000000 ≤ a && a < 0x54000000 then tilePlace ((a - 0x50000000) / 0x1000000) (a % 0x1000000)
  else if 0x58000000 ≤ a && a < 0x59000000 then .block .hpd 0 (a % 0x1000000)
  else if 0x5C000000 ≤ a && a < 0x5C010000 then .readOnly
  else .nothing

/-! Same-cycle updates and the fields' own rules (R5 to R7, R11, R12). -/

/-- A number without the bits of another. -/
def without (a b : Nat) : Nat := a - (a &&& b)

/-- The WR_LOST or OVERLAP bit of a field. -/
def Fld.companion (f : Fld) : Option Fld := if f.comp = 0 then none else allFields.find? fun g => g.seq = f.comp

/-- Sets the companion bit of a field. -/
def State.raiseComp (s : State) (f : Fld) (i j : Nat) : State :=
  match f.companion with
  | some g => s.raiseAt g i (if g.cnt = 1 then 0 else j)
  | none => s

/-- The hardware's update of a field in this cycle. -/
def hwOf (f : Fld) (hw : List HwUpdate) : Option Nat := (hw.find? fun u => u.lo.val = f.lo).map fun u => u.val.toNat

/-- A field takes a hardware update that meets no write. -/
def State.hwTake (s : State) (f : Fld) (i j u : Nat) : State :=
  match f.acc with
  | .rw => if f.comp ≠ 0 then s.bumpAt f i j else s.putAt f i j u
  | .w1c => s.putAt f i j (s.getAt f i j ||| u)
  | .hw | .ro | .rwl | .fz => s.putAt f i j u
  | .w1s | .wo | .hid => s

/-- A field takes a written value, with the hardware update of the same cycle, if there is one (R11). -/
def State.fieldWrite (s : State) (f : Fld) (i j v : Nat) (locked : Bool) (u : Option Nat) : State :=
  match f.acc with
  | .rw => s.putAt f i j v
  | .hw => s.putAt f i j (u.getD v)
  | .w1c => s.putAt f i j (without (s.getAt f i j) v ||| u.getD 0)
  | .rwl => if locked then u.elim s fun x => s.putAt f i j x else s.putAt f i j v
  | .ro | .fz => u.elim s fun x => s.putAt f i j x
  | .w1s | .wo | .hid => s

/-- A write that meets this update of a field sets the field's companion bit (R11). -/
def Fld.meets (f : Fld) (u : Option Nat) : Bool := u.isSome && (f.acc = .hw || (f.acc = .rw && f.comp ≠ 0))

/-- Fields that the operation of their command writes. -/
def opFields : List Fld :=
  [Reg.RAIL_SETPT.VSET_TGT, Reg.RAIL_LAW.LAW_ID, Reg.RAIL_E_LO.E, Reg.RAIL_E_HI.E, Reg.HK_E_LO.E, Reg.HK_E_HI.E, Reg.CHG_CFG.CHG_EN,
   Reg.BFET_CTRL.MODE, Reg.RTC_CTRL.HALT, Reg.RTC_SEC.CAL_SEC, Reg.CLK_CTRL.SSC_MODE,
   Reg.CAP_CTRL.ARM, Reg.SW_LINE.SW_LINE, Reg.SRC_CFG.CLASS, Reg.SRC_CFG.FOLD_CLS, Reg.VBB_CFG.VBB_SET, Reg.CHG_CFG.CHEM]

/-- The latched faults of the holdup path, which their own operations set and clear. -/
def holdupFaults : List Fld := [Reg.BFET_STATUS.DSG_OC, Reg.BFET_STATUS.DSG_SHORT] ++ chgFaultBits

/-- The field is one that an operation writes, in this block: a set-point or law of a rail on its home tile only. -/
def State.opField (s : State) (f : Fld) (i : Nat) : Bool :=
  opFields.contains f && !(f.blk = .rail && (f.acc = .rw && f.comp = 0 && f.wid ≠ 32) && s.homeIx (i % 48) ≠ i)

/-- A field whose register is refused, or that stands in a word written to another manager's copy, takes only its hardware update. -/
def State.hwOnly (s : State) (b : Blk) (m i off : Nat) (hw : List HwUpdate) : State :=
  s.over (fieldsAt b off) fun s fj => (hwOf fj.1 hw).elim s fun u => s.hwTake fj.1 (fj.1.at m i) fj.2 u

/-- The write of a word leaves a field to the operation of its command, or to nobody; hardware's own update still reaches it. -/
def State.skips (s : State) (f : Fld) (i : Nat) (keep : Fld → Bool) : Bool := s.opField f i || !keep f

/-- Every field of a register takes the word, but for those that an operation writes (DEDUCED, log entry 11). The companion bits of lost updates set after
the word's own clears, a set of the same cycle that wins (R11). -/
def State.fieldsWrite (s : State) (b : Blk) (m i off v : Nat) (keep : Fld → Bool) (hw : List HwUpdate) : State :=
  let locked := s.locked b off
  let lost := (fieldsAt b off).filter fun fj => !holdupFaults.contains fj.1 && !s.skips fj.1 i keep && fj.1.meets (hwOf fj.1 hw)
  let s := s.over (fieldsAt b off) fun s fj =>
    let u := hwOf fj.1 hw
    if holdupFaults.contains fj.1 then s
    else if s.skips fj.1 i keep then u.elim s fun x => s.hwTake fj.1 (fj.1.at m i) fj.2 x
    else s.fieldWrite fj.1 (fj.1.at m i) fj.2 (fj.1.part v) locked u
  s.over lost fun s fj => s.raiseComp fj.1 (fj.1.at m i) fj.2

/-! What the commands in a word do. `v` is the word, `s0` the state before the write. -/

/-- A request bit of the word is 1. -/
def Fld.asked (f : Fld) (off v : Nat) : Bool := f.here off && decide (f.part v ≠ 0)

/-- The registers of a phase. -/
def State.phaseEffect (s : State) (w : Who) (p off v : Nat) : State :=
  let s := s.when (Reg.PH_TIMING.OFFSET.here off) fun s => s.raise Hid.OFS_PEND p
  let s :=
    if Reg.PH_CMD.SHED.asked off v then s.hostShed w p (Reg.PH_CMD.ADD.asked off v)
    else s.when (Reg.PH_CMD.ADD.asked off v) fun s => s.hostAdd w p
  let s := s.when (Reg.PH_CMD.UNBLOCK.asked off v) fun s => s.hostUnblock w p
  s.when (Reg.ENG_CTRL.FAIL_INJ.asked off v) fun s =>
    s.failInj w p true

/-- The registers of a rail's block on tile `i / 48`. -/
def State.railEffect (s : State) (w : Who) (i off v : Nat) (hw : List HwUpdate) : State :=
  let t := i / 48
  let r := i % 48
  let home := s.homeIx r = i
  let s := s.when (Reg.RAIL_ENG_CTRL.SWAP_ARM.asked off v) fun s => s.swapArm w t r
  let s := s.when (home && Reg.RAIL_LAW.LAW_ID.here off) fun s => s.lawSelect r (Reg.RAIL_LAW.LAW_ID.part v)
  let s := s.when (home && Reg.RAIL_SETPT.VSET_TGT.here off) fun s => s.setpointWrite w r (Reg.RAIL_SETPT.VSET_TGT.part v) false
  let s := s.when (Reg.RAIL_TLM_CFG.PK_CLR.asked off v) fun s => s.raise Hid.PK_PEND i
  let s := s.when (Reg.RAIL_TLM_CFG.TLM_WIN.here off) fun s => s.raise Hid.TLM_BAD i
  let acc := if ht : t < 4 then (if hr : r < 48 then some (EnergyAcc.rail ⟨t, ht⟩ ⟨r, hr⟩) else none) else none
  let s := (if Reg.RAIL_E_LO.E.here off then acc else none).elim s fun a => s.accLow w a v
  let s := (if Reg.RAIL_E_HI.E.here off then acc else none).elim s fun a => s.accHigh w a v !hw.isEmpty
  let both := Reg.RAIL_SUP_CMD.ON.asked off v && Reg.RAIL_SUP_CMD.OFF.asked off v
  let s := s.when (Reg.RAIL_SUP_CMD.ON.asked off v) fun s => s.railOn (originOf w) (s.tagOf w) r both
  let s := s.when (Reg.RAIL_SUP_CMD.OFF.asked off v) fun s => s.railOff (originOf w) (s.tagOf w) r both
  s.when (Reg.MIRR_CTRL.REJOIN.asked off v) fun s => s.rejoin w t r

/-- The registers of a tile. -/
def State.tileEffect (s s0 : State) (w : Who) (t off v : Nat) : State :=
  let arm := Reg.CAP_CTRL.ARM.part v = 1
  let s := s.when (Reg.CAP_CTRL.ARM.here off && arm && !s0.on Reg.CAP_CTRL.ARM t) fun s => (s.jDone w Reg.CAP_CTRL.ARM t noTarget).capArm t
  let s := s.when (Reg.CAP_CTRL.ARM.here off && !arm && s0.on Reg.CAP_CTRL.ARM t) fun s => s.capDisarm t
  let s := s.when (Reg.CAP_CTRL.TRIG.asked off v) fun s => (s.jDone w Reg.CAP_CTRL.TRIG t noTarget).capNow t
  let s := s.when (Reg.FC_PORT_CTRL.TERM_A.here off && t ≠ 3) fun s => (s.clr Reg.FC_PORT_CTRL.TERM_A t).clr Reg.FC_PORT_CTRL.TERM_B t
  let s := s.when (Reg.DIAG_START.START.asked off v) fun s => s.diagStart t
  let s := s.when (Reg.SNS_CTRL.SKEW_CAL.asked off v) fun s => s.skewCommand w t
  let s := s.when (Reg.SPARE_CTRL.HANDBACK.asked off v) fun s => s.handback w t
  s.when (Reg.TILE_THERM_CTRL.TSD_CLR.asked off v) fun s => s.tileTsdClr w t

/-- CHEM takes a value unless it was locked before this word; a write of CHEM loads that chemistry's VCV (R7, R221). -/
def State.chemWrite (s : State) (locked : Bool) (c : Nat) : State :=
  if s.get Reg.CHG_CFG.CHEM 0 = c || locked then s
  else (s.put Reg.CHG_CFG.CHEM 0 c).put Reg.CHG_LEVELS.VCV 0 (if c = 0 then 0x5A0 else 0x668)

/-- The fields of the list that hardware sets in this cycle. -/
def hwSets (hw : List HwUpdate) (l : List Fld) : List Fld := l.filter fun f => (hwOf f hw).any fun u => u % 2 ^ f.wid ≠ 0

/-- A write of CHG_FAULT: a fault that hardware sets in the same cycle stays, and is a fault as any other (R11, R228). -/
def State.chgFaultWrite (s : State) (v : Nat) (hw : List HwUpdate) : State :=
  let now := hwSets hw chgFaultBits
  let s := s.over now fun s f => s.chgFault f
  s.chgFaultClear (now.foldl (fun a f => withBit a f.lo false) (v % 512))

/-- A write of BFET_STATUS: a pair fault that hardware sets in the same cycle stays, and is a fault as any other (R11, R228). -/
def State.pairFaultWrite (s : State) (v : Nat) (hw : List HwUpdate) : State :=
  let now := hwSets hw [Reg.BFET_STATUS.DSG_OC, Reg.BFET_STATUS.DSG_SHORT]
  let s := s.over now fun s f => s.pairFault f
  s.pairFaultClear (Reg.BFET_STATUS.DSG_OC.part v ≠ 0 && !now.contains Reg.BFET_STATUS.DSG_OC)
    (Reg.BFET_STATUS.DSG_SHORT.part v ≠ 0 && !now.contains Reg.BFET_STATUS.DSG_SHORT)

/-- The registers of HPD. `s0` is the state before the write. -/
def State.hpdEffect (s s0 : State) (w : Who) (off v : Nat) (hw : List HwUpdate) : State :=
  let s := s.when (Reg.VBB_CFG.VBB_SET.here off) fun s =>
    s.put Reg.VBB_CFG.VBB_SET 0 (Reg.VBB_CFG.VBB_SET.part v)
  let s := s.when (Reg.IIN_CFG.IIN_MAX.here off) fun s =>
    s.put Reg.IIN_STATUS.IIN_LIM 0 (min (s.get Reg.IIN_STATUS.IIN_LIM 0) (s.get Reg.IIN_CFG.IIN_MAX 0))
  let s := s.when (Reg.IIN_CFG.SEARCH.asked off v) fun s => s.searchStart
  let mode := Reg.BFET_CTRL.MODE.part v
  let s := s.when (Reg.BFET_CTRL.MODE.here off && mode ≠ s.get Reg.BFET_CTRL.MODE 0) fun s => if mode = 0 then s.bfetOpen w else s.bfetArm w
  let s := s.when (Reg.BFET_CTRL.IBAT_DLIM.here off && decide (2 ≤ s.bfet)) fun s =>
    let x := s.get Reg.BFET_CTRL.IBAT_DLIM 0
    s.put Hid.DSG_LIM 0 (if s.bfet = 2 then x else min x (s.get Hid.DSG_LIM 0))
  let s := s.when (Reg.BFET_STATUS.DSG_OC.here off) fun s => s.pairFaultWrite v hw
  let s := s.when (Reg.CHG_CFG.CHEM.here off) fun s => (s.chemWrite (s0.on Reg.CHG_CFG.LOCK 0) (Reg.CHG_CFG.CHEM.part v)).chgEnable (Reg.CHG_CFG.CHG_EN.part v = 1)
  let s := s.when (Reg.CHG_FAULT.NO_BAT.here off) fun s => s.chgFaultWrite v hw
  let s := s.when (Reg.HPD_THERM_CTRL.TSD_CLR.asked off v) fun s => s.hpdTsdClr w
  let s := s.when (Reg.GG_CFG.DESIGN_CAP.here off) fun s => s.setFcc s.fcc
  let s := s.when (Reg.GG_CMD.STORE.asked off v) fun s => (s.jDone w Reg.GG_CMD.STORE 0 noTarget).gaugeStore
  let s := s.when (Reg.GG_CMD.INVALIDATE.asked off v) fun s => (s.jDone w Reg.GG_CMD.INVALIDATE 0 noTarget).packSwap (s.get Hid.PACK_ID 0) false
  let s := s.when (Reg.PACK_CTRL.AUTH_START.asked off v) fun s => ((s.jDone w Reg.PACK_CTRL.AUTH_START 0 noTarget).authSeries).chgEval
  s.when (decide (0x7000 ≤ off) && decide (off < 0x8000)) fun s => s.gaugeWake

/-- A lane of the sequencer, its isolation latches and its groups' accumulators. -/
def State.seqrEffect (s : State) (w : Who) (m off v : Nat) (hw : List HwUpdate) : State :=
  let s := s.when (Reg.SEQ_CTRL.RUN.asked off v) fun s => s.seqRun (originOf w) (s.tagOf w) (Reg.SEQ_CTRL.SEQ.part v)
  let s := s.when (Reg.SNAP_CTRL.TAKE.asked off v) fun s => (s.jDone w Reg.SNAP_CTRL.TAKE 0 noTarget).snapTrigger SnapCause.host noRail
  let s := s.when (Reg.SQL_CFG.ROLE.here off) fun s => ((s.clr Reg.SQL_STATUS.MASTER_CONFLICT 0).clr Hid.LN_LISTEN 0).put Hid.LN_FROM 0 s.beat
  let s := s.when (Reg.SQL_TX_CTRL.GO.asked off v) fun s => s.laneGo w m
  let s := s.when (Reg.FLT_CFG.RELEASE.asked off v) fun s => s.fltRelease
  let s := s.when (Reg.ISO_CTRL.ASSERT.asked off v) fun s =>
    (s.jDone w Reg.ISO_CTRL.ASSERT 0 noTarget).over ((List.range 8).filter fun g => v.testBit g) fun s g => s.isoMgr s.act g
  let s := s.when (Reg.ISO_CTRL.RELEASE.asked off v) fun s => s.over ((List.range 8).filter fun g => v.testBit (8 + g)) fun s g => s.isoRelease w g
  let s := s.when (Reg.KERB_CTRL.ENTER.asked off v) fun s => (s.jDone w Reg.KERB_CTRL.ENTER 0 noTarget).kerbEnter KCause.host
  let s := s.when (Reg.KERB_CTRL.EXIT.asked off v) fun s => s.kerbExit w
  let acc := fun (g : Nat) => if hm : m < 2 then (if hg : g < 8 then some (EnergyAcc.group ⟨m, hm⟩ ⟨g, hg⟩) else none) else none
  let s := ((Reg.HK_E_LO.E.copyAt off).bind acc).elim s fun a => s.accLow w a v
  ((Reg.HK_E_HI.E.copyAt off).bind acc).elim s fun a => s.accHigh w a v !hw.isEmpty

/-- A source's settings are written: those of an active source wait for its completion (R325). -/
def State.srcCfgWrite (s s0 : State) (n v : Nat) : State :=
  if s0.on Reg.EVC_CTRL.LOCK 0 then s
  else
    let s := s.when (!fixedSafety n) fun s => s.putAt Reg.SRC_CFG.CLASS 0 n (Reg.SRC_CFG.CLASS.part v ^^^ classAtReset n)
    let s := s.putAt Reg.SRC_CFG.FOLD_CLS 0 n (Reg.SRC_CFG.FOLD_CLS.part v ^^^ foldAtReset n)
    let s := s.when (s.srcActive n && decide (s0.getAt Hid.EV_OLD 0 n < 2 ^ 17)) fun s => s.putAt Hid.EV_OLD 0 n (2 ^ 17 + s0.srcPack n)
    s.when (Reg.SRC_CFG.ENABLE.part v = 1 && !s0.onAt Reg.SRC_CFG.ENABLE 0 n && !s.srcActive n && decide (s.srcSense n = 0) &&
      s.bitAt Reg.SRC_LINE.LINE n) fun s => s.occur n s.beat 0 false

/-- The bits of SW_LINE are the lines of the sources 568 to 599. -/
def State.swLineWrite (s : State) (v : Nat) : State :=
  let old := s.get Reg.SW_LINE.SW_LINE 0
  (s.put Reg.SW_LINE.SW_LINE 0 v).over ((List.range 32).filter fun k => v.testBit k ≠ old.testBit k) fun s k =>
    s.lineSet (568 + k) (v.testBit k) 0 s.beat 0 false

/-- The registers of the event controller. -/
def State.evcEffect (s s0 : State) (off v : Nat) : State :=
  let s := s.when (Reg.EVC_CTRL.QEN.here off && s.on Reg.EVC_CTRL.QEN 0 && !s0.on Reg.EVC_CTRL.QEN 0) fun s => s.heldFlush
  let s := s.when (Reg.EVC_COMPLETE.TARGET.here off) fun s =>
    if Reg.EVC_COMPLETE.FOLD.part v = 1 then s.foldComplete (v % 65536) else s.srcComplete (v % 65536)
  let s := s.when (Reg.SW_LINE.SW_LINE.here off) fun s => s.swLineWrite v
  (Reg.SRC_CFG.CLASS.copyAt off).elim s fun n => s.srcCfgWrite s0 n v

/-- Both VBIAS inputs are present: the supply that a fuse operation needs (R344; DESIGN CHOICE, log entry 62). -/
def State.bothSupplies (s : State) : Bool := s.on Hid.POWERED 0 && s.on Hid.POWERED 1

/-- The registers of the loader and fuse blocks. -/
def State.ldrEffect (s : State) (w : Who) (off v : Nat) : State :=
  let key := Reg.DEV_CTRL.KEY.part v
  let s := s.when (Reg.DEV_CTRL.RUN.asked off v) fun s => s.runCmd w
  let s := s.when (Reg.DEV_CTRL.PARK.asked off v) fun s => s.parkCmd w
  let s := s.when (Reg.DEV_CTRL.TILE_RST.asked off v) fun s =>
    s.over ((List.range 4).filter fun t => v.testBit (4 + t)) fun s t => s.tileRst w t key
  s.when (Reg.DEV_CTRL.SYS_RST.asked off v) fun s => s.sysRst w key

/-- The registers of the fuse controller. -/
def State.fuseEffect (s : State) (w : Who) (off v : Nat) : State :=
  let s := s.when (Reg.FUSE_PROG.GO.asked off v) fun s =>
    s.fuseGo (Reg.FUSE_PROG.KEY.part v) (Reg.FUSE_PROG.FIELD.part v) (Reg.FUSE_PROG.WORD.part v) (Reg.FUSE_PROG.LEN.part v) s.bothSupplies
  let s := s.when (Reg.LC_CTRL.ADVANCE.asked off v) fun s => s.lcAdvance w (Reg.LC_CTRL.KEY.part v) s.bothSupplies
  s.when (Reg.LC_CTRL.WIPE.asked off v) fun s => s.lcWipe w (Reg.LC_CTRL.KEY.part v)

/-- The value of WDT_SERVICE is one of the two keys, or neither. -/
def State.wdtValue (s : State) (v : Nat) : State := if v = 0x5A3C then s.keyA else if v = 0xC3A5 then s.keyB else s.badKey

/-- The registers of the calendar. -/
def State.rtcEffect (s : State) (w : Who) (off v : Nat) : State :=
  let s := s.when (Reg.RTC_CTRL.HALT.here off) fun s => if Reg.RTC_CTRL.HALT.part v = 1 then s.rtcHalt else s.rtcResume
  let s := s.when (Reg.RTC_CTRL.DST_ADD.asked off v) fun s => s.dstCommand w true
  let s := s.when (Reg.RTC_CTRL.DST_SUB.asked off v) fun s => s.dstCommand w false
  s.when (Reg.RTC_SEC.CAL_SEC.here off) fun s => s.rtcSecWrite v

/-- The registers of the journal: a note, or what has been read (R411). -/
def State.jrnEffect (s : State) (w : Who) (off v : Nat) : State :=
  let s := s.when (Reg.JRNL_NOTE.NOTE_CODE.here off) fun s =>
    s.journal (originOf w) JKind.note (s.tagOf w) JStatus.ok noTarget (v % 65536) (s.get Reg.JRNL_NOTE_ARG.NOTE_ARG 0)
  s.when (Reg.JRNL_ACK.ACK_SEQ.here off) fun s => s.putB Reg.JRNL_STATUS.UNREAD_FAIL 0 (unreadFail s.jrnA (s.get Reg.JRNL_ACK.ACK_SEQ 0))

/-- What the word does beyond the fields it writes. -/
def State.regEffect (s s0 : State) (w : Who) (m : Nat) (b : Blk) (i off v : Nat) (hw : List HwUpdate) : State :=
  match b with
  | .phase => s.phaseEffect w i off v
  | .rail => s.railEffect w i off v hw
  | .tile => s.tileEffect s0 w i off v
  | .hpd => s.hpdEffect s0 w off v hw
  | .seqr => (s.seqrEffect w m off v hw).when (Reg.MET_REQ.STROBE.asked off v) fun s => s.metStrobe w m (Reg.MET_REQ.CODE.part v)
  | .rein =>
    let s := s.when (Reg.REIN_CTRL.HANDOVER.asked off v) fun s => s.handover w m
    let s := s.when (Reg.CLK_CTRL.SSC_MODE.here off) fun s => s.sscWrite w m (Reg.CLK_CTRL.SSC_MODE.part v)
    s.when (Reg.LBIST_CTRL.START.asked off v) fun s => s.lbistStart w (Reg.LBIST_CTRL.TARGET.part v)
  | .evc => s.evcEffect s0 off v
  | .ldr => s.ldrEffect w off v
  | .fuse => s.fuseEffect w off v
  | .wdt => s.when (Reg.WDT_SERVICE.KEY.here off) fun s => s.wdtKey w m fun s => s.wdtValue (v % 65536)
  | .rtc => s.rtcEffect w off v
  | .trc => (if Reg.TRACE_MARK.MARK.here off then coreOf w else none).elim s fun c => s.trace m c 5 v v
  | .hb => s.when (s.get Reg.HB_CFG.WP 0 ≠ s0.get Reg.HB_CFG.WP 0) fun s => s.jDone w Reg.HB_CFG.WP 0 noTarget
  | .jrn => s.jrnEffect w off v
  | .svc | .upd | .eng | .met | .mgr | .dev => s

/-! A register takes a write. -/

/-- A refused write: the register's bit shows it, a locked field shows LOCK_VIOL too, and a refused command is journalled. -/
def State.regRefused (s : State) (w : Who) (b : Blk) (i off v : Nat) : State :=
  let r := i % 48
  let s := (refusalBit b off).elim s fun f =>
    s.raiseAt f (if b.onMgr then f.home s.act else i) (if f.cnt = 1 then 0 else (f.copyAt off).getD 0)
  let s := s.when (s.lockHit b off) fun s => (lockOf b off).elim s fun l => s.raise l.2 0
  let s := s.when (b = .rail && Reg.RAIL_SETPT.VSET_TGT.here off && s.running r) fun s => s.jRefused w Reg.RAIL_SETPT.VSET_TGT i r JStatus.refused
  let s := s.when (b = .hpd && Reg.BFET_CTRL.MODE.here off && Reg.BFET_CTRL.MODE.part v ≠ s.get Reg.BFET_CTRL.MODE 0) fun s =>
    if s.modeRefused then s.modeBusy w else s.jRefused w Reg.BFET_CTRL.MODE 0 noTarget JStatus.refused
  s.when (b = .rein && Reg.LBIST_CTRL.START.asked off v) fun s =>
    (s.jRefused w Reg.LBIST_CTRL.START 0 noTarget JStatus.refused).when (s.get Hid.LBIST_ON 0 = 0) fun s =>
      s.put Reg.LBIST_STATUS.RESULT 0 LbRes.refused

/-- RAIL_OFF_CFG while its rail is not off: only TMO may change (R170). -/
def State.offCfgKept (s : State) (b : Blk) (i off : Nat) : Bool := b = .rail && Reg.RAIL_OFF_CFG.TMO.here off && s.rs (i % 48) ≠ Rs.off

/-- A write of RAIL_OFF_CFG while its rail is not off: TMO is written, and a word that would change another field sets CFG_REJ. -/
def State.offCfgWrite (s : State) (m i off v : Nat) (hw : List HwUpdate) : State :=
  let other := s.get Reg.RAIL_OFF_CFG.OFF_PCT i ≠ Reg.RAIL_OFF_CFG.OFF_PCT.part v || s.get Reg.RAIL_OFF_CFG.OFF_MIN i ≠ Reg.RAIL_OFF_CFG.OFF_MIN.part v
  (s.fieldsWrite .rail m i off v (fun f => f = Reg.RAIL_OFF_CFG.TMO) hw).when other fun s => s.raise Reg.RAIL_SUP_STATUS.CFG_REJ i

/-- A register takes a word of initiator `w`, with the hardware updates of the same cycle. -/
def State.regWrite (s : State) (w : Who) (m : Nat) (b : Blk) (i off v : Nat) (hw : List HwUpdate) : State :=
  if s.regRefuses b i off v then (s.hwOnly b m i off hw).regRefused w b i off v
  else if s.offCfgKept b i off then s.offCfgWrite m i off v hw
  else
    let t := s.fieldsWrite b m i off v (fun _ => true) hw
    let t := t.when (s.lockHit b off) fun t => (lockOf b off).elim t fun l => t.raise l.2 0
    t.regEffect s w m b i off v hw

/-- The shadow's own registers; the other registers of the manager blocks are the active manager's copy (R458). -/
def ownWord (b : Blk) (off : Nat) : Bool :=
  match b with
  | .trc => true
  | .rein => !(off = 0x110 || off = 0x200 || off = 0x210)
  | .seqr => Reg.MET_REQ.STROBE.here off || Reg.MET_LINK.NEW_REC_EVT.here off || Reg.MET_LINK_COUNTS.FRAME_ERR.here off || Reg.MGR_THERM.WARN_EVT.here off
  | _ => false

/-- A write to the shadow's copy of a manager block (DEDUCED, log entry 73). -/
def State.shadowWrite (s : State) (w : Who) (m : Nat) (b : Blk) (off v : Nat) (hw : List HwUpdate) : State :=
  if !ownWord b off then (s.hwOnly b m 0 off hw).busError w m
  else
    let t := (s.served w m).fieldsWrite b m 0 off v Fld.perDie hw
    let t := t.when (Reg.MET_REQ.STROBE.asked off v && b = .seqr) fun s => s.metStrobe w m (Reg.MET_REQ.CODE.part v)
    let t := t.when (Reg.REIN_CTRL.HANDOVER.asked off v && b = .rein) fun s => s.handover w m
    (if Reg.TRACE_MARK.MARK.here off && b = .trc then coreOf w else none).elim t fun c => t.trace m c 5 v v

/-- The rail's block stands on a tile that neither homes the rail nor carries a phase of it (R37). -/
def State.emptyRail (s : State) (b : Blk) (i : Nat) : Bool := b = .rail && !(s.tilesOf (i % 48)).contains (i / 48)

/-- A word written to a register block of the map. -/
def State.blockWrite (s : State) (w : Who) (m : Nat) (b : Blk) (i off v : Nat) (hw : List HwUpdate) : State :=
  if s.emptyRail b i && s.isActive m then (s.hwOnly b m i off hw).served w m
  else if (fieldsAt b off).isEmpty then s.busError w m
  else if b.onMgr then
    (if m ≠ s.act then s.shadowWrite w m b off v hw else (s.served w m).regWrite w m b i off v hw)
  else if !s.isActive m then (s.hwOnly b m i off hw).busError w m
  else (s.served w m).regWrite w m b i off v hw

/-- A write of `n` bytes to an address of manager `m`'s map. -/
def State.busWrite (s : State) (w : Who) (m : Nat) (secure : Bool) (a n : Nat) (v : Word) (hw : List HwUpdate) : State :=
  let m := s.reach w m
  let word := a % 4 = 0 && n = 4
  match place a with
  | .ram => s.spStore w m secure a n v .clean
  | .fe => s.feStore w m a n v
  | .core =>
    match coreOf w with
    | some c => if 0xE0020000 < a + n then s.busError w m else (s.served w m).wrBytes (coreMem m c a) (lowBytes n v)
    | none => s.busError w m
  | .block b i off =>
    if !word then (s.hwOnly b m i (off / 4 * 4) hw).busError w m else s.blockWrite w m b i off v.toNat hw
  | .prog t e bank idx => if !word || !s.isActive m then s.busError w m else (s.served w m).bankWrite t e (bank = 1) idx v
  | .data t e idx =>
    if !word || !s.isActive m then s.busError w m
    else { s.served w m with dmPend := s.dmPend ++ [(t, dmAddr t e idx, v)] }
  | .readOnly | .nothing => s.busError w m

/-- Puts a write of a cycle into its place in the order of the initiators, after those of the same one. -/
def byWho (x : OneWrite) : List OneWrite → List OneWrite
  | [] => [x]
  | y :: l => if whoIx x.who < whoIx y.who then x :: y :: l else y :: byWho x l

/-- The writes of one cycle in the fixed order of their initiators (R13). -/
def inOrder (l : List OneWrite) : List OneWrite := l.foldl (fun a x => byWho x a) []

/-- The writes of one cycle to manager `m`'s map: each completes before the next is applied. The hardware updates of the cycle meet the first write
to their register, that of `addr` (R11, R13). -/
def State.cycleWrites (s : State) (m : Nat) (addr : Word) (hw : List HwUpdate) : List OneWrite → State
  | [] => s
  | x :: l =>
    let here := x.addr = addr
    (s.busWrite x.who m x.secure x.addr.toNat x.bytes x.data (if here then hw else [])).cycleWrites m addr (if here then [] else hw) l

/-- REG_WRITE (R9, R11, R13): `more` are the writes of other initiators in the same cycle. -/
def execRegWrite (w : Who) (m : Mgr) (secure : Bool) (addr : Word) (bytes : Nat) (data : Word) (hw : List HwUpdate) (more : List OneWrite)
    (s : State) : Host.Outcome State Fault Refusal :=
  .next (s.cycleWrites m.val addr hw (inOrder (⟨w, secure, addr, bytes, data⟩ :: more)))

/-- The address of an offset in the window of a tile or of HPD. -/
def windowAddr (u off : Nat) : Nat := (if u < 4 then 0x50000000 + u * 0x1000000 else 0x58000000) + off

/-- A write frame reaches a tile or HPD: the holder of ROLE writes; a former holder's frame is counted; the shadow's has a bus error (R19). -/
def State.frameWrite (s : State) (u m : Nat) (w : Who) (sentActive : Bool) (off : Nat) (v : Word) : State :=
  if s.on Hid.ROLE_LOW m then s.busWrite w m false (windowAddr u off) 4 v []
  else if sentActive then s.bump (clkF u Reg.CROSS_COUNTS.ROLE_REJECT Reg.HPD_CROSS_COUNTS.ROLE_REJECT) (clkI u)
  else s.busError w m

/-- CROSSING_REG_WRITE (R19). -/
def execCrossingRegWrite (u : Unit5) (m : Mgr) (w : Who) (sentActive : Bool) (off : BitVec 24) (data : Word) (s : State) :
    Host.Outcome State Fault Refusal :=
  .next (s.frameWrite u.val m.val w sentActive off.toNat data)

/-! Reads (R38, R161). -/

/-- A register pair: block, offset of the low word, copies, stride, and whether the pair is an energy accumulator. The high word follows the low one. -/
def lowWords : List (Blk × Nat × Nat × Nat × Bool) :=
  [(.rein, 0x100, 1, 0, false), (.rein, 0x218, 1, 0, false), (.seqr, 0xC08, 1, 0, false), (.rail, 0x194, 1, 0, true),
   (.seqr, 0xEA0, 8, 8, true), (.hpd, 0x7028, 1, 0, false), (.hpd, 0x800C, 1, 0, false)]

/-- The pair that an offset is the low word of. -/
def lowPair (b : Blk) (off : Nat) : Option Bool :=
  (lowWords.find? fun x => x.1 = b && (List.range x.2.2.1).any fun j => off = x.2.1 + j * x.2.2.2.1).map fun x => x.2.2.2.2

/-- The high word of a pair stands at the offset. -/
def highPair (b : Blk) (off : Nat) : Option Bool := if off < 4 then none else lowPair b (off - 4)

/-- WRAP of the accumulator at a low word. -/
def State.wrapAt (s : State) (b : Blk) (m i off : Nat) : Bool :=
  if b = .rail then s.on Reg.RAIL_ACC_FLAGS.WRAP i else s.bit Reg.HK_FLAGS.WRAP m ((off - 0xEA0) / 8)

/-- The die that keeps a snapshot: a manager its own; 2 stands for the tiles and HPD, whose snapshots every manager reaches (R161). -/
def snapHome (m a : Nat) : Nat := if 0x50000000 ≤ a && decide (a < 0x5C000000) then 2 else m

/-- A reader's snapshot at an address. -/
def State.snapAt (s : State) (m : Nat) (w : Who) (a : Nat) : Option Snap :=
  s.snaps.find? fun x => x.mgr = snapHome m a && x.who = whoIx w && x.addr = a

/-- A reader takes a snapshot in place of its last one at the address. -/
def State.snapPut (s : State) (m : Nat) (w : Who) (a : Nat) (high : List Nat) (wrap : Bool) : State :=
  { s with snaps := ⟨snapHome m a, whoIx w, a, high, wrap⟩ :: s.snaps.filter fun x => !(x.mgr = snapHome m a && x.who = whoIx w && x.addr = a) }

/-- What a read returns. -/
def State.give (s : State) (w : Who) (m v : Nat) : State := (s.served w m).putAt Hid.READ_DATA m (whoIx w) v

/-- The value that a read returns where no rule states one. -/
def State.giveFree (s : State) (w : Who) (m : Nat) : State := let (v, s) := s.draw; s.give w m v

/-- The base of the block that an offset counts from: the windows of tile and HPD registers carry their whole offset. -/
def blockAddr (b : Blk) (i off : Nat) : Nat := b.base i + off

/-- SNAP_WRAP in the reader's snapshots. -/
def State.snapWraps (s : State) (w : Who) (b : Blk) (m i : Nat) : Nat :=
  if b = .rail then (((s.snapAt m w (blockAddr b i 0x194)).map Snap.wrap).getD false).toNat * 2 ^ Reg.RAIL_ACC_FLAGS.SNAP_WRAP.lo
  else groupMask (fun g => ((s.snapAt m w (blockAddr b i (0xEA0 + 8 * g))).map Snap.wrap).getD false) * 2 ^ Reg.HK_FLAGS.SNAP_WRAP.lo

/-- The flags word of an energy accumulator stands at the offset. -/
def wrapWord (b : Blk) (off : Nat) : Bool :=
  (b = .rail && Reg.RAIL_ACC_FLAGS.SNAP_WRAP.here off) || (b = .seqr && Reg.HK_FLAGS.SNAP_WRAP.here off)

/-- A read of a register of the event controller that takes a record or shows the reader's own window. -/
def State.evcRead (s : State) (w : Who) (m off : Nat) : Option State :=
  if Reg.EVC_TAKE.TAKE.here off then some (s.evcAccess w m fun s => s.take .main w m)
  else if Reg.EVC_SC_TAKE.SC_TAKE.here off then some (if w ≠ .sc then s.busError w m else s.evcAccess w m fun s => s.take .safe w m)
  else if off = 0xC0 then some (s.evcAccess w m fun s => s.hostTake w m)
  else
    match Reg.EVC_TREC.TREC.copyAt off, Reg.EVC_HQ_REC.HQ_REC.copyAt off with
    | some j, _ => some (s.give w m (s.getAt Hid.EV_TREC m (8 * whoIx w + j)))
    | none, some j => some (s.give w m (s.getAt Hid.EV_HREC m (8 * whoIx w + j)))
    | none, none => none

/-- A read of a register block. -/
def State.blockRead (s : State) (w : Who) (m : Nat) (b : Blk) (i off : Nat) : State :=
  let a := blockAddr b i off
  let s := s.when (b = .hpd && decide (0x7000 ≤ off) && decide (off < 0x8000)) fun s => s.gaugeWake
  if s.emptyRail b i then s.give w m 0
  else if (fieldsAt b off).isEmpty then s.busError w m
  else
    match (if b = .evc then s.evcRead w m off else none) with
    | some t => t
    | none =>
      if (lowPair b off).isSome then
        (s.snapPut m w a [s.regWord b m i (off + 4)] (lowPair b off = some true && s.wrapAt b m i off)).give w m (s.regWord b m i off)
      else
        match highPair b off with
        | some acc =>
          match s.snapAt m w (a - 4) with
          | some x => s.give w m (x.high.getD 0 0)
          | none => if acc then s.give w m 0 else s.giveFree w m
        | none => s.give w m (s.regWord b m i off + (if wrapWord b off then s.snapWraps w b m i else 0))

/-- The low words of MET's live values, whose read takes the whole LIVE area, and their high words (R269). -/
def metLow (o : Nat) : Bool := o = 0 || o = 8 || o = 16
/-- As `metLow`, for the high words. -/
def metHigh (o : Nat) : Bool := o = 4 || o = 12 || o = 20

/-- The areas of the read-out window: LIVE, ID, the last new record, the replay record with its tag, HEALTH (R269). -/
def metAreas : List (Nat × Nat) := [(0, 0x30), (0x40, 0xA8), (0x100, 0x1A0), (0x200, 0x2A4), (0x300, 0x320)]

/-- A read of MET's read-out window; an address outside the areas is reserved (R35, R269). -/
def State.metRead' (s : State) (w : Who) (m a : Nat) : State :=
  let o := a - 0x5C000000
  let word := fun (k : Nat) => (s.rd32 (metWin m k)).toNat
  if !metAreas.any fun x => decide (x.1 ≤ o) && decide (o < x.2) then s.busError w m
  else if metLow o then (s.snapPut m w 0x5C000000 ((List.range 12).map fun k => word (4 * k)) false).give w m (word o)
  else if metHigh o then
    match s.snapAt m w 0x5C000000 with
    | some x => s.give w m (x.high.getD (o / 4) 0)
    | none => s.give w m (word o)
  else s.give w m (word o)

/-- The number that `n` bytes of memory form, low byte first. -/
def State.rdNum (s : State) (x n : Nat) : Nat := (s.rd32 x).toNat % 2 ^ (8 * n)

/-- Bytes of the scratchpad or of the mirror window are read; only the safety core and a management core in secure state reach the secure part
(R35, R364). -/
def State.memRead (s : State) (w : Who) (m : Nat) (secure : Bool) (a n : Nat) : State :=
  let last := a + n - 1
  if memOf last ≠ memOf a then s.busError w m
  else if (inSecure a || inSecure last) && !mayReachSecure w secure then (s.busError w m).raise Reg.MEM_STATUS.SEC_VIOL m
  else s.give w m (s.rdNum (mgrMem m a) n)

/-- A manager reads a word of an engine memory; one that no read can correct gives a value the rules leave open (R89, R90; DESIGN CHOICE, log
entry 103). -/
def State.engRead (s : State) (w : Who) (m t e off : Nat) : State :=
  let f := s.eccRead t e off
  if f.2 then f.1.give w m (f.1.rd32 (engMem t e + off * 4)).toNat else f.1.giveFree w m

/-- A read of `n` bytes at an address of manager `m`'s map: register blocks, engine memories and the read-out window take whole words (R9). -/
def State.busRead (s : State) (w : Who) (m : Nat) (secure : Bool) (a n : Nat) : State :=
  let m := s.reach w m
  let word := decide (a % 4 = 0) && decide (n = 4)
  match place a with
  | .ram => s.memRead w m secure a n
  | .fe => if memOf (a + n - 1) ≠ memOf a || !s.feOk (mgrMem m a) n then s.busError w m else s.give w m (s.rdNum (mgrMem m a) n)
  | .core =>
    match coreOf w with
    | some c => if 0xE0020000 < a + n then s.busError w m else s.give w m (s.rdNum (coreMem m c a) n)
    | none => s.busError w m
  | .block b i off => if !word then s.busError w m else s.blockRead w m b i off
  | .prog t e bank idx => if !word then s.busError w m else s.engRead w m t e (bank * 1024 + idx)
  | .data t e idx => if !word then s.busError w m else s.engRead w m t e (2048 + idx)
  | .readOnly =>
    if a < 0x20000 then s.giveFree w m
    else if 0x5C000000 ≤ a then (if !word then s.busError w m else s.metRead' w m a)
    else if !word then s.busError w m
    else s.give w m (s.rd32 (if a < 0x50000000 then mgrMem m a else a)).toNat
  | .nothing => s.busError w m

/-- LOW_WORD_SNAPSHOT_READ (R161): `bytes` bytes read by initiator `w`; a low word takes its snapshot. -/
def execLowWordSnapshotRead (w : Who) (m : Mgr) (secure : Bool) (addr : Word) (bytes : Nat) (s : State) : Host.Outcome State Fault Refusal :=
  .next (s.busRead w m.val secure addr.toNat bytes)

end Sys2Proof.Machine
end

