-- ==== Sys2Proof/Machine/Loader.lean ====
section
/-!
DEFINITION. The configuration load: the flash and its slots, the checks of a slot, streaming, the configuration rules, commit and what is restored after it
(R334 to R339, R401, R433).
-/
namespace Sys2Proof.Machine

/-! The configuration flash. -/

/-- The byte at a flash address. -/
def State.flash8 (s : State) (a : Nat) : Byte := s.rd8 (flashMem a) ^^^ 0xFF#8

/-- A run of bytes of the flash. -/
def State.flashBytes (s : State) (a n : Nat) : List Byte := (List.range n).map fun k => s.flash8 (a + k)

/-- A little-endian number in the flash. -/
def State.flashNat (s : State) (a n : Nat) : Nat := leNat (s.flashBytes a n)

/-- The 256 bytes of a slot's header. -/
def State.head (s : State) (k : Nat) : List Byte := s.flashBytes (s.slotBase k) 256

/-- A field of a header. -/
def hdrOf (h : List Byte) (off n : Nat) : Nat := leNat ((h.drop off).take n)

/-- A field of a slot's header. -/
def State.hdr (s : State) (k off n : Nat) : Nat := hdrOf (s.head k) off n

/-- The flash has a valid SFDP table and a capacity of 8 MiB or more (R334). -/
def State.flashOk (s : State) : Bool := decide (8 * 2 ^ 20 ≤ s.get Hid.FL_SIZE 0)

/-! Checks of a slot, by FAIL code (R336). -/

namespace Fail
abbrev none : Nat := 0
abbrev flash : Nat := 1
abbrev header : Nat := 2
abbrev key : Nat := 3
abbrev signature : Nat := 4
abbrev product : Nat := 5
abbrev rollback : Nat := 6
abbrev digest : Nat := 7
abbrev rule : Nat := 8
abbrev stage : Nat := 9
abbrev retired : Nat := 10
end Fail

/-- MAGIC, FORMAT, HDR_CRC, the ranges of FLAGS and ROLLBACK, and PAYLOAD_LEN. -/
def State.headerOk (s : State) (h : List Byte) : Bool :=
  hdrOf h 0x00 4 = 0x59434647 && hdrOf h 0x04 2 = 1 && hdrOf h 0xFC 4 = (crc32 (h.take 0xFC)).toNat && decide (hdrOf h 0x07 1 < 12) &&
    decide (hdrOf h 0x0F 1 ≤ 128) && hdrOf h 0x10 4 % 4 = 0 && decide (hdrOf h 0x10 4 + 4096 ≤ s.get Hid.FL_SIZE 0 / 2)

/-- The image is signed by an image key that is not revoked. -/
def State.keyOk (s : State) (h : List Byte) : Bool :=
  let i := hdrOf h 0x06 1
  decide (i < 4) && beNat (sha256 ((h.drop 0x40).take 64)) = s.getAt Hid.SN_KEY s.act i && !(s.fuse s.act FuseId.revoke).testBit i

/-- The signature over the header's first 128 bytes verifies. -/
def signatureOk (h : List Byte) : Bool :=
  let n := fun (off : Nat) => beNat ((h.drop off).take 32)
  ecdsaVerify (n 0x40) (n 0x60) (h.take 0x80) (n 0x80) (n 0xA0)

/-- Checks 3 to 6: key, signature, product, rollback. -/
def State.signedCheck (s : State) (h : List Byte) : Nat :=
  if !s.keyOk h then Fail.key
  else if !signatureOk h then Fail.signature
  else if hdrOf h 0x08 4 ≠ s.get Hid.SN_PRODUCT s.act then Fail.product
  else if hdrOf h 0x0F 1 < s.get Reg.UPD_ROLLBACK.BLOWN 0 then Fail.rollback
  else Fail.none

/-- VENDOR_TEST of a header. -/
def vendorTest (h : List Byte) : Bool := (hdrOf h 0x07 1).testBit 1

/-- Checks 1 to 6 on a header. -/
def State.headCheck (s : State) (h : List Byte) : Nat :=
  if !s.headerOk h then Fail.header
  else if vendorTest h && decide (Stage.build < s.get Reg.FUSE_STATUS.STAGE 0) then Fail.stage
  else if vendorTest h then Fail.none
  else s.signedCheck h

/-- SLOT_CHECK (R336): the checks before streaming. -/
def State.slotCheck (s : State) (k : Nat) : Nat :=
  if s.get Reg.FUSE_STATUS.STAGE 0 = Stage.retired then Fail.retired
  else if !s.flashOk then Fail.flash
  else s.headCheck (s.head k)

/-- The payload's length. -/
def State.payLen (s : State) (k : Nat) : Nat := s.hdr k 0x10 4

/-- The payload has the header's digest. -/
def State.digestOk (s : State) (k : Nat) : Bool :=
  sha256 (s.flashBytes (s.slotBase k + 0x1000) (s.payLen k)) = s.flashBytes (s.slotBase k + 0x20) 32

/-! Sections (R335). -/

/-- A section table entry: number, TYPE, TARGET, OFFSET and LENGTH. -/
structure Section' where
  no     : Nat
  typ    : Nat
  target : Nat
  off    : Nat
  len    : Nat
  deriving DecidableEq, Repr

/-- The sections of a slot. -/
def State.sections (s : State) (k : Nat) : List Section' :=
  (List.range (s.hdr k 0x14 2)).map fun j =>
    let a := s.slotBase k + 0x1000 + 16 * j
    ⟨j, s.flashNat a 2, s.flashNat (a + 2) 2, s.flashNat (a + 4) 4, s.flashNat (a + 8) 4⟩

/-- The bytes of a section. -/
def State.secBytes (s : State) (k : Nat) (x : Section') : List Byte := s.flashBytes (s.slotBase k + 0x1000 + x.off) x.len

/-- The longest a section of its type may be: what it is placed in (DEDUCED, log entry 67). -/
def secRoom (x : Section') : Nat :=
  match x.typ with
  | 1 => 0xF0000
  | 2 => 0x10000
  | 4 => if x.target % 4 = 2 then 2048 else 4096
  | 5 => 1024
  | _ => 2 ^ 32

/-- The section has a known type, lies in the payload and fits. -/
def State.secOk (s : State) (k : Nat) (x : Section') : Bool :=
  decide (1 ≤ x.typ) && decide (x.typ ≤ 5) && decide (x.off + x.len ≤ s.payLen k) && decide (x.len ≤ secRoom x) &&
    (x.typ ≠ 3 || x.len % 8 = 0) &&
    (x.typ ≠ 4 || (decide (x.target / 4096 < 4) && decide (x.target / 128 % 32 < 25) && decide (x.target % 4 < 3) && x.len % 4 = 0))

/-- The entries of a REG_LIST: offset in the section, address, value. -/
def State.regList (s : State) (k : Nat) (x : Section') : List (Nat × Nat × Nat) :=
  (List.range (x.len / 8)).map fun j =>
    let a := s.slotBase k + 0x1000 + x.off + 8 * j
    (8 * j, s.flashNat a 4, s.flashNat (a + 4) 4)

/-- The address lies in a tile's window. -/
def tileAddr (a : Nat) : Bool := decide (0x50000000 ≤ a) && decide (a < 0x54000000)

/-- The section is addressed to a tile. -/
def State.secTile (s : State) (k : Nat) (x : Section') : Bool := x.typ = 4 || (x.typ = 3 && (s.regList k x).any fun e => tileAddr e.2.1)

/-! Streaming (R337). -/

/-- What streaming has done so far: the resulting state, the buffered entries, and where it failed. -/
structure Stream where
  st  : State
  buf : List (Nat × Nat × Nat × Nat)
  err : Option (Nat × Nat)

/-- A tile's register takes a word of the image, unless it refuses it. -/
def State.loadReg (s : State) (b : Blk) (i off v : Nat) : Option State :=
  if (fieldsAt b off).isEmpty || s.regRefuses b i off v then none
  else if b = .rail then
    some (s.over (fieldsAt b off) fun s fj => s.fieldWrite fj.1 i fj.2 (fj.1.part v) false none)
  else some (s.regWrite .sc s.act b (if b.onMgr then 0 else i) off v [])

/-- One entry of a REG_LIST, as it is streamed. -/
def Stream.entry (x : Stream) (sec off a v : Nat) : Stream :=
  if x.err.isSome then x
  else if a % 4 ≠ 0 then { x with err := some (sec, off) }
  else
    match place a with
    | .block b i o =>
      if b.onMgr || b = .hpd then { x with buf := x.buf ++ [(sec, off, a, v)] }
      else
        match x.st.loadReg b i o v with
        | some s => { x with st := s }
        | none => { x with err := some (sec, off) }
    | .prog t e b j => { x with st := x.st.bankWord t e b j (BitVec.ofNat 32 v) }
    | .data t e j => { x with st := x.st.wrData t e j (BitVec.ofNat 32 v) }
    | .ram => { x with st := x.st.wr32 (mgrMem x.st.act a) (BitVec.ofNat 32 v) }
    | .fe => if feFirmware a then { x with st := x.st.feStore .sc x.st.act a 4 (BitVec.ofNat 32 v) } else { x with err := some (sec, off) }
    | .core | .readOnly | .nothing => { x with err := some (sec, off) }

/-- A buffered entry is written. -/
def Stream.late (x : Stream) (sec off a v : Nat) : Stream :=
  if x.err.isSome then x
  else
    match place a with
    | .block b i o =>
      match x.st.loadReg b i o v with
      | some s => { x with st := s }
      | none => { x with err := some (sec, off) }
    | _ => { x with err := some (sec, off) }

/-- An engine memory of the image. -/
def State.loadEngine (s : State) (target : Nat) (l : List Byte) : State :=
  let t := target / 4096
  let e := target / 128 % 32
  let i := if e < 24 then t * 24 + e else 96 + t
  let r := target % 4
  if r = 2 then s.wrEng (dmAddr t e 0) l
  else
    let s := s.bankFill t e r 0 l
    if s.get Reg.ENG_STATUS.BANK i = r then s else (s.clr Reg.ENG_STATUS.CRC_VALID i).raise Hid.CRC_BUSY (engIx t e)

/-- The permission table of a section, unless an entry is refused (R401). -/
def permTable (l : List Byte) : Option (List Perm) :=
  let n := fun (k off : Nat) => leNat ((l.drop (16 * k + off)).take 4)
  let t := (List.range (l.length / 16)).map fun k => (⟨n k 0, n k 4, n k 8⟩ : Perm)
  let bad := (List.range (l.length / 16)).any fun k =>
    decide (n k 4 < n k 0) || decide (16 ≤ n k 8) || n k 12 ≠ 0
  if l.length % 16 ≠ 0 || bad then none else some t

/-- One section is streamed. -/
def Stream.take (x : Stream) (k : Nat) (c : Section') : Stream :=
  if x.err.isSome then x
  else if !x.st.secOk k c then { x with err := some (c.no, 0) }
  else
    let l := x.st.secBytes k c
    let x := if x.st.secTile k c then { x with st := x.st.putAt Hid.SEC_SHA 0 c.no (beNat (sha256 l)) } else x
    match c.typ with
    | 1 => { x with st := x.st.over x.st.present fun s m => s.wrBytes (mgrMem m 0x10000000) l }
    | 2 => { x with st := x.st.over x.st.present fun s m => s.wrBytes (mgrMem m 0x100F0000) l }
    | 3 => (x.st.regList k c).foldl (fun x e => x.entry c.no e.1 e.2.1 e.2.2) x
    | 4 => { x with st := x.st.loadEngine c.target l }
    | _ =>
      match permTable l with
      | some p => { x with st := { x.st with perms := p } }
      | none => { x with err := some (c.no, 0) }

/-- The whole payload of a slot is streamed. -/
def State.stream (s : State) (k : Nat) : Stream :=
  let x : Stream := ⟨{ s with perms := [] }, [], if s.hdr k 0x14 2 = 0 || 256 < s.hdr k 0x14 2 then some (0, 0) else none⟩
  (s.sections k).foldl (fun x c => x.take k c) x

/-! Home tiles and slots (R20, R144). -/

/-- The phase that LEAD_PH names on tile `t` belongs to the rail. -/
def State.leadHere (s : State) (t r : Nat) : Bool :=
  let l := s.get Reg.RAIL_ENG_CFG.LEAD_PH (railIx t r)
  decide (l < 24) && s.railOf (t * 24 + l) = r

/-- The home tile that the image gives a rail: of the tiles on which KIND makes it a rail, the lowest on which its lead is a phase of the rail (DEDUCED, log entry 64). -/
def State.homeOf (s : State) (r : Nat) : Nat :=
  let l := (List.range 4).filter fun t => s.get Reg.RAIL_SUP_CFG.KIND (railIx t r) ≠ 0
  (l.find? fun t => s.leadHere t r).getD (l.headD 0)

/-- Home tiles as the image gives them. -/
def State.assignHomes (s : State) : State := s.over (List.range 48) fun s r => s.putAt Hid.HOME 0 r (s.homeOf r)

/-- The cross-tile rails of a neighbour pair, in ascending number. -/
def State.crossRails (s : State) (n : Nat) : List Nat :=
  (List.range 48).filter fun r => s.kindOf r = 1 && (s.tilesOf r).length = 2 && (s.tilesOf r).contains n && (s.tilesOf r).contains (n + 1)

/-- The slots of the neighbour pairs go to their cross-tile rails in ascending number. -/
def State.assignSlots (s : State) : State :=
  let s := s.over (List.range 48) fun s r => s.putAt Hid.SLOT_OF 0 r 15
  s.over (List.range 3) fun s n => s.over (s.crossRails n).zipIdx fun s x => s.putAt Hid.SLOT_OF 0 x.1 x.2

/-! The configuration rules. -/

/-- No value stands twice in a list. -/
def noRepeat (l : List Nat) : Bool := l.eraseDups.length = l.length

/-- The input groups of a rail's phases on a tile. -/
def State.groupsOn (s : State) (t r : Nat) : List Nat := (s.phasesOn t r).map fun p => s.get Reg.PH_CFG.VING p

/-- Word `k` of the data memory of a phase's engine, signed. -/
def State.dmWord (s : State) (p k : Nat) : Int := (s.rd32 (dmAddr (tileOf p) (localOf p) k)).toInt

/-- The standby lead is a phase of the rail on its partner tile. -/
def State.standbyOk (s : State) (t r : Nat) : Bool :=
  let l := s.get Reg.RAIL_ENG_CFG.STBY_PH (railIx t r)
  decide (l < 24) && s.railOf (t * 24 + l) = r

/-- A mirrored rail: a standby lead, a partner channel, two phases a half, no shared input group, the privilege bit, no ZL_TRK (R67, R92, R106, R277). -/
def State.mirrorRules (s : State) (r : Nat) : Bool :=
  match s.partner r with
  | none => false
  | some q =>
    let h := s.home r
    s.standbyOk q r && decide (2 ≤ (s.phasesOn h r).length) && decide (2 ≤ (s.phasesOn q r).length) &&
      !((s.groupsOn h r).any fun g => (s.groupsOn q r).contains g) && s.privileged r && s.get Reg.RAIL_LAW.LAW_ID (s.homeIx r) ≠ zlTrk

/-- A rail that is not mirrored names no standby lead and is not privileged (R92, R277). -/
def State.plainRules (s : State) (r : Nat) : Bool :=
  (s.tilesOf r).all (fun t => s.get Reg.RAIL_ENG_CFG.STBY_PH (railIx t r) = 31) && !s.privileged r

/-- A range of a parameter word. -/
def inRange (x lo hi : Int) : Bool := decide (lo ≤ x) && decide (x ≤ hi)

/-- The parameter block of an engine under a Ziluoz law (R109, R140). -/
def State.paramRules (s : State) (r p : Nat) : Bool :=
  let w := s.dmWord p
  let u := fun k => (w k % 2 ^ 32).toNat
  inRange (w 4) (-3277) 3277 && inRange (w 5) (-64) 64 && decide (w 20 ≤ w 19) &&
    decide (u 2 ≤ 16 * s.get Reg.RAIL_PWM.PER_CNT (s.homeIx r)) && inRange (w 1) (-32768) 32767 && inRange (w 17) (-32768) 32767 &&
    (u 80 % 256 = 0 || decide (u 81 = (2 * 1048576 + u 80 % 256) / (2 * (u 80 % 256))))

/-- The window reference follows the law's load line, on every tile of the rail (R120). -/
def State.droopRules (s : State) (r : Nat) : Bool :=
  let law := s.get Reg.RAIL_LAW.LAW_ID (s.homeIx r)
  (s.tilesOf r).all fun t =>
    let i := railIx t r
    let lead := if t ≠ s.home r && s.mirrored r then t * 24 + s.get Reg.RAIL_ENG_CFG.STBY_PH i
      else s.home r * 24 + s.get Reg.RAIL_ENG_CFG.LEAD_PH (s.homeIx r)
    if law = 0x11 then
      decide (s.dmWord lead 18 = s.get Reg.CINCH_DROOP.C_RLL i) && decide (s.dmWord lead 22 = s.get Reg.CINCH_DROOP.C_DMAX i)
    else law = 0 || s.get Reg.CINCH_DROOP.C_RLL i = 0

/-- A tracking rail's source is none or another regulated rail of its home tile (R114; DEDUCED, log entry 94). -/
def State.trackRules (s : State) (r : Nat) : Bool :=
  let x := s.get Reg.RAIL_TRACK.TRK_SRC (s.homeIx r)
  s.get Reg.RAIL_LAW.LAW_ID (s.homeIx r) ≠ zlTrk || decide (48 ≤ x) || (x ≠ r && s.kindOf x = 1 && s.home x = s.home r)

/-- The limits of a rail lie inside their ceilings (R190, R191). -/
def State.limitRules (s : State) (r : Nat) : Bool :=
  (s.tilesOf r).all (fun t =>
    let i := railIx t r
    decide (s.get Reg.RAIL_OV.OV_LIM i ≤ s.get Reg.RAIL_PROT_CFG.OV_CEIL i) && !s.ovForbids i (s.get Reg.RAIL_SETPT.VSET_TGT i))

/-- The rules of one regulated rail. -/
def State.regulatedRules (s : State) (r : Nat) : Bool :=
  let n := (s.phasesOf r).length
  let law := s.get Reg.RAIL_LAW.LAW_ID (s.homeIx r)
  decide (1 ≤ n) && decide (n ≤ 32) && decide ((s.tilesOf r).length ≤ 2) &&
    (s.tilesOf r).all (fun t => t = s.home r || t = s.home r + 1 || t + 1 = s.home r) &&
    s.leadHere (s.home r) r && lawKnown law && (if s.mirrored r then s.mirrorRules r else s.plainRules r) &&
    (law = 0 || (s.phasesOf r).all (fun p => s.paramRules r p)) && s.droopRules r && s.trackRules r && s.limitRules r

/-- The rules of one watched rail (R144, R166). -/
def State.watchedRules (s : State) (r : Nat) : Bool := (s.phasesOf r).isEmpty && !s.mirrored r && s.limitRules r

/-- The rules of every rail that is used. -/
def State.railRules (s : State) (r : Nat) : Bool :=
  let k := s.kindOf r
  k = 0 || (s.get Reg.RAIL_SNS.CHAN (s.homeIx r) ≠ 15 && if k = 1 then s.regulatedRules r else s.watchedRules r)

/-- The sense channels that the rails name, each with its tile. -/
def State.channelsNamed (s : State) : List Nat :=
  ((List.range 48).filter fun r => s.kindOf r ≠ 0).flatMap fun r =>
    (s.home r * 16 + s.get Reg.RAIL_SNS.CHAN (s.homeIx r)) ::
      (match (if s.mirrored r then s.partner r else none) with
       | some q => [q * 16 + s.get Reg.RAIL_SNS.PCHAN (s.homeIx r)]
       | none => [])

/-- The EN and PG pins that the watched rails name. -/
def State.pinsNamed (s : State) : List Nat :=
  ((List.range 48).filter fun r => s.kindOf r = 2).map fun r => s.home r * 4 + s.get Reg.RAIL_SUP_CFG.EN_IDX (s.homeIx r)

/-- The rules of one sequence (R170). -/
def State.seqRules (s : State) (q : Nat) : Bool :=
  let n := s.getAt Reg.SEQ_HDR.NSTG 0 q
  let l := (List.range n).flatMap fun k => s.stageRails q k
  let down := s.onAt Reg.SEQ_HDR.DIR 0 q
  decide (n ≤ 16) && noRepeat l && l.all (fun r => s.kindOf r ≠ 0) && !(down && s.onAt Reg.SEQ_HDR.AUTO 0 q) &&
    !(!down && s.onAt Reg.SEQ_HDR.KERB_SDN 0 q) &&
    ((List.range n).all (fun k => !s.onAt Reg.SEQ_STG.LANE_EN 0 (stgIx q k)) || s.get Reg.SQL_CFG.ROLE 0 = 1)

/-- How many sequences have a flag. -/
def State.seqWith (s : State) (f : Fld) : Nat := ((List.range 8).filter fun q => s.onAt f 0 q).length

/-- The main queue's ring lies in the general part, clear of the snapshot ring and the update staging area (R315, R422). -/
def State.queueRules (s : State) : Bool :=
  let a := 0x10000000 + 256 * s.get Reg.EVC_QCFG.Q_BASE 0
  let e := a + 16 * s.qSize
  decide (e ≤ 0x100F0000) && (decide (e ≤ 0x100D8000) || decide (0x100F0000 ≤ a)) && (decide (e ≤ 0x10070000) || decide (0x100C0000 ≤ a))

/-- No fold class spans more than 96 sources (R320). -/
def State.foldRules (s : State) : Bool :=
  (List.range 15).all fun k =>
    let l := (List.range 640).filter fun n => s.srcFoldReg n = k + 1
    decide (l.getLastD 0 - l.headD 0 < 96)

/-- The limits of groups, temperatures and phases lie inside their ceilings (R190). -/
def State.ceilingRules (s : State) : Bool :=
  (List.range 8).all (fun g => s.getAt Reg.IG_OC.OCL 0 g ≤ s.getAt Reg.IG_OC.IG_CEIL 0 g) &&
    (List.range 4).all (fun t => s.get Reg.TILE_THERM_CTRL.STG_TLIM t ≤ s.get Reg.TILE_THERM_CTRL.STG_TLIM_CEIL t) &&
    decide (s.get Reg.HPD_THERM_CTRL.STG_TLIM 0 ≤ s.get Reg.HPD_THERM_CTRL.STG_TLIM_CEIL 0) &&
    (List.range 96).all fun p => decide (s.get Reg.PH_PROT.ILIM p ≤ s.get Reg.PH_PROT.ILIM_CEIL p)

/-- Every configuration rule of the manual, on the settings that the image gives. -/
def State.configRules (s : State) : Bool :=
  (List.range 48).all s.railRules && (List.range 3).all (fun n => (s.crossRails n).length ≤ 8) &&
    decide (((List.range 48).filter fun r => s.kindOf r = 1 && s.mirrored r).length ≤ 8) && noRepeat s.channelsNamed && noRepeat s.pinsNamed &&
    (List.range 8).all s.seqRules && decide (s.seqWith Reg.SEQ_HDR.AUTO ≤ 1) && s.seqWith Reg.SEQ_HDR.KERB_SDN = 1 && s.queueRules &&
    s.foldRules && s.ceilingRules

/-! Commit (R337 to R339). -/

/-- K fields with a stored copy take it in place of the image's value; with none KREST_NONE sets, and from here on they are stored (DEDUCED, log entry 68). -/
def State.kRestore (s s0 : State) : State :=
  let stored := s0.on Hid.KSTORED 0
  let k := s0.cells.filter fun c => c.1.ret = Ret.K.idx
  let s := if stored then k.foldl (fun s c => { s with cells := (s.cells.drop c.1).list c.1 c.2 }) (s.resetCells fun x => x.ret = Ret.K.idx) else s
  (s.when (!stored) fun s => s.raise Reg.LOAD_STATUS.KREST_NONE 0).raise Hid.KSTORED 0

/-- A gauge cell of the ferroelectric arrays passes its CRC. -/
def State.gaugeIntact (s : State) (m k : Nat) : Bool :=
  let a := gaugeCell m k
  s.feOk a 32 && s.rdBytes (a + 28) 4 = wordBytes (crc32 (s.rdBytes a 28)) && (s.rdBytes a 28).any fun b => b ≠ 0

/-- A field of a gauge cell. -/
def State.cellField (s : State) (c : Nat × Nat) (off n : Nat) : Nat := leNat (s.rdBytes (gaugeCell c.1 c.2 + off) n)

/-- The reduction for the time that the gauge did not count (R244). -/
def State.gaugeReduce (s : State) (rm : Int) (stored : Nat) : State :=
  let e : Int := (s.get Reg.RTC_SEC.CAL_SEC 0 : Int) - stored
  let s := s.raise Reg.GG_STATUS.REST_EST 0
  if decide (e < 0) || decide (31536000 < e) || s.on Reg.RTC_STATUS.BKUP_LOW 0 || s.on Reg.RTC_STATUS.GAUGE_BSTEP 0 then
    s.clr Reg.GG_STATUS.SOC_VALID 0
  else s.putI Hid.GG_Q 0 (3600 * (rm - s.fcc * 1000 * s.get Reg.GG_CFG.SELF_DIS 0 * e / 864000000))

/-- The intact cells with the highest sequence number give the gauge its state; of fields that differ the lower or higher wins, as R243 says. -/
def State.gaugeTake (s : State) (l : List (Nat × Nat)) : State :=
  let c := l.headD (0, 0)
  let f := fun (off n : Nat) => l.map fun x => s.cellField x off n
  let rm := (l.map fun x => signed 32 (s.cellField x 12 4)).foldl min (signed 32 (s.cellField c 12 4))
  let fcc := leastOf (f 16 4)
  let flags := (f 26 1).foldl (fun a b => a &&& b) 3
  let differ := l.any fun x => s.rdBytes (gaugeCell x.1 x.2) 28 ≠ s.rdBytes (gaugeCell c.1 c.2) 28
  let s1 := ((s.put Hid.PACK_ID 0 (s.cellField c 4 8)).setFcc fcc).put Reg.GG_CYCLE.CYCLE_COUNT 0 (mostOf (f 24 2))
  let s1 := (s1.put Reg.GG_STATUS.SOC_VALID 0 (flags % 2)).put Reg.GG_STATUS.FCC_LEARNED 0 (flags / 2 % 2)
  let s1 := s1.putI Hid.GG_Q 0 (3600 * rm)
  let s1 := s1.when (flags % 2 = 1) fun s => s.gaugeReduce rm (s.cellField c 20 4)
  let s1 := s1.when differ fun s =>
    (s.raise Reg.GG_STATUS.GREC_DISAGREE 0).jAction JStatus.ok noTarget (Reg.GG_STATUS.GREC_DISAGREE.off % 0x10000) 0
  s1.socShow

/-- GAUGE_RESTORE (R243): after a power-on reset of HPD. -/
def State.gaugeRestore (s : State) : State :=
  if s.on Hid.GG_READY 0 then s
  else
    let l := ((List.range 2).filter fun m => s.on Hid.PRESENT m).flatMap fun m => ((List.range 3).filter fun k => s.gaugeIntact m k).map fun k => (m, k)
    let top := mostOf (l.map fun c => s.cellField c 0 4)
    let s1 := if l.isEmpty then
        (((s.clr Reg.GG_STATUS.SOC_VALID 0).setFcc (s.get Reg.GG_CFG.DESIGN_CAP 0 * 100)).clr Reg.GG_STATUS.FCC_LEARNED 0).socShow
      else s.gaugeTake (l.filter fun c => s.cellField c 0 4 = top)
    s1.raise Hid.GG_READY 0

/-- A rail's block on a tile that neither homes it nor carries a phase of it holds nothing (R37). -/
def State.dropEmptyRails (s : State) : State :=
  s.resetCells fun k => k.blk = Blk.rail.idx && k.ret ≠ Ret.P.idx && !(s.tilesOf (k.2.1 % 48)).contains (k.2.1 / 48)

/-- The laws that the image selects from the library are copied (R107). -/
def State.copyLaws (s : State) : State :=
  s.over ((List.range 48).filter fun r => s.kindOf r = 1 && s.get Reg.RAIL_LAW.LAW_ID (s.homeIx r) ≠ 0) fun s r => s.putAt Hid.LAW_BUSY 0 r 1

/-- The bytes of the firmware section of a type in a slot; none where the image carries none. -/
def State.fwBytes (s : State) (k typ : Nat) : List Byte :=
  (((s.sections k).filter fun c => c.typ = typ).getLast?).elim [] fun c => s.secBytes k c

/-- What tells one firmware from another: the SHA-256 of MGR_FW and SC_FW. -/
def fwHash (mfw sfw : List Byte) : Nat := beNat (sha256 (mfw ++ sfw))

/-- The image is committed. `s0` is the state before the load. -/
def State.commit (s s0 : State) (k : Nat) : State :=
  let s := ((s.dropEmptyRails).copyLaws).kRestore s0
  let s := s.over (List.range 4) fun s t => s.clr Hid.BLK_BAD t
  let s := ((s.raise Hid.COMMITTED 0).putB Hid.ARM_AUTO 0 ((s.hdr k 0x07 1).testBit 0)).put Hid.ARM_TMO 0 (s.hdr k 0x16 2)
  let s := (s.putB Hid.BOOT_SIGNED 0 (!vendorTest (s.head k))).put Hid.IMG_CRC 0 (s.hdr k 0xFC 4)
  let s := (s.put Reg.LOAD_INFO.IMAGE_VER 0 (s.hdr k 0x0C 3)).put Reg.LOAD_INFO.ROLLBACK 0 (s.hdr k 0x0F 1)
  let s := (s.put Reg.LOAD_STATUS.SLOT 0 (k + 1)).clr Reg.LOAD_STATUS.LOADING 0
  let s := s.when (s.get Hid.FIRST_SLOT 0 ≠ k + 1) fun s => s.raise Reg.LOAD_STATUS.FALLBACK 0
  let s := s.over s.present fun s m => s.put Hid.FW_HASH m (fwHash (s.fwBytes k 1) (s.fwBytes k 2))
  (s.gaugeRestore).armEnter

/-- FAIL of a slot. -/
def failFld (k : Nat) : Fld := if k = 0 then Reg.LOAD_STATUS.FAIL_A else Reg.LOAD_STATUS.FAIL_B

/-- A slot is refused: its code shows, and where no entry failed LOAD_ERR has no stated value. The other slot is next; after both LOAD_FAIL sets. -/
def State.slotRefused (s : State) (k code : Nat) (where' : Option (Nat × Nat)) : State :=
  let s := s.put (failFld k) 0 code
  let s :=
    if code ≠ Fail.rule then s
    else
      match where' with
      | some (n, off) => (s.put Reg.LOAD_ERR.SECTION 0 n).put Reg.LOAD_ERR.OFFSET 0 off
      | none =>
        let (a, s) := s.draw
        let (b, s) := s.draw
        (s.put Reg.LOAD_ERR.SECTION 0 a).put Reg.LOAD_ERR.OFFSET 0 b
  if s.get Reg.LOAD_STATUS.FAIL_A 0 ≠ 0 && s.get Reg.LOAD_STATUS.FAIL_B 0 ≠ 0 then
    (s.raise Reg.LOAD_STATUS.LOAD_FAIL 0).clr Reg.LOAD_STATUS.LOADING 0
  else s

/-- The settings that a streamed slot gives, its buffered entries written; or where it fails. -/
def Stream.settle (x : Stream) : Stream :=
  let x := x.buf.foldl (fun x e => x.late e.1 e.2.1 e.2.2.1 e.2.2.2) x
  { x with st := (x.st.assignHomes).assignSlots }

/-- The slot that the load tries next, if one is left: the one named first, then the other. -/
def State.nextSlot (s : State) : Option Nat :=
  let a := s.get Hid.FIRST_SLOT 0 - 1
  [a, 1 - a].find? fun k => s.get (failFld k) 0 = 0

/-- LOAD_COMMIT (R337): a slot is checked, streamed and committed, or refused. -/
def State.loadCommit (s : State) : State :=
  if s.dev ≠ Dev.load || !s.on Reg.LOAD_STATUS.LOADING 0 then s
  else
    match s.nextSlot with
    | none => s
    | some k =>
      if s.slotCheck k ≠ Fail.none then s.slotRefused k (s.slotCheck k) none
      else
        let x := s.stream k
        if x.err.isSome then s.slotRefused k Fail.rule x.err
        else if !s.digestOk k then s.slotRefused k Fail.digest none
        else
          let y := x.settle
          if y.err.isSome then s.slotRefused k Fail.rule y.err
          else if !y.st.configRules then s.slotRefused k Fail.rule none
          else y.st.commit s k

/-- LOAD_COMMIT (R337). -/
def execLoadCommit (s : State) : Host.Outcome State Fault Refusal := .next s.loadCommit

end Sys2Proof.Machine
end

