-- ==== Sys2Proof/Machine/UpdMap.lean ====
section
/-!
DEFINITION. The resumption map and the boot selector in the ferroelectric arrays (R413 to R416, R428, R432).
-/
namespace Sys2Proof.Machine

/-! States of a chunk. -/
namespace Chunk
abbrev dirty : Nat := 0
abbrev opened : Nat := 1
abbrev erased : Nat := 2
abbrev written : Nat := 3
end Chunk

/-- The entry of chunk `c` in a byte of the table. -/
def entryIn (b c : Nat) : Nat := b / 4 ^ (c % 4) % 4

/-- A byte of the table with the entry of chunk `c` set. -/
def entrySet (b c v : Nat) : Nat := b - entryIn b c * 4 ^ (c % 4) + v * 4 ^ (c % 4)

/-- The entry of chunk `c`. -/
def State.chunk (s : State) (c : Nat) : Nat := entryIn (s.mapByte s.act (0x200 + c / 4)) c

/-- Writes the entry of chunk `c`; the count of WRITTEN chunks follows. -/
def State.chunkPut (s : State) (c v : Nat) : State :=
  let was := s.chunk c
  let n := s.get Reg.UPD_PROGRESS.WRITTEN 0
  let b := entrySet (s.mapByte s.act (0x200 + c / 4)) c v
  let s := s.mapWrite (0x200 + c / 4) (leBytes 1 b)
  if was ≠ Chunk.written && v = Chunk.written then (s.put Reg.UPD_PROGRESS.WRITTEN 0 (n + 1)).mapSave
  else if was = Chunk.written && v ≠ Chunk.written then (s.put Reg.UPD_PROGRESS.WRITTEN 0 (n - 1)).mapSave
  else s

/-- The offsets of the table's bytes that are not zero in manager `m`'s array. -/
def State.tableBytes (s : State) (m : Nat) : List Nat :=
  (s.mem.filter fun c => mapMem m 0x200 ≤ c.1 && c.1 < mapMem m (0x200 + tableSize)).map fun c => c.1 - mapMem m 0

/-- A byte of the table in which every entry that is not DIRTY is OPEN. -/
def openByte (b : Nat) : Nat := (List.range 4).foldl (fun a k => a + (if entryIn b k = 0 then 0 else 4 ^ k)) 0

/-- Every chunk entry that is not DIRTY becomes OPEN (R418). -/
def State.chunksOpen (s : State) : State :=
  (s.over (s.tableBytes s.act) fun s o => s.mapWrite o (leBytes 1 (openByte (s.mapByte s.act o)))).put Reg.UPD_PROGRESS.WRITTEN 0 0

/-! Restoring the map (R416). -/

/-- Manager `m`'s header area passes its CRC. -/
def State.mapIntact (s : State) (m : Nat) : Bool :=
  s.feOk (mapMem m 0) 32 && s.rdBytes (mapMem m 0x1C) 4 = wordBytes (crc32 (s.rdBytes (mapMem m 0) 0x1C))

/-- The sequence number of manager `m`'s map. -/
def State.mapSeq (s : State) (m : Nat) : Nat := leNat (s.rdBytes (mapMem m 0) 4)

/-- The manager whose header area governs. -/
def State.mapBest (s : State) : Option Nat :=
  let l := s.present.filter fun m => s.mapIntact m
  l.find? fun m => l.all fun k => s.mapSeq k ≤ s.mapSeq m

/-- The lower of two bytes of the table, entry by entry. -/
def lowerByte (a b : Nat) : Nat := (List.range 4).foldl (fun x k => x + min (entryIn a k) (entryIn b k) * 4 ^ k) 0

/-- Entries that differ between the two arrays take the lower value. -/
def State.tableMerge (s : State) : State :=
  if s.present.length < 2 then s
  else
    let l := ((s.tableBytes 0 ++ s.tableBytes 1).eraseDups).filter fun o => s.mapByte 0 o ≠ s.mapByte 1 o
    if l.isEmpty then s
    else
      let s := s.over l fun s o => s.mapWrite o (leBytes 1 (lowerByte (s.mapByte 0 o) (s.mapByte 1 o)))
      (s.raise Reg.UPD_STATUS.MAP_DISAGREE 0).updAction JStatus.ok

/-- The update engine takes the fields of manager `m`'s map. -/
def State.mapTake (s : State) (m : Nat) : State :=
  let f := fun (off n : Nat) => leNat (s.rdBytes (mapMem m off) n)
  let s := ((s.put Reg.UPD_STATUS.STATE 0 (f 4 1)).put Reg.UPD_STATUS.TARGET 0 (f 5 1)).put Hid.UPD_PRIOR 0 (f 6 1)
  let s := ((s.put Hid.UPD_STEP 0 (f 7 1)).put Reg.UPD_PROGRESS.TOTAL 0 (f 8 4)).put Reg.UPD_PROGRESS.WRITTEN 0 (f 0xC 4)
  (s.put Hid.UPD_DEADLINE 0 (f 0x10 8)).put Hid.UPD_RAIL 0 (f 0x18 4)

/-- No map passes: IDLE, with every chunk DIRTY. -/
def State.mapVoid (s : State) : State :=
  let s := s.over s.present fun s m => s.zeroMem (mapMem m 0x200) (mapMem m (0x200 + tableSize))
  let s := ((s.clr Reg.UPD_STATUS.STATE 0).clr Reg.UPD_STATUS.TARGET 0).clr Hid.UPD_PRIOR 0
  let s := ((s.clr Hid.UPD_STEP 0).clr Reg.UPD_PROGRESS.TOTAL 0).clr Reg.UPD_PROGRESS.WRITTEN 0
  (s.clr Hid.UPD_DEADLINE 0).clr Hid.UPD_RAIL 0

/-- The map is restored: the better header area goes to both arrays, and of differing entries the lower. -/
def State.mapRestore (s : State) : State :=
  match s.mapBest with
  | none => s.mapVoid
  | some m =>
    let h := s.rdBytes (mapMem m 0) 0x200
    ((s.mapWrite 0 h).tableMerge).mapTake m

/-! The boot selector (R428). -/

/-- The model's address of copy `k` of the boot selector of manager `m`. -/
def selMem (m k : Nat) : Nat := mgrMem m (0x20028100 + 0x20 * k)

/-- A copy is valid. -/
def State.selOk (s : State) (m k : Nat) : Bool :=
  let a := selMem m k
  s.feOk a 32 && s.rdBytes (a + 0x1C) 4 = wordBytes (crc32 (s.rdBytes a 0x1C)) && (s.rd8 (a + 4) = 1#8 || s.rd8 (a + 4) = 2#8)

/-- The sequence number of a copy. -/
def State.selSeq (s : State) (m k : Nat) : Nat := leNat (s.rdBytes (selMem m k) 4)

/-- The selector: the valid copy with the highest sequence number, of the present managers. -/
def State.selector (s : State) : Option (Nat × Nat) :=
  let l := (s.present.flatMap fun m => [(m, 0), (m, 1)]).filter fun c => s.selOk c.1 c.2
  l.find? fun c => l.all fun d => s.selSeq d.1 d.2 ≤ s.selSeq c.1 c.2

/-- A byte of the selector, 0 where there is none. -/
def State.selByte (s : State) (off : Nat) : Nat := s.selector.elim 0 fun c => (s.rd8 (selMem c.1 c.2 + off)).toNat

/-- SLOT of the selector, 0 where there is none. -/
def State.selSlot (s : State) : Nat := s.selByte 4

/-- The selector is written into the copy that is not it. -/
def State.selWrite (s : State) (slot trial prior : Nat) : State :=
  let (seq, k) := s.selector.elim (1, 0) fun c => (s.selSeq c.1 c.2 + 1, 1 - c.2)
  let ver := s.hdr (slot - 1) 0x0C 3
  let b := leBytes 4 seq ++ leBytes 1 slot ++ leBytes 1 trial ++ leBytes 1 prior ++ leBytes 1 0 ++ leBytes 4 ver ++ List.replicate 16 0#8
  s.over s.present fun s m => s.wrFe (selMem m k) (b ++ wordBytes (crc32 b))

/-- TRIAL_SELECTOR_REVERT (R428): a selector in TRIAL with a valid PRIOR names its PRIOR slot from this start on. -/
def State.selRevert (s : State) : State :=
  let prior := s.selByte 6
  if s.selByte 5 = 1 && (prior = 1 || prior = 2) then
    ((s.selWrite prior 0 0).raise Reg.UPD_STATUS.REVERTED 0).updAction 0x4E
  else s

/-- The slot that a start tries first: the selector's, or slot A (R334). -/
def State.slotChoice (s : State) : State := s.put Hid.FIRST_SLOT 0 (if s.selSlot = 0 then 1 else s.selSlot)

/-! What a start makes of an update that a reset cut off (R432). -/

/-- A digest check begins again, an activation that changed nothing stands as PREPARED, and one that had begun, a trial or a revert is over: the selector
names the image that boots. -/
def State.updAfterReset (s : State) : State :=
  let st := s.upd
  let s := s.clr Reg.UPD_STATUS.REVERT_PEND 0
  if st = Upd.verifying then s.updTo Upd.receiving
  else if st = Upd.activating && decide (s.get Hid.UPD_STEP 0 < 2) then s.updTo Upd.prepared
  else if decide (Upd.activating ≤ st) then (s.put Hid.UPD_STEP 0 0).updTo Upd.idle
  else s

/-! Chunk buffers (R417): each port's own, and the engine's copy of the buffer that COMMIT took. -/

/-- The model's address of byte `k` of a buffer: 0 the host bus's, 1 the service port's, 2 the engine's copy. Bytes are kept inverted. -/
def bufMem (p k : Nat) : Nat := 17 * 0x100000000 + p * 0x1000 + k

/-- A buffer reads as 0xFF. -/
def State.bufClear (s : State) (p : Nat) : State := s.zeroMem (bufMem p 0) (bufMem p 0x1000)

/-- Bytes are written into a buffer. -/
def State.bufWrite (s : State) (p off : Nat) (l : List Byte) : State := s.wrBytes (bufMem p off) (l.map fun b => b ^^^ 0xFF#8)

/-- The bytes of a buffer. -/
def State.bufBytes (s : State) (p n : Nat) : List Byte := (s.rdBytes (bufMem p 0) n).map fun b => b ^^^ 0xFF#8

end Sys2Proof.Machine
end

