-- ==== Sys2Proof/Machine/Ports.lean ====
section
/-!
DEFINITION. What the host bus and the service port share (R386 to R412): the states in which they serve, the permission table, window transfers, PEC,
PMBus number formats, journal entries as bytes, and how a command of a port ends.
-/
namespace Sys2Proof.Machine

/-! States in which the ports serve (R394). -/

/-- A manager runs management and the device is in a state in which the ports serve. -/
def State.portsServe (s : State) : Bool :=
  s.active.isSome && s.on Hid.BOOT 0 && [Dev.load, Dev.arm, Dev.run, Dev.kerb].contains s.dev

/-- The target acknowledges its own address: it serves and has sampled its pins (R386). -/
def State.hostOpen (s : State) : Bool := s.portsServe && s.get Reg.HB_STATUS.ADDR 0 ≠ 0

/-- The life-cycle stage. -/
def State.stageNow (s : State) : Nat := s.get Reg.FUSE_STATUS.STAGE 0

/-- The address byte of a message to the target. -/
def State.addrByte (s : State) (rd : Bool) : Byte := BitVec.ofNat 8 (2 * s.get Reg.HB_STATUS.ADDR 0 + rd.toNat)

/-! Journal entries as bytes (R408). -/

/-- Bytes 0x00 to 0x1B of an entry. -/
def JEntry.body (e : JEntry) : List Byte :=
  leBytes 4 e.seq ++ leBytes 4 (e.beat % 2 ^ 32) ++
    leBytes 4 (e.origin * 2 ^ 28 + e.kind * 2 ^ 24 + e.epoch * 2 ^ 8 + e.beat / 2 ^ 32) ++ leBytes 4 e.calSec ++
    leBytes 4 (e.tag * 2 ^ 16 + e.status) ++ leBytes 4 (e.target * 2 ^ 16 + e.code) ++ leBytes 4 e.arg

/-- The 32 bytes of an entry. -/
def JEntry.bytes (e : JEntry) : List Byte := e.body ++ wordBytes (crc32 e.body)

/-- The retained entry with a SEQ. -/
def State.entryAt (s : State) (seq : Nat) : Option JEntry := s.jrnA.find? fun e => e.seq = seq

/-! The end of a port's command. -/

/-- A write-type command of the host bus executed at once. -/
def State.hbDone (s : State) (code target arg : Nat) : State :=
  (s.journal (originOf .host) JKind.done (s.tagOf .host) JStatus.ok target code arg).bump Reg.HB_COUNTS.CMD_COUNT 0

/-- A bit of STATUS_CML sets (R398). -/
def State.cmlSet (s : State) (b : Nat) : State := s.putBit Reg.HB_STATUS.CML 0 b true

/-- The latched bits that go with the status of a refused message (R392, R396, R398, R402). -/
def State.hbFlags (s : State) (status : Nat) : State :=
  if status = JStatus.oversize then ((s.raise Reg.HB_STATUS.OVERSIZE 0).cmlSet 1).clr Hid.HB_ACK 0
  else if status = JStatus.badPec then ((s.raise Reg.HB_STATUS.PEC_ERR 0).cmlSet 5).clr Hid.HB_ACK 0
  else if status = JStatus.malformed then (s.raise Reg.HB_STATUS.MALFORMED 0).cmlSet 1
  else if status = JStatus.denied then s.raise Reg.HB_STATUS.DENIED 0
  else if status = JStatus.refused then s.cmlSet 6
  else s

/-- A write-type command of the host bus is refused: its entry, the bits of its status, ERR_COUNT. -/
def State.hbRefuse (s : State) (status code target arg : Nat) : State :=
  ((s.journal (originOf .host) JKind.refused (s.tagOf .host) status target code arg).hbFlags status).bump Reg.HB_COUNTS.ERR_COUNT 0

/-- The first data word of a message. -/
def firstWord (l : List Byte) : Nat := leNat (l.take 4)

/-- The entries and commands that a register command made carry the code of the port's command instead of the register's (R408; DEDUCED, log entry 33). `s0` is the
state before it. -/
def State.recode (s s0 : State) (old new arg : Nat) : State :=
  let first := s0.get Reg.JRNL_NEXT.NEXT_SEQ 0
  let fresh := fun (q : Nat) => decide ((q + 2 ^ 32 - first) % 2 ^ 32 < (s.get Reg.JRNL_NEXT.NEXT_SEQ 0 + 2 ^ 32 - first) % 2 ^ 32)
  let g := fun (e : JEntry) =>
    if fresh e.seq && e.code = old then
      { e with code := new, arg := if e.kind = JKind.complete || e.status = JStatus.refused then e.arg else arg }
    else e
  { s with jrnA := s.jrnA.map g, jrnB := s.jrnB.map g
           cmds := s.cmds.map fun c => if fresh c.seq && c.code = old then { c with code := new } else c }

/-- Entries were made since `s0`. -/
def State.journalled (s s0 : State) : Bool := s.get Reg.JRNL_NEXT.NEXT_SEQ 0 ≠ s0.get Reg.JRNL_NEXT.NEXT_SEQ 0

/-- A refused command stands among the entries made since `s0`. -/
def State.refusedSince (s s0 : State) : Bool :=
  let n := (s.get Reg.JRNL_NEXT.NEXT_SEQ 0 + 2 ^ 32 - s0.get Reg.JRNL_NEXT.NEXT_SEQ 0) % 2 ^ 32
  (s.jrnA.take n).any fun e => e.kind = JKind.refused

/-! The window (R38, R400, R401). -/

/-- A region that no port reaches. -/
def portClosed (a : Nat) : Bool := inSecure a || (decide (0xE0000000 ≤ a) && decide (a < 0xE0100000))

/-- MET's read-out window. -/
def metWindow (a : Nat) : Bool := decide (0x5C000000 ≤ a) && decide (a < 0x5C010000)

/-- The permission table's answer for a word: the flag of the first entry that holds it. -/
def State.permitted (s : State) (svc rd : Bool) (a : Nat) : Bool :=
  match s.perms.find? fun p => p.first ≤ a && a + 3 ≤ p.last with
  | some p => p.flags.testBit ((if svc then 2 else 0) + (if rd then 0 else 1))
  | none => false

/-- The configuration loader and fuse controller blocks, the only ones that a window read reaches in LOAD (R394). -/
def loadReadable (a : Nat) : Bool := decide (0x40030000 ≤ a) && decide (a < 0x40050000)

/-- A word is allowed for an access of a port. -/
def State.winAllowed (s : State) (svc rd : Bool) (a : Nat) : Bool :=
  !portClosed a && (rd || !metWindow a) &&
    (if s.dev = Dev.load then rd && loadReadable a
     else if svc && decide (s.stageNow ≤ Stage.build) then true
     else s.permitted svc rd a)

/-- The initiator of a port. -/
def portWho (svc : Bool) : Who := if svc then .svc else .host

/-- The addresses of a window transfer. -/
def winWords (a n : Nat) : List Nat := (List.range n).map fun k => (a + 4 * k) % 2 ^ 32

/-- The last access of a port had a bus error. -/
def State.portErr (s : State) (svc : Bool) : Bool := s.onAt Hid.BUS_ERR s.act (whoIx (portWho svc))

/-- Words are written in ascending address order until one has a bus error or the device stops serving; the address where it stopped. -/
def State.winWrite (s : State) (svc : Bool) : List Nat → List Byte → State × Option Nat
  | [], _ => (s, none)
  | a :: t, l =>
    let s := s.busWrite (portWho svc) s.act false a 4 (BitVec.ofNat 32 (firstWord l)) []
    if !s.portsServe then (s, none)
    else if s.portErr svc then (s, some a)
    else s.winWrite svc t (l.drop 4)

/-- Words are read in ascending address order; after a bus error the rest of the data reads 0. -/
def State.winRead (s : State) (svc : Bool) : List Nat → State × List Byte × Option Nat
  | [] => (s, [], none)
  | a :: t =>
    let s := s.busRead (portWho svc) s.act false a 4
    if s.portErr svc then (s, List.replicate (4 * (t.length + 1)) 0#8, some a)
    else
      let v := s.getAt Hid.READ_DATA s.act (whoIx (portWho svc))
      let (s, l, e) := s.winRead svc t
      (s, leBytes 4 v ++ l, e)

/-- HB_WIN_FAIL records a bus error of a window transfer. -/
def State.winFail (s : State) (e : Option Nat) : State := e.elim s fun a => s.put Reg.HB_WIN_FAIL.FAIL_ADDR 0 a

/-- The journal status of a window transfer. -/
def winStatus (e : Option Nat) : Nat := if e.isSome then JStatus.busError else JStatus.ok

/-- A window write whose words are all allowed: its entry stands before the entries of the commands in its words (R407, R409). -/
def State.winPut (s : State) (svc : Bool) (ws : List Nat) (l : List Byte) (target code arg : Nat) : State × Nat :=
  let enter := fun (st : Nat) => s.journal (originOf (portWho svc)) JKind.done (s.tagOf (portWho svc)) st target code arg
  let e := ((enter JStatus.ok).winWrite svc ws l).2
  let t := ((enter (winStatus e)).winWrite svc ws l).1
  (t.winFail e, winStatus e)

/-! PMBus formats (R395). -/

/-- A reading between two codes takes one of them. -/
def readCode (num : Int) (den : Nat) : Int :=
  if num % (den : Int) = 0 then num / (den : Int) else num / (den : Int) + (Config.readsUp num den).toNat

/-- A mantissa of LINEAR11. -/
def mantissaFits (m : Int) : Bool := decide (-1024 ≤ m) && decide (m ≤ 1023)

/-- The mantissa of a value at exponent `k - 16`. -/
def mantissa (num : Int) (den k : Nat) : Int :=
  if k < 16 then readCode (num * 2 ^ (16 - k)) den else readCode num (den * 2 ^ (k - 16))

/-- LINEAR11 with the smallest exponent that holds the mantissa. -/
def linear11 (num : Int) (den : Nat) : Nat :=
  match (List.range 32).find? fun k => mantissaFits (mantissa num den k) with
  | some k => twos 5 ((k : Int) - 16) * 2 ^ 11 + twos 11 (mantissa num den k)
  | none => twos 5 15 * 2 ^ 11 + (if 0 ≤ num then 1023 else 1024)

/-- The value of a LINEAR11 word as a numerator over 2^16. -/
def linear11Value (w : Nat) : Int := signed 11 w * 2 ^ (signed 5 (w / 2 ^ 11) + 16).toNat

/-- The nearest integer of a quotient; halfway either neighbour. -/
def nearest (num : Int) (den : Nat) : Int :=
  let q := num / (den : Int)
  let r := 2 * (num % (den : Int))
  if r < (den : Int) then q else if (den : Int) < r then q + 1 else q + (Config.tieUp (2 * num) den).toNat

end Sys2Proof.Machine
end

