-- ==== Sys2Proof/Machine/HostBus.lean ====
section
/-!
DEFINITION. The PMBus and manufacturer commands of the host bus, and the events of its target (R386 to R402).
-/
namespace Sys2Proof.Machine

/-! A message (R391, R392, R394, R398, R402). -/

/-- The selected page. -/
def State.page (s : State) : Nat := s.get Reg.HB_PORT.PAGE 0

/-- The device page. -/
abbrev devPage : Nat := 0x30

/-- The page that stands for every rail. -/
abbrev allPage : Nat := 0xFF

/-- The page is a rail's. -/
def State.onRail (s : State) : Bool := decide (s.page < 48)

/-- The page is the device's. -/
def State.onDevice (s : State) : Bool := s.page = devPage

/-- CODE of a journal entry: PAGE, or 0xFF for an unpaged command, above the command byte (R408). -/
def State.hbCode (s : State) (paged : Bool) (cmd : Nat) : Nat := (if paged then s.page else 0xFF) * 256 + cmd

/-- A command byte that the target does not support on the page (R398). -/
def State.unsupported (s : State) : State :=
  ((((s.raise Reg.HB_STATUS.BAD_CMD 0).cmlSet 7).clr Hid.HB_ACK 0).bump Reg.HB_COUNTS.ERR_COUNT 0)

/-- A message reaches the target. In PARK the address wakes the device; where the ports do not serve the target acknowledges nothing; in LOAD a
command outside R394's list is refused at its command byte, and a write journalled (DESIGN CHOICE, log entry 76). -/
def State.hostMsg (s : State) (cmd : Nat) (write paged inLoad supported : Bool) (g : State → State) : State :=
  let s := { s with hbReply := [] }
  if s.dev = Dev.park then (s.clr Hid.HB_ACK 0).wakeSource Wk.bus
  else if !s.hostOpen then s.clr Hid.HB_ACK 0
  else if s.dev = Dev.load && !inLoad then
    let s := s.clr Hid.HB_ACK 0
    if write then s.hbRefuse JStatus.badState (s.hbCode paged cmd) (if paged then s.page else noTarget) 0 else s.bump Reg.HB_COUNTS.ERR_COUNT 0
  else if !supported then s.unsupported
  else g (s.raise Hid.HB_ACK 0)

/-- The target answers a read: the data and its PEC (R392). -/
def State.hbSend (s : State) (cmd : Nat) (l : List Byte) : State :=
  { s with hbReply := l ++ [crc8 (s.addrByte false :: BitVec.ofNat 8 cmd :: s.addrByte true :: l)] }

/-- A block read: its byte count first. -/
def State.hbBlock (s : State) (cmd : Nat) (l : List Byte) : State := s.hbSend cmd (leBytes 1 l.length ++ l)

/-- A byte read. -/
def State.hbByte (s : State) (cmd v : Nat) : State := s.hbSend cmd (leBytes 1 v)

/-- A word read. -/
def State.hbWord (s : State) (cmd v : Nat) : State := s.hbSend cmd (leBytes 2 v)

/-- A word read whose value no rule states. -/
def State.hbFree (s : State) (cmd : Nat) : State := s.draw.2.hbWord cmd (s.draw.1 % 65536)

/-- Bytes of the staging buffer (R402). -/
def State.hbStaging (s : State) : Nat := if s.on Reg.HB_CFG.STG_SIZE 0 then 256 else 128

/-- The length of a write's data with its byte count; `none` is a block. -/
def writeLen (len : Option Nat) (bytes : List Byte) : Nat := len.getD (1 + (bytes.headD 0#8).toNat)

/-- A block's data exceed the staging buffer. -/
def State.hbOver (s : State) (len : Option Nat) (bytes : List Byte) : Bool :=
  len.isNone && decide (s.hbStaging < (bytes.headD 0#8).toNat) && decide (s.hbStaging < bytes.length - 1)

/-- The status of a write message as its bytes arrive: the staging buffer, the PEC, the length. A process call carries no PEC in its write part. -/
def State.hbParse (s : State) (cmd : Nat) (len : Option Nat) (process : Bool) (bytes : List Byte) : Nat :=
  let n := writeLen len bytes
  if s.hbOver len bytes then JStatus.oversize
  else if bytes.length < n || (len.isNone && bytes.isEmpty) then JStatus.malformed
  else if bytes.length = n then (if s.on Reg.HB_CFG.PEC_REQ 0 && !process then JStatus.malformed else JStatus.ok)
  else if crc8 (s.addrByte false :: BitVec.ofNat 8 cmd :: bytes.take n) ≠ bytes.getD n 0#8 then JStatus.badPec
  else if bytes.length = n + 1 then JStatus.ok
  else JStatus.malformed

/-- The data of a write message. -/
def writeData (len : Option Nat) (bytes : List Byte) : List Byte :=
  match len with
  | some n => bytes.take n
  | none => (bytes.drop 1).take (bytes.headD 0#8).toNat

/-- What a write command is: its byte, whether PAGE selects what it acts on, its length (`none` for a block), and the rule of its own on the data. -/
structure WriteCmd where
  cmd   : Nat
  paged : Bool
  len   : Option Nat
  rule  : List Byte → Bool

/-- TARGET of its journal entry: the page, the block's byte count, or none (R408). -/
def WriteCmd.target (c : WriteCmd) (s : State) (bytes : List Byte) : Nat :=
  if c.paged then s.page else if c.len.isNone then (bytes.headD 0#8).toNat else noTarget

/-- ARG of its journal entry: the window address for window data, else the first data word (R408). -/
def WriteCmd.arg (c : WriteCmd) (s : State) (data : List Byte) : Nat := if c.cmd = 0xD1 then s.get Reg.HB_WIN.WIN_ADDR 0 else firstWord data

/-- WRITE_PROTECT lets the command through (R396). -/
def State.wpAllows (s : State) (cmd : Nat) : Bool :=
  let wp := s.get Reg.HB_CFG.WP 0
  decide (0xD0 ≤ cmd) || cmd = 0x10 || wp = 0 || (cmd = 0x01 && wp ≠ 0x80) || (cmd = 0x21 && wp = 0x20)

/-- MFR_WIN_STATUS shows the status of a window command (R399). -/
def State.winStatusSet (s : State) (cmd st : Nat) : State := s.when (cmd = 0xD1) fun s => s.put Hid.WIN_STATUS 0 st

/-- A write message: refused by its bytes, by the command's own length, or by WRITE_PROTECT, or carried out with its data. -/
def State.hostWrite (s : State) (c : WriteCmd) (bytes : List Byte) (g : State → List Byte → State) : State :=
  let data := writeData c.len bytes
  let st := s.hbParse c.cmd c.len false bytes
  let st := if st = JStatus.ok && !c.rule data then JStatus.malformed else st
  let refuse := fun (s : State) (st : Nat) => (s.hbRefuse st (s.hbCode c.paged c.cmd) (c.target s bytes) (c.arg s data)).winStatusSet c.cmd st
  if st ≠ JStatus.ok then refuse s st
  else if !s.wpAllows c.cmd then (refuse s JStatus.denied).cmlSet 6
  else g s data

/-- The command has been executed at once. -/
def State.writeDone (s : State) (c : WriteCmd) (data : List Byte) : State :=
  s.hbDone (s.hbCode c.paged c.cmd) (if c.paged then s.page else if c.len.isNone then data.length else noTarget) (c.arg s data)

/-- The command carried a value that is invalid, or that the register at `addr` refuses (R395). -/
def State.writeRefused (s : State) (c : WriteCmd) (addr : Nat) : State :=
  s.hbRefuse JStatus.refused (s.hbCode c.paged c.cmd) (if c.paged then s.page else noTarget) addr

/-- A write of one byte or word, or a read of it. -/
def State.readOrWrite (s : State) (c : WriteCmd) (rd inLoad supported : Bool) (bytes : List Byte) (read : State → State)
    (g : State → List Byte → State) : State :=
  s.hostMsg c.cmd (!rd) c.paged inLoad supported fun s => if rd then read s else s.hostWrite c bytes g

/-- Any data of the right length. -/
def anyData (_ : List Byte) : Bool := true

/-! PMBus commands (R395 to R397). -/

/-- A page number that PAGE accepts. -/
def pageOk (p : Nat) : Bool := decide (p ≤ devPage) || p = allPage

/-- PAGE (R395). In LOAD only the device page is served. -/
def State.pageCmd (s : State) (rd : Bool) (bytes : List Byte) : State :=
  let c : WriteCmd := ⟨0x00, false, some 1, anyData⟩
  let p := (bytes.headD 0#8).toNat
  s.readOrWrite c rd (rd || p = devPage) true bytes (fun s => s.hbByte 0x00 s.page) fun s l =>
    if pageOk p then (s.writeDone c l).put Reg.HB_PORT.PAGE 0 p else s.writeRefused c p

/-- PAGE (R395). -/
def execPage (rd : Bool) (bytes : List Byte) (s : State) : Host.Outcome State Fault Refusal := .next (s.pageCmd rd bytes)

/-- The entries that a register command made carry the PMBus command's code, and its outcome is counted. -/
def State.viaRegister (s s0 : State) (c : WriteCmd) (f : Fld) (data : List Byte) : State :=
  let s := s.recode s0 (f.off % 0x10000) (s0.hbCode c.paged c.cmd) (firstWord data)
  if s.refusedSince s0 then (s.hbFlags JStatus.refused).bump Reg.HB_COUNTS.ERR_COUNT 0 else s.bump Reg.HB_COUNTS.CMD_COUNT 0

/-- The rails that a page names: its own, or every rail that is used. -/
def State.pageRails (s : State) : List Nat :=
  if s.page = allPage then (List.range 48).filter fun r => s.kindOf r ≠ 0 else if s.onRail then [s.page] else []

/-- The rails are turned on or off, each with an entry of its own (DEDUCED, log entry 33). -/
def State.operate (s : State) (c : WriteCmd) (on : Bool) (l : List Byte) : State :=
  if s.pageRails.isEmpty then s.writeDone c l
  else
    let t := s.over s.pageRails fun s r =>
      if on then s.railOn (originOf .host) (s.tagOf .host) r false else s.railOff (originOf .host) (s.tagOf .host) r false
    t.viaRegister s c (if on then Reg.RAIL_SUP_CMD.ON else Reg.RAIL_SUP_CMD.OFF) l

/-- OPERATION (R395). -/
def State.operationCmd (s : State) (rd : Bool) (bytes : List Byte) : State :=
  let c : WriteCmd := ⟨0x01, true, some 1, anyData⟩
  s.readOrWrite c rd false (s.onRail || (!rd && s.page = allPage)) bytes
    (fun s => s.hbByte 0x01 (if s.rs s.page = Rs.off then 0 else 0x80)) fun s l =>
      let v := firstWord l
      if v = 0x80 then s.operate c true l else if v = 0 || v = 0x40 then s.operate c false l else s.writeRefused c v

/-- OPERATION (R395). -/
def execOperation (rd : Bool) (bytes : List Byte) (s : State) : Host.Outcome State Fault Refusal := .next (s.operationCmd rd bytes)

/-- A read-only command. -/
def State.hostRead (s : State) (cmd : Nat) (inLoad supported : Bool) (g : State → State) : State := s.hostMsg cmd false false inLoad supported g

/-- ON_OFF_CONFIG (R395). -/
def execOnOffConfig (s : State) : Host.Outcome State Fault Refusal := .next (s.hostRead 0x02 false s.onRail fun s => s.hbByte 0x02 0x18)

/-- The event bits that CLEAR_FAULTS clears on a rail (R397). -/
def faultBits : List Fld :=
  [Reg.RAIL_PROT_STATUS.OV_EVT, Reg.RAIL_PROT_STATUS.UV_EVT, Reg.RAIL_PROT_STATUS.OC_EVT, Reg.RAIL_PROT_STATUS.CH_DISAGREE,
   Reg.RAIL_SUP_STATUS.PG_LOST_EVT, Reg.RAIL_SUP_STATUS.EN_FAIL_EVT, Reg.RAIL_SUP_STATUS.STUCK_EVT]

/-- CLEAR_FAULTS (R397). -/
def State.clearFaults (s : State) (bytes : List Byte) : State :=
  let c : WriteCmd := ⟨0x03, true, some 0, anyData⟩
  s.hostMsg 0x03 true true false true fun s => s.hostWrite c bytes fun s l =>
    let s := s.writeDone c l
    let rails := if s.page = allPage then List.range 48 else if s.onRail then [s.page] else []
    (s.over rails fun s r => s.over (s.tilesOf r) fun s t => s.over faultBits fun s f => s.clr f (railIx t r)).put Reg.HB_STATUS.CML 0 0

/-- CLEAR_FAULTS (R397). -/
def execClearFaults (bytes : List Byte) (s : State) : Host.Outcome State Fault Refusal := .next (s.clearFaults bytes)

/-- WRITE_PROTECT (R396): a locked HB_CFG keeps its value. -/
def State.writeProtect (s : State) (rd : Bool) (bytes : List Byte) : State :=
  let c : WriteCmd := ⟨0x10, false, some 1, anyData⟩
  s.readOrWrite c rd false true bytes (fun s => s.hbByte 0x10 (s.get Reg.HB_CFG.WP 0)) fun s l =>
    let v := firstWord l
    if !wpOk v then s.writeRefused c v
    else if s.on Reg.HB_CFG.LOCK 0 then
      ((s.writeRefused c (Reg.HB_CFG.WP.addr 0 0)).raise Reg.HB_STATUS.CFG_REJ 0).raise Hid.LV_HB 0
    else (s.writeDone c l).put Reg.HB_CFG.WP 0 v

/-- WRITE_PROTECT (R396). -/
def execWriteProtect (rd : Bool) (bytes : List Byte) (s : State) : Host.Outcome State Fault Refusal := .next (s.writeProtect rd bytes)

/-- CAPABILITY (R395). -/
def execCapability (s : State) : Host.Outcome State Fault Refusal := .next (s.hostRead 0x19 false true fun s => s.hbByte 0x19 0xD0)

/-- The set-point range of the page's rail is the divider's. -/
def State.divided (s : State) (r : Nat) : Bool := s.on Reg.RAIL_SETPT.DIVIDER (s.homeIx r)

/-- VOUT_MODE (R395). -/
def execVoutMode (s : State) : Host.Outcome State Fault Refusal :=
  .next (s.hostRead 0x20 false s.onRail fun s => s.hbByte 0x20 (if s.divided s.page then 0x15 else 0x14))

/-- One volt in ULINEAR16 of a rail. -/
def State.voltCode (s : State) (r : Nat) : Nat := if s.divided r then 2048 else 4096

/-- A voltage word: `num` volts over `den` at the scale `u`; one beyond the format has no stated value. -/
def State.hbVolts (s : State) (cmd : Nat) (num : Int) (den u : Nat) : State :=
  let n := readCode (num * u) den
  if 0 ≤ n && n < 65536 then s.hbWord cmd n.toNat else s.hbFree cmd

/-- A rail's voltage in quarter-millivolts, as a word. -/
def State.railVolts (s : State) (cmd v : Nat) : State := s.hbVolts cmd v 4000 (s.voltCode s.page)

/-- A written voltage in quarter-millivolts, to the nearest multiple of a step. -/
def State.voltsIn (s : State) (step n : Nat) : Nat := step * (nearest (4000 * (n : Int)) (s.voltCode s.page * step)).toNat

/-- VOUT_COMMAND (R118, R119, R395). -/
def State.voutCommand (s : State) (rd : Bool) (bytes : List Byte) : State :=
  let c : WriteCmd := ⟨0x21, true, some 2, anyData⟩
  s.readOrWrite c rd false s.onRail bytes (fun s => s.railVolts 0x21 (s.get Reg.RAIL_SETPT.VSET_TGT (s.homeIx s.page))) fun s l =>
    let r := s.page
    let v := s.voltsIn (if s.divided r then 8 else 2) (firstWord l)
    let f := Reg.RAIL_SETPT.VSET_TGT
    let t := s.setpointWrite .host r v false
    if t.journalled s then t.viaRegister s c f l
    else if s.setptOk (s.leadIx r) v then t.writeDone c l
    else t.writeRefused c (f.addr (s.homeIx r) 0)

/-- VOUT_COMMAND (R395). -/
def execVoutCommand (rd : Bool) (bytes : List Byte) (s : State) : Host.Outcome State Fault Refusal := .next (s.voutCommand rd bytes)

/-- The highest VSET_TGT that the ceiling allows, on the steps of R119. -/
def State.vsetMax (s : State) (r : Nat) : Nat :=
  let v := s.ovLimEff (s.homeIx r) * 25 / 26
  if s.divided r then min 64000 (v / 8 * 8) else min 14400 (v / 2 * 2)

/-- VOUT_MAX (R191, R395). -/
def execVoutMax (s : State) : Host.Outcome State Fault Refusal :=
  .next (s.hostRead 0x24 false s.onRail fun s => s.railVolts 0x24 (s.vsetMax s.page))

/-- A field of the page's rail is written on every tile of the rail, unless a register refuses it or the value does not fit. -/
def State.limitWrite (s : State) (c : WriteCmd) (f : Fld) (v : Int) (l : List Byte) : State :=
  let r := s.page
  let word := fun (s : State) (t : Nat) => s.regWord .rail s.act (railIx t r) f.off - s.get f (railIx t r) * 2 ^ f.lo + v.toNat * 2 ^ f.lo
  let out := v < 0 || (2 ^ f.wid : Int) ≤ v
  let bad := (s.tilesOf r).filter fun t => s.regRefuses .rail (railIx t r) f.off (word s t)
  if out then s.writeRefused c (f.addr (s.homeIx r) 0)
  else if !bad.isEmpty then
    (s.over bad fun s t => s.regRefused .host .rail (railIx t r) f.off (word s t)).writeRefused c (f.addr (s.homeIx r) 0)
  else (s.writeDone c l).over (s.tilesOf r) fun s t => s.regWrite .host s.act .rail (railIx t r) f.off (word s t) []

/-- VOUT_OV_FAULT_LIMIT (R190, R191, R395). -/
def State.ovLimitCmd (s : State) (rd : Bool) (bytes : List Byte) : State :=
  let c : WriteCmd := ⟨0x40, true, some 2, anyData⟩
  s.readOrWrite c rd false s.onRail bytes (fun s => s.railVolts 0x40 (s.get Reg.RAIL_OV.OV_LIM (s.homeIx s.page))) fun s l =>
    s.limitWrite c Reg.RAIL_OV.OV_LIM (s.voltsIn 1 (firstWord l)) l

/-- VOUT_OV_FAULT_LIMIT (R395). -/
def execVoutOvFaultLimit (rd : Bool) (bytes : List Byte) (s : State) : Host.Outcome State Fault Refusal := .next (s.ovLimitCmd rd bytes)

/-- IOUT_OC_FAULT_LIMIT (R395): OCL in half amperes. -/
def State.ocLimitCmd (s : State) (rd : Bool) (bytes : List Byte) : State :=
  let c : WriteCmd := ⟨0x46, true, some 2, anyData⟩
  s.readOrWrite c rd false s.onRail bytes (fun s => s.hbWord 0x46 (linear11 (s.get Reg.RAIL_OC.OCL (s.homeIx s.page)) 2)) fun s l =>
    s.limitWrite c Reg.RAIL_OC.OCL (nearest (2 * linear11Value (firstWord l)) (2 ^ 16)) l

/-- IOUT_OC_FAULT_LIMIT (R395). -/
def execIoutOcFaultLimit (rd : Bool) (bytes : List Byte) (s : State) : Host.Outcome State Fault Refusal := .next (s.ocLimitCmd rd bytes)

/-! Status commands (R397). -/

/-- A bit of a rail is set on one of its tiles. -/
def State.railBit (s : State) (f : Fld) (r : Nat) : Bool := (s.tilesOf r).any fun t => s.on f (railIx t r)

/-- STATUS_VOUT of a rail. -/
def State.statusVout (s : State) (r : Nat) : Nat :=
  (s.railBit Reg.RAIL_PROT_STATUS.OV_EVT r).toNat * 128 + (s.railBit Reg.RAIL_PROT_STATUS.UV_EVT r).toNat * 16

/-- STATUS_IOUT of a rail. -/
def State.statusIout (s : State) (r : Nat) : Nat :=
  (s.railBit Reg.RAIL_PROT_STATUS.OC_EVT r).toNat * 128 + ((s.phasesOf r).any fun p => s.on Reg.PH_PROT_STATUS.LIMITED p).toNat * 32

/-- An input group of the rail shows VIN_LOW. -/
def State.railVinLow (s : State) (r : Nat) : Bool :=
  (s.phasesOf r).any fun p => 2 ≤ s.getAt Hid.VIN_LO_N (tileOf p) (s.get Reg.PH_CFG.VING p)

/-- An input group of the rail shows VIN_LOW, VIN_HIGH or ISO_N low. -/
def State.railInput (s : State) (r : Nat) : Bool :=
  s.railVinLow r || (s.phasesOf r).any fun p =>
    decide (2 ≤ s.getAt Hid.VIN_HI_N (tileOf p) (s.get Reg.PH_CFG.VING p)) || s.isoLow (s.get Reg.PH_CFG.VING p)

/-- A stage group of the rail is derated, or its STG_TF reports a fault. -/
def State.railHot (s : State) (r : Nat) : Bool :=
  (s.phasesOf r).any fun p =>
    s.bit Reg.STG_DERATE.DERATE (tileOf p) (stageBit p) || s.bit Reg.STG_GROUP_STATUS.TF_FAULT (tileOf p) (stageBit p)

/-- Bits numbered as in STATUS_WORD. -/
def statusBits (l : List (Nat × Bool)) : Nat := l.foldl (fun a x => a + x.2.toNat * 2 ^ x.1) 0

/-- The block of the tile that reports the rail's telemetry (R159). -/
def State.tlmIx (s : State) (r : Nat) : Nat := if s.serves (s.home r) r then s.homeIx r else s.leadIx r

/-- STATUS_WORD of a rail page. -/
def State.railStatus (s : State) (r : Nat) : Nat :=
  let i := s.leadIx r
  statusBits [(15, s.statusVout r ≠ 0), (14, s.statusIout r ≠ 0), (13, s.railInput r), (11, s.rs r ≠ Rs.off && !s.on Reg.RAIL_SUP_STATUS.PG i),
    (6, s.rs r = Rs.off), (5, s.railBit Reg.RAIL_PROT_STATUS.OV_EVT r), (4, s.railBit Reg.RAIL_PROT_STATUS.OC_EVT r), (3, s.railVinLow r),
    (2, s.railHot r), (1, s.get Reg.HB_STATUS.CML 0 ≠ 0),
    (0, s.railBit Reg.RAIL_SUP_STATUS.PG_LOST_EVT r || s.railBit Reg.RAIL_SUP_STATUS.EN_FAIL_EVT r || s.railBit Reg.RAIL_SUP_STATUS.STUCK_EVT r)]

/-- Some die is at warning or above. -/
def State.dieWarm (s : State) : Bool :=
  (List.range 4).any (fun t => s.get Reg.TILE_THERM.LEVEL t ≠ 0) || (List.range 2).any (fun m => s.get Reg.MGR_THERM.LEVEL m ≠ 0) ||
    s.get Reg.HPD_THERM.LEVEL 0 ≠ 0

/-- A latched fault of the charger or of the switch pair. -/
def State.packFault (s : State) : Bool :=
  [Reg.CHG_FAULT.BTS_FLT, Reg.CHG_FAULT.CHG_OC, Reg.CHG_FAULT.BAT_OV, Reg.CHG_FAULT.TCHG_TMO, Reg.CHG_FAULT.TPRE_TMO, Reg.CHG_FAULT.TTRK_TMO,
   Reg.CHG_FAULT.BAT_SHORT, Reg.CHG_FAULT.NO_BAT, Reg.BFET_STATUS.DSG_SHORT, Reg.BFET_STATUS.DSG_OC].any fun f => s.on f 0

/-- STATUS_WORD of the device page. -/
def State.deviceStatus (s : State) : Nat :=
  let vbb := s.get Reg.VBB_STATUS.VBB 0
  statusBits [(15, decide (vbb < 11000) || decide (14400 < vbb)), (14, s.bfet = 2), (13, !s.on Reg.IIN_STATUS.VAUX_OK 0), (11, s.dev ≠ Dev.run),
    (6, s.dev ≠ Dev.run && s.dev ≠ Dev.kerb), (3, decide (s.get Reg.IN_MEAS.VAUX 0 < 16000)), (2, s.dieWarm),
    (1, s.get Reg.HB_STATUS.CML 0 ≠ 0), (0, s.packFault)]

/-- STATUS_WORD of the page. -/
def State.statusWord (s : State) : Nat := if s.onRail then s.railStatus s.page else s.deviceStatus

/-- STATUS_BYTE (R397). -/
def execStatusByte (s : State) : Host.Outcome State Fault Refusal :=
  .next (s.hostRead 0x78 s.onDevice (s.onRail || s.onDevice) fun s => s.hbByte 0x78 (s.statusWord % 256))

/-- STATUS_WORD (R397). -/
def execStatusWord (s : State) : Host.Outcome State Fault Refusal :=
  .next (s.hostRead 0x79 s.onDevice (s.onRail || s.onDevice) fun s => s.hbWord 0x79 s.statusWord)

/-- STATUS_VOUT (R397). -/
def execStatusVout (s : State) : Host.Outcome State Fault Refusal :=
  .next (s.hostRead 0x7A false s.onRail fun s => s.hbByte 0x7A (s.statusVout s.page))

/-- STATUS_IOUT (R397). -/
def execStatusIout (s : State) : Host.Outcome State Fault Refusal :=
  .next (s.hostRead 0x7B false s.onRail fun s => s.hbByte 0x7B (s.statusIout s.page))

/-- STATUS_CML (R398). -/
def execStatusCml (s : State) : Host.Outcome State Fault Refusal :=
  .next (s.hostRead 0x7E s.onDevice (s.onRail || s.onDevice) fun s => s.hbByte 0x7E (s.get Reg.HB_STATUS.CML 0))

/-! Telemetry (R395). -/

/-- A word in LINEAR11. -/
def State.hbLinear (s : State) (cmd : Nat) (num : Int) (den : Nat) : State := s.hbWord cmd (linear11 num den)

/-- The lead phase of a rail on its home tile, if it has one. -/
def State.leadPhase (s : State) (r : Nat) : Option Nat :=
  let l := s.get Reg.RAIL_ENG_CFG.LEAD_PH (s.homeIx r)
  if l < 24 then some (s.home r * 24 + l) else none

/-- READ_VIN (R395): the lead phase's input group, or VAUX. -/
def State.readVin (s : State) : State :=
  if s.onDevice then s.hbLinear 0x88 (s.get Reg.IN_MEAS.VAUX 0) 1000
  else
    match s.leadPhase s.page with
    | some p => s.hbLinear 0x88 (s.getAt Reg.HK_VING.V s.act (s.get Reg.PH_CFG.VING p)) 4000
    | none => s.hbFree 0x88

/-- READ_VIN (R395). -/
def execReadVin (s : State) : Host.Outcome State Fault Refusal := .next (s.hostRead 0x88 false (s.onRail || s.onDevice) State.readVin)

/-- READ_IIN (R395). -/
def execReadIin (s : State) : Host.Outcome State Fault Refusal :=
  .next (s.hostRead 0x89 false s.onDevice fun s => s.hbLinear 0x89 (s.getI Reg.IN_MEAS.IIN 0) 16)

/-- READ_VOUT (R395): V_AVG, or VBB at the exponent of an undivided rail (DEDUCED, log entry 34). -/
def execReadVout (s : State) : Host.Outcome State Fault Refusal :=
  .next (s.hostRead 0x8B false (s.onRail || s.onDevice) fun s =>
    if s.onRail then s.railVolts 0x8B (s.get Reg.RAIL_TLM_V.V_AVG (s.tlmIx s.page)) else s.hbVolts 0x8B (s.get Reg.VBB_STATUS.VBB 0) 1000 4096)

/-- READ_IOUT (R395): I_AVG, or IBAT. -/
def execReadIout (s : State) : Host.Outcome State Fault Refusal :=
  .next (s.hostRead 0x8C false (s.onRail || s.onDevice) fun s =>
    s.hbLinear 0x8C (if s.onRail then s.getI Reg.RAIL_TLM_V.I_AVG (s.tlmIx s.page) else s.getI Reg.BAT_MEAS.IBAT 0) 16)

/-- The temperature of a local stage group. -/
def State.stageHeat (s : State) (t k : Nat) : Int :=
  if k % 2 = 0 then s.getIAt Reg.STG_TEMP.TEMP_EVEN t (k / 2) else s.getIAt Reg.STG_TEMP.TEMP_ODD t (k / 2)

/-- The greatest of a list, if it has one. -/
def hottest (l : List Int) : Option Int := l.head?.map fun x => l.foldl max x

/-- The temperatures of the dies that have one: tiles, present managers, HPD. -/
def State.dieHeats (s : State) : List Int :=
  ((List.range 4).map fun t => s.getI Reg.TILE_THERM.TEMP t) ++ (s.present.map fun m => s.getI Reg.MGR_THERM.TEMP m) ++ [s.getI Reg.HPD_THERM.TEMP 0]

/-- READ_TEMPERATURE_1 (R395): the hottest stage group of the rail, or the hottest die. -/
def State.readTemp1 (s : State) : State :=
  match hottest (if s.onRail then (s.phasesOf s.page).map fun p => s.stageHeat (tileOf p) (stageBit p) else s.dieHeats) with
  | some x => s.hbLinear 0x8D x 16
  | none => s.hbFree 0x8D

/-- READ_TEMPERATURE_1 (R395). -/
def execReadTemperature1 (s : State) : Host.Outcome State Fault Refusal :=
  .next (s.hostRead 0x8D false (s.onRail || s.onDevice) State.readTemp1)

/-- READ_TEMPERATURE_2 (R395). -/
def execReadTemperature2 (s : State) : Host.Outcome State Fault Refusal :=
  .next (s.hostRead 0x8E false s.onDevice fun s => s.hbLinear 0x8E (s.getI Reg.CHG_STATUS.BTEMP 0) 16)

/-- READ_POUT (R395): P_AVG, mW. -/
def execReadPout (s : State) : Host.Outcome State Fault Refusal :=
  .next (s.hostRead 0x96 false s.onRail fun s => s.hbLinear 0x96 (s.getI Reg.RAIL_TLM_P.P_AVG (s.tlmIx s.page)) 1000)

/-- READ_PIN (R395): VAUX × IIN, in units of 1/16 mW. -/
def execReadPin (s : State) : Host.Outcome State Fault Refusal :=
  .next (s.hostRead 0x97 false s.onDevice fun s => s.hbLinear 0x97 ((s.get Reg.IN_MEAS.VAUX 0 : Int) * s.getI Reg.IN_MEAS.IIN 0) 16000)

/-- PMBUS_REVISION (R395). -/
def execPmbusRevision (s : State) : Host.Outcome State Fault Refusal := .next (s.hostRead 0x98 true true fun s => s.hbByte 0x98 0x44)

/-- MFR_ID (R395): "DEHAPIN". -/
def execMfrId (s : State) : Host.Outcome State Fault Refusal :=
  .next (s.hostRead 0x99 true true fun s => s.hbBlock 0x99 [0x44#8, 0x45#8, 0x48#8, 0x41#8, 0x50#8, 0x49#8, 0x4E#8])

/-- MFR_MODEL (R395): "YM4896". -/
def execMfrModel (s : State) : Host.Outcome State Fault Refusal :=
  .next (s.hostRead 0x9A true true fun s => s.hbBlock 0x9A [0x59#8, 0x4D#8, 0x34#8, 0x38#8, 0x39#8, 0x36#8])

/-- MFR_REVISION (R395). -/
def execMfrRevision (s : State) : Host.Outcome State Fault Refusal :=
  .next (s.hostRead 0x9B true true fun s => s.hbBlock 0x9B (leBytes 2 Config.siliconRevision.toNat))

/-- The eight bytes of DEVICE_ID. -/
def State.deviceId (s : State) : List Byte := leBytes 8 (s.get Hid.SN_DEVICE s.act)

/-- MFR_SERIAL (R395). -/
def execMfrSerial (s : State) : Host.Outcome State Fault Refusal := .next (s.hostRead 0x9E true true fun s => s.hbBlock 0x9E s.deviceId)

/-! Manufacturer commands (R399, R400). -/

/-- MFR_WIN_ADDR (R399). -/
def State.winAddrCmd (s : State) (rd : Bool) (bytes : List Byte) : State :=
  let c : WriteCmd := ⟨0xD0, false, none, fun l => l.length = 4 && leNat l % 4 = 0⟩
  s.readOrWrite c rd true true bytes (fun s => s.hbBlock 0xD0 (leBytes 4 (s.get Reg.HB_WIN.WIN_ADDR 0))) fun s l =>
    (s.writeDone c l).put Reg.HB_WIN.WIN_ADDR 0 (firstWord l)

/-- MFR_WIN_ADDR (R399). -/
def execMfrWinAddr (rd : Bool) (bytes : List Byte) (s : State) : Host.Outcome State Fault Refusal := .next (s.winAddrCmd rd bytes)

/-- The window address advances by the bytes of a transfer that succeeded. -/
def State.winAdvance (s : State) (st a n : Nat) : State :=
  let s := s.put Hid.WIN_STATUS 0 st
  s.when (st = JStatus.ok) fun s => s.put Reg.HB_WIN.WIN_ADDR 0 ((a + n) % 2 ^ 32)

/-- MFR_WIN_DATA as a write: every word is checked first, then the words go out in ascending order (R400). -/
def State.winDataWrite (s : State) (c : WriteCmd) (l : List Byte) : State :=
  let a := s.get Reg.HB_WIN.WIN_ADDR 0
  let ws := winWords a (l.length / 4)
  if !ws.all (fun x => s.winAllowed false false x) then
    (s.hbRefuse JStatus.denied (s.hbCode false 0xD1) l.length a).winStatusSet 0xD1 JStatus.denied
  else
    let (t, st) := s.winPut false ws l l.length (s.hbCode c.paged c.cmd) a
    if !t.portsServe then t else (t.bump Reg.HB_COUNTS.CMD_COUNT 0).winAdvance st a l.length

/-- MFR_WIN_DATA as a read of RLEN bytes: a refused range has none. -/
def State.winDataRead (s : State) : State :=
  let a := s.get Reg.HB_WIN.WIN_ADDR 0
  let n := s.get Reg.HB_PORT.RLEN 0
  let ws := winWords a (n / 4)
  if !ws.all (fun x => s.winAllowed false true x) then
    ((((s.raise Reg.HB_STATUS.DENIED 0).bump Reg.HB_COUNTS.ERR_COUNT 0).put Hid.WIN_STATUS 0 JStatus.denied).hbBlock 0xD1 [])
  else
    let (t, l, e) := s.winRead false ws
    ((t.winFail e).winAdvance (winStatus e) a n).hbBlock 0xD1 l

/-- MFR_WIN_DATA (R400). -/
def State.winDataCmd (s : State) (rd : Bool) (bytes : List Byte) : State :=
  let c : WriteCmd := ⟨0xD1, false, none, fun l => decide (4 ≤ l.length) && decide (l.length ≤ 252) && l.length % 4 = 0⟩
  s.readOrWrite c rd true true bytes State.winDataRead fun s l => s.winDataWrite c l

/-- MFR_WIN_DATA (R400). -/
def execMfrWinData (rd : Bool) (bytes : List Byte) (s : State) : Host.Outcome State Fault Refusal := .next (s.winDataCmd rd bytes)

/-- A read length that MFR_WIN_RLEN takes. -/
def State.rlenOk (s : State) (n : Nat) : Bool := decide (4 ≤ n) && n % 4 = 0 && decide (n ≤ min 252 s.hbStaging)

/-- MFR_WIN_RLEN (R399). -/
def State.winRlenCmd (s : State) (rd : Bool) (bytes : List Byte) : State :=
  let c : WriteCmd := ⟨0xD2, false, some 1, anyData⟩
  s.readOrWrite c rd true true bytes (fun s => s.hbByte 0xD2 (s.get Reg.HB_PORT.RLEN 0)) fun s l =>
    let v := firstWord l
    if s.rlenOk v then (s.writeDone c l).put Reg.HB_PORT.RLEN 0 v else s.writeRefused c v

/-- MFR_WIN_RLEN (R399). -/
def execMfrWinRlen (rd : Bool) (bytes : List Byte) (s : State) : Host.Outcome State Fault Refusal := .next (s.winRlenCmd rd bytes)

/-- MFR_WIN_STATUS (R399). -/
def execMfrWinStatus (s : State) : Host.Outcome State Fault Refusal :=
  .next (s.hostRead 0xD3 true true fun s => s.hbByte 0xD3 (s.get Hid.WIN_STATUS 0))

/-- MFR_DEV_STATE (R399). -/
def execMfrDevState (s : State) : Host.Outcome State Fault Refusal :=
  .next (s.hostRead 0xD4 true true fun s => s.hbBlock 0xD4 (leBytes 4 (s.wordOf Reg.DEV_STATE.STATE 0 0)))

/-- MFR_JRNL_HEAD (R399). -/
def execMfrJrnlHead (s : State) : Host.Outcome State Fault Refusal :=
  .next (s.hostRead 0xD5 true true fun s =>
    s.hbBlock 0xD5 (leBytes 4 (s.get Reg.JRNL_NEXT.NEXT_SEQ 0) ++ leBytes 4 (s.get Reg.JRNL_OLDEST.OLDEST_SEQ 0)))

/-- A process call whose write part is broken: it reads nothing, and makes no entry, being a read. -/
def State.callRefused (s : State) (st : Nat) : State := (s.hbFlags st).bump Reg.HB_COUNTS.ERR_COUNT 0

/-- A process call with a written word of four bytes: `g` answers the word. -/
def State.hostCall (s : State) (cmd : Nat) (bytes : List Byte) (g : State → Nat → List Byte) : State :=
  s.hostMsg cmd false false true true fun s =>
    let st := s.hbParse cmd none true bytes
    let l := writeData none bytes
    if st ≠ JStatus.ok then s.callRefused st
    else if l.length ≠ 4 then s.callRefused JStatus.malformed
    else s.hbBlock cmd (g s (leNat l))

/-- MFR_JRNL_READ (R399). -/
def execMfrJrnlRead (bytes : List Byte) (s : State) : Host.Outcome State Fault Refusal :=
  .next (s.hostCall 0xD6 bytes fun s q => (s.entryAt q).elim [] JEntry.bytes)

/-- ACK_SEQ takes a SEQ of the retained range (R411). -/
def State.ackTake (s : State) (v : Nat) : State :=
  (s.put Reg.JRNL_ACK.ACK_SEQ 0 v).putB Reg.JRNL_STATUS.UNREAD_FAIL 0 (unreadFail s.jrnA v)

/-- MFR_JRNL_ACK (R411). -/
def State.jrnlAckCmd (s : State) (bytes : List Byte) : State :=
  let c : WriteCmd := ⟨0xD7, false, none, fun l => l.length = 4⟩
  s.hostMsg 0xD7 true false true true fun s => s.hostWrite c bytes fun s l =>
    if s.ackBad (leNat l) then (s.writeRefused c (Reg.JRNL_ACK.ACK_SEQ.addr 0 0)).raise Reg.JRNL_STATUS.CFG_REJ 0
    else (s.writeDone c l).ackTake (leNat l)

/-- MFR_JRNL_ACK (R411). -/
def execMfrJrnlAck (bytes : List Byte) (s : State) : Host.Outcome State Fault Refusal := .next (s.jrnlAckCmd bytes)

/-- The oldest host-queue entry is taken by a port: its 32 bytes, or none (R323). -/
def State.portTake (s : State) (w : Who) : State × List Byte :=
  if s.evHost.isEmpty then (s, [])
  else
    let s := s.hostTake w s.act
    (s, (List.range 8).flatMap fun j => leBytes 4 (s.getAt Hid.EV_HREC s.act (8 * whoIx w + j)))

/-- MFR_HQ_READ (R399). -/
def execMfrHqRead (s : State) : Host.Outcome State Fault Refusal :=
  .next (s.hostRead 0xD8 false true fun s => let (s, l) := s.portTake .host; s.hbBlock 0xD8 l)

/-- MFR_TAG (R399). -/
def State.tagCmd (s : State) (rd : Bool) (bytes : List Byte) : State :=
  let c : WriteCmd := ⟨0xD9, false, some 2, anyData⟩
  s.readOrWrite c rd false true bytes (fun s => s.hbWord 0xD9 (s.get Reg.HB_PORT.TAG 0)) fun s l =>
    (s.writeDone c l).put Reg.HB_PORT.TAG 0 (firstWord l)

/-- MFR_TAG (R399). -/
def execMfrTag (rd : Bool) (bytes : List Byte) (s : State) : Host.Outcome State Fault Refusal := .next (s.tagCmd rd bytes)

/-! Bus events (R388 to R393, R398). -/

/-- QUICK_COMMAND (R388): acknowledged, and nothing more. -/
def execQuickCommand (s : State) : Host.Outcome State Fault Refusal := .next (s.hostMsg 0 false false true true id)

/-- ALERT_RESPONSE (R393): the target sends its address while it drives ALERT_N low; `lost`: a lower address wins the arbitration. -/
def execAlertResponse (lost : Bool) (s : State) : Host.Outcome State Fault Refusal :=
  .next (if s.hostOpen && s.alertLow then { s.raise Hid.HB_ACK 0 with hbReply := if lost then [] else [s.addrByte false] }
    else { s.clr Hid.HB_ACK 0 with hbReply := [] })

/-- UNSUPPORTED_COMMAND (R398). -/
def execUnsupportedCommand (cmd : Byte) (s : State) : Host.Outcome State Fault Refusal :=
  .next (s.hostMsg cmd.toNat false false true false id)

/-- A low time of 30 ms with TOUT_EN: the interface is reset and the message discarded (R391, R398). -/
def State.busTimeout (s : State) (f : Fld) : State :=
  if s.hostOpen && s.on Reg.HB_CFG.TOUT_EN 0 then
    { (((s.raise f 0).cmlSet 1).bump Reg.HB_COUNTS.ERR_COUNT 0).clr Hid.HB_ACK 0 with hbReply := [] }
  else s

/-- SCL_TIMEOUT (R391). -/
def execSclTimeout (s : State) : Host.Outcome State Fault Refusal := .next (s.busTimeout Reg.HB_STATUS.SCL_TMO)

/-- SDA_TIMEOUT (R391). -/
def execSdaTimeout (s : State) : Host.Outcome State Fault Refusal := .next (s.busTimeout Reg.HB_STATUS.SDA_TMO)

/-- A stretch limit is reached in a read of command `cmd` after the bytes `sent`: 0xFF for the `left` bytes that remain, and the complement of their
PEC (R389). -/
def State.stretchTimeout (s : State) (cmd : Byte) (sent : List Byte) (left : Nat) : State :=
  if !s.hostOpen then s
  else
    let l := sent ++ List.replicate left 0xFF#8
    let s := (s.raise Reg.HB_STATUS.STRETCH_TMO 0).cmlSet 1
    { s with hbReply := l ++ [~~~(crc8 (s.addrByte false :: cmd :: s.addrByte true :: l))] }

/-- STRETCH_TIMEOUT (R389). -/
def execStretchTimeout (cmd : Byte) (sent : List Byte) (left : Byte) (s : State) : Host.Outcome State Fault Refusal :=
  .next (s.stretchTimeout cmd sent left.toNat)

/-- HB_PARK_WAKE (R390): the address match wakes the device; `resumed`: the cores resumed within 200 µs. -/
def execHbParkWake (resumed : Bool) (s : State) : Host.Outcome State Fault Refusal :=
  .next (if s.dev = Dev.park && s.get Reg.HB_STATUS.ADDR 0 ≠ 0 then { (s.putB Hid.HB_ACK 0 resumed).wakeSource Wk.bus with hbReply := [] } else s)

end Sys2Proof.Machine
end

