-- ==== Sys2Proof/Machine/Service.lean ====
section
/-!
DEFINITION. The service port (R403 to R406) and the journal's own registers (R408, R411).
-/
namespace Sys2Proof.Machine

/-! Frames (R403, R404). -/

/-- Bytes of the port's staging buffer. -/
def State.svcStaging (s : State) : Nat :=
  match s.get Reg.SP_CFG.STG_SIZE 0 with
  | 0 => 256
  | 1 => 1024
  | _ => 4160

/-- A reply frame: SYNC, LEN, the request's CMD with bit 7 set, its TAG, the payload with the status first, the CRC most significant byte first. -/
def replyFrame (cmd tag : Nat) (payload : List Byte) : List Byte :=
  let b := leBytes 2 payload.length ++ leBytes 1 (cmd + 0x80) ++ leBytes 2 tag ++ payload
  [0xA5#8, 0x5A#8] ++ b ++ beBytes 2 (crc16 b).toNat

/-- The port answers a request: its status and data; FRAMES counts it. -/
def State.svcReplyWith (s : State) (cmd st : Nat) (l : List Byte) : State :=
  { s with svcReply := replyFrame cmd (s.get Hid.SVC_TAG 0) (leBytes 1 st ++ l) }.bump Reg.SP_COUNTS.FRAMES 0

/-- The latched bits that go with the status of a refused request. -/
def State.svcFlags (s : State) (status : Nat) : State :=
  if status = JStatus.oversize then s.raise Reg.SP_STATUS.OVERSIZE 0
  else if status = JStatus.badState then s.raise Reg.SP_STATUS.BAD_STAGE 0
  else if status = JStatus.denied then s.raise Reg.SP_STATUS.DENIED 0
  else s

/-- An entry of the port. -/
def State.svcEntry (s : State) (kind status target cmd arg : Nat) : State :=
  s.journal (originOf .svc) kind (s.tagOf .svc) status target cmd arg

/-- A request is refused and answered; a write-type one, one of a wrong state or stage and one too long are journalled. -/
def State.svcRefuse (s : State) (cmd status target arg : Nat) (entry : Bool) : State :=
  let s := s.when entry fun s => s.svcEntry JKind.refused status target cmd arg
  ((s.svcFlags status).bump Reg.SP_COUNTS.ERR_COUNT 0).svcReplyWith cmd status []

/-- A write-type request executed at once, with its data. -/
def State.svcDone (s : State) (cmd target arg : Nat) (l : List Byte) : State :=
  (s.svcEntry JKind.done JStatus.ok target cmd arg).svcReplyWith cmd JStatus.ok l

/-- The line's rate, bit/s (SP_CFG.BAUD). -/
def State.baudRate (s : State) : Nat := ([115200, 230400, 460800, 921600, 1500000, 2000000, 3000000][s.get Reg.SP_CFG.BAUD 0]?).getD 115200

/-- A request whose frame ends now began within 200 µs of a wake by SVC_RX: its first bytes are discarded (R404). A frame is nine bytes and its payload, each ten bit times. -/
def State.svcAsleep (s : State) (payload : Nat) : Bool :=
  decide (s.get Hid.WAKE_AT 0 ≠ 0) &&
    decide (beatDiff s.beat (s.get Hid.WAKE_AT 0 - 1) < 200 + 10 * 1000000 * (9 + payload) / s.baudRate)

/-- What a service-port command is: CMD, whether it writes, whether LOAD serves it, the stages that serve it, and the rule on its payload. -/
structure SvcCmd where
  cmd    : Nat
  write  : Bool
  inLoad : Bool
  stage  : Bool
  rule   : List Byte → Bool

/-- A valid request frame reaches the port (R394, R403 to R405). In PARK it only wakes the device. -/
def State.svcMsg (s : State) (c : SvcCmd) (tag : Nat) (payload : List Byte) (g : State → State) : State :=
  let s := { s with svcReply := [] }
  if s.dev = Dev.park then s.wakeSource Wk.svc
  else if !s.portsServe || s.svcAsleep payload.length then s
  else
    let s := (s.put Hid.SVC_TAG 0 tag).clr Hid.BAUD_TRY 0
    if s.svcStaging < payload.length then s.svcRefuse c.cmd JStatus.oversize payload.length (firstWord payload) true
    else if !c.stage || (s.dev = Dev.load && !c.inLoad) then s.svcRefuse c.cmd JStatus.badState noTarget (firstWord payload) true
    else if !c.rule payload then s.svcRefuse c.cmd JStatus.malformed noTarget (firstWord payload) c.write
    else g s

/-! Commands (R405). -/

/-- Every stage but RETIRED. -/
def State.notRetired (s : State) : Bool := decide (s.stageNow < Stage.retired)

/-- The window is open to the port: in FIELD only while DEBUG_OFF is clear. -/
def State.svcWindow (s : State) : Bool := s.notRetired && !(s.stageNow = Stage.field && s.on Hid.SN_DEBUG s.act)

/-- PING: DEVICE_ID, DEV_STATE and the stage. -/
def State.svcPing (s : State) (tag : Nat) (l : List Byte) : State :=
  s.svcMsg ⟨0x01, false, true, true, List.isEmpty⟩ tag l fun s =>
    s.svcReplyWith 0x01 JStatus.ok (s.deviceId ++ leBytes 4 (s.wordOf Reg.DEV_STATE.STATE 0 0) ++ leBytes 1 s.stageNow)

/-- PING (R405). -/
def execSvcPing (tag : BitVec 16) (payload : List Byte) (s : State) : Host.Outcome State Fault Refusal := .next (s.svcPing tag.toNat payload)

/-- A word count that a reply has room for. -/
def State.svcCount (s : State) (n : Nat) : Bool := decide (1 ≤ n) && decide (4 * n + 1 ≤ s.svcStaging)

/-- WIN_READ (R400). -/
def State.svcWinRead (s : State) (tag : Nat) (l : List Byte) : State :=
  s.svcMsg ⟨0x02, false, false, s.svcWindow, fun l => l.length = 6 && leNat (l.take 4) % 4 = 0 && s.svcCount (leNat (l.drop 4))⟩ tag l fun s =>
    let ws := winWords (leNat (l.take 4)) (leNat (l.drop 4))
    if !ws.all (fun x => s.winAllowed true true x) then s.svcRefuse 0x02 JStatus.denied noTarget 0 false
    else
      let (t, d, e) := s.winRead true ws
      (t.winFail e).svcReplyWith 0x02 (winStatus e) d

/-- WIN_READ (R405). -/
def execWinRead (tag : BitVec 16) (payload : List Byte) (s : State) : Host.Outcome State Fault Refusal := .next (s.svcWinRead tag.toNat payload)

/-- WIN_WRITE (R400). -/
def State.svcWinWrite (s : State) (tag : Nat) (l : List Byte) : State :=
  s.svcMsg ⟨0x03, true, false, s.svcWindow, fun l => decide (8 ≤ l.length) && l.length % 4 = 0 && leNat (l.take 4) % 4 = 0⟩ tag l fun s =>
    let a := leNat (l.take 4)
    let d := l.drop 4
    let ws := winWords a (d.length / 4)
    if !ws.all (fun x => s.winAllowed true false x) then s.svcRefuse 0x03 JStatus.denied l.length a true
    else
      let (t, st) := s.winPut true ws d l.length 0x03 a
      if t.portsServe then t.svcReplyWith 0x03 st [] else t

/-- WIN_WRITE (R405). -/
def execWinWrite (tag : BitVec 16) (payload : List Byte) (s : State) : Host.Outcome State Fault Refusal := .next (s.svcWinWrite tag.toNat payload)

/-- The retained entries from a SEQ on, oldest first. -/
def State.entriesFrom (s : State) (seq n : Nat) : List JEntry :=
  let d := fun (e : JEntry) => (e.seq + 2 ^ 32 - seq) % 2 ^ 32
  ((s.jrnA.reverse.filter fun e => decide (d e < 2 ^ 31)).mergeSort fun e f => decide (d e ≤ d f)).take n

/-- JRNL_READ. -/
def State.svcJrnlRead (s : State) (tag : Nat) (l : List Byte) : State :=
  s.svcMsg ⟨0x04, false, true, s.notRetired, fun l => l.length = 5 && decide (1 ≤ leNat (l.drop 4)) && decide (leNat (l.drop 4) ≤ 64)⟩ tag l fun s =>
    s.svcReplyWith 0x04 JStatus.ok ((s.entriesFrom (leNat (l.take 4)) (leNat (l.drop 4))).flatMap JEntry.bytes)

/-- JRNL_READ (R405). -/
def execJrnlRead (tag : BitVec 16) (payload : List Byte) (s : State) : Host.Outcome State Fault Refusal := .next (s.svcJrnlRead tag.toNat payload)

/-- Up to `n` host-queue entries are taken. -/
def State.takeMany (s : State) : Nat → State × List Byte
  | 0 => (s, [])
  | n + 1 =>
    let (s, a) := s.portTake .svc
    let (s, b) := s.takeMany n
    (s, a ++ b)

/-- HQ_READ. -/
def State.svcHqRead (s : State) (tag : Nat) (l : List Byte) : State :=
  s.svcMsg ⟨0x05, false, false, s.notRetired, fun l => l.length = 1 && decide (1 ≤ leNat l) && decide (leNat l ≤ 32)⟩ tag l fun s =>
    let (s, d) := s.takeMany (leNat l)
    s.svcReplyWith 0x05 JStatus.ok d

/-- HQ_READ (R405). -/
def execHqRead (tag : BitVec 16) (payload : List Byte) (s : State) : Host.Outcome State Fault Refusal := .next (s.svcHqRead tag.toNat payload)

/-- SET_BAUD: answered at the old rate, the new one comes later (R406). -/
def State.setBaud (s : State) (tag : Nat) (l : List Byte) : State :=
  s.svcMsg ⟨0x06, true, true, s.notRetired, fun l => l.length = 1⟩ tag l fun s =>
    if 6 < leNat l then s.svcRefuse 0x06 JStatus.refused noTarget (Reg.SP_CFG.BAUD.addr 0 0) true
    else ((s.svcDone 0x06 noTarget (leNat l) []).put Hid.BAUD_NEXT 0 (leNat l)).raise Hid.BAUD_PEND 0 |>.put Hid.BAUD_AT 0 s.beat

/-- SET_BAUD (R405). -/
def execSetBaud (tag : BitVec 16) (payload : List Byte) (s : State) : Host.Outcome State Fault Refusal := .next (s.setBaud tag.toNat payload)

/-- DEV_STATE: DEV_STATE, LOAD_STATUS and RST_CAUSE. -/
def State.svcDevState (s : State) (tag : Nat) (l : List Byte) : State :=
  s.svcMsg ⟨0x07, false, true, true, List.isEmpty⟩ tag l fun s =>
    s.svcReplyWith 0x07 JStatus.ok
      (leBytes 4 (s.wordOf Reg.DEV_STATE.STATE 0 0) ++ leBytes 4 (s.wordOf Reg.LOAD_STATUS.SLOT 0 0) ++ leBytes 4 (s.wordOf Reg.RST_CAUSE.LAST 0 0))

/-- DEV_STATE (R405). -/
def execDevState (tag : BitVec 16) (payload : List Byte) (s : State) : Host.Outcome State Fault Refusal := .next (s.svcDevState tag.toNat payload)

/-- A vendor test: served in BLANK and BUILD; no rule says what it does or answers, so its status is free (DESIGN CHOICE, log entry 35). -/
def State.vendorCmd (s : State) (k tag : Nat) (l : List Byte) : State :=
  s.svcMsg ⟨0x70 + k, true, false, decide (s.stageNow ≤ Stage.build), anyData⟩ tag l fun s =>
    let (v, s) := s.draw
    (s.svcEntry JKind.done (v % 256) noTarget (0x70 + k) (firstWord l)).svcReplyWith (0x70 + k) (v % 256) []

/-- VENDOR_TEST (R405). -/
def execVendorTest (k : Fin 16) (tag : BitVec 16) (payload : List Byte) (s : State) : Host.Outcome State Fault Refusal :=
  .next (s.vendorCmd k.val tag.toNat payload)

/-- A CMD that R405 reserves. -/
def svcReserved (cmd : Nat) : Bool :=
  !((1 ≤ cmd && decide (cmd ≤ 7)) || (0x10 ≤ cmd && decide (cmd ≤ 0x1B)) || (0x70 ≤ cmd && decide (cmd ≤ 0x7F)))

/-- A reserved command is answered MALFORMED; a CMD that the table does give is not this command (R405). -/
def State.svcReservedCmd (s : State) (cmd tag : Nat) (l : List Byte) : State :=
  if !svcReserved cmd then s else s.svcMsg ⟨cmd, true, true, true, fun _ => false⟩ tag l id

/-- SVC_RESERVED_CMD (R405). -/
def execSvcReservedCmd (cmd : Byte) (tag : BitVec 16) (payload : List Byte) (s : State) : Host.Outcome State Fault Refusal :=
  .next (s.svcReservedCmd cmd.toNat tag.toNat payload)

/-! Frames that fail, and the rate (R403, R404, R406). -/

/-- A frame is discarded without a reply. -/
def State.svcDiscard (s : State) (f : Fld) : State :=
  if s.portsServe then { (s.raise f 0).bump Reg.SP_COUNTS.ERR_COUNT 0 with svcReply := [] } else s

/-- The last two bytes of a frame, from LEN on, are not the CRC of the others. -/
def frameCrcBad (raw : List Byte) : Bool :=
  decide (beBytes 2 (crc16 (raw.take (raw.length - 2))).toNat ≠ raw.drop (raw.length - 2))

/-- A frame with a stop bit that read 0, or with a CRC that fails; any other frame is a command of R405. -/
def State.svcBad (s : State) (framing : Bool) (raw : List Byte) : State :=
  if framing then s.svcDiscard Reg.SP_STATUS.FRAMING else if frameCrcBad raw then s.svcDiscard Reg.SP_STATUS.CRC_ERR else s

/-- SVC_BAD_FRAME (R403). -/
def execSvcBadFrame (framing : Bool) (raw : List Byte) (s : State) : Host.Outcome State Fault Refusal := .next (s.svcBad framing raw)

/-- SVC_GAP_TIMEOUT (R404). -/
def execSvcGapTimeout (s : State) : Host.Outcome State Fault Refusal := .next (s.svcDiscard Reg.SP_STATUS.GAP_TMO)

/-- 1 ms after the answer the new rate applies, and is on trial until a valid frame arrives. -/
def State.baudApply (s : State) : State :=
  if s.on Hid.BAUD_PEND 0 && decide (1000 ≤ beatDiff s.beat (s.get Hid.BAUD_AT 0)) then (((s.put Hid.BAUD_AT 0 s.beat).clr Hid.BAUD_PEND 0).put Reg.SP_CFG.BAUD 0 (s.get Hid.BAUD_NEXT 0)).raise Hid.BAUD_TRY 0 else s

/-- SVC_BAUD_APPLY (R406). -/
def execSvcBaudApply (s : State) : Host.Outcome State Fault Refusal := .next s.baudApply

/-- No valid frame arrived within 2 s at the new rate. -/
def State.baudFallback (s : State) : State :=
  if s.on Hid.BAUD_TRY 0 && decide (2000000 ≤ beatDiff s.beat (s.get Hid.BAUD_AT 0)) then (s.clr Hid.BAUD_TRY 0).put Reg.SP_CFG.BAUD 0 0 else s

/-- SVC_BAUD_FALLBACK (R406). -/
def execSvcBaudFallback (s : State) : Host.Outcome State Fault Refusal := .next s.baudFallback

/-! The journal's registers. -/

/-- A note is appended, with ARG = NOTE_ARG (R408). -/
def State.note (s : State) (w : Who) (code : Nat) : State :=
  s.journal (originOf w) JKind.note (s.tagOf w) JStatus.ok noTarget code (s.get Reg.JRNL_NOTE_ARG.NOTE_ARG 0)

/-- JRNL_NOTE (R408). -/
def execJrnlNote (w : Who) (m : Mgr) (code : BitVec 16) (s : State) : Host.Outcome State Fault Refusal :=
  .next (s.governed w m.val fun s => s.note w code.toNat)

/-- A write of ACK_SEQ (R411). -/
def State.ackWrite (s : State) (v : Nat) : State := if s.ackBad v then s.raise Reg.JRNL_STATUS.CFG_REJ 0 else s.ackTake v

/-- JRNL_ACK_WRITE (R411). -/
def execJrnlAckWrite (w : Who) (m : Mgr) (v : Word) (s : State) : Host.Outcome State Fault Refusal :=
  .next (s.governed w m.val fun s => s.ackWrite v.toNat)

end Sys2Proof.Machine
end

