-- ==== Sys2Proof/Machine/Update.lean ====
section
/-!
DEFINITION. The update service (R413 to R434): delivery, verification, preparation, activation, trial, confirmation and return.
-/
namespace Sys2Proof.Machine

/-! Statuses of R434. -/
namespace UpdSt
abbrev notBlank : Nat := 0x40
abbrev badSequence : Nat := 0x41
abbrev hdrInvalid : Nat := 0x42
abbrev chunkCrc : Nat := 0x43
abbrev chunkRange : Nat := 0x44
abbrev flash : Nat := 0x45
abbrev digest : Nat := 0x46
abbrev incomplete : Nat := 0x47
abbrev tooLarge : Nat := 0x48
abbrev liveConflict : Nat := 0x49
abbrev rule : Nat := 0x4A
abbrev busy : Nat := 0x4B
abbrev stale : Nat := 0x4C
abbrev notTested : Nat := 0x4D
abbrev deadline : Nat := 0x4E
abbrev revertFail : Nat := 0x4F
abbrev rollbackHeld : Nat := 0x50
end UpdSt

/-! Commands on either port (R417). -/

/-- The port of a message: 0 the host bus, 1 the service port. -/
def PortMsg.port : PortMsg → Nat
  | .host _ => 0
  | .svc _ _ => 1

/-- CODE of update command `k` on a port. -/
def updCode (p k : Nat) : Nat := if p = 0 then 0xFF00 + 0xE0 + k else 0x10 + k

/-- TARGET of its entry: the block's byte count. -/
def updTarget (l : List Byte) : Nat := if l.isEmpty then noTarget else l.length

/-- LAST_STATUS (R434). -/
def State.updLast (s : State) (st : Nat) : State := s.put Reg.UPD_STATUS.LAST_STATUS 0 st

/-- Update command `k` is refused. -/
def State.updRefuse (s : State) (p k st arg : Nat) (l : List Byte) : State :=
  let s := s.updLast st
  if p = 0 then s.hbRefuse st (updCode p k) (updTarget l) arg else s.svcRefuse (updCode p k) st (updTarget l) arg true

/-- It is executed at once. -/
def State.updDone (s : State) (p k : Nat) (l : List Byte) : State :=
  let s := s.updLast JStatus.ok
  if p = 0 then s.hbDone (updCode p k) (updTarget l) (firstWord l) else s.svcDone (updCode p k) (updTarget l) (firstWord l) []

/-- It is accepted and runs on. -/
def State.updAccept (s : State) (p k : Nat) (l : List Byte) : State :=
  let s := s.updLast JStatus.ok
  let w := portWho (p = 1)
  let s := s.accept (updKind k) (originOf w) (s.tagOf w) (updTarget l) (updCode p k) (firstWord l) true
  if p = 0 then s.bump Reg.HB_COUNTS.CMD_COUNT 0 else s.svcReplyWith (updCode p k) JStatus.ok []

/-- A write-type update command reaches the service: in RETIRED it is refused with BAD_STATE, in a state of the engine that gives it no meaning with
BAD_SEQUENCE (R394, R417). `len` is `none` for a block write, 0 for a send byte. -/
def State.updMsg (s : State) (k : Nat) (msg : PortMsg) (len : Option Nat) (rule : List Byte → Bool) (states : List Nat)
    (g : State → Nat → List Byte → State) : State :=
  let run := fun (s : State) (p : Nat) (l : List Byte) =>
    if !states.contains s.upd then s.updRefuse p k UpdSt.badSequence (firstWord l) l else g s p l
  match msg with
  | .host bytes =>
    let c : WriteCmd := ⟨0xE0 + k, false, len, rule⟩
    s.hostMsg c.cmd true false true true fun s => s.hostWrite c bytes fun s l =>
      if !s.notRetired then s.updRefuse 0 k JStatus.badState (firstWord l) l else run s 0 l
  | .svc tag l => s.svcMsg ⟨0x10 + k, true, true, s.notRetired, rule⟩ tag.toNat l fun s => run s 1 l

/-- A send-byte command. -/
def State.updSend (s : State) (k : Nat) (msg : PortMsg) (states : List Nat) (g : State → Nat → State) : State :=
  s.updMsg k msg (some 0) List.isEmpty states fun s p _ => g s p

/-- A read of the update engine: the data for the port. In RETIRED it is refused. -/
def State.updRead (s : State) (k : Nat) (msg : PortMsg) (call : Bool) (g : State → Nat → List Byte) : State :=
  match msg with
  | .host bytes =>
    if call then
      (if s.notRetired then s.hostCall (0xE0 + k) bytes g else s.hostMsg (0xE0 + k) false false true true fun s => s.callRefused JStatus.badState)
    else s.hostRead (0xE0 + k) true true fun s => if s.notRetired then s.hbBlock (0xE0 + k) (g s 0) else s.callRefused JStatus.badState
  | .svc tag l =>
    s.svcMsg ⟨0x10 + k, false, true, s.notRetired, fun l => l.length = (if call then 4 else 0)⟩ tag.toNat l fun s =>
      s.svcReplyWith (0x10 + k) JStatus.ok (g s (leNat l))

/-- STATUS: UPD_STATUS, UPD_PROGRESS and UPD_TRIAL. -/
def State.updStatus (s : State) : List Byte :=
  leBytes 4 (s.wordOf Reg.UPD_STATUS.STATE 0 0) ++ leBytes 4 (s.wordOf Reg.UPD_PROGRESS.TOTAL 0 0) ++ leBytes 4 (s.wordOf Reg.UPD_TRIAL.TRIAL_LEFT 0 0)

/-- UPDATE_STATUS_CMD (R417). -/
def execUpdateStatusCmd (msg : PortMsg) (s : State) : Host.Outcome State Fault Refusal :=
  .next (s.updRead 0 msg false fun s _ => s.updStatus)

/-- 32 bytes of the chunk table from a chunk's byte on; past the table there is nothing. -/
def State.mapPart (s : State) (c : Nat) : List Byte :=
  (List.range 32).flatMap fun j => leBytes 1 (if c / 4 + j < tableSize then s.mapByte s.act (0x200 + c / 4 + j) else 0)

/-- MAP (R417). -/
def execUpdMap (msg : PortMsg) (s : State) : Host.Outcome State Fault Refusal := .next (s.updRead 11 msg true fun s c => s.mapPart c)

/-! Delivery (R413, R417 to R420). -/

/-- The slot that an update writes: the one not booted, or the one that UPD_CFG names. -/
def State.updTargetSlot (s : State) : Nat :=
  match s.get Reg.LOAD_STATUS.SLOT 0 with
  | 1 => 2
  | 2 => 1
  | _ => if s.on Reg.UPD_CFG.TGT_B 0 then 2 else 1

/-- Chunks of an image of a payload length. -/
def chunksOf (len : Nat) : Nat := 1 + (len + 4095) / 4096

/-- Erases of `n` chunks from `c` on begin, the first DIRTY before the flash is touched (R415). -/
def State.eraseStart (s : State) (c n : Nat) : State :=
  let s := s.chunkPut c Chunk.dirty
  (((s.raise Reg.UPD_STATUS.FLASH_BUSY 0).put Hid.FL_OP 0 1).put Hid.FL_CHUNK 0 c).put Hid.FL_LEFT 0 n

/-- The flash is free: an erase of chunk 0 that waits for it begins. -/
def State.flashFree (s : State) : State :=
  let s := s.flashIdle
  if s.on Hid.FL_ZERO 0 then (s.clr Hid.FL_ZERO 0).eraseStart 0 1 else s

/-- A session opens: the map first, then the chunks, the state, and the erase of chunk 0 (R418). -/
def State.sessionOpen (s : State) (h : List Byte) : State :=
  let s := ((s.mapWrite 0x100 h).put Reg.UPD_STATUS.TARGET 0 s.updTargetSlot).put Hid.UPD_PRIOR 0 (s.get Reg.LOAD_STATUS.SLOT 0)
  let s := (s.put Reg.UPD_PROGRESS.TOTAL 0 (chunksOf (hdrOf h 0x10 4))).put Reg.UPD_ROLLBACK.IMAGE_RB 0 (hdrOf h 0x0F 1)
  let s := (s.chunksOpen).updTo Upd.receiving
  if s.on Reg.UPD_STATUS.FLASH_BUSY 0 then s.raise Hid.FL_ZERO 0 else s.eraseStart 0 1

/-- BEGIN (R413, R418; DEDUCED, log entry 77). -/
def State.updBegin (s : State) (p : Nat) (l : List Byte) : State :=
  let buf := s.bufBytes p 4096
  let h := buf.take 256
  let s := s.bufClear p
  if (crc32 buf).toNat ≠ leNat l then s.updRefuse p 1 UpdSt.chunkCrc (firstWord l) l
  else if !s.on Hid.FL_ERASE 0 || !s.flashOk then s.updRefuse p 1 UpdSt.flash (firstWord l) l
  else if s.headCheck h ≠ Fail.none then s.updRefuse p 1 UpdSt.hdrInvalid (s.headCheck h) l
  else if tableSize < chunksOf (hdrOf h 0x10 4) then s.updRefuse p 1 UpdSt.tooLarge (firstWord l) l
  else (s.updDone p 1 l).sessionOpen h

/-- BEGIN (R418). -/
def execUpdBegin (msg : PortMsg) (s : State) : Host.Outcome State Fault Refusal :=
  .next (s.updMsg 1 msg none (fun l => l.length = 4) [Upd.idle] State.updBegin)

/-- DATA: words into the port's chunk buffer. -/
def State.updData (s : State) (p : Nat) (l : List Byte) : State :=
  let off := leNat (l.take 2)
  let d := l.drop 2
  if 4096 < off + d.length then s.updRefuse p 2 UpdSt.chunkRange (firstWord l) l else (s.updDone p 2 l).bufWrite p off d

/-- DATA (R417). -/
def execUpdData (msg : PortMsg) (s : State) : Host.Outcome State Fault Refusal :=
  .next (s.updMsg 2 msg none (fun l => decide (6 ≤ l.length) && l.length % 4 = 2) [Upd.idle, Upd.receiving] State.updData)

/-- The chunk may be named by COMMIT or ERASE. -/
def State.chunkNamed (s : State) (c : Nat) : Bool := decide (1 ≤ c) && decide (c < s.get Reg.UPD_PROGRESS.TOTAL 0)

/-- Every byte of the chunk is 0xFF. -/
def State.chunkBlank (s : State) (c : Nat) : Bool := (s.flashBytes (s.chunkAddr c) 4096).all fun b => b = 0xFF#8

/-- COMMIT (R419): the buffer goes to the engine, and is programmed into a blank chunk in the background. -/
def State.updCommit (s : State) (p : Nat) (l : List Byte) : State :=
  let c := leNat (l.take 4)
  if s.on Reg.UPD_STATUS.FLASH_BUSY 0 then s.updRefuse p 3 UpdSt.busy (firstWord l) l
  else
    let buf := s.bufBytes p 4096
    let s := s.bufClear p
    if !s.chunkNamed c then s.updRefuse p 3 UpdSt.chunkRange (firstWord l) l
    else if (crc32 buf).toNat ≠ leNat (l.drop 4) then s.updRefuse p 3 UpdSt.chunkCrc (firstWord l) l
    else if s.chunk c = Chunk.dirty || !s.chunkBlank c then s.updRefuse p 3 UpdSt.notBlank (firstWord l) l
    else
      let s := (((s.updAccept p 3 l).bufClear 2).bufWrite 2 0 buf).chunkPut c Chunk.dirty
      ((s.raise Reg.UPD_STATUS.FLASH_BUSY 0).put Hid.FL_OP 0 2).put Hid.FL_CHUNK 0 c

/-- COMMIT (R419). -/
def execUpdCommit (msg : PortMsg) (s : State) : Host.Outcome State Fault Refusal :=
  .next (s.updMsg 3 msg none (fun l => l.length = 8) [Upd.receiving] State.updCommit)

/-- A committed chunk has been programmed and read back (R419). -/
def State.chunkProgrammed (s : State) (ok : Bool) : State :=
  if s.get Hid.FL_OP 0 ≠ 2 then s
  else
    let c := s.get Hid.FL_CHUNK 0
    let s := if ok then (s.flashPut (s.chunkAddr c) (s.bufBytes 2 4096)).chunkPut c Chunk.written else s.chunkUndefined c
    (s.updComplete 3 (if ok then JStatus.ok else UpdSt.flash) 0).flashFree

/-- CHUNK_PROGRAM_DONE (R419). -/
def execChunkProgramDone (ok : Bool) (s : State) : Host.Outcome State Fault Refusal := .next (s.chunkProgrammed ok)

/-- ERASE (R420). -/
def State.updErase (s : State) (p : Nat) (l : List Byte) : State :=
  let c := leNat (l.take 4)
  let n := leNat (l.drop 4)
  if s.on Reg.UPD_STATUS.FLASH_BUSY 0 then s.updRefuse p 4 UpdSt.busy (firstWord l) l
  else if n = 0 then (s.updAccept p 4 l).updComplete 4 JStatus.ok 0
  else if !s.chunkNamed c || !s.chunkNamed (c + n - 1) then s.updRefuse p 4 UpdSt.chunkRange (firstWord l) l
  else (s.updAccept p 4 l).eraseStart c n

/-- ERASE (R420). -/
def execUpdErase (msg : PortMsg) (s : State) : Host.Outcome State Fault Refusal :=
  .next (s.updMsg 4 msg none (fun l => l.length = 8) [Upd.receiving] State.updErase)

/-- A chunk erase has ended: blank it is ERASED and the next one follows; else it stays DIRTY and the ERASE ends with FLASH (R415, R420). -/
def State.chunkErased (s : State) (ok : Bool) : State :=
  if s.get Hid.FL_OP 0 ≠ 1 then s
  else
    let c := s.get Hid.FL_CHUNK 0
    let n := s.get Hid.FL_LEFT 0
    if !ok then ((s.chunkUndefined c).updComplete 4 UpdSt.flash 0).flashFree
    else
      let s := (s.zeroMem (flashMem (s.chunkAddr c)) (flashMem (s.chunkAddr c) + 4096)).chunkPut c Chunk.erased
      if 1 < n then s.eraseStart (c + 1) (n - 1) else (s.updComplete 4 JStatus.ok 0).flashFree

/-- ERASE_CHUNK_DONE (R420). -/
def execEraseChunkDone (ok : Bool) (s : State) : Host.Outcome State Fault Refusal := .next (s.chunkErased ok)

/-- ABORT: a running erase ends with its present chunk, and the session is over (R420). -/
def State.updAbort (s : State) (p : Nat) : State :=
  let s := s.updDone p 10 []
  let s := s.when (s.get Hid.FL_OP 0 = 1 && decide (1 < s.get Hid.FL_LEFT 0)) fun s => (s.updComplete 4 JStatus.cancelled 0).put Hid.FL_LEFT 0 1
  let s := (s.clr Hid.FL_ZERO 0).when (s.on Hid.UPD_STAGE 0) fun s => (s.updComplete 6 JStatus.cancelled 0).clr Hid.UPD_STAGE 0
  s.updTo Upd.idle

/-- ABORT (R420). -/
def execUpdAbort (msg : PortMsg) (s : State) : Host.Outcome State Fault Refusal :=
  .next (s.updSend 10 msg [Upd.receiving, Upd.verified, Upd.prepared] State.updAbort)

/-! Verification (R421). -/

/-- Chunks 1 to N - 1 are WRITTEN and chunk 0 is ERASED. -/
def State.delivered (s : State) : Bool :=
  ((List.range (s.get Reg.UPD_PROGRESS.TOTAL 0)).drop 1).all (fun c => s.chunk c = Chunk.written) && s.chunk 0 = Chunk.erased

/-- FINISH. -/
def State.updFinish (s : State) (p : Nat) : State :=
  if s.on Reg.UPD_STATUS.FLASH_BUSY 0 then s.updRefuse p 5 UpdSt.busy 0 []
  else if !s.delivered then s.updRefuse p 5 UpdSt.incomplete 0 []
  else ((s.updAccept p 5 []).updTo Upd.verifying).put Hid.UPD_VERIFY 0 1

/-- FINISH (R421). -/
def execUpdFinish (msg : PortMsg) (s : State) : Host.Outcome State Fault Refusal := .next (s.updSend 5 msg [Upd.receiving] State.updFinish)

/-- The header copy of the map. -/
def State.headerCopy (s : State) : List Byte := s.rdBytes (mapMem s.act 0x100) 256

/-- The payload in the target slot has the digest of the header copy. -/
def State.delivDigest (s : State) : Bool :=
  sha256 (s.flashBytes (s.chunkAddr 1) (hdrOf s.headerCopy 0x10 4)) = (s.headerCopy.drop 0x20).take 32

/-- FINISH ends: with its status, in VERIFIED or again in RECEIVING. -/
def State.finishEnd (s : State) (st : Nat) : State :=
  let s := ((s.flashIdle).clr Hid.UPD_VERIFY 0).updComplete 5 st 0
  s.updTo (if st = JStatus.ok then Upd.verified else Upd.receiving)

/-- The digest check: on a pass chunk 0 is marked DIRTY and its programming begins. -/
def State.finishDigest (s : State) : State :=
  if s.delivDigest then (((s.chunkPut 0 Chunk.dirty).put Hid.UPD_VERIFY 0 2).raise Reg.UPD_STATUS.FLASH_BUSY 0)
  else s.finishEnd UpdSt.digest

/-- Chunk 0 takes the header copy with zeros after it; read back, HDR_CRC and signature are checked again. -/
def State.finishHeader (s : State) (ok : Bool) : State :=
  if !ok then (s.chunkUndefined 0).finishEnd UpdSt.flash
  else
    let s := (s.flashPut (s.chunkAddr 0) (s.headerCopy ++ List.replicate 3840 0#8)).chunkPut 0 Chunk.written
    let h := s.head s.updSlot
    s.finishEnd (if s.headerOk h && (vendorTest h || signatureOk h) then JStatus.ok else UpdSt.flash)

/-- FINISH_COMPLETE (R421). -/
def State.finishComplete (s : State) (header : Option Bool) : State :=
  let s := if s.get Hid.UPD_VERIFY 0 = 1 then s.finishDigest else s
  match header with
  | some ok => if s.get Hid.UPD_VERIFY 0 = 2 then s.finishHeader ok else s
  | none => s

/-- FINISH_COMPLETE (R421). -/
def execFinishComplete (header : Option Bool) (s : State) : Host.Outcome State Fault Refusal := .next (s.finishComplete header)

/-! Preparation (R422, R424). -/

/-- A firmware section of a slot is longer than its part of the staging area. -/
def State.fwTooLarge (s : State) (k : Nat) : Bool :=
  (s.sections k).any fun c => (c.typ = 1 && decide (0x40000 < c.len)) || (c.typ = 2 && decide (0xC000 < c.len))

/-- LOAD with no image to boot: an update is a recovery. -/
def State.recovering (s : State) : Bool := s.dev = Dev.load && s.on Reg.LOAD_STATUS.LOAD_FAIL 0

/-- PREPARE: refused for its sizes; a recovery stages nothing. -/
def State.updPrepare (s : State) (p : Nat) : State :=
  if s.on Hid.UPD_STAGE 0 then s.updRefuse p 6 UpdSt.busy 0 []
  else if s.fwTooLarge s.updSlot then s.updRefuse p 6 UpdSt.tooLarge 0 []
  else if s.recovering then ((s.updAccept p 6 []).updTo Upd.prepared).updComplete 6 JStatus.ok 0
  else (s.updAccept p 6 []).raise Hid.UPD_STAGE 0

/-- PREPARE (R422). -/
def execUpdPrepare (msg : PortMsg) (s : State) : Host.Outcome State Fault Refusal := .next (s.updSend 6 msg [Upd.verified] State.updPrepare)

/-- Where the staged sections lie in a manager's scratchpad (DESIGN CHOICE, log entry 74). -/
abbrev stageMfw : Nat := 0x10070000
abbrev stageSfw : Nat := 0x100B0000

/-- The firmware of a slot is staged in every present manager, its digests in the engine. -/
def State.stageFirmware (s : State) (k : Nat) : State :=
  let a := s.fwBytes k 1
  let b := s.fwBytes k 2
  let s := s.over s.present fun s m => (s.wrBytes (mgrMem m stageMfw) a).wrBytes (mgrMem m stageSfw) b
  let s := (s.put Hid.SHA_MFW 0 (beNat (sha256 a))).put Hid.SHA_SFW 0 (beNat (sha256 b))
  (s.put Hid.LEN_MFW 0 a.length).put Hid.LEN_SFW 0 b.length

/-- The phase of an engine slot, or the spare's place. -/
def slotPlace (t e : Nat) : Nat := if e < 24 then t * 24 + e else 96 + t

/-- The bank that an engine does not run, or will not start in (DEDUCED, log entry 78). -/
def State.idleBank (s : State) (t e : Nat) : Nat :=
  let r := s.railOf (slotPlace t e)
  if e < 24 && decide (r < 48) && !s.memRuns t e then 1 - s.get Reg.RAIL_ENG_STATUS.ACT_BANK (railIx t r)
  else 1 - s.get Reg.ENG_STATUS.BANK (slotPlace t e)

/-- The inactive bank of an engine is prepared: written, and its CRC kept. -/
def State.bankPrepare (s : State) (t e law : Nat) (l : List Byte) : State :=
  let b := s.idleBank t e
  let s := ((s.bankFill t e b law l).clr Reg.ENG_STATUS.CRC_VALID (slotPlace t e)).raise Hid.CRC_BUSY (engIx t e)
  s.put Hid.BANK_PREP (engIx t e) (2 ^ 32 + (s.bankCrc t e b).toNat)

/-- What a slot's register lists make LAW_ID of the rails on their home tiles, in image order. -/
def State.lawEntries (s : State) (k : Nat) : List (Nat × Nat) :=
  ((s.sections k).filter fun c => c.typ = 3).flatMap fun c => (s.regList k c).filterMap fun e =>
    match place e.2.1 with
    | .block .rail i o => if Reg.RAIL_LAW.LAW_ID.here o && s.homeIx (i % 48) = i then some (i % 48, Reg.RAIL_LAW.LAW_ID.part e.2.2) else none
    | _ => none

/-- LAW_ID that a slot's image gives a rail. -/
def State.newLaw (s : State) (k r : Nat) : Option Nat := (((s.lawEntries k).filter fun e => e.1 = r).getLast?).map fun e => e.2

/-- The inactive banks take the program sections of region bank 0, and the laws that the image selects (R107, R422). -/
def State.prepareTiles (s : State) (k : Nat) : State :=
  let s := s.over (List.range 100) fun s x => s.clr Hid.BANK_PREP x
  let s := s.over ((s.sections k).filter fun c => c.typ = 4 && c.target % 4 = 0) fun s c =>
    s.bankPrepare (c.target / 4096) (c.target / 128 % 32) 0 (s.secBytes k c)
  s.over ((List.range 48).filter fun r => ((s.newLaw k r).getD 0) ≠ 0) fun s r =>
    s.over (s.phasesOf r) fun s p => s.bankPrepare (tileOf p) (localOf p) ((s.newLaw k r).getD 0) (lawBytes ((s.newLaw k r).getD 0))

/-- Every staged section and every prepared bank is what PREPARE left. -/
def State.stagedOk (s : State) (m : Nat) : Bool :=
  beNat (sha256 (s.rdBytes (mgrMem m stageMfw) (s.get Hid.LEN_MFW 0))) = s.get Hid.SHA_MFW 0 &&
    beNat (sha256 (s.rdBytes (mgrMem m stageSfw) (s.get Hid.LEN_SFW 0))) = s.get Hid.SHA_SFW 0

/-- The prepared banks keep their CRC. -/
def State.banksOk (s : State) : Bool :=
  (List.range 100).all fun x =>
    s.get Hid.BANK_PREP x = 0 || s.get Hid.BANK_PREP x = 2 ^ 32 + (s.bankCrc (x / 25) (x % 25) (s.idleBank (x / 25) (x % 25))).toNat

/-! Register lists against the present settings (R423, R426). -/

/-- The entries of a slot's register lists, address and value, in image order. -/
def State.imageRegs (s : State) (k : Nat) : List (Nat × Nat) :=
  ((s.sections k).filter fun c => c.typ = 3).flatMap fun c => (s.regList k c).map fun e => e.2

/-- An entry would change something. -/
def State.entryDiffers (s : State) (a v : Nat) : Bool :=
  match place a with
  | .block b i o =>
    !s.emptyRail b i && (fieldsAt b o).any fun fj =>
      match fj.1.acc with
      | .rw | .hw | .rwl => s.view fj.1 s.act (fj.1.at s.act i) fj.2 ≠ fj.1.part v
      | .w1c => s.view fj.1 s.act (fj.1.at s.act i) fj.2 &&& fj.1.part v ≠ 0
      | .w1s | .wo => fj.1.part v ≠ 0
      | .ro | .fz | .hid => false
  | .prog t e b j => (s.rd32 (progAddr t e b j)).toNat ≠ v
  | .data t e j => (s.rd32 (dmAddr t e j)).toNat ≠ v
  | _ => (s.rd32 (mgrMem s.act a)).toNat ≠ v

/-- The entry names LAW_ID of a rail. -/
def lawPlace (a : Nat) : Option Nat :=
  match place a with
  | .block .rail i o => if Reg.RAIL_LAW.LAW_ID.here o then some i else none
  | _ => none

/-- The register would refuse the entry in the present state; LAW_ID of a running rail is exempt, its law is prepared. -/
def State.entryRefused (s : State) (a v : Nat) : Bool :=
  match place a with
  | .block b i o =>
    !s.emptyRail b i && (if (lawPlace a).isSome then !lawKnown (Reg.RAIL_LAW.LAW_ID.part v) else s.regRefuses b i o v)
  | .prog t e b _ => s.memRuns t e && s.get Reg.ENG_STATUS.BANK (slotPlace t e) = b
  | _ => false

/-- The address of the first entry in conflict with the running device. -/
def State.liveConflict (s : State) (k : Nat) : Option Nat :=
  ((s.imageRegs k).find? fun e => s.entryDiffers e.1 e.2 && s.entryRefused e.1 e.2).map fun e => e.1

/-- An entry of the image is written by the update service, which runs on MC_0; a manager block's own registers on both managers. -/
def State.entryApply (s : State) (a v : Nat) : State :=
  let w := BitVec.ofNat 32 v
  let s := s.busWrite .mc0 s.act false a 4 w []
  match place a with
  | .block b _ o =>
    s.when (b.onMgr && s.on Hid.PRESENT (peer s.act)) fun s => s.fieldsWrite b (peer s.act) 0 o v Fld.perDie []
  | _ => s

/-- Data words of a slot's image for an engine, at most `n` bytes of them. -/
def State.dataWords (s : State) (k p n : Nat) : State :=
  s.over ((s.sections k).filter fun c => c.typ = 4 && c.target % 4 = 2 && c.target / 4096 = tileOf p && c.target / 128 % 32 = localOf p) fun s c =>
    s.wrEng (dmAddr (tileOf p) (localOf p) 0) ((s.secBytes k c).take n)

/-- The settings that an activation of the slot would give. -/
def State.resulting (s : State) (k : Nat) : State :=
  let s := s.over (List.range 96) fun s p => s.dataWords k p 2048
  let s := s.over (s.imageRegs k) fun s e =>
    match lawPlace e.1 with
    | some i => s.putRail Reg.RAIL_LAW.LAW_ID (i % 48) (Reg.RAIL_LAW.LAW_ID.part e.2)
    | none => if s.entryDiffers e.1 e.2 then s.entryApply e.1 e.2 else s
  let s := s.over s.dmPend fun s x => s.wr32 x.2.1 x.2.2
  (s.assignHomes).assignSlots

/-! Activation (R423 to R427). -/

/-- The slot that the running activation or revert brings into effect. -/
def State.actSlot (s : State) : Nat := if s.upd = Upd.reverting then s.get Hid.UPD_PRIOR 0 else s.get Reg.UPD_STATUS.TARGET 0

/-- Something was prepared for a rail's engines. -/
def State.railPrepared (s : State) (r : Nat) : Bool := (s.phasesOf r).any fun p => s.get Hid.BANK_PREP (engIx (tileOf p) (localOf p)) ≠ 0

/-- Ticks by which a rail's tiles run ahead of its home tile. -/
def State.tickLead (s : State) (r : Nat) : Nat :=
  (s.tilesOf r).foldl (fun a t =>
    let d := (s.get Hid.TICK t + 2 ^ 32 - s.get Hid.TICK (s.home r)) % 2 ^ 32
    if d < 2 ^ 31 then max a d else a) 0

/-- A rail's turn: its data-memory words are written, and its swap armed 100 ticks ahead on every tile (R96, R426). -/
def State.railTurn (s : State) (r : Nat) : State :=
  let k := s.actSlot - 1
  let n := if s.lawOf r = 0 then 2048 else 384
  let s := s.over (s.phasesOf r) fun s p => s.dataWords k p n
  if !s.railPrepared r then s
  else
    let at' := s.get Hid.TICK (s.home r) + s.tickLead r + 100
    s.over (s.tilesOf r) fun s t => (s.put Reg.RAIL_SWAP_AT.SWAP_AT (railIx t r) at').swapArm .mc0 t r

/-- Step 3: every entry that differs is written in image order, the permission table replaced. Then step 4 begins (R426). -/
def State.stepThree (s : State) : State :=
  let k := s.actSlot - 1
  let s := (s.put Hid.UPD_RAIL 0 48).updStep 3
  let s := s.over (s.imageRegs k) fun s e => if s.entryDiffers e.1 e.2 then s.entryApply e.1 e.2 else s
  let p := (((s.sections k).filter fun c => c.typ = 5).getLast?).elim [] fun c => (permTable (s.secBytes k c)).getD []
  (({ s with perms := p }.assignHomes).assignSlots).updStep 4

/-- The rails take their turns in ascending number; one whose swap is armed holds the activation until it is done. -/
def State.railsFrom (s : State) : List Nat → State
  | [] => s.stepThree
  | r :: t =>
    if (s.phasesOf r).isEmpty then s.railsFrom t
    else
      let s := ((s.put Hid.UPD_RAIL 0 r).mapSave).railTurn r
      if s.railPrepared r then s else s.railsFrom t

/-- The selector is written, and the rails' turns begin (R426, R428). -/
def State.activateFrom (s : State) (slot trial prior : Nat) : State :=
  let s := ((s.clr Hid.FW_NEW 0).clr Hid.FW_NEW 1).clr Hid.UPD_STALE 0
  (((s.updStep 1).selWrite slot trial prior).updStep 2).railsFrom (List.range 48)

/-- A load begins at slot choice (R334, R355, R424). -/
def State.loadRestart (s : State) : State :=
  let s := ((s.clr Reg.LOAD_STATUS.FAIL_A 0).clr Reg.LOAD_STATUS.FAIL_B 0).clr Reg.LOAD_STATUS.LOAD_FAIL 0
  ((s.put Reg.DEV_STATE.STATE 0 Dev.load).raise Reg.LOAD_STATUS.LOADING 0).slotChoice

/-- Something that an activation waits for runs: a sequence, a fuse operation, an armed swap. -/
def State.activateBusy (s : State) : Bool :=
  s.seqActive || s.on Reg.FUSE_STATUS.PROG_BUSY 0 ||
    (List.range 48).any fun r => (s.tilesOf r).any fun t => s.on Reg.RAIL_ENG_STATUS.SWAP_PEND (railIx t r)

/-- ACTIVATE (R423, R424). -/
def State.updActivate (s : State) (p : Nat) : State :=
  let k := s.updSlot
  if s.recovering then
    let s := (s.updAccept p 7 []).selWrite (k + 1) 0 0
    ((s.updComplete 7 JStatus.ok 0).updTo Upd.idle).loadRestart
  else if s.dev ≠ Dev.run && s.dev ≠ Dev.arm then s.updRefuse p 7 JStatus.badState 0 []
  else if s.activateBusy then s.updRefuse p 7 UpdSt.busy 0 []
  else if !(s.present.all fun m => s.stagedOk m) || !s.banksOk then (s.updRefuse p 7 UpdSt.stale 0 []).updTo Upd.verified
  else
    match s.liveConflict k with
    | some a => s.updRefuse p 7 UpdSt.liveConflict a []
    | none =>
      if !(s.resulting k).configRules then s.updRefuse p 7 UpdSt.rule 0 []
      else ((s.updAccept p 7 []).updTo Upd.activating).activateFrom (k + 1) 1 (s.get Reg.LOAD_STATUS.SLOT 0)

/-- ACTIVATE (R423). -/
def execUpdActivate (msg : PortMsg) (s : State) : Host.Outcome State Fault Refusal := .next (s.updSend 7 msg [Upd.prepared] State.updActivate)

/-- An activation or a revert is at a step. -/
def State.actAt (s : State) (n : Nat) : Bool := (s.upd = Upd.activating || s.upd = Upd.reverting) && s.get Hid.UPD_STEP 0 = n

/-- The rail whose turn it is has swapped: LAW_ID and LOADED_ID take the new law where one was prepared, and the next rail follows. -/
def State.activationRail (s : State) : State :=
  let r := s.get Hid.UPD_RAIL 0
  if !s.actAt 2 || decide (48 ≤ r) || (s.tilesOf r).any (fun t => s.on Reg.RAIL_ENG_STATUS.SWAP_PEND (railIx t r)) then s
  else
    let s := ((s.newLaw (s.actSlot - 1) r).filter fun l => l ≠ 0).elim s fun l =>
      (s.putRail Reg.RAIL_LAW.LAW_ID r l).putRail Reg.RAIL_LAW.LOADED_ID r l
    s.railsFrom ((List.range 48).drop (r + 1))

/-- ACTIVATION_RAIL_STEP (R426). -/
def execActivationRailStep (s : State) : Host.Outcome State Fault Refusal := .next s.activationRail

/-- A manager's firmware is placed. -/
def State.fwPlace (s : State) (m : Nat) (a b : List Byte) : State :=
  ((s.wrBytes (mgrMem m 0x10000000) a).wrBytes (mgrMem m 0x100F0000) b).put Hid.FW_HASH m (fwHash a b)

/-- From the slot that runs (R427). -/
def State.fwFlash (s : State) (m : Nat) : State :=
  match s.get Reg.LOAD_STATUS.SLOT 0 with
  | 0 => s
  | n + 1 => s.fwPlace m (s.fwBytes n 1) (s.fwBytes n 2)

/-- From the staging area, or from flash where a staged hash does not match any more. -/
def State.fwStaged (s : State) (m : Nat) : State :=
  if s.stagedOk m then
    s.fwPlace m (s.rdBytes (mgrMem m stageMfw) (s.get Hid.LEN_MFW 0)) (s.rdBytes (mgrMem m stageSfw) (s.get Hid.LEN_SFW 0))
  else (s.fwFlash m).raise Hid.UPD_STALE 0

/-- The activation reset of manager `m`. -/
def State.activationReset (s : State) (m : Nat) : State := ((((s.managerReset m).put Hid.ST_STATE m 1).awlError Awl.manager 0 m).fwStaged m).raise Hid.FW_NEW m

/-- What the device shows of the image that runs from now on. -/
def State.imageShow (s : State) (slot : Nat) : State :=
  let k := slot - 1
  let s := ((s.put Reg.LOAD_STATUS.SLOT 0 slot).put Reg.LOAD_INFO.IMAGE_VER 0 (s.hdr k 0x0C 3)).put Reg.LOAD_INFO.ROLLBACK 0 (s.hdr k 0x0F 1)
  let s := s.put Hid.IMG_CRC 0 (s.hdr k 0xFC 4)
  s.over ((s.sections k).filter fun c => s.secTile k c) fun s c => s.putAt Hid.SEC_SHA 0 c.no (beNat (sha256 (s.secBytes k c)))

/-- The last manager has restarted: a trial begins, or the revert is over (R426, R430). -/
def State.activationEnd (s : State) : State :=
  let s := (((s.imageShow s.actSlot).clr Hid.FW_NEW 0).clr Hid.FW_NEW 1).put Hid.UPD_RAIL 0 0
  let s := s.put Hid.UPD_STEP 0 0
  if s.upd = Upd.activating then
    let s := s.updComplete 7 (if s.on Hid.UPD_STALE 0 then UpdSt.stale else JStatus.ok) 0
    (s.put Hid.UPD_DEADLINE 0 (s.fullBeat + s.get Reg.UPD_CFG.HC_DEADLINE 0 * 60000000)).updTo Upd.trial
  else
    let s := s.raise Reg.UPD_STATUS.REVERTED 0
    (if s.on Hid.UPD_HOST 0 then s.updComplete 9 JStatus.ok 0 else s.updAction UpdSt.deadline).updTo Upd.idle

/-- A manager's map is restored when it returns, with its copy counted among the present ones (R416). -/
def State.mapReturn (s : State) (m : Nat) : State := ((s.raise Hid.PRESENT m).mapRestore).clr Hid.PRESENT m

/-- A manager leaves manager reset: as shadow; with no active manager and ROLE high it claims (R293, R350; DEDUCED, log entry 28). Its firmware comes from the
slot that runs, which is checked as at a start, or from the staging area in a running activation (R427). -/
def State.resetExit (s : State) (m : Nat) : State :=
  let held := s.on Hid.LBIST_ON 0 && s.get Hid.LBIST_ON 0 = 6 && m ≠ s.act
  let slot := s.get Reg.LOAD_STATUS.SLOT 0
  if !s.on Hid.POWERED m || s.on Hid.PRESENT m || s.on Hid.XTAL_STOPPED m || held || !s.on Hid.BOOT 0 || s.get Hid.ST_STATE m = 0 then s
  else if slot ≠ 0 && !s.on Hid.FW_NEW m && s.slotCheck (slot - 1) ≠ Fail.none then s
  else
    let s := (if s.on Hid.FW_NEW m then s.fwStaged m else s.fwFlash m).mapReturn m
    if s.active.isNone && !s.roleLow then ((s.raise Hid.PRESENT m).claim m).resume m else s.joinShadow m

/-- MANAGER_RESET_EXIT (R293). -/
def execManagerResetExit (m : Mgr) (s : State) : Host.Outcome State Fault Refusal := .next (s.resetExit m.val)

/-- Step 4 (R427): a ready shadow takes its activation reset first and returns; then the active manager hands over and takes its own. Without one the
active manager restarts at once. -/
def State.activationStep (s : State) (m : Nat) : State :=
  let b := peer m
  if !s.actAt 4 || !s.on Hid.PRESENT m || s.on Hid.FW_NEW m then s
  else if !s.isActive m then (if s.on Reg.REIN_STATUS.SHADOW_READY m then s.activationReset m else s)
  else if s.on Hid.PRESENT b && s.on Reg.REIN_STATUS.SHADOW_READY b then
    (if s.on Hid.FW_NEW b then (((((s.roleRelease m).raise Hid.TRIG b).takeover b true).activationReset m).activationEnd) else s)
  else if s.on Hid.FW_NEW b && s.get Hid.ST_STATE b ≠ 3 then s
  else ((s.activationReset m).resetExit m).activationEnd

/-- ACTIVATION_RESET (R427). -/
def execActivationReset (m : Mgr) (s : State) : Host.Outcome State Fault Refusal := .next (s.activationStep m.val)

/-! Trial, confirmation and return (R428 to R431). -/

/-- The trial's deadline has passed. -/
def State.trialOver (s : State) : Bool := decide (s.get Hid.UPD_DEADLINE 0 ≤ s.fullBeat)

/-- The ROLLBACK field is programmed up to the confirmed image's count, or the advance is held. -/
def State.rollbackTry (s : State) (supplyOk first : Bool) : State :=
  let n := s.get Hid.ROLL_WANT 0
  let s := s.put Hid.ROLL_AT 0 s.beat
  let why := if s.fuseHolds supplyOk true ≠ 0 then s.fuseHolds supplyOk true else if s.on Hid.FMAP_ON 0 then Fr.busy else 0
  if why ≠ 0 then
    let s := (s.raise Reg.UPD_STATUS.ROLLBACK_PEND 0).fuseRefuse why
    s.when first fun s => s.updAction UpdSt.rollbackHeld
  else s.fuseBegin FuseId.rollback 0 4 (2 ^ n - 1) For.rollback

/-- 60 s have passed since the newest try. -/
def State.rollbackDue (s : State) : Bool := decide (60000000 ≤ beatDiff s.beat (s.get Hid.ROLL_AT 0))

/-- CONFIRM: the trial ends, and the anti-rollback fuses advance where the image's count is higher (R429, R431). -/
def State.updConfirm (s : State) (p : Nat) (supplyOk : Bool) : State :=
  if s.trialOver then s.updRefuse p 8 UpdSt.deadline 0 []
  else if !s.on Reg.LBIST_STATUS.COMPLETE_ST s.act then s.updRefuse p 8 UpdSt.notTested 0 []
  else
    let s := (s.updDone p 8 []).selWrite (s.get Reg.LOAD_STATUS.SLOT 0) 0 (s.get Hid.UPD_PRIOR 0)
    let n := s.get Reg.UPD_ROLLBACK.IMAGE_RB 0
    let s := s.updTo Upd.idle
    if s.get Reg.UPD_ROLLBACK.BLOWN 0 < n then (s.put Hid.ROLL_WANT 0 n).rollbackTry supplyOk true else s

/-- HEALTH_CONFIRM (R429). -/
def execHealthConfirm (msg : PortMsg) (supplyOk : Bool) (s : State) : Host.Outcome State Fault Refusal :=
  .next (s.updSend 8 msg [Upd.trial] fun s p => s.updConfirm p supplyOk)

/-- ROLLBACK_RETRY (R431): once every 60 s a held advance is tried again, unless its operation stands in the fuse programming map. -/
def execRollbackRetry (supplyOk : Bool) (s : State) : Host.Outcome State Fault Refusal :=
  .next (if s.on Reg.UPD_STATUS.ROLLBACK_PEND 0 && s.active.isSome && s.rollbackDue && !(s.on Hid.FMAP_ON 0 && s.get Hid.FMAP_BY 0 = For.rollback) then
      s.rollbackTry supplyOk false
    else s)

/-- The entry that ends a revert: the COMPLETE of REVERT, or a device action. -/
def State.revertEntry (s : State) (st : Nat) : State := if s.on Hid.UPD_HOST 0 then s.updComplete 9 st 0 else s.updAction st

/-- The prior slot is unusable: the device keeps the trial image (R430). -/
def State.revertFail (s : State) : State :=
  let s := (s.selWrite (s.get Reg.LOAD_STATUS.SLOT 0) 0 0).raise Reg.UPD_STATUS.REVERT_FAIL 0
  (s.revertEntry UpdSt.revertFail).updTo Upd.idle

/-- The prior image cannot take effect on the running device, and waits for the next reset (R430). -/
def State.revertHold (s : State) (st : Nat) : State :=
  let s := ((s.clr Hid.UPD_STAGE 0).selWrite (s.get Hid.UPD_PRIOR 0) 0 0).raise Reg.UPD_STATUS.REVERT_PEND 0
  (s.revertEntry st).updTo Upd.idle

/-- A return to the prior image begins with the checks of its slot (R430). -/
def State.revertBegin (s : State) (host : Bool) : State :=
  let s := (s.putB Hid.UPD_HOST 0 host).updTo Upd.reverting
  let k := s.get Hid.UPD_PRIOR 0 - 1
  if s.get Hid.UPD_PRIOR 0 = 0 || s.slotCheck k ≠ Fail.none || !s.digestOk k then s.revertFail else s.raise Hid.UPD_STAGE 0

/-- REVERT (R430). -/
def execUpdRevert (msg : PortMsg) (s : State) : Host.Outcome State Fault Refusal :=
  .next (s.updSend 9 msg [Upd.trial] fun s p => (s.updAccept p 9 []).revertBegin true)

/-- TRIAL_DEADLINE (R430). -/
def execTrialDeadline (s : State) : Host.Outcome State Fault Refusal :=
  .next (if s.upd = Upd.trial && s.active.isSome && s.trialOver then s.revertBegin false else s)

/-- The prior image, prepared, is activated, unless it meets a conflict. -/
def State.revertActivate (s : State) (k : Nat) : State :=
  if (s.liveConflict k).isSome then s.revertHold UpdSt.liveConflict
  else if !(s.resulting k).configRules then s.revertHold UpdSt.rule
  else s.activateFrom (k + 1) 0 0

/-- PREPARE has ended, or the preparation of a revert (R422, R430). -/
def State.prepareComplete (s : State) (good : Bool) : State :=
  if !s.on Hid.UPD_STAGE 0 then s
  else
    let back := s.upd = Upd.reverting
    let k := s.actSlot - 1
    let s := ((s.stageFirmware k).prepareTiles k).clr Hid.UPD_STAGE 0
    if back then (if good then s.revertActivate k else s.revertHold UpdSt.flash)
    else if good then (s.updTo Upd.prepared).updComplete 6 JStatus.ok 0
    else s.updComplete 6 UpdSt.flash 0

/-- PREPARE_COMPLETE (R422). -/
def execPrepareComplete (good : Bool) (s : State) : Host.Outcome State Fault Refusal := .next (s.prepareComplete good)

end Sys2Proof.Machine
end

