-- ==== Sys2Proof/Machine/Reports.lean ====
section
/-!
DEFINITION. The dies' event reports (R309, R310, R314): the level and the DETAIL word that a source's unit gives, and what the controllers do with them.
-/
namespace Sys2Proof.Machine

/-- The word of register `f` in the first of the blocks where one of the bits is set, or in the first block. -/
def State.wordWhere (s : State) (f : Fld) (l : List Fld) (is : List Nat) : Nat :=
  s.wordOf f ((is.find? fun i => s.anyOf l i).getD (is.getD 0 0)) 0

/-- DETAIL of a source where the table gives its bits; `none` for "the unit's status bits" and other bits without a place (R309). -/
def State.detailNow (s : State) (n : Nat) : Option Nat :=
  if n < 96 then some (s.wordOf Reg.PH_STATUS.IMON_FLT n 0 % 2 ^ 10 + s.get Reg.PH_STATE.CAUSE n * 2 ^ 12)
  else if n < 192 then some (s.wordOf Reg.ENG_STATUS.OVERRUN (n - 96) 0 % 2 ^ 16)
  else if n < 240 then some (s.wordWhere Reg.RAIL_PROT_STATUS.OV_EVT railProtLine (s.railBlocks (n - 192)) % 2 ^ 16)
  else if n < 288 then
    some (s.wordWhere Reg.RAIL_SUP_STATUS.STUCK_EVT
      [Reg.RAIL_SUP_STATUS.PG_LOST_EVT, Reg.RAIL_SUP_STATUS.EN_FAIL_EVT, Reg.RAIL_SUP_STATUS.STUCK_EVT] (s.railBlocks (n - 240)) % 2 ^ 16)
  else if n < 336 then
    some (s.wordWhere Reg.CINCH_STATUS.TRIP_EVT [Reg.CINCH_STATUS.TRIP_EVT] (s.railBlocks (n - 288)) % 2 ^ 8 +
      s.wordOf Reg.FC_STATUS.PENDING (s.homeIx (n - 288)) 0 % 2 ^ 8 * 2 ^ 8)
  else if n < 384 then
    some (s.wordWhere Reg.MIRR_STATUS.HALF_LOST_EVT
      [Reg.MIRR_STATUS.HALF_LOST_EVT, Reg.MIRR_STATUS.SPLIT_EVT, Reg.MIRR_STATUS.REJOIN_REJ] (s.railBlocks (n - 336)) % 2 ^ 16)
  else if n < 408 then
    some (s.wordOf Reg.STG_GROUP_STATUS.STG_EN ((n - 384) / 6) 0 / 2 ^ 16 &&& 257 * 2 ^ ((n - 384) % 6))
  else if n < 440 then some (s.getAt Reg.TILE_VIN.VIN ((n - 408) / 8) ((n - 408) % 8) / 2)
  else if 496 ≤ n && n < 498 then some (s.rd32 (metWin s.act 0x104) >>> 16).toNat
  else if 498 ≤ n && n < 504 then some 0
  else if 568 ≤ n then some 0
  else none

/-- DETAIL of a report: what the table gives, or a free value (DEDUCED, log entry 9). -/
def State.detailOf (s : State) (n : Nat) : Nat × State :=
  match s.detailNow n with
  | some d => (d, s)
  | none => s.draw

/-- A report of source `n` with its TICK: the active manager's controller takes the line; while no manager is active, a running shadow keeps the report for
the takeover (R324). -/
def State.report (s : State) (n tick : Nat) : State :=
  let (d, s) := s.detailOf n
  let v := s.lineNow n
  match s.active with
  | some _ => s.lineSet n v d (s.tickStamp tick).1 (s.tickStamp tick).2 false
  | none =>
    if s.on Hid.PRESENT 0 || s.on Hid.PRESENT 1 then { s with evKept := s.evKept ++ [⟨n, v, d % 2 ^ 16, tick, s.beat⟩] } else s

/-- EVENT_REPORT (R310, R314). -/
def execEventReport (src : Fin 640) (tick : Word) (s : State) : Host.Outcome State Fault Refusal := .next (s.report src.val tick.toNat)

/-- The sources of a die: 0 to 3 the tiles, 4 HPD, 5 and 6 the managers with the sources that they alone observe, 7 the software lines. -/
def sourcesOf (s : State) (die : Nat) : List Nat :=
  (List.range 600).filter fun n =>
    if n < 192 then decide (tileOf (n % 96) = die)
    else if n < 384 then decide (s.home (n % 48) = die)
    else if n < 408 then decide ((n - 384) / 6 = die)
    else if n < 440 then decide ((n - 408) / 8 = die)
    else if n < 448 then decide (die = 5 + s.act)
    else if n < 480 then decide ((n - 448) / 8 = die)
    else if n < 496 then decide (die = 4)
    else if n < 504 then decide (die = 5 + s.act)
    else if n < 568 then decide (die = 5 + (n - 504) / 32)
    else decide (die = 7)

/-- The TICK of a repeated report: the controller's beat. -/
def State.tickNow (s : State) : Nat := s.beat * 100 % 2 ^ 32

/-- A die reports every line that is 1 again, in ascending source order. -/
def State.refresh (s : State) (die : Nat) : State :=
  s.over ((sourcesOf s die).filter fun n => s.lineNow n) fun s n => s.report n s.tickNow

/-- EVENT_REPORT_REFRESH (R310). -/
def execEventReportRefresh (die : Fin 8) (s : State) : Host.Outcome State Fault Refusal := .next (s.refresh die.val)

end Sys2Proof.Machine
end

