-- ==== Sys2Proof/Machine/Start.lean ====
section
/-!
DEFINITION. The start (R328 to R333, R347): fuse sensing, the broadcast block, the integrity decision, what the boot ROM does before it loads; and the
wake from Park (R355).
-/
namespace Sys2Proof.Machine

/-! Fuse sensing (R331). -/

/-- A manager that comes after the integrity decision joins as shadow when its digest is its peer's, with the firmware of the slot that runs, and holds
itself in manager reset otherwise (R328). -/
def State.lateJoin (s : State) (m : Nat) : State :=
  if s.active.isNone then s
  else if s.get Hid.SN_DIGEST m = s.get Hid.SN_DIGEST (peer m) then (((s.put Hid.ST_STATE m 1).fwFlash m).joinShadow m).mapRestore
  else s.raise Reg.LOAD_STATUS.PEER_MISMATCH 0

/-- A manager completes its fuse sensing and begins to send the broadcast block. Its root has locked meanwhile, and its reference is driven (R28, R329). -/
def State.fuseSense (s : State) (m : Nat) (vio33 : Bool) : State :=
  if !s.on Hid.POWERED m || s.on Hid.RST_LOW 0 || s.on Hid.SENSED m then s
  else
    let s := (((s.senseKeep m).raise Hid.SENSED m).put Hid.SENSE_AT m (s.get Hid.BEAT m)).when (!s.on Hid.XTAL_STOPPED m) fun s => s.refDrive m
    if s.on Hid.BOOT 0 then s.lateJoin m
    else
      let first := !s.on Hid.SENSED (peer m)
      let fresh := s.get Reg.RST_CAUSE.LAST 0 = RstCause.powerOn || s.get Reg.RST_CAUSE.LAST 0 = RstCause.mewsReturn
      (s.when (first && fresh) fun s => s.putB Hid.VIO_HIGH 0 vio33).when (first || m = 0) fun s => s.senseShow m

/-- FUSE_SENSE_DONE (R331). -/
def execFuseSenseDone (m : Mgr) (vio33 : Bool) (s : State) : Host.Outcome State Fault Refusal := .next (s.fuseSense m.val vio33)

/-! The broadcast block (R189, R331, R333). -/

/-- The managers that send: before the integrity decision those that have sensed, later the active one. -/
def State.senders (s : State) : List Nat :=
  if s.on Hid.BOOT 0 then (if s.active.isSome then [s.act] else []) else s.present.filter fun m => s.on Hid.SENSED m

/-- The fields of manager `m`'s broadcast block, in their order from bit 0; each field's bit 0 comes first (R331; DESIGN CHOICE, log entry 118). -/
def State.castFields (s : State) (m : Nat) : Nat :=
  s.get Hid.SN_ILIM m + s.get Hid.SN_OV m * 2 ^ 672 + s.get Hid.SN_IG m * 2 ^ 1152 + s.get Hid.SN_STG m * 2 ^ 1216 +
    s.get Hid.SN_PRIV m * 2 ^ 1221 + s.get Hid.SN_LIFE m * 2 ^ 1269 + s.get Hid.SN_TRIM m * 2 ^ 1273

/-- The CRC-32 of the 2 016 bits before it. -/
def castCrc (x : Nat) : Nat := (crc32 (leBytes 252 (x % 2 ^ 2016))).toNat

/-- The block that manager `m` sends: its fields, zero padding, and the CRC. -/
def State.castBlock (s : State) (m : Nat) : Nat := s.castFields m + castCrc (s.castFields m) * 2 ^ 2016

/-- A block that arrived passes its CRC. -/
def castOk (x : Nat) : Bool := decide (castCrc x = x / 2 ^ 2016)

/-- Bits of a block: the codes of ILIM_CEIL, OV_CEIL, IG_CEIL and STG_TLIM_CEIL, PRIV_MASK, LIFE_STAGE and HPD_TRIM. -/
def castIlim (x p : Nat) : Nat := x / 2 ^ (7 * p) % 128
/-- The code of OV_CEIL of a rail. -/
def castOv (x r : Nat) : Nat := x / 2 ^ (672 + 10 * r) % 1024
/-- The code of STG_TLIM_CEIL. -/
def castStg (x : Nat) : Nat := x / 2 ^ 1216 % 32
/-- The bit of PRIV_MASK of a rail. -/
def castPriv (x r : Nat) : Nat := x / 2 ^ (1221 + r) % 2
/-- LIFE_STAGE. -/
def castLife (x : Nat) : Nat := x / 2 ^ 1269 % 16
/-- HPD_TRIM. -/
def castTrim (x : Nat) : Nat := x / 2 ^ 1273 % 2 ^ 256

/-! Verdicts. -/
namespace Bc
abbrev none : Nat := 0
abbrev pass : Nat := 1
abbrev fail : Nat := 2
end Bc

/-- The copy of manager `m`. -/
def copyOf (copyA copyB m : Nat) : Nat := if m = 0 then copyA else copyB

/-- The verdict on the copies that arrive. -/
def State.verdictOn (s : State) (copyA copyB : Nat) : Nat :=
  let l := s.senders
  if l.isEmpty then Bc.none
  else if l.any (fun m => !castOk (copyOf copyA copyB m)) then Bc.fail
  else if l.length = 2 && copyA ≠ copyB then Bc.fail
  else Bc.pass

/-- The block that a receiver accepts. -/
def State.castTaken (s : State) (copyA copyB : Nat) : Nat := copyOf copyA copyB (s.senders.headD 0)

/-- A tile takes the ceilings and the privileged mask of an accepted block. -/
def State.blockToTile (s : State) (t x : Nat) : State :=
  let s := s.over (List.range 24) fun s l => s.put Reg.PH_PROT.ILIM_CEIL (t * 24 + l) (120 - castIlim x (t * 24 + l))
  let s := s.over (List.range 48) fun s r =>
    (s.put Reg.RAIL_PROT_CFG.OV_CEIL (railIx t r) (65520 - 64 * castOv x r)).put Reg.MIRR_STATUS.PRIV (railIx t r) (castPriv x r)
  s.put Reg.TILE_THERM_CTRL.STG_TLIM_CEIL t (150 - castStg x)

/-- The tile's engines take the laws that their rails name, in both banks (R107, R351). -/
def State.lawsToTile (s : State) (t : Nat) : State :=
  s.over ((List.range 24).map fun l => t * 24 + l) fun s p =>
    let r := s.railOf p
    let law := s.get Reg.RAIL_LAW.LAW_ID (railIx t r)
    if 48 ≤ r || law = 0 then s
    else
      let e := localOf p
      let s := (s.bankFill t e 0 law (lawBytes law)).bankFill t e 1 law (lawBytes law)
      let s := ((s.put Reg.ENG_CTRL.EV_EN p 0x3FFF).clr Reg.ENG_STATUS.CRC_VALID p).raise Hid.CRC_BUSY (engIx t e)
      s.put Reg.RAIL_LAW.LOADED_ID (railIx t r) law

/-- The words of engine memories of tile `t` that the image places by its register list. -/
def State.tileWords (s : State) (t n : Nat) : State :=
  s.over ((s.sections n).filter fun c => c.typ = 3 && s.secOk n c) fun s c =>
    s.over (s.regList n c) fun s e =>
      match place e.2.1 with
      | .prog u e' b j => if u = t then s.bankWord u e' b j (BitVec.ofNat 32 e.2.2) else s
      | .data u e' j => if u = t then s.wrData u e' j (BitVec.ofNat 32 e.2.2) else s
      | _ => s

/-- The active manager rewrites a tile's engine memories and parameter blocks from the booted slot (R108, R351). -/
def State.tileRewrite (s : State) (t : Nat) : State :=
  match s.get Reg.LOAD_STATUS.SLOT 0 with
  | 0 => s
  | n + 1 =>
    let s := s.over ((s.sections n).filter fun c => c.typ = 4 && c.target / 4096 = t && s.secOk n c) fun s c => s.loadEngine c.target (s.secBytes n c)
    let s := s.tileWords t n
    (s.lawsToTile t).clr Hid.BLK_BAD t

/-- A tile whose verdict passes leaves reset and calibrates its skew; after the start it is rewritten too. -/
def State.tileLeaves (s : State) (t x : Nat) : State :=
  let s := (s.blockToTile t x).skewRun t 4095
  s.when (s.on Hid.COMMITTED 0) fun s => s.tileRewrite t

/-- A tile receives the block: it judges the copies, and the CRC of its own fuse array (DEDUCED, log entry 79). -/
def State.tileReceive (s : State) (t copyA copyB : Nat) (own fused : Bool) : State :=
  let v := s.verdictOn copyA copyB
  if v = Bc.none || s.get Hid.BC_VERDICT t ≠ Bc.none || s.dev = Dev.park then s
  else
    let s := ((s.putB Hid.TILE_FUSED t fused).putB Hid.TILE_CRC_BAD t (!own)).put Hid.BC_VERDICT t (if own then v else Bc.fail)
    if !own then s.when (s.on Hid.BOOT 0) fun s => s.raise Reg.LOAD_STATUS.TILE_FUSE_FAIL 0
    else if v = Bc.pass then s.tileLeaves t (s.castTaken copyA copyB)
    else s

/-- HPD starts: buck, charger and battery pair run on the settings that it holds (R209, R329). -/
def State.hpdStart (s : State) : State :=
  if s.on Hid.HPD_GO 0 then s
  else
    let s := (s.raise Hid.HPD_GO 0).buckShow
    let s := s.when (s.get Reg.IIN_STATUS.SRCH 0 = 0) fun s => s.searchStart
    if s.bfet = 0 && s.get Reg.BFET_CTRL.MODE 0 = 1 && !s.pairFaulted then s.pairArm else s.chgEval

/-- HPD receives the block at a start. In stage RETIRED it holds buck, charger and pair off (R347). -/
def State.hpdReceive (s : State) (copyA copyB : Nat) : State :=
  let v := s.verdictOn copyA copyB
  if v = Bc.none || s.on Hid.BOOT 0 then s
  else
    let x := s.castTaken copyA copyB
    let s := s.put Hid.BC_HPD 0 v
    if v = Bc.pass then
      let s := (s.put Reg.HPD_THERM_CTRL.STG_TLIM_CEIL 0 (150 - castStg x)).put Hid.HPD_TRIM_IN 0 (castTrim x)
      s.when (ones 4 (castLife x) < Stage.retired) fun s => s.hpdStart
    else s

/-- A receiver that accepts the copy of a manager that alone sends at a start sets SINGLE. -/
def State.singleShow (s : State) (copyA copyB : Nat) : State :=
  s.when (!s.on Hid.BOOT 0 && s.senders.length = 1 && s.verdictOn copyA copyB = Bc.pass) fun s => s.raise Reg.FUSE_STATUS.SINGLE 0

/-- BROADCAST_RECEIVE (R331). -/
def execBroadcastReceive (u : Unit5) (copyA copyB : BitVec 2048) (own fused : Bool) (s : State) : Host.Outcome State Fault Refusal :=
  .next (let s := s.singleShow copyA.toNat copyB.toNat
         if u.val < 4 then s.tileReceive u.val copyA.toNat copyB.toNat own fused else s.hpdReceive copyA.toNat copyB.toNat)

/-! The integrity decision (R328, R330, R332). -/

/-- The start is a power-on start. -/
def State.freshStart (s : State) : Bool := s.get Reg.RST_CAUSE.LAST 0 = RstCause.powerOn || s.get Reg.RST_CAUSE.LAST 0 = RstCause.mewsReturn

/-- A present manager's fuses pass: every sealed field, and LIFE_STAGE is a thermometer pattern. -/
def State.fusesPass (s : State) (m : Nat) : Bool := s.on Hid.SN_OK m && thermometer (s.get Hid.SN_LIFE m)

/-- Nothing of R332 holds the device. -/
def State.integrityOk (s : State) : Bool :=
  (s.present.all fun m => s.fusesPass m) && (s.present.length < 2 || s.get Hid.SN_DIGEST 0 = s.get Hid.SN_DIGEST 1) &&
    ((List.range 4).all fun t => s.get Hid.BC_VERDICT t ≠ Bc.fail && !s.on Hid.TILE_CRC_BAD t) && s.get Hid.BC_HPD 0 ≠ Bc.fail

/-- Buck, charger and pair are held off. -/
def State.hpdHold (s : State) : State := (((s.clr Hid.HPD_GO 0).buckShow).pairOff 0).chgEval

/-- FUSE_HOLD: every tile stays in tile reset; after a power-on reset HPD is held off too. -/
def State.fuseHold (s : State) : State :=
  let s := ((s.put Reg.DEV_STATE.STATE 0 Dev.fuseHold).raise Hid.BOOT 0).when s.freshStart fun s => s.hpdHold
  s.over (List.range 4) fun s t => s.tileReset t

/-! The secure wipe's second step (R347). -/

/-- Both ferroelectric arrays are zeroed: journal, K fields, maps. -/
def State.wipeArrays (s : State) : State :=
  let s := s.resetCells fun k => k.ret = Ret.K.idx
  let s := s.over (List.range 2) fun s m => s.zeroMem (mgrMem m 0x20000000) (mgrMem m 0x20040000)
  let s := ((s.clr Hid.KSTORED 0).clr Hid.FMAP_ON 0).clr Hid.FMAP_DONE 0
  { s with jrnA := [], jrnB := [], feBad := [] }

/-- Both scratchpads are zeroed. -/
def State.wipePads (s : State) : State := s.over (List.range 2) fun s m => s.zeroMem (mgrMem m 0x10000000) (mgrMem m 0x10100000)

/-- K_ROOT_KILL, every KEY_REVOKE bit and every LIFE_STAGE step are blown on the present managers. -/
def State.wipeFuses (s : State) : State :=
  let s := s.over s.present fun s m => ((s.put Hid.FU_KILL m 7).put Hid.FU_REVOKE m 4095).put Hid.FU_LIFE m 4095
  (s.clr Hid.K_ROOT 0).put Reg.FUSE_STATUS.STAGE 0 Stage.retired

/-- The device stays in LOAD with FAIL code RETIRED, HPD held off. -/
def State.wipeResume (s : State) : State :=
  let s := ((s.wipeArrays).wipePads).wipeFuses
  let s := (s.put Reg.LOAD_STATUS.FAIL_A 0 Fail.retired).put Reg.LOAD_STATUS.FAIL_B 0 Fail.retired
  ((s.raise Reg.LOAD_STATUS.LOAD_FAIL 0).clr Reg.LOAD_STATUS.LOADING 0).hpdHold

/-- WIPE_STARTED is set on a present manager, and the stage is not RETIRED. -/
def State.wipeBegun (s : State) : Bool := (s.present.any fun m => s.on Hid.SN_WIPE m) && decide (s.get Reg.FUSE_STATUS.STAGE 0 < Stage.retired)

/-! LOAD begins. -/

/-- A start that finds REVERT_PEND boots the prior image, which the selector names already (R430). -/
def State.pendRevert (s : State) : State := s.when (s.on Reg.UPD_STATUS.REVERT_PEND 0) fun s => s.raise Reg.UPD_STATUS.REVERTED 0

/-- The boot ROM restores what the ferroelectric arrays keep of an update, and names the slot that it tries first (R416, R428, R432). -/
def State.bootSlot (s : State) : State := (((((s.mapRestore).pendRevert).updAfterReset).selRevert).slotChoice).raise Reg.LOAD_STATUS.LOADING 0

/-- The chunk buffers read as 0xFF. -/
def State.bufsClear (s : State) : State := ((s.bufClear 0).bufClear 1).bufClear 2

/-- MGR_A claims at once, MGR_B where MGR_A is absent; the other present manager starts as shadow (R330). -/
def State.rolesStart (s : State) : State :=
  let m := s.present.headD 0
  let s := s.claim m
  if s.on Hid.PRESENT (peer m) then (s.put Hid.ST_STATE (peer m) 1).joinShadow (peer m) else s

/-- Integrity passes: roles, watchdog, LOAD; a wipe that was begun goes on (R332, R347, R370). -/
def State.bootGo (s : State) : State :=
  let s := (((s.raise Hid.BOOT 0).journalRestore).rolesStart).put Reg.DEV_STATE.STATE 0 Dev.load
  let s := (s.bufsClear).when (s.on Reg.WDT_CFG.HW_START 0) fun s => s.wdtStart
  if s.wipeBegun then s.wipeResume else s.bootSlot

/-- The decision may be taken: no manager is still expected, or 2 ms have passed since a manager sensed its fuses (R328). -/
def State.decisionDue (s : State) : Bool :=
  let sensed := (List.range 2).filter fun m => s.on Hid.POWERED m && s.on Hid.SENSED m
  !sensed.isEmpty && (sensed.length = 2 || s.get Hid.POWERED 0 + s.get Hid.POWERED 1 < 2 ||
    sensed.any fun m => decide (2000 ≤ beatDiff (s.get Hid.BEAT m) (s.get Hid.SENSE_AT m)))

/-- INTEGRITY_DECISION (R332): a manager that has not sensed its fuses is absent for this start. -/
def State.integrityDecision (s : State) : State :=
  if s.on Hid.BOOT 0 || s.on Hid.RST_LOW 0 || !s.decisionDue then s
  else
    let s := s.over (List.range 2) fun s m => s.putB Hid.PRESENT m (s.on Hid.POWERED m && s.on Hid.SENSED m)
    if s.integrityOk then s.bootGo else s.fuseHold

/-- INTEGRITY_DECISION (R332). -/
def execIntegrityDecision (s : State) : Host.Outcome State Fault Refusal := .next s.integrityDecision

/-! Wake (R355). -/

/-- The wake sources that are enabled, in the bit order of PARK_CFG; the host bus always is. -/
def State.wakeEnables (s : State) : Nat :=
  1 + 2 * s.get Reg.PARK_CFG.WK_SVC 0 + 4 * s.get Reg.PARK_CFG.WK_VAUX 0 + 8 * s.get Reg.PARK_CFG.WK_RTC 0 + 16 * s.get Reg.PARK_CFG.WK_FLT 0

/-- The tile sections of the booted slot have the digests that the load kept (R337). -/
def State.tileSectionsOk (s : State) (n : Nat) : Bool :=
  (s.sections n).all fun c => !s.secTile n c || s.getAt Hid.SEC_SHA 0 c.no = beNat (sha256 (s.secBytes n c))

/-- The entries of the image that are addressed to tile registers are written again. -/
def State.tileRegs (s : State) (n : Nat) : State :=
  s.over ((s.sections n).filter fun c => c.typ = 3 && s.secOk n c) fun s c =>
    s.over ((s.regList n c).filter fun e => tileAddr e.2.1) fun s e =>
      match place e.2.1 with
      | .block b i o => (s.loadReg b i o e.2.2).getD s
      | .prog t e' b j => s.bankWord t e' b j (BitVec.ofNat 32 e.2.2)
      | .data t e' j => s.wrData t e' j (BitVec.ofNat 32 e.2.2)
      | _ => s

/-- The tiles are powered, receive the block, and calibrate. -/
def State.wakeTiles (s : State) (pass : Nat) : State :=
  s.over (List.range 4) fun s t =>
    if pass.testBit t then ((s.put Hid.BC_VERDICT t Bc.pass).blockToTile t (s.castBlock s.act)).skewRun t 4095 else s.put Hid.BC_VERDICT t Bc.fail

/-- The tiles take their settings again; a digest mismatch runs a full load instead. -/
def State.wakeSettings (s : State) : State :=
  match s.get Reg.LOAD_STATUS.SLOT 0 with
  | 0 => s.armEnter
  | n + 1 =>
    if s.tileSectionsOk n then ((s.tileRegs n).over (List.range 4) fun s t => s.tileRewrite t).armEnter
    else ((s.over (List.range 4) fun s t => s.tileReset t).clr Hid.COMMITTED 0).loadRestart

/-- The resume records of the trace and the fresh period of the watchdog. -/
def State.resumeCores (s : State) : State :=
  let e := min 0xFFFFFFFF (beatDiff s.beat (s.get Hid.PARK_BEAT 0))
  let s := s.over (List.range 4) fun s c => s.trace s.act c 7 (s.getAt Hid.CORE_PC 0 c) e
  s.when (s.on Reg.WDT_STATUS.ARMED 0) fun s => s.wdtStart

/-- WAKE (R355): an enabled source, active now or since Park entry began, leaves PARK. -/
def State.wake (s : State) (src pass : Nat) : State :=
  let w := (src ||| s.get Hid.WAKE_PEND 0) &&& s.wakeEnables
  if s.dev ≠ Dev.park || w = 0 then s
  else
    let s := (s.put Reg.PARK_CFG.WAKE_SRC (Reg.PARK_CFG.WAKE_SRC.home s.act) w).clr Hid.WAKE_PEND 0
    let s := s.when (w.testBit Wk.svc) fun s => s.put Hid.WAKE_AT 0 (s.beat + 1)
    let s := s.over ((List.range 2).filter fun m => s.on Hid.POWERED m && !s.on Hid.XTAL_STOPPED m) fun s m => s.refDrive m
    (((s.resumeCores).wakeTiles pass).hpdStart).wakeSettings

/-- WAKE (R355). -/
def execDevWake (src : BitVec 5) (pass : BitVec 4) (s : State) : Host.Outcome State Fault Refusal := .next (s.wake src.toNat pass.toNat)

end Sys2Proof.Machine
end

