-- ==== Sys2Proof/Machine/Ziluoz.lean ====
section
/-!
DEFINITION. The control laws of the Ziluoz library (R106 to R116, R140), as what one tick of an engine computes: the spec gives the arithmetic and no
program words, so a law's tick is one operation (DESIGN CHOICE, log entry 36). What the rules do not state of the image shows as free values: the data registers, the
flags and the address at which the tick ends, and the law's working words 96 to 127 of data memory.
-/
namespace Sys2Proof.Machine

/-- The library law in the bank that an engine executes; 0 is another program (R107). -/
def State.engineLaw (s : State) (t e : Nat) : Nat :=
  s.getAt Hid.BANK_LAW (engIx t (s.memSlot t e)) (s.get Reg.ENG_STATUS.BANK (s.engPhase t e))

/-! Parameters (R109, R140): unsigned, signed, or signed in the low half. -/

/-- Parameter word `k`, unsigned. -/
def State.parU (s : State) (x k : Nat) : Int := (s.getAt Hid.ZL_PAR x k : Nat)
/-- Parameter word `k`, signed. -/
def State.parS (s : State) (x k : Nat) : Int := signed 32 (s.getAt Hid.ZL_PAR x k)
/-- The low half of parameter word `k`, signed. -/
def State.parH (s : State) (x k : Nat) : Int := signed 16 (s.getAt Hid.ZL_PAR x k)

/-- An input port of the snapshot, signed. -/
def State.portS (s : State) (x k : Nat) : Int := signed 32 (s.getAt Hid.E_IN x k)

/-- Bits of an input port. -/
def State.portBits (s : State) (x k lo wid : Nat) : Nat := s.getAt Hid.E_IN x k / 2 ^ lo % 2 ^ wid

/-- The role that the ROLE port shows. -/
def State.portRole (s : State) (x : Nat) : Nat := s.portBits x 12 0 2

/-- An accumulator's value. -/
def State.accI (s : State) (x k : Nat) : Int := (s.acc x k).toInt

/-- An accumulator takes a value. -/
def State.putAccI (s : State) (x k : Nat) (v : Int) : State := s.setAcc x k (BitVec.ofInt 48 (satS 48 v))

/-- The entry (R108): the parameter words are read, SWAPPED is tested and cleared, the path is the role's. Its tick ends without an OUT.
A cycle start that fell on this tick, or one whose work was still due, does no work (DESIGN CHOICE, log entry 103). -/
def State.lawEntry (s : State) (t e x i : Nat) : State :=
  let s := s.over (List.range 96) fun s k => s.putAt Hid.ZL_PAR x k (s.rd32 (dmAddr t (s.memSlot t e) k)).toNat
  let s := (s.clr Hid.ZL_ENTRY x).putBit Reg.ENG_EV.EVW i Ev.swapped false
  ((s.clr Hid.ZL_VPREV x).clr Hid.ZL_CYC x).put Hid.ZL_ROLE x (s.portRole x)

/-! Forecast ramps of an acting lead (R140). -/

/-- One increment of the ramp. -/
def State.rampInc (s : State) (x i : Nat) (n : Int) : State :=
  s.accumulate x i 1 (s.getI Hid.ZL_RSTEP x * s.parU x 81 * n)

/-- A ramp begins: the remaining increments of one in progress are added first, and its own first increment follows. -/
def State.rampStart (s : State) (x i : Nat) (step : Int) : State :=
  let s := s.when (s.on Hid.ZL_RAMP x) fun s => s.rampInc x i (s.get Hid.ZL_RAMP x : Nat)
  let len := (s.parU x 80).toNat % 256
  if len = 0 then s.clr Hid.ZL_RAMP x
  else ((s.putI Hid.ZL_RSTEP x step).put Hid.ZL_RAMP x (len - 1)).rampInc x i 1

/-- The next increment of the ramp in progress, on the acting lead's path. -/
def State.rampTick (s : State) (x i : Nat) : State :=
  if s.get Hid.ZL_ROLE x = 1 && s.on Hid.ZL_RAMP x then (s.rampInc x i 1).put Hid.ZL_RAMP x (s.get Hid.ZL_RAMP x - 1) else s

/-! Events (R115, R140). -/

/-- What a handler does for event `j`; a lead is the acting or the standby lead. -/
def State.lawHandler (s : State) (x i j : Nat) : State :=
  let role := s.get Hid.ZL_ROLE x
  let lead := decide (role ≠ 0)
  if j = Ev.cinchTrip then (if lead then s else s.clr Hid.ZL_S x)
  else if j = Ev.cinchRel then
    (if lead then (s.putAccI x 1 (s.portS x 7 * 65536)).clr Hid.ZL_RAMP x else s.clr Hid.ZL_S x)
  else if j = Ev.fcDue then (if role = 1 then s.rampStart x i (s.getI Hid.ZL_STEP x) else s)
  else if j = Ev.fcExp then (if role = 1 then s.rampStart x i (-(s.getI Hid.ZL_STEP x)) else s)
  else if j = Ev.seqStart then
    let s := (s.clrAt Hid.E_A x 0).clr Hid.ZL_S x
    s.when lead fun s => s.clrAt Hid.E_A x 1
  else s

/-- The event that a law handles in this tick, in the order of R85. -/
def State.lawEvent (s : State) (i : Nat) : Option Nat := bevOrder.find? fun j => (s.enabledEvents i).testBit j

/-! The voltage loop of a lead (R112, R113). -/

/-- The droop of ZL_AVP, none under another law. -/
def State.lawDroop (s : State) (x law : Nat) : Int :=
  if law = 0x11 then clampI (-(s.parU x 22)) (s.parU x 22) (asr (s.portS x 2 * s.parU x 18) 16) else 0

/-- The error e against the drooped set-point. -/
def State.lawError (s : State) (x law : Nat) : Int :=
  (s.portBits x 4 0 16 : Nat) - s.lawDroop x law - (s.portBits x 0 0 16 : Nat)

/-- VSENSE of the previous tick; on the first tick after entry the present one. -/
def State.lawPrev (s : State) (x : Nat) : Int :=
  if s.get Hid.ZL_VPREV x < 2 ^ 16 then (s.portBits x 0 0 16 : Nat) else (s.get Hid.ZL_VPREV x % 2 ^ 16 : Nat)

/-- The proportional and the derivative term. -/
def State.lawPD (s : State) (x law : Nat) : Int :=
  asr (s.lawError x law * s.parU x 16) 8 + asr ((s.lawPrev x - (s.portBits x 0 0 16 : Nat)) * s.parU x 21) 8

/-- The reference before its clamp, from the accumulator as it stands. -/
def State.lawRaw (s : State) (x law : Nat) : Int :=
  asr ((s.lawPD x law + asr (s.accI x 1 + 32768) 16) * s.parU x (32 + s.portBits x 8 16 6)) 16

/-- The voltage loop of one tick: the integrator, then the reference to REFOUT. An acting lead integrates while the rail does not fire, and undoes it
where the reference was clamped (R112, R115); a standby lead sets the integrator from the acting lead's reference (R113). -/
def State.voltageLoop (s : State) (x i law : Nat) : State × Int :=
  let acting := decide (s.get Hid.ZL_ROLE x = 1)
  let integ := acting && s.portBits x 6 31 1 = 0
  let inc := s.lawError x law * s.parH x 17
  let s :=
    if integ then s.accumulate x i 1 inc
    else if acting then s
    else s.putAccI x 1 ((s.portS x 3 * (s.portBits x 8 16 6 : Nat) - s.lawPD x law) * 65536)
  let raw := s.lawRaw x law
  let ref := clampI (s.parS x 20) (s.parS x 19) raw
  let s := s.when (integ && ref ≠ raw) fun s => s.putAccI x 1 (s.accI x 1 - inc)
  (s.stage x 1 (BitVec.ofInt 32 ref), ref)

/-! The current loop of every phase (R110, R111). -/

/-- The work of a cycle start: vp, the phase's integrator, which a lead leaves while the rail fires (R115), vi; s begins again. A phase that is not ACTIVE only begins s again. -/
def State.cycleWork (s : State) (x i : Nat) : State :=
  if s.portBits x 8 0 3 ≠ Ph.active then s.clr Hid.ZL_S x
  else
    let e := s.getI Hid.ZL_S x
    let fires := s.get Hid.ZL_ROLE x ≠ 0 && s.portBits x 6 31 1 = 1
    let s := (s.putI Hid.ZL_VP x (asr (e * s.parU x 0) 16)).when (!fires) fun s => s.accumulate x i 0 (e * s.parH x 1)
    let raw := asr (s.accI x 0 + 32768) 16
    let vi := clampI (-(s.parU x 3)) (s.parU x 3) raw
    let s := s.when (vi ≠ raw) fun s => s.putAccI x 0 (vi * 65536)
    (s.putI Hid.ZL_VI x vi).clr Hid.ZL_S x

/-- The trimmed reference and the summed error of a tick. -/
def State.currentError (s : State) (x : Nat) (ref : Int) : State :=
  let r := asr (ref * (32768 + s.parS x 4)) 15 + s.parS x 5
  s.put Hid.ZL_S x (twos 32 (s.getI Hid.ZL_S x + (r - s.portS x 1)))

/-- The duty of a tick, to port 0. -/
def State.lawDuty (s : State) (x : Nat) : State :=
  let v : Int := (s.portBits x 0 0 16 : Nat) + s.getI Hid.ZL_VP x + s.getI Hid.ZL_VI x
  s.stage x 0 (BitVec.ofInt 32 (clampI 0 (s.parU x 2) (asr (v * (s.getAt Hid.E_IN x 13 : Nat)) 16)))

/-- A tick of a law after its entry: the ramp's increment, one event, the voltage loop of a lead, the current loop. The work of a cycle start waits for
the first tick without a handler (R116); a changed role takes effect in the next tick (R115). -/
def State.lawTick (s : State) (x i law : Nat) : State :=
  let s := s.rampTick x i
  let s := s.when (s.getAt Hid.E_IN x 5 ≠ 0) fun s => s.put Hid.ZL_STEP x (s.portBits x 5 16 16)
  let ev := s.lawEvent i
  let s := match ev with
    | some j => (s.lawHandler x i j).putBit Reg.ENG_EV.EVW i j false
    | none => s
  let role := s.get Hid.ZL_ROLE x
  let (s, ref) := if role = 0 then (s, s.portS x 3) else s.voltageLoop x i law
  let s := s.currentError x (if role = 1 then ref else s.portS x 3)
  let s := s.when (s.portBits x 11 16 1 = 1) fun s => s.raise Hid.ZL_CYC x
  let s := if s.on Hid.ZL_CYC x && ev.isNone then (s.cycleWork x i).clr Hid.ZL_CYC x else s
  let s := (s.lawDuty x).put Hid.ZL_VPREV x (2 ^ 16 + s.portBits x 0 0 16)
  s.when (ev = some Ev.roleChg) fun s => s.put Hid.ZL_ROLE x (s.portRole x)

/-- What the rules leave open of the image after its tick: the data registers, the flags, where it waits, and its working words (DESIGN CHOICE, log entry 36). -/
def State.lawLeaves (s : State) (t e x i : Nat) : State :=
  let m := s.memSlot t e
  let s := s.over (List.range 16) fun s k => s.draw.2.putAt Hid.E_W x k s.draw.1
  let s := s.over [Hid.E_Z, Hid.E_N, Hid.E_C, Hid.E_V] fun s f => s.draw.2.put f x s.draw.1
  let s := s.over (List.range 32) fun s k => s.draw.2.wrData t m (96 + k) (BitVec.ofNat 32 s.draw.1)
  let s := s.draw.2.put Reg.ENG_PC.WAIT_PC i s.draw.1
  (s.put Hid.E_PC x (s.get Reg.ENG_PC.WAIT_PC i + 1)).raise Hid.E_WAIT x

/-- The tick of an engine whose bank holds a library law, run as a whole; an engine that has executed instructions by command in this tick runs what the
commands name (DESIGN CHOICE, log entry 36). -/
def State.lawRun (s : State) (t e : Nat) : State :=
  let x := engIx t e
  let i := s.engPhase t e
  let law := s.engineLaw t e
  if law = 0 || !s.engReady x i || s.on Hid.E_SLOT x then s
  else
    let s := if s.on Hid.ZL_ENTRY x then s.lawEntry t e x i else s.lawTick x i law
    s.lawLeaves t e x i

end Sys2Proof.Machine
end

