-- ==== Sys2Proof/Machine/Tick.lean ====
section
/-!
DEFINITION. The boundary that begins a control tick on a tile (R73 to R76, R79 to R84, R91 to R95, R101, R114, R117, R120, R146, R159, R302). The
instructions of the tick that ends have been executed by their own commands, a library law's here; everything the tile does at the boundary follows in
the order below.
-/
namespace Sys2Proof.Machine

/-! TICK (R80). -/

/-- The beat of the active manager as its newest beat frame gave it to the tile. -/
def State.heardBeat (s : State) (t : Nat) : Option Nat :=
  if s.onAt Hid.BF_ROLE t 0 then some (s.getAt Hid.BF_BEAT t 0)
  else if s.onAt Hid.BF_ROLE t 1 then some (s.getAt Hid.BF_BEAT t 1)
  else none

/-- TICK of the tick that begins: one more, or the start of the active manager's microsecond where that is ahead. It never steps backward but for its
first value after a tile reset (DEDUCED, log entry 81). -/
def State.nextTick (s : State) (t : Nat) : Nat :=
  let n := (s.get Hid.TICK t + 1) % 2 ^ 32
  match s.heardBeat t with
  | none => n
  | some b =>
    let floor := b * 100 % 2 ^ 32
    let ahead := (floor + 2 ^ 32 - n) % 2 ^ 32
    if ahead < 2 ^ 31 || !s.on Hid.TICK_SET t then floor else n

/-! What a manager wrote to data memory (R91). -/

/-- The writes that wait for the tile's boundary, oldest first. -/
def State.arrived (s : State) (t : Nat) : List (Nat × Word) := (s.dmPend.filter fun w => w.1 = t).map fun w => w.2

/-- They take effect. -/
def State.dataWrites (s : State) (t : Nat) : State :=
  { s with dmPend := s.dmPend.filter fun w => w.1 ≠ t }.over (s.arrived t) fun s w => s.wrEng w.1 (wordBytes w.2)

/-! Commitment (R74, R81). -/

/-- The staged value of a port, if the program wrote one. -/
def State.staged (s : State) (x port : Nat) : Option Nat := if s.onAt Hid.E_STGW x port then some (s.getAt Hid.E_STG x port) else none

/-- The DUTY port commits within 0 and the whole period; between the edges of a pulse the channel applies it at once, and to
the cycle of a fire, whose end compares with it (R41, R42, R81, R82, R128). -/
def State.commitDuty (s : State) (p v : Nat) : State :=
  let per := s.get Reg.RAIL_PWM.PER_ACT (railIx (tileOf p) (s.railOf p))
  let s := s.put Hid.DUTY p (clampI 0 (per * 16 : Nat) (signed 32 v)).toNat
  if s.ph p = Ph.active && (s.on Hid.FIRED p || (s.get Hid.PWM_LVL p = Pwm.pulse.num && s.inOnTime p)) then s.setOnTime p else s

/-- The staged outputs of an engine at a waiting boundary become the ports' values. -/
def State.commitPorts (s : State) (x p : Nat) : State :=
  let follower := decide (s.get Reg.ENG_STATUS.ROLE p = 0)
  let s := match s.staged x 0 with
    | some v => s.commitDuty p v
    | none => s
  let s := match s.staged x 1 with
    | some v => if follower then s.raise Reg.ENG_STATUS.REF_IGN p else s.put Hid.REFOUT p v
    | none => s
  let s := match s.staged x 2 with
    | some v => s.put Reg.ENG_USER.USER p v
    | none => s
  let s := match s.staged x 3 with
    | some v => s.put Hid.MARK p v
    | none => s
  s.over (List.range 4) fun s k => s.clrAt Hid.E_STGW x k

/-! The reference (R93 to R95). -/

/-- The phase whose engine is the rail's acting lead on a tile. -/
def State.actingHere (s : State) (t r : Nat) : Option Nat := (s.phasesOn t r).find? fun p => s.roleOf p = 1

/-- The acting lead's reference of this boundary joins the history; it renews where the lead waited at the boundary (DEDUCED, log entry 80). -/
def State.refUpdate (s : State) (t r : Nat) (waited : Nat → Bool) : State :=
  match s.actingHere t r with
  | none => s
  | some p =>
    let i := railIx t r
    let age := if waited p then 0 else s.getAt Hid.REF_AGE i 0 + 1
    let s := s.over [5, 4, 3, 2, 1] fun s k =>
      (s.putAt Hid.REF_HIST i k (s.getAt Hid.REF_HIST i (k - 1))).putAt Hid.REF_AGE i k (s.getAt Hid.REF_AGE i (k - 1))
    (s.putAt Hid.REF_HIST i 0 (s.get Hid.REFOUT p)).putAt Hid.REF_AGE i 0 (min 15 age)

/-- REF_ALIGN delays the reference by five ticks on the home tile of a cross-tile rail (R93). -/
def State.refDelay (s : State) (t r : Nat) : Nat :=
  if t = s.home r && s.on Reg.RAIL_ENG_CFG.REF_ALIGN (railIx t r) && (s.partner r).isSome then 5 else 0

/-- REFIN of the rail's engines on a tile. -/
def State.refIn (s : State) (t r : Nat) : Int :=
  if (s.actingHere t r).isSome then s.getIAt Hid.REF_HIST (railIx t r) (s.refDelay t r) else s.slotIn t r

/-- REF_AGE on a tile. -/
def State.refAge (s : State) (t r : Nat) : Nat :=
  if (s.actingHere t r).isSome then min 15 (s.getAt Hid.REF_AGE (railIx t r) (s.refDelay t r) + 1 + s.refDelay t r)
  else min 15 (6 + s.slotAge t r)

/-- REF_STALE on a tile. -/
def State.refStale (s : State) (t r : Nat) : Bool := (s.actingHere t r).isNone && decide (s.slotAge t r ≠ 0)

/-- PART_AGE on a tile; without a partner sum it is 0. -/
def State.partAge (s : State) (t r : Nat) : Nat :=
  if t = s.home r && (s.partner r).isSome && !s.alone t r then min 15 (6 + s.slotAge t r) else 0

/-! The input ports (R79). -/

/-- FCAST of the rail on a tile (R137). -/
def State.fcastPort (s : State) (t r : Nat) : Nat :=
  let i := railIx t r
  if s.on Reg.FC_STATUS.PENDING i && s.serves t r then
    twos 16 (s.getI Hid.FCP_STEP i) * 2 ^ 16 +
      (if tickReached (s.get Hid.FCP_D i) (s.get Hid.TICK t) then 0
       else (s.get Hid.FCP_D i + 2 ^ 32 - s.get Hid.TICK t) % 2 ^ 16)
  else 0

/-- One input port of phase `p`'s engine at the boundary. -/
def State.portValue (s : State) (p port : Nat) : Nat :=
  let t := tileOf p
  let r := s.railOf p
  let i := railIx t r
  let sensed := t = s.home r || s.mirrored r
  match port with
  | 0 => s.vsense t r
  | 1 => twos 32 (s.iph p)
  | 2 => twos 32 (s.isum t r)
  | 3 => twos 32 (s.refIn t r)
  | 4 => s.vset t r
  | 5 => s.fcastPort t r
  | 6 => s.get Hid.C_FIRE i * 2 ^ 31 + s.get Hid.REL_NOW i * 2 ^ 30 + s.get Hid.TRIP_AGE i
  | 7 => s.get Hid.CP_FULL i
  | 8 => s.nActive t r * 2 ^ 16 + s.nParked t r * 2 ^ 8 + s.ph p
  | 9 => (s.refStale t r).toNat * 2 ^ 20 + s.partAge t r * 2 ^ 16 + (if sensed then 2 else 0) * 2 ^ 12 + s.refAge t r * 2 ^ 8 +
      s.get Hid.IPH_AGE p
  | 10 => s.get Hid.TICK t
  | 11 => s.get Reg.RAIL_PWM.PER_ACT i * 2 ^ 18 + s.get Hid.CYC_NOW i * 2 ^ 16 + s.get Hid.CYC_CNT i
  | 12 => s.get Reg.ENG_STATUS.BANK p * 8 + s.get Reg.PH_STATE.ON_SPARE p * 4 + s.get Reg.ENG_STATUS.ROLE p
  | _ => s.get Hid.FFGAIN p

/-- The snapshot of an engine. -/
def State.snapshot (s : State) (x p : Nat) : State := s.over (List.range 14) fun s k => s.putAt Hid.E_IN x k (s.portValue p k)

/-! Engines at the boundary (R73, R75, R97). -/

/-- The engines of a tile that run and serve a phase, each slot with its phase. -/
def State.servingEngines (s : State) (t : Nat) : List (Nat × Nat) :=
  ((List.range 25).map fun e => (e, s.engPhase t e)).filter fun ep => decide (ep.2 < 96) && s.on Hid.E_RUN (engIx t ep.1)

/-- The engine waits at this boundary: it executed WAITT in the tick that ends, or has just started. -/
def State.waits (s : State) (t e : Nat) : Bool := s.on Hid.E_WAIT (engIx t e)

/-- The engine's role is looked at, and a change latches ROLE_CHG (R95). -/
def State.roleUpdate (s : State) (p : Nat) : State :=
  if s.get Reg.ENG_STATUS.ROLE p = s.roleOf p then s else (s.put Reg.ENG_STATUS.ROLE p (s.roleOf p)).event p Ev.roleChg

/-- The engine's pending events latch, and none is pending (R73, R84). -/
def State.latchEvents (s : State) (p : Nat) : State :=
  (s.put Reg.ENG_EV.EVW p (s.get Reg.ENG_EV.EVW p ||| s.get Reg.ENG_EV.PENDING p)).clr Reg.ENG_EV.PENDING p

/-- A waiting boundary after the outputs have committed: events, snapshot, a late bank swap, the checkpoint; the engine resumes. The snapshot of a
swap's own boundary still shows the old bank in ROLE[3] (DESIGN CHOICE, log entry 103). -/
def State.waitingBoundary (s : State) (x p : Nat) : State :=
  let s := ((s.latchEvents p).snapshot x p).clr Reg.ENG_STATUS.OVR_RUN p
  let s := ((s.raise Hid.E_FRESH x).clr Hid.E_WAIT x).clr Hid.E_SLOT x
  let s := if s.on Hid.E_LATE x then (s.swapEngine p).raise Reg.ENG_STATUS.SWAP_LATE p else s
  s.checkpoint x p

/-- An overrun (R75). -/
def State.overrun (s : State) (x p : Nat) : State :=
  let s := ((s.raise Reg.ENG_STATUS.OVERRUN p).bump Reg.ENG_COUNTS.OVERRUN_COUNT p).bump Reg.ENG_STATUS.OVR_RUN p
  (s.clr Hid.E_FRESH x).clr Hid.E_SLOT x

/-! The spare (R98, R101, R104). -/

/-- The stages of a takeover and of a handback: the checkpoint loads in the first tick, the engine takes its snapshot at the next boundary.
It does not run for a phase that went OFF or BLOCKED meanwhile (R71). -/
def State.moveStage (s : State) (t : Nat) : State :=
  let k := s.get Reg.SPARE_STATUS.FOR t
  if s.get Hid.HANDING_OVER t = 1 then s.put Hid.HANDING_OVER t 2
  else if s.get Hid.HANDING_OVER t = 2 then (s.put Hid.HANDING_OVER t 3).when (!s.idlePh (t * 24 + k)) fun s => s.raise Hid.E_RUN (engIx t 24)
  else if s.get Hid.HANDING_BACK t = 1 then s.put Hid.HANDING_BACK t 2
  else if s.get Hid.HANDING_BACK t = 2 then (s.put Hid.HANDING_BACK t 3).when (!s.idlePh (t * 24 + k)) fun s => s.raise Hid.E_RUN (engIx t k)
  else s

/-- The spare while it stands by runs the program in its own memory: from word 0 of its bank when it begins, its outputs nowhere. What its input ports
carry is not stated: free values (DESIGN CHOICE, log entry 37). -/
def State.standBy (s : State) (t : Nat) : State :=
  let x := engIx t 24
  if s.spareServes t || s.on Hid.HANDING_BACK t then s
  else if s.on Hid.SPARE_BAD t then s.clr Hid.E_RUN x
  else
    let fresh := !s.on Hid.E_RUN x
    let s := if fresh then ((s.raise Hid.E_RUN x).clr Hid.E_PC x).raise Hid.E_WAIT x else s
    let s := s.over (List.range 4) fun s k => s.clrAt Hid.E_STGW x k
    if s.on Hid.E_WAIT x then
      (s.over (List.range 14) fun s k => s.draw.2.putAt Hid.E_IN x k s.draw.1).clr Hid.E_WAIT x |>.clr Hid.E_SLOT x
    else s.clr Hid.E_SLOT x

/-! The rails at the boundary. -/

/-- The throttle decision of a rail, in one tick of the tile that runs it: throttled while this tile is at throttle, or the partner's slot flag says that it
is. On both tiles the decision of tick d waits for tick d + 16 (R204). -/
def State.throttleTick (s : State) (t r : Nat) : State :=
  let s := s.when (s.on Hid.THR_WAIT (railIx t r) && tickReached (s.getAt Hid.THR_TICK 0 r + 16) (s.get Hid.TICK t)) fun s =>
    s.clr Hid.THR_WAIT (railIx t r)
  let want := s.on Hid.THR_ON t || (!s.alone t r && s.slotFlag t r 4)
  if t ≠ s.leadTile r || s.onAt Hid.THR_WANT 0 r = want then s
  else ((s.putAt Hid.THR_WANT 0 r want.toNat).putAt Hid.THR_TICK 0 r (s.get Hid.TICK t)).putRail Hid.THR_WAIT r 1

/-- A mirrored rail's voltage condition with both halves present: it holds on the tile's own channel and the partner's flag for it, bit `b` of the slot,
arrived for this tick (R195). -/
def State.bothHold (s : State) (t r b : Nat) (own : Bool) : Bool :=
  if s.mirrored r && !s.alone t r then own && s.slotArrived t r b else own

/-- One channel alone holds the condition (R195). -/
def State.oneHolds (s : State) (t r b : Nat) (own : Bool) : Bool := s.mirrored r && !s.alone t r && own != s.slotArrived t r b

/-- One condition of a rail for one tick: for how many ticks it has held; once it no longer holds it may be confirmed again. -/
def State.condition (s : State) (n : Fld) (i b : Nat) (holds : Bool) : State :=
  if holds then s.bump n i else (s.clr n i).putBit Hid.CONF i b false

/-- The tile's own channel is above the rail's overvoltage limit (R196). -/
def State.ovHere (s : State) (t r : Nat) : Bool := decide (s.ovLimEff (railIx t r) < s.vsense t r)

/-- The tile's own channel is UV_PCT below the window reference (R196). -/
def State.uvHere (s : State) (t r : Nat) : Bool :=
  decide (((s.vsense t r : Nat) : Int) * 200 < s.windowRef t r * (200 - (s.get Reg.RAIL_UV.UV_PCT (railIx t r) : Int)))

/-- The conditions of a regulated rail for one tick, on the tile that runs it (R195, R196): none is watched while the rail is off; undervoltage is blanked until
SEQ_DONE and from SEQ_STOP, overcurrent until SEQ_DONE. -/
def State.protectTick (s : State) (t r : Nat) : State :=
  let i := railIx t r
  let on := decide (s.rs r ≠ Rs.off)
  let ov := on && s.ovHere t r
  let uv := on && s.uvHere t r
  let s := s.condition Hid.OV_N i 0 (s.bothHold t r 2 ov)
  let s := s.condition Hid.UV_N i 1 (s.bothHold t r 3 uv && s.on Hid.SP_DONE i && s.running r)
  let s := s.condition Hid.ROC_N i 2 (on && s.on Hid.SS_DONE i && decide ((s.get Reg.RAIL_OC.OCL i : Int) * 16 < s.isum t r))
  (s.streak Hid.CHD_OV_N i 0 (on && s.oneHolds t r 2 ov)).streak Hid.CHD_UV_N i 0 (on && s.oneHolds t r 3 uv)

/-- The home tile's overvoltage response reaches the other tile with the slot's flag: its phases go to mid (R197). -/
def State.overvoltageFollow (s : State) (t r : Nat) : State :=
  if t ≠ s.leadTile r && s.stopping r && s.slotArrived t r 2 then s.holdMid ((s.phasesOn t r).filter fun p => !s.on Hid.HELD p) else s

/-- The configured rails that a tile homes or carries phases of. -/
def State.railsAt (s : State) (t : Nat) : List Nat :=
  (List.range 48).filter fun r => s.kindOf r ≠ 0 && (s.tilesOf r).contains t

/-- A count of ticks that runs down. -/
def State.countDown (s : State) (f : Fld) (i : Nat) : State := s.put f i (s.get f i - 1)

/-- The 25 µs after a half loss run down; the last count stands until the hold ends (R280). -/
def State.lossTick (s : State) (i : Nat) : State := s.when (decide (1 < s.get Hid.LOSS_ARM i)) fun s => s.countDown Hid.LOSS_ARM i

/-- A tile's PG pins, each behind a deglitch of 1 µs (R167). -/
def State.pgPins (s : State) (t pg : Nat) : State :=
  s.over (List.range 4) fun s k =>
    if pg.testBit k = s.bit Hid.PG_PIN t k then s.clrAt Hid.PG_PIN_N t k
    else
      let s := s.bumpAt Hid.PG_PIN_N t k
      if s.getAt Hid.PG_PIN_N t k < 100 then s else (s.clrAt Hid.PG_PIN_N t k).putBit Hid.PG_PIN t k (pg.testBit k)

/-- VSENSE lies in the rail's PG window: around the window reference of a regulated rail, around VSET_TGT of a watched one (R168). -/
def State.inPgWindow (s : State) (t r : Nat) : Bool :=
  let i := railIx t r
  let ref : Int := if s.kindOf r = 2 then (s.get Reg.RAIL_SETPT.VSET_TGT i : Nat) else s.windowRef t r
  let v : Int := (s.vsense t r : Nat)
  decide (ref * (200 - (s.get Reg.RAIL_SUP_CFG.PG_LO i : Int)) ≤ v * 200) &&
    decide (v * 200 ≤ ref * (200 + (s.get Reg.RAIL_SUP_CFG.PG_HI i : Int)))

/-- The PG pin of a watched rail means good (R167). -/
def State.pgPinGood (s : State) (t r : Nat) : Bool :=
  let i := railIx t r
  s.bit Hid.PG_PIN t (s.get Reg.RAIL_SUP_CFG.EN_IDX i) == s.on Reg.RAIL_SUP_CFG.PG_POL i

/-- The PG condition: the window for a regulated rail; the pin, the window or both for a watched one, as PG_SRC chooses (R168). -/
def State.pgCondition (s : State) (t r : Nat) : Bool :=
  if s.kindOf r ≠ 2 then s.inPgWindow t r
  else
    match s.get Reg.RAIL_SUP_CFG.PG_SRC (railIx t r) with
    | 0 => s.pgPinGood t r
    | 1 => s.inPgWindow t r
    | _ => s.pgPinGood t r && s.inPgWindow t r

/-- One tick of the PG condition: for how long it has held, or failed (R169). -/
def State.pgTick (s : State) (t r : Nat) : State :=
  let i := railIx t r
  if s.pgCondition t r then (s.bump Hid.PG_GOOD_N i).clr Hid.PG_FAIL_N i else (s.bump Hid.PG_FAIL_N i).clr Hid.PG_GOOD_N i

/-- V1 and V2 of a pre-start test are the means of the 64 values of VSENSE up to 10 µs and up to 60 µs of the test (R63, R146; DEDUCED, log entry 108). -/
def State.prestartSense (s : State) (t r : Nat) : State :=
  let age := s.prestartAge r
  let s := s.when (decide (1000 < age + 64) && decide (age ≤ 1000)) fun s => s.putAt Hid.PS_V1 0 r (s.getAt Hid.PS_V1 0 r + s.vsense t r)
  s.when (decide (6000 < age + 64) && decide (age ≤ 6000)) fun s => s.putAt Hid.PS_V2 0 r (s.getAt Hid.PS_V2 0 r + s.vsense t r)

/-! The slot of a cross-tile rail at the boundary (R22, R46, R57). -/

/-- A park or an add of the load rule that the slot's flag brings takes effect on the phase. -/
def State.loadArrive (s : State) (p : Nat) : State :=
  let k := s.get Hid.LOAD_SIG p
  let s := s.clr Hid.LOAD_SIG p
  if k = 2 then s.addParked p
  else s.when (s.ph p = Ph.active && s.get Hid.MARK_MID p = 0) fun s => s.put Hid.MARK_MID p 1

/-- The partner tile compares the home tile's cycle start, six ticks old, with its own: a difference is corrected by one tap at the next cycle start,
back where its own start came first (R46; DEDUCED, log entry 124). -/
def State.cycleCompare (s : State) (i : Nat) : State :=
  let own := s.get Hid.CYC_OWN i
  let agrees := own.testBit 5
  (s.putB Hid.CYC_ERR i !agrees).put Hid.CYC_FIX i (if agrees then 0 else if own / 64 % 16 ≠ 0 then 1 else 2)

/-- The rail's received slot at a boundary: a valid one counts as fresh, and its flags act; without one the reference is a tick older. -/
def State.slotBoundary (s : State) (t r : Nat) : State :=
  (s.slotEntry t r).elim s fun x =>
    let fresh := decide (s.getAt Hid.SLOT_NEW t x = 2)
    let flags := s.getAt Hid.SLOT_FLAGS t x
    let s :=
      if fresh then s.when (decide (s.getAt Hid.SLOT_RUN t x < 1000)) fun s => s.bumpAt Hid.SLOT_RUN t x
      else
        let s := s.when (s.getAt Hid.SLOT_NEW t x = 0) fun s => s.putAt Hid.SLOT_SEQ t x (s.getAt Hid.SLOT_SEQ t x + 1)
        (s.bumpAt Hid.SLOT_AGE t x).clrAt Hid.SLOT_RUN t x
    let s := (s.clrAt Hid.SLOT_NEW t x).putAt Hid.SLOT_GAP t x (s.getAt Hid.SLOT_GAP t x - 1)
    let s := s.when (fresh && flags.testBit 0 && decide (t ≠ s.home r)) fun s => s.cycleCompare (railIx t r)
    if fresh && flags.testBit 7 then
      s.over ((s.phasesOn t r).filter fun p =>
        s.on Hid.LOAD_SIG p && decide (6 ≤ (s.get Hid.TICK t + 2 ^ 32 - s.get Hid.LOAD_AT p) % 2 ^ 32)) fun s p => s.loadArrive p
    else s

/-- The rail's cycle counter advances by one tick of 16 counts, past the end of a period by what is left of the tick, and takes a tap's correction
at a cycle start. At the start tick that was named it begins from 0 (R45, R46). -/
def State.cycleAdvance (s : State) (t r : Nat) : State :=
  let i := railIx t r
  let started := s.get Hid.CYC_NOW i
  let s := s.put Hid.CYC_OWN i (s.get Hid.CYC_OWN i * 2 + started)
  let at_ := s.get Hid.CYC_AT i
  if at_ ≠ 0 && tickReached (at_ - 1) (s.get Hid.TICK t) then
    (((s.clr Hid.CYC_AT i).clr Hid.CYC_CNT i).clr Hid.CYC_TAP i).clr Hid.CYC_FIX i
  else
    let per := (if started = 1 then s.get Hid.CYC_WRAP i else s.get Reg.RAIL_PWM.PER_ACT i) * 16
    let c := s.cycTaps i + 256
    let c := if per ≤ c then c - per else c
    let c := if started = 1 && s.get Hid.CYC_FIX i = 1 then c - 1 else if started = 1 && s.get Hid.CYC_FIX i = 2 then c + 1 else c
    let s := s.when (started = 1) fun s => s.clr Hid.CYC_FIX i
    (s.put Hid.CYC_CNT i (c / 16)).put Hid.CYC_TAP i (c % 16)

/-- The load rule's conditions on the tile that runs it: the ticks for which each has held (R57, R58). -/
def State.loadCount (s : State) (t r : Nat) : State :=
  let i := railIx t r
  if t ≠ s.leadTile r then s else
    let n : Int := s.nActive t r
    let x := s.isum t r
    let below : Int := s.get Reg.RAIL_SHED.SHED_BELOW i
    let park := decide (below ≠ 0) && decide (2 ≤ n) && decide (x < below * 16 * (n - 1))
    let add := decide ((s.get Reg.RAIL_SHED.ADD_ABOVE i : Int) * 16 * n < x)
    let s := if park then s.bump Hid.DWELL i else s.clr Hid.DWELL i
    let s := if add then s.when (decide (s.get Hid.ADD_HELD i < 100)) (fun s => s.bump Hid.ADD_HELD i) else s.clr Hid.ADD_HELD i
    (s.clr Hid.ADD_NOW i).over ((s.phasesOf r).filter fun p => s.on Hid.MARK_NEW p) fun s p => s.clr Hid.MARK_NEW p

/-- A rail's per-tick hardware on a tile before the engines: its slot, the cycle counter, the set-point generator, the window reference, the counts of
ticks. -/
def State.railBefore (s : State) (t r : Nat) : State :=
  let i := railIx t r
  let s := ((((s.slotBoundary t r).cycleAdvance t r).bump Hid.TRIP_AGE i).windowTick i).loadCount t r
  let s := ((s.countDown Hid.SP_QUIET i).lossTick i).spStep t r
  let s := s.when (s.onAt Hid.PRESTART 0 r && decide (t = s.leadTile r)) fun s => s.prestartSense t r
  let s := s.when (decide (s.kindOf r = 1)) fun s => (((s.windowUpdate t r).throttleTick t r).overvoltageFollow t r).when
    (decide (t = s.leadTile r)) fun s => s.protectTick t r
  s.when (decide (t = s.leadTile r)) fun s => s.pgTick t r

/-- The flags of the rail's outgoing slot, from bit 0 up: CYCLE, the Cinch wire, overvoltage (the tile's own channel, to the tile that runs the rail; the
response, from it), undervoltage on the tile's own channel, throttle, HALF_DOWN, the high discharge level, a load-rule mark (R46, R132, R195, R197, R204, R279, R175, R57; DESIGN CHOICE, log entry 38; DESIGN CHOICE, log entry 40). -/
def State.slotFlags (s : State) (t r : Nat) : Nat :=
  let i := railIx t r
  let lead := decide (t = s.leadTile r)
  let thr := if lead then s.onAt Hid.THR_WANT 0 r else s.on Hid.THR_ON t
  let mark := (s.phasesOf r).any fun p => tileOf p ≠ t && s.on Hid.LOAD_SIG p
  s.get Hid.CYC_NOW i + 2 * s.get Hid.C_WIRE i + 4 * (if lead then s.onAt Hid.OV_OFF 0 r else s.ovHere t r).toNat +
    8 * (s.uvHere t r).toNat + 16 * thr.toNat + 32 * s.get Hid.HALF_DOWN i +
    64 * s.get Reg.RAIL_SUP_STATUS.DIS_HIGH i + 128 * mark.toNat

/-- The tile commits the rail's slot: the home tile's carries the acting lead's reference, the partner tile's its half's current sum (R21, R94; DEDUCED,
log entry 101). The words of the last eight ticks are kept, for their arrival. -/
def State.slotCommit (s : State) (t r : Nat) : State :=
  let j := s.getAt Hid.SLOT_OF 0 r
  match s.partner r with
  | none => s
  | some q =>
    if 8 ≤ j then s
    else
      let other := if t = s.home r then q else s.home r
      let x := slotIx (decide (t < other)) j
      let ref := if t = s.home r then (s.actingHere t r).elim 0 fun p => s.get Hid.REFOUT p else twos 16 (s.partnerSum t r)
      let e := ringIx x (s.get Hid.TICK t)
      let s := ((s.putAt Hid.SLOT_H_REF t e ref).putAt Hid.SLOT_H_FLAGS t e (s.slotFlags t r)).putAt Hid.SLOT_H_SEQ t e (s.getAt Hid.SLOT_TX_SEQ t x)
      (s.putAt Hid.SLOT_H_TICK t e (s.get Hid.TICK t + 1)).putAt Hid.SLOT_TX_SEQ t x (s.getAt Hid.SLOT_TX_SEQ t x + 1)

/-- What a rail does after the engines: its slot, its telemetry, and the marks of the past tick are over. -/
def State.railAfter (s : State) (t r : Nat) : State :=
  let i := railIx t r
  let s := s.slotCommit t r
  let s := s.when (s.serves t r) fun s => s.telemetryTick t r
  (s.clr Hid.CYC_NOW i).clr Hid.REL_NOW i

/-- A sense channel that is not LOST forms its value from the samples of the tick that ends (R146, R152). -/
def State.senseAll (s : State) (t : Nat) (levels : List (Level × Level)) (spare : Level) : State :=
  s.over ((levels.take 12).zipIdx.filter fun c => !s.onAt Reg.CHAN_STATE.LOST t c.2) fun s c => s.senseLevels t c.2 c.1.1 c.1.2 spare

/-- FFGAIN of a tile's phases is refreshed at every hundredth tick (R79). -/
def State.ffgainRefresh (s : State) (t : Nat) : State :=
  if s.get Hid.TICK t % 100 = 0 then
    s.over ((phasesOfTile t).filter fun p => s.railOf p < 48) fun s p => s.put Hid.FFGAIN p (s.ffgain p)
  else s

/-- The hardware of a tile before its engines. -/
def State.tileBefore (s : State) (t : Nat) (levels : List (Level × Level)) (spare : Level) (pg : Nat) : State :=
  let s := ((s.put Hid.TICK t (s.nextTick t)).when (s.heardBeat t).isSome fun s => s.raise Hid.TICK_SET t).senseAll t levels spare
  let s := (s.pgPins t pg).bump Hid.SILENT_N t
  let s := s.over (phasesOfTile t) fun s p => ((s.bump Hid.IPH_AGE p).clr Hid.MID_TICK p).clr Hid.HADD_TICK p
  let s := s.over (s.railsAt t) fun s r => s.railBefore t r
  s.ffgainRefresh t

/-- The engines of a tile at the boundary: every waiting engine commits, the references follow, then each engine's boundary. -/
def State.engineBoundaries (s : State) (t : Nat) : State :=
  let moved := s.get Hid.HANDING_OVER t = 2 || s.get Hid.HANDING_BACK t = 2
  let s := s.moveStage t
  let l := s.servingEngines t
  let w := l.filter fun ep => s.waits t ep.1
  let loaded := t * 24 + s.get Reg.SPARE_STATUS.FOR t
  let s := s.over w fun s ep => s.commitPorts (engIx t ep.1) ep.2
  let s := s.over l fun s ep => s.roleUpdate ep.2
  let s := s.over (s.railsAt t) fun s r => s.refUpdate t r fun p => (w.any fun ep => ep.2 = p) && !(moved && p = loaded)
  let s := s.over w fun s ep => s.waitingBoundary (engIx t ep.1) ep.2
  (s.over (l.filter fun ep => !w.contains ep) fun s ep => s.overrun (engIx t ep.1) ep.2).standBy t

/-- The engines that capture records as waiting, and the MARK outputs that this boundary commits. -/
def State.marksNow (s : State) (t : Nat) : List (Nat × Nat) :=
  (s.servingEngines t).filterMap fun ep => if s.waits t ep.1 then (s.staged (engIx t ep.1) 3).map fun v => (ep.1, v) else none

/-- Copies of words of the engine memories are upset (R89). -/
def State.upsets (s : State) (t : Nat) (l : List (Slot × BitVec 12 × Upset)) : State :=
  s.over (l.filter fun u => decide (u.2.1.toNat < 2560) && decide (u.2.2 ≠ .clean)) fun s u =>
    let a := engMem t u.1 + u.2.1.toNat * 4
    { s.repaired a with ecc := (a, u.2.2) :: (s.repaired a).ecc }

/-- The boundary that begins a tick of a tile. -/
def State.tickBoundary (s : State) (t : Nat) (levels : List (Level × Level)) (spare : Level) (pg : Nat)
    (upsets : List (Slot × BitVec 12 × Upset)) : State :=
  let s := s.upsets t upsets
  let s := s.over (List.range 25) fun s e => s.lawRun t e
  let writes := s.arrived t
  let marks := s.marksNow t
  let s := ((s.dataWrites t).tileBefore t levels spare pg).engineBoundaries t
  let s := s.over (s.railsAt t) fun s r => s.railAfter t r
  s.capTick t writes marks fun e => s.on Hid.E_FRESH (engIx t e)

/-- The tile runs: its verdict has taken it out of reset, Park has not turned it off, and no logic self-test holds it (R299, R329, R354). -/
def State.tileRuns (s : State) (t : Nat) : Bool :=
  decide (s.get Hid.BC_VERDICT t = 1) && decide (s.dev ≠ Dev.park) && decide (s.get Hid.LBIST_ON 0 ≠ t + 1)

/-- TICK_BOUNDARY (R73). -/
def execTickBoundary (t : Tile) (levels : List (Level × Level)) (spare : Level) (pg : BitVec 4)
    (upsets : List (Slot × BitVec 12 × Upset)) (s : State) : Host.Outcome State Fault Refusal :=
  .next (if s.tileRuns t.val then s.tickBoundary t.val levels spare pg.toNat upsets else s)

end Sys2Proof.Machine
end

