-- ==== Sys2Proof/Machine/Snapshot.lean ====
section
/-!
DEFINITION. Snapshots (R179, R180). What every die latched at tick T stands in `snapBuf`: TICK, beat and device state, then the record from offset 0x40 to
the CRC; the rest of the header joins it when the record is complete.
-/
namespace Sys2Proof.Machine

/-- SNAP_TAKE (R179). -/
def execSnapTake (w : Who) (s : State) : Host.Outcome State Fault Refusal :=
  .next ((s.jDone w Reg.SNAP_CTRL.TAKE 0 noTarget).snapTrigger SnapCause.host noRail)

/-! What the dies latch. -/

/-- A signed value in `n` bytes. -/
def leInt (n : Nat) (x : Int) : List Byte := leBytes n (twos (8 * n) x)

/-- A reading in units of 1/16 A as milliamperes, between two of them one of the two (DESIGN CHOICE, log entry 32). -/
def milliamps (x : Int) : Int := readCode (x * 1000) 16

/-- The slice codes of the rail's sense channel; without a channel 0. -/
def State.railCodes (s : State) (r : Nat) : Nat × Nat :=
  let t := s.home r
  let c := s.chanOf t r
  if c < 12 then (s.getAt Hid.CODE_A t c, s.getAt Hid.CODE_B t c) else (0, 0)

/-- Window centre of the rail's sense channel. -/
def State.railCentre (s : State) (r : Nat) : Nat :=
  let t := s.home r
  let c := s.chanOf t r
  if c < 12 then s.getAt Reg.CHAN_STATE.VC t c else 0

/-- The 32 bytes of a rail, from its home tile. -/
def State.snapRail (s : State) (r : Nat) : List Byte :=
  let t := s.home r
  let i := railIx t r
  let part := if (s.partner r).isSome then s.slotIn t r else 0
  leBytes 2 (s.vsense t r) ++ leBytes 2 (s.vset t r) ++ leInt 4 (s.isum t r) ++
    leBytes 4 (s.wordOf Reg.RAIL_SUP_STATUS.RSTATE i 0) ++ leBytes 2 (s.wordOf Reg.CINCH_STATUS.ARMED i 0) ++
    leBytes 2 (s.wordOf Reg.FC_STATUS.PENDING i 0) ++ leBytes 1 (s.nActive t r) ++ leBytes 1 (s.nParked t r) ++
    leBytes 2 (s.railCentre r) ++ leBytes 2 (s.railCodes r).1 ++ leBytes 2 (s.railCodes r).2 ++ leInt 2 part ++
    leBytes 1 (s.partAge t r) ++ leBytes 1 (s.refAge t r) ++ leBytes 4 0

/-- The 32 bytes of a phase. A phase of no rail has no reference. -/
def State.snapPhase (s : State) (p : Nat) : List Byte :=
  let t := tileOf p
  let r := s.railOf p
  let (ref, age) := if r < 48 then (s.refIn t r, s.refAge t r) else (0, 0)
  leInt 2 (s.iph p) ++ leBytes 2 (s.get Reg.PH_IMEAS.CODE p) ++ leBytes 4 (s.get Hid.DUTY p) ++
    leBytes 4 (s.wordOf Reg.PH_STATE.STATE p 0) ++ leBytes 2 (s.get Reg.ENG_EV.EVW p) ++
    leBytes 2 (s.wordOf Reg.ENG_STATUS.ROLE p 0) ++ leInt 2 ref ++ leBytes 1 age ++ leBytes 1 (s.get Hid.IPH_AGE p) ++
    leInt 2 (s.getI Reg.PH_ICAL.IOFS p) ++ leBytes 1 (s.get Reg.PH_CFG.DLY_TRIM p) ++ leBytes 9 0

/-- No temperature. -/
def tempAbsent : Nat := 0x8000

/-- Temperature `k` of the record. -/
def State.snapTemp (s : State) (k : Nat) : Nat :=
  if k < 2 then (if s.on Hid.PRESENT k then s.get Reg.MGR_THERM.TEMP k else tempAbsent)
  else if k < 6 then s.get Reg.TILE_THERM.TEMP (k - 2)
  else if k = 6 then s.get Reg.HPD_THERM.TEMP 0
  else if k = 7 then (if s.on Reg.CHG_STATUS.BAT_PRESENT 0 then s.get Reg.CHG_STATUS.BTEMP 0 else tempAbsent)
  else if k < 32 then
    let g := k - 8
    s.getAt (if g % 2 = 0 then Reg.STG_TEMP.TEMP_EVEN else Reg.STG_TEMP.TEMP_ODD) (g / 6) (g % 6 / 2)
  else tempAbsent

/-- Input `k` of the record; `va`, `vb` and `vio` are the managers' bias and VIO readings. -/
def State.snapInput (s : State) (va vb vio k : Nat) : Int :=
  let a := s.act
  if k < 8 then readCode (s.getAt Reg.HK_VING.V a k : Nat) 4
  else if k < 16 then milliamps (s.getIAt Reg.HK_VING.I a (k - 8))
  else if k = 16 then (s.get Reg.IN_MEAS.VAUX 0 : Nat)
  else if k = 17 then milliamps (s.getI Reg.IN_MEAS.IIN 0)
  else if k = 18 then (s.get Reg.VBB_STATUS.VBB 0 : Nat)
  else if k = 19 then (s.get Reg.BAT_MEAS.VBAT 0 : Nat)
  else if k = 20 then milliamps (s.getI Reg.BAT_MEAS.IBAT 0)
  else if k = 21 then (va : Nat) else if k = 22 then (vb : Nat) else if k = 23 then (vio : Nat) else 0

/-- EN_POL of the watched rail that owns enable output `k` of tile `t`; an output without a rail stays at the reset polarity's inactive level. -/
def State.enPol (s : State) (t k : Nat) : Bool :=
  match (List.range 48).find? fun r => s.kindOf r = 2 && s.home r = t && s.get Reg.RAIL_SUP_CFG.EN_IDX (railIx t r) = k with
  | some r => s.on Reg.RAIL_SUP_CFG.EN_POL (railIx t r)
  | none => true

/-- EN levels of a tile, four bits (R167). -/
def State.enLevels (s : State) (t : Nat) : Nat :=
  (List.range 4).foldl (fun a k => a + (s.bit Hid.EN_ON t k == s.enPol t k).toNat * 2 ^ k) 0

/-- Pins and state, word `k`. -/
def State.snapPins (s : State) (iso : Nat) (flt : Bool) (k : Nat) : Nat :=
  if k = 0 then (List.range 4).foldl (fun a t => a + (s.enLevels t + s.get Hid.PG_PIN t * 2 ^ 16) * 2 ^ (4 * t)) 0
  else if k = 1 then iso + (List.range 4).foldl (fun a t => a + s.get Reg.STG_GROUP_STATUS.STG_EN t * 2 ^ (8 + 6 * t)) 0
  else if k = 2 then (!flt).toNat + 2 * (!s.roleLow).toNat + 4 * s.dev
  else if k = 3 then s.wordOf Reg.SEQ_STATUS.RESULT 0 0
  else 0

/-- The record from 0x40 to 0x17FB. -/
def State.snapBody (s : State) (iso : Nat) (flt : Bool) (va vb vio : Nat) : List Byte :=
  (List.range 48).flatMap s.snapRail ++ (List.range 96).flatMap s.snapPhase ++
    (List.range 128).flatMap (fun k => leBytes 2 (s.snapTemp k)) ++
    (List.range 64).flatMap (fun k => leInt 4 (s.snapInput va vb vio k)) ++
    (List.range 64).flatMap (fun k => leBytes 4 (s.snapPins iso flt k)) ++ List.replicate 700 0

/-- Ticks since tick T, by the active manager's microsecond; `none` before T. -/
def State.sinceSnap (s : State) : Option Nat :=
  let n := (s.beat * 100 + 2 ^ 32 - s.get Hid.SNAP_T 0) % 2 ^ 32
  if n < 2 ^ 31 then some n else none

/-- At the boundary that begins T every die latches its part. -/
def State.snapLatch (s : State) (iso : Nat) (flt : Bool) (va vb vio : Nat) : State :=
  if s.get Hid.SNAP_STAGE 0 ≠ 1 || s.sinceSnap.isNone then s
  else
    let head := leBytes 4 (s.get Hid.SNAP_T 0) ++ leBytes 8 (s.beat + s.get Hid.EPOCH s.act * 2 ^ 40) ++ leBytes 1 s.dev
    let s := { s with snapBuf := head ++ s.snapBody iso flt va vb vio }.put Hid.SNAP_STAGE 0 2
    s.putB Hid.FLT_LOW 0 (flt && !s.on Reg.FLT_CFG.ASSERTED 0)

/-- SNAPSHOT_LATCH (R179). -/
def execSnapshotLatch (isoPins : Byte) (fltLow : Bool) (vbiasA vbiasB vio : BitVec 32) (s : State) : Host.Outcome State Fault Refusal :=
  .next (s.snapLatch isoPins.toNat fltLow vbiasA.toNat vbiasB.toNat vio.toNat)

/-! The complete record. -/

/-- The die, by its bit of SOURCE_OK, that each run of bytes from 0x40 on comes from; 7 is none. -/
def State.snapOwners (s : State) : List (Nat × Nat) :=
  (List.range 48).map (fun r => (s.home r, 32)) ++ (List.range 96).map (fun p => (tileOf p, 32)) ++
    [(5, 2), (6, 2), (0, 2), (1, 2), (2, 2), (3, 2), (4, 4)] ++ (List.range 24).map (fun g => (g / 6, 2)) ++ [(7, 192)] ++
    [(5 + s.act, 64), (4, 20), (5, 4), (6, 4), (5 + s.act, 4), (7, 160), (7, 8), (5 + s.act, 8), (7, 240), (7, 700)]

/-- Runs of bytes with 0xFF in place of those of the dies that delivered nothing. -/
def fillMissing (delivered : Nat) : List (Nat × Nat) → List Byte → List Byte
  | [], l => l
  | (d, n) :: rest, l =>
    (if d = 7 || delivered.testBit d then l.take n else List.replicate n 0xFF) ++ fillMissing delivered rest (l.drop n)

/-- The bits of the first two words of the pins that belong to tiles that delivered nothing. -/
def missingPins (delivered : Nat) : List Byte :=
  let gone := (List.range 4).filter fun t => !delivered.testBit t
  leBytes 4 ((gone.map fun t => 15 * 2 ^ (4 * t) + 15 * 2 ^ (16 + 4 * t)).sum) ++ leBytes 4 ((gone.map fun t => 63 * 2 ^ (8 + 6 * t)).sum)

/-- The whole record of 6 144 bytes. -/
def State.snapRecord (s : State) (delivered : Nat) : List Byte :=
  let body := fillMissing delivered s.snapOwners (s.snapBuf.drop 13)
  let pins := ((body.drop 0x1400).take 8).zipWith (fun a b => a ||| b) (missingPins delivered)
  let head := leBytes 4 0x534E5031 ++ leBytes 4 (s.get Hid.SNAP_NO 0 + 1) ++ s.snapBuf.take 12 ++ leBytes 2 (s.get Hid.SNAP_CAUSE 0) ++
    leBytes 1 (s.get Hid.SNAP_RAIL 0) ++ (s.snapBuf.drop 12).take 1 ++ leBytes 4 delivered ++ List.replicate 36 0
  let all := head ++ body.take 0x1400 ++ pins ++ body.drop 0x1408
  all ++ wordBytes (crc32 all)

/-- The model's address of slot `j` of a manager's snapshot ring. -/
def snapSlot (m j : Nat) : Nat := mgrMem m (0x100D8000 + j * 0x1800)

/-- The record is complete, or 200 µs have passed: it is written to the ring of both managers. -/
def State.snapComplete (s : State) (delivered : Nat) : State :=
  if s.get Hid.SNAP_STAGE 0 ≠ 2 || (decide (delivered ≠ 127) && decide (s.sinceSnap.getD 0 < 20000)) then s
  else
    let l := s.snapRecord delivered
    let j := s.get Reg.SNAP_STATUS.NEXT 0
    let s := s.over ((List.range 2).filter fun m => s.on Hid.PRESENT m) fun s m => s.wrBytes (snapSlot m j) l
    let s := ((s.raise Reg.SNAP_STATUS.SNAP_EVT 0).put Reg.SNAP_STATUS.NEXT 0 ((j + 1) % 16)).clr Reg.SNAP_STATUS.BUSY 0
    let s := ((s.put Hid.SNAP_NO 0 (s.get Hid.SNAP_NO 0 + 1)).clr Hid.SNAP_STAGE 0).clr Hid.SNAP_CAUSE 0
    { s with snapBuf := [] }

/-- SNAPSHOT_COMPLETE (R180). -/
def execSnapshotComplete (delivered : BitVec 7) (s : State) : Host.Outcome State Fault Refusal := .next (s.snapComplete delivered.toNat)

end Sys2Proof.Machine
end

