-- ==== Sys2Proof/Machine/Waiting.lean ====
section
/-!
DEFINITION. The commands that wait for clock-readiness (R30): an enable of a regulated rail, a set-point command, the re-add of a shed phase, a
Sequence Lane transmission. They run in the order of their acceptance, each within its own 200 µs.
-/
namespace Sys2Proof.Machine

/-- A rail whose enable waits without a command of its own: it belongs to the running sequence, or to a thermal restart. -/
def State.quietWaits (s : State) : List (Nat × CmdKind) :=
  ((List.range 48).filter fun r => s.enStep r = 1 && !s.accepted (.railOn r)).map fun r => (s.getAt Hid.EN_BEAT 0 r, .railOn r)

/-- Puts a waiting command into its place by age, after those as old. -/
def byAge (now : Nat) (x : Nat × CmdKind) : List (Nat × CmdKind) → List (Nat × CmdKind)
  | [] => [x]
  | y :: l => if beatDiff now y.1 < beatDiff now x.1 then x :: y :: l else y :: byAge now x l

/-- The waiting commands with their beats of acceptance, oldest first (DEDUCED, log entry 5). -/
def State.waiting (s : State) : List (Nat × CmdKind) :=
  let cmds := (s.cmds.filter fun c => !c.started).map fun c => (c.beat, c.kind)
  (cmds ++ s.quietWaits).foldl (fun l x => byAge s.beat x l) []

/-- The units that a waiting command touches are ready (R30). -/
def State.waitReady (s : State) : CmdKind → Bool
  | .railOn r => s.railReady r
  | .setpoint r _ => s.railReady r
  | .phAdd p => s.clockReady [tileOf p]
  | .lane => s.clockReady []
  | _ => false

/-- A waiting command runs. A re-add that finds its phase no longer shed has nothing left to do. -/
def State.waitRun (s : State) (k : CmdKind) : State :=
  match k with
  | .railOn r => s.enableReady r
  | .setpoint r v => (s.start k).setpointStart r v
  | .phAdd p =>
    if s.ph p ≠ Ph.shed then s.complete k JStatus.cancelled 0
    else if s.on Hid.TSD_ON (tileOf p) then s.complete k JStatus.failed EnRes.fault
    else (s.start k).readdStart p
  | .lane => (s.start k).raise Hid.LN_HOST 0
  | _ => s

/-- Every waiting command that is ready and no older than 200 µs runs, oldest first (R30). -/
def State.waitsRun (s : State) : State :=
  s.over s.waiting fun s x => if beatDiff s.beat x.1 ≤ 200 && s.waitReady x.2 then s.waitRun x.2 else s

/-- COMMAND_CLOCK_READY (R30). -/
def execCommandClockReady (s : State) : Host.Outcome State Fault Refusal := .next s.waitsRun.seqPoll

/-- One waiting command is rejected: PLL_NOT_READY in the journal, and its count (R30). -/
def State.waitReject (s : State) (k : CmdKind) : State :=
  let s := match k with
    | .railOn r => s.enableAbort r EnRes.pllNotReady
    | _ => s.complete k JStatus.pllNotReady 0
  (s.bump Reg.CLK_STATUS.PLL_NR_COUNT s.act).onceMgr 22

/-- Every command that has waited 200 µs is rejected (R30). -/
def State.waitsReject (s : State) : State :=
  s.over s.waiting fun s x => if 200 ≤ beatDiff s.beat x.1 then s.waitReject x.2 else s

/-- PLL_NOT_READY_REJECT (R30). -/
def execPllNotReadyReject (s : State) : Host.Outcome State Fault Refusal := .next s.waitsReject.seqPoll

end Sys2Proof.Machine
end

