-- ==== Sys2Proof/Machine/Dispatch.lean ====
section
/-!
DEFINITION. One arm for each command: a direct call of its meaning.
-/
namespace Sys2Proof.Machine

/-- What a command does to everything but the queue. -/
def exec (i : Instr) (s : State) : Host.Outcome State Fault Refusal :=
  match i with
  | .regWrite w m secure addr bytes data hw more => Sys2Proof.Machine.execRegWrite w m secure addr bytes data hw more s
  | .lowWordSnapshotRead w m secure addr bytes => Sys2Proof.Machine.execLowWordSnapshotRead w m secure addr bytes s
  | .crossingFrameReceive path ok0 ok1 => Sys2Proof.Machine.execCrossingFrameReceive path ok0 ok1 s
  | .crossingLaneFail path lane => Sys2Proof.Machine.execCrossingLaneFail path lane s
  | .crossingRegWrite u m w sentActive off data => Sys2Proof.Machine.execCrossingRegWrite u m w sentActive off data s
  | .beatFrameSend m => Sys2Proof.Machine.execBeatFrameSend m s
  | .slotReceive t upper slot crcOk => Sys2Proof.Machine.execSlotReceive t upper slot crcOk s
  | .slotLaneFail t upper lane => Sys2Proof.Machine.execSlotLaneFail t upper lane s
  | .sscModeWrite w m mode => Sys2Proof.Machine.execSscModeWrite w m mode s
  | .rootRelockDone => Sys2Proof.Machine.execRootRelockDone s
  | .refEdgeLoss u => Sys2Proof.Machine.execRefEdgeLoss u s
  | .refValid10us u m => Sys2Proof.Machine.execRefValid10us u m s
  | .holdoverExpire u => Sys2Proof.Machine.execHoldoverExpire u s
  | .settlingEnd u => Sys2Proof.Machine.execSettlingEnd u s
  | .xtalStop m => Sys2Proof.Machine.execXtalStop m s
  | .xtalCompareWindow failA failB => Sys2Proof.Machine.execXtalCompareWindow failA failB s
  | .commandClockReady => Sys2Proof.Machine.execCommandClockReady s
  | .pllNotReadyReject => Sys2Proof.Machine.execPllNotReadyReject s
  | .beatAdvance m => Sys2Proof.Machine.execBeatAdvance m s
  | .tickBoundary t levels spare pg upsets => Sys2Proof.Machine.execTickBoundary t levels spare pg upsets s
  | .cycleStart r t => Sys2Proof.Machine.execCycleStart r t s
  | .phaseLeadingEdge p => Sys2Proof.Machine.execPhaseLeadingEdge p s
  | .phaseScanConversion p level spare => Sys2Proof.Machine.execPhaseScanConversion p level spare s
  | .imonFaultTrip p => Sys2Proof.Machine.execImonFaultTrip p s
  | .imonNoReport p => Sys2Proof.Machine.execImonNoReport p s
  | .stgTfFault t g => Sys2Proof.Machine.execStgTfFault t g s
  | .stgTfLow t g => Sys2Proof.Machine.execStgTfLow t g s
  | .midHoldEnd p => Sys2Proof.Machine.execMidHoldEnd p s
  | .parkDwellExpire r => Sys2Proof.Machine.execParkDwellExpire r s
  | .addThresholdHeld r => Sys2Proof.Machine.execAddThresholdHeld r s
  | .phShed w p withAdd => Sys2Proof.Machine.execPhShed w p withAdd s
  | .phAdd w p => Sys2Proof.Machine.execPhAdd w p s
  | .phUnblock w p => Sys2Proof.Machine.execPhUnblock w p s
  | .readdProbeComplete p obs => Sys2Proof.Machine.execReaddProbeComplete p obs s
  | .prestartTestComplete r obs => Sys2Proof.Machine.execPrestartTestComplete r obs s
  | .isoAssert w m g => Sys2Proof.Machine.execIsoAssert w m g s
  | .isoRelease w g => Sys2Proof.Machine.execIsoRelease w g s
  | .isoNSensedLow t g => Sys2Proof.Machine.execIsoNSensedLow t g s
  | .phTimingWrite w p offset tonMin toffMin => Sys2Proof.Machine.execPhTimingWrite w p offset tonMin toffMin s
  | .nop t e => Sys2Proof.Machine.execNop t e s
  | .add t e d a b => Sys2Proof.Machine.execAdd t e d a b s
  | .sub t e d a b => Sys2Proof.Machine.execSub t e d a b s
  | .adds t e d a b => Sys2Proof.Machine.execAdds t e d a b s
  | .subs t e d a b => Sys2Proof.Machine.execSubs t e d a b s
  | .andOp t e d a b => Sys2Proof.Machine.execAndOp t e d a b s
  | .orOp t e d a b => Sys2Proof.Machine.execOrOp t e d a b s
  | .xor t e d a b => Sys2Proof.Machine.execXor t e d a b s
  | .minOp t e d a b => Sys2Proof.Machine.execMinOp t e d a b s
  | .maxOp t e d a b => Sys2Proof.Machine.execMaxOp t e d a b s
  | .shl t e d a b => Sys2Proof.Machine.execShl t e d a b s
  | .shr t e d a b => Sys2Proof.Machine.execShr t e d a b s
  | .sra t e d a b => Sys2Proof.Machine.execSra t e d a b s
  | .muls t e d a b sh => Sys2Proof.Machine.execMuls t e d a b sh s
  | .clamp t e d a b => Sys2Proof.Machine.execClamp t e d a b s
  | .cmp t e a b => Sys2Proof.Machine.execCmp t e a b s
  | .addi t e d a imm => Sys2Proof.Machine.execAddi t e d a imm s
  | .shli t e d a imm => Sys2Proof.Machine.execShli t e d a imm s
  | .srai t e d a imm => Sys2Proof.Machine.execSrai t e d a imm s
  | .lil t e d imm => Sys2Proof.Machine.execLil t e d imm s
  | .lih t e d imm => Sys2Proof.Machine.execLih t e d imm s
  | .cmpi t e a imm => Sys2Proof.Machine.execCmpi t e a imm s
  | .ld t e d a off => Sys2Proof.Machine.execLd t e d a off s
  | .st t e d a off => Sys2Proof.Machine.execSt t e d a off s
  | .mac t e a b acc => Sys2Proof.Machine.execMac t e a b acc s
  | .msu t e a b acc => Sys2Proof.Machine.execMsu t e a b acc s
  | .ald t e a sh acc => Sys2Proof.Machine.execAld t e a sh acc s
  | .ard t e d sh acc => Sys2Proof.Machine.execArd t e d sh acc s
  | .inPort t e d port => Sys2Proof.Machine.execInPort t e d port s
  | .outPort t e port a => Sys2Proof.Machine.execOutPort t e port a s
  | .evr t e d => Sys2Proof.Machine.execEvr t e d s
  | .eclr t e mask => Sys2Proof.Machine.execEclr t e mask s
  | .bev t e target => Sys2Proof.Machine.execBev t e target s
  | .br t e cond target => Sys2Proof.Machine.execBr t e cond target s
  | .jl t e d target => Sys2Proof.Machine.execJl t e d target s
  | .jr t e a => Sys2Proof.Machine.execJr t e a s
  | .waitt t e => Sys2Proof.Machine.execWaitt t e s
  | .illegalInstruction t e w => Sys2Proof.Machine.execIllegalInstruction t e w s
  | .overrunShed t e => Sys2Proof.Machine.execOverrunShed t e s
  | .programBankWrite t e bank idx v => Sys2Proof.Machine.execProgramBankWrite t e bank idx v s
  | .bankCrcDone t e => Sys2Proof.Machine.execBankCrcDone t e s
  | .dataMemoryWrite t e idx v => Sys2Proof.Machine.execDataMemoryWrite t e idx v s
  | .engineScrub t e off => Sys2Proof.Machine.execEngineScrub t e off s
  | .swapArm w t r => Sys2Proof.Machine.execSwapArm w t r s
  | .bankSwap t r => Sys2Proof.Machine.execBankSwap t r s
  | .engineFault t e kind ckptOk => Sys2Proof.Machine.execEngineFault t e kind ckptOk s
  | .spareTakeoverDone t => Sys2Proof.Machine.execSpareTakeoverDone t s
  | .failInj w p ckptOk => Sys2Proof.Machine.execFailInj w p ckptOk s
  | .handback w t => Sys2Proof.Machine.execHandback w t s
  | .spareSelfCheck t pass => Sys2Proof.Machine.execSpareSelfCheck t pass s
  | .lawSelect w r law => Sys2Proof.Machine.execLawSelect w r law s
  | .lawCopyDone r => Sys2Proof.Machine.execLawCopyDone r s
  | .setpointCommand w r target stopSameTick => Sys2Proof.Machine.execSetpointCommand w r target stopSameTick s
  | .slopeFire t r fall => Sys2Proof.Machine.execSlopeFire t r fall s
  | .slopeWindowEnd t r => Sys2Proof.Machine.execSlopeWindowEnd t r s
  | .cinchTrip t r v onBoundary => Sys2Proof.Machine.execCinchTrip t r v onBoundary s
  | .cinchRelease t r v => Sys2Proof.Machine.execCinchRelease t r v s
  | .cinchHandoverEnd t r => Sys2Proof.Machine.execCinchHandoverEnd t r s
  | .cinchHoldoffEnd t r => Sys2Proof.Machine.execCinchHoldoffEnd t r s
  | .cinchWireMismatch t upper slot => Sys2Proof.Machine.execCinchWireMismatch t upper slot s
  | .forecastWord t portB word stopOk lostToA => Sys2Proof.Machine.execForecastWord t portB word stopOk lostToA s
  | .forecastClockLoss t portB => Sys2Proof.Machine.execForecastClockLoss t portB s
  | .forecastDue t r => Sys2Proof.Machine.execForecastDue t r s
  | .forecastFireStart t r => Sys2Proof.Machine.execForecastFireStart t r s
  | .forecastPulseStart p => Sys2Proof.Machine.execForecastPulseStart p s
  | .forecastPulseEnd p => Sys2Proof.Machine.execForecastPulseEnd p s
  | .forecastJudge t r => Sys2Proof.Machine.execForecastJudge t r s
  | .skewCal w t => Sys2Proof.Machine.execSkewCal w t s
  | .skewCalDone t ch trim spareTrim => Sys2Proof.Machine.execSkewCalDone t ch trim spareTrim s
  | .rotationPositionStart t => Sys2Proof.Machine.execRotationPositionStart t s
  | .rotationCompare t => Sys2Proof.Machine.execRotationCompare t s
  | .sliceCalibrationDone t p ofs gain => Sys2Proof.Machine.execSliceCalibrationDone t p ofs gain s
  | .spareSelfCalDone t trims => Sys2Proof.Machine.execSpareSelfCalDone t trims s
  | .tvcConversion t level => Sys2Proof.Machine.execTvcConversion t level s
  | .diagStart w t => Sys2Proof.Machine.execDiagStart w t s
  | .diagComplete t beyond within => Sys2Proof.Machine.execDiagComplete t beyond within s
  | .hkConversion m level => Sys2Proof.Machine.execHkConversion m level s
  | .vinDisagreeConfirm g => Sys2Proof.Machine.execVinDisagreeConfirm g s
  | .tlmWindowEnd t r => Sys2Proof.Machine.execTlmWindowEnd t r s
  | .pkClr w t r => Sys2Proof.Machine.execPkClr w t r s
  | .accLowWrite w acc v => Sys2Proof.Machine.execAccLowWrite w acc v s
  | .accHighWrite w acc v incSame => Sys2Proof.Machine.execAccHighWrite w acc v incSame s
  | .powerEstimate t => Sys2Proof.Machine.execPowerEstimate t s
  | .powerPartialSend t => Sys2Proof.Machine.execPowerPartialSend t s
  | .powerPartialStale m t g => Sys2Proof.Machine.execPowerPartialStale m t g s
  | .railOn w r withOff => Sys2Proof.Machine.execRailOn w r withOff s
  | .railOff w r withOn => Sys2Proof.Machine.execRailOff w r withOn s
  | .pgAssert r => Sys2Proof.Machine.execPgAssert r s
  | .pgLoss r => Sys2Proof.Machine.execPgLoss r s
  | .enablePgTimeout r => Sys2Proof.Machine.execEnablePgTimeout r s
  | .seqRun w q => Sys2Proof.Machine.execSeqRun w q s
  | .seqStageStart tile => Sys2Proof.Machine.execSeqStageStart tile s
  | .seqStageTimeout => Sys2Proof.Machine.execSeqStageTimeout s
  | .railBelowOffThreshold r => Sys2Proof.Machine.execRailBelowOffThreshold r s
  | .shutdownFirstTimeout r => Sys2Proof.Machine.execShutdownFirstTimeout r s
  | .shutdownSecondTimeout r => Sys2Proof.Machine.execShutdownSecondTimeout r s
  | .snapTake w => Sys2Proof.Machine.execSnapTake w s
  | .snapshotLatch isoPins fltLow vbiasA vbiasB vio => Sys2Proof.Machine.execSnapshotLatch isoPins fltLow vbiasA vbiasB vio s
  | .snapshotComplete delivered => Sys2Proof.Machine.execSnapshotComplete delivered s
  | .laneCycleStart readBackBad => Sys2Proof.Machine.execLaneCycleStart readBackBad s
  | .laneBeatFrame beat flags crc => Sys2Proof.Machine.execLaneBeatFrame beat flags crc s
  | .hello f => Sys2Proof.Machine.execHello f s
  | .laneStatus f => Sys2Proof.Machine.execLaneStatus f s
  | .seqRunLane f q d => Sys2Proof.Machine.execSeqRunLane f q d s
  | .laneRailOn f r d => Sys2Proof.Machine.execLaneRailOn f r d s
  | .laneRailOff f r d => Sys2Proof.Machine.execLaneRailOff f r d s
  | .laneSnap f d => Sys2Proof.Machine.execLaneSnap f d s
  | .laneKerb f => Sys2Proof.Machine.execLaneKerb f s
  | .laneFltRelease f => Sys2Proof.Machine.execLaneFltRelease f s
  | .seqQuery f q => Sys2Proof.Machine.execSeqQuery f q s
  | .laneBadOpcode f op args => Sys2Proof.Machine.execLaneBadOpcode f op args s
  | .laneReply src seq status data crc => Sys2Proof.Machine.execLaneReply src seq status data crc s
  | .laneReplyMissing => Sys2Proof.Machine.execLaneReplyMissing s
  | .laneDeadline => Sys2Proof.Machine.execLaneDeadline s
  | .laneLost => Sys2Proof.Machine.execLaneLost s
  | .masterListenEnd => Sys2Proof.Machine.execMasterListenEnd s
  | .sqlTxGo w m => Sys2Proof.Machine.execSqlTxGo w m s
  | .fltNFault => Sys2Proof.Machine.execFltNFault s
  | .fltRelease w => Sys2Proof.Machine.execFltRelease w s
  | .phaseOcShed p => Sys2Proof.Machine.execPhaseOcShed p s
  | .chDisagree r => Sys2Proof.Machine.execChDisagree r s
  | .railOvConfirm r => Sys2Proof.Machine.execRailOvConfirm r s
  | .railUvConfirm r => Sys2Proof.Machine.execRailUvConfirm r s
  | .railOcConfirm r => Sys2Proof.Machine.execRailOcConfirm r s
  | .senseLostOff r => Sys2Proof.Machine.execSenseLostOff r s
  | .thermalReading d a b => Sys2Proof.Machine.execThermalReading d a b s
  | .tileThermalShutdown t => Sys2Proof.Machine.execTileThermalShutdown t s
  | .tileThermalRestart t => Sys2Proof.Machine.execTileThermalRestart t s
  | .tsdClr w u => Sys2Proof.Machine.execTsdClr w u s
  | .mgrThermalShutdown m => Sys2Proof.Machine.execMgrThermalShutdown m s
  | .hpdThermalShutdown => Sys2Proof.Machine.execHpdThermalShutdown s
  | .hpdThermalRestart => Sys2Proof.Machine.execHpdThermalRestart s
  | .throttleKerb => Sys2Proof.Machine.execThrottleKerb s
  | .sensorDisagree d => Sys2Proof.Machine.execSensorDisagree d s
  | .vauxValid => Sys2Proof.Machine.execVauxValid s
  | .vauxInvalid vaux => Sys2Proof.Machine.execVauxInvalid vaux s
  | .iinShare meas => Sys2Proof.Machine.execIinShare meas s
  | .iinSearch w => Sys2Proof.Machine.execIinSearch w s
  | .iinSearchStart => Sys2Proof.Machine.execIinSearchStart s
  | .iinSearchStep => Sys2Proof.Machine.execIinSearchStep s
  | .iinSearchPauseEnd => Sys2Proof.Machine.execIinSearchPauseEnd s
  | .sagWatch => Sys2Proof.Machine.execSagWatch s
  | .vbbTrip vbb => Sys2Proof.Machine.execVbbTrip vbb s
  | .bfetLinearEnd => Sys2Proof.Machine.execBfetLinearEnd s
  | .chargeBlockOff => Sys2Proof.Machine.execChargeBlockOff s
  | .dsgOc => Sys2Proof.Machine.execDsgOc s
  | .dsgShort => Sys2Proof.Machine.execDsgShort s
  | .fetDegraded => Sys2Proof.Machine.execFetDegraded s
  | .handbackStart => Sys2Proof.Machine.execHandbackStart s
  | .handbackRampStep => Sys2Proof.Machine.execHandbackRampStep s
  | .bfetOpen w => Sys2Proof.Machine.execBfetOpen w s
  | .bfetArm w => Sys2Proof.Machine.execBfetArm w s
  | .bfetFaultClear w oc short => Sys2Proof.Machine.execBfetFaultClear w oc short s
  | .chgEnable w en => Sys2Proof.Machine.execChgEnable w en s
  | .chgVpreReached => Sys2Proof.Machine.execChgVpreReached s
  | .chgVccReached => Sys2Proof.Machine.execChgVccReached s
  | .chgVcvReached => Sys2Proof.Machine.execChgVcvReached s
  | .chgTerminate => Sys2Proof.Machine.execChgTerminate s
  | .chgRecharge => Sys2Proof.Machine.execChgRecharge s
  | .btsConversion mv temp => Sys2Proof.Machine.execBtsConversion mv temp s
  | .btsFault => Sys2Proof.Machine.execBtsFault s
  | .chgTimerExpire => Sys2Proof.Machine.execChgTimerExpire s
  | .batOv => Sys2Proof.Machine.execBatOv s
  | .presenceTestStart => Sys2Proof.Machine.execPresenceTestStart s
  | .presenceTestEnd packId => Sys2Proof.Machine.execPresenceTestEnd packId s
  | .batShort => Sys2Proof.Machine.execBatShort s
  | .chgOc => Sys2Proof.Machine.execChgOc s
  | .chgFaultClear w mask => Sys2Proof.Machine.execChgFaultClear w mask s
  | .buckPhaseStop k => Sys2Proof.Machine.execBuckPhaseStop k s
  | .gaugeFrame ush vbat => Sys2Proof.Machine.execGaugeFrame ush vbat s
  | .emptyAnchor => Sys2Proof.Machine.execEmptyAnchor s
  | .hibernate => Sys2Proof.Machine.execHibernate s
  | .hibConversion ush => Sys2Proof.Machine.execHibConversion ush s
  | .gaugeWake => Sys2Proof.Machine.execGaugeWake s
  | .gaugeStore => Sys2Proof.Machine.execGaugeStore s
  | .ggStore w => Sys2Proof.Machine.execGgStore w s
  | .invalidate w => Sys2Proof.Machine.execInvalidate w s
  | .authStart w => Sys2Proof.Machine.execAuthStart w s
  | .getId reply nonce => Sys2Proof.Machine.execGetId reply nonce s
  | .challenge reply => Sys2Proof.Machine.execChallenge reply s
  | .packReplyTimeout => Sys2Proof.Machine.execPackReplyTimeout s
  | .authRetry => Sys2Proof.Machine.execAuthRetry s
  | .metPowerUp serial serialOk keyOk bankOk => Sys2Proof.Machine.execMetPowerUp serial serialOk keyOk bankOk s
  | .metSample xi xv flat => Sys2Proof.Machine.execMetSample xi xv flat s
  | .metHalfSample => Sys2Proof.Machine.execMetHalfSample s
  | .metPulseEnd => Sys2Proof.Machine.execMetPulseEnd s
  | .metStreamStuck stream => Sys2Proof.Machine.execMetStreamStuck stream s
  | .metStreamResume => Sys2Proof.Machine.execMetStreamResume s
  | .metClockCheck count => Sys2Proof.Machine.execMetClockCheck count s
  | .metIntervalRecord completed => Sys2Proof.Machine.execMetIntervalRecord completed s
  | .metWatchdog => Sys2Proof.Machine.execMetWatchdog s
  | .metTallyStore completed => Sys2Proof.Machine.execMetTallyStore completed s
  | .metSupplyFall completed => Sys2Proof.Machine.execMetSupplyFall completed s
  | .metLiveSend => Sys2Proof.Machine.execMetLiveSend s
  | .metPeriodicSend rep => Sys2Proof.Machine.execMetPeriodicSend rep s
  | .sendId m => Sys2Proof.Machine.execSendId m s
  | .sendHealth m => Sys2Proof.Machine.execSendHealth m s
  | .sendLast m => Sys2Proof.Machine.execSendLast m s
  | .replayPrev m => Sys2Proof.Machine.execReplayPrev m s
  | .metReqStrobe w m code => Sys2Proof.Machine.execMetReqStrobe w m code s
  | .metReqTimeout m => Sys2Proof.Machine.execMetReqTimeout m s
  | .metFrameReceive m arrived => Sys2Proof.Machine.execMetFrameReceive m arrived s
  | .metLinkLost m => Sys2Proof.Machine.execMetLinkLost m s
  | .metCalBankWrite n bank completed => Sys2Proof.Machine.execMetCalBankWrite n bank completed s
  | .metLock key => Sys2Proof.Machine.execMetLock key s
  | .halfLossAnnounce t r cause => Sys2Proof.Machine.execHalfLossAnnounce t r cause s
  | .halfLossDeclare t r => Sys2Proof.Machine.execHalfLossDeclare t r s
  | .halfLossHoldEnd t r => Sys2Proof.Machine.execHalfLossHoldEnd t r s
  | .splitYield r => Sys2Proof.Machine.execSplitYield r s
  | .rejoin w t r => Sys2Proof.Machine.execRejoin w t r s
  | .rejoinRoleSwap r => Sys2Proof.Machine.execRejoinRoleSwap r s
  | .heartbeatSend m => Sys2Proof.Machine.execHeartbeatSend m s
  | .heartbeatReceive m ok => Sys2Proof.Machine.execHeartbeatReceive m ok s
  | .heartbeatMiss m => Sys2Proof.Machine.execHeartbeatMiss m s
  | .roleDeadmanRelease m => Sys2Proof.Machine.execRoleDeadmanRelease m s
  | .takeover m high => Sys2Proof.Machine.execTakeover m high s
  | .handover w m => Sys2Proof.Machine.execHandover w m s
  | .mirrorCopy addr => Sys2Proof.Machine.execMirrorCopy addr s
  | .mirrorSweep => Sys2Proof.Machine.execMirrorSweep s
  | .shadowReady m => Sys2Proof.Machine.execShadowReady m s
  | .mgrSilent t => Sys2Proof.Machine.execMgrSilent t s
  | .autoKerb t => Sys2Proof.Machine.execAutoKerb t s
  | .awlProbeStart kind tile unit => Sys2Proof.Machine.execAwlProbeStart kind tile unit s
  | .awlVerdict kind tile unit pass => Sys2Proof.Machine.execAwlVerdict kind tile unit pass s
  | .awlNotRun kind tile unit => Sys2Proof.Machine.execAwlNotRun kind tile unit s
  | .lbistStart w m target => Sys2Proof.Machine.execLbistStart w m target s
  | .lbistDone sig => Sys2Proof.Machine.execLbistDone sig s
  | .captureArm w t => Sys2Proof.Machine.execCaptureArm w t s
  | .capTrig w t => Sys2Proof.Machine.execCapTrig w t s
  | .captureStop t => Sys2Proof.Machine.execCaptureStop t s
  | .kerbEnter w => Sys2Proof.Machine.execKerbEnter w s
  | .kerbSocEntry => Sys2Proof.Machine.execKerbSocEntry s
  | .kerbExit w => Sys2Proof.Machine.execKerbExit w s
  | .eventReport src tick => Sys2Proof.Machine.execEventReport src tick s
  | .eventReportRefresh die => Sys2Proof.Machine.execEventReportRefresh die s
  | .foldClose cls => Sys2Proof.Machine.execFoldClose cls s
  | .evcTake w m => Sys2Proof.Machine.execEvcTake w m s
  | .evcScTake w m => Sys2Proof.Machine.execEvcScTake w m s
  | .evcHqTake w m => Sys2Proof.Machine.execEvcHqTake w m s
  | .evcComplete w m target => Sys2Proof.Machine.execEvcComplete w m target s
  | .foldComplete w m seq => Sys2Proof.Machine.execFoldComplete w m seq s
  | .powerOnReset m => Sys2Proof.Machine.execPowerOnReset m s
  | .fuseSenseDone m vio33 => Sys2Proof.Machine.execFuseSenseDone m vio33 s
  | .broadcastReceive u copyA copyB own fused => Sys2Proof.Machine.execBroadcastReceive u copyA copyB own fused s
  | .integrityDecision => Sys2Proof.Machine.execIntegrityDecision s
  | .loadCommit => Sys2Proof.Machine.execLoadCommit s
  | .armToRun => Sys2Proof.Machine.execArmToRun s
  | .devRun w m => Sys2Proof.Machine.execDevRun w m s
  | .armLate => Sys2Proof.Machine.execArmLate s
  | .fuseProgram w m key field word len supplyOk => Sys2Proof.Machine.execFuseProgram w m key field word len supplyOk s
  | .fuseProgramDone fails => Sys2Proof.Machine.execFuseProgramDone fails s
  | .fuseProgramResume supplyOk => Sys2Proof.Machine.execFuseProgramResume supplyOk s
  | .lcAdvance w m key supplyOk => Sys2Proof.Machine.execLcAdvance w m key supplyOk s
  | .lcWipe w m key => Sys2Proof.Machine.execLcWipe w m key s
  | .rstNAssert => Sys2Proof.Machine.execRstNAssert s
  | .rstNRelease => Sys2Proof.Machine.execRstNRelease s
  | .sysRst w m key => Sys2Proof.Machine.execSysRst w m key s
  | .tileRst w m t key => Sys2Proof.Machine.execTileRst w m t key s
  | .devPark w m => Sys2Proof.Machine.execDevPark w m s
  | .devWake src pass => Sys2Proof.Machine.execDevWake src pass s
  | .mewsEnter => Sys2Proof.Machine.execMewsEnter s
  | .vbiasLoss m => Sys2Proof.Machine.execVbiasLoss m s
  | .vioValid pins => Sys2Proof.Machine.execVioValid pins s
  | .coreWait m core pc => Sys2Proof.Machine.execCoreWait m core pc s
  | .scratchpadStore w m secure addr size v rowRead => Sys2Proof.Machine.execScratchpadStore w m secure addr size v rowRead s
  | .framStore w m addr size v => Sys2Proof.Machine.execFramStore w m addr size v s
  | .memoryScrub m addr rowRead => Sys2Proof.Machine.execMemoryScrub m addr rowRead s
  | .keyA w m => Sys2Proof.Machine.execKeyA w m s
  | .keyB w m => Sys2Proof.Machine.execKeyB w m s
  | .wdtBadKey w m => Sys2Proof.Machine.execWdtBadKey w m s
  | .ewarn => Sys2Proof.Machine.execEwarn s
  | .wdtTimeout => Sys2Proof.Machine.execWdtTimeout s
  | .wdtPulseEnd => Sys2Proof.Machine.execWdtPulseEnd s
  | .rtcSecond => Sys2Proof.Machine.execRtcSecond s
  | .rtcHalt w m => Sys2Proof.Machine.execRtcHalt w m s
  | .rtcResume w m => Sys2Proof.Machine.execRtcResume w m s
  | .rtcSecWrite w m v => Sys2Proof.Machine.execRtcSecWrite w m v s
  | .dstAdd w m => Sys2Proof.Machine.execDstAdd w m s
  | .dstSub w m => Sys2Proof.Machine.execDstSub w m s
  | .bkupLow lost => Sys2Proof.Machine.execBkupLow lost s
  | .tamper input samples => Sys2Proof.Machine.execTamper input samples s
  | .traceMark w m v => Sys2Proof.Machine.execTraceMark w m v s
  | .page rd bytes => Sys2Proof.Machine.execPage rd bytes s
  | .operation rd bytes => Sys2Proof.Machine.execOperation rd bytes s
  | .onOffConfig => Sys2Proof.Machine.execOnOffConfig s
  | .clearFaults bytes => Sys2Proof.Machine.execClearFaults bytes s
  | .writeProtect rd bytes => Sys2Proof.Machine.execWriteProtect rd bytes s
  | .capability => Sys2Proof.Machine.execCapability s
  | .voutMode => Sys2Proof.Machine.execVoutMode s
  | .voutCommand rd bytes => Sys2Proof.Machine.execVoutCommand rd bytes s
  | .voutMax => Sys2Proof.Machine.execVoutMax s
  | .voutOvFaultLimit rd bytes => Sys2Proof.Machine.execVoutOvFaultLimit rd bytes s
  | .ioutOcFaultLimit rd bytes => Sys2Proof.Machine.execIoutOcFaultLimit rd bytes s
  | .statusByte => Sys2Proof.Machine.execStatusByte s
  | .statusWord => Sys2Proof.Machine.execStatusWord s
  | .statusVout => Sys2Proof.Machine.execStatusVout s
  | .statusIout => Sys2Proof.Machine.execStatusIout s
  | .statusCml => Sys2Proof.Machine.execStatusCml s
  | .readVin => Sys2Proof.Machine.execReadVin s
  | .readIin => Sys2Proof.Machine.execReadIin s
  | .readVout => Sys2Proof.Machine.execReadVout s
  | .readIout => Sys2Proof.Machine.execReadIout s
  | .readTemperature1 => Sys2Proof.Machine.execReadTemperature1 s
  | .readTemperature2 => Sys2Proof.Machine.execReadTemperature2 s
  | .readPout => Sys2Proof.Machine.execReadPout s
  | .readPin => Sys2Proof.Machine.execReadPin s
  | .pmbusRevision => Sys2Proof.Machine.execPmbusRevision s
  | .mfrId => Sys2Proof.Machine.execMfrId s
  | .mfrModel => Sys2Proof.Machine.execMfrModel s
  | .mfrRevision => Sys2Proof.Machine.execMfrRevision s
  | .mfrSerial => Sys2Proof.Machine.execMfrSerial s
  | .mfrWinAddr rd bytes => Sys2Proof.Machine.execMfrWinAddr rd bytes s
  | .mfrWinData rd bytes => Sys2Proof.Machine.execMfrWinData rd bytes s
  | .mfrWinRlen rd bytes => Sys2Proof.Machine.execMfrWinRlen rd bytes s
  | .mfrWinStatus => Sys2Proof.Machine.execMfrWinStatus s
  | .mfrDevState => Sys2Proof.Machine.execMfrDevState s
  | .mfrJrnlHead => Sys2Proof.Machine.execMfrJrnlHead s
  | .mfrJrnlRead bytes => Sys2Proof.Machine.execMfrJrnlRead bytes s
  | .mfrJrnlAck bytes => Sys2Proof.Machine.execMfrJrnlAck bytes s
  | .mfrHqRead => Sys2Proof.Machine.execMfrHqRead s
  | .mfrTag rd bytes => Sys2Proof.Machine.execMfrTag rd bytes s
  | .quickCommand => Sys2Proof.Machine.execQuickCommand s
  | .alertResponse lost => Sys2Proof.Machine.execAlertResponse lost s
  | .unsupportedCommand cmd => Sys2Proof.Machine.execUnsupportedCommand cmd s
  | .sclTimeout => Sys2Proof.Machine.execSclTimeout s
  | .sdaTimeout => Sys2Proof.Machine.execSdaTimeout s
  | .stretchTimeout cmd sent left => Sys2Proof.Machine.execStretchTimeout cmd sent left s
  | .hbParkWake resumed => Sys2Proof.Machine.execHbParkWake resumed s
  | .svcPing tag payload => Sys2Proof.Machine.execSvcPing tag payload s
  | .winRead tag payload => Sys2Proof.Machine.execWinRead tag payload s
  | .winWrite tag payload => Sys2Proof.Machine.execWinWrite tag payload s
  | .jrnlRead tag payload => Sys2Proof.Machine.execJrnlRead tag payload s
  | .hqRead tag payload => Sys2Proof.Machine.execHqRead tag payload s
  | .setBaud tag payload => Sys2Proof.Machine.execSetBaud tag payload s
  | .devState tag payload => Sys2Proof.Machine.execDevState tag payload s
  | .vendorTest k tag payload => Sys2Proof.Machine.execVendorTest k tag payload s
  | .svcReservedCmd cmd tag payload => Sys2Proof.Machine.execSvcReservedCmd cmd tag payload s
  | .svcBadFrame framing raw => Sys2Proof.Machine.execSvcBadFrame framing raw s
  | .svcGapTimeout => Sys2Proof.Machine.execSvcGapTimeout s
  | .svcBaudApply => Sys2Proof.Machine.execSvcBaudApply s
  | .svcBaudFallback => Sys2Proof.Machine.execSvcBaudFallback s
  | .jrnlNote w m code => Sys2Proof.Machine.execJrnlNote w m code s
  | .jrnlAckWrite w m v => Sys2Proof.Machine.execJrnlAckWrite w m v s
  | .updateStatusCmd msg => Sys2Proof.Machine.execUpdateStatusCmd msg s
  | .updBegin msg => Sys2Proof.Machine.execUpdBegin msg s
  | .updData msg => Sys2Proof.Machine.execUpdData msg s
  | .updCommit msg => Sys2Proof.Machine.execUpdCommit msg s
  | .updErase msg => Sys2Proof.Machine.execUpdErase msg s
  | .eraseChunkDone ok => Sys2Proof.Machine.execEraseChunkDone ok s
  | .updFinish msg => Sys2Proof.Machine.execUpdFinish msg s
  | .finishComplete header => Sys2Proof.Machine.execFinishComplete header s
  | .updPrepare msg => Sys2Proof.Machine.execUpdPrepare msg s
  | .prepareComplete good => Sys2Proof.Machine.execPrepareComplete good s
  | .updActivate msg => Sys2Proof.Machine.execUpdActivate msg s
  | .activationRailStep => Sys2Proof.Machine.execActivationRailStep s
  | .activationReset m => Sys2Proof.Machine.execActivationReset m s
  | .healthConfirm msg supplyOk => Sys2Proof.Machine.execHealthConfirm msg supplyOk s
  | .updRevert msg => Sys2Proof.Machine.execUpdRevert msg s
  | .trialDeadline => Sys2Proof.Machine.execTrialDeadline s
  | .updAbort msg => Sys2Proof.Machine.execUpdAbort msg s
  | .updMap msg => Sys2Proof.Machine.execUpdMap msg s
  | .rollbackRetry supplyOk => Sys2Proof.Machine.execRollbackRetry supplyOk s
  | .lockstepMismatch m => Sys2Proof.Machine.execLockstepMismatch m s
  | .rootLockLoss m => Sys2Proof.Machine.execRootLockLoss m s
  | .vbiasReturn m => Sys2Proof.Machine.execVbiasReturn m s
  | .managerResetExit m => Sys2Proof.Machine.execManagerResetExit m s
  | .coreSupplySupervisorReset t => Sys2Proof.Machine.execCoreSupplySupervisorReset t s
  | .vioOutOfRange => Sys2Proof.Machine.execVioOutOfRange s
  | .vbackupLoss => Sys2Proof.Machine.execVbackupLoss s
  | .laneFrameCrcFail frame => Sys2Proof.Machine.execLaneFrameCrcFail frame s
  | .chunkProgramDone ok => Sys2Proof.Machine.execChunkProgramDone ok s

end Sys2Proof.Machine
end

