-- ==== Sys2Proof/Safety.lean ====
section
/-!
DEFINITION. The terms in which statements speak of the machine: a command that completes, what it leaves as it was, and the canonical form of a state.
-/
namespace Sys2Proof.Machine

/-- The command answers a next state, of which `P` holds. -/
def Answers (c : Instr) (s : State) (P : State → Prop) : Prop := ∃ t, exec c s = .next t ∧ P t

/-- The state without its cells: memories, queues, rings and records. -/
def State.sansCells (s : State) : State := { s with cells := [] }

/-- As `sansCells`, and without what a journal entry, a command between acceptance and completion and a free value change. -/
def State.sansLog (s : State) : State := { s with cells := [], jrnA := [], jrnB := [], cmds := [], freeCtr := 0 }

/-- The cells that a list names: field, block and copy. -/
def cellKeys (l : List (Fld × Nat × Nat)) : List Key := l.map fun x => x.1.key x.2.1 x.2.2

/-- Nothing but the named cells has changed: every other register, and all memories, queues, rings and records, are as before. -/
def OnlyCells (l : List (Fld × Nat × Nat)) (s t : State) : Prop :=
  t.sansCells = s.sansCells ∧ ∀ (f : Fld) (i j : Nat), f.key i j ∉ cellKeys l → t.getAt f i j = s.getAt f i j

/-- Nothing but cells of the named fields has changed. -/
def OnlyFields (l : List Fld) (s t : State) : Prop :=
  t.sansCells = s.sansCells ∧ ∀ (f : Fld) (i j : Nat), f.id ∉ l.map Fld.id → t.getAt f i j = s.getAt f i j

/-- The fields that a journal entry changes. -/
def logFlds : List Fld := [Reg.JRNL_NEXT.NEXT_SEQ, Reg.JRNL_OLDEST.OLDEST_SEQ, Reg.JRNL_STATUS.UNREAD_FAIL]

/-- Nothing but cells of the named fields, the journal with its registers, the commands under way and the counter of free values has changed. -/
def OnlyFieldsLog (l : List Fld) (s t : State) : Prop :=
  t.sansLog = s.sansLog ∧ ∀ (f : Fld) (i j : Nat), f.id ∉ (l ++ logFlds).map Fld.id → t.getAt f i j = s.getAt f i j

/-- Every byte of memory reads as before. -/
def BytesKept (s t : State) : Prop := ∀ a, t.rd8 a = s.rd8 a

/-- As `OnlyCells`, and the memory apart. -/
def OnlyCellsMem (l : List (Fld × Nat × Nat)) (s t : State) : Prop :=
  { t.sansCells with mem := [] } = { s.sansCells with mem := [] } ∧ ∀ (f : Fld) (i j : Nat), f.key i j ∉ cellKeys l → t.getAt f i j = s.getAt f i j

/-- Every byte of memory outside `n` bytes from `a` reads as before. -/
def BytesOutside (a n : Nat) (s t : State) : Prop := ∀ k, k < a ∨ a + n ≤ k → t.rd8 k = s.rd8 k

/-- The block of an engine's registers: its slot's phase, or for the spare's own slot the places after the phases. -/
def engBlock (t e : Nat) : Nat := if e < 24 then t * 24 + e else 96 + t

/-- Every field of these retention codes, outside blocks of the kinds `b` and apart from the named fields, is at its reset value (R10, R358). -/
def ResetAt (l : List Ret) (b : List Blk) (x : List Fld) (t : State) : Prop :=
  ∀ (f : Fld) (i j : Nat), f.ret ∈ l → f.blk ∉ b → f.id ∉ x.map Fld.id → t.getAt f i j = f.rst

/-- Every field of these retention codes apart from the named ones is as before. -/
def KeptAt (l : List Ret) (x : List Fld) (s t : State) : Prop :=
  ∀ (f : Fld) (i j : Nat), f.ret ∈ l → f.id ∉ x.map Fld.id → t.getAt f i j = s.getAt f i j

/-- The byte lies in the chunk of the configuration flash whose erase or program is under way; a reset that cuts it off leaves its content free (R414). -/
def State.cutByte (s : State) (a : Nat) : Bool :=
  decide (s.get Hid.FL_OP 0 ≠ 0) && decide (flashMem (s.chunkAddr (s.get Hid.FL_CHUNK 0)) ≤ a) &&
    decide (a < flashMem (s.chunkAddr (s.get Hid.FL_CHUNK 0)) + 4096)

/-- The managers that the integrity decision counts as present: those powered that have sensed their fuses (R328). -/
def State.startPresent (s : State) : State :=
  s.over (List.range 2) fun s m => s.putB Hid.PRESENT m (s.on Hid.POWERED m && s.on Hid.SENSED m)

/-- Outside a chunk whose operation was cut off, bytes of the memories that a reset keeps are as before and every other byte reads 0. -/
def MemReset (s t : State) : Prop := ∀ a, s.cutByte a = false → t.rd8 a = if keptMem a then s.rd8 a else 0

/-- Bytes of memory at the addresses `p` are as before, every other byte reads 0. -/
def MemOnly (p : Nat → Bool) (s t : State) : Prop := ∀ a, t.rd8 a = if p a then s.rd8 a else 0

/-- How far `a` lies ahead of `b`, counting forward modulo 2^32. -/
def ahead (a b : Nat) : Nat := (BitVec.ofNat 32 a - BitVec.ofNat 32 b).toNat

/-- A counter after one more event: all ones stay (R6). -/
def State.bumped (s : State) (f : Fld) (i : Nat) : Nat := if s.get f i + 1 < 2 ^ f.wid then s.get f i + 1 else s.get f i

/-- As `bumped`, for copy `j`. -/
def State.bumpedAt (s : State) (f : Fld) (i j : Nat) : Nat := if s.getAt f i j + 1 < 2 ^ f.wid then s.getAt f i j + 1 else s.getAt f i j

/-- The newest journal entry has this kind, status and target. -/
def State.logged (s : State) (kind status target : Nat) : Bool :=
  match s.jrnA.head? with
  | some e => decide (e.kind = kind) && decide (e.status = status) && decide (e.target = target)
  | none => false

/-- No stage of a sequence, of an unwind or of a tile's own order is in progress, and no enable waits after a thermal restart: a change of a rail starts
nothing else. -/
def State.quiet (s : State) : Bool :=
  decide (s.get Hid.SEQ_STEP 0 = 0) && ((List.range 4).all fun t => decide (s.get Hid.AK_STEP t = 0)) && decide (s.get Hid.TSD_QUEUE 0 = 0)

/-- Neither copy of the word at an address of an engine memory has an upset (R89). -/
def State.unhurt (s : State) (a : Nat) : Bool := decide (s.upsetAt a = .clean)

/-- The address of the word that the engine of slot `e` on tile `t` fetches next. -/
def State.fetchAddr (s : State) (t e : Nat) : Nat := engMem t (s.memSlot t e) + s.fetchOff (engIx t e) (s.engPhase t e) * 4

/-- The engine of slot `e` on tile `t` executes an instruction now, and its word has no upset. -/
def State.ready (s : State) (t e : Nat) : Bool := s.engReady (engIx t e) (s.engPhase t e) && s.unhurt (s.fetchAddr t e)

/-- The engine at place `x` has moved on by one word and one slot. -/
def Advanced (s t : State) (x : Nat) : Prop :=
  t.get Hid.E_PC x = (s.get Hid.E_PC x + 1) % 1024 ∧ t.get Hid.E_SLOT x = s.get Hid.E_SLOT x + 1

/-- The places of PC and slot count of an engine. -/
def stepCells (x : Nat) : List (Fld × Nat × Nat) := [(Hid.E_PC, x, 0), (Hid.E_SLOT, x, 0)]

/-- The places of its flags. -/
def flagCells (x : Nat) : List (Fld × Nat × Nat) := [(Hid.E_Z, x, 0), (Hid.E_N, x, 0), (Hid.E_C, x, 0), (Hid.E_V, x, 0)]

/-- The four flags: Z and N from a word, C and V as given. -/
def FlagsAre (t : State) (x : Nat) (v : Word) (c o : Bool) : Prop :=
  t.get Hid.E_Z x = (decide (v = 0)).toNat ∧ t.get Hid.E_N x = v.msb.toNat ∧ t.get Hid.E_C x = c.toNat ∧ t.get Hid.E_V x = o.toNat

/-- One instruction has written `v` to register `d` with its flags, and nothing else. -/
def WroteAlu (s t : State) (x d : Nat) (v : Word) (c o : Bool) : Prop :=
  t.w x d = v ∧ FlagsAre t x v c o ∧ Advanced s t x ∧ OnlyCells ((Hid.E_W, x, d) :: flagCells x ++ stepCells x) s t

/-- One instruction has set the flags of `v` and nothing else. -/
def WroteFlags (s t : State) (x : Nat) (v : Word) (c o : Bool) : Prop :=
  FlagsAre t x v c o ∧ Advanced s t x ∧ OnlyCells (flagCells x ++ stepCells x) s t

/-- One instruction has written `v` to register `d` and left the flags. -/
def WroteReg (s t : State) (x d : Nat) (v : Word) : Prop :=
  t.w x d = v ∧ Advanced s t x ∧ OnlyCells ((Hid.E_W, x, d) :: stepCells x) s t

/-- sat32 of an exact integer (R86). -/
def sat32 (y : Int) : Word := BitVec.ofInt 32 (max (-2147483648) (min 2147483647 y))

/-- The integer lies outside 32 signed bits. -/
def out32 (y : Int) : Bool := decide (y < -2147483648) || decide (2147483647 < y)

/-- Fields whose register, when it is written, does more than take the word: the fields that an operation writes, and those whose write starts something. -/
def effectFields : List Fld :=
  opFields ++ holdupFaults ++
    [Reg.PH_TIMING.OFFSET, Reg.RAIL_TLM_CFG.TLM_WIN, Reg.RAIL_OFF_CFG.TMO, Reg.FC_PORT_CTRL.TERM_A, Reg.IIN_CFG.IIN_MAX, Reg.BFET_CTRL.IBAT_DLIM,
     Reg.GG_CFG.DESIGN_CAP, Reg.SQL_CFG.ROLE, Reg.EVC_CTRL.QEN, Reg.JRNL_ACK.ACK_SEQ, Reg.TRACE_MARK.MARK, Reg.HB_CFG.WP]

/-- A register of block `b` that only holds settings and status: no command bit stands in it, and no write of it starts anything. A write to the gauge's
registers wakes the gauge, so those are not among them. -/
def plainReg (b : Blk) (off : Nat) : Bool :=
  !(fieldsAt b off).isEmpty && !(b = .hpd && decide (0x7000 ≤ off) && decide (off < 0x8000)) &&
    (fieldsAt b off).all fun fj => fj.1.acc ≠ .w1s && fj.1.acc ≠ .wo && !effectFields.contains fj.1

/-- The field is the companion bit of a field of its register whose hardware update meets the write (R11). -/
def companionMet (b : Blk) (off : Nat) (f : Fld) (j : Nat) (hw : List HwUpdate) : Bool :=
  (fieldsAt b off).any fun gk =>
    gk.1.meets (hwOf gk.1 hw) && gk.1.companion.any fun c => decide (c = f ∧ (if c.cnt = 1 then 0 else gk.2) = j)

/-- What a field holds after its register took the word `v` in the cycle of the hardware updates `hw`, by the access types of R5 and R11. -/
def State.taken (s : State) (b : Blk) (off : Nat) (f : Fld) (i j v : Nat) (hw : List HwUpdate) : Nat :=
  let u := hwOf f hw
  let old := s.getAt f i j
  if companionMet b off f j hw then 1
  else
    (match f.acc with
      | .rw => f.part v
      | .hw => u.getD (f.part v)
      | .rwl => if s.locked b off then u.getD old else f.part v
      | .w1c => (old - (old &&& f.part v)) ||| u.getD 0
      | _ => u.getD old) % 2 ^ f.wid

/-- The cells that a write of a plain register can change: its fields, the bits that show a lost hardware update, and the LOCK_VIOL of its lock. -/
def regCells (b : Blk) (m i off : Nat) : List (Fld × Nat × Nat) :=
  let fs := fieldsAt b off
  fs.map (fun fj => (fj.1, fj.1.at m i, fj.2)) ++
    (fs.filterMap fun fj => fj.1.companion.map fun g => (g, fj.1.at m i, if g.cnt = 1 then 0 else fj.2)) ++
    (lockOf b off).elim [] fun l => [(l.2, 0, 0)]

/-- The place of a block in the cells: its own, or for a manager's block where the refusal bits of the active manager stand. -/
def refusalCell (b : Blk) (m i off : Nat) (f : Fld) : Fld × Nat × Nat :=
  (f, if b.onMgr then f.home m else i, if f.cnt = 1 then 0 else (f.copyAt off).getD 0)

/-- The state of a tile at the end of the tick that a boundary ends: copies of words are upset, and the library laws have run (R89, R116). -/
def State.atEnd (s : State) (t : Nat) (upsets : List (Slot × BitVec 12 × Upset)) : State :=
  (s.upsets t upsets).over (List.range 25) fun s e => s.lawRun t e

/-- What the target sends for a read of command `cmd`: the data, then the PEC over both addresses, the command and the data (R392). -/
def State.readReply (s : State) (cmd : Nat) (l : List Byte) : List Byte :=
  l ++ [crc8 (s.addrByte false :: BitVec.ofNat 8 cmd :: s.addrByte true :: l)]

/-- The newest journal entry has this kind, status, target, code and argument. -/
def State.entered (s : State) (kind status target code arg : Nat) : Bool :=
  match s.jrnA.head? with
  | some e => s.logged kind status target && decide (e.code = code) && decide (e.arg = arg % 2 ^ 32)
  | none => false

/-- The message gives an update command `k` its payload: on the host bus a block with its count, or nothing, with a right PEC or none where none is
required; on the service port the payload of a frame that no wake discards (R392, R394, R404, R417). -/
def State.portGives (s : State) (k : Nat) (msg : PortMsg) (l : List Byte) : Bool :=
  s.portsServe && s.notRetired &&
    match msg with
    | .host bytes =>
      let body := if l.isEmpty then [] else leBytes 1 l.length ++ l
      let pec := crc8 (s.addrByte false :: BitVec.ofNat 8 (0xE0 + k) :: body)
      decide (s.get Reg.HB_STATUS.ADDR 0 ≠ 0) && decide (l.length < 256) && decide (l.length ≤ s.hbStaging) &&
        decide ((bytes = body ∧ s.on Reg.HB_CFG.PEC_REQ 0 = false) ∨ bytes = body ++ [pec])
    | .svc _ payload => decide (payload = l) && decide (l.length ≤ s.svcStaging) && !s.svcAsleep l.length

/-- The payload that a message with a block carries. -/
def payloadOf : PortMsg → List Byte
  | .host bytes => writeData none bytes
  | .svc _ payload => payload

/-- The port has taken a write-type update command `k`: acknowledged on the host bus, answered with a status on the service port (R392, R404). -/
def portTold (t : State) (k st : Nat) : PortMsg → Bool
  | .host _ => t.on Hid.HB_ACK 0 && t.hbReply.isEmpty
  | .svc tag _ => decide (t.svcReply = replyFrame (0x10 + k) tag.toNat (leBytes 1 st))

/-- The port has answered a read of the update engine with these data. -/
def portShown (s t : State) (k : Nat) (l : List Byte) : PortMsg → Bool
  | .host _ => t.on Hid.HB_ACK 0 && decide (t.hbReply = s.readReply (0xE0 + k) (leBytes 1 l.length ++ l))
  | .svc tag _ => decide (t.svcReply = replyFrame (0x10 + k) tag.toNat (leBytes 1 JStatus.ok ++ l))

/-- What a message on either port changes of the ports' own fields, and LAST_STATUS. -/
def portFlds : List Fld :=
  [Hid.HB_ACK, Reg.HB_COUNTS.CMD_COUNT, Reg.HB_COUNTS.ERR_COUNT, Hid.SVC_TAG, Hid.BAUD_TRY, Reg.SP_COUNTS.FRAMES, Reg.SP_COUNTS.ERR_COUNT,
   Reg.UPD_STATUS.LAST_STATUS]

/-- A command frame that a worker takes: its CRC holds and it is for this worker, or for all where the command may be sent to all (R183). -/
def State.laneTakes (s : State) (f : LaneHead) (mayBcast : Bool) (op args : Nat) : Bool :=
  s.laneWorker && decide (crc16 (msgBytes 2 f.dest.toNat f.seq.toNat op args) = f.crc) && s.laneMine f && (mayBcast || decide (f.dest ≠ 0xF#4))

/-- The frame does not repeat the last command accepted (R184). -/
def State.laneNew (s : State) (f : LaneHead) (args : Nat) : Bool :=
  !(s.on Hid.LW_VALID 0 && decide (s.get Hid.LW_SEQ 0 = f.seq.toNat) && decide (s.get Hid.LW_ARGS 0 = args))

/-- The worker has the reply to a frame for it alone; a frame for all has none (R182, R183). -/
def State.laneReplied (t : State) (f : LaneHead) (status data : Nat) : Bool :=
  decide (f.dest = 0xF#4) ||
    (t.on Hid.LW_REPLY 0 && decide (t.get Hid.LW_RSEQ 0 = f.seq.toNat) && decide (t.get Hid.LW_STATUS 0 = status) &&
      decide (t.get Hid.LW_DATA 0 = data % 2 ^ 56))

/-- A place in a manager's resumption map. -/
def inMaps (a : Nat) : Bool := (List.range 2).any fun m => decide (mapMem m 0 ≤ a) && decide (a < mapMem m 0x8000)

/-- Every byte of memory but those at the places `p` reads as before. -/
def BytesBut (p : Nat → Bool) (s t : State) : Prop := ∀ a, p a = false → t.rd8 a = s.rd8 a

/-- The canonical form: every cell listed once in key order, every byte listed once in address order and none that is 0. -/
def State.Canon (s : State) : Prop := Cells.wf s.cells = true ∧ Memory.wf s.mem = true

/-- A safe run stops at no command. -/
def State.Runs (s : State) : Prop := ∃ t, step s = .next t

end Sys2Proof.Machine
end

