-- ==== Sys2Proof/WellFormed.lean ====
section
/-!
DEFINITION. Which commands are well formed: the bounds of the operands whose Lean type is wider than what the spec's wire or register carries.
-/
namespace Sys2Proof

/-- A signed quantity fits `w` bits. -/
def fitsS (w : Nat) (x : Int) : Bool := decide (-(2 ^ (w - 1) : Nat) ≤ x) && decide (x < (2 ^ (w - 1) : Nat))

/-- The bytes of a host-bus message after its command byte: a byte count, at most 255 data bytes, a PEC, and the two bytes beyond that the rules of R392 tell apart. -/
def hostLen (l : List Byte) : Bool := decide (l.length ≤ 259)

/-- The bytes of a read that a stretch limit ends: at most a count, 255 data bytes and a PEC. -/
def sentLen (l : List Byte) : Bool := decide (l.length ≤ 257)

/-- The payload of a service-port frame: LEN has two bytes (R403). -/
def frameLen (l : List Byte) : Bool := decide (l.length < 65536)

/-- An update command's message, of either port. -/
def msgLen : PortMsg → Bool
  | .host bytes => hostLen bytes
  | .svc _ payload => frameLen payload

/-- The sum of the 256 codes of 12 bits of an offset measurement (R63). -/
def obsOk (o : ProbeObs) : Bool := decide (o.codeSum ≤ 256 * 4095)

/-- The phases of a pre-start test, each once. -/
def obsList (l : List (Phase × ProbeObs)) : Bool := (l.all fun p => obsOk p.2) && decide (l.map Prod.fst).Nodup

/-- The failed copies of a fuse operation, each once, by physical bits of one field: the array has fewer than 16 384. -/
def failsOk (l : List (Mgr × Nat × Bool)) : Bool := (l.all fun x => decide (x.2.1 < 16384)) && decide (l.map fun x => (x.1, x.2.1)).Nodup

/-- The command is well formed. -/
def Instr.wf : Instr → Bool
  | .regWrite _ _ _ _ bytes _ hw more => [1, 2, 4].contains bytes && decide (hw.length ≤ 32) && (more.all fun y => [1, 2, 4].contains y.bytes) && decide (more.length ≤ 5)
  | .lowWordSnapshotRead _ _ _ _ bytes => [1, 2, 4].contains bytes
  | .crossingFrameReceive _ _ _ => true
  | .crossingLaneFail _ _ => true
  | .crossingRegWrite _ _ _ _ _ _ => true
  | .beatFrameSend _ => true
  | .slotReceive _ _ _ _ => true
  | .slotLaneFail _ _ _ => true
  | .sscModeWrite _ _ _ => true
  | .rootRelockDone => true
  | .refEdgeLoss _ => true
  | .refValid10us _ _ => true
  | .holdoverExpire _ => true
  | .settlingEnd _ => true
  | .xtalStop _ => true
  | .xtalCompareWindow _ _ => true
  | .commandClockReady => true
  | .pllNotReadyReject => true
  | .beatAdvance _ => true
  | .tickBoundary _ levels spare _ upsets => decide (levels.length = 12) && levels.all fun y => fitsS 32 y.1 && fitsS 32 y.2 && fitsS 32 spare && decide (upsets.length ≤ 25 * 2560)
  | .cycleStart _ _ => true
  | .phaseLeadingEdge _ => true
  | .phaseScanConversion _ level spare => fitsS 32 level && fitsS 32 spare
  | .imonFaultTrip _ => true
  | .imonNoReport _ => true
  | .stgTfFault _ _ => true
  | .stgTfLow _ _ => true
  | .midHoldEnd _ => true
  | .parkDwellExpire _ => true
  | .addThresholdHeld _ => true
  | .phShed _ _ _ => true
  | .phAdd _ _ => true
  | .phUnblock _ _ => true
  | .readdProbeComplete _ obs => obsOk obs
  | .prestartTestComplete _ obs => obsList obs
  | .isoAssert _ _ _ => true
  | .isoRelease _ _ => true
  | .isoNSensedLow _ _ => true
  | .phTimingWrite _ _ _ _ _ => true
  | .nop _ _ => true
  | .add _ _ _ _ _ => true
  | .sub _ _ _ _ _ => true
  | .adds _ _ _ _ _ => true
  | .subs _ _ _ _ _ => true
  | .andOp _ _ _ _ _ => true
  | .orOp _ _ _ _ _ => true
  | .xor _ _ _ _ _ => true
  | .minOp _ _ _ _ _ => true
  | .maxOp _ _ _ _ _ => true
  | .shl _ _ _ _ _ => true
  | .shr _ _ _ _ _ => true
  | .sra _ _ _ _ _ => true
  | .muls _ _ _ _ _ _ => true
  | .clamp _ _ _ _ _ => true
  | .cmp _ _ _ _ => true
  | .addi _ _ _ _ _ => true
  | .shli _ _ _ _ _ => true
  | .srai _ _ _ _ _ => true
  | .lil _ _ _ _ => true
  | .lih _ _ _ _ => true
  | .cmpi _ _ _ _ => true
  | .ld _ _ _ _ _ => true
  | .st _ _ _ _ _ => true
  | .mac _ _ _ _ _ => true
  | .msu _ _ _ _ _ => true
  | .ald _ _ _ _ _ => true
  | .ard _ _ _ _ _ => true
  | .inPort _ _ _ _ => true
  | .outPort _ _ _ _ => true
  | .evr _ _ _ => true
  | .eclr _ _ _ => true
  | .bev _ _ _ => true
  | .br _ _ _ _ => true
  | .jl _ _ _ _ => true
  | .jr _ _ _ => true
  | .waitt _ _ => true
  | .illegalInstruction _ _ _ => true
  | .overrunShed _ _ => true
  | .programBankWrite _ _ _ _ _ => true
  | .bankCrcDone _ _ => true
  | .dataMemoryWrite _ _ _ _ => true
  | .engineScrub _ _ _ => true
  | .swapArm _ _ _ => true
  | .bankSwap _ _ => true
  | .engineFault _ _ _ _ => true
  | .spareTakeoverDone _ => true
  | .failInj _ _ _ => true
  | .handback _ _ => true
  | .spareSelfCheck _ _ => true
  | .lawSelect _ _ _ => true
  | .lawCopyDone _ => true
  | .setpointCommand _ _ _ _ => true
  | .slopeFire _ _ _ => true
  | .slopeWindowEnd _ _ => true
  | .cinchTrip _ _ _ _ => true
  | .cinchRelease _ _ _ => true
  | .cinchHandoverEnd _ _ => true
  | .cinchHoldoffEnd _ _ => true
  | .cinchWireMismatch _ _ _ => true
  | .forecastWord _ _ _ _ _ => true
  | .forecastClockLoss _ _ => true
  | .forecastDue _ _ => true
  | .forecastFireStart _ _ => true
  | .forecastPulseStart _ => true
  | .forecastPulseEnd _ => true
  | .forecastJudge _ _ => true
  | .skewCal _ _ => true
  | .skewCalDone _ _ _ _ => true
  | .rotationPositionStart _ => true
  | .rotationCompare _ => true
  | .sliceCalibrationDone _ _ ofs gain => fitsS 32 ofs && fitsS 32 gain
  | .spareSelfCalDone _ trims => decide (trims.length = 32) && trims.all fun y => fitsS 32 y.1 && fitsS 32 y.2
  | .tvcConversion _ level => fitsS 32 level
  | .diagStart _ _ => true
  | .diagComplete _ _ _ => true
  | .hkConversion _ level => fitsS 32 level
  | .vinDisagreeConfirm _ => true
  | .tlmWindowEnd _ _ => true
  | .pkClr _ _ _ => true
  | .accLowWrite _ _ _ => true
  | .accHighWrite _ _ _ _ => true
  | .powerEstimate _ => true
  | .powerPartialSend _ => true
  | .powerPartialStale _ _ _ => true
  | .railOn _ _ _ => true
  | .railOff _ _ _ => true
  | .pgAssert _ => true
  | .pgLoss _ => true
  | .enablePgTimeout _ => true
  | .seqRun _ _ => true
  | .seqStageStart _ => true
  | .seqStageTimeout => true
  | .railBelowOffThreshold _ => true
  | .shutdownFirstTimeout _ => true
  | .shutdownSecondTimeout _ => true
  | .snapTake _ => true
  | .snapshotLatch _ _ _ _ _ => true
  | .snapshotComplete _ => true
  | .laneCycleStart _ => true
  | .laneBeatFrame _ _ _ => true
  | .hello _ => true
  | .laneStatus _ => true
  | .seqRunLane _ _ _ => true
  | .laneRailOn _ _ _ => true
  | .laneRailOff _ _ _ => true
  | .laneSnap _ _ => true
  | .laneKerb _ => true
  | .laneFltRelease _ => true
  | .seqQuery _ _ => true
  | .laneBadOpcode _ _ _ => true
  | .laneReply _ _ _ _ _ => true
  | .laneReplyMissing => true
  | .laneDeadline => true
  | .laneLost => true
  | .masterListenEnd => true
  | .sqlTxGo _ _ => true
  | .fltNFault => true
  | .fltRelease _ => true
  | .phaseOcShed _ => true
  | .chDisagree _ => true
  | .railOvConfirm _ => true
  | .railUvConfirm _ => true
  | .railOcConfirm _ => true
  | .senseLostOff _ => true
  | .thermalReading _ a b => fitsS 16 a && fitsS 16 b
  | .tileThermalShutdown _ => true
  | .tileThermalRestart _ => true
  | .tsdClr _ _ => true
  | .mgrThermalShutdown _ => true
  | .hpdThermalShutdown => true
  | .hpdThermalRestart => true
  | .throttleKerb => true
  | .sensorDisagree _ => true
  | .vauxValid => true
  | .vauxInvalid _ => true
  | .iinShare _ => true
  | .iinSearch _ => true
  | .iinSearchStart => true
  | .iinSearchStep => true
  | .iinSearchPauseEnd => true
  | .sagWatch => true
  | .vbbTrip _ => true
  | .bfetLinearEnd => true
  | .chargeBlockOff => true
  | .dsgOc => true
  | .dsgShort => true
  | .fetDegraded => true
  | .handbackStart => true
  | .handbackRampStep => true
  | .bfetOpen _ => true
  | .bfetArm _ => true
  | .bfetFaultClear _ _ _ => true
  | .chgEnable _ _ => true
  | .chgVpreReached => true
  | .chgVccReached => true
  | .chgVcvReached => true
  | .chgTerminate => true
  | .chgRecharge => true
  | .btsConversion _ temp => fitsS 16 temp
  | .btsFault => true
  | .chgTimerExpire => true
  | .batOv => true
  | .presenceTestStart => true
  | .presenceTestEnd _ => true
  | .batShort => true
  | .chgOc => true
  | .chgFaultClear _ _ => true
  | .buckPhaseStop _ => true
  | .gaugeFrame ush _ => fitsS 32 ush
  | .emptyAnchor => true
  | .hibernate => true
  | .hibConversion ush => fitsS 32 ush
  | .gaugeWake => true
  | .gaugeStore => true
  | .ggStore _ => true
  | .invalidate _ => true
  | .authStart _ => true
  | .getId reply _ => decide (reply.length ≤ 258)
  | .challenge reply => decide (reply.length ≤ 258)
  | .packReplyTimeout => true
  | .authRetry => true
  | .metPowerUp _ _ _ _ => true
  | .metSample _ _ _ => true
  | .metHalfSample => true
  | .metPulseEnd => true
  | .metStreamStuck _ => true
  | .metStreamResume => true
  | .metClockCheck _ => true
  | .metIntervalRecord _ => true
  | .metWatchdog => true
  | .metTallyStore _ => true
  | .metSupplyFall _ => true
  | .metLiveSend => true
  | .metPeriodicSend _ => true
  | .sendId _ => true
  | .sendHealth _ => true
  | .sendLast _ => true
  | .replayPrev _ => true
  | .metReqStrobe _ _ _ => true
  | .metReqTimeout _ => true
  | .metFrameReceive _ arrived => sentLen arrived
  | .metLinkLost _ => true
  | .metCalBankWrite _ _ _ => true
  | .metLock _ => true
  | .halfLossAnnounce _ _ _ => true
  | .halfLossDeclare _ _ => true
  | .halfLossHoldEnd _ _ => true
  | .splitYield _ => true
  | .rejoin _ _ _ => true
  | .rejoinRoleSwap _ => true
  | .heartbeatSend _ => true
  | .heartbeatReceive _ _ => true
  | .heartbeatMiss _ => true
  | .roleDeadmanRelease _ => true
  | .takeover _ _ => true
  | .handover _ _ => true
  | .mirrorCopy _ => true
  | .mirrorSweep => true
  | .shadowReady _ => true
  | .mgrSilent _ => true
  | .autoKerb _ => true
  | .awlProbeStart _ _ _ => true
  | .awlVerdict _ _ _ _ => true
  | .awlNotRun _ _ _ => true
  | .lbistStart _ _ _ => true
  | .lbistDone _ => true
  | .captureArm _ _ => true
  | .capTrig _ _ => true
  | .captureStop _ => true
  | .kerbEnter _ => true
  | .kerbSocEntry => true
  | .kerbExit _ => true
  | .eventReport _ _ => true
  | .eventReportRefresh _ => true
  | .foldClose _ => true
  | .evcTake _ _ => true
  | .evcScTake _ _ => true
  | .evcHqTake _ _ => true
  | .evcComplete _ _ _ => true
  | .foldComplete _ _ _ => true
  | .powerOnReset _ => true
  | .fuseSenseDone _ _ => true
  | .broadcastReceive _ _ _ _ _ => true
  | .integrityDecision => true
  | .loadCommit => true
  | .armToRun => true
  | .devRun _ _ => true
  | .armLate => true
  | .fuseProgram _ _ _ _ _ _ _ => true
  | .fuseProgramDone fails => failsOk fails
  | .fuseProgramResume _ => true
  | .lcAdvance _ _ _ _ => true
  | .lcWipe _ _ _ => true
  | .rstNAssert => true
  | .rstNRelease => true
  | .sysRst _ _ _ => true
  | .tileRst _ _ _ _ => true
  | .devPark _ _ => true
  | .devWake _ _ => true
  | .mewsEnter => true
  | .vbiasLoss _ => true
  | .vioValid _ => true
  | .coreWait _ _ _ => true
  | .scratchpadStore _ _ _ _ _ _ _ => true
  | .framStore _ _ _ _ _ => true
  | .memoryScrub _ _ _ => true
  | .keyA _ _ => true
  | .keyB _ _ => true
  | .wdtBadKey _ _ => true
  | .ewarn => true
  | .wdtTimeout => true
  | .wdtPulseEnd => true
  | .rtcSecond => true
  | .rtcHalt _ _ => true
  | .rtcResume _ _ => true
  | .rtcSecWrite _ _ _ => true
  | .dstAdd _ _ => true
  | .dstSub _ _ => true
  | .bkupLow _ => true
  | .tamper _ _ => true
  | .traceMark _ _ _ => true
  | .page _ bytes => hostLen bytes
  | .operation _ bytes => hostLen bytes
  | .onOffConfig => true
  | .clearFaults bytes => hostLen bytes
  | .writeProtect _ bytes => hostLen bytes
  | .capability => true
  | .voutMode => true
  | .voutCommand _ bytes => hostLen bytes
  | .voutMax => true
  | .voutOvFaultLimit _ bytes => hostLen bytes
  | .ioutOcFaultLimit _ bytes => hostLen bytes
  | .statusByte => true
  | .statusWord => true
  | .statusVout => true
  | .statusIout => true
  | .statusCml => true
  | .readVin => true
  | .readIin => true
  | .readVout => true
  | .readIout => true
  | .readTemperature1 => true
  | .readTemperature2 => true
  | .readPout => true
  | .readPin => true
  | .pmbusRevision => true
  | .mfrId => true
  | .mfrModel => true
  | .mfrRevision => true
  | .mfrSerial => true
  | .mfrWinAddr _ bytes => hostLen bytes
  | .mfrWinData _ bytes => hostLen bytes
  | .mfrWinRlen _ bytes => hostLen bytes
  | .mfrWinStatus => true
  | .mfrDevState => true
  | .mfrJrnlHead => true
  | .mfrJrnlRead bytes => hostLen bytes
  | .mfrJrnlAck bytes => hostLen bytes
  | .mfrHqRead => true
  | .mfrTag _ bytes => hostLen bytes
  | .quickCommand => true
  | .alertResponse _ => true
  | .unsupportedCommand _ => true
  | .sclTimeout => true
  | .sdaTimeout => true
  | .stretchTimeout _ sent _ => sentLen sent
  | .hbParkWake _ => true
  | .svcPing _ payload => frameLen payload
  | .winRead _ payload => frameLen payload
  | .winWrite _ payload => frameLen payload
  | .jrnlRead _ payload => frameLen payload
  | .hqRead _ payload => frameLen payload
  | .setBaud _ payload => frameLen payload
  | .devState _ payload => frameLen payload
  | .vendorTest _ _ payload => frameLen payload
  | .svcReservedCmd _ _ payload => frameLen payload
  | .svcBadFrame _ raw => decide (raw.length < 65544)
  | .svcGapTimeout => true
  | .svcBaudApply => true
  | .svcBaudFallback => true
  | .jrnlNote _ _ _ => true
  | .jrnlAckWrite _ _ _ => true
  | .updateStatusCmd msg => msgLen msg
  | .updBegin msg => msgLen msg
  | .updData msg => msgLen msg
  | .updCommit msg => msgLen msg
  | .updErase msg => msgLen msg
  | .eraseChunkDone _ => true
  | .updFinish msg => msgLen msg
  | .finishComplete _ => true
  | .updPrepare msg => msgLen msg
  | .prepareComplete _ => true
  | .updActivate msg => msgLen msg
  | .activationRailStep => true
  | .activationReset _ => true
  | .healthConfirm msg _ => msgLen msg
  | .updRevert msg => msgLen msg
  | .trialDeadline => true
  | .updAbort msg => msgLen msg
  | .updMap msg => msgLen msg
  | .rollbackRetry _ => true
  | .lockstepMismatch _ => true
  | .rootLockLoss _ => true
  | .vbiasReturn _ => true
  | .managerResetExit _ => true
  | .coreSupplySupervisorReset _ => true
  | .vioOutOfRange => true
  | .vbackupLoss => true
  | .laneFrameCrcFail frame => decide (frame.length = 7 ∨ frame.length = 12)
  | .chunkProgramDone _ => true

end Sys2Proof
end

