-- ==== Sys2Proof/Certificates/Slice0/Obligations.lean ====
section
/-!
DEFINITION. The statements for the provers. Each clause names one command, the conditions on state and operands under which it completes with the effect
that the cited rules give it, and what holds of the next state; `OnlyFields` and `OnlyCells` say what it leaves as it was.
-/
open Sys2Proof Sys2Proof.Machine

/-- A frame whose lane 0 works and passes its CRC is taken, so that lane's run of failures is 0 and no CRC counter moves; a frame of which both copies fail is discarded and counted at the tile; a lane with three consecutive failures is marked failed; nothing else changes. -/
def Obligations.CrossingFramesAndLanes : Prop :=
  (∀ (path : FramePath) (ok0 ok1 : Bool) (s : State), ok0 = true → s.laneFailed path 0 = false → Answers (.crossingFrameReceive path ok0 ok1) s fun t => t.getAt
      (pathCounts path).1 (pathCounts path).2.1 (pathCounts path).2.2 = 0 ∧ OnlyFields [Hid.XT_FAILS, Hid.XH_FAILS, Hid.XM_FAILS, Hid.XR_FAILS] s t) ∧
  (∀ (path : FramePath) (ok0 ok1 : Bool) (s : State), (pathCounts path).1 = Hid.XT_FAILS → ok0 = false → ok1 = false → Answers (.crossingFrameReceive path ok0 ok1) s fun
      t => t.get Reg.CROSS_COUNTS.CRC_COUNT (pathCounts path).2.1 = s.bumped Reg.CROSS_COUNTS.CRC_COUNT (pathCounts path).2.1 ∧ OnlyFields [Hid.XT_FAILS,
      Reg.CROSS_COUNTS.CRC_COUNT] s t) ∧
  (∀ (path : FramePath) (lane : Fin 2) (s : State), s.getAt (pathCounts path).1 (pathCounts path).2.1 ((pathCounts path).2.2 + lane) = 3 → Answers (.crossingLaneFail path
      lane) s fun t => t.laneFailed path lane = true ∧ OnlyFieldsLog [Hid.XH_FAILS, Hid.XH_LANE_FAIL, Hid.XM_FAILS, Hid.XM_LANE_FAIL, Hid.XR_FAILS, Hid.XR_LANE_FAIL,
      Hid.XT_FAILS, Reg.CROSS_LANE_STATUS.LANE_FAIL_A, Reg.CROSS_LANE_STATUS.LANE_FAIL_B] { s with awlErrs := t.awlErrs, awlProbes := t.awlProbes } t)

/-- A running manager's beat frame leaves its beat, epoch and role at every tile and at HPD and ends every tile's silence; the word that the neighbour committed to a slot six ticks before replaces the last valid one where its CRC passes and its sequence count is the expected one, and leaves it where the CRC fails, the expected count moving on either way; the third failure on a lane in use moves its slot to the free spare lane, which is silent for the ticks of the move, and with no spare left the slot is lost; a beat that is not held counts one microsecond and carries into its epoch, and a held beat stays. Nothing else changes. -/
def Obligations.BeatFramesAndSlots : Prop :=
  (∀ (m : Mgr) (s : State), s.on Hid.PRESENT m → Answers (.beatFrameSend m) s fun t => (∀ u : Tile, t.getAt Hid.BF_BEAT u m = s.get Hid.BEAT m % 2 ^ 40 ∧ t.getAt
      Hid.BF_EPOCH u m = s.get Hid.EPOCH m % 2 ^ 16 ∧ t.getAt Hid.BF_ROLE u m = (s.isActive m).toNat ∧ t.get Reg.TILE_AUTO.MGR_SILENT u = 0) ∧ t.getAt Hid.BFH_BEAT 0 m =
      s.get Hid.BEAT m % 2 ^ 40 ∧ t.getAt Hid.BFH_ROLE 0 m = (s.isActive m).toNat ∧ OnlyFields [Hid.BFH_BEAT, Hid.BFH_ROLE, Hid.BF_BEAT, Hid.BF_EPOCH, Hid.BF_ROLE,
      Hid.SILENT_N, Reg.TILE_AUTO.MGR_SILENT] s t) ∧
  (∀ (u : Tile) (upper : Bool) (slot : Fin 8) (crcOk : Bool) (s : State), hasNeighbour u upper → s.onAt Hid.SLOT_LOST u (slotIx upper slot) = false → s.onAt Hid.SLOT_NEW
      u (slotIx upper slot) = false → s.onAt Hid.SLOT_GAP u (slotIx upper slot) = false → s.getAt Hid.SLOT_H_TICK (neighbour u upper) (ringIx (slotIx (!upper) slot)
      (s.slotTick u)) = s.slotTick u + 1 → crcOk = true → (s.onAt Hid.SLOT_SYNC u (slotIx upper slot) = false ∨ s.getAt Hid.SLOT_H_SEQ (neighbour u upper) (ringIx (slotIx
      (!upper) slot) (s.slotTick u)) = s.getAt Hid.SLOT_SEQ u (slotIx upper slot)) → Answers (.slotReceive u upper slot crcOk) s fun t => t.getAt Hid.SLOT_REF u (slotIx
      upper slot) = s.getAt Hid.SLOT_H_REF (neighbour u upper) (ringIx (slotIx (!upper) slot) (s.slotTick u)) ∧ t.getAt Hid.SLOT_FLAGS u (slotIx upper slot) = s.getAt
      Hid.SLOT_H_FLAGS (neighbour u upper) (ringIx (slotIx (!upper) slot) (s.slotTick u)) ∧ t.getAt Hid.SLOT_AGE u (slotIx upper slot) = 0 ∧ t.getAt Hid.SLOT_SEQ u
      (slotIx upper slot) = (s.getAt Hid.SLOT_H_SEQ (neighbour u upper) (ringIx (slotIx (!upper) slot) (s.slotTick u)) + 1) % 16 ∧ t.getAt Hid.SLOT_FAILS u (slotIx upper
      slot) = 0 ∧ t.getAt Hid.SLOT_NEW u (slotIx upper slot) = 2 ∧ OnlyCells [(Hid.SLOT_REF, u, slotIx upper slot), (Hid.SLOT_FLAGS, u, slotIx upper slot), (Hid.SLOT_AGE,
      u, slotIx upper slot), (Hid.SLOT_SEQ, u, slotIx upper slot), (Hid.SLOT_SYNC, u, slotIx upper slot), (Hid.SLOT_FAILS, u, slotIx upper slot), (Hid.SLOT_NEW, u, slotIx
      upper slot), (Hid.SLOT_DOWN, u, slotIx upper slot)] s t) ∧
  (∀ (u : Tile) (upper : Bool) (slot : Fin 8) (crcOk : Bool) (s : State), hasNeighbour u upper → s.onAt Hid.SLOT_LOST u (slotIx upper slot) = false → s.onAt Hid.SLOT_NEW
      u (slotIx upper slot) = false → s.onAt Hid.SLOT_GAP u (slotIx upper slot) = false → s.getAt Hid.SLOT_H_TICK (neighbour u upper) (ringIx (slotIx (!upper) slot)
      (s.slotTick u)) = s.slotTick u + 1 → crcOk = false → Answers (.slotReceive u upper slot crcOk) s fun t => t.getAt Hid.SLOT_REF u (slotIx upper slot) = s.getAt
      Hid.SLOT_REF u (slotIx upper slot) ∧ t.getAt Hid.SLOT_SEQ u (slotIx upper slot) = (s.getAt Hid.SLOT_SEQ u (slotIx upper slot) + 1) % 16 ∧ t.getAt Hid.SLOT_NEW u
      (slotIx upper slot) = 1 ∧ t.getAt Hid.SLOT_FAILS u (slotIx upper slot) = s.bumpedAt Hid.SLOT_FAILS u (slotIx upper slot) ∧ t.get Reg.CROSS_COUNTS.CRC_COUNT u =
      s.bumped Reg.CROSS_COUNTS.CRC_COUNT u ∧ OnlyCells [(Hid.SLOT_SEQ, u, slotIx upper slot), (Hid.SLOT_FAILS, u, slotIx upper slot), (Hid.SLOT_NEW, u, slotIx upper
      slot), (Reg.CROSS_COUNTS.CRC_COUNT, u, 0)] s t) ∧
  (∀ (u : Tile) (upper : Bool) (lane : Fin 9) (s : State), hasNeighbour u upper → lane.val < 8 → s.get (spareMapFld upper) u = 15 → s.bit (laneFailFld upper) u lane =
      false → s.bit (laneFailFld upper) u 8 = false → s.getAt Hid.SLOT_FAILS u (slotIx upper lane) = 3 → Answers (.slotLaneFail u upper lane) s fun t => t.bit
      (laneFailFld upper) u lane = true ∧ t.get (spareMapFld upper) u = lane ∧ t.getAt Hid.SLOT_FAILS u (slotIx upper lane) = 0 ∧ t.getAt Hid.SLOT_GAP u (slotIx upper
      lane) = 5 ∧ OnlyFieldsLog [Hid.SLOT_FAILS, Hid.SLOT_GAP, Hid.SLOT_LOST, Reg.CROSS_LANE_STATUS.LANE_FAIL_LO, Reg.CROSS_LANE_STATUS.LANE_FAIL_UP,
      Reg.CROSS_LANE_STATUS.SPARE_MAP_LO, Reg.CROSS_LANE_STATUS.SPARE_MAP_UP] { s with awlErrs := t.awlErrs, awlProbes := t.awlProbes } t) ∧
  (∀ (u : Tile) (upper : Bool) (lane : Fin 9) (s : State), hasNeighbour u upper → lane.val < 8 → s.get (spareMapFld upper) u ≠ 15 → s.bit (laneFailFld upper) u lane =
      false → s.getAt Hid.SLOT_FAILS u (slotIx upper lane) = 3 → Answers (.slotLaneFail u upper lane) s fun t => t.bit (laneFailFld upper) u lane = true ∧ t.getAt
      Hid.SLOT_LOST u (slotIx upper lane) = 1 ∧ t.get (spareMapFld upper) u = s.get (spareMapFld upper) u ∧ OnlyFieldsLog [Hid.SLOT_FAILS, Hid.SLOT_GAP, Hid.SLOT_LOST,
      Reg.CROSS_LANE_STATUS.LANE_FAIL_LO, Reg.CROSS_LANE_STATUS.LANE_FAIL_UP, Reg.CROSS_LANE_STATUS.SPARE_MAP_LO, Reg.CROSS_LANE_STATUS.SPARE_MAP_UP]
      { s with awlErrs := t.awlErrs, awlProbes := t.awlProbes } t) ∧
  (∀ (m : Mgr) (s : State), s.on Hid.POWERED m → s.on Hid.XTAL_STOPPED m = false → s.on Hid.BEAT_HOLD m = false → (m.val ≠ s.act ∨ s.on Hid.LN_HOLD 0 = false) → Answers
      (.beatAdvance m) s fun t => t.get Hid.BEAT m = (s.get Hid.BEAT m + 1) % 2 ^ 40 ∧ t.get Hid.EPOCH m = (if s.get Hid.BEAT m = 2 ^ 40 - 1 then (s.get Hid.EPOCH m + 1)
      % 2 ^ 16 else s.get Hid.EPOCH m) ∧ OnlyFields [Hid.BEAT, Hid.EPOCH, Hid.BEAT_HOLD, Hid.HB_WAIT, Hid.ROLE_WAIT] s t) ∧
  (∀ (m : Mgr) (s : State), s.on Hid.BEAT_HOLD m → Answers (.beatAdvance m) s fun t => t.get Hid.BEAT m = s.get Hid.BEAT m ∧ t.get Hid.EPOCH m = s.get Hid.EPOCH m ∧
      OnlyFields [Hid.HB_WAIT, Hid.ROLE_WAIT] s t)

/-- A new SSC_MODE stops the shadow's reference and shows the relock; the end of the second relock ends it; a unit whose followed reference fails goes to holdover, locks again when that reference is valid, or runs free when holdover expires, and switches from free-run to a reference that returns; settling ends; a crystal that stops stops its reference; when both managers fail a comparison and neither crystal has stopped, the active manager shows CLOCK_DISAGREE. Readings and choices of the model that it rests on: log entries 98, 99. -/
def Obligations.ReferencesAndRelock : Prop :=
  (∀ (w : Who) (m : Mgr) (mode : BitVec 2) (s : State), s.reach w m = s.act → mode.toNat ≠ s.get Reg.CLK_CTRL.SSC_MODE 0 → s.shadowPresent → Answers (.sscModeWrite w m
      mode) s fun t => t.get Reg.CLK_CTRL.SSC_MODE 0 = mode.toNat ∧ t.get Reg.CLK_STATUS.RELOCK_ACTIVE 0 = 1 ∧ t.get Reg.CLK_STATUS.RELOCK_ACTIVE 1 = 1 ∧ t.get Hid.REF_OK
      (peer s.act) = 0 ∧ t.get Reg.CLK_STATUS.ROOT_LOCK (peer s.act) = 0 ∧ OnlyFields [Hid.BUS_ERR, Hid.REF_OK, Hid.RELOCK_STAGE, Reg.CLK_CTRL.SSC_MODE,
      Reg.CLK_STATUS.RELOCK_ACTIVE, Reg.CLK_STATUS.ROOT_LOCK, Reg.HPD_CLK_STATUS.REF_A_OK, Reg.HPD_CLK_STATUS.REF_B_OK, Reg.TILE_CLK_STATUS.REF_A_OK,
      Reg.TILE_CLK_STATUS.REF_B_OK] s t) ∧
  (∀ (w : Who) (m : Mgr) (mode : BitVec 2) (s : State), s.reach w m = s.act → mode.toNat ≠ s.get Reg.CLK_CTRL.SSC_MODE 0 → s.shadowPresent = false → Answers
      (.sscModeWrite w m mode) s fun t => t.get Reg.CLK_CTRL.SSC_MODE 0 = mode.toNat ∧ t.get Reg.CLK_STATUS.RELOCK_ACTIVE 0 = 1 ∧ t.get Hid.REF_OK s.act = 0 ∧ t.get
      Reg.CLK_STATUS.ROOT_LOCK s.act = 0 ∧ OnlyFields [Hid.BUS_ERR, Hid.REF_OK, Hid.RELOCK_STAGE, Reg.CLK_CTRL.SSC_MODE, Reg.CLK_STATUS.RELOCK_ACTIVE,
      Reg.CLK_STATUS.ROOT_LOCK, Reg.HPD_CLK_STATUS.REF_A_OK, Reg.HPD_CLK_STATUS.REF_B_OK, Reg.TILE_CLK_STATUS.REF_A_OK, Reg.TILE_CLK_STATUS.REF_B_OK] s t) ∧
  (∀ (s : State), s.get Hid.RELOCK_STAGE 0 = 2 → Answers (.rootRelockDone) s fun t => t.get Hid.RELOCK_STAGE 0 = 0 ∧ t.get Reg.CLK_STATUS.RELOCK_ACTIVE 0 = 0 ∧ t.get
      Reg.CLK_STATUS.RELOCK_ACTIVE 1 = 0 ∧ t.get Reg.CLK_STATUS.ROOT_LOCK s.act = 1 ∧ t.get Hid.REF_OK s.act = 1 ∧ OnlyFields [Hid.FOLLOWED, Hid.FOLLOWED_H, Hid.REF_OK,
      Hid.RELOCK_STAGE, Reg.CLK_STATUS.RELOCK_ACTIVE, Reg.CLK_STATUS.ROOT_LOCK, Reg.HPD_CLK_STATUS.REF_A_OK, Reg.HPD_CLK_STATUS.REF_B_OK, Reg.HPD_CLK_STATUS.REF_SRC,
      Reg.HPD_CLK_STATUS.SETTLING, Reg.HPD_CLK_STATUS.SWITCH_COUNT, Reg.HPD_CLK_STATUS.SWITCH_EVT, Reg.TILE_CLK_STATUS.REF_A_OK, Reg.TILE_CLK_STATUS.REF_B_OK,
      Reg.TILE_CLK_STATUS.REF_SRC, Reg.TILE_CLK_STATUS.SETTLING, Reg.TILE_CLK_STATUS.SWITCH_COUNT, Reg.TILE_CLK_STATUS.SWITCH_EVT] s t) ∧
  (∀ (s : State), s.get Hid.RELOCK_STAGE 0 = 1 → Answers (.rootRelockDone) s fun t => t.get Hid.RELOCK_STAGE 0 = 2 ∧ (∀ u : Unit5, t.refSrc u = peer s.act) ∧ t.get
      Reg.CLK_STATUS.ROOT_LOCK (peer s.act) = 1 ∧ t.get Reg.CLK_STATUS.ROOT_LOCK s.act = 0) ∧
  (∀ (u : Unit5) (s : State), s.refSrc u < 2 → Answers (.refEdgeLoss u) s fun t => t.refSrc u = 2 ∧ t.on (refOkF u (s.refSrc u)) (clkI u) = false ∧ t.get (clkF u
      Reg.TILE_CLK_STATUS.HOLDOVER_EVT Reg.HPD_CLK_STATUS.HOLDOVER_EVT) (clkI u) = 1 ∧ OnlyFields [Reg.HPD_CLK_STATUS.HOLDOVER_EVT, Reg.HPD_CLK_STATUS.REF_A_OK,
      Reg.HPD_CLK_STATUS.REF_B_OK, Reg.HPD_CLK_STATUS.REF_SRC, Reg.TILE_CLK_STATUS.HOLDOVER_EVT, Reg.TILE_CLK_STATUS.REF_A_OK, Reg.TILE_CLK_STATUS.REF_B_OK,
      Reg.TILE_CLK_STATUS.REF_SRC] s t) ∧
  (∀ (u : Unit5) (m : Mgr) (s : State), s.refBarred m = false → s.refSrc u = 2 → s.get (clkF u Hid.FOLLOWED Hid.FOLLOWED_H) (clkI u) = m → Answers (.refValid10us u m) s
      fun t => t.refSrc u = m ∧ t.on Reg.CLK_STATUS.ROOT_LOCK m ∧ t.on (refOkF u m) (clkI u) ∧ OnlyFields [Hid.FOLLOWED, Hid.FOLLOWED_H, Hid.REF_OK, Hid.SLEWING,
      Hid.SLEWING_H, Reg.CLK_STATUS.ROOT_LOCK, Reg.HPD_CLK_STATUS.REF_A_OK, Reg.HPD_CLK_STATUS.REF_B_OK, Reg.HPD_CLK_STATUS.REF_SRC, Reg.HPD_CLK_STATUS.SETTLING,
      Reg.HPD_CLK_STATUS.SWITCH_COUNT, Reg.HPD_CLK_STATUS.SWITCH_EVT, Reg.TILE_CLK_STATUS.REF_A_OK, Reg.TILE_CLK_STATUS.REF_B_OK, Reg.TILE_CLK_STATUS.REF_SRC,
      Reg.TILE_CLK_STATUS.SETTLING, Reg.TILE_CLK_STATUS.SWITCH_COUNT, Reg.TILE_CLK_STATUS.SWITCH_EVT] s t) ∧
  (∀ (u : Unit5) (m : Mgr) (s : State), s.refBarred m = false → s.refSrc u = 3 → Answers (.refValid10us u m) s fun t => t.refSrc u = m ∧ t.get (clkF u
      Reg.TILE_CLK_STATUS.SWITCH_EVT Reg.HPD_CLK_STATUS.SWITCH_EVT) (clkI u) = 1 ∧ t.get (clkF u Reg.TILE_CLK_STATUS.SETTLING Reg.HPD_CLK_STATUS.SETTLING) (clkI u) = 1 ∧
      t.get (clkF u Hid.SLEWING Hid.SLEWING_H) (clkI u) = 1 ∧ OnlyFields [Hid.FOLLOWED, Hid.FOLLOWED_H, Hid.REF_OK, Hid.SLEWING, Hid.SLEWING_H, Reg.CLK_STATUS.ROOT_LOCK,
      Reg.HPD_CLK_STATUS.REF_A_OK, Reg.HPD_CLK_STATUS.REF_B_OK, Reg.HPD_CLK_STATUS.REF_SRC, Reg.HPD_CLK_STATUS.SETTLING, Reg.HPD_CLK_STATUS.SWITCH_COUNT,
      Reg.HPD_CLK_STATUS.SWITCH_EVT, Reg.TILE_CLK_STATUS.REF_A_OK, Reg.TILE_CLK_STATUS.REF_B_OK, Reg.TILE_CLK_STATUS.REF_SRC, Reg.TILE_CLK_STATUS.SETTLING,
      Reg.TILE_CLK_STATUS.SWITCH_COUNT, Reg.TILE_CLK_STATUS.SWITCH_EVT] s t) ∧
  (∀ (u : Unit5) (s : State), s.refSrc u = 2 → s.on (refOkF u 0) (clkI u) = false → s.on (refOkF u 1) (clkI u) = false → Answers (.holdoverExpire u) s fun t => t.refSrc u
      = 3 ∧ t.get (clkF u Reg.TILE_CLK_STATUS.FREERUN_EVT Reg.HPD_CLK_STATUS.FREERUN_EVT) (clkI u) = 1 ∧ OnlyFields [Reg.HPD_CLK_STATUS.FREERUN_EVT,
      Reg.HPD_CLK_STATUS.REF_A_OK, Reg.HPD_CLK_STATUS.REF_B_OK, Reg.HPD_CLK_STATUS.REF_SRC, Reg.TILE_CLK_STATUS.FREERUN_EVT, Reg.TILE_CLK_STATUS.REF_A_OK,
      Reg.TILE_CLK_STATUS.REF_B_OK, Reg.TILE_CLK_STATUS.REF_SRC] s t) ∧
  (∀ (u : Unit5) (s : State), Answers (.settlingEnd u) s fun t => t.get (clkF u Reg.TILE_CLK_STATUS.SETTLING Reg.HPD_CLK_STATUS.SETTLING) (clkI u) = 0 ∧ OnlyFields
      [Hid.SLEWING, Hid.SLEWING_H, Reg.HPD_CLK_STATUS.SETTLING, Reg.TILE_CLK_STATUS.SETTLING] s t) ∧
  (∀ (m : Mgr) (s : State), s.on Reg.CLK_STATUS.ROOT_LOCK m → Answers (.rootLockLoss m) s fun t => t.get Reg.CLK_STATUS.LOCK_LOST m = 1 ∧ t.get Reg.CLK_STATUS.ROOT_LOCK m
      = 0 ∧ t.get Hid.REF_OK m = 0 ∧ OnlyFields [Hid.REF_OK, Reg.CLK_STATUS.LOCK_LOST, Reg.CLK_STATUS.ROOT_LOCK, Reg.HPD_CLK_STATUS.REF_A_OK, Reg.HPD_CLK_STATUS.REF_B_OK,
      Reg.TILE_CLK_STATUS.REF_A_OK, Reg.TILE_CLK_STATUS.REF_B_OK] s t) ∧
  (∀ (m : Mgr) (s : State), Answers (.xtalStop m) s fun t => t.get Hid.XTAL_STOPPED m = 1 ∧ t.get Hid.REF_OK m = 0 ∧ (t.get Hid.PRESENT m = 0 ∨ s.get Hid.PRESENT m = 0)) ∧
  (∀ (failA failB : Bool) (s : State), failA = true → failB = true → s.on Hid.XTAL_STOPPED 0 = false → s.on Hid.XTAL_STOPPED 1 = false → s.on Hid.EXPLICIT_FAULT 0 = false
      → s.on Hid.EXPLICIT_FAULT 1 = false → Answers (.xtalCompareWindow failA failB) s fun t => t.get Reg.CLK_STATUS.CLOCK_DISAGREE s.act = 1 ∧ t.get
      Reg.CLK_STATUS.PEER_REF_OK 0 = 0 ∧ t.get Reg.CLK_STATUS.PEER_REF_OK 1 = 0 ∧ OnlyFields [Reg.CLK_STATUS.CLOCK_DISAGREE, Reg.CLK_STATUS.PEER_REF_OK] s t) ∧
  (∀ (failA failB : Bool) (s : State), failA = false → failB = false → Answers (.xtalCompareWindow failA failB) s fun t => t.get Reg.CLK_STATUS.PEER_REF_OK 0 = 1 ∧ t.get
      Reg.CLK_STATUS.PEER_REF_OK 1 = 1 ∧ t.get Reg.CLK_STATUS.CLOCK_DISAGREE s.act = s.get Reg.CLK_STATUS.CLOCK_DISAGREE s.act)

/-- A fault comparator's trip, a silent report and a stage group's fault line shed a phase that is ACTIVE or PARKED and was not re-added before: SHED with its cause, PWM at mid, SHED_EVT, SHED_COUNT, PH_OUT pending; an open or shorted STG_TF line sheds nothing; the end of the 200 ns of mid lets a firing phase go high; a conversion that the scan's schedule has leaves CODE and IPH; a host SHED marks the phase, which is SHED with cause HOST at its next leading edge, where a phase with a park pending is PARKED; nothing else changes where the statement says so. -/
def Obligations.PhaseFaultsShed : Prop :=
  (∀ (p : Phase) (s : State), s.sheddable p → s.on Hid.READD_DONE p = false → Answers (.imonFaultTrip p) s fun t => t.ph p = Ph.shed ∧ t.get Reg.PH_STATE.CAUSE p =
      Cause.imonFault ∧ t.get Hid.PWM_LVL p = Pwm.mid.num ∧ t.get Reg.PH_STATUS.IMON_FLT p = 1 ∧ t.get Reg.PH_STATUS.SHED_EVT p = 1 ∧ t.get Reg.PH_COUNTS.SHED_COUNT p =
      s.bumped Reg.PH_COUNTS.SHED_COUNT p ∧ t.bit Reg.ENG_EV.PENDING p Ev.phOut ∧ OnlyFields [Hid.ADD_PEND, Hid.E_RUN, Hid.E_SLOT, Hid.E_WAIT, Hid.FIRED, Hid.JOIN_PEND,
      Hid.LOAD_SIG, Hid.MARK_MID, Hid.MID_BUSY, Hid.MID_TICK, Hid.PROBING, Hid.PWM_LVL, Hid.READD_DONE, Reg.ENG_EV.EVW, Reg.ENG_EV.PENDING, Reg.ENG_STATUS.HALTED,
      Reg.ENG_STATUS.OVR_RUN, Reg.PH_COUNTS.REPEAT, Reg.PH_COUNTS.SHED_COUNT, Reg.PH_STATE.CAUSE, Reg.PH_STATE.STATE, Reg.PH_STATUS.CMD_DROP, Reg.PH_STATUS.IMON_FLT,
      Reg.PH_STATUS.REPEAT_BLOCK, Reg.PH_STATUS.SHED_EVT, Reg.STG_GROUP_STATUS.STG_EN] s t) ∧
  (∀ (p : Phase) (s : State), s.sheddable p → s.on Hid.READD_DONE p = false → Answers (.imonNoReport p) s fun t => t.ph p = Ph.shed ∧ t.get Reg.PH_STATE.CAUSE p =
      Cause.noReport ∧ t.get Hid.PWM_LVL p = Pwm.mid.num ∧ t.bit Reg.ENG_EV.PENDING p Ev.phOut ∧ OnlyFields [Hid.ADD_PEND, Hid.E_RUN, Hid.E_SLOT, Hid.E_WAIT, Hid.FIRED,
      Hid.JOIN_PEND, Hid.LOAD_SIG, Hid.MARK_MID, Hid.MID_BUSY, Hid.MID_TICK, Hid.PROBING, Hid.PWM_LVL, Hid.READD_DONE, Reg.ENG_EV.EVW, Reg.ENG_EV.PENDING,
      Reg.ENG_STATUS.HALTED, Reg.ENG_STATUS.OVR_RUN, Reg.PH_COUNTS.REPEAT, Reg.PH_COUNTS.SHED_COUNT, Reg.PH_STATE.CAUSE, Reg.PH_STATE.STATE, Reg.PH_STATUS.CMD_DROP,
      Reg.PH_STATUS.REPEAT_BLOCK, Reg.PH_STATUS.SHED_EVT, Reg.STG_GROUP_STATUS.STG_EN] s t) ∧
  (∀ (u : Tile) (g : Fin 6) (s : State), Answers (.stgTfFault u g) s fun t => t.bit Reg.STG_GROUP_STATUS.TF_FAULT u g ∧ t.bit Reg.STG_GROUP_STATUS.TF_FLT_EVT u g ∧ (∀ p ∈
      phasesOfStage u g, s.sheddable p → s.on Hid.READD_DONE p = false → t.ph p = Ph.shed ∧ t.get Reg.PH_STATE.CAUSE p = Cause.tfFault ∧ t.get Reg.PH_STATUS.TF_FLT p = 1)
      ∧ OnlyFields [Hid.ADD_PEND, Hid.E_RUN, Hid.E_SLOT, Hid.E_WAIT, Hid.FIRED, Hid.JOIN_PEND, Hid.LOAD_SIG, Hid.MARK_MID, Hid.MID_BUSY, Hid.MID_TICK, Hid.PROBING,
      Hid.PWM_LVL, Hid.READD_DONE, Reg.ENG_EV.EVW, Reg.ENG_EV.PENDING, Reg.ENG_STATUS.HALTED, Reg.ENG_STATUS.OVR_RUN, Reg.PH_COUNTS.REPEAT, Reg.PH_COUNTS.SHED_COUNT,
      Reg.PH_STATE.CAUSE, Reg.PH_STATE.STATE, Reg.PH_STATUS.CMD_DROP, Reg.PH_STATUS.REPEAT_BLOCK, Reg.PH_STATUS.SHED_EVT, Reg.PH_STATUS.TF_FLT,
      Reg.STG_GROUP_STATUS.STG_EN, Reg.STG_GROUP_STATUS.TF_FAULT, Reg.STG_GROUP_STATUS.TF_FLT_EVT] s t) ∧
  (∀ (u : Tile) (g : Fin 6) (s : State), Answers (.stgTfLow u g) s fun t => t.bit Reg.STG_GROUP_STATUS.TF_LOW u g ∧ t.bit Reg.STG_GROUP_STATUS.TF_FLT_EVT u g ∧ OnlyFields
      [Hid.STG_HI_N, Hid.STG_LO_N, Reg.STG_DERATE.DERATE, Reg.STG_GROUP_STATUS.TF_FLT_EVT, Reg.STG_GROUP_STATUS.TF_LOW, Reg.STG_TEMP.TEMP_EVEN, Reg.STG_TEMP.TEMP_ODD] s
      t) ∧
  (∀ (p : Phase) (s : State), Answers (.midHoldEnd p) s fun t => t.get Hid.MID_BUSY p = 0 ∧ t.get Hid.PWM_LVL p = (if s.on Hid.FIRED p then Pwm.pulse.num else s.get
      Hid.PWM_LVL p) ∧ OnlyCells [(Hid.MID_BUSY, p, 0), (Hid.PWM_LVL, p, 0)] s t) ∧
  (∀ (p : Phase) (level spare : Level) (q : Nat) (s : State), s.scanPos p = some q → s.underDiag p = false → Answers (.phaseScanConversion p level spare) s fun t => t.get
      Reg.PH_IMEAS.CODE p = (s.posCode (tileOf p) q (codeOf 12 (-2048 * 31250) 31250 level) (codeOf 12 (-2048 * 31250) 31250 spare)).2 % 4096 ∧ t.getI Reg.PH_IMEAS.IPH p
      = iphOf (s.posCode (tileOf p) q (codeOf 12 (-2048 * 31250) 31250 level) (codeOf 12 (-2048 * 31250) 31250 spare)).2 (s.getI Reg.PH_ICAL.IOFS p) (s.get
      Reg.PH_ICAL.IPH_SCALE p)) ∧
  (∀ (w : Who) (p : Phase) (withAdd : Bool) (s : State), s.sheddable p → Answers (.phShed w p withAdd) s fun t => t.get Hid.MARK_MID p = 2 ∧ t.get Reg.PH_STATUS.CMD_DROP
      p = (if withAdd then 1 else s.get Reg.PH_STATUS.CMD_DROP p) ∧ t.logged JKind.done JStatus.ok (s.railOf p) ∧ OnlyFieldsLog [Hid.FU_DEBUG, Hid.FU_DEVICE_ID,
      Hid.FU_HPD_TRIM, Hid.FU_IG, Hid.FU_ILIM, Hid.FU_KEY, Hid.FU_KILL, Hid.FU_K_ROOT, Hid.FU_LIFE, Hid.FU_MGR_TRIM, Hid.FU_OV, Hid.FU_PRIV, Hid.FU_PRODUCT,
      Hid.FU_REVOKE, Hid.FU_ROLLBACK, Hid.FU_STG, Hid.FU_WDT_HW, Hid.FU_WIPE, Hid.MARK_MID, Reg.PH_CMD.SHED, Reg.PH_STATUS.CMD_DROP] s t) ∧
  (∀ (p : Phase) (s : State), s.get Hid.MARK_MID p = 1 → s.on Hid.HELD p = false → s.ph p = Ph.active → Answers (.phaseLeadingEdge p) s fun t => t.ph p = Ph.parked ∧
      t.get Hid.PWM_LVL p = Pwm.mid.num ∧ t.get Reg.PH_STATUS.PARK_EVT p = 1 ∧ t.get Hid.MARK_MID p = 0 ∧ OnlyFields [Hid.ADD_PEND, Hid.CLAMPED_CYC, Hid.CUT, Hid.E_RUN,
      Hid.E_SLOT, Hid.E_WAIT, Hid.FIRED, Hid.HELD, Hid.JOIN_PEND, Hid.LOAD_SIG, Hid.MARK_MID, Hid.MID_BUSY, Hid.MID_TICK, Hid.OC_N, Hid.ONTIME_ACT, Hid.PROBING,
      Hid.PWM_LVL, Hid.READD_DONE, Reg.ENG_EV.EVW, Reg.ENG_EV.PENDING, Reg.ENG_STATUS.HALTED, Reg.ENG_STATUS.OVR_RUN, Reg.PH_COUNTS.CLAMP_COUNT, Reg.PH_COUNTS.REPEAT,
      Reg.PH_COUNTS.SHED_COUNT, Reg.PH_STATE.CAUSE, Reg.PH_STATE.STATE, Reg.PH_STATUS.CLAMP, Reg.PH_STATUS.CMD_DROP, Reg.PH_STATUS.PARK_EVT, Reg.PH_STATUS.REPEAT_BLOCK,
      Reg.PH_STATUS.SHED_EVT, Reg.STG_GROUP_STATUS.STG_EN] s t) ∧
  (∀ (p : Phase) (s : State), s.get Hid.MARK_MID p = 2 → s.sheddable p → s.on Hid.JOIN_PEND p = false → s.on Hid.READD_DONE p = false → Answers (.phaseLeadingEdge p) s
      fun t => t.ph p = Ph.shed ∧ t.get Reg.PH_STATE.CAUSE p = Cause.host ∧ t.get Hid.PWM_LVL p = Pwm.mid.num)

/-- At the leading edge of an ACTIVE phase without mark, hold, fire or mid its on-time is the committed duty clamped by TON_MIN and TOFF_MIN, with a pulse unless it is 0; where the rail's counter passes through 0 its cycle starts: PER_ACT takes PER_CNT where the rail is not throttled and a pending OFFSET takes effect; PH_TIMING takes its fields on an idle phase and is refused on another. -/
def Obligations.PhasePulseAndCycle : Prop :=
  (∀ (p : Phase) (s : State), s.get Hid.MARK_MID p = 0 → s.on Hid.HELD p = false → s.ph p = Ph.active → s.on Hid.FIRED p = false → s.on Hid.MID_BUSY p = false → Answers
      (.phaseLeadingEdge p) s fun t => t.get Hid.ONTIME_ACT p = clampOnTime (s.get Hid.DUTY p) (s.get Reg.PH_TIMING.TON_MIN p) (s.get Reg.PH_TIMING.TOFF_MIN p) (s.get
      Reg.RAIL_PWM.PER_ACT (railIx (tileOf p) (s.railOf p))) % 2 ^ Hid.ONTIME_ACT.wid ∧ t.get Hid.ADD_PEND p = 0 ∧ t.ph p = Ph.active ∧ (t.get Hid.ONTIME_ACT p ≠ 0 →
      t.get Hid.PWM_LVL p = Pwm.pulse.num) ∧ OnlyFields [Hid.ADD_PEND, Hid.CLAMPED_CYC, Hid.CUT, Hid.E_RUN, Hid.E_SLOT, Hid.E_WAIT, Hid.FIRED, Hid.HELD, Hid.JOIN_PEND,
      Hid.LOAD_SIG, Hid.MARK_MID, Hid.MID_BUSY, Hid.MID_TICK, Hid.OC_N, Hid.ONTIME_ACT, Hid.PROBING, Hid.PWM_LVL, Hid.READD_DONE, Reg.ENG_EV.EVW, Reg.ENG_EV.PENDING,
      Reg.ENG_STATUS.HALTED, Reg.ENG_STATUS.OVR_RUN, Reg.PH_COUNTS.CLAMP_COUNT, Reg.PH_COUNTS.REPEAT, Reg.PH_COUNTS.SHED_COUNT, Reg.PH_STATE.CAUSE, Reg.PH_STATE.STATE,
      Reg.PH_STATUS.CLAMP, Reg.PH_STATUS.CMD_DROP, Reg.PH_STATUS.PARK_EVT, Reg.PH_STATUS.REPEAT_BLOCK, Reg.PH_STATUS.SHED_EVT, Reg.STG_GROUP_STATUS.STG_EN] s t) ∧
  (∀ (r : Rail) (u : Tile) (s : State), s.cycleDue (railIx u r) → Answers (.cycleStart r u) s fun t => t.get Hid.CYC_NOW (railIx u r) = 1 ∧ t.get Hid.CYC_WRAP (railIx u
      r) = s.get Reg.RAIL_PWM.PER_ACT (railIx u r) ∧ (s.on Hid.THR_ACT (railIx u r) = false → s.getAt Hid.THR_WANT 0 r = 0 → t.get Reg.RAIL_PWM.PER_ACT (railIx u r) =
      s.get Reg.RAIL_PWM.PER_CNT (railIx u r) % 2 ^ Reg.RAIL_PWM.PER_ACT.wid) ∧ (∀ p ∈ s.phasesOn u r, s.on Hid.OFS_PEND p → t.get Hid.OFS_ACT p = s.get
      Reg.PH_TIMING.OFFSET p % 2 ^ Hid.OFS_ACT.wid ∧ t.get Hid.OFS_PEND p = 0) ∧ OnlyFields [Hid.CYC_NOW, Hid.CYC_WRAP, Hid.LEAD_POS, Hid.OFS_ACT, Hid.OFS_PEND,
      Hid.THR_ACT, Reg.RAIL_PWM.PER_ACT] s t) ∧
  (∀ (w : Who) (p : Phase) (ofs : BitVec 16) (ton toff : Byte) (s : State), s.idlePh p → Answers (.phTimingWrite w p ofs ton toff) s fun t => t.get Reg.PH_TIMING.OFFSET p
      = ofs.toNat % 2 ^ Reg.PH_TIMING.OFFSET.wid ∧ t.get Reg.PH_TIMING.TON_MIN p = ton.toNat % 2 ^ Reg.PH_TIMING.TON_MIN.wid ∧ t.get Reg.PH_TIMING.TOFF_MIN p = toff.toNat
      % 2 ^ Reg.PH_TIMING.TOFF_MIN.wid ∧ OnlyFields [Hid.OFS_PEND, Reg.PH_STATUS.CFG_REJ, Reg.PH_TIMING.OFFSET, Reg.PH_TIMING.TOFF_MIN, Reg.PH_TIMING.TON_MIN] s t) ∧
  (∀ (w : Who) (p : Phase) (ofs : BitVec 16) (ton toff : Byte) (s : State), s.idlePh p = false → s.get Reg.PH_TIMING.TON_MIN p ≠ ton.toNat → Answers (.phTimingWrite w p
      ofs ton toff) s fun t => t.get Reg.PH_STATUS.CFG_REJ p = 1 ∧ OnlyCells [(Reg.PH_STATUS.CFG_REJ, p, 0)] s t)

/-- Held for SHED_DWELL, the park condition marks the phase of highest rank of the half that parks, and held for 1 µs, the add condition adds the parked phase of lowest rank of the half that adds, at once on the lead tile and by the rail's slot on the other; an ADD makes a parked phase ACTIVE, starts the probe of a shed one and is dropped where a mid cause falls in its tick or the tile is shut down; a re-add probe that passes joins at the phase's next leading edge, where it is ACTIVE, and one that fails blocks it; an UNBLOCK of a phase whose rail is off, or that has none, returns it to OFF; ISO_N of a group goes low on ISO_ASSERT and high again on a RELEASE with every rail of the group off, and a tile that senses it sheds its phases of the group and stops the rails that have no other, after which the sequences under way take their next step; a passed pre-start test begins the soft-start. Readings and choices of the model that it rests on: log entries 15, 100, 123. -/
def Obligations.PhasesParkedAddedProbed : Prop :=
  (∀ (r : Rail) (q : Phase) (s : State), s.get Reg.RAIL_SHED.SHED_BELOW (railIx (s.leadTile r) r) ≠ 0 → s.dwellTicks (railIx (s.leadTile r) r) ≤ s.get Hid.DWELL (railIx
      (s.leadTile r) r) → (s.minActive r + ((s.counted (s.leadTile r) r).filter fun p => decide (s.get Hid.MARK_MID p = 1 ∨ s.get Hid.LOAD_SIG p = 1)).length < s.nActive
      (s.leadTile r) r) → s.on Hid.ADD_NOW (railIx (s.leadTile r) r) = false → s.highestRank (s.parkFrom r) = some q.val → Answers (.parkDwellExpire r) s fun t => (if
      tileOf q = s.leadTile r then t.get Hid.MARK_MID q = 1 else t.get Hid.LOAD_SIG q = 1) ∧ t.get Hid.MARK_NEW q = 1 ∧ t.get Hid.DWELL (railIx (s.leadTile r) r) = 0 ∧
      OnlyFields [Hid.ADD_PEND, Hid.DWELL, Hid.FU_DEBUG, Hid.FU_DEVICE_ID, Hid.FU_HPD_TRIM, Hid.FU_IG, Hid.FU_ILIM, Hid.FU_KEY, Hid.FU_KILL, Hid.FU_K_ROOT, Hid.FU_LIFE,
      Hid.FU_MGR_TRIM, Hid.FU_OV, Hid.FU_PRIV, Hid.FU_PRODUCT, Hid.FU_REVOKE, Hid.FU_ROLLBACK, Hid.FU_STG, Hid.FU_WDT_HW, Hid.FU_WIPE, Hid.LOAD_AT, Hid.LOAD_SIG,
      Hid.MARK_MID, Hid.MARK_NEW, Reg.PH_STATE.STATE] s t) ∧
  (∀ (r : Rail) (q : Phase) (s : State), 100 ≤ s.get Hid.ADD_HELD (railIx (s.leadTile r) r) → s.lowestRank (s.addFrom r) = some q.val → s.on Hid.MID_TICK q = false →
      Answers (.addThresholdHeld r) s fun t => (if tileOf q = s.leadTile r then t.ph q = Ph.active ∧ t.get Hid.ADD_PEND q = 1 else t.get Hid.LOAD_SIG q = 2) ∧ t.get
      Hid.ADD_HELD (railIx (s.leadTile r) r) = 0 ∧ t.get Hid.ADD_NOW (railIx (s.leadTile r) r) = 1 ∧ OnlyFields [Hid.ADD_HELD, Hid.ADD_NOW, Hid.ADD_PEND, Hid.DWELL,
      Hid.FU_DEBUG, Hid.FU_DEVICE_ID, Hid.FU_HPD_TRIM, Hid.FU_IG, Hid.FU_ILIM, Hid.FU_KEY, Hid.FU_KILL, Hid.FU_K_ROOT, Hid.FU_LIFE, Hid.FU_MGR_TRIM, Hid.FU_OV,
      Hid.FU_PRIV, Hid.FU_PRODUCT, Hid.FU_REVOKE, Hid.FU_ROLLBACK, Hid.FU_STG, Hid.FU_WDT_HW, Hid.FU_WIPE, Hid.LOAD_AT, Hid.LOAD_SIG, Hid.MARK_MID, Hid.MARK_NEW,
      Reg.PH_STATE.STATE] s t) ∧
  (∀ (w : Who) (p : Phase) (s : State), (s.ph p = Ph.parked ∨ s.ph p = Ph.shed) → (s.on Hid.MID_TICK p ∨ s.on Hid.TSD_ON (tileOf p)) → Answers (.phAdd w p) s fun t =>
      t.get Reg.PH_STATUS.CMD_DROP p = 1 ∧ t.ph p = s.ph p ∧ OnlyFieldsLog [Reg.PH_STATUS.CMD_DROP] s t) ∧
  (∀ (w : Who) (p : Phase) (s : State), s.on Hid.MID_TICK p = false → s.on Hid.TSD_ON (tileOf p) = false → s.underDiag p = false → s.ph p = Ph.parked → Answers (.phAdd w
      p) s fun t => t.ph p = Ph.active ∧ t.get Hid.ADD_PEND p = 1 ∧ t.logged JKind.done JStatus.ok (s.railOf p) ∧ OnlyFieldsLog [Reg.PH_STATE.STATE, Hid.ADD_PEND,
      Hid.MARK_MID, Hid.HADD_TICK] s t) ∧
  (∀ (w : Who) (p : Phase) (s : State), s.on Hid.MID_TICK p = false → s.on Hid.TSD_ON (tileOf p) = false → s.underDiag p = false → s.ph p = Ph.shed → s.clockReady [tileOf
      p] → Answers (.phAdd w p) s fun t => t.ph p = Ph.probe ∧ t.get Hid.PROBING p = 1 ∧ t.get Hid.PWM_LVL p = Pwm.mid.num ∧ t.accepted (.phAdd p)) ∧
  (∀ (w : Who) (p : Phase) (s : State), s.ph p = Ph.blocked → (48 ≤ s.railOf p ∨ s.rs (s.railOf p) = Rs.off) → Answers (.phUnblock w p) s fun t => t.ph p = Ph.off ∧ t.get
      Hid.PWM_LVL p = Pwm.hiZ.num ∧ t.logged JKind.done JStatus.ok (s.railOf p)) ∧
  (∀ (p : Phase) (obs : ProbeObs) (s : State), s.on Hid.PROBING p → verdictOf obs false = Verdict.pass → Answers (.readdProbeComplete p obs) s fun t => t.get
      Hid.JOIN_PEND p = 1 ∧ t.get Hid.READD_DONE p = 1 ∧ t.get Reg.PH_STATE.VERDICT p = Verdict.pass ∧ t.get Hid.PROBING p = 0 ∧ t.accepted (.phAdd p) = false) ∧
  (∀ (p : Phase) (obs : ProbeObs) (s : State), s.on Hid.PROBING p → verdictOf obs false ≠ Verdict.pass → Answers (.readdProbeComplete p obs) s fun t => t.ph p =
      Ph.blocked ∧ t.get Reg.PH_STATE.VERDICT p = verdictOf obs false ∧ t.get Reg.PH_STATUS.PROBE_FAIL p = 1 ∧ t.accepted (.phAdd p) = false) ∧
  (∀ (r : Rail) (obs : List (Phase × ProbeObs)) (s : State), s.onAt Hid.PRESTART 0 r → s.enStep r = 4 → 6000 + 300 * (s.aliveOf r).length ≤ s.prestartAge r → prebiased
      (s.getAt Hid.PS_V1 0 r) (s.getAt Hid.PS_V2 0 r) (s.get Reg.RAIL_SETPT.VSET_TGT (s.leadIx r)) = false → (((s.aliveOf r).filter fun p => s.ph p = Ph.probe).all fun p
      => probeVerdict obs false p = Verdict.pass) → Answers (.prestartTestComplete r obs) s fun t => t.rs r = Rs.ramping ∧ t.enStep r = 5 ∧ t.onAt Hid.PRESTART 0 r =
      false) ∧
  (∀ (w : Who) (m : Mgr) (g : Group) (s : State), s.reach w m = s.act → Answers (.isoAssert w m g) s fun t => t.isoLow g ∧ t.logged JKind.done JStatus.ok noTarget ∧
      OnlyFieldsLog [Hid.BUS_ERR, Hid.FU_DEBUG, Hid.FU_DEVICE_ID, Hid.FU_HPD_TRIM, Hid.FU_IG, Hid.FU_ILIM, Hid.FU_KEY, Hid.FU_KILL, Hid.FU_K_ROOT, Hid.FU_LIFE,
      Hid.FU_MGR_TRIM, Hid.FU_OV, Hid.FU_PRIV, Hid.FU_PRODUCT, Hid.FU_REVOKE, Hid.FU_ROLLBACK, Hid.FU_STG, Hid.FU_WDT_HW, Hid.FU_WIPE, Hid.ISO_LATCH_M,
      Reg.ISO_CTRL.ASSERT] s t) ∧
  (∀ (w : Who) (g : Group) (s : State), ((s.railsOfGroup g).all fun r => s.rs r = Rs.off) → Answers (.isoRelease w g) s fun t => t.isoLow g = false ∧ t.logged JKind.done
      JStatus.ok noTarget ∧ OnlyFieldsLog [Hid.FU_DEBUG, Hid.FU_DEVICE_ID, Hid.FU_HPD_TRIM, Hid.FU_IG, Hid.FU_ILIM, Hid.FU_KEY, Hid.FU_KILL, Hid.FU_K_ROOT, Hid.FU_LIFE,
      Hid.FU_MGR_TRIM, Hid.FU_OV, Hid.FU_PRIV, Hid.FU_PRODUCT, Hid.FU_REVOKE, Hid.FU_ROLLBACK, Hid.FU_STG, Hid.FU_WDT_HW, Hid.FU_WIPE, Hid.ISO_LATCH_M,
      Reg.ISO_CTRL.RELEASE, Reg.ISO_STATE.ISO_DRIVE] s t) ∧
  (∀ (u : Tile) (g : Group) (s : State), s.isoLow g → s.quiet → s.railsWithin u g = [] → Answers (.isoNSensedLow u g) s fun t => (∀ p ∈ s.phasesInGroup u g, s.ph p =
      Ph.active → s.on Hid.READD_DONE p = false → t.ph p = Ph.shed ∧ t.get Reg.PH_STATE.CAUSE p = Cause.isolated)) ∧
  (∀ (u : Tile) (g : Group) (s : State), s.isoLow g → Answers (.isoNSensedLow u g) s fun v => ∃ t : State, v = t.seqPoll ∧ (∀ p ∈ s.phasesInGroup u g, s.sheddable p →
      s.on Hid.READD_DONE p = false → (s.isoShed u g).ph p = Ph.shed ∧ (s.isoShed u g).get Reg.PH_STATE.CAUSE p = Cause.isolated) ∧ (t = (s.isoShed u g).over
      (s.railsWithin u g) fun s r => s.railStop r (s.offTmo r) false)) ∧
  (∀ (p : Phase) (s : State), s.on Hid.JOIN_PEND p → s.ph p = Ph.probe → s.get Hid.MARK_MID p = 0 → s.on Hid.HELD p = false → Answers (.phaseLeadingEdge p) s fun t =>
      t.ph p = Ph.active ∧ t.get Hid.JOIN_PEND p = 0)

/-- In an engine that runs, is not halted and has a slot left, ADD, SUB, ADDI, ADDS, SUBS, MULS, MIN, MAX, CLAMP and ARD write the value of the instruction table to d with Z and N of it and the stated C and V (C and V clear where the table names neither), move the PC by one word modulo 1 024 and the slot by one, and change nothing else; the saturating ones compute the exact integer before they saturate. A reading of the model that it rests on: log entry 3. -/
def Obligations.EngineArithmetic : Prop :=
  (∀ (u : Tile) (e : Slot) (d a b : Fin 16) (s : State), s.ready u e → Answers (.add u e d a b) s fun t => WroteAlu s t (engIx u e) d ((s.w (engIx u e) a) + (s.w (engIx u
      e) b)) ((s.w (engIx u e) a).uaddOverflow (s.w (engIx u e) b)) ((s.w (engIx u e) a).saddOverflow (s.w (engIx u e) b))) ∧
  (∀ (u : Tile) (e : Slot) (d a b : Fin 16) (s : State), s.ready u e → Answers (.sub u e d a b) s fun t => WroteAlu s t (engIx u e) d ((s.w (engIx u e) a) - (s.w (engIx u
      e) b)) (!(s.w (engIx u e) a).usubOverflow (s.w (engIx u e) b)) ((s.w (engIx u e) a).ssubOverflow (s.w (engIx u e) b))) ∧
  (∀ (u : Tile) (e : Slot) (d a : Fin 16) (imm : BitVec 18) (s : State), s.ready u e → Answers (.addi u e d a imm) s fun t => WroteAlu s t (engIx u e) d ((s.w (engIx u e)
      a) + imm.signExtend 32) ((s.w (engIx u e) a).uaddOverflow (imm.signExtend 32)) ((s.w (engIx u e) a).saddOverflow (imm.signExtend 32))) ∧
  (∀ (u : Tile) (e : Slot) (d a b : Fin 16) (s : State), s.ready u e → Answers (.adds u e d a b) s fun t => WroteAlu s t (engIx u e) d (sat32 ((s.w (engIx u e) a).toInt +
      (s.w (engIx u e) b).toInt)) (false) (out32 ((s.w (engIx u e) a).toInt + (s.w (engIx u e) b).toInt))) ∧
  (∀ (u : Tile) (e : Slot) (d a b : Fin 16) (s : State), s.ready u e → Answers (.subs u e d a b) s fun t => WroteAlu s t (engIx u e) d (sat32 ((s.w (engIx u e) a).toInt -
      (s.w (engIx u e) b).toInt)) (false) (out32 ((s.w (engIx u e) a).toInt - (s.w (engIx u e) b).toInt))) ∧
  (∀ (u : Tile) (e : Slot) (d a b : Fin 16) (sh : Fin 32) (s : State), s.ready u e → Answers (.muls u e d a b sh) s fun t => WroteAlu s t (engIx u e) d (sat32 (((s.w
      (engIx u e) a).toInt * (s.w (engIx u e) b).toInt) / 2 ^ sh.val)) (false) (out32 (((s.w (engIx u e) a).toInt * (s.w (engIx u e) b).toInt) / 2 ^ sh.val))) ∧
  (∀ (u : Tile) (e : Slot) (d a b : Fin 16) (s : State), s.ready u e → Answers (.minOp u e d a b) s fun t => WroteAlu s t (engIx u e) d (if (s.w (engIx u e) b).slt (s.w
      (engIx u e) a) then (s.w (engIx u e) b) else (s.w (engIx u e) a)) (false) (false)) ∧
  (∀ (u : Tile) (e : Slot) (d a b : Fin 16) (s : State), s.ready u e → Answers (.maxOp u e d a b) s fun t => WroteAlu s t (engIx u e) d (if (s.w (engIx u e) a).slt (s.w
      (engIx u e) b) then (s.w (engIx u e) b) else (s.w (engIx u e) a)) (false) (false)) ∧
  (∀ (u : Tile) (e : Slot) (d a b : Fin 16) (s : State), s.ready u e → Answers (.clamp u e d a b) s fun t => WroteAlu s t (engIx u e) d (BitVec.ofInt 32 (min (max (s.w
      (engIx u e) d).toInt (s.w (engIx u e) a).toInt) (s.w (engIx u e) b).toInt)) (decide (min (max (s.w (engIx u e) d).toInt (s.w (engIx u e) a).toInt) (s.w (engIx u e)
      b).toInt ≠ (s.w (engIx u e) d).toInt)) false) ∧
  (∀ (u : Tile) (e : Slot) (d : Fin 16) (sh : Fin 32) (k : Fin 2) (s : State), s.ready u e → Answers (.ard u e d sh k) s fun t => WroteAlu s t (engIx u e) d (sat32
      (((s.acc (engIx u e) k).toInt + 2 ^ sh.val / 2) / 2 ^ sh.val)) false (out32 (((s.acc (engIx u e) k).toInt + 2 ^ sh.val / 2) / 2 ^ sh.val)))

/-- AND, OR and XOR write the bitwise result with C and V clear; SHL, SHR, SRA, SHLI and SRAI shift by five bits with C the last bit shifted out, 0 for a shift of 0; LIL and LIH write their immediate and leave the flags; CMP and CMPI set the flags of the difference and write nothing; PC and slot move by one and nothing else changes. A reading of the model that it rests on: log entry 3. -/
def Obligations.EngineLogicShiftsCompares : Prop :=
  (∀ (u : Tile) (e : Slot) (d a b : Fin 16) (s : State), s.ready u e → Answers (.andOp u e d a b) s fun t => WroteAlu s t (engIx u e) d ((s.w (engIx u e) a) &&& (s.w
      (engIx u e) b)) (false) (false)) ∧
  (∀ (u : Tile) (e : Slot) (d a b : Fin 16) (s : State), s.ready u e → Answers (.orOp u e d a b) s fun t => WroteAlu s t (engIx u e) d ((s.w (engIx u e) a) ||| (s.w
      (engIx u e) b)) (false) (false)) ∧
  (∀ (u : Tile) (e : Slot) (d a b : Fin 16) (s : State), s.ready u e → Answers (.xor u e d a b) s fun t => WroteAlu s t (engIx u e) d ((s.w (engIx u e) a) ^^^ (s.w (engIx
      u e) b)) (false) (false)) ∧
  (∀ (u : Tile) (e : Slot) (d a b : Fin 16) (s : State), s.ready u e → Answers (.shl u e d a b) s fun t => WroteAlu s t (engIx u e) d ((s.w (engIx u e) a) <<< ((s.w
      (engIx u e) b).toNat % 32)) (decide (((s.w (engIx u e) a).toNat * 2 ^ ((s.w (engIx u e) b).toNat % 32) / 2 ^ 32) % 2 = 1)) (false)) ∧
  (∀ (u : Tile) (e : Slot) (d a b : Fin 16) (s : State), s.ready u e → Answers (.shr u e d a b) s fun t => WroteAlu s t (engIx u e) d ((s.w (engIx u e) a) >>> ((s.w
      (engIx u e) b).toNat % 32)) (decide (((s.w (engIx u e) a).toNat * 2 / 2 ^ ((s.w (engIx u e) b).toNat % 32)) % 2 = 1 ∧ ((s.w (engIx u e) b).toNat % 32) ≠ 0))
      (false)) ∧
  (∀ (u : Tile) (e : Slot) (d a b : Fin 16) (s : State), s.ready u e → Answers (.sra u e d a b) s fun t => WroteAlu s t (engIx u e) d (BitVec.ofInt 32 ((s.w (engIx u e)
      a).toInt / 2 ^ ((s.w (engIx u e) b).toNat % 32))) (decide (((s.w (engIx u e) a).toNat * 2 / 2 ^ ((s.w (engIx u e) b).toNat % 32)) % 2 = 1 ∧ ((s.w (engIx u e)
      b).toNat % 32) ≠ 0)) (false)) ∧
  (∀ (u : Tile) (e : Slot) (d a : Fin 16) (imm : BitVec 5) (s : State), s.ready u e → Answers (.shli u e d a imm) s fun t => WroteAlu s t (engIx u e) d ((s.w (engIx u e)
      a) <<< imm.toNat) (decide (((s.w (engIx u e) a).toNat * 2 ^ imm.toNat / 2 ^ 32) % 2 = 1)) (false)) ∧
  (∀ (u : Tile) (e : Slot) (d a : Fin 16) (imm : BitVec 5) (s : State), s.ready u e → Answers (.srai u e d a imm) s fun t => WroteAlu s t (engIx u e) d (BitVec.ofInt 32
      ((s.w (engIx u e) a).toInt / 2 ^ imm.toNat)) (decide (((s.w (engIx u e) a).toNat * 2 / 2 ^ imm.toNat) % 2 = 1 ∧ imm.toNat ≠ 0)) (false)) ∧
  (∀ (u : Tile) (e : Slot) (d : Fin 16) (imm : BitVec 16) (s : State), s.ready u e → Answers (.lil u e d imm) s fun t => WroteReg s t (engIx u e) d (BitVec.ofInt 32
      imm.toInt)) ∧
  (∀ (u : Tile) (e : Slot) (d : Fin 16) (imm : BitVec 16) (s : State), s.ready u e → Answers (.lih u e d imm) s fun t => WroteReg s t (engIx u e) d (BitVec.ofNat 32
      (imm.toNat * 2 ^ 16 + (s.w (engIx u e) d).toNat % 2 ^ 16))) ∧
  (∀ (u : Tile) (e : Slot) (a b : Fin 16) (s : State), s.ready u e → Answers (.cmp u e a b) s fun t => WroteFlags s t (engIx u e) ((s.w (engIx u e) a) - (s.w (engIx u e)
      b)) (!(s.w (engIx u e) a).usubOverflow (s.w (engIx u e) b)) ((s.w (engIx u e) a).ssubOverflow (s.w (engIx u e) b))) ∧
  (∀ (u : Tile) (e : Slot) (a : Fin 16) (imm : BitVec 18) (s : State), s.ready u e → Answers (.cmpi u e a imm) s fun t => WroteFlags s t (engIx u e) ((s.w (engIx u e) a)
      - imm.signExtend 32) (!(s.w (engIx u e) a).usubOverflow (imm.signExtend 32)) ((s.w (engIx u e) a).ssubOverflow (imm.signExtend 32)))

/-- LD and ST reach the word (a[8:0] + OFF9) mod 512 of the data memory the engine executes from; a store leaves every byte outside its four as it was; IN reads the snapshot, OUT stages a value and commits nothing; MAC and MSU add or subtract the exact product of a and the signed low half of b, saturating at 48 bits and then setting ACC_SAT; ALD loads; EVR reads the event word; ECLR clears its mask in the event word and leaves the pending events. A reading of the model that it rests on: log entry 3. -/
def Obligations.EngineMemoryPortsAccumulators : Prop :=
  (∀ (u : Tile) (e : Slot) (d a : Fin 16) (off : BitVec 9) (s : State), s.ready u e → s.unhurt (dmAddr u (s.memSlot u e) (((s.w (engIx u e) a).toNat % 512 + off.toNat) %
      512)) → Answers (.ld u e d a off) s fun t => WroteReg s t (engIx u e) d (s.rd32 (dmAddr u (s.memSlot u e) (((s.w (engIx u e) a).toNat % 512 + off.toNat) % 512)))) ∧
  (∀ (u : Tile) (e : Slot) (d a : Fin 16) (off : BitVec 9) (s : State), Memory.wf s.mem = true → s.ready u e → Answers (.st u e d a off) s fun t => t.rd32 (dmAddr u
      (s.memSlot u e) (((s.w (engIx u e) a).toNat % 512 + off.toNat) % 512)) = s.w (engIx u e) d ∧ BytesOutside (dmAddr u (s.memSlot u e) (((s.w (engIx u e) a).toNat %
      512 + off.toNat) % 512)) 4 s t ∧ Advanced s t (engIx u e) ∧ ((∀ y ∈ t.ecc, y ∈ s.ecc)) ∧ t.unhurt (dmAddr u (s.memSlot u e) (((s.w (engIx u e) a).toNat % 512 +
      off.toNat) % 512)) ∧ OnlyCellsMem (stepCells (engIx u e)) { s with ecc := t.ecc } t) ∧
  (∀ (u : Tile) (e : Slot) (a b : Fin 16) (k : Fin 2) (s : State), s.ready u e → Answers (.mac u e a b k) s fun t => (t.acc (engIx u e) k).toInt = max (-2 ^ 47) (min (2 ^
      47 - 1) ((s.acc (engIx u e) k).toInt + (s.w (engIx u e) a).toInt * ((s.w (engIx u e) b).setWidth 16).toInt)) ∧ (t.get Reg.ENG_STATUS.ACC_SAT (s.engPhase u e) = (if
      (s.acc (engIx u e) k).toInt + (s.w (engIx u e) a).toInt * ((s.w (engIx u e) b).setWidth 16).toInt < -2 ^ 47 ∨ 2 ^ 47 ≤ (s.acc (engIx u e) k).toInt + (s.w (engIx u
      e) a).toInt * ((s.w (engIx u e) b).setWidth 16).toInt then 1 else s.get Reg.ENG_STATUS.ACC_SAT (s.engPhase u e))) ∧ Advanced s t (engIx u e) ∧ OnlyCells ((Hid.E_A,
      engIx u e, k.val) :: (Reg.ENG_STATUS.ACC_SAT, s.engPhase u e, 0) :: stepCells (engIx u e)) s t) ∧
  (∀ (u : Tile) (e : Slot) (a b : Fin 16) (k : Fin 2) (s : State), s.ready u e → Answers (.msu u e a b k) s fun t => (t.acc (engIx u e) k).toInt = max (-2 ^ 47) (min (2 ^
      47 - 1) ((s.acc (engIx u e) k).toInt - (s.w (engIx u e) a).toInt * ((s.w (engIx u e) b).setWidth 16).toInt)) ∧ (t.get Reg.ENG_STATUS.ACC_SAT (s.engPhase u e) = (if
      (s.acc (engIx u e) k).toInt - (s.w (engIx u e) a).toInt * ((s.w (engIx u e) b).setWidth 16).toInt < -2 ^ 47 ∨ 2 ^ 47 ≤ (s.acc (engIx u e) k).toInt - (s.w (engIx u
      e) a).toInt * ((s.w (engIx u e) b).setWidth 16).toInt then 1 else s.get Reg.ENG_STATUS.ACC_SAT (s.engPhase u e))) ∧ Advanced s t (engIx u e) ∧ OnlyCells ((Hid.E_A,
      engIx u e, k.val) :: (Reg.ENG_STATUS.ACC_SAT, s.engPhase u e, 0) :: stepCells (engIx u e)) s t) ∧
  (∀ (u : Tile) (e : Slot) (a : Fin 16) (sh : Fin 17) (k : Fin 2) (s : State), s.ready u e → Answers (.ald u e a sh k) s fun t => t.acc (engIx u e) k = BitVec.ofInt 48
      ((s.w (engIx u e) a).toInt * 2 ^ sh.val) ∧ Advanced s t (engIx u e) ∧ OnlyCells ((Hid.E_A, engIx u e, k.val) :: stepCells (engIx u e)) s t) ∧
  (∀ (u : Tile) (e : Slot) (d : Fin 16) (port : Fin 14) (s : State), s.ready u e → Answers (.inPort u e d port) s fun t => WroteReg s t (engIx u e) d (BitVec.ofNat 32
      (s.getAt Hid.E_IN (engIx u e) port))) ∧
  (∀ (u : Tile) (e : Slot) (port : Fin 4) (a : Fin 16) (s : State), s.ready u e → Answers (.outPort u e port a) s fun t => t.getAt Hid.E_STG (engIx u e) port = (s.w
      (engIx u e) a).toNat ∧ t.getAt Hid.E_STGW (engIx u e) port = 1 ∧ Advanced s t (engIx u e) ∧ OnlyCells ((Hid.E_STG, engIx u e, port.val) :: (Hid.E_STGW, engIx u e,
      port.val) :: stepCells (engIx u e)) s t) ∧
  (∀ (u : Tile) (e : Slot) (d : Fin 16) (s : State), s.ready u e → Answers (.evr u e d) s fun t => WroteAlu s t (engIx u e) d (BitVec.ofNat 32 (s.get Reg.ENG_EV.EVW
      (s.engPhase u e))) (false) (false)) ∧
  (∀ (u : Tile) (e : Slot) (mask : BitVec 16) (s : State), s.ready u e → Answers (.eclr u e mask) s fun t => t.get Reg.ENG_EV.EVW (s.engPhase u e) = s.get Reg.ENG_EV.EVW
      (s.engPhase u e) % 2 ^ 16 &&& (65535 - mask.toNat) ∧ t.get Reg.ENG_EV.PENDING (s.engPhase u e) = s.get Reg.ENG_EV.PENDING (s.engPhase u e) ∧ Advanced s t (engIx u
      e) ∧ OnlyCells ((Reg.ENG_EV.EVW, s.engPhase u e, 0) :: stepCells (engIx u e)) s t)

/-- B takes its target when the condition holds on the flags or the enabled events, BEV adds the number of the selected event bit, JL saves the next word address and jumps, JR jumps to a register, WAITT ends the work of the tick and records where, NOP only advances; a word that no instruction has halts the engine unexecuted with ILLEGAL, HALTED and HALT_PC. Readings and choices of the model that it rests on: log entries 3, 84. -/
def Obligations.EngineFlowOfControl : Prop :=
  (∀ (u : Tile) (e : Slot) (s : State), s.ready u e → Answers (.nop u e) s fun t => Advanced s t (engIx u e) ∧ OnlyCells (stepCells (engIx u e)) s t) ∧
  (∀ (u : Tile) (e : Slot) (cond : Fin 13) (target : BitVec 10) (s : State), s.ready u e → Answers (.br u e cond target) s fun t => t.get Hid.E_PC (engIx u e) = (if
      s.condHolds (engIx u e) (s.engPhase u e) cond then target.toNat else (s.get Hid.E_PC (engIx u e) + 1) % 1024) ∧ t.get Hid.E_SLOT (engIx u e) = s.get Hid.E_SLOT
      (engIx u e) + 1 ∧ OnlyCells (stepCells (engIx u e)) s t) ∧
  (∀ (u : Tile) (e : Slot) (cond : Fin 13) (target : BitVec 10) (s : State), s.ready u e → (cond.val = 0 ∨ (cond.val = 1 ∧ s.on Hid.E_Z (engIx u e)) ∨ (cond.val = 3 ∧
      s.on Hid.E_N (engIx u e) ≠ s.on Hid.E_V (engIx u e)) ∨ (cond.val = 8 ∧ s.on Hid.E_C (engIx u e) = false) ∨ (cond.val = 11 ∧ s.enabledEvents (s.engPhase u e) ≠ 0)) →
      Answers (.br u e cond target) s fun t => t.get Hid.E_PC (engIx u e) = target.toNat ∧ t.get Hid.E_SLOT (engIx u e) = s.get Hid.E_SLOT (engIx u e) + 1 ∧ OnlyCells
      (stepCells (engIx u e)) s t) ∧
  (∀ (u : Tile) (e : Slot) (target : BitVec 10) (s : State), s.ready u e → Answers (.bev u e target) s fun t => (t.get Hid.E_PC (engIx u e) = (match bevOrder.find? fun j
      => (s.enabledEvents (s.engPhase u e)).testBit j with | some j => (target.toNat + j) % 1024 | none => (s.get Hid.E_PC (engIx u e) + 1) % 1024)) ∧ t.get Hid.E_SLOT
      (engIx u e) = s.get Hid.E_SLOT (engIx u e) + 1 ∧ OnlyCells (stepCells (engIx u e)) s t) ∧
  (∀ (u : Tile) (e : Slot) (d : Fin 16) (target : BitVec 10) (s : State), s.ready u e → Answers (.jl u e d target) s fun t => t.w (engIx u e) d = BitVec.ofNat 32 ((s.get
      Hid.E_PC (engIx u e) + 1) % 1024) ∧ t.get Hid.E_PC (engIx u e) = target.toNat ∧ t.get Hid.E_SLOT (engIx u e) = s.get Hid.E_SLOT (engIx u e) + 1 ∧ OnlyCells
      ((Hid.E_W, engIx u e, d.val) :: stepCells (engIx u e)) s t) ∧
  (∀ (u : Tile) (e : Slot) (a : Fin 16) (s : State), s.ready u e → Answers (.jr u e a) s fun t => t.get Hid.E_PC (engIx u e) = (s.w (engIx u e) a).toNat % 1024 ∧ t.get
      Hid.E_SLOT (engIx u e) = s.get Hid.E_SLOT (engIx u e) + 1 ∧ OnlyCells (stepCells (engIx u e)) s t) ∧
  (∀ (u : Tile) (e : Slot) (s : State), s.ready u e → Answers (.waitt u e) s fun t => t.get Reg.ENG_PC.WAIT_PC (s.engPhase u e) = s.get Hid.E_PC (engIx u e) % 1024 ∧ t.on
      Hid.E_WAIT (engIx u e) ∧ Advanced s t (engIx u e) ∧ OnlyCells ((Reg.ENG_PC.WAIT_PC, s.engPhase u e, 0) :: (Hid.E_WAIT, engIx u e, 0) :: stepCells (engIx u e)) s t) ∧
  (∀ (u : Tile) (e : Slot) (v : Word) (s : State), s.ready u e → engDecode u e v.toNat = none → Answers (.illegalInstruction u e v) s fun t => t.get
      Reg.ENG_STATUS.ILLEGAL (s.engPhase u e) = 1 ∧ t.get Reg.ENG_STATUS.HALTED (s.engPhase u e) = 1 ∧ t.get Reg.ENG_PC.HALT_PC (s.engPhase u e) = s.get Hid.E_PC (engIx u
      e) % 1024 ∧ OnlyCells [(Reg.ENG_STATUS.ILLEGAL, s.engPhase u e, 0), (Reg.ENG_STATUS.HALTED, s.engPhase u e, 0), (Reg.ENG_PC.HALT_PC, s.engPhase u e, 0)] s t) ∧
  (∀ (u : Tile) (e : Slot) (s : State), s.engReady (engIx u e) (s.engPhase u e) → s.upsetAt (s.fetchAddr u e) = Upset.corrected → Answers (.nop u e) s fun t => t.get
      Reg.ENG_COUNTS.ECC_COUNT (engBlock u (s.memSlot u e)) = s.bumped Reg.ENG_COUNTS.ECC_COUNT (engBlock u (s.memSlot u e)) ∧ t.unhurt (s.fetchAddr u e) ∧ Advanced s t
      (engIx u e))

/-- A write to the bank that is not active stands in it, makes its CRC stale and starts the recomputation; a write to the active bank of a running engine sets PM_WR_REJ and changes nothing else; the recomputed CRC is the CRC-32 of the 1 024 words, low byte first; a data-memory write waits for the tile's boundary; a corrected word is counted; an uncorrectable one of an engine that the spare must not serve sheds the phase with cause ENGINE_LOST; the third consecutive overrun sheds with cause OVERRUN. -/
def Obligations.ProgramAndDataMemories : Prop :=
  (∀ (u : Tile) (e : Slot) (bank : Bool) (idx : BitVec 10) (v : Word) (s : State), Memory.wf s.mem = true → s.get Reg.ENG_STATUS.BANK (engBlock u e) ≠ bank.toNat →
      Answers (.programBankWrite u e bank idx v) s fun t => t.rd32 (progAddr u e bank.toNat idx.toNat) = v ∧ BytesOutside (progAddr u e bank.toNat idx.toNat) 4 s t ∧
      t.get Reg.ENG_STATUS.CRC_VALID (engBlock u e) = 0 ∧ t.get Hid.CRC_BUSY (engIx u e) = 1 ∧ t.unhurt (progAddr u e bank.toNat idx.toNat) ∧ OnlyCellsMem [(Hid.BANK_LAW,
      engIx u e, bank.toNat), (Reg.ENG_STATUS.CRC_VALID, engBlock u e, 0), (Hid.CRC_BUSY, engIx u e, 0)] { s with ecc := t.ecc } t) ∧
  (∀ (u : Tile) (e : Slot) (bank : Bool) (idx : BitVec 10) (v : Word) (s : State), s.get Reg.ENG_STATUS.BANK (engBlock u e) = bank.toNat → s.memRuns u e → Answers
      (.programBankWrite u e bank idx v) s fun t => t.get Reg.ENG_STATUS.PM_WR_REJ (engBlock u e) = 1 ∧ OnlyCells [(Reg.ENG_STATUS.PM_WR_REJ, engBlock u e, 0)] s t) ∧
  (∀ (u : Tile) (e : Slot) (s : State), s.on Hid.CRC_BUSY (engIx u e) → Answers (.bankCrcDone u e) s fun t => t.get Reg.BANK_CRC.CRC (engBlock u e) = (crc32 (s.rdBytes
      (progAddr u e (1 - s.get Reg.ENG_STATUS.BANK (engBlock u e)) 0) 4096)).toNat ∧ t.get Reg.ENG_STATUS.CRC_VALID (engBlock u e) = 1 ∧ OnlyCells [(Reg.BANK_CRC.CRC,
      engBlock u e, 0), (Reg.ENG_STATUS.CRC_VALID, engBlock u e, 0), (Hid.CRC_BUSY, engIx u e, 0)] s t) ∧
  (∀ (u : Tile) (e : Slot) (idx : BitVec 9) (v : Word) (s : State), Answers (.dataMemoryWrite u e idx v) s fun t => t =
      { s with dmPend := s.dmPend ++ [(u.val, dmAddr u e idx.toNat, v)] }) ∧
  (∀ (u : Tile) (e : Slot) (off : BitVec 12) (s : State), off.toNat < 2560 → s.upsetAt (engMem u e + off.toNat * 4) = Upset.corrected → Answers (.engineScrub u e off) s
      fun t => t.get Reg.ENG_COUNTS.ECC_COUNT (engBlock u e) = s.bumped Reg.ENG_COUNTS.ECC_COUNT (engBlock u e) ∧ t.unhurt (engMem u e + off.toNat * 4) ∧ OnlyCells
      [(Reg.ENG_COUNTS.ECC_COUNT, engBlock u e, 0)] { s with ecc := t.ecc, awlErrs := t.awlErrs, awlProbes := t.awlProbes } t) ∧
  (∀ (u : Tile) (e : Slot) (off : BitVec 12) (s : State), off.toNat < 2560 → s.upsetAt (engMem u e + off.toNat * 4) = Upset.lost → e.val < 24 → s.spareRuns u e = false →
      s.on Hid.E_RUN (engIx u e) → s.ph (engBlock u e) = Ph.active → s.on Hid.READD_DONE (engBlock u e) = false → Answers (.engineScrub u e off) s fun t => t.ph (engBlock
      u e) = Ph.shed ∧ t.get Reg.PH_STATE.CAUSE (engBlock u e) = Cause.engineLost ∧ t.get Reg.ENG_FAULT.KIND (engBlock u e) = (if off.toNat < 2048 then 4 else 5)) ∧
  (∀ (u : Tile) (e : Slot) (s : State), s.engPhase u e < 96 → s.get Reg.ENG_STATUS.OVR_RUN (s.engPhase u e) = 3 → s.idlePh (s.engPhase u e) = false → s.ph (s.engPhase u
      e) ≠ Ph.shed → s.on Hid.READD_DONE (s.engPhase u e) = false → Answers (.overrunShed u e) s fun t => t.ph (s.engPhase u e) = Ph.shed ∧ t.get Reg.PH_STATE.CAUSE
      (s.engPhase u e) = Cause.overrun ∧ t.bit Reg.ENG_EV.PENDING (s.engPhase u e) Ev.phOut ∧ t.get Hid.E_RUN (engIx u e) = s.get Hid.E_RUN (engIx u e) ∧ OnlyFieldsLog
      [Hid.ADD_PEND, Hid.E_FRESH, Hid.E_RUN, Hid.E_SLOT, Hid.E_WAIT, Hid.FIRED, Hid.JOIN_PEND, Hid.LOAD_SIG, Hid.MARK_MID, Hid.MID_BUSY, Hid.MID_TICK, Hid.PROBING,
      Hid.PWM_LVL, Hid.READD_DONE, Reg.ENG_COUNTS.OVERRUN_COUNT, Reg.ENG_EV.EVW, Reg.ENG_EV.PENDING, Reg.ENG_STATUS.HALTED, Reg.ENG_STATUS.OVERRUN,
      Reg.ENG_STATUS.OVR_RUN, Reg.PH_COUNTS.REPEAT, Reg.PH_COUNTS.SHED_COUNT, Reg.PH_STATE.CAUSE, Reg.PH_STATE.STATE, Reg.PH_STATUS.CMD_DROP, Reg.PH_STATUS.REPEAT_BLOCK,
      Reg.PH_STATUS.SHED_EVT, Reg.STG_GROUP_STATUS.STG_EN] s t) ∧
  (∀ (u : Tile) (e : Slot) (off : BitVec 12) (s : State), s.unhurt (engMem u e + off.toNat * 4) → Answers (.engineScrub u e off) s fun t => t = s)

/-- SWAP_ARM with RAIL_SWAP_AT at least 100 ticks ahead and below 2^31 and no swap pending makes one pending; with a smaller lead, or with a swap pending, it sets SWAP_REJ and is journalled as refused; at tick RAIL_SWAP_AT the rail's ACT_BANK toggles, SWAP_PEND clears and SWAP_DONE sets, and while no spare serves on the tile every running engine of the rail that waited there is in the other bank at word 0 with SWAPPED latched and its registers kept. Readings and choices of the model that it rests on: log entries 82, 103. -/
def Obligations.BankSwaps : Prop :=
  (∀ (w : Who) (u : Tile) (r : Rail) (s : State), 100 ≤ ahead (s.get Reg.RAIL_SWAP_AT.SWAP_AT (railIx u r)) (s.get Hid.TICK u) → ahead (s.get Reg.RAIL_SWAP_AT.SWAP_AT
      (railIx u r)) (s.get Hid.TICK u) < 2 ^ 31 → s.on Reg.RAIL_ENG_STATUS.SWAP_PEND (railIx u r) = false → Answers (.swapArm w u r) s fun t => t.get
      Reg.RAIL_ENG_STATUS.SWAP_PEND (railIx u r) = 1 ∧ t.logged JKind.accepted JStatus.ok r ∧ t.accepted (regCmd Reg.RAIL_ENG_CTRL.SWAP_ARM (railIx u r)) ∧ OnlyFieldsLog
      [Reg.RAIL_ENG_STATUS.SWAP_PEND] s t) ∧
  (∀ (w : Who) (u : Tile) (r : Rail) (s : State), (ahead (s.get Reg.RAIL_SWAP_AT.SWAP_AT (railIx u r)) (s.get Hid.TICK u) < 100 ∨ s.on Reg.RAIL_ENG_STATUS.SWAP_PEND
      (railIx u r)) → Answers (.swapArm w u r) s fun t => t.get Reg.RAIL_ENG_STATUS.SWAP_REJ (railIx u r) = 1 ∧ t.logged JKind.refused JStatus.refused r ∧ OnlyFieldsLog
      [Reg.RAIL_ENG_STATUS.SWAP_REJ] s t) ∧
  (∀ (u : Tile) (r : Rail) (s : State), s.on Reg.RAIL_ENG_STATUS.SWAP_PEND (railIx u r) → s.get Hid.TICK u = s.get Reg.RAIL_SWAP_AT.SWAP_AT (railIx u r) → Answers
      (.bankSwap u r) s fun t => t.get Reg.RAIL_ENG_STATUS.ACT_BANK (railIx u r) = 1 - s.get Reg.RAIL_ENG_STATUS.ACT_BANK (railIx u r) ∧ t.get
      Reg.RAIL_ENG_STATUS.SWAP_PEND (railIx u r) = 0 ∧ t.get Reg.RAIL_ENG_STATUS.SWAP_DONE (railIx u r) = 1 ∧ t.accepted (regCmd Reg.RAIL_ENG_CTRL.SWAP_ARM (railIx u r))
      = false ∧ (s.spareServes u = false → ∀ p ∈ s.phasesOn u r, s.on Hid.E_RUN (s.engOf p) → s.on Hid.E_FRESH (s.engOf p) → t.get Reg.ENG_STATUS.BANK p = 1 - s.get
      Reg.ENG_STATUS.BANK p ∧ t.get Hid.E_PC (s.engOf p) = 0 ∧ t.bit Reg.ENG_EV.EVW p Ev.swapped ∧ t.w (s.engOf p) 15 = s.w (s.engOf p) 15) ∧ OnlyFieldsLog [Hid.CK_A,
      Hid.CK_BANK, Hid.CK_EVW, Hid.CK_FL, Hid.CK_PC, Hid.CK_W, Hid.CRC_BUSY, Hid.E_C, Hid.E_LATE, Hid.E_N, Hid.E_PC, Hid.E_V, Hid.E_Z, Hid.FU_DEBUG, Hid.FU_DEVICE_ID,
      Hid.FU_HPD_TRIM, Hid.FU_IG, Hid.FU_ILIM, Hid.FU_KEY, Hid.FU_KILL, Hid.FU_K_ROOT, Hid.FU_LIFE, Hid.FU_MGR_TRIM, Hid.FU_OV, Hid.FU_PRIV, Hid.FU_PRODUCT,
      Hid.FU_REVOKE, Hid.FU_ROLLBACK, Hid.FU_STG, Hid.FU_WDT_HW, Hid.FU_WIPE, Hid.ZL_ENTRY, Reg.ENG_EV.EVW, Reg.ENG_STATUS.BANK, Reg.ENG_STATUS.CRC_VALID,
      Reg.ENG_STATUS.HALTED, Reg.RAIL_ENG_CTRL.SWAP_ARM, Reg.RAIL_ENG_STATUS.ACT_BANK, Reg.RAIL_ENG_STATUS.SWAP_DONE, Reg.RAIL_ENG_STATUS.SWAP_PEND] s t)

/-- A fault of kind DATAPATH, REGFILE or SEQUENCE, or an injected one, of a running engine with a good checkpoint and a free spare hands the phase to the spare: KIND, FOR, SPARE_HOLD for an ACTIVE phase, the checkpoint's registers in the spare, OVR_RUN 0 and RESTORED pending; with a bad checkpoint the phase is shed with cause ENGINE_LOST; the first outputs end the hold with ON_SPARE, BUSY, TAKEOVER_EVT and TAKEOVER_COUNT, or end a handback; a HANDBACK is accepted only with the served engine probed; a failed self-check takes a standing-by spare out of service. Readings and choices of the model that it rests on: log entries 16, 103. -/
def Obligations.SpareEngine : Prop :=
  (∀ (u : Tile) (e : Slot) (kind : EngFault) (ckptOk : Bool) (s : State), e.val < 24 → s.spareRuns u e = false → s.on Hid.E_RUN (engIx u e) → (kind = EngFault.datapath ∨
      kind = EngFault.regfile ∨ kind = EngFault.sequence) → ckptOk = true → s.on Reg.ENG_STATUS.HALTED (engBlock u e) = false → s.spareFree u → Answers (.engineFault u e
      kind ckptOk) s fun t => t.get Reg.ENG_FAULT.KIND (engBlock u e) = faultKind kind ∧ t.get Reg.SPARE_STATUS.FOR u = e ∧ t.get Hid.HANDING_OVER u = 1 ∧ (s.ph (engBlock
      u e) = Ph.active → t.ph (engBlock u e) = Ph.spareHold) ∧ t.w (engIx u 24) 3 = BitVec.ofNat 32 (s.getAt Hid.CK_W (engIx u e) 3) ∧ t.get Hid.E_PC (engIx u 24) = s.get
      Hid.CK_PC (engIx u e) % 1024 ∧ t.get Reg.ENG_STATUS.OVR_RUN (engBlock u e) = 0 ∧ t.bit Reg.ENG_EV.PENDING (engBlock u e) Ev.restored ∧ OnlyFieldsLog [Hid.ADD_PEND,
      Hid.CRC_BUSY, Hid.E_A, Hid.E_C, Hid.E_LATE, Hid.E_N, Hid.E_PC, Hid.E_RUN, Hid.E_SLOT, Hid.E_STGW, Hid.E_V, Hid.E_W, Hid.E_WAIT, Hid.E_Z, Hid.FIRED,
      Hid.HANDING_OVER, Hid.JOIN_PEND, Hid.LOAD_SIG, Hid.MARK_MID, Hid.MID_BUSY, Hid.MID_TICK, Hid.PROBING, Hid.PWM_LVL, Hid.READD_DONE, Hid.ZL_CYC, Hid.ZL_ENTRY,
      Hid.ZL_PAR, Hid.ZL_RAMP, Hid.ZL_ROLE, Hid.ZL_RSTEP, Hid.ZL_S, Hid.ZL_STEP, Hid.ZL_VI, Hid.ZL_VP, Hid.ZL_VPREV, Reg.ENG_EV.EVW, Reg.ENG_EV.PENDING,
      Reg.ENG_FAULT.KIND, Reg.ENG_FAULT.PROBE_OK, Reg.ENG_STATUS.BANK, Reg.ENG_STATUS.CRC_VALID, Reg.ENG_STATUS.HALTED, Reg.ENG_STATUS.OVR_RUN, Reg.PH_COUNTS.REPEAT,
      Reg.PH_COUNTS.SHED_COUNT, Reg.PH_STATE.CAUSE, Reg.PH_STATE.STATE, Reg.PH_STATUS.CMD_DROP, Reg.PH_STATUS.REPEAT_BLOCK, Reg.PH_STATUS.SHED_EVT, Reg.SPARE_STATUS.FOR,
      Reg.SPARE_STATUS.SPARE_KIND, Reg.STG_GROUP_STATUS.STG_EN] { s with awlErrs := t.awlErrs, awlProbes := t.awlProbes } t) ∧
  (∀ (u : Tile) (e : Slot) (kind : EngFault) (ckptOk : Bool) (s : State), e.val < 24 → s.spareRuns u e = false → s.on Hid.E_RUN (engIx u e) → ckptOk = false → s.ph
      (engBlock u e) = Ph.active → s.on Hid.READD_DONE (engBlock u e) = false → Answers (.engineFault u e kind ckptOk) s fun t => t.get Reg.ENG_FAULT.KIND (engBlock u e)
      = faultKind kind ∧ t.ph (engBlock u e) = Ph.shed ∧ t.get Reg.PH_STATE.CAUSE (engBlock u e) = Cause.engineLost ∧ t.bit Reg.ENG_EV.PENDING (engBlock u e) Ev.phOut) ∧
  (∀ (w : Who) (p : Phase) (ckptOk : Bool) (s : State), s.spareRuns (tileOf p) (localOf p) = false → s.on Hid.E_RUN (engIx (tileOf p) (localOf p)) → ckptOk = true → s.on
      Reg.ENG_STATUS.HALTED p = false → s.spareFree (tileOf p) → Answers (.failInj w p ckptOk) s fun t => t.get Reg.ENG_FAULT.KIND p = 6 ∧ t.get Reg.SPARE_STATUS.FOR
      (tileOf p) = localOf p ∧ t.get Hid.HANDING_OVER (tileOf p) = 1 ∧ t.logged JKind.done JStatus.ok (s.railOf p)) ∧
  (∀ (u : Tile) (s : State), s.on Hid.HANDING_OVER u → s.ph (u.val * 24 + s.get Reg.SPARE_STATUS.FOR u) = Ph.spareHold → Answers (.spareTakeoverDone u) s fun t => t.ph
      (u.val * 24 + s.get Reg.SPARE_STATUS.FOR u) = Ph.active ∧ t.get Reg.PH_STATE.ON_SPARE (u.val * 24 + s.get Reg.SPARE_STATUS.FOR u) = 1 ∧ t.get Reg.SPARE_STATUS.BUSY
      u = 1 ∧ t.get Reg.SPARE_STATUS.TAKEOVER_EVT u = 1 ∧ t.get Reg.SPARE_STATUS.TAKEOVER_COUNT u = s.bumped Reg.SPARE_STATUS.TAKEOVER_COUNT u ∧ t.get Hid.HANDING_OVER u
      = 0 ∧ OnlyFieldsLog [Hid.FU_DEBUG, Hid.FU_DEVICE_ID, Hid.FU_HPD_TRIM, Hid.FU_IG, Hid.FU_ILIM, Hid.FU_KEY, Hid.FU_KILL, Hid.FU_K_ROOT, Hid.FU_LIFE, Hid.FU_MGR_TRIM,
      Hid.FU_OV, Hid.FU_PRIV, Hid.FU_PRODUCT, Hid.FU_REVOKE, Hid.FU_ROLLBACK, Hid.FU_STG, Hid.FU_WDT_HW, Hid.FU_WIPE, Hid.HANDING_BACK, Hid.HANDING_OVER,
      Reg.ENG_FAULT.KIND, Reg.PH_STATE.ON_SPARE, Reg.PH_STATE.STATE, Reg.SPARE_CTRL.HANDBACK, Reg.SPARE_STATUS.BUSY, Reg.SPARE_STATUS.FOR,
      Reg.SPARE_STATUS.TAKEOVER_COUNT, Reg.SPARE_STATUS.TAKEOVER_EVT] s t) ∧
  (∀ (u : Tile) (s : State), s.on Hid.HANDING_OVER u = false → s.on Hid.HANDING_BACK u → Answers (.spareTakeoverDone u) s fun t => t.get Reg.PH_STATE.ON_SPARE (u.val * 24
      + s.get Reg.SPARE_STATUS.FOR u) = 0 ∧ t.get Reg.ENG_FAULT.KIND (u.val * 24 + s.get Reg.SPARE_STATUS.FOR u) = (if s.on Reg.ENG_FAULT.PROBE_OK (u.val * 24 + s.get
      Reg.SPARE_STATUS.FOR u) then 0 else s.get Reg.ENG_FAULT.KIND (u.val * 24 + s.get Reg.SPARE_STATUS.FOR u)) ∧ t.get Reg.SPARE_STATUS.BUSY u = 0 ∧ t.get
      Reg.SPARE_STATUS.FOR u = 31 ∧ t.get Hid.HANDING_BACK u = 0 ∧ t.accepted (regCmd Reg.SPARE_CTRL.HANDBACK u) = false) ∧
  (∀ (w : Who) (u : Tile) (s : State), s.on Reg.SPARE_STATUS.BUSY u → s.on Reg.ENG_FAULT.PROBE_OK (u.val * 24 + s.get Reg.SPARE_STATUS.FOR u) → s.on Hid.HANDING_BACK u =
      false → s.get Reg.SPARE_STATUS.FOR u < 24 → Answers (.handback w u) s fun t => t.get Hid.HANDING_BACK u = 1 ∧ t.logged JKind.accepted JStatus.ok noTarget ∧
      t.accepted (regCmd Reg.SPARE_CTRL.HANDBACK u) ∧ t.w (engIx u (s.get Reg.SPARE_STATUS.FOR u)) 0 = BitVec.ofNat 32 (s.getAt Hid.CK_W (engIx u 24) 0)) ∧
  (∀ (w : Who) (u : Tile) (s : State), (s.on Reg.SPARE_STATUS.BUSY u = false ∨ s.on Reg.ENG_FAULT.PROBE_OK (u.val * 24 + s.get Reg.SPARE_STATUS.FOR u) = false) → Answers
      (.handback w u) s fun t => t.get Reg.SPARE_STATUS.HANDBACK_REJ u = 1 ∧ t.logged JKind.refused JStatus.refused noTarget ∧ OnlyFieldsLog
      [Reg.SPARE_STATUS.HANDBACK_REJ] s t) ∧
  (∀ (u : Tile) (pass : Bool) (s : State), s.spareServes u = false → pass = false → Answers (.spareSelfCheck u pass) s fun t => t.get Hid.SPARE_BAD u = 1 ∧ OnlyCells
      [(Hid.SPARE_BAD, u, 0)] { s with awlErrs := t.awlErrs, awlProbes := t.awlProbes } t) ∧
  (∀ (u : Tile) (pass : Bool) (s : State), pass = true → Answers (.spareSelfCheck u pass) s fun t => t = s)

/-- A set-point that its rail's range and ceiling allow is taken: at once where no soft-start has begun or finished, otherwise as a command that ramps every tile of a clock-ready rail; one they forbid sets SP_REJ on the rail and changes no set-point; a law select that is known and new on an idle rail takes the law and starts its copy, a reserved one sets LAW_REJ, the present one does nothing; the end of the copy shows it in LOADED_ID. -/
def Obligations.SetpointsAndLaws : Prop :=
  (∀ (w : Who) (r : Rail) (target : BitVec 16) (stop : Bool) (s : State), s.setptOk (s.leadIx r) target.toNat → s.on Hid.SP_DONE (s.leadIx r) = false → s.get Hid.SP_MODE
      (s.leadIx r) ≠ SpMode.soft → Answers (.setpointCommand w r target stop) s fun t => t.get Reg.RAIL_SETPT.VSET_TGT (s.leadIx r) = target.toNat ∧ t.get Hid.SP_TGT
      (s.leadIx r) = s.get Hid.SP_TGT (s.leadIx r) ∧ OnlyFieldsLog [Hid.FU_DEBUG, Hid.FU_DEVICE_ID, Hid.FU_HPD_TRIM, Hid.FU_IG, Hid.FU_ILIM, Hid.FU_KEY, Hid.FU_KILL,
      Hid.FU_K_ROOT, Hid.FU_LIFE, Hid.FU_MGR_TRIM, Hid.FU_OV, Hid.FU_PRIV, Hid.FU_PRODUCT, Hid.FU_REVOKE, Hid.FU_ROLLBACK, Hid.FU_STG, Hid.FU_WDT_HW, Hid.FU_WIPE,
      Hid.SP_CMD, Hid.SP_MODE, Hid.SP_TGT, Reg.ENG_EV.PENDING, Reg.HPD_CLK_STATUS.REF_SRC, Reg.HPD_CLK_STATUS.SETTLING, Reg.RAIL_SETPT.SP_REJ, Reg.RAIL_SETPT.VSET_TGT,
      Reg.RAIL_SP_STATUS.RAMPING, Reg.TILE_CLK_STATUS.REF_SRC, Reg.TILE_CLK_STATUS.SETTLING] s t) ∧
  (∀ (w : Who) (r : Rail) (target : BitVec 16) (stop : Bool) (s : State), s.setptOk (s.leadIx r) target.toNat → s.on Hid.SP_DONE (s.leadIx r) → s.get Hid.SP_MODE
      (s.leadIx r) ≠ SpMode.soft → stop = false → s.railReady r → Answers (.setpointCommand w r target stop) s fun t => t.get Reg.RAIL_SETPT.VSET_TGT (s.leadIx r) =
      target.toNat ∧ t.get Hid.SP_TGT (s.leadIx r) = target.toNat ∧ t.get Hid.SP_MODE (s.leadIx r) = SpMode.ramp ∧ t.get Reg.RAIL_SP_STATUS.RAMPING (s.leadIx r) = 1 ∧
      t.accepted (.setpoint r target.toNat) ∧ (∀ p ∈ s.phasesOn (s.home r) r, t.bit Reg.ENG_EV.PENDING p Ev.vsetChg) ∧ OnlyFieldsLog [Hid.FU_DEBUG, Hid.FU_DEVICE_ID,
      Hid.FU_HPD_TRIM, Hid.FU_IG, Hid.FU_ILIM, Hid.FU_KEY, Hid.FU_KILL, Hid.FU_K_ROOT, Hid.FU_LIFE, Hid.FU_MGR_TRIM, Hid.FU_OV, Hid.FU_PRIV, Hid.FU_PRODUCT,
      Hid.FU_REVOKE, Hid.FU_ROLLBACK, Hid.FU_STG, Hid.FU_WDT_HW, Hid.FU_WIPE, Hid.SP_CMD, Hid.SP_MODE, Hid.SP_TGT, Reg.ENG_EV.PENDING, Reg.HPD_CLK_STATUS.REF_SRC,
      Reg.HPD_CLK_STATUS.SETTLING, Reg.RAIL_SETPT.SP_REJ, Reg.RAIL_SETPT.VSET_TGT, Reg.RAIL_SP_STATUS.RAMPING, Reg.TILE_CLK_STATUS.REF_SRC, Reg.TILE_CLK_STATUS.SETTLING]
      s t) ∧
  (∀ (w : Who) (r : Rail) (target : BitVec 16) (stop : Bool) (s : State), s.setptOk (s.leadIx r) target.toNat = false → Answers (.setpointCommand w r target stop) s fun t
      => t.get Reg.RAIL_SETPT.SP_REJ (s.leadIx r) = 1 ∧ t.get Reg.RAIL_SETPT.VSET_TGT (s.leadIx r) = s.get Reg.RAIL_SETPT.VSET_TGT (s.leadIx r) ∧ (s.running r → t.logged
      JKind.refused JStatus.refused r) ∧ OnlyFieldsLog [Reg.RAIL_SETPT.SP_REJ] s t) ∧
  (∀ (w : Who) (r : Rail) (law : Byte) (s : State), (law = 0x10 ∨ law = 0x11 ∨ law = 0x12) → s.get Reg.RAIL_LAW.LAW_ID (s.homeIx r) ≠ law.toNat → s.railIdle r → Answers
      (.lawSelect w r law) s fun t => t.get Reg.RAIL_LAW.LAW_ID (s.homeIx r) = law.toNat ∧ t.onAt Hid.LAW_BUSY 0 r ∧ OnlyFields [Reg.RAIL_LAW.LAW_ID, Hid.LAW_BUSY] s t) ∧
  (∀ (w : Who) (r : Rail) (law : Byte) (s : State), law ≠ 0 → law ≠ 0x10 → law ≠ 0x11 → law ≠ 0x12 → Answers (.lawSelect w r law) s fun t => t.get Reg.RAIL_LAW.LAW_REJ
      (s.homeIx r) = 1 ∧ OnlyFields [Reg.RAIL_LAW.LAW_REJ] s t) ∧
  (∀ (r : Rail) (s : State), s.onAt Hid.LAW_BUSY 0 r → s.quiet → s.enStep r = 0 → Answers (.lawCopyDone r) s fun t => t.get Reg.RAIL_LAW.LOADED_ID (s.homeIx r) = s.get
      Reg.RAIL_LAW.LAW_ID (s.homeIx r) % 256 ∧ t.onAt Hid.LAW_BUSY 0 r = false ∧ (∀ p ∈ s.phasesOf r, t.get Reg.ENG_CTRL.EV_EN p = 0x3FFF ∧ t.get Reg.ENG_STATUS.CRC_VALID
      p = 0 ∧ t.getAt Hid.BANK_LAW (engIx (tileOf p) (localOf p)) 1 = s.get Reg.RAIL_LAW.LAW_ID (s.homeIx r) % 256)) ∧
  (∀ (r : Rail) (s : State), s.onAt Hid.LAW_BUSY 0 r → Answers (.lawCopyDone r) s fun v => ∃ t : State, v = t.seqPoll ∧ (s.lawCopied r).get Reg.RAIL_LAW.LOADED_ID
      (s.homeIx r) = s.get Reg.RAIL_LAW.LAW_ID (s.homeIx r) % 256 ∧ (s.lawCopied r).onAt Hid.LAW_BUSY 0 r = false ∧ t = (s.lawCopied r).enableRetry r)

/-- A fall as steep as the slope threshold opens the slope window while the window is armed, and it ends SLOPE_WIN ticks after the last; a trip of an armed window whose level detector is active and whose MODE lets it records the trip, starts firing and hold-off with ON_TIME, drives the ACTIVE phases of its tile high (those not within the 200 ns of mid at once) and latches CINCH_TRIP; ON_TIME boundaries later, one more for a trip inside a tick, every phase it fired ends its fire and DUR is the tick count less one; the end of the hand-over takes CPRESET on each of those tiles, latches CINCH_REL and ends the firing; the hold-off ends; a wire mismatch shows in the tile's status. -/
def Obligations.CinchWindow : Prop :=
  (∀ (u : Tile) (r : Rail) (fall : BitVec 8) (s : State), s.armed u r → s.get Hid.C_SLOPE (railIx u r) * 4 ≤ s.railSide (railIx u r) fall.toNat → Answers (.slopeFire u r
      fall) s fun t => t.get Hid.SLOPE_OPEN (railIx u r) = 1 ∧ t.get Hid.SLOPE_AGE (railIx u r) = 0 ∧ OnlyCells [(Hid.SLOPE_OPEN, railIx u r, 0), (Hid.SLOPE_AGE, railIx u
      r, 0)] s t) ∧
  (∀ (u : Tile) (r : Rail) (s : State), s.get Hid.C_SWIN (railIx u r) ≤ s.get Hid.SLOPE_AGE (railIx u r) → Answers (.slopeWindowEnd u r) s fun t => t.get Hid.SLOPE_OPEN
      (railIx u r) = 0 ∧ OnlyCells [(Hid.SLOPE_OPEN, railIx u r, 0)] s t) ∧
  (∀ (u : Tile) (r : Rail) (v : BitVec 16) (onB : Bool) (s : State), s.armed u r → (s.levelSense (railIx u r) v.toNat).on Hid.C_LVL (railIx u r) → (s.get Hid.C_MODE
      (railIx u r) = 2 ∨ (s.get Hid.C_MODE (railIx u r) = 1 ∧ s.on Hid.SLOPE_OPEN (railIx u r)) ∨ s.on Hid.LOSS_ARM (railIx u r)) → Answers (.cinchTrip u r v onB) s fun t
      => t.get Reg.CINCH_STATUS.TRIP_EVT (railIx u r) = 1 ∧ t.get Reg.CINCH_STATUS.TRIP_COUNT (railIx u r) = s.bumped Reg.CINCH_STATUS.TRIP_COUNT (railIx u r) ∧ t.get
      Reg.CINCH_LAST.TRIP_TICK (railIx u r) = s.get Hid.TICK u % 2 ^ 32 ∧ t.get Reg.CINCH_STATUS.FIRING (railIx u r) = 1 ∧ t.get Reg.CINCH_STATUS.HOLDOFF (railIx u r) = 1
      ∧ t.get Hid.C_ON (railIx u r) = s.get Hid.C_ONT (railIx u r) % 2 ^ Hid.C_ON.wid ∧ t.get Hid.C_IN (railIx u r) = (!onB).toNat ∧ (∀ v ∈ s.fireTiles u r, ∀ p ∈
      s.phasesOn v r, t.bit Reg.ENG_EV.PENDING p Ev.cinchTrip) ∧ (∀ v ∈ s.fireTiles u r, ∀ p ∈ s.phasesOn v r, s.isActivePh p → s.underDiag p = false → s.on Hid.MID_TICK
      p = false → t.on Hid.FIRED p ∧ (s.on Hid.MID_BUSY p = false → t.get Hid.PWM_LVL p = Pwm.pulse.num)) ∧ OnlyFields [Hid.ADD_PEND, Hid.CAP_LEFT, Hid.CAP_TRIGD,
      Hid.C_FIRE, Hid.C_IN, Hid.C_LVL, Hid.C_ON, Hid.C_RELEASED, Hid.C_WIRE, Hid.FCP_CINCHED, Hid.FIRED, Hid.FPULSE, Hid.FU_DEBUG, Hid.FU_DEVICE_ID, Hid.FU_HPD_TRIM,
      Hid.FU_IG, Hid.FU_ILIM, Hid.FU_KEY, Hid.FU_KILL, Hid.FU_K_ROOT, Hid.FU_LIFE, Hid.FU_MGR_TRIM, Hid.FU_OV, Hid.FU_PRIV, Hid.FU_PRODUCT, Hid.FU_REVOKE,
      Hid.FU_ROLLBACK, Hid.FU_STG, Hid.FU_WDT_HW, Hid.FU_WIPE, Hid.MARK_MID, Hid.PWM_LVL, Hid.SLOPE_OPEN, Hid.TRIP_AGE, Reg.CAP_STATUS.TRIGGERED,
      Reg.CINCH_LAST.TRIP_TICK, Reg.CINCH_STATUS.FIRING, Reg.CINCH_STATUS.HOLDOFF, Reg.CINCH_STATUS.TRIP_COUNT, Reg.CINCH_STATUS.TRIP_EVT, Reg.ENG_EV.PENDING,
      Reg.FC_COUNT_C.CINCHED_COUNT, Reg.PH_STATE.STATE] s t) ∧
  (∀ (u : Tile) (r : Rail) (v : BitVec 16) (s : State), s.on Reg.CINCH_STATUS.FIRING (railIx u r) → s.on Hid.C_RELEASED (railIx u r) = false → s.get Hid.C_ON (railIx u r)
      + s.get Hid.C_IN (railIx u r) ≤ s.get Hid.TRIP_AGE (railIx u r) → Answers (.cinchRelease u r v) s fun t => t.get Hid.C_RELEASED (railIx u r) = 1 ∧ (∀ v ∈
      s.fireTiles u r, t.get Hid.C_WIRE (railIx v r) = 0 ∧ t.get Reg.CINCH_PRESET.DUR (railIx v r) = (s.get Hid.TRIP_AGE (railIx u r) - 1) % 2 ^ 16) ∧ (∀ v ∈ s.fireTiles
      u r, ∀ p ∈ s.phasesOn v r, t.on Hid.FIRED p = false) ∧ OnlyFields [Hid.ADD_PEND, Hid.C_LVL, Hid.C_RELEASED, Hid.C_WIRE, Hid.FIRED, Hid.FU_DEBUG, Hid.FU_DEVICE_ID,
      Hid.FU_HPD_TRIM, Hid.FU_IG, Hid.FU_ILIM, Hid.FU_KEY, Hid.FU_KILL, Hid.FU_K_ROOT, Hid.FU_LIFE, Hid.FU_MGR_TRIM, Hid.FU_OV, Hid.FU_PRIV, Hid.FU_PRODUCT,
      Hid.FU_REVOKE, Hid.FU_ROLLBACK, Hid.FU_STG, Hid.FU_WDT_HW, Hid.FU_WIPE, Hid.MID_BUSY, Hid.MID_TICK, Hid.PWM_LVL, Hid.REL_AGE, Reg.CINCH_PRESET.DUR,
      Reg.CINCH_STATUS.EARLY_REL, Reg.PH_STATUS.CMD_DROP] s t) ∧
  (∀ (u : Tile) (r : Rail) (s : State), s.on Reg.CINCH_STATUS.FIRING (railIx u r) → s.on Hid.C_RELEASED (railIx u r) → 4 ≤ s.get Hid.REL_AGE (railIx u r) → Answers
      (.cinchHandoverEnd u r) s fun t => t.get Reg.CINCH_STATUS.FIRING (railIx u r) = 0 ∧ (∀ v ∈ s.fireTiles u r, t.get Hid.C_FIRE (railIx v r) = 0 ∧ t.get Hid.CP_FULL
      (railIx v r) = twos 32 (s.cpreset v r) ∧ t.get Hid.REL_NOW (railIx v r) = 1) ∧ (∀ v ∈ s.fireTiles u r, ∀ p ∈ s.phasesOn v r, t.bit Reg.ENG_EV.PENDING p Ev.cinchRel)
      ∧ OnlyFields [Hid.CP_FULL, Hid.C_FIRE, Hid.C_RELEASED, Hid.FU_DEBUG, Hid.FU_DEVICE_ID, Hid.FU_HPD_TRIM, Hid.FU_IG, Hid.FU_ILIM, Hid.FU_KEY, Hid.FU_KILL,
      Hid.FU_K_ROOT, Hid.FU_LIFE, Hid.FU_MGR_TRIM, Hid.FU_OV, Hid.FU_PRIV, Hid.FU_PRODUCT, Hid.FU_REVOKE, Hid.FU_ROLLBACK, Hid.FU_STG, Hid.FU_WDT_HW, Hid.FU_WIPE,
      Hid.REL_NOW, Reg.CINCH_PRESET.CPRESET, Reg.CINCH_STATUS.FIRING, Reg.ENG_EV.PENDING] s t) ∧
  (∀ (u : Tile) (r : Rail) (s : State), s.on Reg.CINCH_STATUS.FIRING (railIx u r) = false → 50 ≤ s.get Hid.REL_AGE (railIx u r) → Answers (.cinchHoldoffEnd u r) s fun t
      => t.get Reg.CINCH_STATUS.HOLDOFF (railIx u r) = 0 ∧ OnlyCells [(Reg.CINCH_STATUS.HOLDOFF, railIx u r, 0)] s t) ∧
  (∀ (u : Tile) (upper : Bool) (slot : Fin 8) (s : State), hasNeighbour u upper → Answers (.cinchWireMismatch u upper slot) s fun t => t.bit (if upper then
      Reg.CINCH_WIRE_STATUS.CWIRE_FLT_UP else Reg.CINCH_WIRE_STATUS.CWIRE_FLT_LO) u slot ∧ OnlyCells [(if upper then Reg.CINCH_WIRE_STATUS.CWIRE_FLT_UP else
      Reg.CINCH_WIRE_STATUS.CWIRE_FLT_LO, u, 0)] s t)

/-- A word with a good CRC and stop, for a regulated rail that the tile serves, that names the port and is past its soft-start and not stopping, is accepted: counted, shown in FC_LAST, and with a step other than 0 pending with its due tick; one with a bad CRC or stop is counted as an error and changes no forecast; a missing clock shows; the due tick latches FC_DUE; the fire schedules a pulse of 512 to 10 240 taps on every ACTIVE phase, next to a pulse of a replaced forecast that still runs; a pulse that starts in its tick drives its phase high and its end in its tick returns it; a forecast that came true counts as met, any other expires with FC_EXP and counts as missed. A reading of the model that it rests on: log entry 44. -/
def Obligations.ForecastPort : Prop :=
  (∀ (u : Tile) (portB : Bool) (word : Word) (stopOk lost : Bool) (s : State), s.on (if portB then Reg.FC_PORT_CTRL.EN_B else Reg.FC_PORT_CTRL.EN_A) u → stopOk = true →
      fcCrc word = word.setWidth 6 → fcRail word < 48 → s.serves u (fcRail word) → s.kindOf (fcRail word) = 1 → (s.get Reg.FC_CFG.SRC (railIx u (fcRail word))).testBit
      portB.toNat → s.on Hid.SP_DONE (railIx u (fcRail word)) → s.offOrStopping (fcRail word) = false → (portB = false ∨ lost = false) → fcStep word ≠ 0 → Answers
      (.forecastWord u portB word stopOk lost) s fun t => t.get Reg.FC_COUNT_A.ACC_COUNT (railIx u (fcRail word)) = s.bumped Reg.FC_COUNT_A.ACC_COUNT (railIx u (fcRail
      word)) ∧ t.get Reg.FC_LAST.WORD (railIx u (fcRail word)) = word.toNat ∧ t.get Reg.FC_STATUS.PENDING (railIx u (fcRail word)) = 1 ∧ t.get Hid.FCP_D (railIx u (fcRail
      word)) = (s.get Hid.TICK u + 5 * fcLead word) % 2 ^ 32 ∧ t.getI Hid.FCP_STEP (railIx u (fcRail word)) = fcStep word ∧ (s.on Reg.FC_STATUS.PENDING (railIx u (fcRail
      word)) → t.get Reg.FC_COUNT_B.REPL_COUNT (railIx u (fcRail word)) = s.bumped Reg.FC_COUNT_B.REPL_COUNT (railIx u (fcRail word))) ∧ (∀ p ∈ s.phasesOn u (fcRail
      word), t.bit Reg.ENG_EV.PENDING p Ev.fcNew) ∧ OnlyFields [Hid.ADD_PEND, Hid.EV_ONCE, Hid.FCP_A, Hid.FCP_CFG, Hid.FCP_CINCHED, Hid.FCP_D, Hid.FCP_ISUM,
      Hid.FCP_JUDGE, Hid.FCP_STARTED, Hid.FCP_STEP, Hid.FPULSE, Hid.FU_DEBUG, Hid.FU_DEVICE_ID, Hid.FU_HPD_TRIM, Hid.FU_IG, Hid.FU_ILIM, Hid.FU_KEY, Hid.FU_KILL,
      Hid.FU_K_ROOT, Hid.FU_LIFE, Hid.FU_MGR_TRIM, Hid.FU_OV, Hid.FU_PRIV, Hid.FU_PRODUCT, Hid.FU_REVOKE, Hid.FU_ROLLBACK, Hid.FU_STG, Hid.FU_WDT_HW, Hid.FU_WIPE,
      Hid.LOAD_AT, Hid.LOAD_SIG, Hid.MARK_MID, Reg.ENG_EV.PENDING, Reg.FC_COUNT_A.ACC_COUNT, Reg.FC_COUNT_B.REPL_COUNT, Reg.FC_LAST.WORD, Reg.FC_PORT_CTRL.EN_A,
      Reg.FC_PORT_CTRL.EN_B, Reg.FC_PORT_STATUS.ERR_A, Reg.FC_PORT_STATUS.ERR_B, Reg.FC_PORT_STATUS.NOCLK_A, Reg.FC_PORT_STATUS.NOCLK_B, Reg.FC_STATUS.JUDGING,
      Reg.FC_STATUS.PENDING, Reg.FC_STATUS.REFUSE_COUNT, Reg.PH_STATE.STATE] s t) ∧
  (∀ (u : Tile) (portB : Bool) (word : Word) (stopOk lost : Bool) (s : State), s.on (if portB then Reg.FC_PORT_CTRL.EN_B else Reg.FC_PORT_CTRL.EN_A) u → (stopOk = false ∨
      fcCrc word ≠ word.setWidth 6) → Answers (.forecastWord u portB word stopOk lost) s fun t => t.get (if portB then Reg.FC_PORT_STATUS.ERR_B else
      Reg.FC_PORT_STATUS.ERR_A) u = s.bumped (if portB then Reg.FC_PORT_STATUS.ERR_B else Reg.FC_PORT_STATUS.ERR_A) u ∧ OnlyFields [Reg.FC_PORT_STATUS.ERR_A,
      Reg.FC_PORT_STATUS.ERR_B, Reg.FC_PORT_STATUS.NOCLK_A, Reg.FC_PORT_STATUS.NOCLK_B, Hid.EV_ONCE] s t) ∧
  (∀ (u : Tile) (portB : Bool) (s : State), Answers (.forecastClockLoss u portB) s fun t => t.get (if portB then Reg.FC_PORT_STATUS.NOCLK_B else
      Reg.FC_PORT_STATUS.NOCLK_A) u = 1 ∧ OnlyCells [(if portB then Reg.FC_PORT_STATUS.NOCLK_B else Reg.FC_PORT_STATUS.NOCLK_A, u, 0)] s t) ∧
  (∀ (u : Tile) (r : Rail) (s : State), s.on Reg.FC_STATUS.PENDING (railIx u r) → s.on Reg.FC_STATUS.JUDGING (railIx u r) = false → ahead (s.get Hid.TICK u) (s.get
      Hid.FCP_D (railIx u r)) < 2 ^ 31 → Answers (.forecastDue u r) s fun t => t.get Reg.FC_STATUS.JUDGING (railIx u r) = 1 ∧ (∀ p ∈ s.phasesOn u r, t.bit
      Reg.ENG_EV.PENDING p Ev.fcDue) ∧ OnlyFields [Reg.FC_STATUS.JUDGING, Reg.ENG_EV.PENDING] s t) ∧
  (∀ (u : Tile) (r : Rail) (s : State), s.on Reg.FC_STATUS.PENDING (railIx u r) → fcFire (s.get Hid.FCP_CFG (railIx u r)) → (0 : Int) < s.getI Hid.FCP_STEP (railIx u r) →
      s.on Hid.FCP_STARTED (railIx u r) = false → s.on Hid.FCP_CINCHED (railIx u r) = false → tickReached (if (s.get Hid.FCP_D (railIx u r) + 2 ^ 32 - s.get Hid.FCP_A
      (railIx u r)) % 2 ^ 32 < s.get Hid.FCP_CFG (railIx u r) / 256 % 256 then s.get Hid.FCP_A (railIx u r) else s.get Hid.FCP_D (railIx u r) + 2 ^ 32 - s.get Hid.FCP_CFG
      (railIx u r) / 256 % 256) (s.get Hid.TICK u) → Answers (.forecastFireStart u r) s fun t => t.get Hid.FCP_STARTED (railIx u r) = 1 ∧ (∀ p ∈ s.phasesOn u r, s.ph p =
      Ph.active → s.underDiag p = false → t.get Hid.FPULSE p % 2 = 1 ∧ t.get Hid.FPULSE p / 2 = s.get Hid.FPULSE p / 2 % 2 ∧ 512 ≤ t.get Hid.FPULSE_LEN p ∧ t.get
      Hid.FPULSE_LEN p ≤ 10240) ∧ OnlyFields [Hid.FCP_STARTED, Hid.FPULSE, Hid.FPULSE_AT, Hid.FPULSE_LEN, Hid.FP_S, Reg.FC_COUNT_C.LATE_COUNT, Reg.FC_STATUS.TCLAMP] s t) ∧
  (∀ (p : Phase) (s : State), s.get Hid.FPULSE p % 2 = 1 → tickReached (s.get Hid.FP_S p + s.get Hid.FPULSE_AT p / 256) (s.get Hid.TICK (tileOf p)) → s.on Hid.C_FIRE
      (railIx (tileOf p) (s.railOf p)) = false → s.on Hid.MID_TICK p = false → s.ph p = Ph.active → s.underDiag p = false → Answers (.forecastPulseStart p) s fun t =>
      t.get Hid.FPULSE p = 2 ∧ t.get Hid.FIRED p = 1 ∧ t.get Hid.PWM_LVL p = (if s.on Hid.MID_BUSY p then s.get Hid.PWM_LVL p else Pwm.pulse.num) ∧ t.get Hid.FP_TAP p =
      (s.get Hid.FPULSE_AT p + s.get Hid.FPULSE_LEN p) % 256 ∧ OnlyCells [(Hid.FPULSE, p, 0), (Hid.FP_END, p, 0), (Hid.FP_TAP, p, 0), (Hid.FIRED, p, 0), (Hid.PWM_LVL, p,
      0)] s t) ∧
  (∀ (p : Phase) (s : State), 2 ≤ s.get Hid.FPULSE p → tickReached (s.get Hid.FP_END p) (s.get Hid.TICK (tileOf p)) → s.on Hid.FIRED p → s.on Hid.MID_BUSY p = false →
      Answers (.forecastPulseEnd p) s fun t => t.get Hid.FPULSE p = s.get Hid.FPULSE p % 2 ∧ t.on Hid.FIRED p = false ∧ t.get Hid.PWM_LVL p = (if s.inOnTimeAt p (s.get
      Hid.FP_TAP p) then Pwm.pulse.num else if s.deOn p && decide (s.iph p ≤ 0) then Pwm.mid.num else Pwm.low.num) ∧ OnlyFields [Hid.ADD_PEND, Hid.FIRED, Hid.FPULSE,
      Hid.MID_BUSY, Hid.MID_TICK, Hid.PWM_LVL, Reg.PH_STATUS.CMD_DROP] s t) ∧
  (∀ (u : Tile) (r : Rail) (s : State), s.on Reg.FC_STATUS.PENDING (railIx u r) → s.on Reg.FC_STATUS.JUDGING (railIx u r) → tickReached (s.get Hid.FCP_D (railIx u r) +
      max 1 (s.get Hid.FCP_JUDGE (railIx u r))) (s.get Hid.TICK u) → fcMet (s.isum u r - s.getI Hid.FCP_ISUM (railIx u r)) (s.getI Hid.FCP_STEP (railIx u r)) → Answers
      (.forecastJudge u r) s fun t => t.get Reg.FC_COUNT_A.MET_COUNT (railIx u r) = s.bumped Reg.FC_COUNT_A.MET_COUNT (railIx u r) ∧ t.get Reg.FC_STATUS.PENDING (railIx u
      r) = 0 ∧ OnlyCells [(Reg.FC_COUNT_A.MET_COUNT, railIx u r, 0), (Reg.FC_STATUS.PENDING, railIx u r, 0), (Reg.FC_STATUS.JUDGING, railIx u r, 0)] s t) ∧
  (∀ (u : Tile) (r : Rail) (s : State), s.on Reg.FC_STATUS.PENDING (railIx u r) → s.on Reg.FC_STATUS.JUDGING (railIx u r) → tickReached (s.get Hid.FCP_D (railIx u r) +
      max 1 (s.get Hid.FCP_JUDGE (railIx u r))) (s.get Hid.TICK u) → fcMet (s.isum u r - s.getI Hid.FCP_ISUM (railIx u r)) (s.getI Hid.FCP_STEP (railIx u r)) = false →
      Answers (.forecastJudge u r) s fun t => t.get Reg.FC_COUNT_B.MISS_COUNT (railIx u r) = s.bumped Reg.FC_COUNT_B.MISS_COUNT (railIx u r) ∧ t.get Reg.FC_STATUS.PENDING
      (railIx u r) = 0 ∧ (∀ p ∈ s.phasesOn u r, t.bit Reg.ENG_EV.PENDING p Ev.fcExp))

/-- SKEW_CAL is accepted and runs for the channels whose rails are off, each channel's end sets its trims, and the last one ends it; the rotation steps to the next position, past position 31 to the spare; a comparison of 16 pairs whose summed difference is at most 32 codes passes, and one that fails before calibration sets CMP_FAIL; a slice whose new trims are within their limits takes them and converts alongside again, one whose trims are not is retired with the spare free, and the spare keeps its position; the spare's own calibration leaves its trims for every position, and its failure takes it out; a diagnosis request that its target allows runs and any other answers verdict 7 with DIAG_REJ; once its levels and its comparator test are over it ends with the verdict of its samples, the enables and sequences that waited go on, and a failing report blocks an OFF phase. Readings and choices of the model that it rests on: log entries 104, 106, 109. -/
def Obligations.SliceCalibrationAndDiagnosis : Prop :=
  (∀ (w : Who) (u : Tile) (s : State), s.idleChannels u ≠ 0 → Answers (.skewCal w u) s fun t => t.get Hid.SKEW_TODO u = s.idleChannels u % 2 ^ 12 ∧ t.get
      Reg.SNS_STATUS.SKEW_BUSY u = 1 ∧ t.logged JKind.accepted JStatus.ok noTarget ∧ OnlyFieldsLog [Hid.SKEW_TODO, Reg.SNS_STATUS.SKEW_BUSY] s t) ∧
  (∀ (u : Tile) (ch : Fin 12) (trim spare : BitVec 6) (s : State), s.get Hid.SKEW_TODO u = 2 ^ ch.val → s.get Hid.TSD_RAILS u = 0 → s.accepted (regCmd
      Reg.SNS_CTRL.SKEW_CAL u) = false → (∀ r : Rail, s.enStep r ≠ 3) → Answers (.skewCalDone u ch trim spare) s fun t => t.get (skewFld ch) u = trim.toNat ∧ t.getAt
      Hid.SPARE_SKEW u ch = spare.toNat ∧ t.get Reg.SNS_STATUS.SKEW_BUSY u = 0 ∧ t.get Hid.SKEW_OK u = 1 ∧ OnlyCells [(skewFld ch, u, 0), (Hid.SPARE_SKEW, u, ch.val),
      (Hid.SKEW_TODO, u, 0), (Reg.SNS_STATUS.SKEW_BUSY, u, 0), (Hid.SKEW_OK, u, 0)] s t) ∧
  (∀ (u : Tile) (ch : Fin 12) (trim spare : BitVec 6) (s : State), s.get Hid.SKEW_TODO u = 2 ^ ch.val → s.get Hid.TSD_RAILS u = 0 → s.accepted (regCmd
      Reg.SNS_CTRL.SKEW_CAL u) → (∀ r : Rail, s.enStep r ≠ 3) → Answers (.skewCalDone u ch trim spare) s fun t => t.get (skewFld ch) u = trim.toNat ∧ t.getAt
      Hid.SPARE_SKEW u ch = spare.toNat ∧ t.get Reg.SNS_STATUS.SKEW_BUSY u = 0 ∧ t.get Hid.SKEW_OK u = 1 ∧ t.accepted (regCmd Reg.SNS_CTRL.SKEW_CAL u) = false ∧
      OnlyFieldsLog [skewFld ch, Hid.SPARE_SKEW, Hid.SKEW_TODO, Reg.SNS_STATUS.SKEW_BUSY, Hid.SKEW_OK] s t) ∧
  (∀ (u : Tile) (ch : Fin 12) (trim spare : BitVec 6) (s : State), s.bit Hid.SKEW_TODO u ch → s.get Hid.SKEW_TODO u ≠ 2 ^ ch.val → Answers (.skewCalDone u ch trim spare)
      s fun t => t.get (skewFld ch) u = trim.toNat ∧ t.getAt Hid.SPARE_SKEW u ch = spare.toNat ∧ t.bit Hid.SKEW_TODO u ch = false ∧ OnlyCells [(skewFld ch, u, 0),
      (Hid.SPARE_SKEW, u, ch.val), (Hid.SKEW_TODO, u, 0)] s t) ∧
  (∀ (u : Tile) (ch : Fin 12) (trim spare : BitVec 6) (s : State), s.bit Hid.SKEW_TODO u ch → Answers (.skewCalDone u ch trim spare) s fun t => t.get (skewFld ch) u =
      trim.toNat ∧ t.getAt Hid.SPARE_SKEW u ch = spare.toNat ∧ t.bit Hid.SKEW_TODO u ch = false) ∧
  (∀ (u : Tile) (s : State), s.rotates u → s.get Hid.ROT_PHASE u = 0 → s.get Hid.ROT_NEXT u < 32 → s.sliceWorks u (s.get Hid.ROT_NEXT u) → Answers (.rotationPositionStart
      u) s fun t => t.get Hid.ROT_NEXT u = s.get Hid.ROT_NEXT u + 1 ∧ t.get Reg.SNS_STATUS.SPARE_POS u = s.get Hid.ROT_NEXT u ∧ t.get Hid.ROT_PHASE u = 1 ∧ t.get
      Hid.DIFF_N u = 0 ∧ OnlyFields [Hid.ROT_NEXT, Reg.SNS_STATUS.SPARE_POS, Hid.ROT_PHASE, Hid.DIFF_SUM, Hid.DIFF_N] s t) ∧
  (∀ (u : Tile) (s : State), s.rotates u → s.get Hid.ROT_PHASE u = 0 → 32 ≤ s.get Hid.ROT_NEXT u → Answers (.rotationPositionStart u) s fun t => t.get Hid.ROT_NEXT u = 0
      ∧ t.get Reg.SNS_STATUS.SPARE_POS u = 32 ∧ t.get Hid.ROT_PHASE u = 4) ∧
  (∀ (u : Tile) (s : State), 16 ≤ s.get Hid.DIFF_N u → s.get Hid.ROT_PHASE u = 1 → s.get Hid.DIFF_SUM u ≤ 32 → Answers (.rotationCompare u) s fun t => t.get Hid.ROT_PHASE
      u = 2 ∧ OnlyCells [(Hid.DIFF_SUM, u, 0), (Hid.DIFF_N, u, 0), (Hid.ROT_PHASE, u, 0)] s t) ∧
  (∀ (u : Tile) (s : State), 16 ≤ s.get Hid.DIFF_N u → s.get Hid.ROT_PHASE u = 1 → 32 < s.get Hid.DIFF_SUM u → Answers (.rotationCompare u) s fun t => t.get
      Reg.SNS_STATUS.CMP_FAIL u = 1 ∧ t.get Hid.ROT_PHASE u = 0 ∧ OnlyCells [(Hid.DIFF_SUM, u, 0), (Hid.DIFF_N, u, 0), (Reg.SNS_STATUS.CMP_FAIL, u, 0),
      (Reg.SNS_STATUS.SPARE_POS, u, 0), (Hid.ROT_PHASE, u, 0)] s t) ∧
  (∀ (u : Tile) (s : State), 16 ≤ s.get Hid.DIFF_N u → s.get Hid.ROT_PHASE u = 3 → 32 < s.get Hid.DIFF_SUM u → s.on Reg.SNS_STATUS.SPARE_FIXED u = false → s.on
      Reg.SNS_STATUS.SPARE_OUT u = false → Answers (.rotationCompare u) s fun t => (s.get Reg.SNS_STATUS.SPARE_POS u < 32 → t.bit Reg.SLICE_RETIRED.RETIRED u (s.get
      Reg.SNS_STATUS.SPARE_POS u)) ∧ t.get Reg.SNS_STATUS.SPARE_FIXED u = 1 ∧ t.get Reg.SNS_STATUS.RETIRE_EVT u = 1 ∧ t.get Hid.ROT_PHASE u = 0) ∧
  (∀ (u : Tile) (p : Fin 32) (ofs gain : Int) (s : State), s.noSpare u = false → s.get Hid.ROT_PHASE u = 2 → s.get Reg.SNS_STATUS.SPARE_POS u = p → ofs.natAbs ≤ 40 →
      gain.natAbs * 100 ≤ 3 * 32768 → Answers (.sliceCalibrationDone u p ofs gain) s fun t => t.get Hid.ROT_PHASE u = 3 ∧ t.getIAt Hid.SL_OFS u p = ofs ∧ t.getIAt
      Hid.SL_GAIN u p = gain ∧ OnlyCells [(Hid.SL_OFS, u, p.val), (Hid.SL_GAIN, u, p.val), (Hid.ROT_PHASE, u, 0), (Hid.DIFF_SUM, u, 0), (Hid.DIFF_N, u, 0)] s t) ∧
  (∀ (u : Tile) (p : Fin 32) (ofs gain : Int) (s : State), s.noSpare u = false → s.get Hid.ROT_PHASE u = 2 → s.get Reg.SNS_STATUS.SPARE_POS u = p → (40 < ofs.natAbs ∨ 3 *
      32768 < gain.natAbs * 100) → Answers (.sliceCalibrationDone u p ofs gain) s fun t => t.bit Reg.SLICE_RETIRED.RETIRED u p ∧ t.get Reg.SNS_STATUS.SPARE_FIXED u = 1 ∧
      t.get Reg.SNS_STATUS.RETIRE_EVT u = 1 ∧ t.get Hid.ROT_PHASE u = 0) ∧
  (∀ (u : Tile) (trims : List (Int × Int)) (s : State), s.noSpare u = false → s.get Hid.ROT_PHASE u = 4 → trims.length = 32 → (∀ x ∈ trims, trimsOk x.1 x.2 = true) →
      Answers (.spareSelfCalDone u trims) s fun t => t.get Hid.ROT_PHASE u = 0 ∧ t.get Reg.SNS_STATUS.SPARE_POS u = 63 ∧ t.get Reg.SNS_STATUS.ROT_COUNT u = s.bumped
      Reg.SNS_STATUS.ROT_COUNT u ∧ (∀ k : Fin 32, t.getIAt Hid.SP_OFS u k = (trims.getD k.val (0, 0)).1 ∧ t.getIAt Hid.SP_GAIN u k = (trims.getD k.val (0, 0)).2) ∧
      OnlyFields [Hid.ROT_PHASE, Reg.SNS_STATUS.SPARE_POS, Reg.SNS_STATUS.ROT_COUNT, Hid.SP_OFS, Hid.SP_GAIN, Hid.ST_ROT] s t) ∧
  (∀ (u : Tile) (trims : List (Int × Int)) (s : State), s.noSpare u = false → s.get Hid.ROT_PHASE u = 4 → (∃ x ∈ trims, trimsOk x.1 x.2 = false) → Answers
      (.spareSelfCalDone u trims) s fun t => t.get Hid.ROT_PHASE u = 0 ∧ t.get Reg.SNS_STATUS.SPARE_POS u = 63 ∧ t.get Reg.SNS_STATUS.ROT_COUNT u = s.get
      Reg.SNS_STATUS.ROT_COUNT u ∧ t.get Reg.SNS_STATUS.SPARE_OUT u = 1 ∧ OnlyFields [Hid.ROT_PHASE, Reg.SNS_STATUS.SPARE_POS, Reg.SNS_STATUS.SPARE_OUT] s t) ∧
  (∀ (w : Who) (u : Tile) (s : State), s.on Reg.DIAG_RESULT.BUSY u = false → s.get Reg.DIAG_CTRL.KIND u = 1 → s.get Reg.DIAG_CTRL.TARGET u < 24 → s.ph (u.val * 24 + s.get
      Reg.DIAG_CTRL.TARGET u) = Ph.off → Answers (.diagStart w u) s fun t => t.get Reg.DIAG_RESULT.BUSY u = 1 ∧ t.get Hid.DIAG_KIND u = 1 ∧ t.get Hid.DIAG_TGT u = s.get
      Reg.DIAG_CTRL.TARGET u ∧ t.get Hid.DG_TICK u = s.get Hid.TICK u % 2 ^ 32 ∧ OnlyFields [Reg.DIAG_RESULT.BUSY, Hid.DIAG_KIND, Hid.DIAG_TGT, Hid.DG_SUM, Hid.DG_N,
      Hid.DG_TICK] s t) ∧
  (∀ (w : Who) (u : Tile) (s : State), s.on Reg.DIAG_RESULT.BUSY u = false → s.get Reg.DIAG_CTRL.KIND u = 0 → s.get Reg.DIAG_CTRL.TARGET u < 12 → (∀ r ∈ s.railsOfChan u
      (s.get Reg.DIAG_CTRL.TARGET u), s.rs r = Rs.off) → Answers (.diagStart w u) s fun t => t.get Reg.DIAG_RESULT.BUSY u = 1 ∧ t.get Hid.DIAG_KIND u = 0 ∧ t.get
      Hid.DIAG_TGT u = s.get Reg.DIAG_CTRL.TARGET u ∧ OnlyFields [Reg.DIAG_RESULT.BUSY, Hid.DIAG_KIND, Hid.DIAG_TGT, Hid.DG_SUM, Hid.DG_N, Hid.DG_TICK] s t) ∧
  (∀ (w : Who) (u : Tile) (s : State), s.on Reg.DIAG_RESULT.BUSY u → Answers (.diagStart w u) s fun t => t.get Reg.DIAG_RESULT.VERDICT u = 7 ∧ t.get
      Reg.DIAG_RESULT.DIAG_REJ u = 1 ∧ OnlyCells [(Reg.DIAG_RESULT.VERDICT, u, 0), (Reg.DIAG_RESULT.DIAG_REJ, u, 0)] s t) ∧
  (∀ (u : Tile) (beyond within : Bool) (s : State), s.diagRipe u → Answers (.diagComplete u beyond within) s fun v => ∃ t : State, v = t.seqPoll ∧ t.get
      Reg.DIAG_RESULT.BUSY u = 0 ∧ t.get Reg.DIAG_RESULT.VERDICT u = (s.diagOutcome u beyond within).1 ∧ t.get Reg.DIAG_RESULT.FAIL_STEP u = (s.diagOutcome u beyond
      within).2.2) ∧
  (∀ (u : Tile) (beyond within : Bool) (s : State), s.diagRipe u → s.quiet → (∀ r : Rail, s.enStep r = 0) → Answers (.diagComplete u beyond within) s fun t => t.get
      Reg.DIAG_RESULT.BUSY u = 0 ∧ t.get Reg.DIAG_RESULT.VERDICT u = (s.diagOutcome u beyond within).1 ∧ t.get Reg.DIAG_RESULT.FAIL_STEP u = (s.diagOutcome u beyond
      within).2.2 ∧ (s.get Hid.DIAG_KIND u = 1 → 2 ≤ (s.diagOutcome u beyond within).1 → s.get Hid.DIAG_TGT u < 24 → s.get Hid.DIAG_ADD (u.val * 24 + s.get Hid.DIAG_TGT
      u) = 0 → s.ph (u.val * 24 + s.get Hid.DIAG_TGT u) = Ph.off → t.ph (u.val * 24 + s.get Hid.DIAG_TGT u) = Ph.blocked))

/-- Each conversion of the test-voltage converter and of the housekeeping converter reads the input that is next in turn: a group voltage scales its code, a temperature line without a valid reading shows 0x8000, a shunt current is its scaled difference from mid code, and while a diagnosis runs the test-voltage converter's readings keep their values; a disagreement held for 100 µs is flagged; a window that was observed whole leaves the rounded mean voltage and the next one starts; PK_CLR asks for new extremes; a low word is staged for its initiator and the high word commits both, clears the remainder and the staging, or changes nothing without a staged low word; an estimate shifts each group's history; the sent partial is the mean of ten, and one that is missing or older than 100 µs counts as 0. Readings and choices of the model that it rests on: log entries 104, 105. -/
def Obligations.ConversionsTelemetryEnergy : Prop :=
  (∀ (u : Tile) (level : Level) (s : State), s.on Reg.DIAG_RESULT.BUSY u → Answers (.tvcConversion u level) s fun t => t = s) ∧
  (∀ (u : Tile) (level : Level) (s : State), s.on Reg.DIAG_RESULT.BUSY u = false → Answers (.tvcConversion u level) s fun t => t.get Hid.TVC_POS u = (s.get Hid.TVC_POS u
      + 1) % 40 ∧ (s.get Hid.TVC_POS u % 10 < 8 → s.readsGroup u (s.get Hid.TVC_POS u % 10) → t.getAt Reg.TILE_VIN.VIN u (s.get Hid.TVC_POS u % 10) = codeOf 14 0 16000
      level * 5 * s.getAt Reg.HK_SCALE.HKV_GAIN 0 (s.get Hid.TVC_POS u % 10) / 2 ^ 15 % 2 ^ Reg.TILE_VIN.VIN.wid) ∧ (8 ≤ s.get Hid.TVC_POS u % 10 → tvcTurn (s.get
      Hid.TVC_POS u) < 6 → s.get Reg.STG_TF_CAL.TF_SLOPE u = 0 → t.getAt (if tvcTurn (s.get Hid.TVC_POS u) % 2 = 0 then Reg.STG_TEMP.TEMP_EVEN else Reg.STG_TEMP.TEMP_ODD)
      u (tvcTurn (s.get Hid.TVC_POS u) / 2) = 0x8000) ∧ OnlyFields [Hid.STG_HI_N, Hid.STG_LO_N, Hid.TVC_POS, Hid.VDIS_AT, Hid.VIN_HI_N, Hid.VIN_LO_N,
      Reg.STG_DERATE.DERATE, Reg.STG_DERATE.VIN_EVT, Reg.STG_GROUP_STATUS.TF_FAULT, Reg.STG_TEMP.TEMP_EVEN, Reg.STG_TEMP.TEMP_ODD, Reg.TILE_VIN.VIN] s t) ∧
  (∀ (m : Mgr) (level : Level) (s : State), s.get Hid.HK_POS m < 8 → Answers (.hkConversion m level) s fun t => t.getAt Reg.HK_VING.V m (s.get Hid.HK_POS m) = (codeOf 16
      0 4000 level) * 5 * s.getAt Reg.HK_SCALE.HKV_GAIN 0 (s.get Hid.HK_POS m) / 2 ^ 17 % 2 ^ Reg.HK_VING.V.wid ∧ t.get Hid.HK_POS m = (s.get Hid.HK_POS m + 1) % 16) ∧
  (∀ (m : Mgr) (level : Level) (s : State), 8 ≤ s.get Hid.HK_POS m → s.get Hid.HK_POS m < 16 → s.bit Reg.HK_CFG.SH_EN 0 (s.get Hid.HK_POS m - 8) → Answers (.hkConversion
      m level) s fun t => signed 14 (t.getAt Reg.HK_VING.I m (s.get Hid.HK_POS m - 8)) = max (-8191) (min 8191 ((((codeOf 16 0 4000 level) : Int) - 32768) * s.getAt
      Reg.HK_SCALE.SH_SCALE 0 (s.get Hid.HK_POS m - 8) / 2 ^ 16))) ∧
  (∀ (g : Group) (s : State), s.heldFor Hid.VDIS_AT s.act g 100 → Answers (.vinDisagreeConfirm g) s fun t => t.bit Reg.HK_FLAGS.VIN_DISAGREE s.act g ∧ OnlyCells
      [(Reg.HK_FLAGS.VIN_DISAGREE, s.act, 0)] s t) ∧
  (∀ (u : Tile) (r : Rail) (s : State), s.serves u r → s.windowWhole u (railIx u r) → Answers (.tlmWindowEnd u r) s fun t => t.get Reg.RAIL_TLM_V.V_AVG (railIx u r) =
      (s.get Hid.TLM_SV (railIx u r) + 2 ^ (s.get Reg.RAIL_TLM_CFG.TLM_WIN (railIx u r) + 3)) / 2 ^ (s.get Reg.RAIL_TLM_CFG.TLM_WIN (railIx u r) + 4) % 2 ^
      Reg.RAIL_TLM_V.V_AVG.wid ∧ t.get Hid.TLM_N (railIx u r) = 0) ∧
  (∀ (w : Who) (u : Tile) (r : Rail) (s : State), Answers (.pkClr w u r) s fun t => t.get Hid.PK_PEND (railIx u r) = 1 ∧ OnlyCells [(Hid.PK_PEND, railIx u r, 0)] s t) ∧
  (∀ (w : Who) (acc : EnergyAcc) (v : Word) (s : State), Answers (.accLowWrite w acc v) s fun t => ((∀ u r, acc = EnergyAcc.rail u r → t.getAt Hid.E_STAGED (railIx u r)
      (whoIx w) = 2 ^ 32 + v.toNat)) ∧ ((∀ m g, acc = EnergyAcc.group m g → t.getAt Hid.HK_E_STAGED m (6 * g.val + whoIx w) = 2 ^ 32 + v.toNat)) ∧ OnlyFields
      [Hid.E_STAGED, Hid.HK_E_STAGED] s t) ∧
  (∀ (w : Who) (acc : EnergyAcc) (v : Word) (inc : Bool) (s : State), ((∃ u r, acc = EnergyAcc.rail u r ∧ 2 ^ 32 ≤ s.getAt Hid.E_STAGED (railIx u r) (whoIx w) ∧ s.getAt
      Hid.E_STAGED (railIx u r) (whoIx w) < 2 ^ 33)) → Answers (.accHighWrite w acc v inc) s fun t => (∀ u r, acc = EnergyAcc.rail u r → t.get Reg.RAIL_E_LO.E (railIx u
      r) = s.getAt Hid.E_STAGED (railIx u r) (whoIx w) - 2 ^ 32 ∧ t.get Reg.RAIL_E_HI.E (railIx u r) = v.toNat ∧ t.get Hid.E_REM (railIx u r) = 0 ∧ t.getAt Hid.E_STAGED
      (railIx u r) (whoIx w) = 0 ∧ (inc = true → t.get Reg.RAIL_ACC_FLAGS.E_OVERLAP (railIx u r) = 1)) ∧ OnlyFields [Hid.E_REM, Hid.E_STAGED, Hid.HK_E_REM,
      Hid.HK_E_STAGED, Reg.HK_E_HI.E, Reg.HK_E_LO.E, Reg.HK_FLAGS.E_OVERLAP, Reg.RAIL_ACC_FLAGS.E_OVERLAP, Reg.RAIL_E_HI.E, Reg.RAIL_E_LO.E] s t) ∧
  (∀ (w : Who) (acc : EnergyAcc) (v : Word) (inc : Bool) (s : State), ((∃ m g, acc = EnergyAcc.group m g ∧ 2 ^ 32 ≤ s.getAt Hid.HK_E_STAGED m (6 * g.val + whoIx w) ∧
      s.getAt Hid.HK_E_STAGED m (6 * g.val + whoIx w) < 2 ^ 33)) → Answers (.accHighWrite w acc v inc) s fun t => (∀ m g, acc = EnergyAcc.group m g → t.getAt
      Reg.HK_E_LO.E m g = s.getAt Hid.HK_E_STAGED m (6 * g.val + whoIx w) - 2 ^ 32 ∧ t.getAt Reg.HK_E_HI.E m g = v.toNat ∧ t.getAt Hid.HK_E_REM m g = 0 ∧ t.getAt
      Hid.HK_E_STAGED m (6 * g.val + whoIx w) = 0 ∧ (inc = true → t.bit Reg.HK_FLAGS.E_OVERLAP m g)) ∧ OnlyFields [Hid.E_REM, Hid.E_STAGED, Hid.HK_E_REM, Hid.HK_E_STAGED,
      Reg.HK_E_HI.E, Reg.HK_E_LO.E, Reg.HK_FLAGS.E_OVERLAP, Reg.RAIL_ACC_FLAGS.E_OVERLAP, Reg.RAIL_E_HI.E, Reg.RAIL_E_LO.E] s t) ∧
  (∀ (w : Who) (acc : EnergyAcc) (v : Word) (inc : Bool) (s : State), ((∃ u r, acc = EnergyAcc.rail u r ∧ s.getAt Hid.E_STAGED (railIx u r) (whoIx w) < 2 ^ 32)) → Answers
      (.accHighWrite w acc v inc) s fun t => t = s) ∧
  (∀ (u : Tile) (s : State), Answers (.powerEstimate u) s fun t => (∀ g : Group, t.getAt Hid.EST_HIST u (10 * g.val) = twos 32 (s.powerEst u g)) ∧ (∀ g : Group, ∀ k : Fin
      9, t.getAt Hid.EST_HIST u (10 * g.val + k.val + 1) = s.getAt Hid.EST_HIST u (10 * g.val + k.val) % 2 ^ 32) ∧ OnlyFields [Hid.EST_HIST] s t) ∧
  (∀ (u : Tile) (s : State), Answers (.powerPartialSend u) s fun t => (∀ m : Mgr, ∀ g : Group, t.getAt Hid.PART_VAL m (8 * u.val + g.val) = twos 32 ((List.range 10).foldl
      (fun (a : Int) k => a + signed 32 (s.getAt Hid.EST_HIST u (10 * g.val + k))) 0 / 10) ∧ t.bit Hid.PART_STALE m (8 * u.val + g.val) = false ∧ t.getAt Hid.PART_AT m (8
      * u.val + g.val) = (s.get Hid.BEAT m + 1) % 2 ^ Hid.PART_AT.wid) ∧ OnlyFields [Hid.PART_AT, Hid.PART_STALE, Hid.PART_VAL, Reg.HK_CFG.EST_STALE, Reg.HK_PEST.P] s t) ∧
  (∀ (m : Mgr) (u : Tile) (g : Group) (s : State), (s.getAt Hid.PART_AT m (8 * u.val + g.val) = 0 ∨ 100 < beatDiff (s.get Hid.BEAT m) (s.getAt Hid.PART_AT m (8 * u.val +
      g.val) - 1)) → Answers (.powerPartialStale m u g) s fun t => t.bit Hid.PART_STALE m (8 * u.val + g.val) ∧ t.bit Reg.HK_CFG.EST_STALE m g ∧ (t.getAt Reg.HK_PEST.P m
      g = twos 32 ((List.range 4).foldl (fun (a : Int) k => if k = u.val ∨ s.bit Hid.PART_STALE m (8 * k + g.val) then a else a + signed 32 (s.getAt Hid.PART_VAL m (8 * k
      + g.val))) 0)) ∧ OnlyFields [Hid.PART_STALE, Reg.HK_CFG.EST_STALE, Reg.HK_PEST.P] s t)

/-- ON for a watched rail that is off, in RUN on sound tiles, drives its EN at once and waits for PG; a regulated rail waits for clock-readiness, or goes into its pre-start test where nothing holds it; PG ends the enable OK with the rail on; a lost PG is recorded; an enable whose PG does not come ends PG_TIMEOUT and the rail is stopped; OFF stops a running rail, marking its phases for mid; a stopping rail below its threshold is off with PG and the high discharge clear; the first timeout raises the discharge; the second leaves it off and STUCK. Readings and choices of the model that it rests on: log entries 18, 63, 110, 125. -/
def Obligations.RailsOnAndOff : Prop :=
  (∀ (w : Who) (r : Rail) (withOff : Bool) (s : State), withOff = false → s.inSeq r = false → s.enableAllowed r → s.rs r = Rs.off → s.kindOf r = 2 → s.diagHolds r = false
      → Answers (.railOn w r withOff) s fun t => t.rs r = Rs.ramping ∧ t.bit Hid.EN_ON (s.home r) (s.get Reg.RAIL_SUP_CFG.EN_IDX (s.homeIx r)) ∧ t.enStep r = 5 ∧
      t.accepted (.railOn r) ∧ t.logged JKind.accepted JStatus.ok r ∧ OnlyFieldsLog [Hid.EN_ON, Reg.RAIL_SUP_STATUS.RSTATE, Hid.EN_STAGE, Hid.EN_BY_SEQ, Hid.EN_BEAT,
      Hid.SS_DONE, Hid.PGW_BEAT] s t) ∧
  (∀ (w : Who) (r : Rail) (withOff : Bool) (s : State), withOff = false → s.inSeq r = false → s.enableAllowed r → s.rs r = Rs.off → s.kindOf r = 1 → s.railReady r = false
      → Answers (.railOn w r withOff) s fun t => t.rs r = Rs.enabling ∧ t.enStep r = 1 ∧ t.accepted (.railOn r)) ∧
  (∀ (w : Who) (r : Rail) (withOff : Bool) (s : State), withOff = false → s.inSeq r = false → s.enableAllowed r → s.rs r = Rs.off → s.kindOf r = 1 → s.railReady r →
      s.onAt Hid.LAW_BUSY 0 r = false → s.diagHolds r = false → s.enableFault r = none → Answers (.railOn w r withOff) s fun t => t.rs r = Rs.enabling ∧ t.enStep r = 4 ∧
      t.onAt Hid.PRESTART 0 r ∧ (∀ p ∈ s.aliveOf r, t.ph p = Ph.probe)) ∧
  (∀ (w : Who) (r : Rail) (withOff : Bool) (s : State), withOff = false → s.inSeq r = false → s.enableAllowed r → (s.rs r = Rs.on ∨ s.rs r = Rs.ramping) → Answers
      (.railOn w r withOff) s fun t => t.logged JKind.done JStatus.ok r ∧ OnlyFieldsLog [] s t) ∧
  (∀ (w : Who) (r : Rail) (withOff : Bool) (s : State), (withOff = true ∨ s.inSeq r) → Answers (.railOn w r withOff) s fun t => t.get Reg.RAIL_SUP_STATUS.CMD_REJ
      (s.leadIx r) = 1 ∧ t.logged JKind.refused JStatus.refused r ∧ OnlyFieldsLog [Reg.RAIL_SUP_STATUS.CMD_REJ] s t) ∧
  (∀ (w : Who) (r : Rail) (withOn : Bool) (s : State), withOn = false → s.quiet → s.seqActive = false → s.rs r = Rs.on → s.enStep r = 0 → s.kindOf r = 1 → Answers
      (.railOff w r withOn) s fun t => t.rs r = Rs.stopLo ∧ t.accepted (.railOff r) ∧ t.get Reg.RAIL_SUP_STATUS.PG (s.leadIx r) = 0 ∧ (∀ p ∈ s.phasesOf r, s.ph p =
      Ph.active → t.get Hid.MARK_MID p = 3 ∧ t.bit Reg.ENG_EV.PENDING p Ev.seqStop)) ∧
  (∀ (w : Who) (r : Rail) (withOn : Bool) (s : State), withOn = false → s.inSeq r = false → (s.rs r = Rs.off ∨ s.stopping r) → Answers (.railOff w r withOn) s fun v => ∃
      t : State, v = t.seqPoll ∧ t.logged JKind.done JStatus.ok r ∧ OnlyFieldsLog [] s t) ∧
  (∀ (w : Who) (r : Rail) (withOn : Bool) (s : State), withOn = false → s.inSeq r → s.seqDown = false → (s.rs r = Rs.on ∨ s.rs r = Rs.ramping) → Answers (.railOff w r
      withOn) s fun v => ∃ t : State, v = t.seqFail SeqRes.depLost ∧ t.rs r = Rs.stopLo ∧ t.accepted (.railOff r) ∧ t.get Reg.RAIL_SUP_STATUS.PG (s.leadIx r) = 0 ∧
      t.logged JKind.accepted JStatus.ok r ∧ (s.kindOf r = 1 → ∀ p ∈ s.phasesOf r, s.ph p = Ph.active → t.get Hid.MARK_MID p = 3 ∧ t.bit Reg.ENG_EV.PENDING p Ev.seqStop)) ∧
  (∀ (w : Who) (r : Rail) (withOn : Bool) (s : State), withOn = false → s.inSeq r = false → (s.rs r = Rs.on ∨ s.rs r = Rs.ramping) → Answers (.railOff w r withOn) s fun v
      => ∃ t : State, v = t.seqPoll ∧ t.rs r = Rs.stopLo ∧ t.accepted (.railOff r) ∧ t.get Reg.RAIL_SUP_STATUS.PG (s.leadIx r) = 0 ∧ t.logged JKind.accepted JStatus.ok r
      ∧ (s.kindOf r = 1 → ∀ p ∈ s.phasesOf r, s.ph p = Ph.active → t.get Hid.MARK_MID p = 3 ∧ t.bit Reg.ENG_EV.PENDING p Ev.seqStop)) ∧
  (∀ (r : Rail) (s : State), s.rs r = Rs.ramping → (s.kindOf r = 2 ∨ s.on Hid.SP_DONE (s.leadIx r)) → s.enStep r = 5 → (max 1 (s.get Reg.RAIL_SUP_CFG.PG_ON_DLY (s.leadIx
      r))) * 1000 ≤ s.get Hid.PG_GOOD_N (s.leadIx r) → s.quiet → Answers (.pgAssert r) s fun t => t.get Reg.RAIL_SUP_STATUS.PG (s.leadIx r) = 1 ∧ t.rs r = Rs.on ∧
      t.enStep r = 0 ∧ t.get Reg.RAIL_SUP_STATUS.RESULT (s.leadIx r) = EnRes.ok ∧ t.get Reg.RAIL_SUP_STATUS.STUCK (s.leadIx r) = 0 ∧ t.accepted (.railOn r) = false) ∧
  (∀ (r : Rail) (s : State), (s.rs r = Rs.ramping ∨ s.rs r = Rs.on) → (s.kindOf r = 2 ∨ s.on Hid.SP_DONE (s.leadIx r)) → (max 1 (s.get Reg.RAIL_SUP_CFG.PG_ON_DLY
      (s.leadIx r))) * 1000 ≤ s.get Hid.PG_GOOD_N (s.leadIx r) → Answers (.pgAssert r) s fun v => ∃ t : State, v = t.seqPoll ∧ t.get Reg.RAIL_SUP_STATUS.PG (s.leadIx r) =
      1 ∧ (s.enStep r ≠ 0 → t.rs r = Rs.on ∧ t.enStep r = 0 ∧ t.get Reg.RAIL_SUP_STATUS.RESULT (s.leadIx r) = EnRes.ok ∧ t.get Reg.RAIL_SUP_STATUS.STUCK (s.leadIx r) = 0
      ∧ t.accepted (.railOn r) = false)) ∧
  (∀ (r : Rail) (s : State), s.on Reg.RAIL_SUP_STATUS.PG (s.leadIx r) → (max 1 (s.get Reg.RAIL_SUP_CFG.PG_OFF_DLY (s.leadIx r))) * 100 ≤ s.get Hid.PG_FAIL_N (s.leadIx r)
      → (s.seqActive = false ∨ s.seqDown ∨ s.bit Hid.SEQ_DONE_ST 0 r = false) → Answers (.pgLoss r) s fun t => t.get Reg.RAIL_SUP_STATUS.PG (s.leadIx r) = 0 ∧ t.get
      Reg.RAIL_SUP_STATUS.PG_LOST_EVT (s.leadIx r) = 1 ∧ t.get Reg.RAIL_SUP_STATUS.PG_LOST_COUNT (s.leadIx r) = s.bumped Reg.RAIL_SUP_STATUS.PG_LOST_COUNT (s.leadIx r) ∧
      OnlyFields [Reg.RAIL_SUP_STATUS.PG, Reg.RAIL_SUP_STATUS.PG_LOST_EVT, Reg.RAIL_SUP_STATUS.PG_LOST_COUNT] s t) ∧
  (∀ (r : Rail) (s : State), s.on Reg.RAIL_SUP_STATUS.PG (s.leadIx r) → (max 1 (s.get Reg.RAIL_SUP_CFG.PG_OFF_DLY (s.leadIx r))) * 100 ≤ s.get Hid.PG_FAIL_N (s.leadIx r)
      → s.seqActive → s.seqDown = false → s.bit Hid.SEQ_DONE_ST 0 r → Answers (.pgLoss r) s fun v => ∃ t : State, v = t.seqFail SeqRes.depLost ∧ t.get
      Reg.RAIL_SUP_STATUS.PG (s.leadIx r) = 0 ∧ t.get Reg.RAIL_SUP_STATUS.PG_LOST_EVT (s.leadIx r) = 1 ∧ t.get Reg.RAIL_SUP_STATUS.PG_LOST_COUNT (s.leadIx r) = s.bumped
      Reg.RAIL_SUP_STATUS.PG_LOST_COUNT (s.leadIx r) ∧ OnlyFields [Reg.RAIL_SUP_STATUS.PG, Reg.RAIL_SUP_STATUS.PG_LOST_EVT, Reg.RAIL_SUP_STATUS.PG_LOST_COUNT] s t) ∧
  (∀ (r : Rail) (s : State), s.enStep r = 5 → s.rs r = Rs.ramping → (s.kindOf r = 2 ∨ s.on Hid.SP_DONE (s.leadIx r)) → s.stageBounds r = false → 100 * max 1 (s.offTmo r)
      ≤ beatDiff s.beat (s.getAt Hid.PGW_BEAT 0 r) → s.quiet → Answers (.enablePgTimeout r) s fun t => t.rs r = Rs.stopLo ∧ t.enStep r = 0 ∧ t.get
      Reg.RAIL_SUP_STATUS.RESULT (s.leadIx r) = EnRes.pgTimeout ∧ t.get Reg.RAIL_SUP_STATUS.EN_FAIL_EVT (s.leadIx r) = 1 ∧ t.accepted (.railOn r) = false) ∧
  (∀ (r : Rail) (s : State), s.enStep r = 5 → s.rs r = Rs.ramping → (s.kindOf r = 2 ∨ s.on Hid.SP_DONE (s.leadIx r)) → s.stageBounds r = false → 100 * max 1 (s.offTmo r)
      ≤ beatDiff s.beat (s.getAt Hid.PGW_BEAT 0 r) → Answers (.enablePgTimeout r) s fun v => ∃ t : State, v = t.seqPoll ∧ t.rs r = Rs.stopLo ∧ t.enStep r = 0 ∧ t.get
      Reg.RAIL_SUP_STATUS.RESULT (s.leadIx r) = EnRes.pgTimeout ∧ t.get Reg.RAIL_SUP_STATUS.EN_FAIL_EVT (s.leadIx r) = 1 ∧ t.accepted (.railOn r) = false) ∧
  (∀ (r : Rail) (s : State), s.stopping r → s.belowOff r → s.quiet → Answers (.railBelowOffThreshold r) s fun t => t.rs r = Rs.off ∧ t.get Reg.RAIL_SUP_STATUS.PG
      (s.leadIx r) = 0 ∧ t.get Reg.RAIL_SUP_STATUS.DIS_HIGH (s.leadIx r) = 0 ∧ (∀ p ∈ s.phasesOf r, s.ph p ≠ Ph.blocked → s.on Hid.TSD_ON (tileOf p) = false → t.ph p =
      Ph.off) ∧ t.accepted (.railOff r) = false) ∧
  (∀ (r : Rail) (s : State), s.stopping r → s.belowOff r → Answers (.railBelowOffThreshold r) s fun v => ∃ t : State, v = t.seqPoll ∧ t.rs r = Rs.off ∧ t.get
      Reg.RAIL_SUP_STATUS.PG (s.leadIx r) = 0 ∧ t.get Reg.RAIL_SUP_STATUS.DIS_HIGH (s.leadIx r) = 0 ∧ (∀ p ∈ s.phasesOf r, s.ph p ≠ Ph.blocked → s.on Hid.TSD_ON (tileOf
      p) = false → t.ph p = Ph.off) ∧ t.accepted (.railOff r) = false) ∧
  (∀ (r : Rail) (s : State), s.stopping r → s.onAt Hid.OFF_T1 0 r = false → 100 * s.getAt Hid.OFF_TMO 0 r ≤ s.offElapsed r → Answers (.shutdownFirstTimeout r) s fun t =>
      t.rs r = Rs.stopHi ∧ t.onAt Hid.OFF_T1 0 r ∧ (s.kindOf r = 1 → s.on Reg.RAIL_DIS_CFG.DIS_EN (s.leadIx r) → t.get Reg.RAIL_SUP_STATUS.DIS_HIGH (s.leadIx r) = 1) ∧
      OnlyFields [Hid.E_STG, Hid.E_STGW, Hid.FU_DEBUG, Hid.FU_DEVICE_ID, Hid.FU_HPD_TRIM, Hid.FU_IG, Hid.FU_ILIM, Hid.FU_KEY, Hid.FU_KILL, Hid.FU_K_ROOT, Hid.FU_LIFE,
      Hid.FU_MGR_TRIM, Hid.FU_OV, Hid.FU_PRIV, Hid.FU_PRODUCT, Hid.FU_REVOKE, Hid.FU_ROLLBACK, Hid.FU_STG, Hid.FU_WDT_HW, Hid.FU_WIPE, Hid.OFF_T1,
      Reg.RAIL_SUP_STATUS.DIS_HIGH, Reg.RAIL_SUP_STATUS.RSTATE, Reg.SEQ_STATUS.TMO2] s t) ∧
  (∀ (r : Rail) (s : State), s.stopping r → s.onAt Hid.OFF_T1 0 r → 200 * s.getAt Hid.OFF_TMO 0 r ≤ s.offElapsed r → s.quiet → Answers (.shutdownSecondTimeout r) s fun t
      => t.rs r = Rs.off ∧ t.get Reg.RAIL_SUP_STATUS.STUCK (s.leadIx r) = 1 ∧ t.get Reg.RAIL_SUP_STATUS.STUCK_EVT (s.leadIx r) = 1 ∧ t.accepted (.railOff r) = false) ∧
  (∀ (r : Rail) (s : State), s.stopping r → s.onAt Hid.OFF_T1 0 r → 200 * s.getAt Hid.OFF_TMO 0 r ≤ s.offElapsed r → Answers (.shutdownSecondTimeout r) s fun v => ∃ t :
      State, v = t.seqPoll ∧ t.rs r = Rs.off ∧ t.get Reg.RAIL_SUP_STATUS.STUCK (s.leadIx r) = 1 ∧ t.get Reg.RAIL_SUP_STATUS.STUCK_EVT (s.leadIx r) = 1 ∧ t.accepted
      (.railOff r) = false ∧ (s.active.isSome → s.bit Reg.FLT_CFG.ASSERT_MASK 0 fltStuck → t.get Reg.FLT_CFG.ASSERTED 0 = 1))

/-- A run of a sequence that the sequencer may take is accepted and waits for its first stage; a turn-on while one runs is refused with BUSY_REJ; a stage that starts enables its watched rails together and begins its lane part; a tile's own stage stops the rails it homes; a stage whose timeout passes on hold ends the sequence FAILED, or LANE_FAIL where only its worker is missing; a snapshot command names tick T, 100 ticks ahead; at T the dies latch their parts, and the complete record goes to the slot of both present managers and moves NEXT on. Readings and choices of the model that it rests on: log entries 18, 41, 45, 46. -/
def Obligations.SequencesAndSnapshots : Prop :=
  (∀ (w : Who) (q : Fin 8) (s : State), s.seqActive = false → (s.onAt Reg.SEQ_HDR.DIR 0 q ∨ s.dev = Dev.run) → s.getAt Reg.SEQ_HDR.NSTG 0 q ≠ 0 → Answers (.seqRun w q) s
      fun t => t.get Reg.SEQ_STATUS.ACTIVE 0 = 1 ∧ t.seqNo = q ∧ t.get Reg.SEQ_STATUS.RESULT 0 = SeqRes.running ∧ t.get Hid.SEQ_STEP 0 = SeqStep.delay ∧ t.get
      Hid.SEQ_NEXT 0 = 0 ∧ t.accepted (.seqRun q) ∧ t.logged JKind.accepted JStatus.ok noTarget) ∧
  (∀ (w : Who) (q : Fin 8) (s : State), s.seqActive → s.onAt Reg.SEQ_HDR.DIR 0 q = false → Answers (.seqRun w q) s fun t => t.get Reg.SEQ_STATUS.BUSY_REJ 0 = 1 ∧ t.logged
      JKind.refused JStatus.seqBusy noTarget ∧ OnlyFieldsLog [Reg.SEQ_CTRL.SEQ, Reg.SEQ_STATUS.BUSY_REJ] s t) ∧
  (∀ (tile : Option Tile) (s : State), tile = none → s.get Hid.SEQ_STEP 0 = SeqStep.delay → s.stageDelay s.seqNo (s.get Hid.SEQ_NEXT 0) ≤ beatDiff s.beat (s.get
      Hid.SEQ_BEAT 0) → s.seqDown = false → s.onAt Reg.SEQ_STG.LANE_EN 0 (stgIx s.seqNo (s.get Hid.SEQ_NEXT 0)) → s.get Hid.SEQ_NEXT 0 < 16 → s.get Hid.TSD_QUEUE 0 = 0 →
      s.get Hid.AK_STEP 0 = 0 ∧ s.get Hid.AK_STEP 1 = 0 ∧ s.get Hid.AK_STEP 2 = 0 ∧ s.get Hid.AK_STEP 3 = 0 → Answers (.seqStageStart tile) s fun t => t.get Hid.SEQ_STEP
      0 = SeqStep.stage ∧ t.get Reg.SEQ_STATUS.STAGE 0 = s.get Hid.SEQ_NEXT 0 ∧ t.get Hid.LN_STAGE 0 = 1 ∧ t.on Hid.SEQ_LANE_OK 0 = false ∧ (∀ r ∈ s.stageRails s.seqNo
      (s.get Hid.SEQ_NEXT 0), s.rs r = Rs.off → s.kindOf r = 2 → s.enableAllowed r → s.diagHolds r = false → t.rs r = Rs.ramping ∧ t.enStep r = 5 ∧ t.bit Hid.SEQ_MINE 0
      r)) ∧
  (∀ (tile : Option Tile) (s : State), tile = none → s.get Hid.SEQ_STEP 0 = SeqStep.delay → s.stageDelay s.seqNo (s.get Hid.SEQ_NEXT 0) ≤ beatDiff s.beat (s.get
      Hid.SEQ_BEAT 0) → Answers (.seqStageStart tile) s fun v => ∃ t : State, v = t.seqPoll ∧ t.get Hid.SEQ_STEP 0 = SeqStep.stage ∧ t.get Reg.SEQ_STATUS.STAGE 0 = s.get
      Hid.SEQ_NEXT 0 % 16 ∧ t.on Hid.SEQ_LANE_OK 0 = !(s.onAt Reg.SEQ_STG.LANE_EN 0 (stgIx s.seqNo (s.get Hid.SEQ_NEXT 0))) ∧ (s.onAt Reg.SEQ_STG.LANE_EN 0 (stgIx s.seqNo
      (s.get Hid.SEQ_NEXT 0)) → t.get Hid.LN_STAGE 0 = 1) ∧ (s.seqDown → ∀ r ∈ s.stageRails s.seqNo (s.get Hid.SEQ_NEXT 0), s.seqSpares r = false → s.rs r = Rs.on → t.rs
      r = Rs.stopLo) ∧ (s.seqDown = false → ∀ r ∈ s.stageRails s.seqNo (s.get Hid.SEQ_NEXT 0), s.rs r = Rs.off → s.enableAllowed r → s.kindOf r = 2 → s.diagHolds r =
      false → t.rs r = Rs.ramping ∧ t.enStep r = 5 ∧ t.bit Hid.SEQ_MINE 0 r)) ∧
  (∀ (tile : Option Tile) (s : State), tile ≠ none → s.get Hid.AK_STEP (tile.getD 0) = SeqStep.delay → 100 * s.stageDelay (s.get Hid.AK_SEQ (tile.getD 0)) (s.get
      Hid.AK_NEXT (tile.getD 0)) ≤ (s.get Hid.TICK (tile.getD 0) + 2 ^ 32 - s.get Hid.AK_TICK (tile.getD 0)) % 2 ^ 32 → ((s.localRails (tile.getD 0)).any fun r => s.rs r
      = Rs.on) → Answers (.seqStageStart tile) s fun t => t.get Hid.AK_STEP (tile.getD 0) = SeqStep.stage ∧ (∀ r ∈ s.localRails (tile.getD 0), s.rs r = Rs.on → t.rs r =
      Rs.stopLo ∧ t.getAt Hid.OFF_STAGE 0 r = 2)) ∧
  (∀ (tile : Option Tile) (s : State), tile ≠ none → s.get Hid.AK_STEP (tile.getD 0) = SeqStep.delay → 100 * s.stageDelay (s.get Hid.AK_SEQ (tile.getD 0)) (s.get
      Hid.AK_NEXT (tile.getD 0)) ≤ (s.get Hid.TICK (tile.getD 0) + 2 ^ 32 - s.get Hid.AK_TICK (tile.getD 0)) % 2 ^ 32 → Answers (.seqStageStart tile) s fun v => ∃ t :
      State, v = t.localPoll (tile.getD 0) ∧ t.get Hid.AK_STEP (tile.getD 0) = SeqStep.stage ∧ (∀ r ∈ s.localRails (tile.getD 0), s.rs r = Rs.on → t.rs r = Rs.stopLo ∧
      t.getAt Hid.OFF_STAGE 0 r = 2)) ∧
  (∀ (s : State), s.get Hid.SEQ_STEP 0 = SeqStep.stage → s.seqDown = false → s.seqActive → s.onAt Reg.SEQ_HDR.ON_FAIL 0 s.seqNo = false → 100 * max 1 (s.stageTmo s.seqNo
      (s.get Reg.SEQ_STATUS.STAGE 0)) ≤ beatDiff s.beat (s.get Hid.SEQ_BEAT 0) → Answers (.seqStageTimeout) s fun t => t.get Reg.SEQ_STATUS.ACTIVE 0 = 0 ∧ t.get
      Reg.SEQ_STATUS.SEQ_EVT 0 = 1 ∧ t.get Hid.SEQ_STEP 0 = SeqStep.idle ∧ (t.get Reg.SEQ_STATUS.RESULT 0 = (if ((s.stageRails s.seqNo (s.get Reg.SEQ_STATUS.STAGE 0)).all
      fun r => s.on Reg.RAIL_SUP_STATUS.PG (s.leadIx r)) && !s.on Hid.SEQ_BAD 0 then SeqRes.laneFail else SeqRes.failed))) ∧
  (∀ (s : State), s.get Hid.SEQ_STEP 0 = SeqStep.stage → s.seqDown = false → s.seqActive → s.onAt Reg.SEQ_HDR.ON_FAIL 0 s.seqNo → 100 * max 1 (s.stageTmo s.seqNo (s.get
      Reg.SEQ_STATUS.STAGE 0)) ≤ beatDiff s.beat (s.get Hid.SEQ_BEAT 0) → (∃ k : Fin 16, ∃ r ∈ s.mineIn k.val, s.rs r = Rs.on) → Answers (.seqStageTimeout) s fun t =>
      t.get Hid.SEQ_STEP 0 = SeqStep.unwind ∧ t.get Reg.SEQ_STATUS.ACTIVE 0 = 1 ∧ t.get Hid.LN_STAGE 0 = 0) ∧
  (∀ (w : Who) (s : State), s.active.isSome → s.on Reg.SNAP_STATUS.BUSY 0 = false → Answers (.snapTake w) s fun t => t.get Reg.SNAP_STATUS.BUSY 0 = 1 ∧ t.get
      Hid.SNAP_CAUSE 0 = 2 ^ SnapCause.host ∧ t.get Hid.SNAP_T 0 = (s.beat * 100 + 100) % 2 ^ Hid.SNAP_T.wid ∧ t.get Hid.SNAP_STAGE 0 = 1 ∧ t.logged JKind.done JStatus.ok
      noTarget ∧ OnlyFieldsLog [Hid.CAP_LEFT, Hid.CAP_TRIGD, Hid.FU_DEBUG, Hid.FU_DEVICE_ID, Hid.FU_HPD_TRIM, Hid.FU_IG, Hid.FU_ILIM, Hid.FU_KEY, Hid.FU_KILL,
      Hid.FU_K_ROOT, Hid.FU_LIFE, Hid.FU_MGR_TRIM, Hid.FU_OV, Hid.FU_PRIV, Hid.FU_PRODUCT, Hid.FU_REVOKE, Hid.FU_ROLLBACK, Hid.FU_STG, Hid.FU_WDT_HW, Hid.FU_WIPE,
      Hid.SNAP_CAUSE, Hid.SNAP_RAIL, Hid.SNAP_STAGE, Hid.SNAP_T, Reg.CAP_STATUS.TRIGGERED, Reg.SNAP_CTRL.TAKE, Reg.SNAP_STATUS.BUSY, Reg.SNAP_STATUS.MERGE_COUNT] s t) ∧
  (∀ (w : Who) (s : State), s.active.isSome → s.on Reg.SNAP_STATUS.BUSY 0 → Answers (.snapTake w) s fun t => t.bit Hid.SNAP_CAUSE 0 SnapCause.host ∧ t.get
      Reg.SNAP_STATUS.MERGE_COUNT 0 = s.bumped Reg.SNAP_STATUS.MERGE_COUNT 0 ∧ OnlyFieldsLog [Hid.SNAP_CAUSE, Reg.SNAP_STATUS.MERGE_COUNT] s t) ∧
  (∀ (iso : Byte) (flt : Bool) (va vb vio : BitVec 32) (s : State), s.get Hid.SNAP_STAGE 0 = 1 → s.sinceSnap.isSome → Answers (.snapshotLatch iso flt va vb vio) s fun t
      => t.get Hid.SNAP_STAGE 0 = 2 ∧ t.snapBuf.take 4 = leBytes 4 (s.get Hid.SNAP_T 0) ∧ t.snapBuf.length = 6089 ∧ t.on Hid.FLT_LOW 0 = (flt && !s.on
      Reg.FLT_CFG.ASSERTED 0) ∧ OnlyCells [(Hid.SNAP_STAGE, 0, 0), (Hid.FLT_LOW, 0, 0)] { s with snapBuf := t.snapBuf } t) ∧
  (∀ (del : BitVec 7) (s : State), s.get Hid.SNAP_STAGE 0 = 2 → (del = 127 ∨ 20000 ≤ s.sinceSnap.getD 0) → Answers (.snapshotComplete del) s fun t => t.get Hid.SNAP_STAGE
      0 = 0 ∧ t.snapBuf = [] ∧ t.get Reg.SNAP_STATUS.SNAP_EVT 0 = 1 ∧ t.get Reg.SNAP_STATUS.BUSY 0 = 0 ∧ t.get Reg.SNAP_STATUS.NEXT 0 = (s.get Reg.SNAP_STATUS.NEXT 0 + 1)
      % 16 ∧ t.get Hid.SNAP_NO 0 = (s.get Hid.SNAP_NO 0 + 1) % 2 ^ 32 ∧ (s.on Hid.PRESENT 1 → t.rdBytes (snapSlot 1 (s.get Reg.SNAP_STATUS.NEXT 0)) 4 = leBytes 4
      0x534E5031))

/-- After 30 µs of listening the master may send; a cycle that starts clock-ready carries the beat frame with its CRC, and its message field goes to the granted worker, a resend or the host's frame; one that is not clock-ready is counted as skipped; the third own frame in a row read back bad is a conflict; at a worker the cycle's start gives the beat that deadlines count from; SQL_TX_GO of a clock-ready package queues the host's frame; a valid reply to it fills SQL_RX and ends the command, one to the running stage's command ends or keeps its lane part, and one whose CRC fails is counted; with the resends used up the worker is lost and the command fails; a frame whose CRC fails is counted; FLT_N held low shows FLT_SEEN and triggers a snapshot; a release ends this package's assertion. -/
def Obligations.LaneMasterAndFaultWire : Prop :=
  (∀ (bad : Bool) (s : State), s.laneMaster → s.on Hid.LN_LISTEN 0 → s.beat % 10 = 0 → bad = false → s.clockReady [] → s.get Hid.LN_GRANT 0 ≠ 0 → Answers (.laneCycleStart
      bad) s fun t => t.get Hid.LN_BEAT 0 = s.beat % 2 ^ 40 ∧ t.get Hid.LN_FLAGS 0 = ((decide (s.dev = Dev.run)).toNat + 2 * s.get Reg.FLT_CFG.ASSERTED 0) % 2 ^
      Hid.LN_FLAGS.wid ∧ t.get Hid.LN_BCRC 0 = (crc8 (beatBytes ((decide (s.dev = Dev.run)).toNat + 2 * s.get Reg.FLT_CFG.ASSERTED 0) s.beat)).toNat ∧ t.get Hid.LN_RB 0 =
      0 ∧ OnlyFields [Hid.LN_BEAT, Hid.LN_FLAGS, Hid.LN_BCRC, Hid.LN_RB] s t) ∧
  (∀ (bad : Bool) (s : State), s.laneMaster → s.on Hid.LN_LISTEN 0 → s.beat % 10 = 0 → (bad = false ∨ s.get Hid.LN_RB 0 = 0) → s.clockReady [] → Answers (.laneCycleStart
      bad) s fun t => t.get Hid.LN_BEAT 0 = s.beat % 2 ^ 40 ∧ t.get Hid.LN_FLAGS 0 = ((decide (s.dev = Dev.run)).toNat + 2 * s.get Reg.FLT_CFG.ASSERTED 0) % 2 ^
      Hid.LN_FLAGS.wid ∧ t.get Hid.LN_BCRC 0 = (crc8 (beatBytes ((decide (s.dev = Dev.run)).toNat + 2 * s.get Reg.FLT_CFG.ASSERTED 0) s.beat)).toNat ∧ (s.get Hid.LN_GRANT
      0 = 0 → s.get Hid.LN_AGAIN 0 = 1 → t.get Hid.LN_AGAIN 0 = 0 ∧ t.get Hid.LN_GRANT 0 = s.get Hid.LN_DEST 0 % 8) ∧ (s.get Hid.LN_GRANT 0 = 0 → s.get Hid.LN_AGAIN 0 = 0
      → s.get Hid.LN_SENT 0 = 0 → s.on Hid.LN_HOST 0 → t.get Hid.LN_HOST 0 = 0 ∧ t.get Hid.LN_SEQ 0 = (s.get Hid.LN_SEQ 0 + 1) % 2 ^ 8 ∧ t.get Hid.LN_DEST 0 = s.get
      Reg.SQL_TX_CTRL.DEST 0 % 16) ∧ OnlyFieldsLog [Hid.LN_AGAIN, Hid.LN_ARGS, Hid.LN_BCRC, Hid.LN_BEAT, Hid.LN_CRC, Hid.LN_DEST, Hid.LN_FLAGS, Hid.LN_GRANT, Hid.LN_HOST,
      Hid.LN_OP, Hid.LN_RB, Hid.LN_SENT, Hid.LN_SEQ, Hid.LN_STAGE, Hid.LN_TRIES, Hid.LW_START, Reg.HPD_CLK_STATUS.REF_SRC, Reg.HPD_CLK_STATUS.SETTLING,
      Reg.SQL_COUNTS.BEAT_SKIP, Reg.SQL_STATUS.MASTER_CONFLICT, Reg.SQL_TX_CTRL.DONE, Reg.TILE_CLK_STATUS.REF_SRC, Reg.TILE_CLK_STATUS.SETTLING] s t) ∧
  (∀ (bad : Bool) (s : State), s.laneMaster → s.on Hid.LN_LISTEN 0 → s.beat % 10 = 0 → bad = false → s.clockReady [] = false → Answers (.laneCycleStart bad) s fun t =>
      t.get Reg.SQL_COUNTS.BEAT_SKIP 0 = s.bumped Reg.SQL_COUNTS.BEAT_SKIP 0 ∧ OnlyFields [Hid.LN_RB, Reg.SQL_COUNTS.BEAT_SKIP] s t) ∧
  (∀ (bad : Bool) (s : State), s.laneMaster → s.on Hid.LN_LISTEN 0 → s.beat % 10 = 0 → bad = true → s.get Hid.LN_RB 0 = 2 → Answers (.laneCycleStart bad) s fun t => t.get
      Reg.SQL_STATUS.MASTER_CONFLICT 0 = 1 ∧ OnlyFields [Hid.LN_RB, Reg.SQL_STATUS.MASTER_CONFLICT] s t) ∧
  (∀ (bad : Bool) (s : State), s.laneWorker → Answers (.laneCycleStart bad) s fun t => t.get Hid.LW_START 0 = s.beat % 2 ^ 40 ∧ OnlyCells [(Hid.LW_START, 0, 0)] s t) ∧
  (∀ (s : State), s.laneMaster → 30 ≤ beatDiff s.beat (s.get Hid.LN_FROM 0) → Answers (.masterListenEnd) s fun t => t.get Hid.LN_LISTEN 0 = 1 ∧ OnlyCells [(Hid.LN_LISTEN,
      0, 0)] s t) ∧
  (∀ (w : Who) (m : Mgr) (s : State), s.reach w m = s.act → s.clockReady [] → Answers (.sqlTxGo w m) s fun t => t.on Hid.LN_HOST 0 ∧ t.accepted .lane ∧ t.logged
      JKind.accepted JStatus.ok noTarget ∧ OnlyFieldsLog [Hid.BUS_ERR, Hid.FU_DEBUG, Hid.FU_DEVICE_ID, Hid.FU_HPD_TRIM, Hid.FU_IG, Hid.FU_ILIM, Hid.FU_KEY, Hid.FU_KILL,
      Hid.FU_K_ROOT, Hid.FU_LIFE, Hid.FU_MGR_TRIM, Hid.FU_OV, Hid.FU_PRIV, Hid.FU_PRODUCT, Hid.FU_REVOKE, Hid.FU_ROLLBACK, Hid.FU_STG, Hid.FU_WDT_HW, Hid.FU_WIPE,
      Hid.LN_HOST, Reg.HPD_CLK_STATUS.REF_SRC, Reg.HPD_CLK_STATUS.SETTLING, Reg.SQL_TX_CTRL.GO, Reg.TILE_CLK_STATUS.REF_SRC, Reg.TILE_CLK_STATUS.SETTLING] s t) ∧
  (∀ (w : Who) (m : Mgr) (s : State), s.reach w m = s.act → s.clockReady [] = false → Answers (.sqlTxGo w m) s fun t => t.accepted .lane ∧ t.get Hid.LN_HOST 0 = s.get
      Hid.LN_HOST 0 ∧ t.logged JKind.accepted JStatus.ok noTarget ∧ OnlyFieldsLog [Hid.BUS_ERR, Hid.FU_DEBUG, Hid.FU_DEVICE_ID, Hid.FU_HPD_TRIM, Hid.FU_IG, Hid.FU_ILIM,
      Hid.FU_KEY, Hid.FU_KILL, Hid.FU_K_ROOT, Hid.FU_LIFE, Hid.FU_MGR_TRIM, Hid.FU_OV, Hid.FU_PRIV, Hid.FU_PRODUCT, Hid.FU_REVOKE, Hid.FU_ROLLBACK, Hid.FU_STG,
      Hid.FU_WDT_HW, Hid.FU_WIPE, Hid.LN_HOST, Reg.HPD_CLK_STATUS.REF_SRC, Reg.HPD_CLK_STATUS.SETTLING, Reg.SQL_TX_CTRL.GO, Reg.TILE_CLK_STATUS.REF_SRC,
      Reg.TILE_CLK_STATUS.SETTLING] s t) ∧
  (∀ (src : BitVec 4) (seq status : Byte) (data : BitVec 56) (crc : BitVec 16) (s : State), s.get Hid.LN_GRANT 0 ≠ 0 → crc16 (msgBytes 3 src.toNat seq.toNat status.toNat
      data.toNat) = crc → s.get Hid.LN_GRANT 0 = src.toNat → s.get Hid.LN_SEQ 0 = seq.toNat → s.get Hid.LN_SENT 0 = 1 → Answers (.laneReply src seq status data crc) s fun
      t => t.get Hid.LN_GRANT 0 = 0 ∧ t.get Hid.LN_SENT 0 = 0 ∧ t.getAt Reg.SQL_RX.RX0 0 0 = status.toNat * 2 ^ 24 + data.toNat % 2 ^ 24 ∧ t.getAt Reg.SQL_RX.RX1 0 0 =
      data.toNat / 2 ^ 24 ∧ t.get Reg.SQL_TX_CTRL.DONE 0 = 1 ∧ t.accepted .lane = false ∧ OnlyFieldsLog [Hid.LN_GRANT, Hid.LN_SENT, Reg.SQL_RX.RX0, Reg.SQL_RX.RX1,
      Reg.SQL_TX_CTRL.DONE] s t) ∧
  (∀ (src : BitVec 4) (seq status : Byte) (data : BitVec 56) (crc : BitVec 16) (s : State), s.get Hid.LN_GRANT 0 ≠ 0 → crc16 (msgBytes 3 src.toNat seq.toNat status.toNat
      data.toNat) = crc → s.get Hid.LN_GRANT 0 = src.toNat → s.get Hid.LN_SEQ 0 = seq.toNat → 2 ≤ s.get Hid.LN_SENT 0 → s.get Hid.LN_STAGE 0 ≠ 0 → (status.toNat =
      LStatus.accepted ∨ status.toNat = LStatus.duplicate) → (s.get Hid.LN_SENT 0 = 2 ∨ data.toNat % 256 ≤ SeqRes.running) → Answers (.laneReply src seq status data crc)
      s fun t => t.get Hid.LN_GRANT 0 = 0 ∧ t.get Hid.LN_SENT 0 = 0 ∧ OnlyFields [Hid.LN_GRANT, Hid.LN_SENT] s t) ∧
  (∀ (src : BitVec 4) (seq status : Byte) (data : BitVec 56) (crc : BitVec 16) (s : State), s.get Hid.LN_GRANT 0 ≠ 0 → crc16 (msgBytes 3 src.toNat seq.toNat status.toNat
      data.toNat) = crc → s.get Hid.LN_GRANT 0 = src.toNat → s.get Hid.LN_SEQ 0 = seq.toNat → s.get Hid.LN_SENT 0 = 3 → s.get Hid.LN_STAGE 0 ≠ 0 → (status.toNat =
      LStatus.accepted ∨ status.toNat = LStatus.duplicate) → data.toNat % 256 = SeqRes.done → s.get Hid.SEQ_STEP 0 = SeqStep.stage → Answers (.laneReply src seq status
      data crc) s fun v => ∃ t : State, v = t.seqPoll ∧ t.get Hid.LN_GRANT 0 = 0 ∧ t.get Hid.LN_SENT 0 = 0 ∧ t.get Hid.LN_STAGE 0 = 0 ∧ t.get Hid.SEQ_LANE_OK 0 = 1 ∧
      OnlyFields [Hid.LN_GRANT, Hid.LN_SENT, Hid.LN_STAGE, Hid.SEQ_LANE_OK] s t) ∧
  (∀ (src : BitVec 4) (seq status : Byte) (data : BitVec 56) (crc : BitVec 16) (s : State), s.get Hid.LN_GRANT 0 ≠ 0 → crc16 (msgBytes 3 src.toNat seq.toNat status.toNat
      data.toNat) ≠ crc → Answers (.laneReply src seq status data crc) s fun t => t.get Reg.SQL_COUNTS.CRC_ERR 0 = s.bumped Reg.SQL_COUNTS.CRC_ERR 0 ∧ OnlyCells
      [(Reg.SQL_COUNTS.CRC_ERR, 0, 0)] s t) ∧
  (∀ (s : State), s.get Hid.LN_GRANT 0 ≠ 0 → s.get Hid.LN_TRIES 0 < s.get Reg.SQL_CFG.RETRY 0 → s.get Hid.LN_TRIES 0 < 7 → Answers (.laneReplyMissing) s fun t => t.get
      Hid.LN_GRANT 0 = 0 ∧ t.get Hid.LN_AGAIN 0 = 1 ∧ t.get Hid.LN_TRIES 0 = s.get Hid.LN_TRIES 0 + 1 ∧ OnlyFields [Hid.LN_GRANT, Hid.LN_AGAIN, Hid.LN_TRIES] s t) ∧
  (∀ (s : State), 0 < s.get Hid.LN_GRANT 0 → s.get Hid.LN_GRANT 0 < 16 → s.get Reg.SQL_CFG.RETRY 0 ≤ s.get Hid.LN_TRIES 0 → s.get Hid.LN_SENT 0 = 1 → s.get Hid.LN_STAGE 0
      = 0 → Answers (.laneReplyMissing) s fun t => t.bit Reg.SQL_STATUS.WORKER_LOST 0 (s.get Hid.LN_GRANT 0 - 1) ∧ t.get Reg.SQL_TX_CTRL.NO_REPLY 0 = 1 ∧ t.get
      Hid.LN_SENT 0 = 0 ∧ t.accepted .lane = false) ∧
  (∀ (frame : List Byte) (s : State), s.get Reg.SQL_CFG.ROLE 0 ≠ 0 → laneCrcBad frame → Answers (.laneFrameCrcFail frame) s fun t => t.get Reg.SQL_COUNTS.CRC_ERR 0 =
      s.bumped Reg.SQL_COUNTS.CRC_ERR 0 ∧ OnlyCells [(Reg.SQL_COUNTS.CRC_ERR, 0, 0)] s t) ∧
  (∀ (s : State), (s.on Reg.FLT_CFG.SELF_IGN 0 = false ∨ s.on Reg.FLT_CFG.ASSERTED 0 = false) → Answers (.fltNFault) s fun t => t.get Reg.FLT_CFG.FLT_SEEN 0 = 1 ∧
      (s.active.isSome → t.get Reg.SNAP_STATUS.BUSY 0 ≠ 0 ∧ t.bit Hid.SNAP_CAUSE 0 SnapCause.fltN)) ∧
  (∀ (w : Who) (s : State), Answers (.fltRelease w) s fun t => t.get Reg.FLT_CFG.ASSERTED 0 = 0 ∧ t.get Hid.FLT_CAUSE 0 = 0 ∧ OnlyCells [(Reg.FLT_CFG.ASSERTED, 0, 0),
      (Hid.FLT_CAUSE, 0, 0)] s t)

/-- A worker compares every valid beat frame with its beat at the cycle's start: it follows one that is ahead, holds for one that is a little behind, and keeps its beat with an offset for one far behind; LANE_LOST clears, and sets when none came for 30 µs; a frame that a listening master hears is a conflict; a worker answers a valid HELLO, STATUS and SEQ_QUERY with their data, DUPLICATE for a command equal to the last it accepted, BAD_OPCODE for a number or an argument it does not have, and accepts a SEQ_RUN, RAIL_ON, RAIL_OFF or SNAP that its state allows, which waits for its deadline; KERB and FLT_RELEASE act at once; a deadline that has come runs its command once. Readings and choices of the model that it rests on: log entries 18, 21, 110. -/
def Obligations.LaneWorker : Prop :=
  (∀ (f : LaneHead) (s : State), s.laneTakes f true 0x00 (0) → Answers (.hello f) s fun t => t.on Hid.LW_VALID 0 ∧ t.get Hid.LW_SEQ 0 = f.seq.toNat ∧ t.get Hid.LW_ARGS 0
      = 0 ∧ t.laneReplied f LStatus.accepted s.helloData ∧ OnlyFields [Hid.LW_VALID, Hid.LW_SEQ, Hid.LW_ARGS, Hid.LW_REPLY, Hid.LW_RSEQ, Hid.LW_STATUS, Hid.LW_DATA,
      Hid.LW_CRC] s t) ∧
  (∀ (f : LaneHead) (s : State), s.laneTakes f false 0x01 (0) → s.laneNew f (0) → Answers (.laneStatus f) s fun t => t.on Hid.LW_VALID 0 ∧ t.get Hid.LW_SEQ 0 =
      f.seq.toNat ∧ t.get Hid.LW_ARGS 0 = 0 ∧ t.laneReplied f LStatus.accepted s.statusData ∧ OnlyFields [Hid.LW_VALID, Hid.LW_SEQ, Hid.LW_ARGS, Hid.LW_REPLY,
      Hid.LW_RSEQ, Hid.LW_STATUS, Hid.LW_DATA, Hid.LW_CRC] s t) ∧
  (∀ (f : LaneHead) (q : Byte) (d : BitVec 24) (s : State), s.laneTakes f true 0x02 (q.toNat + d.toNat * 256) → s.laneNew f (q.toNat + d.toNat * 256) → q.toNat < 8 →
      s.seqActive = false → (s.onAt Reg.SEQ_HDR.DIR 0 q.toNat ∨ s.dev = Dev.run) → Answers (.seqRunLane f q d) s fun t => t.on Hid.LW_VALID 0 ∧ t.get Hid.LW_SEQ 0 =
      f.seq.toNat ∧ t.get Hid.LW_ARGS 0 = q.toNat + d.toNat * 256 ∧ t.laneReplied f LStatus.accepted 0 ∧ t.laneDue = s.laneDue ++
      [{ due := (s.get Hid.LW_START 0 + d.toNat) % 2 ^ 40, seq := f.seq.toNat, work := LaneWork.run q.toNat }]) ∧
  (∀ (f : LaneHead) (q : Byte) (d : BitVec 24) (s : State), s.laneTakes f true 0x02 (q.toNat + d.toNat * 256) → s.laneNew f (q.toNat + d.toNat * 256) = false → Answers
      (.seqRunLane f q d) s fun t => t.laneReplied f LStatus.duplicate 0 ∧ OnlyFields [Hid.LW_REPLY, Hid.LW_RSEQ, Hid.LW_STATUS, Hid.LW_DATA, Hid.LW_CRC] s t) ∧
  (∀ (f : LaneHead) (r : Byte) (d : BitVec 24) (s : State), s.laneTakes f false 0x03 (r.toNat + d.toNat * 256) → s.laneNew f (r.toNat + d.toNat * 256) → r.toNat < 48 →
      s.inSeq r.toNat = false → s.enableAllowed r.toNat → Answers (.laneRailOn f r d) s fun t => t.on Hid.LW_VALID 0 ∧ t.get Hid.LW_SEQ 0 = f.seq.toNat ∧ t.get
      Hid.LW_ARGS 0 = r.toNat + d.toNat * 256 ∧ t.laneReplied f LStatus.accepted 0 ∧ t.laneDue = s.laneDue ++
      [{ due := (s.get Hid.LW_START 0 + d.toNat) % 2 ^ 40, seq := f.seq.toNat, work := LaneWork.railOn r.toNat }]) ∧
  (∀ (f : LaneHead) (r : Byte) (d : BitVec 24) (s : State), s.laneTakes f true 0x04 (r.toNat + d.toNat * 256) → s.laneNew f (r.toNat + d.toNat * 256) → r.toNat < 48 →
      Answers (.laneRailOff f r d) s fun t => t.on Hid.LW_VALID 0 ∧ t.get Hid.LW_SEQ 0 = f.seq.toNat ∧ t.get Hid.LW_ARGS 0 = r.toNat + d.toNat * 256 ∧ t.laneReplied f
      LStatus.accepted 0 ∧ t.laneDue = s.laneDue ++ [{ due := (s.get Hid.LW_START 0 + d.toNat) % 2 ^ 40, seq := f.seq.toNat, work := LaneWork.railOff r.toNat }]) ∧
  (∀ (f : LaneHead) (d : BitVec 24) (s : State), s.laneTakes f true 0x05 (d.toNat) → s.laneNew f (d.toNat) → Answers (.laneSnap f d) s fun t => t.on Hid.LW_VALID 0 ∧
      t.get Hid.LW_SEQ 0 = f.seq.toNat ∧ t.get Hid.LW_ARGS 0 = d.toNat ∧ t.laneReplied f LStatus.accepted 0 ∧ t.laneDue = s.laneDue ++
      [{ due := (s.get Hid.LW_START 0 + d.toNat) % 2 ^ 40, seq := f.seq.toNat, work := LaneWork.snap }]) ∧
  (∀ (f : LaneHead) (s : State), s.laneTakes f true 0x06 (0) → s.laneNew f (0) → s.dev = Dev.run → s.active.isSome → Answers (.laneKerb f) s fun t => t.dev = Dev.kerb ∧
      t.get Reg.KERB_STATUS.IN_KERB 0 = 1 ∧ t.bit Reg.KERB_STATUS.CAUSE 0 KCause.lane ∧ t.on Hid.LW_VALID 0 ∧ t.get Hid.LW_SEQ 0 = f.seq.toNat ∧ t.get Hid.LW_ARGS 0 = 0 ∧
      t.laneReplied f LStatus.accepted 0) ∧
  (∀ (f : LaneHead) (s : State), s.laneTakes f true 0x07 (0) → s.laneNew f (0) → Answers (.laneFltRelease f) s fun t => t.get Reg.FLT_CFG.ASSERTED 0 = 0 ∧ t.get
      Hid.FLT_CAUSE 0 = 0 ∧ t.logged JKind.done JStatus.ok noTarget ∧ t.on Hid.LW_VALID 0 ∧ t.get Hid.LW_SEQ 0 = f.seq.toNat ∧ t.get Hid.LW_ARGS 0 = 0 ∧ t.laneReplied f
      LStatus.accepted 0 ∧ OnlyFieldsLog [Hid.FLT_CAUSE, Hid.LW_ARGS, Hid.LW_CRC, Hid.LW_DATA, Hid.LW_REPLY, Hid.LW_RSEQ, Hid.LW_SEQ, Hid.LW_STATUS, Hid.LW_VALID,
      Reg.FLT_CFG.ASSERTED, Reg.SQL_COUNTS.CRC_ERR] s t) ∧
  (∀ (f : LaneHead) (q : Byte) (s : State), s.laneTakes f false 0x08 (q.toNat) → s.laneNew f (q.toNat) → q.toNat < 8 → Answers (.seqQuery f q) s fun t => t.on
      Hid.LW_VALID 0 ∧ t.get Hid.LW_SEQ 0 = f.seq.toNat ∧ t.get Hid.LW_ARGS 0 = q.toNat ∧ t.laneReplied f LStatus.accepted (s.queryResult q.toNat + s.queryStage q.toNat *
      256) ∧ OnlyFields [Hid.LW_VALID, Hid.LW_SEQ, Hid.LW_ARGS, Hid.LW_REPLY, Hid.LW_RSEQ, Hid.LW_STATUS, Hid.LW_DATA, Hid.LW_CRC] s t) ∧
  (∀ (f : LaneHead) (op : Byte) (args : BitVec 56) (s : State), s.laneTakes f true op.toNat (args.toNat) → s.laneNew f (args.toNat) → laneBad op.toNat args.toNat →
      Answers (.laneBadOpcode f op args) s fun t => t.laneReplied f LStatus.badOpcode 0 ∧ OnlyFields [Hid.LW_VALID, Hid.LW_REPLY, Hid.LW_RSEQ, Hid.LW_STATUS, Hid.LW_DATA,
      Hid.LW_CRC] s t) ∧
  (∀ (beat : BitVec 40) (flags : BitVec 4) (crc : Byte) (s : State), s.laneWorker → crc8 (beatBytes flags.toNat beat.toNat) = crc → 1 < beatDiff (beat.toNat + s.get
      Hid.SQL_OFS 0) (s.get Hid.LW_START 0) → beatDiff (beat.toNat + s.get Hid.SQL_OFS 0) (s.get Hid.LW_START 0) < 2 ^ 39 → Answers (.laneBeatFrame beat flags crc) s fun
      t => t.get Reg.SQL_STATUS.LANE_LOST 0 = 0 ∧ t.get Hid.BEAT s.act = (s.beat + beatDiff (beat.toNat + s.get Hid.SQL_OFS 0) (s.get Hid.LW_START 0)) % 2 ^ 40 ∧ t.get
      Hid.LW_SEEN 0 = (s.beat + beatDiff (beat.toNat + s.get Hid.SQL_OFS 0) (s.get Hid.LW_START 0)) % 2 ^ 40 ∧ t.get Reg.SQL_STATUS.BEAT_STEP 0 = s.bumped
      Reg.SQL_STATUS.BEAT_STEP 0 ∧ (t.laneDue = s.laneDue.map (fun x =>
      { x with due := (x.due + beatDiff (beat.toNat + s.get Hid.SQL_OFS 0) (s.get Hid.LW_START 0)) % 2 ^ 40 }))) ∧
  (∀ (beat : BitVec 40) (flags : BitVec 4) (crc : Byte) (s : State), s.laneWorker → crc8 (beatBytes flags.toNat beat.toNat) = crc → 2 ^ 39 ≤ beatDiff (beat.toNat + s.get
      Hid.SQL_OFS 0) (s.get Hid.LW_START 0) → 2 ^ 40 - beatDiff (beat.toNat + s.get Hid.SQL_OFS 0) (s.get Hid.LW_START 0) ≤ 16 → beatDiff (beat.toNat + s.get Hid.SQL_OFS
      0) (s.get Hid.LW_START 0) ≠ 2 ^ 40 - 1 → Answers (.laneBeatFrame beat flags crc) s fun t => t.get Reg.SQL_STATUS.LANE_LOST 0 = 0 ∧ t.get Hid.LN_HOLD 0 = 2 ^ 40 -
      beatDiff (beat.toNat + s.get Hid.SQL_OFS 0) (s.get Hid.LW_START 0) ∧ t.get Hid.LW_SEEN 0 = s.beat % 2 ^ 40 ∧ OnlyFields [Hid.LW_FLAGS, Reg.SQL_STATUS.LANE_LOST,
      Hid.LN_HOLD, Hid.LW_SEEN] s t) ∧
  (∀ (beat : BitVec 40) (flags : BitVec 4) (crc : Byte) (s : State), s.laneWorker → crc8 (beatBytes flags.toNat beat.toNat) = crc → 2 ^ 39 ≤ beatDiff (beat.toNat + s.get
      Hid.SQL_OFS 0) (s.get Hid.LW_START 0) → 16 < 2 ^ 40 - beatDiff (beat.toNat + s.get Hid.SQL_OFS 0) (s.get Hid.LW_START 0) → Answers (.laneBeatFrame beat flags crc) s
      fun t => t.get Reg.SQL_STATUS.LANE_LOST 0 = 0 ∧ t.get Hid.SQL_OFS 0 = (s.get Hid.SQL_OFS 0 + (2 ^ 40 - beatDiff (beat.toNat + s.get Hid.SQL_OFS 0) (s.get
      Hid.LW_START 0))) % 2 ^ 40 ∧ t.get Reg.SQL_STATUS.BEAT_REGRESS 0 = 1 ∧ t.get Hid.LW_VALID 0 = 0 ∧ OnlyFieldsLog [Hid.LW_FLAGS, Reg.SQL_STATUS.LANE_LOST,
      Hid.SQL_OFS, Reg.SQL_STATUS.BEAT_REGRESS, Hid.LW_VALID, Hid.LW_SEEN] s t) ∧
  (∀ (beat : BitVec 40) (flags : BitVec 4) (crc : Byte) (s : State), s.laneWorker → crc8 (beatBytes flags.toNat beat.toNat) = crc → (beatDiff (beat.toNat + s.get
      Hid.SQL_OFS 0) (s.get Hid.LW_START 0) ≤ 1 ∨ beatDiff (beat.toNat + s.get Hid.SQL_OFS 0) (s.get Hid.LW_START 0) = 2 ^ 40 - 1) → Answers (.laneBeatFrame beat flags
      crc) s fun t => t.get Reg.SQL_STATUS.LANE_LOST 0 = 0 ∧ t.get Hid.LW_FLAGS 0 = flags.toNat ∧ OnlyFields [Hid.LW_FLAGS, Reg.SQL_STATUS.LANE_LOST, Hid.LW_SEEN] s t) ∧
  (∀ (beat : BitVec 40) (flags : BitVec 4) (crc : Byte) (s : State), s.laneMaster → crc8 (beatBytes flags.toNat beat.toNat) = crc → s.on Hid.LN_LISTEN 0 = false → Answers
      (.laneBeatFrame beat flags crc) s fun t => t.get Reg.SQL_STATUS.MASTER_CONFLICT 0 = 1 ∧ OnlyCells [(Reg.SQL_STATUS.MASTER_CONFLICT, 0, 0)] s t) ∧
  (∀ (s : State), s.laneWorker → 30 ≤ beatDiff s.beat (s.get Hid.LW_SEEN 0) → Answers (.laneLost) s fun t => t.get Reg.SQL_STATUS.LANE_LOST 0 = 1 ∧ OnlyCells
      [(Reg.SQL_STATUS.LANE_LOST, 0, 0)] s t) ∧
  (∀ (x : LaneDue) (s : State), (s.laneDue.find? (fun x => decide (beatDiff s.beat x.due < 2 ^ 39)) = some x) → Answers (.laneDeadline) s fun t => t.laneDue =
      s.laneDue.erase x ∧ (x.work = LaneWork.snap → s.active.isSome → s.on Reg.SNAP_STATUS.BUSY 0 = false → t.get Reg.SNAP_STATUS.BUSY 0 = 1 ∧ t.get Hid.SNAP_CAUSE 0 = 2
      ^ SnapCause.lane ∧ t.get Hid.SNAP_STAGE 0 = 1)) ∧
  (∀ (x : LaneDue) (q : Fin 8) (s : State), (s.laneDue.find? (fun x => decide (beatDiff s.beat x.due < 2 ^ 39)) = some x) → x.work = LaneWork.run q.val → s.seqActive =
      false → (s.onAt Reg.SEQ_HDR.DIR 0 q ∨ s.dev = Dev.run) → s.getAt Reg.SEQ_HDR.NSTG 0 q ≠ 0 → Answers (.laneDeadline) s fun t => t.laneDue = s.laneDue.erase x ∧ t.get
      Reg.SEQ_STATUS.ACTIVE 0 = 1 ∧ t.seqNo = q ∧ t.get Hid.SEQ_STEP 0 = SeqStep.delay) ∧
  (∀ (x : LaneDue) (r : Rail) (s : State), (s.laneDue.find? (fun x => decide (beatDiff s.beat x.due < 2 ^ 39)) = some x) → x.work = LaneWork.railOff r.val → s.rs r =
      Rs.on → s.quiet → s.seqActive = false → Answers (.laneDeadline) s fun t => t.laneDue = s.laneDue.erase x ∧ t.rs r = Rs.stopLo) ∧
  (∀ (x : LaneDue) (r : Rail) (s : State), (s.laneDue.find? (fun x => decide (beatDiff s.beat x.due < 2 ^ 39)) = some x) → x.work = LaneWork.railOn r.val → s.inSeq r =
      false → s.enableAllowed r → s.rs r = Rs.off → s.kindOf r = 2 → s.diagHolds r = false → Answers (.laneDeadline) s fun t => t.laneDue = s.laneDue.erase x ∧ t.rs r =
      Rs.ramping ∧ t.enStep r = 5)

/-- OC_CYC consecutive limited cycles shed the phase with cause PHASE_OC; a condition that one channel of a mirrored rail alone held for 100 ticks shows CH_DISAGREE; an overvoltage, undervoltage or overcurrent that has held for its delay on a regulated rail that is not off sets its event in every engine and its status bit, and with an action of 1 turns the rail off: PROT_OFF, one more in PROT_COUNT, the rail stopping, for an overvoltage with every switching phase at mid and held; an action of 0 changes nothing but the event and a capture; a rail whose sense is lost is off with SENSE_LOST. -/
def Obligations.ProtectionResponses : Prop :=
  (∀ (p : Phase) (s : State), max 1 (s.get Reg.PH_PROT.OC_CYC p) ≤ s.get Hid.OC_N p → s.ph p = Ph.active → s.on Hid.READD_DONE p = false → Answers (.phaseOcShed p) s fun
      t => t.ph p = Ph.shed ∧ t.get Reg.PH_STATE.CAUSE p = Cause.phaseOc ∧ t.bit Reg.ENG_EV.PENDING p Ev.phOut ∧ OnlyFields [Hid.ADD_PEND, Hid.E_RUN, Hid.E_SLOT,
      Hid.E_WAIT, Hid.FIRED, Hid.JOIN_PEND, Hid.LOAD_SIG, Hid.MARK_MID, Hid.MID_BUSY, Hid.MID_TICK, Hid.PROBING, Hid.PWM_LVL, Hid.READD_DONE, Reg.ENG_EV.EVW,
      Reg.ENG_EV.PENDING, Reg.ENG_STATUS.HALTED, Reg.ENG_STATUS.OVR_RUN, Reg.PH_COUNTS.REPEAT, Reg.PH_COUNTS.SHED_COUNT, Reg.PH_STATE.CAUSE, Reg.PH_STATE.STATE,
      Reg.PH_STATUS.CMD_DROP, Reg.PH_STATUS.REPEAT_BLOCK, Reg.PH_STATUS.SHED_EVT, Reg.STG_GROUP_STATUS.STG_EN] s t) ∧
  (∀ (r : Rail) (s : State), (100 ≤ s.get Hid.CHD_OV_N (s.leadIx r) ∨ 100 ≤ s.get Hid.CHD_UV_N (s.leadIx r)) → Answers (.chDisagree r) s fun t => t.get
      Reg.RAIL_PROT_STATUS.CH_DISAGREE (s.leadIx r) = 1 ∧ OnlyCells [(Reg.RAIL_PROT_STATUS.CH_DISAGREE, s.leadIx r, 0), (Hid.CHD_OV_N, s.leadIx r, 0), (Hid.CHD_UV_N,
      s.leadIx r, 0)] s t) ∧
  (∀ (r : Rail) (s : State), s.kindOf r = 1 → max 1 (s.get Reg.RAIL_OV.OV_DLY (s.leadIx r)) ≤ s.get Hid.OV_N (s.leadIx r) → s.bit Hid.CONF (s.leadIx r) 0 = false → s.rs r
      ≠ Rs.off → s.get Reg.RAIL_OV.OV_ACT (s.leadIx r) = 0 → Answers (.railOvConfirm r) s fun t => t.get Reg.RAIL_PROT_STATUS.OV_EVT (s.leadIx r) = 1 ∧ (∀ p ∈ s.phasesOf
      r, t.bit Reg.ENG_EV.PENDING p Ev.railOv) ∧ t.rs r = s.rs r ∧ OnlyFields [Reg.RAIL_PROT_STATUS.OV_EVT, Reg.ENG_EV.PENDING, Reg.CAP_STATUS.TRIGGERED, Hid.CAP_TRIGD,
      Hid.CAP_LEFT, Hid.CONF] s t) ∧
  (∀ (r : Rail) (s : State), s.kindOf r = 1 → max 1 (s.get Reg.RAIL_OV.OV_DLY (s.leadIx r)) ≤ s.get Hid.OV_N (s.leadIx r) → s.bit Hid.CONF (s.leadIx r) 0 = false → s.rs r
      = Rs.on → s.enStep r = 0 → s.quiet → s.get Reg.RAIL_OV.OV_ACT (s.leadIx r) = 1 → Answers (.railOvConfirm r) s fun t => t.stopping r ∧ t.get
      Reg.RAIL_PROT_STATUS.PROT_OFF (s.leadIx r) = 1 ∧ t.get Reg.RAIL_PROT_STATUS.PROT_COUNT (s.leadIx r) = s.bumped Reg.RAIL_PROT_STATUS.PROT_COUNT (s.leadIx r) ∧ (∀ p ∈
      s.phasesOn (s.leadTile r) r, s.ph p = Ph.active → t.get Hid.PWM_LVL p = Pwm.mid.num ∧ t.on Hid.HELD p)) ∧
  (∀ (r : Rail) (s : State), s.kindOf r = 1 → max 1 (s.get Reg.RAIL_OV.OV_DLY (s.leadIx r)) ≤ s.get Hid.OV_N (s.leadIx r) → s.bit Hid.CONF (s.leadIx r) 0 = false → s.rs r
      ≠ Rs.off → s.rs r ≠ Rs.enabling → s.get Reg.RAIL_OV.OV_ACT (s.leadIx r) ≠ 0 → Answers (.railOvConfirm r) s fun v => ∃ t : State, v = t.seqPoll ∧ t.stopping r ∧
      t.get Reg.RAIL_PROT_STATUS.OV_EVT (s.leadIx r) = 1 ∧ t.get Reg.RAIL_PROT_STATUS.PROT_OFF (s.leadIx r) = 1 ∧ t.get Reg.RAIL_PROT_STATUS.PROT_COUNT (s.leadIx r) =
      s.bumped Reg.RAIL_PROT_STATUS.PROT_COUNT (s.leadIx r) ∧ (∀ p ∈ s.phasesOf r, t.bit Reg.ENG_EV.PENDING p Ev.railOv) ∧ (∀ p ∈ s.phasesOn (s.leadTile r) r, s.ph p =
      Ph.active → t.get Hid.PWM_LVL p = Pwm.mid.num ∧ t.on Hid.HELD p)) ∧
  (∀ (r : Rail) (s : State), s.kindOf r = 1 → 100 * max 1 (s.get Reg.RAIL_UV.UV_DLY (s.leadIx r)) ≤ s.get Hid.UV_N (s.leadIx r) → s.bit Hid.CONF (s.leadIx r) 1 = false →
      s.rs r = Rs.on → s.enStep r = 0 → s.quiet → s.get Reg.RAIL_UV.UV_ACT (s.leadIx r) = 1 → Answers (.railUvConfirm r) s fun t => t.rs r = Rs.stopLo ∧ t.get
      Reg.RAIL_PROT_STATUS.UV_EVT (s.leadIx r) = 1 ∧ t.get Reg.RAIL_PROT_STATUS.PROT_OFF (s.leadIx r) = 1 ∧ (∀ p ∈ s.phasesOf r, t.bit Reg.ENG_EV.PENDING p Ev.railUv ∧
      (s.ph p = Ph.active → t.get Hid.MARK_MID p = 3))) ∧
  (∀ (r : Rail) (s : State), s.kindOf r = 1 → 100 * max 1 (s.get Reg.RAIL_UV.UV_DLY (s.leadIx r)) ≤ s.get Hid.UV_N (s.leadIx r) → s.bit Hid.CONF (s.leadIx r) 1 = false →
      s.rs r ≠ Rs.off → s.get Reg.RAIL_UV.UV_ACT (s.leadIx r) = 0 → Answers (.railUvConfirm r) s fun t => t.get Reg.RAIL_PROT_STATUS.UV_EVT (s.leadIx r) = 1 ∧ (∀ p ∈
      s.phasesOf r, t.bit Reg.ENG_EV.PENDING p Ev.railUv) ∧ t.rs r = s.rs r ∧ OnlyFields [Reg.RAIL_PROT_STATUS.UV_EVT, Reg.ENG_EV.PENDING, Reg.CAP_STATUS.TRIGGERED,
      Hid.CAP_TRIGD, Hid.CAP_LEFT, Hid.CONF] s t) ∧
  (∀ (r : Rail) (s : State), s.kindOf r = 1 → 100 * max 1 (s.get Reg.RAIL_UV.UV_DLY (s.leadIx r)) ≤ s.get Hid.UV_N (s.leadIx r) → s.bit Hid.CONF (s.leadIx r) 1 = false →
      s.rs r ≠ Rs.off → s.rs r ≠ Rs.enabling → s.get Reg.RAIL_UV.UV_ACT (s.leadIx r) ≠ 0 → Answers (.railUvConfirm r) s fun v => ∃ t : State, v = t.seqPoll ∧ t.stopping r
      ∧ t.get Reg.RAIL_PROT_STATUS.UV_EVT (s.leadIx r) = 1 ∧ t.get Reg.RAIL_PROT_STATUS.PROT_OFF (s.leadIx r) = 1 ∧ t.get Reg.RAIL_PROT_STATUS.PROT_COUNT (s.leadIx r) =
      s.bumped Reg.RAIL_PROT_STATUS.PROT_COUNT (s.leadIx r) ∧ (∀ p ∈ s.phasesOf r, t.bit Reg.ENG_EV.PENDING p Ev.railUv) ∧ (s.rs r = Rs.on → ∀ p ∈ s.phasesOf r, s.ph p =
      Ph.active → t.get Hid.MARK_MID p = 3)) ∧
  (∀ (r : Rail) (s : State), s.kindOf r = 1 → 100 * max 1 (s.get Reg.RAIL_OC.OC_DLY (s.leadIx r)) ≤ s.get Hid.ROC_N (s.leadIx r) → s.bit Hid.CONF (s.leadIx r) 2 = false →
      s.rs r = Rs.on → s.enStep r = 0 → s.quiet → s.get Reg.RAIL_OC.OC_ACT (s.leadIx r) = 1 → Answers (.railOcConfirm r) s fun t => t.rs r = Rs.stopLo ∧ t.get
      Reg.RAIL_PROT_STATUS.OC_EVT (s.leadIx r) = 1 ∧ t.get Reg.RAIL_PROT_STATUS.PROT_OFF (s.leadIx r) = 1 ∧ (∀ p ∈ s.phasesOf r, t.bit Reg.ENG_EV.PENDING p Ev.railOc)) ∧
  (∀ (r : Rail) (s : State), s.kindOf r = 1 → 100 * max 1 (s.get Reg.RAIL_OC.OC_DLY (s.leadIx r)) ≤ s.get Hid.ROC_N (s.leadIx r) → s.bit Hid.CONF (s.leadIx r) 2 = false →
      s.rs r ≠ Rs.off → s.get Reg.RAIL_OC.OC_ACT (s.leadIx r) = 0 → Answers (.railOcConfirm r) s fun t => t.get Reg.RAIL_PROT_STATUS.OC_EVT (s.leadIx r) = 1 ∧ (∀ p ∈
      s.phasesOf r, t.bit Reg.ENG_EV.PENDING p Ev.railOc) ∧ t.rs r = s.rs r ∧ OnlyFields [Reg.RAIL_PROT_STATUS.OC_EVT, Reg.ENG_EV.PENDING, Reg.CAP_STATUS.TRIGGERED,
      Hid.CAP_TRIGD, Hid.CAP_LEFT, Hid.CONF] s t) ∧
  (∀ (r : Rail) (s : State), s.kindOf r = 1 → 100 * max 1 (s.get Reg.RAIL_OC.OC_DLY (s.leadIx r)) ≤ s.get Hid.ROC_N (s.leadIx r) → s.bit Hid.CONF (s.leadIx r) 2 = false →
      s.rs r ≠ Rs.off → s.rs r ≠ Rs.enabling → s.get Reg.RAIL_OC.OC_ACT (s.leadIx r) ≠ 0 → Answers (.railOcConfirm r) s fun v => ∃ t : State, v = t.seqPoll ∧ t.stopping r
      ∧ t.get Reg.RAIL_PROT_STATUS.OC_EVT (s.leadIx r) = 1 ∧ t.get Reg.RAIL_PROT_STATUS.PROT_OFF (s.leadIx r) = 1 ∧ t.get Reg.RAIL_PROT_STATUS.PROT_COUNT (s.leadIx r) =
      s.bumped Reg.RAIL_PROT_STATUS.PROT_COUNT (s.leadIx r) ∧ (∀ p ∈ s.phasesOf r, t.bit Reg.ENG_EV.PENDING p Ev.railOc) ∧ (s.rs r = Rs.on → ∀ p ∈ s.phasesOf r, s.ph p =
      Ph.active → t.get Hid.MARK_MID p = 3)) ∧
  (∀ (r : Rail) (s : State), s.bit Hid.LOST_MID 0 r → 100 ≤ (s.get Hid.TICK (s.leadTile r) + 2 ^ 32 - s.getAt Hid.LOST_TICK 0 r) % 2 ^ 32 → s.quiet → Answers
      (.senseLostOff r) s fun t => t.rs r = Rs.off ∧ t.bit Hid.LOST_MID 0 r = false ∧ (s.homeLost r → t.get Reg.RAIL_PROT_STATUS.SENSE_LOST (s.leadIx r) = 1) ∧ (∀ p ∈
      s.phasesOf r, s.ph p ≠ Ph.blocked → s.on Hid.TSD_ON (tileOf p) = false → t.ph p = Ph.off)) ∧
  (∀ (r : Rail) (s : State), s.bit Hid.LOST_MID 0 r → 100 ≤ (s.get Hid.TICK (s.leadTile r) + 2 ^ 32 - s.getAt Hid.LOST_TICK 0 r) % 2 ^ 32 → Answers (.senseLostOff r) s
      fun v => ∃ t : State, v = t.seqPoll ∧ t.rs r = Rs.off ∧ t.bit Hid.LOST_MID 0 r = false ∧ (s.homeLost r → t.get Reg.RAIL_PROT_STATUS.SENSE_LOST (s.leadIx r) = 1) ∧
      (∀ p ∈ s.phasesOf r, s.ph p ≠ Ph.blocked → s.on Hid.TSD_ON (tileOf p) = false → t.ph p = Ph.off))

/-- A reading shows the higher sensor, saturated; the tenth in a row at or above 125 °C sets the warning and at or above 140 °C the throttle; sensors that disagree are flagged; a thermal shutdown of a tile sheds its running phases with cause TILE_SHUTDOWN and is counted once; the restart, allowed after ten readings below 135 °C and 100 ms without a latch, ends it; TSD_CLR above 135 °C is refused, below it ends a latched shutdown. -/
def Obligations.ThermalLevels : Prop :=
  (∀ (d : Die) (a b : Int) (s : State), Answers (.thermalReading d a b) s fun t => t.get (thermF d).temp (dieIx d) = twos 16 (satS 16 (max a b)) ∧ (max a b < 2000 → t.get
      (thermF d).hiW (dieIx d) = 0) ∧ (2000 ≤ max a b → s.get (thermF d).hiW (dieIx d) = 9 → t.get (thermF d).warn (dieIx d) ≠ 0) ∧ (2240 ≤ max a b → s.get (thermF d).hiT
      (dieIx d) = 9 → s.get (thermF d).loT (dieIx d) = 0 → t.get (thermF d).thr (dieIx d) ≠ 0) ∧ OnlyFields [Hid.COOL_N, Hid.DIS_AT, Hid.H_COOL, Hid.H_HI_T, Hid.H_HI_W,
      Hid.H_LO_T, Hid.H_LO_W, Hid.H_THR, Hid.H_WARN, Hid.M_HI_T, Hid.M_HI_W, Hid.M_LO_T, Hid.M_LO_W, Hid.M_THR, Hid.M_WARN, Hid.TEMP_HI_T, Hid.TEMP_HI_W, Hid.TEMP_LO_T,
      Hid.TEMP_LO_W, Hid.THR_AT, Hid.THR_ON, Hid.WARN_ON, Reg.HPD_THERM.LEVEL, Reg.HPD_THERM.SENSOR_DISAGREE, Reg.HPD_THERM.TEMP, Reg.HPD_THERM.THR_EVT,
      Reg.HPD_THERM.WARN_EVT, Reg.MGR_THERM.LEVEL, Reg.MGR_THERM.SENSOR_DISAGREE, Reg.MGR_THERM.TEMP, Reg.MGR_THERM.THR_EVT, Reg.MGR_THERM.WARN_EVT, Reg.TILE_THERM.LEVEL,
      Reg.TILE_THERM.SENSOR_DISAGREE, Reg.TILE_THERM.TEMP, Reg.TILE_THERM.THR_EVT, Reg.TILE_THERM.WARN_EVT] s t) ∧
  (∀ (d : Die) (s : State), s.heldFor Hid.DIS_AT 0 (dieNo d) 1000 → Answers (.sensorDisagree d) s fun t => t.get (thermF d).disagree (dieIx d) = 1 ∧ OnlyCells [((thermF
      d).disagree, dieIx d, 0)] s t) ∧
  (∀ (u : Tile) (s : State), s.on Hid.TSD_ON u = false → s.shutRails u = [] → ((s.railsWith u).all fun r => s.enStep r ≠ 4 && !s.mirrored r) → s.quiet → Answers
      (.tileThermalShutdown u) s fun t => t.on Hid.TSD_ON u ∧ t.get Hid.TSD_BEAT u = s.beat % 2 ^ 40 ∧ t.get Reg.TILE_THERM.TSD_EVT u = 1 ∧ t.get
      Reg.TILE_THERM_CTRL.SHUTDOWNS u = s.bumped Reg.TILE_THERM_CTRL.SHUTDOWNS u ∧ t.get Reg.TILE_THERM.LEVEL u = 3 ∧ (∀ p ∈ phasesOfTile u, s.ph p = Ph.active → s.on
      Hid.READD_DONE p = false → t.ph p = Ph.shed ∧ t.get Reg.PH_STATE.CAUSE p = Cause.tileShutdown ∧ t.get Hid.PWM_LVL p = Pwm.mid.num)) ∧
  (∀ (u : Tile) (s : State), s.on Hid.TSD_ON u = false → Answers (.tileThermalShutdown u) s fun v => ∃ t : State, v = t.seqPoll ∧ t.on Hid.TSD_ON u ∧ t.get Hid.TSD_BEAT u
      = s.beat % 2 ^ 40 ∧ t.get Reg.TILE_THERM.TSD_EVT u = 1 ∧ t.get Reg.TILE_THERM_CTRL.SHUTDOWNS u = s.bumped Reg.TILE_THERM_CTRL.SHUTDOWNS u ∧ t.get
      Reg.TILE_THERM.LEVEL u = 3 ∧ (s.restartsOf u = 3 → t.get Reg.TILE_THERM.TSD_LATCH u = 1) ∧ (∀ p ∈ phasesOfTile u, s.ph p = Ph.active → s.on Hid.READD_DONE p = false
      → t.ph p = Ph.shed ∧ t.get Reg.PH_STATE.CAUSE p = Cause.tileShutdown ∧ t.get Hid.PWM_LVL p = Pwm.mid.num)) ∧
  (∀ (u : Tile) (s : State), s.on Hid.TSD_ON u → s.on Reg.TILE_THERM.TSD_LATCH u = false → 10 ≤ s.get Hid.COOL_N u → 100000 ≤ beatDiff s.beat (s.get Hid.TSD_BEAT u) →
      Answers (.tileThermalRestart u) s fun t => t.on Hid.TSD_ON u = false ∧ t.getAt Hid.TSD_HIST u 0 = (2 ^ 40 + s.beat) % 2 ^ Hid.TSD_HIST.wid ∧ t.getAt Hid.TSD_HIST u
      1 = s.getAt Hid.TSD_HIST u 0 % 2 ^ Hid.TSD_HIST.wid ∧ (s.active = none → t.get Hid.TSD_RAILS u = 0) ∧ (∀ p ∈ phasesOfTile u, s.ph p = Ph.shed → s.get
      Reg.PH_STATE.CAUSE p = Cause.tileShutdown → t.ph p = Ph.off)) ∧
  (∀ (w : Who) (u : Unit5) (s : State), u.val < 4 → 2160 ≤ s.getI Reg.TILE_THERM.TEMP u → Answers (.tsdClr w u) s fun t => t.get Reg.TILE_THERM_CTRL.PROT_REJ u = 1 ∧
      t.logged JKind.refused JStatus.refused noTarget ∧ OnlyFieldsLog [Reg.TILE_THERM_CTRL.PROT_REJ] s t) ∧
  (∀ (w : Who) (u : Unit5) (s : State), u.val < 4 → s.getI Reg.TILE_THERM.TEMP u < 2160 → s.on Reg.TILE_THERM.TSD_LATCH u → Answers (.tsdClr w u) s fun t => t.on
      Hid.TSD_ON u = false ∧ t.get Reg.TILE_THERM.TSD_LATCH u = 0 ∧ t.get Reg.TILE_THERM.RESTARTS u = 0 ∧ t.logged JKind.done JStatus.ok noTarget) ∧
  (∀ (w : Who) (u : Unit5) (s : State), u.val = 4 → s.getI Reg.HPD_THERM.TEMP 0 < 2160 → s.on Reg.HPD_THERM.TSD_LATCH 0 → Answers (.tsdClr w u) s fun t => t.on Hid.H_TSD
      0 = false ∧ t.get Reg.HPD_THERM.TSD_LATCH 0 = 0 ∧ t.get Reg.HPD_THERM.RESTARTS 0 = 0 ∧ t.logged JKind.done JStatus.ok noTarget) ∧
  (∀ (s : State), s.throttleHeld → s.get Reg.MGR_THERM.THR_LIM 0 ≠ 0 → s.dev = Dev.run → s.active.isSome → Answers (.throttleKerb) s fun t => t.dev = Dev.kerb ∧ t.get
      Reg.KERB_STATUS.IN_KERB 0 = 1 ∧ t.bit Reg.KERB_STATUS.CAUSE 0 KCause.throttle)

/-- A VAUX in range for 1 ms starts the buck (with HPD running and not shut down) and a search from IIN_START; one that becomes invalid stops the buck, aborts a search, discards a presence test and closes an armed pair; the search rises by 2 A to IIN_MAX, pauses where the load is below the limit and ends CEILING, DEMAND_LOW or SAG; a sag outside a search cuts the limit and is counted; each share shows the newest readings and leaves the charger what the buck and the margin leave; a thermal shutdown stops the buck, is counted once and latches where three restarts lie in the hour, and its restart needs ten cool readings and 100 ms. Readings and choices of the model that it rests on: log entries 53, 115. -/
def Obligations.HoldupInput : Prop :=
  (∀ (s : State), s.on Reg.IIN_STATUS.VAUX_OK 0 = false → 100 ≤ s.get Hid.VAUX_N 0 → Answers (.vauxValid) s fun t => t.get Reg.IIN_STATUS.VAUX_OK 0 = 1 ∧ t.get
      Reg.VBB_STATUS.BK_RUN 0 = (!s.on Hid.H_TSD 0 && s.on Hid.HPD_GO 0).toNat ∧ (s.on Hid.HPD_GO 0 → t.get Reg.IIN_STATUS.SRCH 0 = 1 ∧ t.get Reg.IIN_STATUS.IIN_LIM 0 =
      s.get Reg.IIN_CFG.IIN_START 0 % 2 ^ Reg.IIN_STATUS.IIN_LIM.wid) ∧ (s.bfet = 2 → t.get Hid.VBB_ACT 0 = min 1440 (max 1100 (s.get Reg.VBB_STATUS.VBB 0 / 10))) ∧
      OnlyFields [Hid.CHG_I, Hid.CHG_N, Hid.SRCH_N, Hid.VBB_ACT, Hid.VOK_N, Hid.WAKE_PEND, Reg.CHG_COUNTS.ELAPSED, Reg.CHG_STATUS.CUTBACK, Reg.CHG_STATUS.HALF_RATE,
      Reg.CHG_STATUS.PHASE, Reg.CHG_STATUS.SUSP, Reg.IIN_STATUS.IIN_LIM, Reg.IIN_STATUS.SRCH, Reg.IIN_STATUS.VAUX_OK, Reg.VBB_STATUS.BK_RUN] s t) ∧
  (∀ (vaux : BitVec 16) (s : State), (vaux.toNat < 16000 ∨ 35000 < vaux.toNat) → s.on Reg.IIN_STATUS.VAUX_OK 0 → Answers (.vauxInvalid vaux) s fun t => t.get
      Reg.IIN_STATUS.VAUX_OK 0 = 0 ∧ t.get Reg.VBB_STATUS.BK_RUN 0 = 0 ∧ t.get Reg.IIN_STATUS.SRCH 0 = 0 ∧ t.get Hid.PT_BUSY 0 = 0 ∧ (s.bfet = 1 → t.bfet = 2 ∧ t.get
      Reg.BFET_STATUS.CAUSE 0 = (if 35000 < vaux.toNat then Trip.vauxOv else Trip.vauxLoss) ∧ t.get Reg.BFET_STATUS.CARRY_COUNT 0 = s.bumped Reg.BFET_STATUS.CARRY_COUNT
      0) ∧ (35000 < vaux.toNat → t.get Reg.VBB_STATUS.VAUX_OV_EVT 0 = 1) ∧ OnlyFields [Hid.BAT_GC, Hid.BAT_GD, Hid.CHG_I, Hid.CHG_N, Hid.DSG_LIM, Hid.HIB_N, Hid.PREV_N,
      Hid.PT_BUSY, Hid.SRCH_N, Hid.VAUX_N, Reg.BFET_STATUS.CARRY_COUNT, Reg.BFET_STATUS.CAUSE, Reg.BFET_STATUS.ON_BAT_EVT, Reg.BFET_STATUS.STATE, Reg.CHG_COUNTS.ELAPSED,
      Reg.CHG_STATUS.CUTBACK, Reg.CHG_STATUS.HALF_RATE, Reg.CHG_STATUS.PHASE, Reg.CHG_STATUS.SUSP, Reg.GG_STATUS.HIB, Reg.IIN_STATUS.RESULT, Reg.IIN_STATUS.SRCH,
      Reg.IIN_STATUS.VAUX_OK, Reg.IN_MEAS.VAUX, Reg.VBB_STATUS.BK_RUN, Reg.VBB_STATUS.VAUX_OV_EVT] s t) ∧
  (∀ (x : HpdMeas) (s : State), Answers (.iinShare x) s fun t => t.get Reg.IN_MEAS.VAUX 0 = x.vaux.toNat % 2 ^ Reg.IN_MEAS.VAUX.wid ∧ t.get Reg.IN_MEAS.IIN 0 =
      x.iin.toNat % 2 ^ Reg.IN_MEAS.IIN.wid ∧ t.get Reg.VBB_STATUS.VBB 0 = x.vbb.toNat % 2 ^ Reg.VBB_STATUS.VBB.wid ∧ t.vbat = x.vbat.toNat ∧ t.get Hid.CHG_BUDGET 0 =
      ((s.get Reg.IIN_STATUS.IIN_LIM 0 - (if s.get Reg.IIN_STATUS.SRCH 0 ≠ 0 then 0 else s.get Reg.IIN_CFG.IIN_MARGIN 0)) * 16 - x.iBuck.toNat) % 2 ^ Hid.CHG_BUDGET.wid ∧
      t.on Reg.VBB_STATUS.ILIM_IN 0 = (s.on Reg.VBB_STATUS.BK_RUN 0 && decide (s.get Reg.IIN_STATUS.IIN_LIM 0 * 16 ≤ x.iBuck.toNat)) ∧ t.on Reg.VBB_STATUS.ILIM_OUT 0 =
      (s.on Reg.VBB_STATUS.BK_RUN 0 && decide (s.buckMax * 16 ≤ x.iOut.toNat)) ∧ t.get Hid.CHG_I 0 ≤ s.chgTarget ∧ OnlyFields [Hid.ATLIM_N, Hid.AUTH_N, Hid.BAT_GC,
      Hid.BOV_N, Hid.BSH_N, Hid.CHG_BUDGET, Hid.CHG_I, Hid.CHG_N, Hid.COC_N, Hid.DLIM_N, Hid.DSH_N, Hid.FDEG_N, Hid.HB_N, Hid.IBAT_NOW, Hid.I_BUCK, Hid.PT_MIN, Hid.PT_N,
      Hid.SAG_N, Hid.SRCH_N, Hid.VAUX_N, Hid.VBAT_NOW, Hid.VBB_ACT, Hid.VBB_BEAT, Hid.VBB_IN, Hid.VOK_N, Reg.CHG_STATUS.CUTBACK, Reg.CHG_STATUS.HALF_RATE,
      Reg.IN_MEAS.IIN, Reg.IN_MEAS.VAUX, Reg.VBB_STATUS.ILIM_IN, Reg.VBB_STATUS.ILIM_OUT, Reg.VBB_STATUS.VBB] s t) ∧
  (∀ (w : Who) (s : State), s.on Reg.IIN_STATUS.VAUX_OK 0 → Answers (.iinSearch w) s fun t => t.get Reg.IIN_STATUS.SRCH 0 = 1 ∧ t.get Reg.IIN_STATUS.IIN_LIM 0 = s.get
      Reg.IIN_CFG.IIN_START 0 % 2 ^ Reg.IIN_STATUS.IIN_LIM.wid ∧ OnlyCells [(Reg.IIN_STATUS.SRCH, 0, 0), (Reg.IIN_STATUS.IIN_LIM, 0, 0), (Hid.SRCH_N, 0, 0)] s t) ∧
  (∀ (s : State), s.get Reg.IIN_STATUS.SRCH 0 = 0 → s.on Reg.IIN_STATUS.VAUX_OK 0 → 6000000 ≤ s.get Hid.SRCH_N 0 → Answers (.iinSearchStart) s fun t => t.get
      Reg.IIN_STATUS.SRCH 0 = 1 ∧ t.get Reg.IIN_STATUS.IIN_LIM 0 = s.get Reg.IIN_CFG.IIN_START 0 % 2 ^ Reg.IIN_STATUS.IIN_LIM.wid ∧ OnlyCells [(Reg.IIN_STATUS.SRCH, 0,
      0), (Reg.IIN_STATUS.IIN_LIM, 0, 0), (Hid.SRCH_N, 0, 0)] s t) ∧
  (∀ (s : State), s.get Reg.IIN_STATUS.SRCH 0 = 1 → 500 ≤ s.get Hid.SRCH_N 0 → s.get Reg.IIN_STATUS.IIN_LIM 0 < s.get Reg.IIN_CFG.IIN_MAX 0 → Answers (.iinSearchStep) s
      fun t => t.get Reg.IIN_STATUS.SRCH 0 = (if s.atLimit then 1 else 2) ∧ t.get Reg.IIN_STATUS.IIN_LIM 0 = (if s.atLimit then min (s.get Reg.IIN_STATUS.IIN_LIM 0 + 2)
      (s.get Reg.IIN_CFG.IIN_MAX 0) % 2 ^ Reg.IIN_STATUS.IIN_LIM.wid else s.get Reg.IIN_STATUS.IIN_LIM 0) ∧ OnlyFields [Hid.SRCH_N, Reg.IIN_STATUS.IIN_LIM,
      Reg.IIN_STATUS.RESULT, Reg.IIN_STATUS.SRCH] s t) ∧
  (∀ (s : State), s.get Reg.IIN_STATUS.SRCH 0 = 1 → s.get Reg.IIN_CFG.IIN_MAX 0 ≤ s.get Reg.IIN_STATUS.IIN_LIM 0 → 500 ≤ s.get Hid.SRCH_N 0 → Answers (.iinSearchStep) s
      fun t => t.get Reg.IIN_STATUS.SRCH 0 = 0 ∧ t.get Reg.IIN_STATUS.RESULT 0 = Srch.ceiling ∧ t.get Reg.IIN_STATUS.IIN_LIM 0 = s.get Reg.IIN_CFG.IIN_MAX 0 % 2 ^
      Reg.IIN_STATUS.IIN_LIM.wid) ∧
  (∀ (s : State), s.get Reg.IIN_STATUS.SRCH 0 = 2 → s.atLimit = false → 100000 ≤ s.get Hid.SRCH_N 0 → Answers (.iinSearchPauseEnd) s fun t => t.get Reg.IIN_STATUS.SRCH 0
      = 0 ∧ t.get Reg.IIN_STATUS.RESULT 0 = Srch.demandLow ∧ OnlyCells [(Reg.IIN_STATUS.SRCH, 0, 0), (Reg.IIN_STATUS.RESULT, 0, 0), (Hid.SRCH_N, 0, 0)] s t) ∧
  (∀ (s : State), s.get Reg.IIN_STATUS.SRCH 0 = 2 → s.atLimit → Answers (.iinSearchPauseEnd) s fun t => t.get Reg.IIN_STATUS.SRCH 0 = 1 ∧ t.get Reg.IIN_STATUS.IIN_LIM 0 =
      min (s.get Reg.IIN_STATUS.IIN_LIM 0 + 2) (s.get Reg.IIN_CFG.IIN_MAX 0) % 2 ^ Reg.IIN_STATUS.IIN_LIM.wid ∧ OnlyCells [(Reg.IIN_STATUS.SRCH, 0, 0),
      (Reg.IIN_STATUS.IIN_LIM, 0, 0), (Hid.SRCH_N, 0, 0)] s t) ∧
  (∀ (s : State), s.get Reg.IIN_STATUS.SRCH 0 = 1 → 10 ≤ s.get Hid.SAG_N 0 → Answers (.sagWatch) s fun t => t.get Reg.IIN_STATUS.SRCH 0 = 0 ∧ t.get Reg.IIN_STATUS.RESULT
      0 = Srch.sag ∧ t.get Reg.IIN_STATUS.IIN_LIM 0 = max (s.get Reg.IIN_STATUS.IIN_LIM 0 - 4) 10 % 2 ^ Reg.IIN_STATUS.IIN_LIM.wid ∧ OnlyFields [Reg.IIN_STATUS.SRCH,
      Reg.IIN_STATUS.RESULT, Reg.IIN_STATUS.IIN_LIM, Hid.SAG_N, Hid.SRCH_N] s t) ∧
  (∀ (s : State), s.get Reg.IIN_STATUS.SRCH 0 = 0 → 10 ≤ s.get Hid.SAG_N 0 → Answers (.sagWatch) s fun t => t.get Reg.IIN_STATUS.IIN_LIM 0 = min (max ((s.getI
      Reg.IN_MEAS.IIN 0 / 16).toNat - 4) 10) (s.get Reg.IIN_CFG.IIN_MAX 0) % 2 ^ Reg.IIN_STATUS.IIN_LIM.wid ∧ t.get Reg.IIN_STATUS.SAG_COUNT 0 = s.bumped
      Reg.IIN_STATUS.SAG_COUNT 0 ∧ OnlyFields [Reg.IIN_STATUS.IIN_LIM, Reg.IIN_STATUS.SAG_COUNT, Hid.SAG_N] s t) ∧
  (∀ (k : Fin 6) (s : State), Answers (.buckPhaseStop k) s fun t => t.bit Hid.BUCK_STOP 0 k ∧ OnlyCells [(Hid.BUCK_STOP, 0, 0)] s t) ∧
  (∀ (s : State), s.on Hid.H_TSD 0 = false → Answers (.hpdThermalShutdown) s fun t => t.on Hid.H_TSD 0 ∧ t.get Reg.HPD_THERM.TSD_EVT 0 = 1 ∧ t.get
      Reg.HPD_THERM_CTRL.SHUTDOWNS 0 = s.bumped Reg.HPD_THERM_CTRL.SHUTDOWNS 0 ∧ t.get Reg.HPD_THERM.LEVEL 0 = 3 ∧ t.get Reg.VBB_STATUS.BK_RUN 0 = 0 ∧ (s.bfet = 1 →
      t.bfet = 2 ∧ t.get Reg.BFET_STATUS.CAUSE 0 = Trip.tsd) ∧ (s.hpdRestarts = 3 → t.get Reg.HPD_THERM.TSD_LATCH 0 = 1) ∧ OnlyFields [Hid.BAT_GC, Hid.BAT_GD, Hid.CHG_I,
      Hid.CHG_N, Hid.DSG_LIM, Hid.HIB_N, Hid.H_COOL, Hid.H_HI_T, Hid.H_HI_W, Hid.H_LO_T, Hid.H_LO_W, Hid.H_THR, Hid.H_TSD, Hid.H_TSD_BEAT, Hid.H_WARN, Hid.M_HI_T,
      Hid.M_HI_W, Hid.M_LO_T, Hid.M_LO_W, Hid.M_THR, Hid.M_WARN, Hid.PREV_N, Hid.TEMP_HI_T, Hid.TEMP_HI_W, Hid.TEMP_LO_T, Hid.TEMP_LO_W, Hid.THR_ON, Hid.WARN_ON,
      Reg.BFET_STATUS.CARRY_COUNT, Reg.BFET_STATUS.CAUSE, Reg.BFET_STATUS.ON_BAT_EVT, Reg.BFET_STATUS.STATE, Reg.CHG_COUNTS.ELAPSED, Reg.CHG_STATUS.CUTBACK,
      Reg.CHG_STATUS.HALF_RATE, Reg.CHG_STATUS.PHASE, Reg.CHG_STATUS.SUSP, Reg.GG_STATUS.HIB, Reg.HPD_THERM.LEVEL, Reg.HPD_THERM.RESTARTS, Reg.HPD_THERM.SENSOR_DISAGREE,
      Reg.HPD_THERM.TEMP, Reg.HPD_THERM.THR_EVT, Reg.HPD_THERM.TSD_EVT, Reg.HPD_THERM.TSD_LATCH, Reg.HPD_THERM.WARN_EVT, Reg.HPD_THERM_CTRL.SHUTDOWNS,
      Reg.MGR_THERM.LEVEL, Reg.MGR_THERM.SENSOR_DISAGREE, Reg.MGR_THERM.TEMP, Reg.MGR_THERM.THR_EVT, Reg.MGR_THERM.WARN_EVT, Reg.TILE_THERM.LEVEL,
      Reg.TILE_THERM.SENSOR_DISAGREE, Reg.TILE_THERM.TEMP, Reg.TILE_THERM.THR_EVT, Reg.TILE_THERM.WARN_EVT, Reg.VBB_STATUS.BK_RUN] s t) ∧
  (∀ (s : State), s.on Hid.H_TSD 0 → s.on Reg.HPD_THERM.TSD_LATCH 0 = false → 10 ≤ s.get Hid.H_COOL 0 → 100000 ≤ beatDiff s.beat (s.get Hid.H_TSD_BEAT 0) → Answers
      (.hpdThermalRestart) s fun t => t.on Hid.H_TSD 0 = false ∧ t.getAt Hid.H_HIST 0 0 = (2 ^ 40 + s.beat) % 2 ^ Hid.H_HIST.wid ∧ t.getAt Hid.H_HIST 0 2 = s.getAt
      Hid.H_HIST 0 1 % 2 ^ Hid.H_HIST.wid ∧ t.get Reg.VBB_STATUS.BK_RUN 0 = (s.on Reg.IIN_STATUS.VAUX_OK 0 && s.on Hid.HPD_GO 0).toNat ∧ OnlyFields [Hid.CHG_I, Hid.CHG_N,
      Hid.H_HIST, Hid.H_HI_T, Hid.H_HI_W, Hid.H_LO_T, Hid.H_LO_W, Hid.H_THR, Hid.H_TSD, Hid.H_WARN, Hid.M_HI_T, Hid.M_HI_W, Hid.M_LO_T, Hid.M_LO_W, Hid.M_THR, Hid.M_WARN,
      Hid.TEMP_HI_T, Hid.TEMP_HI_W, Hid.TEMP_LO_T, Hid.TEMP_LO_W, Hid.THR_ON, Hid.VBB_ACT, Hid.WARN_ON, Reg.CHG_COUNTS.ELAPSED, Reg.CHG_STATUS.CUTBACK,
      Reg.CHG_STATUS.HALF_RATE, Reg.CHG_STATUS.PHASE, Reg.CHG_STATUS.SUSP, Reg.HPD_THERM.LEVEL, Reg.HPD_THERM.RESTARTS, Reg.HPD_THERM.SENSOR_DISAGREE, Reg.HPD_THERM.TEMP,
      Reg.HPD_THERM.THR_EVT, Reg.HPD_THERM.WARN_EVT, Reg.MGR_THERM.LEVEL, Reg.MGR_THERM.SENSOR_DISAGREE, Reg.MGR_THERM.TEMP, Reg.MGR_THERM.THR_EVT,
      Reg.MGR_THERM.WARN_EVT, Reg.TILE_THERM.LEVEL, Reg.TILE_THERM.SENSOR_DISAGREE, Reg.TILE_THERM.TEMP, Reg.TILE_THERM.THR_EVT, Reg.TILE_THERM.WARN_EVT,
      Reg.VBB_STATUS.BK_RUN] s t)

/-- A VBB below its trip level closes an armed pair: CARRY with its cause, one more in CARRY_COUNT, both switches on with the discharge switch in linear control, the gauge awake; linear control and the charge switch end; a discharge fault opens a pair that carries and latches; a degraded switch is flagged and the pair stays closed; the handback starts from the present current and ends ARMED at 0 A; MODE writes are refused HOLDUP_BUSY while the pair carries, VAUX is invalid or HPD does not run; clearing the last pair fault arms an open pair again. -/
def Obligations.BatterySwitchPair : Prop :=
  (∀ (vbb : BitVec 16) (s : State), vbb.toNat < (s.get Reg.VBB_CFG.VBB_SET 0 - s.get Reg.VBB_CFG.TRIP_OFS 0) * 10 → s.bfet = 1 → Answers (.vbbTrip vbb) s fun t => t.bfet
      = 2 ∧ t.get Reg.BFET_STATUS.CAUSE 0 = Trip.vbb ∧ t.get Reg.BFET_STATUS.ON_BAT_EVT 0 = 1 ∧ t.get Reg.BFET_STATUS.CARRY_COUNT 0 = s.bumped Reg.BFET_STATUS.CARRY_COUNT
      0 ∧ t.get Hid.BAT_GD 0 = 1 ∧ t.get Hid.BAT_GC 0 = 1 ∧ t.get Reg.GG_STATUS.HIB 0 = 0 ∧ OnlyFields [Hid.BAT_GC, Hid.BAT_GD, Hid.CHG_I, Hid.CHG_N, Hid.DSG_LIM,
      Hid.HIB_N, Hid.PREV_N, Reg.BFET_STATUS.CARRY_COUNT, Reg.BFET_STATUS.CAUSE, Reg.BFET_STATUS.ON_BAT_EVT, Reg.BFET_STATUS.STATE, Reg.CHG_COUNTS.ELAPSED,
      Reg.CHG_STATUS.CUTBACK, Reg.CHG_STATUS.HALF_RATE, Reg.CHG_STATUS.PHASE, Reg.CHG_STATUS.SUSP, Reg.GG_STATUS.HIB, Reg.VBB_STATUS.VBB] s t) ∧
  (∀ (vbb : BitVec 16) (s : State), vbb.toNat < (s.get Reg.VBB_CFG.VBB_SET 0 - s.get Reg.VBB_CFG.TRIP_OFS 0) * 10 → s.bfet = 3 → Answers (.vbbTrip vbb) s fun t => t.bfet
      = 2 ∧ t.get Reg.BFET_STATUS.CAUSE 0 = Trip.vbb ∧ t.get Reg.BFET_STATUS.CARRY_COUNT 0 = s.get Reg.BFET_STATUS.CARRY_COUNT 0 ∧ t.get Hid.BAT_GD 0 = 1 ∧ OnlyFields
      [Hid.BAT_GC, Hid.BAT_GD, Hid.CHG_I, Hid.CHG_N, Hid.DSG_LIM, Hid.HIB_N, Hid.PREV_N, Reg.BFET_STATUS.CARRY_COUNT, Reg.BFET_STATUS.CAUSE, Reg.BFET_STATUS.ON_BAT_EVT,
      Reg.BFET_STATUS.STATE, Reg.CHG_COUNTS.ELAPSED, Reg.CHG_STATUS.CUTBACK, Reg.CHG_STATUS.HALF_RATE, Reg.CHG_STATUS.PHASE, Reg.CHG_STATUS.SUSP, Reg.GG_STATUS.HIB,
      Reg.VBB_STATUS.VBB] s t) ∧
  (∀ (s : State), s.bfet = 2 → s.get Hid.BAT_GD 0 = 1 → s.pairDrop < 300 → Answers (.bfetLinearEnd) s fun t => t.get Hid.BAT_GD 0 = 2 ∧ OnlyCells [(Hid.BAT_GD, 0, 0)] s
      t) ∧
  (∀ (s : State), s.bfet = 2 → Answers (.chargeBlockOff) s fun t => t.get Hid.BAT_GC 0 = 0 ∧ OnlyCells [(Hid.BAT_GC, 0, 0)] s t) ∧
  (∀ (s : State), s.bfet = 2 → s.get Reg.BFET_CTRL.DSG_OC_T 0 * 100 ≤ s.get Hid.DLIM_N 0 → Answers (.dsgOc) s fun t => t.bfet = 0 ∧ t.get Hid.BAT_GD 0 = 0 ∧ t.get
      Hid.BAT_GC 0 = 0 ∧ t.get Reg.BFET_STATUS.DSG_OC 0 = 1 ∧ t.logged JKind.action JStatus.ok noTarget ∧ OnlyFieldsLog [Hid.BAT_GC, Hid.BAT_GD, Hid.CHG_I, Hid.CHG_N,
      Reg.BFET_STATUS.DSG_OC, Reg.BFET_STATUS.STATE, Reg.CHG_COUNTS.ELAPSED, Reg.CHG_STATUS.CUTBACK, Reg.CHG_STATUS.HALF_RATE, Reg.CHG_STATUS.PHASE, Reg.CHG_STATUS.SUSP]
      s t) ∧
  (∀ (s : State), s.bfet = 2 → 10 ≤ s.get Hid.DSH_N 0 → Answers (.dsgShort) s fun t => t.bfet = 0 ∧ t.get Hid.BAT_GD 0 = 0 ∧ t.get Hid.BAT_GC 0 = 0 ∧ t.get
      Reg.BFET_STATUS.DSG_SHORT 0 = 1 ∧ t.logged JKind.action JStatus.ok noTarget ∧ OnlyFieldsLog [Hid.BAT_GC, Hid.BAT_GD, Hid.CHG_I, Hid.CHG_N,
      Reg.BFET_STATUS.DSG_SHORT, Reg.BFET_STATUS.STATE, Reg.CHG_COUNTS.ELAPSED, Reg.CHG_STATUS.CUTBACK, Reg.CHG_STATUS.HALF_RATE, Reg.CHG_STATUS.PHASE,
      Reg.CHG_STATUS.SUSP] s t) ∧
  (∀ (s : State), s.bfet = 2 → 100 ≤ s.get Hid.FDEG_N 0 → Answers (.fetDegraded) s fun t => t.get Reg.BFET_STATUS.FET_DEGRADED 0 = 1 ∧ OnlyCells
      [(Reg.BFET_STATUS.FET_DEGRADED, 0, 0)] s t) ∧
  (∀ (s : State), s.bfet = 2 → s.on Reg.IIN_STATUS.VAUX_OK 0 → s.on Hid.H_TSD 0 = false → max 1 (s.get Reg.BFET_CTRL.RET_DLY 0) * 1000 ≤ s.get Hid.VOK_N 0 → Answers
      (.handbackStart) s fun t => t.bfet = 3 ∧ t.get Hid.DSG_LIM 0 = min (s.get Reg.BFET_CTRL.IBAT_DLIM 0) (((max 0 (-s.ibat)).toNat + 999) / 1000) % 2 ^ Hid.DSG_LIM.wid
      ∧ OnlyCells [(Reg.BFET_STATUS.STATE, 0, 0), (Hid.HB_N, 0, 0), (Hid.DSG_LIM, 0, 0)] s t) ∧
  (∀ (s : State), s.bfet = 3 → s.on Reg.VBB_STATUS.ILIM_IN 0 = false → s.on Reg.VBB_STATUS.ILIM_OUT 0 = false → s.get Hid.DSG_LIM 0 ≤ s.get Reg.BFET_CTRL.IBAT_DLIM 0 → 20
      ≤ s.get Hid.HB_N 0 → Answers (.handbackRampStep) s fun t => t.bfet = 1 ∧ t.get Hid.BAT_GD 0 = 0 ∧ t.get Hid.BAT_GC 0 = 0 ∧ t.get Hid.DSG_LIM 0 = 0 ∧ OnlyFields
      [Hid.BAT_GC, Hid.BAT_GD, Hid.CHG_I, Hid.CHG_N, Hid.DSG_LIM, Hid.HB_N, Reg.BFET_STATUS.STATE, Reg.CHG_COUNTS.ELAPSED, Reg.CHG_STATUS.CUTBACK,
      Reg.CHG_STATUS.HALF_RATE, Reg.CHG_STATUS.PHASE, Reg.CHG_STATUS.SUSP] s t) ∧
  (∀ (s : State), s.bfet = 3 → s.on Reg.VBB_STATUS.ILIM_IN 0 = false → s.on Reg.VBB_STATUS.ILIM_OUT 0 = false → s.get Reg.BFET_CTRL.IBAT_DLIM 0 < s.get Hid.DSG_LIM 0 →
      s.get Hid.DSG_LIM 0 < 2 ^ Hid.DSG_LIM.wid → 20 ≤ s.get Hid.HB_N 0 → Answers (.handbackRampStep) s fun t => t.bfet = 3 ∧ t.get Hid.DSG_LIM 0 = s.get Hid.DSG_LIM 0 -
      s.get Reg.BFET_CTRL.IBAT_DLIM 0 ∧ OnlyCells [(Hid.DSG_LIM, 0, 0), (Hid.HB_N, 0, 0)] s t) ∧
  (∀ (w : Who) (s : State), s.modeRefused = false → s.bfet = 1 → Answers (.bfetOpen w) s fun t => t.bfet = 0 ∧ t.get Reg.BFET_CTRL.MODE 0 = 0 ∧ t.logged JKind.done
      JStatus.ok noTarget ∧ OnlyFieldsLog [Hid.BAT_GC, Hid.BAT_GD, Hid.CHG_I, Hid.CHG_N, Hid.FU_DEBUG, Hid.FU_DEVICE_ID, Hid.FU_HPD_TRIM, Hid.FU_IG, Hid.FU_ILIM,
      Hid.FU_KEY, Hid.FU_KILL, Hid.FU_K_ROOT, Hid.FU_LIFE, Hid.FU_MGR_TRIM, Hid.FU_OV, Hid.FU_PRIV, Hid.FU_PRODUCT, Hid.FU_REVOKE, Hid.FU_ROLLBACK, Hid.FU_STG,
      Hid.FU_WDT_HW, Hid.FU_WIPE, Reg.BFET_CTRL.MODE, Reg.BFET_STATUS.CFG_REJ, Reg.BFET_STATUS.STATE, Reg.CHG_COUNTS.ELAPSED, Reg.CHG_STATUS.CUTBACK,
      Reg.CHG_STATUS.HALF_RATE, Reg.CHG_STATUS.PHASE, Reg.CHG_STATUS.SUSP] s t) ∧
  (∀ (w : Who) (s : State), s.modeRefused = false → s.bfet = 0 → Answers (.bfetOpen w) s fun t => t.bfet = 0 ∧ t.logged JKind.done JStatus.ok noTarget ∧ OnlyFieldsLog []
      s t) ∧
  (∀ (w : Who) (s : State), s.modeRefused = false → s.bfet = 0 → s.pairFaulted = false → s.triggerNow = none → Answers (.bfetArm w) s fun t => t.bfet = 1 ∧ t.get
      Reg.BFET_CTRL.MODE 0 = 1 ∧ t.logged JKind.done JStatus.ok noTarget ∧ OnlyFieldsLog [Hid.BAT_GC, Hid.BAT_GD, Hid.CHG_I, Hid.CHG_N, Hid.DSG_LIM, Hid.FU_DEBUG,
      Hid.FU_DEVICE_ID, Hid.FU_HPD_TRIM, Hid.FU_IG, Hid.FU_ILIM, Hid.FU_KEY, Hid.FU_KILL, Hid.FU_K_ROOT, Hid.FU_LIFE, Hid.FU_MGR_TRIM, Hid.FU_OV, Hid.FU_PRIV,
      Hid.FU_PRODUCT, Hid.FU_REVOKE, Hid.FU_ROLLBACK, Hid.FU_STG, Hid.FU_WDT_HW, Hid.FU_WIPE, Hid.HIB_N, Hid.PREV_N, Reg.BFET_CTRL.MODE, Reg.BFET_STATUS.CARRY_COUNT,
      Reg.BFET_STATUS.CAUSE, Reg.BFET_STATUS.CFG_REJ, Reg.BFET_STATUS.ON_BAT_EVT, Reg.BFET_STATUS.STATE, Reg.CHG_COUNTS.ELAPSED, Reg.CHG_STATUS.CUTBACK,
      Reg.CHG_STATUS.HALF_RATE, Reg.CHG_STATUS.PHASE, Reg.CHG_STATUS.SUSP, Reg.GG_STATUS.HIB] s t) ∧
  (∀ (w : Who) (s : State), s.modeRefused = false → (s.bfet = 1 ∨ s.pairFaulted) → Answers (.bfetArm w) s fun t => t.bfet = s.bfet ∧ t.get Reg.BFET_CTRL.MODE 0 = 1 ∧
      t.logged JKind.done JStatus.ok noTarget ∧ OnlyFieldsLog [Reg.BFET_CTRL.MODE] s t) ∧
  (∀ (w : Who) (s : State), s.modeRefused → Answers (.bfetArm w) s fun t => t.get Reg.BFET_STATUS.CFG_REJ 0 = 1 ∧ t.bfet = s.bfet ∧ t.logged JKind.refused
      JStatus.holdupBusy noTarget ∧ OnlyFieldsLog [Reg.BFET_STATUS.CFG_REJ] s t) ∧
  (∀ (w : Who) (oc short : Bool) (s : State), oc = true → short = true → s.pairFaulted → s.bfet = 0 → s.get Reg.BFET_CTRL.MODE 0 = 1 → s.triggerNow = none → Answers
      (.bfetFaultClear w oc short) s fun t => t.bfet = 1 ∧ t.pairFaulted = false ∧ OnlyFields [Hid.BAT_GC, Hid.BAT_GD, Hid.CHG_I, Hid.CHG_N, Hid.DSG_LIM, Hid.HIB_N,
      Hid.PREV_N, Reg.BFET_STATUS.CARRY_COUNT, Reg.BFET_STATUS.CAUSE, Reg.BFET_STATUS.DSG_OC, Reg.BFET_STATUS.DSG_SHORT, Reg.BFET_STATUS.ON_BAT_EVT,
      Reg.BFET_STATUS.STATE, Reg.CHG_COUNTS.ELAPSED, Reg.CHG_STATUS.CUTBACK, Reg.CHG_STATUS.HALF_RATE, Reg.CHG_STATUS.PHASE, Reg.CHG_STATUS.SUSP, Reg.GG_STATUS.HIB] s t) ∧
  (∀ (w : Who) (oc short : Bool) (s : State), (s.bfet ≠ 0 ∨ s.get Reg.BFET_CTRL.MODE 0 = 0) → Answers (.bfetFaultClear w oc short) s fun t => t.bfet = s.bfet ∧ (oc = true
      → t.get Reg.BFET_STATUS.DSG_OC 0 = 0) ∧ (short = true → t.get Reg.BFET_STATUS.DSG_SHORT 0 = 0) ∧ OnlyFields [Reg.BFET_STATUS.DSG_OC, Reg.BFET_STATUS.DSG_SHORT] s t)

/-- Enabling an OFF charger goes to DETECT with the timers at 0 and disabling a charging one to OFF; TRICKLE, PRE, CC, CV and DONE follow one another at their thresholds, and DONE returns to DETECT on a recharge, each with its own safety timer, which CC and CV share; a BTS conversion shows the temperature and its window; the faults latch, end in FAULT and are journalled; the presence test runs from DETECT and its end shows the battery, or latches NO_BAT; clearing the last fault starts DETECT with CHG_EN set. Readings and choices of the model that it rests on: log entries 54, 112, 113. -/
def Obligations.ChargerPhases : Prop :=
  (∀ (w : Who) (en : Bool) (s : State), en = true → s.on Reg.CHG_CFG.CHG_EN 0 = false → s.chg = Chg.off → s.chgStops = false → Answers (.chgEnable w en) s fun t => t.chg
      = Chg.detect ∧ t.get Reg.CHG_CFG.CHG_EN 0 = 1 ∧ (∀ k ∈ List.range 3, t.getAt Hid.CHG_TQ 0 k = 0) ∧ t.get Reg.CHG_COUNTS.ELAPSED 0 = 0 ∧ OnlyFields [Hid.CHG_I,
      Hid.CHG_N, Hid.CHG_TQ, Reg.CHG_CFG.CHG_EN, Reg.CHG_COUNTS.ELAPSED, Reg.CHG_STATUS.CUTBACK, Reg.CHG_STATUS.HALF_RATE, Reg.CHG_STATUS.PHASE, Reg.CHG_STATUS.SUSP] s t) ∧
  (∀ (w : Who) (en : Bool) (s : State), en = false → s.chg = Chg.cc → Answers (.chgEnable w en) s fun t => t.chg = Chg.off ∧ t.get Reg.CHG_CFG.CHG_EN 0 = 0 ∧ OnlyFields
      [Hid.CHG_I, Hid.CHG_N, Hid.CHG_TQ, Reg.CHG_CFG.CHG_EN, Reg.CHG_COUNTS.ELAPSED, Reg.CHG_STATUS.CUTBACK, Reg.CHG_STATUS.HALF_RATE, Reg.CHG_STATUS.PHASE,
      Reg.CHG_STATUS.SUSP] s t) ∧
  (∀ (s : State), s.chg = Chg.trickle → s.chgLeaves → 100000 ≤ s.get Hid.CHG_N 0 → Answers (.chgVpreReached) s fun t => t.chg = Chg.pre ∧ t.get Reg.CHG_COUNTS.ELAPSED 0 =
      s.getAt Hid.CHG_TQ 0 1 / 120000 % 2 ^ Reg.CHG_COUNTS.ELAPSED.wid ∧ OnlyFields [Hid.CHG_I, Hid.CHG_N, Reg.CHG_COUNTS.ELAPSED, Reg.CHG_STATUS.CUTBACK,
      Reg.CHG_STATUS.HALF_RATE, Reg.CHG_STATUS.PHASE] s t) ∧
  (∀ (s : State), s.chg = Chg.pre → s.chgLeaves → 100000 ≤ s.get Hid.CHG_N 0 → Answers (.chgVccReached) s fun t => t.chg = Chg.cc ∧ t.get Reg.CHG_COUNTS.ELAPSED 0 =
      s.getAt Hid.CHG_TQ 0 2 / 120000 % 2 ^ Reg.CHG_COUNTS.ELAPSED.wid ∧ OnlyFields [Hid.CHG_I, Hid.CHG_N, Reg.CHG_COUNTS.ELAPSED, Reg.CHG_STATUS.CUTBACK,
      Reg.CHG_STATUS.HALF_RATE, Reg.CHG_STATUS.PHASE] s t) ∧
  (∀ (s : State), s.chg = Chg.cc → s.vcvNow ≤ s.vbat → Answers (.chgVcvReached) s fun t => t.chg = Chg.cv ∧ (∀ k ∈ List.range 3, t.getAt Hid.CHG_TQ 0 k = s.getAt
      Hid.CHG_TQ 0 k) ∧ t.get Hid.CV_WARM 0 = (decide (2 ≤ s.get Reg.CHG_STATUS.WINDOW 0)).toNat ∧ OnlyFields [Hid.CHG_I, Hid.CHG_N, Hid.CV_WARM, Reg.CHG_COUNTS.ELAPSED,
      Reg.CHG_STATUS.CUTBACK, Reg.CHG_STATUS.HALF_RATE, Reg.CHG_STATUS.PHASE] s t) ∧
  (∀ (s : State), s.chg = Chg.cv → s.chgLeaves → 3000000 ≤ s.get Hid.CHG_N 0 → Answers (.chgTerminate) s fun t => t.chg = Chg.done ∧ t.get Hid.FULL_PEND 0 = (!s.on
      Hid.CV_WARM 0).toNat ∧ OnlyFields [Hid.CHG_I, Hid.CHG_N, Hid.FULL_PEND, Reg.CHG_COUNTS.ELAPSED, Reg.CHG_STATUS.CUTBACK, Reg.CHG_STATUS.HALF_RATE,
      Reg.CHG_STATUS.PHASE] s t) ∧
  (∀ (s : State), s.chg = Chg.done → s.chgStops = false → s.chgLeaves → 1000000 ≤ s.get Hid.CHG_N 0 → Answers (.chgRecharge) s fun t => t.chg = Chg.detect ∧ t.get
      Reg.CHG_COUNTS.RCH_COUNT 0 = s.bumped Reg.CHG_COUNTS.RCH_COUNT 0 ∧ t.get Reg.CHG_COUNTS.ELAPSED 0 = 0 ∧ OnlyFields [Hid.CHG_I, Hid.CHG_N, Hid.CHG_TQ,
      Reg.CHG_COUNTS.ELAPSED, Reg.CHG_COUNTS.RCH_COUNT, Reg.CHG_STATUS.CUTBACK, Reg.CHG_STATUS.HALF_RATE, Reg.CHG_STATUS.PHASE, Reg.CHG_STATUS.SUSP] s t) ∧
  (∀ (mv : BitVec 11) (x : Int) (s : State), Answers (.btsConversion mv x) s fun t => t.get Reg.CHG_STATUS.BTEMP 0 = twos 16 (satS 16 x) ∧ (x < 0 → t.get
      Reg.CHG_STATUS.WINDOW 0 = 3) ∧ (960 < x → t.get Reg.CHG_STATUS.WINDOW 0 = 3) ∧ (208 ≤ x → x ≤ 672 → t.get Reg.CHG_STATUS.WINDOW 0 = 0) ∧ OnlyFields [Hid.BTS_N,
      Hid.BT_HIGH, Hid.BT_LOW, Hid.CHG_I, Hid.CHG_N, Hid.CHG_TQ, Hid.CV_WARM, Reg.CHG_COUNTS.ELAPSED, Reg.CHG_STATUS.BTEMP, Reg.CHG_STATUS.CUTBACK,
      Reg.CHG_STATUS.HALF_RATE, Reg.CHG_STATUS.PHASE, Reg.CHG_STATUS.SUSP, Reg.CHG_STATUS.WINDOW] s t) ∧
  (∀ (s : State), s.on Reg.CHG_FAULT.BTS_FLT 0 = false → 100 ≤ s.get Hid.BTS_N 0 → Answers (.btsFault) s fun t => t.chg = Chg.fault ∧ t.get Reg.CHG_FAULT.BTS_FLT 0 = 1 ∧
      t.logged JKind.action JStatus.ok noTarget ∧ OnlyFieldsLog [Hid.CHG_I, Hid.CHG_N, Reg.CHG_COUNTS.ELAPSED, Reg.CHG_FAULT.BTS_FLT, Reg.CHG_STATUS.CUTBACK,
      Reg.CHG_STATUS.HALF_RATE, Reg.CHG_STATUS.PHASE, Reg.CHG_STATUS.SUSP] s t) ∧
  (∀ (s : State), s.timerDue → s.on (timerLatch (timerOf s.chg)) 0 = false → Answers (.chgTimerExpire) s fun t => t.chg = Chg.fault ∧ t.get (timerLatch (timerOf s.chg)) 0
      = 1 ∧ t.logged JKind.action JStatus.ok noTarget ∧ OnlyFieldsLog [Hid.CHG_I, Hid.CHG_N, Reg.CHG_COUNTS.ELAPSED, Reg.CHG_FAULT.TCHG_TMO, Reg.CHG_FAULT.TPRE_TMO,
      Reg.CHG_FAULT.TTRK_TMO, Reg.CHG_STATUS.CUTBACK, Reg.CHG_STATUS.HALF_RATE, Reg.CHG_STATUS.PHASE, Reg.CHG_STATUS.SUSP] s t) ∧
  (∀ (s : State), s.on Reg.CHG_FAULT.BAT_OV 0 = false → 100 ≤ s.get Hid.BOV_N 0 → Answers (.batOv) s fun t => t.chg = Chg.fault ∧ t.get Reg.CHG_FAULT.BAT_OV 0 = 1 ∧
      (s.chg = Chg.cc ∨ s.chg = Chg.cv → t.get Hid.SWAP_PEND 0 = 1) ∧ t.logged JKind.action JStatus.ok noTarget ∧ OnlyFieldsLog [Hid.CHG_I, Hid.CHG_N, Hid.SWAP_PEND,
      Reg.CHG_COUNTS.ELAPSED, Reg.CHG_FAULT.BAT_OV, Reg.CHG_STATUS.CUTBACK, Reg.CHG_STATUS.HALF_RATE, Reg.CHG_STATUS.PHASE, Reg.CHG_STATUS.SUSP] s t) ∧
  (∀ (s : State), s.chg = Chg.trickle → s.on Reg.CHG_FAULT.BAT_SHORT 0 = false → 200000 ≤ s.get Hid.BSH_N 0 → Answers (.batShort) s fun t => t.chg = Chg.fault ∧ t.get
      Reg.CHG_FAULT.BAT_SHORT 0 = 1 ∧ t.logged JKind.action JStatus.ok noTarget ∧ OnlyFieldsLog [Hid.CHG_I, Hid.CHG_N, Reg.CHG_COUNTS.ELAPSED, Reg.CHG_FAULT.BAT_SHORT,
      Reg.CHG_STATUS.CUTBACK, Reg.CHG_STATUS.HALF_RATE, Reg.CHG_STATUS.PHASE, Reg.CHG_STATUS.SUSP] s t) ∧
  (∀ (s : State), s.on Reg.CHG_FAULT.CHG_OC 0 = false → 100 ≤ s.get Hid.COC_N 0 → Answers (.chgOc) s fun t => t.chg = Chg.fault ∧ t.get Reg.CHG_FAULT.CHG_OC 0 = 1 ∧
      t.logged JKind.action JStatus.ok noTarget ∧ OnlyFieldsLog [Hid.CHG_I, Hid.CHG_N, Reg.CHG_COUNTS.ELAPSED, Reg.CHG_FAULT.CHG_OC, Reg.CHG_STATUS.CUTBACK,
      Reg.CHG_STATUS.HALF_RATE, Reg.CHG_STATUS.PHASE, Reg.CHG_STATUS.SUSP] s t) ∧
  (∀ (s : State), s.on Hid.PT_BUSY 0 = false → s.chg = Chg.detect → Answers (.presenceTestStart) s fun t => t.get Hid.PT_BUSY 0 = 1 ∧ t.get Hid.PT_V0 0 = s.vbat % 2 ^
      Hid.PT_V0.wid ∧ t.get Hid.PT_MIN 0 = s.vbat % 2 ^ Hid.PT_MIN.wid ∧ OnlyFields [Hid.PT_BUSY, Hid.PT_N, Hid.PT_V0, Hid.PT_MIN] s t) ∧
  (∀ (s : State), s.on Hid.PT_BUSY 0 = false → (s.chg = Chg.off ∨ Chg.done ≤ s.chg) → s.bfet ≤ 1 → 1000000 ≤ s.get Hid.PT_N 0 → Answers (.presenceTestStart) s fun t =>
      t.get Hid.PT_BUSY 0 = 1 ∧ t.get Hid.PT_V0 0 = s.vbat % 2 ^ Hid.PT_V0.wid ∧ t.get Hid.PT_MIN 0 = s.vbat % 2 ^ Hid.PT_MIN.wid ∧ OnlyFields [Hid.PT_BUSY, Hid.PT_N,
      Hid.PT_V0, Hid.PT_MIN] s t) ∧
  (∀ (id : Option (BitVec 64)) (s : State), s.on Hid.PT_BUSY 0 → 2000 ≤ s.get Hid.PT_N 0 → s.missing → s.chg = Chg.detect → s.on Reg.CHG_FAULT.NO_BAT 0 = false → Answers
      (.presenceTestEnd id) s fun t => t.get Hid.PT_BUSY 0 = 0 ∧ t.get Hid.PT_N 0 = 0 ∧ t.chg = Chg.fault ∧ t.get Reg.CHG_FAULT.NO_BAT 0 = 1 ∧ t.get
      Reg.CHG_STATUS.BAT_PRESENT 0 = 0 ∧ t.get Reg.PACK_STATUS.AUTH_STATE 0 = Auth.none) ∧
  (∀ (id : Option (BitVec 64)) (s : State), s.on Hid.PT_BUSY 0 → 2000 ≤ s.get Hid.PT_N 0 → s.missing = false → s.chg ≠ Chg.detect → Answers (.presenceTestEnd id) s fun t
      => t.get Hid.PT_BUSY 0 = 0 ∧ t.get Hid.PT_N 0 = 0 ∧ t.get Reg.CHG_STATUS.BAT_PRESENT 0 = 1 ∧ (id = none → t.get Reg.PACK_STATUS.LINE_ERR 0 = 1)) ∧
  (∀ (id : Option (BitVec 64)) (s : State), s.on Hid.PT_BUSY 0 → 2000 ≤ s.get Hid.PT_N 0 → s.missing = false → s.chg = Chg.detect → s.on Reg.CHG_CFG.CHG_EN 0 → s.on
      Reg.CHG_STATUS.BAT_PRESENT 0 → id = some (BitVec.ofNat 64 (s.get Hid.PACK_ID 0)) → s.on Hid.SWAP_PEND 0 = false → s.chgStops = false → Answers (.presenceTestEnd id)
      s fun t => t.get Hid.PT_BUSY 0 = 0 ∧ t.get Hid.PT_N 0 = 0 ∧ t.get Reg.CHG_STATUS.BAT_PRESENT 0 = 1 ∧ t.chg = s.firstPhase s.vbat ∧ t.get Hid.CV_WARM 0 = (decide (2
      ≤ s.get Reg.CHG_STATUS.WINDOW 0)).toNat) ∧
  (∀ (w : Who) (mask : BitVec 9) (s : State), mask.toNat % 256 = 255 → s.chg = Chg.fault → s.on Reg.CHG_CFG.CHG_EN 0 → s.chgStops = false → (s.on Reg.CHG_FAULT.BTS_FLT 0
      = false ∨ mask.toNat.testBit Reg.CHG_FAULT.BTS_FLT.lo) → Answers (.chgFaultClear w mask) s fun t => t.chg = Chg.detect ∧ t.get Reg.CHG_COUNTS.ELAPSED 0 = 0 ∧
      OnlyFields [Hid.CHG_I, Hid.CHG_N, Hid.CHG_TQ, Reg.CHG_COUNTS.ELAPSED, Reg.CHG_FAULT.BAT_OV, Reg.CHG_FAULT.BAT_SHORT, Reg.CHG_FAULT.BTS_FLT, Reg.CHG_FAULT.CHG_OC,
      Reg.CHG_FAULT.NO_BAT, Reg.CHG_FAULT.TCHG_TMO, Reg.CHG_FAULT.TPRE_TMO, Reg.CHG_FAULT.TTRK_TMO, Reg.CHG_STATUS.CUTBACK, Reg.CHG_STATUS.HALF_RATE,
      Reg.CHG_STATUS.PHASE, Reg.CHG_STATUS.SUSP] s t) ∧
  (∀ (w : Who) (mask : BitVec 9) (s : State), s.chg ≠ Chg.fault → Answers (.chgFaultClear w mask) s fun t => t.chg = s.chg ∧ (∀ b ∈ chgFaultBits, mask.toNat.testBit b.lo
      → t.get b 0 = 0) ∧ OnlyFields chgFaultBits s t)

/-- A frame of a gauge that does not hibernate shows the sample, adds the current, which is the shunt's voltage over its resistance, to the charge, or takes the full anchor of the charger's end, and starts over the streak of frames below 50 mA where it is not; the 500th frame below V_EMPTY zeroes the charge with EMPTY_EVT; sixty thousand small samples hibernate; a hibernating conversion adds its mean for a second; waking ends it; a store advances each present manager's sequence and slot in rotation and clears the step flag; INVALIDATE discards the charge state. Readings and choices of the model that it rests on: log entries 52, 115. -/
def Obligations.GaugeFramesAndAnchors : Prop :=
  (∀ (u : Int) (v : BitVec 16) (s : State), s.on Reg.GG_STATUS.HIB 0 = false → s.on Hid.FULL_PEND 0 = false → (s.getI Hid.GG_Q 0).natAbs ≤ 2 ^ 62 → (s.shuntMa u).natAbs ≤
      2 ^ 40 → Answers (.gaugeFrame u v) s fun t => t.getI Hid.GG_Q 0 = s.getI Hid.GG_Q 0 + s.shuntMa u ∧ t.get Reg.GG_SAMPLE_V.VBAT_S 0 = v.toNat % 2 ^
      Reg.GG_SAMPLE_V.VBAT_S.wid ∧ t.get Hid.HIB_N 0 = (if (s.shuntMa u).natAbs < 50 then s.bumped Hid.HIB_N 0 else 0) ∧ t.get Hid.STORE_N 0 = s.bumped Hid.STORE_N 0 ∧
      (500 < s.shuntMa u → t.get Reg.GG_STATUS.LEARNING 0 = 0) ∧ t.mem = s.mem) ∧
  (∀ (u : Int) (v : BitVec 16) (s : State), s.on Reg.GG_STATUS.HIB 0 = false → s.on Hid.FULL_PEND 0 → s.get Hid.EMPTY_N 0 ≠ 499 → s.get Hid.EMPTY_N 0 ≠ 500 → Answers
      (.gaugeFrame u v) s fun t => t.getI Hid.GG_Q 0 = (s.fcc : Int) * 3600000 ∧ t.get Hid.FULL_PEND 0 = 0 ∧ t.get Reg.GG_STATUS.SOC_VALID 0 = 1 ∧ t.get
      Reg.GG_STATUS.FULL_EVT 0 = 1 ∧ t.get Hid.RUN_ACC 0 = 0 ∧ t.get Reg.GG_STATUS.LEARNING 0 = 1) ∧
  (∀ (s : State), s.get Hid.EMPTY_N 0 = 500 → Answers (.emptyAnchor) s fun t => t.get Hid.GG_Q 0 = 0 ∧ t.get Hid.EMPTY_N 0 = 501 ∧ t.get Reg.GG_STATUS.EMPTY_EVT 0 = 1 ∧
      t.get Reg.GG_STATUS.REST_EST 0 = 0 ∧ t.get Reg.GG_STATUS.LEARNING 0 = 0) ∧
  (∀ (s : State), 60000 ≤ s.get Hid.HIB_N 0 → s.on Reg.GG_STATUS.HIB 0 = false → Answers (.hibernate) s fun t => t.get Reg.GG_STATUS.HIB 0 = 1 ∧ t.get
      Reg.GG_STATUS.LEARNING 0 = 0) ∧
  (∀ (u : Int) (s : State), s.on Reg.GG_STATUS.HIB 0 → (s.getI Hid.GG_Q 0).natAbs ≤ 2 ^ 62 → (s.shuntMa u).natAbs ≤ 2 ^ 40 → Answers (.hibConversion u) s fun t => t.getI
      Hid.GG_Q 0 = s.getI Hid.GG_Q 0 + s.shuntMa u * 1000 ∧ t.mem = s.mem) ∧
  (∀ (s : State), Answers (.gaugeWake) s fun t => t.get Reg.GG_STATUS.HIB 0 = 0 ∧ t.get Hid.HIB_N 0 = 0 ∧ (s.on Reg.GG_STATUS.HIB 0 → t.get Hid.PREV_N 0 = 0) ∧ OnlyCells
      [(Reg.GG_STATUS.HIB, 0, 0), (Hid.HIB_N, 0, 0), (Hid.PREV_N, 0, 0)] s t) ∧
  (∀ (a : Mgr) (s : State), s.on Reg.GG_STATUS.HIB 0 = false → 60000 ≤ s.get Hid.STORE_N 0 → s.active = some a.val → Answers (.gaugeStore) s fun t => (∀ m : Mgr, s.on
      Hid.PRESENT m → t.get Hid.GG_SEQ m = (s.get Hid.GG_SEQ a + 1) % 2 ^ 32 ∧ t.get Hid.GG_SLOT m = (if 2 ≤ s.get Hid.GG_SLOT m then 0 else s.get Hid.GG_SLOT m + 1)) ∧
      ((∃ m : Mgr, s.on Hid.PRESENT m) → t.get Reg.RTC_STATUS.GAUGE_BSTEP 0 = 0) ∧ t.get Hid.STORE_N 0 = 0) ∧
  (∀ (w : Who) (a : Mgr) (s : State), s.active = some a.val → Answers (.ggStore w) s fun t => (∀ m : Mgr, s.on Hid.PRESENT m → t.get Hid.GG_SEQ m = (s.get Hid.GG_SEQ a +
      1) % 2 ^ 32 ∧ t.get Hid.GG_SLOT m = (if 2 ≤ s.get Hid.GG_SLOT m then 0 else s.get Hid.GG_SLOT m + 1)) ∧ t.get Reg.GG_STATUS.HIB 0 = 0 ∧ t.logged JKind.done
      JStatus.ok noTarget) ∧
  (∀ (w : Who) (s : State), s.active = none → Answers (.ggStore w) s fun t => t.get Reg.GG_STATUS.HIB 0 = 0 ∧ t.logged JKind.done JStatus.ok noTarget ∧ t.mem = s.mem) ∧
  (∀ (w : Who) (s : State), Answers (.invalidate w) s fun t => t.get Hid.GG_Q 0 = 0 ∧ t.get Reg.GG_STATUS.SOC_VALID 0 = 0 ∧ t.get Reg.GG_STATUS.SWAP_EVT 0 = 1 ∧ t.get
      Hid.PACK_ID 0 = s.get Hid.PACK_ID 0 % 2 ^ 64 ∧ t.get Reg.PACK_STATUS.AUTH_STATE 0 = s.get Reg.PACK_STATUS.AUTH_STATE 0 ∧ t.logged JKind.done JStatus.ok noTarget)

/-- A start with a present pack that must authenticate and an active manager begins an exchange, PENDING with its tries at 0; a good GET_ID reply goes on to the challenge with its nonce, and another PACK_ID is a swap first; the MAC that the safety core expects gives VERIFIED, any other FAILED, counted; a queued trigger then begins a new series; a reply that is no good frame, and a missing one, give NO_REPLY, with LINE_ERR where the pack did not refuse; a retry that is due begins another attempt; every verdict shows AUTH_EVT and is journalled. Readings and choices of the model that it rests on: log entries 22, 116. -/
def Obligations.PackAuthentication : Prop :=
  (∀ (w : Who) (s : State), s.on Hid.AUTH_RUN 0 = false → s.on Reg.CHG_STATUS.BAT_PRESENT 0 → s.on Reg.PACK_CFG.AUTH_REQ 0 → s.active.isSome → Answers (.authStart w) s
      fun t => t.get Reg.PACK_STATUS.AUTH_STATE 0 = Auth.pending ∧ t.get Hid.AUTH_RUN 0 = 1 ∧ t.get Reg.PACK_STATUS.TRIES 0 = 0 ∧ t.logged JKind.done JStatus.ok noTarget
      ∧ OnlyFieldsLog [Hid.AUTH_N, Hid.AUTH_Q, Hid.AUTH_RUN, Hid.CHG_I, Hid.CHG_N, Hid.FU_DEBUG, Hid.FU_DEVICE_ID, Hid.FU_HPD_TRIM, Hid.FU_IG, Hid.FU_ILIM, Hid.FU_KEY,
      Hid.FU_KILL, Hid.FU_K_ROOT, Hid.FU_LIFE, Hid.FU_MGR_TRIM, Hid.FU_OV, Hid.FU_PRIV, Hid.FU_PRODUCT, Hid.FU_REVOKE, Hid.FU_ROLLBACK, Hid.FU_STG, Hid.FU_WDT_HW,
      Hid.FU_WIPE, Hid.PL_TX, Reg.CHG_COUNTS.ELAPSED, Reg.CHG_STATUS.CUTBACK, Reg.CHG_STATUS.HALF_RATE, Reg.CHG_STATUS.PHASE, Reg.CHG_STATUS.SUSP,
      Reg.PACK_CTRL.AUTH_START, Reg.PACK_STATUS.AUTH_STATE, Reg.PACK_STATUS.TRIES] s t) ∧
  (∀ (reply : List Byte) (nonce : BitVec 128) (b : List Byte) (s : State), s.get Hid.AUTH_RUN 0 = 1 → packPayload 1 8 reply = some b → leNat b = s.get Hid.PACK_ID 0 →
      s.active.isSome → Answers (.getId reply nonce) s fun t => t.get Hid.AUTH_RUN 0 = 2 ∧ t.get Hid.AUTH_NONCE 0 = nonce.toNat ∧ t.get Hid.AUTH_N 0 = 0 ∧ OnlyCells
      [(Hid.AUTH_RUN, 0, 0), (Hid.AUTH_NONCE, 0, 0), (Hid.PL_TX, 0, 0), (Hid.AUTH_N, 0, 0)] s t) ∧
  (∀ (reply : List Byte) (nonce : BitVec 128) (b : List Byte) (s : State), s.get Hid.AUTH_RUN 0 = 1 → packPayload 1 8 reply = some b → leNat b ≠ s.get Hid.PACK_ID 0 →
      s.active.isSome → Answers (.getId reply nonce) s fun t => t.get Hid.AUTH_RUN 0 = 2 ∧ t.get Hid.AUTH_NONCE 0 = nonce.toNat ∧ t.get Hid.PACK_ID 0 = leNat b % 2 ^ 64 ∧
      t.get Reg.GG_STATUS.SWAP_EVT 0 = 1 ∧ t.get Reg.GG_STATUS.SOC_VALID 0 = 0) ∧
  (∀ (reply : List Byte) (nonce : BitVec 128) (s : State), s.get Hid.AUTH_RUN 0 = 1 → packPayload 1 8 reply = none → s.on Hid.AUTH_Q 0 = false → Answers (.getId reply
      nonce) s fun t => t.get Reg.PACK_STATUS.AUTH_STATE 0 = Auth.noReply ∧ ((packRefuses reply = false → t.get Reg.PACK_STATUS.LINE_ERR 0 = 1)) ∧ t.get
      Reg.PACK_STATUS.AUTH_EVT 0 = 1 ∧ t.get Reg.PACK_STATUS.TRIES 0 = s.bumped Reg.PACK_STATUS.TRIES 0 ∧ t.get Hid.AUTH_RUN 0 = 0 ∧ t.logged JKind.action JStatus.ok
      noTarget) ∧
  (∀ (reply b : List Byte) (s : State), s.get Hid.AUTH_RUN 0 = 2 → packPayload 2 32 reply = some b → s.active.isSome → s.on Hid.AUTH_Q 0 = false → Answers (.challenge
      reply) s fun t => t.get Reg.PACK_STATUS.AUTH_STATE 0 = (if beNat b = s.packMac then Auth.verified else Auth.failed) ∧ t.get Reg.PACK_STATUS.AUTH_EVT 0 = 1 ∧ t.get
      Reg.PACK_STATUS.FAIL_COUNT 0 = (if beNat b = s.packMac then s.get Reg.PACK_STATUS.FAIL_COUNT 0 else s.bumped Reg.PACK_STATUS.FAIL_COUNT 0) ∧ t.get Hid.AUTH_RUN 0 =
      0 ∧ t.logged JKind.action JStatus.ok noTarget) ∧
  (∀ (reply b : List Byte) (s : State), s.get Hid.AUTH_RUN 0 = 2 → packPayload 2 32 reply = some b → s.active.isSome → s.on Hid.AUTH_Q 0 → s.on Reg.CHG_STATUS.BAT_PRESENT
      0 → s.on Reg.PACK_CFG.AUTH_REQ 0 → Answers (.challenge reply) s fun t => t.get Reg.PACK_STATUS.AUTH_EVT 0 = 1 ∧ t.get Reg.PACK_STATUS.FAIL_COUNT 0 = (if beNat b =
      s.packMac then s.get Reg.PACK_STATUS.FAIL_COUNT 0 else s.bumped Reg.PACK_STATUS.FAIL_COUNT 0) ∧ t.get Reg.PACK_STATUS.AUTH_STATE 0 = Auth.pending ∧ t.get
      Hid.AUTH_RUN 0 = 1 ∧ t.get Hid.AUTH_Q 0 = 0 ∧ t.get Reg.PACK_STATUS.TRIES 0 = 0) ∧
  (∀ (reply : List Byte) (s : State), s.get Hid.AUTH_RUN 0 = 2 → packPayload 2 32 reply = none → s.on Hid.AUTH_Q 0 = false → Answers (.challenge reply) s fun t => t.get
      Reg.PACK_STATUS.AUTH_STATE 0 = Auth.noReply ∧ ((packRefuses reply = false → t.get Reg.PACK_STATUS.LINE_ERR 0 = 1)) ∧ t.get Reg.PACK_STATUS.AUTH_EVT 0 = 1 ∧ t.get
      Reg.PACK_STATUS.TRIES 0 = s.bumped Reg.PACK_STATUS.TRIES 0 ∧ t.get Hid.AUTH_RUN 0 = 0 ∧ t.logged JKind.action JStatus.ok noTarget) ∧
  (∀ (s : State), s.packLate → s.on Hid.AUTH_Q 0 = false → Answers (.packReplyTimeout) s fun t => t.get Reg.PACK_STATUS.AUTH_STATE 0 = Auth.noReply ∧ t.get
      Reg.PACK_STATUS.LINE_ERR 0 = 1 ∧ t.get Reg.PACK_STATUS.AUTH_EVT 0 = 1 ∧ t.get Reg.PACK_STATUS.TRIES 0 = s.bumped Reg.PACK_STATUS.TRIES 0 ∧ t.get Hid.AUTH_RUN 0 = 0
      ∧ OnlyFieldsLog [Hid.AUTH_N, Hid.AUTH_Q, Hid.AUTH_RUN, Hid.CHG_I, Hid.CHG_N, Hid.PL_TX, Reg.CHG_COUNTS.ELAPSED, Reg.CHG_STATUS.CUTBACK, Reg.CHG_STATUS.HALF_RATE,
      Reg.CHG_STATUS.PHASE, Reg.CHG_STATUS.SUSP, Reg.PACK_STATUS.AUTH_EVT, Reg.PACK_STATUS.AUTH_STATE, Reg.PACK_STATUS.FAIL_COUNT, Reg.PACK_STATUS.LINE_ERR,
      Reg.PACK_STATUS.TRIES] s t) ∧
  (∀ (s : State), s.authDue → s.on Hid.AUTH_RUN 0 = false → s.on Reg.CHG_STATUS.BAT_PRESENT 0 → s.on Reg.PACK_CFG.AUTH_REQ 0 → s.active.isSome → Answers (.authRetry) s
      fun t => t.get Reg.PACK_STATUS.AUTH_STATE 0 = Auth.pending ∧ t.get Hid.AUTH_RUN 0 = 1 ∧ t.get Reg.PACK_STATUS.TRIES 0 = s.get Reg.PACK_STATUS.TRIES 0 ∧ OnlyFields
      [Hid.AUTH_N, Hid.AUTH_Q, Hid.AUTH_RUN, Hid.CHG_I, Hid.CHG_N, Hid.PL_TX, Reg.CHG_COUNTS.ELAPSED, Reg.CHG_STATUS.CUTBACK, Reg.CHG_STATUS.HALF_RATE,
      Reg.CHG_STATUS.PHASE, Reg.CHG_STATUS.SUSP, Reg.PACK_STATUS.AUTH_STATE] s t)

/-- MET starts with its serial number and is in METER_FAULT where a sensed serial number fails; a sample adds its energy exactly to the register and remainder of its direction, none while a stream is stuck; a grid instant adds the waiting half and, with 100 mWh gathered, starts a pulse; a stream stuck for 1 ms flags the interval, and both free for 10 ms clears it; a failed clock check takes the internal oscillator; at a multiple of 900 operating seconds a record is taken and a new interval begins; a store writes the next of three cells and cuts are known by their CRC; the watchdog flags SELF_RESET; a falling supply stores once more and stops MET. Readings and choices of the model that it rests on: log entries 23, 117. -/
def Obligations.MetCounting : Prop :=
  (∀ (serial : BitVec 64) (sok kok : Bool) (bok : BitVec 4) (s : State), s.metUp = false → s.on Hid.MET_LOCKED 0 = false → serial ≠ 0 → sok = false → Answers (.metPowerUp
      serial sok kok bok) s fun t => t.metUp ∧ t.get Hid.MET_SERIAL 0 = serial.toNat ∧ t.get Hid.MET_SERIAL_OK 0 = 0 ∧ t.on Hid.MET_FAULTED 0 ∧ t.metRuns = false ∧
      t.metTxA = [] ∧ t.metTxB = []) ∧
  (∀ (serial : BitVec 64) (sok kok : Bool) (bok : BitVec 4) (s : State), s.metUp = false → s.on Hid.MET_LOCKED 0 = false → sok = true → kok = true → bok = 15 → Answers
      (.metPowerUp serial sok kok bok) s fun t => t.metRuns ∧ t.get Hid.MET_SERIAL 0 = serial.toNat ∧ (t.metArch.head?.map (fun x => (x.kind, x.isDone)) = some (2, true))
      ∧ t.get Hid.OPSEC_SUB 0 = 0) ∧
  (∀ (xi xv : BitVec 25) (flat : BitVec 2) (s : State), s.metRuns → s.metStuck = false → s.get Hid.E_IMP 0 < 2 ^ 62 → s.get Hid.REM_IMP 0 < 1000000 → 0 < metScale
      s.metCal.fsI s.metCal.gainI s.metCal.ofsI (metClamp xi.toInt) → Answers (.metSample xi xv flat) s fun t => t.get Hid.E_IMP 0 * 1000000 + t.get Hid.REM_IMP 0 = s.get
      Hid.E_IMP 0 * 1000000 + s.get Hid.REM_IMP 0 + metSampleEnergy s.metCal (metScale s.metCal.fsI s.metCal.gainI s.metCal.ofsI (metClamp xi.toInt)) (metScale
      s.metCal.fsV s.metCal.gainV s.metCal.ofsV (metClamp xv.toInt)) ∧ t.get Hid.REM_IMP 0 < 1000000 ∧ t.get Hid.E_EXP 0 = s.get Hid.E_EXP 0 ∧ t.get Hid.OPSEC 0 = (if
      s.get Hid.OPSEC_SUB 0 < 3999 then s.get Hid.OPSEC 0 else (s.get Hid.OPSEC 0 + 1) % 2 ^ 64) ∧ OnlyFields [Hid.DENS_N, Hid.E_EXP, Hid.E_IMP, Hid.FLAT_N, Hid.FREE_N,
      Hid.HALF_NEXT, Hid.HALF_NOW, Hid.INT_ANY, Hid.INT_FLAGS, Hid.INT_IPK_EXP, Hid.INT_IPK_IMP, Hid.INT_VMAX, Hid.INT_VMIN, Hid.LIVE_I, Hid.LIVE_P, Hid.LIVE_V,
      Hid.MET_HEALTH, Hid.MOD_SUB, Hid.OPSEC, Hid.OPSEC_SUB, Hid.OVR_NOW, Hid.OVR_RUN, Hid.OVR_SEC, Hid.REM_EXP, Hid.REM_IMP, Hid.TALLY_N] s t) ∧
  (∀ (xi xv : BitVec 25) (flat : BitVec 2) (s : State), s.metRuns → s.metStuck = false → s.get Hid.E_EXP 0 < 2 ^ 62 → s.get Hid.REM_EXP 0 < 1000000 → metScale
      s.metCal.fsI s.metCal.gainI s.metCal.ofsI (metClamp xi.toInt) < 0 → Answers (.metSample xi xv flat) s fun t => t.get Hid.E_EXP 0 * 1000000 + t.get Hid.REM_EXP 0 =
      s.get Hid.E_EXP 0 * 1000000 + s.get Hid.REM_EXP 0 + metSampleEnergy s.metCal (metScale s.metCal.fsI s.metCal.gainI s.metCal.ofsI (metClamp xi.toInt)) (metScale
      s.metCal.fsV s.metCal.gainV s.metCal.ofsV (metClamp xv.toInt)) ∧ t.get Hid.REM_EXP 0 < 1000000 ∧ t.get Hid.E_IMP 0 = s.get Hid.E_IMP 0 ∧ OnlyFields [Hid.DENS_N,
      Hid.E_EXP, Hid.E_IMP, Hid.FLAT_N, Hid.FREE_N, Hid.HALF_NEXT, Hid.HALF_NOW, Hid.INT_ANY, Hid.INT_FLAGS, Hid.INT_IPK_EXP, Hid.INT_IPK_IMP, Hid.INT_VMAX, Hid.INT_VMIN,
      Hid.LIVE_I, Hid.LIVE_P, Hid.LIVE_V, Hid.MET_HEALTH, Hid.MOD_SUB, Hid.OPSEC, Hid.OPSEC_SUB, Hid.OVR_NOW, Hid.OVR_RUN, Hid.OVR_SEC, Hid.REM_EXP, Hid.REM_IMP,
      Hid.TALLY_N] s t) ∧
  (∀ (xi xv : BitVec 25) (flat : BitVec 2) (s : State), s.metRuns → s.metStuck → Answers (.metSample xi xv flat) s fun t => t.bit Hid.INT_FLAGS 0 4 ∧ t.get Hid.E_IMP 0 =
      s.get Hid.E_IMP 0 ∧ t.get Hid.E_EXP 0 = s.get Hid.E_EXP 0 ∧ t.get Hid.TALLY_N 0 = s.bumped Hid.TALLY_N 0 ∧ OnlyFields [Hid.DENS_N, Hid.E_EXP, Hid.E_IMP, Hid.FLAT_N,
      Hid.FREE_N, Hid.HALF_NEXT, Hid.HALF_NOW, Hid.INT_ANY, Hid.INT_FLAGS, Hid.INT_IPK_EXP, Hid.INT_IPK_IMP, Hid.INT_VMAX, Hid.INT_VMIN, Hid.LIVE_I, Hid.LIVE_P,
      Hid.LIVE_V, Hid.MET_HEALTH, Hid.MOD_SUB, Hid.OPSEC, Hid.OPSEC_SUB, Hid.OVR_NOW, Hid.OVR_RUN, Hid.OVR_SEC, Hid.REM_EXP, Hid.REM_IMP, Hid.TALLY_N] s t) ∧
  (∀ (xi xv : BitVec 25) (flat : BitVec 2) (s : State), s.metRuns → Answers (.metSample xi xv flat) s fun t => t.get Hid.OPSEC 0 = (if s.get Hid.OPSEC_SUB 0 < 3999 then
      s.get Hid.OPSEC 0 else (s.get Hid.OPSEC 0 + 1) % 2 ^ 64) ∧ t.get Hid.TALLY_N 0 = s.bumped Hid.TALLY_N 0 ∧ (t.on Hid.OVR_NOW 0 = decide (metClamp xi.toInt ≠ xi.toInt
      ∨ metClamp xv.toInt ≠ xv.toInt)) ∧ OnlyFields [Hid.DENS_N, Hid.E_EXP, Hid.E_IMP, Hid.FLAT_N, Hid.FREE_N, Hid.HALF_NEXT, Hid.HALF_NOW, Hid.INT_ANY, Hid.INT_FLAGS,
      Hid.INT_IPK_EXP, Hid.INT_IPK_IMP, Hid.INT_VMAX, Hid.INT_VMIN, Hid.LIVE_I, Hid.LIVE_P, Hid.LIVE_V, Hid.MET_HEALTH, Hid.MOD_SUB, Hid.OPSEC, Hid.OPSEC_SUB,
      Hid.OVR_NOW, Hid.OVR_RUN, Hid.OVR_SEC, Hid.REM_EXP, Hid.REM_IMP, Hid.TALLY_N] s t) ∧
  (∀ (s : State), s.metRuns → s.metStuck = false → 100000000 ≤ s.get Hid.PULSE_ACC 0 + s.get Hid.HALF_NOW 0 → s.get Hid.PULSE_ACC 0 + s.get Hid.HALF_NOW 0 < 2 ^ 32 →
      Answers (.metHalfSample) s fun t => t.get Hid.PULSE_PIN 0 = 1 ∧ t.get Hid.PULSE_ACC 0 = s.get Hid.PULSE_ACC 0 + s.get Hid.HALF_NOW 0 - 100000000 ∧ t.get Hid.PULSES
      0 = (s.get Hid.PULSES 0 + 1) % 2 ^ 32 ∧ t.get Hid.HALF_NEXT 0 = 0 ∧ OnlyFields [Hid.HALF_NEXT, Hid.HALF_NOW, Hid.PULSES, Hid.PULSE_ACC, Hid.PULSE_AGE,
      Hid.PULSE_LEN, Hid.PULSE_PIN] s t) ∧
  (∀ (s : State), s.metRuns → s.get Hid.PULSE_ACC 0 + s.get Hid.HALF_NOW 0 < 100000000 → Answers (.metHalfSample) s fun t => t.get Hid.PULSE_ACC 0 = s.get Hid.PULSE_ACC 0
      + s.get Hid.HALF_NOW 0 ∧ t.get Hid.PULSES 0 = s.get Hid.PULSES 0 ∧ t.get Hid.HALF_NOW 0 = s.get Hid.HALF_NEXT 0 % 2 ^ Hid.HALF_NOW.wid ∧ t.get Hid.HALF_NEXT 0 = 0 ∧
      OnlyFields [Hid.HALF_NEXT, Hid.HALF_NOW, Hid.PULSES, Hid.PULSE_ACC, Hid.PULSE_AGE, Hid.PULSE_LEN, Hid.PULSE_PIN] s t) ∧
  (∀ (s : State), s.pulseOver → Answers (.metPulseEnd) s fun t => t.get Hid.PULSE_PIN 0 = 0 ∧ OnlyCells [(Hid.PULSE_PIN, 0, 0)] s t) ∧
  (∀ (k : Fin 2) (s : State), s.metRuns → s.metSticks k → Answers (.metStreamStuck k) s fun t => t.metStuck ∧ t.bit Hid.INT_FLAGS 0 4 ∧ OnlyFields [Hid.STUCK,
      Hid.INT_FLAGS] s t) ∧
  (∀ (s : State), 40 ≤ s.get Hid.FREE_N 0 → Answers (.metStreamResume) s fun t => t.metStuck = false ∧ OnlyFields [Hid.STUCK] s t) ∧
  (∀ (count : BitVec 16) (s : State), s.metUp → metClockOk count.toNat = false → Answers (.metClockCheck count) s fun t => t.get Hid.CLK_INT 0 = 1 ∧ t.get Hid.CLK_PASS 0
      = 0 ∧ t.bit Hid.INT_FLAGS 0 5 ∧ OnlyFields [Hid.CLK_INT, Hid.CLK_PASS, Hid.CLK_SUB, Hid.INT_FLAGS, Hid.MET_HEALTH] s t) ∧
  (∀ (count : BitVec 16) (s : State), s.metUp → metClockOk count.toNat → Answers (.metClockCheck count) s fun t => t.get Hid.CLK_PASS 0 = min 100 (s.get Hid.CLK_PASS 0 +
      1) ∧ (99 ≤ s.get Hid.CLK_PASS 0 → t.get Hid.CLK_INT 0 = 0) ∧ (s.get Hid.CLK_INT 0 = 0 → t.get Hid.CLK_INT 0 = 0) ∧ OnlyFields [Hid.CLK_INT, Hid.CLK_PASS,
      Hid.CLK_SUB, Hid.INT_FLAGS, Hid.MET_HEALTH] s t) ∧
  (∀ (done : Bool) (s : State), s.metRuns → s.get Hid.OPSEC 0 % 900 = 0 → s.get Hid.OPSEC 0 ≠ 0 → s.metTaken = false → done = false → Answers (.metIntervalRecord done) s
      fun t => (t.metArch.head?.map (fun x => (x.kind, x.recNo, x.opsec, x.eImp, x.eExp, x.isDone)) = some (1, s.get Hid.NEXT_REC 0, s.get Hid.OPSEC 0, s.get Hid.E_IMP 0,
      s.get Hid.E_EXP 0, false)) ∧ t.metArch.length ≤ 672 ∧ t.get Hid.NEXT_REC 0 = (s.get Hid.NEXT_REC 0 + 1) % 2 ^ 32 ∧ t.get Hid.INT_FLAGS 0 = 0 ∧ t.get Hid.INT_ANY 0 =
      0 ∧ t.get Hid.E_IMP 0 = s.get Hid.E_IMP 0) ∧
  (∀ (done : Bool) (s : State), s.metRuns → s.get Hid.OPSEC 0 % 900 = 0 → s.get Hid.OPSEC 0 ≠ 0 → s.metTaken = false → done = true → Answers (.metIntervalRecord done) s
      fun t => (t.metArch.head?.map (fun x => (x.kind, x.recNo, x.opsec, x.eImp, x.eExp, x.isDone)) = some (1, s.get Hid.NEXT_REC 0, s.get Hid.OPSEC 0, s.get Hid.E_IMP 0,
      s.get Hid.E_EXP 0, true)) ∧ t.metArch.length ≤ 672 ∧ t.get Hid.NEXT_REC 0 = (s.get Hid.NEXT_REC 0 + 1) % 2 ^ 32 ∧ t.get Hid.INT_FLAGS 0 = 0 ∧ t.get Hid.INT_ANY 0 =
      0) ∧
  (∀ (done : Bool) (s : State), Memory.wf s.mem = true → s.metRuns → 400 ≤ s.get Hid.TALLY_N 0 → Answers (.metTallyStore done) s fun t => t.get Hid.CELL_SEQ 0 = (s.get
      Hid.CELL_SEQ 0 + 1) % 2 ^ 32 ∧ t.get Hid.CELL_NEXT 0 = (s.get Hid.CELL_NEXT 0 + 1) % 3 ∧ t.get Hid.CELL_CUT 0 = (!done).toNat ∧ (done = true → t.metCellOk (s.get
      Hid.CELL_NEXT 0)) ∧ BytesOutside (metCell (s.get Hid.CELL_NEXT 0)) 64 s t ∧ OnlyCellsMem [(Hid.CELL_SEQ, 0, 0), (Hid.CELL_NEXT, 0, 0), (Hid.CELL_CUT, 0, 0),
      (Hid.TALLY_N, 0, 0)] s t) ∧
  (∀ (s : State), s.metRuns → Answers (.metWatchdog) s fun t => t.bit Hid.INT_FLAGS 0 6 ∧ t.getAt Hid.MET_HEALTH 0 1 = s.bumpedAt Hid.MET_HEALTH 0 1 ∧ (t.metArch.all (fun
      x => x.isDone)) ∧ t.get Hid.CELL_CUT 0 = 0 ∧ t.get Hid.E_IMP 0 = s.get Hid.E_IMP 0) ∧
  (∀ (done : Bool) (s : State), s.metRuns → Answers (.metSupplyFall done) s fun t => t.metUp = false ∧ t.get Hid.CELL_SEQ 0 = (s.get Hid.CELL_SEQ 0 + 1) % 2 ^ 32 ∧ t.get
      Hid.PULSE_PIN 0 = 0 ∧ t.get Hid.E_IMP 0 = s.get Hid.E_IMP 0)

/-- MET sends live values and repeats on both lanes and answers a manager's waiting request alone, clearing it; a strobe presents CODE and waits, or is refused while BUSY; a timeout ends the wait; a frame with a bad CRC or header is counted, a good frame goes whole into its part of the read-out window, and the answer that is waited for ends the wait; a lost link shows; a bank that MET does not refuse is written with one more audit step before the lock; the lock needs a good serial number and a bank in force. Readings and choices of the model that it rests on: log entries 25, 128. -/
def Obligations.MetReadOutAndCalibration : Prop :=
  (∀ (s : State), s.metUp → Answers (.metLiveSend) s fun t => t.metTxA = s.metTxA ++ (if s.on Hid.PRESENT 0 then [⟨2, 1, s.metLive⟩] else []) ∧ t.metTxB = s.metTxB ++ (if
      s.on Hid.PRESENT 1 then [⟨2, 1, s.metLive⟩] else []) ∧ t.get Hid.FRAME_NO 0 = (s.get Hid.FRAME_NO 0 + 1) % 2 ^ 32 ∧ t =
      { ({ s with metTxA := t.metTxA, metTxB := t.metTxB } : State) with cells := t.cells }) ∧
  (∀ (rep : MetRepeat) (s : State), s.metUp → rep = MetRepeat.health → Answers (.metPeriodicSend rep) s fun t => t.metTxA = s.metTxA ++ (if s.on Hid.PRESENT 0 then [⟨3,
      4, s.metHealth⟩] else []) ∧ t.metTxB = s.metTxB ++ (if s.on Hid.PRESENT 1 then [⟨3, 4, s.metHealth⟩] else []) ∧ t =
      { s with metTxA := t.metTxA, metTxB := t.metTxB }) ∧
  (∀ (rep : MetRepeat) (s : State), s.metUp → rep = MetRepeat.ident → Answers (.metPeriodicSend rep) s fun t => t.metTxA = s.metTxA ++ (if s.on Hid.PRESENT 0 then [⟨3, 3,
      s.metIdent⟩] else []) ∧ t.metTxB = s.metTxB ++ (if s.on Hid.PRESENT 1 then [⟨3, 3, s.metIdent⟩] else []) ∧ t = { s with metTxA := t.metTxA, metTxB := t.metTxB }) ∧
  (∀ (rep : MetRepeat) (x : MetRec) (s : State), s.metUp → rep = MetRepeat.record → s.metNewest = some x → Answers (.metPeriodicSend rep) s fun t => t.metTxA = s.metTxA
      ++ (if s.on Hid.PRESENT 0 then [metRecFrame 3 0 x] else []) ∧ t.metTxB = s.metTxB ++ (if s.on Hid.PRESENT 1 then [metRecFrame 3 0 x] else []) ∧ t =
      { s with metTxA := t.metTxA, metTxB := t.metTxB }) ∧
  (∀ (rep : MetRepeat) (s : State), s.metUp → rep = MetRepeat.record → s.metNewest = none → Answers (.metPeriodicSend rep) s fun t => t = s) ∧
  (∀ (m : Mgr) (s : State), s.metUp → s.getAt Hid.MET_ASKED 0 m = 1 → s.on Hid.PRESENT m → Answers (.sendId m) s fun t => t.getAt Hid.MET_ASKED 0 m = 0 ∧ (m = 0 →
      t.metTxA = s.metTxA ++ [⟨0, 3, s.metIdent⟩] ∧ t.metTxB = s.metTxB) ∧ (m = 1 → t.metTxB = s.metTxB ++ [⟨0, 3, s.metIdent⟩] ∧ t.metTxA = s.metTxA)) ∧
  (∀ (m : Mgr) (s : State), s.metUp → s.getAt Hid.MET_ASKED 0 m = 2 → s.on Hid.PRESENT m → Answers (.sendHealth m) s fun t => t.getAt Hid.MET_ASKED 0 m = 0 ∧ (m = 0 →
      t.metTxA = s.metTxA ++ [⟨0, 4, s.metHealth⟩] ∧ t.metTxB = s.metTxB) ∧ (m = 1 → t.metTxB = s.metTxB ++ [⟨0, 4, s.metHealth⟩] ∧ t.metTxA = s.metTxA)) ∧
  (∀ (m : Mgr) (s : State), s.metUp → s.getAt Hid.MET_ASKED 0 m = 3 → s.on Hid.PRESENT m → s.metNewest.isSome → Answers (.sendLast m) s fun t => t.getAt Hid.MET_ASKED 0 m
      = 0 ∧ (some (t.getAt Hid.MET_PTR 0 m) = s.metNewest.map (fun x => x.recNo % 2 ^ Hid.MET_PTR.wid)) ∧ (m = 0 → t.metTxA.length = s.metTxA.length + 1 ∧ t.metTxB =
      s.metTxB) ∧ (m = 1 → t.metTxB.length = s.metTxB.length + 1 ∧ t.metTxA = s.metTxA)) ∧
  (∀ (m : Mgr) (s : State), s.metUp → s.getAt Hid.MET_ASKED 0 m = 3 → s.metNewest = none → Answers (.sendLast m) s fun t => t.getAt Hid.MET_ASKED 0 m = 0 ∧ OnlyCells
      [(Hid.MET_ASKED, 0, m.val)] s t) ∧
  (∀ (m : Mgr) (s : State), s.metUp → s.getAt Hid.MET_ASKED 0 m = 4 → s.on Hid.PRESENT m → ((s.metArch.filter (fun x => x.isDone)).getLast?.any (fun o => decide (s.getAt
      Hid.MET_PTR 0 m ≤ o.recNo))) → Answers (.replayPrev m) s fun t => t.getAt Hid.MET_ASKED 0 m = 0 ∧ (some (t.getAt Hid.MET_PTR 0 m) = (s.metArch.filter (fun x =>
      x.isDone)).getLast?.map (fun o => o.recNo % 2 ^ Hid.MET_PTR.wid)) ∧ (m = 0 → t.metTxA.length = s.metTxA.length + 1 ∧ t.metTxB = s.metTxB) ∧ (m = 1 → t.metTxB.length
      = s.metTxB.length + 1 ∧ t.metTxA = s.metTxA)) ∧
  (∀ (m : Mgr) (o x : MetRec) (s : State), s.metUp → s.getAt Hid.MET_ASKED 0 m = 4 → s.on Hid.PRESENT m → ((s.metArch.filter (fun x => x.isDone)).getLast? = some o) →
      o.recNo < s.getAt Hid.MET_PTR 0 m → (s.metArch.find? (fun y => y.isDone && decide (y.recNo + 1 = s.getAt Hid.MET_PTR 0 m)) = some x) → Answers (.replayPrev m) s fun
      t => t.getAt Hid.MET_ASKED 0 m = 0 ∧ t.getAt Hid.MET_PTR 0 m = x.recNo % 2 ^ Hid.MET_PTR.wid ∧ (m = 0 → t.metTxA = s.metTxA ++ [metRecFrame 0 1 x]) ∧ (m = 1 →
      t.metTxB = s.metTxB ++ [metRecFrame 0 1 x])) ∧
  (∀ (w : Who) (m : Mgr) (code : BitVec 3) (s : State), s.on Reg.MET_REQ.BUSY (s.reach w m) = false → s.metUp → s.getAt Hid.MET_ASKED 0 (s.reach w m) = 0 → code.toNat < 4
      → Answers (.metReqStrobe w m code) s fun t => t.get Reg.MET_REQ.BUSY (s.reach w m) = 1 ∧ t.get Reg.MET_REQ.CODE (s.reach w m) = code.toNat ∧ t.getAt Hid.MET_ASKED 0
      (s.reach w m) = code.toNat + 1 ∧ OnlyFields [Reg.MET_REQ.BUSY, Reg.MET_REQ.CODE, Hid.MET_ASKED, Hid.MREQ_AT, Hid.BUS_ERR] s t) ∧
  (∀ (w : Who) (m : Mgr) (code : BitVec 3) (s : State), s.on Reg.MET_REQ.BUSY (s.reach w m) = false → (s.metUp = false ∨ s.getAt Hid.MET_ASKED 0 (s.reach w m) ≠ 0 ∨ 4 ≤
      code.toNat) → Answers (.metReqStrobe w m code) s fun t => t.get Reg.MET_REQ.BUSY (s.reach w m) = 1 ∧ t.get Reg.MET_REQ.CODE (s.reach w m) = code.toNat ∧ t.getAt
      Hid.MET_ASKED 0 (s.reach w m) = s.getAt Hid.MET_ASKED 0 (s.reach w m) ∧ (s.metUp → s.getAt Hid.MET_ASKED 0 (s.reach w m) ≠ 0 → t.getAt Hid.MET_HEALTH 0 0 =
      s.bumpedAt Hid.MET_HEALTH 0 0) ∧ OnlyFields [Reg.MET_REQ.BUSY, Reg.MET_REQ.CODE, Hid.MET_HEALTH, Hid.MREQ_AT, Hid.BUS_ERR] s t) ∧
  (∀ (w : Who) (m : Mgr) (code : BitVec 3) (s : State), s.on Reg.MET_REQ.BUSY (s.reach w m) → Answers (.metReqStrobe w m code) s fun t => t.get Reg.MET_REQ.REQ_REJ
      (s.reach w m) = 1 ∧ t.getAt Hid.MET_ASKED 0 (s.reach w m) = s.getAt Hid.MET_ASKED 0 (s.reach w m) ∧ OnlyFields [Reg.MET_REQ.REQ_REJ, Reg.MET_REQ.CODE, Hid.BUS_ERR]
      s t) ∧
  (∀ (m : Mgr) (s : State), s.on Reg.MET_REQ.BUSY m → s.metSince Hid.MREQ_AT m → Answers (.metReqTimeout m) s fun t => t.get Reg.MET_REQ.BUSY m = 0 ∧ t.get
      Reg.MET_REQ.REQ_TMO m = 1 ∧ OnlyCells [(Reg.MET_REQ.BUSY, m, 0), (Reg.MET_REQ.REQ_TMO, m, 0)] s t) ∧
  (∀ (m : Mgr) (arrived : List Byte) (s : State), (metFirst (if m.val = 0 then s.metTxA else s.metTxB)).isSome → s.on Hid.PRESENT m → metParse arrived = none → Answers
      (.metFrameReceive m arrived) s fun t => t.get Reg.MET_LINK_COUNTS.FRAME_ERR m = s.bumped Reg.MET_LINK_COUNTS.FRAME_ERR m ∧ t.metTxA.length + t.metTxB.length + 1 =
      s.metTxA.length + s.metTxB.length ∧ t.mem = s.mem) ∧
  (∀ (m : Mgr) (arrived b : List Byte) (s : State), Memory.wf s.mem = true → (metFirst (if m.val = 0 then s.metTxA else s.metTxB)).isSome → s.on Hid.PRESENT m → metParse
      arrived = some ⟨0, 1, b⟩ → Answers (.metFrameReceive m arrived) s fun t => t.get Reg.MET_LINK.LINK_OK m = 1 ∧ t.get Hid.MLINK_AT m = s.get Hid.BEAT m % 2 ^
      Hid.MLINK_AT.wid ∧ t.rdBytes (metWin m 0) 48 = b ∧ BytesOutside (metWin m 0) 48 s t) ∧
  (∀ (m : Mgr) (s : State), s.on Reg.MET_LINK.LINK_OK m → s.metSince Hid.MLINK_AT m → Answers (.metLinkLost m) s fun t => t.get Reg.MET_LINK.LINK_OK m = 0 ∧ t.get
      Reg.MET_LINK.LINK_LOST_EVT m = 1 ∧ OnlyCells [(Reg.MET_LINK.LINK_OK, m, 0), (Reg.MET_LINK.LINK_LOST_EVT, m, 0)] s t) ∧
  (∀ (n : Fin 4) (b : MetBank) (done : Bool) (s : State), s.metUp → s.on Hid.MET_LOCKED 0 = false → metRefuses b = false → s.get Hid.MET_AUDIT 0 < 8 → done = true →
      Answers (.metCalBankWrite n b done) s fun t => t.get Hid.MET_AUDIT 0 = s.get Hid.MET_AUDIT 0 + 1 ∧ t.getAt Hid.MB_STATE 0 n = 1 ∧ t.getAt Hid.MB_I_R 0 n =
      b.iR.toNat ∧ t.getAt Hid.MB_FS_V 0 n = b.fsV.toNat ∧ t.getIAt Hid.MB_GAIN_I 0 n = b.gainI.toInt ∧ t.getAt Hid.MB_PULSE 0 n = b.pulse.toNat ∧ OnlyFieldsLog
      [Hid.MB_CRC, Hid.MB_FS_I, Hid.MB_FS_V, Hid.MB_GAIN_I, Hid.MB_GAIN_V, Hid.MB_I_R, Hid.MB_I_START, Hid.MB_OFS_I, Hid.MB_OFS_V, Hid.MB_PULSE, Hid.MB_STATE, Hid.MB_U_R,
      Hid.MET_AUDIT] s t) ∧
  (∀ (n : Fin 4) (b : MetBank) (done : Bool) (s : State), s.metUp → s.on Hid.MET_LOCKED 0 = false → metRefuses b = false → s.get Hid.MET_AUDIT 0 < 8 → done = false →
      Answers (.metCalBankWrite n b done) s fun t => t.get Hid.MET_AUDIT 0 = s.get Hid.MET_AUDIT 0 + 1 ∧ t.getAt Hid.MB_STATE 0 n = 2 ∧ OnlyFieldsLog [Hid.MB_CRC,
      Hid.MB_FS_I, Hid.MB_FS_V, Hid.MB_GAIN_I, Hid.MB_GAIN_V, Hid.MB_I_R, Hid.MB_I_START, Hid.MB_OFS_I, Hid.MB_OFS_V, Hid.MB_PULSE, Hid.MB_STATE, Hid.MB_U_R,
      Hid.MET_AUDIT] s t) ∧
  (∀ (n : Fin 4) (b : MetBank) (done : Bool) (s : State), (s.on Hid.MET_LOCKED 0 ∨ b.pulse = 3 ∨ 8 ≤ s.get Hid.MET_AUDIT 0) → Answers (.metCalBankWrite n b done) s fun t
      => t = s) ∧
  (∀ (key : BitVec 256) (s : State), s.metUp → s.on Hid.MET_LOCKED 0 = false → s.on Hid.MET_SERIAL_OK 0 → s.metBankNo.isSome → 0 < key.toNat → key.toNat < p256N → Answers
      (.metLock key) s fun t => t.get Hid.MET_LOCKED 0 = 1 ∧ t.get Hid.MET_KEY 0 = key.toNat ∧ OnlyCells [(Hid.MET_LOCKED, 0, 0), (Hid.MET_KEY, 0, 0)] s t) ∧
  (∀ (m : Mgr) (arrived b : List Byte) (s : State), Memory.wf s.mem = true → (metFirst (if m.val = 0 then s.metTxA else s.metTxB)).isSome → s.on Hid.PRESENT m → metParse
      arrived = some ⟨0, 3, b⟩ → Answers (.metFrameReceive m arrived) s fun t => t.get Reg.MET_LINK.LINK_OK m = 1 ∧ t.rdBytes (metWin m 0x40) 104 = b ∧ (s.metWaits m 0 →
      t.get Reg.MET_REQ.BUSY m = 0) ∧ BytesOutside (metWin m 0x40) 104 s t) ∧
  (∀ (m : Mgr) (arrived b : List Byte) (s : State), Memory.wf s.mem = true → (metFirst (if m.val = 0 then s.metTxA else s.metTxB)).isSome → s.on Hid.PRESENT m → metParse
      arrived = some ⟨0, 4, b⟩ → Answers (.metFrameReceive m arrived) s fun t => t.get Reg.MET_LINK.LINK_OK m = 1 ∧ t.rdBytes (metWin m 0x300) 32 = b ∧ (s.metWaits m 1 →
      t.get Reg.MET_REQ.BUSY m = 0) ∧ BytesOutside (metWin m 0x300) 32 s t) ∧
  (∀ (m : Mgr) (arrived b : List Byte) (s : State), Memory.wf s.mem = true → (metFirst (if m.val = 0 then s.metTxA else s.metTxB)).isSome → s.on Hid.PRESENT m → metParse
      arrived = some ⟨0, 2, b⟩ → leNat (b.take 4) ≠ 0 → Answers (.metFrameReceive m arrived) s fun t => t.get Reg.MET_LINK.LINK_OK m = 1 ∧ t.rdBytes (metWin m 0x200) 160
      = b.drop 4 ∧ t.get Reg.MET_REQ.BUSY m = 0 ∧ BytesOutside (metWin m 0x200) 164 s t) ∧
  (∀ (m : Mgr) (arrived b : List Byte) (s : State), Memory.wf s.mem = true → (metFirst (if m.val = 0 then s.metTxA else s.metTxB)).isSome → s.on Hid.PRESENT m → metParse
      arrived = some ⟨0, 2, b⟩ → leNat (b.take 4) = 0 → s.on Hid.MET_LAST m = false → Answers (.metFrameReceive m arrived) s fun t => t.get Reg.MET_LINK.LINK_OK m = 1 ∧
      t.rdBytes (metWin m 0x100) 160 = b.drop 4 ∧ t.get Reg.MET_LINK.NEW_REC_EVT m = 1 ∧ t.get Reg.MET_LINK_COUNTS.REC_RCVD m = s.bumped Reg.MET_LINK_COUNTS.REC_RCVD m ∧
      BytesOutside (metWin m 0x100) 160 s t)

/-- A tile that announces the loss of its half while both stand shows HALF_DOWN in the rail's slot, its cause, one more in LOSS_COUNT, and its running phases go to mid; a tile to which HALF_DOWN has come declares the loss with the announced cause, and one whose slots from the other tile were stale for eight ticks declares it with cause SILENT; it shows its own half alone with raised limits, its standby lead acting where it is the partner, its PARKED phases added, and the mean voltage as window reference until its hold ends after 25 µs; when both tiles have declared the other silent both show SPLIT; a non-mirrored cross-tile rail keeps its home half while its partner's phases go to mid, or is turned off where the home half is lost (the model's reading, log entry 51); without either sign nothing is declared; a split yields the partner half; a rejoin that may be accepted shows REJOINING and starts the first probe, of a rail that is off it ends at once, one that may not is refused; the role swap at its tick ends with both halves and the home lead acting. -/
def Obligations.MirroredHalves : Prop :=
  (∀ (u : Tile) (r : Rail) (cause : Fin 16) (s : State), s.lossHolds u r cause → s.carries u r → s.on Hid.HALF_DOWN (railIx u r) = false → s.half u r = Half.both → u.val
      ≠ s.otherTile u r → Answers (.halfLossAnnounce u r cause) s fun t => t.on Hid.HALF_DOWN (railIx u r) ∧ t.half u r = s.onlyHalf (s.otherTile u r) r ∧ t.get
      Reg.MIRR_STATUS.CAUSE (railIx u r) = cause.val ∧ t.get Reg.MIRR_STATUS.LOSS_COUNT (railIx u r) = s.bumped Reg.MIRR_STATUS.LOSS_COUNT (railIx u r) ∧ (∀ p ∈
      s.phasesOn u r, s.ph p = Ph.active → s.on Hid.PROBING p = false → t.get Hid.PWM_LVL p = Pwm.mid.num ∧ t.on Hid.HELD p)) ∧
  (∀ (u : Tile) (r : Rail) (s : State), s.carries u r → (s.partner r).isSome → s.half u r ≠ s.onlyHalf u r → s.half u r ≠ Half.split → s.on Hid.HALF_DOWN (railIx u r) =
      false → s.downHeard u r → Answers (.halfLossDeclare u r) s fun t => t.half u r = s.onlyHalf u r ∧ t.get Reg.MIRR_STATUS.CAUSE (railIx u r) = s.get Hid.MINE_CAUSE
      (railIx (s.otherTile u r) r) % 2 ^ Reg.MIRR_STATUS.CAUSE.wid ∧ t.downHeard u r = false ∧ t.get Reg.MIRR_STATUS.LOSS_COUNT (railIx u r) = s.bumped
      Reg.MIRR_STATUS.LOSS_COUNT (railIx u r) ∧ t.get Reg.MIRR_STATUS.CAP_RAISED (railIx u r) = 1 ∧ t.get Reg.MIRR_STATUS.HALF_LOST_EVT (railIx u r) = 1 ∧ t.get
      Hid.C_VREF (railIx u r) = s.vHold (railIx u r) % 2 ^ Hid.C_VREF.wid ∧ t.get Hid.LOSS_ARM (railIx u r) = 2501 ∧ (∀ p ∈ s.phasesOn u r, s.ph p = Ph.parked →
      s.underDiag p = false → t.ph p = Ph.active) ∧ (u.val ≠ s.home r → t.onAt Hid.STBY_ACT 0 r)) ∧
  (∀ (u : Tile) (r : Rail) (s : State), s.carries u r → (s.partner r).isSome → s.half u r ≠ s.onlyHalf u r → s.half u r ≠ Half.split → s.on Hid.HALF_DOWN (railIx u r) =
      false → s.downHeard u r = false → 8 ≤ s.slotAge u r → Answers (.halfLossDeclare u r) s fun t => t.get Reg.MIRR_STATUS.CAUSE (railIx u r) = Loss.silent ∧ t.half u r
      = (if s.half (s.otherTile u r) r = s.onlyHalf (s.otherTile u r) r then Half.split else s.onlyHalf u r) ∧ (s.half (s.otherTile u r) r = s.onlyHalf (s.otherTile u r)
      r → t.half (s.otherTile u r) r = Half.split ∧ t.get Reg.MIRR_STATUS.SPLIT_EVT (railIx u r) = 1 ∧ t.get Reg.MIRR_STATUS.SPLIT_EVT (railIx (s.otherTile u r) r) = 1) ∧
      t.get Reg.MIRR_STATUS.LOSS_COUNT (railIx u r) = s.bumped Reg.MIRR_STATUS.LOSS_COUNT (railIx u r) ∧ t.get Reg.MIRR_STATUS.CAP_RAISED (railIx u r) = 1 ∧ t.get
      Reg.MIRR_STATUS.HALF_LOST_EVT (railIx u r) = 1 ∧ t.get Hid.C_VREF (railIx u r) = s.vHold (railIx u r) % 2 ^ Hid.C_VREF.wid ∧ t.get Hid.LOSS_ARM (railIx u r) = 2501
      ∧ (∀ p ∈ s.phasesOn u r, s.ph p = Ph.parked → s.underDiag p = false → t.ph p = Ph.active) ∧ (u.val ≠ s.home r → t.onAt Hid.STBY_ACT 0 r)) ∧
  (∀ (u : Tile) (r : Rail) (s : State), u.val = s.home r → s.mirrored r = false → (s.partner r).isSome → (decide (s.downHeard u r = true ∨ 8 ≤ s.slotAge u r)) → Answers
      (.halfLossDeclare u r) s fun t => (∀ p ∈ s.phasesOn (s.otherTile u r) r, s.ph p = Ph.active → t.get Hid.PWM_LVL p = Pwm.mid.num ∧ t.on Hid.HELD p) ∧ (∀ p ∈
      s.phasesOn u r, t.ph p = s.ph p ∧ t.get Hid.PWM_LVL p = s.get Hid.PWM_LVL p) ∧ t.downHeard u r = false ∧ t.rs r = s.rs r) ∧
  (∀ (u : Tile) (r : Rail) (s : State), s.partner r = some u.val → u.val ≠ s.home r → s.mirrored r = false → (decide (s.downHeard u r = true ∨ 8 ≤ s.slotAge u r)) → s.rs
      r ≠ Rs.off → s.rs r ≠ Rs.enabling → Answers (.halfLossDeclare u r) s fun t => (∀ p ∈ s.phasesOf r, s.ph p = Ph.active → t.get Hid.PWM_LVL p = Pwm.mid.num ∧ t.on
      Hid.HELD p) ∧ t.bit Hid.LOST_MID 0 r) ∧
  (∀ (u : Tile) (r : Rail) (s : State), s.downHeard u r = false → s.slotAge u r < 8 → Answers (.halfLossDeclare u r) s fun t => t = s) ∧
  (∀ (u : Tile) (r : Rail) (s : State), s.get Hid.LOSS_ARM (railIx u r) ≤ 1 → Answers (.halfLossHoldEnd u r) s fun t => t.get Hid.LOSS_ARM (railIx u r) = 0 ∧ OnlyCells
      [(Hid.LOSS_ARM, railIx u r, 0)] s t) ∧
  (∀ (u : Tile) (r : Rail) (s : State), 1 < s.get Hid.LOSS_ARM (railIx u r) → Answers (.halfLossHoldEnd u r) s fun t => t = s) ∧
  (∀ (r : Rail) (s : State), s.active.isSome → (s.partner r).isSome → s.mirrored r → s.half (s.home r) r = Half.split → ((s.partner r).all fun u => u ≠ s.home r && decide
      (s.half u r = Half.split) && !s.on Hid.HALF_DOWN (railIx u r)) → Answers (.splitYield r) s fun t => t.half (s.home r) r = Half.homeOnly ∧ t.get
      Reg.MIRR_STATUS.CAUSE (s.homeIx r) = Loss.yield ∧ ((s.partner r).all fun u => t.on Hid.HALF_DOWN (railIx u r) && decide (t.half u r = Half.homeOnly)) ∧ t.onAt
      Hid.STBY_ACT 0 r = false) ∧
  (∀ (w : Who) (u : Tile) (r : Rail) (s : State), s.rejoinOk u r → s.rs r ≠ Rs.off → u.val ≠ s.otherTile u r → ((s.phasesOn (s.otherTile u r) r).any fun p => s.ph p ≠
      Ph.blocked && decide (s.get Reg.PH_PROT.ILIM_CEIL p ≠ 0) && decide (s.on Hid.JOIN_PEND p = false) && decide (s.ph p ≠ Ph.active ∨ s.on Hid.HELD p = true)) → Answers
      (.rejoin w u r) s fun t => t.half u r = Half.rejoining ∧ t.half (s.otherTile u r) r = Half.rejoining ∧ t.onAt Hid.RJ_BUSY 0 r ∧ t.logged JKind.accepted JStatus.ok r
      ∧ ((s.phasesOn (s.otherTile u r) r).any fun p => t.ph p = Ph.probe && t.on Hid.PROBING p)) ∧
  (∀ (w : Who) (u : Tile) (r : Rail) (s : State), s.rejoinOk u r → s.rs r = Rs.off → Answers (.rejoin w u r) s fun t => (∀ v ∈ s.tilesOf r, t.half v r = Half.none ∧ t.get
      Reg.MIRR_STATUS.CAP_RAISED (railIx v r) = 0 ∧ t.on Hid.HALF_DOWN (railIx v r) = false) ∧ t.onAt Hid.RJ_BUSY 0 r = false ∧ t.onAt Hid.STBY_ACT 0 r = false ∧ t.logged
      JKind.done JStatus.ok r ∧ OnlyFieldsLog [Hid.ADD_PEND, Hid.AK_NEXT, Hid.AK_STEP, Hid.AK_TICK, Hid.CAP_LEFT, Hid.CAP_TRIGD, Hid.CRC_BUSY, Hid.CYC_AT, Hid.CYC_CNT,
      Hid.CYC_TAP, Hid.DE_FORCE, Hid.DIS_REC, Hid.DUTY, Hid.EN_BEAT, Hid.EN_BY_SEQ, Hid.EN_ON, Hid.EN_STAGE, Hid.EV_ONCE, Hid.E_A, Hid.E_C, Hid.E_LATE, Hid.E_N, Hid.E_PC,
      Hid.E_RUN, Hid.E_SLOT, Hid.E_STG, Hid.E_STGW, Hid.E_V, Hid.E_W, Hid.E_WAIT, Hid.E_Z, Hid.FIRED, Hid.FLT_CAUSE, Hid.FPULSE, Hid.FU_DEBUG, Hid.FU_DEVICE_ID,
      Hid.FU_HPD_TRIM, Hid.FU_IG, Hid.FU_ILIM, Hid.FU_KEY, Hid.FU_KILL, Hid.FU_K_ROOT, Hid.FU_LIFE, Hid.FU_MGR_TRIM, Hid.FU_OV, Hid.FU_PRIV, Hid.FU_PRODUCT,
      Hid.FU_REVOKE, Hid.FU_ROLLBACK, Hid.FU_STG, Hid.FU_WDT_HW, Hid.FU_WIPE, Hid.HALF_DOWN, Hid.HELD, Hid.JOIN_PEND, Hid.LEAD_RST, Hid.LN_STAGE, Hid.LOAD_SIG,
      Hid.LOST_MID, Hid.LOST_TICK, Hid.MARK, Hid.MARK_MID, Hid.MID_BUSY, Hid.MID_TICK, Hid.MINE_CAUSE, Hid.OFF_BEAT, Hid.OFF_STAGE, Hid.OFF_T1, Hid.OFF_TICK, Hid.OFF_TMO,
      Hid.OV_OFF, Hid.PGW_BEAT, Hid.PRESTART, Hid.PRE_CAUSE, Hid.PRE_ST, Hid.PROBING, Hid.PS_TICK, Hid.PS_V1, Hid.PS_V2, Hid.PWM_LVL, Hid.READD_CAUSE, Hid.READD_DONE,
      Hid.REFOUT, Hid.RJ_AT, Hid.RJ_BUSY, Hid.RJ_POS, Hid.RJ_SWAP, Hid.RJ_TILE, Hid.SEQ_BAD, Hid.SEQ_BEAT, Hid.SEQ_DONE_ST, Hid.SEQ_LAST, Hid.SEQ_LASTG, Hid.SEQ_MINE,
      Hid.SEQ_NEXT, Hid.SEQ_STEP, Hid.SEQ_STUCK, Hid.SLOPE_OPEN, Hid.SLOT_DOWN, Hid.SNAP_CAUSE, Hid.SNAP_RAIL, Hid.SNAP_STAGE, Hid.SNAP_T, Hid.SP_DONE, Hid.SP_MODE,
      Hid.SP_Q16, Hid.SP_QUIET, Hid.SP_TGT, Hid.SS_DONE, Hid.STBY_ACT, Hid.THR_ACT, Hid.TSD_CUR, Hid.TSD_QUEUE, Hid.ZL_CYC, Hid.ZL_ENTRY, Hid.ZL_RAMP, Hid.ZL_ROLE,
      Hid.ZL_RSTEP, Hid.ZL_S, Hid.ZL_STEP, Hid.ZL_VI, Hid.ZL_VP, Hid.ZL_VPREV, Reg.CAP_STATUS.TRIGGERED, Reg.ENG_EV.EVW, Reg.ENG_EV.PENDING, Reg.ENG_STATUS.BANK,
      Reg.ENG_STATUS.CRC_VALID, Reg.ENG_STATUS.HALTED, Reg.ENG_STATUS.OVR_RUN, Reg.ENG_STATUS.ROLE, Reg.ENG_USER.USER, Reg.FC_COUNT_B.MISS_COUNT, Reg.FC_STATUS.JUDGING,
      Reg.FC_STATUS.PENDING, Reg.FLT_CFG.ASSERTED, Reg.HPD_CLK_STATUS.REF_SRC, Reg.HPD_CLK_STATUS.SETTLING, Reg.MIRR_CTRL.REJOIN, Reg.MIRR_STATUS.CAP_RAISED,
      Reg.MIRR_STATUS.CAUSE, Reg.MIRR_STATUS.HALF, Reg.MIRR_STATUS.LOSS_COUNT, Reg.MIRR_STATUS.REJOIN_REJ, Reg.PH_COUNTS.REPEAT, Reg.PH_COUNTS.SHED_COUNT,
      Reg.PH_STATE.CAUSE, Reg.PH_STATE.STATE, Reg.PH_STATUS.CMD_DROP, Reg.PH_STATUS.REPEAT_BLOCK, Reg.PH_STATUS.SHED_EVT, Reg.RAIL_ENG_CFG.LEAD_PH,
      Reg.RAIL_ENG_CFG.STBY_PH, Reg.RAIL_PROT_STATUS.PROT_COUNT, Reg.RAIL_PROT_STATUS.PROT_OFF, Reg.RAIL_PROT_STATUS.SENSE_LOST, Reg.RAIL_PWM.PER_ACT,
      Reg.RAIL_SP_STATUS.RAMPING, Reg.RAIL_SP_STATUS.SS_ACTIVE, Reg.RAIL_SP_STATUS.VSET_NOW, Reg.RAIL_SUP_CMD.OFF, Reg.RAIL_SUP_CMD.ON, Reg.RAIL_SUP_STATUS.CMD_REJ,
      Reg.RAIL_SUP_STATUS.DIS_HIGH, Reg.RAIL_SUP_STATUS.EN_FAIL_EVT, Reg.RAIL_SUP_STATUS.PG, Reg.RAIL_SUP_STATUS.RESULT, Reg.RAIL_SUP_STATUS.RSTATE, Reg.SEQ_CTRL.RUN,
      Reg.SEQ_STATUS.ACTIVE, Reg.SEQ_STATUS.ACT_SEQ, Reg.SEQ_STATUS.BUSY_REJ, Reg.SEQ_STATUS.RESULT, Reg.SEQ_STATUS.SEQ_EVT, Reg.SEQ_STATUS.STAGE, Reg.SEQ_STATUS.TMO2,
      Reg.SNAP_STATUS.BUSY, Reg.SNAP_STATUS.MERGE_COUNT, Reg.STG_GROUP_STATUS.STG_EN, Reg.TILE_CLK_STATUS.REF_SRC, Reg.TILE_CLK_STATUS.SETTLING] s t) ∧
  (∀ (w : Who) (u : Tile) (r : Rail) (s : State), s.rejoinOk u r = false → Answers (.rejoin w u r) s fun t => t.get Reg.MIRR_STATUS.REJOIN_REJ (railIx u r) = 1 ∧ t.logged
      JKind.refused JStatus.refused r ∧ OnlyFieldsLog [Reg.MIRR_STATUS.REJOIN_REJ] s t) ∧
  (∀ (r : Rail) (s : State), s.onAt Hid.RJ_SWAP 0 r → tickReached (s.getAt Hid.RJ_AT 0 r) (s.get Hid.TICK (s.home r)) → Answers (.rejoinRoleSwap r) s fun t => t.onAt
      Hid.STBY_ACT 0 r = false ∧ t.onAt Hid.RJ_SWAP 0 r = false ∧ t.onAt Hid.RJ_BUSY 0 r = false ∧ (∀ u ∈ s.tilesOf r, t.half u r = Half.both ∧ t.get
      Reg.MIRR_STATUS.CAP_RAISED (railIx u r) = 0 ∧ t.on Hid.HALF_DOWN (railIx u r) = false) ∧ OnlyFieldsLog [Hid.FU_DEBUG, Hid.FU_DEVICE_ID, Hid.FU_HPD_TRIM, Hid.FU_IG,
      Hid.FU_ILIM, Hid.FU_KEY, Hid.FU_KILL, Hid.FU_K_ROOT, Hid.FU_LIFE, Hid.FU_MGR_TRIM, Hid.FU_OV, Hid.FU_PRIV, Hid.FU_PRODUCT, Hid.FU_REVOKE, Hid.FU_ROLLBACK,
      Hid.FU_STG, Hid.FU_WDT_HW, Hid.FU_WIPE, Hid.HALF_DOWN, Hid.RJ_BUSY, Hid.RJ_SWAP, Hid.STBY_ACT, Reg.ENG_EV.PENDING, Reg.ENG_STATUS.ROLE, Reg.MIRR_CTRL.REJOIN,
      Reg.MIRR_STATUS.CAP_RAISED, Reg.MIRR_STATUS.HALF] s t) ∧
  (∀ (r : Rail) (s : State), (decide (s.onAt Hid.RJ_SWAP 0 r = false ∨ tickReached (s.getAt Hid.RJ_AT 0 r) (s.get Hid.TICK (s.home r)) = false)) → Answers
      (.rejoinRoleSwap r) s fun t => t = s)

/-- A running manager sends its heartbeat with its beat, role and epoch and re-arms its deadman, and the active one begins an authentication that found no manager again; one that arrives ends the count of misses, and a damaged one does nothing; the third 20 µs interval without one loses the peer and gives a shadow its trigger; the deadman releases the role once it was not re-armed for 30 µs, its clock stopped or no manager runs, and not before; a ready shadow with its trigger that senses ROLE high takes the role with one more in the epoch, which both managers then hold; HANDOVER on the active manager gives the role to a ready shadow and is refused elsewhere; an explicit fault, by thermal shutdown or lockstep mismatch, resets its manager and triggers the shadow of a lead. -/
def Obligations.ManagersAndHeartbeats : Prop :=
  (∀ (m : Mgr) (s : State), s.on Hid.PRESENT m → (decide (s.isActive m = false ∨ s.get Reg.PACK_STATUS.AUTH_STATE 0 ≠ Auth.noManager)) → Answers (.heartbeatSend m) s fun
      t => t.on Hid.HB_SENT m ∧ t.get Hid.HB_BEAT m = s.get Hid.BEAT m % 2 ^ 40 ∧ t.get Hid.HB_EPOCH m = s.get Hid.EPOCH m % 2 ^ 16 ∧ t.on Hid.HB_ROLE m = s.isActive m ∧
      t.get Hid.HB_REPOCH m = s.get Reg.REIN_STATUS.EPOCH m % 2 ^ 8 ∧ t.get Hid.HB_SEQ m = (s.get Hid.HB_SEQ m + 1) % 2 ^ 8 ∧ t.get Hid.ROLE_WAIT m = 0 ∧ OnlyFields
      [Hid.ROLE_WAIT, Hid.HB_SENT, Hid.HB_BEAT, Hid.HB_EPOCH, Hid.HB_ROLE, Hid.HB_REPOCH, Hid.HB_HEALTH, Hid.HB_SEQ] s t) ∧
  (∀ (m : Mgr) (s : State), s.on Hid.PRESENT m → s.isActive m → s.get Reg.PACK_STATUS.AUTH_STATE 0 = Auth.noManager → s.on Reg.CHG_STATUS.BAT_PRESENT 0 → s.on
      Reg.PACK_CFG.AUTH_REQ 0 → s.on Hid.AUTH_RUN 0 = false → Answers (.heartbeatSend m) s fun t => t.on Hid.HB_SENT m ∧ t.get Hid.HB_BEAT m = s.get Hid.BEAT m % 2 ^ 40 ∧
      t.get Hid.HB_EPOCH m = s.get Hid.EPOCH m % 2 ^ 16 ∧ t.on Hid.HB_ROLE m = s.isActive m ∧ t.get Hid.HB_REPOCH m = s.get Reg.REIN_STATUS.EPOCH m % 2 ^ 8 ∧ t.get
      Hid.HB_SEQ m = (s.get Hid.HB_SEQ m + 1) % 2 ^ 8 ∧ t.get Hid.ROLE_WAIT m = 0 ∧ t.get Reg.PACK_STATUS.AUTH_STATE 0 = Auth.pending ∧ t.get Hid.AUTH_RUN 0 = 1 ∧
      OnlyFields [Hid.AUTH_N, Hid.AUTH_Q, Hid.AUTH_RUN, Hid.CHG_I, Hid.CHG_N, Hid.HB_BEAT, Hid.HB_EPOCH, Hid.HB_HEALTH, Hid.HB_REPOCH, Hid.HB_ROLE, Hid.HB_SENT,
      Hid.HB_SEQ, Hid.PL_TX, Hid.ROLE_WAIT, Reg.CHG_COUNTS.ELAPSED, Reg.CHG_STATUS.CUTBACK, Reg.CHG_STATUS.HALF_RATE, Reg.CHG_STATUS.PHASE, Reg.CHG_STATUS.SUSP,
      Reg.PACK_STATUS.AUTH_STATE] s t) ∧
  (∀ (m : Mgr) (s : State), s.on Hid.PRESENT m = false → s.isActive m = false → Answers (.heartbeatSend m) s fun t => t = s) ∧
  (∀ (m : Mgr) (ok : Bool) (s : State), ok = true → s.on Hid.PRESENT m → s.on Hid.HB_SENT (peer m) → s.isActive (peer m) = false → Answers (.heartbeatReceive m ok) s fun
      t => t.get Reg.REIN_STATUS.MISSES m = 0 ∧ t.get Reg.REIN_STATUS.PEER_LOST m = 0 ∧ t.on Hid.HB_SENT (peer m) = false) ∧
  (∀ (m : Mgr) (ok : Bool) (s : State), ok = true → s.on Hid.PRESENT m → s.on Hid.HB_SENT (peer m) → s.on Hid.HB_ROLE (peer m) → s.isActive m = false → s.get Hid.HB_BEAT
      (peer m) < 2 ^ 40 → s.get Hid.HB_EPOCH (peer m) < 2 ^ 16 → Answers (.heartbeatReceive m ok) s fun t => t.get Reg.REIN_STATUS.EPOCH m = s.get Hid.HB_REPOCH (peer m)
      % 2 ^ 8 ∧ (s.get Hid.EPOCH m * 2 ^ 40 + s.get Hid.BEAT m < s.get Hid.HB_EPOCH (peer m) * 2 ^ 40 + s.get Hid.HB_BEAT (peer m) → t.get Hid.BEAT m = s.get Hid.HB_BEAT
      (peer m) ∧ t.get Hid.EPOCH m = s.get Hid.HB_EPOCH (peer m)) ∧ (s.get Hid.HB_EPOCH (peer m) * 2 ^ 40 + s.get Hid.HB_BEAT (peer m) < s.get Hid.EPOCH m * 2 ^ 40 +
      s.get Hid.BEAT m → t.on Hid.BEAT_HOLD m ∧ t.get Hid.BEAT m = s.get Hid.BEAT m) ∧ (s.bit Hid.HB_HEALTH (peer m) 0 → t.on Hid.TRIG m)) ∧
  (∀ (m : Mgr) (ok : Bool) (s : State), ok = false → Answers (.heartbeatReceive m ok) s fun t => OnlyCells [(Hid.HB_SENT, peer m, 0)] s t) ∧
  (∀ (m : Mgr) (ok : Bool) (s : State), ok = true → s.on Hid.PRESENT m → s.on Hid.HB_SENT (peer m) → s.isActive 0 → s.isActive 1 → Answers (.heartbeatReceive m ok) s fun
      t => t.isActive 0 ∧ t.isActive 1 = false ∧ t.on Hid.ROLE_LOW 1 = false ∧ t.on Reg.REIN_STATUS.ROLE_CONTEST 1 ∧ t.get Reg.REIN_COUNTS.CONTEST_COUNT 0 = s.bumped
      Reg.REIN_COUNTS.CONTEST_COUNT 0 ∧ t.get Reg.REIN_STATUS.MISSES m = 0) ∧
  (∀ (m : Mgr) (s : State), s.on Hid.PRESENT m → 20 ≤ s.get Hid.HB_WAIT m → s.get Reg.REIN_STATUS.MISSES m < 3 → Answers (.heartbeatMiss m) s fun t => t.get
      Reg.REIN_STATUS.MISSES m = s.get Reg.REIN_STATUS.MISSES m + 1 ∧ t.get Reg.REIN_COUNTS.MISS_COUNT m = s.bumped Reg.REIN_COUNTS.MISS_COUNT m ∧ (s.get
      Reg.REIN_STATUS.MISSES m = 2 → t.get Reg.REIN_STATUS.PEER_LOST m = 1 ∧ (s.isActive m = false → t.on Hid.TRIG m)) ∧ t.get Hid.HB_WAIT m = 0 ∧ OnlyFields
      [Hid.HB_WAIT, Reg.REIN_STATUS.MISSES, Reg.REIN_COUNTS.MISS_COUNT, Reg.REIN_STATUS.PEER_LOST, Hid.TRIG, Reg.LBIST_STATUS.COMPLETE_ST] s t) ∧
  (∀ (m : Mgr) (s : State), (decide (s.on Hid.PRESENT m = false ∨ s.get Hid.HB_WAIT m < 20)) → Answers (.heartbeatMiss m) s fun t => t = s) ∧
  (∀ (m : Mgr) (s : State), s.deadmanOut m → Answers (.roleDeadmanRelease m) s fun t => t.on Hid.ROLE_LOW m = false ∧ t.isActive m = false ∧ OnlyCells [(Hid.ROLE_LOW, m,
      0), (Reg.REIN_STATUS.ACTIVE, m, 0)] s t) ∧
  (∀ (m : Mgr) (s : State), s.deadmanOut m = false → Answers (.roleDeadmanRelease m) s fun t => t = s) ∧
  (∀ (m : Mgr) (high : Bool) (s : State), high = true → s.on Hid.PRESENT m → s.isActive m = false → s.on Reg.REIN_STATUS.SHADOW_READY m → s.on Hid.TRIG m → s.roleOpen m →
      Answers (.takeover m high) s fun t => t.isActive m ∧ t.on Hid.ROLE_LOW m ∧ t.get Reg.REIN_STATUS.EPOCH m = (if s.isActive (peer m) then s.get Reg.REIN_STATUS.EPOCH
      (peer m) else s.get Reg.REIN_STATUS.EPOCH m + 1) % 2 ^ 8 ∧ t.get Reg.REIN_STATUS.EPOCH (peer m) = (if s.isActive (peer m) then s.get Reg.REIN_STATUS.EPOCH (peer m)
      else (s.get Reg.REIN_STATUS.EPOCH m + 1) % 2 ^ 8) ∧ t.get Reg.REIN_STATUS.TAKEOVER_EVT m = 1 ∧ t.get Reg.REIN_COUNTS.TAKEOVER_COUNT m = s.bumped
      Reg.REIN_COUNTS.TAKEOVER_COUNT m ∧ t.on Reg.REIN_STATUS.SHADOW_READY m = false ∧ t.on Hid.TRIG m = false ∧ t.on Hid.BEAT_HOLD m = false) ∧
  (∀ (m : Mgr) (high : Bool) (s : State), (high = false ∨ s.on Hid.PRESENT m = false ∨ s.isActive m ∨ s.on Reg.REIN_STATUS.SHADOW_READY m = false ∨ s.on Hid.TRIG m =
      false ∨ s.roleOpen m = false) → Answers (.takeover m high) s fun t => t = s) ∧
  (∀ (w : Who) (m : Mgr) (s : State), s.isActive (s.reach w m) → s.isActive (peer (s.reach w m)) = false → s.on Hid.PRESENT (peer (s.reach w m)) → s.on Hid.ROLE_LOW (peer
      (s.reach w m)) = false → s.on Reg.REIN_STATUS.SHADOW_READY (peer (s.reach w m)) → Answers (.handover w m) s fun t => t.active = some (peer (s.reach w m)) ∧ t.on
      Hid.ROLE_LOW (s.reach w m) = false ∧ t.on Hid.ROLE_LOW (peer (s.reach w m)) ∧ t.get Reg.REIN_STATUS.EPOCH (peer (s.reach w m)) = (s.get Reg.REIN_STATUS.EPOCH (peer
      (s.reach w m)) + 1) % 2 ^ 8 ∧ t.get Reg.REIN_STATUS.TAKEOVER_EVT (peer (s.reach w m)) = 1) ∧
  (∀ (w : Who) (m : Mgr) (s : State), (s.isActive (s.reach w m) = false ∨ s.on Hid.PRESENT (peer (s.reach w m)) = false ∨ s.on Reg.REIN_STATUS.SHADOW_READY (peer (s.reach
      w m)) = false) → Answers (.handover w m) s fun t => t.logged JKind.refused JStatus.refused noTarget ∧ OnlyFieldsLog [] s t) ∧
  (∀ (m : Mgr) (s : State), s.on Hid.PRESENT m → Answers (.mgrThermalShutdown m) s fun t => t.on Hid.PRESENT m = false ∧ t.isActive m = false ∧ t.on Hid.ROLE_LOW m =
      false ∧ t.get Hid.ST_STATE m = 1 ∧ (s.isActive m → t.on Hid.TRIG (peer m)) ∧ t.isActive (peer m) = s.isActive (peer m) ∧ t.jrnA = s.jrnA) ∧
  (∀ (m : Mgr) (s : State), s.on Hid.PRESENT m → Answers (.lockstepMismatch m) s fun t => t.on Hid.PRESENT m = false ∧ t.isActive m = false ∧ t.on Hid.ROLE_LOW m = false
      ∧ t.get Hid.ST_STATE m = 1 ∧ (s.isActive m → t.on Hid.TRIG (peer m)) ∧ t.bitAt Hid.EV_ONCE (504 + 32 * m.val + 2))

/-- A mirrored word of the active manager lands in the shadow's window and nowhere else; a sweep leaves every word of the window equal in both and counts toward readiness only where it found none that differed; ten such sweeps make a shadow with the same firmware whose self-test does not stand in the way ready; a probe that is asked for runs once its unit is out of service, and that of a manager die is its logic self-test; the verdict of a running probe is TRANSIENT when it passes with few errors and LASTING otherwise, with its effect on the unit, and ends the probe; one that has waited 1 s for its unit is NOT_RUN; a logic self-test of an idle tile, of HPD or of the shadow starts and runs, else it is refused; its end is PASS when the signature is the ROM's, a tile that fails starts no rail and a manager keeps the result. -/
def Obligations.MirrorAndSelfTests : Prop :=
  (∀ (addr : BitVec 14) (s : State), Memory.wf s.mem = true → s.mirrors → Answers (.mirrorCopy addr) s fun t => (∀ k : Fin 4, t.rd8 (mirrorAddr (peer s.act) (addr.toNat /
      4 * 4) + k) = s.rd8 (mirrorAddr s.act (addr.toNat / 4 * 4) + k)) ∧ BytesOutside (mirrorAddr (peer s.act) (addr.toNat / 4 * 4)) 4 s t ∧ t = { s with mem := t.mem }) ∧
  (∀ (s : State), s.mirrors → s.mirrorDiffs = [] → Answers (.mirrorSweep) s fun t => t.mem = s.mem ∧ t.get Hid.MIRR_RUN (peer s.act) = min 10 (s.get Hid.MIRR_RUN (peer
      s.act) + 1) ∧ OnlyCells [(Hid.MIRR_RUN, peer s.act, 0)] s t) ∧
  (∀ (s : State), Memory.wf s.mem = true → s.mirrors → s.mirrorDiffs ≠ [] → Answers (.mirrorSweep) s fun t => t.mirrorDiffs = [] ∧ t.get Hid.MIRR_RUN (peer s.act) = 0 ∧
      BytesOutside (mirrorAddr (peer s.act) 0) 0x4000 s t) ∧
  (∀ (m : Mgr) (s : State), s.on Hid.PRESENT m → s.isActive m = false → s.active.isSome → s.get Hid.MIRR_RUN m = 10 → s.get Hid.ST_STATE m = 2 → s.get Hid.FW_HASH m =
      s.get Hid.FW_HASH (peer m) → Answers (.shadowReady m) s fun t => t.on Reg.REIN_STATUS.SHADOW_READY m ∧ t.on Reg.REIN_STATUS.SYNCING m = false ∧ t.jrnA = t.jrnB) ∧
  (∀ (m : Mgr) (s : State), s.get Hid.MIRR_RUN m < 10 → Answers (.shadowReady m) s fun t => t = s) ∧
  (∀ (kind : Fin 8) (u : Tile) (unit : Byte) (s : State), kind ≠ 7 → s.awlAsked kind u unit.toNat → s.outOfService kind u unit.toNat → Answers (.awlProbeStart kind u
      unit) s fun t => t.awlHas kind u unit.toNat true ∧ t.awlHas kind u unit.toNat false = false ∧ t.awlProbes.length ≤ s.awlProbes.length + 1 ∧ t =
      { s with awlProbes := t.awlProbes }) ∧
  (∀ (kind : Fin 8) (u : Tile) (unit : Byte) (s : State), kind ≠ 7 → (decide (s.awlAsked kind u unit.toNat = false ∨ s.outOfService kind u unit.toNat = false)) → Answers
      (.awlProbeStart kind u unit) s fun t => t = s) ∧
  (∀ (kind : Fin 8) (u : Tile) (unit : Byte) (s : State), kind = 7 → u = 0 → s.dieTestable unit.toNat → Answers (.awlProbeStart kind u unit) s fun t => t.awlHas 7 0
      unit.toNat true ∧ t.get Hid.LBIST_ON 0 = 6 ∧ t.get Reg.LBIST_STATUS.RESULT 0 = LbRes.running ∧ t.get Hid.LBIST_AT 0 = s.beat % 2 ^ Hid.LBIST_AT.wid ∧ t.on
      Hid.PRESENT unit.toNat = false ∧ t.active = s.active) ∧
  (∀ (kind : Fin 8) (u : Tile) (unit : Byte) (s : State), kind = 7 → (decide (u ≠ 0 ∨ s.dieTestable unit.toNat = false)) → Answers (.awlProbeStart kind u unit) s fun t =>
      t = s) ∧
  (∀ (kind : Fin 8) (u : Tile) (unit : Byte) (pass : Bool) (s : State), kind ≠ 7 → s.awlHas kind u unit.toNat true → Answers (.awlVerdict kind u unit pass) s fun t =>
      t.awlHas kind u unit.toNat true = false ∧ t.get Reg.AWL_STATUS.UNIT s.act = kind.val ∧ t.get Reg.AWL_STATUS.INSTANCE s.act = u.val * 256 + unit.toNat ∧ t.get
      Reg.AWL_STATUS.PROBE_COUNT s.act = s.bumped Reg.AWL_STATUS.PROBE_COUNT s.act ∧ t.logged JKind.action JStatus.ok noTarget ∧ t.get Reg.AWL_STATUS.VERDICT s.act = (if
      pass && s.awlFew kind u unit.toNat then 1 else 2) ∧ ((kind = 1 ∧ pass ∧ s.awlFew kind u unit.toNat) → t.on Reg.ENG_FAULT.PROBE_OK (u.val * 24 + unit.toNat)) ∧ (kind
      = 2 → t.on Hid.SPARE_BAD u = decide (pass = false ∨ s.awlFew kind u unit.toNat = false)) ∧ ((kind = 6 ∧ unit = 0 ∧ (pass = false ∨ s.awlFew kind u unit.toNat =
      false)) → t.get Reg.MEM_STATUS.SP_SPARES u = s.get Reg.MEM_STATUS.SP_SPARES u - 1) ∧ OnlyFieldsLog [Hid.EV_ONCE, Hid.SPARE_BAD, Hid.ST_SPARE,
      Reg.AWL_STATUS.INSTANCE, Reg.AWL_STATUS.PROBE_COUNT, Reg.AWL_STATUS.UNIT, Reg.AWL_STATUS.VERDICT, Reg.ENG_FAULT.PROBE_OK, Reg.LBIST_STATUS.COMPLETE_ST,
      Reg.MEM_STATUS.FE_SPARES, Reg.MEM_STATUS.SP_SPARES] { s with awlProbes := t.awlProbes } t) ∧
  (∀ (kind : Fin 8) (u : Tile) (unit : Byte) (pass : Bool) (s : State), kind = 7 → s.awlHas kind u unit.toNat true → s.get Hid.LBIST_ON 0 = 0 → Answers (.awlVerdict kind
      u unit pass) s fun t => t.awlHas kind u unit.toNat true = false ∧ t.get Reg.AWL_STATUS.UNIT s.act = kind.val ∧ t.get Reg.AWL_STATUS.INSTANCE s.act = u.val * 256 +
      unit.toNat ∧ t.get Reg.AWL_STATUS.PROBE_COUNT s.act = s.bumped Reg.AWL_STATUS.PROBE_COUNT s.act ∧ t.logged JKind.action JStatus.ok noTarget ∧ t.get
      Reg.AWL_STATUS.VERDICT s.act = (if decide (s.get Hid.ST_STATE unit.toNat = 2) && s.awlFew kind u unit.toNat then 1 else 2) ∧ OnlyFieldsLog [Hid.EV_ONCE,
      Hid.SPARE_BAD, Hid.ST_SPARE, Reg.AWL_STATUS.INSTANCE, Reg.AWL_STATUS.PROBE_COUNT, Reg.AWL_STATUS.UNIT, Reg.AWL_STATUS.VERDICT, Reg.ENG_FAULT.PROBE_OK,
      Reg.LBIST_STATUS.COMPLETE_ST, Reg.MEM_STATUS.FE_SPARES, Reg.MEM_STATUS.SP_SPARES] { s with awlProbes := t.awlProbes } t) ∧
  (∀ (kind : Fin 8) (u : Tile) (unit : Byte) (pass : Bool) (s : State), (decide (s.awlHas kind u unit.toNat true = false ∨ (kind = 7 ∧ s.get Hid.LBIST_ON 0 ≠ 0))) →
      Answers (.awlVerdict kind u unit pass) s fun t => t = s) ∧
  (∀ (kind : Fin 8) (u : Tile) (unit : Byte) (s : State), s.awlLate kind u unit.toNat → s.outOfService kind u unit.toNat = false → Answers (.awlNotRun kind u unit) s fun
      t => t.awlHas kind u unit.toNat false = false ∧ t.get Reg.AWL_STATUS.VERDICT s.act = 3 ∧ t.get Reg.AWL_STATUS.UNIT s.act = kind.val ∧ t.get
      Reg.AWL_STATUS.PROBE_COUNT s.act = s.get Reg.AWL_STATUS.PROBE_COUNT s.act ∧ t.logged JKind.action JStatus.ok noTarget ∧ OnlyFieldsLog [Hid.EV_ONCE,
      Reg.AWL_STATUS.INSTANCE, Reg.AWL_STATUS.UNIT, Reg.AWL_STATUS.VERDICT] { s with awlProbes := t.awlProbes } t) ∧
  (∀ (kind : Fin 8) (u : Tile) (unit : Byte) (s : State), (decide (s.awlLate kind u unit.toNat = false ∨ s.outOfService kind u unit.toNat = true)) → Answers (.awlNotRun
      kind u unit) s fun t => t = s) ∧
  (∀ (w : Who) (m : Mgr) (target : Fin 16) (s : State), s.reach w m = s.act → s.lbistAllowed target → target.val ≤ 4 → Answers (.lbistStart w m target) s fun t => t.get
      Reg.LBIST_CTRL.TARGET 0 = target.val ∧ t.get Reg.LBIST_STATUS.RESULT 0 = LbRes.running ∧ t.get Hid.LBIST_ON 0 = target.val + 1 ∧ t.get Hid.LBIST_AT 0 = s.beat % 2 ^
      Hid.LBIST_AT.wid ∧ t.logged JKind.accepted JStatus.ok noTarget ∧ OnlyFieldsLog [Reg.LBIST_CTRL.TARGET, Reg.LBIST_STATUS.RESULT, Hid.LBIST_ON, Hid.LBIST_AT,
      Hid.BUS_ERR] s t) ∧
  (∀ (w : Who) (m : Mgr) (target : Fin 16) (s : State), s.reach w m = s.act → target = 5 → s.lbistAllowed 5 → Answers (.lbistStart w m target) s fun t => t.get
      Reg.LBIST_STATUS.RESULT 0 = LbRes.running ∧ t.get Hid.LBIST_ON 0 = 6 ∧ t.get Hid.LBIST_AT 0 = s.beat % 2 ^ Hid.LBIST_AT.wid ∧ t.on Hid.PRESENT (peer s.act) = false
      ∧ t.active = s.active ∧ t.logged JKind.accepted JStatus.ok noTarget) ∧
  (∀ (w : Who) (m : Mgr) (target : Fin 16) (s : State), s.reach w m = s.act → s.lbistAllowed target = false → Answers (.lbistStart w m target) s fun t => t.logged
      JKind.refused JStatus.refused noTarget ∧ (s.get Hid.LBIST_ON 0 = 0 → t.get Reg.LBIST_STATUS.RESULT 0 = LbRes.refused) ∧ OnlyFieldsLog [Reg.LBIST_CTRL.TARGET,
      Reg.LBIST_STATUS.RESULT, Hid.BUS_ERR] s t) ∧
  (∀ (w : Who) (m : Mgr) (target : Fin 16) (s : State), s.reach w m ≠ s.act → Answers (.lbistStart w m target) s fun t => t.getAt Hid.BUS_ERR (s.reach w m) (whoIx w) = 1
      ∧ OnlyCells [(Hid.BUS_ERR, s.reach w m, whoIx w)] s t) ∧
  (∀ (sig : DWord) (s : State), s.get Hid.LBIST_ON 0 ≠ 0 → s.get Hid.LBIST_ON 0 ≤ 4 → 4000 ≤ beatDiff s.beat (s.get Hid.LBIST_AT 0) → Answers (.lbistDone sig) s fun t =>
      t.get Hid.LBIST_ON 0 = 0 ∧ t.get Hid.LBIST_SIG 0 = sig.toNat ∧ t.get Reg.LBIST_STATUS.RESULT 0 = (if sig = Config.lbistSig 0 then LbRes.pass else LbRes.fail) ∧ t.on
      Hid.TILE_FAIL (s.get Hid.LBIST_ON 0 - 1) = decide (sig ≠ Config.lbistSig 0) ∧ t.accepted (.other (Reg.LBIST_CTRL.START.addr 0 0)) = false) ∧
  (∀ (sig : DWord) (s : State), s.get Hid.LBIST_ON 0 = 5 → Answers (.lbistDone sig) s fun t => t.get Hid.LBIST_ON 0 = 0 ∧ t.get Hid.LBIST_SIG 0 = sig.toNat ∧ t.get
      Reg.LBIST_STATUS.RESULT 0 = (if sig = Config.lbistSig 1 then LbRes.pass else LbRes.fail) ∧ t.accepted (.other (Reg.LBIST_CTRL.START.addr 0 0)) = false ∧ t.mem =
      s.mem) ∧
  (∀ (sig : DWord) (s : State), s.get Hid.LBIST_ON 0 = 6 → 8000 ≤ beatDiff s.beat (s.get Hid.LBIST_AT 0) → Answers (.lbistDone sig) s fun t => t.get Hid.LBIST_ON 0 = 0 ∧
      t.get Hid.LBIST_SIG 0 = sig.toNat ∧ t.get Reg.LBIST_STATUS.RESULT 0 = (if sig = Config.lbistSig 2 then LbRes.pass else LbRes.fail) ∧ t.get Hid.ST_STATE (peer s.act)
      = (if sig = Config.lbistSig 2 then 2 else 3) ∧ t.on Hid.ST_SHADOW s.act = decide (sig = Config.lbistSig 2) ∧ t.accepted (.other (Reg.LBIST_CTRL.START.addr 0 0)) =
      false ∧ t.mem = s.mem) ∧
  (∀ (sig : DWord) (s : State), s.get Hid.LBIST_ON 0 = 0 → Answers (.lbistDone sig) s fun t => t = s)

/-- ARM starts a tile's capture at segment 0; TRIG triggers it whatever TRIG_EN enables; capture stops when the segments after the trigger are complete; ENTER in RUN takes the device into Kerb mode with cause HOST, one more in ENTRY_COUNT and the two user cores halted; in Kerb mode a cause only latches; a low state of charge on battery for 100 ms enters with cause SOC; EXIT returns to RUN with the causes cleared when the order has ended and no cause persists, goes on with the AUTO sequence if there is one, and is refused otherwise; 30 µs of silence shows, and silence that lasted KERB_HOLD begins the tile's own order. -/
def Obligations.CaptureAndKerb : Prop :=
  (∀ (w : Who) (u : Tile) (s : State), Answers (.captureArm w u) s fun t => t.get Reg.CAP_CTRL.ARM u = 1 ∧ t.on Reg.CAP_STATUS.RUNNING u ∧ t.get Reg.CAP_STATUS.NEXT u = 0
      ∧ t.on Reg.CAP_STATUS.STOPPED u = false ∧ t.on Hid.CAP_TRIGD u = false ∧ t.logged JKind.done JStatus.ok noTarget ∧ OnlyFieldsLog [Hid.CAP_FULL, Hid.CAP_LEFT,
      Hid.CAP_OFF, Hid.CAP_TRIGD, Hid.FU_DEBUG, Hid.FU_DEVICE_ID, Hid.FU_HPD_TRIM, Hid.FU_IG, Hid.FU_ILIM, Hid.FU_KEY, Hid.FU_KILL, Hid.FU_K_ROOT, Hid.FU_LIFE,
      Hid.FU_MGR_TRIM, Hid.FU_OV, Hid.FU_PRIV, Hid.FU_PRODUCT, Hid.FU_REVOKE, Hid.FU_ROLLBACK, Hid.FU_STG, Hid.FU_WDT_HW, Hid.FU_WIPE, Reg.CAP_CTRL.ARM,
      Reg.CAP_STATUS.NEXT, Reg.CAP_STATUS.OLDEST, Reg.CAP_STATUS.RUNNING, Reg.CAP_STATUS.STOPPED] s t) ∧
  (∀ (w : Who) (u : Tile) (s : State), s.on Reg.CAP_STATUS.RUNNING u → s.on Hid.CAP_TRIGD u = false → Answers (.capTrig w u) s fun t => t.get Reg.CAP_STATUS.TRIGGERED u =
      1 ∧ t.get Hid.CAP_LEFT u = s.get Reg.CAP_CTRL.POST u % 2 ^ Hid.CAP_LEFT.wid ∧ t.on Hid.CAP_TRIGD u ∧ t.logged JKind.done JStatus.ok noTarget ∧ OnlyFieldsLog
      [Hid.CAP_LEFT, Hid.CAP_TRIGD, Hid.FU_DEBUG, Hid.FU_DEVICE_ID, Hid.FU_HPD_TRIM, Hid.FU_IG, Hid.FU_ILIM, Hid.FU_KEY, Hid.FU_KILL, Hid.FU_K_ROOT, Hid.FU_LIFE,
      Hid.FU_MGR_TRIM, Hid.FU_OV, Hid.FU_PRIV, Hid.FU_PRODUCT, Hid.FU_REVOKE, Hid.FU_ROLLBACK, Hid.FU_STG, Hid.FU_WDT_HW, Hid.FU_WIPE, Reg.CAP_CTRL.TRIG,
      Reg.CAP_STATUS.TRIGGERED] s t) ∧
  (∀ (w : Who) (u : Tile) (s : State), (decide (s.on Reg.CAP_STATUS.RUNNING u = false ∨ s.on Hid.CAP_TRIGD u = true)) → Answers (.capTrig w u) s fun t => t.logged
      JKind.done JStatus.ok noTarget ∧ OnlyFieldsLog [] s t) ∧
  (∀ (u : Tile) (s : State), s.on Reg.CAP_STATUS.RUNNING u → s.on Hid.CAP_TRIGD u → s.get Hid.CAP_LEFT u = 0 → Answers (.captureStop u) s fun t => t.on
      Reg.CAP_STATUS.RUNNING u = false ∧ t.on Reg.CAP_STATUS.STOPPED u ∧ OnlyCells [(Reg.CAP_STATUS.RUNNING, u, 0), (Reg.CAP_STATUS.STOPPED, u, 0)] s t) ∧
  (∀ (u : Tile) (s : State), (decide (s.on Reg.CAP_STATUS.RUNNING u = false ∨ s.on Hid.CAP_TRIGD u = false ∨ s.get Hid.CAP_LEFT u ≠ 0)) → Answers (.captureStop u) s fun t
      => t = s) ∧
  (∀ (w : Who) (s : State), s.dev = Dev.run → s.active.isSome → Answers (.kerbEnter w) s fun t => t.dev = Dev.kerb ∧ t.get Reg.KERB_STATUS.IN_KERB 0 = 1 ∧ t.bit
      Reg.KERB_STATUS.CAUSE 0 KCause.host ∧ t.get Reg.KERB_STATUS.ENTRY_COUNT 0 = s.bumped Reg.KERB_STATUS.ENTRY_COUNT 0 ∧ t.onAt Reg.EVC_CORE.HALTED 0 1 ∧ t.onAt
      Reg.EVC_CORE.HALTED 0 2 ∧ t.mem = s.mem) ∧
  (∀ (w : Who) (s : State), s.dev = Dev.kerb → Answers (.kerbEnter w) s fun t => t.dev = Dev.kerb ∧ t.bit Reg.KERB_STATUS.CAUSE 0 KCause.host ∧ t.logged JKind.done
      JStatus.ok noTarget ∧ OnlyFieldsLog [Reg.KERB_STATUS.CAUSE] s t) ∧
  (∀ (w : Who) (s : State), s.dev ≠ Dev.kerb → s.dev ≠ Dev.run → Answers (.kerbEnter w) s fun t => t.dev = s.dev ∧ t.logged JKind.done JStatus.ok noTarget ∧ OnlyFieldsLog
      [] s t) ∧
  (∀ (s : State), s.dev = Dev.run → s.active.isSome → s.on Reg.GG_STATUS.KERB_LOW 0 → s.onBattery → 100 ≤ s.get Hid.KSOC_N 0 → Answers (.kerbSocEntry) s fun t => t.dev =
      Dev.kerb ∧ t.bit Reg.KERB_STATUS.CAUSE 0 KCause.soc ∧ t.get Reg.KERB_STATUS.IN_KERB 0 = 1) ∧
  (∀ (s : State), (decide (s.on Reg.GG_STATUS.KERB_LOW 0 = false ∨ s.onBattery = false ∨ s.get Hid.KSOC_N 0 < 100)) → Answers (.kerbSocEntry) s fun t => t = s) ∧
  (∀ (w : Who) (s : State), s.dev = Dev.kerb → s.orderEnded → s.kerbPersists = false → Answers (.kerbExit w) s fun v => ∃ t : State, v = t.autoRun ∧ t.dev = Dev.run ∧
      t.get Reg.KERB_STATUS.IN_KERB 0 = 0 ∧ t.get Reg.KERB_STATUS.CAUSE 0 = 0 ∧ t.onAt Reg.EVC_CORE.HALTED 0 1 = false ∧ t.onAt Reg.EVC_CORE.HALTED 0 2 = false ∧ (∀ u :
      Tile, t.get Reg.TILE_AUTO.AUTO_KERB u = 0) ∧ t.logged JKind.done JStatus.ok noTarget ∧ OnlyFieldsLog [Reg.DEV_STATE.STATE, Reg.KERB_STATUS.IN_KERB,
      Reg.KERB_STATUS.CAUSE, Reg.EVC_CORE.HALTED, Reg.TILE_AUTO.AUTO_KERB] s t) ∧
  (∀ (w : Who) (s : State), s.dev = Dev.kerb → s.orderEnded → s.kerbPersists = false → (∀ q : Fin 8, s.onAt Reg.SEQ_HDR.AUTO 0 q = false) → Answers (.kerbExit w) s fun t
      => t.dev = Dev.run ∧ t.get Reg.KERB_STATUS.IN_KERB 0 = 0 ∧ t.get Reg.KERB_STATUS.CAUSE 0 = 0 ∧ t.onAt Reg.EVC_CORE.HALTED 0 1 = false ∧ t.onAt Reg.EVC_CORE.HALTED 0
      2 = false ∧ (∀ u : Tile, t.get Reg.TILE_AUTO.AUTO_KERB u = 0) ∧ t.logged JKind.done JStatus.ok noTarget ∧ OnlyFieldsLog [Reg.DEV_STATE.STATE,
      Reg.KERB_STATUS.IN_KERB, Reg.KERB_STATUS.CAUSE, Reg.EVC_CORE.HALTED, Reg.TILE_AUTO.AUTO_KERB] s t) ∧
  (∀ (w : Who) (s : State), (s.dev ≠ Dev.kerb ∨ s.orderEnded = false ∨ s.kerbPersists) → Answers (.kerbExit w) s fun t => t.get Reg.KERB_CTRL.KERB_REJ 0 = 1 ∧ t.logged
      JKind.refused JStatus.refused noTarget ∧ OnlyFieldsLog [Reg.KERB_CTRL.KERB_REJ] s t) ∧
  (∀ (u : Tile) (s : State), s.silentFor u 30 → Answers (.mgrSilent u) s fun t => t.get Reg.TILE_AUTO.MGR_SILENT u = 1 ∧ OnlyCells [(Reg.TILE_AUTO.MGR_SILENT, u, 0)] s t) ∧
  (∀ (u : Tile) (s : State), s.silentFor u 30 = false → Answers (.mgrSilent u) s fun t => t = s) ∧
  (∀ (u : Tile) (s : State), s.on Reg.TILE_AUTO.MGR_SILENT u → s.silentFor u (s.get Reg.TILE_AUTO.KERB_HOLD u * 10000) → s.on Reg.TILE_AUTO.AUTO_KERB u = false → Answers
      (.autoKerb u) s fun t => t.on Reg.TILE_AUTO.AUTO_KERB u ∧ (s.kerbSeq.any (fun q => s.getAt Reg.SEQ_HDR.NSTG 0 q ≠ 0) → t.get Hid.AK_STEP u = SeqStep.delay ∧ t.get
      Hid.AK_NEXT u = 0) ∧ OnlyFields [Reg.TILE_AUTO.AUTO_KERB, Hid.AK_SEQ, Hid.AK_NEXT, Hid.AK_STEP, Hid.AK_TICK] s t) ∧
  (∀ (u : Tile) (s : State), (decide (s.on Reg.TILE_AUTO.MGR_SILENT u = false ∨ s.silentFor u (s.get Reg.TILE_AUTO.KERB_HOLD u * 10000) = false ∨ s.on
      Reg.TILE_AUTO.AUTO_KERB u = true)) → Answers (.autoKerb u) s fun t => t = s)

/-- A report that makes an occurrence at an enabled idle source that does not fold (a level that is 1, or a rising edge where the source senses it) makes the source active and puts one record with the next SEQ and the report's time at the tail of the safety queue for the safety class and of the main queue otherwise, and in the host queue where the source has HOST; one whose source folds starts a fold, or joins the open fold of its class with one more in COUNT; at an active source an edge is counted and makes no record; at a source that is not enabled only the line follows; while no manager is active a running shadow keeps the report; a refresh reports every line of its die that is 1; a fold whose window has passed closes, becomes takeable and goes to the host queue where a member has HOST. -/
def Obligations.EventReports : Prop :=
  (∀ (src : Fin 640) (tick : Word) (s : State), s.active.isSome → s.lineNow src → (decide (s.srcSense src = 0 ∨ ((s.srcSense src).testBit 0 = true ∧ s.bitAt
      Reg.SRC_LINE.LINE src = false))) → s.onAt Reg.SRC_CFG.ENABLE 0 src → s.srcActive src = false → (decide (s.srcClass src = 2 ∨ s.srcFold src = 0 ∨ s.get
      Reg.EVC_CTRL.FOLD_WIN 0 = 0)) → s.qFits (if s.srcClass src = 2 then EvQueue.safe else EvQueue.main) evBlank → Answers (.eventReport src tick) s fun t => t.srcActive
      src ∧ t.bitAt Reg.SRC_LINE.LINE src ∧ (t.queue (if s.srcClass src = 2 then EvQueue.safe else EvQueue.main)).length = (s.queue (if s.srcClass src = 2 then
      EvQueue.safe else EvQueue.main)).length + 1 ∧ ((t.queue (if s.srcClass src = 2 then EvQueue.safe else EvQueue.main)).getLast?.map (fun r => (r.typ, r.src, r.cls,
      r.prio, r.count, r.line)) = some (1, src.val, s.srcClass src, s.srcPrio src, 1, true)) ∧ ((t.queue (if s.srcClass src = 2 then EvQueue.safe else
      EvQueue.main)).getLast?.map (fun r => (r.seq, r.beat, r.sub)) = some ((s.get Hid.EV_SEQ 0 + 1) % 2 ^ 31, (s.tickStamp tick.toNat).1, (s.tickStamp tick.toNat).2)) ∧
      (s.srcClass src = 2 → t.evMain = s.evMain) ∧ (s.srcClass src ≠ 2 → t.evSafe = s.evSafe) ∧ (s.srcHost src = false → t.evHost = s.evHost) ∧ (s.srcHost src → s.qFits
      .host evBlank → t.evHost.length = s.evHost.length + 1 ∧ t.evHost.getLast?.map (fun r => (r.typ, r.src, r.isOpen)) = some (1, src.val, false))) ∧
  (∀ (src : Fin 640) (tick : Word) (s : State), s.active.isSome → s.lineNow src → (decide (s.srcSense src = 0 ∨ ((s.srcSense src).testBit 0 = true ∧ s.bitAt
      Reg.SRC_LINE.LINE src = false))) → s.onAt Reg.SRC_CFG.ENABLE 0 src → s.srcActive src = false → s.srcClass src ≠ 2 → s.srcFold src ≠ 0 → s.get Reg.EVC_CTRL.FOLD_WIN
      0 ≠ 0 → ((s.evMain.find? fun (r : EvRec) => r.typ = 2 && r.isOpen && r.foldCls = s.srcFold src) = none) → s.qFits .main { evBlank with typ := 2 } → Answers
      (.eventReport src tick) s fun t => t.srcActive src ∧ t.evMain.length = s.evMain.length + 1 ∧ (t.evMain.getLast?.map (fun r => (r.typ, r.foldCls, r.isOpen, r.count,
      r.base, r.bitmap)) = some (2, s.srcFold src, true, 1, s.foldBase (s.srcFold src), 2 ^ (src.val - s.foldBase (s.srcFold src)))) ∧ t.evFolds = s.evFolds ++
      [⟨s.srcFold src, (s.get Hid.EV_SEQ 0 + 1) % 2 ^ 31, [src.val]⟩] ∧ t.evSafe = s.evSafe ∧ t.evHost = s.evHost) ∧
  (∀ (src : Fin 640) (tick : Word) (s : State), s.active.isSome → s.lineNow src → (decide (s.srcSense src = 0 ∨ ((s.srcSense src).testBit 0 = true ∧ s.bitAt
      Reg.SRC_LINE.LINE src = false))) → s.onAt Reg.SRC_CFG.ENABLE 0 src → s.srcActive src = false → s.srcClass src ≠ 2 → s.srcFold src ≠ 0 → s.get Reg.EVC_CTRL.FOLD_WIN
      0 ≠ 0 → ((s.evMain.find? fun (r : EvRec) => r.typ = 2 && r.isOpen && r.foldCls = s.srcFold src).any fun r => s.foldPast r (s.tickStamp tick.toNat).1 (s.tickStamp
      tick.toNat).2 = false) → ((s.evMain.any fun (r : EvRec) => r.typ = 2 && r.isOpen && r.foldCls = s.srcFold src && s.foldPast r (s.tickStamp tick.toNat).1
      (s.tickStamp tick.toNat).2) = false) → Answers (.eventReport src tick) s fun t => t.srcActive src ∧ some t.evMain.length = some s.evMain.length ∧ ((s.evMain.find?
      fun (r : EvRec) => r.typ = 2 && r.isOpen && r.foldCls = s.srcFold src).any fun r => t.evMain.any fun (x : EvRec) => x.typ = 2 && decide (x.seq = r.seq ∧ x.count =
      min (r.count + 1) 4095 ∧ x.bitmap = withBit r.bitmap (src.val - r.base) true ∧ x.lastSub = (s.tickStamp tick.toNat).2)) ∧ t.evSafe = s.evSafe ∧ t.evHost = s.evHost) ∧
  (∀ (src : Fin 640) (tick : Word) (s : State), s.active.isSome → s.lineNow src → s.bitAt Reg.SRC_LINE.LINE src = false → s.srcSense src = 1 → s.onAt Reg.SRC_CFG.ENABLE 0
      src → s.srcActive src → Answers (.eventReport src tick) s fun t => t.getAt Hid.EV_CNT 0 src = s.bumpedAt Hid.EV_CNT 0 src ∧ t.srcActive src ∧ t.evMain = s.evMain ∧
      t.evSafe = s.evSafe ∧ t.evHost = s.evHost) ∧
  (∀ (src : Fin 640) (tick : Word) (s : State), s.active.isSome → s.onAt Reg.SRC_CFG.ENABLE 0 src = false → Answers (.eventReport src tick) s fun t => t.bitAt
      Reg.SRC_LINE.LINE src = s.lineNow src ∧ OnlyFieldsLog [Reg.SRC_LINE.LINE, Hid.EV_DET] s t) ∧
  (∀ (src : Fin 640) (tick : Word) (s : State), s.active = none → (decide (s.on Hid.PRESENT 0 = true ∨ s.on Hid.PRESENT 1 = true)) → Answers (.eventReport src tick) s fun
      t => t.evKept.length = s.evKept.length + 1 ∧ (t.evKept.getLast?.map (fun k => (k.src, k.line, k.tick, k.beat)) = some (src.val, s.lineNow src, tick.toNat, s.beat))
      ∧ t = { s with evKept := t.evKept, freeCtr := t.freeCtr }) ∧
  (∀ (src : Fin 640) (tick : Word) (s : State), s.active = none → s.on Hid.PRESENT 0 = false → s.on Hid.PRESENT 1 = false → Answers (.eventReport src tick) s fun t => t =
      { s with freeCtr := t.freeCtr }) ∧
  (∀ (die : Fin 8) (s : State), s.active.isSome → Answers (.eventReportRefresh die) s fun t => (∀ n ∈ sourcesOf s die, s.lineNow n → t.bitAt Reg.SRC_LINE.LINE n) ∧ (∀ n :
      Fin 640, n.val ∉ sourcesOf s die → t.bitAt Reg.SRC_LINE.LINE n = s.bitAt Reg.SRC_LINE.LINE n)) ∧
  (∀ (cls : Fin 16) (s : State), s.foldRipe cls → ((s.evMain.find? fun (r : EvRec) => r.typ = 2 && r.isOpen && r.foldCls = cls.val).any fun r => !r.host) → Answers
      (.foldClose cls) s fun t => (some t.evMain = (s.evMain.find? fun (r : EvRec) => r.typ = 2 && r.isOpen && r.foldCls = cls.val).map fun r => s.evMain.map fun (x :
      EvRec) => if x.seq = r.seq && x.typ = 2 then { x with isOpen := false } else x) ∧ t = { s with evMain := t.evMain }) ∧
  (∀ (cls : Fin 16) (s : State), s.foldRipe cls → ((s.evMain.find? fun (r : EvRec) => r.typ = 2 && r.isOpen && r.foldCls = cls.val).any fun r => r.host) → s.evHost.length
      < 127 → Answers (.foldClose cls) s fun t => t.evHost.length = s.evHost.length + 1 ∧ (t.evHost.getLast?.map (fun r => (r.typ, r.foldCls, r.isOpen)) = some (2,
      cls.val, false))) ∧
  (∀ (cls : Fin 16) (s : State), s.foldRipe cls = false → Answers (.foldClose cls) s fun t => t = s)

/-- A controller that is not the active one answers a bus error; a take puts the words of the oldest takeable record in the reader's window, answers its SEQ with bit 31, frees its slots and counts at a management core; an empty queue reads 0; only the safety core may take from the safety queue; the host queue's take shows its oldest entry; a completion of an active source whose line is low and that counted no edge makes it inactive; one that counted edges makes one record with their count and AGAIN; a fold's completion makes its members inactive. A reading of the model that it rests on: log entry 26. -/
def Obligations.TakingAndCompletingRecords : Prop :=
  (∀ (w : Who) (m : Mgr) (s : State), s.reach w m = s.act → s.active.isSome → (s.takeable .main).isSome → (∀ k : Fin 20, s.getAt Hid.EV_HELD 0 k = 0) → Answers (.evcTake
      w m) s fun t => t.evMain = s.evMain.drop 1 ∧ (some (t.getAt Hid.READ_DATA (s.reach w m) (whoIx w)) = (s.takeable .main).map (fun r => (2 ^ 31 + r.seq) % 2 ^ 32)) ∧
      (∀ j : Fin 8, some (t.getAt Hid.EV_TREC (s.reach w m) (8 * whoIx w + j)) = (s.takeable .main).map (fun r => r.words.getD j 0 % 2 ^ 32)) ∧ (w = .mc1 → t.getAt
      Reg.EVC_CORE.TAKES 0 1 = s.bumpedAt Reg.EVC_CORE.TAKES 0 1) ∧ t.evSafe = s.evSafe ∧ t.evHost = s.evHost) ∧
  (∀ (w : Who) (m : Mgr) (s : State), s.reach w m = s.act → s.active.isSome → (s.takeable .main).isSome → Answers (.evcTake w m) s fun t => (some (t.getAt Hid.READ_DATA
      (s.reach w m) (whoIx w)) = (s.takeable .main).map (fun r => (2 ^ 31 + r.seq) % 2 ^ 32)) ∧ (∀ j : Fin 8, some (t.getAt Hid.EV_TREC (s.reach w m) (8 * whoIx w + j)) =
      (s.takeable .main).map (fun r => r.words.getD j 0 % 2 ^ 32)) ∧ (some (t.get Reg.EVC_QPTR.HEAD 0) = (s.takeable .main).map (fun r => (r.slot + r.slots) % s.qSize % 2
      ^ Reg.EVC_QPTR.HEAD.wid)) ∧ (w = .mc1 → t.getAt Reg.EVC_CORE.TAKES 0 1 = s.bumpedAt Reg.EVC_CORE.TAKES 0 1)) ∧
  (∀ (w : Who) (m : Mgr) (s : State), s.reach w m = s.act → s.active.isSome → s.takeable .main = none → Answers (.evcTake w m) s fun t => t.getAt Hid.READ_DATA (s.reach w
      m) (whoIx w) = 0 ∧ OnlyCells [(Hid.READ_DATA, s.reach w m, whoIx w), (Hid.BUS_ERR, s.reach w m, whoIx w)] s t) ∧
  (∀ (w : Who) (m : Mgr) (s : State), (decide (s.reach w m ≠ s.act ∨ s.active = none)) → Answers (.evcTake w m) s fun t => t.getAt Hid.BUS_ERR (s.reach w m) (whoIx w) = 1
      ∧ OnlyCells [(Hid.BUS_ERR, s.reach w m, whoIx w)] s t) ∧
  (∀ (w : Who) (m : Mgr) (s : State), w = .sc → s.reach w m = s.act → s.active.isSome → (s.takeable .safe).isSome → (∀ k : Fin 20, s.getAt Hid.EV_HELD 0 k = 0) → Answers
      (.evcScTake w m) s fun t => t.evSafe = s.evSafe.drop 1 ∧ (some (t.getAt Hid.READ_DATA (s.reach w m) (whoIx w)) = (s.takeable .safe).map (fun r => (2 ^ 31 + r.seq) %
      2 ^ 32)) ∧ t.evMain = s.evMain ∧ t.evHost = s.evHost) ∧
  (∀ (w : Who) (m : Mgr) (s : State), w = .sc → s.reach w m = s.act → s.active.isSome → (s.takeable .safe).isSome → Answers (.evcScTake w m) s fun t => (some (t.getAt
      Hid.READ_DATA (s.reach w m) (whoIx w)) = (s.takeable .safe).map (fun r => (2 ^ 31 + r.seq) % 2 ^ 32)) ∧ (∀ j : Fin 8, some (t.getAt Hid.EV_TREC (s.reach w m) (8 *
      whoIx w + j)) = (s.takeable .safe).map (fun r => r.words.getD j 0 % 2 ^ 32)) ∧ t.get Reg.EVC_QPTR.HEAD 0 = s.get Reg.EVC_QPTR.HEAD 0) ∧
  (∀ (w : Who) (m : Mgr) (s : State), w = .sc → s.reach w m = s.act → s.active.isSome → s.takeable .safe = none → Answers (.evcScTake w m) s fun t => t.getAt
      Hid.READ_DATA (s.reach w m) (whoIx w) = 0 ∧ OnlyCells [(Hid.READ_DATA, s.reach w m, whoIx w), (Hid.BUS_ERR, s.reach w m, whoIx w)] s t) ∧
  (∀ (w : Who) (m : Mgr) (s : State), (decide (w ≠ .sc ∨ s.reach w m ≠ s.act ∨ s.active = none)) → Answers (.evcScTake w m) s fun t => t.getAt Hid.BUS_ERR (s.reach w m)
      (whoIx w) = 1 ∧ OnlyCells [(Hid.BUS_ERR, s.reach w m, whoIx w)] s t) ∧
  (∀ (w : Who) (m : Mgr) (s : State), s.reach w m = s.act → s.active.isSome → s.evHost ≠ [] → Answers (.evcHqTake w m) s fun t => t.evHost = s.evHost.drop 1 ∧ (some
      (t.getAt Hid.READ_DATA (s.reach w m) (whoIx w)) = s.evHost.head?.map (fun r => r.words.getD 0 0 % 2 ^ 32)) ∧ (∀ j : Fin 8, some (t.getAt Hid.EV_HREC (s.reach w m)
      (8 * whoIx w + j)) = s.evHost.head?.map (fun r => r.words.getD j 0 % 2 ^ 32)) ∧ OnlyFields [Hid.EV_HREC, Hid.READ_DATA, Hid.BUS_ERR] { s with evHost := t.evHost }
      t) ∧
  (∀ (w : Who) (m : Mgr) (s : State), s.reach w m = s.act → s.active.isSome → s.evHost = [] → Answers (.evcHqTake w m) s fun t => t.getAt Hid.READ_DATA (s.reach w m)
      (whoIx w) = 0 ∧ OnlyCells [(Hid.READ_DATA, s.reach w m, whoIx w), (Hid.BUS_ERR, s.reach w m, whoIx w)] s t) ∧
  (∀ (w : Who) (m : Mgr) (s : State), (decide (s.reach w m ≠ s.act ∨ s.active = none)) → Answers (.evcHqTake w m) s fun t => t.getAt Hid.BUS_ERR (s.reach w m) (whoIx w) =
      1 ∧ OnlyCells [(Hid.BUS_ERR, s.reach w m, whoIx w)] s t) ∧
  (∀ (w : Who) (m : Mgr) (target : BitVec 16) (s : State), s.reach w m = s.act → s.active.isSome → target.toNat < 640 → s.srcActive target.toNat → s.bitAt Hid.EV_ONCE
      target.toNat = false → s.bitAt Reg.SRC_LINE.LINE target.toNat = false → s.getAt Hid.EV_CNT 0 target.toNat = 0 → Answers (.evcComplete w m target) s fun t =>
      t.srcActive target.toNat = false ∧ t.bitAt Hid.EV_TAKEN target.toNat = false ∧ t.getAt Hid.EV_OLD 0 target.toNat = 0 ∧ OnlyFields [Reg.SRC_ACTIVE.ACTIVE,
      Hid.EV_TAKEN, Hid.EV_CNT, Hid.EV_OLD, Hid.BUS_ERR] { s with evFolds := t.evFolds } t) ∧
  (∀ (w : Who) (m : Mgr) (target : BitVec 16) (s : State), s.reach w m = s.act → s.active.isSome → target.toNat < 640 → s.srcActive target.toNat → s.bitAt Hid.EV_ONCE
      target.toNat = false → s.getAt Hid.EV_CNT 0 target.toNat ≠ 0 → s.getAt Hid.EV_OLD 0 target.toNat = 0 → s.srcSense target.toNat ≠ 0 → s.srcClass target.toNat ≠ 2 →
      s.srcHost target.toNat = false → s.qFits .main evBlank → Answers (.evcComplete w m target) s fun t => t.srcActive target.toNat ∧ t.getAt Hid.EV_CNT 0 target.toNat =
      0 ∧ t.evMain.length = s.evMain.length + 1 ∧ (t.evMain.getLast?.map (fun r => (r.typ, r.src, r.count, r.again, r.beat)) = some (1, target.toNat, s.getAt Hid.EV_CNT 0
      target.toNat, true, s.getAt Hid.EV_BEAT 0 target.toNat))) ∧
  (∀ (w : Who) (m : Mgr) (target : BitVec 16) (s : State), s.reach w m = s.act → s.active.isSome → target.toNat < 640 → s.srcActive target.toNat → Answers (.evcComplete w
      m target) s fun t => t.bitAt Hid.EV_TAKEN target.toNat = false ∧ t.bitAt Hid.EV_ONCE target.toNat = false ∧ t.getAt Hid.EV_OLD 0 target.toNat = 0 ∧ t.getAt
      Hid.EV_CNT 0 target.toNat = 0 ∧ t.getAt Reg.SRC_CFG.STRAY_COUNT 0 target.toNat = s.getAt Reg.SRC_CFG.STRAY_COUNT 0 target.toNat) ∧
  (∀ (w : Who) (m : Mgr) (target : BitVec 16) (s : State), (decide (s.reach w m ≠ s.act ∨ s.active = none)) → Answers (.evcComplete w m target) s fun t => t.getAt
      Hid.BUS_ERR (s.reach w m) (whoIx w) = 1 ∧ OnlyCells [(Hid.BUS_ERR, s.reach w m, whoIx w)] s t) ∧
  (∀ (w : Who) (m : Mgr) (seq : BitVec 16) (s : State), s.reach w m = s.act → s.active.isSome → ((s.evFolds.find? fun (f : EvFold) => f.seq % 65536 = seq.toNat).any fun f
      => f.srcs.all fun n => decide (n < 640) && !s.bitAt Hid.EV_ONCE n && !s.bitAt Reg.SRC_LINE.LINE n && decide (s.getAt Hid.EV_CNT 0 n = 0)) → Answers (.foldComplete w
      m seq) s fun t => ((s.evFolds.find? fun (f : EvFold) => f.seq % 65536 = seq.toNat).any fun f => f.srcs.all fun n => !t.srcActive n) ∧ t.evMain = s.evMain) ∧
  (∀ (w : Who) (m : Mgr) (seq : BitVec 16) (s : State), s.reach w m = s.act → s.active.isSome → ((s.evFolds.find? fun (f : EvFold) => f.seq % 65536 = seq.toNat).isSome) →
      Answers (.foldComplete w m seq) s fun t => ((s.evFolds.find? fun (f : EvFold) => f.seq % 65536 = seq.toNat).all fun f => f.srcs.all fun n => decide (n < 640 ∧
      s.bitAt Hid.EV_ONCE n = false ∧ s.bitAt Reg.SRC_LINE.LINE n = false ∧ s.getAt Hid.EV_CNT 0 n = 0 → t.srcActive n = false)) ∧ t.get Reg.EVC_STRAY.FOLD_STRAY 0 =
      s.get Reg.EVC_STRAY.FOLD_STRAY 0) ∧
  (∀ (w : Who) (m : Mgr) (seq : BitVec 16) (s : State), s.reach w m = s.act → s.active.isSome → ((s.evFolds.find? fun (f : EvFold) => f.seq % 65536 = seq.toNat) = none) →
      Answers (.foldComplete w m seq) s fun t => t.get Reg.EVC_STRAY.FOLD_STRAY 0 = s.bumped Reg.EVC_STRAY.FOLD_STRAY 0 ∧ OnlyFields [Reg.EVC_STRAY.FOLD_STRAY,
      Hid.BUS_ERR] s t) ∧
  (∀ (w : Who) (m : Mgr) (seq : BitVec 16) (s : State), (decide (s.reach w m ≠ s.act ∨ s.active = none)) → Answers (.foldComplete w m seq) s fun t => t.getAt Hid.BUS_ERR
      (s.reach w m) (whoIx w) = 1 ∧ OnlyCells [(Hid.BUS_ERR, s.reach w m, whoIx w)] s t)

/-- A completion that names a source which is not active changes nothing and increments that source's STRAY_COUNT; one that names a source number of 640 or above changes nothing and increments EVC_STRAY.BAD_COUNT. (The mark of the last access's bus error is the initiator's, not the controller's.) -/
def Obligations.StrayCompletions : Prop :=
  (∀ (w : Who) (m : Mgr) (target : BitVec 16) (s : State), s.reach w m = s.act → s.active.isSome → target.toNat < 640 → s.srcActive target.toNat = false → Answers
      (.evcComplete w m target) s fun t => t.getAt Reg.SRC_CFG.STRAY_COUNT 0 target.toNat = s.bumpedAt Reg.SRC_CFG.STRAY_COUNT 0 target.toNat ∧ OnlyCells
      [(Reg.SRC_CFG.STRAY_COUNT, 0, target.toNat), (Hid.BUS_ERR, s.reach w m, whoIx w)] s t) ∧
  (∀ (w : Who) (m : Mgr) (target : BitVec 16) (s : State), s.reach w m = s.act → s.active.isSome → 640 ≤ target.toNat → Answers (.evcComplete w m target) s fun t => t.get
      Reg.EVC_STRAY.BAD_COUNT 0 = s.bumped Reg.EVC_STRAY.BAD_COUNT 0 ∧ OnlyCells [(Reg.EVC_STRAY.BAD_COUNT, 0, 0), (Hid.BUS_ERR, s.reach w m, whoIx w)] s t)

/-- The first VBIAS input takes every P, S, M and T field outside MET to its reset value, keeps the K and B fields and the memories that no reset reaches, and its manager runs; the other input's manager is powered and runs at once before the integrity decision; the fall of one input takes its manager out and triggers the shadow of a lead; the last takes the device to OFF, or to MEWS with VBACKUP; losing VBACKUP as well clears the B fields; VIO in range samples the address pins and VIO out of range takes the address away; a manager that leaves manager reset joins an active one as shadow with its beat where it is behind and held where it is ahead, or claims where none is active. Readings and choices of the model that it rests on: log entries 58, 119. -/
def Obligations.SuppliesAndDies : Prop :=
  (∀ (m : Mgr) (s : State), s.on Hid.POWERED 0 = false → s.on Hid.POWERED 1 = false → Answers (.powerOnReset m) s fun t => t.on Hid.POWERED m ∧ t.on Hid.PRESENT m ∧ t.get
      Reg.RST_CAUSE.LAST 0 = (if s.dev = Dev.mews7 then RstCause.mewsReturn else RstCause.powerOn) ∧ ResetAt [.P, .S, .M, .T] [.met] [Reg.HB_STATUS.ADDR] t ∧ KeptAt [.K,
      .B] [Reg.RST_CAUSE.LAST] s t ∧ MemOnly keptMem s t ∧ t.cmds = [] ∧ t.evMain = [] ∧ t.perms = []) ∧
  (∀ (m : Mgr) (s : State), s.on Hid.POWERED m = false → s.on Hid.POWERED (peer m) → Answers (.vbiasReturn m) s fun t => t.on Hid.POWERED m ∧ t.on Hid.PRESENT m = !s.on
      Hid.BOOT 0 ∧ t.on Hid.POWERED (peer m) ∧ t.isActive (peer m) = s.isActive (peer m) ∧ KeptAt [.K, .B] [] s t) ∧
  (∀ (m : Mgr) (s : State), s.on Hid.POWERED m → s.on Hid.POWERED (peer m) → Answers (.vbiasLoss m) s fun t => t.on Hid.POWERED m = false ∧ t.on Hid.PRESENT m = false ∧
      t.isActive m = false ∧ t.isActive (peer m) = s.isActive (peer m) ∧ (s.isActive m → t.on Hid.TRIG (peer m)) ∧ KeptAt [.K, .B] [] s t) ∧
  (∀ (m : Mgr) (s : State), s.on Hid.POWERED m → s.on Hid.POWERED (peer m) = false → Answers (.vbiasLoss m) s fun t => t.dev = Dev.off ∧ t.on Hid.POWERED m = false ∧
      ResetAt [.P, .S, .M, .T] [.met] [Reg.DEV_STATE.STATE] t ∧ KeptAt [.K, .B] [] s t ∧ MemReset s t ∧ t.cmds = [] ∧ t.evMain = [] ∧ t.perms = []) ∧
  (∀ (m : Mgr) (s : State), s.on Hid.POWERED m = false → Answers (.vbiasLoss m) s fun t => t = s) ∧
  (∀ (s : State), Answers (.mewsEnter) s fun t => t.dev = Dev.mews7 ∧ t.on Hid.POWERED 0 = false ∧ t.on Hid.POWERED 1 = false ∧ ResetAt [.P, .S, .M, .T] [.met]
      [Reg.DEV_STATE.STATE] t ∧ KeptAt [.K, .B] [] s t ∧ MemReset s t ∧ t.cmds = [] ∧ t.evMain = [] ∧ t.perms = []) ∧
  (∀ (s : State), s.on Hid.POWERED 0 = false → s.on Hid.POWERED 1 = false → Answers (.vbackupLoss) s fun t => t.dev = Dev.off ∧ ResetAt [.B] [] [] t ∧ KeptAt [.P, .M, .T,
      .K] [] s t ∧ t.mem = s.mem) ∧
  (∀ (pins : Fin 27) (s : State), Answers (.vioValid pins) s fun t => t.on Hid.VIO_OK 0 ∧ t.get Reg.HB_STATUS.ADDR 0 = 0x40 + pins.val ∧ OnlyCells [(Hid.VIO_OK, 0, 0),
      (Hid.ADDR_PINS, 0, 0), (Reg.HB_STATUS.ADDR, 0, 0)] s t) ∧
  (∀ (s : State), Answers (.vioOutOfRange) s fun t => t.on Hid.VIO_OK 0 = false ∧ t.on Hid.RST_LOW 0 = false ∧ t.get Reg.HB_STATUS.ADDR 0 = 0 ∧ OnlyCells [(Hid.VIO_OK, 0,
      0), (Hid.RST_LOW, 0, 0), (Reg.HB_STATUS.ADDR, 0, 0)] s t) ∧
  (∀ (m : Mgr) (s : State), s.on Hid.POWERED m → s.on Hid.PRESENT m = false → s.on Hid.XTAL_STOPPED m = false → decide (s.get Hid.LBIST_ON 0 = 6 ∧ m ≠ s.act) = false →
      s.on Hid.BOOT 0 → s.get Hid.ST_STATE m ≠ 0 → (decide (s.get Reg.LOAD_STATUS.SLOT 0 = 0 ∨ s.on Hid.FW_NEW m = true ∨ s.slotCheck (s.get Reg.LOAD_STATUS.SLOT 0 - 1) =
      Fail.none)) → s.active = some (peer m) → Answers (.managerResetExit m) s fun t => t.on Hid.PRESENT m ∧ t.on Reg.REIN_STATUS.SYNCING m ∧ (s.get Hid.EPOCH m * 2 ^ 40
      + s.get Hid.BEAT m < s.get Hid.EPOCH (peer m) * 2 ^ 40 + s.get Hid.BEAT (peer m) → t.get Hid.BEAT m = s.get Hid.BEAT (peer m) ∧ t.get Hid.EPOCH m = s.get Hid.EPOCH
      (peer m)) ∧ (s.get Hid.EPOCH (peer m) * 2 ^ 40 + s.get Hid.BEAT (peer m) < s.get Hid.EPOCH m * 2 ^ 40 + s.get Hid.BEAT m → t.on Hid.BEAT_HOLD m ∧ t.get Hid.BEAT m =
      s.get Hid.BEAT m) ∧ t.get Reg.REIN_STATUS.EPOCH m = s.get Reg.REIN_STATUS.EPOCH (peer m) % 2 ^ 8 ∧ t.isActive (peer m) ∧ (t.isActive m = s.isActive m)) ∧
  (∀ (m : Mgr) (s : State), s.on Hid.POWERED m → s.on Hid.PRESENT m = false → s.on Hid.XTAL_STOPPED m = false → decide (s.get Hid.LBIST_ON 0 = 6 ∧ m ≠ s.act) = false →
      s.on Hid.BOOT 0 → s.get Hid.ST_STATE m ≠ 0 → (decide (s.get Reg.LOAD_STATUS.SLOT 0 = 0 ∨ s.on Hid.FW_NEW m = true ∨ s.slotCheck (s.get Reg.LOAD_STATUS.SLOT 0 - 1) =
      Fail.none)) → s.active = none → s.roleLow = false → Answers (.managerResetExit m) s fun t => t.on Hid.PRESENT m ∧ t.active = some m.val ∧ t.on Hid.ROLE_LOW m ∧
      t.get Reg.REIN_STATUS.EPOCH m = (s.get Reg.REIN_STATUS.EPOCH m + 1) % 2 ^ 8 ∧ t.on Hid.TRIG m = false) ∧
  (∀ (m : Mgr) (s : State), (decide (s.on Hid.POWERED m = false ∨ s.on Hid.PRESENT m = true ∨ s.on Hid.XTAL_STOPPED m = true ∨ (s.get Hid.LBIST_ON 0 = 6 ∧ m ≠ s.act) ∨
      s.on Hid.BOOT 0 = false ∨ s.get Hid.ST_STATE m = 0)) → Answers (.managerResetExit m) s fun t => t = s)

/-- RST_N low, SYS_RST with its key and a WIPE that may start take every S, M and T field outside HPD and MET to its reset value but for the locked roots and their references, keep the K, B and P fields but the start's own marks, empty the commands under way and the memories that a system reset reaches (a flash chunk cut off in its erase or program keeps no defined content), count in SYS_COUNT and show their cause; the pin's release ends its hold; a tile reset by its key or by the tile's supervisor leaves every phase of the tile and every rail that goes with it OFF, zeroes its engine memories and capture buffer, marks its half of every rail as reset and the tile for rewriting, and the sequencer then looks at what it has done; a wrong key, or a tile under its logic self-test, is refused; a WIPE blows WIPE_STARTED on every powered manager, and is refused in a stage or device state that does not allow it. Readings and choices of the model that it rests on: log entries 58, 119. -/
def Obligations.ResetsByPinAndCommand : Prop :=
  (∀ (s : State), (decide (s.on Hid.POWERED 0 = true ∨ s.on Hid.POWERED 1 = true)) → s.on Hid.VIO_OK 0 → s.on Hid.RST_LOW 0 = false → Answers (.rstNAssert) s fun t =>
      t.on Hid.RST_LOW 0 ∧ t.get Reg.RST_CAUSE.LAST 0 = RstCause.pin ∧ t.get Reg.RST_CAUSE.SYS_COUNT 0 = s.bumped Reg.RST_CAUSE.SYS_COUNT 0 ∧ ResetAt [.S, .M, .T] [.hpd,
      .met] [Reg.HB_STATUS.ADDR, Reg.CLK_STATUS.ROOT_LOCK, Hid.REF_OK] t ∧ (∀ k : Mgr, t.on Reg.CLK_STATUS.ROOT_LOCK k = (s.on Reg.CLK_STATUS.ROOT_LOCK k && !s.on
      Hid.XTAL_STOPPED k)) ∧ (∀ k : Mgr, t.get Hid.PRESENT k = s.get Hid.POWERED k % 2) ∧ KeptAt [.P, .K, .B] [Hid.BOOT, Reg.RST_CAUSE.LAST, Reg.RST_CAUSE.SYS_COUNT] s t
      ∧ MemReset s t ∧ t.cmds = [] ∧ t.evMain = [] ∧ t.dmPend = [] ∧ t.perms = [] ∧ t.jrnA = s.jrnA) ∧
  (∀ (s : State), (decide ((s.on Hid.POWERED 0 = false ∧ s.on Hid.POWERED 1 = false) ∨ s.on Hid.VIO_OK 0 = false ∨ s.on Hid.RST_LOW 0 = true)) → Answers (.rstNAssert) s
      fun t => t = s) ∧
  (∀ (s : State), Answers (.rstNRelease) s fun t => t.on Hid.RST_LOW 0 = false ∧ OnlyCells [(Hid.RST_LOW, 0, 0), (Reg.HB_STATUS.ADDR, 0, 0)] s t) ∧
  (∀ (w : Who) (m : Mgr) (key : BitVec 16) (s : State), s.reach w m = s.act → key = 0x9D62#16 → Answers (.sysRst w m key) s fun t => t.get Reg.RST_CAUSE.LAST 0 =
      RstCause.host ∧ t.get Reg.RST_CAUSE.SYS_COUNT 0 = s.bumped Reg.RST_CAUSE.SYS_COUNT 0 ∧ ResetAt [.S, .M, .T] [.hpd, .met] [Reg.HB_STATUS.ADDR,
      Reg.CLK_STATUS.ROOT_LOCK, Hid.REF_OK] t ∧ (∀ k : Mgr, t.on Reg.CLK_STATUS.ROOT_LOCK k = (s.on Reg.CLK_STATUS.ROOT_LOCK k && !s.on Hid.XTAL_STOPPED k)) ∧ (∀ k : Mgr,
      t.get Hid.PRESENT k = s.get Hid.POWERED k % 2) ∧ MemReset s t ∧ t.cmds = [] ∧ t.evMain = [] ∧ t.dmPend = [] ∧ t.perms = [] ∧ t.logged JKind.done JStatus.ok
      noTarget) ∧
  (∀ (w : Who) (m : Mgr) (key : BitVec 16) (s : State), s.reach w m = s.act → key ≠ 0x9D62#16 → Answers (.sysRst w m key) s fun t => t.get Reg.DEV_CTRL.CMD_REJ 0 = 1 ∧
      t.logged JKind.refused JStatus.refused noTarget ∧ OnlyFieldsLog [Reg.DEV_CTRL.CMD_REJ, Hid.BUS_ERR] s t) ∧
  (∀ (w : Who) (m : Mgr) (u : Tile) (key : BitVec 16) (s : State), s.reach w m = s.act → key = 0x9D62#16 → s.get Hid.LBIST_ON 0 ≠ u.val + 1 → s.railsGone u = [] → s.quiet
      → Answers (.tileRst w m u key) s fun t => (∀ p ∈ phasesOfTile u, t.ph p = Ph.off) ∧ t.on Hid.BLK_BAD u ∧ t.get Hid.BC_VERDICT u = 0 ∧ (MemOnly (fun a => !(decide
      (0x50300000 + u.val * 0x1000000 ≤ a) && decide (a < 0x50464000 + u.val * 0x1000000))) s t) ∧ t.logged JKind.done JStatus.ok noTarget) ∧
  (∀ (w : Who) (m : Mgr) (u : Tile) (key : BitVec 16) (s : State), s.reach w m = s.act → key = 0x9D62#16 → s.get Hid.LBIST_ON 0 ≠ u.val + 1 → Answers (.tileRst w m u key)
      s fun v => ∃ t : State, v = t.seqPoll ∧ (∀ p ∈ phasesOfTile u, t.ph p = Ph.off) ∧ t.on Hid.BLK_BAD u ∧ t.get Hid.BC_VERDICT u = 0 ∧ (MemOnly (fun a => !(decide
      (0x50300000 + u.val * 0x1000000 ≤ a) && decide (a < 0x50464000 + u.val * 0x1000000))) s t) ∧ (∀ r ∈ s.railsGone u, t.rs r = Rs.off) ∧ (∀ r ∈ List.range 48,
      (s.tilesOf r).contains u.val → t.on Hid.LEAD_RST (railIx u r))) ∧
  (∀ (w : Who) (m : Mgr) (u : Tile) (key : BitVec 16) (s : State), s.reach w m = s.act → (decide (key ≠ 0x9D62#16 ∨ s.get Hid.LBIST_ON 0 = u.val + 1)) → Answers (.tileRst
      w m u key) s fun t => t.get Reg.DEV_CTRL.CMD_REJ 0 = 1 ∧ t.logged JKind.refused JStatus.refused noTarget ∧ OnlyFieldsLog [Reg.DEV_CTRL.CMD_REJ, Hid.BUS_ERR] s t) ∧
  (∀ (u : Tile) (s : State), s.railsGone u = [] → s.quiet → Answers (.coreSupplySupervisorReset u) s fun t => (∀ p ∈ phasesOfTile u, t.ph p = Ph.off) ∧ t.on Hid.BLK_BAD u
      ∧ t.get Hid.BC_VERDICT u = 0 ∧ (MemOnly (fun a => !(decide (0x50300000 + u.val * 0x1000000 ≤ a) && decide (a < 0x50464000 + u.val * 0x1000000))) s t) ∧ KeptAt [.P,
      .K, .B, .M] [] s t) ∧
  (∀ (u : Tile) (s : State), Answers (.coreSupplySupervisorReset u) s fun v => ∃ t : State, v = t.seqPoll ∧ (∀ p ∈ phasesOfTile u, t.ph p = Ph.off) ∧ t.on Hid.BLK_BAD u ∧
      t.get Hid.BC_VERDICT u = 0 ∧ (MemOnly (fun a => !(decide (0x50300000 + u.val * 0x1000000 ≤ a) && decide (a < 0x50464000 + u.val * 0x1000000))) s t) ∧ (∀ r ∈
      s.railsGone u, t.rs r = Rs.off) ∧ (∀ r ∈ List.range 48, (s.tilesOf r).contains u.val → t.on Hid.LEAD_RST (railIx u r))) ∧
  (∀ (w : Who) (m : Mgr) (key : BitVec 16) (s : State), s.reach w m = s.act → key = 0x7C19#16 → (s.lifeStage s.act = Stage.maker ∨ s.lifeStage s.act = Stage.field) →
      s.wipeAllowed → Answers (.lcWipe w m key) s fun t => (∀ k : Mgr, s.on Hid.POWERED k → t.get Hid.FU_WIPE k = 7) ∧ t.get Reg.RST_CAUSE.LAST 0 = RstCause.wipe ∧
      ResetAt [.S, .M, .T] [.hpd, .met] [Reg.HB_STATUS.ADDR, Reg.CLK_STATUS.ROOT_LOCK, Hid.REF_OK] t ∧ (∀ k : Mgr, t.on Reg.CLK_STATUS.ROOT_LOCK k = (s.on
      Reg.CLK_STATUS.ROOT_LOCK k && !s.on Hid.XTAL_STOPPED k)) ∧ (∀ k : Mgr, t.get Hid.PRESENT k = s.get Hid.POWERED k % 2) ∧ MemReset s t ∧ t.logged JKind.done
      JStatus.ok noTarget) ∧
  (∀ (w : Who) (m : Mgr) (key : BitVec 16) (s : State), s.reach w m = s.act → key ≠ 0x7C19#16 → Answers (.lcWipe w m key) s fun t => t.get Reg.LC_CTRL.LC_REJ 0 = 1 ∧
      t.get Reg.FUSE_STATUS.REFUSE 0 = Fr.key ∧ t.logged JKind.refused JStatus.refused noTarget ∧ OnlyFieldsLog [Reg.LC_CTRL.LC_REJ, Reg.FUSE_STATUS.REFUSE, Hid.BUS_ERR]
      s t) ∧
  (∀ (w : Who) (m : Mgr) (key : BitVec 16) (s : State), s.reach w m = s.act → key = 0x7C19#16 → s.lifeStage s.act ≠ Stage.maker → s.lifeStage s.act ≠ Stage.field →
      Answers (.lcWipe w m key) s fun t => t.get Reg.LC_CTRL.LC_REJ 0 = 1 ∧ t.get Reg.FUSE_STATUS.REFUSE 0 = Fr.stage ∧ t.logged JKind.refused JStatus.refused noTarget ∧
      OnlyFieldsLog [Reg.LC_CTRL.LC_REJ, Reg.FUSE_STATUS.REFUSE, Hid.BUS_ERR] s t) ∧
  (∀ (w : Who) (m : Mgr) (key : BitVec 16) (s : State), s.reach w m = s.act → key = 0x7C19#16 → (s.lifeStage s.act = Stage.maker ∨ s.lifeStage s.act = Stage.field) →
      s.wipeAllowed = false → Answers (.lcWipe w m key) s fun t => t.get Reg.LC_CTRL.LC_REJ 0 = 1 ∧ t.get Reg.FUSE_STATUS.REFUSE 0 = Fr.busy ∧ t.logged JKind.refused
      JStatus.refused noTarget ∧ OnlyFieldsLog [Reg.LC_CTRL.LC_REJ, Reg.FUSE_STATUS.REFUSE, Hid.BUS_ERR] s t)

/-- A manager that senses its fuses keeps their digest and verdict, and the first shows STAGE; one that comes after the integrity decision joins as shadow where its digest is its peer's and shows PEER_MISMATCH otherwise; a tile whose own fuses and broadcast pass takes its ceilings and calibrates its skew, and is rewritten where a configuration is committed; one whose own fuses or copies fail has verdict FAIL; HPD takes its ceiling and trim; the integrity decision goes to LOAD with the first present manager active, finishes a wipe that was begun, or goes to FUSE_HOLD with every phase OFF; a program operation with its key on a writable field starts and stands in the map, and is refused otherwise with its reason; its end blows, on every present manager not yet done, every bit asked for that did not fail, and closes the map once both managers are done; a pending map goes on as soon as it may; ADVANCE starts the next step where the condition holds and is refused otherwise. Readings and choices of the model that it rests on: log entries 59, 60, 118. -/
def Obligations.FusesAndLifeCycle : Prop :=
  (∀ (m : Mgr) (vio33 : Bool) (s : State), s.on Hid.POWERED m → s.on Hid.RST_LOW 0 = false → s.on Hid.SENSED m = false → s.on Hid.BOOT 0 = false → Answers (.fuseSenseDone
      m vio33) s fun t => t.on Hid.SENSED m ∧ t.get Hid.SN_DIGEST m = (s.fuseDigest m).toNat ∧ t.on Hid.SN_OK m = s.fuseSealsOk m ∧ ((m = 0 ∨ s.on Hid.SENSED (peer m) =
      false) → t.get Reg.FUSE_STATUS.STAGE 0 = s.lifeStage m % 2 ^ Reg.FUSE_STATUS.STAGE.wid ∧ t.get Reg.FUSE_DIGEST.DIGEST 0 = (s.fuseDigest m).toNat) ∧ t.sansCells =
      s.sansCells) ∧
  (∀ (m : Mgr) (vio33 : Bool) (s : State), s.on Hid.POWERED m → s.on Hid.RST_LOW 0 = false → s.on Hid.SENSED m = false → s.on Hid.BOOT 0 → s.active.isSome → (s.fuseDigest
      m).toNat ≠ s.get Hid.SN_DIGEST (peer m) → Answers (.fuseSenseDone m vio33) s fun t => t.on Hid.SENSED m ∧ t.get Hid.SN_DIGEST m = (s.fuseDigest m).toNat ∧ t.get
      Reg.LOAD_STATUS.PEER_MISMATCH 0 = 1 ∧ t.on Hid.PRESENT m = s.on Hid.PRESENT m ∧ t.sansCells = s.sansCells) ∧
  (∀ (m : Mgr) (vio33 : Bool) (s : State), s.on Hid.POWERED m → s.on Hid.RST_LOW 0 = false → s.on Hid.SENSED m = false → s.on Hid.BOOT 0 → s.active = some (peer m) →
      (s.fuseDigest m).toNat = s.get Hid.SN_DIGEST (peer m) → Answers (.fuseSenseDone m vio33) s fun t => t.on Hid.SENSED m ∧ t.on Hid.PRESENT m ∧ t.on
      Reg.REIN_STATUS.SYNCING m ∧ t.get Hid.ST_STATE m = 1 ∧ t.isActive (peer m)) ∧
  (∀ (m : Mgr) (vio33 : Bool) (s : State), (decide (s.on Hid.POWERED m = false ∨ s.on Hid.RST_LOW 0 = true ∨ s.on Hid.SENSED m = true)) → Answers (.fuseSenseDone m vio33)
      s fun t => t = s) ∧
  (∀ (u : Unit5) (copyA copyB : BitVec 2048) (own fused : Bool) (s : State), u.val < 4 → own = true → s.get Hid.BC_VERDICT u = 0 → s.dev ≠ Dev.park → s.verdictOn
      copyA.toNat copyB.toNat = Bc.pass → s.on Hid.COMMITTED 0 = false → Answers (.broadcastReceive u copyA copyB own fused) s fun t => t.get Hid.BC_VERDICT u = Bc.pass ∧
      (∀ l : Fin 24, t.get Reg.PH_PROT.ILIM_CEIL (u.val * 24 + l) = (120 - castIlim (s.castTaken copyA.toNat copyB.toNat) (u.val * 24 + l)) % 2 ^
      Reg.PH_PROT.ILIM_CEIL.wid) ∧ (∀ r : Rail, t.get Reg.MIRR_STATUS.PRIV (railIx u r) = castPriv (s.castTaken copyA.toNat copyB.toNat) r ∧ t.get
      Reg.RAIL_PROT_CFG.OV_CEIL (railIx u r) = (65520 - 64 * castOv (s.castTaken copyA.toNat copyB.toNat) r) % 2 ^ Reg.RAIL_PROT_CFG.OV_CEIL.wid) ∧ t.get
      Reg.TILE_THERM_CTRL.STG_TLIM_CEIL u = (150 - castStg (s.castTaken copyA.toNat copyB.toNat)) % 2 ^ Reg.TILE_THERM_CTRL.STG_TLIM_CEIL.wid ∧ t.on
      Reg.SNS_STATUS.SKEW_BUSY u ∧ t.on Hid.TILE_FUSED u = fused) ∧
  (∀ (u : Unit5) (copyA copyB : BitVec 2048) (own fused : Bool) (s : State), u.val < 4 → own = true → s.get Hid.BC_VERDICT u = 0 → s.dev ≠ Dev.park → s.verdictOn
      copyA.toNat copyB.toNat = Bc.pass → s.on Hid.COMMITTED 0 → s.get Reg.LOAD_STATUS.SLOT 0 ≠ 0 → Answers (.broadcastReceive u copyA copyB own fused) s fun t => t.get
      Hid.BC_VERDICT u = Bc.pass ∧ t.on Hid.BLK_BAD u = false ∧ t.on Reg.SNS_STATUS.SKEW_BUSY u ∧ t.on Hid.TILE_FUSED u = fused) ∧
  (∀ (u : Unit5) (copyA copyB : BitVec 2048) (own fused : Bool) (s : State), u.val < 4 → own = true → s.get Hid.BC_VERDICT u = 0 → s.dev ≠ Dev.park → s.verdictOn
      copyA.toNat copyB.toNat = Bc.fail → Answers (.broadcastReceive u copyA copyB own fused) s fun t => t.get Hid.BC_VERDICT u = Bc.fail ∧ OnlyFields [Hid.BC_VERDICT,
      Hid.TILE_CRC_BAD, Hid.TILE_FUSED] s t) ∧
  (∀ (u : Unit5) (copyA copyB : BitVec 2048) (own fused : Bool) (s : State), u.val < 4 → own = false → s.get Hid.BC_VERDICT u = 0 → s.dev ≠ Dev.park → s.verdictOn
      copyA.toNat copyB.toNat ≠ Bc.none → Answers (.broadcastReceive u copyA copyB own fused) s fun t => t.get Hid.BC_VERDICT u = Bc.fail ∧ t.on Hid.TILE_CRC_BAD u ∧
      (s.on Hid.BOOT 0 → t.get Reg.LOAD_STATUS.TILE_FUSE_FAIL 0 = 1) ∧ OnlyFields [Hid.BC_VERDICT, Hid.TILE_CRC_BAD, Hid.TILE_FUSED, Reg.LOAD_STATUS.TILE_FUSE_FAIL,
      Reg.FUSE_STATUS.SINGLE] s t) ∧
  (∀ (u : Unit5) (copyA copyB : BitVec 2048) (own fused : Bool) (s : State), u.val = 4 → s.on Hid.BOOT 0 = false → s.verdictOn copyA.toNat copyB.toNat = Bc.pass → Answers
      (.broadcastReceive u copyA copyB own fused) s fun t => t.get Hid.BC_HPD 0 = Bc.pass ∧ t.get Reg.HPD_THERM_CTRL.STG_TLIM_CEIL 0 = (150 - castStg (s.castTaken
      copyA.toNat copyB.toNat)) % 2 ^ Reg.HPD_THERM_CTRL.STG_TLIM_CEIL.wid ∧ t.get Hid.HPD_TRIM_IN 0 = castTrim (s.castTaken copyA.toNat copyB.toNat) ∧ (ones 4 (castLife
      (s.castTaken copyA.toNat copyB.toNat)) < Stage.retired → t.on Hid.HPD_GO 0)) ∧
  (∀ (u : Unit5) (copyA copyB : BitVec 2048) (own fused : Bool) (s : State), u.val = 4 → s.on Hid.BOOT 0 = false → s.verdictOn copyA.toNat copyB.toNat = Bc.fail → Answers
      (.broadcastReceive u copyA copyB own fused) s fun t => t.get Hid.BC_HPD 0 = Bc.fail ∧ OnlyCells [(Hid.BC_HPD, 0, 0)] s t) ∧
  (∀ (u : Unit5) (copyA copyB : BitVec 2048) (own fused : Bool) (s : State), (decide (s.verdictOn copyA.toNat copyB.toNat = Bc.none ∨ (u.val < 4 ∧ (s.get Hid.BC_VERDICT u
      ≠ 0 ∨ s.dev = Dev.park)) ∨ (u.val = 4 ∧ s.on Hid.BOOT 0 = true))) → Answers (.broadcastReceive u copyA copyB own fused) s fun t => OnlyFields
      [Reg.FUSE_STATUS.SINGLE] s t) ∧
  (∀ (s : State), s.on Hid.BOOT 0 = false → s.on Hid.RST_LOW 0 = false → s.decisionDue → s.active = none → s.startPresent.integrityOk → s.startPresent.wipeBegun = false →
      Answers (.integrityDecision) s fun t => t.dev = Dev.load ∧ t.on Hid.BOOT 0 ∧ t.active = s.startPresent.present.head? ∧ t.get Reg.LOAD_STATUS.LOADING 0 = 1 ∧ t.on
      Hid.PRESENT 0 = s.startPresent.on Hid.PRESENT 0 ∧ t.on Hid.PRESENT 1 = s.startPresent.on Hid.PRESENT 1) ∧
  (∀ (s : State), s.on Hid.BOOT 0 = false → s.on Hid.RST_LOW 0 = false → s.decisionDue → s.active = none → s.startPresent.integrityOk → s.startPresent.wipeBegun → Answers
      (.integrityDecision) s fun t => t.dev = Dev.load ∧ t.on Hid.BOOT 0 ∧ t.active = s.startPresent.present.head? ∧ t.get Reg.LOAD_STATUS.FAIL_A 0 = Fail.retired ∧ t.get
      Reg.LOAD_STATUS.FAIL_B 0 = Fail.retired ∧ t.get Reg.LOAD_STATUS.LOADING 0 = 0 ∧ t.get Reg.FUSE_STATUS.STAGE 0 = Stage.retired ∧ t.on Hid.HPD_GO 0 = false ∧ t.jrnA =
      [] ∧ t.jrnB = [] ∧ (∀ k : Mgr, s.startPresent.on Hid.PRESENT k → t.get Hid.FU_KILL k = 7 ∧ t.get Hid.FU_REVOKE k = 4095 ∧ t.get Hid.FU_LIFE k = 4095)) ∧
  (∀ (s : State), s.on Hid.BOOT 0 = false → s.on Hid.RST_LOW 0 = false → s.decisionDue → s.startPresent.integrityOk = false → Answers (.integrityDecision) s fun t =>
      t.dev = Dev.fuseHold ∧ t.on Hid.BOOT 0 ∧ t.active = s.active ∧ (∀ p : Phase, t.ph p = Ph.off)) ∧
  (∀ (s : State), (decide (s.on Hid.BOOT 0 = true ∨ s.on Hid.RST_LOW 0 = true ∨ s.decisionDue = false)) → Answers (.integrityDecision) s fun t => t = s) ∧
  (∀ (w : Who) (m : Mgr) (key : BitVec 16) (field word : BitVec 5) (len : BitVec 4) (supplyOk : Bool) (s : State), s.reach w m = s.act → key ≠ 0x3E71#16 → Answers
      (.fuseProgram w m key field word len supplyOk) s fun t => t.get Reg.FUSE_STATUS.PROG_RESULT 0 = 3 ∧ t.get Reg.FUSE_STATUS.REFUSE 0 = Fr.key ∧ OnlyFields
      [Reg.FUSE_STATUS.PROG_RESULT, Reg.FUSE_STATUS.REFUSE, Hid.BUS_ERR] s t) ∧
  (∀ (w : Who) (m : Mgr) (key : BitVec 16) (field word : BitVec 5) (len : BitVec 4) (supplyOk : Bool) (s : State), s.reach w m = s.act → key = 0x3E71#16 → ((fuseById
      field.toNat).all fun f => s.fuseReason f word.toNat (len.toNat + 1) supplyOk ≠ 0) → Answers (.fuseProgram w m key field word len supplyOk) s fun t => t.get
      Reg.FUSE_STATUS.PROG_RESULT 0 = 3 ∧ (t.get Reg.FUSE_STATUS.REFUSE 0 = (fuseById field.toNat).elim Fr.stage fun f => s.fuseReason f word.toNat (len.toNat + 1)
      supplyOk) ∧ OnlyFields [Reg.FUSE_STATUS.PROG_RESULT, Reg.FUSE_STATUS.REFUSE, Reg.FUSE_PROG.FIELD, Reg.FUSE_PROG.WORD, Reg.FUSE_PROG.LEN, Hid.BUS_ERR] s t) ∧
  (∀ (w : Who) (m : Mgr) (key : BitVec 16) (field word : BitVec 5) (len : BitVec 4) (supplyOk : Bool) (s : State), s.reach w m = s.act → key = 0x3E71#16 → (fuseById
      field.toNat).isSome → ((fuseById field.toNat).all fun f => s.fuseReason f word.toNat (len.toNat + 1) supplyOk = 0) → Answers (.fuseProgram w m key field word len
      supplyOk) s fun t => t.on Hid.FMAP_ON 0 ∧ t.get Hid.FMAP_FIELD 0 = field.toNat ∧ t.get Hid.FMAP_WORD 0 = word.toNat ∧ t.get Hid.FMAP_LEN 0 = len.toNat + 1 ∧ t.get
      Hid.FMAP_DONE 0 = 0 ∧ t.on Reg.FUSE_STATUS.PROG_BUSY 0 ∧ t.get Reg.FUSE_PROG.FIELD 0 = field.toNat ∧ OnlyFields [Hid.FMAP_ON, Hid.FMAP_FIELD, Hid.FMAP_WORD,
      Hid.FMAP_LEN, Hid.FMAP_DONE, Hid.FMAP_BY, Hid.FMAP_DATA, Reg.FUSE_STATUS.PROG_BUSY, Reg.FUSE_STATUS.ZERO_ATTEMPT, Reg.FUSE_PROG.FIELD, Reg.FUSE_PROG.WORD,
      Reg.FUSE_PROG.LEN, Hid.BUS_ERR] s t) ∧
  (∀ (w : Who) (m : Mgr) (key : BitVec 16) (field word : BitVec 5) (len : BitVec 4) (supplyOk : Bool) (s : State), s.reach w m ≠ s.act → Answers (.fuseProgram w m key
      field word len supplyOk) s fun t => t.getAt Hid.BUS_ERR (s.reach w m) (whoIx w) = 1 ∧ OnlyCells [(Hid.BUS_ERR, s.reach w m, whoIx w)] s t) ∧
  (∀ (fails : List (Mgr × Nat × Bool)) (s : State), fails = [] → (fuseById (s.get Hid.FMAP_FIELD 0)).isSome → s.on Reg.FUSE_STATUS.PROG_BUSY 0 → s.on Hid.FMAP_ON 0 →
      s.get Hid.FMAP_DONE 0 = 0 → s.on Hid.PRESENT 0 → s.on Hid.PRESENT 1 → Answers (.fuseProgramDone fails) s fun t => t.on Hid.FMAP_ON 0 = false ∧ t.get
      Reg.FUSE_STATUS.PROG_RESULT 0 = 1 ∧ t.on Reg.FUSE_STATUS.PROG_BUSY 0 = false ∧ (∀ f ∈ fuseTable, f.id = s.get Hid.FMAP_FIELD 0 → f.isSealed = false → ∀ m : Mgr, ∀ b
      ∈ List.range f.bits, (s.fmapDesired f).testBit b → (f.value (t.fuseRaw m f)).testBit b)) ∧
  (∀ (fails : List (Mgr × Nat × Bool)) (s : State), (fuseById (s.get Hid.FMAP_FIELD 0)).isSome → s.on Reg.FUSE_STATUS.PROG_BUSY 0 → s.on Hid.FMAP_ON 0 → s.get
      Hid.FMAP_DONE 0 < 4 → (decide (∀ m : Mgr, s.on Hid.PRESENT m = true ∨ s.bit Hid.FMAP_DONE 0 m = true)) → Answers (.fuseProgramDone fails) s fun t => t.on
      Hid.FMAP_ON 0 = false ∧ (fails = [] → t.get Reg.FUSE_STATUS.PROG_RESULT 0 = 1) ∧ t.on Reg.FUSE_STATUS.PROG_BUSY 0 = false ∧ (∀ f ∈ fuseTable, f.id = s.get
      Hid.FMAP_FIELD 0 → ∀ m : Mgr, s.on Hid.PRESENT m → s.bit Hid.FMAP_DONE 0 m = false → ∀ k ∈ List.range f.fld.wid, (t.fuseRaw m f).testBit k = decide ((s.fuseRaw m
      f).testBit k = true ∨ ((f.physical (s.fmapDesired f)).testBit k = true ∧ ∀ x ∈ fails, ¬ (x.1 = m ∧ x.2 = (k, false)))))) ∧
  (∀ (fails : List (Mgr × Nat × Bool)) (s : State), (fuseById (s.get Hid.FMAP_FIELD 0)).isSome → s.on Reg.FUSE_STATUS.PROG_BUSY 0 → s.on Hid.FMAP_ON 0 → (decide (∃ m :
      Mgr, s.on Hid.PRESENT m = false ∧ s.bit Hid.FMAP_DONE 0 m = false)) → Answers (.fuseProgramDone fails) s fun t => t.on Hid.FMAP_ON 0 ∧ t.get
      Reg.FUSE_STATUS.PROG_RESULT 0 = s.get Reg.FUSE_STATUS.PROG_RESULT 0 ∧ (∀ m : Mgr, s.on Hid.PRESENT m → t.bit Hid.FMAP_DONE 0 m) ∧ t.on Reg.FUSE_STATUS.PROG_BUSY 0 =
      false ∧ (∀ f ∈ fuseTable, f.id = s.get Hid.FMAP_FIELD 0 → ∀ m : Mgr, s.on Hid.PRESENT m → s.bit Hid.FMAP_DONE 0 m = false → ∀ k ∈ List.range f.fld.wid, (t.fuseRaw m
      f).testBit k = decide ((s.fuseRaw m f).testBit k = true ∨ ((f.physical (s.fmapDesired f)).testBit k = true ∧ ∀ x ∈ fails, ¬ (x.1 = m ∧ x.2 = (k, false)))))) ∧
  (∀ (fails : List (Mgr × Nat × Bool)) (s : State), (decide (s.on Reg.FUSE_STATUS.PROG_BUSY 0 = false ∨ s.on Hid.FMAP_ON 0 = false)) → Answers (.fuseProgramDone fails) s
      fun t => t = s) ∧
  (∀ (supplyOk : Bool) (s : State), s.on Hid.FMAP_ON 0 → s.fuseHolds supplyOk (s.get Hid.FMAP_BY 0 = For.rollback) = 0 → Answers (.fuseProgramResume supplyOk) s fun t =>
      t.on Reg.FUSE_STATUS.PROG_BUSY 0 ∧ OnlyCells [(Reg.FUSE_STATUS.PROG_BUSY, 0, 0)] s t) ∧
  (∀ (supplyOk : Bool) (s : State), (decide (s.on Hid.FMAP_ON 0 = false ∨ s.fuseHolds supplyOk (s.get Hid.FMAP_BY 0 = For.rollback) ≠ 0)) → Answers (.fuseProgramResume
      supplyOk) s fun t => t = s) ∧
  (∀ (w : Who) (m : Mgr) (key : BitVec 16) (supplyOk : Bool) (s : State), s.reach w m = s.act → key = 0x7C19#16 → s.lcCondition → s.fuseHolds supplyOk false = 0 → s.on
      Hid.FMAP_ON 0 = false → Answers (.lcAdvance w m key supplyOk) s fun t => t.on Hid.FMAP_ON 0 ∧ t.get Hid.FMAP_FIELD 0 = FuseId.life ∧ t.getAt Hid.FMAP_DATA 0 0 = 2 ^
      (s.lifeStage s.act + 1) - 1 ∧ t.get Hid.FMAP_BY 0 = For.advance ∧ t.on Reg.FUSE_STATUS.PROG_BUSY 0 ∧ t.logged JKind.accepted JStatus.ok noTarget ∧ OnlyFieldsLog
      [Hid.FMAP_ON, Hid.FMAP_FIELD, Hid.FMAP_WORD, Hid.FMAP_LEN, Hid.FMAP_DONE, Hid.FMAP_BY, Hid.FMAP_DATA, Reg.FUSE_STATUS.PROG_BUSY, Hid.BUS_ERR] s t) ∧
  (∀ (w : Who) (m : Mgr) (key : BitVec 16) (supplyOk : Bool) (s : State), s.reach w m = s.act → key = 0x7C19#16 → s.lcCondition = false → Answers (.lcAdvance w m key
      supplyOk) s fun t => t.get Reg.LC_CTRL.LC_REJ 0 = 1 ∧ t.get Reg.FUSE_STATUS.REFUSE 0 = Fr.condition ∧ t.logged JKind.refused JStatus.refused noTarget ∧
      OnlyFieldsLog [Reg.LC_CTRL.LC_REJ, Reg.FUSE_STATUS.REFUSE, Hid.BUS_ERR] s t) ∧
  (∀ (w : Who) (m : Mgr) (key : BitVec 16) (supplyOk : Bool) (s : State), s.reach w m = s.act → key ≠ 0x7C19#16 → Answers (.lcAdvance w m key supplyOk) s fun t => t.get
      Reg.LC_CTRL.LC_REJ 0 = 1 ∧ t.get Reg.FUSE_STATUS.REFUSE 0 = Fr.key ∧ t.logged JKind.refused JStatus.refused noTarget ∧ OnlyFieldsLog [Reg.LC_CTRL.LC_REJ,
      Reg.FUSE_STATUS.REFUSE, Hid.BUS_ERR] s t) ∧
  (∀ (w : Who) (m : Mgr) (key : BitVec 16) (supplyOk : Bool) (s : State), s.reach w m = s.act → key = 0x7C19#16 → s.lcCondition → (decide (s.fuseHolds supplyOk false ≠ 0
      ∨ s.on Hid.FMAP_ON 0 = true)) → Answers (.lcAdvance w m key supplyOk) s fun t => t.get Reg.LC_CTRL.LC_REJ 0 = 1 ∧ t.get Reg.FUSE_STATUS.REFUSE 0 = (if s.fuseHolds
      supplyOk false ≠ 0 then s.fuseHolds supplyOk false else Fr.busy) ∧ t.logged JKind.refused JStatus.refused noTarget ∧ OnlyFieldsLog [Reg.LC_CTRL.LC_REJ,
      Reg.FUSE_STATUS.REFUSE, Hid.BUS_ERR] s t)

/-- A slot that fails a check before streaming is refused with its code; one that passes every check, streams without error, has the header's digest and meets the configuration rules is committed: the device is in ARM with the slot, its version and rollback number shown; one that does not meet the configuration rules is refused with RULE, and LOAD_FAIL shows once both slots are refused; ARM goes to RUN when every criterion holds, by itself with AUTO_RUN or by RUN, which is refused otherwise, and the AUTO sequence then runs if there is one; ARM_LATE shows when they do not all hold in time; PARK is entered where it may be, else refused; an enabled wake source leaves it, for ARM with the tiles' verdicts, or for LOAD where a tile's settings are lost. A reading of the model that it rests on: log entry 67. -/
def Obligations.LoadArmRunPark : Prop :=
  (∀ (k : Nat) (s : State), s.dev = Dev.load → s.on Reg.LOAD_STATUS.LOADING 0 → s.nextSlot = some k → s.slotCheck k ≠ Fail.none → s.slotCheck k ≠ Fail.rule → Answers
      (.loadCommit) s fun t => t.get (failFld k) 0 = s.slotCheck k % 2 ^ (failFld k).wid ∧ t.get Reg.LOAD_STATUS.LOAD_FAIL 0 = (if t.get Reg.LOAD_STATUS.FAIL_A 0 ≠ 0 ∧
      t.get Reg.LOAD_STATUS.FAIL_B 0 ≠ 0 then 1 else s.get Reg.LOAD_STATUS.LOAD_FAIL 0) ∧ (t.on Reg.LOAD_STATUS.LOADING 0 = decide (t.get Reg.LOAD_STATUS.FAIL_A 0 = 0 ∨
      t.get Reg.LOAD_STATUS.FAIL_B 0 = 0)) ∧ t.dev = Dev.load ∧ OnlyFields [Reg.LOAD_STATUS.FAIL_A, Reg.LOAD_STATUS.FAIL_B, Reg.LOAD_STATUS.LOAD_FAIL,
      Reg.LOAD_STATUS.LOADING] s t) ∧
  (∀ (k : Nat) (s : State), s.dev = Dev.load → s.on Reg.LOAD_STATUS.LOADING 0 → s.nextSlot = some k → s.slotCheck k = Fail.none → (s.stream k).err = none → s.digestOk k →
      (s.stream k).settle.err = none → (s.stream k).settle.st.configRules = false → Answers (.loadCommit) s fun t => t.get (failFld k) 0 = Fail.rule ∧ t.get
      Reg.LOAD_STATUS.LOAD_FAIL 0 = (if t.get Reg.LOAD_STATUS.FAIL_A 0 ≠ 0 ∧ t.get Reg.LOAD_STATUS.FAIL_B 0 ≠ 0 then 1 else s.get Reg.LOAD_STATUS.LOAD_FAIL 0) ∧ (t.on
      Reg.LOAD_STATUS.LOADING 0 = decide (t.get Reg.LOAD_STATUS.FAIL_A 0 = 0 ∨ t.get Reg.LOAD_STATUS.FAIL_B 0 = 0)) ∧ t.dev = Dev.load ∧ t.on Hid.COMMITTED 0 = s.on
      Hid.COMMITTED 0 ∧ OnlyFields [Reg.LOAD_STATUS.FAIL_A, Reg.LOAD_STATUS.FAIL_B, Reg.LOAD_STATUS.LOAD_FAIL, Reg.LOAD_STATUS.LOADING, Reg.LOAD_ERR.SECTION,
      Reg.LOAD_ERR.OFFSET] { s with freeCtr := t.freeCtr } t) ∧
  (∀ (k : Nat) (s : State), s.dev = Dev.load → s.on Reg.LOAD_STATUS.LOADING 0 → s.nextSlot = some k → s.slotCheck k = Fail.none → (s.stream k).err = none → s.digestOk k →
      (s.stream k).settle.err = none → (s.stream k).settle.st.configRules → Answers (.loadCommit) s fun t => t.dev = Dev.arm ∧ t.get Reg.LOAD_STATUS.SLOT 0 = (k + 1) % 2
      ^ Reg.LOAD_STATUS.SLOT.wid ∧ t.on Reg.LOAD_STATUS.LOADING 0 = false ∧ t.on Hid.COMMITTED 0 ∧ t.on Hid.GG_READY 0 ∧ t.on Hid.ARM_AUTO 0 = ((s.stream k).settle.st.hdr
      k 0x07 1).testBit 0 ∧ t.get Reg.LOAD_INFO.IMAGE_VER 0 = (s.stream k).settle.st.hdr k 0x0C 3 % 2 ^ 24 ∧ t.get Reg.LOAD_INFO.ROLLBACK 0 = (s.stream k).settle.st.hdr k
      0x0F 1 % 2 ^ 8 ∧ t.perms = (s.stream k).settle.st.perms) ∧
  (∀ (s : State), (decide (s.dev ≠ Dev.load ∨ s.on Reg.LOAD_STATUS.LOADING 0 = false ∨ s.nextSlot = none)) → Answers (.loadCommit) s fun t => t = s) ∧
  (∀ (s : State), s.dev = Dev.arm → s.on Hid.ARM_AUTO 0 → s.armed5 → Answers (.armToRun) s fun v => ∃ t : State, v = t.autoRun ∧ t.dev = Dev.run ∧ OnlyCells
      [(Reg.DEV_STATE.STATE, 0, 0)] s t) ∧
  (∀ (s : State), (decide (s.dev ≠ Dev.arm ∨ s.on Hid.ARM_AUTO 0 = false ∨ s.armed5 = false)) → Answers (.armToRun) s fun t => t = s) ∧
  (∀ (w : Who) (m : Mgr) (s : State), s.reach w m = s.act → s.dev = Dev.arm → s.armed5 → Answers (.devRun w m) s fun v => ∃ t : State, v = t.autoRun ∧ t.dev = Dev.run ∧
      t.logged JKind.done JStatus.ok noTarget ∧ OnlyFieldsLog [Reg.DEV_STATE.STATE, Hid.BUS_ERR] s t) ∧
  (∀ (w : Who) (m : Mgr) (s : State), s.reach w m = s.act → (s.dev ≠ Dev.arm ∨ s.armed5 = false) → Answers (.devRun w m) s fun t => t.get Reg.DEV_CTRL.CMD_REJ 0 = 1 ∧
      t.logged JKind.refused JStatus.armNotReady noTarget ∧ OnlyFieldsLog [Reg.DEV_CTRL.CMD_REJ, Hid.BUS_ERR] s t) ∧
  (∀ (s : State), s.dev = Dev.arm → s.armed5 = false → s.armTmo ≤ beatDiff s.beat (s.get Hid.ARM_BEAT 0) → Answers (.armLate) s fun t => t.get Reg.DEV_STATE.ARM_LATE 0 =
      1 ∧ OnlyCells [(Reg.DEV_STATE.ARM_LATE, 0, 0)] s t) ∧
  (∀ (s : State), (decide (s.dev ≠ Dev.arm ∨ s.armed5 = true ∨ beatDiff s.beat (s.get Hid.ARM_BEAT 0) < s.armTmo)) → Answers (.armLate) s fun t => t = s) ∧
  (∀ (w : Who) (m : Mgr) (s : State), s.reach w m = s.act → s.parkAllowed → Answers (.devPark w m) s fun t => t.dev = Dev.park ∧ t.get Hid.WAKE_PEND 0 = 0 ∧ t.get
      Hid.PARK_BEAT 0 = s.beat % 2 ^ 40 ∧ t.on Hid.HPD_GO 0 = false ∧ t.on Reg.GG_STATUS.HIB 0 ∧ t.dmPend = [] ∧ (∀ p : Phase, t.ph p = Ph.off) ∧ t.logged JKind.done
      JStatus.ok noTarget) ∧
  (∀ (w : Who) (m : Mgr) (s : State), s.reach w m = s.act → s.parkAllowed = false → Answers (.devPark w m) s fun t => t.get Reg.DEV_CTRL.CMD_REJ 0 = 1 ∧ t.logged
      JKind.refused JStatus.parkBusy noTarget ∧ OnlyFieldsLog [Reg.DEV_CTRL.CMD_REJ, Hid.BUS_ERR] s t) ∧
  (∀ (src : BitVec 5) (pass : BitVec 4) (s : State), s.dev = Dev.park → (src.toNat ||| s.get Hid.WAKE_PEND 0) &&& s.wakeEnables ≠ 0 → s.get Reg.LOAD_STATUS.SLOT 0 = 0 →
      Answers (.devWake src pass) s fun t => t.dev = Dev.arm ∧ t.get Hid.WAKE_PEND 0 = 0 ∧ t.get Reg.PARK_CFG.WAKE_SRC (Reg.PARK_CFG.WAKE_SRC.home s.act) = ((src.toNat
      ||| s.get Hid.WAKE_PEND 0) &&& s.wakeEnables) % 2 ^ Reg.PARK_CFG.WAKE_SRC.wid ∧ (∀ u : Tile, t.get Hid.BC_VERDICT u = (if pass.toNat.testBit u then Bc.pass else
      Bc.fail)) ∧ t.get Hid.ARM_BEAT 0 = s.beat % 2 ^ 40) ∧
  (∀ (src : BitVec 5) (pass : BitVec 4) (s : State), s.dev = Dev.park → (src.toNat ||| s.get Hid.WAKE_PEND 0) &&& s.wakeEnables ≠ 0 → Answers (.devWake src pass) s fun v
      => ∃ t : State, v = t.wakeSettings ∧ t.get Hid.WAKE_PEND 0 = 0 ∧ t.get Reg.PARK_CFG.WAKE_SRC (Reg.PARK_CFG.WAKE_SRC.home s.act) = ((src.toNat ||| s.get
      Hid.WAKE_PEND 0) &&& s.wakeEnables) % 2 ^ Reg.PARK_CFG.WAKE_SRC.wid ∧ (∀ u : Tile, t.get Hid.BC_VERDICT u = (if pass.toNat.testBit u then Bc.pass else Bc.fail)) ∧
      (decide (t.wakeSettings.dev = Dev.arm ∨ t.wakeSettings.dev = Dev.load))) ∧
  (∀ (src : BitVec 5) (pass : BitVec 4) (s : State), (decide (s.dev ≠ Dev.park ∨ (src.toNat ||| s.get Hid.WAKE_PEND 0) &&& s.wakeEnables = 0)) → Answers (.devWake src
      pass) s fun t => t = s)

/-- A core of the active manager that is not halted sleeps with its pc kept; a mark of a traced core is one record at the write pointer, which moves on; a store that its initiator may make to the scratchpad or the mirror window puts its bytes there and nowhere else, one to the secure part by another initiator has a bus error with SEC_VIOL; an aligned store to the firmware region of the ferroelectric array puts its bytes there; a partial store of a word that no read corrects has a bus error; a corrected row counts, one of the ferroelectric array that cannot be corrected reads as an error from then on, one that cannot be corrected in the scratchpad is an explicit fault of its manager. -/
def Obligations.CoresAndMemories : Prop :=
  (∀ (m : Mgr) (core : Fin 4) (pc : Word) (s : State), s.on Hid.PRESENT m → m.val = s.act → (core.val = 3 ∨ s.onAt Reg.EVC_CORE.HALTED 0 core = false) → Answers
      (.coreWait m core pc) s fun t => t.getAt Hid.CORE_PC 0 core = pc.toNat ∧ (core.val < 3 → t.onAt Reg.EVC_CORE.SLEEPING 0 core) ∧ (core.val = 3 → t.on Hid.SC_SLEEP 0)
      ∧ t.jrnA = s.jrnA) ∧
  (∀ (m : Mgr) (core : Fin 4) (pc : Word) (s : State), core.val < 3 → s.onAt Reg.EVC_CORE.HALTED 0 core → m.val = s.act → Answers (.coreWait m core pc) s fun t => t = s) ∧
  (∀ (m : Mgr) (core : Fin 4) (pc : Word) (s : State), m.val ≠ s.act → s.bit Reg.TRACE_CTRL.CORE_EN m core = false → Answers (.coreWait m core pc) s fun t => t = s) ∧
  (∀ (w : Who) (m : Mgr) (v : Word) (c : Fin 4) (s : State), coreOf w = some c.val → s.bit Reg.TRACE_CTRL.CORE_EN m c → (decide (s.on Reg.TRACE_CTRL.STOP_FULL m = false ∨
      s.on Reg.TRACE_STATUS.FULL m = false)) → s.get Reg.TRACE_STATUS.WPTR m < 2048 → Memory.wf s.mem = true → Answers (.traceMark w m v) s fun t => t.get
      Reg.TRACE_STATUS.WPTR m = (s.get Reg.TRACE_STATUS.WPTR m + 1) % 2048 ∧ t.rd32 (traceAddr m (s.get Reg.TRACE_STATUS.WPTR m) + 4) = v ∧ t.rd32 (traceAddr m (s.get
      Reg.TRACE_STATUS.WPTR m)) = BitVec.ofNat 32 (5 * 2 ^ 28 + c.val * 2 ^ 26 + v.toNat % 2 ^ 26) ∧ (s.get Reg.TRACE_STATUS.WPTR m = 2047 → t.on Reg.TRACE_STATUS.FULL m)
      ∧ BytesOutside (traceAddr m (s.get Reg.TRACE_STATUS.WPTR m)) 16 s t) ∧
  (∀ (w : Who) (m : Mgr) (v : Word) (c : Fin 4) (s : State), coreOf w = some c.val → s.bit Reg.TRACE_CTRL.CORE_EN m c → s.on Reg.TRACE_CTRL.STOP_FULL m → s.on
      Reg.TRACE_STATUS.FULL m → Answers (.traceMark w m v) s fun t => t.get Reg.TRACE_STATUS.LOST m = s.bumped Reg.TRACE_STATUS.LOST m ∧ OnlyCells
      [(Reg.TRACE_STATUS.LOST, m, 0), (Hid.BUS_ERR, s.reach w m, whoIx w)] s t) ∧
  (∀ (w : Who) (m : Mgr) (v : Word) (s : State), (decide (coreOf w = none ∨ s.get Reg.TRACE_CTRL.CORE_EN m = 0)) → Answers (.traceMark w m v) s fun t => OnlyCells
      [(Hid.BUS_ERR, s.reach w m, whoIx w)] s t) ∧
  (∀ (w : Who) (m : Mgr) (secure : Bool) (addr : Word) (size : Fin 3) (v : Word) (row : Upset) (s : State), (memOf addr.toNat = 0 ∨ memOf addr.toNat = 2) → memOf
      (addr.toNat + 2 ^ size.val - 1) = memOf addr.toNat → (mayReachSecure w secure ∨ (inSecure addr.toNat = false ∧ inSecure (addr.toNat + 2 ^ size.val - 1) = false)) →
      (memOf addr.toNat = 2 → s.reach w m = s.act) → (row = .clean ∨ row = .passed) → Memory.wf s.mem = true → Answers (.scratchpadStore w m secure addr size v row) s fun
      t => t.rdBytes (mgrMem (s.reach w m) addr.toNat) (2 ^ size.val) = lowBytes (2 ^ size.val) v ∧ BytesOutside (mgrMem (s.reach w m) addr.toNat) (2 ^ size.val) s t ∧
      OnlyCellsMem [(Hid.BUS_ERR, s.reach w m, whoIx w)] s t) ∧
  (∀ (w : Who) (m : Mgr) (secure : Bool) (addr : Word) (size : Fin 3) (v : Word) (row : Upset) (s : State), memOf addr.toNat = 0 → memOf (addr.toNat + 2 ^ size.val - 1) =
      0 → (decide (mayReachSecure w secure = true ∨ (inSecure addr.toNat = false ∧ inSecure (addr.toNat + 2 ^ size.val - 1) = false))) → row = .lost → s.on Hid.PRESENT
      (s.reach w m) → Answers (.scratchpadStore w m secure addr size v row) s fun t => t.getAt Reg.MEM_STATUS.UNCORR (s.reach w m) 0 = 1 ∧ t.on Hid.PRESENT (s.reach w m)
      = false) ∧
  (∀ (w : Who) (m : Mgr) (secure : Bool) (addr : Word) (size : Fin 3) (v : Word) (row : Upset) (s : State), memOf addr.toNat = 0 → memOf (addr.toNat + 2 ^ size.val - 1) =
      0 → mayReachSecure w secure = false → inSecure (addr.toNat + 2 ^ size.val - 1) → Answers (.scratchpadStore w m secure addr size v row) s fun t => t.get
      Reg.MEM_STATUS.SEC_VIOL (s.reach w m) = 1 ∧ t.getAt Hid.BUS_ERR (s.reach w m) (whoIx w) = 1 ∧ OnlyCells [(Hid.BUS_ERR, s.reach w m, whoIx w),
      (Reg.MEM_STATUS.SEC_VIOL, s.reach w m, 0)] s t) ∧
  (∀ (w : Who) (m : Mgr) (secure : Bool) (addr : Word) (size : Fin 3) (v : Word) (row : Upset) (s : State), (decide (memOf addr.toNat ≠ memOf (addr.toNat + 2 ^ size.val -
      1) ∨ (memOf addr.toNat ≠ 0 ∧ memOf addr.toNat ≠ 2))) → Answers (.scratchpadStore w m secure addr size v row) s fun t => t.getAt Hid.BUS_ERR (s.reach w m) (whoIx w)
      = 1 ∧ OnlyCells [(Hid.BUS_ERR, s.reach w m, whoIx w)] s t) ∧
  (∀ (w : Who) (m : Mgr) (addr : Word) (size : Fin 3) (v : Word) (s : State), addr.toNat % 2 ^ size.val = 0 → feFirmware addr.toNat → (decide (size = 2 ∨ s.feBad.contains
      (mgrMem (s.reach w m) addr.toNat / 4 * 4) = false)) → Memory.wf s.mem = true → Answers (.framStore w m addr size v) s fun t => t.rdBytes (mgrMem (s.reach w m)
      addr.toNat) (2 ^ size.val) = lowBytes (2 ^ size.val) v ∧ BytesOutside (mgrMem (s.reach w m) addr.toNat) (2 ^ size.val) s t ∧ OnlyCellsMem [(Hid.BUS_ERR, s.reach w
      m, whoIx w)] { s with feBad := t.feBad } t) ∧
  (∀ (w : Who) (m : Mgr) (addr : Word) (size : Fin 3) (v : Word) (s : State), (decide (addr.toNat % 2 ^ size.val ≠ 0 ∨ feFirmware addr.toNat = false ∨ (size ≠ 2 ∧
      s.feBad.contains (mgrMem (s.reach w m) addr.toNat / 4 * 4) = true))) → Answers (.framStore w m addr size v) s fun t => t.getAt Hid.BUS_ERR (s.reach w m) (whoIx w) =
      1 ∧ OnlyCells [(Hid.BUS_ERR, s.reach w m, whoIx w)] s t) ∧
  (∀ (m : Mgr) (addr : Word) (row : Upset) (s : State), s.on Hid.PRESENT m → memOf addr.toNat ≠ 4 → row = .corrected → Answers (.memoryScrub m addr row) s fun t => t.get
      Reg.MEM_STATUS.CORR_COUNT m = s.bumped Reg.MEM_STATUS.CORR_COUNT m ∧ t.on (if memOf addr.toNat = 3 then Reg.MEM_STATUS.FE_CORR else Reg.MEM_STATUS.SP_CORR) m ∧
      OnlyFields [Reg.MEM_STATUS.CORR_COUNT, Reg.MEM_STATUS.FE_CORR, Reg.MEM_STATUS.SP_CORR] { s with awlErrs := t.awlErrs, awlProbes := t.awlProbes } t) ∧
  (∀ (m : Mgr) (addr : Word) (row : Upset) (s : State), s.on Hid.PRESENT m → (memOf addr.toNat = 0 ∨ memOf addr.toNat = 1 ∨ memOf addr.toNat = 2) → row = .lost → Answers
      (.memoryScrub m addr row) s fun t => t.get Reg.MEM_STATUS.UNCORR m = 1 ∧ t.on Hid.PRESENT m = false ∧ t.isActive m = false ∧ (s.isActive m → t.on Hid.TRIG (peer
      m))) ∧
  (∀ (m : Mgr) (addr : Word) (row : Upset) (s : State), s.on Hid.PRESENT m → memOf addr.toNat = 3 → row = .lost → Answers (.memoryScrub m addr row) s fun t =>
      t.feBad.contains (mgrMem m addr.toNat / 4 * 4) ∧ t = { s with feBad := t.feBad, awlErrs := t.awlErrs, awlProbes := t.awlProbes }) ∧
  (∀ (m : Mgr) (addr : Word) (row : Upset) (s : State), (decide (s.on Hid.PRESENT m = false ∨ memOf addr.toNat = 4 ∨ row = .clean ∨ row = .passed)) → Answers
      (.memoryScrub m addr row) s fun t => t = s)

/-- Unarmed, KEY_A and then KEY_B arm the watchdog and start its period; armed, the pair in the open window starts the next period, a key before it, a value that is no key and a second KEY_A are violations with their CAUSE, as is the period's end: EXPIRED, one more in EXPIRE_COUNT, the output low, an explicit fault of the active manager; 75 % of the period shows EWARN; the pulse ends after its time, with a system reset where asked; a second counts the calendar, applies a pending summer-time change and fires a matching alarm; HALT stops it, a write is taken while halted only, resuming from an earlier time is a journalled backward step; a lost backup clears the calendar; three samples at the active level of an enabled tamper input keep the time of the first event and, where asked, zero the secure scratchpads. A reading of the model that it rests on: log entry 31. -/
def Obligations.WatchdogAndCalendar : Prop :=
  (∀ (w : Who) (m : Mgr) (s : State), (coreOf w).isSome → s.reach w m = s.act → s.on Reg.WDT_STATUS.ARMED 0 = false → Answers (.keyA w m) s fun t => t.on
      Reg.WDT_STATUS.HALF 0 = !s.on Reg.WDT_STATUS.HALF 0 ∧ OnlyFields [Reg.WDT_STATUS.HALF, Hid.BUS_ERR] s t) ∧
  (∀ (w : Who) (m : Mgr) (s : State), (coreOf w).isSome → s.reach w m = s.act → s.on Reg.WDT_STATUS.ARMED 0 → (decide (s.wdtCounts = false ∨ s.wdtLength ≤ s.wdtAge)) →
      Answers (.keyA w m) s fun t => OnlyCells [(Hid.BUS_ERR, s.reach w m, whoIx w)] s t) ∧
  (∀ (w : Who) (m : Mgr) (s : State), (coreOf w).isSome → s.reach w m = s.act → s.wdtOpen → s.on Reg.WDT_STATUS.HALF 0 = false → Answers (.keyA w m) s fun t => t.on
      Reg.WDT_STATUS.HALF 0 ∧ OnlyFields [Reg.WDT_STATUS.HALF, Hid.BUS_ERR] s t) ∧
  (∀ (w : Who) (m : Mgr) (s : State), (coreOf w).isSome → s.reach w m = s.act → s.wdtCounts → 2 * s.wdtAge < s.wdtLength → s.on Hid.PRESENT s.act → Answers (.keyA w m) s
      fun t => t.on Reg.WDT_STATUS.EXPIRED 0 ∧ t.get Reg.WDT_STATUS.CAUSE 0 = WdCause.early ∧ t.get Reg.WDT_STATUS.EXPIRE_COUNT 0 = s.bumped Reg.WDT_STATUS.EXPIRE_COUNT 0
      ∧ t.on Reg.WDT_STATUS.PULSING 0 ∧ t.on Hid.PRESENT s.act = false) ∧
  (∀ (w : Who) (m : Mgr) (s : State), (coreOf w).isSome → s.reach w m = s.act → s.wdtOpen → s.on Reg.WDT_STATUS.HALF 0 → s.on Hid.PRESENT s.act → Answers (.keyA w m) s
      fun t => t.on Reg.WDT_STATUS.EXPIRED 0 ∧ t.get Reg.WDT_STATUS.CAUSE 0 = WdCause.order ∧ t.get Reg.WDT_STATUS.EXPIRE_COUNT 0 = s.bumped Reg.WDT_STATUS.EXPIRE_COUNT 0
      ∧ t.on Reg.WDT_STATUS.PULSING 0 ∧ t.on Hid.PRESENT s.act = false) ∧
  (∀ (w : Who) (m : Mgr) (s : State), (coreOf w).isSome → s.reach w m = s.act → s.on Reg.WDT_STATUS.HALF 0 → (s.on Reg.WDT_STATUS.ARMED 0 = false ∨ s.wdtOpen) → Answers
      (.keyB w m) s fun t => t.on Reg.WDT_STATUS.ARMED 0 ∧ t.on Reg.WDT_STATUS.HALF 0 = false ∧ t.get Hid.WDT_BEAT 0 = s.beat % 2 ^ 40 ∧ t.get Hid.WDT_PERIOD 0 = s.get
      Reg.WDT_CFG.PERIOD 0 % 2 ^ 16 ∧ OnlyFields [Reg.WDT_STATUS.ARMED, Reg.WDT_STATUS.HALF, Hid.WDT_BEAT, Hid.WDT_PERIOD, Hid.BUS_ERR] s t) ∧
  (∀ (w : Who) (m : Mgr) (s : State), (coreOf w).isSome → s.reach w m = s.act → s.on Reg.WDT_STATUS.ARMED 0 = false → s.on Reg.WDT_STATUS.HALF 0 = false → Answers (.keyB
      w m) s fun t => OnlyCells [(Hid.BUS_ERR, s.reach w m, whoIx w)] s t) ∧
  (∀ (w : Who) (m : Mgr) (s : State), (coreOf w).isSome → s.reach w m = s.act → s.wdtCounts → 2 * s.wdtAge < s.wdtLength → s.on Hid.PRESENT s.act → Answers (.keyB w m) s
      fun t => t.on Reg.WDT_STATUS.EXPIRED 0 ∧ t.get Reg.WDT_STATUS.CAUSE 0 = WdCause.early ∧ t.get Reg.WDT_STATUS.EXPIRE_COUNT 0 = s.bumped Reg.WDT_STATUS.EXPIRE_COUNT 0
      ∧ t.on Reg.WDT_STATUS.PULSING 0 ∧ t.on Hid.PRESENT s.act = false) ∧
  (∀ (w : Who) (m : Mgr) (s : State), (coreOf w).isSome → s.reach w m = s.act → s.on Reg.WDT_STATUS.ARMED 0 → (decide (s.wdtCounts = false ∨ s.wdtLength ≤ s.wdtAge)) →
      Answers (.keyB w m) s fun t => OnlyCells [(Hid.BUS_ERR, s.reach w m, whoIx w)] s t) ∧
  (∀ (w : Who) (m : Mgr) (s : State), (coreOf w).isSome → s.reach w m = s.act → s.wdtOpen → s.on Reg.WDT_STATUS.HALF 0 = false → s.on Hid.PRESENT s.act → Answers (.keyB w
      m) s fun t => t.on Reg.WDT_STATUS.EXPIRED 0 ∧ t.get Reg.WDT_STATUS.CAUSE 0 = WdCause.order ∧ t.on Hid.PRESENT s.act = false) ∧
  (∀ (w : Who) (m : Mgr) (s : State), (coreOf w).isSome → s.reach w m = s.act → s.wdtCounts → s.wdtAge < s.wdtLength → Answers (.wdtBadKey w m) s fun t => t.on
      Reg.WDT_STATUS.EXPIRED 0 ∧ t.get Reg.WDT_STATUS.CAUSE 0 = WdCause.wrongKey ∧ t.on Reg.WDT_STATUS.PULSING 0) ∧
  (∀ (w : Who) (m : Mgr) (s : State), (coreOf w).isSome → s.reach w m = s.act → s.on Reg.WDT_STATUS.ARMED 0 = false → Answers (.wdtBadKey w m) s fun t => t.on
      Reg.WDT_STATUS.HALF 0 = false ∧ OnlyFields [Reg.WDT_STATUS.HALF, Hid.BUS_ERR] s t) ∧
  (∀ (w : Who) (m : Mgr) (s : State), (coreOf w).isSome → s.reach w m = s.act → s.on Reg.WDT_STATUS.ARMED 0 → (decide (s.wdtCounts = false ∨ s.wdtLength ≤ s.wdtAge)) →
      Answers (.wdtBadKey w m) s fun t => OnlyCells [(Hid.BUS_ERR, s.reach w m, whoIx w)] s t) ∧
  (∀ (s : State), s.wdtCounts → 3 * s.wdtLength ≤ 4 * s.wdtAge → Answers (.ewarn) s fun t => t.on Reg.WDT_STATUS.EWARN 0 ∧ OnlyCells [(Reg.WDT_STATUS.EWARN, 0, 0)] s t) ∧
  (∀ (s : State), (decide (s.wdtCounts = false ∨ 4 * s.wdtAge < 3 * s.wdtLength)) → Answers (.ewarn) s fun t => t = s) ∧
  (∀ (s : State), s.wdtCounts → s.wdtLength ≤ s.wdtAge → s.on Hid.PRESENT s.act → Answers (.wdtTimeout) s fun t => t.on Reg.WDT_STATUS.EXPIRED 0 ∧ t.get
      Reg.WDT_STATUS.CAUSE 0 = WdCause.timeout ∧ t.get Reg.WDT_STATUS.EXPIRE_COUNT 0 = s.bumped Reg.WDT_STATUS.EXPIRE_COUNT 0 ∧ t.on Reg.WDT_STATUS.PULSING 0 ∧ t.isActive
      s.act = false ∧ t.on Hid.TRIG (peer s.act)) ∧
  (∀ (s : State), (decide (s.wdtCounts = false ∨ s.wdtAge < s.wdtLength)) → Answers (.wdtTimeout) s fun t => t = s) ∧
  (∀ (s : State), s.pulsed → s.on Reg.WDT_STATUS.PULSING 0 → s.on Hid.WDT_RST 0 = false → Answers (.wdtPulseEnd) s fun t => t.on Reg.WDT_STATUS.PULSING 0 = false ∧
      OnlyCells [(Reg.WDT_STATUS.PULSING, 0, 0)] s t) ∧
  (∀ (s : State), s.pulsed → s.on Reg.WDT_STATUS.PULSING 0 → s.on Hid.WDT_RST 0 → Answers (.wdtPulseEnd) s fun t => t.get Reg.RST_CAUSE.LAST 0 = RstCause.watchdog ∧ t.get
      Reg.RST_CAUSE.SYS_COUNT 0 = s.bumped Reg.RST_CAUSE.SYS_COUNT 0 ∧ t.cmds = []) ∧
  (∀ (s : State), (decide (s.on Reg.WDT_STATUS.PULSING 0 = false ∨ s.pulsed = false)) → Answers (.wdtPulseEnd) s fun t => t = s) ∧
  (∀ (s : State), s.on Reg.RTC_STATUS.HALTED 0 = false → s.get Reg.RTC_SEC.CAL_SEC 0 < 2 ^ 32 - 1 → Answers (.rtcSecond) s fun t => t.get Reg.RTC_SEC.CAL_SEC 0 = s.get
      Reg.RTC_SEC.CAL_SEC 0 + 1 ∧ (s.on Reg.RTC_STATUS.DST_PEND 0 → t.on Reg.RTC_STATUS.DST 0 = s.on Hid.DST_WANT 0 ∧ t.on Reg.RTC_STATUS.DST_PEND 0 = false) ∧ (s.get
      Reg.RTC_SEC.CAL_SEC 0 + 1 = s.get Reg.RTC_ALARM.ALARM_SEC 0 → t.on Reg.RTC_STATUS.ALM_EVT 0) ∧ OnlyFieldsLog [Reg.RTC_SEC.CAL_SEC, Reg.RTC_STATUS.DST,
      Reg.RTC_STATUS.DST_PEND, Reg.RTC_STATUS.ALM_EVT, Hid.WAKE_PEND] s t) ∧
  (∀ (s : State), s.on Reg.RTC_STATUS.HALTED 0 → Answers (.rtcSecond) s fun t => t = s) ∧
  (∀ (w : Who) (m : Mgr) (s : State), s.reach w m = s.act → s.on Reg.RTC_STATUS.HALTED 0 = false → Answers (.rtcHalt w m) s fun t => t.on Reg.RTC_STATUS.HALTED 0 ∧ t.on
      Reg.RTC_CTRL.HALT 0 ∧ t.get Hid.RTC_AT_HALT 0 = s.get Reg.RTC_SEC.CAL_SEC 0 % 2 ^ 32 ∧ OnlyFields [Reg.RTC_STATUS.HALTED, Reg.RTC_CTRL.HALT, Hid.RTC_AT_HALT,
      Hid.BUS_ERR] s t) ∧
  (∀ (w : Who) (m : Mgr) (s : State), s.reach w m = s.act → s.on Reg.RTC_STATUS.HALTED 0 → Answers (.rtcHalt w m) s fun t => t.on Reg.RTC_CTRL.HALT 0 ∧ OnlyFields
      [Reg.RTC_CTRL.HALT, Hid.BUS_ERR] s t) ∧
  (∀ (w : Who) (m : Mgr) (s : State), s.reach w m ≠ s.act → Answers (.rtcHalt w m) s fun t => t.getAt Hid.BUS_ERR (s.reach w m) (whoIx w) = 1 ∧ OnlyCells [(Hid.BUS_ERR,
      s.reach w m, whoIx w)] s t) ∧
  (∀ (w : Who) (m : Mgr) (s : State), s.reach w m = s.act → s.on Reg.RTC_STATUS.HALTED 0 → s.get Reg.RTC_SEC.CAL_SEC 0 < s.get Hid.RTC_AT_HALT 0 → Answers (.rtcResume w
      m) s fun t => t.on Reg.RTC_STATUS.HALTED 0 = false ∧ t.get Reg.RTC_STATUS.BACK_COUNT 0 = s.bumped Reg.RTC_STATUS.BACK_COUNT 0 ∧ t.on Reg.RTC_STATUS.GAUGE_BSTEP 0 ∧
      t.logged JKind.timeStep JStatus.ok noTarget ∧ t.jrnA.head?.map JEntry.arg = some (s.get Hid.RTC_AT_HALT 0 % 2 ^ 32)) ∧
  (∀ (w : Who) (m : Mgr) (s : State), s.reach w m = s.act → s.on Reg.RTC_STATUS.HALTED 0 → s.get Hid.RTC_AT_HALT 0 ≤ s.get Reg.RTC_SEC.CAL_SEC 0 → Answers (.rtcResume w
      m) s fun t => t.on Reg.RTC_STATUS.HALTED 0 = false ∧ t.on Reg.RTC_CTRL.HALT 0 = false ∧ OnlyFields [Reg.RTC_STATUS.HALTED, Reg.RTC_CTRL.HALT,
      Reg.RTC_STATUS.ALM_EVT, Hid.WAKE_PEND, Hid.BUS_ERR] s t) ∧
  (∀ (w : Who) (m : Mgr) (s : State), s.reach w m = s.act → s.on Reg.RTC_STATUS.HALTED 0 = false → Answers (.rtcResume w m) s fun t => t.on Reg.RTC_CTRL.HALT 0 = false ∧
      OnlyFields [Reg.RTC_CTRL.HALT, Hid.BUS_ERR] s t) ∧
  (∀ (w : Who) (m : Mgr) (s : State), s.reach w m ≠ s.act → Answers (.rtcResume w m) s fun t => t.getAt Hid.BUS_ERR (s.reach w m) (whoIx w) = 1 ∧ OnlyCells [(Hid.BUS_ERR,
      s.reach w m, whoIx w)] s t) ∧
  (∀ (w : Who) (m : Mgr) (v : Word) (s : State), s.reach w m = s.act → s.on Reg.RTC_STATUS.HALTED 0 → Answers (.rtcSecWrite w m v) s fun t => t.get Reg.RTC_SEC.CAL_SEC 0
      = v.toNat ∧ t.on Reg.RTC_STATUS.CAL_VALID 0 ∧ OnlyFields [Reg.RTC_SEC.CAL_SEC, Reg.RTC_STATUS.CAL_VALID, Hid.BUS_ERR] s t) ∧
  (∀ (w : Who) (m : Mgr) (v : Word) (s : State), s.reach w m = s.act → s.on Reg.RTC_STATUS.HALTED 0 = false → Answers (.rtcSecWrite w m v) s fun t => t.on
      Reg.RTC_STATUS.CFG_REJ 0 ∧ OnlyFields [Reg.RTC_STATUS.CFG_REJ, Hid.BUS_ERR] s t) ∧
  (∀ (w : Who) (m : Mgr) (v : Word) (s : State), s.reach w m ≠ s.act → Answers (.rtcSecWrite w m v) s fun t => t.getAt Hid.BUS_ERR (s.reach w m) (whoIx w) = 1 ∧ OnlyCells
      [(Hid.BUS_ERR, s.reach w m, whoIx w)] s t) ∧
  (∀ (w : Who) (m : Mgr) (s : State), s.reach w m = s.act → s.on Reg.RTC_STATUS.DST 0 = false → Answers (.dstAdd w m) s fun t => t.on Reg.RTC_STATUS.DST_PEND 0 ∧ t.on
      Hid.DST_WANT 0 ∧ t.on Reg.RTC_STATUS.DST 0 = false ∧ t.logged JKind.accepted JStatus.ok noTarget ∧ t.accepted (dstCmd true) ∧ OnlyFieldsLog
      [Reg.RTC_STATUS.DST_PEND, Hid.DST_WANT, Hid.BUS_ERR] s t) ∧
  (∀ (w : Who) (m : Mgr) (s : State), s.reach w m = s.act → s.on Reg.RTC_STATUS.DST 0 → Answers (.dstAdd w m) s fun t => t.on Reg.RTC_CTRL.CMD_REJ 0 ∧ t.logged
      JKind.refused JStatus.refused noTarget ∧ OnlyFieldsLog [Reg.RTC_CTRL.CMD_REJ, Hid.BUS_ERR] s t) ∧
  (∀ (w : Who) (m : Mgr) (s : State), s.reach w m ≠ s.act → Answers (.dstAdd w m) s fun t => t.getAt Hid.BUS_ERR (s.reach w m) (whoIx w) = 1 ∧ OnlyCells [(Hid.BUS_ERR,
      s.reach w m, whoIx w)] s t) ∧
  (∀ (w : Who) (m : Mgr) (s : State), s.reach w m = s.act → s.on Reg.RTC_STATUS.DST 0 → Answers (.dstSub w m) s fun t => t.on Reg.RTC_STATUS.DST_PEND 0 ∧ t.on
      Hid.DST_WANT 0 = false ∧ t.logged JKind.accepted JStatus.ok noTarget ∧ t.accepted (dstCmd false) ∧ OnlyFieldsLog [Reg.RTC_STATUS.DST_PEND, Hid.DST_WANT,
      Hid.BUS_ERR] s t) ∧
  (∀ (w : Who) (m : Mgr) (s : State), s.reach w m = s.act → s.on Reg.RTC_STATUS.DST 0 = false → Answers (.dstSub w m) s fun t => t.on Reg.RTC_CTRL.CMD_REJ 0 ∧ t.logged
      JKind.refused JStatus.refused noTarget ∧ OnlyFieldsLog [Reg.RTC_CTRL.CMD_REJ, Hid.BUS_ERR] s t) ∧
  (∀ (w : Who) (m : Mgr) (s : State), s.reach w m ≠ s.act → Answers (.dstSub w m) s fun t => t.getAt Hid.BUS_ERR (s.reach w m) (whoIx w) = 1 ∧ OnlyCells [(Hid.BUS_ERR,
      s.reach w m, whoIx w)] s t) ∧
  (∀ (lost : Bool) (s : State), lost = true → s.on Hid.MEWS_NEW 0 → Answers (.bkupLow lost) s fun t => t.get Reg.RTC_SEC.CAL_SEC 0 = 0 ∧ t.on Reg.RTC_STATUS.CAL_VALID 0 =
      false ∧ t.on Reg.RTC_STATUS.BKUP_LOW 0 ∧ t.on Hid.MEWS_NEW 0 = false ∧ OnlyCells [(Hid.MEWS_NEW, 0, 0), (Reg.RTC_SEC.CAL_SEC, 0, 0), (Reg.RTC_STATUS.CAL_VALID, 0,
      0), (Reg.RTC_STATUS.BKUP_LOW, 0, 0)] s t) ∧
  (∀ (lost : Bool) (s : State), lost = false → (decide (s.on Hid.POWERED 0 = true ∨ s.on Hid.POWERED 1 = true)) → Answers (.bkupLow lost) s fun t => t.on
      Reg.RTC_STATUS.BKUP_LOW 0 ∧ OnlyCells [(Reg.RTC_STATUS.BKUP_LOW, 0, 0)] s t) ∧
  (∀ (lost : Bool) (s : State), (decide ((lost = true ∧ s.on Hid.MEWS_NEW 0 = false) ∨ (lost = false ∧ s.on Hid.POWERED 0 = false ∧ s.on Hid.POWERED 1 = false))) →
      Answers (.bkupLow lost) s fun t => t = s) ∧
  (∀ (input : Fin 2) (samples : BitVec 3) (s : State), s.on (if input = 0 then Reg.TAMP_CFG.TEN0 else Reg.TAMP_CFG.TEN1) 0 → s.tampered input samples → s.on
      Reg.TAMP_CFG.TACT 0 = false → Answers (.tamper input samples) s fun t => t.get Reg.TAMP_TIME.TAMP_TIME 0 = (if s.on Reg.RTC_STATUS.TAMP_EVT 0 then s.get
      Reg.TAMP_TIME.TAMP_TIME 0 else s.get Reg.RTC_SEC.CAL_SEC 0 % 2 ^ 32) ∧ t.on Reg.RTC_STATUS.TAMP_EVT 0 ∧ (s.dev = Dev.park → t.bit Hid.WAKE_PEND 0 Wk.rtc) ∧
      OnlyFields [Reg.TAMP_TIME.TAMP_TIME, Reg.RTC_STATUS.TAMP_EVT, Hid.WAKE_PEND] s t) ∧
  (∀ (input : Fin 2) (samples : BitVec 3) (s : State), s.on (if input = 0 then Reg.TAMP_CFG.TEN0 else Reg.TAMP_CFG.TEN1) 0 → s.tampered input samples → s.on
      Reg.TAMP_CFG.TACT 0 → Answers (.tamper input samples) s fun t => (MemOnly (fun a => !(s.on Hid.POWERED 0 && decide (mgrMem 0 0x100F0000 ≤ a) && decide (a < mgrMem 0
      0x10100000)) && !(s.on Hid.POWERED 1 && decide (mgrMem 1 0x100F0000 ≤ a) && decide (a < mgrMem 1 0x10100000))) s t) ∧ t.on Reg.RTC_STATUS.TAMP_EVT 0 ∧ (∀ c : Fin
      256, t.getAt Hid.SEC_SHA 0 c = 0)) ∧
  (∀ (input : Fin 2) (samples : BitVec 3) (s : State), (decide (s.on (if input = 0 then Reg.TAMP_CFG.TEN0 else Reg.TAMP_CFG.TEN1) 0 = false ∨ s.tampered input samples =
      false)) → Answers (.tamper input samples) s fun t => t = s) ∧
  (∀ (w : Who) (m : Mgr) (s : State), (coreOf w).isSome → s.reach w m ≠ s.act → Answers (.wdtBadKey w m) s fun t => t.getAt Hid.BUS_ERR (s.reach w m) (whoIx w) = 1 ∧
      OnlyCells [(Hid.BUS_ERR, s.reach w m, whoIx w)] s t) ∧
  (∀ (w : Who) (m : Mgr) (s : State), (coreOf w).isSome → s.reach w m ≠ s.act → Answers (.keyA w m) s fun t => t.getAt Hid.BUS_ERR (s.reach w m) (whoIx w) = 1 ∧ OnlyCells
      [(Hid.BUS_ERR, s.reach w m, whoIx w)] s t) ∧
  (∀ (w : Who) (m : Mgr) (s : State), (coreOf w).isSome → s.reach w m ≠ s.act → Answers (.keyB w m) s fun t => t.getAt Hid.BUS_ERR (s.reach w m) (whoIx w) = 1 ∧ OnlyCells
      [(Hid.BUS_ERR, s.reach w m, whoIx w)] s t)

/-- The watchdog accepts keys from the safety core and MC_0 to MC_2; a key written through the host window or the service port changes nothing, is no violation, and sets SRC_REJ. (The mark of the last access's bus error is the port's, not the watchdog's.) -/
def Obligations.WatchdogForeignKeys : Prop :=
  (∀ (w : Who) (m : Mgr) (s : State), (w = .host ∨ w = .svc) → Answers (.keyA w m) s fun t => t.get Reg.WDT_STATUS.SRC_REJ 0 = 1 ∧ OnlyCells [(Reg.WDT_STATUS.SRC_REJ, 0,
      0), (Hid.BUS_ERR, s.reach w m, whoIx w)] s t) ∧
  (∀ (w : Who) (m : Mgr) (s : State), (w = .host ∨ w = .svc) → Answers (.keyB w m) s fun t => t.get Reg.WDT_STATUS.SRC_REJ 0 = 1 ∧ OnlyCells [(Reg.WDT_STATUS.SRC_REJ, 0,
      0), (Hid.BUS_ERR, s.reach w m, whoIx w)] s t) ∧
  (∀ (w : Who) (m : Mgr) (s : State), (w = .host ∨ w = .svc) → Answers (.wdtBadKey w m) s fun t => t.get Reg.WDT_STATUS.SRC_REJ 0 = 1 ∧ OnlyCells
      [(Reg.WDT_STATUS.SRC_REJ, 0, 0), (Hid.BUS_ERR, s.reach w m, whoIx w)] s t) ∧
  (∀ (w : Who) (m : Mgr) (s : State), (w = .sc ∨ w = .mc0 ∨ w = .mc1 ∨ w = .mc2) → s.reach w m = s.act → s.on Reg.WDT_STATUS.ARMED 0 = false → s.on Reg.WDT_STATUS.HALF 0
      = false → Answers (.keyA w m) s fun t => t.on Reg.WDT_STATUS.HALF 0 ∧ t.get Reg.WDT_STATUS.SRC_REJ 0 = s.get Reg.WDT_STATUS.SRC_REJ 0) ∧
  (∀ (w : Who) (m : Mgr) (s : State), (w = .sc ∨ w = .mc0 ∨ w = .mc1 ∨ w = .mc2) → s.reach w m = s.act → s.on Reg.WDT_STATUS.ARMED 0 = false → s.on Reg.WDT_STATUS.HALF 0
      → Answers (.keyB w m) s fun t => t.on Reg.WDT_STATUS.ARMED 0 ∧ t.get Reg.WDT_STATUS.SRC_REJ 0 = s.get Reg.WDT_STATUS.SRC_REJ 0)

/-- Where the ports serve, each read command answers the bytes that its rule gives for the selected page, followed by the PEC over both addresses, the command and the data, is acknowledged, and changes nothing else: PAGE, OPERATION, ON_OFF_CONFIG, WRITE_PROTECT, CAPABILITY, VOUT_MODE, the identifiers, the status words and bytes of a rail or of the device, and the telemetry in its format. Readings and choices of the model that it rests on: log entries 32, 34, 76. -/
def Obligations.PmbusReads : Prop :=
  (∀ (rd : Bool) (bytes : List Byte) (s : State), s.hostOpen → rd = true → Answers (.page rd bytes) s fun t => t.hbReply = s.readReply 0x00 (leBytes 1 s.page) ∧ t.on
      Hid.HB_ACK 0 ∧ OnlyCells [(Hid.HB_ACK, 0, 0)] { s with hbReply := t.hbReply } t) ∧
  (∀ (rd : Bool) (bytes : List Byte) (s : State), s.hostOpen → s.dev ≠ Dev.load → rd = true → s.page < 48 → Answers (.operation rd bytes) s fun t => t.hbReply =
      s.readReply 0x01 (leBytes 1 (if s.rs s.page = Rs.off then 0 else 0x80)) ∧ t.on Hid.HB_ACK 0 ∧ OnlyCells [(Hid.HB_ACK, 0, 0)] { s with hbReply := t.hbReply } t) ∧
  (∀ (s : State), s.hostOpen → s.dev ≠ Dev.load → s.page < 48 → Answers (.onOffConfig) s fun t => t.hbReply = s.readReply 0x02 ([0x18#8]) ∧ t.on Hid.HB_ACK 0 ∧ OnlyCells
      [(Hid.HB_ACK, 0, 0)] { s with hbReply := t.hbReply } t) ∧
  (∀ (rd : Bool) (bytes : List Byte) (s : State), s.hostOpen → s.dev ≠ Dev.load → rd = true → Answers (.writeProtect rd bytes) s fun t => t.hbReply = s.readReply 0x10
      (leBytes 1 (s.get Reg.HB_CFG.WP 0)) ∧ t.on Hid.HB_ACK 0 ∧ OnlyCells [(Hid.HB_ACK, 0, 0)] { s with hbReply := t.hbReply } t) ∧
  (∀ (s : State), s.hostOpen → s.dev ≠ Dev.load → Answers (.capability) s fun t => t.hbReply = s.readReply 0x19 ([0xD0#8]) ∧ t.on Hid.HB_ACK 0 ∧ OnlyCells [(Hid.HB_ACK,
      0, 0)] { s with hbReply := t.hbReply } t) ∧
  (∀ (s : State), s.hostOpen → s.dev ≠ Dev.load → s.page < 48 → Answers (.voutMode) s fun t => t.hbReply = s.readReply 0x20 ([if s.on Reg.RAIL_SETPT.DIVIDER (s.homeIx
      s.page) then 0x15#8 else 0x14#8]) ∧ t.on Hid.HB_ACK 0 ∧ OnlyCells [(Hid.HB_ACK, 0, 0)] { s with hbReply := t.hbReply } t) ∧
  (∀ (rd : Bool) (bytes : List Byte) (s : State), s.hostOpen → s.dev ≠ Dev.load → rd = true → s.page < 48 → (((s.get Reg.RAIL_SETPT.VSET_TGT (s.homeIx s.page) : Nat) *
      (s.voltCode s.page : Int)) / 4000 < 65535 ∨ (((s.get Reg.RAIL_SETPT.VSET_TGT (s.homeIx s.page) : Nat) * (s.voltCode s.page : Int)) / 4000 < 65536 ∧ ((s.get
      Reg.RAIL_SETPT.VSET_TGT (s.homeIx s.page) : Nat) * (s.voltCode s.page : Int)) % 4000 = 0)) → Answers (.voutCommand rd bytes) s fun t => t.hbReply = s.readReply 0x21
      (leBytes 2 (readCode ((s.get Reg.RAIL_SETPT.VSET_TGT (s.homeIx s.page) : Nat) * (s.voltCode s.page : Int)) 4000).toNat) ∧ t.on Hid.HB_ACK 0 ∧ OnlyCells
      [(Hid.HB_ACK, 0, 0)] { s with hbReply := t.hbReply } t) ∧
  (∀ (s : State), s.hostOpen → s.dev ≠ Dev.load → s.page < 48 → (((s.vsetMax s.page : Nat) * (s.voltCode s.page : Int)) / 4000 < 65535 ∨ (((s.vsetMax s.page : Nat) *
      (s.voltCode s.page : Int)) / 4000 < 65536 ∧ ((s.vsetMax s.page : Nat) * (s.voltCode s.page : Int)) % 4000 = 0)) → Answers (.voutMax) s fun t => t.hbReply =
      s.readReply 0x24 (leBytes 2 (readCode ((s.vsetMax s.page : Nat) * (s.voltCode s.page : Int)) 4000).toNat) ∧ t.on Hid.HB_ACK 0 ∧ OnlyCells [(Hid.HB_ACK, 0, 0)]
      { s with hbReply := t.hbReply } t) ∧
  (∀ (rd : Bool) (bytes : List Byte) (s : State), s.hostOpen → s.dev ≠ Dev.load → rd = true → s.page < 48 → (((s.get Reg.RAIL_OV.OV_LIM (s.homeIx s.page) : Nat) *
      (s.voltCode s.page : Int)) / 4000 < 65535 ∨ (((s.get Reg.RAIL_OV.OV_LIM (s.homeIx s.page) : Nat) * (s.voltCode s.page : Int)) / 4000 < 65536 ∧ ((s.get
      Reg.RAIL_OV.OV_LIM (s.homeIx s.page) : Nat) * (s.voltCode s.page : Int)) % 4000 = 0)) → Answers (.voutOvFaultLimit rd bytes) s fun t => t.hbReply = s.readReply 0x40
      (leBytes 2 (readCode ((s.get Reg.RAIL_OV.OV_LIM (s.homeIx s.page) : Nat) * (s.voltCode s.page : Int)) 4000).toNat) ∧ t.on Hid.HB_ACK 0 ∧ OnlyCells [(Hid.HB_ACK, 0,
      0)] { s with hbReply := t.hbReply } t) ∧
  (∀ (rd : Bool) (bytes : List Byte) (s : State), s.hostOpen → s.dev ≠ Dev.load → rd = true → s.page < 48 → Answers (.ioutOcFaultLimit rd bytes) s fun t => t.hbReply =
      s.readReply 0x46 (leBytes 2 (linear11 (s.get Reg.RAIL_OC.OCL (s.homeIx s.page)) 2)) ∧ t.on Hid.HB_ACK 0 ∧ OnlyCells [(Hid.HB_ACK, 0, 0)]
      { s with hbReply := t.hbReply } t) ∧
  (∀ (s : State), s.hostOpen → s.dev ≠ Dev.load → s.page < 48 → Answers (.statusByte) s fun t => t.hbReply = s.readReply 0x78 (leBytes 1 (s.railStatus s.page % 256)) ∧
      t.on Hid.HB_ACK 0 ∧ OnlyCells [(Hid.HB_ACK, 0, 0)] { s with hbReply := t.hbReply } t) ∧
  (∀ (s : State), s.hostOpen → s.page = devPage → Answers (.statusByte) s fun t => t.hbReply = s.readReply 0x78 (leBytes 1 (s.deviceStatus % 256)) ∧ t.on Hid.HB_ACK 0 ∧
      OnlyCells [(Hid.HB_ACK, 0, 0)] { s with hbReply := t.hbReply } t) ∧
  (∀ (s : State), s.hostOpen → s.dev ≠ Dev.load → s.page < 48 → Answers (.statusWord) s fun t => t.hbReply = s.readReply 0x79 (leBytes 2 (s.railStatus s.page)) ∧ t.on
      Hid.HB_ACK 0 ∧ OnlyCells [(Hid.HB_ACK, 0, 0)] { s with hbReply := t.hbReply } t) ∧
  (∀ (s : State), s.hostOpen → s.page = devPage → Answers (.statusWord) s fun t => t.hbReply = s.readReply 0x79 (leBytes 2 s.deviceStatus) ∧ t.on Hid.HB_ACK 0 ∧ OnlyCells
      [(Hid.HB_ACK, 0, 0)] { s with hbReply := t.hbReply } t) ∧
  (∀ (s : State), s.hostOpen → s.dev ≠ Dev.load → s.page < 48 → Answers (.statusVout) s fun t => t.hbReply = s.readReply 0x7A (leBytes 1 ((s.railBit
      Reg.RAIL_PROT_STATUS.OV_EVT s.page).toNat * 128 + (s.railBit Reg.RAIL_PROT_STATUS.UV_EVT s.page).toNat * 16)) ∧ t.on Hid.HB_ACK 0 ∧ OnlyCells [(Hid.HB_ACK, 0, 0)]
      { s with hbReply := t.hbReply } t) ∧
  (∀ (s : State), s.hostOpen → s.dev ≠ Dev.load → s.page < 48 → Answers (.statusIout) s fun t => (t.hbReply = s.readReply 0x7B (leBytes 1 ((s.railBit
      Reg.RAIL_PROT_STATUS.OC_EVT s.page).toNat * 128 + ((s.phasesOf s.page).any fun p => s.on Reg.PH_PROT_STATUS.LIMITED p).toNat * 32))) ∧ t.on Hid.HB_ACK 0 ∧ OnlyCells
      [(Hid.HB_ACK, 0, 0)] { s with hbReply := t.hbReply } t) ∧
  (∀ (s : State), s.hostOpen → s.dev ≠ Dev.load → s.page ≤ devPage → Answers (.statusCml) s fun t => t.hbReply = s.readReply 0x7E (leBytes 1 (s.get Reg.HB_STATUS.CML 0))
      ∧ t.on Hid.HB_ACK 0 ∧ OnlyCells [(Hid.HB_ACK, 0, 0)] { s with hbReply := t.hbReply } t) ∧
  (∀ (s : State), s.hostOpen → s.dev ≠ Dev.load → s.page < 48 → s.get Reg.RAIL_ENG_CFG.LEAD_PH (s.homeIx s.page) < 24 → Answers (.readVin) s fun t => t.hbReply =
      s.readReply 0x88 (leBytes 2 (linear11 (s.getAt Reg.HK_VING.V s.act (s.get Reg.PH_CFG.VING (s.home s.page * 24 + s.get Reg.RAIL_ENG_CFG.LEAD_PH (s.homeIx s.page))))
      4000)) ∧ t.on Hid.HB_ACK 0 ∧ OnlyCells [(Hid.HB_ACK, 0, 0)] { s with hbReply := t.hbReply } t) ∧
  (∀ (s : State), s.hostOpen → s.dev ≠ Dev.load → s.page = devPage → Answers (.readVin) s fun t => t.hbReply = s.readReply 0x88 (leBytes 2 (linear11 (s.get
      Reg.IN_MEAS.VAUX 0) 1000)) ∧ t.on Hid.HB_ACK 0 ∧ OnlyCells [(Hid.HB_ACK, 0, 0)] { s with hbReply := t.hbReply } t) ∧
  (∀ (s : State), s.hostOpen → s.dev ≠ Dev.load → s.page < 48 → 24 ≤ s.get Reg.RAIL_ENG_CFG.LEAD_PH (s.homeIx s.page) → Answers (.readVin) s fun t => t.hbReply =
      s.readReply 0x88 (leBytes 2 (Config.freeValue s.freeCtr % 65536)) ∧ t.on Hid.HB_ACK 0) ∧
  (∀ (s : State), s.hostOpen → s.dev ≠ Dev.load → s.page = devPage → Answers (.readIin) s fun t => t.hbReply = s.readReply 0x89 (leBytes 2 (linear11 (s.getI
      Reg.IN_MEAS.IIN 0) 16)) ∧ t.on Hid.HB_ACK 0 ∧ OnlyCells [(Hid.HB_ACK, 0, 0)] { s with hbReply := t.hbReply } t) ∧
  (∀ (s : State), s.hostOpen → s.dev ≠ Dev.load → s.page < 48 → (((s.get Reg.RAIL_TLM_V.V_AVG (s.tlmIx s.page) : Nat) * (s.voltCode s.page : Int)) / 4000 < 65535 ∨
      (((s.get Reg.RAIL_TLM_V.V_AVG (s.tlmIx s.page) : Nat) * (s.voltCode s.page : Int)) / 4000 < 65536 ∧ ((s.get Reg.RAIL_TLM_V.V_AVG (s.tlmIx s.page) : Nat) *
      (s.voltCode s.page : Int)) % 4000 = 0)) → Answers (.readVout) s fun t => t.hbReply = s.readReply 0x8B (leBytes 2 (readCode ((s.get Reg.RAIL_TLM_V.V_AVG (s.tlmIx
      s.page) : Nat) * (s.voltCode s.page : Int)) 4000).toNat) ∧ t.on Hid.HB_ACK 0 ∧ OnlyCells [(Hid.HB_ACK, 0, 0)] { s with hbReply := t.hbReply } t) ∧
  (∀ (s : State), s.hostOpen → s.dev ≠ Dev.load → s.page = devPage → readCode ((s.get Reg.VBB_STATUS.VBB 0 : Int) * 4096) 1000 < 65536 → Answers (.readVout) s fun t =>
      t.hbReply = s.readReply 0x8B (leBytes 2 (readCode ((s.get Reg.VBB_STATUS.VBB 0 : Int) * 4096) 1000).toNat) ∧ t.on Hid.HB_ACK 0 ∧ OnlyCells [(Hid.HB_ACK, 0, 0)]
      { s with hbReply := t.hbReply } t) ∧
  (∀ (s : State), s.hostOpen → s.dev ≠ Dev.load → s.page < 48 → Answers (.readIout) s fun t => t.hbReply = s.readReply 0x8C (leBytes 2 (linear11 (s.getI
      Reg.RAIL_TLM_V.I_AVG (s.tlmIx s.page)) 16)) ∧ t.on Hid.HB_ACK 0 ∧ OnlyCells [(Hid.HB_ACK, 0, 0)] { s with hbReply := t.hbReply } t) ∧
  (∀ (s : State), s.hostOpen → s.dev ≠ Dev.load → s.page = devPage → Answers (.readIout) s fun t => t.hbReply = s.readReply 0x8C (leBytes 2 (linear11 (s.getI
      Reg.BAT_MEAS.IBAT 0) 16)) ∧ t.on Hid.HB_ACK 0 ∧ OnlyCells [(Hid.HB_ACK, 0, 0)] { s with hbReply := t.hbReply } t) ∧
  (∀ (s : State), s.hostOpen → s.dev ≠ Dev.load → s.page = devPage → Answers (.readTemperature1) s fun t => t.hbReply = s.readReply 0x8D (leBytes 2 (linear11 ((hottest
      s.dieHeats).getD 0) 16)) ∧ t.on Hid.HB_ACK 0 ∧ OnlyCells [(Hid.HB_ACK, 0, 0)] { s with hbReply := t.hbReply } t) ∧
  (∀ (s : State), s.hostOpen → s.dev ≠ Dev.load → s.page < 48 → s.phasesOf s.page ≠ [] → Answers (.readTemperature1) s fun t => (some t.hbReply = (hottest ((s.phasesOf
      s.page).map fun p => s.stageHeat (tileOf p) (stageBit p))).map (fun x => s.readReply 0x8D (leBytes 2 (linear11 x 16)))) ∧ t.on Hid.HB_ACK 0 ∧ OnlyCells
      [(Hid.HB_ACK, 0, 0)] { s with hbReply := t.hbReply } t) ∧
  (∀ (s : State), s.hostOpen → s.dev ≠ Dev.load → s.page < 48 → s.phasesOf s.page = [] → Answers (.readTemperature1) s fun t => t.hbReply = s.readReply 0x8D (leBytes 2
      (Config.freeValue s.freeCtr % 65536)) ∧ t.on Hid.HB_ACK 0) ∧
  (∀ (s : State), s.hostOpen → s.dev ≠ Dev.load → s.page = devPage → Answers (.readTemperature2) s fun t => t.hbReply = s.readReply 0x8E (leBytes 2 (linear11 (s.getI
      Reg.CHG_STATUS.BTEMP 0) 16)) ∧ t.on Hid.HB_ACK 0 ∧ OnlyCells [(Hid.HB_ACK, 0, 0)] { s with hbReply := t.hbReply } t) ∧
  (∀ (s : State), s.hostOpen → s.dev ≠ Dev.load → s.page < 48 → Answers (.readPout) s fun t => t.hbReply = s.readReply 0x96 (leBytes 2 (linear11 (s.getI
      Reg.RAIL_TLM_P.P_AVG (s.tlmIx s.page)) 1000)) ∧ t.on Hid.HB_ACK 0 ∧ OnlyCells [(Hid.HB_ACK, 0, 0)] { s with hbReply := t.hbReply } t) ∧
  (∀ (s : State), s.hostOpen → s.dev ≠ Dev.load → s.page = devPage → Answers (.readPin) s fun t => t.hbReply = s.readReply 0x97 (leBytes 2 (linear11 ((s.get
      Reg.IN_MEAS.VAUX 0 : Int) * s.getI Reg.IN_MEAS.IIN 0) 16000)) ∧ t.on Hid.HB_ACK 0 ∧ OnlyCells [(Hid.HB_ACK, 0, 0)] { s with hbReply := t.hbReply } t) ∧
  (∀ (s : State), s.hostOpen → Answers (.pmbusRevision) s fun t => t.hbReply = s.readReply 0x98 ([0x44#8]) ∧ t.on Hid.HB_ACK 0 ∧ OnlyCells [(Hid.HB_ACK, 0, 0)]
      { s with hbReply := t.hbReply } t) ∧
  (∀ (s : State), s.hostOpen → Answers (.mfrId) s fun t => t.hbReply = s.readReply 0x99 ([7, 0x44, 0x45, 0x48, 0x41, 0x50, 0x49, 0x4E]) ∧ t.on Hid.HB_ACK 0 ∧ OnlyCells
      [(Hid.HB_ACK, 0, 0)] { s with hbReply := t.hbReply } t) ∧
  (∀ (s : State), s.hostOpen → Answers (.mfrModel) s fun t => t.hbReply = s.readReply 0x9A ([6, 0x59, 0x4D, 0x34, 0x38, 0x39, 0x36]) ∧ t.on Hid.HB_ACK 0 ∧ OnlyCells
      [(Hid.HB_ACK, 0, 0)] { s with hbReply := t.hbReply } t) ∧
  (∀ (s : State), s.hostOpen → Answers (.mfrRevision) s fun t => t.hbReply = s.readReply 0x9B (2 :: leBytes 2 Config.siliconRevision.toNat) ∧ t.on Hid.HB_ACK 0 ∧
      OnlyCells [(Hid.HB_ACK, 0, 0)] { s with hbReply := t.hbReply } t) ∧
  (∀ (s : State), s.hostOpen → Answers (.mfrSerial) s fun t => t.hbReply = s.readReply 0x9E (8 :: leBytes 8 (s.get Hid.SN_DEVICE s.act)) ∧ t.on Hid.HB_ACK 0 ∧ OnlyCells
      [(Hid.HB_ACK, 0, 0)] { s with hbReply := t.hbReply } t)

/-- The window address, read length and tag are written and read back; words of the scratchpad that the permission table opens are read and written through the window, whose address advances; a range that is not open is DENIED; device state, journal head, an entry by its SEQ and the oldest host-queue entry are read as blocks; the acknowledged SEQ is taken; a quick command is acknowledged; an alert response gives the address while ALERT_N is low; an unsupported command, a bus timeout and a stretch limit set their bits; in PARK the address wakes the device. A write is taken with or without its PEC where the message parses. A reading of the model that it rests on: log entry 76. -/
def Obligations.ManufacturerCommands : Prop :=
  (∀ (rd : Bool) (bytes : List Byte) (s : State), s.hostOpen → rd = true → Answers (.mfrWinAddr rd bytes) s fun t => t.hbReply = s.readReply 0xD0 (4 :: leBytes 4 (s.get
      Reg.HB_WIN.WIN_ADDR 0)) ∧ t.on Hid.HB_ACK 0 ∧ OnlyCells [(Hid.HB_ACK, 0, 0)] { s with hbReply := t.hbReply } t) ∧
  (∀ (rd : Bool) (bytes : List Byte) (s : State), s.hostOpen → rd = false → s.hbParse 0xD0 none false bytes = JStatus.ok → (writeData none bytes).length = 4 → (firstWord
      (writeData none bytes)) % 4 = 0 → Answers (.mfrWinAddr rd bytes) s fun t => t.get Reg.HB_WIN.WIN_ADDR 0 = firstWord (writeData none bytes) ∧ t.on Hid.HB_ACK 0 ∧
      t.entered JKind.done JStatus.ok (4) (0xFFD0) (firstWord (writeData none bytes)) ∧ t.get Reg.HB_COUNTS.CMD_COUNT 0 = s.bumped Reg.HB_COUNTS.CMD_COUNT 0 ∧
      OnlyFieldsLog [Hid.HB_ACK, Reg.HB_COUNTS.CMD_COUNT, Reg.HB_WIN.WIN_ADDR] { s with hbReply := [] } t) ∧
  (∀ (rd : Bool) (bytes : List Byte) (s : State), s.hostOpen → rd = true → ((winWords (s.get Reg.HB_WIN.WIN_ADDR 0) (s.get Reg.HB_PORT.RLEN 0 / 4)).all fun x =>
      s.winAllowed false true x && decide (memOf x = 0 ∧ memOf (x + 3) = 0 ∧ inSecure (x + 3) = false)) → Answers (.mfrWinData rd bytes) s fun t => (t.hbReply =
      s.readReply 0xD1 (leBytes 1 (4 * (s.get Reg.HB_PORT.RLEN 0 / 4)) ++ (winWords (s.get Reg.HB_WIN.WIN_ADDR 0) (s.get Reg.HB_PORT.RLEN 0 / 4)).flatMap fun x =>
      wordBytes (s.rd32 (mgrMem s.act x)))) ∧ t.get Reg.HB_WIN.WIN_ADDR 0 = ((s.get Reg.HB_WIN.WIN_ADDR 0) + s.get Reg.HB_PORT.RLEN 0) % 2 ^ 32 ∧ t.get Hid.WIN_STATUS 0 =
      JStatus.ok ∧ OnlyFields [Hid.HB_ACK, Hid.BUS_ERR, Hid.READ_DATA, Reg.HB_WIN.WIN_ADDR, Hid.WIN_STATUS] { s with hbReply := t.hbReply } t) ∧
  (∀ (rd : Bool) (bytes : List Byte) (s : State), s.hostOpen → rd = false → s.hbParse 0xD1 none false bytes = JStatus.ok → 4 ≤ (writeData none bytes).length → (writeData
      none bytes).length ≤ 252 → (writeData none bytes).length % 4 = 0 → s.get Reg.HB_WIN.WIN_ADDR 0 < 2 ^ 32 → ((winWords (s.get Reg.HB_WIN.WIN_ADDR 0) ((writeData none
      bytes).length / 4)).all fun x => s.winAllowed false false x && decide (memOf x = 0 ∧ memOf (x + 3) = 0 ∧ inSecure (x + 3) = false)) → Memory.wf s.mem = true →
      Answers (.mfrWinData rd bytes) s fun t => t.rdBytes (mgrMem s.act (s.get Reg.HB_WIN.WIN_ADDR 0)) (writeData none bytes).length = (writeData none bytes) ∧
      BytesOutside (mgrMem s.act (s.get Reg.HB_WIN.WIN_ADDR 0)) (writeData none bytes).length s t ∧ t.get Reg.HB_WIN.WIN_ADDR 0 = ((s.get Reg.HB_WIN.WIN_ADDR 0) +
      (writeData none bytes).length) % 2 ^ 32 ∧ t.get Hid.WIN_STATUS 0 = JStatus.ok ∧ t.entered JKind.done JStatus.ok (writeData none bytes).length 0xFFD1 (s.get
      Reg.HB_WIN.WIN_ADDR 0) ∧ t.get Reg.HB_COUNTS.CMD_COUNT 0 = s.bumped Reg.HB_COUNTS.CMD_COUNT 0) ∧
  (∀ (rd : Bool) (bytes : List Byte) (s : State), s.hostOpen → rd = true → ((winWords (s.get Reg.HB_WIN.WIN_ADDR 0) (s.get Reg.HB_PORT.RLEN 0 / 4)).any fun x =>
      s.winAllowed false true x = false) → Answers (.mfrWinData rd bytes) s fun t => t.hbReply = s.readReply 0xD1 [0] ∧ t.get Hid.WIN_STATUS 0 = JStatus.denied ∧ t.get
      Reg.HB_STATUS.DENIED 0 = 1 ∧ OnlyFields [Hid.HB_ACK, Reg.HB_STATUS.DENIED, Reg.HB_COUNTS.ERR_COUNT, Hid.WIN_STATUS] { s with hbReply := t.hbReply } t) ∧
  (∀ (rd : Bool) (bytes : List Byte) (s : State), s.hostOpen → rd = true → Answers (.mfrWinRlen rd bytes) s fun t => t.hbReply = s.readReply 0xD2 (leBytes 1 (s.get
      Reg.HB_PORT.RLEN 0)) ∧ t.on Hid.HB_ACK 0 ∧ OnlyCells [(Hid.HB_ACK, 0, 0)] { s with hbReply := t.hbReply } t) ∧
  (∀ (rd : Bool) (bytes : List Byte) (s : State), s.hostOpen → rd = false → s.hbParse 0xD2 (some 1) false bytes = JStatus.ok → s.rlenOk (firstWord (writeData (some 1)
      bytes)) → Answers (.mfrWinRlen rd bytes) s fun t => t.get Reg.HB_PORT.RLEN 0 = firstWord (writeData (some 1) bytes) ∧ t.on Hid.HB_ACK 0 ∧ t.entered JKind.done
      JStatus.ok (noTarget) (0xFFD2) (firstWord (writeData (some 1) bytes)) ∧ t.get Reg.HB_COUNTS.CMD_COUNT 0 = s.bumped Reg.HB_COUNTS.CMD_COUNT 0 ∧ OnlyFieldsLog
      [Hid.HB_ACK, Reg.HB_COUNTS.CMD_COUNT, Reg.HB_PORT.RLEN] { s with hbReply := [] } t) ∧
  (∀ (s : State), s.hostOpen → Answers (.mfrWinStatus) s fun t => t.hbReply = s.readReply 0xD3 (leBytes 1 (s.get Hid.WIN_STATUS 0)) ∧ t.on Hid.HB_ACK 0 ∧ OnlyCells
      [(Hid.HB_ACK, 0, 0)] { s with hbReply := t.hbReply } t) ∧
  (∀ (s : State), s.hostOpen → Answers (.mfrDevState) s fun t => t.hbReply = s.readReply 0xD4 (4 :: leBytes 4 (s.wordOf Reg.DEV_STATE.STATE 0 0)) ∧ t.on Hid.HB_ACK 0 ∧
      OnlyCells [(Hid.HB_ACK, 0, 0)] { s with hbReply := t.hbReply } t) ∧
  (∀ (s : State), s.hostOpen → Answers (.mfrJrnlHead) s fun t => t.hbReply = s.readReply 0xD5 (8 :: (leBytes 4 (s.get Reg.JRNL_NEXT.NEXT_SEQ 0) ++ leBytes 4 (s.get
      Reg.JRNL_OLDEST.OLDEST_SEQ 0))) ∧ t.on Hid.HB_ACK 0 ∧ OnlyCells [(Hid.HB_ACK, 0, 0)] { s with hbReply := t.hbReply } t) ∧
  (∀ (bytes : List Byte) (s : State), s.hostOpen → s.hbParse 0xD6 none true bytes = JStatus.ok → (writeData none bytes).length = 4 → Answers (.mfrJrnlRead bytes) s fun t
      => (t.hbReply = s.readReply 0xD6 (leBytes 1 ((s.entryAt (leNat (writeData none bytes))).elim 0 fun _ => 32) ++ (s.entryAt (leNat (writeData none bytes))).elim []
      JEntry.bytes)) ∧ t.on Hid.HB_ACK 0 ∧ OnlyCells [(Hid.HB_ACK, 0, 0)] { s with hbReply := t.hbReply } t) ∧
  (∀ (bytes : List Byte) (s : State), s.hostOpen → s.hbParse 0xD7 none false bytes = JStatus.ok → (writeData none bytes).length = 4 → s.ackBad (leNat (writeData none
      bytes)) = false → Answers (.mfrJrnlAck bytes) s fun t => t.get Reg.JRNL_ACK.ACK_SEQ 0 = leNat (writeData none bytes) ∧ t.on Hid.HB_ACK 0 ∧ t.entered JKind.done
      JStatus.ok (4) (0xFFD7) (firstWord (writeData none bytes)) ∧ t.get Reg.HB_COUNTS.CMD_COUNT 0 = s.bumped Reg.HB_COUNTS.CMD_COUNT 0 ∧ OnlyFieldsLog [Hid.HB_ACK,
      Reg.HB_COUNTS.CMD_COUNT, Reg.JRNL_ACK.ACK_SEQ] { s with hbReply := [] } t) ∧
  (∀ (s : State), s.hostOpen → s.dev ≠ Dev.load → s.evHost ≠ [] → Answers (.mfrHqRead) s fun t => t.evHost = s.evHost.drop 1 ∧ (some t.hbReply = s.evHost.head?.map (fun r
      => s.readReply 0xD8 (32 :: (List.range 8).flatMap fun j => leBytes 4 (r.words.getD j 0 % 2 ^ 32)))) ∧ OnlyFields [Hid.HB_ACK, Hid.EV_HREC, Hid.READ_DATA]
      { s with hbReply := t.hbReply, evHost := t.evHost } t) ∧
  (∀ (s : State), s.hostOpen → s.dev ≠ Dev.load → s.evHost = [] → Answers (.mfrHqRead) s fun t => t.hbReply = s.readReply 0xD8 [0] ∧ t.on Hid.HB_ACK 0 ∧ OnlyCells
      [(Hid.HB_ACK, 0, 0)] { s with hbReply := t.hbReply } t) ∧
  (∀ (rd : Bool) (bytes : List Byte) (s : State), s.hostOpen → s.dev ≠ Dev.load → rd = true → Answers (.mfrTag rd bytes) s fun t => t.hbReply = s.readReply 0xD9 (leBytes
      2 (s.get Reg.HB_PORT.TAG 0)) ∧ t.on Hid.HB_ACK 0 ∧ OnlyCells [(Hid.HB_ACK, 0, 0)] { s with hbReply := t.hbReply } t) ∧
  (∀ (rd : Bool) (bytes : List Byte) (s : State), s.hostOpen → s.dev ≠ Dev.load → rd = false → s.hbParse 0xD9 (some 2) false bytes = JStatus.ok → Answers (.mfrTag rd
      bytes) s fun t => t.get Reg.HB_PORT.TAG 0 = firstWord (writeData (some 2) bytes) ∧ t.entered JKind.done JStatus.ok noTarget 0xFFD9 (firstWord (writeData (some 2)
      bytes)) ∧ t.jrnA.head?.map JEntry.tag = some (s.get Reg.HB_PORT.TAG 0) ∧ OnlyFieldsLog [Hid.HB_ACK, Reg.HB_COUNTS.CMD_COUNT, Reg.HB_PORT.TAG]
      { s with hbReply := [] } t) ∧
  (∀ (s : State), s.hostOpen → Answers (.quickCommand) s fun t => t.on Hid.HB_ACK 0 ∧ OnlyCells [(Hid.HB_ACK, 0, 0)] { s with hbReply := [] } t) ∧
  (∀ (lost : Bool) (s : State), s.hostOpen → s.alertLow → Answers (.alertResponse lost) s fun t => t.hbReply = (if lost then [] else [s.addrByte false]) ∧ t.on Hid.HB_ACK
      0 ∧ OnlyCells [(Hid.HB_ACK, 0, 0)] { s with hbReply := t.hbReply } t) ∧
  (∀ (lost : Bool) (s : State), s.alertLow = false → Answers (.alertResponse lost) s fun t => t.hbReply = [] ∧ t.on Hid.HB_ACK 0 = false ∧ OnlyCells [(Hid.HB_ACK, 0, 0)]
      { s with hbReply := [] } t) ∧
  (∀ (cmd : Byte) (s : State), s.hostOpen → Answers (.unsupportedCommand cmd) s fun t => t.get Reg.HB_STATUS.BAD_CMD 0 = 1 ∧ t.bit Reg.HB_STATUS.CML 0 7 ∧ t.on Hid.HB_ACK
      0 = false ∧ t.get Reg.HB_COUNTS.ERR_COUNT 0 = s.bumped Reg.HB_COUNTS.ERR_COUNT 0 ∧ OnlyFields [Hid.HB_ACK, Reg.HB_STATUS.BAD_CMD, Reg.HB_STATUS.CML,
      Reg.HB_COUNTS.ERR_COUNT] { s with hbReply := [] } t) ∧
  (∀ (s : State), s.hostOpen → s.on Reg.HB_CFG.TOUT_EN 0 → Answers (.sclTimeout) s fun t => t.get Reg.HB_STATUS.SCL_TMO 0 = 1 ∧ t.bit Reg.HB_STATUS.CML 0 1 ∧ t.on
      Hid.HB_ACK 0 = false ∧ OnlyFields [Hid.HB_ACK, Reg.HB_STATUS.SCL_TMO, Reg.HB_STATUS.CML, Reg.HB_COUNTS.ERR_COUNT] { s with hbReply := [] } t) ∧
  (∀ (s : State), s.hostOpen → s.on Reg.HB_CFG.TOUT_EN 0 → Answers (.sdaTimeout) s fun t => t.get Reg.HB_STATUS.SDA_TMO 0 = 1 ∧ t.bit Reg.HB_STATUS.CML 0 1 ∧ t.on
      Hid.HB_ACK 0 = false ∧ OnlyFields [Hid.HB_ACK, Reg.HB_STATUS.SDA_TMO, Reg.HB_STATUS.CML, Reg.HB_COUNTS.ERR_COUNT] { s with hbReply := [] } t) ∧
  (∀ (cmd : Byte) (sent : List Byte) (left : Byte) (s : State), s.hostOpen → Answers (.stretchTimeout cmd sent left) s fun t => t.get Reg.HB_STATUS.STRETCH_TMO 0 = 1 ∧
      t.bit Reg.HB_STATUS.CML 0 1 ∧ t.hbReply = sent ++ List.replicate left.toNat 0xFF#8 ++ [~~~(crc8 (s.addrByte false :: cmd :: s.addrByte true :: (sent ++
      List.replicate left.toNat 0xFF#8)))] ∧ OnlyFields [Reg.HB_STATUS.STRETCH_TMO, Reg.HB_STATUS.CML] { s with hbReply := t.hbReply } t) ∧
  (∀ (resumed : Bool) (s : State), s.dev = Dev.park → s.get Reg.HB_STATUS.ADDR 0 ≠ 0 → Answers (.hbParkWake resumed) s fun t => t.bit Hid.WAKE_PEND 0 Wk.bus ∧ t.on
      Hid.HB_ACK 0 = resumed ∧ OnlyCells [(Hid.WAKE_PEND, 0, 0), (Hid.HB_ACK, 0, 0)] { s with hbReply := [] } t)

/-- PAGE takes a page number and refuses another; OPERATION turns the rail of the page on or off under its own code, answers OK for a rail that is already on, and refuses another value; CLEAR_FAULTS clears the event bits of the rail and STATUS_CML; WRITE_PROTECT takes one of its four values; VOUT_COMMAND stores the set-point of a rail that is off, ramps one that runs to it, and refuses one outside the rules; a limit that its register takes is written; each is journalled with its code and counted; a message with a wrong PEC is refused with BAD_PEC, and a command that WRITE_PROTECT holds back with DENIED. Readings and choices of the model that it rests on: log entries 33, 76. -/
def Obligations.PmbusWrites : Prop :=
  (∀ (rd : Bool) (bytes : List Byte) (s : State), s.hostOpen → s.dev ≠ Dev.load → rd = false → s.hbParse 0x00 (some 1) false bytes = JStatus.ok → s.wpAllows 0x00 → pageOk
      ((writeData (some 1) bytes).headD 0).toNat → Answers (.page rd bytes) s fun t => t.page = ((writeData (some 1) bytes).headD 0).toNat ∧ t.on Hid.HB_ACK 0 ∧ t.entered
      JKind.done JStatus.ok (noTarget) (0xFF00) (firstWord (writeData (some 1) bytes)) ∧ t.get Reg.HB_COUNTS.CMD_COUNT 0 = s.bumped Reg.HB_COUNTS.CMD_COUNT 0 ∧
      OnlyFieldsLog [Hid.HB_ACK, Reg.HB_COUNTS.CMD_COUNT, Reg.HB_PORT.PAGE] { s with hbReply := [] } t) ∧
  (∀ (rd : Bool) (bytes : List Byte) (s : State), s.hostOpen → s.dev ≠ Dev.load → rd = false → s.hbParse 0x00 (some 1) false bytes = JStatus.ok → s.wpAllows 0x00 → pageOk
      ((writeData (some 1) bytes).headD 0).toNat = false → Answers (.page rd bytes) s fun t => t.page = s.page ∧ t.logged JKind.refused JStatus.refused noTarget ∧ t.bit
      Reg.HB_STATUS.CML 0 6 ∧ OnlyFieldsLog [Hid.HB_ACK, Reg.HB_STATUS.CML, Reg.HB_COUNTS.ERR_COUNT] { s with hbReply := [] } t) ∧
  (∀ (rd : Bool) (bytes : List Byte) (s : State), s.hostOpen → s.dev = Dev.run → rd = false → s.hbParse 0x01 (some 1) false bytes = JStatus.ok → (writeData (some 1)
      bytes).headD 0 = 0x80#8 → s.wpAllows 0x01 → s.page < 48 → s.inSeq s.page = false → s.enableAllowed s.page → s.rs s.page = Rs.off → s.kindOf s.page = 2 → s.get
      Reg.JRNL_NEXT.NEXT_SEQ 0 < 2 ^ 32 → Answers (.operation rd bytes) s fun t => t.rs s.page = Rs.ramping ∧ t.enStep s.page = 5 ∧ t.accepted (.railOn s.page) ∧
      t.entered JKind.accepted JStatus.ok s.page (s.page * 256 + 1) 0x80 ∧ t.get Reg.HB_COUNTS.CMD_COUNT 0 = s.bumped Reg.HB_COUNTS.CMD_COUNT 0) ∧
  (∀ (rd : Bool) (bytes : List Byte) (s : State), s.hostOpen → s.dev ≠ Dev.load → rd = false → s.hbParse 0x01 (some 1) false bytes = JStatus.ok → s.wpAllows 0x01 →
      (firstWord (writeData (some 1) bytes)) = 0x80 → s.page < 48 → s.inSeq s.page = false → s.enableAllowed s.page → s.rs s.page = Rs.off → s.kindOf s.page = 1 →
      s.railReady s.page = false → s.get Reg.JRNL_NEXT.NEXT_SEQ 0 < 2 ^ 32 → Answers (.operation rd bytes) s fun t => t.rs s.page = Rs.enabling ∧ t.enStep s.page = 1 ∧
      t.accepted (.railOn s.page) ∧ t.entered JKind.accepted JStatus.ok s.page (s.page * 256 + 1) 0x80 ∧ t.get Reg.HB_COUNTS.CMD_COUNT 0 = s.bumped
      Reg.HB_COUNTS.CMD_COUNT 0) ∧
  (∀ (rd : Bool) (bytes : List Byte) (s : State), s.hostOpen → s.dev ≠ Dev.load → rd = false → s.hbParse 0x01 (some 1) false bytes = JStatus.ok → s.wpAllows 0x01 →
      (firstWord (writeData (some 1) bytes)) = 0x80 → s.page < 48 → s.inSeq s.page = false → s.enableAllowed s.page → (s.rs s.page = Rs.on ∨ s.rs s.page = Rs.ramping) →
      s.get Reg.JRNL_NEXT.NEXT_SEQ 0 < 2 ^ 32 → Answers (.operation rd bytes) s fun t => t.entered JKind.done JStatus.ok s.page (s.page * 256 + 1) 0x80 ∧ t.get
      Reg.HB_COUNTS.CMD_COUNT 0 = s.bumped Reg.HB_COUNTS.CMD_COUNT 0 ∧ OnlyFieldsLog [Hid.HB_ACK, Reg.HB_COUNTS.CMD_COUNT] { s with hbReply := [] }
      { t with cmds := s.cmds }) ∧
  (∀ (rd : Bool) (bytes : List Byte) (s : State), s.hostOpen → s.dev ≠ Dev.load → rd = false → s.hbParse 0x01 (some 1) false bytes = JStatus.ok → s.wpAllows 0x01 →
      ((firstWord (writeData (some 1) bytes)) = 0 ∨ (firstWord (writeData (some 1) bytes)) = 0x40) → s.page < 48 → s.inSeq s.page = false → (s.rs s.page = Rs.on ∨ s.rs
      s.page = Rs.ramping) → s.get Reg.JRNL_NEXT.NEXT_SEQ 0 < 2 ^ 32 → Answers (.operation rd bytes) s fun v => ∃ t : State, v = t.seqPoll ∧ t.rs s.page = Rs.stopLo ∧
      t.accepted (.railOff s.page) ∧ t.get Reg.RAIL_SUP_STATUS.PG (s.leadIx s.page) = 0) ∧
  (∀ (rd : Bool) (bytes : List Byte) (s : State), s.hostOpen → s.dev ≠ Dev.load → rd = false → s.hbParse 0x01 (some 1) false bytes = JStatus.ok → s.wpAllows 0x01 →
      (s.page < 48 ∨ s.page = 255) → (firstWord (writeData (some 1) bytes)) ≠ 0 → (firstWord (writeData (some 1) bytes)) ≠ 0x40 → (firstWord (writeData (some 1) bytes)) ≠
      0x80 → Answers (.operation rd bytes) s fun t => t.logged JKind.refused JStatus.refused s.page ∧ t.bit Reg.HB_STATUS.CML 0 6 ∧ t.get Reg.HB_COUNTS.ERR_COUNT 0 =
      s.bumped Reg.HB_COUNTS.ERR_COUNT 0 ∧ OnlyFieldsLog [Hid.HB_ACK, Reg.HB_STATUS.CML, Reg.HB_COUNTS.ERR_COUNT] { s with hbReply := [] } t) ∧
  (∀ (bytes : List Byte) (s : State), s.hostOpen → s.dev ≠ Dev.load → s.hbParse 0x03 (some 0) false bytes = JStatus.ok → s.wpAllows 0x03 → s.page < 48 → Answers
      (.clearFaults bytes) s fun t => (∀ u ∈ s.tilesOf s.page, ∀ f ∈ faultBits, t.get f (railIx u s.page) = 0) ∧ t.get Reg.HB_STATUS.CML 0 = 0 ∧ t.entered JKind.done
      JStatus.ok s.page (s.page * 256 + 3) 0 ∧ OnlyFieldsLog ([Hid.HB_ACK, Reg.HB_COUNTS.CMD_COUNT, Reg.HB_STATUS.CML] ++ faultBits) { s with hbReply := [] } t) ∧
  (∀ (rd : Bool) (bytes : List Byte) (s : State), s.hostOpen → s.dev ≠ Dev.load → rd = false → s.hbParse 0x10 (some 1) false bytes = JStatus.ok → wpOk (firstWord
      (writeData (some 1) bytes)) → s.on Reg.HB_CFG.LOCK 0 = false → Answers (.writeProtect rd bytes) s fun t => t.get Reg.HB_CFG.WP 0 = firstWord (writeData (some 1)
      bytes) ∧ t.on Hid.HB_ACK 0 ∧ t.entered JKind.done JStatus.ok (noTarget) (0xFF10) (firstWord (writeData (some 1) bytes)) ∧ t.get Reg.HB_COUNTS.CMD_COUNT 0 = s.bumped
      Reg.HB_COUNTS.CMD_COUNT 0 ∧ OnlyFieldsLog [Hid.HB_ACK, Reg.HB_COUNTS.CMD_COUNT, Reg.HB_CFG.WP] { s with hbReply := [] } t) ∧
  (∀ (rd : Bool) (bytes : List Byte) (s : State), s.hostOpen → s.dev ≠ Dev.load → rd = false → s.hbParse 0x21 (some 2) false bytes = JStatus.ok → s.wpAllows 0x21 → s.page
      < 48 → s.setptOk (s.leadIx s.page) (s.voltsIn (if s.on Reg.RAIL_SETPT.DIVIDER (s.homeIx s.page) then 8 else 2) (firstWord (writeData (some 2) bytes))) → s.on
      Hid.SP_DONE (s.leadIx s.page) = false → s.get Hid.SP_MODE (s.leadIx s.page) ≠ SpMode.soft → s.running s.page = false → Answers (.voutCommand rd bytes) s fun t =>
      t.get Reg.RAIL_SETPT.VSET_TGT (s.leadIx s.page) = s.voltsIn (if s.on Reg.RAIL_SETPT.DIVIDER (s.homeIx s.page) then 8 else 2) (firstWord (writeData (some 2) bytes))
      ∧ t.on Hid.HB_ACK 0 ∧ t.entered JKind.done JStatus.ok (s.page) (s.page * 256 + 0x21) (firstWord (writeData (some 2) bytes)) ∧ t.get Reg.HB_COUNTS.CMD_COUNT 0 =
      s.bumped Reg.HB_COUNTS.CMD_COUNT 0 ∧ OnlyFieldsLog [Hid.HB_ACK, Reg.HB_COUNTS.CMD_COUNT, Reg.RAIL_SETPT.VSET_TGT] { s with hbReply := [] } t) ∧
  (∀ (rd : Bool) (bytes : List Byte) (s : State), s.hostOpen → s.dev ≠ Dev.load → rd = false → s.hbParse 0x21 (some 2) false bytes = JStatus.ok → s.wpAllows 0x21 → s.page
      < 48 → s.setptOk (s.leadIx s.page) (s.voltsIn (if s.on Reg.RAIL_SETPT.DIVIDER (s.homeIx s.page) then 8 else 2) (firstWord (writeData (some 2) bytes))) → s.on
      Hid.SP_DONE (s.leadIx s.page) → s.get Hid.SP_MODE (s.leadIx s.page) ≠ SpMode.soft → s.railReady s.page → s.get Reg.JRNL_NEXT.NEXT_SEQ 0 < 2 ^ 32 → Answers
      (.voutCommand rd bytes) s fun t => t.get Reg.RAIL_SETPT.VSET_TGT (s.leadIx s.page) = (s.voltsIn (if s.on Reg.RAIL_SETPT.DIVIDER (s.homeIx s.page) then 8 else 2)
      (firstWord (writeData (some 2) bytes))) ∧ t.get Hid.SP_TGT (s.leadIx s.page) = (s.voltsIn (if s.on Reg.RAIL_SETPT.DIVIDER (s.homeIx s.page) then 8 else 2)
      (firstWord (writeData (some 2) bytes))) ∧ t.get Hid.SP_MODE (s.leadIx s.page) = SpMode.ramp ∧ t.get Reg.RAIL_SP_STATUS.RAMPING (s.leadIx s.page) = 1 ∧ t.accepted
      (.setpoint s.page (s.voltsIn (if s.on Reg.RAIL_SETPT.DIVIDER (s.homeIx s.page) then 8 else 2) (firstWord (writeData (some 2) bytes)))) ∧ t.entered JKind.accepted
      JStatus.ok s.page (s.page * 256 + 0x21) (firstWord (writeData (some 2) bytes)) ∧ t.get Reg.HB_COUNTS.CMD_COUNT 0 = s.bumped Reg.HB_COUNTS.CMD_COUNT 0) ∧
  (∀ (rd : Bool) (bytes : List Byte) (s : State), s.hostOpen → s.dev ≠ Dev.load → rd = false → s.hbParse 0x21 (some 2) false bytes = JStatus.ok → s.wpAllows 0x21 → s.page
      < 48 → s.setptOk (s.leadIx s.page) (s.voltsIn (if s.on Reg.RAIL_SETPT.DIVIDER (s.homeIx s.page) then 8 else 2) (firstWord (writeData (some 2) bytes))) = false →
      s.get Reg.JRNL_NEXT.NEXT_SEQ 0 < 2 ^ 32 → Answers (.voutCommand rd bytes) s fun t => t.get Reg.RAIL_SETPT.SP_REJ (s.leadIx s.page) = 1 ∧ t.get
      Reg.RAIL_SETPT.VSET_TGT (s.leadIx s.page) = s.get Reg.RAIL_SETPT.VSET_TGT (s.leadIx s.page) ∧ t.bit Reg.HB_STATUS.CML 0 6 ∧ t.get Reg.HB_COUNTS.ERR_COUNT 0 =
      s.bumped Reg.HB_COUNTS.ERR_COUNT 0 ∧ (t.jrnA.head?.map (fun e => (e.kind, e.status, e.code)) = some (JKind.refused, JStatus.refused, s.page * 256 + 0x21))) ∧
  (∀ (rd : Bool) (bytes : List Byte) (s : State), s.hostOpen → s.dev ≠ Dev.load → rd = false → s.hbParse 0x40 (some 2) false bytes = JStatus.ok → s.wpAllows 0x40 → s.page
      < 48 → 0 ≤ (s.voltsIn 1 (firstWord (writeData (some 2) bytes)) : Int) → (s.voltsIn 1 (firstWord (writeData (some 2) bytes)) : Int) < 2 ^ Reg.RAIL_OV.OV_LIM.wid →
      ((s.tilesOf s.page).all fun u => !s.regRefuses .rail (railIx u s.page) Reg.RAIL_OV.OV_LIM.off (s.regWord .rail s.act (railIx u s.page) Reg.RAIL_OV.OV_LIM.off -
      s.get Reg.RAIL_OV.OV_LIM (railIx u s.page) * 2 ^ Reg.RAIL_OV.OV_LIM.lo + ((s.voltsIn 1 (firstWord (writeData (some 2) bytes)) : Int)).toNat * 2 ^
      Reg.RAIL_OV.OV_LIM.lo)) → Answers (.voutOvFaultLimit rd bytes) s fun t => (∀ u ∈ s.tilesOf s.page, t.get Reg.RAIL_OV.OV_LIM (railIx u s.page) = ((s.voltsIn 1
      (firstWord (writeData (some 2) bytes)) : Int)).toNat) ∧ t.entered JKind.done JStatus.ok s.page (s.page * 256 + 0x40) (firstWord (writeData (some 2) bytes)) ∧ t.get
      Reg.HB_COUNTS.CMD_COUNT 0 = s.bumped Reg.HB_COUNTS.CMD_COUNT 0) ∧
  (∀ (rd : Bool) (bytes : List Byte) (s : State), s.hostOpen → s.dev ≠ Dev.load → rd = false → s.hbParse 0x46 (some 2) false bytes = JStatus.ok → s.wpAllows 0x46 → s.page
      < 48 → 0 ≤ nearest (2 * linear11Value (firstWord (writeData (some 2) bytes))) (2 ^ 16) → nearest (2 * linear11Value (firstWord (writeData (some 2) bytes))) (2 ^ 16)
      < 2 ^ Reg.RAIL_OC.OCL.wid → ((s.tilesOf s.page).all fun u => !s.regRefuses .rail (railIx u s.page) Reg.RAIL_OC.OCL.off (s.regWord .rail s.act (railIx u s.page)
      Reg.RAIL_OC.OCL.off - s.get Reg.RAIL_OC.OCL (railIx u s.page) * 2 ^ Reg.RAIL_OC.OCL.lo + (nearest (2 * linear11Value (firstWord (writeData (some 2) bytes))) (2 ^
      16)).toNat * 2 ^ Reg.RAIL_OC.OCL.lo)) → Answers (.ioutOcFaultLimit rd bytes) s fun t => (∀ u ∈ s.tilesOf s.page, t.get Reg.RAIL_OC.OCL (railIx u s.page) = (nearest
      (2 * linear11Value (firstWord (writeData (some 2) bytes))) (2 ^ 16)).toNat) ∧ t.entered JKind.done JStatus.ok s.page (s.page * 256 + 0x46) (firstWord (writeData
      (some 2) bytes)) ∧ t.get Reg.HB_COUNTS.CMD_COUNT 0 = s.bumped Reg.HB_COUNTS.CMD_COUNT 0) ∧
  (∀ (rd : Bool) (bytes : List Byte) (s : State), s.hostOpen → s.dev ≠ Dev.load → rd = false → bytes.length = 2 → crc8 (s.addrByte false :: 0 :: bytes.take 1) ≠
      bytes.getD 1 0 → Answers (.page rd bytes) s fun t => t.page = s.page ∧ t.logged JKind.refused JStatus.badPec noTarget ∧ t.get Reg.HB_STATUS.PEC_ERR 0 = 1 ∧ t.bit
      Reg.HB_STATUS.CML 0 5 ∧ t.on Hid.HB_ACK 0 = false) ∧
  (∀ (rd : Bool) (bytes : List Byte) (s : State), s.hostOpen → s.dev ≠ Dev.load → rd = false → s.hbParse 0x21 (some 2) false bytes = JStatus.ok → s.get Reg.HB_CFG.WP 0 =
      0x40 → s.page < 48 → Answers (.voutCommand rd bytes) s fun t => t.logged JKind.refused JStatus.denied s.page ∧ t.get Reg.HB_STATUS.DENIED 0 = 1 ∧ t.bit
      Reg.HB_STATUS.CML 0 6 ∧ OnlyFieldsLog [Hid.HB_ACK, Reg.HB_STATUS.DENIED, Reg.HB_STATUS.CML, Reg.HB_COUNTS.ERR_COUNT] { s with hbReply := [] } t)

/-- A valid frame that its stage and state serve is answered with its tag, status and data, and counted: PING, reads and writes of words of the window, reads of the journal and of the host queue, SET_BAUD, DEV_STATE, and a vendor test in BLANK and BUILD; a reserved command is MALFORMED; in PARK a frame wakes the device, and one that begins within 200 µs of a wake, or while the ports do not serve, is discarded; a broken frame and a gap are discarded and counted; a new rate applies 1 ms after its answer, and falls back after 2 s without a valid frame; a note is appended with NOTE_ARG; an acknowledged SEQ inside the retained range is taken, one outside refused. Readings and choices of the model that it rests on: log entries 35, 76. -/
def Obligations.ServicePortAndJournal : Prop :=
  (∀ (tag : BitVec 16) (payload : List Byte) (s : State), s.portsServe → s.svcAsleep payload.length = false → payload = [] → Answers (.svcPing tag payload) s fun t =>
      t.svcReply = replyFrame 0x01 tag.toNat (leBytes 1 (JStatus.ok) ++ (leBytes 8 (s.get Hid.SN_DEVICE s.act) ++ leBytes 4 (s.wordOf Reg.DEV_STATE.STATE 0 0) ++ leBytes
      1 s.stageNow)) ∧ t.get Reg.SP_COUNTS.FRAMES 0 = s.bumped Reg.SP_COUNTS.FRAMES 0 ∧ t.get Hid.SVC_TAG 0 = tag.toNat ∧ OnlyFields [Hid.SVC_TAG, Hid.BAUD_TRY,
      Reg.SP_COUNTS.FRAMES] { s with svcReply := t.svcReply } t) ∧
  (∀ (tag : BitVec 16) (payload : List Byte) (s : State), s.dev = Dev.park → Answers (.svcPing tag payload) s fun t => t.bit Hid.WAKE_PEND 0 Wk.svc ∧ t.svcReply = [] ∧
      OnlyCells [(Hid.WAKE_PEND, 0, 0)] { s with svcReply := [] } t) ∧
  (∀ (tag : BitVec 16) (payload : List Byte) (s : State), s.dev ≠ Dev.park → (s.portsServe = false ∨ s.svcAsleep payload.length) → Answers (.svcPing tag payload) s fun t
      => t = { s with svcReply := [] }) ∧
  (∀ (tag : BitVec 16) (payload : List Byte) (s : State), s.portsServe → s.svcAsleep payload.length = false → payload = [] → Answers (.devState tag payload) s fun t =>
      t.svcReply = replyFrame 0x07 tag.toNat (leBytes 1 (JStatus.ok) ++ (leBytes 4 (s.wordOf Reg.DEV_STATE.STATE 0 0) ++ leBytes 4 (s.wordOf Reg.LOAD_STATUS.SLOT 0 0) ++
      leBytes 4 (s.wordOf Reg.RST_CAUSE.LAST 0 0))) ∧ t.get Reg.SP_COUNTS.FRAMES 0 = s.bumped Reg.SP_COUNTS.FRAMES 0 ∧ t.get Hid.SVC_TAG 0 = tag.toNat ∧ OnlyFields
      [Hid.SVC_TAG, Hid.BAUD_TRY, Reg.SP_COUNTS.FRAMES] { s with svcReply := t.svcReply } t) ∧
  (∀ (tag : BitVec 16) (payload : List Byte) (s : State), s.portsServe → s.svcAsleep payload.length = false → s.dev ≠ Dev.load → s.svcWindow → payload.length = 6 → 1 ≤
      (leNat (payload.drop 4)) → 4 * (leNat (payload.drop 4)) + 1 ≤ s.svcStaging → 6 ≤ s.svcStaging → (leNat (payload.take 4)) % 4 = 0 → ((winWords (leNat (payload.take
      4)) (4 * (leNat (payload.drop 4)) / 4)).all fun x => s.winAllowed true true x && decide (memOf x = 0 ∧ memOf (x + 3) = 0 ∧ inSecure (x + 3) = false)) → Answers
      (.winRead tag payload) s fun t => (t.svcReply = replyFrame 0x02 tag.toNat (leBytes 1 JStatus.ok ++ (winWords (leNat (payload.take 4)) (leNat (payload.drop
      4))).flatMap fun x => wordBytes (s.rd32 (mgrMem s.act x)))) ∧ t.get Reg.SP_COUNTS.FRAMES 0 = s.bumped Reg.SP_COUNTS.FRAMES 0 ∧ t.get Hid.SVC_TAG 0 = tag.toNat ∧
      OnlyFields [Hid.SVC_TAG, Hid.BAUD_TRY, Reg.SP_COUNTS.FRAMES, Hid.BUS_ERR, Hid.READ_DATA] { s with svcReply := t.svcReply } t) ∧
  (∀ (tag : BitVec 16) (payload : List Byte) (s : State), s.portsServe → s.svcAsleep payload.length = false → s.dev ≠ Dev.load → s.svcWindow → 8 ≤ payload.length →
      payload.length % 4 = 0 → payload.length ≤ s.svcStaging → (leNat (payload.take 4)) % 4 = 0 → ((winWords (leNat (payload.take 4)) ((payload.drop 4).length / 4)).all
      fun x => s.winAllowed true false x && decide (memOf x = 0 ∧ memOf (x + 3) = 0 ∧ inSecure (x + 3) = false)) → Memory.wf s.mem = true → Answers (.winWrite tag
      payload) s fun t => t.svcReply = replyFrame 0x03 tag.toNat (leBytes 1 (JStatus.ok) ++ []) ∧ t.get Reg.SP_COUNTS.FRAMES 0 = s.bumped Reg.SP_COUNTS.FRAMES 0 ∧ t.get
      Hid.SVC_TAG 0 = tag.toNat ∧ t.rdBytes (mgrMem s.act (leNat (payload.take 4))) (payload.drop 4).length = (payload.drop 4) ∧ BytesOutside (mgrMem s.act (leNat
      (payload.take 4))) (payload.drop 4).length s t ∧ t.entered JKind.done JStatus.ok payload.length 3 (leNat (payload.take 4)) ∧ OnlyFieldsLog [Hid.SVC_TAG,
      Hid.BAUD_TRY, Reg.SP_COUNTS.FRAMES, Hid.BUS_ERR] { s with svcReply := t.svcReply, mem := t.mem } t) ∧
  (∀ (tag : BitVec 16) (payload : List Byte) (s : State), s.portsServe → s.svcAsleep payload.length = false → s.stageNow < Stage.retired → payload.length = 5 → 1 ≤ leNat
      (payload.drop 4) → leNat (payload.drop 4) ≤ 64 → Answers (.jrnlRead tag payload) s fun t => t.svcReply = replyFrame 0x04 tag.toNat (leBytes 1 (JStatus.ok) ++
      (s.entriesFrom (leNat (payload.take 4)) (leNat (payload.drop 4))).flatMap JEntry.bytes) ∧ t.get Reg.SP_COUNTS.FRAMES 0 = s.bumped Reg.SP_COUNTS.FRAMES 0 ∧ t.get
      Hid.SVC_TAG 0 = tag.toNat ∧ OnlyFields [Hid.SVC_TAG, Hid.BAUD_TRY, Reg.SP_COUNTS.FRAMES] { s with svcReply := t.svcReply } t) ∧
  (∀ (tag : BitVec 16) (payload : List Byte) (s : State), s.portsServe → s.svcAsleep payload.length = false → s.stageNow < Stage.retired → s.dev ≠ Dev.load →
      payload.length = 1 → 1 ≤ leNat payload → leNat payload ≤ 32 → Answers (.hqRead tag payload) s fun t => t.get Reg.SP_COUNTS.FRAMES 0 = s.bumped Reg.SP_COUNTS.FRAMES
      0 ∧ t.get Hid.SVC_TAG 0 = tag.toNat ∧ t.evHost = s.evHost.drop (leNat payload) ∧ (t.svcReply = replyFrame 0x05 tag.toNat (0 :: (s.evHost.take (leNat
      payload)).flatMap fun r => (List.range 8).flatMap fun j => leBytes 4 (r.words.getD j 0 % 2 ^ 32))) ∧ OnlyFields [Hid.SVC_TAG, Hid.BAUD_TRY, Reg.SP_COUNTS.FRAMES,
      Hid.EV_HREC, Hid.READ_DATA] { s with svcReply := t.svcReply, evHost := t.evHost } t) ∧
  (∀ (tag : BitVec 16) (payload : List Byte) (s : State), s.portsServe → s.svcAsleep payload.length = false → s.stageNow < Stage.retired → payload.length = 1 → leNat
      payload ≤ 6 → Answers (.setBaud tag payload) s fun t => t.svcReply = replyFrame 0x06 tag.toNat (leBytes 1 (JStatus.ok) ++ []) ∧ t.get Reg.SP_COUNTS.FRAMES 0 =
      s.bumped Reg.SP_COUNTS.FRAMES 0 ∧ t.get Hid.SVC_TAG 0 = tag.toNat ∧ t.get Hid.BAUD_NEXT 0 = leNat payload ∧ t.on Hid.BAUD_PEND 0 ∧ t.get Hid.BAUD_AT 0 = s.beat % 2
      ^ Hid.BAUD_AT.wid ∧ t.get Reg.SP_CFG.BAUD 0 = s.get Reg.SP_CFG.BAUD 0 ∧ t.entered JKind.done JStatus.ok noTarget 6 (leNat payload) ∧ OnlyFieldsLog [Hid.SVC_TAG,
      Hid.BAUD_TRY, Reg.SP_COUNTS.FRAMES, Hid.BAUD_NEXT, Hid.BAUD_PEND, Hid.BAUD_AT] { s with svcReply := t.svcReply } t) ∧
  (∀ (k : Fin 16) (tag : BitVec 16) (payload : List Byte) (s : State), s.portsServe → s.svcAsleep payload.length = false → s.dev ≠ Dev.load → s.stageNow ≤ Stage.build →
      payload.length ≤ s.svcStaging → Answers (.vendorTest k tag payload) s fun t => t.get Reg.SP_COUNTS.FRAMES 0 = s.bumped Reg.SP_COUNTS.FRAMES 0 ∧ t.get Hid.SVC_TAG 0
      = tag.toNat ∧ t.svcReply = replyFrame (0x70 + k.val) tag.toNat (leBytes 1 (Config.freeValue s.freeCtr % 256)) ∧ t.jrnA.head?.map JEntry.code = some (0x70 + k.val) ∧
      OnlyFieldsLog [Hid.SVC_TAG, Hid.BAUD_TRY, Reg.SP_COUNTS.FRAMES] { s with svcReply := t.svcReply } t) ∧
  (∀ (cmd : Byte) (tag : BitVec 16) (payload : List Byte) (s : State), s.portsServe → s.svcAsleep payload.length = false → s.dev ≠ Dev.load → svcReserved cmd.toNat →
      payload.length ≤ s.svcStaging → Answers (.svcReservedCmd cmd tag payload) s fun t => t.get Reg.SP_COUNTS.FRAMES 0 = s.bumped Reg.SP_COUNTS.FRAMES 0 ∧ t.get
      Hid.SVC_TAG 0 = tag.toNat ∧ t.svcReply = replyFrame cmd.toNat tag.toNat [0x0E] ∧ t.logged JKind.refused JStatus.malformed noTarget ∧ OnlyFieldsLog [Hid.SVC_TAG,
      Hid.BAUD_TRY, Reg.SP_COUNTS.FRAMES, Reg.SP_COUNTS.ERR_COUNT] { s with svcReply := t.svcReply } t) ∧
  (∀ (framing : Bool) (raw : List Byte) (s : State), s.portsServe → (framing ∨ frameCrcBad raw) → Answers (.svcBadFrame framing raw) s fun t => t.on (if framing then
      Reg.SP_STATUS.FRAMING else Reg.SP_STATUS.CRC_ERR) 0 ∧ t.get Reg.SP_COUNTS.ERR_COUNT 0 = s.bumped Reg.SP_COUNTS.ERR_COUNT 0 ∧ OnlyFields [Reg.SP_STATUS.FRAMING,
      Reg.SP_STATUS.CRC_ERR, Reg.SP_COUNTS.ERR_COUNT] { s with svcReply := [] } t) ∧
  (∀ (framing : Bool) (raw : List Byte) (s : State), (s.portsServe = false ∨ (framing = false ∧ frameCrcBad raw = false)) → Answers (.svcBadFrame framing raw) s fun t =>
      t = s) ∧
  (∀ (s : State), s.portsServe → Answers (.svcGapTimeout) s fun t => t.on Reg.SP_STATUS.GAP_TMO 0 ∧ t.get Reg.SP_COUNTS.ERR_COUNT 0 = s.bumped Reg.SP_COUNTS.ERR_COUNT 0 ∧
      OnlyFields [Reg.SP_STATUS.GAP_TMO, Reg.SP_COUNTS.ERR_COUNT] { s with svcReply := [] } t) ∧
  (∀ (s : State), s.portsServe = false → Answers (.svcGapTimeout) s fun t => t = s) ∧
  (∀ (s : State), s.on Hid.BAUD_PEND 0 → 1000 ≤ beatDiff s.beat (s.get Hid.BAUD_AT 0) → Answers (.svcBaudApply) s fun t => t.get Reg.SP_CFG.BAUD 0 = s.get Hid.BAUD_NEXT 0
      % 2 ^ 3 ∧ t.on Hid.BAUD_PEND 0 = false ∧ t.on Hid.BAUD_TRY 0 ∧ t.get Hid.BAUD_AT 0 = s.beat % 2 ^ Hid.BAUD_AT.wid ∧ OnlyFields [Reg.SP_CFG.BAUD, Hid.BAUD_PEND,
      Hid.BAUD_TRY, Hid.BAUD_AT] s t) ∧
  (∀ (s : State), (s.on Hid.BAUD_PEND 0 = false ∨ beatDiff s.beat (s.get Hid.BAUD_AT 0) < 1000) → Answers (.svcBaudApply) s fun t => t = s) ∧
  (∀ (s : State), s.on Hid.BAUD_TRY 0 → 2000000 ≤ beatDiff s.beat (s.get Hid.BAUD_AT 0) → Answers (.svcBaudFallback) s fun t => t.get Reg.SP_CFG.BAUD 0 = 0 ∧ t.on
      Hid.BAUD_TRY 0 = false ∧ OnlyFields [Reg.SP_CFG.BAUD, Hid.BAUD_TRY] s t) ∧
  (∀ (s : State), (s.on Hid.BAUD_TRY 0 = false ∨ beatDiff s.beat (s.get Hid.BAUD_AT 0) < 2000000) → Answers (.svcBaudFallback) s fun t => t = s) ∧
  (∀ (w : Who) (m : Mgr) (code : BitVec 16) (s : State), s.reach w m = s.act → Answers (.jrnlNote w m code) s fun t => t.entered JKind.note JStatus.ok noTarget code.toNat
      (s.get Reg.JRNL_NOTE_ARG.NOTE_ARG 0) ∧ t.get Reg.JRNL_NEXT.NEXT_SEQ 0 = (s.get Reg.JRNL_NEXT.NEXT_SEQ 0 + 1) % 2 ^ 32 ∧ OnlyFieldsLog [Hid.BUS_ERR] s t) ∧
  (∀ (w : Who) (m : Mgr) (v : Word) (s : State), s.reach w m = s.act → s.ackBad v.toNat = false → Answers (.jrnlAckWrite w m v) s fun t => t.get Reg.JRNL_ACK.ACK_SEQ 0 =
      v.toNat ∧ t.on Reg.JRNL_STATUS.UNREAD_FAIL 0 = unreadFail s.jrnA v.toNat ∧ OnlyFields [Reg.JRNL_ACK.ACK_SEQ, Reg.JRNL_STATUS.UNREAD_FAIL, Hid.BUS_ERR] s t) ∧
  (∀ (w : Who) (m : Mgr) (v : Word) (s : State), s.reach w m = s.act → s.ackBad v.toNat → Answers (.jrnlAckWrite w m v) s fun t => t.get Reg.JRNL_STATUS.CFG_REJ 0 = 1 ∧
      OnlyFields [Reg.JRNL_STATUS.CFG_REJ, Hid.BUS_ERR] s t)

/-- In the states of the engine that the command table names, BEGIN opens a session from the buffered header and starts the erase of chunk 0; DATA writes bytes into the port's chunk buffer; COMMIT takes the buffer and marks the blank chunk DIRTY before it is programmed; a programmed chunk is WRITTEN, a failed one stays DIRTY and ends its command with FLASH; ERASE erases named chunks, each DIRTY before and ERASED after; FINISH needs every chunk and verifies the digest, then programs chunk 0 last; ABORT returns to IDLE; the status and the map are read. In any other state the command is refused with BAD_SEQUENCE. Readings and choices of the model that it rests on: log entries 66, 76, 77. -/
def Obligations.UpdateDeliveryAndVerification : Prop :=
  (∀ (msg : PortMsg) (s : State), s.portGives 0 msg [] → Answers (.updateStatusCmd msg) s fun t => portShown s t 0 (leBytes 4 (s.wordOf Reg.UPD_STATUS.STATE 0 0) ++
      leBytes 4 (s.wordOf Reg.UPD_PROGRESS.TOTAL 0 0) ++ leBytes 4 (s.wordOf Reg.UPD_TRIAL.TRIAL_LEFT 0 0)) msg ∧ OnlyFields [Hid.HB_ACK, Hid.SVC_TAG, Hid.BAUD_TRY,
      Reg.SP_COUNTS.FRAMES] { s with hbReply := t.hbReply, svcReply := t.svcReply } t) ∧
  (∀ (msg : PortMsg) (s : State), s.portGives 11 msg (payloadOf msg) → (payloadOf msg).length = 4 → Answers (.updMap msg) s fun t => (portShown s t 11 ((List.range
      32).flatMap fun j => leBytes 1 (if leNat (payloadOf msg) / 4 + j < tableSize then s.mapByte s.act (0x200 + leNat (payloadOf msg) / 4 + j) else 0)) msg) ∧ OnlyFields
      [Hid.HB_ACK, Hid.SVC_TAG, Hid.BAUD_TRY, Reg.SP_COUNTS.FRAMES] { s with hbReply := t.hbReply, svcReply := t.svcReply } t) ∧
  (∀ (msg : PortMsg) (s : State), s.portGives 1 msg (payloadOf msg) → (payloadOf msg).length = 4 → !([0]).contains s.upd → Answers (.updBegin msg) s fun t => t.logged
      JKind.refused UpdSt.badSequence 4 ∧ portTold t 1 UpdSt.badSequence msg ∧ t.get Reg.UPD_STATUS.LAST_STATUS 0 = UpdSt.badSequence ∧ OnlyFieldsLog portFlds
      { s with hbReply := t.hbReply, svcReply := t.svcReply } t) ∧
  (∀ (msg : PortMsg) (s : State), s.portGives 2 msg (payloadOf msg) → 6 ≤ (payloadOf msg).length → (payloadOf msg).length % 4 = 2 → !([0, 1]).contains s.upd → Answers
      (.updData msg) s fun t => t.logged JKind.refused UpdSt.badSequence (payloadOf msg).length ∧ portTold t 2 UpdSt.badSequence msg ∧ t.get Reg.UPD_STATUS.LAST_STATUS 0
      = UpdSt.badSequence ∧ OnlyFieldsLog portFlds { s with hbReply := t.hbReply, svcReply := t.svcReply } t) ∧
  (∀ (msg : PortMsg) (s : State), s.portGives 3 msg (payloadOf msg) → (payloadOf msg).length = 8 → !([1]).contains s.upd → Answers (.updCommit msg) s fun t => t.logged
      JKind.refused UpdSt.badSequence 8 ∧ portTold t 3 UpdSt.badSequence msg ∧ t.get Reg.UPD_STATUS.LAST_STATUS 0 = UpdSt.badSequence ∧ OnlyFieldsLog portFlds
      { s with hbReply := t.hbReply, svcReply := t.svcReply } t) ∧
  (∀ (msg : PortMsg) (s : State), s.portGives 4 msg (payloadOf msg) → (payloadOf msg).length = 8 → !([1]).contains s.upd → Answers (.updErase msg) s fun t => t.logged
      JKind.refused UpdSt.badSequence 8 ∧ portTold t 4 UpdSt.badSequence msg ∧ t.get Reg.UPD_STATUS.LAST_STATUS 0 = UpdSt.badSequence ∧ OnlyFieldsLog portFlds
      { s with hbReply := t.hbReply, svcReply := t.svcReply } t) ∧
  (∀ (msg : PortMsg) (s : State), s.portGives 5 msg [] → !([1]).contains s.upd → Answers (.updFinish msg) s fun t => t.logged JKind.refused UpdSt.badSequence (noTarget) ∧
      portTold t 5 UpdSt.badSequence msg ∧ t.get Reg.UPD_STATUS.LAST_STATUS 0 = UpdSt.badSequence ∧ OnlyFieldsLog portFlds
      { s with hbReply := t.hbReply, svcReply := t.svcReply } t) ∧
  (∀ (msg : PortMsg) (s : State), s.portGives 10 msg [] → !([1, 3, 4]).contains s.upd → Answers (.updAbort msg) s fun t => t.logged JKind.refused UpdSt.badSequence
      (noTarget) ∧ portTold t 10 UpdSt.badSequence msg ∧ t.get Reg.UPD_STATUS.LAST_STATUS 0 = UpdSt.badSequence ∧ OnlyFieldsLog portFlds
      { s with hbReply := t.hbReply, svcReply := t.svcReply } t) ∧
  (∀ (msg : PortMsg) (s : State), s.portGives 1 msg (leBytes 4 (crc32 (s.bufBytes (PortMsg.port msg) 4096)).toNat) → s.upd = Upd.idle → s.on Hid.FL_ERASE 0 → s.flashOk →
      s.headCheck ((s.bufBytes (PortMsg.port msg) 4096).take 256) = Fail.none → chunksOf (hdrOf ((s.bufBytes (PortMsg.port msg) 4096).take 256) 0x10 4) ≤ tableSize → s.on
      Reg.UPD_STATUS.FLASH_BUSY 0 = false → s.on Hid.PRESENT s.act → Memory.wf s.mem = true → Answers (.updBegin msg) s fun t => t.upd = Upd.receiving ∧ t.get
      Reg.UPD_STATUS.EVT 0 = 1 ∧ t.get Reg.UPD_STATUS.TARGET 0 = s.updTargetSlot ∧ t.get Reg.UPD_PROGRESS.TOTAL 0 = chunksOf (hdrOf ((s.bufBytes (PortMsg.port msg)
      4096).take 256) 0x10 4) ∧ t.get Reg.UPD_PROGRESS.WRITTEN 0 = 0 ∧ t.rdBytes (mapMem s.act 0x100) 256 = (s.bufBytes (PortMsg.port msg) 4096).take 256 ∧ t.chunk 0 =
      Chunk.dirty ∧ t.on Reg.UPD_STATUS.FLASH_BUSY 0 ∧ t.get Hid.FL_OP 0 = 1 ∧ t.bufBytes (PortMsg.port msg) 4096 = List.replicate 4096 0xFF ∧ portTold t 1 JStatus.ok msg
      ∧ t.logged JKind.done JStatus.ok 4 ∧ (BytesBut (fun a => inMaps a ∨ (bufMem (PortMsg.port msg) 0 ≤ a ∧ a < bufMem (PortMsg.port msg) 4096)) s t) ∧ OnlyFieldsLog
      (portFlds ++ [Reg.UPD_STATUS.STATE, Reg.UPD_STATUS.EVT, Reg.UPD_STATUS.TARGET, Hid.UPD_PRIOR, Reg.UPD_PROGRESS.TOTAL, Reg.UPD_PROGRESS.WRITTEN,
      Reg.UPD_ROLLBACK.IMAGE_RB, Reg.UPD_STATUS.FLASH_BUSY, Hid.FL_OP, Hid.FL_CHUNK, Hid.FL_LEFT])
      { s with hbReply := t.hbReply, svcReply := t.svcReply, mem := t.mem, feBad := t.feBad } t) ∧
  (∀ (msg : PortMsg) (s : State), s.portGives 2 msg (payloadOf msg) → 6 ≤ (payloadOf msg).length → (payloadOf msg).length % 4 = 2 → (leNat ((payloadOf msg).take 2)) +
      (payloadOf msg).length ≤ 4098 → (s.upd = Upd.idle ∨ s.upd = Upd.receiving) → Memory.wf s.mem = true → Answers (.updData msg) s fun t => ((t.bufBytes (PortMsg.port
      msg) 4096).drop (leNat ((payloadOf msg).take 2))).take ((payloadOf msg).length - 2) = (payloadOf msg).drop 2 ∧ BytesOutside (bufMem (PortMsg.port msg) (leNat
      ((payloadOf msg).take 2))) ((payloadOf msg).length - 2) s t ∧ portTold t 2 JStatus.ok msg ∧ t.entered JKind.done JStatus.ok (payloadOf msg).length (updCode
      (PortMsg.port msg) 2) (firstWord (payloadOf msg)) ∧ t.get Reg.UPD_STATUS.LAST_STATUS 0 = JStatus.ok ∧ OnlyFieldsLog portFlds
      { s with hbReply := t.hbReply, svcReply := t.svcReply, mem := t.mem } t) ∧
  (∀ (msg : PortMsg) (s : State), s.portGives 2 msg (payloadOf msg) → 6 ≤ (payloadOf msg).length → (payloadOf msg).length % 4 = 2 → 4098 < (leNat ((payloadOf msg).take
      2)) + (payloadOf msg).length → (s.upd = Upd.idle ∨ s.upd = Upd.receiving) → Answers (.updData msg) s fun t => portTold t 2 UpdSt.chunkRange msg ∧ t.logged
      JKind.refused UpdSt.chunkRange (payloadOf msg).length ∧ OnlyFieldsLog portFlds { s with hbReply := t.hbReply, svcReply := t.svcReply } t) ∧
  (∀ (msg : PortMsg) (s : State), s.portGives 3 msg (payloadOf msg) → s.upd = Upd.receiving → s.on Reg.UPD_STATUS.FLASH_BUSY 0 = false → (payloadOf msg).length = 8 →
      leNat ((payloadOf msg).drop 4) = (crc32 (s.bufBytes (PortMsg.port msg) 4096)).toNat → 1 ≤ (leNat ((payloadOf msg).take 4)) → (leNat ((payloadOf msg).take 4)) <
      s.get Reg.UPD_PROGRESS.TOTAL 0 → (s.chunk (leNat ((payloadOf msg).take 4)) = Chunk.opened ∨ s.chunk (leNat ((payloadOf msg).take 4)) = Chunk.erased) → s.chunkBlank
      (leNat ((payloadOf msg).take 4)) → s.on Hid.PRESENT s.act → Memory.wf s.mem = true → Answers (.updCommit msg) s fun t => t.on Reg.UPD_STATUS.FLASH_BUSY 0 ∧ t.get
      Hid.FL_OP 0 = 2 ∧ t.get Hid.FL_CHUNK 0 = (leNat ((payloadOf msg).take 4)) ∧ t.chunk (leNat ((payloadOf msg).take 4)) = Chunk.dirty ∧ t.bufBytes 2 4096 = (s.bufBytes
      (PortMsg.port msg) 4096) ∧ t.bufBytes (PortMsg.port msg) 4096 = List.replicate 4096 0xFF ∧ t.accepted (updKind 3) ∧ t.entered JKind.accepted JStatus.ok 8 (updCode
      (PortMsg.port msg) 3) (leNat ((payloadOf msg).take 4)) ∧ portTold t 3 JStatus.ok msg ∧ (BytesBut (fun a => inMaps a ∨ (bufMem (PortMsg.port msg) 0 ≤ a ∧ a < bufMem
      (PortMsg.port msg) 4096) ∨ (bufMem 2 0 ≤ a ∧ a < bufMem 2 4096)) s t) ∧ OnlyFieldsLog (portFlds ++ [Reg.UPD_STATUS.FLASH_BUSY, Hid.FL_OP, Hid.FL_CHUNK])
      { s with hbReply := t.hbReply, svcReply := t.svcReply, mem := t.mem, feBad := t.feBad } t) ∧
  (∀ (ok : Bool) (s : State), ok → s.get Hid.FL_OP 0 = 2 → s.on Hid.FL_ZERO 0 = false → (s.get Reg.UPD_STATUS.TARGET 0 = 1 ∨ s.get Reg.UPD_STATUS.TARGET 0 = 2) →
      s.accepted (updKind 3) → (s.chunkAddr (s.get Hid.FL_CHUNK 0)) + 4096 ≤ s.get Hid.FL_SIZE 0 → s.on Hid.PRESENT s.act → Memory.wf s.mem = true → Answers
      (.chunkProgramDone ok) s fun t => t.flashBytes (s.chunkAddr (s.get Hid.FL_CHUNK 0)) 4096 = s.bufBytes 2 4096 ∧ t.chunk (s.get Hid.FL_CHUNK 0) = Chunk.written ∧ t.on
      Reg.UPD_STATUS.FLASH_BUSY 0 = false ∧ t.get Hid.FL_OP 0 = 0 ∧ t.get Reg.UPD_STATUS.LAST_STATUS 0 = JStatus.ok ∧ t.accepted (updKind 3) = false ∧ (t.jrnA.head?.map
      (fun e => (e.kind, e.status)) = some (JKind.complete, JStatus.ok)) ∧ (BytesBut (fun a => inMaps a ∨ (flashMem (s.chunkAddr (s.get Hid.FL_CHUNK 0)) ≤ a ∧ a <
      flashMem (s.chunkAddr (s.get Hid.FL_CHUNK 0)) + 4096)) s t) ∧ OnlyFieldsLog [Reg.UPD_PROGRESS.WRITTEN, Reg.UPD_STATUS.LAST_STATUS, Reg.UPD_STATUS.FLASH_BUSY,
      Hid.FL_OP, Hid.FL_LEFT] { s with mem := t.mem, feBad := t.feBad } t) ∧
  (∀ (ok : Bool) (s : State), ok = false → s.get Hid.FL_OP 0 = 2 → s.on Hid.FL_ZERO 0 = false → s.accepted (updKind 3) → Answers (.chunkProgramDone ok) s fun t => t.upd =
      s.upd ∧ t.on Reg.UPD_STATUS.FLASH_BUSY 0 = false ∧ t.get Hid.FL_OP 0 = 0 ∧ t.get Reg.UPD_STATUS.LAST_STATUS 0 = UpdSt.flash ∧ (t.jrnA.head?.map (fun e => (e.kind,
      e.status)) = some (JKind.complete, UpdSt.flash)) ∧ BytesOutside (flashMem (s.chunkAddr (s.get Hid.FL_CHUNK 0))) 4096 s t ∧ OnlyFieldsLog
      [Reg.UPD_STATUS.LAST_STATUS, Reg.UPD_STATUS.FLASH_BUSY, Hid.FL_OP, Hid.FL_LEFT] { s with mem := t.mem, feBad := t.feBad } t) ∧
  (∀ (ok : Bool) (s : State), s.get Hid.FL_OP 0 ≠ 2 → Answers (.chunkProgramDone ok) s fun t => t = s) ∧
  (∀ (msg : PortMsg) (s : State), s.portGives 4 msg (payloadOf msg) → (payloadOf msg).length = 8 → s.upd = Upd.receiving → s.on Reg.UPD_STATUS.FLASH_BUSY 0 = false → 1 ≤
      (leNat ((payloadOf msg).take 4)) → 1 ≤ (leNat ((payloadOf msg).drop 4)) → (leNat ((payloadOf msg).take 4)) + (leNat ((payloadOf msg).drop 4)) ≤ s.get
      Reg.UPD_PROGRESS.TOTAL 0 → s.on Hid.PRESENT s.act → Memory.wf s.mem = true → Answers (.updErase msg) s fun t => t.on Reg.UPD_STATUS.FLASH_BUSY 0 ∧ t.get Hid.FL_OP 0
      = 1 ∧ t.get Hid.FL_CHUNK 0 = (leNat ((payloadOf msg).take 4)) ∧ t.get Hid.FL_LEFT 0 = (leNat ((payloadOf msg).drop 4)) ∧ t.chunk (leNat ((payloadOf msg).take 4)) =
      Chunk.dirty ∧ t.accepted (updKind 4) ∧ portTold t 4 JStatus.ok msg ∧ t.entered JKind.accepted JStatus.ok 8 (updCode (PortMsg.port msg) 4) (leNat ((payloadOf
      msg).take 4)) ∧ BytesBut inMaps s t ∧ OnlyFieldsLog (portFlds ++ [Reg.UPD_STATUS.FLASH_BUSY, Hid.FL_OP, Hid.FL_CHUNK, Hid.FL_LEFT, Reg.UPD_PROGRESS.WRITTEN])
      { s with hbReply := t.hbReply, svcReply := t.svcReply, mem := t.mem, feBad := t.feBad } t) ∧
  (∀ (ok : Bool) (s : State), ok → s.get Hid.FL_OP 0 = 1 → s.chunk (s.get Hid.FL_CHUNK 0) = Chunk.dirty → (s.chunkAddr (s.get Hid.FL_CHUNK 0)) + 4096 ≤ s.get Hid.FL_SIZE
      0 → s.on Hid.PRESENT s.act → Memory.wf s.mem = true → s.get Hid.FL_LEFT 0 ≤ 1 → s.on Hid.FL_ZERO 0 = false → s.accepted (updKind 4) → Answers (.eraseChunkDone ok) s
      fun t => t.flashBytes (s.chunkAddr (s.get Hid.FL_CHUNK 0)) 4096 = List.replicate 4096 0xFF ∧ t.chunk (s.get Hid.FL_CHUNK 0) = Chunk.erased ∧ t.on
      Reg.UPD_STATUS.FLASH_BUSY 0 = false ∧ t.get Hid.FL_OP 0 = 0 ∧ t.get Reg.UPD_STATUS.LAST_STATUS 0 = JStatus.ok ∧ (t.jrnA.head?.map (fun e => (e.kind, e.status)) =
      some (JKind.complete, JStatus.ok)) ∧ (BytesBut (fun a => inMaps a ∨ (flashMem (s.chunkAddr (s.get Hid.FL_CHUNK 0)) ≤ a ∧ a < flashMem (s.chunkAddr (s.get
      Hid.FL_CHUNK 0)) + 4096)) s t) ∧ OnlyFieldsLog [Reg.UPD_STATUS.LAST_STATUS, Reg.UPD_STATUS.FLASH_BUSY, Hid.FL_OP, Hid.FL_LEFT]
      { s with mem := t.mem, feBad := t.feBad } t) ∧
  (∀ (ok : Bool) (s : State), ok → s.get Hid.FL_OP 0 = 1 → s.chunk (s.get Hid.FL_CHUNK 0) = Chunk.dirty → (s.chunkAddr (s.get Hid.FL_CHUNK 0)) + 4096 ≤ s.get Hid.FL_SIZE
      0 → s.on Hid.PRESENT s.act → Memory.wf s.mem = true → 1 < s.get Hid.FL_LEFT 0 → (s.get Hid.FL_CHUNK 0) < 65535 → s.chunk ((s.get Hid.FL_CHUNK 0) + 1) ≠
      Chunk.written → Answers (.eraseChunkDone ok) s fun t => t.flashBytes (s.chunkAddr (s.get Hid.FL_CHUNK 0)) 4096 = List.replicate 4096 0xFF ∧ t.chunk (s.get
      Hid.FL_CHUNK 0) = Chunk.erased ∧ t.chunk ((s.get Hid.FL_CHUNK 0) + 1) = Chunk.dirty ∧ t.get Hid.FL_CHUNK 0 = (s.get Hid.FL_CHUNK 0) + 1 ∧ t.get Hid.FL_LEFT 0 =
      s.get Hid.FL_LEFT 0 - 1 ∧ t.on Reg.UPD_STATUS.FLASH_BUSY 0 ∧ OnlyFields [Reg.UPD_STATUS.FLASH_BUSY, Hid.FL_OP, Hid.FL_CHUNK, Hid.FL_LEFT]
      { s with mem := t.mem, feBad := t.feBad } t) ∧
  (∀ (ok : Bool) (s : State), ok = false → s.get Hid.FL_OP 0 = 1 → s.accepted (updKind 4) → s.on Hid.FL_ZERO 0 = false → Answers (.eraseChunkDone ok) s fun t => t.upd =
      s.upd ∧ t.on Reg.UPD_STATUS.FLASH_BUSY 0 = false ∧ t.get Hid.FL_OP 0 = 0 ∧ t.get Reg.UPD_STATUS.LAST_STATUS 0 = UpdSt.flash ∧ (t.jrnA.head?.map (fun e => (e.kind,
      e.status)) = some (JKind.complete, UpdSt.flash)) ∧ BytesOutside (flashMem (s.chunkAddr (s.get Hid.FL_CHUNK 0))) 4096 s t) ∧
  (∀ (ok : Bool) (s : State), s.get Hid.FL_OP 0 ≠ 1 → Answers (.eraseChunkDone ok) s fun t => t = s) ∧
  (∀ (msg : PortMsg) (s : State), s.portGives 5 msg [] → s.upd = Upd.receiving → s.on Reg.UPD_STATUS.FLASH_BUSY 0 = false → s.delivered → Answers (.updFinish msg) s fun t
      => t.upd = Upd.verifying ∧ t.get Reg.UPD_STATUS.EVT 0 = 1 ∧ t.get Hid.UPD_VERIFY 0 = 1 ∧ t.accepted (updKind 5) ∧ portTold t 5 JStatus.ok msg ∧ t.entered
      JKind.accepted JStatus.ok noTarget (updCode (PortMsg.port msg) 5) 0 ∧ BytesBut inMaps s t ∧ OnlyFieldsLog (portFlds ++ [Reg.UPD_STATUS.STATE, Reg.UPD_STATUS.EVT,
      Hid.UPD_VERIFY]) { s with hbReply := t.hbReply, svcReply := t.svcReply, mem := t.mem, feBad := t.feBad } t) ∧
  (∀ (msg : PortMsg) (s : State), s.portGives 5 msg [] → s.upd = Upd.receiving → s.on Reg.UPD_STATUS.FLASH_BUSY 0 = false → s.delivered = false → Answers (.updFinish msg)
      s fun t => t.logged JKind.refused UpdSt.incomplete noTarget ∧ portTold t 5 UpdSt.incomplete msg ∧ t.get Reg.UPD_STATUS.LAST_STATUS 0 = UpdSt.incomplete ∧
      OnlyFieldsLog portFlds { s with hbReply := t.hbReply, svcReply := t.svcReply } t) ∧
  (∀ (header : Option Bool) (s : State), header = none → s.get Hid.UPD_VERIFY 0 = 1 → s.delivDigest → s.on Hid.PRESENT s.act → Memory.wf s.mem = true → Answers
      (.finishComplete header) s fun t => t.get Hid.UPD_VERIFY 0 = 2 ∧ t.chunk 0 = Chunk.dirty ∧ t.on Reg.UPD_STATUS.FLASH_BUSY 0 ∧ t.upd = s.upd ∧ BytesBut inMaps s t ∧
      OnlyFields [Hid.UPD_VERIFY, Reg.UPD_STATUS.FLASH_BUSY, Reg.UPD_PROGRESS.WRITTEN] { s with mem := t.mem, feBad := t.feBad } t) ∧
  (∀ (header : Option Bool) (s : State), s.get Hid.UPD_VERIFY 0 = 1 → s.delivDigest = false → s.upd = Upd.verifying → s.accepted (updKind 5) → Answers (.finishComplete
      header) s fun t => t.upd = Upd.receiving ∧ t.get Hid.UPD_VERIFY 0 = 0 ∧ t.get Reg.UPD_STATUS.LAST_STATUS 0 = UpdSt.digest ∧ (t.jrnA.head?.map (fun e => (e.kind,
      e.status)) = some (JKind.complete, UpdSt.digest)) ∧ BytesBut inMaps s t ∧ OnlyFieldsLog [Reg.UPD_STATUS.STATE, Reg.UPD_STATUS.EVT, Reg.UPD_STATUS.LAST_STATUS,
      Hid.UPD_VERIFY, Reg.UPD_STATUS.FLASH_BUSY, Hid.FL_OP, Hid.FL_LEFT] { s with mem := t.mem, feBad := t.feBad } t) ∧
  (∀ (header : Option Bool) (s : State), header = some true → s.get Hid.UPD_VERIFY 0 = 2 → s.upd = Upd.verifying → s.accepted (updKind 5) → (s.get Reg.UPD_STATUS.TARGET 0
      = 1 ∨ s.get Reg.UPD_STATUS.TARGET 0 = 2) → s.headerOk s.headerCopy → (vendorTest s.headerCopy ∨ signatureOk s.headerCopy) → s.on Hid.PRESENT s.act → Memory.wf s.mem
      = true → Answers (.finishComplete header) s fun t => t.upd = Upd.verified ∧ t.get Hid.UPD_VERIFY 0 = 0 ∧ t.chunk 0 = Chunk.written ∧ t.flashBytes (s.chunkAddr 0)
      4096 = s.headerCopy ++ List.replicate 3840 0 ∧ t.get Reg.UPD_STATUS.LAST_STATUS 0 = JStatus.ok ∧ (t.jrnA.head?.map (fun e => (e.kind, e.status)) = some
      (JKind.complete, JStatus.ok)) ∧ (BytesBut (fun a => inMaps a ∨ (flashMem (s.chunkAddr 0) ≤ a ∧ a < flashMem (s.chunkAddr 0) + 4096)) s t) ∧ OnlyFieldsLog
      [Reg.UPD_STATUS.STATE, Reg.UPD_STATUS.EVT, Reg.UPD_STATUS.LAST_STATUS, Hid.UPD_VERIFY, Reg.UPD_STATUS.FLASH_BUSY, Hid.FL_OP, Hid.FL_LEFT, Reg.UPD_PROGRESS.WRITTEN]
      { s with mem := t.mem, feBad := t.feBad } t) ∧
  (∀ (header : Option Bool) (s : State), header = some false → s.get Hid.UPD_VERIFY 0 = 2 → s.upd = Upd.verifying → s.accepted (updKind 5) → Answers (.finishComplete
      header) s fun t => t.upd = Upd.receiving ∧ t.get Hid.UPD_VERIFY 0 = 0 ∧ t.get Reg.UPD_STATUS.LAST_STATUS 0 = UpdSt.flash ∧ (t.jrnA.head?.map (fun e => (e.kind,
      e.status)) = some (JKind.complete, UpdSt.flash))) ∧
  (∀ (header : Option Bool) (s : State), s.get Hid.UPD_VERIFY 0 ≠ 1 → (s.get Hid.UPD_VERIFY 0 ≠ 2 ∨ header = none) → Answers (.finishComplete header) s fun t => t = s) ∧
  (∀ (msg : PortMsg) (s : State), s.portGives 10 msg [] → (s.upd = Upd.receiving ∨ s.upd = Upd.verified ∨ s.upd = Upd.prepared) → Answers (.updAbort msg) s fun t => t.upd
      = Upd.idle ∧ t.get Reg.UPD_STATUS.EVT 0 = 1 ∧ t.on Hid.FL_ZERO 0 = false ∧ t.on Hid.UPD_STAGE 0 = false ∧ portTold t 10 JStatus.ok msg ∧ (s.get Hid.FL_OP 0 = 1 →
      t.get Hid.FL_LEFT 0 ≤ 1) ∧ t.on Reg.UPD_STATUS.FLASH_BUSY 0 = s.on Reg.UPD_STATUS.FLASH_BUSY 0 ∧ BytesBut inMaps s t ∧ OnlyFieldsLog (portFlds ++
      [Reg.UPD_STATUS.STATE, Reg.UPD_STATUS.EVT, Hid.FL_ZERO, Hid.UPD_STAGE, Hid.FL_LEFT])
      { s with hbReply := t.hbReply, svcReply := t.svcReply, mem := t.mem, feBad := t.feBad } t)

/-- PREPARE stages a verified image and ends in PREPARED; ACTIVATE needs RUN or ARM and nothing that runs, or restarts LOAD in a recovery; a rail whose armed swap is over gives its turn on, and after the last one the register lists are written; a ready shadow takes its activation reset first, then the active manager hands over and takes its own, and one that is alone restarts at once; CONFIRM is taken in TRIAL before the deadline and with the complete self-test and ends the trial; REVERT or the passed deadline checks the prior slot and prepares it, or keeps the trial image; a held fuse advance is tried again. In any other state a command is refused with BAD_SEQUENCE. Readings and choices of the model that it rests on: log entries 74, 76, 78. -/
def Obligations.UpdatePreparationToReturn : Prop :=
  (∀ (msg : PortMsg) (s : State), s.portGives 6 msg [] → !([3]).contains s.upd → Answers (.updPrepare msg) s fun t => t.logged JKind.refused UpdSt.badSequence (noTarget)
      ∧ portTold t 6 UpdSt.badSequence msg ∧ t.get Reg.UPD_STATUS.LAST_STATUS 0 = UpdSt.badSequence ∧ OnlyFieldsLog portFlds
      { s with hbReply := t.hbReply, svcReply := t.svcReply } t) ∧
  (∀ (msg : PortMsg) (s : State), s.portGives 7 msg [] → !([4]).contains s.upd → Answers (.updActivate msg) s fun t => t.logged JKind.refused UpdSt.badSequence (noTarget)
      ∧ portTold t 7 UpdSt.badSequence msg ∧ t.get Reg.UPD_STATUS.LAST_STATUS 0 = UpdSt.badSequence ∧ OnlyFieldsLog portFlds
      { s with hbReply := t.hbReply, svcReply := t.svcReply } t) ∧
  (∀ (msg : PortMsg) (s : State), s.portGives 9 msg [] → !([6]).contains s.upd → Answers (.updRevert msg) s fun t => t.logged JKind.refused UpdSt.badSequence (noTarget) ∧
      portTold t 9 UpdSt.badSequence msg ∧ t.get Reg.UPD_STATUS.LAST_STATUS 0 = UpdSt.badSequence ∧ OnlyFieldsLog portFlds
      { s with hbReply := t.hbReply, svcReply := t.svcReply } t) ∧
  (∀ (msg : PortMsg) (supplyOk : Bool) (s : State), s.portGives 8 msg [] → !([6]).contains s.upd → Answers (.healthConfirm msg supplyOk) s fun t => t.logged JKind.refused
      UpdSt.badSequence (noTarget) ∧ portTold t 8 UpdSt.badSequence msg ∧ t.get Reg.UPD_STATUS.LAST_STATUS 0 = UpdSt.badSequence ∧ OnlyFieldsLog portFlds
      { s with hbReply := t.hbReply, svcReply := t.svcReply } t) ∧
  (∀ (msg : PortMsg) (s : State), s.portGives 6 msg [] → s.upd = Upd.verified → s.on Hid.UPD_STAGE 0 = false → s.fwTooLarge s.updSlot = false → s.recovering = false →
      Answers (.updPrepare msg) s fun t => t.on Hid.UPD_STAGE 0 ∧ t.upd = Upd.verified ∧ t.accepted (updKind 6) ∧ portTold t 6 JStatus.ok msg ∧ t.entered JKind.accepted
      JStatus.ok noTarget (updCode (PortMsg.port msg) 6) 0 ∧ OnlyFieldsLog (portFlds ++ [Hid.UPD_STAGE]) { s with hbReply := t.hbReply, svcReply := t.svcReply } t) ∧
  (∀ (msg : PortMsg) (s : State), s.portGives 6 msg [] → s.upd = Upd.verified → s.on Hid.UPD_STAGE 0 = false → s.fwTooLarge s.updSlot = false → s.recovering → Answers
      (.updPrepare msg) s fun t => t.upd = Upd.prepared ∧ t.accepted (updKind 6) = false ∧ (t.jrnA.head?.map (fun e => (e.kind, e.status)) = some (JKind.complete,
      JStatus.ok)) ∧ BytesBut inMaps s t ∧ OnlyFieldsLog (portFlds ++ [Reg.UPD_STATUS.STATE, Reg.UPD_STATUS.EVT])
      { s with hbReply := t.hbReply, svcReply := t.svcReply, mem := t.mem, feBad := t.feBad } t) ∧
  (∀ (good : Bool) (s : State), good → s.on Hid.UPD_STAGE 0 → s.upd = Upd.verified → s.accepted (updKind 6) → (s.get Reg.UPD_STATUS.TARGET 0 = 1 ∨ s.get
      Reg.UPD_STATUS.TARGET 0 = 2) → Memory.wf s.mem = true → s.fwTooLarge s.updSlot = false → ((s.sections s.updSlot).all fun c => c.typ ≠ 4 ∧ c.typ ≠ 3) → Answers
      (.prepareComplete good) s fun t => t.upd = Upd.prepared ∧ t.on Hid.UPD_STAGE 0 = false ∧ t.accepted (updKind 6) = false ∧ (t.jrnA.head?.map (fun e => (e.kind,
      e.status)) = some (JKind.complete, JStatus.ok)) ∧ (∀ m : Fin 2, s.on Hid.PRESENT m → t.rdBytes (mgrMem m stageMfw) (s.fwBytes s.updSlot 1).length = s.fwBytes
      s.updSlot 1 ∧ t.rdBytes (mgrMem m stageSfw) (s.fwBytes s.updSlot 2).length = s.fwBytes s.updSlot 2) ∧ t.get Hid.SHA_MFW 0 = beNat (sha256 (s.fwBytes s.updSlot 1)) %
      2 ^ 256 ∧ (∀ x : Fin 100, t.get Hid.BANK_PREP x = 0)) ∧
  (∀ (good : Bool) (s : State), good = false → s.on Hid.UPD_STAGE 0 → s.upd = Upd.verified → s.accepted (updKind 6) → Answers (.prepareComplete good) s fun t => t.upd =
      Upd.verified ∧ t.on Hid.UPD_STAGE 0 = false ∧ t.get Reg.UPD_STATUS.LAST_STATUS 0 = UpdSt.flash ∧ (t.jrnA.head?.map (fun e => (e.kind, e.status)) = some
      (JKind.complete, UpdSt.flash))) ∧
  (∀ (good : Bool) (s : State), good → s.on Hid.UPD_STAGE 0 → s.upd = Upd.verified → s.accepted (updKind 6) → Answers (.prepareComplete good) s fun t => t.upd =
      Upd.prepared ∧ t.on Hid.UPD_STAGE 0 = false ∧ t.accepted (updKind 6) = false ∧ (t.jrnA.head?.map (fun e => (e.kind, e.status)) = some (JKind.complete, JStatus.ok))) ∧
  (∀ (good : Bool) (s : State), good = false → s.on Hid.UPD_STAGE 0 → s.upd = Upd.reverting → Answers (.prepareComplete good) s fun t => t.upd = Upd.idle ∧ t.on
      Hid.UPD_STAGE 0 = false ∧ t.on Reg.UPD_STATUS.REVERT_PEND 0) ∧
  (∀ (good : Bool) (s : State), s.on Hid.UPD_STAGE 0 = false → Answers (.prepareComplete good) s fun t => t = s) ∧
  (∀ (msg : PortMsg) (s : State), s.portGives 7 msg [] → s.upd = Upd.prepared → s.recovering → Answers (.updActivate msg) s fun t => t.upd = Upd.idle ∧ t.dev = Dev.load ∧
      t.on Reg.LOAD_STATUS.LOADING 0 ∧ t.on Reg.LOAD_STATUS.LOAD_FAIL 0 = false ∧ t.accepted (updKind 7) = false ∧ (t.jrnA.head?.map (fun e => (e.kind, e.status)) = some
      (JKind.complete, JStatus.ok)) ∧ (s.on Hid.PRESENT s.act → Memory.wf s.mem = true → (s.selector.elim 0 fun c => s.selSeq c.1 c.2) < 2 ^ 32 - 1 → t.selSlot =
      s.updSlot + 1 ∧ t.get Hid.FIRST_SLOT 0 = s.updSlot + 1) ∧ portTold t 7 JStatus.ok msg) ∧
  (∀ (msg : PortMsg) (s : State), s.portGives 7 msg [] → s.upd = Upd.prepared → (s.dev = Dev.run ∨ s.dev = Dev.arm) → s.activateBusy = false → (s.present.all fun m =>
      s.stagedOk m) → s.banksOk → s.liveConflict s.updSlot = none → (s.resulting s.updSlot).configRules → Answers (.updActivate msg) s fun t => t.upd = Upd.activating ∧
      (t.get Hid.UPD_STEP 0 = 2 ∨ t.get Hid.UPD_STEP 0 = 4) ∧ (t.get Hid.UPD_STEP 0 = 2 → t.get Hid.UPD_RAIL 0 < 48) ∧ t.get Hid.FW_NEW 0 = 0 ∧ t.get Hid.FW_NEW 1 = 0 ∧
      t.accepted (updKind 7) ∧ portTold t 7 JStatus.ok msg) ∧
  (∀ (msg : PortMsg) (s : State), s.portGives 7 msg [] → s.upd = Upd.prepared → s.recovering = false → s.dev ≠ Dev.run → s.dev ≠ Dev.arm → Answers (.updActivate msg) s
      fun t => t.logged JKind.refused JStatus.badState noTarget ∧ portTold t 7 JStatus.badState msg) ∧
  (∀ (msg : PortMsg) (s : State), s.portGives 7 msg [] → s.upd = Upd.prepared → (s.dev = Dev.run ∨ s.dev = Dev.arm) → s.activateBusy → Answers (.updActivate msg) s fun t
      => t.logged JKind.refused UpdSt.busy noTarget ∧ portTold t 7 UpdSt.busy msg ∧ t.upd = Upd.prepared ∧ OnlyFieldsLog portFlds
      { s with hbReply := t.hbReply, svcReply := t.svcReply } t) ∧
  (∀ (s : State), s.upd = Upd.activating → s.get Hid.UPD_STEP 0 = 2 → s.get Hid.UPD_RAIL 0 < 48 → ((s.tilesOf (s.get Hid.UPD_RAIL 0)).all fun t => !s.on
      Reg.RAIL_ENG_STATUS.SWAP_PEND (railIx t (s.get Hid.UPD_RAIL 0))) → (∀ r : Fin 48, s.get Hid.UPD_RAIL 0 < r.val → s.phasesOf r.val = []) → s.imageRegs (s.actSlot -
      1) = [] → Answers (.activationRailStep) s fun t => t.get Hid.UPD_STEP 0 = 4 ∧ t.get Hid.UPD_RAIL 0 = 48 ∧ t.upd = s.upd ∧ (t.perms = (((s.sections (s.actSlot -
      1)).filter fun c => c.typ = 5).getLast?).elim [] fun c => (permTable (s.secBytes (s.actSlot - 1) c)).getD [])) ∧
  (∀ (s : State), (s.upd = Upd.activating ∨ s.upd = Upd.reverting) → s.get Hid.UPD_STEP 0 = 2 → (s.get Hid.UPD_RAIL 0) < 48 → ((s.tilesOf (s.get Hid.UPD_RAIL 0)).all fun
      t => !s.on Reg.RAIL_ENG_STATUS.SWAP_PEND (railIx t (s.get Hid.UPD_RAIL 0))) → Answers (.activationRailStep) s fun v => ∃ t : State, v = t.railsFrom ((List.range
      48).drop ((s.get Hid.UPD_RAIL 0) + 1)) ∧ ((s.newLaw (s.actSlot - 1) (s.get Hid.UPD_RAIL 0)).getD 0 = 0 → t = s) ∧ (∀ l : Fin 256, s.newLaw (s.actSlot - 1) (s.get
      Hid.UPD_RAIL 0) = some l.val → l.val ≠ 0 → t.get Reg.RAIL_LAW.LAW_ID (s.homeIx (s.get Hid.UPD_RAIL 0)) = l.val ∧ t.get Reg.RAIL_LAW.LOADED_ID (s.homeIx (s.get
      Hid.UPD_RAIL 0)) = l.val) ∧ OnlyFields [Reg.RAIL_LAW.LAW_ID, Reg.RAIL_LAW.LOADED_ID] s t) ∧
  (∀ (s : State), s.upd ≠ Upd.activating → s.upd ≠ Upd.reverting → Answers (.activationRailStep) s fun t => t = s) ∧
  (∀ (s : State), s.upd = Upd.activating → s.get Hid.UPD_STEP 0 = 2 → s.get Hid.UPD_RAIL 0 < 48 → ((s.tilesOf (s.get Hid.UPD_RAIL 0)).any fun t => s.on
      Reg.RAIL_ENG_STATUS.SWAP_PEND (railIx t (s.get Hid.UPD_RAIL 0))) → Answers (.activationRailStep) s fun t => t = s) ∧
  (∀ (m : Mgr) (s : State), s.upd = Upd.activating → s.get Hid.UPD_STEP 0 = 4 → s.on Hid.PRESENT m.val → s.on Hid.FW_NEW m.val = false → s.isActive m.val = false → s.on
      Reg.REIN_STATUS.SHADOW_READY m.val → Answers (.activationReset m) s fun t => t.on Hid.FW_NEW m.val ∧ t.on Hid.PRESENT m.val = false ∧ t.get Hid.ST_STATE m.val = 1 ∧
      t.upd = Upd.activating ∧ t.get Hid.UPD_STEP 0 = 4 ∧ (s.stagedOk m.val → Memory.wf s.mem = true → t.rdBytes (mgrMem m.val 0x10000000) (s.get Hid.LEN_MFW 0) =
      s.rdBytes (mgrMem m.val stageMfw) (s.get Hid.LEN_MFW 0))) ∧
  (∀ (m : Mgr) (s : State), (s.upd = Upd.activating ∨ s.upd = Upd.reverting) → s.get Hid.UPD_STEP 0 = 4 → s.on Hid.PRESENT m.val → s.on Hid.FW_NEW m.val = false →
      s.isActive m.val → s.on Hid.PRESENT (peer m.val) → s.on Reg.REIN_STATUS.SHADOW_READY (peer m.val) → s.on Hid.FW_NEW (peer m.val) → Answers (.activationReset m) s
      fun t => t.isActive (peer m.val) ∧ t.isActive m.val = false ∧ t.on Hid.PRESENT m.val = false ∧ t.get Hid.ST_STATE m.val = 1 ∧ t.upd = (if s.upd = Upd.activating
      then Upd.trial else Upd.idle) ∧ t.get Hid.UPD_STEP 0 = 0 ∧ t.get Reg.LOAD_STATUS.SLOT 0 = s.actSlot % 2 ^ Reg.LOAD_STATUS.SLOT.wid) ∧
  (∀ (m : Mgr) (s : State), (s.upd = Upd.activating ∨ s.upd = Upd.reverting) → s.get Hid.UPD_STEP 0 = 4 → s.on Hid.PRESENT m.val → s.on Hid.FW_NEW m.val = false →
      s.isActive m.val → s.on Hid.PRESENT (peer m.val) = false → s.on Hid.FW_NEW (peer m.val) = false → Answers (.activationReset m) s fun t => t.upd = (if s.upd =
      Upd.activating then Upd.trial else Upd.idle) ∧ t.get Hid.UPD_STEP 0 = 0 ∧ t.on Hid.FW_NEW m.val = false ∧ t.get Reg.LOAD_STATUS.SLOT 0 = s.actSlot % 2 ^
      Reg.LOAD_STATUS.SLOT.wid) ∧
  (∀ (m : Mgr) (s : State), (s.on Hid.PRESENT m.val = false ∨ s.on Hid.FW_NEW m.val ∨ s.get Hid.UPD_STEP 0 ≠ 4 ∨ (s.isActive m.val = false ∧ s.on
      Reg.REIN_STATUS.SHADOW_READY m.val = false)) → Answers (.activationReset m) s fun t => t = s) ∧
  (∀ (m : Mgr) (s : State), s.upd ≠ Upd.activating → s.upd ≠ Upd.reverting → Answers (.activationReset m) s fun t => t = s) ∧
  (∀ (msg : PortMsg) (supplyOk : Bool) (s : State), s.portGives 8 msg [] → s.upd = Upd.trial → s.fullBeat < s.get Hid.UPD_DEADLINE 0 → s.on Reg.LBIST_STATUS.COMPLETE_ST
      s.act → s.get Reg.UPD_ROLLBACK.IMAGE_RB 0 ≤ s.get Reg.UPD_ROLLBACK.BLOWN 0 → Answers (.healthConfirm msg supplyOk) s fun t => t.upd = Upd.idle ∧ t.get
      Reg.UPD_STATUS.EVT 0 = 1 ∧ portTold t 8 JStatus.ok msg ∧ t.entered JKind.done JStatus.ok noTarget (updCode (PortMsg.port msg) 8) 0 ∧ (s.on Hid.PRESENT s.act →
      Memory.wf s.mem = true → (s.get Reg.LOAD_STATUS.SLOT 0 = 1 ∨ s.get Reg.LOAD_STATUS.SLOT 0 = 2) → (s.selector.elim 0 fun c => s.selSeq c.1 c.2) < 2 ^ 32 - 1 →
      t.selSlot = s.get Reg.LOAD_STATUS.SLOT 0 ∧ t.selByte 5 = 0 ∧ t.selByte 6 = s.get Hid.UPD_PRIOR 0) ∧ OnlyFieldsLog (portFlds ++ [Reg.UPD_STATUS.STATE,
      Reg.UPD_STATUS.EVT]) { s with hbReply := t.hbReply, svcReply := t.svcReply, mem := t.mem, feBad := t.feBad } t) ∧
  (∀ (msg : PortMsg) (supplyOk : Bool) (s : State), s.portGives 8 msg [] → s.upd = Upd.trial → s.get Hid.UPD_DEADLINE 0 ≤ s.fullBeat → Answers (.healthConfirm msg
      supplyOk) s fun t => t.logged JKind.refused UpdSt.deadline noTarget ∧ portTold t 8 UpdSt.deadline msg ∧ t.upd = Upd.trial ∧ OnlyFieldsLog portFlds
      { s with hbReply := t.hbReply, svcReply := t.svcReply } t) ∧
  (∀ (msg : PortMsg) (supplyOk : Bool) (s : State), s.portGives 8 msg [] → s.upd = Upd.trial → s.fullBeat < s.get Hid.UPD_DEADLINE 0 → s.on Reg.LBIST_STATUS.COMPLETE_ST
      s.act = false → Answers (.healthConfirm msg supplyOk) s fun t => t.logged JKind.refused UpdSt.notTested noTarget ∧ portTold t 8 UpdSt.notTested msg ∧ t.upd =
      Upd.trial ∧ OnlyFieldsLog portFlds { s with hbReply := t.hbReply, svcReply := t.svcReply } t) ∧
  (∀ (msg : PortMsg) (s : State), s.portGives 9 msg [] → s.upd = Upd.trial → s.get Hid.UPD_PRIOR 0 ≠ 0 → s.slotCheck (s.get Hid.UPD_PRIOR 0 - 1) = Fail.none → s.digestOk
      (s.get Hid.UPD_PRIOR 0 - 1) → Answers (.updRevert msg) s fun t => t.upd = Upd.reverting ∧ t.on Hid.UPD_STAGE 0 ∧ t.get Hid.UPD_HOST 0 = 1 ∧ t.accepted (updKind 9) ∧
      portTold t 9 JStatus.ok msg ∧ t.entered JKind.accepted JStatus.ok noTarget (updCode (PortMsg.port msg) 9) 0 ∧ BytesBut inMaps s t ∧ OnlyFieldsLog (portFlds ++
      [Reg.UPD_STATUS.STATE, Reg.UPD_STATUS.EVT, Hid.UPD_HOST, Hid.UPD_STAGE]) { s with hbReply := t.hbReply, svcReply := t.svcReply, mem := t.mem, feBad := t.feBad } t) ∧
  (∀ (msg : PortMsg) (s : State), s.portGives 9 msg [] → s.upd = Upd.trial → s.get Hid.UPD_PRIOR 0 = 0 → Answers (.updRevert msg) s fun t => t.upd = Upd.idle ∧ t.on
      Reg.UPD_STATUS.REVERT_FAIL 0 ∧ t.accepted (updKind 9) = false ∧ t.get Reg.UPD_STATUS.LAST_STATUS 0 = UpdSt.revertFail ∧ (t.jrnA.head?.map (fun e => (e.kind,
      e.status)) = some (JKind.complete, UpdSt.revertFail)) ∧ OnlyFieldsLog (portFlds ++ [Reg.UPD_STATUS.STATE, Reg.UPD_STATUS.EVT, Hid.UPD_HOST,
      Reg.UPD_STATUS.REVERT_FAIL]) { s with hbReply := t.hbReply, svcReply := t.svcReply, mem := t.mem, feBad := t.feBad } t) ∧
  (∀ (s : State), s.upd = Upd.trial → s.active.isSome → s.get Hid.UPD_DEADLINE 0 ≤ s.fullBeat → s.get Hid.UPD_PRIOR 0 ≠ 0 → s.slotCheck (s.get Hid.UPD_PRIOR 0 - 1) =
      Fail.none → s.digestOk (s.get Hid.UPD_PRIOR 0 - 1) → Answers (.trialDeadline) s fun t => t.upd = Upd.reverting ∧ t.on Hid.UPD_STAGE 0 ∧ t.get Hid.UPD_HOST 0 = 0 ∧
      BytesBut inMaps s t ∧ OnlyFields [Reg.UPD_STATUS.STATE, Reg.UPD_STATUS.EVT, Hid.UPD_HOST, Hid.UPD_STAGE] { s with mem := t.mem, feBad := t.feBad } t) ∧
  (∀ (s : State), s.upd = Upd.trial → s.active.isSome → s.get Hid.UPD_DEADLINE 0 ≤ s.fullBeat → s.get Hid.UPD_PRIOR 0 = 0 → Answers (.trialDeadline) s fun t => t.upd =
      Upd.idle ∧ t.on Reg.UPD_STATUS.REVERT_FAIL 0 ∧ (t.jrnA.head?.map (fun e => (e.kind, e.status)) = some (JKind.action, UpdSt.revertFail)) ∧ OnlyFieldsLog
      [Reg.UPD_STATUS.STATE, Reg.UPD_STATUS.EVT, Hid.UPD_HOST, Reg.UPD_STATUS.REVERT_FAIL] { s with mem := t.mem, feBad := t.feBad } t) ∧
  (∀ (s : State), (s.upd ≠ Upd.trial ∨ s.fullBeat < s.get Hid.UPD_DEADLINE 0) → Answers (.trialDeadline) s fun t => t = s) ∧
  (∀ (supplyOk : Bool) (s : State), s.on Reg.UPD_STATUS.ROLLBACK_PEND 0 → s.active.isSome → s.rollbackDue → s.on Hid.FMAP_ON 0 = false → s.fuseHolds supplyOk true = 0 →
      Answers (.rollbackRetry supplyOk) s fun t => t.on Reg.FUSE_STATUS.PROG_BUSY 0 ∧ t.on Hid.FMAP_ON 0 ∧ t.get Hid.FMAP_FIELD 0 = FuseId.rollback ∧ t.getAt
      Hid.FMAP_DATA 0 0 = (2 ^ s.get Hid.ROLL_WANT 0 - 1) % 2 ^ 32 ∧ t.get Hid.FMAP_BY 0 = For.rollback ∧ t.get Hid.ROLL_AT 0 = s.beat % 2 ^ Hid.ROLL_AT.wid ∧ OnlyFields
      [Hid.ROLL_AT, Reg.FUSE_STATUS.PROG_BUSY, Hid.FMAP_ON, Hid.FMAP_FIELD, Hid.FMAP_WORD, Hid.FMAP_LEN, Hid.FMAP_DONE, Hid.FMAP_BY, Hid.FMAP_DATA] s t) ∧
  (∀ (supplyOk : Bool) (s : State), s.on Reg.UPD_STATUS.ROLLBACK_PEND 0 → s.active.isSome → s.rollbackDue → s.on Hid.FMAP_ON 0 = false → s.fuseHolds supplyOk true ≠ 0 →
      Answers (.rollbackRetry supplyOk) s fun t => t.on Reg.UPD_STATUS.ROLLBACK_PEND 0 ∧ t.get Reg.FUSE_STATUS.REFUSE 0 = s.fuseHolds supplyOk true ∧ t.get Hid.ROLL_AT 0
      = s.beat % 2 ^ Hid.ROLL_AT.wid ∧ OnlyFields [Hid.ROLL_AT, Reg.UPD_STATUS.ROLLBACK_PEND, Reg.FUSE_STATUS.PROG_RESULT, Reg.FUSE_STATUS.REFUSE] s t) ∧
  (∀ (supplyOk : Bool) (s : State), (s.on Reg.UPD_STATUS.ROLLBACK_PEND 0 = false ∨ s.rollbackDue = false) → Answers (.rollbackRetry supplyOk) s fun t => t = s)

/-- A word written to any register of the active manager's map, by a core, a port or a frame on the crossing, gives each RW field its part, clears the W1C bits written as 1, leaves RO fields and locked fields, and meets a hardware update of the same cycle as the table of R11 says: a plain register, one without a command bit, changes nothing else. A word that a rule of the register refuses leaves the register as it was and sets the block's refusal bit. Part of a register, an offset without a field, a governed register of the shadow, read-only memory and an empty address are bus errors; the block of a rail that is absent from the tile takes the write and reads 0. Memory takes the bytes, its secure part from the cores that may reach it; a program word of the bank that runs is refused; a data-memory word waits for the tile's boundary. Writes of one cycle apply in the order of their initiators. A read gives the word; the read of a low word takes the high word with it, and the high word answers from that. A frame is counted where its sender has lost the role. Readings and choices of the model that it rests on: log entries 6, 11, 70, 73. -/
def Obligations.RegisterAccesses : Prop :=
  (∀ (w : Who) (m : Mgr) (secure : Bool) (addr : BitVec 32) (bytes : Nat) (data : Word) (hw : List HwUpdate) (more : List OneWrite) (b : Blk) (i off : Nat) (s : State),
      more = [] → bytes = 4 → addr.toNat % 4 = 0 → place addr.toNat = .block b i off → plainReg b off → s.reach w m = s.act → s.isActive s.act → s.emptyRail b i = false →
      s.regRefuses b i off data.toNat = false → Answers (.regWrite w m secure addr bytes data hw more) s fun t => (∀ x ∈ fieldsAt b off, t.getAt x.1 (x.1.at s.act i) x.2
      = s.taken b off x.1 (x.1.at s.act i) x.2 data.toNat hw) ∧ t.getAt Hid.BUS_ERR s.act (whoIx w) = 0 ∧ OnlyCells ((Hid.BUS_ERR, s.act, whoIx w) :: regCells b s.act i
      off) s t) ∧
  (∀ (w : Who) (m : Mgr) (secure : Bool) (addr : BitVec 32) (bytes : Nat) (data : Word) (hw : List HwUpdate) (more : List OneWrite) (b : Blk) (i off : Nat) (s : State),
      more = [] → bytes = 4 → addr.toNat % 4 = 0 → place addr.toNat = .block b i off → fieldsAt b off ≠ [] → s.reach w m = s.act → s.isActive s.act → s.emptyRail b i =
      false → Answers (.regWrite w m secure addr bytes data hw more) s fun t => t = (s.served w m).regWrite w s.act b i off data.toNat hw) ∧
  (∀ (w : Who) (m : Mgr) (secure : Bool) (addr : BitVec 32) (bytes : Nat) (data : Word) (hw : List HwUpdate) (more : List OneWrite) (b : Blk) (i off : Nat) (s : State),
      more = [] → bytes = 4 → addr.toNat % 4 = 0 → place addr.toNat = .block b i off → fieldsAt b off ≠ [] → hw = [] → s.reach w m = s.act → s.isActive s.act →
      s.emptyRail b i = false → s.regRefuses b i off data.toNat → Answers (.regWrite w m secure addr bytes data hw more) s fun t => (∀ x ∈ fieldsAt b off, refusalBit b
      off ≠ some x.1 → t.getAt x.1 (x.1.at s.act i) x.2 = s.getAt x.1 (x.1.at s.act i) x.2) ∧ ((refusalBit b off).all (fun f => decide (t.getAt f (refusalCell b s.act i
      off f).2.1 (refusalCell b s.act i off f).2.2 = 1)))) ∧
  (∀ (w : Who) (m : Mgr) (secure : Bool) (addr : BitVec 32) (bytes : Nat) (data : Word) (hw : List HwUpdate) (more : List OneWrite) (b : Blk) (i off : Nat) (s : State),
      more = [] → bytes = 4 → addr.toNat % 4 = 0 → place addr.toNat = .block b i off → plainReg b off → hw = [] → s.reach w m = s.act → s.isActive s.act → s.emptyRail b i
      = false → s.regRefuses b i off data.toNat → Answers (.regWrite w m secure addr bytes data hw more) s fun t => (OnlyCells ((Hid.BUS_ERR, s.act, whoIx w) ::
      (((refusalBit b off).elim [] fun f => [refusalCell b s.act i off f]) ++ (lockOf b off).elim [] fun l => [(l.2, 0, 0)])) s t)) ∧
  (∀ (w : Who) (m : Mgr) (secure : Bool) (addr : BitVec 32) (bytes : Nat) (data : Word) (hw : List HwUpdate) (more : List OneWrite) (b : Blk) (i off : Nat) (s : State),
      more = [] → bytes = 4 → addr.toNat % 4 = 0 → place addr.toNat = .block b i off → s.emptyRail b i → hw = [] → s.isActive (s.reach w m) → Answers (.regWrite w m
      secure addr bytes data hw more) s fun t => t = s.served w m) ∧
  (∀ (w : Who) (m : Mgr) (secure : Bool) (addr : BitVec 32) (bytes : Nat) (data : Word) (hw : List HwUpdate) (more : List OneWrite) (b : Blk) (i off : Nat) (s : State),
      more = [] → bytes = 4 → addr.toNat % 4 = 0 → place addr.toNat = .block b i off → fieldsAt b off = [] → (s.emptyRail b i = false ∨ s.isActive (s.reach w m) = false)
      → Answers (.regWrite w m secure addr bytes data hw more) s fun t => t = s.busError w m) ∧
  (∀ (w : Who) (m : Mgr) (secure : Bool) (addr : BitVec 32) (bytes : Nat) (data : Word) (hw : List HwUpdate) (more : List OneWrite) (b : Blk) (i off : Nat) (s : State),
      more = [] → hw = [] → place addr.toNat = .block b i off → (addr.toNat % 4 ≠ 0 ∨ bytes ≠ 4) → Answers (.regWrite w m secure addr bytes data hw more) s fun t => t =
      s.busError w m) ∧
  (∀ (w : Who) (m : Mgr) (secure : Bool) (addr : BitVec 32) (bytes : Nat) (data : Word) (hw : List HwUpdate) (more : List OneWrite) (b : Blk) (i off : Nat) (s : State),
      more = [] → bytes = 4 → addr.toNat % 4 = 0 → place addr.toNat = .block b i off → b.onMgr → hw = [] → s.reach w m ≠ s.act → ownWord b off → plainReg b off → Answers
      (.regWrite w m secure addr bytes data hw more) s fun t => (∀ x ∈ fieldsAt b off, t.getAt x.1 (x.1.at (s.reach w m) i) x.2 = (if x.1.perDie then s.taken b off x.1
      (x.1.at (s.reach w m) i) x.2 data.toNat [] else s.getAt x.1 (x.1.at (s.reach w m) i) x.2)) ∧ OnlyCells ((Hid.BUS_ERR, s.reach w m, whoIx w) :: regCells b (s.reach w
      m) i off) s t) ∧
  (∀ (w : Who) (m : Mgr) (secure : Bool) (addr : BitVec 32) (bytes : Nat) (data : Word) (hw : List HwUpdate) (more : List OneWrite) (b : Blk) (i off : Nat) (s : State),
      more = [] → bytes = 4 → addr.toNat % 4 = 0 → place addr.toNat = .block b i off → fieldsAt b off ≠ [] → hw = [] → ((b.onMgr ∧ s.reach w m ≠ s.act ∧ ownWord b off =
      false) ∨ (b.onMgr = false ∧ s.isActive (s.reach w m) = false)) → Answers (.regWrite w m secure addr bytes data hw more) s fun t => t = s.busError w m) ∧
  (∀ (w : Who) (m : Mgr) (secure : Bool) (addr : BitVec 32) (bytes : Nat) (data : Word) (hw : List HwUpdate) (more : List OneWrite) (x : OneWrite) (s : State), more = [x]
      → hw = [] → Answers (.regWrite w m secure addr bytes data hw more) s fun t => t = (if whoIx x.who < whoIx w then (s.busWrite x.who m x.secure x.addr.toNat x.bytes
      x.data []).busWrite w m secure addr.toNat bytes data [] else (s.busWrite w m secure addr.toNat bytes data []).busWrite x.who m x.secure x.addr.toNat x.bytes x.data
      [])) ∧
  (∀ (w : Who) (m : Mgr) (secure : Bool) (addr : BitVec 32) (bytes : Nat) (data : Word) (hw : List HwUpdate) (more : List OneWrite) (s : State), more = [] → s.reach w m =
      s.act → s.active.isSome → s.isActive s.act → bytes = 4 → hw = [] → addr.toNat = Reg.UPD_CFG.HC_DEADLINE.addr (0) (0) → 1 ≤ Reg.UPD_CFG.HC_DEADLINE.part data.toNat →
      Reg.UPD_CFG.HC_DEADLINE.part data.toNat ≤ 60 → Answers (.regWrite w m secure addr bytes data hw more) s fun t => t.get Reg.UPD_CFG.HC_DEADLINE 0 =
      Reg.UPD_CFG.HC_DEADLINE.part data.toNat ∧ t.get Reg.UPD_CFG.TGT_B 0 = Reg.UPD_CFG.TGT_B.part data.toNat ∧ t.getAt Hid.BUS_ERR s.act (whoIx w) = 0 ∧ OnlyFields
      [Reg.UPD_CFG.HC_DEADLINE, Reg.UPD_CFG.TGT_B, Hid.BUS_ERR] s t) ∧
  (∀ (w : Who) (m : Mgr) (secure : Bool) (addr : BitVec 32) (bytes : Nat) (data : Word) (hw : List HwUpdate) (more : List OneWrite) (s : State), more = [] → s.reach w m =
      s.act → s.active.isSome → s.isActive s.act → bytes = 4 → hw = [] → addr.toNat = Reg.UPD_CFG.HC_DEADLINE.addr (0) (0) → (Reg.UPD_CFG.HC_DEADLINE.part data.toNat = 0
      ∨ 60 < Reg.UPD_CFG.HC_DEADLINE.part data.toNat) → Answers (.regWrite w m secure addr bytes data hw more) s fun t => t.get Reg.UPD_STATUS.CFG_REJ 0 = 1 ∧ OnlyFields
      [Reg.UPD_STATUS.CFG_REJ, Hid.BUS_ERR] s t) ∧
  (∀ (w : Who) (m : Mgr) (secure : Bool) (addr : BitVec 32) (bytes : Nat) (data : Word) (hw : List HwUpdate) (more : List OneWrite) (s : State), more = [] → s.reach w m =
      s.act → s.active.isSome → s.isActive s.act → bytes = 4 → hw = [] → addr.toNat = Reg.UPD_STATUS.EVT.addr (0) (0) → data = 0x8000 → Answers (.regWrite w m secure addr
      bytes data hw more) s fun t => t.get Reg.UPD_STATUS.EVT 0 = 0 ∧ OnlyFields [Reg.UPD_STATUS.EVT, Hid.BUS_ERR] s t) ∧
  (∀ (w : Who) (m : Mgr) (secure : Bool) (addr : BitVec 32) (bytes : Nat) (data : Word) (hw : List HwUpdate) (more : List OneWrite) (s : State), more = [] → s.reach w m =
      s.act → s.active.isSome → s.isActive s.act → bytes = 4 → hw = [] → addr.toNat = Reg.UPD_STATUS.EVT.addr (0) (0) → data.toNat &&& 0xE300 = 0 → Answers (.regWrite w m
      secure addr bytes data hw more) s fun t => t.get Reg.UPD_STATUS.EVT 0 = s.get Reg.UPD_STATUS.EVT 0 ∧ OnlyFields [Hid.BUS_ERR] s t) ∧
  (∀ (w : Who) (m : Mgr) (secure : Bool) (addr : BitVec 32) (bytes : Nat) (data : Word) (hw : List HwUpdate) (more : List OneWrite) (s : State), more = [] → s.reach w m =
      s.act → s.active.isSome → s.isActive s.act → bytes = 4 → addr.toNat = Reg.UPD_STATUS.EVT.addr (0) (0) → data = 0x8000 → hw = [⟨15, 1⟩] → Answers (.regWrite w m
      secure addr bytes data hw more) s fun t => t.get Reg.UPD_STATUS.EVT 0 = 1 ∧ OnlyFields [Reg.UPD_STATUS.EVT, Hid.BUS_ERR] s t) ∧
  (∀ (w : Who) (m : Mgr) (secure : Bool) (addr : BitVec 32) (bytes : Nat) (data : Word) (hw : List HwUpdate) (more : List OneWrite) (s : State), more = [] → s.reach w m =
      s.act → s.active.isSome → s.isActive s.act → bytes = 4 → hw = [] → addr.toNat = Reg.UPD_PROGRESS.TOTAL.addr (0) (0) → Answers (.regWrite w m secure addr bytes data
      hw more) s fun t => OnlyFields [Hid.BUS_ERR] s t) ∧
  (∀ (w : Who) (m : Mgr) (secure : Bool) (addr : BitVec 32) (bytes : Nat) (data : Word) (hw : List HwUpdate) (more : List OneWrite) (p : Phase) (s : State), more = [] →
      s.reach w m = s.act → s.active.isSome → s.isActive s.act → bytes = 4 → hw = [] → addr.toNat = Reg.PH_ICAL.IOFS.addr (p) (0) → Answers (.regWrite w m secure addr
      bytes data hw more) s fun t => t.get Reg.PH_ICAL.IOFS p = Reg.PH_ICAL.IOFS.part data.toNat ∧ t.get Reg.PH_ICAL.IPH_SCALE p = Reg.PH_ICAL.IPH_SCALE.part data.toNat ∧
      OnlyCells [(Reg.PH_ICAL.IOFS, p, 0), (Reg.PH_ICAL.IPH_SCALE, p, 0), (Hid.BUS_ERR, s.act, whoIx w)] s t) ∧
  (∀ (w : Who) (m : Mgr) (secure : Bool) (addr : BitVec 32) (bytes : Nat) (data : Word) (hw : List HwUpdate) (more : List OneWrite) (p : Phase) (x : Word) (s : State),
      more = [] → s.reach w m = s.act → s.active.isSome → s.isActive s.act → bytes = 4 → addr.toNat = Reg.PH_ICAL.IOFS.addr (p) (0) → hw = [⟨0, x⟩] → Answers (.regWrite w
      m secure addr bytes data hw more) s fun t => t.get Reg.PH_ICAL.IOFS p = x.toNat % 2 ^ 12 ∧ t.get Reg.PH_ICAL.IPH_SCALE p = Reg.PH_ICAL.IPH_SCALE.part data.toNat ∧
      t.get Reg.PH_STATUS.ICAL_WR_LOST p = 1 ∧ OnlyCells [(Reg.PH_ICAL.IOFS, p, 0), (Reg.PH_ICAL.IPH_SCALE, p, 0), (Reg.PH_STATUS.ICAL_WR_LOST, p, 0), (Hid.BUS_ERR,
      s.act, whoIx w)] s t) ∧
  (∀ (w : Who) (m : Mgr) (secure : Bool) (addr : BitVec 32) (bytes : Nat) (data : Word) (hw : List HwUpdate) (more : List OneWrite) (s : State), more = [] → s.reach w m =
      s.act → s.active.isSome → s.isActive s.act → bytes = 4 → hw = [] → addr.toNat = Reg.WDT_CFG.PERIOD.addr (0) (0) → s.on Reg.WDT_CFG.LOCK 0 → s.lockHit .wdt 0 →
      Answers (.regWrite w m secure addr bytes data hw more) s fun t => t.get Reg.WDT_STATUS.CFG_REJ 0 = 1 ∧ t.get Hid.LV_WDT 0 = 1 ∧ OnlyFields [Reg.WDT_STATUS.CFG_REJ,
      Hid.LV_WDT, Hid.BUS_ERR] s t) ∧
  (∀ (w : Who) (m : Mgr) (secure : Bool) (addr : BitVec 32) (bytes : Nat) (data : Word) (hw : List HwUpdate) (more : List OneWrite) (s : State), more = [] → s.reach w m =
      s.act → s.active.isSome → s.isActive s.act → bytes = 4 → hw = [] → addr.toNat = Reg.WDT_CFG.PERIOD.addr (0) (0) → s.on Reg.WDT_CFG.LOCK 0 = false → data = 0x640A02
      → Answers (.regWrite w m secure addr bytes data hw more) s fun t => t.get Reg.WDT_CFG.PERIOD 0 = 100 ∧ t.get Reg.WDT_CFG.PULSE 0 = 10 ∧ t.get Reg.WDT_CFG.RST_EN 0 =
      0 ∧ t.on Reg.WDT_CFG.LOCK 0 ∧ OnlyFields [Reg.WDT_CFG.PERIOD, Reg.WDT_CFG.PULSE, Reg.WDT_CFG.RST_EN, Reg.WDT_CFG.LOCK, Hid.BUS_ERR] s t) ∧
  (∀ (w : Who) (m : Mgr) (secure : Bool) (addr : BitVec 32) (bytes : Nat) (data : Word) (hw : List HwUpdate) (more : List OneWrite) (s : State), more = [] → (place
      addr.toNat = .readOnly ∨ place addr.toNat = .nothing) → Answers (.regWrite w m secure addr bytes data hw more) s fun t => t.getAt Hid.BUS_ERR (s.reach w m) (whoIx
      w) = 1 ∧ OnlyCells [(Hid.BUS_ERR, s.reach w m, whoIx w)] s t) ∧
  (∀ (w : Who) (m : Mgr) (secure : Bool) (addr : BitVec 32) (bytes : Nat) (data : Word) (hw : List HwUpdate) (more : List OneWrite) (s : State), more = [] → 0x400A0000 ≤
      addr.toNat → addr.toNat < 0x400B0000 → (addr.toNat % 4 ≠ 0 ∨ bytes ≠ 4) → hw = [] → Answers (.regWrite w m secure addr bytes data hw more) s fun t => t.getAt
      Hid.BUS_ERR (s.reach w m) (whoIx w) = 1 ∧ OnlyCells [(Hid.BUS_ERR, s.reach w m, whoIx w)] s t) ∧
  (∀ (w : Who) (m : Mgr) (secure : Bool) (addr : BitVec 32) (bytes : Nat) (data : Word) (hw : List HwUpdate) (more : List OneWrite) (s : State), more = [] → 0x400A0000 ≤
      addr.toNat → addr.toNat < 0x400B0000 → s.reach w m ≠ s.act → hw = [] → Answers (.regWrite w m secure addr bytes data hw more) s fun t => t.getAt Hid.BUS_ERR
      (s.reach w m) (whoIx w) = 1 ∧ OnlyCells [(Hid.BUS_ERR, s.reach w m, whoIx w)] s t) ∧
  (∀ (w : Who) (m : Mgr) (secure : Bool) (addr : BitVec 32) (bytes : Nat) (data : Word) (hw : List HwUpdate) (more : List OneWrite) (s : State), more = [] → 0x20000 ≤
      addr.toNat → (memOf addr.toNat = 0 ∨ memOf addr.toNat = 2 ∧ s.reach w m = s.act) → memOf (addr.toNat + bytes - 1) = memOf addr.toNat → (mayReachSecure w secure ∨
      (inSecure addr.toNat = false ∧ inSecure (addr.toNat + bytes - 1) = false)) → (bytes = 1 ∨ bytes = 2 ∨ bytes = 4) → Memory.wf s.mem = true → Answers (.regWrite w m
      secure addr bytes data hw more) s fun t => t.rdBytes (mgrMem (s.reach w m) addr.toNat) bytes = lowBytes bytes data ∧ BytesOutside (mgrMem (s.reach w m) addr.toNat)
      bytes s t ∧ t.getAt Hid.BUS_ERR (s.reach w m) (whoIx w) = 0 ∧ OnlyCellsMem [(Hid.BUS_ERR, s.reach w m, whoIx w)] s t) ∧
  (∀ (w : Who) (m : Mgr) (secure : Bool) (addr : BitVec 32) (bytes : Nat) (data : Word) (hw : List HwUpdate) (more : List OneWrite) (s : State), more = [] → memOf
      addr.toNat = 0 → memOf (addr.toNat + bytes - 1) = 0 → (inSecure addr.toNat ∨ inSecure (addr.toNat + bytes - 1)) → mayReachSecure w secure = false → Answers
      (.regWrite w m secure addr bytes data hw more) s fun t => t.getAt Hid.BUS_ERR (s.reach w m) (whoIx w) = 1 ∧ t.on Reg.MEM_STATUS.SEC_VIOL (s.reach w m) ∧ OnlyCells
      [(Hid.BUS_ERR, s.reach w m, whoIx w), (Reg.MEM_STATUS.SEC_VIOL, s.reach w m, 0)] s t) ∧
  (∀ (w : Who) (m : Mgr) (secure : Bool) (addr : BitVec 32) (bytes : Nat) (data : Word) (hw : List HwUpdate) (more : List OneWrite) (s : State), more = [] → memOf
      addr.toNat = 3 → bytes = 4 → addr.toNat % 4 = 0 → feFirmware addr.toNat → Memory.wf s.mem = true → Answers (.regWrite w m secure addr bytes data hw more) s fun t =>
      t.rdBytes (mgrMem (s.reach w m) addr.toNat) 4 = lowBytes 4 data ∧ BytesOutside (mgrMem (s.reach w m) addr.toNat) 4 s t ∧ t.getAt Hid.BUS_ERR (s.reach w m) (whoIx w)
      = 0 ∧ OnlyCellsMem [(Hid.BUS_ERR, s.reach w m, whoIx w)] { s with feBad := t.feBad } t) ∧
  (∀ (w : Who) (m : Mgr) (secure : Bool) (addr : BitVec 32) (bytes : Nat) (data : Word) (hw : List HwUpdate) (more : List OneWrite) (c : Fin 4) (s : State), more = [] →
      memOf addr.toNat = 1 → coreOf w = some c.val → addr.toNat + bytes ≤ 0xE0020000 → (bytes = 1 ∨ bytes = 2 ∨ bytes = 4) → Memory.wf s.mem = true → Answers (.regWrite w
      m secure addr bytes data hw more) s fun t => t.rdBytes (coreMem (s.reach w m) c addr.toNat) bytes = lowBytes bytes data ∧ BytesOutside (coreMem (s.reach w m) c
      addr.toNat) bytes s t ∧ t.getAt Hid.BUS_ERR (s.reach w m) (whoIx w) = 0 ∧ OnlyCellsMem [(Hid.BUS_ERR, s.reach w m, whoIx w)] s t) ∧
  (∀ (w : Who) (m : Mgr) (secure : Bool) (addr : BitVec 32) (bytes : Nat) (data : Word) (hw : List HwUpdate) (more : List OneWrite) (u : Tile) (e : Slot) (b : Bool) (k :
      BitVec 10) (s : State), more = [] → bytes = 4 → addr.toNat = progAddr u e b.toNat k.toNat → s.isActive (s.reach w m) → s.get Reg.ENG_STATUS.BANK (engBlock u e) =
      b.toNat → s.memRuns u e → Answers (.regWrite w m secure addr bytes data hw more) s fun t => t.on Reg.ENG_STATUS.PM_WR_REJ (engBlock u e) ∧ OnlyCells [(Hid.BUS_ERR,
      s.reach w m, whoIx w), (Reg.ENG_STATUS.PM_WR_REJ, engBlock u e, 0)] s t) ∧
  (∀ (w : Who) (m : Mgr) (secure : Bool) (addr : BitVec 32) (bytes : Nat) (data : Word) (hw : List HwUpdate) (more : List OneWrite) (u : Tile) (e : Slot) (b : Bool) (k :
      BitVec 10) (s : State), more = [] → bytes = 4 → addr.toNat = progAddr u e b.toNat k.toNat → s.isActive (s.reach w m) → (s.memRuns u e = false ∨ s.get
      Reg.ENG_STATUS.BANK (engBlock u e) ≠ b.toNat) → Memory.wf s.mem = true → Answers (.regWrite w m secure addr bytes data hw more) s fun t => t.rd32 (progAddr u e
      b.toNat k.toNat) = data ∧ BytesOutside (progAddr u e b.toNat k.toNat) 4 s t ∧ t.getAt Hid.BUS_ERR (s.reach w m) (whoIx w) = 0) ∧
  (∀ (w : Who) (m : Mgr) (secure : Bool) (addr : BitVec 32) (bytes : Nat) (data : Word) (hw : List HwUpdate) (more : List OneWrite) (u : Tile) (e : Slot) (k : Fin 512) (s
      : State), more = [] → s.reach w m = s.act → s.active.isSome → s.isActive s.act → bytes = 4 → hw = [] → addr.toNat = dmAddr u e k → Answers (.regWrite w m secure
      addr bytes data hw more) s fun t => t = { s.served w m with dmPend := s.dmPend ++ [(u.val, dmAddr u e k, data)] }) ∧
  (∀ (w : Who) (m : Mgr) (secure : Bool) (addr : BitVec 32) (bytes : Nat) (b : Blk) (i off : Nat) (s : State), bytes = 4 → addr.toNat % 4 = 0 → place addr.toNat = .block
      b i off → fieldsAt b off ≠ [] → s.emptyRail b i = false → (b ≠ .evc ∨ (s.evcRead w (s.reach w m) off).isNone) → (b ≠ .hpd ∨ off < 0x7000 ∨ 0x8000 ≤ off) → lowPair b
      off = none → highPair b off = none → wrapWord b off = false → Answers (.lowWordSnapshotRead w m secure addr bytes) s fun t => t.getAt Hid.READ_DATA (s.reach w m)
      (whoIx w) = s.regWord b (s.reach w m) i off % 2 ^ 32 ∧ t.getAt Hid.BUS_ERR (s.reach w m) (whoIx w) = 0 ∧ OnlyCells [(Hid.READ_DATA, s.reach w m, whoIx w),
      (Hid.BUS_ERR, s.reach w m, whoIx w)] s t) ∧
  (∀ (w : Who) (m : Mgr) (secure : Bool) (addr : BitVec 32) (bytes : Nat) (b : Blk) (i off : Nat) (s : State), bytes = 4 → addr.toNat % 4 = 0 → place addr.toNat = .block
      b i off → fieldsAt b off ≠ [] → b = .hpd → 0x7000 ≤ off → off < 0x8000 → lowPair b off = none → highPair b off = none → Answers (.lowWordSnapshotRead w m secure
      addr bytes) s fun t => t.getAt Hid.READ_DATA (s.reach w m) (whoIx w) = (s.gaugeWake).regWord b (s.reach w m) i off % 2 ^ 32 ∧ OnlyCells [(Hid.READ_DATA, s.reach w
      m, whoIx w), (Hid.BUS_ERR, s.reach w m, whoIx w)] (s.gaugeWake) t) ∧
  (∀ (w : Who) (m : Mgr) (secure : Bool) (addr : BitVec 32) (bytes : Nat) (b : Blk) (i off : Nat) (s : State), bytes = 4 → addr.toNat % 4 = 0 → place addr.toNat = .block
      b i off → fieldsAt b off ≠ [] → s.emptyRail b i = false → (b ≠ .evc ∨ (s.evcRead w (s.reach w m) off).isNone) → (b ≠ .hpd ∨ off < 0x7000 ∨ 0x8000 ≤ off) → wrapWord
      b off → lowPair b off = none → highPair b off = none → Answers (.lowWordSnapshotRead w m secure addr bytes) s fun t => t.getAt Hid.READ_DATA (s.reach w m) (whoIx w)
      = (s.regWord b (s.reach w m) i off + s.snapWraps w b (s.reach w m) i) % 2 ^ 32 ∧ OnlyCells [(Hid.READ_DATA, s.reach w m, whoIx w), (Hid.BUS_ERR, s.reach w m, whoIx
      w)] s t) ∧
  (∀ (w : Who) (m : Mgr) (secure : Bool) (addr : BitVec 32) (bytes : Nat) (b : Blk) (i off : Nat) (s : State), bytes = 4 → addr.toNat % 4 = 0 → place addr.toNat = .block
      b i off → fieldsAt b off ≠ [] → s.emptyRail b i = false → (b ≠ .evc ∨ (s.evcRead w (s.reach w m) off).isNone) → (b ≠ .hpd ∨ off < 0x7000 ∨ 0x8000 ≤ off) → (lowPair
      b off).isSome → Answers (.lowWordSnapshotRead w m secure addr bytes) s fun t => t.getAt Hid.READ_DATA (s.reach w m) (whoIx w) = s.regWord b (s.reach w m) i off % 2
      ^ 32 ∧ ((t.snapAt (s.reach w m) w (blockAddr b i off)).map (fun x => (x.high, x.wrap)) = some ([s.regWord b (s.reach w m) i (off + 4)], lowPair b off = some true &&
      s.wrapAt b (s.reach w m) i off)) ∧ t.snaps.length ≤ s.snaps.length + 1 ∧ OnlyCells [(Hid.READ_DATA, s.reach w m, whoIx w), (Hid.BUS_ERR, s.reach w m, whoIx w)]
      { s with snaps := t.snaps } t) ∧
  (∀ (w : Who) (m : Mgr) (secure : Bool) (addr : BitVec 32) (bytes : Nat) (b : Blk) (i off : Nat) (s : State), bytes = 4 → addr.toNat % 4 = 0 → place addr.toNat = .block
      b i off → fieldsAt b off ≠ [] → s.emptyRail b i = false → (b ≠ .evc ∨ (s.evcRead w (s.reach w m) off).isNone) → (b ≠ .hpd ∨ off < 0x7000 ∨ 0x8000 ≤ off) → lowPair b
      off = none → (highPair b off).isSome → (s.snapAt (s.reach w m) w (blockAddr b i off - 4)).isSome → Answers (.lowWordSnapshotRead w m secure addr bytes) s fun t =>
      (t.getAt Hid.READ_DATA (s.reach w m) (whoIx w) = ((s.snapAt (s.reach w m) w (blockAddr b i off - 4)).elim 0 fun x => x.high.getD 0 0) % 2 ^ 32) ∧ OnlyCells
      [(Hid.READ_DATA, s.reach w m, whoIx w), (Hid.BUS_ERR, s.reach w m, whoIx w)] s t) ∧
  (∀ (w : Who) (m : Mgr) (secure : Bool) (addr : BitVec 32) (bytes : Nat) (b : Blk) (i off : Nat) (s : State), bytes = 4 → addr.toNat % 4 = 0 → place addr.toNat = .block
      b i off → fieldsAt b off ≠ [] → s.emptyRail b i = false → (b ≠ .evc ∨ (s.evcRead w (s.reach w m) off).isNone) → (b ≠ .hpd ∨ off < 0x7000 ∨ 0x8000 ≤ off) → lowPair b
      off = none → highPair b off = some true → s.snapAt (s.reach w m) w (blockAddr b i off - 4) = none → Answers (.lowWordSnapshotRead w m secure addr bytes) s fun t =>
      t.getAt Hid.READ_DATA (s.reach w m) (whoIx w) = 0 ∧ OnlyCells [(Hid.READ_DATA, s.reach w m, whoIx w), (Hid.BUS_ERR, s.reach w m, whoIx w)] s t) ∧
  (∀ (w : Who) (m : Mgr) (secure : Bool) (addr : BitVec 32) (bytes : Nat) (b : Blk) (i off : Nat) (s : State), bytes = 4 → addr.toNat % 4 = 0 → place addr.toNat = .block
      b i off → fieldsAt b off ≠ [] → s.emptyRail b i = false → (b ≠ .evc ∨ (s.evcRead w (s.reach w m) off).isNone) → (b ≠ .hpd ∨ off < 0x7000 ∨ 0x8000 ≤ off) → lowPair b
      off = none → highPair b off = some false → s.snapAt (s.reach w m) w (blockAddr b i off - 4) = none → Answers (.lowWordSnapshotRead w m secure addr bytes) s fun t =>
      t.getAt Hid.READ_DATA (s.reach w m) (whoIx w) = Config.freeValue s.freeCtr % 2 ^ 32 ∧ OnlyCells [(Hid.READ_DATA, s.reach w m, whoIx w), (Hid.BUS_ERR, s.reach w m,
      whoIx w)] { s with freeCtr := t.freeCtr } t) ∧
  (∀ (w : Who) (m : Mgr) (secure : Bool) (addr : BitVec 32) (bytes : Nat) (b : Blk) (i off : Nat) (s : State), bytes = 4 → addr.toNat % 4 = 0 → place addr.toNat = .block
      b i off → s.emptyRail b i → Answers (.lowWordSnapshotRead w m secure addr bytes) s fun t => t.getAt Hid.READ_DATA (s.reach w m) (whoIx w) = 0 ∧ t.getAt Hid.BUS_ERR
      (s.reach w m) (whoIx w) = 0 ∧ OnlyCells [(Hid.READ_DATA, s.reach w m, whoIx w), (Hid.BUS_ERR, s.reach w m, whoIx w)] s t) ∧
  (∀ (w : Who) (m : Mgr) (secure : Bool) (addr : BitVec 32) (bytes : Nat) (b : Blk) (i off : Nat) (s : State), bytes = 4 → addr.toNat % 4 = 0 → place addr.toNat = .block
      b i off → fieldsAt b off = [] → s.emptyRail b i = false → (b ≠ .hpd ∨ off < 0x7000 ∨ 0x8000 ≤ off) → Answers (.lowWordSnapshotRead w m secure addr bytes) s fun t =>
      t = s.busError w (s.reach w m)) ∧
  (∀ (w : Who) (m : Mgr) (secure : Bool) (addr : BitVec 32) (bytes : Nat) (b : Blk) (i off : Nat) (s : State), place addr.toNat = .block b i off → (addr.toNat % 4 ≠ 0 ∨
      bytes ≠ 4) → Answers (.lowWordSnapshotRead w m secure addr bytes) s fun t => t = s.busError w (s.reach w m)) ∧
  (∀ (w : Who) (m : Mgr) (secure : Bool) (addr : BitVec 32) (bytes : Nat) (b : Blk) (i off : Nat) (s : State), bytes = 4 → addr.toNat % 4 = 0 → place addr.toNat = .block
      b i off → b = .evc → fieldsAt b off ≠ [] → (s.evcRead w (s.reach w m) off).isSome → Answers (.lowWordSnapshotRead w m secure addr bytes) s fun t => some t =
      s.evcRead w (s.reach w m) off) ∧
  (∀ (w : Who) (m : Mgr) (secure : Bool) (addr : BitVec 32) (bytes : Nat) (s : State), 0x20000 ≤ addr.toNat → (memOf addr.toNat = 0 ∨ memOf addr.toNat = 2) → memOf
      (addr.toNat + bytes - 1) = memOf addr.toNat → (mayReachSecure w secure ∨ (inSecure addr.toNat = false ∧ inSecure (addr.toNat + bytes - 1) = false)) → bytes ≤ 4 →
      Answers (.lowWordSnapshotRead w m secure addr bytes) s fun t => t.getAt Hid.READ_DATA (s.reach w m) (whoIx w) = (s.rd32 (mgrMem (s.reach w m) addr.toNat)).toNat % 2
      ^ (8 * bytes) ∧ t.getAt Hid.BUS_ERR (s.reach w m) (whoIx w) = 0 ∧ OnlyCells [(Hid.READ_DATA, s.reach w m, whoIx w), (Hid.BUS_ERR, s.reach w m, whoIx w)] s t) ∧
  (∀ (w : Who) (m : Mgr) (secure : Bool) (addr : BitVec 32) (bytes : Nat) (s : State), memOf addr.toNat = 0 → memOf (addr.toNat + bytes - 1) = 0 → (inSecure addr.toNat ∨
      inSecure (addr.toNat + bytes - 1)) → mayReachSecure w secure = false → Answers (.lowWordSnapshotRead w m secure addr bytes) s fun t => t.getAt Hid.BUS_ERR (s.reach
      w m) (whoIx w) = 1 ∧ t.on Reg.MEM_STATUS.SEC_VIOL (s.reach w m) ∧ OnlyCells [(Hid.BUS_ERR, s.reach w m, whoIx w), (Reg.MEM_STATUS.SEC_VIOL, s.reach w m, 0)] s t) ∧
  (∀ (w : Who) (m : Mgr) (secure : Bool) (addr : BitVec 32) (bytes : Nat) (s : State), memOf addr.toNat = 3 → memOf (addr.toNat + bytes - 1) = 3 → s.feOk (mgrMem (s.reach
      w m) addr.toNat) bytes → bytes ≤ 4 → Answers (.lowWordSnapshotRead w m secure addr bytes) s fun t => t.getAt Hid.READ_DATA (s.reach w m) (whoIx w) = (s.rd32 (mgrMem
      (s.reach w m) addr.toNat)).toNat % 2 ^ (8 * bytes) ∧ OnlyCells [(Hid.READ_DATA, s.reach w m, whoIx w), (Hid.BUS_ERR, s.reach w m, whoIx w)] s t) ∧
  (∀ (w : Who) (m : Mgr) (secure : Bool) (addr : BitVec 32) (bytes : Nat) (c : Fin 4) (s : State), memOf addr.toNat = 1 → coreOf w = some c.val → addr.toNat + bytes ≤
      0xE0020000 → bytes ≤ 4 → Answers (.lowWordSnapshotRead w m secure addr bytes) s fun t => t.getAt Hid.READ_DATA (s.reach w m) (whoIx w) = (s.rd32 (coreMem (s.reach w
      m) c addr.toNat)).toNat % 2 ^ (8 * bytes) ∧ OnlyCells [(Hid.READ_DATA, s.reach w m, whoIx w), (Hid.BUS_ERR, s.reach w m, whoIx w)] s t) ∧
  (∀ (w : Who) (m : Mgr) (secure : Bool) (addr : BitVec 32) (bytes : Nat) (u : Tile) (e : Slot) (b : Fin 2) (k : BitVec 10) (s : State), bytes = 4 → addr.toNat = progAddr
      u e b.val k.toNat → s.unhurt addr.toNat → Answers (.lowWordSnapshotRead w m secure addr bytes) s fun t => t.getAt Hid.READ_DATA (s.reach w m) (whoIx w) = (s.rd32
      addr.toNat).toNat ∧ OnlyCells [(Hid.READ_DATA, s.reach w m, whoIx w), (Hid.BUS_ERR, s.reach w m, whoIx w)] s t) ∧
  (∀ (w : Who) (m : Mgr) (secure : Bool) (addr : BitVec 32) (bytes : Nat) (u : Tile) (e : Slot) (k : Fin 512) (s : State), bytes = 4 → addr.toNat = dmAddr u e k →
      s.unhurt addr.toNat → Answers (.lowWordSnapshotRead w m secure addr bytes) s fun t => t.getAt Hid.READ_DATA (s.reach w m) (whoIx w) = (s.rd32 addr.toNat).toNat ∧
      OnlyCells [(Hid.READ_DATA, s.reach w m, whoIx w), (Hid.BUS_ERR, s.reach w m, whoIx w)] s t) ∧
  (∀ (w : Who) (m : Mgr) (secure : Bool) (addr : BitVec 32) (bytes : Nat) (s : State), addr.toNat < 0x20000 → Answers (.lowWordSnapshotRead w m secure addr bytes) s fun t
      => t.getAt Hid.READ_DATA (s.reach w m) (whoIx w) = Config.freeValue s.freeCtr % 2 ^ 32 ∧ OnlyCells [(Hid.READ_DATA, s.reach w m, whoIx w), (Hid.BUS_ERR, s.reach w
      m, whoIx w)] { s with freeCtr := t.freeCtr } t) ∧
  (∀ (w : Who) (m : Mgr) (secure : Bool) (addr : BitVec 32) (bytes : Nat) (s : State), bytes = 4 → addr.toNat % 4 = 0 → (0x400B8000 ≤ addr.toNat ∧ addr.toNat < 0x400C0000
      ∨ place addr.toNat = .readOnly ∧ 0x50000000 ≤ addr.toNat ∧ addr.toNat < 0x54000000) → Answers (.lowWordSnapshotRead w m secure addr bytes) s fun t => t.getAt
      Hid.READ_DATA (s.reach w m) (whoIx w) = (s.rd32 (if addr.toNat < 0x50000000 then mgrMem (s.reach w m) addr.toNat else addr.toNat)).toNat ∧ OnlyCells
      [(Hid.READ_DATA, s.reach w m, whoIx w), (Hid.BUS_ERR, s.reach w m, whoIx w)] s t) ∧
  (∀ (w : Who) (m : Mgr) (secure : Bool) (addr : BitVec 32) (bytes : Nat) (s : State), bytes = 4 → addr.toNat % 4 = 0 → 0x5C000000 ≤ addr.toNat → addr.toNat < 0x5C010000
      → Answers (.lowWordSnapshotRead w m secure addr bytes) s fun t => t = s.metRead' w (s.reach w m) addr.toNat) ∧
  (∀ (w : Who) (m : Mgr) (secure : Bool) (addr : BitVec 32) (bytes : Nat) (s : State), bytes = 4 → addr.toNat % 4 = 0 → (0x5C000040 ≤ addr.toNat ∧ addr.toNat < 0x5C0000A8
      ∨ 0x5C000100 ≤ addr.toNat ∧ addr.toNat < 0x5C0001A0) → Answers (.lowWordSnapshotRead w m secure addr bytes) s fun t => t.getAt Hid.READ_DATA (s.reach w m) (whoIx w)
      = (s.rd32 (metWin (s.reach w m) (addr.toNat - 0x5C000000))).toNat ∧ OnlyCells [(Hid.READ_DATA, s.reach w m, whoIx w), (Hid.BUS_ERR, s.reach w m, whoIx w)] s t) ∧
  (∀ (w : Who) (m : Mgr) (secure : Bool) (addr : BitVec 32) (bytes : Nat) (s : State), place addr.toNat = .nothing → Answers (.lowWordSnapshotRead w m secure addr bytes)
      s fun t => t.getAt Hid.BUS_ERR (s.reach w m) (whoIx w) = 1 ∧ OnlyCells [(Hid.BUS_ERR, s.reach w m, whoIx w)] s t) ∧
  (∀ (w : Who) (m : Mgr) (secure : Bool) (addr : BitVec 32) (bytes : Nat) (u : Tile) (r : Rail) (s : State), bytes = 4 → addr.toNat = Reg.RAIL_E_LO.E.addr (railIx u r) 0
      → (s.tilesOf r).contains u.val → s.dev ≠ Dev.fuseHold → Answers (.lowWordSnapshotRead w m secure addr bytes) s fun t => t.getAt Hid.READ_DATA (s.reach w m) (whoIx
      w) = s.get Reg.RAIL_E_LO.E (railIx u r) % 2 ^ 32 ∧ ((t.snapAt (s.reach w m) w addr.toNat).map (fun x => x.high) = some [s.get Reg.RAIL_E_HI.E (railIx u r)]) ∧
      t.snaps.length ≤ s.snaps.length + 1 ∧ OnlyCells [(Hid.READ_DATA, s.reach w m, whoIx w), (Hid.BUS_ERR, s.reach w m, whoIx w)] { s with snaps := t.snaps } t) ∧
  (∀ (w : Who) (m : Mgr) (secure : Bool) (addr : BitVec 32) (bytes : Nat) (u : Tile) (r : Rail) (s : State), bytes = 4 → addr.toNat = Reg.RAIL_E_HI.E.addr (railIx u r) 0
      → (s.tilesOf r).contains u.val → Answers (.lowWordSnapshotRead w m secure addr bytes) s fun t => (t.getAt Hid.READ_DATA (s.reach w m) (whoIx w) = ((s.snapAt
      (s.reach w m) w (addr.toNat - 4)).elim 0 fun x => x.high.getD 0 0) % 2 ^ 32) ∧ OnlyCells [(Hid.READ_DATA, s.reach w m, whoIx w), (Hid.BUS_ERR, s.reach w m, whoIx
      w)] s t) ∧
  (∀ (u : Unit5) (m : Mgr) (w : Who) (sentActive : Bool) (off : BitVec 24) (data : Word) (s : State), s.on Hid.ROLE_LOW m.val → Answers (.crossingRegWrite u m w
      sentActive off data) s fun t => t = s.busWrite w m false (windowAddr u off.toNat) 4 data []) ∧
  (∀ (u : Unit5) (m : Mgr) (w : Who) (sentActive : Bool) (off : BitVec 24) (data : Word) (b : Blk) (i o : Nat) (s : State), s.on Hid.ROLE_LOW m.val → (windowAddr u
      off.toNat) % 4 = 0 → place (windowAddr u off.toNat) = .block b i o → plainReg b o → s.reach w m = s.act → s.isActive s.act → s.emptyRail b i = false → s.regRefuses
      b i o data.toNat = false → Answers (.crossingRegWrite u m w sentActive off data) s fun t => (∀ x ∈ fieldsAt b o, t.getAt x.1 (x.1.at s.act i) x.2 = s.taken b o x.1
      (x.1.at s.act i) x.2 data.toNat []) ∧ t.getAt Hid.BUS_ERR s.act (whoIx w) = 0 ∧ OnlyCells ((Hid.BUS_ERR, s.act, whoIx w) :: regCells b s.act i o) s t) ∧
  (∀ (u : Unit5) (m : Mgr) (w : Who) (sentActive : Bool) (off : BitVec 24) (data : Word) (b : Blk) (i o : Nat) (s : State), s.on Hid.ROLE_LOW m.val → (windowAddr u
      off.toNat) % 4 = 0 → place (windowAddr u off.toNat) = .block b i o → fieldsAt b o ≠ [] → s.reach w m = s.act → s.isActive s.act → s.emptyRail b i = false →
      s.regRefuses b i o data.toNat → Answers (.crossingRegWrite u m w sentActive off data) s fun t => (∀ x ∈ fieldsAt b o, refusalBit b o ≠ some x.1 → t.getAt x.1
      (x.1.at s.act i) x.2 = s.getAt x.1 (x.1.at s.act i) x.2) ∧ ((refusalBit b o).all (fun f => decide (t.getAt f (refusalCell b s.act i o f).2.1 (refusalCell b s.act i
      o f).2.2 = 1)))) ∧
  (∀ (u : Unit5) (m : Mgr) (w : Who) (sentActive : Bool) (off : BitVec 24) (data : Word) (s : State), s.on Hid.ROLE_LOW m.val → (place (windowAddr u off.toNat) = .nothing
      ∨ place (windowAddr u off.toNat) = .readOnly) → Answers (.crossingRegWrite u m w sentActive off data) s fun t => t = s.busError w m) ∧
  (∀ (u : Unit5) (m : Mgr) (w : Who) (sentActive : Bool) (off : BitVec 24) (data : Word) (s : State), s.on Hid.ROLE_LOW m.val = false → sentActive → u.val < 4 → Answers
      (.crossingRegWrite u m w sentActive off data) s fun t => t.get Reg.CROSS_COUNTS.ROLE_REJECT u = s.bumped Reg.CROSS_COUNTS.ROLE_REJECT u ∧ OnlyCells
      [(Reg.CROSS_COUNTS.ROLE_REJECT, u, 0)] s t) ∧
  (∀ (u : Unit5) (m : Mgr) (w : Who) (sentActive : Bool) (off : BitVec 24) (data : Word) (s : State), s.on Hid.ROLE_LOW m.val = false → sentActive → u.val = 4 → Answers
      (.crossingRegWrite u m w sentActive off data) s fun t => t.get Reg.HPD_CROSS_COUNTS.ROLE_REJECT 0 = s.bumped Reg.HPD_CROSS_COUNTS.ROLE_REJECT 0 ∧ OnlyCells
      [(Reg.HPD_CROSS_COUNTS.ROLE_REJECT, 0, 0)] s t) ∧
  (∀ (u : Unit5) (m : Mgr) (w : Who) (sentActive : Bool) (off : BitVec 24) (data : Word) (s : State), s.on Hid.ROLE_LOW m.val = false → sentActive = false → Answers
      (.crossingRegWrite u m w sentActive off data) s fun t => t.getAt Hid.BUS_ERR (s.reach w m) (whoIx w) = 1 ∧ OnlyCells [(Hid.BUS_ERR, s.reach w m, whoIx w)] s t)

/-- While nothing else of a sequence is under way: a waiting lane transmission, set-point command or re-add that is no older than 200 µs runs when its units are ready, and stays a command under way, now started; one whose units are not ready goes on waiting; one that has waited 200 µs is completed with PLL_NOT_READY and counted. With nothing waiting nothing changes. A command exactly 200 µs old may run or be rejected, whichever command comes first: log entry 5. -/
def Obligations.WaitingCommands : Prop :=
  (∀ (b : Nat) (s : State), ((s.waiting.filter fun x => decide (beatDiff s.beat x.1 ≤ 200) && s.waitReady x.2) = [(b, .lane)]) → Answers (.commandClockReady) s fun v => ∃
      t : State, v = t.seqPoll ∧ t.get Hid.LN_HOST 0 = 1 ∧ (t.cmds = s.cmds.map fun c => if c.kind = .lane then { c with started := true } else c) ∧ OnlyFields
      [Hid.LN_HOST] { s with cmds := t.cmds } t) ∧
  (∀ (b : Nat) (r : Rail) (y : Nat) (s : State), ((s.waiting.filter fun x => decide (beatDiff s.beat x.1 ≤ 200) && s.waitReady x.2) = [(b, .setpoint r y)]) → Answers
      (.commandClockReady) s fun v => ∃ t : State, v = t.seqPoll ∧ (∀ u ∈ s.tilesOf r, t.get Hid.SP_TGT (railIx u r) = y % 2 ^ 32 ∧ (s.get Hid.SP_MODE (railIx u r) ≠
      SpMode.soft → t.get Hid.SP_MODE (railIx u r) = SpMode.ramp)) ∧ (t.cmds = s.cmds.map fun c => if c.kind = .setpoint r y then { c with started := true } else c)) ∧
  (∀ (b : Nat) (p : Phase) (s : State), ((s.waiting.filter fun x => decide (beatDiff s.beat x.1 ≤ 200) && s.waitReady x.2) = [(b, .phAdd p)]) → s.ph p = Ph.shed → s.on
      Hid.TSD_ON (tileOf p) = false → Answers (.commandClockReady) s fun v => ∃ t : State, v = t.seqPoll ∧ t.ph p = Ph.probe ∧ t.on Hid.PROBING p ∧ (t.cmds = s.cmds.map
      fun c => if c.kind = .phAdd p then { c with started := true } else c)) ∧
  (∀ (b : Nat) (r : Rail) (s : State), ((s.waiting.filter fun x => decide (beatDiff s.beat x.1 ≤ 200) && s.waitReady x.2) = [(b, .railOn r)]) → s.enStep r = 1 → s.kindOf
      r = 1 → s.onAt Hid.LAW_BUSY 0 r = false → s.diagHolds r = false → s.enableFault r = none → Answers (.commandClockReady) s fun v => ∃ t : State, v = t.seqPoll ∧
      t.enStep r = 4 ∧ t.onAt Hid.PRESTART 0 r ∧ (∀ p ∈ s.aliveOf r, t.ph p = Ph.probe) ∧ (t.cmds = s.cmds.map fun c => if c.kind = .railOn r then
      { c with started := true } else c)) ∧
  (∀ (s : State), ((s.waiting.filter fun x => decide (beatDiff s.beat x.1 ≤ 200) && s.waitReady x.2) = []) → Answers (.commandClockReady) s fun v => ∃ t : State, v =
      t.seqPoll ∧ t = s) ∧
  (∀ (b : Nat) (s : State), s.quiet → s.waiting = [(b, .lane)] → beatDiff s.beat b ≤ 200 → s.clockReady [] → Answers (.commandClockReady) s fun t => t.get Hid.LN_HOST 0 =
      1 ∧ (t.cmds = s.cmds.map fun c => if c.kind = .lane then { c with started := true } else c) ∧ OnlyFields [Hid.LN_HOST] { s with cmds := t.cmds } t) ∧
  (∀ (b : Nat) (r : Rail) (v : Nat) (s : State), s.quiet → s.waiting = [(b, .setpoint r v)] → beatDiff s.beat b ≤ 200 → s.railReady r → Answers (.commandClockReady) s fun
      t => (∀ u ∈ s.tilesOf r, t.get Hid.SP_TGT (railIx u r) = v % 2 ^ 32) ∧ (t.cmds = s.cmds.map fun c => if c.kind = .setpoint r v then { c with started := true } else
      c)) ∧
  (∀ (b : Nat) (p : Phase) (s : State), s.quiet → s.waiting = [(b, .phAdd p)] → beatDiff s.beat b ≤ 200 → s.clockReady [tileOf p] → s.ph p = Ph.shed → Answers
      (.commandClockReady) s fun t => t.ph p = Ph.probe ∧ t.on Hid.PROBING p ∧ (t.cmds = s.cmds.map fun c => if c.kind = .phAdd p then { c with started := true } else c)) ∧
  (∀ (s : State), s.quiet → (∀ x ∈ s.waiting, s.waitReady x.2 = false) → Answers (.commandClockReady) s fun t => t = s) ∧
  (∀ (b : Nat) (k : CmdKind) (s : State), ((s.waiting.filter fun x => decide (200 ≤ beatDiff s.beat x.1)) = [(b, k)]) → s.accepted k → Answers (.pllNotReadyReject) s fun
      v => ∃ t : State, v = t.seqPoll ∧ t.get Reg.CLK_STATUS.PLL_NR_COUNT s.act = s.bumped Reg.CLK_STATUS.PLL_NR_COUNT s.act ∧ t.accepted k = false ∧ (s.accepted k →
      t.logged JKind.complete JStatus.pllNotReady ((s.cmds.filter fun c => c.kind = k).getLast?.elim 0 fun c => c.target))) ∧
  (∀ (b : Nat) (r : Rail) (s : State), ((s.waiting.filter fun x => decide (200 ≤ beatDiff s.beat x.1)) = [(b, .railOn r)]) → Answers (.pllNotReadyReject) s fun v => ∃ t :
      State, v = t.seqPoll ∧ t.get Reg.CLK_STATUS.PLL_NR_COUNT s.act = s.bumped Reg.CLK_STATUS.PLL_NR_COUNT s.act ∧ t.rs r = Rs.off ∧ t.enStep r = 0 ∧ t.accepted (.railOn
      r) = false ∧ t.get Reg.RAIL_SUP_STATUS.RESULT (s.leadIx r) = EnRes.pllNotReady) ∧
  (∀ (s : State), ((s.waiting.filter fun x => decide (200 ≤ beatDiff s.beat x.1)) = []) → Answers (.pllNotReadyReject) s fun v => ∃ t : State, v = t.seqPoll ∧ t = s) ∧
  (∀ (b : Nat) (c : Cmd) (s : State), s.quiet → s.waiting = [(b, .lane)] → 200 ≤ beatDiff s.beat b → s.cmds = [c] → Answers (.pllNotReadyReject) s fun t => t.get
      Reg.CLK_STATUS.PLL_NR_COUNT s.act = s.bumped Reg.CLK_STATUS.PLL_NR_COUNT s.act ∧ t.cmds = [] ∧ (t.jrnA.head?.map (fun e => (e.kind, e.status, e.target, e.code)) =
      some (JKind.complete, JStatus.pllNotReady, c.target, c.code))) ∧
  (∀ (b : Nat) (r : Rail) (c : Cmd) (s : State), s.quiet → s.waiting = [(b, .railOn r)] → 200 ≤ beatDiff s.beat b → s.cmds = [c] → Answers (.pllNotReadyReject) s fun t =>
      t.get Reg.CLK_STATUS.PLL_NR_COUNT s.act = s.bumped Reg.CLK_STATUS.PLL_NR_COUNT s.act ∧ t.rs r = Rs.off ∧ t.cmds = [] ∧ (t.jrnA.head?.map (fun e => (e.kind,
      e.status, e.target)) = some (JKind.complete, JStatus.pllNotReady, c.target))) ∧
  (∀ (s : State), s.quiet → (∀ x ∈ s.waiting, beatDiff s.beat x.1 < 200) → Answers (.pllNotReadyReject) s fun t => t = s)

/-- While the tile runs, TICK takes its next value; the data-memory words that managers wrote to the tile are in its memory and wait no more, those of other tiles still wait; an engine that waited commits the outputs it staged, latches its pending events, takes its snapshot and runs on; an engine that did not wait is overrun: the bit sets, both counts go up, and its outputs stay; a sense channel's newest value enters the snapshot, and the levels of the tick, converted, form the next one. No other tile's tick moves. A tile that does not run has no boundary. Readings and choices of the model that it rests on: log entries 36, 37, 81, 103. -/
def Obligations.TickBoundaries : Prop :=
  (∀ (u : Tile) (levels : List (Level × Level)) (spare : Level) (pg : BitVec 4) (upsets : List (Slot × BitVec 12 × Upset)) (s : State), s.tileRuns u → Answers
      (.tickBoundary u levels spare pg upsets) s fun t => t.get Hid.TICK u = s.nextTick u ∧ (t.dmPend = s.dmPend.filter fun (x : Nat × Nat × Word) => x.1 ≠ u.val) ∧ (∀ v
      : Tile, v ≠ u → t.get Hid.TICK v = s.get Hid.TICK v)) ∧
  (∀ (u : Tile) (levels : List (Level × Level)) (spare : Level) (pg : BitVec 4) (upsets : List (Slot × BitVec 12 × Upset)) (s : State), s.tileRuns u = false → Answers
      (.tickBoundary u levels spare pg upsets) s fun t => t = s) ∧
  (∀ (u : Tile) (levels : List (Level × Level)) (spare : Level) (pg : BitVec 4) (upsets : List (Slot × BitVec 12 × Upset)) (s : State), s.tileRuns u → (∀ e : Slot,
      s.engineLaw u e = 0) → upsets = [] → Answers (.tickBoundary u levels spare pg upsets) s fun t => t.get Hid.TICK u = s.nextTick u ∧ t.jrnA = s.jrnA ∧ t.cmds =
      s.cmds) ∧
  (∀ (u : Tile) (levels : List (Level × Level)) (spare : Level) (pg : BitVec 4) (upsets : List (Slot × BitVec 12 × Upset)) (e : Slot) (k : Fin 512) (x : Word) (s :
      State), s.tileRuns u → (((s.arrived u).filter fun y => y.1 = dmAddr u e k).getLast? = some (dmAddr u e k, x)) → ((s.arrived u).all fun y => decide (y.1 = dmAddr u e
      k ∨ y.1 + 4 ≤ dmAddr u e k ∨ dmAddr u e k + 4 ≤ y.1)) → Memory.wf s.mem = true → Answers (.tickBoundary u levels spare pg upsets) s fun t => t.rd32 (dmAddr u e k) =
      x) ∧
  (∀ (u : Tile) (levels : List (Level × Level)) (spare : Level) (pg : BitVec 4) (upsets : List (Slot × BitVec 12 × Upset)) (e : Slot) (k : Fin 512) (x : Word) (s :
      State), s.tileRuns u → upsets = [] → (∀ e : Slot, s.engineLaw u e = 0) → s.dmPend = [(u.val, dmAddr u e k, x)] → Memory.wf s.mem = true → s.capturing u = false →
      Answers (.tickBoundary u levels spare pg upsets) s fun t => t.rd32 (dmAddr u e k) = x ∧ BytesOutside (dmAddr u e k) 4 s t ∧ t.dmPend = []) ∧
  (∀ (u : Tile) (levels : List (Level × Level)) (spare : Level) (pg : BitVec 4) (upsets : List (Slot × BitVec 12 × Upset)) (e : Slot) (s : State), s.tileRuns u → e.val <
      24 → (s.atEnd u upsets).on Hid.E_RUN (engIx u e) → (s.atEnd u upsets).spareServes u = false → (s.atEnd u upsets).get Hid.HANDING_BACK u = 0 → (s.atEnd u upsets).on
      Hid.E_WAIT (engIx u e) → (s.atEnd u upsets).on Hid.E_LATE (engIx u e) = false → Answers (.tickBoundary u levels spare pg upsets) s fun t => t.on Hid.E_WAIT (engIx u
      e) = false ∧ t.on Hid.E_FRESH (engIx u e) ∧ t.get Hid.E_SLOT (engIx u e) = 0 ∧ t.get Hid.E_PC (engIx u e) = (s.atEnd u upsets).get Hid.E_PC (engIx u e) ∧ t.get
      Reg.ENG_STATUS.OVR_RUN (u.val * 24 + e.val) = 0 ∧ t.get Reg.ENG_EV.PENDING (u.val * 24 + e.val) = 0 ∧ t.get Reg.ENG_EV.EVW (u.val * 24 + e.val) &&& ((s.atEnd u
      upsets).get Reg.ENG_EV.EVW (u.val * 24 + e.val) ||| (s.atEnd u upsets).get Reg.ENG_EV.PENDING (u.val * 24 + e.val)) % 2 ^ Reg.ENG_EV.EVW.wid = ((s.atEnd u
      upsets).get Reg.ENG_EV.EVW (u.val * 24 + e.val) ||| (s.atEnd u upsets).get Reg.ENG_EV.PENDING (u.val * 24 + e.val)) % 2 ^ Reg.ENG_EV.EVW.wid ∧ t.getAt Hid.E_IN
      (engIx u e) 10 = s.nextTick u ∧ ((s.atEnd u upsets).onAt Hid.E_STGW (engIx u e) 2 → t.get Reg.ENG_USER.USER (u.val * 24 + e.val) = (s.atEnd u upsets).getAt
      Hid.E_STG (engIx u e) 2 % 2 ^ 32) ∧ ((s.atEnd u upsets).onAt Hid.E_STGW (engIx u e) 3 → t.get Hid.MARK (u.val * 24 + e.val) = (s.atEnd u upsets).getAt Hid.E_STG
      (engIx u e) 3 % 2 ^ Hid.MARK.wid) ∧ t.get Reg.ENG_COUNTS.OVERRUN_COUNT (u.val * 24 + e.val) = (s.atEnd u upsets).get Reg.ENG_COUNTS.OVERRUN_COUNT (u.val * 24 +
      e.val)) ∧
  (∀ (u : Tile) (levels : List (Level × Level)) (spare : Level) (pg : BitVec 4) (upsets : List (Slot × BitVec 12 × Upset)) (e : Slot) (s : State), s.tileRuns u → e.val <
      24 → (s.atEnd u upsets).on Hid.E_RUN (engIx u e) → (s.atEnd u upsets).spareServes u = false → (s.atEnd u upsets).get Hid.HANDING_BACK u = 0 → (s.atEnd u upsets).on
      Hid.E_WAIT (engIx u e) = false → Answers (.tickBoundary u levels spare pg upsets) s fun t => t.get Reg.ENG_STATUS.OVERRUN (u.val * 24 + e.val) = 1 ∧ t.get
      Reg.ENG_COUNTS.OVERRUN_COUNT (u.val * 24 + e.val) = (s.atEnd u upsets).bumped Reg.ENG_COUNTS.OVERRUN_COUNT (u.val * 24 + e.val) ∧ t.get Reg.ENG_STATUS.OVR_RUN
      (u.val * 24 + e.val) = (s.atEnd u upsets).bumped Reg.ENG_STATUS.OVR_RUN (u.val * 24 + e.val) ∧ t.on Hid.E_FRESH (engIx u e) = false ∧ t.get Hid.E_SLOT (engIx u e) =
      0 ∧ t.get Hid.E_PC (engIx u e) = (s.atEnd u upsets).get Hid.E_PC (engIx u e) ∧ t.get Hid.REFOUT (u.val * 24 + e.val) = (s.atEnd u upsets).get Hid.REFOUT (u.val * 24
      + e.val) ∧ t.get Reg.ENG_USER.USER (u.val * 24 + e.val) = (s.atEnd u upsets).get Reg.ENG_USER.USER (u.val * 24 + e.val) ∧ t.getAt Hid.E_STG (engIx u e) 0 = (s.atEnd
      u upsets).getAt Hid.E_STG (engIx u e) 0) ∧
  (∀ (u : Tile) (levels : List (Level × Level)) (spare : Level) (pg : BitVec 4) (upsets : List (Slot × BitVec 12 × Upset)) (c : Fin 12) (r : Rail) (s : State), s.tileRuns
      u → c.val < levels.length → s.onAt Reg.CHAN_STATE.LOST u c = false → s.chanDiag u c = false → r.val ∈ s.railsOfChan u c → Answers (.tickBoundary u levels spare pg
      upsets) s fun t => t.getAt Hid.VS_HIST (railIx u r) 0 = s.get Hid.VS_NEXT (railIx u r) % 2 ^ Hid.VS_HIST.wid) ∧
  (∀ (u : Tile) (levels : List (Level × Level)) (spare : Level) (pg : BitVec 4) (upsets : List (Slot × BitVec 12 × Upset)) (c : Fin 12) (r : Rail) (s : State), s.tileRuns
      u → c.val < levels.length → s.onAt Reg.CHAN_STATE.LOST u c = false → s.chanDiag u c = false → r.val ∈ s.railsOfChan u c → s.spareIn u (2 * c) = false → s.spareIn u
      (2 * c + 1) = false → s.onAt Hid.SLICE_LOST u (2 * c) = false → s.onAt Hid.SLICE_LOST u (2 * c + 1) = false → Answers (.tickBoundary u levels spare pg upsets) s fun
      t => t.get Hid.VS_NEXT (railIx u r) = vsenseOf (rawOf (s.getAt Reg.CHAN_STATE.VC u c) (s.sliceCode u (2 * c) (codeOf 12 (s.getAt Reg.CHAN_STATE.VC u c * mV - 256 *
      mV) 16000 (levels.getD c (0, 0)).1)) (s.sliceCode u (2 * c + 1) (codeOf 12 (s.getAt Reg.CHAN_STATE.VC u c * mV - 256 * mV) 16000 (levels.getD c (0, 0)).2))) (s.on
      Reg.RAIL_SETPT.DIVIDER (railIx u r)) (s.get Reg.RAIL_SNS.SNS_GAIN (railIx u r)) (s.getI Reg.RAIL_SNS.SNS_OFS (railIx u r)) ∧ t.getAt Reg.CHAN_STATE.VC u c =
      centreOf (s.getAt Reg.CHAN_STATE.VC u c) (rawOf (s.getAt Reg.CHAN_STATE.VC u c) (s.sliceCode u (2 * c) (codeOf 12 (s.getAt Reg.CHAN_STATE.VC u c * mV - 256 * mV)
      16000 (levels.getD c (0, 0)).1)) (s.sliceCode u (2 * c + 1) (codeOf 12 (s.getAt Reg.CHAN_STATE.VC u c * mV - 256 * mV) 16000 (levels.getD c (0, 0)).2))))

/-- With a command at the front of the queue, a step is that command's effect on the state with the rest of the queue; with an empty queue the block idles (the model's choice, log entry 1). -/
def Obligations.StepRunsFrontCommand : Prop :=
  (∀ (c : Instr) (rest : List Instr) (s : State), step { s with pending := c :: rest } = exec c { s with pending := rest }) ∧
  (∀ s : State, s.pending = [] → step s = .next s)

/-- Every command answers a next state in every state: the block has no stop, and what a rule refuses is shown by its bits, its counters and its journal entry. -/
def Obligations.EveryCommandCompletes : Prop :=
  ∀ (c : Instr) (s : State), ∃ t, exec c s = .next t

/-- After power-on every cell is listed at most once in key order, and every byte of memory that is not 0 once in address order: nothing is listed at all. The form is the model's own. -/
def Obligations.ResetIsCanonical : Prop :=
  State.reset.Canon

/-- In every state whose cells and memory are in canonical form, a step that answers a next state answers one in canonical form: equal registers and memories stay equal data. The form is the model's own. -/
def Obligations.StepKeepsCanonicalForm : Prop :=
  ∀ (s t : State), s.Canon → step s = .next t → t.Canon

/-- For each of the 37 instructions of the phase engines, on every tile and slot and with every operand that its fields admit, the word of its encoding decodes to exactly that instruction. -/
def Obligations.EngineWordsRoundTrip : Prop :=
  (∀ (t : Tile) (e : Slot), (engEncode (.nop t e)).bind (engDecode t e) = some (.nop t e)) ∧
  (∀ (t : Tile) (e : Slot) (d a b : Fin 16), (engEncode (.add t e d a b)).bind (engDecode t e) = some (.add t e d a b)) ∧
  (∀ (t : Tile) (e : Slot) (d a b : Fin 16), (engEncode (.sub t e d a b)).bind (engDecode t e) = some (.sub t e d a b)) ∧
  (∀ (t : Tile) (e : Slot) (d a b : Fin 16), (engEncode (.adds t e d a b)).bind (engDecode t e) = some (.adds t e d a b)) ∧
  (∀ (t : Tile) (e : Slot) (d a b : Fin 16), (engEncode (.subs t e d a b)).bind (engDecode t e) = some (.subs t e d a b)) ∧
  (∀ (t : Tile) (e : Slot) (d a b : Fin 16), (engEncode (.andOp t e d a b)).bind (engDecode t e) = some (.andOp t e d a b)) ∧
  (∀ (t : Tile) (e : Slot) (d a b : Fin 16), (engEncode (.orOp t e d a b)).bind (engDecode t e) = some (.orOp t e d a b)) ∧
  (∀ (t : Tile) (e : Slot) (d a b : Fin 16), (engEncode (.xor t e d a b)).bind (engDecode t e) = some (.xor t e d a b)) ∧
  (∀ (t : Tile) (e : Slot) (d a b : Fin 16), (engEncode (.minOp t e d a b)).bind (engDecode t e) = some (.minOp t e d a b)) ∧
  (∀ (t : Tile) (e : Slot) (d a b : Fin 16), (engEncode (.maxOp t e d a b)).bind (engDecode t e) = some (.maxOp t e d a b)) ∧
  (∀ (t : Tile) (e : Slot) (d a b : Fin 16), (engEncode (.shl t e d a b)).bind (engDecode t e) = some (.shl t e d a b)) ∧
  (∀ (t : Tile) (e : Slot) (d a b : Fin 16), (engEncode (.shr t e d a b)).bind (engDecode t e) = some (.shr t e d a b)) ∧
  (∀ (t : Tile) (e : Slot) (d a b : Fin 16), (engEncode (.sra t e d a b)).bind (engDecode t e) = some (.sra t e d a b)) ∧
  (∀ (t : Tile) (e : Slot) (d a b : Fin 16) (sh : Fin 32), (engEncode (.muls t e d a b sh)).bind (engDecode t e) = some (.muls t e d a b sh)) ∧
  (∀ (t : Tile) (e : Slot) (d a b : Fin 16), (engEncode (.clamp t e d a b)).bind (engDecode t e) = some (.clamp t e d a b)) ∧
  (∀ (t : Tile) (e : Slot) (a b : Fin 16), (engEncode (.cmp t e a b)).bind (engDecode t e) = some (.cmp t e a b)) ∧
  (∀ (t : Tile) (e : Slot) (d a : Fin 16) (imm : BitVec 18), (engEncode (.addi t e d a imm)).bind (engDecode t e) = some (.addi t e d a imm)) ∧
  (∀ (t : Tile) (e : Slot) (d a : Fin 16) (imm : BitVec 5), (engEncode (.shli t e d a imm)).bind (engDecode t e) = some (.shli t e d a imm)) ∧
  (∀ (t : Tile) (e : Slot) (d a : Fin 16) (imm : BitVec 5), (engEncode (.srai t e d a imm)).bind (engDecode t e) = some (.srai t e d a imm)) ∧
  (∀ (t : Tile) (e : Slot) (d : Fin 16) (imm : BitVec 16), (engEncode (.lil t e d imm)).bind (engDecode t e) = some (.lil t e d imm)) ∧
  (∀ (t : Tile) (e : Slot) (d : Fin 16) (imm : BitVec 16), (engEncode (.lih t e d imm)).bind (engDecode t e) = some (.lih t e d imm)) ∧
  (∀ (t : Tile) (e : Slot) (a : Fin 16) (imm : BitVec 18), (engEncode (.cmpi t e a imm)).bind (engDecode t e) = some (.cmpi t e a imm)) ∧
  (∀ (t : Tile) (e : Slot) (d a : Fin 16) (off : BitVec 9), (engEncode (.ld t e d a off)).bind (engDecode t e) = some (.ld t e d a off)) ∧
  (∀ (t : Tile) (e : Slot) (d a : Fin 16) (off : BitVec 9), (engEncode (.st t e d a off)).bind (engDecode t e) = some (.st t e d a off)) ∧
  (∀ (t : Tile) (e : Slot) (a b : Fin 16) (acc : Fin 2), (engEncode (.mac t e a b acc)).bind (engDecode t e) = some (.mac t e a b acc)) ∧
  (∀ (t : Tile) (e : Slot) (a b : Fin 16) (acc : Fin 2), (engEncode (.msu t e a b acc)).bind (engDecode t e) = some (.msu t e a b acc)) ∧
  (∀ (t : Tile) (e : Slot) (a : Fin 16) (sh : Fin 17) (acc : Fin 2), (engEncode (.ald t e a sh acc)).bind (engDecode t e) = some (.ald t e a sh acc)) ∧
  (∀ (t : Tile) (e : Slot) (d : Fin 16) (sh : Fin 32) (acc : Fin 2), (engEncode (.ard t e d sh acc)).bind (engDecode t e) = some (.ard t e d sh acc)) ∧
  (∀ (t : Tile) (e : Slot) (d : Fin 16) (port : Fin 14), (engEncode (.inPort t e d port)).bind (engDecode t e) = some (.inPort t e d port)) ∧
  (∀ (t : Tile) (e : Slot) (port : Fin 4) (a : Fin 16), (engEncode (.outPort t e port a)).bind (engDecode t e) = some (.outPort t e port a)) ∧
  (∀ (t : Tile) (e : Slot) (d : Fin 16), (engEncode (.evr t e d)).bind (engDecode t e) = some (.evr t e d)) ∧
  (∀ (t : Tile) (e : Slot) (mask : BitVec 16), (engEncode (.eclr t e mask)).bind (engDecode t e) = some (.eclr t e mask)) ∧
  (∀ (t : Tile) (e : Slot) (target : BitVec 10), (engEncode (.bev t e target)).bind (engDecode t e) = some (.bev t e target)) ∧
  (∀ (t : Tile) (e : Slot) (cond : Fin 13) (target : BitVec 10), (engEncode (.br t e cond target)).bind (engDecode t e) = some (.br t e cond target)) ∧
  (∀ (t : Tile) (e : Slot) (d : Fin 16) (target : BitVec 10), (engEncode (.jl t e d target)).bind (engDecode t e) = some (.jl t e d target)) ∧
  (∀ (t : Tile) (e : Slot) (a : Fin 16), (engEncode (.jr t e a)).bind (engDecode t e) = some (.jr t e a)) ∧
  (∀ (t : Tile) (e : Slot), (engEncode (.waitt t e)).bind (engDecode t e) = some (.waitt t e))

/-- After power-on every field is at its reset value in every block and copy, every queue, list and record is empty, every byte of memory reads 0 (the model's choice where a rule gives no content: log entry 2), and the fields named here hold the values that their register tables give. -/
def Obligations.ResetValues : Prop :=
  (∀ (f : Fld) (i j : Nat), State.reset.getAt f i j = f.rst) ∧ (∀ a, State.reset.rd8 a = 0) ∧
  (State.reset.jrnA = [] ∧ State.reset.jrnB = [] ∧ State.reset.cmds = [] ∧ State.reset.evMain = [] ∧ State.reset.evSafe = [] ∧ State.reset.evHost = [] ∧
    State.reset.metArch = [] ∧ State.reset.perms = [] ∧ State.reset.pending = []) ∧
  Reg.CROSS_LANE_STATUS.SPARE_MAP_LO.rst = 15 ∧ Reg.SNS_CTRL.ROT_EN.rst = 1 ∧ Reg.SPARE_STATUS.FOR.rst = 31 ∧ Reg.PH_CFG.RAIL.rst = 63 ∧
  Reg.PH_TIMING.TON_MIN.rst = 32 ∧ Reg.PH_ICAL.IPH_SCALE.rst = 6400 ∧ Reg.RAIL_PWM.PER_CNT.rst = 1600 ∧ Reg.RAIL_SETPT.VSET_TGT.rst = 3200 ∧
  Reg.RAIL_RAMP.SS_RATE.rst = 2097 ∧ Reg.SEQ_STG.TMO.rst = 200 ∧ Reg.MGR_THERM.THR_LIM.rst = 30 ∧ Reg.VBB_CFG.VBB_SET.rst = 1260 ∧
  Reg.IIN_CFG.IIN_MAX.rst = 160 ∧ Reg.BFET_CTRL.MODE.rst = 1 ∧ Reg.AWL_CTRL.AWL_WIN.rst = 60 ∧ Reg.MEM_STATUS.SP_SPARES.rst = 16 ∧
  Reg.EVC_CTRL.QEN.rst = 1 ∧ Reg.EVC_QCFG.Q_BASE.rst = 3072 ∧ Reg.DEV_STATE.STATE.rst = 2 ∧ Reg.WDT_CFG.PERIOD.rst = 1000 ∧
  Reg.RTC_ALARM.ALARM_SEC.rst = 4294967295 ∧ Reg.HB_CFG.STRETCH_MAX.rst = 20 ∧ Reg.SP_CFG.STG_SIZE.rst = 1 ∧ Reg.UPD_CFG.HC_DEADLINE.rst = 10
end

