-- ==== Sys2Proof/Laws/Cells.lean ====
section
/-!
SUPPORT. Reading a cell after writing one, and the canonical form of the list of cells.
-/
namespace Sys2Proof.Machine

theorem Cells.find_drop_same (k : Key) (c : Cells) : (c.drop k).find k = none := by
  induction c with
  | nil => rfl
  | cons p t ih =>
    obtain ⟨k', v⟩ := p
    by_cases h : k' = k
    · simpa [Cells.drop, h] using ih
    · have : Cells.drop k ((k', v) :: t) = (k', v) :: Cells.drop k t := by simp [Cells.drop, h]
      rw [this]; simpa [Cells.find, h] using ih

theorem Cells.find_drop_other {k x : Key} (h : x ≠ k) (c : Cells) : (c.drop k).find x = c.find x := by
  induction c with
  | nil => rfl
  | cons p t ih =>
    obtain ⟨k', v⟩ := p
    by_cases hk : k' = k
    · have : Cells.drop k ((k', v) :: t) = Cells.drop k t := by simp [Cells.drop, hk]
      rw [this, ih]; subst hk; simp [Cells.find, Ne.symm h]
    · have : Cells.drop k ((k', v) :: t) = (k', v) :: Cells.drop k t := by simp [Cells.drop, hk]
      rw [this]; simp [Cells.find, ih]

theorem Cells.find_list_same (k : Key) (v : Nat) (c : Cells) : (c.list k v).find k = some v := by
  induction c with
  | nil => simp [Cells.list, Cells.find]
  | cons p t ih =>
    obtain ⟨k', v'⟩ := p
    by_cases hk : k' = k
    · simp [Cells.list, Cells.find, hk]
    · by_cases hb : Key.below k k' = true
      · simp [Cells.list, Cells.find, hk, hb]
      · simpa [Cells.list, Cells.find, hk, hb] using ih

theorem Cells.find_list_other {k x : Key} (h : x ≠ k) (v : Nat) (c : Cells) : (c.list k v).find x = c.find x := by
  induction c with
  | nil => simp [Cells.list, Cells.find, Ne.symm h]
  | cons p t ih =>
    obtain ⟨k', v'⟩ := p
    by_cases hk : k' = k
    · subst hk; simp [Cells.list, Cells.find, Ne.symm h]
    · by_cases hb : Key.below k k' = true
      · simp [Cells.list, Cells.find, hk, hb, Ne.symm h]
      · simp [Cells.list, Cells.find, hk, hb, ih]

/-- A cell reads what was written to it, cut to the field's width. -/
@[simp] theorem State.getAt_putAt_same (s : State) (f : Fld) (i j v : Nat) : (s.putAt f i j v).getAt f i j = v % 2 ^ f.wid := by
  unfold State.putAt State.getAt
  by_cases h : v % 2 ^ f.wid = f.rst
  · simp [h, Cells.find_drop_same]
  · simp [h, Cells.find_list_same]

/-- A write leaves every other cell alone. -/
theorem State.getAt_putAt_key (s : State) {f g : Fld} {i j i' j' : Nat} (v : Nat) (h : g.key i' j' ≠ f.key i j) :
    (s.putAt f i j v).getAt g i' j' = s.getAt g i' j' := by
  unfold State.putAt State.getAt
  by_cases hv : v % 2 ^ f.wid = f.rst
  · simp [hv, Cells.find_drop_other h]
  · simp [hv, Cells.find_list_other h, Cells.find_drop_other h]

/-- A write to a field leaves the cells of every other field alone. -/
@[simp] theorem State.getAt_putAt_field (s : State) (f g : Fld) (i j i' j' v : Nat) (h : g.id ≠ f.id) :
    (s.putAt f i j v).getAt g i' j' = s.getAt g i' j' :=
  s.getAt_putAt_key v fun e => h (congrArg Prod.fst e)

/-- A write to one block leaves the same field of every other block alone. -/
@[simp] theorem State.getAt_putAt_block (s : State) (f g : Fld) (i j i' j' v : Nat) (h : i' ≠ i) :
    (s.putAt f i j v).getAt g i' j' = s.getAt g i' j' :=
  s.getAt_putAt_key v fun e => h (congrArg (fun k : Key => k.2.1) e)

/-- A write to one copy leaves the other copies alone. -/
@[simp] theorem State.getAt_putAt_copy (s : State) (f g : Fld) (i j i' j' v : Nat) (h : j' ≠ j) :
    (s.putAt f i j v).getAt g i' j' = s.getAt g i' j' :=
  s.getAt_putAt_key v fun e => h (congrArg (fun k : Key => k.2.2) e)

/-! The canonical form. -/

theorem Key.below_trans {a b c : Key} (h : Key.below a b = true) (h' : Key.below b c = true) : Key.below a c = true := by
  obtain ⟨a1, a2, a3⟩ := a; obtain ⟨b1, b2, b3⟩ := b; obtain ⟨c1, c2, c3⟩ := c
  simp only [Key.below, Bool.or_eq_true, Bool.and_eq_true, decide_eq_true_eq] at *
  omega

theorem Key.below_total {a b : Key} (h : b ≠ a) (h' : Key.below a b = false) : Key.below b a = true := by
  obtain ⟨a1, a2, a3⟩ := a; obtain ⟨b1, b2, b3⟩ := b
  have e : ¬(b1 = a1 ∧ b2 = a2 ∧ b3 = a3) := fun ⟨x, y, z⟩ => h (by rw [x, y, z])
  simp only [Key.below, Bool.or_eq_true, Bool.or_eq_false_iff, Bool.and_eq_true, Bool.and_eq_false_iff, decide_eq_true_eq,
    decide_eq_false_iff_not] at *
  omega

theorem Cells.wf_filter (q : Key × Nat → Bool) {c : Cells} (h : c.wf = true) : Cells.wf (c.filter q) = true := by
  induction c with
  | nil => rfl
  | cons p t ih =>
    obtain ⟨k, v⟩ := p
    simp only [Cells.wf, Bool.and_eq_true, List.all_eq_true] at h
    by_cases hq : q (k, v) = true
    · rw [List.filter_cons_of_pos hq]
      simp only [Cells.wf, Bool.and_eq_true, List.all_eq_true]
      exact ⟨fun x hx => h.1 x ((List.mem_filter.mp hx).1), ih h.2⟩
    · rw [List.filter_cons_of_neg hq]; exact ih h.2

theorem Cells.mem_list {k : Key} {v : Nat} {c : Cells} {x : Key × Nat} (h : x ∈ c.list k v) : x = (k, v) ∨ x ∈ c := by
  induction c with
  | nil => simpa [Cells.list] using h
  | cons p t ih =>
    obtain ⟨k', v'⟩ := p
    simp only [Cells.list] at h
    split at h
    · rcases List.mem_cons.mp h with h | h
      · exact .inl h
      · exact .inr (List.mem_cons_of_mem _ h)
    · split at h
      · exact List.mem_cons.mp h
      · rcases List.mem_cons.mp h with h | h
        · exact .inr (h ▸ List.mem_cons_self)
        · rcases ih h with h | h
          · exact .inl h
          · exact .inr (List.mem_cons_of_mem _ h)

theorem Cells.wf_list (k : Key) (v : Nat) {c : Cells} (h : c.wf = true) : Cells.wf (c.list k v) = true := by
  induction c with
  | nil => rfl
  | cons p t ih =>
    obtain ⟨k', v'⟩ := p
    have h' := h
    simp only [Cells.wf, Bool.and_eq_true, List.all_eq_true] at h'
    unfold Cells.list
    split
    · rename_i e; subst e; simpa [Cells.wf] using h
    · rename_i e
      split
      · rename_i b
        simp only [Cells.wf, Bool.and_eq_true, List.all_eq_true, List.mem_cons]
        refine ⟨?_, h'.1, h'.2⟩
        rintro x (rfl | hx)
        · exact b
        · exact Key.below_trans b (h'.1 x hx)
      · rename_i b
        simp only [Cells.wf, Bool.and_eq_true, List.all_eq_true]
        refine ⟨fun x hx => ?_, ih h'.2⟩
        rcases Cells.mem_list hx with rfl | hx
        · exact Key.below_total e (by simpa using b)
        · exact h'.1 x hx

theorem Cells.wf_drop (k : Key) {c : Cells} (h : c.wf = true) : Cells.wf (c.drop k) = true := Cells.wf_filter _ h

/-- A write to a cell keeps the canonical form of the cells. -/
theorem State.putAt_cells_wf {s : State} (f : Fld) (i j v : Nat) (h : Cells.wf s.cells = true) :
    Cells.wf (s.putAt f i j v).cells = true := by
  unfold State.putAt
  dsimp only
  split
  · exact Cells.wf_drop _ h
  · exact Cells.wf_list _ _ (Cells.wf_drop _ h)

/-- An event that resets cells keeps the canonical form of the cells. -/
theorem State.resetCells_cells_wf {s : State} (g : Key → Bool) (h : Cells.wf s.cells = true) :
    Cells.wf (s.resetCells g).cells = true := Cells.wf_filter _ h

end Sys2Proof.Machine
end

