-- ==== Sys2Proof/Laws/Memory.lean ====
section
/-!
SUPPORT. Reading a byte after writing one, and the canonical form of memory, which every memory operation keeps.
-/
namespace Sys2Proof.Machine

theorem Memory.read_of_below {a : Nat} {m : Memory} (h : ∀ c ∈ m, a < c.1) : Memory.read a m = 0 := by
  induction m with
  | nil => rfl
  | cons p t ih =>
    obtain ⟨b, w⟩ := p
    have : a < b := h (b, w) List.mem_cons_self
    have e : b ≠ a := by omega
    simp only [Memory.read, e, if_false]
    exact ih fun c hc => h c (List.mem_cons_of_mem _ hc)

theorem Memory.wf_cons {a : Nat} {v : Byte} {t : Memory} :
    Memory.wf ((a, v) :: t) = true ↔ v ≠ 0 ∧ (∀ c ∈ t, a < c.1) ∧ Memory.wf t = true := by
  simp [Memory.wf, and_assoc]

/-- A byte reads what was written to it. -/
theorem Memory.read_write_same {m : Memory} (a : Nat) (v : Byte) (h : m.wf = true) : (m.write a v).read a = v := by
  induction m with
  | nil => unfold Memory.write; split <;> simp_all [Memory.read]
  | cons p t ih =>
    obtain ⟨b, w⟩ := p
    obtain ⟨hw, hb, ht⟩ := Memory.wf_cons.mp h
    unfold Memory.write
    split
    · rename_i hab
      split
      · rename_i e
        rw [e]
        refine Memory.read_of_below ?_
        intro c hc
        rcases List.mem_cons.mp hc with rfl | hc
        · exact hab
        · exact Nat.lt_trans hab (hb c hc)
      · simp [Memory.read]
    · split
      · rename_i e
        subst e
        split
        · rename_i e; rw [e]; exact Memory.read_of_below hb
        · simp [Memory.read]
      · rename_i hab e
        simpa [Memory.read, e] using ih ht

/-- A write of one byte leaves every other byte alone. -/
theorem Memory.read_write_other {m : Memory} {a x : Nat} (v : Byte) (h : x ≠ a) : (m.write a v).read x = m.read x := by
  induction m with
  | nil => unfold Memory.write; split <;> simp [Memory.read, Ne.symm h]
  | cons p t ih =>
    obtain ⟨b, w⟩ := p
    unfold Memory.write
    split
    · split
      · rfl
      · simp [Memory.read, Ne.symm h]
    · split
      · rename_i e
        subst e
        split <;> simp [Memory.read, Ne.symm h]
      · simp [Memory.read, ih]

theorem Memory.mem_write {m : Memory} {a : Nat} {v : Byte} {c : Host.Cell} (h : c ∈ m.write a v) : c = (a, v) ∨ c ∈ m := by
  induction m with
  | nil =>
    unfold Memory.write at h
    split at h
    · simp at h
    · left; simpa using h
  | cons p t ih =>
    obtain ⟨b, w⟩ := p
    unfold Memory.write at h
    split at h
    · split at h
      · exact .inr h
      · simpa [List.mem_cons] using h
    · split at h
      · split at h
        · exact .inr (List.mem_cons_of_mem _ h)
        · rcases List.mem_cons.mp h with h | h
          · exact .inl h
          · exact .inr (List.mem_cons_of_mem _ h)
      · rcases List.mem_cons.mp h with h | h
        · exact .inr (h ▸ List.mem_cons_self)
        · rcases ih h with h | h
          · exact .inl h
          · exact .inr (List.mem_cons_of_mem _ h)

/-- A write keeps the canonical form. -/
theorem Memory.wf_write {m : Memory} (a : Nat) (v : Byte) (h : m.wf = true) : Memory.wf (m.write a v) = true := by
  induction m with
  | nil => unfold Memory.write; split <;> simp_all [Memory.wf]
  | cons p t ih =>
    obtain ⟨b, w⟩ := p
    obtain ⟨hw, hb, ht⟩ := Memory.wf_cons.mp h
    unfold Memory.write
    split
    · rename_i hab
      split
      · exact h
      · rename_i hv
        refine Memory.wf_cons.mpr ⟨hv, ?_, h⟩
        intro c hc
        rcases List.mem_cons.mp hc with rfl | hc
        · exact hab
        · exact Nat.lt_trans hab (hb c hc)
    · split
      · rename_i e
        subst e
        split
        · exact ht
        · rename_i hv; exact Memory.wf_cons.mpr ⟨hv, hb, ht⟩
      · rename_i hab e
        refine Memory.wf_cons.mpr ⟨hw, ?_, ih ht⟩
        intro c hc
        rcases Memory.mem_write hc with rfl | hc
        · show b < a; omega
        · exact hb c hc

theorem Memory.wf_filter (q : Host.Cell → Bool) {m : Memory} (h : m.wf = true) : Memory.wf (m.filter q) = true := by
  induction m with
  | nil => rfl
  | cons p t ih =>
    obtain ⟨b, w⟩ := p
    obtain ⟨hw, hb, ht⟩ := Memory.wf_cons.mp h
    by_cases hq : q (b, w) = true
    · rw [List.filter_cons_of_pos hq]
      exact Memory.wf_cons.mpr ⟨hw, fun c hc => hb c ((List.mem_filter.mp hc).1), ih ht⟩
    · rw [List.filter_cons_of_neg hq]; exact ih ht

theorem Memory.read_filter {q : Host.Cell → Bool} {a : Nat} (h : ∀ v, q (a, v) = true) (m : Memory) : Memory.read a (m.filter q) = m.read a := by
  induction m with
  | nil => rfl
  | cons p t ih =>
    obtain ⟨b, w⟩ := p
    by_cases hq : q (b, w) = true
    · rw [List.filter_cons_of_pos hq]; simp [Memory.read, ih]
    · rw [List.filter_cons_of_neg hq, ih]
      have : b ≠ a := fun e => hq (e ▸ h w)
      simp [Memory.read, this]

theorem Memory.read_filter_gone {q : Host.Cell → Bool} {a : Nat} (h : ∀ v, q (a, v) = false) (m : Memory) : Memory.read a (m.filter q) = 0 := by
  induction m with
  | nil => rfl
  | cons p t ih =>
    obtain ⟨b, w⟩ := p
    by_cases hq : q (b, w) = true
    · rw [List.filter_cons_of_pos hq]
      have : b ≠ a := fun e => by rw [e, h w] at hq; cases hq
      simpa [Memory.read, this] using ih
    · rw [List.filter_cons_of_neg hq]; exact ih

/-! The state's operations. -/

@[simp] theorem State.rd8_wr8_same {s : State} (a : Nat) (v : Byte) (h : Memory.wf s.mem = true) : (s.wr8 a v).rd8 a = v :=
  Memory.read_write_same a v h

@[simp] theorem State.rd8_wr8_other (s : State) (a x : Nat) (v : Byte) (h : x ≠ a) : (s.wr8 a v).rd8 x = s.rd8 x :=
  Memory.read_write_other v h

/-- Writing one byte keeps the canonical form. -/
theorem State.wr8_mem_wf {s : State} (a : Nat) (v : Byte) (h : Memory.wf s.mem = true) : Memory.wf (s.wr8 a v).mem = true :=
  Memory.wf_write a v h

/-- Writing a word keeps the canonical form. -/
theorem State.wr32_mem_wf {s : State} (a : Nat) (v : Word) (h : Memory.wf s.mem = true) : Memory.wf (s.wr32 a v).mem = true :=
  State.wr8_mem_wf _ _ (State.wr8_mem_wf _ _ (State.wr8_mem_wf _ _ (State.wr8_mem_wf _ _ h)))

/-- Writing a run of bytes keeps the canonical form. -/
theorem State.wrBytes_mem_wf (l : List Byte) {s : State} (a : Nat) (h : Memory.wf s.mem = true) : Memory.wf (s.wrBytes a l).mem = true := by
  induction l generalizing s a with
  | nil => exact h
  | cons b t ih => exact ih (a + 1) (State.wr8_mem_wf a b h)

/-- Writing a ferroelectric array keeps the canonical form. -/
theorem State.wrFe_mem_wf (l : List Byte) {s : State} (a : Nat) (h : Memory.wf s.mem = true) : Memory.wf (s.wrFe a l).mem = true :=
  State.wrBytes_mem_wf l a (s := { s with feBad := _ }) h

/-- Clearing a range keeps the canonical form. -/
theorem State.zeroMem_mem_wf {s : State} (lo hi : Nat) (h : Memory.wf s.mem = true) : Memory.wf (s.zeroMem lo hi).mem = true :=
  Memory.wf_filter _ h

/-- A word write leaves every byte outside the word alone. -/
theorem State.rd8_wr32_other (s : State) {a x : Nat} (v : Word) (h : x < a ∨ a + 4 ≤ x) : (s.wr32 a v).rd8 x = s.rd8 x := by
  unfold State.wr32
  rw [State.rd8_wr8_other, State.rd8_wr8_other, State.rd8_wr8_other, State.rd8_wr8_other] <;> omega

/-- A run of bytes leaves every byte outside the run alone. -/
theorem State.rd8_wrBytes_other (l : List Byte) (s : State) {a x : Nat} (h : x < a ∨ a + l.length ≤ x) : (s.wrBytes a l).rd8 x = s.rd8 x := by
  induction l generalizing s a with
  | nil => rfl
  | cons b t ih =>
    simp only [List.length_cons] at h
    rw [State.wrBytes, ih (s.wr8 a b) (by omega), State.rd8_wr8_other]
    omega

end Sys2Proof.Machine
end

