-- ==== Sys2Proof/Laws/State.lean ====
section
/-!
SUPPORT. What each update of the state leaves alone, field by field. Every write of a register is a `putAt`, which the equations below show to simp.
-/
namespace Sys2Proof.Machine

@[simp] theorem State.put_eq (s : State) (f : Fld) (i v : Nat) : s.put f i v = s.putAt f i 0 v := rfl
@[simp] theorem State.get_eq (s : State) (f : Fld) (i : Nat) : s.get f i = s.getAt f i 0 := rfl
@[simp] theorem State.raise_eq (s : State) (f : Fld) (i : Nat) : s.raise f i = s.putAt f i 0 1 := rfl
@[simp] theorem State.clr_eq (s : State) (f : Fld) (i : Nat) : s.clr f i = s.putAt f i 0 0 := rfl
@[simp] theorem State.raiseAt_eq (s : State) (f : Fld) (i j : Nat) : s.raiseAt f i j = s.putAt f i j 1 := rfl
@[simp] theorem State.clrAt_eq (s : State) (f : Fld) (i j : Nat) : s.clrAt f i j = s.putAt f i j 0 := rfl
@[simp] theorem State.putB_eq (s : State) (f : Fld) (i : Nat) (b : Bool) : s.putB f i b = s.putAt f i 0 b.toNat := rfl
@[simp] theorem State.bump_eq (s : State) (f : Fld) (i : Nat) : s.bump f i = s.bumpAt f i 0 := rfl

/-! A write of a cell. -/

@[simp] theorem State.putAt_mem (s : State) (f : Fld) (i j v : Nat) : (s.putAt f i j v).mem = s.mem := rfl
@[simp] theorem State.putAt_jrnA (s : State) (f : Fld) (i j v : Nat) : (s.putAt f i j v).jrnA = s.jrnA := rfl
@[simp] theorem State.putAt_jrnB (s : State) (f : Fld) (i j v : Nat) : (s.putAt f i j v).jrnB = s.jrnB := rfl
@[simp] theorem State.putAt_cmds (s : State) (f : Fld) (i j v : Nat) : (s.putAt f i j v).cmds = s.cmds := rfl
@[simp] theorem State.putAt_dmPend (s : State) (f : Fld) (i j v : Nat) : (s.putAt f i j v).dmPend = s.dmPend := rfl
@[simp] theorem State.putAt_snaps (s : State) (f : Fld) (i j v : Nat) : (s.putAt f i j v).snaps = s.snaps := rfl
@[simp] theorem State.putAt_laneDue (s : State) (f : Fld) (i j v : Nat) : (s.putAt f i j v).laneDue = s.laneDue := rfl
@[simp] theorem State.putAt_snapBuf (s : State) (f : Fld) (i j v : Nat) : (s.putAt f i j v).snapBuf = s.snapBuf := rfl
@[simp] theorem State.putAt_metArch (s : State) (f : Fld) (i j v : Nat) : (s.putAt f i j v).metArch = s.metArch := rfl
@[simp] theorem State.putAt_metTxA (s : State) (f : Fld) (i j v : Nat) : (s.putAt f i j v).metTxA = s.metTxA := rfl
@[simp] theorem State.putAt_metTxB (s : State) (f : Fld) (i j v : Nat) : (s.putAt f i j v).metTxB = s.metTxB := rfl
@[simp] theorem State.putAt_evMain (s : State) (f : Fld) (i j v : Nat) : (s.putAt f i j v).evMain = s.evMain := rfl
@[simp] theorem State.putAt_evSafe (s : State) (f : Fld) (i j v : Nat) : (s.putAt f i j v).evSafe = s.evSafe := rfl
@[simp] theorem State.putAt_evHost (s : State) (f : Fld) (i j v : Nat) : (s.putAt f i j v).evHost = s.evHost := rfl
@[simp] theorem State.putAt_evFolds (s : State) (f : Fld) (i j v : Nat) : (s.putAt f i j v).evFolds = s.evFolds := rfl
@[simp] theorem State.putAt_evKept (s : State) (f : Fld) (i j v : Nat) : (s.putAt f i j v).evKept = s.evKept := rfl
@[simp] theorem State.putAt_awlProbes (s : State) (f : Fld) (i j v : Nat) : (s.putAt f i j v).awlProbes = s.awlProbes := rfl
@[simp] theorem State.putAt_awlErrs (s : State) (f : Fld) (i j v : Nat) : (s.putAt f i j v).awlErrs = s.awlErrs := rfl
@[simp] theorem State.putAt_feBad (s : State) (f : Fld) (i j v : Nat) : (s.putAt f i j v).feBad = s.feBad := rfl
@[simp] theorem State.putAt_ecc (s : State) (f : Fld) (i j v : Nat) : (s.putAt f i j v).ecc = s.ecc := rfl
@[simp] theorem State.putAt_perms (s : State) (f : Fld) (i j v : Nat) : (s.putAt f i j v).perms = s.perms := rfl
@[simp] theorem State.putAt_hbReply (s : State) (f : Fld) (i j v : Nat) : (s.putAt f i j v).hbReply = s.hbReply := rfl
@[simp] theorem State.putAt_svcReply (s : State) (f : Fld) (i j v : Nat) : (s.putAt f i j v).svcReply = s.svcReply := rfl
@[simp] theorem State.putAt_freeCtr (s : State) (f : Fld) (i j v : Nat) : (s.putAt f i j v).freeCtr = s.freeCtr := rfl
@[simp] theorem State.putAt_pending (s : State) (f : Fld) (i j v : Nat) : (s.putAt f i j v).pending = s.pending := rfl

/-! A count. -/

@[simp] theorem State.bumpAt_mem (s : State) (f : Fld) (i j : Nat) : (s.bumpAt f i j).mem = s.mem := by unfold State.bumpAt; split <;> rfl
@[simp] theorem State.bumpAt_jrnA (s : State) (f : Fld) (i j : Nat) : (s.bumpAt f i j).jrnA = s.jrnA := by unfold State.bumpAt; split <;> rfl
@[simp] theorem State.bumpAt_jrnB (s : State) (f : Fld) (i j : Nat) : (s.bumpAt f i j).jrnB = s.jrnB := by unfold State.bumpAt; split <;> rfl
@[simp] theorem State.bumpAt_cmds (s : State) (f : Fld) (i j : Nat) : (s.bumpAt f i j).cmds = s.cmds := by unfold State.bumpAt; split <;> rfl
@[simp] theorem State.bumpAt_dmPend (s : State) (f : Fld) (i j : Nat) : (s.bumpAt f i j).dmPend = s.dmPend := by unfold State.bumpAt; split <;> rfl
@[simp] theorem State.bumpAt_snaps (s : State) (f : Fld) (i j : Nat) : (s.bumpAt f i j).snaps = s.snaps := by unfold State.bumpAt; split <;> rfl
@[simp] theorem State.bumpAt_laneDue (s : State) (f : Fld) (i j : Nat) : (s.bumpAt f i j).laneDue = s.laneDue := by unfold State.bumpAt; split <;> rfl
@[simp] theorem State.bumpAt_snapBuf (s : State) (f : Fld) (i j : Nat) : (s.bumpAt f i j).snapBuf = s.snapBuf := by unfold State.bumpAt; split <;> rfl
@[simp] theorem State.bumpAt_metArch (s : State) (f : Fld) (i j : Nat) : (s.bumpAt f i j).metArch = s.metArch := by unfold State.bumpAt; split <;> rfl
@[simp] theorem State.bumpAt_metTxA (s : State) (f : Fld) (i j : Nat) : (s.bumpAt f i j).metTxA = s.metTxA := by unfold State.bumpAt; split <;> rfl
@[simp] theorem State.bumpAt_metTxB (s : State) (f : Fld) (i j : Nat) : (s.bumpAt f i j).metTxB = s.metTxB := by unfold State.bumpAt; split <;> rfl
@[simp] theorem State.bumpAt_evMain (s : State) (f : Fld) (i j : Nat) : (s.bumpAt f i j).evMain = s.evMain := by unfold State.bumpAt; split <;> rfl
@[simp] theorem State.bumpAt_evSafe (s : State) (f : Fld) (i j : Nat) : (s.bumpAt f i j).evSafe = s.evSafe := by unfold State.bumpAt; split <;> rfl
@[simp] theorem State.bumpAt_evHost (s : State) (f : Fld) (i j : Nat) : (s.bumpAt f i j).evHost = s.evHost := by unfold State.bumpAt; split <;> rfl
@[simp] theorem State.bumpAt_evFolds (s : State) (f : Fld) (i j : Nat) : (s.bumpAt f i j).evFolds = s.evFolds := by unfold State.bumpAt; split <;> rfl
@[simp] theorem State.bumpAt_evKept (s : State) (f : Fld) (i j : Nat) : (s.bumpAt f i j).evKept = s.evKept := by unfold State.bumpAt; split <;> rfl
@[simp] theorem State.bumpAt_awlProbes (s : State) (f : Fld) (i j : Nat) : (s.bumpAt f i j).awlProbes = s.awlProbes := by unfold State.bumpAt; split <;> rfl
@[simp] theorem State.bumpAt_awlErrs (s : State) (f : Fld) (i j : Nat) : (s.bumpAt f i j).awlErrs = s.awlErrs := by unfold State.bumpAt; split <;> rfl
@[simp] theorem State.bumpAt_feBad (s : State) (f : Fld) (i j : Nat) : (s.bumpAt f i j).feBad = s.feBad := by unfold State.bumpAt; split <;> rfl
@[simp] theorem State.bumpAt_ecc (s : State) (f : Fld) (i j : Nat) : (s.bumpAt f i j).ecc = s.ecc := by unfold State.bumpAt; split <;> rfl
@[simp] theorem State.bumpAt_perms (s : State) (f : Fld) (i j : Nat) : (s.bumpAt f i j).perms = s.perms := by unfold State.bumpAt; split <;> rfl
@[simp] theorem State.bumpAt_hbReply (s : State) (f : Fld) (i j : Nat) : (s.bumpAt f i j).hbReply = s.hbReply := by unfold State.bumpAt; split <;> rfl
@[simp] theorem State.bumpAt_svcReply (s : State) (f : Fld) (i j : Nat) : (s.bumpAt f i j).svcReply = s.svcReply := by unfold State.bumpAt; split <;> rfl
@[simp] theorem State.bumpAt_freeCtr (s : State) (f : Fld) (i j : Nat) : (s.bumpAt f i j).freeCtr = s.freeCtr := by unfold State.bumpAt; split <;> rfl
@[simp] theorem State.bumpAt_pending (s : State) (f : Fld) (i j : Nat) : (s.bumpAt f i j).pending = s.pending := by unfold State.bumpAt; split <;> rfl

/-! A reset of cells. -/

@[simp] theorem State.resetCells_mem (s : State) (g : Key → Bool) : (s.resetCells g).mem = s.mem := rfl
@[simp] theorem State.resetCells_jrnA (s : State) (g : Key → Bool) : (s.resetCells g).jrnA = s.jrnA := rfl
@[simp] theorem State.resetCells_jrnB (s : State) (g : Key → Bool) : (s.resetCells g).jrnB = s.jrnB := rfl
@[simp] theorem State.resetCells_cmds (s : State) (g : Key → Bool) : (s.resetCells g).cmds = s.cmds := rfl
@[simp] theorem State.resetCells_dmPend (s : State) (g : Key → Bool) : (s.resetCells g).dmPend = s.dmPend := rfl
@[simp] theorem State.resetCells_snaps (s : State) (g : Key → Bool) : (s.resetCells g).snaps = s.snaps := rfl
@[simp] theorem State.resetCells_laneDue (s : State) (g : Key → Bool) : (s.resetCells g).laneDue = s.laneDue := rfl
@[simp] theorem State.resetCells_snapBuf (s : State) (g : Key → Bool) : (s.resetCells g).snapBuf = s.snapBuf := rfl
@[simp] theorem State.resetCells_metArch (s : State) (g : Key → Bool) : (s.resetCells g).metArch = s.metArch := rfl
@[simp] theorem State.resetCells_metTxA (s : State) (g : Key → Bool) : (s.resetCells g).metTxA = s.metTxA := rfl
@[simp] theorem State.resetCells_metTxB (s : State) (g : Key → Bool) : (s.resetCells g).metTxB = s.metTxB := rfl
@[simp] theorem State.resetCells_evMain (s : State) (g : Key → Bool) : (s.resetCells g).evMain = s.evMain := rfl
@[simp] theorem State.resetCells_evSafe (s : State) (g : Key → Bool) : (s.resetCells g).evSafe = s.evSafe := rfl
@[simp] theorem State.resetCells_evHost (s : State) (g : Key → Bool) : (s.resetCells g).evHost = s.evHost := rfl
@[simp] theorem State.resetCells_evFolds (s : State) (g : Key → Bool) : (s.resetCells g).evFolds = s.evFolds := rfl
@[simp] theorem State.resetCells_evKept (s : State) (g : Key → Bool) : (s.resetCells g).evKept = s.evKept := rfl
@[simp] theorem State.resetCells_awlProbes (s : State) (g : Key → Bool) : (s.resetCells g).awlProbes = s.awlProbes := rfl
@[simp] theorem State.resetCells_awlErrs (s : State) (g : Key → Bool) : (s.resetCells g).awlErrs = s.awlErrs := rfl
@[simp] theorem State.resetCells_feBad (s : State) (g : Key → Bool) : (s.resetCells g).feBad = s.feBad := rfl
@[simp] theorem State.resetCells_ecc (s : State) (g : Key → Bool) : (s.resetCells g).ecc = s.ecc := rfl
@[simp] theorem State.resetCells_perms (s : State) (g : Key → Bool) : (s.resetCells g).perms = s.perms := rfl
@[simp] theorem State.resetCells_hbReply (s : State) (g : Key → Bool) : (s.resetCells g).hbReply = s.hbReply := rfl
@[simp] theorem State.resetCells_svcReply (s : State) (g : Key → Bool) : (s.resetCells g).svcReply = s.svcReply := rfl
@[simp] theorem State.resetCells_freeCtr (s : State) (g : Key → Bool) : (s.resetCells g).freeCtr = s.freeCtr := rfl
@[simp] theorem State.resetCells_pending (s : State) (g : Key → Bool) : (s.resetCells g).pending = s.pending := rfl

/-! A write of a byte. -/

@[simp] theorem State.wr8_cells (s : State) (a : Nat) (v : Byte) : (s.wr8 a v).cells = s.cells := rfl
@[simp] theorem State.wr8_jrnA (s : State) (a : Nat) (v : Byte) : (s.wr8 a v).jrnA = s.jrnA := rfl
@[simp] theorem State.wr8_jrnB (s : State) (a : Nat) (v : Byte) : (s.wr8 a v).jrnB = s.jrnB := rfl
@[simp] theorem State.wr8_cmds (s : State) (a : Nat) (v : Byte) : (s.wr8 a v).cmds = s.cmds := rfl
@[simp] theorem State.wr8_dmPend (s : State) (a : Nat) (v : Byte) : (s.wr8 a v).dmPend = s.dmPend := rfl
@[simp] theorem State.wr8_snaps (s : State) (a : Nat) (v : Byte) : (s.wr8 a v).snaps = s.snaps := rfl
@[simp] theorem State.wr8_laneDue (s : State) (a : Nat) (v : Byte) : (s.wr8 a v).laneDue = s.laneDue := rfl
@[simp] theorem State.wr8_snapBuf (s : State) (a : Nat) (v : Byte) : (s.wr8 a v).snapBuf = s.snapBuf := rfl
@[simp] theorem State.wr8_metArch (s : State) (a : Nat) (v : Byte) : (s.wr8 a v).metArch = s.metArch := rfl
@[simp] theorem State.wr8_metTxA (s : State) (a : Nat) (v : Byte) : (s.wr8 a v).metTxA = s.metTxA := rfl
@[simp] theorem State.wr8_metTxB (s : State) (a : Nat) (v : Byte) : (s.wr8 a v).metTxB = s.metTxB := rfl
@[simp] theorem State.wr8_evMain (s : State) (a : Nat) (v : Byte) : (s.wr8 a v).evMain = s.evMain := rfl
@[simp] theorem State.wr8_evSafe (s : State) (a : Nat) (v : Byte) : (s.wr8 a v).evSafe = s.evSafe := rfl
@[simp] theorem State.wr8_evHost (s : State) (a : Nat) (v : Byte) : (s.wr8 a v).evHost = s.evHost := rfl
@[simp] theorem State.wr8_evFolds (s : State) (a : Nat) (v : Byte) : (s.wr8 a v).evFolds = s.evFolds := rfl
@[simp] theorem State.wr8_evKept (s : State) (a : Nat) (v : Byte) : (s.wr8 a v).evKept = s.evKept := rfl
@[simp] theorem State.wr8_awlProbes (s : State) (a : Nat) (v : Byte) : (s.wr8 a v).awlProbes = s.awlProbes := rfl
@[simp] theorem State.wr8_awlErrs (s : State) (a : Nat) (v : Byte) : (s.wr8 a v).awlErrs = s.awlErrs := rfl
@[simp] theorem State.wr8_feBad (s : State) (a : Nat) (v : Byte) : (s.wr8 a v).feBad = s.feBad := rfl
@[simp] theorem State.wr8_ecc (s : State) (a : Nat) (v : Byte) : (s.wr8 a v).ecc = s.ecc := rfl
@[simp] theorem State.wr8_perms (s : State) (a : Nat) (v : Byte) : (s.wr8 a v).perms = s.perms := rfl
@[simp] theorem State.wr8_hbReply (s : State) (a : Nat) (v : Byte) : (s.wr8 a v).hbReply = s.hbReply := rfl
@[simp] theorem State.wr8_svcReply (s : State) (a : Nat) (v : Byte) : (s.wr8 a v).svcReply = s.svcReply := rfl
@[simp] theorem State.wr8_freeCtr (s : State) (a : Nat) (v : Byte) : (s.wr8 a v).freeCtr = s.freeCtr := rfl
@[simp] theorem State.wr8_pending (s : State) (a : Nat) (v : Byte) : (s.wr8 a v).pending = s.pending := rfl

/-! A write of a word. -/

@[simp] theorem State.wr32_cells (s : State) (a : Nat) (v : Word) : (s.wr32 a v).cells = s.cells := rfl
@[simp] theorem State.wr32_jrnA (s : State) (a : Nat) (v : Word) : (s.wr32 a v).jrnA = s.jrnA := rfl
@[simp] theorem State.wr32_jrnB (s : State) (a : Nat) (v : Word) : (s.wr32 a v).jrnB = s.jrnB := rfl
@[simp] theorem State.wr32_cmds (s : State) (a : Nat) (v : Word) : (s.wr32 a v).cmds = s.cmds := rfl
@[simp] theorem State.wr32_dmPend (s : State) (a : Nat) (v : Word) : (s.wr32 a v).dmPend = s.dmPend := rfl
@[simp] theorem State.wr32_snaps (s : State) (a : Nat) (v : Word) : (s.wr32 a v).snaps = s.snaps := rfl
@[simp] theorem State.wr32_laneDue (s : State) (a : Nat) (v : Word) : (s.wr32 a v).laneDue = s.laneDue := rfl
@[simp] theorem State.wr32_snapBuf (s : State) (a : Nat) (v : Word) : (s.wr32 a v).snapBuf = s.snapBuf := rfl
@[simp] theorem State.wr32_metArch (s : State) (a : Nat) (v : Word) : (s.wr32 a v).metArch = s.metArch := rfl
@[simp] theorem State.wr32_metTxA (s : State) (a : Nat) (v : Word) : (s.wr32 a v).metTxA = s.metTxA := rfl
@[simp] theorem State.wr32_metTxB (s : State) (a : Nat) (v : Word) : (s.wr32 a v).metTxB = s.metTxB := rfl
@[simp] theorem State.wr32_evMain (s : State) (a : Nat) (v : Word) : (s.wr32 a v).evMain = s.evMain := rfl
@[simp] theorem State.wr32_evSafe (s : State) (a : Nat) (v : Word) : (s.wr32 a v).evSafe = s.evSafe := rfl
@[simp] theorem State.wr32_evHost (s : State) (a : Nat) (v : Word) : (s.wr32 a v).evHost = s.evHost := rfl
@[simp] theorem State.wr32_evFolds (s : State) (a : Nat) (v : Word) : (s.wr32 a v).evFolds = s.evFolds := rfl
@[simp] theorem State.wr32_evKept (s : State) (a : Nat) (v : Word) : (s.wr32 a v).evKept = s.evKept := rfl
@[simp] theorem State.wr32_awlProbes (s : State) (a : Nat) (v : Word) : (s.wr32 a v).awlProbes = s.awlProbes := rfl
@[simp] theorem State.wr32_awlErrs (s : State) (a : Nat) (v : Word) : (s.wr32 a v).awlErrs = s.awlErrs := rfl
@[simp] theorem State.wr32_feBad (s : State) (a : Nat) (v : Word) : (s.wr32 a v).feBad = s.feBad := rfl
@[simp] theorem State.wr32_ecc (s : State) (a : Nat) (v : Word) : (s.wr32 a v).ecc = s.ecc := rfl
@[simp] theorem State.wr32_perms (s : State) (a : Nat) (v : Word) : (s.wr32 a v).perms = s.perms := rfl
@[simp] theorem State.wr32_hbReply (s : State) (a : Nat) (v : Word) : (s.wr32 a v).hbReply = s.hbReply := rfl
@[simp] theorem State.wr32_svcReply (s : State) (a : Nat) (v : Word) : (s.wr32 a v).svcReply = s.svcReply := rfl
@[simp] theorem State.wr32_freeCtr (s : State) (a : Nat) (v : Word) : (s.wr32 a v).freeCtr = s.freeCtr := rfl
@[simp] theorem State.wr32_pending (s : State) (a : Nat) (v : Word) : (s.wr32 a v).pending = s.pending := rfl

/-! A range of memory that is cleared. -/

@[simp] theorem State.zeroMem_cells (s : State) (lo hi : Nat) : (s.zeroMem lo hi).cells = s.cells := rfl
@[simp] theorem State.zeroMem_jrnA (s : State) (lo hi : Nat) : (s.zeroMem lo hi).jrnA = s.jrnA := rfl
@[simp] theorem State.zeroMem_jrnB (s : State) (lo hi : Nat) : (s.zeroMem lo hi).jrnB = s.jrnB := rfl
@[simp] theorem State.zeroMem_cmds (s : State) (lo hi : Nat) : (s.zeroMem lo hi).cmds = s.cmds := rfl
@[simp] theorem State.zeroMem_dmPend (s : State) (lo hi : Nat) : (s.zeroMem lo hi).dmPend = s.dmPend := rfl
@[simp] theorem State.zeroMem_snaps (s : State) (lo hi : Nat) : (s.zeroMem lo hi).snaps = s.snaps := rfl
@[simp] theorem State.zeroMem_laneDue (s : State) (lo hi : Nat) : (s.zeroMem lo hi).laneDue = s.laneDue := rfl
@[simp] theorem State.zeroMem_snapBuf (s : State) (lo hi : Nat) : (s.zeroMem lo hi).snapBuf = s.snapBuf := rfl
@[simp] theorem State.zeroMem_metArch (s : State) (lo hi : Nat) : (s.zeroMem lo hi).metArch = s.metArch := rfl
@[simp] theorem State.zeroMem_metTxA (s : State) (lo hi : Nat) : (s.zeroMem lo hi).metTxA = s.metTxA := rfl
@[simp] theorem State.zeroMem_metTxB (s : State) (lo hi : Nat) : (s.zeroMem lo hi).metTxB = s.metTxB := rfl
@[simp] theorem State.zeroMem_evMain (s : State) (lo hi : Nat) : (s.zeroMem lo hi).evMain = s.evMain := rfl
@[simp] theorem State.zeroMem_evSafe (s : State) (lo hi : Nat) : (s.zeroMem lo hi).evSafe = s.evSafe := rfl
@[simp] theorem State.zeroMem_evHost (s : State) (lo hi : Nat) : (s.zeroMem lo hi).evHost = s.evHost := rfl
@[simp] theorem State.zeroMem_evFolds (s : State) (lo hi : Nat) : (s.zeroMem lo hi).evFolds = s.evFolds := rfl
@[simp] theorem State.zeroMem_evKept (s : State) (lo hi : Nat) : (s.zeroMem lo hi).evKept = s.evKept := rfl
@[simp] theorem State.zeroMem_awlProbes (s : State) (lo hi : Nat) : (s.zeroMem lo hi).awlProbes = s.awlProbes := rfl
@[simp] theorem State.zeroMem_awlErrs (s : State) (lo hi : Nat) : (s.zeroMem lo hi).awlErrs = s.awlErrs := rfl
@[simp] theorem State.zeroMem_feBad (s : State) (lo hi : Nat) : (s.zeroMem lo hi).feBad = s.feBad := rfl
@[simp] theorem State.zeroMem_perms (s : State) (lo hi : Nat) : (s.zeroMem lo hi).perms = s.perms := rfl
@[simp] theorem State.zeroMem_hbReply (s : State) (lo hi : Nat) : (s.zeroMem lo hi).hbReply = s.hbReply := rfl
@[simp] theorem State.zeroMem_svcReply (s : State) (lo hi : Nat) : (s.zeroMem lo hi).svcReply = s.svcReply := rfl
@[simp] theorem State.zeroMem_freeCtr (s : State) (lo hi : Nat) : (s.zeroMem lo hi).freeCtr = s.freeCtr := rfl
@[simp] theorem State.zeroMem_pending (s : State) (lo hi : Nat) : (s.zeroMem lo hi).pending = s.pending := rfl

/-! A write of a run of bytes, which is a write of bytes one after the other. -/

@[simp] theorem State.wrBytes_cells (l : List Byte) (s : State) (a : Nat) : (s.wrBytes a l).cells = s.cells := by
  induction l generalizing s a with
  | nil => rfl
  | cons b t ih => exact ih (s.wr8 a b) (a + 1)
@[simp] theorem State.wrBytes_jrnA (l : List Byte) (s : State) (a : Nat) : (s.wrBytes a l).jrnA = s.jrnA := by
  induction l generalizing s a with
  | nil => rfl
  | cons b t ih => exact ih (s.wr8 a b) (a + 1)
@[simp] theorem State.wrBytes_jrnB (l : List Byte) (s : State) (a : Nat) : (s.wrBytes a l).jrnB = s.jrnB := by
  induction l generalizing s a with
  | nil => rfl
  | cons b t ih => exact ih (s.wr8 a b) (a + 1)
@[simp] theorem State.wrBytes_cmds (l : List Byte) (s : State) (a : Nat) : (s.wrBytes a l).cmds = s.cmds := by
  induction l generalizing s a with
  | nil => rfl
  | cons b t ih => exact ih (s.wr8 a b) (a + 1)
@[simp] theorem State.wrBytes_dmPend (l : List Byte) (s : State) (a : Nat) : (s.wrBytes a l).dmPend = s.dmPend := by
  induction l generalizing s a with
  | nil => rfl
  | cons b t ih => exact ih (s.wr8 a b) (a + 1)
@[simp] theorem State.wrBytes_snaps (l : List Byte) (s : State) (a : Nat) : (s.wrBytes a l).snaps = s.snaps := by
  induction l generalizing s a with
  | nil => rfl
  | cons b t ih => exact ih (s.wr8 a b) (a + 1)
@[simp] theorem State.wrBytes_laneDue (l : List Byte) (s : State) (a : Nat) : (s.wrBytes a l).laneDue = s.laneDue := by
  induction l generalizing s a with
  | nil => rfl
  | cons b t ih => exact ih (s.wr8 a b) (a + 1)
@[simp] theorem State.wrBytes_snapBuf (l : List Byte) (s : State) (a : Nat) : (s.wrBytes a l).snapBuf = s.snapBuf := by
  induction l generalizing s a with
  | nil => rfl
  | cons b t ih => exact ih (s.wr8 a b) (a + 1)
@[simp] theorem State.wrBytes_metArch (l : List Byte) (s : State) (a : Nat) : (s.wrBytes a l).metArch = s.metArch := by
  induction l generalizing s a with
  | nil => rfl
  | cons b t ih => exact ih (s.wr8 a b) (a + 1)
@[simp] theorem State.wrBytes_metTxA (l : List Byte) (s : State) (a : Nat) : (s.wrBytes a l).metTxA = s.metTxA := by
  induction l generalizing s a with
  | nil => rfl
  | cons b t ih => exact ih (s.wr8 a b) (a + 1)
@[simp] theorem State.wrBytes_metTxB (l : List Byte) (s : State) (a : Nat) : (s.wrBytes a l).metTxB = s.metTxB := by
  induction l generalizing s a with
  | nil => rfl
  | cons b t ih => exact ih (s.wr8 a b) (a + 1)
@[simp] theorem State.wrBytes_evMain (l : List Byte) (s : State) (a : Nat) : (s.wrBytes a l).evMain = s.evMain := by
  induction l generalizing s a with
  | nil => rfl
  | cons b t ih => exact ih (s.wr8 a b) (a + 1)
@[simp] theorem State.wrBytes_evSafe (l : List Byte) (s : State) (a : Nat) : (s.wrBytes a l).evSafe = s.evSafe := by
  induction l generalizing s a with
  | nil => rfl
  | cons b t ih => exact ih (s.wr8 a b) (a + 1)
@[simp] theorem State.wrBytes_evHost (l : List Byte) (s : State) (a : Nat) : (s.wrBytes a l).evHost = s.evHost := by
  induction l generalizing s a with
  | nil => rfl
  | cons b t ih => exact ih (s.wr8 a b) (a + 1)
@[simp] theorem State.wrBytes_evFolds (l : List Byte) (s : State) (a : Nat) : (s.wrBytes a l).evFolds = s.evFolds := by
  induction l generalizing s a with
  | nil => rfl
  | cons b t ih => exact ih (s.wr8 a b) (a + 1)
@[simp] theorem State.wrBytes_evKept (l : List Byte) (s : State) (a : Nat) : (s.wrBytes a l).evKept = s.evKept := by
  induction l generalizing s a with
  | nil => rfl
  | cons b t ih => exact ih (s.wr8 a b) (a + 1)
@[simp] theorem State.wrBytes_awlProbes (l : List Byte) (s : State) (a : Nat) : (s.wrBytes a l).awlProbes = s.awlProbes := by
  induction l generalizing s a with
  | nil => rfl
  | cons b t ih => exact ih (s.wr8 a b) (a + 1)
@[simp] theorem State.wrBytes_awlErrs (l : List Byte) (s : State) (a : Nat) : (s.wrBytes a l).awlErrs = s.awlErrs := by
  induction l generalizing s a with
  | nil => rfl
  | cons b t ih => exact ih (s.wr8 a b) (a + 1)
@[simp] theorem State.wrBytes_feBad (l : List Byte) (s : State) (a : Nat) : (s.wrBytes a l).feBad = s.feBad := by
  induction l generalizing s a with
  | nil => rfl
  | cons b t ih => exact ih (s.wr8 a b) (a + 1)
@[simp] theorem State.wrBytes_ecc (l : List Byte) (s : State) (a : Nat) : (s.wrBytes a l).ecc = s.ecc := by
  induction l generalizing s a with
  | nil => rfl
  | cons b t ih => exact ih (s.wr8 a b) (a + 1)
@[simp] theorem State.wrBytes_perms (l : List Byte) (s : State) (a : Nat) : (s.wrBytes a l).perms = s.perms := by
  induction l generalizing s a with
  | nil => rfl
  | cons b t ih => exact ih (s.wr8 a b) (a + 1)
@[simp] theorem State.wrBytes_hbReply (l : List Byte) (s : State) (a : Nat) : (s.wrBytes a l).hbReply = s.hbReply := by
  induction l generalizing s a with
  | nil => rfl
  | cons b t ih => exact ih (s.wr8 a b) (a + 1)
@[simp] theorem State.wrBytes_svcReply (l : List Byte) (s : State) (a : Nat) : (s.wrBytes a l).svcReply = s.svcReply := by
  induction l generalizing s a with
  | nil => rfl
  | cons b t ih => exact ih (s.wr8 a b) (a + 1)
@[simp] theorem State.wrBytes_freeCtr (l : List Byte) (s : State) (a : Nat) : (s.wrBytes a l).freeCtr = s.freeCtr := by
  induction l generalizing s a with
  | nil => rfl
  | cons b t ih => exact ih (s.wr8 a b) (a + 1)
@[simp] theorem State.wrBytes_pending (l : List Byte) (s : State) (a : Nat) : (s.wrBytes a l).pending = s.pending := by
  induction l generalizing s a with
  | nil => rfl
  | cons b t ih => exact ih (s.wr8 a b) (a + 1)

/-! A free value that is drawn. -/

@[simp] theorem State.draw_cells (s : State)  : (s.draw.2).cells = s.cells := rfl
@[simp] theorem State.draw_mem (s : State)  : (s.draw.2).mem = s.mem := rfl
@[simp] theorem State.draw_jrnA (s : State)  : (s.draw.2).jrnA = s.jrnA := rfl
@[simp] theorem State.draw_jrnB (s : State)  : (s.draw.2).jrnB = s.jrnB := rfl
@[simp] theorem State.draw_cmds (s : State)  : (s.draw.2).cmds = s.cmds := rfl
@[simp] theorem State.draw_dmPend (s : State)  : (s.draw.2).dmPend = s.dmPend := rfl
@[simp] theorem State.draw_snaps (s : State)  : (s.draw.2).snaps = s.snaps := rfl
@[simp] theorem State.draw_laneDue (s : State)  : (s.draw.2).laneDue = s.laneDue := rfl
@[simp] theorem State.draw_snapBuf (s : State)  : (s.draw.2).snapBuf = s.snapBuf := rfl
@[simp] theorem State.draw_metArch (s : State)  : (s.draw.2).metArch = s.metArch := rfl
@[simp] theorem State.draw_metTxA (s : State)  : (s.draw.2).metTxA = s.metTxA := rfl
@[simp] theorem State.draw_metTxB (s : State)  : (s.draw.2).metTxB = s.metTxB := rfl
@[simp] theorem State.draw_evMain (s : State)  : (s.draw.2).evMain = s.evMain := rfl
@[simp] theorem State.draw_evSafe (s : State)  : (s.draw.2).evSafe = s.evSafe := rfl
@[simp] theorem State.draw_evHost (s : State)  : (s.draw.2).evHost = s.evHost := rfl
@[simp] theorem State.draw_evFolds (s : State)  : (s.draw.2).evFolds = s.evFolds := rfl
@[simp] theorem State.draw_evKept (s : State)  : (s.draw.2).evKept = s.evKept := rfl
@[simp] theorem State.draw_awlProbes (s : State)  : (s.draw.2).awlProbes = s.awlProbes := rfl
@[simp] theorem State.draw_awlErrs (s : State)  : (s.draw.2).awlErrs = s.awlErrs := rfl
@[simp] theorem State.draw_feBad (s : State)  : (s.draw.2).feBad = s.feBad := rfl
@[simp] theorem State.draw_ecc (s : State)  : (s.draw.2).ecc = s.ecc := rfl
@[simp] theorem State.draw_perms (s : State)  : (s.draw.2).perms = s.perms := rfl
@[simp] theorem State.draw_hbReply (s : State)  : (s.draw.2).hbReply = s.hbReply := rfl
@[simp] theorem State.draw_svcReply (s : State)  : (s.draw.2).svcReply = s.svcReply := rfl
@[simp] theorem State.draw_pending (s : State)  : (s.draw.2).pending = s.pending := rfl

/-- A free value moves the counter on by one. -/
@[simp] theorem State.draw_freeCtr (s : State) : s.draw.2.freeCtr = s.freeCtr + 1 := rfl

/-! A journal entry. -/

@[simp] theorem State.journal_mem (s : State) (origin kind tag status target code arg : Nat) : (s.journal origin kind tag status target code arg).mem = s.mem := rfl
@[simp] theorem State.journal_cmds (s : State) (origin kind tag status target code arg : Nat) : (s.journal origin kind tag status target code arg).cmds = s.cmds := rfl
@[simp] theorem State.journal_dmPend (s : State) (origin kind tag status target code arg : Nat) : (s.journal origin kind tag status target code arg).dmPend = s.dmPend := rfl
@[simp] theorem State.journal_snaps (s : State) (origin kind tag status target code arg : Nat) : (s.journal origin kind tag status target code arg).snaps = s.snaps := rfl
@[simp] theorem State.journal_laneDue (s : State) (origin kind tag status target code arg : Nat) : (s.journal origin kind tag status target code arg).laneDue = s.laneDue := rfl
@[simp] theorem State.journal_snapBuf (s : State) (origin kind tag status target code arg : Nat) : (s.journal origin kind tag status target code arg).snapBuf = s.snapBuf := rfl
@[simp] theorem State.journal_metArch (s : State) (origin kind tag status target code arg : Nat) : (s.journal origin kind tag status target code arg).metArch = s.metArch := rfl
@[simp] theorem State.journal_metTxA (s : State) (origin kind tag status target code arg : Nat) : (s.journal origin kind tag status target code arg).metTxA = s.metTxA := rfl
@[simp] theorem State.journal_metTxB (s : State) (origin kind tag status target code arg : Nat) : (s.journal origin kind tag status target code arg).metTxB = s.metTxB := rfl
@[simp] theorem State.journal_evMain (s : State) (origin kind tag status target code arg : Nat) : (s.journal origin kind tag status target code arg).evMain = s.evMain := rfl
@[simp] theorem State.journal_evSafe (s : State) (origin kind tag status target code arg : Nat) : (s.journal origin kind tag status target code arg).evSafe = s.evSafe := rfl
@[simp] theorem State.journal_evHost (s : State) (origin kind tag status target code arg : Nat) : (s.journal origin kind tag status target code arg).evHost = s.evHost := rfl
@[simp] theorem State.journal_evFolds (s : State) (origin kind tag status target code arg : Nat) : (s.journal origin kind tag status target code arg).evFolds = s.evFolds := rfl
@[simp] theorem State.journal_evKept (s : State) (origin kind tag status target code arg : Nat) : (s.journal origin kind tag status target code arg).evKept = s.evKept := rfl
@[simp] theorem State.journal_awlProbes (s : State) (origin kind tag status target code arg : Nat) : (s.journal origin kind tag status target code arg).awlProbes = s.awlProbes := rfl
@[simp] theorem State.journal_awlErrs (s : State) (origin kind tag status target code arg : Nat) : (s.journal origin kind tag status target code arg).awlErrs = s.awlErrs := rfl
@[simp] theorem State.journal_feBad (s : State) (origin kind tag status target code arg : Nat) : (s.journal origin kind tag status target code arg).feBad = s.feBad := rfl
@[simp] theorem State.journal_ecc (s : State) (origin kind tag status target code arg : Nat) : (s.journal origin kind tag status target code arg).ecc = s.ecc := rfl
@[simp] theorem State.journal_perms (s : State) (origin kind tag status target code arg : Nat) : (s.journal origin kind tag status target code arg).perms = s.perms := rfl
@[simp] theorem State.journal_hbReply (s : State) (origin kind tag status target code arg : Nat) : (s.journal origin kind tag status target code arg).hbReply = s.hbReply := rfl
@[simp] theorem State.journal_svcReply (s : State) (origin kind tag status target code arg : Nat) : (s.journal origin kind tag status target code arg).svcReply = s.svcReply := rfl
@[simp] theorem State.journal_freeCtr (s : State) (origin kind tag status target code arg : Nat) : (s.journal origin kind tag status target code arg).freeCtr = s.freeCtr := rfl
@[simp] theorem State.journal_pending (s : State) (origin kind tag status target code arg : Nat) : (s.journal origin kind tag status target code arg).pending = s.pending := rfl

end Sys2Proof.Machine
end

