-- ==== Sys2Proof/Laws/Ops.lean ====
section
/-!
SUPPORT. What the shared operations do, each said once: conditional and repeated operations, counters, runs of bytes, resets, free values.
-/
namespace Sys2Proof.Machine

/-! Conditional and repeated operations. -/

@[simp] theorem State.when_true (s : State) (g : State → State) : s.when true g = g s := rfl
@[simp] theorem State.when_false (s : State) (g : State → State) : s.when false g = s := rfl

/-- A conditional operation leaves alone what the operation leaves alone. -/
theorem State.when_same {β : Type} (v : State → β) (s : State) (b : Bool) (g : State → State) (h : ∀ s, v (g s) = v s) : v (s.when b g) = v s := by
  cases b
  · rfl
  · exact h s

/-- A conditional operation keeps what the operation keeps. -/
theorem State.when_keeps {P : State → Prop} {s : State} {b : Bool} {g : State → State} (h : P s) (hg : P s → P (g s)) : P (s.when b g) := by
  cases b
  · exact h
  · exact hg h

@[simp] theorem State.over_nil {α : Type} (s : State) (g : State → α → State) : s.over [] g = s := rfl
@[simp] theorem State.over_cons {α : Type} (s : State) (a : α) (l : List α) (g : State → α → State) :
    s.over (a :: l) g = (g s a).over l g := rfl

theorem State.over_append {α : Type} (s : State) (l r : List α) (g : State → α → State) : s.over (l ++ r) g = (s.over l g).over r g :=
  List.foldl_append

/-- A repeated operation keeps what each of its turns keeps. -/
theorem State.over_keeps {α : Type} {P : State → Prop} {g : State → α → State} {l : List α} {s : State} (h : P s)
    (hg : ∀ s a, a ∈ l → P s → P (g s a)) : P (s.over l g) := by
  induction l generalizing s with
  | nil => exact h
  | cons a t ih => exact ih (hg s a List.mem_cons_self h) fun s b hb => hg s b (List.mem_cons_of_mem _ hb)

/-- A value that no turn of a repeated operation changes is unchanged. -/
theorem State.over_same {α β : Type} (v : State → β) {g : State → α → State} {l : List α} (s : State)
    (h : ∀ s a, a ∈ l → v (g s a) = v s) : v (s.over l g) = v s :=
  State.over_keeps (P := fun t => v t = v s) rfl fun t a ha e => (h t a ha).trans e

/-! Counters. -/

/-- A count goes up by one and stays at all ones (R6). -/
theorem State.getAt_bumpAt_same (s : State) (f : Fld) (i j : Nat) :
    (s.bumpAt f i j).getAt f i j = if s.getAt f i j + 1 < 2 ^ f.wid then s.getAt f i j + 1 else s.getAt f i j := by
  unfold State.bumpAt
  split
  · rename_i h; rw [State.getAt_putAt_same, Nat.mod_eq_of_lt h]
  · rfl

/-- A count leaves every other cell alone. -/
theorem State.getAt_bumpAt_key (s : State) {f g : Fld} {i j i' j' : Nat} (h : g.key i' j' ≠ f.key i j) :
    (s.bumpAt f i j).getAt g i' j' = s.getAt g i' j' := by
  unfold State.bumpAt
  split
  · exact s.getAt_putAt_key _ h
  · rfl

@[simp] theorem State.getAt_bumpAt_field (s : State) (f g : Fld) (i j i' j' : Nat) (h : g.id ≠ f.id) :
    (s.bumpAt f i j).getAt g i' j' = s.getAt g i' j' :=
  s.getAt_bumpAt_key fun e => h (congrArg Prod.fst e)

/-! Cells after operations that write no cell, and after a reset. -/

@[simp] theorem State.getAt_wr8 (s : State) (a : Nat) (v : Byte) (f : Fld) (i j : Nat) : (s.wr8 a v).getAt f i j = s.getAt f i j := rfl
@[simp] theorem State.getAt_wr32 (s : State) (a : Nat) (v : Word) (f : Fld) (i j : Nat) : (s.wr32 a v).getAt f i j = s.getAt f i j := rfl
@[simp] theorem State.getAt_zeroMem (s : State) (lo hi : Nat) (f : Fld) (i j : Nat) : (s.zeroMem lo hi).getAt f i j = s.getAt f i j := rfl
@[simp] theorem State.getAt_draw (s : State) (f : Fld) (i j : Nat) : s.draw.2.getAt f i j = s.getAt f i j := rfl
@[simp] theorem State.getAt_wrBytes (s : State) (a : Nat) (l : List Byte) (f : Fld) (i j : Nat) :
    (s.wrBytes a l).getAt f i j = s.getAt f i j := by
  unfold State.getAt; rw [State.wrBytes_cells]

theorem Cells.find_filter {q : Key × Nat → Bool} {k : Key} (c : Cells) (h : ∀ v, q (k, v) = true) : Cells.find k (c.filter q) = c.find k := by
  induction c with
  | nil => rfl
  | cons p t ih =>
    obtain ⟨k', v⟩ := p
    by_cases hq : q (k', v) = true
    · rw [List.filter_cons_of_pos hq]; simp [Cells.find, ih]
    · rw [List.filter_cons_of_neg hq, ih]
      have : k' ≠ k := fun e => hq (e ▸ h v)
      simp [Cells.find, this]

theorem Cells.find_filter_gone {q : Key × Nat → Bool} {k : Key} (c : Cells) (h : ∀ v, q (k, v) = false) : Cells.find k (c.filter q) = none := by
  induction c with
  | nil => rfl
  | cons p t ih =>
    obtain ⟨k', v⟩ := p
    by_cases hq : q (k', v) = true
    · rw [List.filter_cons_of_pos hq]
      have : k' ≠ k := fun e => by rw [e, h v] at hq; cases hq
      simpa [Cells.find, this] using ih
    · rw [List.filter_cons_of_neg hq]; exact ih

/-- A cell that an event resets reads its reset value; every other cell is as it was (R10). -/
theorem State.getAt_resetCells (s : State) (g : Key → Bool) (f : Fld) (i j : Nat) :
    (s.resetCells g).getAt f i j = if g (f.key i j) then f.rst else s.getAt f i j := by
  unfold State.resetCells State.getAt
  by_cases h : g (f.key i j) = true
  · rw [Cells.find_filter_gone _ fun v => by simp [h]]; simp [h]
  · rw [Cells.find_filter _ fun v => by simp [h]]; simp [h]

/-! Memory. -/

@[simp] theorem State.rd8_putAt (s : State) (f : Fld) (i j v a : Nat) : (s.putAt f i j v).rd8 a = s.rd8 a := rfl
@[simp] theorem State.rd8_resetCells (s : State) (g : Key → Bool) (a : Nat) : (s.resetCells g).rd8 a = s.rd8 a := rfl
@[simp] theorem State.rd8_draw (s : State) (a : Nat) : s.draw.2.rd8 a = s.rd8 a := rfl
@[simp] theorem State.rd8_bumpAt (s : State) (f : Fld) (i j a : Nat) : (s.bumpAt f i j).rd8 a = s.rd8 a := by
  unfold State.rd8; rw [State.bumpAt_mem]

/-- A byte of a run reads the byte that the run put there. -/
theorem State.rd8_wrBytes_in {s : State} (h : Memory.wf s.mem = true) :
    ∀ (l : List Byte) (a k : Nat) (hk : k < l.length), (s.wrBytes a l).rd8 (a + k) = l[k]
  | [], _, _, hk => absurd hk (Nat.not_lt_zero _)
  | b :: t, a, 0, _ => by
    rw [State.wrBytes, State.rd8_wrBytes_other t (s.wr8 a b) (by omega)]
    exact State.rd8_wr8_same a b h
  | b :: t, a, k + 1, hk => by
    have := State.rd8_wrBytes_in (s := s.wr8 a b) (State.wr8_mem_wf a b h) t (a + 1) k (by simpa using hk)
    rw [State.wrBytes]; simpa [Nat.add_assoc, Nat.add_comm 1 k] using this

/-- A run of bytes is read byte by byte. -/
theorem State.rdBytes_eq (s : State) : ∀ (n a : Nat), s.rdBytes a n = (List.range n).map fun k => s.rd8 (a + k)
  | 0, _ => rfl
  | n + 1, a => by
    rw [State.rdBytes, State.rdBytes_eq s n (a + 1), List.range_succ_eq_map]
    simp [Function.comp_def, Nat.add_assoc, Nat.add_comm 1]

/-- A run of bytes reads back as it was written. -/
theorem State.rdBytes_wrBytes {s : State} (h : Memory.wf s.mem = true) (a : Nat) (l : List Byte) : (s.wrBytes a l).rdBytes a l.length = l := by
  rw [State.rdBytes_eq]
  refine List.ext_getElem (by simp) fun k h1 h2 => ?_
  simp only [List.getElem_map, List.getElem_range]
  exact State.rd8_wrBytes_in h l a k h2

/-- A word reads back as it was written. -/
theorem State.rd32_wr32 {s : State} (h : Memory.wf s.mem = true) (a : Nat) (v : Word) : (s.wr32 a v).rd32 a = v := by
  have h0 := State.wr8_mem_wf a (byteOf 0 v) h
  have h1 := State.wr8_mem_wf (a + 1) (byteOf 1 v) h0
  have h2 := State.wr8_mem_wf (a + 2) (byteOf 2 v) h1
  unfold State.rd32 State.wr32
  rw [State.rd8_wr8_same _ _ h2, State.rd8_wr8_other _ _ (a + 2) _ (by omega), State.rd8_wr8_same _ _ h1, State.rd8_wr8_other _ _ (a + 1) _ (by omega),
    State.rd8_wr8_other _ _ (a + 1) _ (by omega), State.rd8_wr8_same _ _ h0, State.rd8_wr8_other _ _ a _ (by omega),
    State.rd8_wr8_other _ _ a _ (by omega), State.rd8_wr8_other _ _ a _ (by omega), State.rd8_wr8_same _ _ h]
  unfold byteOf
  ext k
  simp only [BitVec.getElem_append, BitVec.getElem_setWidth, BitVec.getLsbD_ushiftRight]
  split <;> (try split) <;> (try split) <;> (rw [← BitVec.getLsbD_eq_getElem]; congr 1; omega)

/-- A cleared range reads 0, and every other byte as before. -/
theorem State.rd8_zeroMem (s : State) (lo hi a : Nat) : (s.zeroMem lo hi).rd8 a = if lo ≤ a ∧ a < hi then 0 else s.rd8 a := by
  unfold State.zeroMem State.rd8
  split
  · rename_i h
    refine Memory.read_filter_gone (fun v => ?_) _
    simp; omega
  · rename_i h
    refine Memory.read_filter (fun v => ?_) _
    simp; omega

/-! The canonical form, which every primitive operation keeps. -/

theorem State.putAt_canon {s : State} (f : Fld) (i j v : Nat) (h : Cells.wf s.cells = true ∧ Memory.wf s.mem = true) :
    Cells.wf (s.putAt f i j v).cells = true ∧ Memory.wf (s.putAt f i j v).mem = true :=
  ⟨State.putAt_cells_wf f i j v h.1, h.2⟩

theorem State.bumpAt_canon {s : State} (f : Fld) (i j : Nat) (h : Cells.wf s.cells = true ∧ Memory.wf s.mem = true) :
    Cells.wf (s.bumpAt f i j).cells = true ∧ Memory.wf (s.bumpAt f i j).mem = true := by
  unfold State.bumpAt
  split
  · exact State.putAt_canon f i j _ h
  · exact h

theorem State.putFit_canon {s : State} (f : Fld) (i j : Nat) (x : Int) (h : Cells.wf s.cells = true ∧ Memory.wf s.mem = true) :
    Cells.wf (s.putFit f i j x).cells = true ∧ Memory.wf (s.putFit f i j x).mem = true := by
  unfold State.putFit
  split
  · exact State.putAt_canon f i j _ h
  · exact State.putAt_canon (s := s.draw.2) f i j _ h

theorem State.resetCells_canon {s : State} (g : Key → Bool) (h : Cells.wf s.cells = true ∧ Memory.wf s.mem = true) :
    Cells.wf (s.resetCells g).cells = true ∧ Memory.wf (s.resetCells g).mem = true :=
  ⟨State.resetCells_cells_wf g h.1, h.2⟩

theorem State.wrBytes_canon {s : State} (a : Nat) (l : List Byte) (h : Cells.wf s.cells = true ∧ Memory.wf s.mem = true) :
    Cells.wf (s.wrBytes a l).cells = true ∧ Memory.wf (s.wrBytes a l).mem = true :=
  ⟨by rw [State.wrBytes_cells]; exact h.1, State.wrBytes_mem_wf l a h.2⟩

theorem State.zeroMem_canon {s : State} (lo hi : Nat) (h : Cells.wf s.cells = true ∧ Memory.wf s.mem = true) :
    Cells.wf (s.zeroMem lo hi).cells = true ∧ Memory.wf (s.zeroMem lo hi).mem = true :=
  ⟨h.1, State.zeroMem_mem_wf lo hi h.2⟩

end Sys2Proof.Machine
end

