-- ==== Sys2Proof/Laws/Journal.lean ====
section
/-!
SUPPORT. What a journal entry, an accepted and a completed command, an access of the bus and a mirrored write do to the state.
-/
namespace Sys2Proof.Machine

/-! One entry (R408 to R411). -/

theorem State.journal_jrnA (s : State) (o k tag st tgt c a : Nat) :
    (s.journal o k tag st tgt c a).jrnA = (s.entryNow o k tag st tgt c a :: s.jrnA).take 4096 := rfl

theorem State.journal_jrnB (s : State) (o k tag st tgt c a : Nat) :
    (s.journal o k tag st tgt c a).jrnB = (s.entryNow o k tag st tgt c a :: s.jrnB).take 4096 := rfl

/-- The newest entry is the one just made. -/
theorem State.journal_head (s : State) (o k tag st tgt c a : Nat) :
    (s.journal o k tag st tgt c a).jrnA.head? = some (s.entryNow o k tag st tgt c a) := by
  rw [State.journal_jrnA]; rfl

/-- An entry writes the journal's own three fields and no other. -/
theorem State.journal_getAt (s : State) (o k tag st tgt c a : Nat) (f : Fld) (i j : Nat) (h1 : f.id ≠ Reg.JRNL_NEXT.NEXT_SEQ.id)
    (h2 : f.id ≠ Reg.JRNL_OLDEST.OLDEST_SEQ.id) (h3 : f.id ≠ Reg.JRNL_STATUS.UNREAD_FAIL.id) :
    (s.journal o k tag st tgt c a).getAt f i j = s.getAt f i j := by
  unfold State.journal
  simp only [State.putB_eq, State.put_eq]
  rw [State.getAt_putAt_field _ _ _ _ _ _ _ _ h3, State.getAt_putAt_field _ _ _ _ _ _ _ _ h2, State.getAt_putAt_field _ _ _ _ _ _ _ _ h1]
  rfl

/-- NEXT_SEQ goes up by one. -/
theorem State.journal_next (s : State) (o k tag st tgt c a : Nat) :
    (s.journal o k tag st tgt c a).get Reg.JRNL_NEXT.NEXT_SEQ 0 = (s.get Reg.JRNL_NEXT.NEXT_SEQ 0 + 1) % 2 ^ 32 := by
  unfold State.journal
  simp only [State.putB_eq, State.put_eq, State.get_eq]
  rw [State.getAt_putAt_field _ _ _ _ _ _ _ _ (by decide), State.getAt_putAt_field _ _ _ _ _ _ _ _ (by decide), State.getAt_putAt_same]
  rfl

@[simp] theorem State.journal_cells_getAt_mem (s : State) (o k tag st tgt c a x : Nat) : (s.journal o k tag st tgt c a).rd8 x = s.rd8 x := rfl

/-! Commands between acceptance and completion (R409). -/

/-- An accepted command stands at the end of the list, with its ACCEPTED entry made. -/
theorem State.accept_cmds (s : State) (kind : CmdKind) (o tag tgt c a : Nat) (started : Bool) :
    (s.accept kind o tag tgt c a started).cmds =
      s.cmds ++ [{ kind := kind, seq := s.get Reg.JRNL_NEXT.NEXT_SEQ 0, beat := s.beat, origin := o, tag := tag, target := tgt, code := c,
                   started := started }] := rfl

theorem State.accept_jrnA (s : State) (kind : CmdKind) (o tag tgt c a : Nat) (started : Bool) :
    (s.accept kind o tag tgt c a started).jrnA = (s.entryNow o JKind.accepted tag JStatus.ok tgt c a :: s.jrnA).take 4096 := rfl

/-- It is accepted from then on. -/
theorem State.accept_accepted (s : State) (kind : CmdKind) (o tag tgt c a : Nat) (started : Bool) :
    (s.accept kind o tag tgt c a started).accepted kind = true := by
  simp [State.accepted, State.accept_cmds]

theorem State.accept_getAt (s : State) (kind : CmdKind) (o tag tgt c a : Nat) (started : Bool) (f : Fld) (i j : Nat)
    (h1 : f.id ≠ Reg.JRNL_NEXT.NEXT_SEQ.id) (h2 : f.id ≠ Reg.JRNL_OLDEST.OLDEST_SEQ.id) (h3 : f.id ≠ Reg.JRNL_STATUS.UNREAD_FAIL.id) :
    (s.accept kind o tag tgt c a started).getAt f i j = s.getAt f i j :=
  State.journal_getAt s o JKind.accepted tag JStatus.ok tgt c a f i j h1 h2 h3

/-- A completed command is off the list, and every other one stays. -/
theorem State.complete_cmds (s : State) (kind : CmdKind) (st res : Nat) :
    (s.complete kind st res).cmds = s.cmds.filter fun c => c.kind ≠ kind := by
  unfold State.complete
  exact State.over_same (fun s => s.cmds) _ fun s c _ => rfl

/-- A completion of a kind that no command has makes no entry. -/
theorem State.complete_none (s : State) (kind : CmdKind) (st res : Nat) (h : s.accepted kind = false) : s.complete kind st res = s := by
  have h' : ∀ c ∈ s.cmds, c.kind ≠ kind := by simpa [State.accepted] using h
  have e1 : (s.cmds.filter fun c => c.kind = kind) = [] := List.filter_eq_nil_iff.mpr fun c hc => by simpa using h' c hc
  have e2 : (s.cmds.filter fun c => c.kind ≠ kind) = s.cmds := List.filter_eq_self.mpr fun c hc => by simpa using h' c hc
  unfold State.complete
  rw [e1, e2]
  rfl

theorem State.complete_mem (s : State) (kind : CmdKind) (st res : Nat) : (s.complete kind st res).mem = s.mem := by
  unfold State.complete
  exact State.over_same (fun s => s.mem) _ fun s c _ => rfl

theorem State.complete_getAt (s : State) (kind : CmdKind) (st res : Nat) (f : Fld) (i j : Nat) (h1 : f.id ≠ Reg.JRNL_NEXT.NEXT_SEQ.id)
    (h2 : f.id ≠ Reg.JRNL_OLDEST.OLDEST_SEQ.id) (h3 : f.id ≠ Reg.JRNL_STATUS.UNREAD_FAIL.id) :
    (s.complete kind st res).getAt f i j = s.getAt f i j := by
  unfold State.complete
  exact State.over_same (fun s => s.getAt f i j) _ fun s c _ => State.journal_getAt s _ _ _ _ _ _ _ f i j h1 h2 h3

/-! Accesses of the bus. -/

/-- A served access clears the initiator's mark and writes nothing else. -/
theorem State.served_getAt (s : State) (w : Who) (m : Nat) (f : Fld) (i j : Nat) (h : f.key i j ≠ Hid.BUS_ERR.key (s.reach w m) (whoIx w)) :
    (s.served w m).getAt f i j = s.getAt f i j := s.getAt_putAt_key _ h

/-- A bus error sets the initiator's mark and writes nothing else. -/
theorem State.busError_getAt (s : State) (w : Who) (m : Nat) (f : Fld) (i j : Nat) (h : f.key i j ≠ Hid.BUS_ERR.key (s.reach w m) (whoIx w)) :
    (s.busError w m).getAt f i j = s.getAt f i j := s.getAt_putAt_key _ h

theorem State.busError_mark (s : State) (w : Who) (m : Nat) : (s.busError w m).getAt Hid.BUS_ERR (s.reach w m) (whoIx w) = 1 :=
  State.getAt_putAt_same _ _ _ _ _

/-! The resumption map (R414). -/

/-- A write of the map leaves every cell, queue and record alone. -/
theorem State.mapWrite_getAt (s : State) (off : Nat) (l : List Byte) (f : Fld) (i j : Nat) : (s.mapWrite off l).getAt f i j = s.getAt f i j := by
  unfold State.mapWrite
  exact State.over_same (fun s => s.getAt f i j) _ fun s m _ => State.getAt_wrBytes _ _ _ _ _ _

theorem State.mapSave_getAt (s : State) (f : Fld) (i j : Nat) : s.mapSave.getAt f i j = s.getAt f i j := State.mapWrite_getAt s _ _ f i j

end Sys2Proof.Machine
end

