-- ==== Sys2Proof/Laws/PerInstr.lean ====
section
/-!
SUPPORT. A family of facts about the commands as syntax, one lemma a constructor: the word of an engine instruction has 32 bits (R86); a command that is no
engine instruction has no word.
-/
namespace Sys2Proof.Laws.EngineWord
open Sys2Proof.Machine

/-- The word of `i`, if it has one, has 32 bits. -/
def Statement (i : Instr) : Prop := ∀ w, engEncode i = some w → w < 2 ^ 32

/-- A command without a word. -/
theorem of_none {i : Instr} (h : engEncode i = none) : Statement i := fun w e => by rw [h] at e; cases e

/-- A command whose word is known to be small enough. -/
theorem of_some {i : Instr} {v : Nat} (h : engEncode i = some v) (hv : v < 2 ^ 32) : Statement i := fun w e => by
  rw [h] at e; cases e; exact hv

theorem codeR_lt {op d a b sh : Nat} (ho : op < 64) (hd : d < 16) (ha : a < 16) (hb : b < 16) (hs : sh < 32) : codeR op d a b sh < 2 ^ 32 := by
  unfold codeR; omega

theorem codeI_lt {op d a imm : Nat} (ho : op < 64) (hd : d < 16) (ha : a < 16) (hi : imm < 2 ^ 18) : codeI op d a imm < 2 ^ 32 := by
  unfold codeI; omega

theorem codeM_lt {op d a low : Nat} (ho : op < 64) (hd : d < 16) (ha : a < 16) (hl : low < 2 ^ 18) : codeM op d a low < 2 ^ 32 := by
  unfold codeM; omega

theorem codeX_lt {op d a b sh acc : Nat} (ho : op < 64) (hd : d < 16) (ha : a < 16) (hb : b < 16) (hs : sh < 32) (hc : acc < 2) :
    codeX op d a b sh acc < 2 ^ 32 := by
  unfold codeX; omega

theorem regWrite (w : Who) (m : Mgr) (secure : Bool) (addr : BitVec 32) (bytes : Nat) (data : Word) (hw : List HwUpdate) (more : List OneWrite) : Statement (.regWrite w m secure addr bytes data hw more) := of_none rfl
theorem lowWordSnapshotRead (w : Who) (m : Mgr) (secure : Bool) (addr : BitVec 32) (bytes : Nat) : Statement (.lowWordSnapshotRead w m secure addr bytes) := of_none rfl
theorem crossingFrameReceive (path : FramePath) (ok0 : Bool) (ok1 : Bool) : Statement (.crossingFrameReceive path ok0 ok1) := of_none rfl
theorem crossingLaneFail (path : FramePath) (lane : Fin 2) : Statement (.crossingLaneFail path lane) := of_none rfl
theorem crossingRegWrite (u : Unit5) (m : Mgr) (w : Who) (sentActive : Bool) (off : BitVec 24) (data : Word) : Statement (.crossingRegWrite u m w sentActive off data) := of_none rfl
theorem beatFrameSend (m : Mgr) : Statement (.beatFrameSend m) := of_none rfl
theorem slotReceive (t : Tile) (upper : Bool) (slot : Fin 8) (crcOk : Bool) : Statement (.slotReceive t upper slot crcOk) := of_none rfl
theorem slotLaneFail (t : Tile) (upper : Bool) (lane : Fin 9) : Statement (.slotLaneFail t upper lane) := of_none rfl
theorem sscModeWrite (w : Who) (m : Mgr) (mode : BitVec 2) : Statement (.sscModeWrite w m mode) := of_none rfl
theorem rootRelockDone : Statement (.rootRelockDone) := of_none rfl
theorem refEdgeLoss (u : Unit5) : Statement (.refEdgeLoss u) := of_none rfl
theorem refValid10us (u : Unit5) (m : Mgr) : Statement (.refValid10us u m) := of_none rfl
theorem holdoverExpire (u : Unit5) : Statement (.holdoverExpire u) := of_none rfl
theorem settlingEnd (u : Unit5) : Statement (.settlingEnd u) := of_none rfl
theorem xtalStop (m : Mgr) : Statement (.xtalStop m) := of_none rfl
theorem xtalCompareWindow (failA : Bool) (failB : Bool) : Statement (.xtalCompareWindow failA failB) := of_none rfl
theorem commandClockReady : Statement (.commandClockReady) := of_none rfl
theorem pllNotReadyReject : Statement (.pllNotReadyReject) := of_none rfl
theorem beatAdvance (m : Mgr) : Statement (.beatAdvance m) := of_none rfl
theorem tickBoundary (t : Tile) (levels : List (Level × Level)) (spare : Level) (pg : BitVec 4) (upsets : List (Slot × BitVec 12 × Upset)) : Statement (.tickBoundary t levels spare pg upsets) := of_none rfl
theorem cycleStart (r : Rail) (t : Tile) : Statement (.cycleStart r t) := of_none rfl
theorem phaseLeadingEdge (p : Phase) : Statement (.phaseLeadingEdge p) := of_none rfl
theorem phaseScanConversion (p : Phase) (level : Level) (spare : Level) : Statement (.phaseScanConversion p level spare) := of_none rfl
theorem imonFaultTrip (p : Phase) : Statement (.imonFaultTrip p) := of_none rfl
theorem imonNoReport (p : Phase) : Statement (.imonNoReport p) := of_none rfl
theorem stgTfFault (t : Tile) (g : Fin 6) : Statement (.stgTfFault t g) := of_none rfl
theorem stgTfLow (t : Tile) (g : Fin 6) : Statement (.stgTfLow t g) := of_none rfl
theorem midHoldEnd (p : Phase) : Statement (.midHoldEnd p) := of_none rfl
theorem parkDwellExpire (r : Rail) : Statement (.parkDwellExpire r) := of_none rfl
theorem addThresholdHeld (r : Rail) : Statement (.addThresholdHeld r) := of_none rfl
theorem phShed (w : Who) (p : Phase) (withAdd : Bool) : Statement (.phShed w p withAdd) := of_none rfl
theorem phAdd (w : Who) (p : Phase) : Statement (.phAdd w p) := of_none rfl
theorem phUnblock (w : Who) (p : Phase) : Statement (.phUnblock w p) := of_none rfl
theorem readdProbeComplete (p : Phase) (obs : ProbeObs) : Statement (.readdProbeComplete p obs) := of_none rfl
theorem prestartTestComplete (r : Rail) (obs : List (Phase × ProbeObs)) : Statement (.prestartTestComplete r obs) := of_none rfl
theorem isoAssert (w : Who) (m : Mgr) (g : Group) : Statement (.isoAssert w m g) := of_none rfl
theorem isoRelease (w : Who) (g : Group) : Statement (.isoRelease w g) := of_none rfl
theorem isoNSensedLow (t : Tile) (g : Group) : Statement (.isoNSensedLow t g) := of_none rfl
theorem phTimingWrite (w : Who) (p : Phase) (offset : BitVec 16) (tonMin : Byte) (toffMin : Byte) : Statement (.phTimingWrite w p offset tonMin toffMin) := of_none rfl
theorem nop (t : Tile) (e : Slot) : Statement (.nop t e) := of_some rfl (by decide)
theorem add (t : Tile) (e : Slot) (d : Fin 16) (a : Fin 16) (b : Fin 16) : Statement (.add t e d a b) := of_some rfl (codeR_lt (by omega) (by omega) (by omega) (by omega) (by omega))
theorem sub (t : Tile) (e : Slot) (d : Fin 16) (a : Fin 16) (b : Fin 16) : Statement (.sub t e d a b) := of_some rfl (codeR_lt (by omega) (by omega) (by omega) (by omega) (by omega))
theorem adds (t : Tile) (e : Slot) (d : Fin 16) (a : Fin 16) (b : Fin 16) : Statement (.adds t e d a b) := of_some rfl (codeR_lt (by omega) (by omega) (by omega) (by omega) (by omega))
theorem subs (t : Tile) (e : Slot) (d : Fin 16) (a : Fin 16) (b : Fin 16) : Statement (.subs t e d a b) := of_some rfl (codeR_lt (by omega) (by omega) (by omega) (by omega) (by omega))
theorem andOp (t : Tile) (e : Slot) (d : Fin 16) (a : Fin 16) (b : Fin 16) : Statement (.andOp t e d a b) := of_some rfl (codeR_lt (by omega) (by omega) (by omega) (by omega) (by omega))
theorem orOp (t : Tile) (e : Slot) (d : Fin 16) (a : Fin 16) (b : Fin 16) : Statement (.orOp t e d a b) := of_some rfl (codeR_lt (by omega) (by omega) (by omega) (by omega) (by omega))
theorem xor (t : Tile) (e : Slot) (d : Fin 16) (a : Fin 16) (b : Fin 16) : Statement (.xor t e d a b) := of_some rfl (codeR_lt (by omega) (by omega) (by omega) (by omega) (by omega))
theorem minOp (t : Tile) (e : Slot) (d : Fin 16) (a : Fin 16) (b : Fin 16) : Statement (.minOp t e d a b) := of_some rfl (codeR_lt (by omega) (by omega) (by omega) (by omega) (by omega))
theorem maxOp (t : Tile) (e : Slot) (d : Fin 16) (a : Fin 16) (b : Fin 16) : Statement (.maxOp t e d a b) := of_some rfl (codeR_lt (by omega) (by omega) (by omega) (by omega) (by omega))
theorem shl (t : Tile) (e : Slot) (d : Fin 16) (a : Fin 16) (b : Fin 16) : Statement (.shl t e d a b) := of_some rfl (codeR_lt (by omega) (by omega) (by omega) (by omega) (by omega))
theorem shr (t : Tile) (e : Slot) (d : Fin 16) (a : Fin 16) (b : Fin 16) : Statement (.shr t e d a b) := of_some rfl (codeR_lt (by omega) (by omega) (by omega) (by omega) (by omega))
theorem sra (t : Tile) (e : Slot) (d : Fin 16) (a : Fin 16) (b : Fin 16) : Statement (.sra t e d a b) := of_some rfl (codeR_lt (by omega) (by omega) (by omega) (by omega) (by omega))
theorem muls (t : Tile) (e : Slot) (d : Fin 16) (a : Fin 16) (b : Fin 16) (sh : Fin 32) : Statement (.muls t e d a b sh) := of_some rfl (codeR_lt (by omega) (by omega) (by omega) (by omega) (by omega))
theorem clamp (t : Tile) (e : Slot) (d : Fin 16) (a : Fin 16) (b : Fin 16) : Statement (.clamp t e d a b) := of_some rfl (codeR_lt (by omega) (by omega) (by omega) (by omega) (by omega))
theorem cmp (t : Tile) (e : Slot) (a : Fin 16) (b : Fin 16) : Statement (.cmp t e a b) := of_some rfl (codeR_lt (by omega) (by omega) (by omega) (by omega) (by omega))
theorem addi (t : Tile) (e : Slot) (d : Fin 16) (a : Fin 16) (imm : BitVec 18) : Statement (.addi t e d a imm) := of_some rfl (codeI_lt (by omega) (by omega) (by omega) (by omega))
theorem shli (t : Tile) (e : Slot) (d : Fin 16) (a : Fin 16) (imm : BitVec 5) : Statement (.shli t e d a imm) := of_some rfl (codeI_lt (by omega) (by omega) (by omega) (by omega))
theorem srai (t : Tile) (e : Slot) (d : Fin 16) (a : Fin 16) (imm : BitVec 5) : Statement (.srai t e d a imm) := of_some rfl (codeI_lt (by omega) (by omega) (by omega) (by omega))
theorem lil (t : Tile) (e : Slot) (d : Fin 16) (imm : BitVec 16) : Statement (.lil t e d imm) := of_some rfl (codeM_lt (by omega) (by omega) (by omega) (by omega))
theorem lih (t : Tile) (e : Slot) (d : Fin 16) (imm : BitVec 16) : Statement (.lih t e d imm) := of_some rfl (codeM_lt (by omega) (by omega) (by omega) (by omega))
theorem cmpi (t : Tile) (e : Slot) (a : Fin 16) (imm : BitVec 18) : Statement (.cmpi t e a imm) := of_some rfl (codeI_lt (by omega) (by omega) (by omega) (by omega))
theorem ld (t : Tile) (e : Slot) (d : Fin 16) (a : Fin 16) (off : BitVec 9) : Statement (.ld t e d a off) := of_some rfl (codeM_lt (by omega) (by omega) (by omega) (by omega))
theorem st (t : Tile) (e : Slot) (d : Fin 16) (a : Fin 16) (off : BitVec 9) : Statement (.st t e d a off) := of_some rfl (codeM_lt (by omega) (by omega) (by omega) (by omega))
theorem mac (t : Tile) (e : Slot) (a : Fin 16) (b : Fin 16) (acc : Fin 2) : Statement (.mac t e a b acc) := of_some rfl (codeX_lt (by omega) (by omega) (by omega) (by omega) (by omega) (by omega))
theorem msu (t : Tile) (e : Slot) (a : Fin 16) (b : Fin 16) (acc : Fin 2) : Statement (.msu t e a b acc) := of_some rfl (codeX_lt (by omega) (by omega) (by omega) (by omega) (by omega) (by omega))
theorem ald (t : Tile) (e : Slot) (a : Fin 16) (sh : Fin 17) (acc : Fin 2) : Statement (.ald t e a sh acc) := of_some rfl (codeX_lt (by omega) (by omega) (by omega) (by omega) (by omega) (by omega))
theorem ard (t : Tile) (e : Slot) (d : Fin 16) (sh : Fin 32) (acc : Fin 2) : Statement (.ard t e d sh acc) := of_some rfl (codeX_lt (by omega) (by omega) (by omega) (by omega) (by omega) (by omega))
theorem inPort (t : Tile) (e : Slot) (d : Fin 16) (port : Fin 14) : Statement (.inPort t e d port) := of_some rfl (codeM_lt (by omega) (by omega) (by omega) (by omega))
theorem outPort (t : Tile) (e : Slot) (port : Fin 4) (a : Fin 16) : Statement (.outPort t e port a) := of_some rfl (codeM_lt (by omega) (by omega) (by omega) (by omega))
theorem evr (t : Tile) (e : Slot) (d : Fin 16) : Statement (.evr t e d) := of_some rfl (codeM_lt (by omega) (by omega) (by omega) (by omega))
theorem eclr (t : Tile) (e : Slot) (mask : BitVec 16) : Statement (.eclr t e mask) := of_some rfl (codeM_lt (by omega) (by omega) (by omega) (by omega))
theorem bev (t : Tile) (e : Slot) (target : BitVec 10) : Statement (.bev t e target) := of_some rfl (codeM_lt (by omega) (by omega) (by omega) (by omega))
theorem br (t : Tile) (e : Slot) (cond : Fin 13) (target : BitVec 10) : Statement (.br t e cond target) := of_some rfl (codeM_lt (by omega) (by omega) (by omega) (by omega))
theorem jl (t : Tile) (e : Slot) (d : Fin 16) (target : BitVec 10) : Statement (.jl t e d target) := of_some rfl (codeM_lt (by omega) (by omega) (by omega) (by omega))
theorem jr (t : Tile) (e : Slot) (a : Fin 16) : Statement (.jr t e a) := of_some rfl (codeM_lt (by omega) (by omega) (by omega) (by omega))
theorem waitt (t : Tile) (e : Slot) : Statement (.waitt t e) := of_some rfl (codeM_lt (by omega) (by omega) (by omega) (by omega))
theorem illegalInstruction (t : Tile) (e : Slot) (w : Word) : Statement (.illegalInstruction t e w) := of_none rfl
theorem overrunShed (t : Tile) (e : Slot) : Statement (.overrunShed t e) := of_none rfl
theorem programBankWrite (t : Tile) (e : Slot) (bank : Bool) (idx : BitVec 10) (v : Word) : Statement (.programBankWrite t e bank idx v) := of_none rfl
theorem bankCrcDone (t : Tile) (e : Slot) : Statement (.bankCrcDone t e) := of_none rfl
theorem dataMemoryWrite (t : Tile) (e : Slot) (idx : BitVec 9) (v : Word) : Statement (.dataMemoryWrite t e idx v) := of_none rfl
theorem engineScrub (t : Tile) (e : Slot) (off : BitVec 12) : Statement (.engineScrub t e off) := of_none rfl
theorem swapArm (w : Who) (t : Tile) (r : Rail) : Statement (.swapArm w t r) := of_none rfl
theorem bankSwap (t : Tile) (r : Rail) : Statement (.bankSwap t r) := of_none rfl
theorem engineFault (t : Tile) (e : Slot) (kind : EngFault) (ckptOk : Bool) : Statement (.engineFault t e kind ckptOk) := of_none rfl
theorem spareTakeoverDone (t : Tile) : Statement (.spareTakeoverDone t) := of_none rfl
theorem failInj (w : Who) (p : Phase) (ckptOk : Bool) : Statement (.failInj w p ckptOk) := of_none rfl
theorem handback (w : Who) (t : Tile) : Statement (.handback w t) := of_none rfl
theorem spareSelfCheck (t : Tile) (pass : Bool) : Statement (.spareSelfCheck t pass) := of_none rfl
theorem lawSelect (w : Who) (r : Rail) (law : Byte) : Statement (.lawSelect w r law) := of_none rfl
theorem lawCopyDone (r : Rail) : Statement (.lawCopyDone r) := of_none rfl
theorem setpointCommand (w : Who) (r : Rail) (target : BitVec 16) (stopSameTick : Bool) : Statement (.setpointCommand w r target stopSameTick) := of_none rfl
theorem slopeFire (t : Tile) (r : Rail) (fall : BitVec 8) : Statement (.slopeFire t r fall) := of_none rfl
theorem slopeWindowEnd (t : Tile) (r : Rail) : Statement (.slopeWindowEnd t r) := of_none rfl
theorem cinchTrip (t : Tile) (r : Rail) (v : BitVec 16) (onBoundary : Bool) : Statement (.cinchTrip t r v onBoundary) := of_none rfl
theorem cinchRelease (t : Tile) (r : Rail) (v : BitVec 16) : Statement (.cinchRelease t r v) := of_none rfl
theorem cinchHandoverEnd (t : Tile) (r : Rail) : Statement (.cinchHandoverEnd t r) := of_none rfl
theorem cinchHoldoffEnd (t : Tile) (r : Rail) : Statement (.cinchHoldoffEnd t r) := of_none rfl
theorem cinchWireMismatch (t : Tile) (upper : Bool) (slot : Fin 8) : Statement (.cinchWireMismatch t upper slot) := of_none rfl
theorem forecastWord (t : Tile) (portB : Bool) (word : Word) (stopOk : Bool) (lostToA : Bool) : Statement (.forecastWord t portB word stopOk lostToA) := of_none rfl
theorem forecastClockLoss (t : Tile) (portB : Bool) : Statement (.forecastClockLoss t portB) := of_none rfl
theorem forecastDue (t : Tile) (r : Rail) : Statement (.forecastDue t r) := of_none rfl
theorem forecastFireStart (t : Tile) (r : Rail) : Statement (.forecastFireStart t r) := of_none rfl
theorem forecastPulseStart (p : Phase) : Statement (.forecastPulseStart p) := of_none rfl
theorem forecastPulseEnd (p : Phase) : Statement (.forecastPulseEnd p) := of_none rfl
theorem forecastJudge (t : Tile) (r : Rail) : Statement (.forecastJudge t r) := of_none rfl
theorem skewCal (w : Who) (t : Tile) : Statement (.skewCal w t) := of_none rfl
theorem skewCalDone (t : Tile) (ch : Fin 12) (trim : BitVec 6) (spareTrim : BitVec 6) : Statement (.skewCalDone t ch trim spareTrim) := of_none rfl
theorem rotationPositionStart (t : Tile) : Statement (.rotationPositionStart t) := of_none rfl
theorem rotationCompare (t : Tile) : Statement (.rotationCompare t) := of_none rfl
theorem sliceCalibrationDone (t : Tile) (p : Fin 32) (ofs : Int) (gain : Int) : Statement (.sliceCalibrationDone t p ofs gain) := of_none rfl
theorem spareSelfCalDone (t : Tile) (trims : List (Int × Int)) : Statement (.spareSelfCalDone t trims) := of_none rfl
theorem tvcConversion (t : Tile) (level : Level) : Statement (.tvcConversion t level) := of_none rfl
theorem diagStart (w : Who) (t : Tile) : Statement (.diagStart w t) := of_none rfl
theorem diagComplete (t : Tile) (beyond : Bool) (within : Bool) : Statement (.diagComplete t beyond within) := of_none rfl
theorem hkConversion (m : Mgr) (level : Level) : Statement (.hkConversion m level) := of_none rfl
theorem vinDisagreeConfirm (g : Group) : Statement (.vinDisagreeConfirm g) := of_none rfl
theorem tlmWindowEnd (t : Tile) (r : Rail) : Statement (.tlmWindowEnd t r) := of_none rfl
theorem pkClr (w : Who) (t : Tile) (r : Rail) : Statement (.pkClr w t r) := of_none rfl
theorem accLowWrite (w : Who) (acc : EnergyAcc) (v : Word) : Statement (.accLowWrite w acc v) := of_none rfl
theorem accHighWrite (w : Who) (acc : EnergyAcc) (v : Word) (incSame : Bool) : Statement (.accHighWrite w acc v incSame) := of_none rfl
theorem powerEstimate (t : Tile) : Statement (.powerEstimate t) := of_none rfl
theorem powerPartialSend (t : Tile) : Statement (.powerPartialSend t) := of_none rfl
theorem powerPartialStale (m : Mgr) (t : Tile) (g : Group) : Statement (.powerPartialStale m t g) := of_none rfl
theorem railOn (w : Who) (r : Rail) (withOff : Bool) : Statement (.railOn w r withOff) := of_none rfl
theorem railOff (w : Who) (r : Rail) (withOn : Bool) : Statement (.railOff w r withOn) := of_none rfl
theorem pgAssert (r : Rail) : Statement (.pgAssert r) := of_none rfl
theorem pgLoss (r : Rail) : Statement (.pgLoss r) := of_none rfl
theorem enablePgTimeout (r : Rail) : Statement (.enablePgTimeout r) := of_none rfl
theorem seqRun (w : Who) (q : Fin 8) : Statement (.seqRun w q) := of_none rfl
theorem seqStageStart (tile : Option Tile) : Statement (.seqStageStart tile) := of_none rfl
theorem seqStageTimeout : Statement (.seqStageTimeout) := of_none rfl
theorem railBelowOffThreshold (r : Rail) : Statement (.railBelowOffThreshold r) := of_none rfl
theorem shutdownFirstTimeout (r : Rail) : Statement (.shutdownFirstTimeout r) := of_none rfl
theorem shutdownSecondTimeout (r : Rail) : Statement (.shutdownSecondTimeout r) := of_none rfl
theorem snapTake (w : Who) : Statement (.snapTake w) := of_none rfl
theorem snapshotLatch (isoPins : Byte) (fltLow : Bool) (vbiasA : BitVec 32) (vbiasB : BitVec 32) (vio : BitVec 32) : Statement (.snapshotLatch isoPins fltLow vbiasA vbiasB vio) := of_none rfl
theorem snapshotComplete (delivered : BitVec 7) : Statement (.snapshotComplete delivered) := of_none rfl
theorem laneCycleStart (readBackBad : Bool) : Statement (.laneCycleStart readBackBad) := of_none rfl
theorem laneBeatFrame (beat : BitVec 40) (flags : BitVec 4) (crc : Byte) : Statement (.laneBeatFrame beat flags crc) := of_none rfl
theorem hello (f : LaneHead) : Statement (.hello f) := of_none rfl
theorem laneStatus (f : LaneHead) : Statement (.laneStatus f) := of_none rfl
theorem seqRunLane (f : LaneHead) (q : Byte) (d : BitVec 24) : Statement (.seqRunLane f q d) := of_none rfl
theorem laneRailOn (f : LaneHead) (r : Byte) (d : BitVec 24) : Statement (.laneRailOn f r d) := of_none rfl
theorem laneRailOff (f : LaneHead) (r : Byte) (d : BitVec 24) : Statement (.laneRailOff f r d) := of_none rfl
theorem laneSnap (f : LaneHead) (d : BitVec 24) : Statement (.laneSnap f d) := of_none rfl
theorem laneKerb (f : LaneHead) : Statement (.laneKerb f) := of_none rfl
theorem laneFltRelease (f : LaneHead) : Statement (.laneFltRelease f) := of_none rfl
theorem seqQuery (f : LaneHead) (q : Byte) : Statement (.seqQuery f q) := of_none rfl
theorem laneBadOpcode (f : LaneHead) (op : Byte) (args : BitVec 56) : Statement (.laneBadOpcode f op args) := of_none rfl
theorem laneReply (src : BitVec 4) (seq : Byte) (status : Byte) (data : BitVec 56) (crc : BitVec 16) : Statement (.laneReply src seq status data crc) := of_none rfl
theorem laneReplyMissing : Statement (.laneReplyMissing) := of_none rfl
theorem laneDeadline : Statement (.laneDeadline) := of_none rfl
theorem laneLost : Statement (.laneLost) := of_none rfl
theorem masterListenEnd : Statement (.masterListenEnd) := of_none rfl
theorem sqlTxGo (w : Who) (m : Mgr) : Statement (.sqlTxGo w m) := of_none rfl
theorem fltNFault : Statement (.fltNFault) := of_none rfl
theorem fltRelease (w : Who) : Statement (.fltRelease w) := of_none rfl
theorem phaseOcShed (p : Phase) : Statement (.phaseOcShed p) := of_none rfl
theorem chDisagree (r : Rail) : Statement (.chDisagree r) := of_none rfl
theorem railOvConfirm (r : Rail) : Statement (.railOvConfirm r) := of_none rfl
theorem railUvConfirm (r : Rail) : Statement (.railUvConfirm r) := of_none rfl
theorem railOcConfirm (r : Rail) : Statement (.railOcConfirm r) := of_none rfl
theorem senseLostOff (r : Rail) : Statement (.senseLostOff r) := of_none rfl
theorem thermalReading (d : Die) (a : Int) (b : Int) : Statement (.thermalReading d a b) := of_none rfl
theorem tileThermalShutdown (t : Tile) : Statement (.tileThermalShutdown t) := of_none rfl
theorem tileThermalRestart (t : Tile) : Statement (.tileThermalRestart t) := of_none rfl
theorem tsdClr (w : Who) (u : Unit5) : Statement (.tsdClr w u) := of_none rfl
theorem mgrThermalShutdown (m : Mgr) : Statement (.mgrThermalShutdown m) := of_none rfl
theorem hpdThermalShutdown : Statement (.hpdThermalShutdown) := of_none rfl
theorem hpdThermalRestart : Statement (.hpdThermalRestart) := of_none rfl
theorem throttleKerb : Statement (.throttleKerb) := of_none rfl
theorem sensorDisagree (d : Die) : Statement (.sensorDisagree d) := of_none rfl
theorem vauxValid : Statement (.vauxValid) := of_none rfl
theorem vauxInvalid (vaux : BitVec 16) : Statement (.vauxInvalid vaux) := of_none rfl
theorem iinShare (meas : HpdMeas) : Statement (.iinShare meas) := of_none rfl
theorem iinSearch (w : Who) : Statement (.iinSearch w) := of_none rfl
theorem iinSearchStart : Statement (.iinSearchStart) := of_none rfl
theorem iinSearchStep : Statement (.iinSearchStep) := of_none rfl
theorem iinSearchPauseEnd : Statement (.iinSearchPauseEnd) := of_none rfl
theorem sagWatch : Statement (.sagWatch) := of_none rfl
theorem vbbTrip (vbb : BitVec 16) : Statement (.vbbTrip vbb) := of_none rfl
theorem bfetLinearEnd : Statement (.bfetLinearEnd) := of_none rfl
theorem chargeBlockOff : Statement (.chargeBlockOff) := of_none rfl
theorem dsgOc : Statement (.dsgOc) := of_none rfl
theorem dsgShort : Statement (.dsgShort) := of_none rfl
theorem fetDegraded : Statement (.fetDegraded) := of_none rfl
theorem handbackStart : Statement (.handbackStart) := of_none rfl
theorem handbackRampStep : Statement (.handbackRampStep) := of_none rfl
theorem bfetOpen (w : Who) : Statement (.bfetOpen w) := of_none rfl
theorem bfetArm (w : Who) : Statement (.bfetArm w) := of_none rfl
theorem bfetFaultClear (w : Who) (oc : Bool) (short : Bool) : Statement (.bfetFaultClear w oc short) := of_none rfl
theorem chgEnable (w : Who) (en : Bool) : Statement (.chgEnable w en) := of_none rfl
theorem chgVpreReached : Statement (.chgVpreReached) := of_none rfl
theorem chgVccReached : Statement (.chgVccReached) := of_none rfl
theorem chgVcvReached : Statement (.chgVcvReached) := of_none rfl
theorem chgTerminate : Statement (.chgTerminate) := of_none rfl
theorem chgRecharge : Statement (.chgRecharge) := of_none rfl
theorem btsConversion (mv : BitVec 11) (temp : Int) : Statement (.btsConversion mv temp) := of_none rfl
theorem btsFault : Statement (.btsFault) := of_none rfl
theorem chgTimerExpire : Statement (.chgTimerExpire) := of_none rfl
theorem batOv : Statement (.batOv) := of_none rfl
theorem presenceTestStart : Statement (.presenceTestStart) := of_none rfl
theorem presenceTestEnd (packId : Option (BitVec 64)) : Statement (.presenceTestEnd packId) := of_none rfl
theorem batShort : Statement (.batShort) := of_none rfl
theorem chgOc : Statement (.chgOc) := of_none rfl
theorem chgFaultClear (w : Who) (mask : BitVec 9) : Statement (.chgFaultClear w mask) := of_none rfl
theorem buckPhaseStop (k : Fin 6) : Statement (.buckPhaseStop k) := of_none rfl
theorem gaugeFrame (ush : Int) (vbat : BitVec 16) : Statement (.gaugeFrame ush vbat) := of_none rfl
theorem emptyAnchor : Statement (.emptyAnchor) := of_none rfl
theorem hibernate : Statement (.hibernate) := of_none rfl
theorem hibConversion (ush : Int) : Statement (.hibConversion ush) := of_none rfl
theorem gaugeWake : Statement (.gaugeWake) := of_none rfl
theorem gaugeStore : Statement (.gaugeStore) := of_none rfl
theorem ggStore (w : Who) : Statement (.ggStore w) := of_none rfl
theorem invalidate (w : Who) : Statement (.invalidate w) := of_none rfl
theorem authStart (w : Who) : Statement (.authStart w) := of_none rfl
theorem getId (reply : List Byte) (nonce : BitVec 128) : Statement (.getId reply nonce) := of_none rfl
theorem challenge (reply : List Byte) : Statement (.challenge reply) := of_none rfl
theorem packReplyTimeout : Statement (.packReplyTimeout) := of_none rfl
theorem authRetry : Statement (.authRetry) := of_none rfl
theorem metPowerUp (serial : BitVec 64) (serialOk : Bool) (keyOk : Bool) (bankOk : BitVec 4) : Statement (.metPowerUp serial serialOk keyOk bankOk) := of_none rfl
theorem metSample (xi : BitVec 25) (xv : BitVec 25) (flat : BitVec 2) : Statement (.metSample xi xv flat) := of_none rfl
theorem metHalfSample : Statement (.metHalfSample) := of_none rfl
theorem metPulseEnd : Statement (.metPulseEnd) := of_none rfl
theorem metStreamStuck (stream : Fin 2) : Statement (.metStreamStuck stream) := of_none rfl
theorem metStreamResume : Statement (.metStreamResume) := of_none rfl
theorem metClockCheck (count : BitVec 16) : Statement (.metClockCheck count) := of_none rfl
theorem metIntervalRecord (completed : Bool) : Statement (.metIntervalRecord completed) := of_none rfl
theorem metWatchdog : Statement (.metWatchdog) := of_none rfl
theorem metTallyStore (completed : Bool) : Statement (.metTallyStore completed) := of_none rfl
theorem metSupplyFall (completed : Bool) : Statement (.metSupplyFall completed) := of_none rfl
theorem metLiveSend : Statement (.metLiveSend) := of_none rfl
theorem metPeriodicSend (rep : MetRepeat) : Statement (.metPeriodicSend rep) := of_none rfl
theorem sendId (m : Mgr) : Statement (.sendId m) := of_none rfl
theorem sendHealth (m : Mgr) : Statement (.sendHealth m) := of_none rfl
theorem sendLast (m : Mgr) : Statement (.sendLast m) := of_none rfl
theorem replayPrev (m : Mgr) : Statement (.replayPrev m) := of_none rfl
theorem metReqStrobe (w : Who) (m : Mgr) (code : BitVec 3) : Statement (.metReqStrobe w m code) := of_none rfl
theorem metReqTimeout (m : Mgr) : Statement (.metReqTimeout m) := of_none rfl
theorem metFrameReceive (m : Mgr) (arrived : List Byte) : Statement (.metFrameReceive m arrived) := of_none rfl
theorem metLinkLost (m : Mgr) : Statement (.metLinkLost m) := of_none rfl
theorem metCalBankWrite (n : Fin 4) (bank : MetBank) (completed : Bool) : Statement (.metCalBankWrite n bank completed) := of_none rfl
theorem metLock (key : BitVec 256) : Statement (.metLock key) := of_none rfl
theorem halfLossAnnounce (t : Tile) (r : Rail) (cause : Fin 16) : Statement (.halfLossAnnounce t r cause) := of_none rfl
theorem halfLossDeclare (t : Tile) (r : Rail) : Statement (.halfLossDeclare t r) := of_none rfl
theorem halfLossHoldEnd (t : Tile) (r : Rail) : Statement (.halfLossHoldEnd t r) := of_none rfl
theorem splitYield (r : Rail) : Statement (.splitYield r) := of_none rfl
theorem rejoin (w : Who) (t : Tile) (r : Rail) : Statement (.rejoin w t r) := of_none rfl
theorem rejoinRoleSwap (r : Rail) : Statement (.rejoinRoleSwap r) := of_none rfl
theorem heartbeatSend (m : Mgr) : Statement (.heartbeatSend m) := of_none rfl
theorem heartbeatReceive (m : Mgr) (ok : Bool) : Statement (.heartbeatReceive m ok) := of_none rfl
theorem heartbeatMiss (m : Mgr) : Statement (.heartbeatMiss m) := of_none rfl
theorem roleDeadmanRelease (m : Mgr) : Statement (.roleDeadmanRelease m) := of_none rfl
theorem takeover (m : Mgr) (high : Bool) : Statement (.takeover m high) := of_none rfl
theorem handover (w : Who) (m : Mgr) : Statement (.handover w m) := of_none rfl
theorem mirrorCopy (addr : BitVec 14) : Statement (.mirrorCopy addr) := of_none rfl
theorem mirrorSweep : Statement (.mirrorSweep) := of_none rfl
theorem shadowReady (m : Mgr) : Statement (.shadowReady m) := of_none rfl
theorem mgrSilent (t : Tile) : Statement (.mgrSilent t) := of_none rfl
theorem autoKerb (t : Tile) : Statement (.autoKerb t) := of_none rfl
theorem awlProbeStart (kind : Fin 8) (tile : Tile) (unit : Byte) : Statement (.awlProbeStart kind tile unit) := of_none rfl
theorem awlVerdict (kind : Fin 8) (tile : Tile) (unit : Byte) (pass : Bool) : Statement (.awlVerdict kind tile unit pass) := of_none rfl
theorem awlNotRun (kind : Fin 8) (tile : Tile) (unit : Byte) : Statement (.awlNotRun kind tile unit) := of_none rfl
theorem lbistStart (w : Who) (m : Mgr) (target : Fin 16) : Statement (.lbistStart w m target) := of_none rfl
theorem lbistDone (sig : DWord) : Statement (.lbistDone sig) := of_none rfl
theorem captureArm (w : Who) (t : Tile) : Statement (.captureArm w t) := of_none rfl
theorem capTrig (w : Who) (t : Tile) : Statement (.capTrig w t) := of_none rfl
theorem captureStop (t : Tile) : Statement (.captureStop t) := of_none rfl
theorem kerbEnter (w : Who) : Statement (.kerbEnter w) := of_none rfl
theorem kerbSocEntry : Statement (.kerbSocEntry) := of_none rfl
theorem kerbExit (w : Who) : Statement (.kerbExit w) := of_none rfl
theorem eventReport (src : Fin 640) (tick : Word) : Statement (.eventReport src tick) := of_none rfl
theorem eventReportRefresh (die : Fin 8) : Statement (.eventReportRefresh die) := of_none rfl
theorem foldClose (cls : Fin 16) : Statement (.foldClose cls) := of_none rfl
theorem evcTake (w : Who) (m : Mgr) : Statement (.evcTake w m) := of_none rfl
theorem evcScTake (w : Who) (m : Mgr) : Statement (.evcScTake w m) := of_none rfl
theorem evcHqTake (w : Who) (m : Mgr) : Statement (.evcHqTake w m) := of_none rfl
theorem evcComplete (w : Who) (m : Mgr) (target : BitVec 16) : Statement (.evcComplete w m target) := of_none rfl
theorem foldComplete (w : Who) (m : Mgr) (seq : BitVec 16) : Statement (.foldComplete w m seq) := of_none rfl
theorem powerOnReset (m : Mgr) : Statement (.powerOnReset m) := of_none rfl
theorem fuseSenseDone (m : Mgr) (vio33 : Bool) : Statement (.fuseSenseDone m vio33) := of_none rfl
theorem broadcastReceive (u : Unit5) (copyA : BitVec 2048) (copyB : BitVec 2048) (own : Bool) (fused : Bool) : Statement (.broadcastReceive u copyA copyB own fused) := of_none rfl
theorem integrityDecision : Statement (.integrityDecision) := of_none rfl
theorem loadCommit : Statement (.loadCommit) := of_none rfl
theorem armToRun : Statement (.armToRun) := of_none rfl
theorem devRun (w : Who) (m : Mgr) : Statement (.devRun w m) := of_none rfl
theorem armLate : Statement (.armLate) := of_none rfl
theorem fuseProgram (w : Who) (m : Mgr) (key : BitVec 16) (field : BitVec 5) (word : BitVec 5) (len : BitVec 4) (supplyOk : Bool) : Statement (.fuseProgram w m key field word len supplyOk) := of_none rfl
theorem fuseProgramDone (fails : List (Mgr × Nat × Bool)) : Statement (.fuseProgramDone fails) := of_none rfl
theorem fuseProgramResume (supplyOk : Bool) : Statement (.fuseProgramResume supplyOk) := of_none rfl
theorem lcAdvance (w : Who) (m : Mgr) (key : BitVec 16) (supplyOk : Bool) : Statement (.lcAdvance w m key supplyOk) := of_none rfl
theorem lcWipe (w : Who) (m : Mgr) (key : BitVec 16) : Statement (.lcWipe w m key) := of_none rfl
theorem rstNAssert : Statement (.rstNAssert) := of_none rfl
theorem rstNRelease : Statement (.rstNRelease) := of_none rfl
theorem sysRst (w : Who) (m : Mgr) (key : BitVec 16) : Statement (.sysRst w m key) := of_none rfl
theorem tileRst (w : Who) (m : Mgr) (t : Tile) (key : BitVec 16) : Statement (.tileRst w m t key) := of_none rfl
theorem devPark (w : Who) (m : Mgr) : Statement (.devPark w m) := of_none rfl
theorem devWake (src : BitVec 5) (pass : BitVec 4) : Statement (.devWake src pass) := of_none rfl
theorem mewsEnter : Statement (.mewsEnter) := of_none rfl
theorem vbiasLoss (m : Mgr) : Statement (.vbiasLoss m) := of_none rfl
theorem vioValid (pins : Fin 27) : Statement (.vioValid pins) := of_none rfl
theorem coreWait (m : Mgr) (core : Fin 4) (pc : Word) : Statement (.coreWait m core pc) := of_none rfl
theorem scratchpadStore (w : Who) (m : Mgr) (secure : Bool) (addr : Word) (size : Fin 3) (v : Word) (rowRead : Upset) : Statement (.scratchpadStore w m secure addr size v rowRead) := of_none rfl
theorem framStore (w : Who) (m : Mgr) (addr : Word) (size : Fin 3) (v : Word) : Statement (.framStore w m addr size v) := of_none rfl
theorem memoryScrub (m : Mgr) (addr : Word) (rowRead : Upset) : Statement (.memoryScrub m addr rowRead) := of_none rfl
theorem keyA (w : Who) (m : Mgr) : Statement (.keyA w m) := of_none rfl
theorem keyB (w : Who) (m : Mgr) : Statement (.keyB w m) := of_none rfl
theorem wdtBadKey (w : Who) (m : Mgr) : Statement (.wdtBadKey w m) := of_none rfl
theorem ewarn : Statement (.ewarn) := of_none rfl
theorem wdtTimeout : Statement (.wdtTimeout) := of_none rfl
theorem wdtPulseEnd : Statement (.wdtPulseEnd) := of_none rfl
theorem rtcSecond : Statement (.rtcSecond) := of_none rfl
theorem rtcHalt (w : Who) (m : Mgr) : Statement (.rtcHalt w m) := of_none rfl
theorem rtcResume (w : Who) (m : Mgr) : Statement (.rtcResume w m) := of_none rfl
theorem rtcSecWrite (w : Who) (m : Mgr) (v : Word) : Statement (.rtcSecWrite w m v) := of_none rfl
theorem dstAdd (w : Who) (m : Mgr) : Statement (.dstAdd w m) := of_none rfl
theorem dstSub (w : Who) (m : Mgr) : Statement (.dstSub w m) := of_none rfl
theorem bkupLow (lost : Bool) : Statement (.bkupLow lost) := of_none rfl
theorem tamper (input : Fin 2) (samples : BitVec 3) : Statement (.tamper input samples) := of_none rfl
theorem traceMark (w : Who) (m : Mgr) (v : Word) : Statement (.traceMark w m v) := of_none rfl
theorem page (rd : Bool) (bytes : List Byte) : Statement (.page rd bytes) := of_none rfl
theorem operation (rd : Bool) (bytes : List Byte) : Statement (.operation rd bytes) := of_none rfl
theorem onOffConfig : Statement (.onOffConfig) := of_none rfl
theorem clearFaults (bytes : List Byte) : Statement (.clearFaults bytes) := of_none rfl
theorem writeProtect (rd : Bool) (bytes : List Byte) : Statement (.writeProtect rd bytes) := of_none rfl
theorem capability : Statement (.capability) := of_none rfl
theorem voutMode : Statement (.voutMode) := of_none rfl
theorem voutCommand (rd : Bool) (bytes : List Byte) : Statement (.voutCommand rd bytes) := of_none rfl
theorem voutMax : Statement (.voutMax) := of_none rfl
theorem voutOvFaultLimit (rd : Bool) (bytes : List Byte) : Statement (.voutOvFaultLimit rd bytes) := of_none rfl
theorem ioutOcFaultLimit (rd : Bool) (bytes : List Byte) : Statement (.ioutOcFaultLimit rd bytes) := of_none rfl
theorem statusByte : Statement (.statusByte) := of_none rfl
theorem statusWord : Statement (.statusWord) := of_none rfl
theorem statusVout : Statement (.statusVout) := of_none rfl
theorem statusIout : Statement (.statusIout) := of_none rfl
theorem statusCml : Statement (.statusCml) := of_none rfl
theorem readVin : Statement (.readVin) := of_none rfl
theorem readIin : Statement (.readIin) := of_none rfl
theorem readVout : Statement (.readVout) := of_none rfl
theorem readIout : Statement (.readIout) := of_none rfl
theorem readTemperature1 : Statement (.readTemperature1) := of_none rfl
theorem readTemperature2 : Statement (.readTemperature2) := of_none rfl
theorem readPout : Statement (.readPout) := of_none rfl
theorem readPin : Statement (.readPin) := of_none rfl
theorem pmbusRevision : Statement (.pmbusRevision) := of_none rfl
theorem mfrId : Statement (.mfrId) := of_none rfl
theorem mfrModel : Statement (.mfrModel) := of_none rfl
theorem mfrRevision : Statement (.mfrRevision) := of_none rfl
theorem mfrSerial : Statement (.mfrSerial) := of_none rfl
theorem mfrWinAddr (rd : Bool) (bytes : List Byte) : Statement (.mfrWinAddr rd bytes) := of_none rfl
theorem mfrWinData (rd : Bool) (bytes : List Byte) : Statement (.mfrWinData rd bytes) := of_none rfl
theorem mfrWinRlen (rd : Bool) (bytes : List Byte) : Statement (.mfrWinRlen rd bytes) := of_none rfl
theorem mfrWinStatus : Statement (.mfrWinStatus) := of_none rfl
theorem mfrDevState : Statement (.mfrDevState) := of_none rfl
theorem mfrJrnlHead : Statement (.mfrJrnlHead) := of_none rfl
theorem mfrJrnlRead (bytes : List Byte) : Statement (.mfrJrnlRead bytes) := of_none rfl
theorem mfrJrnlAck (bytes : List Byte) : Statement (.mfrJrnlAck bytes) := of_none rfl
theorem mfrHqRead : Statement (.mfrHqRead) := of_none rfl
theorem mfrTag (rd : Bool) (bytes : List Byte) : Statement (.mfrTag rd bytes) := of_none rfl
theorem quickCommand : Statement (.quickCommand) := of_none rfl
theorem alertResponse (lost : Bool) : Statement (.alertResponse lost) := of_none rfl
theorem unsupportedCommand (cmd : Byte) : Statement (.unsupportedCommand cmd) := of_none rfl
theorem sclTimeout : Statement (.sclTimeout) := of_none rfl
theorem sdaTimeout : Statement (.sdaTimeout) := of_none rfl
theorem stretchTimeout (cmd : Byte) (sent : List Byte) (left : Byte) : Statement (.stretchTimeout cmd sent left) := of_none rfl
theorem hbParkWake (resumed : Bool) : Statement (.hbParkWake resumed) := of_none rfl
theorem svcPing (tag : BitVec 16) (payload : List Byte) : Statement (.svcPing tag payload) := of_none rfl
theorem winRead (tag : BitVec 16) (payload : List Byte) : Statement (.winRead tag payload) := of_none rfl
theorem winWrite (tag : BitVec 16) (payload : List Byte) : Statement (.winWrite tag payload) := of_none rfl
theorem jrnlRead (tag : BitVec 16) (payload : List Byte) : Statement (.jrnlRead tag payload) := of_none rfl
theorem hqRead (tag : BitVec 16) (payload : List Byte) : Statement (.hqRead tag payload) := of_none rfl
theorem setBaud (tag : BitVec 16) (payload : List Byte) : Statement (.setBaud tag payload) := of_none rfl
theorem devState (tag : BitVec 16) (payload : List Byte) : Statement (.devState tag payload) := of_none rfl
theorem vendorTest (k : Fin 16) (tag : BitVec 16) (payload : List Byte) : Statement (.vendorTest k tag payload) := of_none rfl
theorem svcReservedCmd (cmd : Byte) (tag : BitVec 16) (payload : List Byte) : Statement (.svcReservedCmd cmd tag payload) := of_none rfl
theorem svcBadFrame (framing : Bool) (raw : List Byte) : Statement (.svcBadFrame framing raw) := of_none rfl
theorem svcGapTimeout : Statement (.svcGapTimeout) := of_none rfl
theorem svcBaudApply : Statement (.svcBaudApply) := of_none rfl
theorem svcBaudFallback : Statement (.svcBaudFallback) := of_none rfl
theorem jrnlNote (w : Who) (m : Mgr) (code : BitVec 16) : Statement (.jrnlNote w m code) := of_none rfl
theorem jrnlAckWrite (w : Who) (m : Mgr) (v : Word) : Statement (.jrnlAckWrite w m v) := of_none rfl
theorem updateStatusCmd (msg : PortMsg) : Statement (.updateStatusCmd msg) := of_none rfl
theorem updBegin (msg : PortMsg) : Statement (.updBegin msg) := of_none rfl
theorem updData (msg : PortMsg) : Statement (.updData msg) := of_none rfl
theorem updCommit (msg : PortMsg) : Statement (.updCommit msg) := of_none rfl
theorem updErase (msg : PortMsg) : Statement (.updErase msg) := of_none rfl
theorem eraseChunkDone (ok : Bool) : Statement (.eraseChunkDone ok) := of_none rfl
theorem updFinish (msg : PortMsg) : Statement (.updFinish msg) := of_none rfl
theorem finishComplete (header : Option Bool) : Statement (.finishComplete header) := of_none rfl
theorem updPrepare (msg : PortMsg) : Statement (.updPrepare msg) := of_none rfl
theorem prepareComplete (good : Bool) : Statement (.prepareComplete good) := of_none rfl
theorem updActivate (msg : PortMsg) : Statement (.updActivate msg) := of_none rfl
theorem activationRailStep : Statement (.activationRailStep) := of_none rfl
theorem activationReset (m : Mgr) : Statement (.activationReset m) := of_none rfl
theorem healthConfirm (msg : PortMsg) (supplyOk : Bool) : Statement (.healthConfirm msg supplyOk) := of_none rfl
theorem updRevert (msg : PortMsg) : Statement (.updRevert msg) := of_none rfl
theorem trialDeadline : Statement (.trialDeadline) := of_none rfl
theorem updAbort (msg : PortMsg) : Statement (.updAbort msg) := of_none rfl
theorem updMap (msg : PortMsg) : Statement (.updMap msg) := of_none rfl
theorem rollbackRetry (supplyOk : Bool) : Statement (.rollbackRetry supplyOk) := of_none rfl
theorem lockstepMismatch (m : Mgr) : Statement (.lockstepMismatch m) := of_none rfl
theorem rootLockLoss (m : Mgr) : Statement (.rootLockLoss m) := of_none rfl
theorem vbiasReturn (m : Mgr) : Statement (.vbiasReturn m) := of_none rfl
theorem managerResetExit (m : Mgr) : Statement (.managerResetExit m) := of_none rfl
theorem coreSupplySupervisorReset (t : Tile) : Statement (.coreSupplySupervisorReset t) := of_none rfl
theorem vioOutOfRange : Statement (.vioOutOfRange) := of_none rfl
theorem vbackupLoss : Statement (.vbackupLoss) := of_none rfl
theorem laneFrameCrcFail (frame : List Byte) : Statement (.laneFrameCrcFail frame) := of_none rfl
theorem chunkProgramDone (ok : Bool) : Statement (.chunkProgramDone ok) := of_none rfl

end Sys2Proof.Laws.EngineWord
end

