-- ==== Sys2Proof/Laws/Wire.lean ====
section
/-!
SUPPORT. What the wires' codes say: bytes and the number they spell, a metrology frame and the fuse broadcast block, each read back as it was sent, whatever
their CRC evaluates to.
-/
namespace Sys2Proof.Machine

@[simp] theorem beBytes_length (n v : Nat) : (beBytes n v).length = n := by simp [beBytes]
@[simp] theorem leBytes_length (n v : Nat) : (leBytes n v).length = n := by simp [leBytes]

/-- Four bytes, low byte first, spell the number they were made of. -/
theorem leNat_leBytes4 (v : Nat) (h : v < 2 ^ 32) : leNat (leBytes 4 v) = v := by
  simp only [leNat, leBytes, List.reverse_reverse, beBytes, beNat, List.range, List.range.loop, List.map_cons, List.map_nil, List.foldl_cons, List.foldl_nil,
    BitVec.toNat_ofNat]
  omega

/-- A manager reads the metrology frame that was sent: a known TYPE with a payload of its length. -/
theorem metParse_bytes (prio typ : Nat) (body : List Byte) (h : typ < 256) (n : metLen typ ≠ 0) (l : body.length = 4 * metLen typ) :
    metParse (MetFrame.bytes ⟨prio, typ, body⟩) = some ⟨0, typ, body⟩ := by
  have hl : metLen typ < 256 := by unfold metLen; split <;> omega
  have hd : body.length / 4 = metLen typ := by omega
  have hw : (MetFrame.head ⟨prio, typ, body⟩).length = 4 * metLen typ + 4 := by simp [MetFrame.head, l, Nat.add_comm]
  have ht : (MetFrame.bytes ⟨prio, typ, body⟩).take 4 = leBytes 4 (0x7E5A0000 + typ * 256 + metLen typ) := by
    rw [MetFrame.bytes, List.take_append_of_le_length (by omega), MetFrame.head, hd]
    exact List.take_left' (leBytes_length 4 _)
  have hv : leNat (leBytes 4 (0x7E5A0000 + typ * 256 + metLen typ)) = 0x7E5A0000 + typ * 256 + metLen typ := leNat_leBytes4 _ (by omega)
  have hp : (MetFrame.bytes ⟨prio, typ, body⟩).take (4 * metLen typ + 4) = MetFrame.head ⟨prio, typ, body⟩ := List.take_left' hw
  have hc : (MetFrame.bytes ⟨prio, typ, body⟩).drop (4 * metLen typ + 4) = wordBytes (crc32 (MetFrame.head ⟨prio, typ, body⟩)) := List.drop_left' hw
  have hb : ((MetFrame.bytes ⟨prio, typ, body⟩).drop 4).take (4 * metLen typ) = body := by
    rw [MetFrame.bytes, MetFrame.head, List.append_assoc, List.drop_left' (leBytes_length 4 _), List.take_left' l]
  have hn : (MetFrame.bytes ⟨prio, typ, body⟩).length = 4 * metLen typ + 8 := by simp [MetFrame.bytes, hw, wordBytes]
  have e1 : (0x7E5A0000 + typ * 256 + metLen typ) / 256 % 256 = typ := by omega
  have e2 : (0x7E5A0000 + typ * 256 + metLen typ) / 65536 = 0x7E5A := by omega
  have e3 : (0x7E5A0000 + typ * 256 + metLen typ) % 256 = metLen typ := by omega
  simp only [metParse, ht, hv, e1, e2, e3, hp, hc, hb, hn, n, ne_eq, not_false_eq_true, decide_true, Bool.and_self, if_true]

/-- A block with its CRC passes. -/
theorem castOk_block (x : Nat) (h : x < 2 ^ 2016) : castOk (x + castCrc x * 2 ^ 2016) = true := by
  have hm : castCrc (x + castCrc x * 2 ^ 2016) = castCrc x := by
    have e : (x + castCrc x * 2 ^ 2016) % 2 ^ 2016 = x % 2 ^ 2016 := Nat.add_mul_mod_self_right ..
    show (crc32 (leBytes 252 ((x + castCrc x * 2 ^ 2016) % 2 ^ 2016))).toNat = (crc32 (leBytes 252 (x % 2 ^ 2016))).toNat
    rw [e]
  rw [castOk, hm, Nat.add_mul_div_right _ _ (Nat.two_pow_pos 2016), Nat.div_eq_of_lt h, Nat.zero_add]
  exact decide_eq_true rfl

/-- The block's CRC has 32 bits. -/
theorem castCrc_lt (x : Nat) : castCrc x < 2 ^ 32 := (crc32 _).isLt

/-- A number of `a` bits under one of `b` bits is one of `b + a` bits. -/
theorem add_mul_lt {x c a b : Nat} (h : x < 2 ^ a) (hc : c < 2 ^ b) : x + c * 2 ^ a < 2 ^ (b + a) := by
  have := Nat.mul_le_mul_right (2 ^ a) (Nat.succ_le_of_lt hc)
  rw [Nat.succ_mul] at this
  rw [Nat.pow_add]
  omega

/-- A number that fits a word stands in it. -/
theorem toNat_ofNat_lt {w n : Nat} (h : n < 2 ^ w) : (BitVec.ofNat w n).toNat = n := by rw [BitVec.toNat_ofNat, Nat.mod_eq_of_lt h]

/-- The same of the 2 048 bits that carry it. -/
theorem castOk_word (x : Nat) (h : x < 2 ^ 2016) : castOk (BitVec.ofNat 2048 (x + castCrc x * 2 ^ 2016)).toNat = true := by
  have e : (BitVec.ofNat 2048 (x + castCrc x * 2 ^ 2016)).toNat = x + castCrc x * 2 ^ 2016 := toNat_ofNat_lt (w := 32 + 2016) (add_mul_lt h (castCrc_lt x))
  rw [e]
  exact castOk_block x h

/-- A write of a field outside the fuse arrays leaves every fuse digest. -/
theorem State.fuseDigest_putAt (s : State) (f : Fld) (i j v m : Nat) (h : ∀ g ∈ fuseTable, g.fld.id ≠ f.id) :
    (s.putAt f i j v).fuseDigest m = s.fuseDigest m := by
  have e : ∀ g ∈ fuseTable, (s.putAt f i j v).fuseRaw m g = s.fuseRaw m g := fun g hg => s.getAt_putAt_field f g.fld i j m g.copy v (h g hg)
  rw [State.fuseDigest, State.fuseDigest, List.flatMap_def, List.flatMap_def, List.map_congr_left fun g hg => by rw [e g hg]]

end Sys2Proof.Machine
end

