-- ==== Sys2Proof/Tests/Slice0.lean ====
section
/-!
SUPPORT. Tests: ill-formed operands that the checks refuse, the spec's own worked examples and tables, and for every statement with hypotheses states and
operands that meet them.
-/
namespace Sys2Proof.Tests
set_option Elab.async false
open Sys2Proof Sys2Proof.Machine

/-! Ill-formed operands, one for each check. -/

theorem test_wf_bytes : (Instr.regWrite .mc0 0 false 0 3 0 [] []).wf = false := by decide
theorem test_wf_hw : (Instr.regWrite .mc0 0 false 0 4 0 (List.replicate 33 ⟨0, 0⟩) []).wf = false := by decide
theorem test_wf_more : (Instr.regWrite .mc0 0 false 0 4 0 [] (List.replicate 6 ⟨.sc, false, 0, 4, 0⟩)).wf = false := by decide
theorem test_wf_more_bytes : (Instr.regWrite .mc0 0 false 0 4 0 [] [⟨.sc, false, 0, 3, 0⟩]).wf = false := by decide
theorem test_wf_read : (Instr.lowWordSnapshotRead .mc0 0 false 0 3).wf = false := by decide
theorem test_wf_channels : (Instr.tickBoundary 0 [] 0 0 []).wf = false := by decide
theorem test_wf_level : (Instr.tickBoundary 0 (List.replicate 12 (0, 2147483648)) 0 0 []).wf = false := by decide
theorem test_wf_spare : (Instr.phaseScanConversion 0 0 (-2147483649)).wf = false := by decide
theorem test_wf_trims : (Instr.spareSelfCalDone 0 (List.replicate 31 (0, 0))).wf = false := by decide
theorem test_wf_reply : (Instr.challenge (List.replicate 259 0)).wf = false := by decide +kernel
theorem test_wf_lane : (Instr.laneFrameCrcFail (List.replicate 8 0)).wf = false := by decide
theorem test_wf_codeSum : (Instr.readdProbeComplete 0 ⟨false, false, false, 1048321⟩).wf = false := by decide
theorem test_wf_signed : (Instr.thermalReading .hpd 32768 0).wf = false := by decide
theorem test_wf_twice : (Instr.prestartTestComplete 0 [(3, ⟨false, false, false, 0⟩), (3, ⟨false, false, false, 0⟩)]).wf = false := by decide
theorem test_wf_fails : (Instr.fuseProgramDone [(0, 16384, true)]).wf = false := by decide
theorem test_wf_host : (Instr.mfrTag false (List.replicate 260 0)).wf = false := by decide +kernel
theorem test_wf_sent : (Instr.stretchTimeout 0 (List.replicate 258 0) 0).wf = false := by decide +kernel
theorem test_wf_frame : frameLen (List.replicate 65536 0) = false := by rw [frameLen, List.length_replicate]; rfl
theorem test_wf_msg : (Instr.updFinish (.host (List.replicate 260 0))).wf = false := by decide +kernel

/-! The spec's worked examples and tables. -/

/-- R5, R11 (00, worked example): bits 0 to 2 set, a write of 5, hardware sets bits 2 and 4. -/
theorem test_w1c_same_cycle :
    ([Reg.PH_STATUS.IMON_FLT, Reg.PH_STATUS.TF_FLT, Reg.PH_STATUS.PROBE_FAIL, Reg.PH_STATUS.PARK_EVT, Reg.PH_STATUS.SHED_EVT].map
      fun f => (((((State.reset.raise Reg.PH_STATUS.IMON_FLT 0).raise Reg.PH_STATUS.TF_FLT 0).raise Reg.PH_STATUS.PROBE_FAIL 0).fieldsWrite .phase 0 0
        Reg.PH_STATUS.IMON_FLT.off 5 (fun _ => true) [⟨2, 1⟩, ⟨4, 1⟩]).get f 0)) = [0, 1, 1, 0, 1] := by decide +kernel

/-- R6, R11 (00, worked example): a write of 0 to a counter in the cycle of a count wins, and OVERLAP shows it. -/
theorem test_counter_overlap :
    let t := (State.reset.put Reg.WDT_STATUS.EXPIRE_COUNT 0 99).fieldsWrite .wdt 0 0 Reg.WDT_STATUS.EXPIRE_COUNT.off 0 (fun _ => true) [⟨24, 100⟩]
    t.get Reg.WDT_STATUS.EXPIRE_COUNT 0 = 0 ∧ t.get Reg.WDT_STATUS.EXP_OVERLAP 0 = 1 := by decide +kernel

/-- R36 (01, worked example): the block of PH_53, bank 1 of its engine, RAIL_12 on TILE_1. -/
theorem test_places :
    place 0x52005000 = .block .phase 53 0 ∧ place 0x52415000 = .prog 2 5 1 0 ∧ place 0x5110C000 = .block .rail (railIx 1 12) 0 := by decide +kernel

/-- The follower program of 03, words 0 to 10. -/
theorem test_words_a :
    [0x4C000000, 0x60400000, 0x60800001, 0xA1000003, 0xA1400001, 0x09914000, 0x80188000, 0x8DC02000, 0x39C0C000, 0xC200000C].map (engDecode 0 3) =
      [some (.lil 0 3 0 0), some (.ld 0 3 1 0 0), some (.ld 0 3 2 0 1), some (.inPort 0 3 4 3), some (.inPort 0 3 5 1), some (.sub 0 3 6 4 5),
       some (.mac 0 3 6 2 0), some (.ard 0 3 7 16 0), some (.clamp 0 3 7 0 3), some (.br 0 3 8 12)] := by decide +kernel

/-- Its words 11 to 21. -/
theorem test_words_b :
    [0x881C2000, 0x36185800, 0xA280000D, 0x36E6A000, 0x072E0000, 0xA4300000, 0xF8000000, 0xC0000004].map (engDecode 0 3) =
      [some (.ald 0 3 7 16 0), some (.muls 0 3 8 6 1 12), some (.inPort 0 3 10 13), some (.muls 0 3 11 9 10 16), some (.add 0 3 12 11 8),
       some (.outPort 0 3 0 12), some (.waitt 0 3), some (.br 0 3 0 4)] := by decide +kernel

/-- R77: a bit in a field that the instruction does not use makes the word reserved, as does an opcode that no table has. -/
theorem test_words_reserved : engDecode 0 3 0xF8000001 = none ∧ engDecode 0 3 0xFC000000 = none ∧ engDecode 0 3 0xC3400000 = none := by decide +kernel

/-- An engine on TILE_0 in slot 3 that executes its tick. -/
def tEngine : State := (State.reset.put Reg.PH_CFG.RAIL 3 0).raise Hid.E_RUN (engIx 0 3)

theorem test_engine_ready : tEngine.ready 0 3 = true := by decide +kernel

/-- R86 (03, worked example): MAC of 40 and 500 on a0 = 7 864 320. -/
theorem test_mac :
    (match exec (.mac 0 3 6 2 0) (((tEngine.putAt Hid.E_W (engIx 0 3) 6 40).putAt Hid.E_W (engIx 0 3) 2 500).putAt Hid.E_A (engIx 0 3) 0 7864320) with
      | .next t => t.getAt Hid.E_A (engIx 0 3) 0 | _ => 0) = 7884320 := by decide +kernel

/-- R86 (03, worked example): ARD of 7 884 320 by 16. -/
theorem test_ard :
    (match exec (.ard 0 3 7 16 0) (tEngine.putAt Hid.E_A (engIx 0 3) 0 7884320) with | .next t => t.getAt Hid.E_W (engIx 0 3) 7 | _ => 0) = 120 := by
  decide +kernel

/-- R86 (03, worked example): the feed-forward term, (3 200 × 33 288) >> 16. -/
theorem test_muls :
    (match exec (.muls 0 3 11 9 10 16) ((tEngine.putAt Hid.E_W (engIx 0 3) 9 3200).putAt Hid.E_W (engIx 0 3) 10 33288) with
      | .next t => t.getAt Hid.E_W (engIx 0 3) 11 | _ => 0) = 1625 := by decide +kernel

/-- R86: a sum that wraps to 0 sets Z and C and neither N nor V. -/
theorem test_add_wraps :
    (match exec (.add 0 3 1 2 3) ((tEngine.putAt Hid.E_W (engIx 0 3) 2 0xFFFFFFFF).putAt Hid.E_W (engIx 0 3) 3 1) with
      | .next t => [Hid.E_Z, Hid.E_N, Hid.E_C, Hid.E_V].map fun f => t.get f (engIx 0 3) | _ => []) = [1, 0, 1, 0] := by decide +kernel

/-- R408 (16, worked example): the words of the entry for an oversize block write. -/
theorem test_entry_words :
    (⟨0x3A07, 0x123456789A, 0, 1, 3, 0x2E6F1B40, 0x41, 0x0C, 0xFF, 0xFFD1, 0x40011000⟩ : JEntry).bytes.take 28 =
      [0x3A07, 0x3456789A, 0x13000012, 0x2E6F1B40, 0x0041000C, 0x00FFFFD1, 0x40011000].flatMap (leBytes 4) := by decide +kernel

/-- A host ready for a block write to the window, with no room for a staged transaction of 128 bytes. -/
def tHost : State :=
  ((((State.reset.put Reg.REIN_STATUS.ACTIVE 0 1).put Hid.PRESENT 0 1).put Hid.BOOT 0 1).put Reg.DEV_STATE.STATE 0 4).put Reg.HB_STATUS.ADDR 0 0x4B
    |>.put Reg.HB_CFG.STG_SIZE 0 0 |>.put Reg.HB_PORT.TAG 0 0x41 |>.put Reg.HB_WIN.WIN_ADDR 0 0x40011000

/-- R402, R408 (16, worked example): the 129th byte is one too many, and the entry says so. -/
theorem test_oversize :
    (match exec (.mfrWinData false (255 :: List.replicate 129 0)) tHost with
      | .next t => t.jrnA.map fun e => [e.kind, e.tag, e.status, e.target, e.code, e.arg] | _ => []) = [[3, 0x41, 0x0C, 0xFF, 0xFFD1, 0x40011000]] := by
  decide +kernel

/-- R387, R402 (16, worked example): ADDR_2 open, ADDR_1 low, ADDR_0 high give 0x4B; the window's status names the oversize write. -/
theorem test_oversize_status :
    (match exec (.mfrWinData false (255 :: List.replicate 129 0)) tHost with
      | .next t => [t.get Hid.WIN_STATUS 0, t.wordOf Reg.HB_STATUS.ADDR 0 0] | _ => []) = [0x0C, 0x4B020004] := by decide +kernel

/-- R414 (17, worked example): the entries of chunks 516 to 519, and what erasing and writing chunk 517 makes of their byte. -/
theorem test_chunk_entries :
    (List.range 4).map (entryIn 0xA3) = [Chunk.written, Chunk.dirty, Chunk.erased, Chunk.erased] ∧ entrySet 0xA3 517 Chunk.erased = 0xAB ∧
      entrySet 0xAB 517 Chunk.written = 0xAF := by decide +kernel

/-- R413 (17, worked example): an image of 3 145 728 bytes is 769 chunks. -/
theorem test_chunks : chunksOf 3145728 = 769 := by decide +kernel

/-- The check values of CRC-32 and CRC-8 over the digits 1 to 9. -/
theorem test_crcs :
    crc32 ((List.range 9).map fun k => BitVec.ofNat 8 (0x31 + k)) = 0xCBF43926#32 ∧ crc8 ((List.range 9).map fun k => BitVec.ofNat 8 (0x31 + k)) = 0xF4#8 := by
  decide +kernel

/-- A step takes the first command and leaves the rest. -/
theorem test_step :
    (match step { State.reset with pending := [.svcBaudFallback, .svcBaudApply] } with | .next t => t.pending | _ => []) = [.svcBaudApply] := by decide +kernel

/-- A flash whose slot A holds a vendor test image with one empty permission table: the offsets of its bytes, inverted. -/
def tFlashBytes : List (Nat × Nat) :=
  [(0, 184), (1, 185), (2, 188), (3, 166), (4, 254), (5, 255), (7, 253), (12, 254), (13, 253), (14, 252), (15, 255), (16, 239)] ++
  [(17, 255), (18, 255), (19, 255), (20, 254), (21, 255), (32, 105), (33, 149), (34, 215), (35, 44), (36, 175), (37, 233), (38, 252)] ++
  [(39, 209), (40, 29), (41, 132), (42, 231), (43, 159), (44, 32), (45, 181), (46, 100), (47, 233), (48, 73), (49, 63), (50, 248)] ++
  [(51, 37), (52, 137), (53, 77), (54, 27), (55, 6), (56, 177), (57, 138), (58, 217), (59, 28), (60, 227), (61, 183), (62, 106)] ++
  [(63, 100), (252, 228), (253, 149), (254, 58), (255, 235), (4096, 250), (4097, 255), (4098, 255), (4099, 255), (4100, 255), (4101, 255), (4102, 255)] ++
  [(4103, 255), (4104, 255), (4105, 255), (4106, 255), (4107, 255), (4108, 255), (4109, 255), (4110, 255), (4111, 255)]

/-- That flash. -/
def tFlash : Memory := tFlashBytes.map fun c => (flashMem c.1, BitVec.ofNat 8 c.2)


def tHead0 : List Byte := [71, 70, 67, 89, 1, 0, 255, 2, 255, 255, 255, 255, 1, 2, 3, 0, 16, 0, 0, 0, 1, 0, 255, 255, 255, 255, 255, 255, 255, 255, 255, 255]
def tHead1 : List Byte := [150, 106, 40, 211, 80, 22, 3, 46, 226, 123, 24, 96, 223, 74, 155, 22, 182, 192, 7, 218, 118, 178, 228, 249, 78, 117, 38, 227, 28, 72, 149, 155]
def tHead2 : List Byte := List.replicate 32 255
def tHead3 : List Byte := List.replicate 32 255
def tHead4 : List Byte := List.replicate 32 255
def tHead5 : List Byte := List.replicate 32 255
def tHead6 : List Byte := List.replicate 32 255
def tHead7 : List Byte := List.replicate 28 255
def tHead8 : List Byte := [27, 106, 197, 20]
theorem test_crc_0 : tHead0.foldl crcByte 0xFFFFFFFF#32 = 0xFAA980A4#32 := by decide +kernel
theorem test_crc_1 : tHead1.foldl crcByte 0xFAA980A4#32 = 0xE3F86F0C#32 := by decide +kernel
theorem test_crc_2 : tHead2.foldl crcByte 0xE3F86F0C#32 = 0x4BDF5C46#32 := by decide +kernel
theorem test_crc_3 : tHead3.foldl crcByte 0x4BDF5C46#32 = 0xDE1503DA#32 := by decide +kernel
theorem test_crc_4 : tHead4.foldl crcByte 0xDE1503DA#32 = 0x33C1D4FC#32 := by decide +kernel
theorem test_crc_5 : tHead5.foldl crcByte 0x33C1D4FC#32 = 0xE876CBEC#32 := by decide +kernel
theorem test_crc_6 : tHead6.foldl crcByte 0xE876CBEC#32 = 0x478395B4#32 := by decide +kernel
theorem test_crc_7 : tHead7.foldl crcByte 0x478395B4#32 = 0xEB3A95E4#32 := by decide +kernel
/-- A device in LOAD with that flash. -/
def tLoad : State :=
  let s := ((State.reset.put Reg.DEV_STATE.STATE 0 2).put Reg.LOAD_STATUS.LOADING 0 1).put Hid.FIRST_SLOT 0 1
  let s := (s.put Hid.FL_SIZE 0 8388608).putAt Reg.SEQ_HDR.KERB_SDN 0 0 1
  { s.putAt Reg.SEQ_HDR.DIR 0 0 1 with mem := tFlash }
/-- The body of its header. -/
def tHead : List Byte := tHead0 ++ tHead1 ++ tHead2 ++ tHead3 ++ tHead4 ++ tHead5 ++ tHead6 ++ tHead7
theorem tHead_crc : crc32 tHead = 0x14C56A1B#32 := by
  simp only [crc32, tHead, List.foldl_append, test_crc_0, test_crc_1, test_crc_2, test_crc_3, test_crc_4, test_crc_5, test_crc_6, test_crc_7]; decide
theorem tLoad_head : tLoad.head 0 = tHead ++ tHead8 := by decide +kernel
theorem tLoad_headerOk : tLoad.headerOk (tLoad.head 0) = true := by
  rw [tLoad_head]
  have h : (tHead ++ tHead8).take 0xFC = tHead := by decide +kernel
  unfold State.headerOk; rw [h, tHead_crc]; decide +kernel
theorem tLoad_slotCheck : tLoad.slotCheck 0 = Fail.none := by
  have a : (decide (tLoad.get Reg.FUSE_STATUS.STAGE 0 = Stage.retired)) = false := by decide +kernel
  have b : tLoad.flashOk = true := by decide +kernel
  have c : vendorTest (tLoad.head 0) = true := by decide +kernel
  have d : (decide (Stage.build < tLoad.get Reg.FUSE_STATUS.STAGE 0)) = false := by decide +kernel
  simp only [decide_eq_false_iff_not] at a d
  rw [State.slotCheck, if_neg a]
  simp only [b, State.headCheck, tLoad_headerOk, c, decide_eq_false d]; rfl
/-- A state that meets the hypotheses of the commit of LoadArmRunPark. -/
theorem wit_loadCommit :
    tLoad.dev = Dev.load ∧ tLoad.on Reg.LOAD_STATUS.LOADING 0 ∧ tLoad.nextSlot = some 0 ∧ tLoad.slotCheck 0 = Fail.none ∧ (tLoad.stream 0).err = none ∧
    tLoad.digestOk 0 ∧ (tLoad.stream 0).settle.err = none ∧ (tLoad.stream 0).settle.st.configRules :=
  ⟨by decide +kernel, by decide +kernel, by decide +kernel, tLoad_slotCheck, by decide +kernel, by decide +kernel, by decide +kernel, by decide +kernel⟩

/-- The same device without a stored shut-down order. -/
def tBare : State := tLoad.putAt Reg.SEQ_HDR.KERB_SDN 0 0 0
theorem tBare_slotCheck : tBare.slotCheck 0 = Fail.none := by
  have a : (decide (tBare.get Reg.FUSE_STATUS.STAGE 0 = Stage.retired)) = false := by decide +kernel
  have b : tBare.flashOk = true := by decide +kernel
  have c : vendorTest (tBare.head 0) = true := by decide +kernel
  have d : (decide (Stage.build < tBare.get Reg.FUSE_STATUS.STAGE 0)) = false := by decide +kernel
  have e : tBare.headerOk (tBare.head 0) = true := tLoad_headerOk
  simp only [decide_eq_false_iff_not] at a d
  rw [State.slotCheck, if_neg a]
  simp only [b, State.headCheck, e, c, decide_eq_false d]; rfl
/-- A state that meets the hypotheses of the refusal with RULE of LoadArmRunPark. -/
theorem wit_loadCommit_rule :
    tBare.dev = Dev.load ∧ tBare.on Reg.LOAD_STATUS.LOADING 0 ∧ tBare.nextSlot = some 0 ∧ tBare.slotCheck 0 = Fail.none ∧ (tBare.stream 0).err = none ∧
    tBare.digestOk 0 ∧ (tBare.stream 0).settle.err = none ∧ (tBare.stream 0).settle.st.configRules = false :=
  ⟨by decide +kernel, by decide +kernel, by decide +kernel, tBare_slotCheck, by decide +kernel, by decide +kernel, by decide +kernel, by decide +kernel⟩

/-! An update's witnesses, whose checksums stand for themselves. -/

/-- A device in RUN with the header of that flash in the service port's buffer. -/
def tBegin : State :=
  let s := ((State.reset.put Reg.REIN_STATUS.ACTIVE 0 1).put Hid.PRESENT 0 1).put Hid.BOOT 0 1
  let s := ((s.put Reg.DEV_STATE.STATE 0 4).put Hid.FL_ERASE 0 1).put Hid.FL_SIZE 0 8388608
  { s with mem := tFlashBytes.filterMap fun c => if c.1 < 256 then some (bufMem 1 c.1, BitVec.ofNat 8 c.2) else none }
/-- BEGIN on the service port with a checksum. -/
def tMsg (w : Word) : PortMsg := .svc 7 (leBytes 4 w.toNat)
theorem tBegin_gives (w : Word) : tBegin.portGives 1 (tMsg w) (leBytes 4 w.toNat) = true := by
  have a : tBegin.portsServe = true := by decide +kernel
  have b : tBegin.notRetired = true := by decide +kernel
  have c : 4 ≤ tBegin.svcStaging := by decide +kernel
  have d : tBegin.svcAsleep 4 = false := by decide +kernel
  simp [State.portGives, tMsg, a, b, leBytes_length, c, d]
theorem headerOk_tHead (s : State) (h : s.get Hid.FL_SIZE 0 = 8388608) : s.headerOk (tHead ++ tHead8) = true := by
  have e : (tHead ++ tHead8).take 0xFC = tHead := by decide +kernel
  unfold State.headerOk; rw [e, tHead_crc, h]; decide +kernel
theorem headCheck_tHead (s : State) (h : s.get Hid.FL_SIZE 0 = 8388608) (g : s.get Reg.FUSE_STATUS.STAGE 0 = 0) : s.headCheck (tHead ++ tHead8) = Fail.none := by
  have c : vendorTest (tHead ++ tHead8) = true := by decide +kernel
  simp only [State.headCheck, headerOk_tHead s h, c, g]; rfl
theorem tBegin_meets (w : Word) (hw : crc32 (tBegin.bufBytes 1 4096) = w) :
    tBegin.portGives 1 (tMsg w) (leBytes 4 (crc32 (tBegin.bufBytes (PortMsg.port (tMsg w)) 4096)).toNat) ∧ tBegin.upd = Upd.idle ∧
      tBegin.on Hid.FL_ERASE 0 ∧ tBegin.flashOk ∧ tBegin.headCheck ((tBegin.bufBytes (PortMsg.port (tMsg w)) 4096).take 256) = Fail.none ∧
      chunksOf (hdrOf ((tBegin.bufBytes (PortMsg.port (tMsg w)) 4096).take 256) 0x10 4) ≤ tableSize ∧
      tBegin.on Reg.UPD_STATUS.FLASH_BUSY 0 = false ∧ tBegin.on Hid.PRESENT tBegin.act ∧ Memory.wf tBegin.mem = true := by
  have e : PortMsg.port (tMsg w) = 1 := rfl
  have h : (tBegin.bufBytes 1 4096).take 256 = tHead ++ tHead8 := by decide +kernel
  rw [e, hw, h]
  exact ⟨tBegin_gives w, by decide +kernel, by decide +kernel, by decide +kernel, headCheck_tHead _ (by decide +kernel) (by decide +kernel),
    by decide +kernel, by decide +kernel, by decide +kernel, by decide +kernel⟩
/-- A state and an operand that meet the hypotheses of the session of UpdateDeliveryAndVerification. -/
theorem wit_updBegin : ∃ w,
    tBegin.portGives 1 (tMsg w) (leBytes 4 (crc32 (tBegin.bufBytes (PortMsg.port (tMsg w)) 4096)).toNat) ∧ tBegin.upd = Upd.idle ∧
      tBegin.on Hid.FL_ERASE 0 ∧ tBegin.flashOk ∧ tBegin.headCheck ((tBegin.bufBytes (PortMsg.port (tMsg w)) 4096).take 256) = Fail.none ∧
      chunksOf (hdrOf ((tBegin.bufBytes (PortMsg.port (tMsg w)) 4096).take 256) 0x10 4) ≤ tableSize ∧
      tBegin.on Reg.UPD_STATUS.FLASH_BUSY 0 = false ∧ tBegin.on Hid.PRESENT tBegin.act ∧ Memory.wf tBegin.mem = true := by
  obtain ⟨w, hw⟩ : ∃ w, crc32 (tBegin.bufBytes 1 4096) = w := ⟨_, rfl⟩
  exact ⟨w, tBegin_meets w hw⟩
/-- A session in which chunk 1 may be programmed. -/
def tCommit : State :=
  let s := ((tBegin.put Reg.UPD_STATUS.STATE 0 1).put Reg.UPD_STATUS.TARGET 0 1).put Reg.UPD_PROGRESS.TOTAL 0 5
  { s with mem := [(mapMem 0 0x200, 4)] }
/-- COMMIT of chunk 1 on the service port. -/
def tCommitMsg (w : Word) : PortMsg := .svc 7 (leBytes 4 1 ++ leBytes 4 w.toNat)
theorem leNat_word (w : Word) : leNat (leBytes 4 w.toNat) = w.toNat := by
  have h := w.isLt
  simp [leNat, leBytes, beBytes, beNat, List.range, List.range.loop, BitVec.toNat_ofNat]
  omega
/-- A state and an operand that meet the hypotheses of the commit of UpdateDeliveryAndVerification. -/
theorem wit_updCommit : ∃ w,
    tCommit.portGives 3 (tCommitMsg w) (payloadOf (tCommitMsg w)) ∧ tCommit.upd = Upd.receiving ∧ tCommit.on Reg.UPD_STATUS.FLASH_BUSY 0 = false ∧
      (payloadOf (tCommitMsg w)).length = 8 ∧
      leNat ((payloadOf (tCommitMsg w)).drop 4) = (crc32 (tCommit.bufBytes (PortMsg.port (tCommitMsg w)) 4096)).toNat ∧
      1 ≤ leNat ((payloadOf (tCommitMsg w)).take 4) ∧ leNat ((payloadOf (tCommitMsg w)).take 4) < tCommit.get Reg.UPD_PROGRESS.TOTAL 0 ∧
      (tCommit.chunk (leNat ((payloadOf (tCommitMsg w)).take 4)) = Chunk.opened ∨ tCommit.chunk (leNat ((payloadOf (tCommitMsg w)).take 4)) = Chunk.erased) ∧
      tCommit.chunkBlank (leNat ((payloadOf (tCommitMsg w)).take 4)) ∧ tCommit.on Hid.PRESENT tCommit.act ∧ Memory.wf tCommit.mem = true := by
  obtain ⟨w, hw⟩ : ∃ w, crc32 (tCommit.bufBytes 1 4096) = w := ⟨_, rfl⟩
  refine ⟨w, ?_⟩
  have e : PortMsg.port (tCommitMsg w) = 1 := rfl
  have p : payloadOf (tCommitMsg w) = leBytes 4 1 ++ leBytes 4 w.toNat := rfl
  have l : (payloadOf (tCommitMsg w)).length = 8 := by rw [p, List.length_append, leBytes_length, leBytes_length]
  have t : (payloadOf (tCommitMsg w)).take 4 = leBytes 4 1 := by rw [p]; exact List.take_left' (leBytes_length 4 1)
  have d : (payloadOf (tCommitMsg w)).drop 4 = leBytes 4 w.toNat := by rw [p]; exact List.drop_left' (leBytes_length 4 1)
  have a : tCommit.portsServe = true := by decide +kernel
  have b : tCommit.notRetired = true := by decide +kernel
  have c : 8 ≤ tCommit.svcStaging := by decide +kernel
  have g : tCommit.portGives 3 (tCommitMsg w) (payloadOf (tCommitMsg w)) = (tCommit.portsServe && tCommit.notRetired &&
      (decide (payloadOf (tCommitMsg w) = payloadOf (tCommitMsg w)) && decide ((payloadOf (tCommitMsg w)).length ≤ tCommit.svcStaging) &&
        !tCommit.svcAsleep (payloadOf (tCommitMsg w)).length)) := rfl
  have f : tCommit.svcAsleep 8 = false := by decide +kernel
  rw [g, a, b, l, f, decide_eq_true rfl, decide_eq_true c, d, leNat_word, e, hw, t]
  exact ⟨rfl, by decide +kernel, by decide +kernel, rfl, rfl, by decide +kernel, by decide +kernel, by decide +kernel, by decide +kernel,
    by decide +kernel, by decide +kernel⟩
/-- A session whose digest has passed, with that header in the map. -/
def tFinish : State :=
  let s := ((tBegin.put Reg.UPD_STATUS.STATE 0 2).put Reg.UPD_STATUS.TARGET 0 1).put Hid.UPD_VERIFY 0 2
  { (s.accept (updKind 5) 2 0 65535 0x15 0 true) with
    mem := (List.range 256).filterMap fun k =>
      let b := 255 - (((tFlashBytes.find? fun c => c.1 = k).map Prod.snd).getD 0)
      if b = 0 then none else some (mapMem 0 (0x100 + k), BitVec.ofNat 8 b) }
theorem tFinish_copy : tFinish.headerCopy = tHead ++ tHead8 := by decide +kernel
/-- A state that meets the hypotheses of the last chunk of UpdateDeliveryAndVerification. -/
theorem wit_finishHeader :
    tFinish.get Hid.UPD_VERIFY 0 = 2 ∧ tFinish.upd = Upd.verifying ∧ tFinish.accepted (updKind 5) ∧
      (tFinish.get Reg.UPD_STATUS.TARGET 0 = 1 ∨ tFinish.get Reg.UPD_STATUS.TARGET 0 = 2) ∧ tFinish.headerOk tFinish.headerCopy ∧
      (vendorTest tFinish.headerCopy ∨ signatureOk tFinish.headerCopy) ∧ tFinish.on Hid.PRESENT tFinish.act ∧ Memory.wf tFinish.mem = true := by
  refine ⟨by decide +kernel, by decide +kernel, by decide +kernel, by decide +kernel, ?_, .inl ?_, by decide +kernel, by decide +kernel⟩
  · rw [tFinish_copy]; exact headerOk_tHead _ (by decide +kernel)
  · rw [tFinish_copy]; decide +kernel
/-- A trial with that flash as its prior image, past its deadline. -/
def tTrial : State :=
  { (tBegin.put Reg.UPD_STATUS.STATE 0 6).put Hid.UPD_PRIOR 0 1 with mem := tFlash }
theorem tTrial_slotCheck : tTrial.slotCheck 0 = Fail.none := by
  have a : (decide (tTrial.get Reg.FUSE_STATUS.STAGE 0 = Stage.retired)) = false := by decide +kernel
  have b : tTrial.flashOk = true := by decide +kernel
  have h : tTrial.head 0 = tHead ++ tHead8 := by decide +kernel
  simp only [decide_eq_false_iff_not] at a
  simp only [State.slotCheck, a, b, h, if_false, Bool.not_true, Bool.false_eq_true]
  exact headCheck_tHead _ (by decide +kernel) (by decide +kernel)
/-- A state and an operand that meet the hypotheses of the reverts of UpdatePreparationToReturn. -/
theorem wit_revert :
    tTrial.portGives 9 (.svc 7 []) [] ∧ tTrial.upd = Upd.trial ∧ tTrial.get Hid.UPD_PRIOR 0 ≠ 0 ∧
      tTrial.slotCheck (tTrial.get Hid.UPD_PRIOR 0 - 1) = Fail.none ∧ tTrial.digestOk (tTrial.get Hid.UPD_PRIOR 0 - 1) ∧ tTrial.active.isSome ∧
      tTrial.get Hid.UPD_DEADLINE 0 ≤ tTrial.fullBeat :=
  ⟨by decide +kernel, by decide +kernel, by decide +kernel, tTrial_slotCheck, by decide +kernel, by decide +kernel, by decide +kernel⟩

/-! Frames and blocks whose CRC is never evaluated. -/

/-- A state in which manager 0 receives a metrology frame. -/
def tMet (typ : Nat) (b : List Byte) : State := { State.reset.putAt Hid.PRESENT 0 0 1 with metTxA := [⟨0, typ, b⟩], metTxB := [⟨0, typ, b⟩] }
/-- States and operands that meet the hypotheses of the frames of MetReadOutAndCalibration with a live block, a record asked for and a new record. -/
theorem wit_metFrames :
    (Memory.wf (tMet 3 (List.replicate 104 7)).mem = true ∧ (metFirst (tMet 3 (List.replicate 104 7)).metTxA).isSome ∧
      (tMet 3 (List.replicate 104 7)).on Hid.PRESENT 0 ∧ metParse (MetFrame.bytes ⟨0, 3, List.replicate 104 7⟩) = some ⟨0, 3, List.replicate 104 7⟩) ∧
    (Memory.wf (tMet 2 (List.replicate 164 7)).mem = true ∧ (metFirst (tMet 2 (List.replicate 164 7)).metTxA).isSome ∧
      (tMet 2 (List.replicate 164 7)).on Hid.PRESENT 0 ∧ metParse (MetFrame.bytes ⟨0, 2, List.replicate 164 7⟩) = some ⟨0, 2, List.replicate 164 7⟩ ∧
      leNat ((List.replicate 164 (7 : Byte)).take 4) ≠ 0) ∧
    (Memory.wf (tMet 2 (List.replicate 164 0)).mem = true ∧ (metFirst (tMet 2 (List.replicate 164 0)).metTxA).isSome ∧
      (tMet 2 (List.replicate 164 0)).on Hid.PRESENT 0 ∧ metParse (MetFrame.bytes ⟨0, 2, List.replicate 164 0⟩) = some ⟨0, 2, List.replicate 164 0⟩ ∧
      leNat ((List.replicate 164 (0 : Byte)).take 4) = 0 ∧ (tMet 2 (List.replicate 164 0)).on Hid.MET_LAST 0 = false) := by
  refine ⟨⟨by decide +kernel, by decide +kernel, by decide +kernel, metParse_bytes 0 3 _ (by decide) (by decide) (by rw [List.length_replicate]; rfl)⟩,
    ⟨by decide +kernel, by decide +kernel, by decide +kernel, metParse_bytes 0 2 _ (by decide) (by decide) (by rw [List.length_replicate]; rfl), by decide +kernel⟩,
    ⟨by decide +kernel, by decide +kernel, by decide +kernel, metParse_bytes 0 2 _ (by decide) (by decide) (by rw [List.length_replicate]; rfl), by decide +kernel,
      by decide +kernel⟩⟩

/-- Manager 0 with power and unsensed fuses, before the integrity decision. -/
def tSense : State := State.reset.putAt Hid.POWERED 0 0 1
/-- The same after the decision, with manager 1 active and digest `w` shown by it. -/
def tJoin (w : Word) : State := ((tSense.putAt Hid.BOOT 0 0 1).putAt Reg.REIN_STATUS.ACTIVE 1 0 1).putAt Hid.SN_DIGEST 1 0 w.toNat
theorem tJoin_digest (w : Word) : (tJoin w).fuseDigest 0 = tSense.fuseDigest 0 := by
  rw [tJoin, State.fuseDigest_putAt _ _ _ _ _ _ (by decide), State.fuseDigest_putAt _ _ _ _ _ _ (by decide), State.fuseDigest_putAt _ _ _ _ _ _ (by decide)]
theorem tJoin_other (w : Word) (f : Fld) (i : Nat) (h : f.id ≠ Hid.SN_DIGEST.id) : (tJoin w).get f i = (tJoin 0).get f i := by
  rw [tJoin, tJoin, State.get, State.get, State.getAt_putAt_field _ _ _ _ _ _ _ _ h, State.getAt_putAt_field _ _ _ _ _ _ _ _ h]
theorem tJoin_shows (w : Word) : (tJoin w).get Hid.SN_DIGEST 1 = w.toNat := by
  rw [tJoin, State.get, State.getAt_putAt_same]; exact Nat.mod_eq_of_lt w.isLt
theorem tJoin_meets (w : Word) : (tJoin w).on Hid.POWERED 0 ∧ (tJoin w).on Hid.RST_LOW 0 = false ∧ (tJoin w).on Hid.SENSED 0 = false ∧ (tJoin w).on Hid.BOOT 0 ∧
    (tJoin w).active = some 1 := by
  have h : ∀ (f : Fld) (i : Nat), f.id ≠ Hid.SN_DIGEST.id → (tJoin w).on f i = (tJoin 0).on f i := fun f i e => by rw [State.on, State.on, tJoin_other w f i e]
  have a : (tJoin w).active = (tJoin 0).active := by
    rw [State.active, State.active, State.isActive, State.isActive, State.isActive, State.isActive, h _ _ (by decide), h _ _ (by decide)]
  rw [h _ _ (by decide), h _ _ (by decide), h _ _ (by decide), h _ _ (by decide), a]
  decide +kernel
/-- States that meet the hypotheses of the sensing of FusesAndLifeCycle. -/
theorem wit_fuseSense :
    (tSense.on Hid.POWERED 0 ∧ tSense.on Hid.RST_LOW 0 = false ∧ tSense.on Hid.SENSED 0 = false ∧ tSense.on Hid.BOOT 0 = false) ∧
    (∃ w, (tJoin w).on Hid.POWERED 0 ∧ (tJoin w).on Hid.RST_LOW 0 = false ∧ (tJoin w).on Hid.SENSED 0 = false ∧ (tJoin w).on Hid.BOOT 0 ∧
      (tJoin w).active.isSome ∧ ((tJoin w).fuseDigest 0).toNat ≠ (tJoin w).get Hid.SN_DIGEST 1) ∧
    (∃ w, (tJoin w).on Hid.POWERED 0 ∧ (tJoin w).on Hid.RST_LOW 0 = false ∧ (tJoin w).on Hid.SENSED 0 = false ∧ (tJoin w).on Hid.BOOT 0 ∧
      (tJoin w).active = some 1 ∧ ((tJoin w).fuseDigest 0).toNat = (tJoin w).get Hid.SN_DIGEST 1) := by
  refine ⟨by decide +kernel, ⟨tSense.fuseDigest 0 + 1, ?_⟩, ⟨tSense.fuseDigest 0, ?_⟩⟩
  · obtain ⟨a, b, c, d, e⟩ := tJoin_meets (tSense.fuseDigest 0 + 1)
    refine ⟨a, b, c, d, by rw [e]; rfl, ?_⟩
    rw [tJoin_digest, tJoin_shows]
    generalize tSense.fuseDigest 0 = w
    intro h
    have := BitVec.eq_of_toNat_eq h
    bv_omega
  · obtain ⟨a, b, c, d, e⟩ := tJoin_meets (tSense.fuseDigest 0)
    exact ⟨a, b, c, d, e, by rw [tJoin_digest, tJoin_shows]⟩

/-- Manager 0 alone has sensed, before the commit. -/
def tCast : State :=
  ((State.reset.putAt Reg.DEV_STATE.STATE 0 0 2).putAt Hid.PRESENT 0 0 1).putAt Hid.SENSED 0 0 1
/-- The same with both managers. -/
def tCast2 : State := (tCast.putAt Hid.PRESENT 1 0 1).putAt Hid.SENSED 1 0 1
/-- The same with a committed configuration. -/
def tCastDone : State := (tCast.putAt Hid.COMMITTED 0 0 1).putAt Reg.LOAD_STATUS.SLOT 0 0 1
/-- The block of fields of zeros. -/
def tBlock : BitVec 2048 := BitVec.ofNat 2048 (0 + castCrc 0 * 2 ^ 2016)
theorem tBlock_ok : castOk tBlock.toNat = true := by
  rw [tBlock]; exact castOk_word 0 (Nat.two_pow_pos 2016)
theorem verdict_pass (s : State) (h : s.senders = [0]) : s.verdictOn tBlock.toNat 0 = Bc.pass := by
  simp [State.verdictOn, h, copyOf, tBlock_ok]
theorem verdict_differ (s : State) (h : s.senders = [0, 1]) : s.verdictOn 1 0 = Bc.fail := by
  simp [State.verdictOn, h]
theorem verdict_some (s : State) (h : s.senders = [0]) (a : Nat) : s.verdictOn a 0 ≠ Bc.none := by
  simp only [State.verdictOn, h]
  split
  · contradiction
  · split
    · decide
    · split <;> decide
/-- States and operands that meet the hypotheses of the broadcast block of FusesAndLifeCycle: it passes before and after a commit, two copies differ, a tile's own
fuses fail; on HPD it passes and fails. -/
theorem wit_broadcast :
    (tCast.get Hid.BC_VERDICT 0 = 0 ∧ tCast.dev ≠ Dev.park ∧ tCast.verdictOn tBlock.toNat 0 = Bc.pass ∧ tCast.on Hid.COMMITTED 0 = false) ∧
    (tCastDone.get Hid.BC_VERDICT 0 = 0 ∧ tCastDone.dev ≠ Dev.park ∧ tCastDone.verdictOn tBlock.toNat 0 = Bc.pass ∧ tCastDone.on Hid.COMMITTED 0 ∧
      tCastDone.get Reg.LOAD_STATUS.SLOT 0 ≠ 0) ∧
    (tCast2.get Hid.BC_VERDICT 0 = 0 ∧ tCast2.dev ≠ Dev.park ∧ tCast2.verdictOn 1 0 = Bc.fail) ∧
    (tCast.get Hid.BC_VERDICT 0 = 0 ∧ tCast.dev ≠ Dev.park ∧ tCast.verdictOn 0 0 ≠ Bc.none) ∧
    (tCast.on Hid.BOOT 0 = false ∧ tCast.verdictOn tBlock.toNat 0 = Bc.pass) ∧
    (tCast2.on Hid.BOOT 0 = false ∧ tCast2.verdictOn 1 0 = Bc.fail) :=
  ⟨⟨by decide +kernel, by decide +kernel, verdict_pass _ (by decide +kernel), by decide +kernel⟩,
    ⟨by decide +kernel, by decide +kernel, verdict_pass _ (by decide +kernel), by decide +kernel, by decide +kernel⟩,
    ⟨by decide +kernel, by decide +kernel, verdict_differ _ (by decide +kernel)⟩,
    ⟨by decide +kernel, by decide +kernel, verdict_some _ (by decide +kernel) 0⟩,
    ⟨by decide +kernel, verdict_pass _ (by decide +kernel)⟩,
    ⟨by decide +kernel, verdict_differ _ (by decide +kernel)⟩⟩

/-! For every statement, states and operands that meet its hypotheses. -/

/-- States and operands that meet the hypotheses of CrossingFramesAndLanes. -/
theorem wit_crossingFramesAndLanes :
    (let path : FramePath := (.rein 0)
     let ok0 : Bool := true
     let s := State.reset
     ok0 = true ∧
     s.laneFailed path 0 = false) ∧
    (let path : FramePath := .down 3 1
     let ok0 : Bool := false
     let ok1 : Bool := false
     let _s := State.reset
     (pathCounts path).1 = Hid.XT_FAILS ∧
     ok0 = false ∧
     ok1 = false) ∧
    (let path : FramePath := (.rein 0)
     let lane : Fin 2 := 0
     let s := State.reset
     let s := s.putAt (pathCounts path).1 ((pathCounts path).2.1) ((pathCounts path).2.2 + lane) (3)
     s.getAt (pathCounts path).1 (pathCounts path).2.1 ((pathCounts path).2.2 + lane) = 3) := by decide +kernel

/-- States and operands that meet the hypotheses of BeatFramesAndSlots. -/
theorem wit_beatFramesAndSlots_1 :
    (let m : Mgr := 0
     let s := State.reset
     let s := s.putAt Hid.PRESENT (m) (0) (1)
     s.on Hid.PRESENT m) ∧
    (let u : Tile := 0
     let upper : Bool := true
     let slot : Fin 8 := 0
     let crcOk : Bool := true
     let s := State.reset
     let s := s.putAt Hid.SLOT_LOST (u) (slotIx upper slot) (0)
     let s := s.putAt Hid.SLOT_NEW (u) (slotIx upper slot) (0)
     let s := s.putAt Hid.SLOT_GAP (u) (slotIx upper slot) (0)
     let s := s.putAt Hid.SLOT_H_TICK (neighbour u upper) (ringIx (slotIx (!upper) slot) (s.slotTick u)) (s.slotTick u + 1)
     let s := s.putAt Hid.SLOT_SYNC (u) (slotIx upper slot) (0)
     hasNeighbour u upper ∧
     s.onAt Hid.SLOT_LOST u (slotIx upper slot) = false ∧
     s.onAt Hid.SLOT_NEW u (slotIx upper slot) = false ∧
     s.onAt Hid.SLOT_GAP u (slotIx upper slot) = false ∧
     s.getAt Hid.SLOT_H_TICK (neighbour u upper) (ringIx (slotIx (!upper) slot) (s.slotTick u)) = s.slotTick u + 1 ∧
     crcOk = true ∧
     (s.onAt Hid.SLOT_SYNC u (slotIx upper slot) = false ∨ s.getAt Hid.SLOT_H_SEQ (neighbour u upper) (ringIx (slotIx (!upper) slot) (s.slotTick u)) = s.getAt Hid.SLOT_SEQ u (slotIx upper slot))) ∧
    (let u : Tile := 0
     let upper : Bool := true
     let slot : Fin 8 := 0
     let crcOk : Bool := false
     let s := State.reset
     let s := s.putAt Hid.SLOT_LOST (u) (slotIx upper slot) (0)
     let s := s.putAt Hid.SLOT_NEW (u) (slotIx upper slot) (0)
     let s := s.putAt Hid.SLOT_GAP (u) (slotIx upper slot) (0)
     let s := s.putAt Hid.SLOT_H_TICK (neighbour u upper) (ringIx (slotIx (!upper) slot) (s.slotTick u)) (s.slotTick u + 1)
     let s := s.putAt Hid.SLOT_SYNC (u) (slotIx upper slot) (0)
     hasNeighbour u upper ∧
     s.onAt Hid.SLOT_LOST u (slotIx upper slot) = false ∧
     s.onAt Hid.SLOT_NEW u (slotIx upper slot) = false ∧
     s.onAt Hid.SLOT_GAP u (slotIx upper slot) = false ∧
     s.getAt Hid.SLOT_H_TICK (neighbour u upper) (ringIx (slotIx (!upper) slot) (s.slotTick u)) = s.slotTick u + 1 ∧
     crcOk = false) ∧
    (let u : Tile := 0
     let upper : Bool := true
     let lane : Fin 9 := 0
     let s := State.reset
     let s := s.putAt (spareMapFld upper) (u) (0) (15)
     let s := s.putAt (laneFailFld upper) (u) (0) (0)
     let s := s.putAt Hid.SLOT_FAILS (u) (slotIx upper lane) (3)
     hasNeighbour u upper ∧
     lane.val < 8 ∧
     s.get (spareMapFld upper) u = 15 ∧
     s.bit (laneFailFld upper) u lane = false ∧
     s.bit (laneFailFld upper) u 8 = false ∧
     s.getAt Hid.SLOT_FAILS u (slotIx upper lane) = 3) := by decide +kernel

/-- States and operands that meet the hypotheses of BeatFramesAndSlots. -/
theorem wit_beatFramesAndSlots_2 :
    (let u : Tile := 0
     let upper : Bool := true
     let lane : Fin 9 := 0
     let s := State.reset
     let s := s.putAt (spareMapFld upper) (u) (0) (3)
     let s := s.putAt (laneFailFld upper) (u) (0) (0)
     let s := s.putAt Hid.SLOT_FAILS (u) (slotIx upper lane) (3)
     hasNeighbour u upper ∧
     lane.val < 8 ∧
     s.get (spareMapFld upper) u ≠ 15 ∧
     s.bit (laneFailFld upper) u lane = false ∧
     s.getAt Hid.SLOT_FAILS u (slotIx upper lane) = 3) ∧
    (let m : Mgr := 0
     let s := State.reset
     let s := s.putAt Hid.POWERED (m) (0) (1)
     let s := s.putAt Hid.XTAL_STOPPED (m) (0) (0)
     let s := s.putAt Hid.BEAT_HOLD (m) (0) (0)
     let s := s.putAt Hid.LN_HOLD (0) (0) (0)
     s.on Hid.POWERED m ∧
     s.on Hid.XTAL_STOPPED m = false ∧
     s.on Hid.BEAT_HOLD m = false ∧
     (m.val ≠ s.act ∨ s.on Hid.LN_HOLD 0 = false)) ∧
    (let m : Mgr := 0
     let s := State.reset
     let s := s.putAt Hid.BEAT_HOLD (m) (0) (1)
     s.on Hid.BEAT_HOLD m) := by decide +kernel

/-- States and operands that meet the hypotheses of ReferencesAndRelock. -/
theorem wit_referencesAndRelock_1 :
    (let w : Who := .mc0
     let m : Mgr := 0
     let mode : BitVec 2 := 0
     let s := State.reset
     let s := s.putAt Reg.REIN_STATUS.ACTIVE (m) (0) (1)
     let s := s.putAt Reg.REIN_STATUS.ACTIVE (1 - m) (0) (0)
     let s := s.putAt Hid.PRESENT (1 - m) (0) (1)
     let s := s.putAt Reg.CLK_CTRL.SSC_MODE (0) (0) (mode.toNat + 1)
     s.reach w m = s.act ∧
     mode.toNat ≠ s.get Reg.CLK_CTRL.SSC_MODE 0 ∧
     s.shadowPresent) ∧
    (let w : Who := .mc0
     let m : Mgr := 0
     let mode : BitVec 2 := 0
     let s := State.reset
     let s := s.putAt Reg.REIN_STATUS.ACTIVE (m) (0) (1)
     let s := s.putAt Reg.REIN_STATUS.ACTIVE (1 - m) (0) (0)
     let s := s.putAt Hid.PRESENT (1 - m) (0) (0)
     let s := s.putAt Reg.CLK_CTRL.SSC_MODE (0) (0) (mode.toNat + 1)
     s.reach w m = s.act ∧
     mode.toNat ≠ s.get Reg.CLK_CTRL.SSC_MODE 0 ∧
     s.shadowPresent = false) ∧
    (let s := State.reset
     let s := s.putAt Hid.RELOCK_STAGE (0) (0) (2)
     s.get Hid.RELOCK_STAGE 0 = 2) ∧
    (let s := State.reset
     let s := s.putAt Hid.RELOCK_STAGE (0) (0) (1)
     s.get Hid.RELOCK_STAGE 0 = 1) := by decide +kernel

/-- States and operands that meet the hypotheses of ReferencesAndRelock. -/
theorem wit_referencesAndRelock_2 :
    (let u : Unit5 := 0
     let s := State.reset
     let s := s.putAt (clkF u Reg.TILE_CLK_STATUS.REF_SRC Reg.HPD_CLK_STATUS.REF_SRC) (clkI u) (0) (1)
     s.refSrc u < 2) ∧
    (let u : Unit5 := 0
     let m : Mgr := 0
     let s := State.reset
     let s := s.putAt Hid.POWERED (m) (0) (1)
     let s := s.putAt (clkF u Reg.TILE_CLK_STATUS.REF_SRC Reg.HPD_CLK_STATUS.REF_SRC) (clkI u) (0) (2)
     let s := s.putAt (clkF u Hid.FOLLOWED Hid.FOLLOWED_H) (clkI u) (0) (m)
     s.refBarred m = false ∧
     s.refSrc u = 2 ∧
     s.get (clkF u Hid.FOLLOWED Hid.FOLLOWED_H) (clkI u) = m) ∧
    (let u : Unit5 := 0
     let m : Mgr := 0
     let s := State.reset
     let s := s.putAt Hid.POWERED (m) (0) (1)
     let s := s.putAt (clkF u Reg.TILE_CLK_STATUS.REF_SRC Reg.HPD_CLK_STATUS.REF_SRC) (clkI u) (0) (3)
     s.refBarred m = false ∧
     s.refSrc u = 3) ∧
    (let u : Unit5 := 0
     let s := State.reset
     let s := s.putAt (clkF u Reg.TILE_CLK_STATUS.REF_SRC Reg.HPD_CLK_STATUS.REF_SRC) (clkI u) (0) (2)
     s.refSrc u = 2 ∧
     s.on (refOkF u 0) (clkI u) = false ∧
     s.on (refOkF u 1) (clkI u) = false) := by decide +kernel

/-- States and operands that meet the hypotheses of ReferencesAndRelock. -/
theorem wit_referencesAndRelock_3 :
    (let m : Mgr := 0
     let s := State.reset
     let s := s.putAt Reg.CLK_STATUS.ROOT_LOCK (m) (0) (1)
     s.on Reg.CLK_STATUS.ROOT_LOCK m) ∧
    (let failA : Bool := true
     let failB : Bool := true
     let s := State.reset
     let s := s.putAt Hid.XTAL_STOPPED (0) (0) (0)
     let s := s.putAt Hid.XTAL_STOPPED (1) (0) (0)
     let s := s.putAt Hid.EXPLICIT_FAULT (0) (0) (0)
     let s := s.putAt Hid.EXPLICIT_FAULT (1) (0) (0)
     failA = true ∧
     failB = true ∧
     s.on Hid.XTAL_STOPPED 0 = false ∧
     s.on Hid.XTAL_STOPPED 1 = false ∧
     s.on Hid.EXPLICIT_FAULT 0 = false ∧
     s.on Hid.EXPLICIT_FAULT 1 = false) ∧
    (let failA : Bool := false
     let failB : Bool := false
     let _s := State.reset
     failA = false ∧
     failB = false) := by decide +kernel

/-- States and operands that meet the hypotheses of PhaseFaultsShed. -/
theorem wit_phaseFaultsShed_1 :
    (let p : Phase := 0
     let s := State.reset
     let s := s.putAt Reg.PH_STATE.STATE (p) (0) (3)
     let s := s.putAt Hid.READD_DONE (p) (0) (0)
     s.sheddable p ∧
     s.on Hid.READD_DONE p = false) ∧
    (let p : Phase := 0
     let s := State.reset
     let s := s.putAt Reg.PH_STATE.STATE (p) (0) (3)
     let s := s.putAt Hid.READD_DONE (p) (0) (0)
     s.sheddable p ∧
     s.on Hid.READD_DONE p = false) ∧
    (let p : Phase := 0
     let q : Nat := 24
     let s := State.reset
     let s := s.putAt Reg.DIAG_RESULT.BUSY (tileOf p) (0) (0)
     let s := s.putAt Hid.TICK (tileOf p) (0) (1)
     s.scanPos p = some q ∧
     s.underDiag p = false) ∧
    (let p : Phase := 0
     let s := State.reset
     let s := s.putAt Reg.PH_STATE.STATE (p) (0) (4)
     s.sheddable p) := by decide +kernel

/-- States and operands that meet the hypotheses of PhaseFaultsShed. -/
theorem wit_phaseFaultsShed_2 :
    (let p : Phase := 0
     let s := State.reset
     let s := s.putAt Hid.MARK_MID (p) (0) (1)
     let s := s.putAt Hid.HELD (p) (0) (0)
     let s := s.putAt Reg.PH_STATE.STATE (p) (0) (3)
     s.get Hid.MARK_MID p = 1 ∧
     s.on Hid.HELD p = false ∧
     s.ph p = Ph.active) ∧
    (let p : Phase := 0
     let s := State.reset
     let s := s.putAt Hid.MARK_MID (p) (0) (2)
     let s := s.putAt Hid.JOIN_PEND (p) (0) (0)
     let s := s.putAt Hid.READD_DONE (p) (0) (0)
     let s := s.putAt Reg.PH_STATE.STATE (p) (0) (4)
     s.get Hid.MARK_MID p = 2 ∧
     s.sheddable p ∧
     s.on Hid.JOIN_PEND p = false ∧
     s.on Hid.READD_DONE p = false) := by decide +kernel

/-- States and operands that meet the hypotheses of PhasePulseAndCycle. -/
theorem wit_phasePulseAndCycle :
    (let p : Phase := 0
     let s := State.reset
     let s := s.putAt Hid.MARK_MID (p) (0) (0)
     let s := s.putAt Hid.HELD (p) (0) (0)
     let s := s.putAt Hid.FIRED (p) (0) (0)
     let s := s.putAt Hid.MID_BUSY (p) (0) (0)
     let s := s.putAt Reg.PH_STATE.STATE (p) (0) (3)
     s.get Hid.MARK_MID p = 0 ∧
     s.on Hid.HELD p = false ∧
     s.ph p = Ph.active ∧
     s.on Hid.FIRED p = false ∧
     s.on Hid.MID_BUSY p = false) ∧
    (let r : Rail := 0
     let u : Tile := 0
     let s := State.reset
     let s := s.putAt Hid.CYC_NOW (railIx u r) (0) (0)
     let s := s.putAt Hid.CYC_CNT (railIx u r) (0) (0)
     let s := s.putAt Hid.CYC_TAP (railIx u r) (0) (0)
     s.cycleDue (railIx u r)) ∧
    (let p : Phase := 0
     let s := State.reset
     let s := s.putAt Reg.PH_STATE.STATE (p) (0) (2)
     s.idlePh p) ∧
    (let p : Phase := 0
     let ton : Byte := 0
     let s := State.reset
     let s := s.putAt Reg.PH_STATE.STATE (p) (0) (3)
     let s := s.putAt Reg.PH_TIMING.TON_MIN (p) (0) (ton.toNat + 1)
     s.idlePh p = false ∧
     s.get Reg.PH_TIMING.TON_MIN p ≠ ton.toNat) := by decide +kernel

/-- States and operands that meet the hypotheses of PhasesParkedAddedProbed. -/
theorem wit_phasesParkedAddedProbed_1 :
    (let r : Rail := 0
     let q : Phase := 3
     let s := State.reset
     let s := s.putAt Reg.RAIL_SHED.SHED_BELOW (s.homeIx r) (0) (1)
     let s := let s := s.over (List.range 4) (fun s p => ((s.put Reg.PH_CFG.RAIL p r).put Reg.PH_STATE.STATE p 3).put Hid.MARK_MID p 0); ((s.put Reg.RAIL_SHED.MIN_ACTIVE (s.homeIx r) 1).put Reg.RAIL_SNS.PCHAN (s.homeIx r) 15).put Hid.DWELL (s.homeIx r) 1000000
     let s := s.putAt Hid.ADD_NOW (s.homeIx r) (0) (0)
     s.get Reg.RAIL_SHED.SHED_BELOW (railIx (s.leadTile r) r) ≠ 0 ∧
     s.dwellTicks (railIx (s.leadTile r) r) ≤ s.get Hid.DWELL (railIx (s.leadTile r) r) ∧
     (s.minActive r + ((s.counted (s.leadTile r) r).filter fun p => decide (s.get Hid.MARK_MID p = 1 ∨ s.get Hid.LOAD_SIG p = 1)).length < s.nActive (s.leadTile r) r) ∧
     s.on Hid.ADD_NOW (railIx (s.leadTile r) r) = false ∧
     s.highestRank (s.parkFrom r) = some q.val) ∧
    (let r : Rail := 0
     let q : Phase := 0
     let s := State.reset
     let s := let s := s.over (List.range 4) (fun s p => ((s.put Reg.PH_CFG.RAIL p r).put Reg.PH_STATE.STATE p 4).put Hid.MARK_MID p 0); (s.put Reg.DIAG_RESULT.BUSY 0 0).put Hid.ADD_HELD (s.homeIx r) 100
     let s := s.putAt Hid.MID_TICK (0) (0) (0)
     100 ≤ s.get Hid.ADD_HELD (railIx (s.leadTile r) r) ∧
     s.lowestRank (s.addFrom r) = some q.val ∧
     s.on Hid.MID_TICK q = false) ∧
    (let p : Phase := 0
     let s := State.reset
     let s := s.putAt Reg.PH_STATE.STATE (p) (0) (4)
     let s := s.putAt Hid.MID_TICK (p) (0) (1)
     (s.ph p = Ph.parked ∨ s.ph p = Ph.shed) ∧
     (s.on Hid.MID_TICK p ∨ s.on Hid.TSD_ON (tileOf p))) ∧
    (let p : Phase := 0
     let s := State.reset
     let s := s.putAt Reg.PH_STATE.STATE (p) (0) (4)
     let s := s.putAt Reg.DIAG_RESULT.BUSY (tileOf p) (0) (0)
     let s := s.putAt Hid.MID_TICK (p) (0) (0)
     let s := s.putAt Hid.TSD_ON (tileOf p) (0) (0)
     s.on Hid.MID_TICK p = false ∧
     s.on Hid.TSD_ON (tileOf p) = false ∧
     s.underDiag p = false ∧
     s.ph p = Ph.parked) := by decide +kernel

/-- States and operands that meet the hypotheses of PhasesParkedAddedProbed. -/
theorem wit_phasesParkedAddedProbed_2 :
    (let p : Phase := 0
     let s := State.reset
     let s := s.putAt Hid.MID_TICK (p) (0) (0)
     let s := s.putAt Hid.TSD_ON (tileOf p) (0) (0)
     let s := s.putAt Reg.PH_STATE.STATE (p) (0) (5)
     let s := s.putAt Reg.DIAG_RESULT.BUSY (tileOf p) (0) (0)
     let s := s.putAt Reg.REIN_STATUS.ACTIVE (0) (0) (1)
     let s := s.putAt Reg.CLK_STATUS.ROOT_LOCK (0) (0) (1)
     let s := s.putAt Hid.RELOCK_STAGE (0) (0) (0)
     let s := s.putAt Reg.TILE_CLK_STATUS.REF_SRC (tileOf p) (0) (0)
     let s := s.putAt Reg.TILE_CLK_STATUS.SETTLING (tileOf p) (0) (0)
     s.on Hid.MID_TICK p = false ∧
     s.on Hid.TSD_ON (tileOf p) = false ∧
     s.underDiag p = false ∧
     s.ph p = Ph.shed ∧
     s.clockReady [tileOf p]) ∧
    (let p : Phase := 0
     let s := State.reset
     let s := s.putAt Reg.PH_STATE.STATE (p) (0) (2)
     let s := s.putAt Reg.PH_CFG.RAIL (p) (0) (63)
     s.ph p = Ph.blocked ∧
     (48 ≤ s.railOf p ∨ s.rs (s.railOf p) = Rs.off)) ∧
    (let p : Phase := 0
     let obs : ProbeObs := ⟨false, false, false, 524288⟩
     let s := State.reset
     let s := s.putAt Hid.PROBING (p) (0) (1)
     s.on Hid.PROBING p ∧
     verdictOf obs false = Verdict.pass) ∧
    (let p : Phase := 0
     let obs : ProbeObs := ⟨true, false, false, 524288⟩
     let s := State.reset
     let s := s.putAt Hid.PROBING (p) (0) (1)
     s.on Hid.PROBING p ∧
     verdictOf obs false ≠ Verdict.pass) := by decide +kernel

/-- States and operands that meet the hypotheses of PhasesParkedAddedProbed. -/
theorem wit_phasesParkedAddedProbed_3 :
    (let r : Rail := 0
     let obs : List (Phase × ProbeObs) := []
     let s := State.reset
     let s := s.putAt Hid.PRESTART (0) (r) (1)
     let s := s.putAt Hid.EN_STAGE (0) (r) (4)
     let s := s.putAt Hid.PS_TICK (0) (r) ((s.get Hid.TICK (s.leadTile r) + 2 ^ 32 - 20000) % 2 ^ 32)
     s.onAt Hid.PRESTART 0 r ∧
     s.enStep r = 4 ∧
     6000 + 300 * (s.aliveOf r).length ≤ s.prestartAge r ∧
     prebiased (s.getAt Hid.PS_V1 0 r) (s.getAt Hid.PS_V2 0 r) (s.get Reg.RAIL_SETPT.VSET_TGT (s.leadIx r)) = false ∧
     (((s.aliveOf r).filter fun p => s.ph p = Ph.probe).all fun p => probeVerdict obs false p = Verdict.pass)) ∧
    (let w : Who := .mc0
     let m : Mgr := 0
     let s := State.reset
     let s := s.putAt Reg.REIN_STATUS.ACTIVE (m) (0) (1)
     let s := s.putAt Reg.REIN_STATUS.ACTIVE (1 - m) (0) (0)
     s.reach w m = s.act) ∧
    (let g : Group := 0
     let s := State.reset
     ((s.railsOfGroup g).all fun r => s.rs r = Rs.off)) ∧
    (let u : Tile := 0
     let g : Group := 0
     let s := State.reset
     let s := s.putAt Reg.ISO_STATE.ISO_DRIVE (0) (0) (255)
     let s := s.putAt Hid.SEQ_STEP (0) (0) (0)
     let s := s.putAt Hid.TSD_QUEUE (0) (0) (0)
     let s := s.putAt Hid.AK_STEP (0) (0) (0)
     let s := s.putAt Hid.AK_STEP (1) (0) (0)
     let s := s.putAt Hid.AK_STEP (2) (0) (0)
     let s := s.putAt Hid.AK_STEP (3) (0) (0)
     let s := s.over (List.range 96) (fun s p => s.put Reg.PH_CFG.RAIL p 63)
     s.isoLow g ∧
     s.quiet ∧
     s.railsWithin u g = []) := by decide +kernel

/-- States and operands that meet the hypotheses of PhasesParkedAddedProbed. -/
theorem wit_phasesParkedAddedProbed_4 :
    (let g : Group := 0
     let s := State.reset
     let s := s.putAt Reg.ISO_STATE.ISO_DRIVE (0) (0) (255)
     s.isoLow g) ∧
    (let p : Phase := 0
     let s := State.reset
     let s := s.putAt Hid.JOIN_PEND (p) (0) (1)
     let s := s.putAt Reg.PH_STATE.STATE (p) (0) (1)
     let s := s.putAt Hid.MARK_MID (p) (0) (0)
     let s := s.putAt Hid.HELD (p) (0) (0)
     s.on Hid.JOIN_PEND p ∧
     s.ph p = Ph.probe ∧
     s.get Hid.MARK_MID p = 0 ∧
     s.on Hid.HELD p = false) := by decide +kernel

/-- States and operands that meet the hypotheses of EngineArithmetic. -/
theorem wit_engineArithmetic_1 :
    (let u : Tile := 0
     let e : Slot := 0
     let s := State.reset
     let s := s.putAt Hid.E_RUN (engIx u e) (0) (1)
     let s := s.putAt Hid.E_WAIT (engIx u e) (0) (0)
     let s := s.putAt Hid.E_SLOT (engIx u e) (0) (0)
     let s := s.putAt Reg.ENG_STATUS.HALTED (s.engPhase u e) (0) (0)
     s.ready u e) ∧
    (let u : Tile := 0
     let e : Slot := 0
     let s := State.reset
     let s := s.putAt Hid.E_RUN (engIx u e) (0) (1)
     let s := s.putAt Hid.E_WAIT (engIx u e) (0) (0)
     let s := s.putAt Hid.E_SLOT (engIx u e) (0) (0)
     let s := s.putAt Reg.ENG_STATUS.HALTED (s.engPhase u e) (0) (0)
     s.ready u e) ∧
    (let u : Tile := 0
     let e : Slot := 0
     let s := State.reset
     let s := s.putAt Hid.E_RUN (engIx u e) (0) (1)
     let s := s.putAt Hid.E_WAIT (engIx u e) (0) (0)
     let s := s.putAt Hid.E_SLOT (engIx u e) (0) (0)
     let s := s.putAt Reg.ENG_STATUS.HALTED (s.engPhase u e) (0) (0)
     s.ready u e) ∧
    (let u : Tile := 0
     let e : Slot := 0
     let s := State.reset
     let s := s.putAt Hid.E_RUN (engIx u e) (0) (1)
     let s := s.putAt Hid.E_WAIT (engIx u e) (0) (0)
     let s := s.putAt Hid.E_SLOT (engIx u e) (0) (0)
     let s := s.putAt Reg.ENG_STATUS.HALTED (s.engPhase u e) (0) (0)
     s.ready u e) := by decide +kernel

/-- States and operands that meet the hypotheses of EngineArithmetic. -/
theorem wit_engineArithmetic_2 :
    (let u : Tile := 0
     let e : Slot := 0
     let s := State.reset
     let s := s.putAt Hid.E_RUN (engIx u e) (0) (1)
     let s := s.putAt Hid.E_WAIT (engIx u e) (0) (0)
     let s := s.putAt Hid.E_SLOT (engIx u e) (0) (0)
     let s := s.putAt Reg.ENG_STATUS.HALTED (s.engPhase u e) (0) (0)
     s.ready u e) ∧
    (let u : Tile := 0
     let e : Slot := 0
     let s := State.reset
     let s := s.putAt Hid.E_RUN (engIx u e) (0) (1)
     let s := s.putAt Hid.E_WAIT (engIx u e) (0) (0)
     let s := s.putAt Hid.E_SLOT (engIx u e) (0) (0)
     let s := s.putAt Reg.ENG_STATUS.HALTED (s.engPhase u e) (0) (0)
     s.ready u e) ∧
    (let u : Tile := 0
     let e : Slot := 0
     let s := State.reset
     let s := s.putAt Hid.E_RUN (engIx u e) (0) (1)
     let s := s.putAt Hid.E_WAIT (engIx u e) (0) (0)
     let s := s.putAt Hid.E_SLOT (engIx u e) (0) (0)
     let s := s.putAt Reg.ENG_STATUS.HALTED (s.engPhase u e) (0) (0)
     s.ready u e) ∧
    (let u : Tile := 0
     let e : Slot := 0
     let s := State.reset
     let s := s.putAt Hid.E_RUN (engIx u e) (0) (1)
     let s := s.putAt Hid.E_WAIT (engIx u e) (0) (0)
     let s := s.putAt Hid.E_SLOT (engIx u e) (0) (0)
     let s := s.putAt Reg.ENG_STATUS.HALTED (s.engPhase u e) (0) (0)
     s.ready u e) := by decide +kernel

/-- States and operands that meet the hypotheses of EngineArithmetic. -/
theorem wit_engineArithmetic_3 :
    (let u : Tile := 0
     let e : Slot := 0
     let s := State.reset
     let s := s.putAt Hid.E_RUN (engIx u e) (0) (1)
     let s := s.putAt Hid.E_WAIT (engIx u e) (0) (0)
     let s := s.putAt Hid.E_SLOT (engIx u e) (0) (0)
     let s := s.putAt Reg.ENG_STATUS.HALTED (s.engPhase u e) (0) (0)
     s.ready u e) ∧
    (let u : Tile := 0
     let e : Slot := 0
     let s := State.reset
     let s := s.putAt Hid.E_RUN (engIx u e) (0) (1)
     let s := s.putAt Hid.E_WAIT (engIx u e) (0) (0)
     let s := s.putAt Hid.E_SLOT (engIx u e) (0) (0)
     let s := s.putAt Reg.ENG_STATUS.HALTED (s.engPhase u e) (0) (0)
     s.ready u e) := by decide +kernel

/-- States and operands that meet the hypotheses of EngineLogicShiftsCompares. -/
theorem wit_engineLogicShiftsCompares_1 :
    (let u : Tile := 0
     let e : Slot := 0
     let s := State.reset
     let s := s.putAt Hid.E_RUN (engIx u e) (0) (1)
     let s := s.putAt Hid.E_WAIT (engIx u e) (0) (0)
     let s := s.putAt Hid.E_SLOT (engIx u e) (0) (0)
     let s := s.putAt Reg.ENG_STATUS.HALTED (s.engPhase u e) (0) (0)
     s.ready u e) ∧
    (let u : Tile := 0
     let e : Slot := 0
     let s := State.reset
     let s := s.putAt Hid.E_RUN (engIx u e) (0) (1)
     let s := s.putAt Hid.E_WAIT (engIx u e) (0) (0)
     let s := s.putAt Hid.E_SLOT (engIx u e) (0) (0)
     let s := s.putAt Reg.ENG_STATUS.HALTED (s.engPhase u e) (0) (0)
     s.ready u e) ∧
    (let u : Tile := 0
     let e : Slot := 0
     let s := State.reset
     let s := s.putAt Hid.E_RUN (engIx u e) (0) (1)
     let s := s.putAt Hid.E_WAIT (engIx u e) (0) (0)
     let s := s.putAt Hid.E_SLOT (engIx u e) (0) (0)
     let s := s.putAt Reg.ENG_STATUS.HALTED (s.engPhase u e) (0) (0)
     s.ready u e) ∧
    (let u : Tile := 0
     let e : Slot := 0
     let s := State.reset
     let s := s.putAt Hid.E_RUN (engIx u e) (0) (1)
     let s := s.putAt Hid.E_WAIT (engIx u e) (0) (0)
     let s := s.putAt Hid.E_SLOT (engIx u e) (0) (0)
     let s := s.putAt Reg.ENG_STATUS.HALTED (s.engPhase u e) (0) (0)
     s.ready u e) := by decide +kernel

/-- States and operands that meet the hypotheses of EngineLogicShiftsCompares. -/
theorem wit_engineLogicShiftsCompares_2 :
    (let u : Tile := 0
     let e : Slot := 0
     let s := State.reset
     let s := s.putAt Hid.E_RUN (engIx u e) (0) (1)
     let s := s.putAt Hid.E_WAIT (engIx u e) (0) (0)
     let s := s.putAt Hid.E_SLOT (engIx u e) (0) (0)
     let s := s.putAt Reg.ENG_STATUS.HALTED (s.engPhase u e) (0) (0)
     s.ready u e) ∧
    (let u : Tile := 0
     let e : Slot := 0
     let s := State.reset
     let s := s.putAt Hid.E_RUN (engIx u e) (0) (1)
     let s := s.putAt Hid.E_WAIT (engIx u e) (0) (0)
     let s := s.putAt Hid.E_SLOT (engIx u e) (0) (0)
     let s := s.putAt Reg.ENG_STATUS.HALTED (s.engPhase u e) (0) (0)
     s.ready u e) ∧
    (let u : Tile := 0
     let e : Slot := 0
     let s := State.reset
     let s := s.putAt Hid.E_RUN (engIx u e) (0) (1)
     let s := s.putAt Hid.E_WAIT (engIx u e) (0) (0)
     let s := s.putAt Hid.E_SLOT (engIx u e) (0) (0)
     let s := s.putAt Reg.ENG_STATUS.HALTED (s.engPhase u e) (0) (0)
     s.ready u e) ∧
    (let u : Tile := 0
     let e : Slot := 0
     let s := State.reset
     let s := s.putAt Hid.E_RUN (engIx u e) (0) (1)
     let s := s.putAt Hid.E_WAIT (engIx u e) (0) (0)
     let s := s.putAt Hid.E_SLOT (engIx u e) (0) (0)
     let s := s.putAt Reg.ENG_STATUS.HALTED (s.engPhase u e) (0) (0)
     s.ready u e) := by decide +kernel

/-- States and operands that meet the hypotheses of EngineLogicShiftsCompares. -/
theorem wit_engineLogicShiftsCompares_3 :
    (let u : Tile := 0
     let e : Slot := 0
     let s := State.reset
     let s := s.putAt Hid.E_RUN (engIx u e) (0) (1)
     let s := s.putAt Hid.E_WAIT (engIx u e) (0) (0)
     let s := s.putAt Hid.E_SLOT (engIx u e) (0) (0)
     let s := s.putAt Reg.ENG_STATUS.HALTED (s.engPhase u e) (0) (0)
     s.ready u e) ∧
    (let u : Tile := 0
     let e : Slot := 0
     let s := State.reset
     let s := s.putAt Hid.E_RUN (engIx u e) (0) (1)
     let s := s.putAt Hid.E_WAIT (engIx u e) (0) (0)
     let s := s.putAt Hid.E_SLOT (engIx u e) (0) (0)
     let s := s.putAt Reg.ENG_STATUS.HALTED (s.engPhase u e) (0) (0)
     s.ready u e) ∧
    (let u : Tile := 0
     let e : Slot := 0
     let s := State.reset
     let s := s.putAt Hid.E_RUN (engIx u e) (0) (1)
     let s := s.putAt Hid.E_WAIT (engIx u e) (0) (0)
     let s := s.putAt Hid.E_SLOT (engIx u e) (0) (0)
     let s := s.putAt Reg.ENG_STATUS.HALTED (s.engPhase u e) (0) (0)
     s.ready u e) ∧
    (let u : Tile := 0
     let e : Slot := 0
     let s := State.reset
     let s := s.putAt Hid.E_RUN (engIx u e) (0) (1)
     let s := s.putAt Hid.E_WAIT (engIx u e) (0) (0)
     let s := s.putAt Hid.E_SLOT (engIx u e) (0) (0)
     let s := s.putAt Reg.ENG_STATUS.HALTED (s.engPhase u e) (0) (0)
     s.ready u e) := by decide +kernel

/-- States and operands that meet the hypotheses of EngineMemoryPortsAccumulators. -/
theorem wit_engineMemoryPortsAccumulators_1 :
    (let u : Tile := 0
     let e : Slot := 0
     let a : Fin 16 := 0
     let off : BitVec 9 := 0
     let s := State.reset
     let s := s.putAt Hid.E_RUN (engIx u e) (0) (1)
     let s := s.putAt Hid.E_WAIT (engIx u e) (0) (0)
     let s := s.putAt Hid.E_SLOT (engIx u e) (0) (0)
     let s := s.putAt Reg.ENG_STATUS.HALTED (s.engPhase u e) (0) (0)
     s.ready u e ∧
     s.unhurt (dmAddr u (s.memSlot u e) (((s.w (engIx u e) a).toNat % 512 + off.toNat) % 512))) ∧
    (let u : Tile := 0
     let e : Slot := 0
     let s := State.reset
     let s := s.putAt Hid.E_RUN (engIx u e) (0) (1)
     let s := s.putAt Hid.E_WAIT (engIx u e) (0) (0)
     let s := s.putAt Hid.E_SLOT (engIx u e) (0) (0)
     let s := s.putAt Reg.ENG_STATUS.HALTED (s.engPhase u e) (0) (0)
     Memory.wf s.mem = true ∧
     s.ready u e) ∧
    (let u : Tile := 0
     let e : Slot := 0
     let s := State.reset
     let s := s.putAt Hid.E_RUN (engIx u e) (0) (1)
     let s := s.putAt Hid.E_WAIT (engIx u e) (0) (0)
     let s := s.putAt Hid.E_SLOT (engIx u e) (0) (0)
     let s := s.putAt Reg.ENG_STATUS.HALTED (s.engPhase u e) (0) (0)
     s.ready u e) ∧
    (let u : Tile := 0
     let e : Slot := 0
     let s := State.reset
     let s := s.putAt Hid.E_RUN (engIx u e) (0) (1)
     let s := s.putAt Hid.E_WAIT (engIx u e) (0) (0)
     let s := s.putAt Hid.E_SLOT (engIx u e) (0) (0)
     let s := s.putAt Reg.ENG_STATUS.HALTED (s.engPhase u e) (0) (0)
     s.ready u e) := by decide +kernel

/-- States and operands that meet the hypotheses of EngineMemoryPortsAccumulators. -/
theorem wit_engineMemoryPortsAccumulators_2 :
    (let u : Tile := 0
     let e : Slot := 0
     let s := State.reset
     let s := s.putAt Hid.E_RUN (engIx u e) (0) (1)
     let s := s.putAt Hid.E_WAIT (engIx u e) (0) (0)
     let s := s.putAt Hid.E_SLOT (engIx u e) (0) (0)
     let s := s.putAt Reg.ENG_STATUS.HALTED (s.engPhase u e) (0) (0)
     s.ready u e) ∧
    (let u : Tile := 0
     let e : Slot := 0
     let s := State.reset
     let s := s.putAt Hid.E_RUN (engIx u e) (0) (1)
     let s := s.putAt Hid.E_WAIT (engIx u e) (0) (0)
     let s := s.putAt Hid.E_SLOT (engIx u e) (0) (0)
     let s := s.putAt Reg.ENG_STATUS.HALTED (s.engPhase u e) (0) (0)
     s.ready u e) ∧
    (let u : Tile := 0
     let e : Slot := 0
     let s := State.reset
     let s := s.putAt Hid.E_RUN (engIx u e) (0) (1)
     let s := s.putAt Hid.E_WAIT (engIx u e) (0) (0)
     let s := s.putAt Hid.E_SLOT (engIx u e) (0) (0)
     let s := s.putAt Reg.ENG_STATUS.HALTED (s.engPhase u e) (0) (0)
     s.ready u e) ∧
    (let u : Tile := 0
     let e : Slot := 0
     let s := State.reset
     let s := s.putAt Hid.E_RUN (engIx u e) (0) (1)
     let s := s.putAt Hid.E_WAIT (engIx u e) (0) (0)
     let s := s.putAt Hid.E_SLOT (engIx u e) (0) (0)
     let s := s.putAt Reg.ENG_STATUS.HALTED (s.engPhase u e) (0) (0)
     s.ready u e) := by decide +kernel

/-- States and operands that meet the hypotheses of EngineMemoryPortsAccumulators. -/
theorem wit_engineMemoryPortsAccumulators_3 :
    (let u : Tile := 0
     let e : Slot := 0
     let s := State.reset
     let s := s.putAt Hid.E_RUN (engIx u e) (0) (1)
     let s := s.putAt Hid.E_WAIT (engIx u e) (0) (0)
     let s := s.putAt Hid.E_SLOT (engIx u e) (0) (0)
     let s := s.putAt Reg.ENG_STATUS.HALTED (s.engPhase u e) (0) (0)
     s.ready u e) := by decide +kernel

/-- States and operands that meet the hypotheses of EngineFlowOfControl. -/
theorem wit_engineFlowOfControl_1 :
    (let u : Tile := 0
     let e : Slot := 0
     let s := State.reset
     let s := s.putAt Hid.E_RUN (engIx u e) (0) (1)
     let s := s.putAt Hid.E_WAIT (engIx u e) (0) (0)
     let s := s.putAt Hid.E_SLOT (engIx u e) (0) (0)
     let s := s.putAt Reg.ENG_STATUS.HALTED (s.engPhase u e) (0) (0)
     s.ready u e) ∧
    (let u : Tile := 0
     let e : Slot := 0
     let s := State.reset
     let s := s.putAt Hid.E_RUN (engIx u e) (0) (1)
     let s := s.putAt Hid.E_WAIT (engIx u e) (0) (0)
     let s := s.putAt Hid.E_SLOT (engIx u e) (0) (0)
     let s := s.putAt Reg.ENG_STATUS.HALTED (s.engPhase u e) (0) (0)
     s.ready u e) ∧
    (let u : Tile := 0
     let e : Slot := 0
     let cond : Fin 13 := 0
     let s := State.reset
     let s := s.putAt Hid.E_RUN (engIx u e) (0) (1)
     let s := s.putAt Hid.E_WAIT (engIx u e) (0) (0)
     let s := s.putAt Hid.E_SLOT (engIx u e) (0) (0)
     let s := s.putAt Reg.ENG_STATUS.HALTED (s.engPhase u e) (0) (0)
     s.ready u e ∧
     (cond.val = 0 ∨ (cond.val = 1 ∧ s.on Hid.E_Z (engIx u e)) ∨ (cond.val = 3 ∧ s.on Hid.E_N (engIx u e) ≠ s.on Hid.E_V (engIx u e)) ∨ (cond.val = 8 ∧ s.on Hid.E_C (engIx u e) = false) ∨ (cond.val = 11 ∧ s.enabledEvents (s.engPhase u e) ≠ 0))) ∧
    (let u : Tile := 0
     let e : Slot := 0
     let s := State.reset
     let s := s.putAt Hid.E_RUN (engIx u e) (0) (1)
     let s := s.putAt Hid.E_WAIT (engIx u e) (0) (0)
     let s := s.putAt Hid.E_SLOT (engIx u e) (0) (0)
     let s := s.putAt Reg.ENG_STATUS.HALTED (s.engPhase u e) (0) (0)
     s.ready u e) := by decide +kernel

/-- States and operands that meet the hypotheses of EngineFlowOfControl. -/
theorem wit_engineFlowOfControl_2 :
    (let u : Tile := 0
     let e : Slot := 0
     let s := State.reset
     let s := s.putAt Hid.E_RUN (engIx u e) (0) (1)
     let s := s.putAt Hid.E_WAIT (engIx u e) (0) (0)
     let s := s.putAt Hid.E_SLOT (engIx u e) (0) (0)
     let s := s.putAt Reg.ENG_STATUS.HALTED (s.engPhase u e) (0) (0)
     s.ready u e) ∧
    (let u : Tile := 0
     let e : Slot := 0
     let s := State.reset
     let s := s.putAt Hid.E_RUN (engIx u e) (0) (1)
     let s := s.putAt Hid.E_WAIT (engIx u e) (0) (0)
     let s := s.putAt Hid.E_SLOT (engIx u e) (0) (0)
     let s := s.putAt Reg.ENG_STATUS.HALTED (s.engPhase u e) (0) (0)
     s.ready u e) ∧
    (let u : Tile := 0
     let e : Slot := 0
     let s := State.reset
     let s := s.putAt Hid.E_RUN (engIx u e) (0) (1)
     let s := s.putAt Hid.E_WAIT (engIx u e) (0) (0)
     let s := s.putAt Hid.E_SLOT (engIx u e) (0) (0)
     let s := s.putAt Reg.ENG_STATUS.HALTED (s.engPhase u e) (0) (0)
     s.ready u e) ∧
    (let u : Tile := 0
     let e : Slot := 0
     let v : Word := 0xFFFFFFFF
     let s := State.reset
     let s := s.putAt Hid.E_RUN (engIx u e) (0) (1)
     let s := s.putAt Hid.E_WAIT (engIx u e) (0) (0)
     let s := s.putAt Hid.E_SLOT (engIx u e) (0) (0)
     let s := s.putAt Reg.ENG_STATUS.HALTED (s.engPhase u e) (0) (0)
     s.ready u e ∧
     engDecode u e v.toNat = none) := by decide +kernel

/-- States and operands that meet the hypotheses of EngineFlowOfControl. -/
theorem wit_engineFlowOfControl_3 :
    (let u : Tile := 0
     let e : Slot := 0
     let s := State.reset
     let s := s.putAt Hid.E_RUN (engIx u e) (0) (1)
     let s := s.putAt Hid.E_WAIT (engIx u e) (0) (0)
     let s := s.putAt Hid.E_SLOT (engIx u e) (0) (0)
     let s := s.putAt Reg.ENG_STATUS.HALTED (s.engPhase u e) (0) (0)
     let s := { s with ecc := [(s.fetchAddr u e, Upset.corrected)] }
     s.engReady (engIx u e) (s.engPhase u e) ∧
     s.upsetAt (s.fetchAddr u e) = Upset.corrected) := by decide +kernel

/-- States and operands that meet the hypotheses of ProgramAndDataMemories. -/
theorem wit_programAndDataMemories_1 :
    (let u : Tile := 0
     let e : Slot := 0
     let bank : Bool := false
     let s := State.reset
     let s := s.putAt Reg.ENG_STATUS.BANK (engBlock u e) (0) (1 - bank.toNat)
     Memory.wf s.mem = true ∧
     s.get Reg.ENG_STATUS.BANK (engBlock u e) ≠ bank.toNat) ∧
    (let u : Tile := 0
     let e : Slot := 0
     let bank : Bool := false
     let s := State.reset
     let s := s.putAt Reg.ENG_STATUS.BANK (engBlock u e) (0) (bank.toNat)
     let s := s.putAt Hid.E_RUN (engIx u e) (0) (1)
     s.get Reg.ENG_STATUS.BANK (engBlock u e) = bank.toNat ∧
     s.memRuns u e) ∧
    (let u : Tile := 0
     let e : Slot := 0
     let s := State.reset
     let s := s.putAt Hid.CRC_BUSY (engIx u e) (0) (1)
     s.on Hid.CRC_BUSY (engIx u e)) ∧
    (let u : Tile := 0
     let e : Slot := 0
     let off : BitVec 12 := 0
     let s := State.reset
     let s := { s with ecc := [(engMem u e + off.toNat * 4, Upset.corrected)] }
     off.toNat < 2560 ∧
     s.upsetAt (engMem u e + off.toNat * 4) = Upset.corrected) := by decide +kernel

/-- States and operands that meet the hypotheses of ProgramAndDataMemories. -/
theorem wit_programAndDataMemories_2 :
    (let u : Tile := 0
     let e : Slot := 0
     let off : BitVec 12 := 0
     let s := State.reset
     let s := s.putAt Hid.E_RUN (engIx u e) (0) (1)
     let s := s.putAt Reg.PH_STATE.STATE (engBlock u e) (0) (3)
     let s := s.putAt Hid.READD_DONE (engBlock u e) (0) (0)
     let s := { s with ecc := [(engMem u e + off.toNat * 4, Upset.lost)] }
     let s := s.putAt Reg.SPARE_STATUS.BUSY (u) (0) (0)
     let s := s.putAt Hid.HANDING_OVER (u) (0) (0)
     let s := s.putAt Hid.HANDING_BACK (u) (0) (0)
     off.toNat < 2560 ∧
     s.upsetAt (engMem u e + off.toNat * 4) = Upset.lost ∧
     e.val < 24 ∧
     s.spareRuns u e = false ∧
     s.on Hid.E_RUN (engIx u e) ∧
     s.ph (engBlock u e) = Ph.active ∧
     s.on Hid.READD_DONE (engBlock u e) = false) ∧
    (let u : Tile := 0
     let e : Slot := 0
     let s := State.reset
     let s := s.putAt Reg.ENG_STATUS.OVR_RUN (s.engPhase u e) (0) (3)
     let s := s.putAt Reg.PH_STATE.STATE (s.engPhase u e) (0) (3)
     let s := s.putAt Hid.READD_DONE (s.engPhase u e) (0) (0)
     s.engPhase u e < 96 ∧
     s.get Reg.ENG_STATUS.OVR_RUN (s.engPhase u e) = 3 ∧
     s.idlePh (s.engPhase u e) = false ∧
     s.ph (s.engPhase u e) ≠ Ph.shed ∧
     s.on Hid.READD_DONE (s.engPhase u e) = false) ∧
    (let u : Tile := 0
     let e : Slot := 0
     let off : BitVec 12 := 0
     let s := State.reset
     s.unhurt (engMem u e + off.toNat * 4)) := by decide +kernel

/-- States and operands that meet the hypotheses of BankSwaps. -/
theorem wit_bankSwaps :
    (let u : Tile := 0
     let r : Rail := 0
     let s := State.reset
     let s := s.putAt Reg.RAIL_SWAP_AT.SWAP_AT (railIx u r) (0) (s.get Hid.TICK u + 100)
     let s := s.putAt Reg.RAIL_ENG_STATUS.SWAP_PEND (railIx u r) (0) (0)
     100 ≤ ahead (s.get Reg.RAIL_SWAP_AT.SWAP_AT (railIx u r)) (s.get Hid.TICK u) ∧
     ahead (s.get Reg.RAIL_SWAP_AT.SWAP_AT (railIx u r)) (s.get Hid.TICK u) < 2 ^ 31 ∧
     s.on Reg.RAIL_ENG_STATUS.SWAP_PEND (railIx u r) = false) ∧
    (let u : Tile := 0
     let r : Rail := 0
     let s := State.reset
     let s := s.putAt Reg.RAIL_ENG_STATUS.SWAP_PEND (railIx u r) (0) (1)
     (ahead (s.get Reg.RAIL_SWAP_AT.SWAP_AT (railIx u r)) (s.get Hid.TICK u) < 100 ∨ s.on Reg.RAIL_ENG_STATUS.SWAP_PEND (railIx u r))) ∧
    (let u : Tile := 0
     let r : Rail := 0
     let s := State.reset
     let s := s.putAt Reg.RAIL_ENG_STATUS.SWAP_PEND (railIx u r) (0) (1)
     let s := s.putAt Hid.TICK (u) (0) (s.get Reg.RAIL_SWAP_AT.SWAP_AT (railIx u r))
     let s := s.over (List.range 6) (fun s p => (((s.put Reg.PH_CFG.RAIL (u.val*24+p) r).put Hid.E_RUN (engIx u p) 1).put Hid.E_FRESH (engIx u p) 1))
     s.on Reg.RAIL_ENG_STATUS.SWAP_PEND (railIx u r) ∧
     s.get Hid.TICK u = s.get Reg.RAIL_SWAP_AT.SWAP_AT (railIx u r)) := by decide +kernel

/-- States and operands that meet the hypotheses of SpareEngine. -/
theorem wit_spareEngine_1 :
    (let u : Tile := 0
     let e : Slot := 0
     let kind : EngFault := .datapath
     let ckptOk : Bool := true
     let s := State.reset
     let s := s.putAt Hid.E_RUN (engIx u e) (0) (1)
     let s := s.putAt Hid.SPARE_BAD (u) (0) (0)
     let s := s.putAt Reg.SPARE_STATUS.BUSY (u) (0) (0)
     let s := s.putAt Hid.HANDING_BACK (u) (0) (0)
     let s := s.putAt Hid.HANDING_OVER (u) (0) (0)
     let s := s.putAt Reg.ENG_STATUS.HALTED (engBlock u e) (0) (0)
     e.val < 24 ∧
     s.spareRuns u e = false ∧
     s.on Hid.E_RUN (engIx u e) ∧
     (kind = EngFault.datapath ∨ kind = EngFault.regfile ∨ kind = EngFault.sequence) ∧
     ckptOk = true ∧
     s.on Reg.ENG_STATUS.HALTED (engBlock u e) = false ∧
     s.spareFree u) ∧
    (let u : Tile := 0
     let e : Slot := 0
     let ckptOk : Bool := false
     let s := State.reset
     let s := s.putAt Reg.SPARE_STATUS.BUSY (u) (0) (0)
     let s := s.putAt Hid.HANDING_OVER (u) (0) (0)
     let s := s.putAt Hid.HANDING_BACK (u) (0) (0)
     let s := s.putAt Hid.E_RUN (engIx u e) (0) (1)
     let s := s.putAt Reg.PH_STATE.STATE (engBlock u e) (0) (3)
     let s := s.putAt Hid.READD_DONE (engBlock u e) (0) (0)
     e.val < 24 ∧
     s.spareRuns u e = false ∧
     s.on Hid.E_RUN (engIx u e) ∧
     ckptOk = false ∧
     s.ph (engBlock u e) = Ph.active ∧
     s.on Hid.READD_DONE (engBlock u e) = false) ∧
    (let p : Phase := 0
     let ckptOk : Bool := true
     let s := State.reset
     let s := s.putAt Hid.E_RUN (engIx (tileOf p) (localOf p)) (0) (1)
     let s := s.putAt Hid.SPARE_BAD (tileOf p) (0) (0)
     let s := s.putAt Reg.SPARE_STATUS.BUSY (tileOf p) (0) (0)
     let s := s.putAt Hid.HANDING_BACK (tileOf p) (0) (0)
     let s := s.putAt Hid.HANDING_OVER (tileOf p) (0) (0)
     let s := s.putAt Reg.ENG_STATUS.HALTED (p) (0) (0)
     s.spareRuns (tileOf p) (localOf p) = false ∧
     s.on Hid.E_RUN (engIx (tileOf p) (localOf p)) ∧
     ckptOk = true ∧
     s.on Reg.ENG_STATUS.HALTED p = false ∧
     s.spareFree (tileOf p)) ∧
    (let u : Tile := 0
     let s := State.reset
     let s := s.putAt Hid.HANDING_OVER (u) (0) (1)
     let s := s.putAt Reg.SPARE_STATUS.FOR (u) (0) (3)
     let s := s.putAt Reg.PH_STATE.STATE (u.val * 24 + 3) (0) (Ph.spareHold)
     s.on Hid.HANDING_OVER u ∧
     s.ph (u.val * 24 + s.get Reg.SPARE_STATUS.FOR u) = Ph.spareHold) := by decide +kernel

/-- States and operands that meet the hypotheses of SpareEngine. -/
theorem wit_spareEngine_2 :
    (let u : Tile := 0
     let s := State.reset
     let s := s.putAt Hid.HANDING_OVER (u) (0) (0)
     let s := s.putAt Hid.HANDING_BACK (u) (0) (1)
     s.on Hid.HANDING_OVER u = false ∧
     s.on Hid.HANDING_BACK u) ∧
    (let u : Tile := 0
     let s := State.reset
     let s := s.putAt Reg.SPARE_STATUS.BUSY (u) (0) (1)
     let s := s.putAt Reg.SPARE_STATUS.FOR (u) (0) (5)
     let s := s.putAt Reg.ENG_FAULT.PROBE_OK (u.val * 24 + 5) (0) (1)
     let s := s.putAt Hid.HANDING_BACK (u) (0) (0)
     s.on Reg.SPARE_STATUS.BUSY u ∧
     s.on Reg.ENG_FAULT.PROBE_OK (u.val * 24 + s.get Reg.SPARE_STATUS.FOR u) ∧
     s.on Hid.HANDING_BACK u = false ∧
     s.get Reg.SPARE_STATUS.FOR u < 24) ∧
    (let u : Tile := 0
     let s := State.reset
     (s.on Reg.SPARE_STATUS.BUSY u = false ∨ s.on Reg.ENG_FAULT.PROBE_OK (u.val * 24 + s.get Reg.SPARE_STATUS.FOR u) = false)) ∧
    (let u : Tile := 0
     let pass : Bool := false
     let s := State.reset
     s.spareServes u = false ∧
     pass = false) := by decide +kernel

/-- States and operands that meet the hypotheses of SpareEngine. -/
theorem wit_spareEngine_3 :
    (let pass : Bool := true
     let _s := State.reset
     pass = true) := by decide +kernel

/-- States and operands that meet the hypotheses of SetpointsAndLaws. -/
theorem wit_setpointsAndLaws_1 :
    (let r : Rail := 0
     let target : BitVec 16 := 5000
     let s := State.reset
     let s := s.putAt Hid.SP_DONE (s.leadIx r) (0) (0)
     let s := s.putAt Reg.RAIL_OV.OV_LIM (s.leadIx r) (0) (8000)
     let s := s.putAt Hid.SP_MODE (s.leadIx r) (0) (0)
     s.setptOk (s.leadIx r) target.toNat ∧
     s.on Hid.SP_DONE (s.leadIx r) = false ∧
     s.get Hid.SP_MODE (s.leadIx r) ≠ SpMode.soft) ∧
    (let r : Rail := 0
     let target : BitVec 16 := 5000
     let stop : Bool := false
     let s := State.reset
     let s := s.putAt Hid.SP_DONE (s.leadIx r) (0) (1)
     let s := s.putAt Hid.SP_MODE (s.leadIx r) (0) (0)
     let s := s.putAt Reg.RAIL_OV.OV_LIM (s.leadIx r) (0) (8000)
     let s := s.putAt Reg.REIN_STATUS.ACTIVE (0) (0) (1)
     let s := s.putAt Reg.CLK_STATUS.ROOT_LOCK (0) (0) (1)
     let s := s.putAt Hid.RELOCK_STAGE (0) (0) (0)
     let s := s.over (List.range 4) (fun s u => (s.put Reg.TILE_CLK_STATUS.REF_SRC u 0).put Reg.TILE_CLK_STATUS.SETTLING u 0)
     s.setptOk (s.leadIx r) target.toNat ∧
     s.on Hid.SP_DONE (s.leadIx r) ∧
     s.get Hid.SP_MODE (s.leadIx r) ≠ SpMode.soft ∧
     stop = false ∧
     s.railReady r) ∧
    (let r : Rail := 0
     let target : BitVec 16 := 65535
     let s := State.reset
     s.setptOk (s.leadIx r) target.toNat = false) ∧
    (let r : Rail := 0
     let law : Byte := 0x11
     let s := State.reset
     let s := s.putAt Reg.RAIL_LAW.LAW_ID (s.homeIx r) (0) (0)
     let s := s.over (List.range 96) (fun s p => s.put Reg.PH_CFG.RAIL p 63)
     (law = 0x10 ∨ law = 0x11 ∨ law = 0x12) ∧
     s.get Reg.RAIL_LAW.LAW_ID (s.homeIx r) ≠ law.toNat ∧
     s.railIdle r) := by decide +kernel

/-- States and operands that meet the hypotheses of SetpointsAndLaws. -/
theorem wit_setpointsAndLaws_2 :
    (let law : Byte := 0x13
     let _s := State.reset
     law ≠ 0 ∧
     law ≠ 0x10 ∧
     law ≠ 0x11 ∧
     law ≠ 0x12) ∧
    (let r : Rail := 0
     let s := State.reset
     let s := s.putAt Hid.LAW_BUSY (0) (r) (1)
     let s := s.putAt Hid.SEQ_STEP (0) (0) (0)
     let s := s.putAt Hid.TSD_QUEUE (0) (0) (0)
     let s := s.putAt Hid.AK_STEP (0) (0) (0)
     let s := s.putAt Hid.AK_STEP (1) (0) (0)
     let s := s.putAt Hid.AK_STEP (2) (0) (0)
     let s := s.putAt Hid.AK_STEP (3) (0) (0)
     let s := s.putAt Hid.EN_STAGE (0) (r) (0)
     let s := s.over (List.range 96) (fun s p => s.put Reg.PH_CFG.RAIL p 63)
     s.onAt Hid.LAW_BUSY 0 r ∧
     s.quiet ∧
     s.enStep r = 0) ∧
    (let r : Rail := 0
     let s := State.reset
     let s := s.putAt Hid.LAW_BUSY (0) (r) (1)
     s.onAt Hid.LAW_BUSY 0 r) := by decide +kernel

/-- States and operands that meet the hypotheses of CinchWindow. -/
theorem wit_cinchWindow_1 :
    (let u : Tile := 0
     let r : Rail := 0
     let fall : BitVec 8 := 200
     let s := State.reset
     let s := s.putAt Hid.LOSS_ARM (railIx u r) (0) (1)
     let s := s.putAt Hid.C_SLOPE (railIx u r) (0) (1)
     let s := s.putAt Reg.CINCH_STATUS.FIRING (railIx u r) (0) (0)
     let s := s.putAt Reg.CINCH_STATUS.HOLDOFF (railIx u r) (0) (0)
     let s := s.putAt Reg.RAIL_SUP_STATUS.RSTATE (s.leadIx r) (0) (Rs.on)
     s.armed u r ∧
     s.get Hid.C_SLOPE (railIx u r) * 4 ≤ s.railSide (railIx u r) fall.toNat) ∧
    (let u : Tile := 0
     let r : Rail := 0
     let s := State.reset
     let s := s.putAt Hid.C_SWIN (railIx u r) (0) (3)
     let s := s.putAt Hid.SLOPE_AGE (railIx u r) (0) (3)
     s.get Hid.C_SWIN (railIx u r) ≤ s.get Hid.SLOPE_AGE (railIx u r)) ∧
    (let u : Tile := 0
     let r : Rail := 0
     let v : BitVec 16 := 0
     let s := State.reset
     let s := s.putAt Hid.LOSS_ARM (railIx u r) (0) (1)
     let s := s.putAt Hid.C_LVL (railIx u r) (0) (1)
     let s := s.putAt Reg.CINCH_STATUS.FIRING (railIx u r) (0) (0)
     let s := s.putAt Reg.CINCH_STATUS.HOLDOFF (railIx u r) (0) (0)
     let s := s.putAt Reg.RAIL_SUP_STATUS.RSTATE (s.leadIx r) (0) (Rs.on)
     let s := s.over (List.range 6) (fun s p => (((s.put Reg.PH_CFG.RAIL (u.val*24+p) r).put Reg.PH_STATE.STATE (u.val*24+p) 3)))
     s.armed u r ∧
     (s.levelSense (railIx u r) v.toNat).on Hid.C_LVL (railIx u r) ∧
     (s.get Hid.C_MODE (railIx u r) = 2 ∨ (s.get Hid.C_MODE (railIx u r) = 1 ∧ s.on Hid.SLOPE_OPEN (railIx u r)) ∨ s.on Hid.LOSS_ARM (railIx u r))) ∧
    (let u : Tile := 0
     let r : Rail := 0
     let s := State.reset
     let s := s.putAt Reg.CINCH_STATUS.FIRING (railIx u r) (0) (1)
     let s := s.putAt Hid.C_RELEASED (railIx u r) (0) (0)
     let s := s.putAt Hid.C_ON (railIx u r) (0) (3)
     let s := s.putAt Hid.C_IN (railIx u r) (0) (0)
     let s := s.putAt Hid.TRIP_AGE (railIx u r) (0) (3)
     s.on Reg.CINCH_STATUS.FIRING (railIx u r) ∧
     s.on Hid.C_RELEASED (railIx u r) = false ∧
     s.get Hid.C_ON (railIx u r) + s.get Hid.C_IN (railIx u r) ≤ s.get Hid.TRIP_AGE (railIx u r)) := by decide +kernel

/-- States and operands that meet the hypotheses of CinchWindow. -/
theorem wit_cinchWindow_2 :
    (let u : Tile := 0
     let r : Rail := 0
     let s := State.reset
     let s := s.putAt Reg.CINCH_STATUS.FIRING (railIx u r) (0) (1)
     let s := s.putAt Hid.C_RELEASED (railIx u r) (0) (1)
     let s := s.putAt Hid.REL_AGE (railIx u r) (0) (4)
     s.on Reg.CINCH_STATUS.FIRING (railIx u r) ∧
     s.on Hid.C_RELEASED (railIx u r) ∧
     4 ≤ s.get Hid.REL_AGE (railIx u r)) ∧
    (let u : Tile := 0
     let r : Rail := 0
     let s := State.reset
     let s := s.putAt Reg.CINCH_STATUS.FIRING (railIx u r) (0) (0)
     let s := s.putAt Hid.REL_AGE (railIx u r) (0) (50)
     s.on Reg.CINCH_STATUS.FIRING (railIx u r) = false ∧
     50 ≤ s.get Hid.REL_AGE (railIx u r)) ∧
    (let u : Tile := 0
     let upper : Bool := true
     let _s := State.reset
     hasNeighbour u upper) := by decide +kernel

/-- States and operands that meet the hypotheses of ForecastPort. -/
theorem wit_forecastPort_1 :
    (let u : Tile := 0
     let portB : Bool := false
     let word : Word := (0x00004080 ||| (fcCrc 0x00004080).setWidth 32)
     let stopOk : Bool := true
     let lost : Bool := false
     let s := State.reset
     let s := s.putAt (if portB then Reg.FC_PORT_CTRL.EN_B else Reg.FC_PORT_CTRL.EN_A) (u) (0) (1)
     let s := s.putAt Reg.RAIL_SUP_CFG.KIND (s.homeIx (fcRail word)) (0) (1)
     let s := s.putAt Reg.FC_CFG.SRC (railIx u (fcRail word)) (0) (3)
     let s := s.putAt Hid.SP_DONE (railIx u (fcRail word)) (0) (1)
     let s := s.putAt Reg.RAIL_SUP_STATUS.RSTATE (s.leadIx (fcRail word)) (0) (Rs.on)
     s.on (if portB then Reg.FC_PORT_CTRL.EN_B else Reg.FC_PORT_CTRL.EN_A) u ∧
     stopOk = true ∧
     fcCrc word = word.setWidth 6 ∧
     fcRail word < 48 ∧
     s.serves u (fcRail word) ∧
     s.kindOf (fcRail word) = 1 ∧
     (s.get Reg.FC_CFG.SRC (railIx u (fcRail word))).testBit portB.toNat ∧
     s.on Hid.SP_DONE (railIx u (fcRail word)) ∧
     s.offOrStopping (fcRail word) = false ∧
     (portB = false ∨ lost = false) ∧
     fcStep word ≠ 0) ∧
    (let u : Tile := 0
     let portB : Bool := false
     let word : Word := 0
     let stopOk : Bool := false
     let s := State.reset
     let s := s.putAt (if portB then Reg.FC_PORT_CTRL.EN_B else Reg.FC_PORT_CTRL.EN_A) (u) (0) (1)
     s.on (if portB then Reg.FC_PORT_CTRL.EN_B else Reg.FC_PORT_CTRL.EN_A) u ∧
     (stopOk = false ∨ fcCrc word ≠ word.setWidth 6)) ∧
    (let u : Tile := 0
     let r : Rail := 0
     let s := State.reset
     let s := s.putAt Reg.FC_STATUS.PENDING (railIx u r) (0) (1)
     let s := s.putAt Reg.FC_STATUS.JUDGING (railIx u r) (0) (0)
     let s := s.putAt Hid.FCP_D (railIx u r) (0) (s.get Hid.TICK u)
     s.on Reg.FC_STATUS.PENDING (railIx u r) ∧
     s.on Reg.FC_STATUS.JUDGING (railIx u r) = false ∧
     ahead (s.get Hid.TICK u) (s.get Hid.FCP_D (railIx u r)) < 2 ^ 31) ∧
    (let u : Tile := 0
     let r : Rail := 0
     let s := State.reset
     let s := s.putAt Reg.FC_STATUS.PENDING (railIx u r) (0) (1)
     let s := s.putAt Hid.FCP_CFG (railIx u r) (0) (4)
     let s := s.putAt Hid.FCP_STEP (railIx u r) (0) (5)
     let s := s.putAt Hid.FCP_STARTED (railIx u r) (0) (0)
     let s := s.putAt Hid.FCP_CINCHED (railIx u r) (0) (0)
     let s := s.putAt Hid.TICK (u) (0) (77)
     let s := s.putAt Hid.FCP_D (railIx u r) (0) (77)
     let s := s.putAt Hid.FCP_A (railIx u r) (0) (77)
     let s := s.over (List.range 6) (fun s p => (((s.put Reg.PH_CFG.RAIL (u.val*24+p) r).put Reg.PH_STATE.STATE (u.val*24+p) 3)))
     s.on Reg.FC_STATUS.PENDING (railIx u r) ∧
     fcFire (s.get Hid.FCP_CFG (railIx u r)) ∧
     (0 : Int) < s.getI Hid.FCP_STEP (railIx u r) ∧
     s.on Hid.FCP_STARTED (railIx u r) = false ∧
     s.on Hid.FCP_CINCHED (railIx u r) = false ∧
     tickReached (if (s.get Hid.FCP_D (railIx u r) + 2 ^ 32 - s.get Hid.FCP_A (railIx u r)) % 2 ^ 32 < s.get Hid.FCP_CFG (railIx u r) / 256 % 256 then s.get Hid.FCP_A (railIx u r) else s.get Hid.FCP_D (railIx u r) + 2 ^ 32 - s.get Hid.FCP_CFG (railIx u r) / 256 % 256) (s.get Hid.TICK u)) := by decide +kernel

/-- States and operands that meet the hypotheses of ForecastPort. -/
theorem wit_forecastPort_2 :
    (let p : Phase := 0
     let s := State.reset
     let s := s.putAt Hid.MID_TICK (p) (0) (0)
     let s := s.putAt Hid.FPULSE (p) (0) (1)
     let s := s.putAt Hid.FP_S (p) (0) (0)
     let s := s.putAt Hid.FPULSE_AT (p) (0) (0)
     let s := s.putAt Hid.TICK (tileOf p) (0) (0)
     let s := s.putAt Hid.C_FIRE (railIx (tileOf p) (s.railOf p)) (0) (0)
     let s := s.putAt Reg.PH_STATE.STATE (p) (0) (3)
     let s := s.putAt Reg.DIAG_RESULT.BUSY (tileOf p) (0) (0)
     s.get Hid.FPULSE p % 2 = 1 ∧
     tickReached (s.get Hid.FP_S p + s.get Hid.FPULSE_AT p / 256) (s.get Hid.TICK (tileOf p)) ∧
     s.on Hid.C_FIRE (railIx (tileOf p) (s.railOf p)) = false ∧
     s.on Hid.MID_TICK p = false ∧
     s.ph p = Ph.active ∧
     s.underDiag p = false) ∧
    (let p : Phase := 0
     let s := State.reset
     let s := s.putAt Hid.FPULSE (p) (0) (2)
     let s := s.putAt Hid.FIRED (p) (0) (1)
     let s := s.putAt Hid.MID_BUSY (p) (0) (0)
     let s := s.putAt Hid.FP_END (p) (0) (0)
     let s := s.putAt Hid.TICK (tileOf p) (0) (0)
     2 ≤ s.get Hid.FPULSE p ∧
     tickReached (s.get Hid.FP_END p) (s.get Hid.TICK (tileOf p)) ∧
     s.on Hid.FIRED p ∧
     s.on Hid.MID_BUSY p = false) ∧
    (let u : Tile := 0
     let r : Rail := 0
     let s := State.reset
     let s := s.putAt Reg.FC_STATUS.PENDING (railIx u r) (0) (1)
     let s := s.putAt Reg.FC_STATUS.JUDGING (railIx u r) (0) (1)
     let s := s.putAt Hid.FCP_D (railIx u r) (0) (10)
     let s := s.putAt Hid.FCP_JUDGE (railIx u r) (0) (5)
     let s := s.putAt Hid.TICK (u) (0) (15)
     let s := s.putAt Hid.FCP_STEP (railIx u r) (0) (0)
     s.on Reg.FC_STATUS.PENDING (railIx u r) ∧
     s.on Reg.FC_STATUS.JUDGING (railIx u r) ∧
     tickReached (s.get Hid.FCP_D (railIx u r) + max 1 (s.get Hid.FCP_JUDGE (railIx u r))) (s.get Hid.TICK u) ∧
     fcMet (s.isum u r - s.getI Hid.FCP_ISUM (railIx u r)) (s.getI Hid.FCP_STEP (railIx u r))) ∧
    (let u : Tile := 0
     let r : Rail := 0
     let s := State.reset
     let s := s.putAt Reg.FC_STATUS.PENDING (railIx u r) (0) (1)
     let s := s.putAt Reg.FC_STATUS.JUDGING (railIx u r) (0) (1)
     let s := s.putAt Hid.FCP_D (railIx u r) (0) (10)
     let s := s.putAt Hid.FCP_JUDGE (railIx u r) (0) (5)
     let s := s.putAt Hid.TICK (u) (0) (15)
     let s := s.putAt Hid.FCP_STEP (railIx u r) (0) (40)
     let s := s.putAt Hid.FCP_ISUM (railIx u r) (0) (2 ^ 31 - 1)
     s.on Reg.FC_STATUS.PENDING (railIx u r) ∧
     s.on Reg.FC_STATUS.JUDGING (railIx u r) ∧
     tickReached (s.get Hid.FCP_D (railIx u r) + max 1 (s.get Hid.FCP_JUDGE (railIx u r))) (s.get Hid.TICK u) ∧
     fcMet (s.isum u r - s.getI Hid.FCP_ISUM (railIx u r)) (s.getI Hid.FCP_STEP (railIx u r)) = false) := by decide +kernel

/-- States and operands that meet the hypotheses of SliceCalibrationAndDiagnosis. -/
theorem wit_sliceCalibrationAndDiagnosis_1 :
    (let u : Tile := 0
     let s := State.reset
     let s := s.over (List.range 48) (fun s r => s.put Reg.RAIL_SUP_STATUS.RSTATE (s.leadIx r) 0)
     s.idleChannels u ≠ 0) ∧
    (let u : Tile := 0
     let ch : Fin 12 := 0
     let s := State.reset
     let s := s.putAt Hid.SKEW_TODO (u) (0) (2 ^ ch.val)
     s.get Hid.SKEW_TODO u = 2 ^ ch.val ∧
     s.get Hid.TSD_RAILS u = 0 ∧
     s.accepted (regCmd Reg.SNS_CTRL.SKEW_CAL u) = false ∧
     (∀ r : Rail, s.enStep r ≠ 3)) ∧
    (let u : Tile := 0
     let ch : Fin 12 := 0
     let s := State.reset
     let s := s.putAt Hid.SKEW_TODO (u) (0) (2 ^ ch.val)
     let s := s.acceptRun .sc Reg.SNS_CTRL.SKEW_CAL u noTarget
     s.get Hid.SKEW_TODO u = 2 ^ ch.val ∧
     s.get Hid.TSD_RAILS u = 0 ∧
     s.accepted (regCmd Reg.SNS_CTRL.SKEW_CAL u) ∧
     (∀ r : Rail, s.enStep r ≠ 3)) ∧
    (let u : Tile := 0
     let ch : Fin 12 := 0
     let s := State.reset
     let s := s.putAt Hid.SKEW_TODO (u) (0) (4095)
     s.bit Hid.SKEW_TODO u ch ∧
     s.get Hid.SKEW_TODO u ≠ 2 ^ ch.val) := by decide +kernel

/-- States and operands that meet the hypotheses of SliceCalibrationAndDiagnosis. -/
theorem wit_sliceCalibrationAndDiagnosis_2 :
    (let u : Tile := 0
     let ch : Fin 12 := 0
     let s := State.reset
     let s := s.putAt Hid.SKEW_TODO (u) (0) (4095)
     s.bit Hid.SKEW_TODO u ch) ∧
    (let u : Tile := 0
     let s := State.reset
     let s := s.putAt Reg.SNS_CTRL.ROT_EN (u) (0) (1)
     let s := s.putAt Reg.SNS_STATUS.SPARE_FIXED (u) (0) (0)
     let s := s.putAt Reg.SNS_STATUS.SPARE_OUT (u) (0) (0)
     let s := s.putAt Hid.ROT_PHASE (u) (0) (0)
     s.rotates u ∧
     s.get Hid.ROT_PHASE u = 0 ∧
     s.get Hid.ROT_NEXT u < 32 ∧
     s.sliceWorks u (s.get Hid.ROT_NEXT u)) ∧
    (let u : Tile := 0
     let s := State.reset
     let s := s.putAt Reg.SNS_CTRL.ROT_EN (u) (0) (1)
     let s := s.putAt Reg.SNS_STATUS.SPARE_FIXED (u) (0) (0)
     let s := s.putAt Reg.SNS_STATUS.SPARE_OUT (u) (0) (0)
     let s := s.putAt Hid.ROT_NEXT (u) (0) (32)
     let s := s.putAt Hid.ROT_PHASE (u) (0) (0)
     s.rotates u ∧
     s.get Hid.ROT_PHASE u = 0 ∧
     32 ≤ s.get Hid.ROT_NEXT u) ∧
    (let u : Tile := 0
     let s := State.reset
     let s := s.putAt Hid.ROT_PHASE (u) (0) (1)
     let s := s.putAt Hid.DIFF_N (u) (0) (16)
     let s := s.putAt Hid.DIFF_SUM (u) (0) (32)
     16 ≤ s.get Hid.DIFF_N u ∧
     s.get Hid.ROT_PHASE u = 1 ∧
     s.get Hid.DIFF_SUM u ≤ 32) := by decide +kernel

/-- States and operands that meet the hypotheses of SliceCalibrationAndDiagnosis. -/
theorem wit_sliceCalibrationAndDiagnosis_3 :
    (let u : Tile := 0
     let s := State.reset
     let s := s.putAt Hid.ROT_PHASE (u) (0) (1)
     let s := s.putAt Hid.DIFF_N (u) (0) (16)
     let s := s.putAt Hid.DIFF_SUM (u) (0) (33)
     16 ≤ s.get Hid.DIFF_N u ∧
     s.get Hid.ROT_PHASE u = 1 ∧
     32 < s.get Hid.DIFF_SUM u) ∧
    (let u : Tile := 0
     let s := State.reset
     let s := s.putAt Hid.ROT_PHASE (u) (0) (3)
     let s := s.putAt Reg.SNS_STATUS.SPARE_FIXED (u) (0) (0)
     let s := s.putAt Reg.SNS_STATUS.SPARE_OUT (u) (0) (0)
     let s := s.putAt Reg.SNS_STATUS.SPARE_POS (u) (0) (5)
     let s := s.putAt Hid.DIFF_N (u) (0) (16)
     let s := s.putAt Hid.DIFF_SUM (u) (0) (33)
     16 ≤ s.get Hid.DIFF_N u ∧
     s.get Hid.ROT_PHASE u = 3 ∧
     32 < s.get Hid.DIFF_SUM u ∧
     s.on Reg.SNS_STATUS.SPARE_FIXED u = false ∧
     s.on Reg.SNS_STATUS.SPARE_OUT u = false) ∧
    (let u : Tile := 0
     let p : Fin 32 := 0
     let ofs : Int := -3
     let gain : Int := 7
     let s := State.reset
     let s := s.putAt Reg.SNS_STATUS.SPARE_FIXED (u) (0) (0)
     let s := s.putAt Reg.SNS_STATUS.SPARE_OUT (u) (0) (0)
     let s := s.putAt Hid.ROT_PHASE (u) (0) (2)
     let s := s.putAt Reg.SNS_STATUS.SPARE_POS (u) (0) (p)
     s.noSpare u = false ∧
     s.get Hid.ROT_PHASE u = 2 ∧
     s.get Reg.SNS_STATUS.SPARE_POS u = p ∧
     ofs.natAbs ≤ 40 ∧
     gain.natAbs * 100 ≤ 3 * 32768) ∧
    (let u : Tile := 0
     let p : Fin 32 := 0
     let ofs : Int := 41
     let gain : Int := 0
     let s := State.reset
     let s := s.putAt Reg.SNS_STATUS.SPARE_FIXED (u) (0) (0)
     let s := s.putAt Reg.SNS_STATUS.SPARE_OUT (u) (0) (0)
     let s := s.putAt Hid.ROT_PHASE (u) (0) (2)
     let s := s.putAt Reg.SNS_STATUS.SPARE_POS (u) (0) (p)
     s.noSpare u = false ∧
     s.get Hid.ROT_PHASE u = 2 ∧
     s.get Reg.SNS_STATUS.SPARE_POS u = p ∧
     (40 < ofs.natAbs ∨ 3 * 32768 < gain.natAbs * 100)) := by decide +kernel

/-- States and operands that meet the hypotheses of SliceCalibrationAndDiagnosis. -/
theorem wit_sliceCalibrationAndDiagnosis_4 :
    (let u : Tile := 0
     let trims : List (Int × Int) := ((List.range 32).map fun (k : Nat) => (Int.ofNat k - 9, 5))
     let s := State.reset
     let s := s.putAt Reg.SNS_STATUS.SPARE_FIXED (u) (0) (0)
     let s := s.putAt Reg.SNS_STATUS.SPARE_OUT (u) (0) (0)
     let s := s.putAt Hid.ROT_PHASE (u) (0) (4)
     s.noSpare u = false ∧
     s.get Hid.ROT_PHASE u = 4 ∧
     trims.length = 32 ∧
     (∀ x ∈ trims, trimsOk x.1 x.2 = true)) ∧
    (let u : Tile := 0
     let trims : List (Int × Int) := [(41, 0)]
     let s := State.reset
     let s := s.putAt Reg.SNS_STATUS.SPARE_FIXED (u) (0) (0)
     let s := s.putAt Reg.SNS_STATUS.SPARE_OUT (u) (0) (0)
     let s := s.putAt Hid.ROT_PHASE (u) (0) (4)
     s.noSpare u = false ∧
     s.get Hid.ROT_PHASE u = 4 ∧
     (∃ x ∈ trims, trimsOk x.1 x.2 = false)) ∧
    (let u : Tile := 0
     let s := State.reset
     let s := s.putAt Reg.DIAG_RESULT.BUSY (u) (0) (0)
     let s := s.putAt Reg.DIAG_CTRL.KIND (u) (0) (1)
     let s := s.putAt Reg.DIAG_CTRL.TARGET (u) (0) (2)
     let s := s.putAt Reg.PH_STATE.STATE (u.val * 24 + 2) (0) (Ph.off)
     s.on Reg.DIAG_RESULT.BUSY u = false ∧
     s.get Reg.DIAG_CTRL.KIND u = 1 ∧
     s.get Reg.DIAG_CTRL.TARGET u < 24 ∧
     s.ph (u.val * 24 + s.get Reg.DIAG_CTRL.TARGET u) = Ph.off) ∧
    (let u : Tile := 0
     let s := State.reset
     let s := s.putAt Reg.DIAG_RESULT.BUSY (u) (0) (0)
     let s := s.putAt Reg.DIAG_CTRL.KIND (u) (0) (0)
     let s := s.putAt Reg.DIAG_CTRL.TARGET (u) (0) (2)
     s.on Reg.DIAG_RESULT.BUSY u = false ∧
     s.get Reg.DIAG_CTRL.KIND u = 0 ∧
     s.get Reg.DIAG_CTRL.TARGET u < 12 ∧
     (∀ r ∈ s.railsOfChan u (s.get Reg.DIAG_CTRL.TARGET u), s.rs r = Rs.off)) := by decide +kernel

/-- States and operands that meet the hypotheses of SliceCalibrationAndDiagnosis. -/
theorem wit_sliceCalibrationAndDiagnosis_5 :
    (let u : Tile := 0
     let s := State.reset
     let s := s.putAt Reg.DIAG_RESULT.BUSY (u) (0) (1)
     s.on Reg.DIAG_RESULT.BUSY u) ∧
    (let u : Tile := 0
     let s := State.reset
     let s := s.putAt Reg.DIAG_RESULT.BUSY (u) (0) (1)
     let s := s.putAt Hid.DIAG_KIND (u) (0) (1)
     let s := s.putAt Hid.TICK (u) (0) (2000)
     let s := s.putAt Hid.DG_TICK (u) (0) (0)
     let s := s.over (List.range 4) (fun s k => (s.putAt Hid.DG_N u k 1).putAt Hid.DG_SUM u k (2048 + 10 * k))
     s.diagRipe u) ∧
    (let u : Tile := 0
     let s := State.reset
     let s := s.putAt Hid.SEQ_STEP (0) (0) (0)
     let s := s.putAt Hid.TSD_QUEUE (0) (0) (0)
     let s := s.over (List.range 4) (fun s k => s.put Hid.AK_STEP k 0)
     let s := s.over (List.range 48) (fun s k => s.putAt Hid.EN_STAGE 0 k 0)
     let s := s.putAt Reg.DIAG_RESULT.BUSY (u) (0) (1)
     let s := s.putAt Hid.DIAG_KIND (u) (0) (1)
     let s := s.putAt Hid.TICK (u) (0) (2000)
     let s := s.putAt Hid.DG_TICK (u) (0) (0)
     let s := s.over (List.range 4) (fun s k => (s.putAt Hid.DG_N u k 1).putAt Hid.DG_SUM u k (2048 + 10 * k))
     s.diagRipe u ∧
     s.quiet ∧
     (∀ r : Rail, s.enStep r = 0)) := by decide +kernel

/-- States and operands that meet the hypotheses of ConversionsTelemetryEnergy. -/
theorem wit_conversionsTelemetryEnergy_1 :
    (let u : Tile := 0
     let s := State.reset
     let s := s.putAt Reg.DIAG_RESULT.BUSY (u) (0) (1)
     s.on Reg.DIAG_RESULT.BUSY u) ∧
    (let u : Tile := 0
     let s := State.reset
     let s := s.putAt Reg.DIAG_RESULT.BUSY (u) (0) (0)
     s.on Reg.DIAG_RESULT.BUSY u = false) ∧
    (let m : Mgr := 0
     let s := State.reset
     let s := s.putAt Hid.HK_POS (m) (0) (3)
     s.get Hid.HK_POS m < 8) ∧
    (let m : Mgr := 0
     let s := State.reset
     let s := s.putAt Reg.HK_CFG.SH_EN (0) (0) (255)
     let s := s.putAt Hid.HK_POS (m) (0) (9)
     8 ≤ s.get Hid.HK_POS m ∧
     s.get Hid.HK_POS m < 16 ∧
     s.bit Reg.HK_CFG.SH_EN 0 (s.get Hid.HK_POS m - 8)) := by decide +kernel

/-- States and operands that meet the hypotheses of ConversionsTelemetryEnergy. -/
theorem wit_conversionsTelemetryEnergy_2 :
    (let g : Group := 0
     let s := State.reset
     let s := s.putAt Hid.VDIS_AT (s.act) (g) (1)
     let s := s.putAt Hid.BEAT (s.act) (0) (500)
     s.heldFor Hid.VDIS_AT s.act g 100) ∧
    (let u : Tile := 0
     let r : Rail := 0
     let s := State.reset
     let s := s.putAt Hid.TLM_BAD (railIx u r) (0) (0)
     let s := s.putAt Reg.RAIL_TLM_CFG.TLM_WIN (railIx u r) (0) (0)
     let s := s.putAt Hid.TLM_N (railIx u r) (0) (16)
     let s := s.putAt Hid.TICK (u) (0) (31)
     let s := s.putAt Reg.MIRR_STATUS.HALF (railIx u r) (0) (0)
     s.serves u r ∧
     s.windowWhole u (railIx u r)) ∧
    (let w : Who := .mc0
     let acc : EnergyAcc := .rail 0 0
     let s := State.reset
     let s := s.putAt Hid.E_STAGED (railIx 0 0) (whoIx w) (2 ^ 32 + 5)
     ((∃ u r, acc = EnergyAcc.rail u r ∧ 2 ^ 32 ≤ s.getAt Hid.E_STAGED (railIx u r) (whoIx w) ∧ s.getAt Hid.E_STAGED (railIx u r) (whoIx w) < 2 ^ 33))) ∧
    (let w : Who := .mc0
     let acc : EnergyAcc := .group 0 0
     let s := State.reset
     let s := s.putAt Hid.HK_E_STAGED (0) (whoIx w) (2 ^ 32 + 5)
     ((∃ m g, acc = EnergyAcc.group m g ∧ 2 ^ 32 ≤ s.getAt Hid.HK_E_STAGED m (6 * g.val + whoIx w) ∧ s.getAt Hid.HK_E_STAGED m (6 * g.val + whoIx w) < 2 ^ 33))) := by decide +kernel

/-- States and operands that meet the hypotheses of ConversionsTelemetryEnergy. -/
theorem wit_conversionsTelemetryEnergy_3 :
    (let w : Who := .mc0
     let acc : EnergyAcc := .rail 0 0
     let s := State.reset
     ((∃ u r, acc = EnergyAcc.rail u r ∧ s.getAt Hid.E_STAGED (railIx u r) (whoIx w) < 2 ^ 32))) ∧
    (let m : Mgr := 0
     let u : Tile := 0
     let g : Group := 0
     let s := State.reset
     let s := s.putAt Hid.PART_AT (m) (8 * u.val + g.val) (0)
     (s.getAt Hid.PART_AT m (8 * u.val + g.val) = 0 ∨ 100 < beatDiff (s.get Hid.BEAT m) (s.getAt Hid.PART_AT m (8 * u.val + g.val) - 1))) := by decide +kernel

/-- States and operands that meet the hypotheses of RailsOnAndOff. -/
theorem wit_railsOnAndOff_1 :
    (let r : Rail := 0
     let withOff : Bool := false
     let s := State.reset
     let s := s.putAt Reg.SEQ_STATUS.ACTIVE (0) (0) (0)
     let s := s.putAt Reg.DEV_STATE.STATE (0) (0) (4)
     let s := s.over (List.range 4) (fun s u => (s.put Hid.TILE_FAIL u 0).put Hid.BC_VERDICT u 1)
     let s := s.putAt Reg.RAIL_SUP_STATUS.RSTATE (s.leadIx r) (0) (0)
     let s := s.putAt Reg.RAIL_SUP_CFG.KIND (s.leadIx r) (0) (2)
     withOff = false ∧
     s.inSeq r = false ∧
     s.enableAllowed r ∧
     s.rs r = Rs.off ∧
     s.kindOf r = 2 ∧
     s.diagHolds r = false) ∧
    (let r : Rail := 0
     let withOff : Bool := false
     let s := State.reset
     let s := s.putAt Reg.SEQ_STATUS.ACTIVE (0) (0) (0)
     let s := s.putAt Reg.DEV_STATE.STATE (0) (0) (4)
     let s := s.over (List.range 4) (fun s u => (s.put Hid.TILE_FAIL u 0).put Hid.BC_VERDICT u 1)
     let s := s.putAt Reg.RAIL_SUP_STATUS.RSTATE (s.leadIx r) (0) (0)
     let s := s.putAt Reg.RAIL_SUP_CFG.KIND (s.leadIx r) (0) (1)
     let s := s.putAt Hid.RELOCK_STAGE (0) (0) (2)
     withOff = false ∧
     s.inSeq r = false ∧
     s.enableAllowed r ∧
     s.rs r = Rs.off ∧
     s.kindOf r = 1 ∧
     s.railReady r = false) ∧
    (let r : Rail := 0
     let withOff : Bool := false
     let s := State.reset
     let s := s.putAt Reg.SEQ_STATUS.ACTIVE (0) (0) (0)
     let s := s.putAt Reg.DEV_STATE.STATE (0) (0) (4)
     let s := s.over (List.range 4) (fun s u => (s.put Hid.TILE_FAIL u 0).put Hid.BC_VERDICT u 1)
     let s := s.putAt Reg.REIN_STATUS.ACTIVE (0) (0) (1)
     let s := s.putAt Reg.REIN_STATUS.ACTIVE (1) (0) (0)
     let s := s.putAt Hid.PRESENT (0) (0) (1)
     let s := s.putAt Reg.CLK_STATUS.ROOT_LOCK (0) (0) (1)
     let s := s.putAt Reg.CLK_STATUS.ROOT_LOCK (1) (0) (1)
     let s := s.putAt Hid.RELOCK_STAGE (0) (0) (0)
     let s := s.over (List.range 4) (fun s u => (s.put Reg.TILE_CLK_STATUS.REF_SRC u 0).put Reg.TILE_CLK_STATUS.SETTLING u 0)
     let s := s.putAt Reg.HPD_CLK_STATUS.REF_SRC (0) (0) (0)
     let s := s.putAt Reg.HPD_CLK_STATUS.SETTLING (0) (0) (0)
     let s := s.over (List.range 96) (fun s p => s.put Reg.PH_CFG.RAIL p 63)
     let s := s.putAt Reg.PH_CFG.RAIL (s.home r * 24) (0) (r)
     let s := s.putAt Reg.PH_PROT.ILIM_CEIL (s.home r * 24) (0) (9)
     let s := s.putAt Reg.ISO_STATE.ISO_DRIVE (0) (0) (0)
     let s := s.putAt Hid.LAW_BUSY (0) (r) (0)
     let s := s.putAt Reg.DIAG_RESULT.BUSY (s.home r) (0) (0)
     let s := s.putAt Reg.RAIL_SUP_STATUS.RSTATE (s.leadIx r) (0) (0)
     let s := s.putAt Reg.RAIL_SUP_CFG.KIND (s.leadIx r) (0) (1)
     withOff = false ∧
     s.inSeq r = false ∧
     s.enableAllowed r ∧
     s.rs r = Rs.off ∧
     s.kindOf r = 1 ∧
     s.railReady r ∧
     s.onAt Hid.LAW_BUSY 0 r = false ∧
     s.diagHolds r = false ∧
     s.enableFault r = none) ∧
    (let r : Rail := 0
     let withOff : Bool := false
     let s := State.reset
     let s := s.putAt Reg.SEQ_STATUS.ACTIVE (0) (0) (0)
     let s := s.putAt Reg.DEV_STATE.STATE (0) (0) (4)
     let s := s.over (List.range 4) (fun s u => (s.put Hid.TILE_FAIL u 0).put Hid.BC_VERDICT u 1)
     let s := s.putAt Reg.RAIL_SUP_STATUS.RSTATE (s.leadIx r) (0) (3)
     let s := s.putAt Reg.RAIL_SUP_CFG.KIND (s.leadIx r) (0) (2)
     withOff = false ∧
     s.inSeq r = false ∧
     s.enableAllowed r ∧
     (s.rs r = Rs.on ∨ s.rs r = Rs.ramping)) := by decide +kernel

/-- States and operands that meet the hypotheses of RailsOnAndOff. -/
theorem wit_railsOnAndOff_2 :
    (let r : Rail := 0
     let withOff : Bool := true
     let s := State.reset
     (withOff = true ∨ s.inSeq r)) ∧
    (let r : Rail := 0
     let withOn : Bool := false
     let s := State.reset
     let s := s.putAt Hid.SEQ_STEP (0) (0) (0)
     let s := s.putAt Hid.TSD_QUEUE (0) (0) (0)
     let s := s.over (List.range 4) (fun s k => s.put Hid.AK_STEP k 0)
     let s := s.putAt Reg.SEQ_STATUS.ACTIVE (0) (0) (0)
     let s := s.putAt Reg.RAIL_SUP_STATUS.RSTATE (s.leadIx r) (0) (3)
     let s := s.putAt Reg.RAIL_SUP_CFG.KIND (s.leadIx r) (0) (1)
     let s := s.putAt Hid.EN_STAGE (0) (r) (0)
     withOn = false ∧
     s.quiet ∧
     s.seqActive = false ∧
     s.rs r = Rs.on ∧
     s.enStep r = 0 ∧
     s.kindOf r = 1) ∧
    (let r : Rail := 0
     let withOn : Bool := false
     let s := State.reset
     let s := s.putAt Reg.RAIL_SUP_STATUS.RSTATE (s.leadIx r) (0) (0)
     withOn = false ∧
     s.inSeq r = false ∧
     (s.rs r = Rs.off ∨ s.stopping r)) ∧
    (let r : Rail := 0
     let withOn : Bool := false
     let s := State.reset
     let s := s.putAt Reg.SEQ_STATUS.ACTIVE (0) (0) (1)
     let s := s.putAt Reg.SEQ_STATUS.ACT_SEQ (0) (0) (0)
     let s := s.putAt Reg.SEQ_HDR.NSTG (0) (0) (1)
     let s := s.over (List.range 2) (fun s k => s.putAt (if k = 0 then Reg.SEQ_STG.RAILS_LO else Reg.SEQ_STG.RAILS_HI) 0 0 (2 ^ 32 - 1))
     let s := s.putAt Reg.RAIL_SUP_STATUS.RSTATE (s.leadIx r) (0) (3)
     let s := s.putAt Reg.RAIL_SUP_CFG.KIND (s.leadIx r) (0) (1)
     let s := s.putAt Hid.EN_STAGE (0) (r) (0)
     withOn = false ∧
     s.inSeq r ∧
     s.seqDown = false ∧
     (s.rs r = Rs.on ∨ s.rs r = Rs.ramping)) := by decide +kernel

/-- States and operands that meet the hypotheses of RailsOnAndOff. -/
theorem wit_railsOnAndOff_3 :
    (let r : Rail := 0
     let withOn : Bool := false
     let s := State.reset
     let s := s.putAt Reg.SEQ_STATUS.ACTIVE (0) (0) (0)
     let s := s.putAt Reg.RAIL_SUP_STATUS.RSTATE (s.leadIx r) (0) (3)
     let s := s.putAt Reg.RAIL_SUP_CFG.KIND (s.leadIx r) (0) (1)
     let s := s.putAt Hid.EN_STAGE (0) (r) (0)
     withOn = false ∧
     s.inSeq r = false ∧
     (s.rs r = Rs.on ∨ s.rs r = Rs.ramping)) ∧
    (let r : Rail := 0
     let s := State.reset
     let s := s.putAt Hid.SEQ_STEP (0) (0) (0)
     let s := s.putAt Hid.TSD_QUEUE (0) (0) (0)
     let s := s.over (List.range 4) (fun s k => s.put Hid.AK_STEP k 0)
     let s := s.putAt Reg.RAIL_SUP_STATUS.RSTATE (s.leadIx r) (0) (2)
     let s := s.putAt Hid.SP_DONE (s.leadIx r) (0) (1)
     let s := s.putAt Hid.EN_STAGE (0) (r) (5)
     let s := s.putAt Reg.RAIL_SUP_CFG.PG_ON_DLY (s.leadIx r) (0) (1)
     let s := s.putAt Hid.PG_GOOD_N (s.leadIx r) (0) (1000)
     s.rs r = Rs.ramping ∧
     (s.kindOf r = 2 ∨ s.on Hid.SP_DONE (s.leadIx r)) ∧
     s.enStep r = 5 ∧
     (max 1 (s.get Reg.RAIL_SUP_CFG.PG_ON_DLY (s.leadIx r))) * 1000 ≤ s.get Hid.PG_GOOD_N (s.leadIx r) ∧
     s.quiet) ∧
    (let r : Rail := 0
     let s := State.reset
     let s := s.putAt Reg.RAIL_SUP_STATUS.RSTATE (s.leadIx r) (0) (2)
     let s := s.putAt Hid.SP_DONE (s.leadIx r) (0) (1)
     let s := s.putAt Hid.EN_STAGE (0) (r) (5)
     let s := s.putAt Reg.RAIL_SUP_CFG.PG_ON_DLY (s.leadIx r) (0) (1)
     let s := s.putAt Hid.PG_GOOD_N (s.leadIx r) (0) (1000)
     (s.rs r = Rs.ramping ∨ s.rs r = Rs.on) ∧
     (s.kindOf r = 2 ∨ s.on Hid.SP_DONE (s.leadIx r)) ∧
     (max 1 (s.get Reg.RAIL_SUP_CFG.PG_ON_DLY (s.leadIx r))) * 1000 ≤ s.get Hid.PG_GOOD_N (s.leadIx r)) ∧
    (let r : Rail := 0
     let s := State.reset
     let s := s.putAt Reg.SEQ_STATUS.ACTIVE (0) (0) (0)
     let s := s.putAt Reg.RAIL_SUP_STATUS.PG (s.leadIx r) (0) (1)
     let s := s.putAt Reg.RAIL_SUP_CFG.PG_OFF_DLY (s.leadIx r) (0) (1)
     let s := s.putAt Hid.PG_FAIL_N (s.leadIx r) (0) (100)
     s.on Reg.RAIL_SUP_STATUS.PG (s.leadIx r) ∧
     (max 1 (s.get Reg.RAIL_SUP_CFG.PG_OFF_DLY (s.leadIx r))) * 100 ≤ s.get Hid.PG_FAIL_N (s.leadIx r) ∧
     (s.seqActive = false ∨ s.seqDown ∨ s.bit Hid.SEQ_DONE_ST 0 r = false)) := by decide +kernel

/-- States and operands that meet the hypotheses of RailsOnAndOff. -/
theorem wit_railsOnAndOff_4 :
    (let r : Rail := 0
     let s := State.reset
     let s := s.putAt Reg.SEQ_STATUS.ACTIVE (0) (0) (1)
     let s := s.putAt Reg.SEQ_STATUS.ACT_SEQ (0) (0) (0)
     let s := s.putAt Reg.SEQ_HDR.DIR (0) (0) (0)
     let s := s.putAt Hid.SEQ_DONE_ST (0) (0) (2 ^ 48 - 1)
     let s := s.putAt Reg.RAIL_SUP_STATUS.PG (s.leadIx r) (0) (1)
     let s := s.putAt Reg.RAIL_SUP_CFG.PG_OFF_DLY (s.leadIx r) (0) (1)
     let s := s.putAt Hid.PG_FAIL_N (s.leadIx r) (0) (100)
     s.on Reg.RAIL_SUP_STATUS.PG (s.leadIx r) ∧
     (max 1 (s.get Reg.RAIL_SUP_CFG.PG_OFF_DLY (s.leadIx r))) * 100 ≤ s.get Hid.PG_FAIL_N (s.leadIx r) ∧
     s.seqActive ∧
     s.seqDown = false ∧
     s.bit Hid.SEQ_DONE_ST 0 r) ∧
    (let r : Rail := 0
     let s := State.reset
     let s := s.putAt Hid.SEQ_STEP (0) (0) (0)
     let s := s.putAt Hid.TSD_QUEUE (0) (0) (0)
     let s := s.over (List.range 4) (fun s k => s.put Hid.AK_STEP k 0)
     let s := s.putAt Reg.RAIL_SUP_STATUS.RSTATE (s.leadIx r) (0) (2)
     let s := s.putAt Hid.EN_STAGE (0) (r) (5)
     let s := s.putAt Hid.SP_DONE (s.leadIx r) (0) (1)
     let s := s.putAt Hid.EN_BY_SEQ (0) (r) (0)
     let s := s.putAt Reg.RAIL_OFF_CFG.TMO (s.leadIx r) (0) (1)
     let s := s.putAt Reg.REIN_STATUS.ACTIVE (0) (0) (1)
     let s := s.putAt Reg.REIN_STATUS.ACTIVE (1) (0) (0)
     let s := s.putAt Hid.PRESENT (0) (0) (1)
     let s := s.putAt Hid.BEAT (0) (0) (200)
     let s := s.putAt Hid.PGW_BEAT (0) (r) (0)
     s.enStep r = 5 ∧
     s.rs r = Rs.ramping ∧
     (s.kindOf r = 2 ∨ s.on Hid.SP_DONE (s.leadIx r)) ∧
     s.stageBounds r = false ∧
     100 * max 1 (s.offTmo r) ≤ beatDiff s.beat (s.getAt Hid.PGW_BEAT 0 r) ∧
     s.quiet) ∧
    (let r : Rail := 0
     let s := State.reset
     let s := s.putAt Reg.RAIL_SUP_STATUS.RSTATE (s.leadIx r) (0) (2)
     let s := s.putAt Hid.EN_STAGE (0) (r) (5)
     let s := s.putAt Hid.SP_DONE (s.leadIx r) (0) (1)
     let s := s.putAt Hid.EN_BY_SEQ (0) (r) (0)
     let s := s.putAt Reg.RAIL_OFF_CFG.TMO (s.leadIx r) (0) (1)
     let s := s.putAt Reg.REIN_STATUS.ACTIVE (0) (0) (1)
     let s := s.putAt Reg.REIN_STATUS.ACTIVE (1) (0) (0)
     let s := s.putAt Hid.PRESENT (0) (0) (1)
     let s := s.putAt Hid.BEAT (0) (0) (200)
     let s := s.putAt Hid.PGW_BEAT (0) (r) (0)
     s.enStep r = 5 ∧
     s.rs r = Rs.ramping ∧
     (s.kindOf r = 2 ∨ s.on Hid.SP_DONE (s.leadIx r)) ∧
     s.stageBounds r = false ∧
     100 * max 1 (s.offTmo r) ≤ beatDiff s.beat (s.getAt Hid.PGW_BEAT 0 r)) ∧
    (let r : Rail := 0
     let s := State.reset
     let s := s.putAt Hid.SEQ_STEP (0) (0) (0)
     let s := s.putAt Hid.TSD_QUEUE (0) (0) (0)
     let s := s.over (List.range 4) (fun s k => s.put Hid.AK_STEP k 0)
     let s := s.putAt Reg.RAIL_SUP_STATUS.RSTATE (s.leadIx r) (0) (4)
     let s := s.putAt Reg.RAIL_OFF_CFG.OFF_MIN (s.leadIx r) (0) (9)
     let s := s.over (List.range 16) (fun s k => s.putAt Hid.VS_HIST (s.leadIx r) k 1)
     s.stopping r ∧
     s.belowOff r ∧
     s.quiet) := by decide +kernel

/-- States and operands that meet the hypotheses of RailsOnAndOff. -/
theorem wit_railsOnAndOff_5 :
    (let r : Rail := 0
     let s := State.reset
     let s := s.putAt Reg.RAIL_SUP_STATUS.RSTATE (s.leadIx r) (0) (4)
     let s := s.putAt Reg.RAIL_OFF_CFG.OFF_MIN (s.leadIx r) (0) (9)
     let s := s.over (List.range 16) (fun s k => s.putAt Hid.VS_HIST (s.leadIx r) k 1)
     s.stopping r ∧
     s.belowOff r) ∧
    (let r : Rail := 0
     let s := State.reset
     let s := s.putAt Reg.RAIL_SUP_STATUS.RSTATE (s.leadIx r) (0) (4)
     let s := s.putAt Hid.OFF_T1 (0) (r) (0)
     let s := s.putAt Hid.OFF_TMO (0) (r) (1)
     let s := s.putAt Reg.REIN_STATUS.ACTIVE (0) (0) (1)
     let s := s.putAt Reg.REIN_STATUS.ACTIVE (1) (0) (0)
     let s := s.putAt Hid.PRESENT (0) (0) (1)
     let s := s.putAt Hid.OFF_BEAT (0) (r) (0)
     let s := s.putAt Hid.BEAT (0) (0) (300)
     s.stopping r ∧
     s.onAt Hid.OFF_T1 0 r = false ∧
     100 * s.getAt Hid.OFF_TMO 0 r ≤ s.offElapsed r) ∧
    (let r : Rail := 0
     let s := State.reset
     let s := s.putAt Hid.SEQ_STEP (0) (0) (0)
     let s := s.putAt Hid.TSD_QUEUE (0) (0) (0)
     let s := s.over (List.range 4) (fun s k => s.put Hid.AK_STEP k 0)
     let s := s.putAt Reg.RAIL_SUP_STATUS.RSTATE (s.leadIx r) (0) (5)
     let s := s.putAt Hid.OFF_T1 (0) (r) (1)
     let s := s.putAt Hid.OFF_TMO (0) (r) (1)
     let s := s.putAt Reg.REIN_STATUS.ACTIVE (0) (0) (1)
     let s := s.putAt Reg.REIN_STATUS.ACTIVE (1) (0) (0)
     let s := s.putAt Hid.PRESENT (0) (0) (1)
     let s := s.putAt Hid.OFF_BEAT (0) (r) (0)
     let s := s.putAt Hid.BEAT (0) (0) (300)
     s.stopping r ∧
     s.onAt Hid.OFF_T1 0 r ∧
     200 * s.getAt Hid.OFF_TMO 0 r ≤ s.offElapsed r ∧
     s.quiet) ∧
    (let r : Rail := 0
     let s := State.reset
     let s := s.putAt Reg.RAIL_SUP_STATUS.RSTATE (s.leadIx r) (0) (5)
     let s := s.putAt Hid.OFF_T1 (0) (r) (1)
     let s := s.putAt Hid.OFF_TMO (0) (r) (1)
     let s := s.putAt Reg.REIN_STATUS.ACTIVE (0) (0) (1)
     let s := s.putAt Reg.REIN_STATUS.ACTIVE (1) (0) (0)
     let s := s.putAt Hid.PRESENT (0) (0) (1)
     let s := s.putAt Hid.OFF_BEAT (0) (r) (0)
     let s := s.putAt Hid.BEAT (0) (0) (300)
     s.stopping r ∧
     s.onAt Hid.OFF_T1 0 r ∧
     200 * s.getAt Hid.OFF_TMO 0 r ≤ s.offElapsed r) := by decide +kernel

/-- States and operands that meet the hypotheses of SequencesAndSnapshots. -/
theorem wit_sequencesAndSnapshots_1 :
    (let q : Fin 8 := 0
     let s := State.reset
     let s := s.putAt Reg.SEQ_STATUS.ACTIVE (0) (0) (0)
     let s := s.putAt Reg.DEV_STATE.STATE (0) (0) (4)
     let s := s.putAt Reg.SEQ_HDR.NSTG (0) (q) (2)
     s.seqActive = false ∧
     (s.onAt Reg.SEQ_HDR.DIR 0 q ∨ s.dev = Dev.run) ∧
     s.getAt Reg.SEQ_HDR.NSTG 0 q ≠ 0) ∧
    (let q : Fin 8 := 0
     let s := State.reset
     let s := s.putAt Reg.SEQ_STATUS.ACTIVE (0) (0) (1)
     s.seqActive ∧
     s.onAt Reg.SEQ_HDR.DIR 0 q = false) ∧
    (let tile : Option Tile := none
     let s := State.reset
     let s := s.putAt Reg.SEQ_STATUS.ACTIVE (0) (0) (1)
     let s := s.putAt Reg.SEQ_STATUS.ACT_SEQ (0) (0) (0)
     let s := s.putAt Hid.SEQ_NEXT (0) (0) (0)
     let s := s.putAt Hid.SEQ_STEP (0) (0) (1)
     let s := s.putAt Reg.SEQ_STG.DELAY (0) (0) (0)
     let s := s.putAt Hid.TSD_QUEUE (0) (0) (0)
     let s := s.over (List.range 4) (fun s k => s.put Hid.AK_STEP k 0)
     let s := s.putAt Reg.SEQ_STG.LANE_EN (0) (0) (1)
     let s := s.putAt Reg.SEQ_STG.RAILS_LO (0) (0) (7)
     let s := s.putAt Reg.DEV_STATE.STATE (0) (0) (4)
     let s := s.over (List.range 4) (fun s u => (s.put Hid.TILE_FAIL u 0).put Hid.BC_VERDICT u 1)
     let s := s.over (List.range 48) (fun s r => s.put Reg.RAIL_SUP_CFG.KIND (s.leadIx r) 2)
     tile = none ∧
     s.get Hid.SEQ_STEP 0 = SeqStep.delay ∧
     s.stageDelay s.seqNo (s.get Hid.SEQ_NEXT 0) ≤ beatDiff s.beat (s.get Hid.SEQ_BEAT 0) ∧
     s.seqDown = false ∧
     s.onAt Reg.SEQ_STG.LANE_EN 0 (stgIx s.seqNo (s.get Hid.SEQ_NEXT 0)) ∧
     s.get Hid.SEQ_NEXT 0 < 16 ∧
     s.get Hid.TSD_QUEUE 0 = 0 ∧
     s.get Hid.AK_STEP 0 = 0 ∧ s.get Hid.AK_STEP 1 = 0 ∧ s.get Hid.AK_STEP 2 = 0 ∧ s.get Hid.AK_STEP 3 = 0) ∧
    (let tile : Option Tile := none
     let s := State.reset
     let s := s.putAt Reg.SEQ_STATUS.ACTIVE (0) (0) (1)
     let s := s.putAt Reg.SEQ_STATUS.ACT_SEQ (0) (0) (0)
     let s := s.putAt Hid.SEQ_NEXT (0) (0) (0)
     let s := s.putAt Hid.SEQ_STEP (0) (0) (1)
     let s := s.putAt Reg.SEQ_STG.DELAY (0) (0) (0)
     let s := s.putAt Reg.SEQ_HDR.DIR (0) (0) (1)
     let s := s.putAt Reg.SEQ_STG.RAILS_LO (0) (0) (7)
     let s := s.putAt Reg.RAIL_SUP_STATUS.RSTATE (s.leadIx 1) (0) (3)
     tile = none ∧
     s.get Hid.SEQ_STEP 0 = SeqStep.delay ∧
     s.stageDelay s.seqNo (s.get Hid.SEQ_NEXT 0) ≤ beatDiff s.beat (s.get Hid.SEQ_BEAT 0)) := by decide +kernel

/-- States and operands that meet the hypotheses of SequencesAndSnapshots. -/
theorem wit_sequencesAndSnapshots_2 :
    (let tile : Option Tile := (some 0)
     let s := State.reset
     let s := s.putAt Hid.AK_STEP (tile.getD 0) (0) (1)
     let s := s.putAt Hid.AK_SEQ (tile.getD 0) (0) (0)
     let s := s.putAt Reg.SEQ_STG.DELAY (0) (0) (0)
     let s := s.putAt Hid.AK_NEXT (tile.getD 0) (0) (0)
     let s := s.putAt Reg.SEQ_STG.RAILS_LO (0) (0) (1)
     let s := s.putAt Hid.HOME (0) (0) ((tile.getD 0))
     let s := s.putAt Reg.RAIL_SUP_STATUS.RSTATE (s.leadIx 0) (0) (3)
     let s := s.putAt Reg.MIRR_STATUS.PRIV (s.leadIx 0) (0) (0)
     tile ≠ none ∧
     s.get Hid.AK_STEP (tile.getD 0) = SeqStep.delay ∧
     100 * s.stageDelay (s.get Hid.AK_SEQ (tile.getD 0)) (s.get Hid.AK_NEXT (tile.getD 0)) ≤ (s.get Hid.TICK (tile.getD 0) + 2 ^ 32 - s.get Hid.AK_TICK (tile.getD 0)) % 2 ^ 32 ∧
     ((s.localRails (tile.getD 0)).any fun r => s.rs r = Rs.on)) ∧
    (let tile : Option Tile := (some 0)
     let s := State.reset
     let s := s.putAt Hid.AK_STEP (tile.getD 0) (0) (1)
     let s := s.putAt Hid.AK_SEQ (tile.getD 0) (0) (0)
     let s := s.putAt Reg.SEQ_STG.DELAY (0) (0) (0)
     let s := s.putAt Hid.AK_NEXT (tile.getD 0) (0) (0)
     let s := s.putAt Reg.SEQ_STG.RAILS_LO (0) (0) (1)
     let s := s.putAt Hid.HOME (0) (0) ((tile.getD 0))
     let s := s.putAt Reg.RAIL_SUP_STATUS.RSTATE (s.leadIx 0) (0) (3)
     let s := s.putAt Reg.MIRR_STATUS.PRIV (s.leadIx 0) (0) (0)
     tile ≠ none ∧
     s.get Hid.AK_STEP (tile.getD 0) = SeqStep.delay ∧
     100 * s.stageDelay (s.get Hid.AK_SEQ (tile.getD 0)) (s.get Hid.AK_NEXT (tile.getD 0)) ≤ (s.get Hid.TICK (tile.getD 0) + 2 ^ 32 - s.get Hid.AK_TICK (tile.getD 0)) % 2 ^ 32) ∧
    (let s := State.reset
     let s := s.putAt Reg.SEQ_STATUS.ACTIVE (0) (0) (1)
     let s := s.putAt Hid.SEQ_STEP (0) (0) (2)
     let s := s.putAt Reg.SEQ_STATUS.ACT_SEQ (0) (0) (0)
     let s := s.putAt Reg.SEQ_HDR.DIR (0) (0) (0)
     let s := s.putAt Reg.SEQ_HDR.ON_FAIL (0) (0) (0)
     let s := s.putAt Reg.SEQ_STG.TMO (0) (0) (1)
     let s := s.putAt Reg.SEQ_STATUS.STAGE (0) (0) (0)
     let s := s.putAt Hid.SEQ_BEAT (0) (0) (0)
     let s := s.putAt Reg.REIN_STATUS.ACTIVE (0) (0) (1)
     let s := s.putAt Reg.REIN_STATUS.ACTIVE (1) (0) (0)
     let s := s.putAt Hid.PRESENT (0) (0) (1)
     let s := s.putAt Hid.BEAT (0) (0) (100)
     s.get Hid.SEQ_STEP 0 = SeqStep.stage ∧
     s.seqDown = false ∧
     s.seqActive ∧
     s.onAt Reg.SEQ_HDR.ON_FAIL 0 s.seqNo = false ∧
     100 * max 1 (s.stageTmo s.seqNo (s.get Reg.SEQ_STATUS.STAGE 0)) ≤ beatDiff s.beat (s.get Hid.SEQ_BEAT 0)) ∧
    (let s := State.reset
     let s := s.putAt Reg.SEQ_STATUS.ACTIVE (0) (0) (1)
     let s := s.putAt Hid.SEQ_STEP (0) (0) (2)
     let s := s.putAt Reg.SEQ_STATUS.ACT_SEQ (0) (0) (0)
     let s := s.putAt Reg.SEQ_HDR.DIR (0) (0) (0)
     let s := s.putAt Reg.SEQ_HDR.ON_FAIL (0) (0) (1)
     let s := s.putAt Reg.SEQ_STG.TMO (0) (0) (1)
     let s := s.putAt Reg.SEQ_STATUS.STAGE (0) (0) (0)
     let s := s.putAt Hid.SEQ_BEAT (0) (0) (0)
     let s := s.putAt Reg.REIN_STATUS.ACTIVE (0) (0) (1)
     let s := s.putAt Reg.REIN_STATUS.ACTIVE (1) (0) (0)
     let s := s.putAt Hid.PRESENT (0) (0) (1)
     let s := s.putAt Hid.BEAT (0) (0) (100)
     let s := s.putAt Reg.SEQ_STG.RAILS_LO (0) (0) (1)
     let s := s.putAt Hid.SEQ_MINE (0) (0) (1)
     let s := s.putAt Reg.RAIL_SUP_STATUS.RSTATE (s.leadIx 0) (0) (3)
     s.get Hid.SEQ_STEP 0 = SeqStep.stage ∧
     s.seqDown = false ∧
     s.seqActive ∧
     s.onAt Reg.SEQ_HDR.ON_FAIL 0 s.seqNo ∧
     100 * max 1 (s.stageTmo s.seqNo (s.get Reg.SEQ_STATUS.STAGE 0)) ≤ beatDiff s.beat (s.get Hid.SEQ_BEAT 0) ∧
     (∃ k : Fin 16, ∃ r ∈ s.mineIn k.val, s.rs r = Rs.on)) := by decide +kernel

/-- States and operands that meet the hypotheses of SequencesAndSnapshots. -/
theorem wit_sequencesAndSnapshots_3 :
    (let s := State.reset
     let s := s.putAt Reg.REIN_STATUS.ACTIVE (0) (0) (1)
     let s := s.putAt Reg.REIN_STATUS.ACTIVE (1) (0) (0)
     let s := s.putAt Hid.PRESENT (0) (0) (1)
     let s := s.putAt Reg.SNAP_STATUS.BUSY (0) (0) (0)
     s.active.isSome ∧
     s.on Reg.SNAP_STATUS.BUSY 0 = false) ∧
    (let s := State.reset
     let s := s.putAt Reg.REIN_STATUS.ACTIVE (0) (0) (1)
     let s := s.putAt Reg.REIN_STATUS.ACTIVE (1) (0) (0)
     let s := s.putAt Hid.PRESENT (0) (0) (1)
     let s := s.putAt Reg.SNAP_STATUS.BUSY (0) (0) (1)
     s.active.isSome ∧
     s.on Reg.SNAP_STATUS.BUSY 0) ∧
    (let s := State.reset
     let s := s.putAt Hid.SNAP_STAGE (0) (0) (1)
     let s := s.putAt Reg.REIN_STATUS.ACTIVE (0) (0) (1)
     let s := s.putAt Reg.REIN_STATUS.ACTIVE (1) (0) (0)
     let s := s.putAt Hid.PRESENT (0) (0) (1)
     let s := s.putAt Hid.SNAP_T (0) (0) (100)
     let s := s.putAt Hid.BEAT (0) (0) (1)
     s.get Hid.SNAP_STAGE 0 = 1 ∧
     s.sinceSnap.isSome) ∧
    (let del : BitVec 7 := 127
     let s := State.reset
     let s := s.putAt Hid.SNAP_STAGE (0) (0) (2)
     let s := s.putAt Hid.PRESENT (1) (0) (1)
     s.get Hid.SNAP_STAGE 0 = 2 ∧
     (del = 127 ∨ 20000 ≤ s.sinceSnap.getD 0)) := by decide +kernel

/-- States and operands that meet the hypotheses of LaneMasterAndFaultWire. -/
theorem wit_laneMasterAndFaultWire_1 :
    (let bad : Bool := false
     let s := State.reset
     let s := s.putAt Reg.SQL_CFG.ROLE (0) (0) (1)
     let s := s.putAt Reg.SQL_STATUS.MASTER_CONFLICT (0) (0) (0)
     let s := s.putAt Hid.LN_LISTEN (0) (0) (1)
     let s := s.putAt Reg.REIN_STATUS.ACTIVE (0) (0) (1)
     let s := s.putAt Reg.REIN_STATUS.ACTIVE (1) (0) (0)
     let s := s.putAt Hid.PRESENT (0) (0) (1)
     let s := s.putAt Reg.CLK_STATUS.ROOT_LOCK (0) (0) (1)
     let s := s.putAt Reg.CLK_STATUS.ROOT_LOCK (1) (0) (1)
     let s := s.putAt Hid.RELOCK_STAGE (0) (0) (0)
     let s := s.over (List.range 4) (fun s u => (s.put Reg.TILE_CLK_STATUS.REF_SRC u 0).put Reg.TILE_CLK_STATUS.SETTLING u 0)
     let s := s.putAt Reg.HPD_CLK_STATUS.REF_SRC (0) (0) (0)
     let s := s.putAt Reg.HPD_CLK_STATUS.SETTLING (0) (0) (0)
     let s := s.putAt Hid.LN_GRANT (0) (0) (3)
     s.laneMaster ∧
     s.on Hid.LN_LISTEN 0 ∧
     s.beat % 10 = 0 ∧
     bad = false ∧
     s.clockReady [] ∧
     s.get Hid.LN_GRANT 0 ≠ 0) ∧
    (let bad : Bool := false
     let s := State.reset
     let s := s.putAt Reg.SQL_CFG.ROLE (0) (0) (1)
     let s := s.putAt Reg.SQL_STATUS.MASTER_CONFLICT (0) (0) (0)
     let s := s.putAt Hid.LN_LISTEN (0) (0) (1)
     let s := s.putAt Reg.REIN_STATUS.ACTIVE (0) (0) (1)
     let s := s.putAt Reg.REIN_STATUS.ACTIVE (1) (0) (0)
     let s := s.putAt Hid.PRESENT (0) (0) (1)
     let s := s.putAt Reg.CLK_STATUS.ROOT_LOCK (0) (0) (1)
     let s := s.putAt Reg.CLK_STATUS.ROOT_LOCK (1) (0) (1)
     let s := s.putAt Hid.RELOCK_STAGE (0) (0) (0)
     let s := s.over (List.range 4) (fun s u => (s.put Reg.TILE_CLK_STATUS.REF_SRC u 0).put Reg.TILE_CLK_STATUS.SETTLING u 0)
     let s := s.putAt Reg.HPD_CLK_STATUS.REF_SRC (0) (0) (0)
     let s := s.putAt Reg.HPD_CLK_STATUS.SETTLING (0) (0) (0)
     let s := s.putAt Hid.LN_HOST (0) (0) (1)
     let s := s.putAt Reg.SQL_TX_CTRL.DEST (0) (0) (4)
     s.laneMaster ∧
     s.on Hid.LN_LISTEN 0 ∧
     s.beat % 10 = 0 ∧
     (bad = false ∨ s.get Hid.LN_RB 0 = 0) ∧
     s.clockReady []) ∧
    (let bad : Bool := false
     let s := State.reset
     let s := s.putAt Reg.SQL_CFG.ROLE (0) (0) (1)
     let s := s.putAt Reg.SQL_STATUS.MASTER_CONFLICT (0) (0) (0)
     let s := s.putAt Hid.LN_LISTEN (0) (0) (1)
     let s := s.putAt Hid.RELOCK_STAGE (0) (0) (2)
     s.laneMaster ∧
     s.on Hid.LN_LISTEN 0 ∧
     s.beat % 10 = 0 ∧
     bad = false ∧
     s.clockReady [] = false) ∧
    (let bad : Bool := true
     let s := State.reset
     let s := s.putAt Reg.SQL_CFG.ROLE (0) (0) (1)
     let s := s.putAt Reg.SQL_STATUS.MASTER_CONFLICT (0) (0) (0)
     let s := s.putAt Hid.LN_LISTEN (0) (0) (1)
     let s := s.putAt Hid.LN_RB (0) (0) (2)
     s.laneMaster ∧
     s.on Hid.LN_LISTEN 0 ∧
     s.beat % 10 = 0 ∧
     bad = true ∧
     s.get Hid.LN_RB 0 = 2) := by decide +kernel

/-- States and operands that meet the hypotheses of LaneMasterAndFaultWire. -/
theorem wit_laneMasterAndFaultWire_2 :
    (let s := State.reset
     let s := s.putAt Reg.SQL_CFG.ROLE (0) (0) (2)
     s.laneWorker) ∧
    (let s := State.reset
     let s := s.putAt Reg.SQL_CFG.ROLE (0) (0) (1)
     let s := s.putAt Reg.REIN_STATUS.ACTIVE (0) (0) (1)
     let s := s.putAt Reg.REIN_STATUS.ACTIVE (1) (0) (0)
     let s := s.putAt Hid.PRESENT (0) (0) (1)
     let s := s.putAt Hid.BEAT (0) (0) (30)
     s.laneMaster ∧
     30 ≤ beatDiff s.beat (s.get Hid.LN_FROM 0)) ∧
    (let w : Who := .mc0
     let m : Mgr := 0
     let s := State.reset
     let s := s.putAt Reg.REIN_STATUS.ACTIVE (0) (0) (1)
     let s := s.putAt Reg.REIN_STATUS.ACTIVE (1) (0) (0)
     let s := s.putAt Hid.PRESENT (0) (0) (1)
     let s := s.putAt Reg.CLK_STATUS.ROOT_LOCK (0) (0) (1)
     let s := s.putAt Reg.CLK_STATUS.ROOT_LOCK (1) (0) (1)
     let s := s.putAt Hid.RELOCK_STAGE (0) (0) (0)
     let s := s.over (List.range 4) (fun s u => (s.put Reg.TILE_CLK_STATUS.REF_SRC u 0).put Reg.TILE_CLK_STATUS.SETTLING u 0)
     let s := s.putAt Reg.HPD_CLK_STATUS.REF_SRC (0) (0) (0)
     let s := s.putAt Reg.HPD_CLK_STATUS.SETTLING (0) (0) (0)
     s.reach w m = s.act ∧
     s.clockReady []) ∧
    (let w : Who := .mc0
     let m : Mgr := 0
     let s := State.reset
     let s := s.putAt Reg.REIN_STATUS.ACTIVE (0) (0) (1)
     let s := s.putAt Reg.REIN_STATUS.ACTIVE (1) (0) (0)
     let s := s.putAt Hid.PRESENT (0) (0) (1)
     let s := s.putAt Hid.RELOCK_STAGE (0) (0) (2)
     s.reach w m = s.act ∧
     s.clockReady [] = false) := by decide +kernel

/-- States and operands that meet the hypotheses of LaneMasterAndFaultWire. -/
theorem wit_laneMasterAndFaultWire_3 :
    (let src : BitVec 4 := 2
     let seq : Byte := 5
     let status : Byte := 0
     let data : BitVec 56 := 9
     let crc : BitVec 16 := (crc16 (msgBytes 3 2 5 0 9))
     let s := State.reset
     let s := s.putAt Hid.LN_GRANT (0) (0) (2)
     let s := s.putAt Hid.LN_SEQ (0) (0) (5)
     let s := s.putAt Hid.LN_SENT (0) (0) (1)
     s.get Hid.LN_GRANT 0 ≠ 0 ∧
     crc16 (msgBytes 3 src.toNat seq.toNat status.toNat data.toNat) = crc ∧
     s.get Hid.LN_GRANT 0 = src.toNat ∧
     s.get Hid.LN_SEQ 0 = seq.toNat ∧
     s.get Hid.LN_SENT 0 = 1) ∧
    (let src : BitVec 4 := 2
     let seq : Byte := 5
     let status : Byte := 0
     let data : BitVec 56 := 0
     let crc : BitVec 16 := (crc16 (msgBytes 3 2 5 0 0))
     let s := State.reset
     let s := s.putAt Hid.LN_GRANT (0) (0) (2)
     let s := s.putAt Hid.LN_SEQ (0) (0) (5)
     let s := s.putAt Hid.LN_SENT (0) (0) (2)
     let s := s.putAt Hid.LN_STAGE (0) (0) (2)
     s.get Hid.LN_GRANT 0 ≠ 0 ∧
     crc16 (msgBytes 3 src.toNat seq.toNat status.toNat data.toNat) = crc ∧
     s.get Hid.LN_GRANT 0 = src.toNat ∧
     s.get Hid.LN_SEQ 0 = seq.toNat ∧
     2 ≤ s.get Hid.LN_SENT 0 ∧
     s.get Hid.LN_STAGE 0 ≠ 0 ∧
     (status.toNat = LStatus.accepted ∨ status.toNat = LStatus.duplicate) ∧
     (s.get Hid.LN_SENT 0 = 2 ∨ data.toNat % 256 ≤ SeqRes.running)) ∧
    (let src : BitVec 4 := 2
     let seq : Byte := 5
     let status : Byte := 0
     let data : BitVec 56 := 2
     let crc : BitVec 16 := (crc16 (msgBytes 3 2 5 0 2))
     let s := State.reset
     let s := s.putAt Hid.LN_GRANT (0) (0) (2)
     let s := s.putAt Hid.LN_SEQ (0) (0) (5)
     let s := s.putAt Hid.LN_SENT (0) (0) (3)
     let s := s.putAt Hid.LN_STAGE (0) (0) (2)
     let s := s.putAt Hid.SEQ_STEP (0) (0) (2)
     s.get Hid.LN_GRANT 0 ≠ 0 ∧
     crc16 (msgBytes 3 src.toNat seq.toNat status.toNat data.toNat) = crc ∧
     s.get Hid.LN_GRANT 0 = src.toNat ∧
     s.get Hid.LN_SEQ 0 = seq.toNat ∧
     s.get Hid.LN_SENT 0 = 3 ∧
     s.get Hid.LN_STAGE 0 ≠ 0 ∧
     (status.toNat = LStatus.accepted ∨ status.toNat = LStatus.duplicate) ∧
     data.toNat % 256 = SeqRes.done ∧
     s.get Hid.SEQ_STEP 0 = SeqStep.stage) ∧
    (let src : BitVec 4 := 0
     let seq : Byte := 0
     let status : Byte := 0
     let data : BitVec 56 := 0
     let crc : BitVec 16 := 0
     let s := State.reset
     let s := s.putAt Hid.LN_GRANT (0) (0) (2)
     s.get Hid.LN_GRANT 0 ≠ 0 ∧
     crc16 (msgBytes 3 src.toNat seq.toNat status.toNat data.toNat) ≠ crc) := by decide +kernel

/-- States and operands that meet the hypotheses of LaneMasterAndFaultWire. -/
theorem wit_laneMasterAndFaultWire_4 :
    (let s := State.reset
     let s := s.putAt Hid.LN_GRANT (0) (0) (2)
     let s := s.putAt Hid.LN_TRIES (0) (0) (0)
     let s := s.putAt Reg.SQL_CFG.RETRY (0) (0) (2)
     s.get Hid.LN_GRANT 0 ≠ 0 ∧
     s.get Hid.LN_TRIES 0 < s.get Reg.SQL_CFG.RETRY 0 ∧
     s.get Hid.LN_TRIES 0 < 7) ∧
    (let s := State.reset
     let s := s.putAt Hid.LN_GRANT (0) (0) (2)
     let s := s.putAt Hid.LN_TRIES (0) (0) (2)
     let s := s.putAt Reg.SQL_CFG.RETRY (0) (0) (1)
     let s := s.putAt Hid.LN_SENT (0) (0) (1)
     let s := s.putAt Hid.LN_STAGE (0) (0) (0)
     0 < s.get Hid.LN_GRANT 0 ∧
     s.get Hid.LN_GRANT 0 < 16 ∧
     s.get Reg.SQL_CFG.RETRY 0 ≤ s.get Hid.LN_TRIES 0 ∧
     s.get Hid.LN_SENT 0 = 1 ∧
     s.get Hid.LN_STAGE 0 = 0) ∧
    (let frame : List Byte := [0x10, 0, 0, 0, 0, 0, 0]
     let s := State.reset
     let s := s.putAt Reg.SQL_CFG.ROLE (0) (0) (1)
     s.get Reg.SQL_CFG.ROLE 0 ≠ 0 ∧
     laneCrcBad frame) ∧
    (let s := State.reset
     let s := s.putAt Reg.REIN_STATUS.ACTIVE (0) (0) (1)
     let s := s.putAt Reg.REIN_STATUS.ACTIVE (1) (0) (0)
     let s := s.putAt Hid.PRESENT (0) (0) (1)
     (s.on Reg.FLT_CFG.SELF_IGN 0 = false ∨ s.on Reg.FLT_CFG.ASSERTED 0 = false)) := by decide +kernel

/-- States and operands that meet the hypotheses of LaneWorker. -/
theorem wit_laneWorker_1 :
    (let f : LaneHead := ⟨3, 7, crc16 (msgBytes 2 3 7 0x00 (0))⟩
     let s := State.reset
     let s := s.putAt Reg.SQL_CFG.ROLE (0) (0) (2)
     let s := s.putAt Reg.SQL_CFG.ADDR (0) (0) (3)
     let s := s.putAt Hid.LW_VALID (0) (0) (0)
     s.laneTakes f true 0x00 (0)) ∧
    (let f : LaneHead := ⟨3, 7, crc16 (msgBytes 2 3 7 0x01 (0))⟩
     let s := State.reset
     let s := s.putAt Reg.SQL_CFG.ROLE (0) (0) (2)
     let s := s.putAt Reg.SQL_CFG.ADDR (0) (0) (3)
     let s := s.putAt Hid.LW_VALID (0) (0) (0)
     s.laneTakes f false 0x01 (0) ∧
     s.laneNew f (0)) ∧
    (let f : LaneHead := ⟨3, 7, crc16 (msgBytes 2 3 7 0x02 (3))⟩
     let q : Byte := 3
     let d : BitVec 24 := 0
     let s := State.reset
     let s := s.putAt Reg.SQL_CFG.ROLE (0) (0) (2)
     let s := s.putAt Reg.SQL_CFG.ADDR (0) (0) (3)
     let s := s.putAt Hid.LW_VALID (0) (0) (0)
     let s := s.putAt Reg.SEQ_STATUS.ACTIVE (0) (0) (0)
     let s := s.putAt Reg.DEV_STATE.STATE (0) (0) (4)
     s.laneTakes f true 0x02 (q.toNat + d.toNat * 256) ∧
     s.laneNew f (q.toNat + d.toNat * 256) ∧
     q.toNat < 8 ∧
     s.seqActive = false ∧
     (s.onAt Reg.SEQ_HDR.DIR 0 q.toNat ∨ s.dev = Dev.run)) ∧
    (let f : LaneHead := ⟨3, 7, crc16 (msgBytes 2 3 7 2 3)⟩
     let q : Byte := 3
     let d : BitVec 24 := 0
     let s := State.reset
     let s := s.putAt Reg.SQL_CFG.ROLE (0) (0) (2)
     let s := s.putAt Reg.SQL_CFG.ADDR (0) (0) (3)
     let s := s.putAt Hid.LW_VALID (0) (0) (1)
     let s := s.putAt Hid.LW_SEQ (0) (0) (7)
     let s := s.putAt Hid.LW_ARGS (0) (0) (3)
     s.laneTakes f true 0x02 (q.toNat + d.toNat * 256) ∧
     s.laneNew f (q.toNat + d.toNat * 256) = false) := by decide +kernel

/-- States and operands that meet the hypotheses of LaneWorker. -/
theorem wit_laneWorker_2 :
    (let f : LaneHead := ⟨3, 7, crc16 (msgBytes 2 3 7 0x03 (5))⟩
     let r : Byte := 5
     let d : BitVec 24 := 0
     let s := State.reset
     let s := s.putAt Reg.SQL_CFG.ROLE (0) (0) (2)
     let s := s.putAt Reg.SQL_CFG.ADDR (0) (0) (3)
     let s := s.putAt Hid.LW_VALID (0) (0) (0)
     let s := s.putAt Reg.SEQ_STATUS.ACTIVE (0) (0) (0)
     let s := s.putAt Reg.DEV_STATE.STATE (0) (0) (4)
     let s := s.over (List.range 4) (fun s u => (s.put Hid.TILE_FAIL u 0).put Hid.BC_VERDICT u 1)
     let s := s.putAt Reg.RAIL_SUP_CFG.KIND (s.homeIx r.toNat) (0) (2)
     s.laneTakes f false 0x03 (r.toNat + d.toNat * 256) ∧
     s.laneNew f (r.toNat + d.toNat * 256) ∧
     r.toNat < 48 ∧
     s.inSeq r.toNat = false ∧
     s.enableAllowed r.toNat) ∧
    (let f : LaneHead := ⟨3, 7, crc16 (msgBytes 2 3 7 0x04 (5))⟩
     let r : Byte := 5
     let d : BitVec 24 := 0
     let s := State.reset
     let s := s.putAt Reg.SQL_CFG.ROLE (0) (0) (2)
     let s := s.putAt Reg.SQL_CFG.ADDR (0) (0) (3)
     let s := s.putAt Hid.LW_VALID (0) (0) (0)
     s.laneTakes f true 0x04 (r.toNat + d.toNat * 256) ∧
     s.laneNew f (r.toNat + d.toNat * 256) ∧
     r.toNat < 48) ∧
    (let f : LaneHead := ⟨3, 7, crc16 (msgBytes 2 3 7 0x05 (0))⟩
     let d : BitVec 24 := 0
     let s := State.reset
     let s := s.putAt Reg.SQL_CFG.ROLE (0) (0) (2)
     let s := s.putAt Reg.SQL_CFG.ADDR (0) (0) (3)
     let s := s.putAt Hid.LW_VALID (0) (0) (0)
     s.laneTakes f true 0x05 (d.toNat) ∧
     s.laneNew f (d.toNat)) ∧
    (let f : LaneHead := ⟨3, 7, crc16 (msgBytes 2 3 7 0x06 (0))⟩
     let s := State.reset
     let s := s.putAt Reg.SQL_CFG.ROLE (0) (0) (2)
     let s := s.putAt Reg.SQL_CFG.ADDR (0) (0) (3)
     let s := s.putAt Hid.LW_VALID (0) (0) (0)
     let s := s.putAt Reg.DEV_STATE.STATE (0) (0) (4)
     let s := s.putAt Reg.REIN_STATUS.ACTIVE (0) (0) (1)
     let s := s.putAt Reg.REIN_STATUS.ACTIVE (1) (0) (0)
     let s := s.putAt Hid.PRESENT (0) (0) (1)
     s.laneTakes f true 0x06 (0) ∧
     s.laneNew f (0) ∧
     s.dev = Dev.run ∧
     s.active.isSome) := by decide +kernel

/-- States and operands that meet the hypotheses of LaneWorker. -/
theorem wit_laneWorker_3 :
    (let f : LaneHead := ⟨3, 7, crc16 (msgBytes 2 3 7 0x07 (0))⟩
     let s := State.reset
     let s := s.putAt Reg.SQL_CFG.ROLE (0) (0) (2)
     let s := s.putAt Reg.SQL_CFG.ADDR (0) (0) (3)
     let s := s.putAt Hid.LW_VALID (0) (0) (0)
     s.laneTakes f true 0x07 (0) ∧
     s.laneNew f (0)) ∧
    (let f : LaneHead := ⟨3, 7, crc16 (msgBytes 2 3 7 0x08 (3))⟩
     let q : Byte := 3
     let s := State.reset
     let s := s.putAt Reg.SQL_CFG.ROLE (0) (0) (2)
     let s := s.putAt Reg.SQL_CFG.ADDR (0) (0) (3)
     let s := s.putAt Hid.LW_VALID (0) (0) (0)
     s.laneTakes f false 0x08 (q.toNat) ∧
     s.laneNew f (q.toNat) ∧
     q.toNat < 8) ∧
    (let f : LaneHead := ⟨3, 7, crc16 (msgBytes 2 3 7 9 0)⟩
     let op : Byte := 9
     let args : BitVec 56 := 0
     let s := State.reset
     let s := s.putAt Reg.SQL_CFG.ROLE (0) (0) (2)
     let s := s.putAt Reg.SQL_CFG.ADDR (0) (0) (3)
     let s := s.putAt Hid.LW_VALID (0) (0) (0)
     s.laneTakes f true op.toNat (args.toNat) ∧
     s.laneNew f (args.toNat) ∧
     laneBad op.toNat args.toNat) ∧
    (let beat : BitVec 40 := 9
     let flags : BitVec 4 := 0
     let crc : Byte := (crc8 (beatBytes 0 9))
     let s := State.reset
     let s := s.putAt Reg.SQL_CFG.ROLE (0) (0) (2)
     let s := s.putAt Hid.SQL_OFS (0) (0) (0)
     let s := s.putAt Reg.REIN_STATUS.ACTIVE (0) (0) (1)
     let s := s.putAt Reg.REIN_STATUS.ACTIVE (1) (0) (0)
     let s := s.putAt Hid.PRESENT (0) (0) (1)
     let s := s.putAt Hid.LW_START (0) (0) (0)
     s.laneWorker ∧
     crc8 (beatBytes flags.toNat beat.toNat) = crc ∧
     1 < beatDiff (beat.toNat + s.get Hid.SQL_OFS 0) (s.get Hid.LW_START 0) ∧
     beatDiff (beat.toNat + s.get Hid.SQL_OFS 0) (s.get Hid.LW_START 0) < 2 ^ 39) := by decide +kernel

/-- States and operands that meet the hypotheses of LaneWorker. -/
theorem wit_laneWorker_4 :
    (let beat : BitVec 40 := 9
     let flags : BitVec 4 := 0
     let crc : Byte := (crc8 (beatBytes 0 9))
     let s := State.reset
     let s := s.putAt Reg.SQL_CFG.ROLE (0) (0) (2)
     let s := s.putAt Hid.SQL_OFS (0) (0) (0)
     let s := s.putAt Reg.REIN_STATUS.ACTIVE (0) (0) (1)
     let s := s.putAt Reg.REIN_STATUS.ACTIVE (1) (0) (0)
     let s := s.putAt Hid.PRESENT (0) (0) (1)
     let s := s.putAt Hid.LW_START (0) (0) (14)
     s.laneWorker ∧
     crc8 (beatBytes flags.toNat beat.toNat) = crc ∧
     2 ^ 39 ≤ beatDiff (beat.toNat + s.get Hid.SQL_OFS 0) (s.get Hid.LW_START 0) ∧
     2 ^ 40 - beatDiff (beat.toNat + s.get Hid.SQL_OFS 0) (s.get Hid.LW_START 0) ≤ 16 ∧
     beatDiff (beat.toNat + s.get Hid.SQL_OFS 0) (s.get Hid.LW_START 0) ≠ 2 ^ 40 - 1) ∧
    (let beat : BitVec 40 := 9
     let flags : BitVec 4 := 0
     let crc : Byte := (crc8 (beatBytes 0 9))
     let s := State.reset
     let s := s.putAt Reg.SQL_CFG.ROLE (0) (0) (2)
     let s := s.putAt Hid.SQL_OFS (0) (0) (0)
     let s := s.putAt Reg.REIN_STATUS.ACTIVE (0) (0) (1)
     let s := s.putAt Reg.REIN_STATUS.ACTIVE (1) (0) (0)
     let s := s.putAt Hid.PRESENT (0) (0) (1)
     let s := s.putAt Hid.LW_START (0) (0) (114)
     s.laneWorker ∧
     crc8 (beatBytes flags.toNat beat.toNat) = crc ∧
     2 ^ 39 ≤ beatDiff (beat.toNat + s.get Hid.SQL_OFS 0) (s.get Hid.LW_START 0) ∧
     16 < 2 ^ 40 - beatDiff (beat.toNat + s.get Hid.SQL_OFS 0) (s.get Hid.LW_START 0)) ∧
    (let beat : BitVec 40 := 9
     let flags : BitVec 4 := 0
     let crc : Byte := (crc8 (beatBytes 0 9))
     let s := State.reset
     let s := s.putAt Reg.SQL_CFG.ROLE (0) (0) (2)
     let s := s.putAt Hid.SQL_OFS (0) (0) (0)
     let s := s.putAt Reg.REIN_STATUS.ACTIVE (0) (0) (1)
     let s := s.putAt Reg.REIN_STATUS.ACTIVE (1) (0) (0)
     let s := s.putAt Hid.PRESENT (0) (0) (1)
     let s := s.putAt Hid.LW_START (0) (0) (9)
     s.laneWorker ∧
     crc8 (beatBytes flags.toNat beat.toNat) = crc ∧
     (beatDiff (beat.toNat + s.get Hid.SQL_OFS 0) (s.get Hid.LW_START 0) ≤ 1 ∨ beatDiff (beat.toNat + s.get Hid.SQL_OFS 0) (s.get Hid.LW_START 0) = 2 ^ 40 - 1)) ∧
    (let beat : BitVec 40 := 9
     let flags : BitVec 4 := 0
     let crc : Byte := (crc8 (beatBytes 0 9))
     let s := State.reset
     let s := s.putAt Reg.SQL_CFG.ROLE (0) (0) (1)
     s.laneMaster ∧
     crc8 (beatBytes flags.toNat beat.toNat) = crc ∧
     s.on Hid.LN_LISTEN 0 = false) := by decide +kernel

/-- States and operands that meet the hypotheses of LaneWorker. -/
theorem wit_laneWorker_5 :
    (let s := State.reset
     let s := s.putAt Reg.SQL_CFG.ROLE (0) (0) (2)
     let s := s.putAt Reg.REIN_STATUS.ACTIVE (0) (0) (1)
     let s := s.putAt Reg.REIN_STATUS.ACTIVE (1) (0) (0)
     let s := s.putAt Hid.PRESENT (0) (0) (1)
     let s := s.putAt Hid.BEAT (0) (0) (30)
     s.laneWorker ∧
     30 ≤ beatDiff s.beat (s.get Hid.LW_SEEN 0)) ∧
    (let x : LaneDue := ⟨5, 1, .snap⟩
     let s := State.reset
     let s := s.putAt Hid.BEAT (s.act) (0) (7)
     let s := { s with laneDue := [⟨5, 1, .snap⟩, ⟨9, 2, .snap⟩] }
     (s.laneDue.find? (fun x => decide (beatDiff s.beat x.due < 2 ^ 39)) = some x)) ∧
    (let x : LaneDue := ⟨5, 1, .run 3⟩
     let q : Fin 8 := 3
     let s := State.reset
     let s := s.putAt Hid.BEAT (s.act) (0) (7)
     let s := { s with laneDue := [⟨5, 1, .run 3⟩, ⟨9, 2, .snap⟩] }
     let s := s.putAt Reg.SEQ_STATUS.ACTIVE (0) (0) (0)
     let s := s.putAt Reg.DEV_STATE.STATE (0) (0) (4)
     let s := s.putAt Reg.SEQ_HDR.NSTG (0) (3) (2)
     (s.laneDue.find? (fun x => decide (beatDiff s.beat x.due < 2 ^ 39)) = some x) ∧
     x.work = LaneWork.run q.val ∧
     s.seqActive = false ∧
     (s.onAt Reg.SEQ_HDR.DIR 0 q ∨ s.dev = Dev.run) ∧
     s.getAt Reg.SEQ_HDR.NSTG 0 q ≠ 0) ∧
    (let x : LaneDue := ⟨5, 1, .railOff 3⟩
     let r : Rail := 3
     let s := State.reset
     let s := s.putAt Hid.BEAT (s.act) (0) (7)
     let s := { s with laneDue := [⟨5, 1, .railOff 3⟩, ⟨9, 2, .snap⟩] }
     let s := s.putAt Hid.SEQ_STEP (0) (0) (0)
     let s := s.putAt Hid.TSD_QUEUE (0) (0) (0)
     let s := s.over (List.range 4) (fun s k => s.put Hid.AK_STEP k 0)
     let s := s.putAt Reg.SEQ_STATUS.ACTIVE (0) (0) (0)
     let s := s.putAt Reg.RAIL_SUP_STATUS.RSTATE (s.leadIx r) (0) (3)
     (s.laneDue.find? (fun x => decide (beatDiff s.beat x.due < 2 ^ 39)) = some x) ∧
     x.work = LaneWork.railOff r.val ∧
     s.rs r = Rs.on ∧
     s.quiet ∧
     s.seqActive = false) := by decide +kernel

/-- States and operands that meet the hypotheses of LaneWorker. -/
theorem wit_laneWorker_6 :
    (let x : LaneDue := ⟨5, 1, .railOn 3⟩
     let r : Rail := 3
     let s := State.reset
     let s := s.putAt Hid.BEAT (s.act) (0) (7)
     let s := { s with laneDue := [⟨5, 1, .railOn 3⟩, ⟨9, 2, .snap⟩] }
     let s := s.putAt Reg.SEQ_STATUS.ACTIVE (0) (0) (0)
     let s := s.putAt Reg.DEV_STATE.STATE (0) (0) (4)
     let s := s.over (List.range 4) (fun s u => (s.put Hid.TILE_FAIL u 0).put Hid.BC_VERDICT u 1)
     let s := s.putAt Reg.RAIL_SUP_STATUS.RSTATE (s.leadIx r) (0) (0)
     let s := s.putAt Reg.RAIL_SUP_CFG.KIND (s.leadIx r) (0) (2)
     (s.laneDue.find? (fun x => decide (beatDiff s.beat x.due < 2 ^ 39)) = some x) ∧
     x.work = LaneWork.railOn r.val ∧
     s.inSeq r = false ∧
     s.enableAllowed r ∧
     s.rs r = Rs.off ∧
     s.kindOf r = 2 ∧
     s.diagHolds r = false) := by decide +kernel

/-- States and operands that meet the hypotheses of ProtectionResponses. -/
theorem wit_protectionResponses_1 :
    (let p : Phase := 0
     let s := State.reset
     let s := s.putAt Hid.OC_N (p) (0) (7)
     let s := s.putAt Reg.PH_PROT.OC_CYC (p) (0) (3)
     let s := s.putAt Reg.PH_STATE.STATE (p) (0) (3)
     let s := s.putAt Hid.READD_DONE (p) (0) (0)
     max 1 (s.get Reg.PH_PROT.OC_CYC p) ≤ s.get Hid.OC_N p ∧
     s.ph p = Ph.active ∧
     s.on Hid.READD_DONE p = false) ∧
    (let r : Rail := 0
     let s := State.reset
     let s := s.putAt Hid.CHD_OV_N (s.leadIx r) (0) (100)
     (100 ≤ s.get Hid.CHD_OV_N (s.leadIx r) ∨ 100 ≤ s.get Hid.CHD_UV_N (s.leadIx r))) ∧
    (let r : Rail := 0
     let s := State.reset
     let s := s.putAt Reg.RAIL_SUP_CFG.KIND (s.leadIx r) (0) (1)
     let s := s.putAt Reg.RAIL_SUP_STATUS.RSTATE (s.leadIx r) (0) (3)
     let s := s.putAt Reg.RAIL_OV.OV_ACT (s.leadIx r) (0) (0)
     let s := s.putAt Hid.OV_N (s.leadIx r) (0) (100)
     let s := s.putAt Reg.RAIL_OV.OV_DLY (s.leadIx r) (0) (1)
     let s := s.putAt Hid.CONF (s.leadIx r) (0) (0)
     s.kindOf r = 1 ∧
     max 1 (s.get Reg.RAIL_OV.OV_DLY (s.leadIx r)) ≤ s.get Hid.OV_N (s.leadIx r) ∧
     s.bit Hid.CONF (s.leadIx r) 0 = false ∧
     s.rs r ≠ Rs.off ∧
     s.get Reg.RAIL_OV.OV_ACT (s.leadIx r) = 0) ∧
    (let r : Rail := 0
     let s := State.reset
     let s := s.putAt Hid.SEQ_STEP (0) (0) (0)
     let s := s.putAt Hid.TSD_QUEUE (0) (0) (0)
     let s := s.over (List.range 4) (fun s k => s.put Hid.AK_STEP k 0)
     let s := s.putAt Reg.RAIL_SUP_CFG.KIND (s.leadIx r) (0) (1)
     let s := s.putAt Reg.RAIL_SUP_STATUS.RSTATE (s.leadIx r) (0) (3)
     let s := s.putAt Reg.RAIL_OV.OV_ACT (s.leadIx r) (0) (1)
     let s := s.putAt Hid.EN_STAGE (0) (r) (0)
     let s := s.putAt Hid.OV_N (s.leadIx r) (0) (100)
     let s := s.putAt Reg.RAIL_OV.OV_DLY (s.leadIx r) (0) (1)
     let s := s.putAt Hid.CONF (s.leadIx r) (0) (0)
     s.kindOf r = 1 ∧
     max 1 (s.get Reg.RAIL_OV.OV_DLY (s.leadIx r)) ≤ s.get Hid.OV_N (s.leadIx r) ∧
     s.bit Hid.CONF (s.leadIx r) 0 = false ∧
     s.rs r = Rs.on ∧
     s.enStep r = 0 ∧
     s.quiet ∧
     s.get Reg.RAIL_OV.OV_ACT (s.leadIx r) = 1) := by decide +kernel

/-- States and operands that meet the hypotheses of ProtectionResponses. -/
theorem wit_protectionResponses_2 :
    (let r : Rail := 0
     let s := State.reset
     let s := s.putAt Reg.RAIL_SUP_CFG.KIND (s.leadIx r) (0) (1)
     let s := s.putAt Reg.RAIL_SUP_STATUS.RSTATE (s.leadIx r) (0) (3)
     let s := s.putAt Reg.RAIL_OV.OV_ACT (s.leadIx r) (0) (1)
     let s := s.putAt Hid.EN_STAGE (0) (r) (0)
     let s := s.putAt Hid.OV_N (s.leadIx r) (0) (100)
     let s := s.putAt Reg.RAIL_OV.OV_DLY (s.leadIx r) (0) (1)
     let s := s.putAt Hid.CONF (s.leadIx r) (0) (0)
     s.kindOf r = 1 ∧
     max 1 (s.get Reg.RAIL_OV.OV_DLY (s.leadIx r)) ≤ s.get Hid.OV_N (s.leadIx r) ∧
     s.bit Hid.CONF (s.leadIx r) 0 = false ∧
     s.rs r ≠ Rs.off ∧
     s.rs r ≠ Rs.enabling ∧
     s.get Reg.RAIL_OV.OV_ACT (s.leadIx r) ≠ 0) ∧
    (let r : Rail := 0
     let s := State.reset
     let s := s.putAt Hid.SEQ_STEP (0) (0) (0)
     let s := s.putAt Hid.TSD_QUEUE (0) (0) (0)
     let s := s.over (List.range 4) (fun s k => s.put Hid.AK_STEP k 0)
     let s := s.putAt Reg.RAIL_SUP_CFG.KIND (s.leadIx r) (0) (1)
     let s := s.putAt Reg.RAIL_SUP_STATUS.RSTATE (s.leadIx r) (0) (3)
     let s := s.putAt Reg.RAIL_UV.UV_ACT (s.leadIx r) (0) (1)
     let s := s.putAt Hid.EN_STAGE (0) (r) (0)
     let s := s.putAt Hid.SP_DONE (s.leadIx r) (0) (1)
     let s := s.putAt Hid.UV_N (s.leadIx r) (0) (100)
     let s := s.putAt Reg.RAIL_UV.UV_DLY (s.leadIx r) (0) (1)
     let s := s.putAt Hid.CONF (s.leadIx r) (0) (0)
     s.kindOf r = 1 ∧
     100 * max 1 (s.get Reg.RAIL_UV.UV_DLY (s.leadIx r)) ≤ s.get Hid.UV_N (s.leadIx r) ∧
     s.bit Hid.CONF (s.leadIx r) 1 = false ∧
     s.rs r = Rs.on ∧
     s.enStep r = 0 ∧
     s.quiet ∧
     s.get Reg.RAIL_UV.UV_ACT (s.leadIx r) = 1) ∧
    (let r : Rail := 0
     let s := State.reset
     let s := s.putAt Reg.RAIL_SUP_CFG.KIND (s.leadIx r) (0) (1)
     let s := s.putAt Reg.RAIL_SUP_STATUS.RSTATE (s.leadIx r) (0) (3)
     let s := s.putAt Reg.RAIL_UV.UV_ACT (s.leadIx r) (0) (0)
     let s := s.putAt Hid.EN_STAGE (0) (r) (0)
     let s := s.putAt Hid.UV_N (s.leadIx r) (0) (100)
     let s := s.putAt Reg.RAIL_UV.UV_DLY (s.leadIx r) (0) (1)
     let s := s.putAt Hid.CONF (s.leadIx r) (0) (0)
     s.kindOf r = 1 ∧
     100 * max 1 (s.get Reg.RAIL_UV.UV_DLY (s.leadIx r)) ≤ s.get Hid.UV_N (s.leadIx r) ∧
     s.bit Hid.CONF (s.leadIx r) 1 = false ∧
     s.rs r ≠ Rs.off ∧
     s.get Reg.RAIL_UV.UV_ACT (s.leadIx r) = 0) ∧
    (let r : Rail := 0
     let s := State.reset
     let s := s.putAt Reg.RAIL_SUP_CFG.KIND (s.leadIx r) (0) (1)
     let s := s.putAt Reg.RAIL_SUP_STATUS.RSTATE (s.leadIx r) (0) (3)
     let s := s.putAt Reg.RAIL_UV.UV_ACT (s.leadIx r) (0) (1)
     let s := s.putAt Hid.EN_STAGE (0) (r) (0)
     let s := s.putAt Hid.UV_N (s.leadIx r) (0) (100)
     let s := s.putAt Reg.RAIL_UV.UV_DLY (s.leadIx r) (0) (1)
     let s := s.putAt Hid.CONF (s.leadIx r) (0) (0)
     s.kindOf r = 1 ∧
     100 * max 1 (s.get Reg.RAIL_UV.UV_DLY (s.leadIx r)) ≤ s.get Hid.UV_N (s.leadIx r) ∧
     s.bit Hid.CONF (s.leadIx r) 1 = false ∧
     s.rs r ≠ Rs.off ∧
     s.rs r ≠ Rs.enabling ∧
     s.get Reg.RAIL_UV.UV_ACT (s.leadIx r) ≠ 0) := by decide +kernel

/-- States and operands that meet the hypotheses of ProtectionResponses. -/
theorem wit_protectionResponses_3 :
    (let r : Rail := 0
     let s := State.reset
     let s := s.putAt Hid.SEQ_STEP (0) (0) (0)
     let s := s.putAt Hid.TSD_QUEUE (0) (0) (0)
     let s := s.over (List.range 4) (fun s k => s.put Hid.AK_STEP k 0)
     let s := s.putAt Reg.RAIL_SUP_CFG.KIND (s.leadIx r) (0) (1)
     let s := s.putAt Reg.RAIL_SUP_STATUS.RSTATE (s.leadIx r) (0) (3)
     let s := s.putAt Reg.RAIL_OC.OC_ACT (s.leadIx r) (0) (1)
     let s := s.putAt Hid.EN_STAGE (0) (r) (0)
     let s := s.putAt Hid.SP_DONE (s.leadIx r) (0) (1)
     let s := s.putAt Hid.ROC_N (s.leadIx r) (0) (100)
     let s := s.putAt Reg.RAIL_OC.OC_DLY (s.leadIx r) (0) (1)
     let s := s.putAt Hid.CONF (s.leadIx r) (0) (0)
     s.kindOf r = 1 ∧
     100 * max 1 (s.get Reg.RAIL_OC.OC_DLY (s.leadIx r)) ≤ s.get Hid.ROC_N (s.leadIx r) ∧
     s.bit Hid.CONF (s.leadIx r) 2 = false ∧
     s.rs r = Rs.on ∧
     s.enStep r = 0 ∧
     s.quiet ∧
     s.get Reg.RAIL_OC.OC_ACT (s.leadIx r) = 1) ∧
    (let r : Rail := 0
     let s := State.reset
     let s := s.putAt Reg.RAIL_SUP_CFG.KIND (s.leadIx r) (0) (1)
     let s := s.putAt Reg.RAIL_SUP_STATUS.RSTATE (s.leadIx r) (0) (3)
     let s := s.putAt Reg.RAIL_OC.OC_ACT (s.leadIx r) (0) (0)
     let s := s.putAt Hid.EN_STAGE (0) (r) (0)
     let s := s.putAt Hid.ROC_N (s.leadIx r) (0) (100)
     let s := s.putAt Reg.RAIL_OC.OC_DLY (s.leadIx r) (0) (1)
     let s := s.putAt Hid.CONF (s.leadIx r) (0) (0)
     s.kindOf r = 1 ∧
     100 * max 1 (s.get Reg.RAIL_OC.OC_DLY (s.leadIx r)) ≤ s.get Hid.ROC_N (s.leadIx r) ∧
     s.bit Hid.CONF (s.leadIx r) 2 = false ∧
     s.rs r ≠ Rs.off ∧
     s.get Reg.RAIL_OC.OC_ACT (s.leadIx r) = 0) ∧
    (let r : Rail := 0
     let s := State.reset
     let s := s.putAt Reg.RAIL_SUP_CFG.KIND (s.leadIx r) (0) (1)
     let s := s.putAt Reg.RAIL_SUP_STATUS.RSTATE (s.leadIx r) (0) (3)
     let s := s.putAt Reg.RAIL_OC.OC_ACT (s.leadIx r) (0) (1)
     let s := s.putAt Hid.EN_STAGE (0) (r) (0)
     let s := s.putAt Hid.ROC_N (s.leadIx r) (0) (100)
     let s := s.putAt Reg.RAIL_OC.OC_DLY (s.leadIx r) (0) (1)
     let s := s.putAt Hid.CONF (s.leadIx r) (0) (0)
     s.kindOf r = 1 ∧
     100 * max 1 (s.get Reg.RAIL_OC.OC_DLY (s.leadIx r)) ≤ s.get Hid.ROC_N (s.leadIx r) ∧
     s.bit Hid.CONF (s.leadIx r) 2 = false ∧
     s.rs r ≠ Rs.off ∧
     s.rs r ≠ Rs.enabling ∧
     s.get Reg.RAIL_OC.OC_ACT (s.leadIx r) ≠ 0) ∧
    (let r : Rail := 0
     let s := State.reset
     let s := s.putAt Hid.SEQ_STEP (0) (0) (0)
     let s := s.putAt Hid.TSD_QUEUE (0) (0) (0)
     let s := s.over (List.range 4) (fun s k => s.put Hid.AK_STEP k 0)
     let s := s.putAt Hid.LOST_MID (0) (0) (2 ^ r.val)
     let s := s.putAt Hid.TICK (s.leadTile r) (0) (100)
     let s := s.putAt Hid.LOST_TICK (0) (r) (0)
     s.bit Hid.LOST_MID 0 r ∧
     100 ≤ (s.get Hid.TICK (s.leadTile r) + 2 ^ 32 - s.getAt Hid.LOST_TICK 0 r) % 2 ^ 32 ∧
     s.quiet) := by decide +kernel

/-- States and operands that meet the hypotheses of ProtectionResponses. -/
theorem wit_protectionResponses_4 :
    (let r : Rail := 0
     let s := State.reset
     let s := s.putAt Hid.LOST_MID (0) (0) (2 ^ r.val)
     let s := s.putAt Hid.TICK (s.leadTile r) (0) (100)
     let s := s.putAt Hid.LOST_TICK (0) (r) (0)
     s.bit Hid.LOST_MID 0 r ∧
     100 ≤ (s.get Hid.TICK (s.leadTile r) + 2 ^ 32 - s.getAt Hid.LOST_TICK 0 r) % 2 ^ 32) := by decide +kernel

/-- States and operands that meet the hypotheses of ThermalLevels. -/
theorem wit_thermalLevels_1 :
    (let d : Die := .hpd
     let s := State.reset
     let s := s.putAt Hid.DIS_AT (0) (dieNo d) (1)
     let s := s.putAt Reg.REIN_STATUS.ACTIVE (0) (0) (1)
     let s := s.putAt Reg.REIN_STATUS.ACTIVE (1) (0) (0)
     let s := s.putAt Hid.PRESENT (0) (0) (1)
     let s := s.putAt Hid.BEAT (0) (0) (1000)
     s.heldFor Hid.DIS_AT 0 (dieNo d) 1000) ∧
    (let u : Tile := 0
     let s := State.reset
     let s := s.putAt Hid.SEQ_STEP (0) (0) (0)
     let s := s.putAt Hid.TSD_QUEUE (0) (0) (0)
     let s := s.over (List.range 4) (fun s k => s.put Hid.AK_STEP k 0)
     let s := s.over (List.range 96) (fun s p => s.put Reg.PH_CFG.RAIL p 63)
     let s := s.putAt Hid.TSD_ON (u) (0) (0)
     s.on Hid.TSD_ON u = false ∧
     s.shutRails u = [] ∧
     ((s.railsWith u).all fun r => s.enStep r ≠ 4 && !s.mirrored r) ∧
     s.quiet) ∧
    (let u : Tile := 0
     let s := State.reset
     let s := s.putAt Hid.TSD_ON (u) (0) (0)
     s.on Hid.TSD_ON u = false) ∧
    (let u : Tile := 0
     let s := State.reset
     let s := s.putAt Hid.TSD_ON (u) (0) (1)
     let s := s.putAt Reg.TILE_THERM.TSD_LATCH (u) (0) (0)
     let s := s.putAt Hid.COOL_N (u) (0) (10)
     let s := s.putAt Hid.BEAT (s.act) (0) (200000)
     let s := s.putAt Hid.TSD_BEAT (u) (0) (5)
     let s := s.putAt Reg.REIN_STATUS.ACTIVE (0) (0) (0)
     let s := s.putAt Reg.REIN_STATUS.ACTIVE (1) (0) (0)
     let s := s.putAt Hid.BEAT (0) (0) (200000)
     s.on Hid.TSD_ON u ∧
     s.on Reg.TILE_THERM.TSD_LATCH u = false ∧
     10 ≤ s.get Hid.COOL_N u ∧
     100000 ≤ beatDiff s.beat (s.get Hid.TSD_BEAT u)) := by decide +kernel

/-- States and operands that meet the hypotheses of ThermalLevels. -/
theorem wit_thermalLevels_2 :
    (let u : Unit5 := 0
     let s := State.reset
     let s := s.putAt Reg.TILE_THERM.TEMP (u) (0) (2160)
     u.val < 4 ∧
     2160 ≤ s.getI Reg.TILE_THERM.TEMP u) ∧
    (let u : Unit5 := 0
     let s := State.reset
     let s := s.putAt Reg.TILE_THERM.TEMP (u) (0) (0)
     let s := s.putAt Reg.TILE_THERM.TSD_LATCH (u) (0) (1)
     let s := s.putAt Reg.REIN_STATUS.ACTIVE (0) (0) (0)
     let s := s.putAt Reg.REIN_STATUS.ACTIVE (1) (0) (0)
     u.val < 4 ∧
     s.getI Reg.TILE_THERM.TEMP u < 2160 ∧
     s.on Reg.TILE_THERM.TSD_LATCH u) ∧
    (let u : Unit5 := 4
     let s := State.reset
     let s := s.putAt Reg.HPD_THERM.TEMP (0) (0) (0)
     let s := s.putAt Reg.HPD_THERM.TSD_LATCH (0) (0) (1)
     u.val = 4 ∧
     s.getI Reg.HPD_THERM.TEMP 0 < 2160 ∧
     s.on Reg.HPD_THERM.TSD_LATCH 0) ∧
    (let s := State.reset
     let s := s.putAt Hid.THR_ON (0) (0) (1)
     let s := s.putAt Hid.THR_AT (0) (0) (1)
     let s := s.putAt Reg.MGR_THERM.THR_LIM (0) (0) (3)
     let s := s.putAt Reg.DEV_STATE.STATE (0) (0) (4)
     let s := s.putAt Reg.REIN_STATUS.ACTIVE (0) (0) (1)
     let s := s.putAt Reg.REIN_STATUS.ACTIVE (1) (0) (0)
     let s := s.putAt Hid.PRESENT (0) (0) (1)
     let s := s.putAt Hid.BEAT (0) (0) (3000000)
     s.throttleHeld ∧
     s.get Reg.MGR_THERM.THR_LIM 0 ≠ 0 ∧
     s.dev = Dev.run ∧
     s.active.isSome) := by decide +kernel

/-- States and operands that meet the hypotheses of HoldupInput. -/
theorem wit_holdupInput_1 :
    (let s := State.reset
     let s := s.putAt Reg.IIN_STATUS.VAUX_OK (0) (0) (0)
     let s := s.putAt Hid.HPD_GO (0) (0) (1)
     let s := s.putAt Hid.VAUX_N (0) (0) (100)
     s.on Reg.IIN_STATUS.VAUX_OK 0 = false ∧
     100 ≤ s.get Hid.VAUX_N 0) ∧
    (let vaux : BitVec 16 := 0
     let s := State.reset
     let s := s.putAt Reg.IIN_STATUS.VAUX_OK (0) (0) (1)
     (vaux.toNat < 16000 ∨ 35000 < vaux.toNat) ∧
     s.on Reg.IIN_STATUS.VAUX_OK 0) ∧
    (let s := State.reset
     let s := s.putAt Reg.IIN_STATUS.VAUX_OK (0) (0) (1)
     s.on Reg.IIN_STATUS.VAUX_OK 0) ∧
    (let s := State.reset
     let s := s.putAt Reg.IIN_STATUS.VAUX_OK (0) (0) (1)
     let s := s.putAt Reg.IIN_STATUS.SRCH (0) (0) (0)
     let s := s.putAt Hid.SRCH_N (0) (0) (6000000)
     s.get Reg.IIN_STATUS.SRCH 0 = 0 ∧
     s.on Reg.IIN_STATUS.VAUX_OK 0 ∧
     6000000 ≤ s.get Hid.SRCH_N 0) := by decide +kernel

/-- States and operands that meet the hypotheses of HoldupInput. -/
theorem wit_holdupInput_2 :
    (let s := State.reset
     let s := s.putAt Reg.IIN_STATUS.SRCH (0) (0) (1)
     let s := s.putAt Reg.IIN_STATUS.IIN_LIM (0) (0) (10)
     let s := s.putAt Reg.IIN_CFG.IIN_MAX (0) (0) (30)
     let s := s.putAt Hid.SRCH_N (0) (0) (500)
     s.get Reg.IIN_STATUS.SRCH 0 = 1 ∧
     500 ≤ s.get Hid.SRCH_N 0 ∧
     s.get Reg.IIN_STATUS.IIN_LIM 0 < s.get Reg.IIN_CFG.IIN_MAX 0) ∧
    (let s := State.reset
     let s := s.putAt Reg.IIN_STATUS.SRCH (0) (0) (1)
     let s := s.putAt Reg.IIN_STATUS.IIN_LIM (0) (0) (30)
     let s := s.putAt Reg.IIN_CFG.IIN_MAX (0) (0) (30)
     let s := s.putAt Hid.SRCH_N (0) (0) (500)
     s.get Reg.IIN_STATUS.SRCH 0 = 1 ∧
     s.get Reg.IIN_CFG.IIN_MAX 0 ≤ s.get Reg.IIN_STATUS.IIN_LIM 0 ∧
     500 ≤ s.get Hid.SRCH_N 0) ∧
    (let s := State.reset
     let s := s.putAt Reg.IIN_STATUS.SRCH (0) (0) (2)
     let s := s.putAt Hid.SRCH_N (0) (0) (100000)
     let s := s.putAt Hid.ATLIM_N (0) (0) (0)
     s.get Reg.IIN_STATUS.SRCH 0 = 2 ∧
     s.atLimit = false ∧
     100000 ≤ s.get Hid.SRCH_N 0) ∧
    (let s := State.reset
     let s := s.putAt Reg.IIN_STATUS.SRCH (0) (0) (2)
     let s := s.putAt Hid.ATLIM_N (0) (0) (100)
     s.get Reg.IIN_STATUS.SRCH 0 = 2 ∧
     s.atLimit) := by decide +kernel

/-- States and operands that meet the hypotheses of HoldupInput. -/
theorem wit_holdupInput_3 :
    (let s := State.reset
     let s := s.putAt Reg.IIN_STATUS.SRCH (0) (0) (1)
     let s := s.putAt Hid.SAG_N (0) (0) (10)
     s.get Reg.IIN_STATUS.SRCH 0 = 1 ∧
     10 ≤ s.get Hid.SAG_N 0) ∧
    (let s := State.reset
     let s := s.putAt Reg.IIN_STATUS.SRCH (0) (0) (0)
     let s := s.putAt Hid.SAG_N (0) (0) (10)
     s.get Reg.IIN_STATUS.SRCH 0 = 0 ∧
     10 ≤ s.get Hid.SAG_N 0) ∧
    (let s := State.reset
     let s := s.putAt Hid.H_TSD (0) (0) (0)
     s.on Hid.H_TSD 0 = false) ∧
    (let s := State.reset
     let s := s.putAt Hid.H_TSD (0) (0) (1)
     let s := s.putAt Reg.HPD_THERM.TSD_LATCH (0) (0) (0)
     let s := s.putAt Hid.H_COOL (0) (0) (10)
     let s := s.putAt Hid.BEAT (s.act) (0) (200000)
     let s := s.putAt Hid.H_TSD_BEAT (0) (0) (5)
     s.on Hid.H_TSD 0 ∧
     s.on Reg.HPD_THERM.TSD_LATCH 0 = false ∧
     10 ≤ s.get Hid.H_COOL 0 ∧
     100000 ≤ beatDiff s.beat (s.get Hid.H_TSD_BEAT 0)) := by decide +kernel

/-- States and operands that meet the hypotheses of BatterySwitchPair. -/
theorem wit_batterySwitchPair_1 :
    (let vbb : BitVec 16 := 0
     let s := State.reset
     let s := s.putAt Reg.BFET_STATUS.STATE (0) (0) (1)
     let s := s.putAt Reg.VBB_CFG.VBB_SET (0) (0) (1200)
     let s := s.putAt Reg.VBB_CFG.TRIP_OFS (0) (0) (50)
     vbb.toNat < (s.get Reg.VBB_CFG.VBB_SET 0 - s.get Reg.VBB_CFG.TRIP_OFS 0) * 10 ∧
     s.bfet = 1) ∧
    (let vbb : BitVec 16 := 0
     let s := State.reset
     let s := s.putAt Reg.BFET_STATUS.STATE (0) (0) (3)
     let s := s.putAt Reg.VBB_CFG.VBB_SET (0) (0) (1200)
     let s := s.putAt Reg.VBB_CFG.TRIP_OFS (0) (0) (50)
     vbb.toNat < (s.get Reg.VBB_CFG.VBB_SET 0 - s.get Reg.VBB_CFG.TRIP_OFS 0) * 10 ∧
     s.bfet = 3) ∧
    (let s := State.reset
     let s := s.putAt Reg.BFET_STATUS.STATE (0) (0) (2)
     let s := s.putAt Hid.BAT_GD (0) (0) (1)
     let s := s.putAt Hid.VBAT_NOW (0) (0) (12000)
     let s := s.putAt Reg.VBB_STATUS.VBB (0) (0) (12000)
     s.bfet = 2 ∧
     s.get Hid.BAT_GD 0 = 1 ∧
     s.pairDrop < 300) ∧
    (let s := State.reset
     let s := s.putAt Reg.BFET_STATUS.STATE (0) (0) (2)
     s.bfet = 2) := by decide +kernel

/-- States and operands that meet the hypotheses of BatterySwitchPair. -/
theorem wit_batterySwitchPair_2 :
    (let s := State.reset
     let s := s.putAt Reg.BFET_STATUS.STATE (0) (0) (2)
     let s := s.putAt Reg.BFET_CTRL.DSG_OC_T (0) (0) (1)
     let s := s.putAt Hid.DLIM_N (0) (0) (100)
     s.bfet = 2 ∧
     s.get Reg.BFET_CTRL.DSG_OC_T 0 * 100 ≤ s.get Hid.DLIM_N 0) ∧
    (let s := State.reset
     let s := s.putAt Reg.BFET_STATUS.STATE (0) (0) (2)
     let s := s.putAt Hid.DSH_N (0) (0) (10)
     s.bfet = 2 ∧
     10 ≤ s.get Hid.DSH_N 0) ∧
    (let s := State.reset
     let s := s.putAt Reg.BFET_STATUS.STATE (0) (0) (2)
     let s := s.putAt Hid.FDEG_N (0) (0) (100)
     s.bfet = 2 ∧
     100 ≤ s.get Hid.FDEG_N 0) ∧
    (let s := State.reset
     let s := s.putAt Reg.BFET_STATUS.STATE (0) (0) (2)
     let s := s.putAt Reg.IIN_STATUS.VAUX_OK (0) (0) (1)
     let s := s.putAt Hid.H_TSD (0) (0) (0)
     let s := s.putAt Reg.BFET_CTRL.RET_DLY (0) (0) (1)
     let s := s.putAt Hid.VOK_N (0) (0) (1000)
     s.bfet = 2 ∧
     s.on Reg.IIN_STATUS.VAUX_OK 0 ∧
     s.on Hid.H_TSD 0 = false ∧
     max 1 (s.get Reg.BFET_CTRL.RET_DLY 0) * 1000 ≤ s.get Hid.VOK_N 0) := by decide +kernel

/-- States and operands that meet the hypotheses of BatterySwitchPair. -/
theorem wit_batterySwitchPair_3 :
    (let s := State.reset
     let s := s.putAt Reg.BFET_STATUS.STATE (0) (0) (3)
     let s := s.putAt Reg.VBB_STATUS.ILIM_IN (0) (0) (0)
     let s := s.putAt Reg.VBB_STATUS.ILIM_OUT (0) (0) (0)
     let s := s.putAt Hid.DSG_LIM (0) (0) (0)
     let s := s.putAt Hid.HB_N (0) (0) (20)
     s.bfet = 3 ∧
     s.on Reg.VBB_STATUS.ILIM_IN 0 = false ∧
     s.on Reg.VBB_STATUS.ILIM_OUT 0 = false ∧
     s.get Hid.DSG_LIM 0 ≤ s.get Reg.BFET_CTRL.IBAT_DLIM 0 ∧
     20 ≤ s.get Hid.HB_N 0) ∧
    (let s := State.reset
     let s := s.putAt Reg.BFET_STATUS.STATE (0) (0) (3)
     let s := s.putAt Reg.VBB_STATUS.ILIM_IN (0) (0) (0)
     let s := s.putAt Reg.VBB_STATUS.ILIM_OUT (0) (0) (0)
     let s := s.putAt Hid.DSG_LIM (0) (0) (9)
     let s := s.putAt Reg.BFET_CTRL.IBAT_DLIM (0) (0) (4)
     let s := s.putAt Hid.HB_N (0) (0) (20)
     s.bfet = 3 ∧
     s.on Reg.VBB_STATUS.ILIM_IN 0 = false ∧
     s.on Reg.VBB_STATUS.ILIM_OUT 0 = false ∧
     s.get Reg.BFET_CTRL.IBAT_DLIM 0 < s.get Hid.DSG_LIM 0 ∧
     s.get Hid.DSG_LIM 0 < 2 ^ Hid.DSG_LIM.wid ∧
     20 ≤ s.get Hid.HB_N 0) ∧
    (let s := State.reset
     let s := s.putAt Reg.BFET_STATUS.STATE (0) (0) (1)
     let s := s.putAt Reg.IIN_STATUS.VAUX_OK (0) (0) (1)
     let s := s.putAt Hid.HPD_GO (0) (0) (1)
     s.modeRefused = false ∧
     s.bfet = 1) ∧
    (let s := State.reset
     let s := s.putAt Reg.BFET_STATUS.STATE (0) (0) (0)
     let s := s.putAt Reg.IIN_STATUS.VAUX_OK (0) (0) (1)
     let s := s.putAt Hid.HPD_GO (0) (0) (1)
     s.modeRefused = false ∧
     s.bfet = 0) := by decide +kernel

/-- States and operands that meet the hypotheses of BatterySwitchPair. -/
theorem wit_batterySwitchPair_4 :
    (let s := State.reset
     let s := s.putAt Reg.BFET_STATUS.STATE (0) (0) (0)
     let s := s.putAt Reg.IIN_STATUS.VAUX_OK (0) (0) (1)
     let s := s.putAt Hid.HPD_GO (0) (0) (1)
     let s := s.putAt Hid.H_TSD (0) (0) (0)
     let s := s.putAt Reg.VBB_STATUS.VBB (0) (0) (20000)
     let s := s.putAt Reg.BFET_STATUS.DSG_OC (0) (0) (0)
     let s := s.putAt Reg.BFET_STATUS.DSG_SHORT (0) (0) (0)
     s.modeRefused = false ∧
     s.bfet = 0 ∧
     s.pairFaulted = false ∧
     s.triggerNow = none) ∧
    (let s := State.reset
     let s := s.putAt Reg.BFET_STATUS.STATE (0) (0) (1)
     let s := s.putAt Reg.IIN_STATUS.VAUX_OK (0) (0) (1)
     let s := s.putAt Hid.HPD_GO (0) (0) (1)
     s.modeRefused = false ∧
     (s.bfet = 1 ∨ s.pairFaulted)) ∧
    (let s := State.reset
     let s := s.putAt Reg.BFET_STATUS.STATE (0) (0) (2)
     s.modeRefused) ∧
    (let oc : Bool := true
     let short : Bool := true
     let s := State.reset
     let s := s.putAt Reg.BFET_STATUS.STATE (0) (0) (0)
     let s := s.putAt Reg.IIN_STATUS.VAUX_OK (0) (0) (1)
     let s := s.putAt Hid.HPD_GO (0) (0) (1)
     let s := s.putAt Hid.H_TSD (0) (0) (0)
     let s := s.putAt Reg.VBB_STATUS.VBB (0) (0) (20000)
     let s := s.putAt Reg.BFET_STATUS.DSG_OC (0) (0) (1)
     let s := s.putAt Reg.BFET_CTRL.MODE (0) (0) (1)
     oc = true ∧
     short = true ∧
     s.pairFaulted ∧
     s.bfet = 0 ∧
     s.get Reg.BFET_CTRL.MODE 0 = 1 ∧
     s.triggerNow = none) := by decide +kernel

/-- States and operands that meet the hypotheses of BatterySwitchPair. -/
theorem wit_batterySwitchPair_5 :
    (let s := State.reset
     let s := s.putAt Reg.BFET_STATUS.STATE (0) (0) (2)
     (s.bfet ≠ 0 ∨ s.get Reg.BFET_CTRL.MODE 0 = 0)) := by decide +kernel

/-- States and operands that meet the hypotheses of ChargerPhases. -/
theorem wit_chargerPhases_1 :
    (let en : Bool := true
     let s := State.reset
     let s := s.putAt Reg.CHG_CFG.CHG_EN (0) (0) (0)
     let s := s.putAt Reg.CHG_STATUS.PHASE (0) (0) (0)
     let s := s.putAt Reg.IIN_STATUS.VAUX_OK (0) (0) (1)
     let s := s.putAt Reg.BFET_STATUS.STATE (0) (0) (1)
     let s := s.putAt Reg.CHG_STATUS.WINDOW (0) (0) (0)
     let s := s.putAt Reg.PACK_STATUS.AUTH_STATE (0) (0) (5)
     let s := s.putAt Hid.H_TSD (0) (0) (0)
     let s := s.putAt Hid.HPD_GO (0) (0) (1)
     en = true ∧
     s.on Reg.CHG_CFG.CHG_EN 0 = false ∧
     s.chg = Chg.off ∧
     s.chgStops = false) ∧
    (let en : Bool := false
     let s := State.reset
     let s := s.putAt Reg.CHG_STATUS.PHASE (0) (0) (4)
     en = false ∧
     s.chg = Chg.cc) ∧
    (let s := State.reset
     let s := s.putAt Reg.CHG_STATUS.PHASE (0) (0) (2)
     let s := s.putAt Hid.CHG_N (0) (0) (100000)
     let s := s.putAt Hid.VBAT_NOW (0) (0) (11900)
     s.chg = Chg.trickle ∧
     s.chgLeaves ∧
     100000 ≤ s.get Hid.CHG_N 0) ∧
    (let s := State.reset
     let s := s.putAt Reg.CHG_STATUS.PHASE (0) (0) (3)
     let s := s.putAt Hid.CHG_N (0) (0) (100000)
     let s := s.putAt Hid.VBAT_NOW (0) (0) (16000)
     s.chg = Chg.pre ∧
     s.chgLeaves ∧
     100000 ≤ s.get Hid.CHG_N 0) := by decide +kernel

/-- States and operands that meet the hypotheses of ChargerPhases. -/
theorem wit_chargerPhases_2 :
    (let s := State.reset
     let s := s.putAt Reg.CHG_STATUS.PHASE (0) (0) (4)
     let s := s.putAt Reg.CHG_LEVELS.VCV (0) (0) (1460)
     let s := s.putAt Hid.VBAT_NOW (0) (0) (16000)
     s.chg = Chg.cc ∧
     s.vcvNow ≤ s.vbat) ∧
    (let s := State.reset
     let s := s.putAt Reg.CHG_STATUS.PHASE (0) (0) (5)
     let s := s.putAt Hid.CHG_N (0) (0) (3000000)
     let s := s.putAt Hid.IBAT_NOW (0) (0) (0)
     let s := s.putAt Reg.CHG_CFG.ITERM (0) (0) (2)
     s.chg = Chg.cv ∧
     s.chgLeaves ∧
     3000000 ≤ s.get Hid.CHG_N 0) ∧
    (let s := State.reset
     let s := s.putAt Reg.CHG_STATUS.PHASE (0) (0) (6)
     let s := s.putAt Reg.IIN_STATUS.VAUX_OK (0) (0) (1)
     let s := s.putAt Reg.BFET_STATUS.STATE (0) (0) (1)
     let s := s.putAt Reg.CHG_STATUS.WINDOW (0) (0) (0)
     let s := s.putAt Reg.PACK_STATUS.AUTH_STATE (0) (0) (5)
     let s := s.putAt Hid.H_TSD (0) (0) (0)
     let s := s.putAt Hid.HPD_GO (0) (0) (1)
     let s := s.putAt Hid.CHG_N (0) (0) (1000000)
     let s := s.putAt Reg.CHG_LEVELS.VCV (0) (0) (1460)
     let s := s.putAt Hid.VBAT_NOW (0) (0) (100)
     s.chg = Chg.done ∧
     s.chgStops = false ∧
     s.chgLeaves ∧
     1000000 ≤ s.get Hid.CHG_N 0) ∧
    (let s := State.reset
     let s := s.putAt Hid.BTS_N (0) (0) (100)
     s.on Reg.CHG_FAULT.BTS_FLT 0 = false ∧
     100 ≤ s.get Hid.BTS_N 0) := by decide +kernel

/-- States and operands that meet the hypotheses of ChargerPhases. -/
theorem wit_chargerPhases_3 :
    (let s := State.reset
     let s := s.putAt Reg.CHG_STATUS.PHASE (0) (0) (3)
     let s := s.putAt Reg.CHG_TIMERS.TPRE (0) (0) (1)
     let s := s.putAt Hid.CHG_TQ (0) (1) (120000)
     s.timerDue ∧
     s.on (timerLatch (timerOf s.chg)) 0 = false) ∧
    (let s := State.reset
     let s := s.putAt Reg.CHG_STATUS.PHASE (0) (0) (5)
     let s := s.putAt Hid.BOV_N (0) (0) (100)
     s.on Reg.CHG_FAULT.BAT_OV 0 = false ∧
     100 ≤ s.get Hid.BOV_N 0) ∧
    (let s := State.reset
     let s := s.putAt Reg.CHG_STATUS.PHASE (0) (0) (2)
     let s := s.putAt Hid.BSH_N (0) (0) (200000)
     s.chg = Chg.trickle ∧
     s.on Reg.CHG_FAULT.BAT_SHORT 0 = false ∧
     200000 ≤ s.get Hid.BSH_N 0) ∧
    (let s := State.reset
     let s := s.putAt Reg.CHG_STATUS.PHASE (0) (0) (2)
     let s := s.putAt Hid.COC_N (0) (0) (100)
     s.on Reg.CHG_FAULT.CHG_OC 0 = false ∧
     100 ≤ s.get Hid.COC_N 0) := by decide +kernel

/-- States and operands that meet the hypotheses of ChargerPhases. -/
theorem wit_chargerPhases_4 :
    (let s := State.reset
     let s := s.putAt Reg.CHG_STATUS.PHASE (0) (0) (1)
     s.on Hid.PT_BUSY 0 = false ∧
     s.chg = Chg.detect) ∧
    (let s := State.reset
     let s := s.putAt Hid.PT_N (0) (0) (1000000)
     let s := s.putAt Reg.BFET_STATUS.STATE (0) (0) (1)
     s.on Hid.PT_BUSY 0 = false ∧
     (s.chg = Chg.off ∨ Chg.done ≤ s.chg) ∧
     s.bfet ≤ 1 ∧
     1000000 ≤ s.get Hid.PT_N 0) ∧
    (let s := State.reset
     let s := s.putAt Hid.PT_BUSY (0) (0) (1)
     let s := s.putAt Hid.PT_N (0) (0) (2000)
     let s := s.putAt Reg.CHG_STATUS.PHASE (0) (0) (1)
     let s := s.putAt Hid.PT_MIN (0) (0) (900)
     s.on Hid.PT_BUSY 0 ∧
     2000 ≤ s.get Hid.PT_N 0 ∧
     s.missing ∧
     s.chg = Chg.detect ∧
     s.on Reg.CHG_FAULT.NO_BAT 0 = false) ∧
    (let s := State.reset
     let s := s.putAt Hid.PT_BUSY (0) (0) (1)
     let s := s.putAt Hid.PT_N (0) (0) (2000)
     let s := s.putAt Reg.CHG_STATUS.PHASE (0) (0) (6)
     let s := s.putAt Hid.PT_MIN (0) (0) (12000)
     let s := s.putAt Hid.PT_V0 (0) (0) (12000)
     s.on Hid.PT_BUSY 0 ∧
     2000 ≤ s.get Hid.PT_N 0 ∧
     s.missing = false ∧
     s.chg ≠ Chg.detect) := by decide +kernel

/-- States and operands that meet the hypotheses of ChargerPhases. -/
theorem wit_chargerPhases_5 :
    (let id : Option (BitVec 64) := (some 5)
     let s := State.reset
     let s := s.putAt Hid.PT_BUSY (0) (0) (1)
     let s := s.putAt Hid.PT_N (0) (0) (2000)
     let s := s.putAt Reg.CHG_STATUS.PHASE (0) (0) (1)
     let s := s.putAt Hid.PT_MIN (0) (0) (12000)
     let s := s.putAt Hid.PT_V0 (0) (0) (12000)
     let s := s.putAt Reg.CHG_CFG.CHG_EN (0) (0) (1)
     let s := s.putAt Reg.CHG_STATUS.BAT_PRESENT (0) (0) (1)
     let s := s.putAt Hid.SWAP_PEND (0) (0) (0)
     let s := s.putAt Hid.PACK_ID (0) (0) (5)
     let s := s.putAt Reg.IIN_STATUS.VAUX_OK (0) (0) (1)
     let s := s.putAt Reg.BFET_STATUS.STATE (0) (0) (1)
     let s := s.putAt Reg.CHG_STATUS.WINDOW (0) (0) (0)
     let s := s.putAt Reg.PACK_STATUS.AUTH_STATE (0) (0) (5)
     let s := s.putAt Hid.H_TSD (0) (0) (0)
     let s := s.putAt Hid.HPD_GO (0) (0) (1)
     s.on Hid.PT_BUSY 0 ∧
     2000 ≤ s.get Hid.PT_N 0 ∧
     s.missing = false ∧
     s.chg = Chg.detect ∧
     s.on Reg.CHG_CFG.CHG_EN 0 ∧
     s.on Reg.CHG_STATUS.BAT_PRESENT 0 ∧
     id = some (BitVec.ofNat 64 (s.get Hid.PACK_ID 0)) ∧
     s.on Hid.SWAP_PEND 0 = false ∧
     s.chgStops = false) ∧
    (let mask : BitVec 9 := 511
     let s := State.reset
     let s := s.putAt Reg.CHG_STATUS.PHASE (0) (0) (8)
     let s := s.putAt Reg.CHG_CFG.CHG_EN (0) (0) (1)
     let s := s.putAt Reg.IIN_STATUS.VAUX_OK (0) (0) (1)
     let s := s.putAt Reg.BFET_STATUS.STATE (0) (0) (1)
     let s := s.putAt Reg.CHG_STATUS.WINDOW (0) (0) (0)
     let s := s.putAt Reg.PACK_STATUS.AUTH_STATE (0) (0) (5)
     let s := s.putAt Hid.H_TSD (0) (0) (0)
     let s := s.putAt Hid.HPD_GO (0) (0) (1)
     mask.toNat % 256 = 255 ∧
     s.chg = Chg.fault ∧
     s.on Reg.CHG_CFG.CHG_EN 0 ∧
     s.chgStops = false ∧
     (s.on Reg.CHG_FAULT.BTS_FLT 0 = false ∨ mask.toNat.testBit Reg.CHG_FAULT.BTS_FLT.lo)) ∧
    (let s := State.reset
     s.chg ≠ Chg.fault) := by decide +kernel

/-- States and operands that meet the hypotheses of GaugeFramesAndAnchors. -/
theorem wit_gaugeFramesAndAnchors_1 :
    (let u : Int := -30000
     let s := State.reset
     let s := s.putAt Reg.GG_STATUS.HIB (0) (0) (0)
     let s := s.putAt Hid.FULL_PEND (0) (0) (0)
     let s := s.putAt Reg.GG_SCALE.RSH (0) (0) (100)
     s.on Reg.GG_STATUS.HIB 0 = false ∧
     s.on Hid.FULL_PEND 0 = false ∧
     (s.getI Hid.GG_Q 0).natAbs ≤ 2 ^ 62 ∧
     (s.shuntMa u).natAbs ≤ 2 ^ 40) ∧
    (let s := State.reset
     let s := s.putAt Reg.GG_STATUS.HIB (0) (0) (0)
     let s := s.putAt Hid.FULL_PEND (0) (0) (1)
     let s := s.putAt Hid.EMPTY_N (0) (0) (3)
     s.on Reg.GG_STATUS.HIB 0 = false ∧
     s.on Hid.FULL_PEND 0 ∧
     s.get Hid.EMPTY_N 0 ≠ 499 ∧
     s.get Hid.EMPTY_N 0 ≠ 500) ∧
    (let s := State.reset
     let s := s.putAt Hid.EMPTY_N (0) (0) (500)
     let s := s.putAt Reg.REIN_STATUS.ACTIVE (0) (0) (0)
     let s := s.putAt Reg.REIN_STATUS.ACTIVE (1) (0) (0)
     s.get Hid.EMPTY_N 0 = 500) ∧
    (let s := State.reset
     let s := s.putAt Hid.HIB_N (0) (0) (60000)
     let s := s.putAt Reg.GG_STATUS.HIB (0) (0) (0)
     60000 ≤ s.get Hid.HIB_N 0 ∧
     s.on Reg.GG_STATUS.HIB 0 = false) := by decide +kernel

/-- States and operands that meet the hypotheses of GaugeFramesAndAnchors. -/
theorem wit_gaugeFramesAndAnchors_2 :
    (let u : Int := -90000
     let s := State.reset
     let s := s.putAt Reg.GG_STATUS.HIB (0) (0) (1)
     let s := s.putAt Reg.GG_SCALE.RSH (0) (0) (100)
     s.on Reg.GG_STATUS.HIB 0 ∧
     (s.getI Hid.GG_Q 0).natAbs ≤ 2 ^ 62 ∧
     (s.shuntMa u).natAbs ≤ 2 ^ 40) ∧
    (let a : Mgr := 0
     let s := State.reset
     let s := s.putAt Reg.REIN_STATUS.ACTIVE (0) (0) (1)
     let s := s.putAt Reg.REIN_STATUS.ACTIVE (1) (0) (0)
     let s := s.putAt Hid.PRESENT (0) (0) (1)
     let s := s.putAt Reg.GG_STATUS.HIB (0) (0) (0)
     let s := s.putAt Hid.STORE_N (0) (0) (60000)
     s.on Reg.GG_STATUS.HIB 0 = false ∧
     60000 ≤ s.get Hid.STORE_N 0 ∧
     s.active = some a.val) ∧
    (let a : Mgr := 0
     let s := State.reset
     let s := s.putAt Reg.REIN_STATUS.ACTIVE (0) (0) (1)
     let s := s.putAt Reg.REIN_STATUS.ACTIVE (1) (0) (0)
     let s := s.putAt Hid.PRESENT (0) (0) (1)
     s.active = some a.val) ∧
    (let s := State.reset
     let s := s.putAt Reg.REIN_STATUS.ACTIVE (0) (0) (0)
     let s := s.putAt Reg.REIN_STATUS.ACTIVE (1) (0) (0)
     s.active = none) := by decide +kernel

/-- States and operands that meet the hypotheses of PackAuthentication. -/
theorem wit_packAuthentication_1 :
    (let s := State.reset
     let s := s.putAt Reg.REIN_STATUS.ACTIVE (0) (0) (1)
     let s := s.putAt Reg.REIN_STATUS.ACTIVE (1) (0) (0)
     let s := s.putAt Hid.PRESENT (0) (0) (1)
     let s := s.putAt Hid.AUTH_RUN (0) (0) (0)
     let s := s.putAt Reg.CHG_STATUS.BAT_PRESENT (0) (0) (1)
     let s := s.putAt Reg.PACK_CFG.AUTH_REQ (0) (0) (1)
     s.on Hid.AUTH_RUN 0 = false ∧
     s.on Reg.CHG_STATUS.BAT_PRESENT 0 ∧
     s.on Reg.PACK_CFG.AUTH_REQ 0 ∧
     s.active.isSome) ∧
    (let reply : List Byte := (let h := [0x81#8, 8#8] ++ leBytes 8 5; h ++ [crc8 h])
     let b : List Byte := (leBytes 8 5)
     let s := State.reset
     let s := s.putAt Reg.REIN_STATUS.ACTIVE (0) (0) (1)
     let s := s.putAt Reg.REIN_STATUS.ACTIVE (1) (0) (0)
     let s := s.putAt Hid.PRESENT (0) (0) (1)
     let s := s.putAt Hid.AUTH_RUN (0) (0) (1)
     let s := s.putAt Hid.PACK_ID (0) (0) (5)
     s.get Hid.AUTH_RUN 0 = 1 ∧
     packPayload 1 8 reply = some b ∧
     leNat b = s.get Hid.PACK_ID 0 ∧
     s.active.isSome) ∧
    (let reply : List Byte := (let h := [0x81#8, 8#8] ++ leBytes 8 5; h ++ [crc8 h])
     let b : List Byte := (leBytes 8 5)
     let s := State.reset
     let s := s.putAt Reg.REIN_STATUS.ACTIVE (0) (0) (1)
     let s := s.putAt Reg.REIN_STATUS.ACTIVE (1) (0) (0)
     let s := s.putAt Hid.PRESENT (0) (0) (1)
     let s := s.putAt Hid.AUTH_RUN (0) (0) (1)
     let s := s.putAt Hid.PACK_ID (0) (0) (9)
     s.get Hid.AUTH_RUN 0 = 1 ∧
     packPayload 1 8 reply = some b ∧
     leNat b ≠ s.get Hid.PACK_ID 0 ∧
     s.active.isSome) ∧
    (let reply : List Byte := []
     let s := State.reset
     let s := s.putAt Hid.AUTH_RUN (0) (0) (1)
     let s := s.putAt Hid.AUTH_Q (0) (0) (0)
     s.get Hid.AUTH_RUN 0 = 1 ∧
     packPayload 1 8 reply = none ∧
     s.on Hid.AUTH_Q 0 = false) := by decide +kernel

/-- States and operands that meet the hypotheses of PackAuthentication. -/
theorem wit_packAuthentication_2 :
    (let reply : List Byte := (let h := [0x82#8, 32#8] ++ leBytes 32 5; h ++ [crc8 h])
     let b : List Byte := (leBytes 32 5)
     let s := State.reset
     let s := s.putAt Reg.REIN_STATUS.ACTIVE (0) (0) (1)
     let s := s.putAt Reg.REIN_STATUS.ACTIVE (1) (0) (0)
     let s := s.putAt Hid.PRESENT (0) (0) (1)
     let s := s.putAt Hid.AUTH_RUN (0) (0) (2)
     let s := s.putAt Hid.AUTH_Q (0) (0) (0)
     s.get Hid.AUTH_RUN 0 = 2 ∧
     packPayload 2 32 reply = some b ∧
     s.active.isSome ∧
     s.on Hid.AUTH_Q 0 = false) ∧
    (let reply : List Byte := (let h := [0x82#8, 32#8] ++ leBytes 32 5; h ++ [crc8 h])
     let b : List Byte := (leBytes 32 5)
     let s := State.reset
     let s := s.putAt Reg.REIN_STATUS.ACTIVE (0) (0) (1)
     let s := s.putAt Reg.REIN_STATUS.ACTIVE (1) (0) (0)
     let s := s.putAt Hid.PRESENT (0) (0) (1)
     let s := s.putAt Hid.AUTH_RUN (0) (0) (2)
     let s := s.putAt Hid.AUTH_Q (0) (0) (1)
     let s := s.putAt Reg.CHG_STATUS.BAT_PRESENT (0) (0) (1)
     let s := s.putAt Reg.PACK_CFG.AUTH_REQ (0) (0) (1)
     s.get Hid.AUTH_RUN 0 = 2 ∧
     packPayload 2 32 reply = some b ∧
     s.active.isSome ∧
     s.on Hid.AUTH_Q 0 ∧
     s.on Reg.CHG_STATUS.BAT_PRESENT 0 ∧
     s.on Reg.PACK_CFG.AUTH_REQ 0) ∧
    (let reply : List Byte := []
     let s := State.reset
     let s := s.putAt Hid.AUTH_RUN (0) (0) (2)
     let s := s.putAt Hid.AUTH_Q (0) (0) (0)
     s.get Hid.AUTH_RUN 0 = 2 ∧
     packPayload 2 32 reply = none ∧
     s.on Hid.AUTH_Q 0 = false) ∧
    (let s := State.reset
     let s := s.putAt Hid.AUTH_RUN (0) (0) (1)
     let s := s.putAt Hid.AUTH_N (0) (0) (2000)
     let s := s.putAt Hid.AUTH_Q (0) (0) (0)
     s.packLate ∧
     s.on Hid.AUTH_Q 0 = false) := by decide +kernel

/-- States and operands that meet the hypotheses of PackAuthentication. -/
theorem wit_packAuthentication_3 :
    (let s := State.reset
     let s := s.putAt Reg.REIN_STATUS.ACTIVE (0) (0) (1)
     let s := s.putAt Reg.REIN_STATUS.ACTIVE (1) (0) (0)
     let s := s.putAt Hid.PRESENT (0) (0) (1)
     let s := s.putAt Hid.AUTH_RUN (0) (0) (0)
     let s := s.putAt Reg.CHG_STATUS.BAT_PRESENT (0) (0) (1)
     let s := s.putAt Reg.PACK_CFG.AUTH_REQ (0) (0) (1)
     let s := s.putAt Reg.PACK_STATUS.AUTH_STATE (0) (0) (4)
     let s := s.putAt Hid.AUTH_N (0) (0) (1000000)
     s.authDue ∧
     s.on Hid.AUTH_RUN 0 = false ∧
     s.on Reg.CHG_STATUS.BAT_PRESENT 0 ∧
     s.on Reg.PACK_CFG.AUTH_REQ 0 ∧
     s.active.isSome) := by decide +kernel

/-- States and operands that meet the hypotheses of MetCounting. -/
theorem wit_metCounting_1 :
    (let serial : BitVec 64 := 5
     let sok : Bool := false
     let s := State.reset
     let s := s.putAt Hid.MET_UP (0) (0) (0)
     let s := s.putAt Hid.MET_LOCKED (0) (0) (0)
     s.metUp = false ∧
     s.on Hid.MET_LOCKED 0 = false ∧
     serial ≠ 0 ∧
     sok = false) ∧
    (let sok : Bool := true
     let kok : Bool := true
     let bok : BitVec 4 := 15
     let s := State.reset
     let s := s.putAt Hid.MET_UP (0) (0) (0)
     let s := s.putAt Hid.MET_LOCKED (0) (0) (0)
     s.metUp = false ∧
     s.on Hid.MET_LOCKED 0 = false ∧
     sok = true ∧
     kok = true ∧
     bok = 15) ∧
    (let xi : BitVec 25 := 8000000
     let s := State.reset
     let s := s.putAt Hid.MET_UP (0) (0) (1)
     let s := s.putAt Hid.MET_FAULTED (0) (0) (0)
     let s := s.putAt Hid.STUCK (0) (0) (0)
     let s := s.putAt Hid.STUCK (0) (1) (0)
     let s := s.putAt Hid.E_IMP (0) (0) (77)
     let s := s.putAt Hid.REM_IMP (0) (0) (999999)
     s.metRuns ∧
     s.metStuck = false ∧
     s.get Hid.E_IMP 0 < 2 ^ 62 ∧
     s.get Hid.REM_IMP 0 < 1000000 ∧
     0 < metScale s.metCal.fsI s.metCal.gainI s.metCal.ofsI (metClamp xi.toInt)) ∧
    (let xi : BitVec 25 := (-8000000)
     let s := State.reset
     let s := s.putAt Hid.MET_UP (0) (0) (1)
     let s := s.putAt Hid.MET_FAULTED (0) (0) (0)
     let s := s.putAt Hid.STUCK (0) (0) (0)
     let s := s.putAt Hid.STUCK (0) (1) (0)
     let s := s.putAt Hid.E_EXP (0) (0) (77)
     let s := s.putAt Hid.REM_EXP (0) (0) (999999)
     s.metRuns ∧
     s.metStuck = false ∧
     s.get Hid.E_EXP 0 < 2 ^ 62 ∧
     s.get Hid.REM_EXP 0 < 1000000 ∧
     metScale s.metCal.fsI s.metCal.gainI s.metCal.ofsI (metClamp xi.toInt) < 0) := by decide +kernel

/-- States and operands that meet the hypotheses of MetCounting. -/
theorem wit_metCounting_2 :
    (let s := State.reset
     let s := s.putAt Hid.MET_UP (0) (0) (1)
     let s := s.putAt Hid.MET_FAULTED (0) (0) (0)
     let s := s.putAt Hid.STUCK (0) (0) (1)
     s.metRuns ∧
     s.metStuck) ∧
    (let s := State.reset
     let s := s.putAt Hid.MET_UP (0) (0) (1)
     let s := s.putAt Hid.MET_FAULTED (0) (0) (0)
     s.metRuns) ∧
    (let s := State.reset
     let s := s.putAt Hid.MET_UP (0) (0) (1)
     let s := s.putAt Hid.MET_FAULTED (0) (0) (0)
     let s := s.putAt Hid.STUCK (0) (0) (0)
     let s := s.putAt Hid.STUCK (0) (1) (0)
     let s := s.putAt Hid.PULSE_ACC (0) (0) (99999999)
     let s := s.putAt Hid.HALF_NOW (0) (0) (1)
     s.metRuns ∧
     s.metStuck = false ∧
     100000000 ≤ s.get Hid.PULSE_ACC 0 + s.get Hid.HALF_NOW 0 ∧
     s.get Hid.PULSE_ACC 0 + s.get Hid.HALF_NOW 0 < 2 ^ 32) ∧
    (let s := State.reset
     let s := s.putAt Hid.MET_UP (0) (0) (1)
     let s := s.putAt Hid.MET_FAULTED (0) (0) (0)
     let s := s.putAt Hid.PULSE_ACC (0) (0) (5)
     let s := s.putAt Hid.HALF_NOW (0) (0) (1)
     s.metRuns ∧
     s.get Hid.PULSE_ACC 0 + s.get Hid.HALF_NOW 0 < 100000000) := by decide +kernel

/-- States and operands that meet the hypotheses of MetCounting. -/
theorem wit_metCounting_3 :
    (let s := State.reset
     let s := s.putAt Hid.PULSE_LEN (0) (0) (1)
     s.pulseOver) ∧
    (let k : Fin 2 := 0
     let s := State.reset
     let s := s.putAt Hid.MET_UP (0) (0) (1)
     let s := s.putAt Hid.MET_FAULTED (0) (0) (0)
     let s := s.putAt Hid.DENS_N (0) (k) (4)
     s.metRuns ∧
     s.metSticks k) ∧
    (let s := State.reset
     let s := s.putAt Hid.FREE_N (0) (0) (40)
     40 ≤ s.get Hid.FREE_N 0) ∧
    (let count : BitVec 16 := 0
     let s := State.reset
     let s := s.putAt Hid.MET_UP (0) (0) (1)
     s.metUp ∧
     metClockOk count.toNat = false) := by decide +kernel

/-- States and operands that meet the hypotheses of MetCounting. -/
theorem wit_metCounting_4 :
    (let count : BitVec 16 := 25000
     let s := State.reset
     let s := s.putAt Hid.MET_UP (0) (0) (1)
     s.metUp ∧
     metClockOk count.toNat) ∧
    (let done : Bool := false
     let s := State.reset
     let s := s.putAt Hid.MET_UP (0) (0) (1)
     let s := s.putAt Hid.MET_FAULTED (0) (0) (0)
     let s := s.putAt Hid.OPSEC (0) (0) (1800)
     s.metRuns ∧
     s.get Hid.OPSEC 0 % 900 = 0 ∧
     s.get Hid.OPSEC 0 ≠ 0 ∧
     s.metTaken = false ∧
     done = false) ∧
    (let done : Bool := true
     let s := State.reset
     let s := s.putAt Hid.MET_UP (0) (0) (1)
     let s := s.putAt Hid.MET_FAULTED (0) (0) (0)
     let s := s.putAt Hid.OPSEC (0) (0) (1800)
     s.metRuns ∧
     s.get Hid.OPSEC 0 % 900 = 0 ∧
     s.get Hid.OPSEC 0 ≠ 0 ∧
     s.metTaken = false ∧
     done = true) ∧
    (let s := State.reset
     let s := s.putAt Hid.MET_UP (0) (0) (1)
     let s := s.putAt Hid.MET_FAULTED (0) (0) (0)
     let s := s.putAt Hid.TALLY_N (0) (0) (400)
     Memory.wf s.mem = true ∧
     s.metRuns ∧
     400 ≤ s.get Hid.TALLY_N 0) := by decide +kernel

/-- States and operands that meet the hypotheses of MetCounting. -/
theorem wit_metCounting_5 :
    (let s := State.reset
     let s := s.putAt Hid.MET_UP (0) (0) (1)
     let s := s.putAt Hid.MET_FAULTED (0) (0) (0)
     s.metRuns) ∧
    (let s := State.reset
     let s := s.putAt Hid.MET_UP (0) (0) (1)
     let s := s.putAt Hid.MET_FAULTED (0) (0) (0)
     s.metRuns) := by decide +kernel

/-- States and operands that meet the hypotheses of MetReadOutAndCalibration. -/
theorem wit_metReadOutAndCalibration_1 :
    (let s := State.reset
     let s := s.putAt Hid.MET_UP (0) (0) (1)
     let s := s.putAt Hid.PRESENT (0) (0) (1)
     let s := s.putAt Hid.PRESENT (1) (0) (1)
     s.metUp) ∧
    (let rep : MetRepeat := .health
     let s := State.reset
     let s := s.putAt Hid.MET_UP (0) (0) (1)
     let s := s.putAt Hid.PRESENT (0) (0) (1)
     let s := s.putAt Hid.PRESENT (1) (0) (1)
     s.metUp ∧
     rep = MetRepeat.health) ∧
    (let rep : MetRepeat := .ident
     let s := State.reset
     let s := s.putAt Hid.MET_UP (0) (0) (1)
     let s := s.putAt Hid.PRESENT (0) (0) (1)
     let s := s.putAt Hid.PRESENT (1) (0) (1)
     s.metUp ∧
     rep = MetRepeat.ident) ∧
    (let rep : MetRepeat := .record
     let x : MetRec := ⟨1,0,5,7,0,900,0,1,8,9,0,0,1,2,3,4,0,0,0,true⟩
     let s := State.reset
     let s := s.putAt Hid.MET_UP (0) (0) (1)
     let s := s.putAt Hid.PRESENT (0) (0) (1)
     let s := s.putAt Hid.PRESENT (1) (0) (1)
     let s := { s with metArch := [⟨1,0,5,7,0,900,0,1,8,9,0,0,1,2,3,4,0,0,0,true⟩] }
     s.metUp ∧
     rep = MetRepeat.record ∧
     s.metNewest = some x) := by decide +kernel

/-- States and operands that meet the hypotheses of MetReadOutAndCalibration. -/
theorem wit_metReadOutAndCalibration_2 :
    (let rep : MetRepeat := .record
     let s := State.reset
     let s := s.putAt Hid.MET_UP (0) (0) (1)
     s.metUp ∧
     rep = MetRepeat.record ∧
     s.metNewest = none) ∧
    (let m : Mgr := 0
     let s := State.reset
     let s := s.putAt Hid.MET_UP (0) (0) (1)
     let s := s.putAt Hid.PRESENT (m) (0) (1)
     let s := s.putAt Hid.MET_ASKED (0) (m) (1)
     s.metUp ∧
     s.getAt Hid.MET_ASKED 0 m = 1 ∧
     s.on Hid.PRESENT m) ∧
    (let m : Mgr := 0
     let s := State.reset
     let s := s.putAt Hid.MET_UP (0) (0) (1)
     let s := s.putAt Hid.PRESENT (m) (0) (1)
     let s := s.putAt Hid.MET_ASKED (0) (m) (2)
     s.metUp ∧
     s.getAt Hid.MET_ASKED 0 m = 2 ∧
     s.on Hid.PRESENT m) ∧
    (let m : Mgr := 0
     let s := State.reset
     let s := s.putAt Hid.MET_UP (0) (0) (1)
     let s := s.putAt Hid.PRESENT (m) (0) (1)
     let s := s.putAt Hid.MET_ASKED (0) (m) (3)
     let s := { s with metArch := [⟨1,0,5,7,0,900,0,1,8,9,0,0,1,2,3,4,0,0,0,true⟩] }
     s.metUp ∧
     s.getAt Hid.MET_ASKED 0 m = 3 ∧
     s.on Hid.PRESENT m ∧
     s.metNewest.isSome) := by decide +kernel

/-- States and operands that meet the hypotheses of MetReadOutAndCalibration. -/
theorem wit_metReadOutAndCalibration_3 :
    (let m : Mgr := 0
     let s := State.reset
     let s := s.putAt Hid.MET_UP (0) (0) (1)
     let s := s.putAt Hid.MET_ASKED (0) (m) (3)
     s.metUp ∧
     s.getAt Hid.MET_ASKED 0 m = 3 ∧
     s.metNewest = none) ∧
    (let m : Mgr := 0
     let s := State.reset
     let s := s.putAt Hid.MET_UP (0) (0) (1)
     let s := s.putAt Hid.PRESENT (m) (0) (1)
     let s := s.putAt Hid.MET_ASKED (0) (m) (4)
     let s := s.putAt Hid.MET_PTR (0) (m) (3)
     let s := { s with metArch := [⟨1,0,5,7,0,900,0,1,8,9,0,0,1,2,3,4,0,0,0,true⟩] }
     s.metUp ∧
     s.getAt Hid.MET_ASKED 0 m = 4 ∧
     s.on Hid.PRESENT m ∧
     ((s.metArch.filter (fun x => x.isDone)).getLast?.any (fun o => decide (s.getAt Hid.MET_PTR 0 m ≤ o.recNo)))) ∧
    (let m : Mgr := 0
     let o : MetRec := ⟨1,0,5,7,0,900,0,1,8,9,0,0,1,2,3,4,0,0,0,true⟩
     let x : MetRec := ⟨1,0,5,8,0,900,0,1,8,9,0,0,1,2,3,4,0,0,0,true⟩
     let s := State.reset
     let s := s.putAt Hid.MET_UP (0) (0) (1)
     let s := s.putAt Hid.PRESENT (m) (0) (1)
     let s := s.putAt Hid.MET_ASKED (0) (m) (4)
     let s := s.putAt Hid.MET_PTR (0) (m) (9)
     let s := { s with metArch := [⟨1,0,5,8,0,900,0,1,8,9,0,0,1,2,3,4,0,0,0,true⟩, ⟨1,0,5,7,0,900,0,1,8,9,0,0,1,2,3,4,0,0,0,true⟩] }
     s.metUp ∧
     s.getAt Hid.MET_ASKED 0 m = 4 ∧
     s.on Hid.PRESENT m ∧
     ((s.metArch.filter (fun x => x.isDone)).getLast? = some o) ∧
     o.recNo < s.getAt Hid.MET_PTR 0 m ∧
     (s.metArch.find? (fun y => y.isDone && decide (y.recNo + 1 = s.getAt Hid.MET_PTR 0 m)) = some x)) ∧
    (let w : Who := .mc0
     let m : Mgr := 0
     let code : BitVec 3 := 2
     let s := State.reset
     let s := s.putAt Hid.MET_UP (0) (0) (1)
     let s := s.putAt Reg.MET_REQ.BUSY (s.reach w m) (0) (0)
     let s := s.putAt Hid.MET_ASKED (0) (s.reach w m) (0)
     s.on Reg.MET_REQ.BUSY (s.reach w m) = false ∧
     s.metUp ∧
     s.getAt Hid.MET_ASKED 0 (s.reach w m) = 0 ∧
     code.toNat < 4) := by decide +kernel

/-- States and operands that meet the hypotheses of MetReadOutAndCalibration. -/
theorem wit_metReadOutAndCalibration_4 :
    (let w : Who := .mc0
     let m : Mgr := 0
     let code : BitVec 3 := 5
     let s := State.reset
     let s := s.putAt Hid.MET_UP (0) (0) (1)
     let s := s.putAt Reg.MET_REQ.BUSY (s.reach w m) (0) (0)
     s.on Reg.MET_REQ.BUSY (s.reach w m) = false ∧
     (s.metUp = false ∨ s.getAt Hid.MET_ASKED 0 (s.reach w m) ≠ 0 ∨ 4 ≤ code.toNat)) ∧
    (let w : Who := .mc0
     let m : Mgr := 0
     let s := State.reset
     let s := s.putAt Reg.MET_REQ.BUSY (s.reach w m) (0) (1)
     s.on Reg.MET_REQ.BUSY (s.reach w m)) ∧
    (let m : Mgr := 0
     let s := State.reset
     let s := s.putAt Reg.MET_REQ.BUSY (m) (0) (1)
     let s := s.putAt Hid.BEAT (m) (0) (10000)
     let s := s.putAt Hid.MREQ_AT (m) (0) (0)
     s.on Reg.MET_REQ.BUSY m ∧
     s.metSince Hid.MREQ_AT m) ∧
    (let m : Mgr := 0
     let arrived : List Byte := []
     let s := State.reset
     let s := s.putAt Hid.PRESENT (m) (0) (1)
     let s := { s with metTxA := [⟨2, 1, [7]⟩], metTxB := [⟨2, 1, [7]⟩] }
     (metFirst (if m.val = 0 then s.metTxA else s.metTxB)).isSome ∧
     s.on Hid.PRESENT m ∧
     metParse arrived = none) := by decide +kernel

/-- States and operands that meet the hypotheses of MetReadOutAndCalibration. -/
theorem wit_metReadOutAndCalibration_5 :
    (let m : Mgr := 0
     let arrived : List Byte := (MetFrame.bytes ⟨2, 1, List.replicate 48 7⟩)
     let b : List Byte := (List.replicate 48 7)
     let s := State.reset
     let s := s.putAt Hid.PRESENT (m) (0) (1)
     let s := { s with metTxA := [⟨2, 1, List.replicate 48 7⟩], metTxB := [⟨2, 1, List.replicate 48 7⟩] }
     Memory.wf s.mem = true ∧
     (metFirst (if m.val = 0 then s.metTxA else s.metTxB)).isSome ∧
     s.on Hid.PRESENT m ∧
     metParse arrived = some ⟨0, 1, b⟩) ∧
    (let m : Mgr := 0
     let s := State.reset
     let s := s.putAt Reg.MET_LINK.LINK_OK (m) (0) (1)
     let s := s.putAt Hid.BEAT (m) (0) (10000)
     let s := s.putAt Hid.MLINK_AT (m) (0) (0)
     s.on Reg.MET_LINK.LINK_OK m ∧
     s.metSince Hid.MLINK_AT m) ∧
    (let b : MetBank := ⟨1000, 1000, 125000, 0, 0, 125000, 0, 0, 2, 0⟩
     let done : Bool := true
     let s := State.reset
     let s := s.putAt Hid.MET_UP (0) (0) (1)
     let s := s.putAt Hid.MET_LOCKED (0) (0) (0)
     let s := s.putAt Hid.MET_AUDIT (0) (0) (7)
     s.metUp ∧
     s.on Hid.MET_LOCKED 0 = false ∧
     metRefuses b = false ∧
     s.get Hid.MET_AUDIT 0 < 8 ∧
     done = true) ∧
    (let b : MetBank := ⟨1000, 1000, 125000, 0, 0, 125000, 0, 0, 2, 0⟩
     let done : Bool := false
     let s := State.reset
     let s := s.putAt Hid.MET_UP (0) (0) (1)
     let s := s.putAt Hid.MET_LOCKED (0) (0) (0)
     let s := s.putAt Hid.MET_AUDIT (0) (0) (7)
     s.metUp ∧
     s.on Hid.MET_LOCKED 0 = false ∧
     metRefuses b = false ∧
     s.get Hid.MET_AUDIT 0 < 8 ∧
     done = false) := by decide +kernel

/-- States and operands that meet the hypotheses of MetReadOutAndCalibration. -/
theorem wit_metReadOutAndCalibration_6 :
    (let b : MetBank := ⟨0,0,0,0,0,0,0,0,0,0⟩
     let s := State.reset
     let s := s.putAt Hid.MET_LOCKED (0) (0) (1)
     (s.on Hid.MET_LOCKED 0 ∨ b.pulse = 3 ∨ 8 ≤ s.get Hid.MET_AUDIT 0)) ∧
    (let key : BitVec 256 := 5
     let s := State.reset
     let s := s.putAt Hid.MET_UP (0) (0) (1)
     let s := s.putAt Hid.MET_LOCKED (0) (0) (0)
     let s := s.putAt Hid.MET_SERIAL_OK (0) (0) (1)
     let s := s.putAt Hid.MB_STATE (0) (0) (1)
     s.metUp ∧
     s.on Hid.MET_LOCKED 0 = false ∧
     s.on Hid.MET_SERIAL_OK 0 ∧
     s.metBankNo.isSome ∧
     0 < key.toNat ∧
     key.toNat < p256N) ∧
    (let m : Mgr := 0
     let arrived : List Byte := (MetFrame.bytes ⟨0, 4, List.replicate 32 7⟩)
     let b : List Byte := (List.replicate 32 7)
     let s := State.reset
     let s := s.putAt Hid.PRESENT (m) (0) (1)
     let s := { s with metTxA := [⟨0, 4, List.replicate 32 7⟩], metTxB := [⟨0, 4, List.replicate 32 7⟩] }
     Memory.wf s.mem = true ∧
     (metFirst (if m.val = 0 then s.metTxA else s.metTxB)).isSome ∧
     s.on Hid.PRESENT m ∧
     metParse arrived = some ⟨0, 4, b⟩) := by decide +kernel

/-- States and operands that meet the hypotheses of MirroredHalves. -/
theorem wit_mirroredHalves_1 :
    (let u : Tile := 0
     let r : Rail := 0
     let cause : Fin 16 := 2
     let s := State.reset
     let s := s.over (List.range 96) (fun s p => s.put Reg.PH_CFG.RAIL p 63)
     let s := s.putAt Reg.RAIL_SNS.PCHAN (s.homeIx r) (0) (3)
     let s := s.putAt Hid.HOME (0) (r) (u.val)
     let s := s.putAt Reg.PH_CFG.RAIL ((1 - u.val) * 24) (0) (r)
     let s := s.putAt Reg.RAIL_SNS.PCHAN (s.homeIx r) (0) (3)
     let s := s.putAt Reg.MIRR_STATUS.HALF (railIx u r) (0) (1)
     let s := s.putAt Hid.TSD_ON (u) (0) (1)
     s.lossHolds u r cause ∧
     s.carries u r ∧
     s.on Hid.HALF_DOWN (railIx u r) = false ∧
     s.half u r = Half.both ∧
     u.val ≠ s.otherTile u r) ∧
    (let u : Tile := 0
     let r : Rail := 0
     let s := State.reset
     let s := s.over (List.range 96) (fun s p => s.put Reg.PH_CFG.RAIL p 63)
     let s := s.putAt Hid.HOME (0) (r) (u.val)
     let s := s.putAt Reg.PH_CFG.RAIL ((1 - u.val) * 24) (0) (r)
     let s := s.putAt Reg.RAIL_SNS.PCHAN (s.homeIx r) (0) (3)
     let s := s.putAt Reg.MIRR_STATUS.HALF (railIx u r) (0) (1)
     let s := s.putAt Hid.HALF_DOWN (railIx u r) (0) (0)
     let s := s.putAt Hid.SLOT_OF (0) (r) (0)
     let s := s.putAt Hid.SLOT_DOWN (u) ((if u.val = 0 then 8 else 0)) (1)
     s.carries u r ∧
     (s.partner r).isSome ∧
     s.half u r ≠ s.onlyHalf u r ∧
     s.half u r ≠ Half.split ∧
     s.on Hid.HALF_DOWN (railIx u r) = false ∧
     s.downHeard u r) ∧
    (let u : Tile := 0
     let r : Rail := 0
     let s := State.reset
     let s := s.over (List.range 96) (fun s p => s.put Reg.PH_CFG.RAIL p 63)
     let s := s.putAt Hid.HOME (0) (r) (u.val)
     let s := s.putAt Reg.PH_CFG.RAIL ((1 - u.val) * 24) (0) (r)
     let s := s.putAt Reg.RAIL_SNS.PCHAN (s.homeIx r) (0) (3)
     let s := s.putAt Reg.MIRR_STATUS.HALF (railIx u r) (0) (1)
     let s := s.putAt Hid.HALF_DOWN (railIx u r) (0) (0)
     let s := s.putAt Hid.SLOT_OF (0) (r) (0)
     let s := s.putAt Hid.SLOT_AGE (u) ((if u.val = 0 then 8 else 0)) (8)
     let s := s.putAt Reg.MIRR_STATUS.HALF (railIx (1 - u.val) r) (0) (3)
     s.carries u r ∧
     (s.partner r).isSome ∧
     s.half u r ≠ s.onlyHalf u r ∧
     s.half u r ≠ Half.split ∧
     s.on Hid.HALF_DOWN (railIx u r) = false ∧
     s.downHeard u r = false ∧
     8 ≤ s.slotAge u r) ∧
    (let u : Tile := 0
     let r : Rail := 0
     let s := State.reset
     let s := s.over (List.range 96) (fun s p => s.put Reg.PH_CFG.RAIL p 63)
     let s := s.putAt Hid.HOME (0) (r) (u.val)
     let s := s.putAt Reg.PH_CFG.RAIL ((1 - u.val) * 24) (0) (r)
     let s := s.putAt Reg.PH_STATE.STATE ((1 - u.val) * 24) (0) (2)
     let s := s.putAt Reg.RAIL_SNS.PCHAN (s.homeIx r) (0) (15)
     let s := s.putAt Hid.SLOT_OF (0) (r) (0)
     let s := s.putAt Hid.SLOT_AGE (u) ((if u.val = 0 then 8 else 0)) (8)
     u.val = s.home r ∧
     s.mirrored r = false ∧
     (s.partner r).isSome ∧
     (decide (s.downHeard u r = true ∨ 8 ≤ s.slotAge u r))) := by decide +kernel

/-- States and operands that meet the hypotheses of MirroredHalves. -/
theorem wit_mirroredHalves_2 :
    (let u : Tile := 0
     let r : Rail := 0
     let s := State.reset
     let s := s.over (List.range 96) (fun s p => s.put Reg.PH_CFG.RAIL p 63)
     let s := s.putAt Hid.HOME (0) (r) (1 - u.val)
     let s := s.putAt Reg.PH_CFG.RAIL (u.val * 24) (0) (r)
     let s := s.putAt Reg.PH_STATE.STATE (u.val * 24) (0) (2)
     let s := s.putAt Reg.RAIL_SNS.PCHAN (s.homeIx r) (0) (15)
     let s := s.putAt Reg.RAIL_SUP_STATUS.RSTATE (s.leadIx r) (0) (3)
     let s := s.putAt Hid.SLOT_OF (0) (r) (0)
     let s := s.putAt Hid.SLOT_AGE (u) ((if u.val = 0 then 8 else 0)) (8)
     s.partner r = some u.val ∧
     u.val ≠ s.home r ∧
     s.mirrored r = false ∧
     (decide (s.downHeard u r = true ∨ 8 ≤ s.slotAge u r)) ∧
     s.rs r ≠ Rs.off ∧
     s.rs r ≠ Rs.enabling) ∧
    (let u : Tile := 0
     let r : Rail := 0
     let s := State.reset
     s.downHeard u r = false ∧
     s.slotAge u r < 8) ∧
    (let u : Tile := 0
     let r : Rail := 0
     let s := State.reset
     s.get Hid.LOSS_ARM (railIx u r) ≤ 1) ∧
    (let u : Tile := 0
     let r : Rail := 0
     let s := State.reset
     let s := s.putAt Hid.LOSS_ARM (railIx u r) (0) (9)
     1 < s.get Hid.LOSS_ARM (railIx u r)) := by decide +kernel

/-- States and operands that meet the hypotheses of MirroredHalves. -/
theorem wit_mirroredHalves_3 :
    (let r : Rail := 0
     let s := State.reset
     let s := s.putAt Reg.REIN_STATUS.ACTIVE (0) (0) (1)
     let s := s.putAt Reg.REIN_STATUS.ACTIVE (1) (0) (0)
     let s := s.putAt Hid.PRESENT (0) (0) (1)
     let s := s.over (List.range 96) (fun s p => s.put Reg.PH_CFG.RAIL p 63)
     let s := s.putAt Reg.PH_CFG.RAIL ((1 - s.home r) * 24) (0) (r)
     let s := s.putAt Reg.RAIL_SNS.PCHAN (s.homeIx r) (0) (3)
     let s := s.putAt Hid.HALF_DOWN (railIx (1 - s.home r) r) (0) (0)
     let s := s.putAt Reg.MIRR_STATUS.HALF (s.homeIx r) (0) (5)
     let s := s.putAt Reg.MIRR_STATUS.HALF (railIx (1 - s.home r) r) (0) (5)
     s.active.isSome ∧
     (s.partner r).isSome ∧
     s.mirrored r ∧
     s.half (s.home r) r = Half.split ∧
     ((s.partner r).all fun u => u ≠ s.home r && decide (s.half u r = Half.split) && !s.on Hid.HALF_DOWN (railIx u r))) ∧
    (let u : Tile := 0
     let r : Rail := 0
     let s := State.reset
     let s := s.putAt Reg.REIN_STATUS.ACTIVE (0) (0) (1)
     let s := s.putAt Reg.REIN_STATUS.ACTIVE (1) (0) (0)
     let s := s.putAt Hid.PRESENT (0) (0) (1)
     let s := s.over (List.range 96) (fun s p => s.put Reg.PH_CFG.RAIL p 63)
     let s := s.putAt Hid.HOME (0) (r) (u.val)
     let s := s.putAt Reg.PH_CFG.RAIL ((1 - u.val) * 24) (0) (r)
     let s := s.putAt Reg.PH_STATE.STATE ((1 - u.val) * 24) (0) (5)
     let s := s.putAt Reg.PH_PROT.ILIM_CEIL ((1 - u.val) * 24) (0) (60)
     let s := s.putAt Hid.JOIN_PEND ((1 - u.val) * 24) (0) (0)
     let s := s.putAt Reg.RAIL_SNS.PCHAN (s.homeIx r) (0) (3)
     let s := s.putAt Reg.MIRR_STATUS.HALF (railIx u r) (0) (2)
     let s := s.putAt Reg.MIRR_STATUS.CAUSE (railIx u r) (0) (1)
     let s := s.putAt Hid.BLK_BAD (1 - u.val) (0) (0)
     let s := s.putAt Hid.TSD_ON (1 - u.val) (0) (0)
     let s := s.putAt Reg.RAIL_SUP_STATUS.RSTATE (s.leadIx r) (0) (3)
     let s := s.putAt Hid.RJ_SWAP (0) (r) (0)
     let s := s.putAt Hid.SLOT_OF (0) (r) (0)
     let s := s.putAt Hid.SLOT_RUN (0) (8) (1000)
     let s := s.putAt Hid.SLOT_RUN (1) (0) (1000)
     s.rejoinOk u r ∧
     s.rs r ≠ Rs.off ∧
     u.val ≠ s.otherTile u r ∧
     ((s.phasesOn (s.otherTile u r) r).any fun p => s.ph p ≠ Ph.blocked && decide (s.get Reg.PH_PROT.ILIM_CEIL p ≠ 0) && decide (s.on Hid.JOIN_PEND p = false) && decide (s.ph p ≠ Ph.active ∨ s.on Hid.HELD p = true))) ∧
    (let u : Tile := 0
     let r : Rail := 0
     let s := State.reset
     let s := s.putAt Reg.REIN_STATUS.ACTIVE (0) (0) (1)
     let s := s.putAt Reg.REIN_STATUS.ACTIVE (1) (0) (0)
     let s := s.putAt Hid.PRESENT (0) (0) (1)
     let s := s.over (List.range 96) (fun s p => s.put Reg.PH_CFG.RAIL p 63)
     let s := s.putAt Hid.HOME (0) (r) (u.val)
     let s := s.putAt Reg.PH_CFG.RAIL ((1 - u.val) * 24) (0) (r)
     let s := s.putAt Reg.RAIL_SNS.PCHAN (s.homeIx r) (0) (3)
     let s := s.putAt Reg.MIRR_STATUS.HALF (railIx u r) (0) (2)
     let s := s.putAt Reg.MIRR_STATUS.CAUSE (railIx u r) (0) (1)
     let s := s.putAt Hid.BLK_BAD (1 - u.val) (0) (0)
     let s := s.putAt Hid.TSD_ON (1 - u.val) (0) (0)
     let s := s.putAt Reg.RAIL_SUP_STATUS.RSTATE (s.leadIx r) (0) (0)
     let s := s.putAt Hid.SLOT_OF (0) (r) (0)
     let s := s.putAt Hid.SLOT_RUN (0) (8) (1000)
     let s := s.putAt Hid.SLOT_RUN (1) (0) (1000)
     s.rejoinOk u r ∧
     s.rs r = Rs.off) ∧
    (let u : Tile := 0
     let r : Rail := 0
     let s := State.reset
     s.rejoinOk u r = false) := by decide +kernel

/-- States and operands that meet the hypotheses of MirroredHalves. -/
theorem wit_mirroredHalves_4 :
    (let r : Rail := 0
     let s := State.reset
     let s := s.putAt Hid.RJ_SWAP (0) (r) (1)
     let s := s.putAt Hid.RJ_AT (0) (r) (7)
     let s := s.putAt Hid.TICK (s.home r) (0) (7)
     s.onAt Hid.RJ_SWAP 0 r ∧
     tickReached (s.getAt Hid.RJ_AT 0 r) (s.get Hid.TICK (s.home r))) ∧
    (let r : Rail := 0
     let s := State.reset
     let s := s.putAt Hid.RJ_SWAP (0) (r) (0)
     (decide (s.onAt Hid.RJ_SWAP 0 r = false ∨ tickReached (s.getAt Hid.RJ_AT 0 r) (s.get Hid.TICK (s.home r)) = false))) := by decide +kernel

/-- States and operands that meet the hypotheses of ManagersAndHeartbeats. -/
theorem wit_managersAndHeartbeats_1 :
    (let m : Mgr := 0
     let s := State.reset
     let s := s.putAt Hid.PRESENT (m) (0) (1)
     s.on Hid.PRESENT m ∧
     (decide (s.isActive m = false ∨ s.get Reg.PACK_STATUS.AUTH_STATE 0 ≠ Auth.noManager))) ∧
    (let m : Mgr := 0
     let s := State.reset
     let s := s.putAt Hid.PRESENT (m) (0) (1)
     let s := s.putAt Reg.REIN_STATUS.ACTIVE (m) (0) (1)
     let s := s.putAt Reg.PACK_STATUS.AUTH_STATE (0) (0) (Auth.noManager)
     let s := s.putAt Reg.CHG_STATUS.BAT_PRESENT (0) (0) (1)
     let s := s.putAt Reg.PACK_CFG.AUTH_REQ (0) (0) (1)
     let s := s.putAt Hid.AUTH_RUN (0) (0) (0)
     s.on Hid.PRESENT m ∧
     s.isActive m ∧
     s.get Reg.PACK_STATUS.AUTH_STATE 0 = Auth.noManager ∧
     s.on Reg.CHG_STATUS.BAT_PRESENT 0 ∧
     s.on Reg.PACK_CFG.AUTH_REQ 0 ∧
     s.on Hid.AUTH_RUN 0 = false) ∧
    (let m : Mgr := 0
     let s := State.reset
     let s := s.putAt Hid.PRESENT (m) (0) (0)
     let s := s.putAt Reg.REIN_STATUS.ACTIVE (m) (0) (0)
     s.on Hid.PRESENT m = false ∧
     s.isActive m = false) ∧
    (let m : Mgr := 0
     let ok : Bool := true
     let s := State.reset
     let s := s.putAt Hid.PRESENT (m) (0) (1)
     let s := s.putAt Hid.HB_SENT (1 - m) (0) (1)
     let s := s.putAt Reg.REIN_STATUS.ACTIVE (1 - m) (0) (0)
     ok = true ∧
     s.on Hid.PRESENT m ∧
     s.on Hid.HB_SENT (peer m) ∧
     s.isActive (peer m) = false) := by decide +kernel

/-- States and operands that meet the hypotheses of ManagersAndHeartbeats. -/
theorem wit_managersAndHeartbeats_2 :
    (let m : Mgr := 0
     let ok : Bool := true
     let s := State.reset
     let s := s.putAt Hid.PRESENT (m) (0) (1)
     let s := s.putAt Hid.HB_SENT (1 - m) (0) (1)
     let s := s.putAt Hid.HB_ROLE (1 - m) (0) (1)
     let s := s.putAt Reg.REIN_STATUS.ACTIVE (m) (0) (0)
     let s := s.putAt Hid.HB_BEAT (1 - m) (0) (77)
     ok = true ∧
     s.on Hid.PRESENT m ∧
     s.on Hid.HB_SENT (peer m) ∧
     s.on Hid.HB_ROLE (peer m) ∧
     s.isActive m = false ∧
     s.get Hid.HB_BEAT (peer m) < 2 ^ 40 ∧
     s.get Hid.HB_EPOCH (peer m) < 2 ^ 16) ∧
    (let ok : Bool := false
     let _s := State.reset
     ok = false) ∧
    (let m : Mgr := 0
     let ok : Bool := true
     let s := State.reset
     let s := s.putAt Hid.PRESENT (m) (0) (1)
     let s := s.putAt Hid.HB_SENT (1 - m) (0) (1)
     let s := s.putAt Reg.REIN_STATUS.ACTIVE (0) (0) (1)
     let s := s.putAt Reg.REIN_STATUS.ACTIVE (1) (0) (1)
     ok = true ∧
     s.on Hid.PRESENT m ∧
     s.on Hid.HB_SENT (peer m) ∧
     s.isActive 0 ∧
     s.isActive 1) ∧
    (let m : Mgr := 0
     let s := State.reset
     let s := s.putAt Hid.PRESENT (m) (0) (1)
     let s := s.putAt Hid.HB_WAIT (m) (0) (20)
     let s := s.putAt Reg.REIN_STATUS.MISSES (m) (0) (2)
     s.on Hid.PRESENT m ∧
     20 ≤ s.get Hid.HB_WAIT m ∧
     s.get Reg.REIN_STATUS.MISSES m < 3) := by decide +kernel

/-- States and operands that meet the hypotheses of ManagersAndHeartbeats. -/
theorem wit_managersAndHeartbeats_3 :
    (let m : Mgr := 0
     let s := State.reset
     (decide (s.on Hid.PRESENT m = false ∨ s.get Hid.HB_WAIT m < 20))) ∧
    (let m : Mgr := 1
     let s := State.reset
     let s := s.putAt Hid.PRESENT (m) (0) (0)
     s.deadmanOut m) ∧
    (let m : Mgr := 0
     let s := State.reset
     let s := s.putAt Hid.PRESENT (m) (0) (1)
     let s := s.putAt Hid.ROLE_WAIT (m) (0) (0)
     let s := s.putAt Hid.XTAL_STOPPED (m) (0) (0)
     s.deadmanOut m = false) ∧
    (let m : Mgr := 1
     let high : Bool := true
     let s := State.reset
     let s := s.putAt Reg.REIN_STATUS.ACTIVE (m) (0) (0)
     let s := s.putAt Reg.REIN_STATUS.ACTIVE (1 - m) (0) (0)
     let s := s.putAt Hid.ROLE_LOW (0) (0) (0)
     let s := s.putAt Hid.ROLE_LOW (1) (0) (0)
     let s := s.putAt Hid.PRESENT (m) (0) (1)
     let s := s.putAt Reg.REIN_STATUS.SHADOW_READY (m) (0) (1)
     let s := s.putAt Hid.TRIG (m) (0) (1)
     high = true ∧
     s.on Hid.PRESENT m ∧
     s.isActive m = false ∧
     s.on Reg.REIN_STATUS.SHADOW_READY m ∧
     s.on Hid.TRIG m ∧
     s.roleOpen m) := by decide +kernel

/-- States and operands that meet the hypotheses of ManagersAndHeartbeats. -/
theorem wit_managersAndHeartbeats_4 :
    (let m : Mgr := 0
     let high : Bool := false
     let s := State.reset
     (high = false ∨ s.on Hid.PRESENT m = false ∨ s.isActive m ∨ s.on Reg.REIN_STATUS.SHADOW_READY m = false ∨ s.on Hid.TRIG m = false ∨ s.roleOpen m = false)) ∧
    (let w : Who := .mc0
     let m : Mgr := 0
     let s := State.reset
     let s := s.putAt Reg.REIN_STATUS.ACTIVE (0) (0) (1)
     let s := s.putAt Reg.REIN_STATUS.ACTIVE (1) (0) (0)
     let s := s.putAt Hid.PRESENT (0) (0) (1)
     let s := s.putAt Hid.PRESENT (1) (0) (1)
     let s := s.putAt Reg.REIN_STATUS.SHADOW_READY (1) (0) (1)
     s.isActive (s.reach w m) ∧
     s.isActive (peer (s.reach w m)) = false ∧
     s.on Hid.PRESENT (peer (s.reach w m)) ∧
     s.on Hid.ROLE_LOW (peer (s.reach w m)) = false ∧
     s.on Reg.REIN_STATUS.SHADOW_READY (peer (s.reach w m))) ∧
    (let w : Who := .mc0
     let m : Mgr := 0
     let s := State.reset
     let s := s.putAt Reg.REIN_STATUS.ACTIVE (0) (0) (0)
     let s := s.putAt Reg.REIN_STATUS.ACTIVE (1) (0) (0)
     (s.isActive (s.reach w m) = false ∨ s.on Hid.PRESENT (peer (s.reach w m)) = false ∨ s.on Reg.REIN_STATUS.SHADOW_READY (peer (s.reach w m)) = false)) ∧
    (let m : Mgr := 0
     let s := State.reset
     let s := s.putAt Hid.PRESENT (m) (0) (1)
     s.on Hid.PRESENT m) := by decide +kernel

/-- States and operands that meet the hypotheses of ManagersAndHeartbeats. -/
theorem wit_managersAndHeartbeats_5 :
    (let m : Mgr := 0
     let s := State.reset
     let s := s.putAt Hid.PRESENT (m) (0) (1)
     s.on Hid.PRESENT m) := by decide +kernel

/-- States and operands that meet the hypotheses of MirrorAndSelfTests. -/
theorem wit_mirrorAndSelfTests_1 :
    (let s := State.reset
     let s := s.putAt Reg.REIN_STATUS.ACTIVE (0) (0) (1)
     let s := s.putAt Reg.REIN_STATUS.ACTIVE (1) (0) (0)
     let s := s.putAt Hid.PRESENT (0) (0) (1)
     let s := s.putAt Hid.PRESENT (1) (0) (1)
     Memory.wf s.mem = true ∧
     s.mirrors) ∧
    (let s := State.reset
     let s := s.putAt Reg.REIN_STATUS.ACTIVE (0) (0) (1)
     let s := s.putAt Reg.REIN_STATUS.ACTIVE (1) (0) (0)
     let s := s.putAt Hid.PRESENT (0) (0) (1)
     let s := s.putAt Hid.PRESENT (1) (0) (1)
     s.mirrors ∧
     s.mirrorDiffs = []) ∧
    (let s := State.reset
     let s := s.putAt Reg.REIN_STATUS.ACTIVE (0) (0) (1)
     let s := s.putAt Reg.REIN_STATUS.ACTIVE (1) (0) (0)
     let s := s.putAt Hid.PRESENT (0) (0) (1)
     let s := s.putAt Hid.PRESENT (1) (0) (1)
     let s := s.wr8 (mirrorAddr 0 5) 7
     Memory.wf s.mem = true ∧
     s.mirrors ∧
     s.mirrorDiffs ≠ []) ∧
    (let m : Mgr := 1
     let s := State.reset
     let s := s.putAt Reg.REIN_STATUS.ACTIVE (0) (0) (1)
     let s := s.putAt Reg.REIN_STATUS.ACTIVE (1) (0) (0)
     let s := s.putAt Hid.PRESENT (0) (0) (1)
     let s := s.putAt Hid.PRESENT (1) (0) (1)
     let s := s.putAt Hid.MIRR_RUN (1) (0) (10)
     let s := s.putAt Hid.ST_STATE (1) (0) (2)
     s.on Hid.PRESENT m ∧
     s.isActive m = false ∧
     s.active.isSome ∧
     s.get Hid.MIRR_RUN m = 10 ∧
     s.get Hid.ST_STATE m = 2 ∧
     s.get Hid.FW_HASH m = s.get Hid.FW_HASH (peer m)) := by decide +kernel

/-- States and operands that meet the hypotheses of MirrorAndSelfTests. -/
theorem wit_mirrorAndSelfTests_2 :
    (let m : Mgr := 0
     let s := State.reset
     s.get Hid.MIRR_RUN m < 10) ∧
    (let kind : Fin 8 := 3
     let u : Tile := 0
     let unit : Byte := 0
     let s := State.reset
     let s := { s with awlProbes := [⟨3, u, unit.toNat, 0, false⟩] }
     kind ≠ 7 ∧
     s.awlAsked kind u unit.toNat ∧
     s.outOfService kind u unit.toNat) ∧
    (let kind : Fin 8 := 1
     let u : Tile := 0
     let unit : Byte := 0
     let s := State.reset
     kind ≠ 7 ∧
     (decide (s.awlAsked kind u unit.toNat = false ∨ s.outOfService kind u unit.toNat = false))) ∧
    (let kind : Fin 8 := 7
     let u : Tile := 0
     let unit : Byte := 1
     let s := State.reset
     let s := s.putAt Reg.REIN_STATUS.ACTIVE (0) (0) (1)
     let s := s.putAt Reg.REIN_STATUS.ACTIVE (1) (0) (0)
     let s := s.putAt Hid.PRESENT (0) (0) (1)
     let s := s.putAt Hid.PRESENT (1) (0) (1)
     let s := s.putAt Hid.ST_STATE (1) (0) (1)
     let s := s.putAt Reg.REIN_STATUS.SYNCING (1) (0) (1)
     let s := s.putAt Hid.LBIST_ON (0) (0) (0)
     kind = 7 ∧
     u = 0 ∧
     s.dieTestable unit.toNat) := by decide +kernel

/-- States and operands that meet the hypotheses of MirrorAndSelfTests. -/
theorem wit_mirrorAndSelfTests_3 :
    (let kind : Fin 8 := 7
     let u : Tile := 0
     let unit : Byte := 0
     let s := State.reset
     kind = 7 ∧
     (decide (u ≠ 0 ∨ s.dieTestable unit.toNat = false))) ∧
    (let kind : Fin 8 := 6
     let u : Tile := 0
     let unit : Byte := 0
     let s := State.reset
     let s := { s with awlProbes := [⟨kind, u, unit.toNat, 0, true⟩] }
     kind ≠ 7 ∧
     s.awlHas kind u unit.toNat true) ∧
    (let kind : Fin 8 := 7
     let u : Tile := 0
     let unit : Byte := 1
     let s := State.reset
     let s := { s with awlProbes := [⟨7, u, unit.toNat, 0, true⟩] }
     let s := s.putAt Hid.LBIST_ON (0) (0) (0)
     kind = 7 ∧
     s.awlHas kind u unit.toNat true ∧
     s.get Hid.LBIST_ON 0 = 0) ∧
    (let kind : Fin 8 := 0
     let u : Tile := 0
     let unit : Byte := 0
     let s := State.reset
     (decide (s.awlHas kind u unit.toNat true = false ∨ (kind = 7 ∧ s.get Hid.LBIST_ON 0 ≠ 0)))) := by decide +kernel

/-- States and operands that meet the hypotheses of MirrorAndSelfTests. -/
theorem wit_mirrorAndSelfTests_4 :
    (let kind : Fin 8 := 1
     let u : Tile := 0
     let unit : Byte := 0
     let s := State.reset
     let s := { s with awlProbes := [⟨1, u, unit.toNat, 0, false⟩] }
     let s := s.putAt Reg.SPARE_STATUS.BUSY (u) (0) (0)
     let s := s.putAt Hid.EPOCH (s.act) (0) (1)
     s.awlLate kind u unit.toNat ∧
     s.outOfService kind u unit.toNat = false) ∧
    (let kind : Fin 8 := 3
     let u : Tile := 0
     let unit : Byte := 0
     let s := State.reset
     (decide (s.awlLate kind u unit.toNat = false ∨ s.outOfService kind u unit.toNat = true))) ∧
    (let w : Who := .mc0
     let m : Mgr := 0
     let target : Fin 16 := 0
     let s := State.reset
     let s := s.putAt Reg.REIN_STATUS.ACTIVE (0) (0) (1)
     let s := s.putAt Reg.REIN_STATUS.ACTIVE (1) (0) (0)
     let s := s.putAt Hid.PRESENT (0) (0) (1)
     let s := s.putAt Hid.LBIST_ON (0) (0) (0)
     let s := s.over (phasesOfTile target.val) (fun s p => s.put Reg.PH_STATE.STATE p 0)
     s.reach w m = s.act ∧
     s.lbistAllowed target ∧
     target.val ≤ 4) ∧
    (let w : Who := .mc0
     let m : Mgr := 0
     let target : Fin 16 := 5
     let s := State.reset
     let s := s.putAt Reg.REIN_STATUS.ACTIVE (0) (0) (1)
     let s := s.putAt Reg.REIN_STATUS.ACTIVE (1) (0) (0)
     let s := s.putAt Hid.PRESENT (0) (0) (1)
     let s := s.putAt Hid.LBIST_ON (0) (0) (0)
     let s := s.putAt Hid.PRESENT (1) (0) (1)
     s.reach w m = s.act ∧
     target = 5 ∧
     s.lbistAllowed 5) := by decide +kernel

/-- States and operands that meet the hypotheses of MirrorAndSelfTests. -/
theorem wit_mirrorAndSelfTests_5 :
    (let w : Who := .mc0
     let m : Mgr := 0
     let target : Fin 16 := 7
     let s := State.reset
     let s := s.putAt Reg.REIN_STATUS.ACTIVE (0) (0) (1)
     let s := s.putAt Reg.REIN_STATUS.ACTIVE (1) (0) (0)
     let s := s.putAt Hid.PRESENT (0) (0) (1)
     s.reach w m = s.act ∧
     s.lbistAllowed target = false) ∧
    (let w : Who := .sc
     let m : Mgr := 1
     let s := State.reset
     let s := s.putAt Reg.REIN_STATUS.ACTIVE (0) (0) (1)
     let s := s.putAt Reg.REIN_STATUS.ACTIVE (1) (0) (0)
     let s := s.putAt Hid.PRESENT (0) (0) (1)
     s.reach w m ≠ s.act) ∧
    (let s := State.reset
     let s := s.putAt Hid.LBIST_ON (0) (0) (2)
     let s := s.putAt Hid.LBIST_AT (0) (0) (0)
     let s := s.putAt Hid.BEAT (s.act) (0) (9000)
     s.get Hid.LBIST_ON 0 ≠ 0 ∧
     s.get Hid.LBIST_ON 0 ≤ 4 ∧
     4000 ≤ beatDiff s.beat (s.get Hid.LBIST_AT 0)) ∧
    (let s := State.reset
     let s := s.putAt Hid.LBIST_ON (0) (0) (5)
     s.get Hid.LBIST_ON 0 = 5) := by decide +kernel

/-- States and operands that meet the hypotheses of MirrorAndSelfTests. -/
theorem wit_mirrorAndSelfTests_6 :
    (let s := State.reset
     let s := s.putAt Hid.LBIST_ON (0) (0) (6)
     let s := s.putAt Hid.LBIST_AT (0) (0) (0)
     let s := s.putAt Hid.BEAT (s.act) (0) (9000)
     s.get Hid.LBIST_ON 0 = 6 ∧
     8000 ≤ beatDiff s.beat (s.get Hid.LBIST_AT 0)) ∧
    (let s := State.reset
     let s := s.putAt Hid.LBIST_ON (0) (0) (0)
     s.get Hid.LBIST_ON 0 = 0) := by decide +kernel

/-- States and operands that meet the hypotheses of CaptureAndKerb. -/
theorem wit_captureAndKerb_1 :
    (let u : Tile := 0
     let s := State.reset
     let s := s.putAt Reg.CAP_STATUS.RUNNING (u) (0) (1)
     let s := s.putAt Hid.CAP_TRIGD (u) (0) (0)
     s.on Reg.CAP_STATUS.RUNNING u ∧
     s.on Hid.CAP_TRIGD u = false) ∧
    (let u : Tile := 0
     let s := State.reset
     let s := s.putAt Reg.CAP_STATUS.RUNNING (u) (0) (0)
     (decide (s.on Reg.CAP_STATUS.RUNNING u = false ∨ s.on Hid.CAP_TRIGD u = true))) ∧
    (let u : Tile := 0
     let s := State.reset
     let s := s.putAt Reg.CAP_STATUS.RUNNING (u) (0) (1)
     let s := s.putAt Hid.CAP_TRIGD (u) (0) (1)
     let s := s.putAt Hid.CAP_LEFT (u) (0) (0)
     s.on Reg.CAP_STATUS.RUNNING u ∧
     s.on Hid.CAP_TRIGD u ∧
     s.get Hid.CAP_LEFT u = 0) ∧
    (let u : Tile := 0
     let s := State.reset
     (decide (s.on Reg.CAP_STATUS.RUNNING u = false ∨ s.on Hid.CAP_TRIGD u = false ∨ s.get Hid.CAP_LEFT u ≠ 0))) := by decide +kernel

/-- States and operands that meet the hypotheses of CaptureAndKerb. -/
theorem wit_captureAndKerb_2 :
    (let s := State.reset
     let s := s.putAt Reg.REIN_STATUS.ACTIVE (0) (0) (1)
     let s := s.putAt Reg.REIN_STATUS.ACTIVE (1) (0) (0)
     let s := s.putAt Hid.PRESENT (0) (0) (1)
     let s := s.putAt Reg.DEV_STATE.STATE (0) (0) (4)
     s.dev = Dev.run ∧
     s.active.isSome) ∧
    (let s := State.reset
     let s := s.putAt Reg.DEV_STATE.STATE (0) (0) (5)
     s.dev = Dev.kerb) ∧
    (let s := State.reset
     let s := s.putAt Reg.DEV_STATE.STATE (0) (0) (3)
     s.dev ≠ Dev.kerb ∧
     s.dev ≠ Dev.run) ∧
    (let s := State.reset
     let s := s.putAt Reg.REIN_STATUS.ACTIVE (0) (0) (1)
     let s := s.putAt Reg.REIN_STATUS.ACTIVE (1) (0) (0)
     let s := s.putAt Hid.PRESENT (0) (0) (1)
     let s := s.putAt Reg.DEV_STATE.STATE (0) (0) (4)
     let s := s.putAt Reg.GG_STATUS.KERB_LOW (0) (0) (1)
     let s := s.putAt Reg.BFET_STATUS.STATE (0) (0) (2)
     let s := s.putAt Hid.KSOC_N (0) (0) (100)
     s.dev = Dev.run ∧
     s.active.isSome ∧
     s.on Reg.GG_STATUS.KERB_LOW 0 ∧
     s.onBattery ∧
     100 ≤ s.get Hid.KSOC_N 0) := by decide +kernel

/-- States and operands that meet the hypotheses of CaptureAndKerb. -/
theorem wit_captureAndKerb_3 :
    (let s := State.reset
     (decide (s.on Reg.GG_STATUS.KERB_LOW 0 = false ∨ s.onBattery = false ∨ s.get Hid.KSOC_N 0 < 100))) ∧
    (let s := State.reset
     let s := s.putAt Reg.DEV_STATE.STATE (0) (0) (5)
     let s := s.putAt Reg.KERB_STATUS.CAUSE (0) (0) (8)
     let s := s.putAt Reg.SEQ_STATUS.ACTIVE (0) (0) (0)
     let s := s.over (List.range 4) (fun s k => s.put Hid.AK_STEP k 0)
     s.dev = Dev.kerb ∧
     s.orderEnded ∧
     s.kerbPersists = false) ∧
    (let s := State.reset
     let s := s.putAt Reg.DEV_STATE.STATE (0) (0) (5)
     let s := s.putAt Reg.KERB_STATUS.CAUSE (0) (0) (8)
     let s := s.putAt Reg.SEQ_STATUS.ACTIVE (0) (0) (0)
     let s := s.over (List.range 4) (fun s k => s.put Hid.AK_STEP k 0)
     let s := s.over (List.range 8) (fun s q => s.putAt Reg.SEQ_HDR.AUTO 0 q 0)
     s.dev = Dev.kerb ∧
     s.orderEnded ∧
     s.kerbPersists = false ∧
     (∀ q : Fin 8, s.onAt Reg.SEQ_HDR.AUTO 0 q = false)) ∧
    (let s := State.reset
     let s := s.putAt Reg.DEV_STATE.STATE (0) (0) (4)
     (s.dev ≠ Dev.kerb ∨ s.orderEnded = false ∨ s.kerbPersists)) := by decide +kernel

/-- States and operands that meet the hypotheses of CaptureAndKerb. -/
theorem wit_captureAndKerb_4 :
    (let u : Tile := 0
     let s := State.reset
     let s := s.putAt Hid.SILENT_N (u) (0) (3000)
     s.silentFor u 30) ∧
    (let u : Tile := 0
     let s := State.reset
     s.silentFor u 30 = false) ∧
    (let u : Tile := 0
     let s := State.reset
     let s := s.putAt Reg.TILE_AUTO.MGR_SILENT (u) (0) (1)
     let s := s.putAt Reg.TILE_AUTO.AUTO_KERB (u) (0) (0)
     let s := s.putAt Reg.TILE_AUTO.KERB_HOLD (u) (0) (1)
     let s := s.putAt Hid.SILENT_N (u) (0) (1000000)
     let s := s.putAt Reg.SEQ_HDR.KERB_SDN (0) (2) (1)
     let s := s.putAt Reg.SEQ_HDR.NSTG (0) (2) (1)
     s.on Reg.TILE_AUTO.MGR_SILENT u ∧
     s.silentFor u (s.get Reg.TILE_AUTO.KERB_HOLD u * 10000) ∧
     s.on Reg.TILE_AUTO.AUTO_KERB u = false) ∧
    (let u : Tile := 0
     let s := State.reset
     (decide (s.on Reg.TILE_AUTO.MGR_SILENT u = false ∨ s.silentFor u (s.get Reg.TILE_AUTO.KERB_HOLD u * 10000) = false ∨ s.on Reg.TILE_AUTO.AUTO_KERB u = true))) := by decide +kernel

/-- States and operands that meet the hypotheses of EventReports. -/
theorem wit_eventReports_1 :
    (let src : Fin 640 := 570
     let s := State.reset
     let s := s.putAt Reg.REIN_STATUS.ACTIVE (0) (0) (1)
     let s := s.putAt Reg.REIN_STATUS.ACTIVE (1) (0) (0)
     let s := s.putAt Hid.PRESENT (0) (0) (1)
     let s := s.putAt Reg.SW_LINE.SW_LINE (0) (0) (2 ^ 32 - 1)
     let s := s.putAt Reg.SRC_LINE.LINE (0) (src.val / 32) (0)
     let s := s.putAt Reg.SRC_ACTIVE.ACTIVE (0) (src.val / 32) (0)
     let s := s.putAt Hid.EV_OLD (0) (src.val) (0)
     let s := s.putAt Reg.SRC_CFG.SENSE (0) (src.val) (1)
     let s := s.putAt Reg.SRC_CFG.ENABLE (0) (src.val) (1)
     let s := s.putAt Reg.SRC_CFG.CLASS (0) (src.val) (0)
     let s := s.putAt Reg.SRC_CFG.FOLD_CLS (0) (src.val) (0)
     let s := s.putAt Reg.SRC_CFG.HOST (0) (src.val) (1)
     let s := s.putAt Reg.EVC_CTRL.QEN (0) (0) (1)
     s.active.isSome ∧
     s.lineNow src ∧
     (decide (s.srcSense src = 0 ∨ ((s.srcSense src).testBit 0 = true ∧ s.bitAt Reg.SRC_LINE.LINE src = false))) ∧
     s.onAt Reg.SRC_CFG.ENABLE 0 src ∧
     s.srcActive src = false ∧
     (decide (s.srcClass src = 2 ∨ s.srcFold src = 0 ∨ s.get Reg.EVC_CTRL.FOLD_WIN 0 = 0)) ∧
     s.qFits (if s.srcClass src = 2 then EvQueue.safe else EvQueue.main) evBlank) ∧
    (let src : Fin 640 := 570
     let s := State.reset
     let s := s.putAt Reg.REIN_STATUS.ACTIVE (0) (0) (1)
     let s := s.putAt Reg.REIN_STATUS.ACTIVE (1) (0) (0)
     let s := s.putAt Hid.PRESENT (0) (0) (1)
     let s := s.putAt Reg.SW_LINE.SW_LINE (0) (0) (2 ^ 32 - 1)
     let s := s.putAt Reg.SRC_LINE.LINE (0) (src.val / 32) (0)
     let s := s.putAt Reg.SRC_ACTIVE.ACTIVE (0) (src.val / 32) (0)
     let s := s.putAt Hid.EV_OLD (0) (src.val) (0)
     let s := s.putAt Reg.SRC_CFG.SENSE (0) (src.val) (1)
     let s := s.putAt Reg.SRC_CFG.ENABLE (0) (src.val) (1)
     let s := s.putAt Reg.SRC_CFG.CLASS (0) (src.val) (0)
     let s := s.putAt Reg.SRC_CFG.FOLD_CLS (0) (src.val) (3)
     let s := s.putAt Reg.EVC_CTRL.FOLD_WIN (0) (0) (9)
     let s := s.putAt Reg.EVC_CTRL.QEN (0) (0) (1)
     s.active.isSome ∧
     s.lineNow src ∧
     (decide (s.srcSense src = 0 ∨ ((s.srcSense src).testBit 0 = true ∧ s.bitAt Reg.SRC_LINE.LINE src = false))) ∧
     s.onAt Reg.SRC_CFG.ENABLE 0 src ∧
     s.srcActive src = false ∧
     s.srcClass src ≠ 2 ∧
     s.srcFold src ≠ 0 ∧
     s.get Reg.EVC_CTRL.FOLD_WIN 0 ≠ 0 ∧
     ((s.evMain.find? fun (r : EvRec) => r.typ = 2 && r.isOpen && r.foldCls = s.srcFold src) = none) ∧
     s.qFits .main { evBlank with typ := 2 }) ∧
    (let src : Fin 640 := 570
     let tick : Word := 0
     let s := State.reset
     let s := s.putAt Reg.REIN_STATUS.ACTIVE (0) (0) (1)
     let s := s.putAt Reg.REIN_STATUS.ACTIVE (1) (0) (0)
     let s := s.putAt Hid.PRESENT (0) (0) (1)
     let s := s.putAt Reg.SW_LINE.SW_LINE (0) (0) (2 ^ 32 - 1)
     let s := s.putAt Reg.SRC_LINE.LINE (0) (src.val / 32) (0)
     let s := s.putAt Reg.SRC_ACTIVE.ACTIVE (0) (src.val / 32) (0)
     let s := s.putAt Hid.EV_OLD (0) (src.val) (0)
     let s := s.putAt Reg.SRC_CFG.SENSE (0) (src.val) (1)
     let s := s.putAt Reg.SRC_CFG.ENABLE (0) (src.val) (1)
     let s := s.putAt Reg.SRC_CFG.CLASS (0) (src.val) (0)
     let s := s.putAt Reg.SRC_CFG.FOLD_CLS (0) (src.val) (3)
     let s := s.putAt Reg.EVC_CTRL.FOLD_WIN (0) (0) (4095)
     let s := s.putAt Reg.EVC_CTRL.QEN (0) (0) (1)
     let s := { s with evMain := [{ evBlank with typ := 2, seq := 3, isOpen := true, foldCls := 3, base := 560, beat := (s.tickStamp tick.toNat).1 }] }
     s.active.isSome ∧
     s.lineNow src ∧
     (decide (s.srcSense src = 0 ∨ ((s.srcSense src).testBit 0 = true ∧ s.bitAt Reg.SRC_LINE.LINE src = false))) ∧
     s.onAt Reg.SRC_CFG.ENABLE 0 src ∧
     s.srcActive src = false ∧
     s.srcClass src ≠ 2 ∧
     s.srcFold src ≠ 0 ∧
     s.get Reg.EVC_CTRL.FOLD_WIN 0 ≠ 0 ∧
     ((s.evMain.find? fun (r : EvRec) => r.typ = 2 && r.isOpen && r.foldCls = s.srcFold src).any fun r => s.foldPast r (s.tickStamp tick.toNat).1 (s.tickStamp tick.toNat).2 = false) ∧
     ((s.evMain.any fun (r : EvRec) => r.typ = 2 && r.isOpen && r.foldCls = s.srcFold src && s.foldPast r (s.tickStamp tick.toNat).1 (s.tickStamp tick.toNat).2) = false)) ∧
    (let src : Fin 640 := 570
     let s := State.reset
     let s := s.putAt Reg.REIN_STATUS.ACTIVE (0) (0) (1)
     let s := s.putAt Reg.REIN_STATUS.ACTIVE (1) (0) (0)
     let s := s.putAt Hid.PRESENT (0) (0) (1)
     let s := s.putAt Reg.SW_LINE.SW_LINE (0) (0) (2 ^ 32 - 1)
     let s := s.putAt Reg.SRC_LINE.LINE (0) (src.val / 32) (0)
     let s := s.putAt Reg.SRC_ACTIVE.ACTIVE (0) (src.val / 32) (2 ^ 32 - 1)
     let s := s.putAt Hid.EV_OLD (0) (src.val) (0)
     let s := s.putAt Reg.SRC_CFG.SENSE (0) (src.val) (1)
     let s := s.putAt Reg.SRC_CFG.ENABLE (0) (src.val) (1)
     s.active.isSome ∧
     s.lineNow src ∧
     s.bitAt Reg.SRC_LINE.LINE src = false ∧
     s.srcSense src = 1 ∧
     s.onAt Reg.SRC_CFG.ENABLE 0 src ∧
     s.srcActive src) := by decide +kernel

/-- States and operands that meet the hypotheses of EventReports. -/
theorem wit_eventReports_2 :
    (let src : Fin 640 := 0
     let s := State.reset
     let s := s.putAt Reg.REIN_STATUS.ACTIVE (0) (0) (1)
     let s := s.putAt Reg.REIN_STATUS.ACTIVE (1) (0) (0)
     let s := s.putAt Hid.PRESENT (0) (0) (1)
     let s := s.putAt Reg.SRC_CFG.ENABLE (0) (src.val) (0)
     s.active.isSome ∧
     s.onAt Reg.SRC_CFG.ENABLE 0 src = false) ∧
    (let s := State.reset
     let s := s.putAt Reg.REIN_STATUS.ACTIVE (0) (0) (0)
     let s := s.putAt Reg.REIN_STATUS.ACTIVE (1) (0) (0)
     let s := s.putAt Hid.PRESENT (1) (0) (1)
     s.active = none ∧
     (decide (s.on Hid.PRESENT 0 = true ∨ s.on Hid.PRESENT 1 = true))) ∧
    (let s := State.reset
     let s := s.putAt Reg.REIN_STATUS.ACTIVE (0) (0) (0)
     let s := s.putAt Reg.REIN_STATUS.ACTIVE (1) (0) (0)
     let s := s.putAt Hid.PRESENT (0) (0) (0)
     let s := s.putAt Hid.PRESENT (1) (0) (0)
     s.active = none ∧
     s.on Hid.PRESENT 0 = false ∧
     s.on Hid.PRESENT 1 = false) ∧
    (let s := State.reset
     let s := s.putAt Reg.REIN_STATUS.ACTIVE (0) (0) (1)
     let s := s.putAt Reg.REIN_STATUS.ACTIVE (1) (0) (0)
     let s := s.putAt Hid.PRESENT (0) (0) (1)
     let s := s.putAt Reg.SW_LINE.SW_LINE (0) (0) (5)
     s.active.isSome) := by decide +kernel

/-- States and operands that meet the hypotheses of EventReports. -/
theorem wit_eventReports_3 :
    (let cls : Fin 16 := 0
     let s := State.reset
     let s := { s with evMain := [{ evBlank with typ := 2, seq := 3, isOpen := true, foldCls := cls.val }] }
     let s := s.putAt Reg.EVC_CTRL.FOLD_WIN (0) (0) (0)
     let s := s.putAt Hid.BEAT (s.act) (0) (5)
     s.foldRipe cls ∧
     ((s.evMain.find? fun (r : EvRec) => r.typ = 2 && r.isOpen && r.foldCls = cls.val).any fun r => !r.host)) ∧
    (let cls : Fin 16 := 0
     let s := State.reset
     let s := { s with evMain := [{ evBlank with typ := 2, seq := 3, isOpen := true, host := true, foldCls := cls.val }] }
     let s := s.putAt Reg.EVC_CTRL.FOLD_WIN (0) (0) (0)
     let s := s.putAt Hid.BEAT (s.act) (0) (5)
     s.foldRipe cls ∧
     ((s.evMain.find? fun (r : EvRec) => r.typ = 2 && r.isOpen && r.foldCls = cls.val).any fun r => r.host) ∧
     s.evHost.length < 127) ∧
    (let cls : Fin 16 := 0
     let s := State.reset
     let s := { s with evMain := [{ evBlank with typ := 2, seq := 3, isOpen := true, foldCls := cls.val }] }
     let s := s.putAt Reg.EVC_CTRL.FOLD_WIN (0) (0) (9)
     let s := s.putAt Hid.BEAT (s.act) (0) (5)
     s.foldRipe cls = false) := by decide +kernel

/-- States and operands that meet the hypotheses of TakingAndCompletingRecords. -/
theorem wit_takingAndCompletingRecords_1 :
    (let w : Who := .mc0
     let m : Mgr := 0
     let s := State.reset
     let s := s.putAt Reg.REIN_STATUS.ACTIVE (0) (0) (1)
     let s := s.putAt Reg.REIN_STATUS.ACTIVE (1) (0) (0)
     let s := s.putAt Hid.PRESENT (0) (0) (1)
     let s := { s with evMain := [{ evBlank with seq := 3, src := 9 }, { evBlank with seq := 4, src := 8 }] }
     let s := s.over (List.range 20) (fun s k => s.putAt Hid.EV_HELD 0 k 0)
     s.reach w m = s.act ∧
     s.active.isSome ∧
     (s.takeable .main).isSome ∧
     (∀ k : Fin 20, s.getAt Hid.EV_HELD 0 k = 0)) ∧
    (let w : Who := .mc0
     let m : Mgr := 0
     let s := State.reset
     let s := s.putAt Reg.REIN_STATUS.ACTIVE (0) (0) (1)
     let s := s.putAt Reg.REIN_STATUS.ACTIVE (1) (0) (0)
     let s := s.putAt Hid.PRESENT (0) (0) (1)
     let s := { s with evMain := [{ evBlank with seq := 3, src := 9 }, { evBlank with seq := 4, src := 8 }] }
     let s := s.putAt Hid.EV_HELD (0) (3) (6)
     s.reach w m = s.act ∧
     s.active.isSome ∧
     (s.takeable .main).isSome) ∧
    (let w : Who := .mc0
     let m : Mgr := 0
     let s := State.reset
     let s := s.putAt Reg.REIN_STATUS.ACTIVE (0) (0) (1)
     let s := s.putAt Reg.REIN_STATUS.ACTIVE (1) (0) (0)
     let s := s.putAt Hid.PRESENT (0) (0) (1)
     s.reach w m = s.act ∧
     s.active.isSome ∧
     s.takeable .main = none) ∧
    (let w : Who := .mc0
     let m : Mgr := 0
     let s := State.reset
     let s := s.putAt Reg.REIN_STATUS.ACTIVE (0) (0) (0)
     let s := s.putAt Reg.REIN_STATUS.ACTIVE (1) (0) (0)
     (decide (s.reach w m ≠ s.act ∨ s.active = none))) := by decide +kernel

/-- States and operands that meet the hypotheses of TakingAndCompletingRecords. -/
theorem wit_takingAndCompletingRecords_2 :
    (let w : Who := .sc
     let m : Mgr := 0
     let s := State.reset
     let s := s.putAt Reg.REIN_STATUS.ACTIVE (0) (0) (1)
     let s := s.putAt Reg.REIN_STATUS.ACTIVE (1) (0) (0)
     let s := s.putAt Hid.PRESENT (0) (0) (1)
     let s := { s with evSafe := [{ evBlank with seq := 3, src := 506, cls := 2 }] }
     let s := s.over (List.range 20) (fun s k => s.putAt Hid.EV_HELD 0 k 0)
     w = .sc ∧
     s.reach w m = s.act ∧
     s.active.isSome ∧
     (s.takeable .safe).isSome ∧
     (∀ k : Fin 20, s.getAt Hid.EV_HELD 0 k = 0)) ∧
    (let w : Who := .sc
     let m : Mgr := 0
     let s := State.reset
     let s := s.putAt Reg.REIN_STATUS.ACTIVE (0) (0) (1)
     let s := s.putAt Reg.REIN_STATUS.ACTIVE (1) (0) (0)
     let s := s.putAt Hid.PRESENT (0) (0) (1)
     let s := { s with evSafe := [{ evBlank with seq := 3, src := 9 }, { evBlank with seq := 4, src := 8 }] }
     let s := s.putAt Hid.EV_HELD (0) (3) (6)
     w = .sc ∧
     s.reach w m = s.act ∧
     s.active.isSome ∧
     (s.takeable .safe).isSome) ∧
    (let w : Who := .sc
     let m : Mgr := 0
     let s := State.reset
     let s := s.putAt Reg.REIN_STATUS.ACTIVE (0) (0) (1)
     let s := s.putAt Reg.REIN_STATUS.ACTIVE (1) (0) (0)
     let s := s.putAt Hid.PRESENT (0) (0) (1)
     w = .sc ∧
     s.reach w m = s.act ∧
     s.active.isSome ∧
     s.takeable .safe = none) ∧
    (let w : Who := .mc0
     let m : Mgr := 0
     let s := State.reset
     (decide (w ≠ .sc ∨ s.reach w m ≠ s.act ∨ s.active = none))) := by decide +kernel

/-- States and operands that meet the hypotheses of TakingAndCompletingRecords. -/
theorem wit_takingAndCompletingRecords_3 :
    (let w : Who := .mc0
     let m : Mgr := 0
     let s := State.reset
     let s := s.putAt Reg.REIN_STATUS.ACTIVE (0) (0) (1)
     let s := s.putAt Reg.REIN_STATUS.ACTIVE (1) (0) (0)
     let s := s.putAt Hid.PRESENT (0) (0) (1)
     let s := { s with evHost := [{ evBlank with seq := 3, src := 9 }] }
     s.reach w m = s.act ∧
     s.active.isSome ∧
     s.evHost ≠ []) ∧
    (let w : Who := .mc0
     let m : Mgr := 0
     let s := State.reset
     let s := s.putAt Reg.REIN_STATUS.ACTIVE (0) (0) (1)
     let s := s.putAt Reg.REIN_STATUS.ACTIVE (1) (0) (0)
     let s := s.putAt Hid.PRESENT (0) (0) (1)
     s.reach w m = s.act ∧
     s.active.isSome ∧
     s.evHost = []) ∧
    (let w : Who := .mc0
     let m : Mgr := 0
     let s := State.reset
     let s := s.putAt Reg.REIN_STATUS.ACTIVE (0) (0) (0)
     let s := s.putAt Reg.REIN_STATUS.ACTIVE (1) (0) (0)
     (decide (s.reach w m ≠ s.act ∨ s.active = none))) ∧
    (let w : Who := .mc0
     let m : Mgr := 0
     let target : BitVec 16 := 570
     let s := State.reset
     let s := s.putAt Reg.REIN_STATUS.ACTIVE (0) (0) (1)
     let s := s.putAt Reg.REIN_STATUS.ACTIVE (1) (0) (0)
     let s := s.putAt Hid.PRESENT (0) (0) (1)
     let s := s.putAt Reg.SRC_ACTIVE.ACTIVE (0) (target.toNat / 32) (2 ^ 32 - 1)
     let s := s.putAt Reg.SRC_LINE.LINE (0) (target.toNat / 32) (0)
     let s := s.putAt Hid.EV_ONCE (0) (target.toNat / 32) (0)
     let s := s.putAt Hid.EV_CNT (0) (target.toNat) (0)
     s.reach w m = s.act ∧
     s.active.isSome ∧
     target.toNat < 640 ∧
     s.srcActive target.toNat ∧
     s.bitAt Hid.EV_ONCE target.toNat = false ∧
     s.bitAt Reg.SRC_LINE.LINE target.toNat = false ∧
     s.getAt Hid.EV_CNT 0 target.toNat = 0) := by decide +kernel

/-- States and operands that meet the hypotheses of TakingAndCompletingRecords. -/
theorem wit_takingAndCompletingRecords_4 :
    (let w : Who := .mc0
     let m : Mgr := 0
     let target : BitVec 16 := 570
     let s := State.reset
     let s := s.putAt Reg.REIN_STATUS.ACTIVE (0) (0) (1)
     let s := s.putAt Reg.REIN_STATUS.ACTIVE (1) (0) (0)
     let s := s.putAt Hid.PRESENT (0) (0) (1)
     let s := s.putAt Reg.SRC_ACTIVE.ACTIVE (0) (target.toNat / 32) (2 ^ 32 - 1)
     let s := s.putAt Hid.EV_ONCE (0) (target.toNat / 32) (0)
     let s := s.putAt Hid.EV_CNT (0) (target.toNat) (7)
     let s := s.putAt Hid.EV_OLD (0) (target.toNat) (0)
     let s := s.putAt Reg.SRC_CFG.SENSE (0) (target.toNat) (1)
     let s := s.putAt Reg.SRC_CFG.CLASS (0) (target.toNat) (0)
     let s := s.putAt Reg.SRC_CFG.HOST (0) (target.toNat) (0)
     let s := s.putAt Reg.EVC_CTRL.QEN (0) (0) (1)
     s.reach w m = s.act ∧
     s.active.isSome ∧
     target.toNat < 640 ∧
     s.srcActive target.toNat ∧
     s.bitAt Hid.EV_ONCE target.toNat = false ∧
     s.getAt Hid.EV_CNT 0 target.toNat ≠ 0 ∧
     s.getAt Hid.EV_OLD 0 target.toNat = 0 ∧
     s.srcSense target.toNat ≠ 0 ∧
     s.srcClass target.toNat ≠ 2 ∧
     s.srcHost target.toNat = false ∧
     s.qFits .main evBlank) ∧
    (let w : Who := .mc0
     let m : Mgr := 0
     let target : BitVec 16 := 570
     let s := State.reset
     let s := s.putAt Reg.REIN_STATUS.ACTIVE (0) (0) (1)
     let s := s.putAt Reg.REIN_STATUS.ACTIVE (1) (0) (0)
     let s := s.putAt Hid.PRESENT (0) (0) (1)
     let s := s.putAt Reg.SRC_ACTIVE.ACTIVE (0) (target.toNat / 32) (2 ^ 32 - 1)
     let s := s.putAt Reg.SRC_LINE.LINE (0) (target.toNat / 32) (2 ^ 32 - 1)
     s.reach w m = s.act ∧
     s.active.isSome ∧
     target.toNat < 640 ∧
     s.srcActive target.toNat) ∧
    (let w : Who := .mc0
     let m : Mgr := 0
     let s := State.reset
     let s := s.putAt Reg.REIN_STATUS.ACTIVE (0) (0) (0)
     let s := s.putAt Reg.REIN_STATUS.ACTIVE (1) (0) (0)
     (decide (s.reach w m ≠ s.act ∨ s.active = none))) ∧
    (let w : Who := .mc0
     let m : Mgr := 0
     let seq : BitVec 16 := 0
     let s := State.reset
     let s := s.putAt Reg.REIN_STATUS.ACTIVE (0) (0) (1)
     let s := s.putAt Reg.REIN_STATUS.ACTIVE (1) (0) (0)
     let s := s.putAt Hid.PRESENT (0) (0) (1)
     let s := { s with evFolds := [⟨2, seq.toNat + 65536, [40, 41]⟩] }
     let s := s.putAt Reg.SRC_ACTIVE.ACTIVE (0) (1) (2 ^ 32 - 1)
     let s := s.putAt Reg.SRC_LINE.LINE (0) (1) (0)
     let s := s.putAt Hid.EV_ONCE (0) (1) (0)
     s.reach w m = s.act ∧
     s.active.isSome ∧
     ((s.evFolds.find? fun (f : EvFold) => f.seq % 65536 = seq.toNat).any fun f => f.srcs.all fun n => decide (n < 640) && !s.bitAt Hid.EV_ONCE n && !s.bitAt Reg.SRC_LINE.LINE n && decide (s.getAt Hid.EV_CNT 0 n = 0))) := by decide +kernel

/-- States and operands that meet the hypotheses of TakingAndCompletingRecords. -/
theorem wit_takingAndCompletingRecords_5 :
    (let w : Who := .mc0
     let m : Mgr := 0
     let seq : BitVec 16 := 0
     let s := State.reset
     let s := s.putAt Reg.REIN_STATUS.ACTIVE (0) (0) (1)
     let s := s.putAt Reg.REIN_STATUS.ACTIVE (1) (0) (0)
     let s := s.putAt Hid.PRESENT (0) (0) (1)
     let s := { s with evFolds := [⟨2, seq.toNat + 65536, [40, 41]⟩] }
     let s := s.putAt Reg.SRC_ACTIVE.ACTIVE (0) (1) (2 ^ 32 - 1)
     let s := s.putAt Reg.SRC_LINE.LINE (0) (1) (0x200)
     let s := s.putAt Hid.EV_ONCE (0) (1) (0)
     s.reach w m = s.act ∧
     s.active.isSome ∧
     ((s.evFolds.find? fun (f : EvFold) => f.seq % 65536 = seq.toNat).isSome)) ∧
    (let w : Who := .mc0
     let m : Mgr := 0
     let seq : BitVec 16 := 0
     let s := State.reset
     let s := s.putAt Reg.REIN_STATUS.ACTIVE (0) (0) (1)
     let s := s.putAt Reg.REIN_STATUS.ACTIVE (1) (0) (0)
     let s := s.putAt Hid.PRESENT (0) (0) (1)
     s.reach w m = s.act ∧
     s.active.isSome ∧
     ((s.evFolds.find? fun (f : EvFold) => f.seq % 65536 = seq.toNat) = none)) ∧
    (let w : Who := .mc0
     let m : Mgr := 0
     let s := State.reset
     let s := s.putAt Reg.REIN_STATUS.ACTIVE (0) (0) (0)
     let s := s.putAt Reg.REIN_STATUS.ACTIVE (1) (0) (0)
     (decide (s.reach w m ≠ s.act ∨ s.active = none))) := by decide +kernel

/-- States and operands that meet the hypotheses of StrayCompletions. -/
theorem wit_strayCompletions :
    (let w : Who := .mc0
     let m : Mgr := 0
     let target : BitVec 16 := 639
     let s := State.reset
     let s := s.putAt Reg.REIN_STATUS.ACTIVE (0) (0) (1)
     let s := s.putAt Reg.REIN_STATUS.ACTIVE (1) (0) (0)
     let s := s.putAt Hid.PRESENT (0) (0) (1)
     s.reach w m = s.act ∧
     s.active.isSome ∧
     target.toNat < 640 ∧
     s.srcActive target.toNat = false) ∧
    (let w : Who := .mc0
     let m : Mgr := 0
     let target : BitVec 16 := 640
     let s := State.reset
     let s := s.putAt Reg.REIN_STATUS.ACTIVE (0) (0) (1)
     let s := s.putAt Reg.REIN_STATUS.ACTIVE (1) (0) (0)
     let s := s.putAt Hid.PRESENT (0) (0) (1)
     s.reach w m = s.act ∧
     s.active.isSome ∧
     640 ≤ target.toNat) := by decide +kernel

/-- States and operands that meet the hypotheses of SuppliesAndDies. -/
theorem wit_suppliesAndDies_1 :
    (let s := State.reset
     let s := s.putAt Hid.POWERED (0) (0) (0)
     let s := s.putAt Hid.POWERED (1) (0) (0)
     s.on Hid.POWERED 0 = false ∧
     s.on Hid.POWERED 1 = false) ∧
    (let m : Mgr := 0
     let s := State.reset
     let s := s.putAt Hid.POWERED (m) (0) (0)
     let s := s.putAt Hid.POWERED (1 - m) (0) (1)
     s.on Hid.POWERED m = false ∧
     s.on Hid.POWERED (peer m)) ∧
    (let m : Mgr := 0
     let s := State.reset
     let s := s.putAt Hid.POWERED (0) (0) (1)
     let s := s.putAt Hid.POWERED (1) (0) (1)
     s.on Hid.POWERED m ∧
     s.on Hid.POWERED (peer m)) ∧
    (let m : Mgr := 0
     let s := State.reset
     let s := s.putAt Hid.POWERED (m) (0) (1)
     let s := s.putAt Hid.POWERED (1 - m) (0) (0)
     s.on Hid.POWERED m ∧
     s.on Hid.POWERED (peer m) = false) := by decide +kernel

/-- States and operands that meet the hypotheses of SuppliesAndDies. -/
theorem wit_suppliesAndDies_2 :
    (let m : Mgr := 0
     let s := State.reset
     let s := s.putAt Hid.POWERED (m) (0) (0)
     s.on Hid.POWERED m = false) ∧
    (let s := State.reset
     let s := s.putAt Hid.POWERED (0) (0) (0)
     let s := s.putAt Hid.POWERED (1) (0) (0)
     s.on Hid.POWERED 0 = false ∧
     s.on Hid.POWERED 1 = false) ∧
    (let m : Mgr := 1
     let s := State.reset
     let s := s.putAt Hid.POWERED (m) (0) (1)
     let s := s.putAt Hid.PRESENT (m) (0) (0)
     let s := s.putAt Hid.XTAL_STOPPED (m) (0) (0)
     let s := s.putAt Hid.LBIST_ON (0) (0) (0)
     let s := s.putAt Hid.BOOT (0) (0) (1)
     let s := s.putAt Hid.ST_STATE (m) (0) (1)
     let s := s.putAt Reg.LOAD_STATUS.SLOT (0) (0) (0)
     let s := s.putAt Hid.FW_NEW (m) (0) (0)
     let s := s.putAt Reg.REIN_STATUS.ACTIVE (1 - m) (0) (1)
     let s := s.putAt Reg.REIN_STATUS.ACTIVE (m) (0) (0)
     let s := s.putAt Hid.BEAT (1 - m) (0) (44)
     s.on Hid.POWERED m ∧
     s.on Hid.PRESENT m = false ∧
     s.on Hid.XTAL_STOPPED m = false ∧
     decide (s.get Hid.LBIST_ON 0 = 6 ∧ m ≠ s.act) = false ∧
     s.on Hid.BOOT 0 ∧
     s.get Hid.ST_STATE m ≠ 0 ∧
     (decide (s.get Reg.LOAD_STATUS.SLOT 0 = 0 ∨ s.on Hid.FW_NEW m = true ∨ s.slotCheck (s.get Reg.LOAD_STATUS.SLOT 0 - 1) = Fail.none)) ∧
     s.active = some (peer m)) ∧
    (let m : Mgr := 0
     let s := State.reset
     let s := s.putAt Hid.POWERED (m) (0) (1)
     let s := s.putAt Hid.PRESENT (m) (0) (0)
     let s := s.putAt Hid.XTAL_STOPPED (m) (0) (0)
     let s := s.putAt Hid.LBIST_ON (0) (0) (0)
     let s := s.putAt Hid.BOOT (0) (0) (1)
     let s := s.putAt Hid.ST_STATE (m) (0) (1)
     let s := s.putAt Reg.LOAD_STATUS.SLOT (0) (0) (0)
     let s := s.putAt Hid.FW_NEW (m) (0) (0)
     let s := s.putAt Reg.REIN_STATUS.ACTIVE (0) (0) (0)
     let s := s.putAt Reg.REIN_STATUS.ACTIVE (1) (0) (0)
     let s := s.putAt Hid.ROLE_LOW (0) (0) (0)
     let s := s.putAt Hid.ROLE_LOW (1) (0) (0)
     s.on Hid.POWERED m ∧
     s.on Hid.PRESENT m = false ∧
     s.on Hid.XTAL_STOPPED m = false ∧
     decide (s.get Hid.LBIST_ON 0 = 6 ∧ m ≠ s.act) = false ∧
     s.on Hid.BOOT 0 ∧
     s.get Hid.ST_STATE m ≠ 0 ∧
     (decide (s.get Reg.LOAD_STATUS.SLOT 0 = 0 ∨ s.on Hid.FW_NEW m = true ∨ s.slotCheck (s.get Reg.LOAD_STATUS.SLOT 0 - 1) = Fail.none)) ∧
     s.active = none ∧
     s.roleLow = false) := by decide +kernel

/-- States and operands that meet the hypotheses of SuppliesAndDies. -/
theorem wit_suppliesAndDies_3 :
    (let m : Mgr := 0
     let s := State.reset
     (decide (s.on Hid.POWERED m = false ∨ s.on Hid.PRESENT m = true ∨ s.on Hid.XTAL_STOPPED m = true ∨ (s.get Hid.LBIST_ON 0 = 6 ∧ m ≠ s.act) ∨ s.on Hid.BOOT 0 = false ∨ s.get Hid.ST_STATE m = 0))) := by decide +kernel

/-- States and operands that meet the hypotheses of ResetsByPinAndCommand. -/
theorem wit_resetsByPinAndCommand_1 :
    (let s := State.reset
     let s := s.putAt Hid.POWERED (0) (0) (1)
     let s := s.putAt Hid.VIO_OK (0) (0) (1)
     let s := s.putAt Hid.RST_LOW (0) (0) (0)
     (decide (s.on Hid.POWERED 0 = true ∨ s.on Hid.POWERED 1 = true)) ∧
     s.on Hid.VIO_OK 0 ∧
     s.on Hid.RST_LOW 0 = false) ∧
    (let s := State.reset
     (decide ((s.on Hid.POWERED 0 = false ∧ s.on Hid.POWERED 1 = false) ∨ s.on Hid.VIO_OK 0 = false ∨ s.on Hid.RST_LOW 0 = true))) ∧
    (let w : Who := .mc0
     let m : Mgr := 0
     let key : BitVec 16 := 0x9D62#16
     let s := State.reset
     let s := s.putAt Reg.REIN_STATUS.ACTIVE (0) (0) (1)
     let s := s.putAt Reg.REIN_STATUS.ACTIVE (1) (0) (0)
     let s := s.putAt Hid.PRESENT (0) (0) (1)
     s.reach w m = s.act ∧
     key = 0x9D62#16) ∧
    (let w : Who := .mc0
     let m : Mgr := 0
     let key : BitVec 16 := 0
     let s := State.reset
     let s := s.putAt Reg.REIN_STATUS.ACTIVE (0) (0) (1)
     let s := s.putAt Reg.REIN_STATUS.ACTIVE (1) (0) (0)
     let s := s.putAt Hid.PRESENT (0) (0) (1)
     s.reach w m = s.act ∧
     key ≠ 0x9D62#16) := by decide +kernel

/-- States and operands that meet the hypotheses of ResetsByPinAndCommand. -/
theorem wit_resetsByPinAndCommand_2 :
    (let w : Who := .mc0
     let m : Mgr := 0
     let u : Tile := 0
     let key : BitVec 16 := 0x9D62#16
     let s := State.reset
     let s := s.putAt Reg.REIN_STATUS.ACTIVE (0) (0) (1)
     let s := s.putAt Reg.REIN_STATUS.ACTIVE (1) (0) (0)
     let s := s.putAt Hid.PRESENT (0) (0) (1)
     let s := s.putAt Hid.SEQ_STEP (0) (0) (0)
     let s := s.putAt Hid.TSD_QUEUE (0) (0) (0)
     let s := s.over (List.range 4) (fun s k => s.put Hid.AK_STEP k 0)
     let s := s.putAt Hid.LBIST_ON (0) (0) (0)
     let s := s.over (List.range 48) (fun s r => s.put Reg.RAIL_SUP_STATUS.RSTATE (s.leadIx r) 0)
     s.reach w m = s.act ∧
     key = 0x9D62#16 ∧
     s.get Hid.LBIST_ON 0 ≠ u.val + 1 ∧
     s.railsGone u = [] ∧
     s.quiet) ∧
    (let w : Who := .mc0
     let m : Mgr := 0
     let u : Tile := 0
     let key : BitVec 16 := 0x9D62#16
     let s := State.reset
     let s := s.putAt Reg.REIN_STATUS.ACTIVE (0) (0) (1)
     let s := s.putAt Reg.REIN_STATUS.ACTIVE (1) (0) (0)
     let s := s.putAt Hid.PRESENT (0) (0) (1)
     let s := s.putAt Hid.LBIST_ON (0) (0) (0)
     let s := s.putAt Reg.RAIL_SUP_STATUS.RSTATE (s.leadIx 1) (0) (3)
     s.reach w m = s.act ∧
     key = 0x9D62#16 ∧
     s.get Hid.LBIST_ON 0 ≠ u.val + 1) ∧
    (let w : Who := .mc0
     let m : Mgr := 0
     let u : Tile := 0
     let key : BitVec 16 := 0
     let s := State.reset
     let s := s.putAt Reg.REIN_STATUS.ACTIVE (0) (0) (1)
     let s := s.putAt Reg.REIN_STATUS.ACTIVE (1) (0) (0)
     let s := s.putAt Hid.PRESENT (0) (0) (1)
     s.reach w m = s.act ∧
     (decide (key ≠ 0x9D62#16 ∨ s.get Hid.LBIST_ON 0 = u.val + 1))) ∧
    (let u : Tile := 0
     let s := State.reset
     let s := s.putAt Hid.SEQ_STEP (0) (0) (0)
     let s := s.putAt Hid.TSD_QUEUE (0) (0) (0)
     let s := s.over (List.range 4) (fun s k => s.put Hid.AK_STEP k 0)
     let s := s.over (List.range 48) (fun s r => s.put Reg.RAIL_SUP_STATUS.RSTATE (s.leadIx r) 0)
     s.railsGone u = [] ∧
     s.quiet) := by decide +kernel

/-- States and operands that meet the hypotheses of ResetsByPinAndCommand. -/
theorem wit_resetsByPinAndCommand_3 :
    (let w : Who := .mc0
     let m : Mgr := 0
     let key : BitVec 16 := 0x7C19#16
     let s := State.reset
     let s := s.putAt Reg.REIN_STATUS.ACTIVE (0) (0) (1)
     let s := s.putAt Reg.REIN_STATUS.ACTIVE (1) (0) (0)
     let s := s.putAt Hid.PRESENT (0) (0) (1)
     let s := s.putAt Hid.FU_LIFE (0) (0) (63)
     let s := s.putAt Hid.POWERED (0) (0) (1)
     let s := s.putAt Reg.DEV_STATE.STATE (0) (0) (3)
     s.reach w m = s.act ∧
     key = 0x7C19#16 ∧
     (s.lifeStage s.act = Stage.maker ∨ s.lifeStage s.act = Stage.field) ∧
     s.wipeAllowed) ∧
    (let w : Who := .mc0
     let m : Mgr := 0
     let key : BitVec 16 := 0
     let s := State.reset
     let s := s.putAt Reg.REIN_STATUS.ACTIVE (0) (0) (1)
     let s := s.putAt Reg.REIN_STATUS.ACTIVE (1) (0) (0)
     let s := s.putAt Hid.PRESENT (0) (0) (1)
     s.reach w m = s.act ∧
     key ≠ 0x7C19#16) ∧
    (let w : Who := .mc0
     let m : Mgr := 0
     let key : BitVec 16 := 0x7C19#16
     let s := State.reset
     let s := s.putAt Reg.REIN_STATUS.ACTIVE (0) (0) (1)
     let s := s.putAt Reg.REIN_STATUS.ACTIVE (1) (0) (0)
     let s := s.putAt Hid.PRESENT (0) (0) (1)
     s.reach w m = s.act ∧
     key = 0x7C19#16 ∧
     s.lifeStage s.act ≠ Stage.maker ∧
     s.lifeStage s.act ≠ Stage.field) ∧
    (let w : Who := .mc0
     let m : Mgr := 0
     let key : BitVec 16 := 0x7C19#16
     let s := State.reset
     let s := s.putAt Reg.REIN_STATUS.ACTIVE (0) (0) (1)
     let s := s.putAt Reg.REIN_STATUS.ACTIVE (1) (0) (0)
     let s := s.putAt Hid.PRESENT (0) (0) (1)
     let s := s.putAt Hid.FU_LIFE (0) (0) (63)
     let s := s.putAt Reg.DEV_STATE.STATE (0) (0) (1)
     s.reach w m = s.act ∧
     key = 0x7C19#16 ∧
     (s.lifeStage s.act = Stage.maker ∨ s.lifeStage s.act = Stage.field) ∧
     s.wipeAllowed = false) := by decide +kernel

/-- States and operands that meet the hypotheses of FusesAndLifeCycle. -/
theorem wit_fusesAndLifeCycle_1 :
    (let m : Mgr := 0
     let s := State.reset
     (decide (s.on Hid.POWERED m = false ∨ s.on Hid.RST_LOW 0 = true ∨ s.on Hid.SENSED m = true))) ∧
    (let u : Unit5 := 0
     let copyA : BitVec 2048 := 0
     let copyB : BitVec 2048 := 0
     let s := State.reset
     let s := s.putAt Hid.BC_VERDICT (u) (0) (1)
     (decide (s.verdictOn copyA.toNat copyB.toNat = Bc.none ∨ (u.val < 4 ∧ (s.get Hid.BC_VERDICT u ≠ 0 ∨ s.dev = Dev.park)) ∨ (u.val = 4 ∧ s.on Hid.BOOT 0 = true)))) ∧
    (let s := State.reset
     let s := s.putAt Hid.BOOT (0) (0) (0)
     let s := s.putAt Hid.RST_LOW (0) (0) (0)
     let s := s.putAt Reg.REIN_STATUS.ACTIVE (0) (0) (0)
     let s := s.putAt Reg.REIN_STATUS.ACTIVE (1) (0) (0)
     let s := s.putAt Hid.POWERED (0) (0) (1)
     let s := s.putAt Hid.POWERED (1) (0) (0)
     let s := s.putAt Hid.PRESENT (0) (0) (1)
     let s := s.putAt Hid.PRESENT (1) (0) (0)
     let s := s.putAt Hid.SENSED (0) (0) (1)
     let s := s.putAt Hid.SN_OK (0) (0) (1)
     let s := s.putAt Hid.SN_LIFE (0) (0) (1)
     let s := s.over (List.range 4) (fun s u => (s.put Hid.BC_VERDICT u 1).put Hid.TILE_CRC_BAD u 0)
     let s := s.putAt Hid.BC_HPD (0) (0) (1)
     let s := s.putAt Hid.SN_WIPE (0) (0) (0)
     s.on Hid.BOOT 0 = false ∧
     s.on Hid.RST_LOW 0 = false ∧
     s.decisionDue ∧
     s.active = none ∧
     s.startPresent.integrityOk ∧
     s.startPresent.wipeBegun = false) ∧
    (let s := State.reset
     let s := s.putAt Hid.BOOT (0) (0) (0)
     let s := s.putAt Hid.RST_LOW (0) (0) (0)
     let s := s.putAt Reg.REIN_STATUS.ACTIVE (0) (0) (0)
     let s := s.putAt Reg.REIN_STATUS.ACTIVE (1) (0) (0)
     let s := s.putAt Hid.POWERED (0) (0) (1)
     let s := s.putAt Hid.POWERED (1) (0) (0)
     let s := s.putAt Hid.PRESENT (0) (0) (1)
     let s := s.putAt Hid.PRESENT (1) (0) (0)
     let s := s.putAt Hid.SENSED (0) (0) (1)
     let s := s.putAt Hid.SN_OK (0) (0) (1)
     let s := s.putAt Hid.SN_LIFE (0) (0) (1)
     let s := s.over (List.range 4) (fun s u => (s.put Hid.BC_VERDICT u 1).put Hid.TILE_CRC_BAD u 0)
     let s := s.putAt Hid.BC_HPD (0) (0) (1)
     let s := s.putAt Hid.SN_WIPE (0) (0) (7)
     let s := s.putAt Reg.FUSE_STATUS.STAGE (0) (0) (1)
     s.on Hid.BOOT 0 = false ∧
     s.on Hid.RST_LOW 0 = false ∧
     s.decisionDue ∧
     s.active = none ∧
     s.startPresent.integrityOk ∧
     s.startPresent.wipeBegun) := by decide +kernel

/-- States and operands that meet the hypotheses of FusesAndLifeCycle. -/
theorem wit_fusesAndLifeCycle_2 :
    (let s := State.reset
     let s := s.putAt Hid.BOOT (0) (0) (0)
     let s := s.putAt Hid.RST_LOW (0) (0) (0)
     let s := s.putAt Reg.REIN_STATUS.ACTIVE (0) (0) (0)
     let s := s.putAt Reg.REIN_STATUS.ACTIVE (1) (0) (0)
     let s := s.putAt Hid.POWERED (0) (0) (1)
     let s := s.putAt Hid.POWERED (1) (0) (0)
     let s := s.putAt Hid.PRESENT (0) (0) (1)
     let s := s.putAt Hid.PRESENT (1) (0) (0)
     let s := s.putAt Hid.SENSED (0) (0) (1)
     let s := s.putAt Hid.SN_OK (0) (0) (0)
     let s := s.putAt Hid.SN_LIFE (0) (0) (1)
     let s := s.over (List.range 4) (fun s u => (s.put Hid.BC_VERDICT u 1).put Hid.TILE_CRC_BAD u 0)
     let s := s.putAt Hid.BC_HPD (0) (0) (1)
     s.on Hid.BOOT 0 = false ∧
     s.on Hid.RST_LOW 0 = false ∧
     s.decisionDue ∧
     s.startPresent.integrityOk = false) ∧
    (let s := State.reset
     (decide (s.on Hid.BOOT 0 = true ∨ s.on Hid.RST_LOW 0 = true ∨ s.decisionDue = false))) ∧
    (let w : Who := .mc0
     let m : Mgr := 0
     let key : BitVec 16 := 0
     let s := State.reset
     let s := s.putAt Reg.REIN_STATUS.ACTIVE (0) (0) (1)
     let s := s.putAt Reg.REIN_STATUS.ACTIVE (1) (0) (0)
     let s := s.putAt Hid.PRESENT (0) (0) (1)
     s.reach w m = s.act ∧
     key ≠ 0x3E71#16) ∧
    (let w : Who := .mc0
     let m : Mgr := 0
     let key : BitVec 16 := 0x3E71#16
     let field : BitVec 5 := 0
     let word : BitVec 5 := 0
     let len : BitVec 4 := 0
     let supplyOk : Bool := false
     let s := State.reset
     let s := s.putAt Reg.REIN_STATUS.ACTIVE (0) (0) (1)
     let s := s.putAt Reg.REIN_STATUS.ACTIVE (1) (0) (0)
     let s := s.putAt Hid.PRESENT (0) (0) (1)
     s.reach w m = s.act ∧
     key = 0x3E71#16 ∧
     ((fuseById field.toNat).all fun f => s.fuseReason f word.toNat (len.toNat + 1) supplyOk ≠ 0)) := by decide +kernel

/-- States and operands that meet the hypotheses of FusesAndLifeCycle. -/
theorem wit_fusesAndLifeCycle_3 :
    (let w : Who := .mc0
     let m : Mgr := 0
     let key : BitVec 16 := 0x3E71#16
     let field : BitVec 5 := 0x0E#5
     let word : BitVec 5 := 0
     let len : BitVec 4 := 0
     let supplyOk : Bool := true
     let s := State.reset
     let s := s.putAt Reg.REIN_STATUS.ACTIVE (0) (0) (1)
     let s := s.putAt Reg.REIN_STATUS.ACTIVE (1) (0) (0)
     let s := s.putAt Hid.PRESENT (0) (0) (1)
     let s := s.putAt Hid.PRESENT (1) (0) (1)
     let s := s.putAt Reg.REIN_STATUS.SHADOW_READY (1) (0) (1)
     let s := s.putAt Reg.FUSE_STATUS.PROG_BUSY (0) (0) (0)
     let s := s.putAt Hid.FMAP_ON (0) (0) (0)
     let s := s.putAt Reg.DEV_STATE.STATE (0) (0) (3)
     let s := s.putAt Reg.UPD_STATUS.STATE (0) (0) (0)
     let s := s.putAt Reg.UPD_STATUS.FLASH_BUSY (0) (0) (0)
     let s := s.putAt Hid.FU_LIFE (0) (0) (0)
     s.reach w m = s.act ∧
     key = 0x3E71#16 ∧
     (fuseById field.toNat).isSome ∧
     ((fuseById field.toNat).all fun f => s.fuseReason f word.toNat (len.toNat + 1) supplyOk = 0)) ∧
    (let w : Who := .sc
     let m : Mgr := 1
     let s := State.reset
     let s := s.putAt Reg.REIN_STATUS.ACTIVE (0) (0) (1)
     let s := s.putAt Reg.REIN_STATUS.ACTIVE (1) (0) (0)
     let s := s.putAt Hid.PRESENT (0) (0) (1)
     s.reach w m ≠ s.act) ∧
    (let fails : List (Mgr × Nat × Bool) := []
     let s := State.reset
     let s := s.putAt Reg.FUSE_STATUS.PROG_BUSY (0) (0) (1)
     let s := s.putAt Hid.FMAP_ON (0) (0) (1)
     let s := s.putAt Hid.FMAP_DONE (0) (0) (0)
     let s := s.putAt Hid.FMAP_FIELD (0) (0) (0x0E)
     let s := s.putAt Hid.FMAP_LEN (0) (0) (1)
     let s := s.putAt Hid.FMAP_DATA (0) (0) (1)
     let s := s.putAt Hid.PRESENT (0) (0) (1)
     let s := s.putAt Hid.PRESENT (1) (0) (1)
     fails = [] ∧
     (fuseById (s.get Hid.FMAP_FIELD 0)).isSome ∧
     s.on Reg.FUSE_STATUS.PROG_BUSY 0 ∧
     s.on Hid.FMAP_ON 0 ∧
     s.get Hid.FMAP_DONE 0 = 0 ∧
     s.on Hid.PRESENT 0 ∧
     s.on Hid.PRESENT 1) ∧
    (let s := State.reset
     let s := s.putAt Reg.FUSE_STATUS.PROG_BUSY (0) (0) (1)
     let s := s.putAt Hid.FMAP_ON (0) (0) (1)
     let s := s.putAt Hid.FMAP_DONE (0) (0) (0)
     let s := s.putAt Hid.FMAP_FIELD (0) (0) (0x0E)
     let s := s.putAt Hid.FMAP_LEN (0) (0) (1)
     let s := s.putAt Hid.FMAP_DATA (0) (0) (1)
     let s := s.putAt Hid.PRESENT (0) (0) (1)
     let s := s.putAt Hid.PRESENT (1) (0) (1)
     (fuseById (s.get Hid.FMAP_FIELD 0)).isSome ∧
     s.on Reg.FUSE_STATUS.PROG_BUSY 0 ∧
     s.on Hid.FMAP_ON 0 ∧
     s.get Hid.FMAP_DONE 0 < 4 ∧
     (decide (∀ m : Mgr, s.on Hid.PRESENT m = true ∨ s.bit Hid.FMAP_DONE 0 m = true))) := by decide +kernel

/-- States and operands that meet the hypotheses of FusesAndLifeCycle. -/
theorem wit_fusesAndLifeCycle_4 :
    (let s := State.reset
     let s := s.putAt Reg.FUSE_STATUS.PROG_BUSY (0) (0) (1)
     let s := s.putAt Hid.FMAP_ON (0) (0) (1)
     let s := s.putAt Hid.FMAP_DONE (0) (0) (0)
     let s := s.putAt Hid.FMAP_FIELD (0) (0) (0x0E)
     let s := s.putAt Hid.FMAP_LEN (0) (0) (1)
     let s := s.putAt Hid.FMAP_DATA (0) (0) (1)
     let s := s.putAt Hid.PRESENT (0) (0) (1)
     let s := s.putAt Hid.PRESENT (1) (0) (0)
     (fuseById (s.get Hid.FMAP_FIELD 0)).isSome ∧
     s.on Reg.FUSE_STATUS.PROG_BUSY 0 ∧
     s.on Hid.FMAP_ON 0 ∧
     (decide (∃ m : Mgr, s.on Hid.PRESENT m = false ∧ s.bit Hid.FMAP_DONE 0 m = false))) ∧
    (let s := State.reset
     (decide (s.on Reg.FUSE_STATUS.PROG_BUSY 0 = false ∨ s.on Hid.FMAP_ON 0 = false))) ∧
    (let supplyOk : Bool := true
     let s := State.reset
     let s := s.putAt Reg.REIN_STATUS.ACTIVE (0) (0) (1)
     let s := s.putAt Reg.REIN_STATUS.ACTIVE (1) (0) (0)
     let s := s.putAt Hid.PRESENT (0) (0) (1)
     let s := s.putAt Hid.PRESENT (1) (0) (1)
     let s := s.putAt Reg.REIN_STATUS.SHADOW_READY (1) (0) (1)
     let s := s.putAt Reg.FUSE_STATUS.PROG_BUSY (0) (0) (0)
     let s := s.putAt Hid.FMAP_ON (0) (0) (1)
     let s := s.putAt Reg.DEV_STATE.STATE (0) (0) (3)
     let s := s.putAt Reg.UPD_STATUS.STATE (0) (0) (0)
     let s := s.putAt Reg.UPD_STATUS.FLASH_BUSY (0) (0) (0)
     s.on Hid.FMAP_ON 0 ∧
     s.fuseHolds supplyOk (s.get Hid.FMAP_BY 0 = For.rollback) = 0) ∧
    (let supplyOk : Bool := false
     let s := State.reset
     (decide (s.on Hid.FMAP_ON 0 = false ∨ s.fuseHolds supplyOk (s.get Hid.FMAP_BY 0 = For.rollback) ≠ 0))) := by decide +kernel

/-- States and operands that meet the hypotheses of FusesAndLifeCycle. -/
theorem wit_fusesAndLifeCycle_5 :
    (let w : Who := .mc0
     let m : Mgr := 0
     let key : BitVec 16 := 0x7C19#16
     let supplyOk : Bool := true
     let s := State.reset
     let s := s.putAt Reg.REIN_STATUS.ACTIVE (0) (0) (1)
     let s := s.putAt Reg.REIN_STATUS.ACTIVE (1) (0) (0)
     let s := s.putAt Hid.PRESENT (0) (0) (1)
     let s := s.putAt Hid.PRESENT (1) (0) (1)
     let s := s.putAt Reg.REIN_STATUS.SHADOW_READY (1) (0) (1)
     let s := s.putAt Reg.FUSE_STATUS.PROG_BUSY (0) (0) (0)
     let s := s.putAt Hid.FMAP_ON (0) (0) (0)
     let s := s.putAt Reg.DEV_STATE.STATE (0) (0) (3)
     let s := s.putAt Reg.UPD_STATUS.STATE (0) (0) (0)
     let s := s.putAt Reg.UPD_STATUS.FLASH_BUSY (0) (0) (0)
     let s := s.putAt Hid.FU_LIFE (0) (0) (7)
     let s := s.putAt Hid.MET_LOCKED (0) (0) (1)
     s.reach w m = s.act ∧
     key = 0x7C19#16 ∧
     s.lcCondition ∧
     s.fuseHolds supplyOk false = 0 ∧
     s.on Hid.FMAP_ON 0 = false) ∧
    (let w : Who := .mc0
     let m : Mgr := 0
     let key : BitVec 16 := 0x7C19#16
     let s := State.reset
     let s := s.putAt Reg.REIN_STATUS.ACTIVE (0) (0) (1)
     let s := s.putAt Reg.REIN_STATUS.ACTIVE (1) (0) (0)
     let s := s.putAt Hid.PRESENT (0) (0) (1)
     let s := s.putAt Hid.FU_LIFE (0) (0) (7)
     let s := s.putAt Hid.MET_LOCKED (0) (0) (0)
     s.reach w m = s.act ∧
     key = 0x7C19#16 ∧
     s.lcCondition = false) ∧
    (let w : Who := .mc0
     let m : Mgr := 0
     let key : BitVec 16 := 0
     let s := State.reset
     let s := s.putAt Reg.REIN_STATUS.ACTIVE (0) (0) (1)
     let s := s.putAt Reg.REIN_STATUS.ACTIVE (1) (0) (0)
     let s := s.putAt Hid.PRESENT (0) (0) (1)
     s.reach w m = s.act ∧
     key ≠ 0x7C19#16) ∧
    (let w : Who := .mc0
     let m : Mgr := 0
     let key : BitVec 16 := 0x7C19#16
     let supplyOk : Bool := false
     let s := State.reset
     let s := s.putAt Reg.REIN_STATUS.ACTIVE (0) (0) (1)
     let s := s.putAt Reg.REIN_STATUS.ACTIVE (1) (0) (0)
     let s := s.putAt Hid.PRESENT (0) (0) (1)
     let s := s.putAt Hid.FU_LIFE (0) (0) (7)
     let s := s.putAt Hid.MET_LOCKED (0) (0) (1)
     s.reach w m = s.act ∧
     key = 0x7C19#16 ∧
     s.lcCondition ∧
     (decide (s.fuseHolds supplyOk false ≠ 0 ∨ s.on Hid.FMAP_ON 0 = true))) := by decide +kernel

/-- States and operands that meet the hypotheses of LoadArmRunPark. -/
theorem wit_loadArmRunPark_1 :
    (let k : Nat := 0
     let s := State.reset
     let s := s.putAt Reg.DEV_STATE.STATE (0) (0) (2)
     let s := s.putAt Reg.LOAD_STATUS.LOADING (0) (0) (1)
     let s := s.putAt Hid.FIRST_SLOT (0) (0) (1)
     let s := s.putAt Reg.LOAD_STATUS.FAIL_A (0) (0) (0)
     s.dev = Dev.load ∧
     s.on Reg.LOAD_STATUS.LOADING 0 ∧
     s.nextSlot = some k ∧
     s.slotCheck k ≠ Fail.none ∧
     s.slotCheck k ≠ Fail.rule) ∧
    (let s := State.reset
     (decide (s.dev ≠ Dev.load ∨ s.on Reg.LOAD_STATUS.LOADING 0 = false ∨ s.nextSlot = none))) ∧
    (let s := State.reset
     let s := s.putAt Reg.DEV_STATE.STATE (0) (0) (3)
     let s := s.putAt Hid.ARM_AUTO (0) (0) (1)
     let s := s.putAt Hid.COMMITTED (0) (0) (1)
     let s := s.putAt Hid.VBB_IN (0) (0) (1)
     let s := s.putAt Hid.BEAT (s.act) (0) (2000)
     let s := s.putAt Hid.VBB_BEAT (0) (0) (0)
     let s := s.putAt Hid.GG_READY (0) (0) (1)
     let s := s.putAt Hid.VIO_OK (0) (0) (1)
     let s := s.over (List.range 48) (fun s r => s.put Reg.RAIL_SUP_CFG.KIND (s.homeIx r) 0)
     s.dev = Dev.arm ∧
     s.on Hid.ARM_AUTO 0 ∧
     s.armed5) ∧
    (let s := State.reset
     (decide (s.dev ≠ Dev.arm ∨ s.on Hid.ARM_AUTO 0 = false ∨ s.armed5 = false))) := by decide +kernel

/-- States and operands that meet the hypotheses of LoadArmRunPark. -/
theorem wit_loadArmRunPark_2 :
    (let w : Who := .mc0
     let m : Mgr := 0
     let s := State.reset
     let s := s.putAt Reg.REIN_STATUS.ACTIVE (0) (0) (1)
     let s := s.putAt Reg.REIN_STATUS.ACTIVE (1) (0) (0)
     let s := s.putAt Hid.PRESENT (0) (0) (1)
     let s := s.putAt Reg.DEV_STATE.STATE (0) (0) (3)
     let s := s.putAt Hid.COMMITTED (0) (0) (1)
     let s := s.putAt Hid.VBB_IN (0) (0) (1)
     let s := s.putAt Hid.BEAT (0) (0) (2000)
     let s := s.putAt Hid.VBB_BEAT (0) (0) (0)
     let s := s.putAt Hid.GG_READY (0) (0) (1)
     let s := s.putAt Hid.VIO_OK (0) (0) (1)
     let s := s.over (List.range 48) (fun s r => s.put Reg.RAIL_SUP_CFG.KIND (s.homeIx r) 0)
     s.reach w m = s.act ∧
     s.dev = Dev.arm ∧
     s.armed5) ∧
    (let w : Who := .mc0
     let m : Mgr := 0
     let s := State.reset
     let s := s.putAt Reg.REIN_STATUS.ACTIVE (0) (0) (1)
     let s := s.putAt Reg.REIN_STATUS.ACTIVE (1) (0) (0)
     let s := s.putAt Hid.PRESENT (0) (0) (1)
     s.reach w m = s.act ∧
     (s.dev ≠ Dev.arm ∨ s.armed5 = false)) ∧
    (let s := State.reset
     let s := s.putAt Reg.DEV_STATE.STATE (0) (0) (3)
     let s := s.putAt Hid.ARM_TMO (0) (0) (1)
     let s := s.putAt Hid.ARM_BEAT (0) (0) (5)
     let s := s.putAt Hid.BEAT (s.act) (0) (1005)
     let s := s.putAt Hid.COMMITTED (0) (0) (0)
     s.dev = Dev.arm ∧
     s.armed5 = false ∧
     s.armTmo ≤ beatDiff s.beat (s.get Hid.ARM_BEAT 0)) ∧
    (let s := State.reset
     (decide (s.dev ≠ Dev.arm ∨ s.armed5 = true ∨ beatDiff s.beat (s.get Hid.ARM_BEAT 0) < s.armTmo))) := by decide +kernel

/-- States and operands that meet the hypotheses of LoadArmRunPark. -/
theorem wit_loadArmRunPark_3 :
    (let w : Who := .mc0
     let m : Mgr := 0
     let s := State.reset
     let s := s.putAt Reg.REIN_STATUS.ACTIVE (0) (0) (1)
     let s := s.putAt Reg.REIN_STATUS.ACTIVE (1) (0) (0)
     let s := s.putAt Hid.PRESENT (0) (0) (1)
     let s := s.putAt Reg.DEV_STATE.STATE (0) (0) (4)
     let s := s.putAt Reg.SEQ_STATUS.ACTIVE (0) (0) (0)
     let s := s.putAt Reg.UPD_STATUS.STATE (0) (0) (0)
     let s := s.putAt Reg.UPD_STATUS.FLASH_BUSY (0) (0) (0)
     let s := s.putAt Reg.FUSE_STATUS.PROG_BUSY (0) (0) (0)
     let s := s.putAt Reg.BFET_STATUS.STATE (0) (0) (0)
     let s := s.over (List.range 48) (fun s r => s.put Reg.RAIL_SUP_STATUS.RSTATE (s.leadIx r) 0)
     s.reach w m = s.act ∧
     s.parkAllowed) ∧
    (let w : Who := .mc0
     let m : Mgr := 0
     let s := State.reset
     let s := s.putAt Reg.REIN_STATUS.ACTIVE (0) (0) (1)
     let s := s.putAt Reg.REIN_STATUS.ACTIVE (1) (0) (0)
     let s := s.putAt Hid.PRESENT (0) (0) (1)
     s.reach w m = s.act ∧
     s.parkAllowed = false) ∧
    (let src : BitVec 5 := 1
     let s := State.reset
     let s := s.putAt Reg.DEV_STATE.STATE (0) (0) (6)
     let s := s.putAt Reg.LOAD_STATUS.SLOT (0) (0) (0)
     s.dev = Dev.park ∧
     (src.toNat ||| s.get Hid.WAKE_PEND 0) &&& s.wakeEnables ≠ 0 ∧
     s.get Reg.LOAD_STATUS.SLOT 0 = 0) ∧
    (let src : BitVec 5 := 1
     let s := State.reset
     let s := s.putAt Reg.DEV_STATE.STATE (0) (0) (6)
     let s := s.putAt Reg.LOAD_STATUS.SLOT (0) (0) (1)
     s.dev = Dev.park ∧
     (src.toNat ||| s.get Hid.WAKE_PEND 0) &&& s.wakeEnables ≠ 0) := by decide +kernel

/-- States and operands that meet the hypotheses of LoadArmRunPark. -/
theorem wit_loadArmRunPark_4 :
    (let src : BitVec 5 := 0
     let s := State.reset
     (decide (s.dev ≠ Dev.park ∨ (src.toNat ||| s.get Hid.WAKE_PEND 0) &&& s.wakeEnables = 0))) := by decide +kernel

/-- States and operands that meet the hypotheses of CoresAndMemories. -/
theorem wit_coresAndMemories_1 :
    (let m : Mgr := 0
     let core : Fin 4 := 0
     let s := State.reset
     let s := s.putAt Reg.REIN_STATUS.ACTIVE (0) (0) (1)
     let s := s.putAt Reg.REIN_STATUS.ACTIVE (1) (0) (0)
     let s := s.putAt Hid.PRESENT (0) (0) (1)
     let s := s.putAt Reg.EVC_CORE.HALTED (0) (core.val) (0)
     s.on Hid.PRESENT m ∧
     m.val = s.act ∧
     (core.val = 3 ∨ s.onAt Reg.EVC_CORE.HALTED 0 core = false)) ∧
    (let m : Mgr := 0
     let core : Fin 4 := 0
     let s := State.reset
     let s := s.putAt Reg.REIN_STATUS.ACTIVE (0) (0) (1)
     let s := s.putAt Reg.REIN_STATUS.ACTIVE (1) (0) (0)
     let s := s.putAt Hid.PRESENT (0) (0) (1)
     let s := s.putAt Reg.EVC_CORE.HALTED (0) (core.val) (1)
     core.val < 3 ∧
     s.onAt Reg.EVC_CORE.HALTED 0 core ∧
     m.val = s.act) ∧
    (let m : Mgr := 1
     let core : Fin 4 := 0
     let s := State.reset
     let s := s.putAt Reg.REIN_STATUS.ACTIVE (0) (0) (1)
     let s := s.putAt Reg.REIN_STATUS.ACTIVE (1) (0) (0)
     let s := s.putAt Hid.PRESENT (0) (0) (1)
     m.val ≠ s.act ∧
     s.bit Reg.TRACE_CTRL.CORE_EN m core = false) ∧
    (let w : Who := .mc2
     let m : Mgr := 0
     let c : Fin 4 := 2
     let s := State.reset
     let s := s.putAt Reg.TRACE_CTRL.CORE_EN (m) (0) (15)
     let s := s.putAt Reg.TRACE_CTRL.STOP_FULL (m) (0) (0)
     coreOf w = some c.val ∧
     s.bit Reg.TRACE_CTRL.CORE_EN m c ∧
     (decide (s.on Reg.TRACE_CTRL.STOP_FULL m = false ∨ s.on Reg.TRACE_STATUS.FULL m = false)) ∧
     s.get Reg.TRACE_STATUS.WPTR m < 2048 ∧
     Memory.wf s.mem = true) := by decide +kernel

/-- States and operands that meet the hypotheses of CoresAndMemories. -/
theorem wit_coresAndMemories_2 :
    (let w : Who := .sc
     let m : Mgr := 0
     let c : Fin 4 := 3
     let s := State.reset
     let s := s.putAt Reg.TRACE_CTRL.CORE_EN (m) (0) (15)
     let s := s.putAt Reg.TRACE_CTRL.STOP_FULL (m) (0) (1)
     let s := s.putAt Reg.TRACE_STATUS.FULL (m) (0) (1)
     coreOf w = some c.val ∧
     s.bit Reg.TRACE_CTRL.CORE_EN m c ∧
     s.on Reg.TRACE_CTRL.STOP_FULL m ∧
     s.on Reg.TRACE_STATUS.FULL m) ∧
    (let w : Who := .host
     let m : Mgr := 0
     let s := State.reset
     (decide (coreOf w = none ∨ s.get Reg.TRACE_CTRL.CORE_EN m = 0))) ∧
    (let w : Who := .mc0
     let m : Mgr := 0
     let secure : Bool := false
     let addr : Word := 0x10000FFE#32
     let size : Fin 3 := 2
     let row : Upset := .clean
     let s := State.reset
     let s := s.putAt Reg.REIN_STATUS.ACTIVE (0) (0) (1)
     let s := s.putAt Reg.REIN_STATUS.ACTIVE (1) (0) (0)
     let s := s.putAt Hid.PRESENT (0) (0) (1)
     (memOf addr.toNat = 0 ∨ memOf addr.toNat = 2) ∧
     memOf (addr.toNat + 2 ^ size.val - 1) = memOf addr.toNat ∧
     (mayReachSecure w secure ∨ (inSecure addr.toNat = false ∧ inSecure (addr.toNat + 2 ^ size.val - 1) = false)) ∧
     (memOf addr.toNat = 2 → s.reach w m = s.act) ∧
     (row = .clean ∨ row = .passed) ∧
     Memory.wf s.mem = true) ∧
    (let w : Who := .mc0
     let m : Mgr := 0
     let secure : Bool := false
     let addr : Word := 0x10000FFC#32
     let size : Fin 3 := 0
     let row : Upset := .lost
     let s := State.reset
     let s := s.putAt Hid.PRESENT (0) (0) (1)
     let s := s.putAt Hid.PRESENT (1) (0) (1)
     memOf addr.toNat = 0 ∧
     memOf (addr.toNat + 2 ^ size.val - 1) = 0 ∧
     (decide (mayReachSecure w secure = true ∨ (inSecure addr.toNat = false ∧ inSecure (addr.toNat + 2 ^ size.val - 1) = false))) ∧
     row = .lost ∧
     s.on Hid.PRESENT (s.reach w m)) := by decide +kernel

/-- States and operands that meet the hypotheses of CoresAndMemories. -/
theorem wit_coresAndMemories_3 :
    (let w : Who := .host
     let secure : Bool := false
     let addr : Word := 0x100EFFFF#32
     let size : Fin 3 := 1
     let _s := State.reset
     memOf addr.toNat = 0 ∧
     memOf (addr.toNat + 2 ^ size.val - 1) = 0 ∧
     mayReachSecure w secure = false ∧
     inSecure (addr.toNat + 2 ^ size.val - 1)) ∧
    (let addr : Word := 0xE0000000#32
     let size : Fin 3 := 0
     let _s := State.reset
     (decide (memOf addr.toNat ≠ memOf (addr.toNat + 2 ^ size.val - 1) ∨ (memOf addr.toNat ≠ 0 ∧ memOf addr.toNat ≠ 2)))) ∧
    (let w : Who := .mc0
     let m : Mgr := 0
     let addr : Word := 0x2002A000#32
     let size : Fin 3 := 2
     let s := State.reset
     addr.toNat % 2 ^ size.val = 0 ∧
     feFirmware addr.toNat ∧
     (decide (size = 2 ∨ s.feBad.contains (mgrMem (s.reach w m) addr.toNat / 4 * 4) = false)) ∧
     Memory.wf s.mem = true) ∧
    (let w : Who := .mc0
     let m : Mgr := 0
     let addr : Word := 0x2003E000#32
     let size : Fin 3 := 0
     let s := State.reset
     (decide (addr.toNat % 2 ^ size.val ≠ 0 ∨ feFirmware addr.toNat = false ∨ (size ≠ 2 ∧ s.feBad.contains (mgrMem (s.reach w m) addr.toNat / 4 * 4) = true)))) := by decide +kernel

/-- States and operands that meet the hypotheses of CoresAndMemories. -/
theorem wit_coresAndMemories_4 :
    (let m : Mgr := 0
     let addr : Word := 0x20000004#32
     let row : Upset := .corrected
     let s := State.reset
     let s := s.putAt Hid.PRESENT (m) (0) (1)
     s.on Hid.PRESENT m ∧
     memOf addr.toNat ≠ 4 ∧
     row = .corrected) ∧
    (let m : Mgr := 0
     let addr : Word := 0x10000004#32
     let row : Upset := .lost
     let s := State.reset
     let s := s.putAt Hid.PRESENT (m) (0) (1)
     s.on Hid.PRESENT m ∧
     (memOf addr.toNat = 0 ∨ memOf addr.toNat = 1 ∨ memOf addr.toNat = 2) ∧
     row = .lost) ∧
    (let m : Mgr := 0
     let addr : Word := 0x20000004#32
     let row : Upset := .lost
     let s := State.reset
     let s := s.putAt Hid.PRESENT (m) (0) (1)
     s.on Hid.PRESENT m ∧
     memOf addr.toNat = 3 ∧
     row = .lost) ∧
    (let m : Mgr := 0
     let addr : Word := 0
     let row : Upset := .clean
     let s := State.reset
     (decide (s.on Hid.PRESENT m = false ∨ memOf addr.toNat = 4 ∨ row = .clean ∨ row = .passed))) := by decide +kernel

/-- States and operands that meet the hypotheses of WatchdogAndCalendar. -/
theorem wit_watchdogAndCalendar_1 :
    (let w : Who := .mc0
     let m : Mgr := 0
     let s := State.reset
     let s := s.putAt Reg.REIN_STATUS.ACTIVE (0) (0) (1)
     let s := s.putAt Reg.REIN_STATUS.ACTIVE (1) (0) (0)
     let s := s.putAt Hid.PRESENT (0) (0) (1)
     let s := s.putAt Reg.WDT_STATUS.ARMED (0) (0) (0)
     (coreOf w).isSome ∧
     s.reach w m = s.act ∧
     s.on Reg.WDT_STATUS.ARMED 0 = false) ∧
    (let w : Who := .mc0
     let m : Mgr := 0
     let s := State.reset
     let s := s.putAt Reg.REIN_STATUS.ACTIVE (0) (0) (1)
     let s := s.putAt Reg.REIN_STATUS.ACTIVE (1) (0) (0)
     let s := s.putAt Hid.PRESENT (0) (0) (1)
     let s := s.putAt Reg.WDT_STATUS.ARMED (0) (0) (1)
     let s := s.putAt Reg.DEV_STATE.STATE (0) (0) (4)
     let s := s.putAt Hid.WDT_PERIOD (0) (0) (10)
     let s := s.putAt Hid.WDT_BEAT (0) (0) (5)
     let s := s.putAt Hid.BEAT (0) (0) (10005)
     (coreOf w).isSome ∧
     s.reach w m = s.act ∧
     s.on Reg.WDT_STATUS.ARMED 0 ∧
     (decide (s.wdtCounts = false ∨ s.wdtLength ≤ s.wdtAge))) ∧
    (let w : Who := .mc0
     let m : Mgr := 0
     let s := State.reset
     let s := s.putAt Reg.REIN_STATUS.ACTIVE (0) (0) (1)
     let s := s.putAt Reg.REIN_STATUS.ACTIVE (1) (0) (0)
     let s := s.putAt Hid.PRESENT (0) (0) (1)
     let s := s.putAt Reg.WDT_STATUS.ARMED (0) (0) (1)
     let s := s.putAt Reg.WDT_STATUS.HALF (0) (0) (0)
     let s := s.putAt Reg.DEV_STATE.STATE (0) (0) (4)
     let s := s.putAt Hid.WDT_PERIOD (0) (0) (10)
     let s := s.putAt Hid.WDT_BEAT (0) (0) (5)
     let s := s.putAt Hid.BEAT (0) (0) (6005)
     (coreOf w).isSome ∧
     s.reach w m = s.act ∧
     s.wdtOpen ∧
     s.on Reg.WDT_STATUS.HALF 0 = false) ∧
    (let w : Who := .mc0
     let m : Mgr := 0
     let s := State.reset
     let s := s.putAt Reg.REIN_STATUS.ACTIVE (0) (0) (1)
     let s := s.putAt Reg.REIN_STATUS.ACTIVE (1) (0) (0)
     let s := s.putAt Hid.PRESENT (0) (0) (1)
     let s := s.putAt Reg.WDT_STATUS.ARMED (0) (0) (1)
     let s := s.putAt Reg.DEV_STATE.STATE (0) (0) (4)
     let s := s.putAt Hid.WDT_PERIOD (0) (0) (10)
     let s := s.putAt Hid.WDT_BEAT (0) (0) (5)
     let s := s.putAt Hid.BEAT (0) (0) (1005)
     (coreOf w).isSome ∧
     s.reach w m = s.act ∧
     s.wdtCounts ∧
     2 * s.wdtAge < s.wdtLength ∧
     s.on Hid.PRESENT s.act) := by decide +kernel

/-- States and operands that meet the hypotheses of WatchdogAndCalendar. -/
theorem wit_watchdogAndCalendar_2 :
    (let w : Who := .mc0
     let m : Mgr := 0
     let s := State.reset
     let s := s.putAt Reg.REIN_STATUS.ACTIVE (0) (0) (1)
     let s := s.putAt Reg.REIN_STATUS.ACTIVE (1) (0) (0)
     let s := s.putAt Hid.PRESENT (0) (0) (1)
     let s := s.putAt Reg.WDT_STATUS.ARMED (0) (0) (1)
     let s := s.putAt Reg.DEV_STATE.STATE (0) (0) (4)
     let s := s.putAt Hid.WDT_PERIOD (0) (0) (10)
     let s := s.putAt Hid.WDT_BEAT (0) (0) (5)
     let s := s.putAt Reg.WDT_STATUS.HALF (0) (0) (1)
     let s := s.putAt Hid.BEAT (0) (0) (6005)
     (coreOf w).isSome ∧
     s.reach w m = s.act ∧
     s.wdtOpen ∧
     s.on Reg.WDT_STATUS.HALF 0 ∧
     s.on Hid.PRESENT s.act) ∧
    (let w : Who := .mc0
     let m : Mgr := 0
     let s := State.reset
     let s := s.putAt Reg.REIN_STATUS.ACTIVE (0) (0) (1)
     let s := s.putAt Reg.REIN_STATUS.ACTIVE (1) (0) (0)
     let s := s.putAt Hid.PRESENT (0) (0) (1)
     let s := s.putAt Reg.WDT_STATUS.ARMED (0) (0) (0)
     let s := s.putAt Reg.WDT_STATUS.HALF (0) (0) (1)
     (coreOf w).isSome ∧
     s.reach w m = s.act ∧
     s.on Reg.WDT_STATUS.HALF 0 ∧
     (s.on Reg.WDT_STATUS.ARMED 0 = false ∨ s.wdtOpen)) ∧
    (let w : Who := .mc0
     let m : Mgr := 0
     let s := State.reset
     let s := s.putAt Reg.REIN_STATUS.ACTIVE (0) (0) (1)
     let s := s.putAt Reg.REIN_STATUS.ACTIVE (1) (0) (0)
     let s := s.putAt Hid.PRESENT (0) (0) (1)
     let s := s.putAt Reg.WDT_STATUS.ARMED (0) (0) (0)
     (coreOf w).isSome ∧
     s.reach w m = s.act ∧
     s.on Reg.WDT_STATUS.ARMED 0 = false ∧
     s.on Reg.WDT_STATUS.HALF 0 = false) ∧
    (let w : Who := .mc0
     let m : Mgr := 0
     let s := State.reset
     let s := s.putAt Reg.REIN_STATUS.ACTIVE (0) (0) (1)
     let s := s.putAt Reg.REIN_STATUS.ACTIVE (1) (0) (0)
     let s := s.putAt Hid.PRESENT (0) (0) (1)
     let s := s.putAt Reg.WDT_STATUS.ARMED (0) (0) (1)
     let s := s.putAt Reg.DEV_STATE.STATE (0) (0) (4)
     let s := s.putAt Hid.WDT_PERIOD (0) (0) (10)
     let s := s.putAt Hid.WDT_BEAT (0) (0) (5)
     let s := s.putAt Hid.BEAT (0) (0) (1005)
     (coreOf w).isSome ∧
     s.reach w m = s.act ∧
     s.wdtCounts ∧
     2 * s.wdtAge < s.wdtLength ∧
     s.on Hid.PRESENT s.act) := by decide +kernel

/-- States and operands that meet the hypotheses of WatchdogAndCalendar. -/
theorem wit_watchdogAndCalendar_3 :
    (let w : Who := .mc0
     let m : Mgr := 0
     let s := State.reset
     let s := s.putAt Reg.REIN_STATUS.ACTIVE (0) (0) (1)
     let s := s.putAt Reg.REIN_STATUS.ACTIVE (1) (0) (0)
     let s := s.putAt Hid.PRESENT (0) (0) (1)
     let s := s.putAt Reg.WDT_STATUS.ARMED (0) (0) (1)
     let s := s.putAt Reg.DEV_STATE.STATE (0) (0) (4)
     let s := s.putAt Hid.WDT_PERIOD (0) (0) (10)
     let s := s.putAt Hid.WDT_BEAT (0) (0) (5)
     let s := s.putAt Hid.BEAT (0) (0) (10005)
     (coreOf w).isSome ∧
     s.reach w m = s.act ∧
     s.on Reg.WDT_STATUS.ARMED 0 ∧
     (decide (s.wdtCounts = false ∨ s.wdtLength ≤ s.wdtAge))) ∧
    (let w : Who := .mc0
     let m : Mgr := 0
     let s := State.reset
     let s := s.putAt Reg.REIN_STATUS.ACTIVE (0) (0) (1)
     let s := s.putAt Reg.REIN_STATUS.ACTIVE (1) (0) (0)
     let s := s.putAt Hid.PRESENT (0) (0) (1)
     let s := s.putAt Reg.WDT_STATUS.ARMED (0) (0) (1)
     let s := s.putAt Reg.WDT_STATUS.HALF (0) (0) (0)
     let s := s.putAt Reg.DEV_STATE.STATE (0) (0) (4)
     let s := s.putAt Hid.WDT_PERIOD (0) (0) (10)
     let s := s.putAt Hid.WDT_BEAT (0) (0) (5)
     let s := s.putAt Hid.BEAT (0) (0) (6005)
     (coreOf w).isSome ∧
     s.reach w m = s.act ∧
     s.wdtOpen ∧
     s.on Reg.WDT_STATUS.HALF 0 = false ∧
     s.on Hid.PRESENT s.act) ∧
    (let w : Who := .mc0
     let m : Mgr := 0
     let s := State.reset
     let s := s.putAt Reg.REIN_STATUS.ACTIVE (0) (0) (1)
     let s := s.putAt Reg.REIN_STATUS.ACTIVE (1) (0) (0)
     let s := s.putAt Hid.PRESENT (0) (0) (1)
     let s := s.putAt Reg.WDT_STATUS.ARMED (0) (0) (1)
     let s := s.putAt Reg.DEV_STATE.STATE (0) (0) (4)
     let s := s.putAt Hid.WDT_PERIOD (0) (0) (10)
     let s := s.putAt Hid.WDT_BEAT (0) (0) (5)
     let s := s.putAt Hid.BEAT (0) (0) (6005)
     (coreOf w).isSome ∧
     s.reach w m = s.act ∧
     s.wdtCounts ∧
     s.wdtAge < s.wdtLength) ∧
    (let w : Who := .mc0
     let m : Mgr := 0
     let s := State.reset
     let s := s.putAt Reg.REIN_STATUS.ACTIVE (0) (0) (1)
     let s := s.putAt Reg.REIN_STATUS.ACTIVE (1) (0) (0)
     let s := s.putAt Hid.PRESENT (0) (0) (1)
     let s := s.putAt Reg.WDT_STATUS.ARMED (0) (0) (0)
     (coreOf w).isSome ∧
     s.reach w m = s.act ∧
     s.on Reg.WDT_STATUS.ARMED 0 = false) := by decide +kernel

/-- States and operands that meet the hypotheses of WatchdogAndCalendar. -/
theorem wit_watchdogAndCalendar_4 :
    (let w : Who := .mc0
     let m : Mgr := 0
     let s := State.reset
     let s := s.putAt Reg.REIN_STATUS.ACTIVE (0) (0) (1)
     let s := s.putAt Reg.REIN_STATUS.ACTIVE (1) (0) (0)
     let s := s.putAt Hid.PRESENT (0) (0) (1)
     let s := s.putAt Reg.WDT_STATUS.ARMED (0) (0) (1)
     let s := s.putAt Reg.DEV_STATE.STATE (0) (0) (4)
     let s := s.putAt Hid.WDT_PERIOD (0) (0) (10)
     let s := s.putAt Hid.WDT_BEAT (0) (0) (5)
     let s := s.putAt Hid.BEAT (0) (0) (10005)
     (coreOf w).isSome ∧
     s.reach w m = s.act ∧
     s.on Reg.WDT_STATUS.ARMED 0 ∧
     (decide (s.wdtCounts = false ∨ s.wdtLength ≤ s.wdtAge))) ∧
    (let s := State.reset
     let s := s.putAt Reg.REIN_STATUS.ACTIVE (0) (0) (1)
     let s := s.putAt Reg.REIN_STATUS.ACTIVE (1) (0) (0)
     let s := s.putAt Hid.PRESENT (0) (0) (1)
     let s := s.putAt Reg.WDT_STATUS.ARMED (0) (0) (1)
     let s := s.putAt Reg.DEV_STATE.STATE (0) (0) (4)
     let s := s.putAt Hid.WDT_PERIOD (0) (0) (10)
     let s := s.putAt Hid.WDT_BEAT (0) (0) (0)
     let s := s.putAt Hid.BEAT (0) (0) (7500)
     s.wdtCounts ∧
     3 * s.wdtLength ≤ 4 * s.wdtAge) ∧
    (let s := State.reset
     (decide (s.wdtCounts = false ∨ 4 * s.wdtAge < 3 * s.wdtLength))) ∧
    (let s := State.reset
     let s := s.putAt Reg.REIN_STATUS.ACTIVE (0) (0) (1)
     let s := s.putAt Reg.REIN_STATUS.ACTIVE (1) (0) (0)
     let s := s.putAt Hid.PRESENT (0) (0) (1)
     let s := s.putAt Reg.WDT_STATUS.ARMED (0) (0) (1)
     let s := s.putAt Reg.DEV_STATE.STATE (0) (0) (4)
     let s := s.putAt Hid.WDT_PERIOD (0) (0) (10)
     let s := s.putAt Hid.WDT_BEAT (0) (0) (0)
     let s := s.putAt Hid.BEAT (0) (0) (10000)
     s.wdtCounts ∧
     s.wdtLength ≤ s.wdtAge ∧
     s.on Hid.PRESENT s.act) := by decide +kernel

/-- States and operands that meet the hypotheses of WatchdogAndCalendar. -/
theorem wit_watchdogAndCalendar_5 :
    (let s := State.reset
     (decide (s.wdtCounts = false ∨ s.wdtAge < s.wdtLength))) ∧
    (let s := State.reset
     let s := s.putAt Reg.WDT_STATUS.PULSING (0) (0) (1)
     let s := s.putAt Hid.WDT_RST (0) (0) (0)
     let s := s.putAt Hid.PULSE_MS (0) (0) (1)
     let s := s.putAt Hid.BEAT (s.act) (0) (1000)
     s.pulsed ∧
     s.on Reg.WDT_STATUS.PULSING 0 ∧
     s.on Hid.WDT_RST 0 = false) ∧
    (let s := State.reset
     let s := s.putAt Reg.WDT_STATUS.PULSING (0) (0) (1)
     let s := s.putAt Hid.WDT_RST (0) (0) (1)
     let s := s.putAt Hid.PULSE_MS (0) (0) (1)
     let s := s.putAt Hid.BEAT (s.act) (0) (1000)
     s.pulsed ∧
     s.on Reg.WDT_STATUS.PULSING 0 ∧
     s.on Hid.WDT_RST 0) ∧
    (let s := State.reset
     (decide (s.on Reg.WDT_STATUS.PULSING 0 = false ∨ s.pulsed = false))) := by decide +kernel

/-- States and operands that meet the hypotheses of WatchdogAndCalendar. -/
theorem wit_watchdogAndCalendar_6 :
    (let s := State.reset
     let s := s.putAt Reg.RTC_STATUS.HALTED (0) (0) (0)
     let s := s.putAt Reg.RTC_STATUS.DST_PEND (0) (0) (1)
     s.on Reg.RTC_STATUS.HALTED 0 = false ∧
     s.get Reg.RTC_SEC.CAL_SEC 0 < 2 ^ 32 - 1) ∧
    (let s := State.reset
     let s := s.putAt Reg.RTC_STATUS.HALTED (0) (0) (1)
     s.on Reg.RTC_STATUS.HALTED 0) ∧
    (let w : Who := .mc0
     let m : Mgr := 0
     let s := State.reset
     let s := s.putAt Reg.REIN_STATUS.ACTIVE (0) (0) (1)
     let s := s.putAt Reg.REIN_STATUS.ACTIVE (1) (0) (0)
     let s := s.putAt Hid.PRESENT (0) (0) (1)
     let s := s.putAt Reg.RTC_STATUS.HALTED (0) (0) (0)
     s.reach w m = s.act ∧
     s.on Reg.RTC_STATUS.HALTED 0 = false) ∧
    (let w : Who := .mc0
     let m : Mgr := 0
     let s := State.reset
     let s := s.putAt Reg.REIN_STATUS.ACTIVE (0) (0) (1)
     let s := s.putAt Reg.REIN_STATUS.ACTIVE (1) (0) (0)
     let s := s.putAt Hid.PRESENT (0) (0) (1)
     let s := s.putAt Reg.RTC_STATUS.HALTED (0) (0) (1)
     s.reach w m = s.act ∧
     s.on Reg.RTC_STATUS.HALTED 0) := by decide +kernel

/-- States and operands that meet the hypotheses of WatchdogAndCalendar. -/
theorem wit_watchdogAndCalendar_7 :
    (let w : Who := .sc
     let m : Mgr := 1
     let s := State.reset
     let s := s.putAt Reg.REIN_STATUS.ACTIVE (0) (0) (1)
     let s := s.putAt Reg.REIN_STATUS.ACTIVE (1) (0) (0)
     let s := s.putAt Hid.PRESENT (0) (0) (1)
     s.reach w m ≠ s.act) ∧
    (let w : Who := .mc0
     let m : Mgr := 0
     let s := State.reset
     let s := s.putAt Reg.REIN_STATUS.ACTIVE (0) (0) (1)
     let s := s.putAt Reg.REIN_STATUS.ACTIVE (1) (0) (0)
     let s := s.putAt Hid.PRESENT (0) (0) (1)
     let s := s.putAt Reg.RTC_STATUS.HALTED (0) (0) (1)
     let s := s.putAt Hid.RTC_AT_HALT (0) (0) (900)
     let s := s.putAt Reg.RTC_SEC.CAL_SEC (0) (0) (899)
     s.reach w m = s.act ∧
     s.on Reg.RTC_STATUS.HALTED 0 ∧
     s.get Reg.RTC_SEC.CAL_SEC 0 < s.get Hid.RTC_AT_HALT 0) ∧
    (let w : Who := .mc0
     let m : Mgr := 0
     let s := State.reset
     let s := s.putAt Reg.REIN_STATUS.ACTIVE (0) (0) (1)
     let s := s.putAt Reg.REIN_STATUS.ACTIVE (1) (0) (0)
     let s := s.putAt Hid.PRESENT (0) (0) (1)
     let s := s.putAt Reg.RTC_STATUS.HALTED (0) (0) (1)
     let s := s.putAt Hid.RTC_AT_HALT (0) (0) (900)
     let s := s.putAt Reg.RTC_SEC.CAL_SEC (0) (0) (900)
     s.reach w m = s.act ∧
     s.on Reg.RTC_STATUS.HALTED 0 ∧
     s.get Hid.RTC_AT_HALT 0 ≤ s.get Reg.RTC_SEC.CAL_SEC 0) ∧
    (let w : Who := .mc0
     let m : Mgr := 0
     let s := State.reset
     let s := s.putAt Reg.REIN_STATUS.ACTIVE (0) (0) (1)
     let s := s.putAt Reg.REIN_STATUS.ACTIVE (1) (0) (0)
     let s := s.putAt Hid.PRESENT (0) (0) (1)
     let s := s.putAt Reg.RTC_STATUS.HALTED (0) (0) (0)
     s.reach w m = s.act ∧
     s.on Reg.RTC_STATUS.HALTED 0 = false) := by decide +kernel

/-- States and operands that meet the hypotheses of WatchdogAndCalendar. -/
theorem wit_watchdogAndCalendar_8 :
    (let w : Who := .sc
     let m : Mgr := 1
     let s := State.reset
     let s := s.putAt Reg.REIN_STATUS.ACTIVE (0) (0) (1)
     let s := s.putAt Reg.REIN_STATUS.ACTIVE (1) (0) (0)
     let s := s.putAt Hid.PRESENT (0) (0) (1)
     s.reach w m ≠ s.act) ∧
    (let w : Who := .mc0
     let m : Mgr := 0
     let s := State.reset
     let s := s.putAt Reg.REIN_STATUS.ACTIVE (0) (0) (1)
     let s := s.putAt Reg.REIN_STATUS.ACTIVE (1) (0) (0)
     let s := s.putAt Hid.PRESENT (0) (0) (1)
     let s := s.putAt Reg.RTC_STATUS.HALTED (0) (0) (1)
     s.reach w m = s.act ∧
     s.on Reg.RTC_STATUS.HALTED 0) ∧
    (let w : Who := .mc0
     let m : Mgr := 0
     let s := State.reset
     let s := s.putAt Reg.REIN_STATUS.ACTIVE (0) (0) (1)
     let s := s.putAt Reg.REIN_STATUS.ACTIVE (1) (0) (0)
     let s := s.putAt Hid.PRESENT (0) (0) (1)
     let s := s.putAt Reg.RTC_STATUS.HALTED (0) (0) (0)
     s.reach w m = s.act ∧
     s.on Reg.RTC_STATUS.HALTED 0 = false) ∧
    (let w : Who := .sc
     let m : Mgr := 1
     let s := State.reset
     let s := s.putAt Reg.REIN_STATUS.ACTIVE (0) (0) (1)
     let s := s.putAt Reg.REIN_STATUS.ACTIVE (1) (0) (0)
     let s := s.putAt Hid.PRESENT (0) (0) (1)
     s.reach w m ≠ s.act) := by decide +kernel

/-- States and operands that meet the hypotheses of WatchdogAndCalendar. -/
theorem wit_watchdogAndCalendar_9 :
    (let w : Who := .mc0
     let m : Mgr := 0
     let s := State.reset
     let s := s.putAt Reg.REIN_STATUS.ACTIVE (0) (0) (1)
     let s := s.putAt Reg.REIN_STATUS.ACTIVE (1) (0) (0)
     let s := s.putAt Hid.PRESENT (0) (0) (1)
     let s := s.putAt Reg.RTC_STATUS.DST (0) (0) (0)
     s.reach w m = s.act ∧
     s.on Reg.RTC_STATUS.DST 0 = false) ∧
    (let w : Who := .mc0
     let m : Mgr := 0
     let s := State.reset
     let s := s.putAt Reg.REIN_STATUS.ACTIVE (0) (0) (1)
     let s := s.putAt Reg.REIN_STATUS.ACTIVE (1) (0) (0)
     let s := s.putAt Hid.PRESENT (0) (0) (1)
     let s := s.putAt Reg.RTC_STATUS.DST (0) (0) (1)
     s.reach w m = s.act ∧
     s.on Reg.RTC_STATUS.DST 0) ∧
    (let w : Who := .sc
     let m : Mgr := 1
     let s := State.reset
     let s := s.putAt Reg.REIN_STATUS.ACTIVE (0) (0) (1)
     let s := s.putAt Reg.REIN_STATUS.ACTIVE (1) (0) (0)
     let s := s.putAt Hid.PRESENT (0) (0) (1)
     s.reach w m ≠ s.act) ∧
    (let w : Who := .mc0
     let m : Mgr := 0
     let s := State.reset
     let s := s.putAt Reg.REIN_STATUS.ACTIVE (0) (0) (1)
     let s := s.putAt Reg.REIN_STATUS.ACTIVE (1) (0) (0)
     let s := s.putAt Hid.PRESENT (0) (0) (1)
     let s := s.putAt Reg.RTC_STATUS.DST (0) (0) (1)
     s.reach w m = s.act ∧
     s.on Reg.RTC_STATUS.DST 0) := by decide +kernel

/-- States and operands that meet the hypotheses of WatchdogAndCalendar. -/
theorem wit_watchdogAndCalendar_10 :
    (let w : Who := .mc0
     let m : Mgr := 0
     let s := State.reset
     let s := s.putAt Reg.REIN_STATUS.ACTIVE (0) (0) (1)
     let s := s.putAt Reg.REIN_STATUS.ACTIVE (1) (0) (0)
     let s := s.putAt Hid.PRESENT (0) (0) (1)
     let s := s.putAt Reg.RTC_STATUS.DST (0) (0) (0)
     s.reach w m = s.act ∧
     s.on Reg.RTC_STATUS.DST 0 = false) ∧
    (let w : Who := .sc
     let m : Mgr := 1
     let s := State.reset
     let s := s.putAt Reg.REIN_STATUS.ACTIVE (0) (0) (1)
     let s := s.putAt Reg.REIN_STATUS.ACTIVE (1) (0) (0)
     let s := s.putAt Hid.PRESENT (0) (0) (1)
     s.reach w m ≠ s.act) ∧
    (let lost : Bool := true
     let s := State.reset
     let s := s.putAt Hid.MEWS_NEW (0) (0) (1)
     lost = true ∧
     s.on Hid.MEWS_NEW 0) ∧
    (let lost : Bool := false
     let s := State.reset
     let s := s.putAt Hid.POWERED (0) (0) (1)
     lost = false ∧
     (decide (s.on Hid.POWERED 0 = true ∨ s.on Hid.POWERED 1 = true))) := by decide +kernel

/-- States and operands that meet the hypotheses of WatchdogAndCalendar. -/
theorem wit_watchdogAndCalendar_11 :
    (let lost : Bool := true
     let s := State.reset
     let s := s.putAt Hid.MEWS_NEW (0) (0) (0)
     (decide ((lost = true ∧ s.on Hid.MEWS_NEW 0 = false) ∨ (lost = false ∧ s.on Hid.POWERED 0 = false ∧ s.on Hid.POWERED 1 = false)))) ∧
    (let input : Fin 2 := 0
     let samples : BitVec 3 := 7
     let s := State.reset
     let s := s.putAt Reg.TAMP_CFG.TEN0 (0) (0) (1)
     let s := s.putAt Reg.TAMP_CFG.TEN1 (0) (0) (1)
     let s := s.putAt Reg.TAMP_CFG.TPOL0 (0) (0) (1)
     let s := s.putAt Reg.TAMP_CFG.TACT (0) (0) (0)
     let s := s.putAt Reg.RTC_STATUS.TAMP_EVT (0) (0) (0)
     s.on (if input = 0 then Reg.TAMP_CFG.TEN0 else Reg.TAMP_CFG.TEN1) 0 ∧
     s.tampered input samples ∧
     s.on Reg.TAMP_CFG.TACT 0 = false) ∧
    (let input : Fin 2 := 0
     let samples : BitVec 3 := 7
     let s := State.reset
     let s := s.putAt Reg.TAMP_CFG.TEN0 (0) (0) (1)
     let s := s.putAt Reg.TAMP_CFG.TEN1 (0) (0) (1)
     let s := s.putAt Reg.TAMP_CFG.TPOL0 (0) (0) (1)
     let s := s.putAt Reg.TAMP_CFG.TACT (0) (0) (1)
     let s := s.putAt Hid.POWERED (0) (0) (1)
     let s := s.putAt Hid.POWERED (1) (0) (1)
     s.on (if input = 0 then Reg.TAMP_CFG.TEN0 else Reg.TAMP_CFG.TEN1) 0 ∧
     s.tampered input samples ∧
     s.on Reg.TAMP_CFG.TACT 0) ∧
    (let input : Fin 2 := 0
     let samples : BitVec 3 := 0
     let s := State.reset
     (decide (s.on (if input = 0 then Reg.TAMP_CFG.TEN0 else Reg.TAMP_CFG.TEN1) 0 = false ∨ s.tampered input samples = false))) := by decide +kernel

/-- States and operands that meet the hypotheses of WatchdogAndCalendar. -/
theorem wit_watchdogAndCalendar_12 :
    (let w : Who := .sc
     let m : Mgr := 1
     let s := State.reset
     let s := s.putAt Reg.REIN_STATUS.ACTIVE (0) (0) (1)
     let s := s.putAt Reg.REIN_STATUS.ACTIVE (1) (0) (0)
     let s := s.putAt Hid.PRESENT (0) (0) (1)
     (coreOf w).isSome ∧
     s.reach w m ≠ s.act) ∧
    (let w : Who := .sc
     let m : Mgr := 1
     let s := State.reset
     let s := s.putAt Reg.REIN_STATUS.ACTIVE (0) (0) (1)
     let s := s.putAt Reg.REIN_STATUS.ACTIVE (1) (0) (0)
     let s := s.putAt Hid.PRESENT (0) (0) (1)
     (coreOf w).isSome ∧
     s.reach w m ≠ s.act) ∧
    (let w : Who := .sc
     let m : Mgr := 1
     let s := State.reset
     let s := s.putAt Reg.REIN_STATUS.ACTIVE (0) (0) (1)
     let s := s.putAt Reg.REIN_STATUS.ACTIVE (1) (0) (0)
     let s := s.putAt Hid.PRESENT (0) (0) (1)
     (coreOf w).isSome ∧
     s.reach w m ≠ s.act) := by decide +kernel

/-- States and operands that meet the hypotheses of WatchdogForeignKeys. -/
theorem wit_watchdogForeignKeys_1 :
    (let w : Who := .svc
     let _s := State.reset
     (w = .host ∨ w = .svc)) ∧
    (let w : Who := .svc
     let _s := State.reset
     (w = .host ∨ w = .svc)) ∧
    (let w : Who := .host
     let _s := State.reset
     (w = .host ∨ w = .svc)) ∧
    (let w : Who := .sc
     let m : Mgr := 0
     let s := State.reset
     let s := s.putAt Reg.REIN_STATUS.ACTIVE (0) (0) (1)
     let s := s.putAt Reg.REIN_STATUS.ACTIVE (1) (0) (0)
     let s := s.putAt Hid.PRESENT (0) (0) (1)
     (w = .sc ∨ w = .mc0 ∨ w = .mc1 ∨ w = .mc2) ∧
     s.reach w m = s.act ∧
     s.on Reg.WDT_STATUS.ARMED 0 = false ∧
     s.on Reg.WDT_STATUS.HALF 0 = false) := by decide +kernel

/-- States and operands that meet the hypotheses of WatchdogForeignKeys. -/
theorem wit_watchdogForeignKeys_2 :
    (let w : Who := .mc0
     let m : Mgr := 0
     let s := State.reset
     let s := s.putAt Reg.REIN_STATUS.ACTIVE (0) (0) (1)
     let s := s.putAt Reg.REIN_STATUS.ACTIVE (1) (0) (0)
     let s := s.putAt Hid.PRESENT (0) (0) (1)
     let s := s.putAt Reg.WDT_STATUS.HALF (0) (0) (1)
     (w = .sc ∨ w = .mc0 ∨ w = .mc1 ∨ w = .mc2) ∧
     s.reach w m = s.act ∧
     s.on Reg.WDT_STATUS.ARMED 0 = false ∧
     s.on Reg.WDT_STATUS.HALF 0) := by decide +kernel

/-- States and operands that meet the hypotheses of PmbusReads. -/
theorem wit_pmbusReads_1 :
    (let rd : Bool := true
     let s := State.reset
     let s := s.putAt Reg.REIN_STATUS.ACTIVE (0) (0) (1)
     let s := s.putAt Reg.REIN_STATUS.ACTIVE (1) (0) (0)
     let s := s.putAt Hid.PRESENT (0) (0) (1)
     let s := s.putAt Hid.BOOT (0) (0) (1)
     let s := s.putAt Reg.DEV_STATE.STATE (0) (0) (4)
     let s := s.putAt Reg.HB_STATUS.ADDR (0) (0) (64)
     s.hostOpen ∧
     rd = true) ∧
    (let rd : Bool := true
     let s := State.reset
     let s := s.putAt Reg.REIN_STATUS.ACTIVE (0) (0) (1)
     let s := s.putAt Reg.REIN_STATUS.ACTIVE (1) (0) (0)
     let s := s.putAt Hid.PRESENT (0) (0) (1)
     let s := s.putAt Hid.BOOT (0) (0) (1)
     let s := s.putAt Reg.DEV_STATE.STATE (0) (0) (4)
     let s := s.putAt Reg.HB_STATUS.ADDR (0) (0) (64)
     let s := s.putAt Reg.HB_PORT.PAGE (0) (0) (3)
     s.hostOpen ∧
     s.dev ≠ Dev.load ∧
     rd = true ∧
     s.page < 48) ∧
    (let s := State.reset
     let s := s.putAt Reg.REIN_STATUS.ACTIVE (0) (0) (1)
     let s := s.putAt Reg.REIN_STATUS.ACTIVE (1) (0) (0)
     let s := s.putAt Hid.PRESENT (0) (0) (1)
     let s := s.putAt Hid.BOOT (0) (0) (1)
     let s := s.putAt Reg.DEV_STATE.STATE (0) (0) (4)
     let s := s.putAt Reg.HB_STATUS.ADDR (0) (0) (64)
     let s := s.putAt Reg.HB_PORT.PAGE (0) (0) (3)
     s.hostOpen ∧
     s.dev ≠ Dev.load ∧
     s.page < 48) ∧
    (let rd : Bool := true
     let s := State.reset
     let s := s.putAt Reg.REIN_STATUS.ACTIVE (0) (0) (1)
     let s := s.putAt Reg.REIN_STATUS.ACTIVE (1) (0) (0)
     let s := s.putAt Hid.PRESENT (0) (0) (1)
     let s := s.putAt Hid.BOOT (0) (0) (1)
     let s := s.putAt Reg.DEV_STATE.STATE (0) (0) (4)
     let s := s.putAt Reg.HB_STATUS.ADDR (0) (0) (64)
     s.hostOpen ∧
     s.dev ≠ Dev.load ∧
     rd = true) := by decide +kernel

/-- States and operands that meet the hypotheses of PmbusReads. -/
theorem wit_pmbusReads_2 :
    (let s := State.reset
     let s := s.putAt Reg.REIN_STATUS.ACTIVE (0) (0) (1)
     let s := s.putAt Reg.REIN_STATUS.ACTIVE (1) (0) (0)
     let s := s.putAt Hid.PRESENT (0) (0) (1)
     let s := s.putAt Hid.BOOT (0) (0) (1)
     let s := s.putAt Reg.DEV_STATE.STATE (0) (0) (4)
     let s := s.putAt Reg.HB_STATUS.ADDR (0) (0) (64)
     s.hostOpen ∧
     s.dev ≠ Dev.load) ∧
    (let s := State.reset
     let s := s.putAt Reg.REIN_STATUS.ACTIVE (0) (0) (1)
     let s := s.putAt Reg.REIN_STATUS.ACTIVE (1) (0) (0)
     let s := s.putAt Hid.PRESENT (0) (0) (1)
     let s := s.putAt Hid.BOOT (0) (0) (1)
     let s := s.putAt Reg.DEV_STATE.STATE (0) (0) (4)
     let s := s.putAt Reg.HB_STATUS.ADDR (0) (0) (64)
     let s := s.putAt Reg.HB_PORT.PAGE (0) (0) (3)
     s.hostOpen ∧
     s.dev ≠ Dev.load ∧
     s.page < 48) ∧
    (let rd : Bool := true
     let s := State.reset
     let s := s.putAt Reg.REIN_STATUS.ACTIVE (0) (0) (1)
     let s := s.putAt Reg.REIN_STATUS.ACTIVE (1) (0) (0)
     let s := s.putAt Hid.PRESENT (0) (0) (1)
     let s := s.putAt Hid.BOOT (0) (0) (1)
     let s := s.putAt Reg.DEV_STATE.STATE (0) (0) (4)
     let s := s.putAt Reg.HB_STATUS.ADDR (0) (0) (64)
     let s := s.putAt Reg.HB_PORT.PAGE (0) (0) (3)
     s.hostOpen ∧
     s.dev ≠ Dev.load ∧
     rd = true ∧
     s.page < 48 ∧
     (((s.get Reg.RAIL_SETPT.VSET_TGT (s.homeIx s.page) : Nat) * (s.voltCode s.page : Int)) / 4000 < 65535 ∨ (((s.get Reg.RAIL_SETPT.VSET_TGT (s.homeIx s.page) : Nat) * (s.voltCode s.page : Int)) / 4000 < 65536 ∧ ((s.get Reg.RAIL_SETPT.VSET_TGT (s.homeIx s.page) : Nat) * (s.voltCode s.page : Int)) % 4000 = 0))) ∧
    (let s := State.reset
     let s := s.putAt Reg.REIN_STATUS.ACTIVE (0) (0) (1)
     let s := s.putAt Reg.REIN_STATUS.ACTIVE (1) (0) (0)
     let s := s.putAt Hid.PRESENT (0) (0) (1)
     let s := s.putAt Hid.BOOT (0) (0) (1)
     let s := s.putAt Reg.DEV_STATE.STATE (0) (0) (4)
     let s := s.putAt Reg.HB_STATUS.ADDR (0) (0) (64)
     let s := s.putAt Reg.HB_PORT.PAGE (0) (0) (3)
     s.hostOpen ∧
     s.dev ≠ Dev.load ∧
     s.page < 48 ∧
     (((s.vsetMax s.page : Nat) * (s.voltCode s.page : Int)) / 4000 < 65535 ∨ (((s.vsetMax s.page : Nat) * (s.voltCode s.page : Int)) / 4000 < 65536 ∧ ((s.vsetMax s.page : Nat) * (s.voltCode s.page : Int)) % 4000 = 0))) := by decide +kernel

/-- States and operands that meet the hypotheses of PmbusReads. -/
theorem wit_pmbusReads_3 :
    (let rd : Bool := true
     let s := State.reset
     let s := s.putAt Reg.REIN_STATUS.ACTIVE (0) (0) (1)
     let s := s.putAt Reg.REIN_STATUS.ACTIVE (1) (0) (0)
     let s := s.putAt Hid.PRESENT (0) (0) (1)
     let s := s.putAt Hid.BOOT (0) (0) (1)
     let s := s.putAt Reg.DEV_STATE.STATE (0) (0) (4)
     let s := s.putAt Reg.HB_STATUS.ADDR (0) (0) (64)
     let s := s.putAt Reg.HB_PORT.PAGE (0) (0) (3)
     s.hostOpen ∧
     s.dev ≠ Dev.load ∧
     rd = true ∧
     s.page < 48 ∧
     (((s.get Reg.RAIL_OV.OV_LIM (s.homeIx s.page) : Nat) * (s.voltCode s.page : Int)) / 4000 < 65535 ∨ (((s.get Reg.RAIL_OV.OV_LIM (s.homeIx s.page) : Nat) * (s.voltCode s.page : Int)) / 4000 < 65536 ∧ ((s.get Reg.RAIL_OV.OV_LIM (s.homeIx s.page) : Nat) * (s.voltCode s.page : Int)) % 4000 = 0))) ∧
    (let rd : Bool := true
     let s := State.reset
     let s := s.putAt Reg.REIN_STATUS.ACTIVE (0) (0) (1)
     let s := s.putAt Reg.REIN_STATUS.ACTIVE (1) (0) (0)
     let s := s.putAt Hid.PRESENT (0) (0) (1)
     let s := s.putAt Hid.BOOT (0) (0) (1)
     let s := s.putAt Reg.DEV_STATE.STATE (0) (0) (4)
     let s := s.putAt Reg.HB_STATUS.ADDR (0) (0) (64)
     let s := s.putAt Reg.HB_PORT.PAGE (0) (0) (3)
     s.hostOpen ∧
     s.dev ≠ Dev.load ∧
     rd = true ∧
     s.page < 48) ∧
    (let s := State.reset
     let s := s.putAt Reg.REIN_STATUS.ACTIVE (0) (0) (1)
     let s := s.putAt Reg.REIN_STATUS.ACTIVE (1) (0) (0)
     let s := s.putAt Hid.PRESENT (0) (0) (1)
     let s := s.putAt Hid.BOOT (0) (0) (1)
     let s := s.putAt Reg.DEV_STATE.STATE (0) (0) (4)
     let s := s.putAt Reg.HB_STATUS.ADDR (0) (0) (64)
     let s := s.putAt Reg.HB_PORT.PAGE (0) (0) (3)
     s.hostOpen ∧
     s.dev ≠ Dev.load ∧
     s.page < 48) ∧
    (let s := State.reset
     let s := s.putAt Reg.REIN_STATUS.ACTIVE (0) (0) (1)
     let s := s.putAt Reg.REIN_STATUS.ACTIVE (1) (0) (0)
     let s := s.putAt Hid.PRESENT (0) (0) (1)
     let s := s.putAt Hid.BOOT (0) (0) (1)
     let s := s.putAt Reg.DEV_STATE.STATE (0) (0) (4)
     let s := s.putAt Reg.HB_STATUS.ADDR (0) (0) (64)
     let s := s.putAt Reg.HB_PORT.PAGE (0) (0) (48)
     s.hostOpen ∧
     s.page = devPage) := by decide +kernel

/-- States and operands that meet the hypotheses of PmbusReads. -/
theorem wit_pmbusReads_4 :
    (let s := State.reset
     let s := s.putAt Reg.REIN_STATUS.ACTIVE (0) (0) (1)
     let s := s.putAt Reg.REIN_STATUS.ACTIVE (1) (0) (0)
     let s := s.putAt Hid.PRESENT (0) (0) (1)
     let s := s.putAt Hid.BOOT (0) (0) (1)
     let s := s.putAt Reg.DEV_STATE.STATE (0) (0) (4)
     let s := s.putAt Reg.HB_STATUS.ADDR (0) (0) (64)
     let s := s.putAt Reg.HB_PORT.PAGE (0) (0) (3)
     s.hostOpen ∧
     s.dev ≠ Dev.load ∧
     s.page < 48) ∧
    (let s := State.reset
     let s := s.putAt Reg.REIN_STATUS.ACTIVE (0) (0) (1)
     let s := s.putAt Reg.REIN_STATUS.ACTIVE (1) (0) (0)
     let s := s.putAt Hid.PRESENT (0) (0) (1)
     let s := s.putAt Hid.BOOT (0) (0) (1)
     let s := s.putAt Reg.DEV_STATE.STATE (0) (0) (4)
     let s := s.putAt Reg.HB_STATUS.ADDR (0) (0) (64)
     let s := s.putAt Reg.HB_PORT.PAGE (0) (0) (48)
     s.hostOpen ∧
     s.page = devPage) ∧
    (let s := State.reset
     let s := s.putAt Reg.REIN_STATUS.ACTIVE (0) (0) (1)
     let s := s.putAt Reg.REIN_STATUS.ACTIVE (1) (0) (0)
     let s := s.putAt Hid.PRESENT (0) (0) (1)
     let s := s.putAt Hid.BOOT (0) (0) (1)
     let s := s.putAt Reg.DEV_STATE.STATE (0) (0) (4)
     let s := s.putAt Reg.HB_STATUS.ADDR (0) (0) (64)
     let s := s.putAt Reg.HB_PORT.PAGE (0) (0) (3)
     s.hostOpen ∧
     s.dev ≠ Dev.load ∧
     s.page < 48) ∧
    (let s := State.reset
     let s := s.putAt Reg.REIN_STATUS.ACTIVE (0) (0) (1)
     let s := s.putAt Reg.REIN_STATUS.ACTIVE (1) (0) (0)
     let s := s.putAt Hid.PRESENT (0) (0) (1)
     let s := s.putAt Hid.BOOT (0) (0) (1)
     let s := s.putAt Reg.DEV_STATE.STATE (0) (0) (4)
     let s := s.putAt Reg.HB_STATUS.ADDR (0) (0) (64)
     let s := s.putAt Reg.HB_PORT.PAGE (0) (0) (3)
     s.hostOpen ∧
     s.dev ≠ Dev.load ∧
     s.page < 48) := by decide +kernel

/-- States and operands that meet the hypotheses of PmbusReads. -/
theorem wit_pmbusReads_5 :
    (let s := State.reset
     let s := s.putAt Reg.REIN_STATUS.ACTIVE (0) (0) (1)
     let s := s.putAt Reg.REIN_STATUS.ACTIVE (1) (0) (0)
     let s := s.putAt Hid.PRESENT (0) (0) (1)
     let s := s.putAt Hid.BOOT (0) (0) (1)
     let s := s.putAt Reg.DEV_STATE.STATE (0) (0) (4)
     let s := s.putAt Reg.HB_STATUS.ADDR (0) (0) (64)
     let s := s.putAt Reg.HB_PORT.PAGE (0) (0) (3)
     let s := s.putAt Reg.HB_STATUS.CML (0) (0) (2)
     s.hostOpen ∧
     s.dev ≠ Dev.load ∧
     s.page ≤ devPage) ∧
    (let s := State.reset
     let s := s.putAt Reg.REIN_STATUS.ACTIVE (0) (0) (1)
     let s := s.putAt Reg.REIN_STATUS.ACTIVE (1) (0) (0)
     let s := s.putAt Hid.PRESENT (0) (0) (1)
     let s := s.putAt Hid.BOOT (0) (0) (1)
     let s := s.putAt Reg.DEV_STATE.STATE (0) (0) (4)
     let s := s.putAt Reg.HB_STATUS.ADDR (0) (0) (64)
     let s := s.putAt Reg.HB_PORT.PAGE (0) (0) (3)
     let s := s.putAt Reg.RAIL_ENG_CFG.LEAD_PH (s.homeIx s.page) (0) (2)
     s.hostOpen ∧
     s.dev ≠ Dev.load ∧
     s.page < 48 ∧
     s.get Reg.RAIL_ENG_CFG.LEAD_PH (s.homeIx s.page) < 24) ∧
    (let s := State.reset
     let s := s.putAt Reg.REIN_STATUS.ACTIVE (0) (0) (1)
     let s := s.putAt Reg.REIN_STATUS.ACTIVE (1) (0) (0)
     let s := s.putAt Hid.PRESENT (0) (0) (1)
     let s := s.putAt Hid.BOOT (0) (0) (1)
     let s := s.putAt Reg.DEV_STATE.STATE (0) (0) (4)
     let s := s.putAt Reg.HB_STATUS.ADDR (0) (0) (64)
     let s := s.putAt Reg.HB_PORT.PAGE (0) (0) (48)
     let s := s.putAt Reg.DEV_STATE.STATE (0) (0) (3)
     s.hostOpen ∧
     s.dev ≠ Dev.load ∧
     s.page = devPage) ∧
    (let s := State.reset
     let s := s.putAt Reg.REIN_STATUS.ACTIVE (0) (0) (1)
     let s := s.putAt Reg.REIN_STATUS.ACTIVE (1) (0) (0)
     let s := s.putAt Hid.PRESENT (0) (0) (1)
     let s := s.putAt Hid.BOOT (0) (0) (1)
     let s := s.putAt Reg.DEV_STATE.STATE (0) (0) (4)
     let s := s.putAt Reg.HB_STATUS.ADDR (0) (0) (64)
     let s := s.putAt Reg.HB_PORT.PAGE (0) (0) (3)
     let s := s.putAt Reg.RAIL_ENG_CFG.LEAD_PH (s.homeIx 3) (0) (31)
     s.hostOpen ∧
     s.dev ≠ Dev.load ∧
     s.page < 48 ∧
     24 ≤ s.get Reg.RAIL_ENG_CFG.LEAD_PH (s.homeIx s.page)) := by decide +kernel

/-- States and operands that meet the hypotheses of PmbusReads. -/
theorem wit_pmbusReads_6 :
    (let s := State.reset
     let s := s.putAt Reg.REIN_STATUS.ACTIVE (0) (0) (1)
     let s := s.putAt Reg.REIN_STATUS.ACTIVE (1) (0) (0)
     let s := s.putAt Hid.PRESENT (0) (0) (1)
     let s := s.putAt Hid.BOOT (0) (0) (1)
     let s := s.putAt Reg.DEV_STATE.STATE (0) (0) (4)
     let s := s.putAt Reg.HB_STATUS.ADDR (0) (0) (64)
     let s := s.putAt Reg.HB_PORT.PAGE (0) (0) (48)
     s.hostOpen ∧
     s.dev ≠ Dev.load ∧
     s.page = devPage) ∧
    (let s := State.reset
     let s := s.putAt Reg.REIN_STATUS.ACTIVE (0) (0) (1)
     let s := s.putAt Reg.REIN_STATUS.ACTIVE (1) (0) (0)
     let s := s.putAt Hid.PRESENT (0) (0) (1)
     let s := s.putAt Hid.BOOT (0) (0) (1)
     let s := s.putAt Reg.DEV_STATE.STATE (0) (0) (4)
     let s := s.putAt Reg.HB_STATUS.ADDR (0) (0) (64)
     let s := s.putAt Reg.HB_PORT.PAGE (0) (0) (3)
     s.hostOpen ∧
     s.dev ≠ Dev.load ∧
     s.page < 48 ∧
     (((s.get Reg.RAIL_TLM_V.V_AVG (s.tlmIx s.page) : Nat) * (s.voltCode s.page : Int)) / 4000 < 65535 ∨ (((s.get Reg.RAIL_TLM_V.V_AVG (s.tlmIx s.page) : Nat) * (s.voltCode s.page : Int)) / 4000 < 65536 ∧ ((s.get Reg.RAIL_TLM_V.V_AVG (s.tlmIx s.page) : Nat) * (s.voltCode s.page : Int)) % 4000 = 0))) ∧
    (let s := State.reset
     let s := s.putAt Reg.REIN_STATUS.ACTIVE (0) (0) (1)
     let s := s.putAt Reg.REIN_STATUS.ACTIVE (1) (0) (0)
     let s := s.putAt Hid.PRESENT (0) (0) (1)
     let s := s.putAt Hid.BOOT (0) (0) (1)
     let s := s.putAt Reg.DEV_STATE.STATE (0) (0) (4)
     let s := s.putAt Reg.HB_STATUS.ADDR (0) (0) (64)
     let s := s.putAt Reg.HB_PORT.PAGE (0) (0) (48)
     let s := s.putAt Reg.VBB_STATUS.VBB (0) (0) (12000)
     s.hostOpen ∧
     s.dev ≠ Dev.load ∧
     s.page = devPage ∧
     readCode ((s.get Reg.VBB_STATUS.VBB 0 : Int) * 4096) 1000 < 65536) ∧
    (let s := State.reset
     let s := s.putAt Reg.REIN_STATUS.ACTIVE (0) (0) (1)
     let s := s.putAt Reg.REIN_STATUS.ACTIVE (1) (0) (0)
     let s := s.putAt Hid.PRESENT (0) (0) (1)
     let s := s.putAt Hid.BOOT (0) (0) (1)
     let s := s.putAt Reg.DEV_STATE.STATE (0) (0) (4)
     let s := s.putAt Reg.HB_STATUS.ADDR (0) (0) (64)
     let s := s.putAt Reg.HB_PORT.PAGE (0) (0) (3)
     s.hostOpen ∧
     s.dev ≠ Dev.load ∧
     s.page < 48) := by decide +kernel

/-- States and operands that meet the hypotheses of PmbusReads. -/
theorem wit_pmbusReads_7 :
    (let s := State.reset
     let s := s.putAt Reg.REIN_STATUS.ACTIVE (0) (0) (1)
     let s := s.putAt Reg.REIN_STATUS.ACTIVE (1) (0) (0)
     let s := s.putAt Hid.PRESENT (0) (0) (1)
     let s := s.putAt Hid.BOOT (0) (0) (1)
     let s := s.putAt Reg.DEV_STATE.STATE (0) (0) (4)
     let s := s.putAt Reg.HB_STATUS.ADDR (0) (0) (64)
     let s := s.putAt Reg.HB_PORT.PAGE (0) (0) (48)
     s.hostOpen ∧
     s.dev ≠ Dev.load ∧
     s.page = devPage) ∧
    (let s := State.reset
     let s := s.putAt Reg.REIN_STATUS.ACTIVE (0) (0) (1)
     let s := s.putAt Reg.REIN_STATUS.ACTIVE (1) (0) (0)
     let s := s.putAt Hid.PRESENT (0) (0) (1)
     let s := s.putAt Hid.BOOT (0) (0) (1)
     let s := s.putAt Reg.DEV_STATE.STATE (0) (0) (4)
     let s := s.putAt Reg.HB_STATUS.ADDR (0) (0) (64)
     let s := s.putAt Reg.HB_PORT.PAGE (0) (0) (48)
     s.hostOpen ∧
     s.dev ≠ Dev.load ∧
     s.page = devPage) ∧
    (let s := State.reset
     let s := s.putAt Reg.REIN_STATUS.ACTIVE (0) (0) (1)
     let s := s.putAt Reg.REIN_STATUS.ACTIVE (1) (0) (0)
     let s := s.putAt Hid.PRESENT (0) (0) (1)
     let s := s.putAt Hid.BOOT (0) (0) (1)
     let s := s.putAt Reg.DEV_STATE.STATE (0) (0) (4)
     let s := s.putAt Reg.HB_STATUS.ADDR (0) (0) (64)
     let s := s.putAt Reg.HB_PORT.PAGE (0) (0) (3)
     let s := s.over (List.range 4) (fun s u => (s.put Hid.TILE_FAIL u 0).put Hid.BC_VERDICT u 1)
     let s := s.putAt Reg.PH_CFG.RAIL (s.home 3 * 24) (0) (3)
     s.hostOpen ∧
     s.dev ≠ Dev.load ∧
     s.page < 48 ∧
     s.phasesOf s.page ≠ []) ∧
    (let s := State.reset
     let s := s.putAt Reg.REIN_STATUS.ACTIVE (0) (0) (1)
     let s := s.putAt Reg.REIN_STATUS.ACTIVE (1) (0) (0)
     let s := s.putAt Hid.PRESENT (0) (0) (1)
     let s := s.putAt Hid.BOOT (0) (0) (1)
     let s := s.putAt Reg.DEV_STATE.STATE (0) (0) (4)
     let s := s.putAt Reg.HB_STATUS.ADDR (0) (0) (64)
     let s := s.putAt Reg.HB_PORT.PAGE (0) (0) (3)
     let s := s.over (List.range 96) (fun s p => s.put Reg.PH_CFG.RAIL p 63)
     s.hostOpen ∧
     s.dev ≠ Dev.load ∧
     s.page < 48 ∧
     s.phasesOf s.page = []) := by decide +kernel

/-- States and operands that meet the hypotheses of PmbusReads. -/
theorem wit_pmbusReads_8 :
    (let s := State.reset
     let s := s.putAt Reg.REIN_STATUS.ACTIVE (0) (0) (1)
     let s := s.putAt Reg.REIN_STATUS.ACTIVE (1) (0) (0)
     let s := s.putAt Hid.PRESENT (0) (0) (1)
     let s := s.putAt Hid.BOOT (0) (0) (1)
     let s := s.putAt Reg.DEV_STATE.STATE (0) (0) (4)
     let s := s.putAt Reg.HB_STATUS.ADDR (0) (0) (64)
     let s := s.putAt Reg.HB_PORT.PAGE (0) (0) (48)
     s.hostOpen ∧
     s.dev ≠ Dev.load ∧
     s.page = devPage) ∧
    (let s := State.reset
     let s := s.putAt Reg.REIN_STATUS.ACTIVE (0) (0) (1)
     let s := s.putAt Reg.REIN_STATUS.ACTIVE (1) (0) (0)
     let s := s.putAt Hid.PRESENT (0) (0) (1)
     let s := s.putAt Hid.BOOT (0) (0) (1)
     let s := s.putAt Reg.DEV_STATE.STATE (0) (0) (4)
     let s := s.putAt Reg.HB_STATUS.ADDR (0) (0) (64)
     let s := s.putAt Reg.HB_PORT.PAGE (0) (0) (3)
     s.hostOpen ∧
     s.dev ≠ Dev.load ∧
     s.page < 48) ∧
    (let s := State.reset
     let s := s.putAt Reg.REIN_STATUS.ACTIVE (0) (0) (1)
     let s := s.putAt Reg.REIN_STATUS.ACTIVE (1) (0) (0)
     let s := s.putAt Hid.PRESENT (0) (0) (1)
     let s := s.putAt Hid.BOOT (0) (0) (1)
     let s := s.putAt Reg.DEV_STATE.STATE (0) (0) (4)
     let s := s.putAt Reg.HB_STATUS.ADDR (0) (0) (64)
     let s := s.putAt Reg.HB_PORT.PAGE (0) (0) (48)
     s.hostOpen ∧
     s.dev ≠ Dev.load ∧
     s.page = devPage) ∧
    (let s := State.reset
     let s := s.putAt Reg.REIN_STATUS.ACTIVE (0) (0) (1)
     let s := s.putAt Reg.REIN_STATUS.ACTIVE (1) (0) (0)
     let s := s.putAt Hid.PRESENT (0) (0) (1)
     let s := s.putAt Hid.BOOT (0) (0) (1)
     let s := s.putAt Reg.DEV_STATE.STATE (0) (0) (4)
     let s := s.putAt Reg.HB_STATUS.ADDR (0) (0) (64)
     s.hostOpen) := by decide +kernel

/-- States and operands that meet the hypotheses of PmbusReads. -/
theorem wit_pmbusReads_9 :
    (let s := State.reset
     let s := s.putAt Reg.REIN_STATUS.ACTIVE (0) (0) (1)
     let s := s.putAt Reg.REIN_STATUS.ACTIVE (1) (0) (0)
     let s := s.putAt Hid.PRESENT (0) (0) (1)
     let s := s.putAt Hid.BOOT (0) (0) (1)
     let s := s.putAt Reg.DEV_STATE.STATE (0) (0) (4)
     let s := s.putAt Reg.HB_STATUS.ADDR (0) (0) (64)
     s.hostOpen) ∧
    (let s := State.reset
     let s := s.putAt Reg.REIN_STATUS.ACTIVE (0) (0) (1)
     let s := s.putAt Reg.REIN_STATUS.ACTIVE (1) (0) (0)
     let s := s.putAt Hid.PRESENT (0) (0) (1)
     let s := s.putAt Hid.BOOT (0) (0) (1)
     let s := s.putAt Reg.DEV_STATE.STATE (0) (0) (4)
     let s := s.putAt Reg.HB_STATUS.ADDR (0) (0) (64)
     s.hostOpen) ∧
    (let s := State.reset
     let s := s.putAt Reg.REIN_STATUS.ACTIVE (0) (0) (1)
     let s := s.putAt Reg.REIN_STATUS.ACTIVE (1) (0) (0)
     let s := s.putAt Hid.PRESENT (0) (0) (1)
     let s := s.putAt Hid.BOOT (0) (0) (1)
     let s := s.putAt Reg.DEV_STATE.STATE (0) (0) (4)
     let s := s.putAt Reg.HB_STATUS.ADDR (0) (0) (64)
     s.hostOpen) ∧
    (let s := State.reset
     let s := s.putAt Reg.REIN_STATUS.ACTIVE (0) (0) (1)
     let s := s.putAt Reg.REIN_STATUS.ACTIVE (1) (0) (0)
     let s := s.putAt Hid.PRESENT (0) (0) (1)
     let s := s.putAt Hid.BOOT (0) (0) (1)
     let s := s.putAt Reg.DEV_STATE.STATE (0) (0) (4)
     let s := s.putAt Reg.HB_STATUS.ADDR (0) (0) (64)
     s.hostOpen) := by decide +kernel

/-- States and operands that meet the hypotheses of ManufacturerCommands. -/
theorem wit_manufacturerCommands_1 :
    (let rd : Bool := true
     let s := State.reset
     let s := s.putAt Reg.REIN_STATUS.ACTIVE (0) (0) (1)
     let s := s.putAt Reg.REIN_STATUS.ACTIVE (1) (0) (0)
     let s := s.putAt Hid.PRESENT (0) (0) (1)
     let s := s.putAt Hid.BOOT (0) (0) (1)
     let s := s.putAt Reg.DEV_STATE.STATE (0) (0) (4)
     let s := s.putAt Reg.HB_STATUS.ADDR (0) (0) (64)
     s.hostOpen ∧
     rd = true) ∧
    (let rd : Bool := false
     let bytes : List Byte := [4, 8, 0, 0, 16]
     let s := State.reset
     let s := s.putAt Reg.REIN_STATUS.ACTIVE (0) (0) (1)
     let s := s.putAt Reg.REIN_STATUS.ACTIVE (1) (0) (0)
     let s := s.putAt Hid.PRESENT (0) (0) (1)
     let s := s.putAt Hid.BOOT (0) (0) (1)
     let s := s.putAt Reg.DEV_STATE.STATE (0) (0) (4)
     let s := s.putAt Reg.HB_STATUS.ADDR (0) (0) (64)
     let s := s.putAt Reg.HB_CFG.PEC_REQ (0) (0) (0)
     s.hostOpen ∧
     rd = false ∧
     s.hbParse 0xD0 none false bytes = JStatus.ok ∧
     (writeData none bytes).length = 4 ∧
     (firstWord (writeData none bytes)) % 4 = 0) ∧
    (let rd : Bool := true
     let s := State.reset
     let s := s.putAt Reg.REIN_STATUS.ACTIVE (0) (0) (1)
     let s := s.putAt Reg.REIN_STATUS.ACTIVE (1) (0) (0)
     let s := s.putAt Hid.PRESENT (0) (0) (1)
     let s := s.putAt Hid.BOOT (0) (0) (1)
     let s := s.putAt Reg.DEV_STATE.STATE (0) (0) (4)
     let s := s.putAt Reg.HB_STATUS.ADDR (0) (0) (64)
     let s := s.putAt Reg.HB_WIN.WIN_ADDR (0) (0) (0x10000008)
     let s := s.putAt Reg.HB_CFG.PEC_REQ (0) (0) (0)
     let s := { s with perms := [⟨0x10000000, 0x1000FFFF, 15⟩] }
     let s := s.putAt Reg.HB_PORT.RLEN (0) (0) (12)
     s.hostOpen ∧
     rd = true ∧
     ((winWords (s.get Reg.HB_WIN.WIN_ADDR 0) (s.get Reg.HB_PORT.RLEN 0 / 4)).all fun x => s.winAllowed false true x && decide (memOf x = 0 ∧ memOf (x + 3) = 0 ∧ inSecure (x + 3) = false))) ∧
    (let rd : Bool := false
     let bytes : List Byte := [8, 1, 0, 3, 0, 9, 8, 7, 6]
     let s := State.reset
     let s := s.putAt Reg.REIN_STATUS.ACTIVE (0) (0) (1)
     let s := s.putAt Reg.REIN_STATUS.ACTIVE (1) (0) (0)
     let s := s.putAt Hid.PRESENT (0) (0) (1)
     let s := s.putAt Hid.BOOT (0) (0) (1)
     let s := s.putAt Reg.DEV_STATE.STATE (0) (0) (4)
     let s := s.putAt Reg.HB_STATUS.ADDR (0) (0) (64)
     let s := s.putAt Reg.HB_WIN.WIN_ADDR (0) (0) (0x10000008)
     let s := s.putAt Reg.HB_CFG.PEC_REQ (0) (0) (0)
     let s := { s with perms := [⟨0x10000000, 0x1000FFFF, 15⟩] }
     s.hostOpen ∧
     rd = false ∧
     s.hbParse 0xD1 none false bytes = JStatus.ok ∧
     4 ≤ (writeData none bytes).length ∧
     (writeData none bytes).length ≤ 252 ∧
     (writeData none bytes).length % 4 = 0 ∧
     s.get Reg.HB_WIN.WIN_ADDR 0 < 2 ^ 32 ∧
     ((winWords (s.get Reg.HB_WIN.WIN_ADDR 0) ((writeData none bytes).length / 4)).all fun x => s.winAllowed false false x && decide (memOf x = 0 ∧ memOf (x + 3) = 0 ∧ inSecure (x + 3) = false)) ∧
     Memory.wf s.mem = true) := by decide +kernel

/-- States and operands that meet the hypotheses of ManufacturerCommands. -/
theorem wit_manufacturerCommands_2 :
    (let rd : Bool := true
     let s := State.reset
     let s := s.putAt Reg.REIN_STATUS.ACTIVE (0) (0) (1)
     let s := s.putAt Reg.REIN_STATUS.ACTIVE (1) (0) (0)
     let s := s.putAt Hid.PRESENT (0) (0) (1)
     let s := s.putAt Hid.BOOT (0) (0) (1)
     let s := s.putAt Reg.DEV_STATE.STATE (0) (0) (4)
     let s := s.putAt Reg.HB_STATUS.ADDR (0) (0) (64)
     let s := s.putAt Reg.HB_PORT.RLEN (0) (0) (4)
     let s := { s with perms := [] }
     s.hostOpen ∧
     rd = true ∧
     ((winWords (s.get Reg.HB_WIN.WIN_ADDR 0) (s.get Reg.HB_PORT.RLEN 0 / 4)).any fun x => s.winAllowed false true x = false)) ∧
    (let rd : Bool := true
     let s := State.reset
     let s := s.putAt Reg.REIN_STATUS.ACTIVE (0) (0) (1)
     let s := s.putAt Reg.REIN_STATUS.ACTIVE (1) (0) (0)
     let s := s.putAt Hid.PRESENT (0) (0) (1)
     let s := s.putAt Hid.BOOT (0) (0) (1)
     let s := s.putAt Reg.DEV_STATE.STATE (0) (0) (4)
     let s := s.putAt Reg.HB_STATUS.ADDR (0) (0) (64)
     s.hostOpen ∧
     rd = true) ∧
    (let rd : Bool := false
     let bytes : List Byte := [8]
     let s := State.reset
     let s := s.putAt Reg.REIN_STATUS.ACTIVE (0) (0) (1)
     let s := s.putAt Reg.REIN_STATUS.ACTIVE (1) (0) (0)
     let s := s.putAt Hid.PRESENT (0) (0) (1)
     let s := s.putAt Hid.BOOT (0) (0) (1)
     let s := s.putAt Reg.DEV_STATE.STATE (0) (0) (4)
     let s := s.putAt Reg.HB_STATUS.ADDR (0) (0) (64)
     let s := s.putAt Reg.HB_CFG.PEC_REQ (0) (0) (0)
     s.hostOpen ∧
     rd = false ∧
     s.hbParse 0xD2 (some 1) false bytes = JStatus.ok ∧
     s.rlenOk (firstWord (writeData (some 1) bytes))) ∧
    (let s := State.reset
     let s := s.putAt Reg.REIN_STATUS.ACTIVE (0) (0) (1)
     let s := s.putAt Reg.REIN_STATUS.ACTIVE (1) (0) (0)
     let s := s.putAt Hid.PRESENT (0) (0) (1)
     let s := s.putAt Hid.BOOT (0) (0) (1)
     let s := s.putAt Reg.DEV_STATE.STATE (0) (0) (4)
     let s := s.putAt Reg.HB_STATUS.ADDR (0) (0) (64)
     s.hostOpen) := by decide +kernel

/-- States and operands that meet the hypotheses of ManufacturerCommands. -/
theorem wit_manufacturerCommands_3 :
    (let s := State.reset
     let s := s.putAt Reg.REIN_STATUS.ACTIVE (0) (0) (1)
     let s := s.putAt Reg.REIN_STATUS.ACTIVE (1) (0) (0)
     let s := s.putAt Hid.PRESENT (0) (0) (1)
     let s := s.putAt Hid.BOOT (0) (0) (1)
     let s := s.putAt Reg.DEV_STATE.STATE (0) (0) (4)
     let s := s.putAt Reg.HB_STATUS.ADDR (0) (0) (64)
     s.hostOpen) ∧
    (let s := State.reset
     let s := s.putAt Reg.REIN_STATUS.ACTIVE (0) (0) (1)
     let s := s.putAt Reg.REIN_STATUS.ACTIVE (1) (0) (0)
     let s := s.putAt Hid.PRESENT (0) (0) (1)
     let s := s.putAt Hid.BOOT (0) (0) (1)
     let s := s.putAt Reg.DEV_STATE.STATE (0) (0) (4)
     let s := s.putAt Reg.HB_STATUS.ADDR (0) (0) (64)
     s.hostOpen) ∧
    (let bytes : List Byte := [4, 2, 1, 0, 0]
     let s := State.reset
     let s := s.putAt Reg.REIN_STATUS.ACTIVE (0) (0) (1)
     let s := s.putAt Reg.REIN_STATUS.ACTIVE (1) (0) (0)
     let s := s.putAt Hid.PRESENT (0) (0) (1)
     let s := s.putAt Hid.BOOT (0) (0) (1)
     let s := s.putAt Reg.DEV_STATE.STATE (0) (0) (4)
     let s := s.putAt Reg.HB_STATUS.ADDR (0) (0) (64)
     let s := { s with jrnA := [({ seq := 258, beat := 9, epoch := 0, origin := 3, kind := 2, calSec := 5, tag := 0, status := 0, target := 1, code := 2, arg := 3 } : JEntry)] }
     s.hostOpen ∧
     s.hbParse 0xD6 none true bytes = JStatus.ok ∧
     (writeData none bytes).length = 4) ∧
    (let bytes : List Byte := [4, 7, 0, 0, 0]
     let s := State.reset
     let s := s.putAt Reg.REIN_STATUS.ACTIVE (0) (0) (1)
     let s := s.putAt Reg.REIN_STATUS.ACTIVE (1) (0) (0)
     let s := s.putAt Hid.PRESENT (0) (0) (1)
     let s := s.putAt Hid.BOOT (0) (0) (1)
     let s := s.putAt Reg.DEV_STATE.STATE (0) (0) (4)
     let s := s.putAt Reg.HB_STATUS.ADDR (0) (0) (64)
     let s := s.putAt Reg.HB_CFG.PEC_REQ (0) (0) (0)
     let s := s.putAt Reg.JRNL_NEXT.NEXT_SEQ (0) (0) (9)
     let s := s.putAt Reg.JRNL_OLDEST.OLDEST_SEQ (0) (0) (0)
     s.hostOpen ∧
     s.hbParse 0xD7 none false bytes = JStatus.ok ∧
     (writeData none bytes).length = 4 ∧
     s.ackBad (leNat (writeData none bytes)) = false) := by decide +kernel

/-- States and operands that meet the hypotheses of ManufacturerCommands. -/
theorem wit_manufacturerCommands_4 :
    (let s := State.reset
     let s := s.putAt Reg.REIN_STATUS.ACTIVE (0) (0) (1)
     let s := s.putAt Reg.REIN_STATUS.ACTIVE (1) (0) (0)
     let s := s.putAt Hid.PRESENT (0) (0) (1)
     let s := s.putAt Hid.BOOT (0) (0) (1)
     let s := s.putAt Reg.DEV_STATE.STATE (0) (0) (4)
     let s := s.putAt Reg.HB_STATUS.ADDR (0) (0) (64)
     let s := { s with evHost := [{ evBlank with seq := 3, src := 9 }] }
     s.hostOpen ∧
     s.dev ≠ Dev.load ∧
     s.evHost ≠ []) ∧
    (let s := State.reset
     let s := s.putAt Reg.REIN_STATUS.ACTIVE (0) (0) (1)
     let s := s.putAt Reg.REIN_STATUS.ACTIVE (1) (0) (0)
     let s := s.putAt Hid.PRESENT (0) (0) (1)
     let s := s.putAt Hid.BOOT (0) (0) (1)
     let s := s.putAt Reg.DEV_STATE.STATE (0) (0) (4)
     let s := s.putAt Reg.HB_STATUS.ADDR (0) (0) (64)
     let s := { s with evHost := [] }
     s.hostOpen ∧
     s.dev ≠ Dev.load ∧
     s.evHost = []) ∧
    (let rd : Bool := true
     let s := State.reset
     let s := s.putAt Reg.REIN_STATUS.ACTIVE (0) (0) (1)
     let s := s.putAt Reg.REIN_STATUS.ACTIVE (1) (0) (0)
     let s := s.putAt Hid.PRESENT (0) (0) (1)
     let s := s.putAt Hid.BOOT (0) (0) (1)
     let s := s.putAt Reg.DEV_STATE.STATE (0) (0) (4)
     let s := s.putAt Reg.HB_STATUS.ADDR (0) (0) (64)
     s.hostOpen ∧
     s.dev ≠ Dev.load ∧
     rd = true) ∧
    (let rd : Bool := false
     let bytes : List Byte := [8, 1]
     let s := State.reset
     let s := s.putAt Reg.REIN_STATUS.ACTIVE (0) (0) (1)
     let s := s.putAt Reg.REIN_STATUS.ACTIVE (1) (0) (0)
     let s := s.putAt Hid.PRESENT (0) (0) (1)
     let s := s.putAt Hid.BOOT (0) (0) (1)
     let s := s.putAt Reg.DEV_STATE.STATE (0) (0) (4)
     let s := s.putAt Reg.HB_STATUS.ADDR (0) (0) (64)
     let s := s.putAt Reg.HB_CFG.PEC_REQ (0) (0) (0)
     s.hostOpen ∧
     s.dev ≠ Dev.load ∧
     rd = false ∧
     s.hbParse 0xD9 (some 2) false bytes = JStatus.ok) := by decide +kernel

/-- States and operands that meet the hypotheses of ManufacturerCommands. -/
theorem wit_manufacturerCommands_5 :
    (let s := State.reset
     let s := s.putAt Reg.REIN_STATUS.ACTIVE (0) (0) (1)
     let s := s.putAt Reg.REIN_STATUS.ACTIVE (1) (0) (0)
     let s := s.putAt Hid.PRESENT (0) (0) (1)
     let s := s.putAt Hid.BOOT (0) (0) (1)
     let s := s.putAt Reg.DEV_STATE.STATE (0) (0) (4)
     let s := s.putAt Reg.HB_STATUS.ADDR (0) (0) (64)
     s.hostOpen) ∧
    (let s := State.reset
     let s := s.putAt Reg.REIN_STATUS.ACTIVE (0) (0) (1)
     let s := s.putAt Reg.REIN_STATUS.ACTIVE (1) (0) (0)
     let s := s.putAt Hid.PRESENT (0) (0) (1)
     let s := s.putAt Hid.BOOT (0) (0) (1)
     let s := s.putAt Reg.DEV_STATE.STATE (0) (0) (4)
     let s := s.putAt Reg.HB_STATUS.ADDR (0) (0) (64)
     let s := s.putAt Reg.EVC_CTRL.HQ_ALERT_EN (0) (0) (1)
     let s := { s with evHost := [evBlank] }
     s.hostOpen ∧
     s.alertLow) ∧
    (let s := State.reset
     let s := s.putAt Reg.REIN_STATUS.ACTIVE (0) (0) (1)
     let s := s.putAt Reg.REIN_STATUS.ACTIVE (1) (0) (0)
     let s := s.putAt Hid.PRESENT (0) (0) (1)
     let s := s.putAt Hid.BOOT (0) (0) (1)
     let s := s.putAt Reg.DEV_STATE.STATE (0) (0) (4)
     let s := s.putAt Reg.HB_STATUS.ADDR (0) (0) (64)
     s.alertLow = false) ∧
    (let s := State.reset
     let s := s.putAt Reg.REIN_STATUS.ACTIVE (0) (0) (1)
     let s := s.putAt Reg.REIN_STATUS.ACTIVE (1) (0) (0)
     let s := s.putAt Hid.PRESENT (0) (0) (1)
     let s := s.putAt Hid.BOOT (0) (0) (1)
     let s := s.putAt Reg.DEV_STATE.STATE (0) (0) (4)
     let s := s.putAt Reg.HB_STATUS.ADDR (0) (0) (64)
     s.hostOpen) := by decide +kernel

/-- States and operands that meet the hypotheses of ManufacturerCommands. -/
theorem wit_manufacturerCommands_6 :
    (let s := State.reset
     let s := s.putAt Reg.REIN_STATUS.ACTIVE (0) (0) (1)
     let s := s.putAt Reg.REIN_STATUS.ACTIVE (1) (0) (0)
     let s := s.putAt Hid.PRESENT (0) (0) (1)
     let s := s.putAt Hid.BOOT (0) (0) (1)
     let s := s.putAt Reg.DEV_STATE.STATE (0) (0) (4)
     let s := s.putAt Reg.HB_STATUS.ADDR (0) (0) (64)
     let s := s.putAt Reg.HB_CFG.TOUT_EN (0) (0) (1)
     s.hostOpen ∧
     s.on Reg.HB_CFG.TOUT_EN 0) ∧
    (let s := State.reset
     let s := s.putAt Reg.REIN_STATUS.ACTIVE (0) (0) (1)
     let s := s.putAt Reg.REIN_STATUS.ACTIVE (1) (0) (0)
     let s := s.putAt Hid.PRESENT (0) (0) (1)
     let s := s.putAt Hid.BOOT (0) (0) (1)
     let s := s.putAt Reg.DEV_STATE.STATE (0) (0) (4)
     let s := s.putAt Reg.HB_STATUS.ADDR (0) (0) (64)
     let s := s.putAt Reg.HB_CFG.TOUT_EN (0) (0) (1)
     s.hostOpen ∧
     s.on Reg.HB_CFG.TOUT_EN 0) ∧
    (let s := State.reset
     let s := s.putAt Reg.REIN_STATUS.ACTIVE (0) (0) (1)
     let s := s.putAt Reg.REIN_STATUS.ACTIVE (1) (0) (0)
     let s := s.putAt Hid.PRESENT (0) (0) (1)
     let s := s.putAt Hid.BOOT (0) (0) (1)
     let s := s.putAt Reg.DEV_STATE.STATE (0) (0) (4)
     let s := s.putAt Reg.HB_STATUS.ADDR (0) (0) (64)
     s.hostOpen) ∧
    (let s := State.reset
     let s := s.putAt Reg.DEV_STATE.STATE (0) (0) (6)
     let s := s.putAt Reg.HB_STATUS.ADDR (0) (0) (64)
     s.dev = Dev.park ∧
     s.get Reg.HB_STATUS.ADDR 0 ≠ 0) := by decide +kernel

/-- States and operands that meet the hypotheses of PmbusWrites. -/
theorem wit_pmbusWrites_1 :
    (let rd : Bool := false
     let bytes : List Byte := [0x30]
     let s := State.reset
     let s := s.putAt Reg.REIN_STATUS.ACTIVE (0) (0) (1)
     let s := s.putAt Reg.REIN_STATUS.ACTIVE (1) (0) (0)
     let s := s.putAt Hid.PRESENT (0) (0) (1)
     let s := s.putAt Hid.BOOT (0) (0) (1)
     let s := s.putAt Reg.DEV_STATE.STATE (0) (0) (4)
     let s := s.putAt Reg.HB_STATUS.ADDR (0) (0) (64)
     let s := s.putAt Reg.HB_CFG.PEC_REQ (0) (0) (0)
     let s := s.putAt Reg.HB_CFG.WP (0) (0) (0)
     s.hostOpen ∧
     s.dev ≠ Dev.load ∧
     rd = false ∧
     s.hbParse 0x00 (some 1) false bytes = JStatus.ok ∧
     s.wpAllows 0x00 ∧
     pageOk ((writeData (some 1) bytes).headD 0).toNat) ∧
    (let rd : Bool := false
     let bytes : List Byte := [0x31]
     let s := State.reset
     let s := s.putAt Reg.REIN_STATUS.ACTIVE (0) (0) (1)
     let s := s.putAt Reg.REIN_STATUS.ACTIVE (1) (0) (0)
     let s := s.putAt Hid.PRESENT (0) (0) (1)
     let s := s.putAt Hid.BOOT (0) (0) (1)
     let s := s.putAt Reg.DEV_STATE.STATE (0) (0) (4)
     let s := s.putAt Reg.HB_STATUS.ADDR (0) (0) (64)
     let s := s.putAt Reg.HB_CFG.PEC_REQ (0) (0) (0)
     let s := s.putAt Reg.HB_CFG.WP (0) (0) (0)
     s.hostOpen ∧
     s.dev ≠ Dev.load ∧
     rd = false ∧
     s.hbParse 0x00 (some 1) false bytes = JStatus.ok ∧
     s.wpAllows 0x00 ∧
     pageOk ((writeData (some 1) bytes).headD 0).toNat = false) ∧
    (let rd : Bool := false
     let bytes : List Byte := [0x80]
     let s := State.reset
     let s := s.putAt Reg.REIN_STATUS.ACTIVE (0) (0) (1)
     let s := s.putAt Reg.REIN_STATUS.ACTIVE (1) (0) (0)
     let s := s.putAt Hid.PRESENT (0) (0) (1)
     let s := s.putAt Hid.BOOT (0) (0) (1)
     let s := s.putAt Reg.DEV_STATE.STATE (0) (0) (4)
     let s := s.putAt Reg.HB_STATUS.ADDR (0) (0) (64)
     let s := s.putAt Reg.HB_CFG.PEC_REQ (0) (0) (0)
     let s := s.putAt Reg.HB_CFG.WP (0) (0) (0)
     let s := s.putAt Reg.HB_PORT.PAGE (0) (0) (3)
     let s := s.over (List.range 4) (fun s u => (s.put Hid.TILE_FAIL u 0).put Hid.BC_VERDICT u 1)
     let s := s.putAt Reg.SEQ_STATUS.ACTIVE (0) (0) (0)
     let s := s.putAt Reg.RAIL_SUP_STATUS.RSTATE (s.leadIx 3) (0) (0)
     let s := s.putAt Reg.RAIL_SUP_CFG.KIND (s.homeIx 3) (0) (2)
     s.hostOpen ∧
     s.dev = Dev.run ∧
     rd = false ∧
     s.hbParse 0x01 (some 1) false bytes = JStatus.ok ∧
     (writeData (some 1) bytes).headD 0 = 0x80#8 ∧
     s.wpAllows 0x01 ∧
     s.page < 48 ∧
     s.inSeq s.page = false ∧
     s.enableAllowed s.page ∧
     s.rs s.page = Rs.off ∧
     s.kindOf s.page = 2 ∧
     s.get Reg.JRNL_NEXT.NEXT_SEQ 0 < 2 ^ 32) ∧
    (let rd : Bool := false
     let bytes : List Byte := [0x80]
     let s := State.reset
     let s := s.putAt Reg.REIN_STATUS.ACTIVE (0) (0) (1)
     let s := s.putAt Reg.REIN_STATUS.ACTIVE (1) (0) (0)
     let s := s.putAt Hid.PRESENT (0) (0) (1)
     let s := s.putAt Hid.BOOT (0) (0) (1)
     let s := s.putAt Reg.DEV_STATE.STATE (0) (0) (4)
     let s := s.putAt Reg.HB_STATUS.ADDR (0) (0) (64)
     let s := s.putAt Reg.HB_CFG.PEC_REQ (0) (0) (0)
     let s := s.putAt Reg.HB_CFG.WP (0) (0) (0)
     let s := s.putAt Reg.HB_PORT.PAGE (0) (0) (3)
     let s := s.over (List.range 4) (fun s u => (s.put Hid.TILE_FAIL u 0).put Hid.BC_VERDICT u 1)
     let s := s.putAt Reg.SEQ_STATUS.ACTIVE (0) (0) (0)
     let s := s.putAt Reg.RAIL_SUP_STATUS.RSTATE (s.leadIx 3) (0) (0)
     let s := s.putAt Reg.RAIL_SUP_CFG.KIND (s.leadIx 3) (0) (1)
     let s := s.putAt Hid.RELOCK_STAGE (0) (0) (2)
     s.hostOpen ∧
     s.dev ≠ Dev.load ∧
     rd = false ∧
     s.hbParse 0x01 (some 1) false bytes = JStatus.ok ∧
     s.wpAllows 0x01 ∧
     (firstWord (writeData (some 1) bytes)) = 0x80 ∧
     s.page < 48 ∧
     s.inSeq s.page = false ∧
     s.enableAllowed s.page ∧
     s.rs s.page = Rs.off ∧
     s.kindOf s.page = 1 ∧
     s.railReady s.page = false ∧
     s.get Reg.JRNL_NEXT.NEXT_SEQ 0 < 2 ^ 32) := by decide +kernel

/-- States and operands that meet the hypotheses of PmbusWrites. -/
theorem wit_pmbusWrites_2 :
    (let rd : Bool := false
     let bytes : List Byte := [0x80]
     let s := State.reset
     let s := s.putAt Reg.REIN_STATUS.ACTIVE (0) (0) (1)
     let s := s.putAt Reg.REIN_STATUS.ACTIVE (1) (0) (0)
     let s := s.putAt Hid.PRESENT (0) (0) (1)
     let s := s.putAt Hid.BOOT (0) (0) (1)
     let s := s.putAt Reg.DEV_STATE.STATE (0) (0) (4)
     let s := s.putAt Reg.HB_STATUS.ADDR (0) (0) (64)
     let s := s.putAt Reg.HB_CFG.PEC_REQ (0) (0) (0)
     let s := s.putAt Reg.HB_CFG.WP (0) (0) (0)
     let s := s.putAt Reg.HB_PORT.PAGE (0) (0) (3)
     let s := s.over (List.range 4) (fun s u => (s.put Hid.TILE_FAIL u 0).put Hid.BC_VERDICT u 1)
     let s := s.putAt Reg.SEQ_STATUS.ACTIVE (0) (0) (0)
     let s := s.putAt Reg.RAIL_SUP_STATUS.RSTATE (s.leadIx 3) (0) (3)
     let s := s.putAt Reg.RAIL_SUP_CFG.KIND (s.leadIx 3) (0) (2)
     s.hostOpen ∧
     s.dev ≠ Dev.load ∧
     rd = false ∧
     s.hbParse 0x01 (some 1) false bytes = JStatus.ok ∧
     s.wpAllows 0x01 ∧
     (firstWord (writeData (some 1) bytes)) = 0x80 ∧
     s.page < 48 ∧
     s.inSeq s.page = false ∧
     s.enableAllowed s.page ∧
     (s.rs s.page = Rs.on ∨ s.rs s.page = Rs.ramping) ∧
     s.get Reg.JRNL_NEXT.NEXT_SEQ 0 < 2 ^ 32) ∧
    (let rd : Bool := false
     let bytes : List Byte := [0x40]
     let s := State.reset
     let s := s.putAt Reg.REIN_STATUS.ACTIVE (0) (0) (1)
     let s := s.putAt Reg.REIN_STATUS.ACTIVE (1) (0) (0)
     let s := s.putAt Hid.PRESENT (0) (0) (1)
     let s := s.putAt Hid.BOOT (0) (0) (1)
     let s := s.putAt Reg.DEV_STATE.STATE (0) (0) (4)
     let s := s.putAt Reg.HB_STATUS.ADDR (0) (0) (64)
     let s := s.putAt Reg.HB_CFG.PEC_REQ (0) (0) (0)
     let s := s.putAt Reg.HB_CFG.WP (0) (0) (0)
     let s := s.putAt Reg.HB_PORT.PAGE (0) (0) (3)
     let s := s.over (List.range 4) (fun s u => (s.put Hid.TILE_FAIL u 0).put Hid.BC_VERDICT u 1)
     let s := s.putAt Reg.SEQ_STATUS.ACTIVE (0) (0) (0)
     let s := s.putAt Reg.RAIL_SUP_STATUS.RSTATE (s.leadIx 3) (0) (3)
     let s := s.putAt Reg.RAIL_SUP_CFG.KIND (s.leadIx 3) (0) (2)
     let s := s.putAt Hid.EN_STAGE (0) (3) (0)
     s.hostOpen ∧
     s.dev ≠ Dev.load ∧
     rd = false ∧
     s.hbParse 0x01 (some 1) false bytes = JStatus.ok ∧
     s.wpAllows 0x01 ∧
     ((firstWord (writeData (some 1) bytes)) = 0 ∨ (firstWord (writeData (some 1) bytes)) = 0x40) ∧
     s.page < 48 ∧
     s.inSeq s.page = false ∧
     (s.rs s.page = Rs.on ∨ s.rs s.page = Rs.ramping) ∧
     s.get Reg.JRNL_NEXT.NEXT_SEQ 0 < 2 ^ 32) ∧
    (let rd : Bool := false
     let bytes : List Byte := [0x81]
     let s := State.reset
     let s := s.putAt Reg.REIN_STATUS.ACTIVE (0) (0) (1)
     let s := s.putAt Reg.REIN_STATUS.ACTIVE (1) (0) (0)
     let s := s.putAt Hid.PRESENT (0) (0) (1)
     let s := s.putAt Hid.BOOT (0) (0) (1)
     let s := s.putAt Reg.DEV_STATE.STATE (0) (0) (4)
     let s := s.putAt Reg.HB_STATUS.ADDR (0) (0) (64)
     let s := s.putAt Reg.HB_CFG.PEC_REQ (0) (0) (0)
     let s := s.putAt Reg.HB_CFG.WP (0) (0) (0)
     let s := s.putAt Reg.HB_PORT.PAGE (0) (0) (3)
     s.hostOpen ∧
     s.dev ≠ Dev.load ∧
     rd = false ∧
     s.hbParse 0x01 (some 1) false bytes = JStatus.ok ∧
     s.wpAllows 0x01 ∧
     (s.page < 48 ∨ s.page = 255) ∧
     (firstWord (writeData (some 1) bytes)) ≠ 0 ∧
     (firstWord (writeData (some 1) bytes)) ≠ 0x40 ∧
     (firstWord (writeData (some 1) bytes)) ≠ 0x80) ∧
    (let bytes : List Byte := []
     let s := State.reset
     let s := s.putAt Reg.REIN_STATUS.ACTIVE (0) (0) (1)
     let s := s.putAt Reg.REIN_STATUS.ACTIVE (1) (0) (0)
     let s := s.putAt Hid.PRESENT (0) (0) (1)
     let s := s.putAt Hid.BOOT (0) (0) (1)
     let s := s.putAt Reg.DEV_STATE.STATE (0) (0) (4)
     let s := s.putAt Reg.HB_STATUS.ADDR (0) (0) (64)
     let s := s.putAt Reg.HB_CFG.PEC_REQ (0) (0) (0)
     let s := s.putAt Reg.HB_CFG.WP (0) (0) (0)
     let s := s.putAt Reg.HB_PORT.PAGE (0) (0) (3)
     s.hostOpen ∧
     s.dev ≠ Dev.load ∧
     s.hbParse 0x03 (some 0) false bytes = JStatus.ok ∧
     s.wpAllows 0x03 ∧
     s.page < 48) := by decide +kernel

/-- States and operands that meet the hypotheses of PmbusWrites. -/
theorem wit_pmbusWrites_3 :
    (let rd : Bool := false
     let bytes : List Byte := [0x40]
     let s := State.reset
     let s := s.putAt Reg.REIN_STATUS.ACTIVE (0) (0) (1)
     let s := s.putAt Reg.REIN_STATUS.ACTIVE (1) (0) (0)
     let s := s.putAt Hid.PRESENT (0) (0) (1)
     let s := s.putAt Hid.BOOT (0) (0) (1)
     let s := s.putAt Reg.DEV_STATE.STATE (0) (0) (4)
     let s := s.putAt Reg.HB_STATUS.ADDR (0) (0) (64)
     let s := s.putAt Reg.HB_CFG.PEC_REQ (0) (0) (0)
     let s := s.putAt Reg.HB_CFG.WP (0) (0) (0)
     s.hostOpen ∧
     s.dev ≠ Dev.load ∧
     rd = false ∧
     s.hbParse 0x10 (some 1) false bytes = JStatus.ok ∧
     wpOk (firstWord (writeData (some 1) bytes)) ∧
     s.on Reg.HB_CFG.LOCK 0 = false) ∧
    (let rd : Bool := false
     let bytes : List Byte := [0, 0x10]
     let s := State.reset
     let s := s.putAt Reg.REIN_STATUS.ACTIVE (0) (0) (1)
     let s := s.putAt Reg.REIN_STATUS.ACTIVE (1) (0) (0)
     let s := s.putAt Hid.PRESENT (0) (0) (1)
     let s := s.putAt Hid.BOOT (0) (0) (1)
     let s := s.putAt Reg.DEV_STATE.STATE (0) (0) (4)
     let s := s.putAt Reg.HB_STATUS.ADDR (0) (0) (64)
     let s := s.putAt Reg.HB_CFG.PEC_REQ (0) (0) (0)
     let s := s.putAt Reg.HB_CFG.WP (0) (0) (0)
     let s := s.putAt Reg.HB_PORT.PAGE (0) (0) (3)
     let s := s.putAt Reg.RAIL_SETPT.DIVIDER (s.homeIx 3) (0) (0)
     let s := s.putAt Hid.SP_DONE (s.leadIx 3) (0) (0)
     let s := s.putAt Hid.SP_MODE (s.leadIx 3) (0) (0)
     let s := s.putAt Reg.RAIL_SUP_STATUS.RSTATE (s.leadIx 3) (0) (0)
     let s := s.putAt Reg.RAIL_OV.OV_LIM (s.leadIx 3) (0) (60000)
     let s := s.putAt Reg.RAIL_PROT_CFG.OV_CEIL (s.leadIx 3) (0) (65520)
     s.hostOpen ∧
     s.dev ≠ Dev.load ∧
     rd = false ∧
     s.hbParse 0x21 (some 2) false bytes = JStatus.ok ∧
     s.wpAllows 0x21 ∧
     s.page < 48 ∧
     s.setptOk (s.leadIx s.page) (s.voltsIn (if s.on Reg.RAIL_SETPT.DIVIDER (s.homeIx s.page) then 8 else 2) (firstWord (writeData (some 2) bytes))) ∧
     s.on Hid.SP_DONE (s.leadIx s.page) = false ∧
     s.get Hid.SP_MODE (s.leadIx s.page) ≠ SpMode.soft ∧
     s.running s.page = false) ∧
    (let rd : Bool := false
     let bytes : List Byte := [0, 0x10]
     let s := State.reset
     let s := s.putAt Reg.REIN_STATUS.ACTIVE (0) (0) (1)
     let s := s.putAt Reg.REIN_STATUS.ACTIVE (1) (0) (0)
     let s := s.putAt Hid.PRESENT (0) (0) (1)
     let s := s.putAt Hid.BOOT (0) (0) (1)
     let s := s.putAt Reg.DEV_STATE.STATE (0) (0) (4)
     let s := s.putAt Reg.HB_STATUS.ADDR (0) (0) (64)
     let s := s.putAt Reg.HB_CFG.PEC_REQ (0) (0) (0)
     let s := s.putAt Reg.HB_CFG.WP (0) (0) (0)
     let s := s.putAt Reg.HB_PORT.PAGE (0) (0) (3)
     let s := s.putAt Reg.RAIL_SETPT.DIVIDER (s.homeIx 3) (0) (0)
     let s := s.putAt Reg.RAIL_OV.OV_LIM (s.leadIx 3) (0) (60000)
     let s := s.putAt Reg.RAIL_PROT_CFG.OV_CEIL (s.leadIx 3) (0) (65520)
     let s := s.putAt Hid.SP_DONE (s.leadIx 3) (0) (1)
     let s := s.putAt Hid.SP_MODE (s.leadIx 3) (0) (0)
     let s := s.putAt Reg.REIN_STATUS.ACTIVE (0) (0) (1)
     let s := s.putAt Reg.CLK_STATUS.ROOT_LOCK (0) (0) (1)
     let s := s.putAt Hid.RELOCK_STAGE (0) (0) (0)
     let s := s.over (List.range 4) (fun s u => (s.put Reg.TILE_CLK_STATUS.REF_SRC u 0).put Reg.TILE_CLK_STATUS.SETTLING u 0)
     s.hostOpen ∧
     s.dev ≠ Dev.load ∧
     rd = false ∧
     s.hbParse 0x21 (some 2) false bytes = JStatus.ok ∧
     s.wpAllows 0x21 ∧
     s.page < 48 ∧
     s.setptOk (s.leadIx s.page) (s.voltsIn (if s.on Reg.RAIL_SETPT.DIVIDER (s.homeIx s.page) then 8 else 2) (firstWord (writeData (some 2) bytes))) ∧
     s.on Hid.SP_DONE (s.leadIx s.page) ∧
     s.get Hid.SP_MODE (s.leadIx s.page) ≠ SpMode.soft ∧
     s.railReady s.page ∧
     s.get Reg.JRNL_NEXT.NEXT_SEQ 0 < 2 ^ 32) ∧
    (let rd : Bool := false
     let bytes : List Byte := [0xFF, 0xFF]
     let s := State.reset
     let s := s.putAt Reg.REIN_STATUS.ACTIVE (0) (0) (1)
     let s := s.putAt Reg.REIN_STATUS.ACTIVE (1) (0) (0)
     let s := s.putAt Hid.PRESENT (0) (0) (1)
     let s := s.putAt Hid.BOOT (0) (0) (1)
     let s := s.putAt Reg.DEV_STATE.STATE (0) (0) (4)
     let s := s.putAt Reg.HB_STATUS.ADDR (0) (0) (64)
     let s := s.putAt Reg.HB_CFG.PEC_REQ (0) (0) (0)
     let s := s.putAt Reg.HB_CFG.WP (0) (0) (0)
     let s := s.putAt Reg.HB_PORT.PAGE (0) (0) (3)
     let s := s.putAt Reg.RAIL_SETPT.DIVIDER (s.homeIx 3) (0) (0)
     let s := s.putAt Reg.RAIL_OV.OV_LIM (s.leadIx 3) (0) (60000)
     let s := s.putAt Reg.RAIL_PROT_CFG.OV_CEIL (s.leadIx 3) (0) (65520)
     s.hostOpen ∧
     s.dev ≠ Dev.load ∧
     rd = false ∧
     s.hbParse 0x21 (some 2) false bytes = JStatus.ok ∧
     s.wpAllows 0x21 ∧
     s.page < 48 ∧
     s.setptOk (s.leadIx s.page) (s.voltsIn (if s.on Reg.RAIL_SETPT.DIVIDER (s.homeIx s.page) then 8 else 2) (firstWord (writeData (some 2) bytes))) = false ∧
     s.get Reg.JRNL_NEXT.NEXT_SEQ 0 < 2 ^ 32) := by decide +kernel

/-- States and operands that meet the hypotheses of PmbusWrites. -/
theorem wit_pmbusWrites_4 :
    (let rd : Bool := false
     let bytes : List Byte := [0, 0x20]
     let s := State.reset
     let s := s.putAt Reg.REIN_STATUS.ACTIVE (0) (0) (1)
     let s := s.putAt Reg.REIN_STATUS.ACTIVE (1) (0) (0)
     let s := s.putAt Hid.PRESENT (0) (0) (1)
     let s := s.putAt Hid.BOOT (0) (0) (1)
     let s := s.putAt Reg.DEV_STATE.STATE (0) (0) (4)
     let s := s.putAt Reg.HB_STATUS.ADDR (0) (0) (64)
     let s := s.putAt Reg.HB_CFG.PEC_REQ (0) (0) (0)
     let s := s.putAt Reg.HB_CFG.WP (0) (0) (0)
     let s := s.putAt Reg.HB_PORT.PAGE (0) (0) (3)
     let s := s.putAt Reg.RAIL_PROT_CFG.OV_CEIL (s.homeIx 3) (0) (65520)
     s.hostOpen ∧
     s.dev ≠ Dev.load ∧
     rd = false ∧
     s.hbParse 0x40 (some 2) false bytes = JStatus.ok ∧
     s.wpAllows 0x40 ∧
     s.page < 48 ∧
     0 ≤ (s.voltsIn 1 (firstWord (writeData (some 2) bytes)) : Int) ∧
     (s.voltsIn 1 (firstWord (writeData (some 2) bytes)) : Int) < 2 ^ Reg.RAIL_OV.OV_LIM.wid ∧
     ((s.tilesOf s.page).all fun u => !s.regRefuses .rail (railIx u s.page) Reg.RAIL_OV.OV_LIM.off (s.regWord .rail s.act (railIx u s.page) Reg.RAIL_OV.OV_LIM.off - s.get Reg.RAIL_OV.OV_LIM (railIx u s.page) * 2 ^ Reg.RAIL_OV.OV_LIM.lo + ((s.voltsIn 1 (firstWord (writeData (some 2) bytes)) : Int)).toNat * 2 ^ Reg.RAIL_OV.OV_LIM.lo))) ∧
    (let rd : Bool := false
     let bytes : List Byte := [8, 0]
     let s := State.reset
     let s := s.putAt Reg.REIN_STATUS.ACTIVE (0) (0) (1)
     let s := s.putAt Reg.REIN_STATUS.ACTIVE (1) (0) (0)
     let s := s.putAt Hid.PRESENT (0) (0) (1)
     let s := s.putAt Hid.BOOT (0) (0) (1)
     let s := s.putAt Reg.DEV_STATE.STATE (0) (0) (4)
     let s := s.putAt Reg.HB_STATUS.ADDR (0) (0) (64)
     let s := s.putAt Reg.HB_CFG.PEC_REQ (0) (0) (0)
     let s := s.putAt Reg.HB_CFG.WP (0) (0) (0)
     let s := s.putAt Reg.HB_PORT.PAGE (0) (0) (3)
     let s := s.putAt Reg.RAIL_PROT_CFG.OV_CEIL (s.homeIx 3) (0) (65520)
     s.hostOpen ∧
     s.dev ≠ Dev.load ∧
     rd = false ∧
     s.hbParse 0x46 (some 2) false bytes = JStatus.ok ∧
     s.wpAllows 0x46 ∧
     s.page < 48 ∧
     0 ≤ nearest (2 * linear11Value (firstWord (writeData (some 2) bytes))) (2 ^ 16) ∧
     nearest (2 * linear11Value (firstWord (writeData (some 2) bytes))) (2 ^ 16) < 2 ^ Reg.RAIL_OC.OCL.wid ∧
     ((s.tilesOf s.page).all fun u => !s.regRefuses .rail (railIx u s.page) Reg.RAIL_OC.OCL.off (s.regWord .rail s.act (railIx u s.page) Reg.RAIL_OC.OCL.off - s.get Reg.RAIL_OC.OCL (railIx u s.page) * 2 ^ Reg.RAIL_OC.OCL.lo + (nearest (2 * linear11Value (firstWord (writeData (some 2) bytes))) (2 ^ 16)).toNat * 2 ^ Reg.RAIL_OC.OCL.lo))) ∧
    (let rd : Bool := false
     let bytes : List Byte := [5, 0]
     let s := State.reset
     let s := s.putAt Reg.REIN_STATUS.ACTIVE (0) (0) (1)
     let s := s.putAt Reg.REIN_STATUS.ACTIVE (1) (0) (0)
     let s := s.putAt Hid.PRESENT (0) (0) (1)
     let s := s.putAt Hid.BOOT (0) (0) (1)
     let s := s.putAt Reg.DEV_STATE.STATE (0) (0) (4)
     let s := s.putAt Reg.HB_STATUS.ADDR (0) (0) (64)
     s.hostOpen ∧
     s.dev ≠ Dev.load ∧
     rd = false ∧
     bytes.length = 2 ∧
     crc8 (s.addrByte false :: 0 :: bytes.take 1) ≠ bytes.getD 1 0) ∧
    (let rd : Bool := false
     let bytes : List Byte := [0, 1]
     let s := State.reset
     let s := s.putAt Reg.REIN_STATUS.ACTIVE (0) (0) (1)
     let s := s.putAt Reg.REIN_STATUS.ACTIVE (1) (0) (0)
     let s := s.putAt Hid.PRESENT (0) (0) (1)
     let s := s.putAt Hid.BOOT (0) (0) (1)
     let s := s.putAt Reg.DEV_STATE.STATE (0) (0) (4)
     let s := s.putAt Reg.HB_STATUS.ADDR (0) (0) (64)
     let s := s.putAt Reg.HB_CFG.PEC_REQ (0) (0) (0)
     let s := s.putAt Reg.HB_CFG.WP (0) (0) (0)
     let s := s.putAt Reg.HB_PORT.PAGE (0) (0) (3)
     let s := s.putAt Reg.HB_CFG.WP (0) (0) (0x40)
     s.hostOpen ∧
     s.dev ≠ Dev.load ∧
     rd = false ∧
     s.hbParse 0x21 (some 2) false bytes = JStatus.ok ∧
     s.get Reg.HB_CFG.WP 0 = 0x40 ∧
     s.page < 48) := by decide +kernel

/-- States and operands that meet the hypotheses of ServicePortAndJournal. -/
theorem wit_servicePortAndJournal_1 :
    (let payload : List Byte := []
     let s := State.reset
     let s := s.putAt Reg.REIN_STATUS.ACTIVE (0) (0) (1)
     let s := s.putAt Reg.REIN_STATUS.ACTIVE (1) (0) (0)
     let s := s.putAt Hid.PRESENT (0) (0) (1)
     let s := s.putAt Hid.WAKE_AT (0) (0) (0)
     let s := s.putAt Hid.BOOT (0) (0) (1)
     let s := s.putAt Reg.DEV_STATE.STATE (0) (0) (4)
     let s := s.putAt Reg.FUSE_STATUS.STAGE (0) (0) (2)
     s.portsServe ∧
     s.svcAsleep payload.length = false ∧
     payload = []) ∧
    (let s := State.reset
     let s := s.putAt Reg.REIN_STATUS.ACTIVE (0) (0) (1)
     let s := s.putAt Reg.REIN_STATUS.ACTIVE (1) (0) (0)
     let s := s.putAt Hid.PRESENT (0) (0) (1)
     let s := s.putAt Hid.BOOT (0) (0) (1)
     let s := s.putAt Reg.FUSE_STATUS.STAGE (0) (0) (2)
     let s := s.putAt Reg.DEV_STATE.STATE (0) (0) (6)
     s.dev = Dev.park) ∧
    (let payload : List Byte := []
     let s := State.reset
     let s := s.putAt Reg.REIN_STATUS.ACTIVE (0) (0) (1)
     let s := s.putAt Reg.REIN_STATUS.ACTIVE (1) (0) (0)
     let s := s.putAt Hid.PRESENT (0) (0) (1)
     let s := s.putAt Hid.BOOT (0) (0) (1)
     let s := s.putAt Reg.FUSE_STATUS.STAGE (0) (0) (2)
     let s := s.putAt Hid.BEAT (0) (0) (5)
     let s := s.putAt Hid.WAKE_AT (0) (0) (3)
     let s := s.putAt Reg.DEV_STATE.STATE (0) (0) (4)
     s.dev ≠ Dev.park ∧
     (s.portsServe = false ∨ s.svcAsleep payload.length)) ∧
    (let payload : List Byte := []
     let s := State.reset
     let s := s.putAt Reg.REIN_STATUS.ACTIVE (0) (0) (1)
     let s := s.putAt Reg.REIN_STATUS.ACTIVE (1) (0) (0)
     let s := s.putAt Hid.PRESENT (0) (0) (1)
     let s := s.putAt Hid.WAKE_AT (0) (0) (0)
     let s := s.putAt Hid.BOOT (0) (0) (1)
     let s := s.putAt Reg.DEV_STATE.STATE (0) (0) (4)
     let s := s.putAt Reg.FUSE_STATUS.STAGE (0) (0) (2)
     s.portsServe ∧
     s.svcAsleep payload.length = false ∧
     payload = []) := by decide +kernel

/-- States and operands that meet the hypotheses of ServicePortAndJournal. -/
theorem wit_servicePortAndJournal_2 :
    (let payload : List Byte := [8, 0, 0, 16, 3, 0]
     let s := State.reset
     let s := s.putAt Reg.REIN_STATUS.ACTIVE (0) (0) (1)
     let s := s.putAt Reg.REIN_STATUS.ACTIVE (1) (0) (0)
     let s := s.putAt Hid.PRESENT (0) (0) (1)
     let s := s.putAt Hid.WAKE_AT (0) (0) (0)
     let s := s.putAt Hid.BOOT (0) (0) (1)
     let s := s.putAt Reg.DEV_STATE.STATE (0) (0) (4)
     let s := s.putAt Reg.FUSE_STATUS.STAGE (0) (0) (2)
     let s := { s with perms := [⟨0x10000000, 0x1000FFFF, 15⟩] }
     s.portsServe ∧
     s.svcAsleep payload.length = false ∧
     s.dev ≠ Dev.load ∧
     s.svcWindow ∧
     payload.length = 6 ∧
     1 ≤ (leNat (payload.drop 4)) ∧
     4 * (leNat (payload.drop 4)) + 1 ≤ s.svcStaging ∧
     6 ≤ s.svcStaging ∧
     (leNat (payload.take 4)) % 4 = 0 ∧
     ((winWords (leNat (payload.take 4)) (4 * (leNat (payload.drop 4)) / 4)).all fun x => s.winAllowed true true x && decide (memOf x = 0 ∧ memOf (x + 3) = 0 ∧ inSecure (x + 3) = false))) ∧
    (let payload : List Byte := [8, 0, 0, 16, 1, 0, 5, 0, 6, 7, 8, 9]
     let s := State.reset
     let s := s.putAt Reg.REIN_STATUS.ACTIVE (0) (0) (1)
     let s := s.putAt Reg.REIN_STATUS.ACTIVE (1) (0) (0)
     let s := s.putAt Hid.PRESENT (0) (0) (1)
     let s := s.putAt Hid.WAKE_AT (0) (0) (0)
     let s := s.putAt Hid.BOOT (0) (0) (1)
     let s := s.putAt Reg.DEV_STATE.STATE (0) (0) (4)
     let s := s.putAt Reg.FUSE_STATUS.STAGE (0) (0) (2)
     let s := { s with perms := [⟨0x10000000, 0x1000FFFF, 15⟩] }
     s.portsServe ∧
     s.svcAsleep payload.length = false ∧
     s.dev ≠ Dev.load ∧
     s.svcWindow ∧
     8 ≤ payload.length ∧
     payload.length % 4 = 0 ∧
     payload.length ≤ s.svcStaging ∧
     (leNat (payload.take 4)) % 4 = 0 ∧
     ((winWords (leNat (payload.take 4)) ((payload.drop 4).length / 4)).all fun x => s.winAllowed true false x && decide (memOf x = 0 ∧ memOf (x + 3) = 0 ∧ inSecure (x + 3) = false)) ∧
     Memory.wf s.mem = true) ∧
    (let payload : List Byte := [0, 0, 0, 0, 1]
     let s := State.reset
     let s := s.putAt Reg.REIN_STATUS.ACTIVE (0) (0) (1)
     let s := s.putAt Reg.REIN_STATUS.ACTIVE (1) (0) (0)
     let s := s.putAt Hid.PRESENT (0) (0) (1)
     let s := s.putAt Hid.WAKE_AT (0) (0) (0)
     let s := s.putAt Hid.BOOT (0) (0) (1)
     let s := s.putAt Reg.DEV_STATE.STATE (0) (0) (4)
     let s := s.putAt Reg.FUSE_STATUS.STAGE (0) (0) (2)
     s.portsServe ∧
     s.svcAsleep payload.length = false ∧
     s.stageNow < Stage.retired ∧
     payload.length = 5 ∧
     1 ≤ leNat (payload.drop 4) ∧
     leNat (payload.drop 4) ≤ 64) ∧
    (let payload : List Byte := [2]
     let s := State.reset
     let s := s.putAt Reg.REIN_STATUS.ACTIVE (0) (0) (1)
     let s := s.putAt Reg.REIN_STATUS.ACTIVE (1) (0) (0)
     let s := s.putAt Hid.PRESENT (0) (0) (1)
     let s := s.putAt Hid.WAKE_AT (0) (0) (0)
     let s := s.putAt Hid.BOOT (0) (0) (1)
     let s := s.putAt Reg.DEV_STATE.STATE (0) (0) (4)
     let s := s.putAt Reg.FUSE_STATUS.STAGE (0) (0) (2)
     let s := { s with evHost := [{ evBlank with seq := 3, src := 9 }] }
     s.portsServe ∧
     s.svcAsleep payload.length = false ∧
     s.stageNow < Stage.retired ∧
     s.dev ≠ Dev.load ∧
     payload.length = 1 ∧
     1 ≤ leNat payload ∧
     leNat payload ≤ 32) := by decide +kernel

/-- States and operands that meet the hypotheses of ServicePortAndJournal. -/
theorem wit_servicePortAndJournal_3 :
    (let payload : List Byte := [6]
     let s := State.reset
     let s := s.putAt Reg.REIN_STATUS.ACTIVE (0) (0) (1)
     let s := s.putAt Reg.REIN_STATUS.ACTIVE (1) (0) (0)
     let s := s.putAt Hid.PRESENT (0) (0) (1)
     let s := s.putAt Hid.WAKE_AT (0) (0) (0)
     let s := s.putAt Hid.BOOT (0) (0) (1)
     let s := s.putAt Reg.DEV_STATE.STATE (0) (0) (4)
     let s := s.putAt Reg.FUSE_STATUS.STAGE (0) (0) (2)
     s.portsServe ∧
     s.svcAsleep payload.length = false ∧
     s.stageNow < Stage.retired ∧
     payload.length = 1 ∧
     leNat payload ≤ 6) ∧
    (let payload : List Byte := []
     let s := State.reset
     let s := s.putAt Reg.REIN_STATUS.ACTIVE (0) (0) (1)
     let s := s.putAt Reg.REIN_STATUS.ACTIVE (1) (0) (0)
     let s := s.putAt Hid.PRESENT (0) (0) (1)
     let s := s.putAt Hid.WAKE_AT (0) (0) (0)
     let s := s.putAt Hid.BOOT (0) (0) (1)
     let s := s.putAt Reg.DEV_STATE.STATE (0) (0) (4)
     let s := s.putAt Reg.FUSE_STATUS.STAGE (0) (0) (2)
     let s := s.putAt Reg.FUSE_STATUS.STAGE (0) (0) (1)
     s.portsServe ∧
     s.svcAsleep payload.length = false ∧
     s.dev ≠ Dev.load ∧
     s.stageNow ≤ Stage.build ∧
     payload.length ≤ s.svcStaging) ∧
    (let cmd : Byte := 0x08
     let payload : List Byte := []
     let s := State.reset
     let s := s.putAt Reg.REIN_STATUS.ACTIVE (0) (0) (1)
     let s := s.putAt Reg.REIN_STATUS.ACTIVE (1) (0) (0)
     let s := s.putAt Hid.PRESENT (0) (0) (1)
     let s := s.putAt Hid.WAKE_AT (0) (0) (0)
     let s := s.putAt Hid.BOOT (0) (0) (1)
     let s := s.putAt Reg.DEV_STATE.STATE (0) (0) (4)
     let s := s.putAt Reg.FUSE_STATUS.STAGE (0) (0) (2)
     s.portsServe ∧
     s.svcAsleep payload.length = false ∧
     s.dev ≠ Dev.load ∧
     svcReserved cmd.toNat ∧
     payload.length ≤ s.svcStaging) ∧
    (let framing : Bool := true
     let raw : List Byte := []
     let s := State.reset
     let s := s.putAt Reg.REIN_STATUS.ACTIVE (0) (0) (1)
     let s := s.putAt Reg.REIN_STATUS.ACTIVE (1) (0) (0)
     let s := s.putAt Hid.PRESENT (0) (0) (1)
     let s := s.putAt Hid.BOOT (0) (0) (1)
     let s := s.putAt Reg.DEV_STATE.STATE (0) (0) (4)
     let s := s.putAt Reg.FUSE_STATUS.STAGE (0) (0) (2)
     s.portsServe ∧
     (framing ∨ frameCrcBad raw)) := by decide +kernel

/-- States and operands that meet the hypotheses of ServicePortAndJournal. -/
theorem wit_servicePortAndJournal_4 :
    (let framing : Bool := false
     let raw : List Byte := []
     let s := State.reset
     let s := s.putAt Hid.BOOT (0) (0) (0)
     (s.portsServe = false ∨ (framing = false ∧ frameCrcBad raw = false))) ∧
    (let s := State.reset
     let s := s.putAt Reg.REIN_STATUS.ACTIVE (0) (0) (1)
     let s := s.putAt Reg.REIN_STATUS.ACTIVE (1) (0) (0)
     let s := s.putAt Hid.PRESENT (0) (0) (1)
     let s := s.putAt Hid.BOOT (0) (0) (1)
     let s := s.putAt Reg.DEV_STATE.STATE (0) (0) (4)
     let s := s.putAt Reg.FUSE_STATUS.STAGE (0) (0) (2)
     s.portsServe) ∧
    (let s := State.reset
     let s := s.putAt Hid.BOOT (0) (0) (0)
     s.portsServe = false) ∧
    (let s := State.reset
     let s := s.putAt Reg.REIN_STATUS.ACTIVE (0) (0) (1)
     let s := s.putAt Reg.REIN_STATUS.ACTIVE (1) (0) (0)
     let s := s.putAt Hid.PRESENT (0) (0) (1)
     let s := s.putAt Hid.BAUD_PEND (0) (0) (1)
     let s := s.putAt Hid.BAUD_AT (0) (0) (1)
     let s := s.putAt Hid.BEAT (0) (0) (1001)
     s.on Hid.BAUD_PEND 0 ∧
     1000 ≤ beatDiff s.beat (s.get Hid.BAUD_AT 0)) := by decide +kernel

/-- States and operands that meet the hypotheses of ServicePortAndJournal. -/
theorem wit_servicePortAndJournal_5 :
    (let s := State.reset
     let s := s.putAt Hid.BAUD_PEND (0) (0) (0)
     (s.on Hid.BAUD_PEND 0 = false ∨ beatDiff s.beat (s.get Hid.BAUD_AT 0) < 1000)) ∧
    (let s := State.reset
     let s := s.putAt Reg.REIN_STATUS.ACTIVE (0) (0) (1)
     let s := s.putAt Reg.REIN_STATUS.ACTIVE (1) (0) (0)
     let s := s.putAt Hid.PRESENT (0) (0) (1)
     let s := s.putAt Hid.BAUD_TRY (0) (0) (1)
     let s := s.putAt Hid.BAUD_AT (0) (0) (1)
     let s := s.putAt Hid.BEAT (0) (0) (2000001)
     s.on Hid.BAUD_TRY 0 ∧
     2000000 ≤ beatDiff s.beat (s.get Hid.BAUD_AT 0)) ∧
    (let s := State.reset
     let s := s.putAt Hid.BAUD_TRY (0) (0) (0)
     (s.on Hid.BAUD_TRY 0 = false ∨ beatDiff s.beat (s.get Hid.BAUD_AT 0) < 2000000)) ∧
    (let w : Who := .mc0
     let m : Mgr := 0
     let s := State.reset
     let s := s.putAt Reg.REIN_STATUS.ACTIVE (0) (0) (1)
     let s := s.putAt Reg.REIN_STATUS.ACTIVE (1) (0) (0)
     let s := s.putAt Hid.PRESENT (0) (0) (1)
     s.reach w m = s.act) := by decide +kernel

/-- States and operands that meet the hypotheses of ServicePortAndJournal. -/
theorem wit_servicePortAndJournal_6 :
    (let w : Who := .mc0
     let m : Mgr := 0
     let v : Word := 7
     let s := State.reset
     let s := s.putAt Reg.REIN_STATUS.ACTIVE (0) (0) (1)
     let s := s.putAt Reg.REIN_STATUS.ACTIVE (1) (0) (0)
     let s := s.putAt Hid.PRESENT (0) (0) (1)
     let s := s.putAt Reg.JRNL_NEXT.NEXT_SEQ (0) (0) (9)
     let s := s.putAt Reg.JRNL_OLDEST.OLDEST_SEQ (0) (0) (0)
     s.reach w m = s.act ∧
     s.ackBad v.toNat = false) ∧
    (let w : Who := .mc0
     let m : Mgr := 0
     let v : Word := 9
     let s := State.reset
     let s := s.putAt Reg.REIN_STATUS.ACTIVE (0) (0) (1)
     let s := s.putAt Reg.REIN_STATUS.ACTIVE (1) (0) (0)
     let s := s.putAt Hid.PRESENT (0) (0) (1)
     let s := s.putAt Reg.JRNL_NEXT.NEXT_SEQ (0) (0) (9)
     let s := s.putAt Reg.JRNL_OLDEST.OLDEST_SEQ (0) (0) (0)
     s.reach w m = s.act ∧
     s.ackBad v.toNat) := by decide +kernel

/-- States and operands that meet the hypotheses of UpdateDeliveryAndVerification. -/
theorem wit_updateDeliveryAndVerification_1 :
    (let msg : PortMsg := .svc 7 []
     let s := State.reset
     let s := s.putAt Reg.REIN_STATUS.ACTIVE (0) (0) (1)
     let s := s.putAt Reg.REIN_STATUS.ACTIVE (1) (0) (0)
     let s := s.putAt Hid.PRESENT (0) (0) (1)
     let s := s.putAt Hid.WAKE_AT (0) (0) (0)
     let s := s.putAt Hid.BOOT (0) (0) (1)
     let s := s.putAt Reg.DEV_STATE.STATE (0) (0) (4)
     let s := s.putAt Reg.HB_STATUS.ADDR (0) (0) (64)
     let s := s.putAt Reg.FUSE_STATUS.STAGE (0) (0) (1)
     let s := s.putAt Reg.HB_CFG.PEC_REQ (0) (0) (0)
     s.portGives 0 msg []) ∧
    (let msg : PortMsg := .svc 7 [2, 0, 0, 0]
     let s := State.reset
     let s := s.putAt Reg.REIN_STATUS.ACTIVE (0) (0) (1)
     let s := s.putAt Reg.REIN_STATUS.ACTIVE (1) (0) (0)
     let s := s.putAt Hid.PRESENT (0) (0) (1)
     let s := s.putAt Hid.WAKE_AT (0) (0) (0)
     let s := s.putAt Hid.BOOT (0) (0) (1)
     let s := s.putAt Reg.DEV_STATE.STATE (0) (0) (4)
     let s := s.putAt Reg.HB_STATUS.ADDR (0) (0) (64)
     let s := s.putAt Reg.FUSE_STATUS.STAGE (0) (0) (1)
     let s := s.putAt Reg.HB_CFG.PEC_REQ (0) (0) (0)
     s.portGives 11 msg (payloadOf msg) ∧
     (payloadOf msg).length = 4) ∧
    (let msg : PortMsg := .svc 7 [1, 2, 3, 4]
     let s := State.reset
     let s := s.putAt Reg.REIN_STATUS.ACTIVE (0) (0) (1)
     let s := s.putAt Reg.REIN_STATUS.ACTIVE (1) (0) (0)
     let s := s.putAt Hid.PRESENT (0) (0) (1)
     let s := s.putAt Hid.WAKE_AT (0) (0) (0)
     let s := s.putAt Hid.BOOT (0) (0) (1)
     let s := s.putAt Reg.DEV_STATE.STATE (0) (0) (4)
     let s := s.putAt Reg.HB_STATUS.ADDR (0) (0) (64)
     let s := s.putAt Reg.FUSE_STATUS.STAGE (0) (0) (1)
     let s := s.putAt Reg.HB_CFG.PEC_REQ (0) (0) (0)
     let s := s.putAt Reg.UPD_STATUS.STATE (0) (0) (7)
     s.portGives 1 msg (payloadOf msg) ∧
     (payloadOf msg).length = 4 ∧
     !([0]).contains s.upd) ∧
    (let msg : PortMsg := .svc 7 [0, 0, 1, 2, 3, 4]
     let s := State.reset
     let s := s.putAt Reg.REIN_STATUS.ACTIVE (0) (0) (1)
     let s := s.putAt Reg.REIN_STATUS.ACTIVE (1) (0) (0)
     let s := s.putAt Hid.PRESENT (0) (0) (1)
     let s := s.putAt Hid.WAKE_AT (0) (0) (0)
     let s := s.putAt Hid.BOOT (0) (0) (1)
     let s := s.putAt Reg.DEV_STATE.STATE (0) (0) (4)
     let s := s.putAt Reg.HB_STATUS.ADDR (0) (0) (64)
     let s := s.putAt Reg.FUSE_STATUS.STAGE (0) (0) (1)
     let s := s.putAt Reg.HB_CFG.PEC_REQ (0) (0) (0)
     let s := s.putAt Reg.UPD_STATUS.STATE (0) (0) (7)
     s.portGives 2 msg (payloadOf msg) ∧
     6 ≤ (payloadOf msg).length ∧
     (payloadOf msg).length % 4 = 2 ∧
     !([0, 1]).contains s.upd) := by decide +kernel

/-- States and operands that meet the hypotheses of UpdateDeliveryAndVerification. -/
theorem wit_updateDeliveryAndVerification_2 :
    (let msg : PortMsg := .svc 7 [1, 0, 0, 0, 1, 2, 3, 4]
     let s := State.reset
     let s := s.putAt Reg.REIN_STATUS.ACTIVE (0) (0) (1)
     let s := s.putAt Reg.REIN_STATUS.ACTIVE (1) (0) (0)
     let s := s.putAt Hid.PRESENT (0) (0) (1)
     let s := s.putAt Hid.WAKE_AT (0) (0) (0)
     let s := s.putAt Hid.BOOT (0) (0) (1)
     let s := s.putAt Reg.DEV_STATE.STATE (0) (0) (4)
     let s := s.putAt Reg.HB_STATUS.ADDR (0) (0) (64)
     let s := s.putAt Reg.FUSE_STATUS.STAGE (0) (0) (1)
     let s := s.putAt Reg.HB_CFG.PEC_REQ (0) (0) (0)
     let s := s.putAt Reg.UPD_STATUS.STATE (0) (0) (7)
     s.portGives 3 msg (payloadOf msg) ∧
     (payloadOf msg).length = 8 ∧
     !([1]).contains s.upd) ∧
    (let msg : PortMsg := .svc 7 [1, 0, 0, 0, 1, 0, 0, 0]
     let s := State.reset
     let s := s.putAt Reg.REIN_STATUS.ACTIVE (0) (0) (1)
     let s := s.putAt Reg.REIN_STATUS.ACTIVE (1) (0) (0)
     let s := s.putAt Hid.PRESENT (0) (0) (1)
     let s := s.putAt Hid.WAKE_AT (0) (0) (0)
     let s := s.putAt Hid.BOOT (0) (0) (1)
     let s := s.putAt Reg.DEV_STATE.STATE (0) (0) (4)
     let s := s.putAt Reg.HB_STATUS.ADDR (0) (0) (64)
     let s := s.putAt Reg.FUSE_STATUS.STAGE (0) (0) (1)
     let s := s.putAt Reg.HB_CFG.PEC_REQ (0) (0) (0)
     let s := s.putAt Reg.UPD_STATUS.STATE (0) (0) (7)
     s.portGives 4 msg (payloadOf msg) ∧
     (payloadOf msg).length = 8 ∧
     !([1]).contains s.upd) ∧
    (let msg : PortMsg := .svc 7 []
     let s := State.reset
     let s := s.putAt Reg.REIN_STATUS.ACTIVE (0) (0) (1)
     let s := s.putAt Reg.REIN_STATUS.ACTIVE (1) (0) (0)
     let s := s.putAt Hid.PRESENT (0) (0) (1)
     let s := s.putAt Hid.WAKE_AT (0) (0) (0)
     let s := s.putAt Hid.BOOT (0) (0) (1)
     let s := s.putAt Reg.DEV_STATE.STATE (0) (0) (4)
     let s := s.putAt Reg.HB_STATUS.ADDR (0) (0) (64)
     let s := s.putAt Reg.FUSE_STATUS.STAGE (0) (0) (1)
     let s := s.putAt Reg.HB_CFG.PEC_REQ (0) (0) (0)
     let s := s.putAt Reg.UPD_STATUS.STATE (0) (0) (7)
     s.portGives 5 msg [] ∧
     !([1]).contains s.upd) ∧
    (let msg : PortMsg := .svc 7 []
     let s := State.reset
     let s := s.putAt Reg.REIN_STATUS.ACTIVE (0) (0) (1)
     let s := s.putAt Reg.REIN_STATUS.ACTIVE (1) (0) (0)
     let s := s.putAt Hid.PRESENT (0) (0) (1)
     let s := s.putAt Hid.WAKE_AT (0) (0) (0)
     let s := s.putAt Hid.BOOT (0) (0) (1)
     let s := s.putAt Reg.DEV_STATE.STATE (0) (0) (4)
     let s := s.putAt Reg.HB_STATUS.ADDR (0) (0) (64)
     let s := s.putAt Reg.FUSE_STATUS.STAGE (0) (0) (1)
     let s := s.putAt Reg.HB_CFG.PEC_REQ (0) (0) (0)
     let s := s.putAt Reg.UPD_STATUS.STATE (0) (0) (7)
     s.portGives 10 msg [] ∧
     !([1, 3, 4]).contains s.upd) := by decide +kernel

/-- States and operands that meet the hypotheses of UpdateDeliveryAndVerification. -/
theorem wit_updateDeliveryAndVerification_3 :
    (let msg : PortMsg := .svc 7 [4, 1, 9, 8, 7, 6]
     let s := State.reset
     let s := s.putAt Reg.REIN_STATUS.ACTIVE (0) (0) (1)
     let s := s.putAt Reg.REIN_STATUS.ACTIVE (1) (0) (0)
     let s := s.putAt Hid.PRESENT (0) (0) (1)
     let s := s.putAt Hid.WAKE_AT (0) (0) (0)
     let s := s.putAt Hid.BOOT (0) (0) (1)
     let s := s.putAt Reg.DEV_STATE.STATE (0) (0) (4)
     let s := s.putAt Reg.HB_STATUS.ADDR (0) (0) (64)
     let s := s.putAt Reg.FUSE_STATUS.STAGE (0) (0) (1)
     let s := s.putAt Reg.HB_CFG.PEC_REQ (0) (0) (0)
     let s := s.putAt Reg.UPD_STATUS.STATE (0) (0) (1)
     s.portGives 2 msg (payloadOf msg) ∧
     6 ≤ (payloadOf msg).length ∧
     (payloadOf msg).length % 4 = 2 ∧
     (leNat ((payloadOf msg).take 2)) + (payloadOf msg).length ≤ 4098 ∧
     (s.upd = Upd.idle ∨ s.upd = Upd.receiving) ∧
     Memory.wf s.mem = true) ∧
    (let msg : PortMsg := .svc 7 [253, 15, 9, 8, 7, 6]
     let s := State.reset
     let s := s.putAt Reg.REIN_STATUS.ACTIVE (0) (0) (1)
     let s := s.putAt Reg.REIN_STATUS.ACTIVE (1) (0) (0)
     let s := s.putAt Hid.PRESENT (0) (0) (1)
     let s := s.putAt Hid.WAKE_AT (0) (0) (0)
     let s := s.putAt Hid.BOOT (0) (0) (1)
     let s := s.putAt Reg.DEV_STATE.STATE (0) (0) (4)
     let s := s.putAt Reg.HB_STATUS.ADDR (0) (0) (64)
     let s := s.putAt Reg.FUSE_STATUS.STAGE (0) (0) (1)
     let s := s.putAt Reg.HB_CFG.PEC_REQ (0) (0) (0)
     let s := s.putAt Reg.UPD_STATUS.STATE (0) (0) (0)
     s.portGives 2 msg (payloadOf msg) ∧
     6 ≤ (payloadOf msg).length ∧
     (payloadOf msg).length % 4 = 2 ∧
     4098 < (leNat ((payloadOf msg).take 2)) + (payloadOf msg).length ∧
     (s.upd = Upd.idle ∨ s.upd = Upd.receiving)) ∧
    (let ok : Bool := true
     let s := State.reset
     let s := s.putAt Reg.REIN_STATUS.ACTIVE (0) (0) (1)
     let s := s.putAt Reg.REIN_STATUS.ACTIVE (1) (0) (0)
     let s := s.putAt Hid.PRESENT (0) (0) (1)
     let s := s.putAt Hid.WAKE_AT (0) (0) (0)
     let s := s.putAt Hid.BOOT (0) (0) (1)
     let s := s.putAt Reg.DEV_STATE.STATE (0) (0) (4)
     let s := s.putAt Reg.HB_STATUS.ADDR (0) (0) (64)
     let s := s.putAt Reg.FUSE_STATUS.STAGE (0) (0) (1)
     let s := s.putAt Reg.HB_CFG.PEC_REQ (0) (0) (0)
     let s := s.putAt Hid.FL_OP (0) (0) (2)
     let s := s.putAt Hid.FL_ZERO (0) (0) (0)
     let s := s.putAt Hid.FL_CHUNK (0) (0) (3)
     let s := s.putAt Hid.FL_SIZE (0) (0) (8388608)
     let s := s.putAt Reg.UPD_STATUS.TARGET (0) (0) (1)
     let s := s.putAt Reg.UPD_STATUS.FLASH_BUSY (0) (0) (1)
     let s := (s.accept (updKind 3) 2 0 8 0x13 3 true)
     let s := { s with feBad := [] }
     ok ∧
     s.get Hid.FL_OP 0 = 2 ∧
     s.on Hid.FL_ZERO 0 = false ∧
     (s.get Reg.UPD_STATUS.TARGET 0 = 1 ∨ s.get Reg.UPD_STATUS.TARGET 0 = 2) ∧
     s.accepted (updKind 3) ∧
     (s.chunkAddr (s.get Hid.FL_CHUNK 0)) + 4096 ≤ s.get Hid.FL_SIZE 0 ∧
     s.on Hid.PRESENT s.act ∧
     Memory.wf s.mem = true) ∧
    (let ok : Bool := false
     let s := State.reset
     let s := s.putAt Reg.REIN_STATUS.ACTIVE (0) (0) (1)
     let s := s.putAt Reg.REIN_STATUS.ACTIVE (1) (0) (0)
     let s := s.putAt Hid.PRESENT (0) (0) (1)
     let s := s.putAt Hid.WAKE_AT (0) (0) (0)
     let s := s.putAt Hid.BOOT (0) (0) (1)
     let s := s.putAt Reg.DEV_STATE.STATE (0) (0) (4)
     let s := s.putAt Reg.HB_STATUS.ADDR (0) (0) (64)
     let s := s.putAt Reg.FUSE_STATUS.STAGE (0) (0) (1)
     let s := s.putAt Reg.HB_CFG.PEC_REQ (0) (0) (0)
     let s := s.putAt Hid.FL_OP (0) (0) (2)
     let s := s.putAt Hid.FL_ZERO (0) (0) (0)
     let s := (s.accept (updKind 3) 2 0 8 0x13 3 true)
     ok = false ∧
     s.get Hid.FL_OP 0 = 2 ∧
     s.on Hid.FL_ZERO 0 = false ∧
     s.accepted (updKind 3)) := by decide +kernel

/-- States and operands that meet the hypotheses of UpdateDeliveryAndVerification. -/
theorem wit_updateDeliveryAndVerification_4 :
    (let s := State.reset
     let s := s.putAt Hid.FL_OP (0) (0) (1)
     s.get Hid.FL_OP 0 ≠ 2) ∧
    (let msg : PortMsg := .svc 7 [1, 0, 0, 0, 2, 0, 0, 0]
     let s := State.reset
     let s := s.putAt Reg.REIN_STATUS.ACTIVE (0) (0) (1)
     let s := s.putAt Reg.REIN_STATUS.ACTIVE (1) (0) (0)
     let s := s.putAt Hid.PRESENT (0) (0) (1)
     let s := s.putAt Hid.WAKE_AT (0) (0) (0)
     let s := s.putAt Hid.BOOT (0) (0) (1)
     let s := s.putAt Reg.DEV_STATE.STATE (0) (0) (4)
     let s := s.putAt Reg.HB_STATUS.ADDR (0) (0) (64)
     let s := s.putAt Reg.FUSE_STATUS.STAGE (0) (0) (1)
     let s := s.putAt Reg.HB_CFG.PEC_REQ (0) (0) (0)
     let s := s.putAt Reg.UPD_STATUS.STATE (0) (0) (1)
     let s := s.putAt Reg.UPD_STATUS.FLASH_BUSY (0) (0) (0)
     let s := s.putAt Reg.UPD_PROGRESS.TOTAL (0) (0) (5)
     let s := { s with feBad := [] }
     s.portGives 4 msg (payloadOf msg) ∧
     (payloadOf msg).length = 8 ∧
     s.upd = Upd.receiving ∧
     s.on Reg.UPD_STATUS.FLASH_BUSY 0 = false ∧
     1 ≤ (leNat ((payloadOf msg).take 4)) ∧
     1 ≤ (leNat ((payloadOf msg).drop 4)) ∧
     (leNat ((payloadOf msg).take 4)) + (leNat ((payloadOf msg).drop 4)) ≤ s.get Reg.UPD_PROGRESS.TOTAL 0 ∧
     s.on Hid.PRESENT s.act ∧
     Memory.wf s.mem = true) ∧
    (let ok : Bool := true
     let s := State.reset
     let s := s.putAt Reg.REIN_STATUS.ACTIVE (0) (0) (1)
     let s := s.putAt Reg.REIN_STATUS.ACTIVE (1) (0) (0)
     let s := s.putAt Hid.PRESENT (0) (0) (1)
     let s := s.putAt Hid.WAKE_AT (0) (0) (0)
     let s := s.putAt Hid.BOOT (0) (0) (1)
     let s := s.putAt Reg.DEV_STATE.STATE (0) (0) (4)
     let s := s.putAt Reg.HB_STATUS.ADDR (0) (0) (64)
     let s := s.putAt Reg.FUSE_STATUS.STAGE (0) (0) (1)
     let s := s.putAt Reg.HB_CFG.PEC_REQ (0) (0) (0)
     let s := s.putAt Hid.FL_OP (0) (0) (1)
     let s := s.putAt Hid.FL_ZERO (0) (0) (0)
     let s := s.putAt Hid.FL_CHUNK (0) (0) (3)
     let s := s.putAt Hid.FL_SIZE (0) (0) (8388608)
     let s := s.putAt Reg.UPD_STATUS.TARGET (0) (0) (1)
     let s := s.putAt Reg.UPD_STATUS.FLASH_BUSY (0) (0) (1)
     let s := (s.accept (updKind 4) 2 0 8 0x14 3 true)
     let s := { s with feBad := [] }
     let s := s.putAt Hid.FL_LEFT (0) (0) (1)
     ok ∧
     s.get Hid.FL_OP 0 = 1 ∧
     s.chunk (s.get Hid.FL_CHUNK 0) = Chunk.dirty ∧
     (s.chunkAddr (s.get Hid.FL_CHUNK 0)) + 4096 ≤ s.get Hid.FL_SIZE 0 ∧
     s.on Hid.PRESENT s.act ∧
     Memory.wf s.mem = true ∧
     s.get Hid.FL_LEFT 0 ≤ 1 ∧
     s.on Hid.FL_ZERO 0 = false ∧
     s.accepted (updKind 4)) ∧
    (let ok : Bool := true
     let s := State.reset
     let s := s.putAt Reg.REIN_STATUS.ACTIVE (0) (0) (1)
     let s := s.putAt Reg.REIN_STATUS.ACTIVE (1) (0) (0)
     let s := s.putAt Hid.PRESENT (0) (0) (1)
     let s := s.putAt Hid.WAKE_AT (0) (0) (0)
     let s := s.putAt Hid.BOOT (0) (0) (1)
     let s := s.putAt Reg.DEV_STATE.STATE (0) (0) (4)
     let s := s.putAt Reg.HB_STATUS.ADDR (0) (0) (64)
     let s := s.putAt Reg.FUSE_STATUS.STAGE (0) (0) (1)
     let s := s.putAt Reg.HB_CFG.PEC_REQ (0) (0) (0)
     let s := s.putAt Hid.FL_OP (0) (0) (1)
     let s := s.putAt Hid.FL_ZERO (0) (0) (0)
     let s := s.putAt Hid.FL_CHUNK (0) (0) (3)
     let s := s.putAt Hid.FL_SIZE (0) (0) (8388608)
     let s := s.putAt Reg.UPD_STATUS.TARGET (0) (0) (1)
     let s := s.putAt Reg.UPD_STATUS.FLASH_BUSY (0) (0) (1)
     let s := (s.accept (updKind 4) 2 0 8 0x14 3 true)
     let s := { s with feBad := [] }
     let s := s.putAt Hid.FL_LEFT (0) (0) (3)
     ok ∧
     s.get Hid.FL_OP 0 = 1 ∧
     s.chunk (s.get Hid.FL_CHUNK 0) = Chunk.dirty ∧
     (s.chunkAddr (s.get Hid.FL_CHUNK 0)) + 4096 ≤ s.get Hid.FL_SIZE 0 ∧
     s.on Hid.PRESENT s.act ∧
     Memory.wf s.mem = true ∧
     1 < s.get Hid.FL_LEFT 0 ∧
     (s.get Hid.FL_CHUNK 0) < 65535 ∧
     s.chunk ((s.get Hid.FL_CHUNK 0) + 1) ≠ Chunk.written) := by decide +kernel

/-- States and operands that meet the hypotheses of UpdateDeliveryAndVerification. -/
theorem wit_updateDeliveryAndVerification_5 :
    (let ok : Bool := false
     let s := State.reset
     let s := s.putAt Reg.REIN_STATUS.ACTIVE (0) (0) (1)
     let s := s.putAt Reg.REIN_STATUS.ACTIVE (1) (0) (0)
     let s := s.putAt Hid.PRESENT (0) (0) (1)
     let s := s.putAt Hid.WAKE_AT (0) (0) (0)
     let s := s.putAt Hid.BOOT (0) (0) (1)
     let s := s.putAt Reg.DEV_STATE.STATE (0) (0) (4)
     let s := s.putAt Reg.HB_STATUS.ADDR (0) (0) (64)
     let s := s.putAt Reg.FUSE_STATUS.STAGE (0) (0) (1)
     let s := s.putAt Reg.HB_CFG.PEC_REQ (0) (0) (0)
     let s := s.putAt Hid.FL_OP (0) (0) (1)
     let s := s.putAt Hid.FL_ZERO (0) (0) (0)
     let s := (s.accept (updKind 4) 2 0 8 0x13 3 true)
     ok = false ∧
     s.get Hid.FL_OP 0 = 1 ∧
     s.accepted (updKind 4) ∧
     s.on Hid.FL_ZERO 0 = false) ∧
    (let s := State.reset
     let s := s.putAt Hid.FL_OP (0) (0) (2)
     s.get Hid.FL_OP 0 ≠ 1) ∧
    (let msg : PortMsg := .svc 7 []
     let s := State.reset
     let s := s.putAt Reg.REIN_STATUS.ACTIVE (0) (0) (1)
     let s := s.putAt Reg.REIN_STATUS.ACTIVE (1) (0) (0)
     let s := s.putAt Hid.PRESENT (0) (0) (1)
     let s := s.putAt Hid.WAKE_AT (0) (0) (0)
     let s := s.putAt Hid.BOOT (0) (0) (1)
     let s := s.putAt Reg.DEV_STATE.STATE (0) (0) (4)
     let s := s.putAt Reg.HB_STATUS.ADDR (0) (0) (64)
     let s := s.putAt Reg.FUSE_STATUS.STAGE (0) (0) (1)
     let s := s.putAt Reg.HB_CFG.PEC_REQ (0) (0) (0)
     let s := s.putAt Reg.UPD_STATUS.STATE (0) (0) (1)
     let s := s.putAt Reg.UPD_STATUS.FLASH_BUSY (0) (0) (0)
     let s := s.putAt Reg.UPD_PROGRESS.TOTAL (0) (0) (2)
     let s := { s with mem := [(mapMem 0 0x200, 14)], feBad := [] }
     s.portGives 5 msg [] ∧
     s.upd = Upd.receiving ∧
     s.on Reg.UPD_STATUS.FLASH_BUSY 0 = false ∧
     s.delivered) ∧
    (let msg : PortMsg := .svc 7 []
     let s := State.reset
     let s := s.putAt Reg.REIN_STATUS.ACTIVE (0) (0) (1)
     let s := s.putAt Reg.REIN_STATUS.ACTIVE (1) (0) (0)
     let s := s.putAt Hid.PRESENT (0) (0) (1)
     let s := s.putAt Hid.WAKE_AT (0) (0) (0)
     let s := s.putAt Hid.BOOT (0) (0) (1)
     let s := s.putAt Reg.DEV_STATE.STATE (0) (0) (4)
     let s := s.putAt Reg.HB_STATUS.ADDR (0) (0) (64)
     let s := s.putAt Reg.FUSE_STATUS.STAGE (0) (0) (1)
     let s := s.putAt Reg.HB_CFG.PEC_REQ (0) (0) (0)
     let s := s.putAt Reg.UPD_STATUS.STATE (0) (0) (1)
     let s := s.putAt Reg.UPD_STATUS.FLASH_BUSY (0) (0) (0)
     let s := s.putAt Reg.UPD_PROGRESS.TOTAL (0) (0) (2)
     s.portGives 5 msg [] ∧
     s.upd = Upd.receiving ∧
     s.on Reg.UPD_STATUS.FLASH_BUSY 0 = false ∧
     s.delivered = false) := by decide +kernel

/-- States and operands that meet the hypotheses of UpdateDeliveryAndVerification. -/
theorem wit_updateDeliveryAndVerification_6 :
    (let header : Option Bool := none
     let s := State.reset
     let s := s.putAt Reg.REIN_STATUS.ACTIVE (0) (0) (1)
     let s := s.putAt Reg.REIN_STATUS.ACTIVE (1) (0) (0)
     let s := s.putAt Hid.PRESENT (0) (0) (1)
     let s := s.putAt Hid.WAKE_AT (0) (0) (0)
     let s := s.putAt Hid.BOOT (0) (0) (1)
     let s := s.putAt Reg.DEV_STATE.STATE (0) (0) (4)
     let s := s.putAt Reg.HB_STATUS.ADDR (0) (0) (64)
     let s := s.putAt Reg.FUSE_STATUS.STAGE (0) (0) (1)
     let s := s.putAt Reg.HB_CFG.PEC_REQ (0) (0) (0)
     let s := s.putAt Reg.UPD_STATUS.STATE (0) (0) (2)
     let s := s.putAt Reg.UPD_STATUS.TARGET (0) (0) (1)
     let s := s.putAt Hid.FL_SIZE (0) (0) (8388608)
     let s := (s.accept (updKind 5) 2 0 65535 0x15 0 true)
     let s := { s with feBad := [], mem := ((List.range 256).filterMap fun k => let b := 255 - (((tFlashBytes.find? fun (c : Nat × Nat) => c.1 = k).map Prod.snd).getD 0); if b = 0 then none else some (mapMem 0 (0x100 + k), BitVec.ofNat 8 b)) ++ (mapMem 0 0x200, (14 : Byte)) :: (tFlashBytes.filter fun (c : Nat × Nat) => 4096 ≤ c.1).map fun (c : Nat × Nat) => (flashMem c.1, BitVec.ofNat 8 c.2) }
     let s := s.putAt Hid.UPD_VERIFY (0) (0) (1)
     header = none ∧
     s.get Hid.UPD_VERIFY 0 = 1 ∧
     s.delivDigest ∧
     s.on Hid.PRESENT s.act ∧
     Memory.wf s.mem = true) ∧
    (let s := State.reset
     let s := s.putAt Reg.REIN_STATUS.ACTIVE (0) (0) (1)
     let s := s.putAt Reg.REIN_STATUS.ACTIVE (1) (0) (0)
     let s := s.putAt Hid.PRESENT (0) (0) (1)
     let s := s.putAt Hid.WAKE_AT (0) (0) (0)
     let s := s.putAt Hid.BOOT (0) (0) (1)
     let s := s.putAt Reg.DEV_STATE.STATE (0) (0) (4)
     let s := s.putAt Reg.HB_STATUS.ADDR (0) (0) (64)
     let s := s.putAt Reg.FUSE_STATUS.STAGE (0) (0) (1)
     let s := s.putAt Reg.HB_CFG.PEC_REQ (0) (0) (0)
     let s := s.putAt Reg.UPD_STATUS.STATE (0) (0) (2)
     let s := s.putAt Reg.UPD_STATUS.TARGET (0) (0) (1)
     let s := s.putAt Hid.FL_SIZE (0) (0) (8388608)
     let s := (s.accept (updKind 5) 2 0 65535 0x15 0 true)
     let s := s.putAt Hid.UPD_VERIFY (0) (0) (1)
     s.get Hid.UPD_VERIFY 0 = 1 ∧
     s.delivDigest = false ∧
     s.upd = Upd.verifying ∧
     s.accepted (updKind 5)) ∧
    (let header : Option Bool := some false
     let s := State.reset
     let s := s.putAt Reg.REIN_STATUS.ACTIVE (0) (0) (1)
     let s := s.putAt Reg.REIN_STATUS.ACTIVE (1) (0) (0)
     let s := s.putAt Hid.PRESENT (0) (0) (1)
     let s := s.putAt Hid.WAKE_AT (0) (0) (0)
     let s := s.putAt Hid.BOOT (0) (0) (1)
     let s := s.putAt Reg.DEV_STATE.STATE (0) (0) (4)
     let s := s.putAt Reg.HB_STATUS.ADDR (0) (0) (64)
     let s := s.putAt Reg.FUSE_STATUS.STAGE (0) (0) (1)
     let s := s.putAt Reg.HB_CFG.PEC_REQ (0) (0) (0)
     let s := s.putAt Reg.UPD_STATUS.STATE (0) (0) (2)
     let s := s.putAt Reg.UPD_STATUS.TARGET (0) (0) (1)
     let s := s.putAt Hid.FL_SIZE (0) (0) (8388608)
     let s := (s.accept (updKind 5) 2 0 65535 0x15 0 true)
     let s := s.putAt Hid.UPD_VERIFY (0) (0) (2)
     header = some false ∧
     s.get Hid.UPD_VERIFY 0 = 2 ∧
     s.upd = Upd.verifying ∧
     s.accepted (updKind 5)) ∧
    (let header : Option Bool := none
     let s := State.reset
     let s := s.putAt Hid.UPD_VERIFY (0) (0) (0)
     s.get Hid.UPD_VERIFY 0 ≠ 1 ∧
     (s.get Hid.UPD_VERIFY 0 ≠ 2 ∨ header = none)) := by decide +kernel

/-- States and operands that meet the hypotheses of UpdateDeliveryAndVerification. -/
theorem wit_updateDeliveryAndVerification_7 :
    (let msg : PortMsg := .svc 7 []
     let s := State.reset
     let s := s.putAt Reg.REIN_STATUS.ACTIVE (0) (0) (1)
     let s := s.putAt Reg.REIN_STATUS.ACTIVE (1) (0) (0)
     let s := s.putAt Hid.PRESENT (0) (0) (1)
     let s := s.putAt Hid.WAKE_AT (0) (0) (0)
     let s := s.putAt Hid.BOOT (0) (0) (1)
     let s := s.putAt Reg.DEV_STATE.STATE (0) (0) (4)
     let s := s.putAt Reg.HB_STATUS.ADDR (0) (0) (64)
     let s := s.putAt Reg.FUSE_STATUS.STAGE (0) (0) (1)
     let s := s.putAt Reg.HB_CFG.PEC_REQ (0) (0) (0)
     let s := s.putAt Reg.UPD_STATUS.STATE (0) (0) (1)
     let s := s.putAt Hid.FL_OP (0) (0) (1)
     let s := s.putAt Hid.FL_LEFT (0) (0) (4)
     s.portGives 10 msg [] ∧
     (s.upd = Upd.receiving ∨ s.upd = Upd.verified ∨ s.upd = Upd.prepared)) := by decide +kernel

/-- States and operands that meet the hypotheses of UpdatePreparationToReturn. -/
theorem wit_updatePreparationToReturn_1 :
    (let msg : PortMsg := .svc 7 []
     let s := State.reset
     let s := s.putAt Reg.REIN_STATUS.ACTIVE (0) (0) (1)
     let s := s.putAt Reg.REIN_STATUS.ACTIVE (1) (0) (0)
     let s := s.putAt Hid.PRESENT (0) (0) (1)
     let s := s.putAt Hid.WAKE_AT (0) (0) (0)
     let s := s.putAt Hid.BOOT (0) (0) (1)
     let s := s.putAt Reg.DEV_STATE.STATE (0) (0) (4)
     let s := s.putAt Reg.HB_STATUS.ADDR (0) (0) (64)
     let s := s.putAt Reg.FUSE_STATUS.STAGE (0) (0) (1)
     let s := s.putAt Reg.HB_CFG.PEC_REQ (0) (0) (0)
     let s := s.putAt Reg.UPD_STATUS.STATE (0) (0) (7)
     s.portGives 6 msg [] ∧
     !([3]).contains s.upd) ∧
    (let msg : PortMsg := .svc 7 []
     let s := State.reset
     let s := s.putAt Reg.REIN_STATUS.ACTIVE (0) (0) (1)
     let s := s.putAt Reg.REIN_STATUS.ACTIVE (1) (0) (0)
     let s := s.putAt Hid.PRESENT (0) (0) (1)
     let s := s.putAt Hid.WAKE_AT (0) (0) (0)
     let s := s.putAt Hid.BOOT (0) (0) (1)
     let s := s.putAt Reg.DEV_STATE.STATE (0) (0) (4)
     let s := s.putAt Reg.HB_STATUS.ADDR (0) (0) (64)
     let s := s.putAt Reg.FUSE_STATUS.STAGE (0) (0) (1)
     let s := s.putAt Reg.HB_CFG.PEC_REQ (0) (0) (0)
     let s := s.putAt Reg.UPD_STATUS.STATE (0) (0) (7)
     s.portGives 7 msg [] ∧
     !([4]).contains s.upd) ∧
    (let msg : PortMsg := .svc 7 []
     let s := State.reset
     let s := s.putAt Reg.REIN_STATUS.ACTIVE (0) (0) (1)
     let s := s.putAt Reg.REIN_STATUS.ACTIVE (1) (0) (0)
     let s := s.putAt Hid.PRESENT (0) (0) (1)
     let s := s.putAt Hid.WAKE_AT (0) (0) (0)
     let s := s.putAt Hid.BOOT (0) (0) (1)
     let s := s.putAt Reg.DEV_STATE.STATE (0) (0) (4)
     let s := s.putAt Reg.HB_STATUS.ADDR (0) (0) (64)
     let s := s.putAt Reg.FUSE_STATUS.STAGE (0) (0) (1)
     let s := s.putAt Reg.HB_CFG.PEC_REQ (0) (0) (0)
     let s := s.putAt Reg.UPD_STATUS.STATE (0) (0) (7)
     let s := s.putAt Reg.UPD_STATUS.STATE (0) (0) (3)
     s.portGives 9 msg [] ∧
     !([6]).contains s.upd) ∧
    (let msg : PortMsg := .svc 7 []
     let s := State.reset
     let s := s.putAt Reg.REIN_STATUS.ACTIVE (0) (0) (1)
     let s := s.putAt Reg.REIN_STATUS.ACTIVE (1) (0) (0)
     let s := s.putAt Hid.PRESENT (0) (0) (1)
     let s := s.putAt Hid.WAKE_AT (0) (0) (0)
     let s := s.putAt Hid.BOOT (0) (0) (1)
     let s := s.putAt Reg.DEV_STATE.STATE (0) (0) (4)
     let s := s.putAt Reg.HB_STATUS.ADDR (0) (0) (64)
     let s := s.putAt Reg.FUSE_STATUS.STAGE (0) (0) (1)
     let s := s.putAt Reg.HB_CFG.PEC_REQ (0) (0) (0)
     let s := s.putAt Reg.UPD_STATUS.STATE (0) (0) (7)
     let s := s.putAt Reg.UPD_STATUS.STATE (0) (0) (3)
     s.portGives 8 msg [] ∧
     !([6]).contains s.upd) := by decide +kernel

/-- States and operands that meet the hypotheses of UpdatePreparationToReturn. -/
theorem wit_updatePreparationToReturn_2 :
    (let msg : PortMsg := .svc 7 []
     let s := State.reset
     let s := s.putAt Reg.REIN_STATUS.ACTIVE (0) (0) (1)
     let s := s.putAt Reg.REIN_STATUS.ACTIVE (1) (0) (0)
     let s := s.putAt Hid.PRESENT (0) (0) (1)
     let s := s.putAt Hid.WAKE_AT (0) (0) (0)
     let s := s.putAt Hid.BOOT (0) (0) (1)
     let s := s.putAt Reg.DEV_STATE.STATE (0) (0) (4)
     let s := s.putAt Reg.HB_STATUS.ADDR (0) (0) (64)
     let s := s.putAt Reg.FUSE_STATUS.STAGE (0) (0) (1)
     let s := s.putAt Reg.HB_CFG.PEC_REQ (0) (0) (0)
     let s := s.putAt Reg.UPD_STATUS.STATE (0) (0) (3)
     let s := s.putAt Reg.UPD_STATUS.TARGET (0) (0) (1)
     let s := s.putAt Hid.FL_SIZE (0) (0) (8388608)
     let s := s.putAt Hid.UPD_STAGE (0) (0) (0)
     let s := { s with mem := tFlash }
     s.portGives 6 msg [] ∧
     s.upd = Upd.verified ∧
     s.on Hid.UPD_STAGE 0 = false ∧
     s.fwTooLarge s.updSlot = false ∧
     s.recovering = false) ∧
    (let msg : PortMsg := .svc 7 []
     let s := State.reset
     let s := s.putAt Reg.REIN_STATUS.ACTIVE (0) (0) (1)
     let s := s.putAt Reg.REIN_STATUS.ACTIVE (1) (0) (0)
     let s := s.putAt Hid.PRESENT (0) (0) (1)
     let s := s.putAt Hid.WAKE_AT (0) (0) (0)
     let s := s.putAt Hid.BOOT (0) (0) (1)
     let s := s.putAt Reg.DEV_STATE.STATE (0) (0) (4)
     let s := s.putAt Reg.HB_STATUS.ADDR (0) (0) (64)
     let s := s.putAt Reg.FUSE_STATUS.STAGE (0) (0) (1)
     let s := s.putAt Reg.HB_CFG.PEC_REQ (0) (0) (0)
     let s := s.putAt Reg.UPD_STATUS.STATE (0) (0) (3)
     let s := s.putAt Reg.UPD_STATUS.TARGET (0) (0) (1)
     let s := s.putAt Hid.FL_SIZE (0) (0) (8388608)
     let s := s.putAt Hid.UPD_STAGE (0) (0) (0)
     let s := { s with mem := tFlash }
     let s := s.putAt Reg.DEV_STATE.STATE (0) (0) (2)
     let s := s.putAt Reg.LOAD_STATUS.LOAD_FAIL (0) (0) (1)
     s.portGives 6 msg [] ∧
     s.upd = Upd.verified ∧
     s.on Hid.UPD_STAGE 0 = false ∧
     s.fwTooLarge s.updSlot = false ∧
     s.recovering) ∧
    (let good : Bool := true
     let s := State.reset
     let s := s.putAt Reg.REIN_STATUS.ACTIVE (0) (0) (1)
     let s := s.putAt Reg.REIN_STATUS.ACTIVE (1) (0) (0)
     let s := s.putAt Hid.PRESENT (0) (0) (1)
     let s := s.putAt Hid.WAKE_AT (0) (0) (0)
     let s := s.putAt Hid.BOOT (0) (0) (1)
     let s := s.putAt Reg.DEV_STATE.STATE (0) (0) (4)
     let s := s.putAt Reg.HB_STATUS.ADDR (0) (0) (64)
     let s := s.putAt Reg.FUSE_STATUS.STAGE (0) (0) (1)
     let s := s.putAt Reg.HB_CFG.PEC_REQ (0) (0) (0)
     let s := s.putAt Reg.UPD_STATUS.STATE (0) (0) (3)
     let s := s.putAt Reg.UPD_STATUS.TARGET (0) (0) (1)
     let s := s.putAt Hid.FL_SIZE (0) (0) (8388608)
     let s := s.putAt Hid.UPD_STAGE (0) (0) (1)
     let s := { s with mem := tFlash }
     let s := (s.accept (updKind 6) 2 0 65535 0x16 0 true)
     good ∧
     s.on Hid.UPD_STAGE 0 ∧
     s.upd = Upd.verified ∧
     s.accepted (updKind 6) ∧
     (s.get Reg.UPD_STATUS.TARGET 0 = 1 ∨ s.get Reg.UPD_STATUS.TARGET 0 = 2) ∧
     Memory.wf s.mem = true ∧
     s.fwTooLarge s.updSlot = false ∧
     ((s.sections s.updSlot).all fun c => c.typ ≠ 4 ∧ c.typ ≠ 3)) ∧
    (let good : Bool := false
     let s := State.reset
     let s := s.putAt Reg.REIN_STATUS.ACTIVE (0) (0) (1)
     let s := s.putAt Reg.REIN_STATUS.ACTIVE (1) (0) (0)
     let s := s.putAt Hid.PRESENT (0) (0) (1)
     let s := s.putAt Hid.WAKE_AT (0) (0) (0)
     let s := s.putAt Hid.BOOT (0) (0) (1)
     let s := s.putAt Reg.DEV_STATE.STATE (0) (0) (4)
     let s := s.putAt Reg.HB_STATUS.ADDR (0) (0) (64)
     let s := s.putAt Reg.FUSE_STATUS.STAGE (0) (0) (1)
     let s := s.putAt Reg.HB_CFG.PEC_REQ (0) (0) (0)
     let s := s.putAt Reg.UPD_STATUS.STATE (0) (0) (3)
     let s := s.putAt Reg.UPD_STATUS.TARGET (0) (0) (1)
     let s := s.putAt Hid.FL_SIZE (0) (0) (8388608)
     let s := s.putAt Hid.UPD_STAGE (0) (0) (1)
     let s := { s with mem := tFlash }
     let s := (s.accept (updKind 6) 2 0 65535 0x16 0 true)
     good = false ∧
     s.on Hid.UPD_STAGE 0 ∧
     s.upd = Upd.verified ∧
     s.accepted (updKind 6)) := by decide +kernel

/-- States and operands that meet the hypotheses of UpdatePreparationToReturn. -/
theorem wit_updatePreparationToReturn_3 :
    (let good : Bool := true
     let s := State.reset
     let s := s.putAt Reg.REIN_STATUS.ACTIVE (0) (0) (1)
     let s := s.putAt Reg.REIN_STATUS.ACTIVE (1) (0) (0)
     let s := s.putAt Hid.PRESENT (0) (0) (1)
     let s := s.putAt Hid.WAKE_AT (0) (0) (0)
     let s := s.putAt Hid.BOOT (0) (0) (1)
     let s := s.putAt Reg.DEV_STATE.STATE (0) (0) (4)
     let s := s.putAt Reg.HB_STATUS.ADDR (0) (0) (64)
     let s := s.putAt Reg.FUSE_STATUS.STAGE (0) (0) (1)
     let s := s.putAt Reg.HB_CFG.PEC_REQ (0) (0) (0)
     let s := s.putAt Reg.UPD_STATUS.STATE (0) (0) (3)
     let s := s.putAt Reg.UPD_STATUS.TARGET (0) (0) (1)
     let s := s.putAt Hid.FL_SIZE (0) (0) (8388608)
     let s := s.putAt Hid.UPD_STAGE (0) (0) (1)
     let s := { s with mem := tFlash }
     let s := (s.accept (updKind 6) 2 0 65535 0x16 0 true)
     good ∧
     s.on Hid.UPD_STAGE 0 ∧
     s.upd = Upd.verified ∧
     s.accepted (updKind 6)) ∧
    (let good : Bool := false
     let s := State.reset
     let s := s.putAt Reg.REIN_STATUS.ACTIVE (0) (0) (1)
     let s := s.putAt Reg.REIN_STATUS.ACTIVE (1) (0) (0)
     let s := s.putAt Hid.PRESENT (0) (0) (1)
     let s := s.putAt Hid.WAKE_AT (0) (0) (0)
     let s := s.putAt Hid.BOOT (0) (0) (1)
     let s := s.putAt Reg.DEV_STATE.STATE (0) (0) (4)
     let s := s.putAt Reg.HB_STATUS.ADDR (0) (0) (64)
     let s := s.putAt Reg.FUSE_STATUS.STAGE (0) (0) (1)
     let s := s.putAt Reg.HB_CFG.PEC_REQ (0) (0) (0)
     let s := s.putAt Reg.UPD_STATUS.STATE (0) (0) (7)
     let s := s.putAt Hid.UPD_PRIOR (0) (0) (1)
     let s := s.putAt Hid.FL_SIZE (0) (0) (8388608)
     let s := s.putAt Hid.UPD_STAGE (0) (0) (1)
     let s := { s with mem := tFlash }
     good = false ∧
     s.on Hid.UPD_STAGE 0 ∧
     s.upd = Upd.reverting) ∧
    (let s := State.reset
     let s := s.putAt Hid.UPD_STAGE (0) (0) (0)
     s.on Hid.UPD_STAGE 0 = false) ∧
    (let msg : PortMsg := .svc 7 []
     let s := State.reset
     let s := s.putAt Reg.REIN_STATUS.ACTIVE (0) (0) (1)
     let s := s.putAt Reg.REIN_STATUS.ACTIVE (1) (0) (0)
     let s := s.putAt Hid.PRESENT (0) (0) (1)
     let s := s.putAt Hid.WAKE_AT (0) (0) (0)
     let s := s.putAt Hid.BOOT (0) (0) (1)
     let s := s.putAt Reg.DEV_STATE.STATE (0) (0) (4)
     let s := s.putAt Reg.HB_STATUS.ADDR (0) (0) (64)
     let s := s.putAt Reg.FUSE_STATUS.STAGE (0) (0) (1)
     let s := s.putAt Reg.HB_CFG.PEC_REQ (0) (0) (0)
     let s := s.putAt Reg.UPD_STATUS.STATE (0) (0) (4)
     let s := s.putAt Reg.UPD_STATUS.TARGET (0) (0) (2)
     let s := s.putAt Hid.FL_SIZE (0) (0) (8388608)
     let s := s.putAt Reg.DEV_STATE.STATE (0) (0) (2)
     let s := s.putAt Reg.LOAD_STATUS.LOAD_FAIL (0) (0) (1)
     s.portGives 7 msg [] ∧
     s.upd = Upd.prepared ∧
     s.recovering) := by decide +kernel

/-- States and operands that meet the hypotheses of UpdatePreparationToReturn. -/
theorem wit_updatePreparationToReturn_4 :
    (let msg : PortMsg := .svc 7 []
     let s := State.reset
     let s := s.putAt Reg.REIN_STATUS.ACTIVE (0) (0) (1)
     let s := s.putAt Reg.REIN_STATUS.ACTIVE (1) (0) (0)
     let s := s.putAt Hid.PRESENT (0) (0) (1)
     let s := s.putAt Hid.WAKE_AT (0) (0) (0)
     let s := s.putAt Hid.BOOT (0) (0) (1)
     let s := s.putAt Reg.DEV_STATE.STATE (0) (0) (4)
     let s := s.putAt Reg.HB_STATUS.ADDR (0) (0) (64)
     let s := s.putAt Reg.FUSE_STATUS.STAGE (0) (0) (1)
     let s := s.putAt Reg.HB_CFG.PEC_REQ (0) (0) (0)
     let s := s.putAt Reg.UPD_STATUS.STATE (0) (0) (4)
     let s := s.putAt Reg.UPD_STATUS.TARGET (0) (0) (1)
     let s := s.putAt Hid.FL_SIZE (0) (0) (8388608)
     let s := s.putAt Reg.SEQ_HDR.KERB_SDN (0) (0) (1)
     let s := s.putAt Reg.SEQ_HDR.DIR (0) (0) (1)
     let s := s.putAt Hid.SHA_MFW (0) (0) (beNat (sha256 []))
     let s := s.putAt Hid.SHA_SFW (0) (0) (beNat (sha256 []))
     let s := { s with mem := tFlash }
     s.portGives 7 msg [] ∧
     s.upd = Upd.prepared ∧
     (s.dev = Dev.run ∨ s.dev = Dev.arm) ∧
     s.activateBusy = false ∧
     (s.present.all fun m => s.stagedOk m) ∧
     s.banksOk ∧
     s.liveConflict s.updSlot = none ∧
     (s.resulting s.updSlot).configRules) ∧
    (let msg : PortMsg := .svc 7 []
     let s := State.reset
     let s := s.putAt Reg.REIN_STATUS.ACTIVE (0) (0) (1)
     let s := s.putAt Reg.REIN_STATUS.ACTIVE (1) (0) (0)
     let s := s.putAt Hid.PRESENT (0) (0) (1)
     let s := s.putAt Hid.WAKE_AT (0) (0) (0)
     let s := s.putAt Hid.BOOT (0) (0) (1)
     let s := s.putAt Reg.DEV_STATE.STATE (0) (0) (4)
     let s := s.putAt Reg.HB_STATUS.ADDR (0) (0) (64)
     let s := s.putAt Reg.FUSE_STATUS.STAGE (0) (0) (1)
     let s := s.putAt Reg.HB_CFG.PEC_REQ (0) (0) (0)
     let s := s.putAt Reg.UPD_STATUS.STATE (0) (0) (4)
     let s := s.putAt Reg.DEV_STATE.STATE (0) (0) (5)
     s.portGives 7 msg [] ∧
     s.upd = Upd.prepared ∧
     s.recovering = false ∧
     s.dev ≠ Dev.run ∧
     s.dev ≠ Dev.arm) ∧
    (let msg : PortMsg := .svc 7 []
     let s := State.reset
     let s := s.putAt Reg.REIN_STATUS.ACTIVE (0) (0) (1)
     let s := s.putAt Reg.REIN_STATUS.ACTIVE (1) (0) (0)
     let s := s.putAt Hid.PRESENT (0) (0) (1)
     let s := s.putAt Hid.WAKE_AT (0) (0) (0)
     let s := s.putAt Hid.BOOT (0) (0) (1)
     let s := s.putAt Reg.DEV_STATE.STATE (0) (0) (4)
     let s := s.putAt Reg.HB_STATUS.ADDR (0) (0) (64)
     let s := s.putAt Reg.FUSE_STATUS.STAGE (0) (0) (1)
     let s := s.putAt Reg.HB_CFG.PEC_REQ (0) (0) (0)
     let s := s.putAt Reg.UPD_STATUS.STATE (0) (0) (4)
     let s := s.putAt Reg.FUSE_STATUS.PROG_BUSY (0) (0) (1)
     s.portGives 7 msg [] ∧
     s.upd = Upd.prepared ∧
     (s.dev = Dev.run ∨ s.dev = Dev.arm) ∧
     s.activateBusy) ∧
    (let s := State.reset
     let s := s.putAt Reg.REIN_STATUS.ACTIVE (0) (0) (1)
     let s := s.putAt Reg.REIN_STATUS.ACTIVE (1) (0) (0)
     let s := s.putAt Hid.PRESENT (0) (0) (1)
     let s := s.putAt Hid.WAKE_AT (0) (0) (0)
     let s := s.putAt Hid.BOOT (0) (0) (1)
     let s := s.putAt Reg.DEV_STATE.STATE (0) (0) (4)
     let s := s.putAt Reg.HB_STATUS.ADDR (0) (0) (64)
     let s := s.putAt Reg.FUSE_STATUS.STAGE (0) (0) (1)
     let s := s.putAt Reg.HB_CFG.PEC_REQ (0) (0) (0)
     let s := s.putAt Reg.UPD_STATUS.STATE (0) (0) (5)
     let s := s.putAt Reg.UPD_STATUS.TARGET (0) (0) (1)
     let s := s.putAt Hid.FL_SIZE (0) (0) (8388608)
     let s := s.putAt Hid.UPD_STEP (0) (0) (2)
     let s := { s with mem := tFlash }
     let s := s.over (List.range 96) (fun s p => s.put Reg.PH_CFG.RAIL p 63)
     let s := s.putAt Hid.UPD_RAIL (0) (0) (47)
     s.upd = Upd.activating ∧
     s.get Hid.UPD_STEP 0 = 2 ∧
     s.get Hid.UPD_RAIL 0 < 48 ∧
     ((s.tilesOf (s.get Hid.UPD_RAIL 0)).all fun t => !s.on Reg.RAIL_ENG_STATUS.SWAP_PEND (railIx t (s.get Hid.UPD_RAIL 0))) ∧
     (∀ r : Fin 48, s.get Hid.UPD_RAIL 0 < r.val → s.phasesOf r.val = []) ∧
     s.imageRegs (s.actSlot - 1) = []) := by decide +kernel

/-- States and operands that meet the hypotheses of UpdatePreparationToReturn. -/
theorem wit_updatePreparationToReturn_5 :
    (let s := State.reset
     let s := s.putAt Reg.REIN_STATUS.ACTIVE (0) (0) (1)
     let s := s.putAt Reg.REIN_STATUS.ACTIVE (1) (0) (0)
     let s := s.putAt Hid.PRESENT (0) (0) (1)
     let s := s.putAt Hid.WAKE_AT (0) (0) (0)
     let s := s.putAt Hid.BOOT (0) (0) (1)
     let s := s.putAt Reg.DEV_STATE.STATE (0) (0) (4)
     let s := s.putAt Reg.HB_STATUS.ADDR (0) (0) (64)
     let s := s.putAt Reg.FUSE_STATUS.STAGE (0) (0) (1)
     let s := s.putAt Reg.HB_CFG.PEC_REQ (0) (0) (0)
     let s := s.putAt Reg.UPD_STATUS.STATE (0) (0) (5)
     let s := s.putAt Reg.UPD_STATUS.TARGET (0) (0) (1)
     let s := s.putAt Hid.UPD_STEP (0) (0) (2)
     let s := s.putAt Hid.UPD_RAIL (0) (0) (7)
     let s := s.putAt Reg.RAIL_ENG_STATUS.SWAP_PEND (railIx (s.home 7) 7) (0) (0)
     (s.upd = Upd.activating ∨ s.upd = Upd.reverting) ∧
     s.get Hid.UPD_STEP 0 = 2 ∧
     (s.get Hid.UPD_RAIL 0) < 48 ∧
     ((s.tilesOf (s.get Hid.UPD_RAIL 0)).all fun t => !s.on Reg.RAIL_ENG_STATUS.SWAP_PEND (railIx t (s.get Hid.UPD_RAIL 0)))) ∧
    (let s := State.reset
     let s := s.putAt Reg.UPD_STATUS.STATE (0) (0) (6)
     s.upd ≠ Upd.activating ∧
     s.upd ≠ Upd.reverting) ∧
    (let s := State.reset
     let s := s.putAt Reg.REIN_STATUS.ACTIVE (0) (0) (1)
     let s := s.putAt Reg.REIN_STATUS.ACTIVE (1) (0) (0)
     let s := s.putAt Hid.PRESENT (0) (0) (1)
     let s := s.putAt Hid.WAKE_AT (0) (0) (0)
     let s := s.putAt Hid.BOOT (0) (0) (1)
     let s := s.putAt Reg.DEV_STATE.STATE (0) (0) (4)
     let s := s.putAt Reg.HB_STATUS.ADDR (0) (0) (64)
     let s := s.putAt Reg.FUSE_STATUS.STAGE (0) (0) (1)
     let s := s.putAt Reg.HB_CFG.PEC_REQ (0) (0) (0)
     let s := s.putAt Reg.UPD_STATUS.STATE (0) (0) (5)
     let s := s.putAt Reg.UPD_STATUS.TARGET (0) (0) (1)
     let s := s.putAt Hid.FL_SIZE (0) (0) (8388608)
     let s := s.putAt Hid.UPD_STEP (0) (0) (2)
     let s := { s with mem := tFlash }
     let s := s.putAt Hid.UPD_RAIL (0) (0) (0)
     let s := s.putAt Reg.RAIL_ENG_STATUS.SWAP_PEND (railIx (s.home 0) 0) (0) (1)
     s.upd = Upd.activating ∧
     s.get Hid.UPD_STEP 0 = 2 ∧
     s.get Hid.UPD_RAIL 0 < 48 ∧
     ((s.tilesOf (s.get Hid.UPD_RAIL 0)).any fun t => s.on Reg.RAIL_ENG_STATUS.SWAP_PEND (railIx t (s.get Hid.UPD_RAIL 0)))) ∧
    (let m : Mgr := 1
     let s := State.reset
     let s := s.putAt Reg.REIN_STATUS.ACTIVE (0) (0) (1)
     let s := s.putAt Reg.REIN_STATUS.ACTIVE (1) (0) (0)
     let s := s.putAt Hid.PRESENT (0) (0) (1)
     let s := s.putAt Hid.WAKE_AT (0) (0) (0)
     let s := s.putAt Hid.BOOT (0) (0) (1)
     let s := s.putAt Reg.DEV_STATE.STATE (0) (0) (4)
     let s := s.putAt Reg.HB_STATUS.ADDR (0) (0) (64)
     let s := s.putAt Reg.FUSE_STATUS.STAGE (0) (0) (1)
     let s := s.putAt Reg.HB_CFG.PEC_REQ (0) (0) (0)
     let s := s.putAt Reg.UPD_STATUS.STATE (0) (0) (5)
     let s := s.putAt Hid.UPD_STEP (0) (0) (4)
     let s := s.putAt Hid.PRESENT (1) (0) (1)
     let s := s.putAt Hid.FW_NEW (1) (0) (0)
     let s := s.putAt Reg.REIN_STATUS.SHADOW_READY (1) (0) (1)
     s.upd = Upd.activating ∧
     s.get Hid.UPD_STEP 0 = 4 ∧
     s.on Hid.PRESENT m.val ∧
     s.on Hid.FW_NEW m.val = false ∧
     s.isActive m.val = false ∧
     s.on Reg.REIN_STATUS.SHADOW_READY m.val) := by decide +kernel

/-- States and operands that meet the hypotheses of UpdatePreparationToReturn. -/
theorem wit_updatePreparationToReturn_6 :
    (let m : Mgr := 0
     let s := State.reset
     let s := s.putAt Reg.REIN_STATUS.ACTIVE (0) (0) (1)
     let s := s.putAt Reg.REIN_STATUS.ACTIVE (1) (0) (0)
     let s := s.putAt Hid.PRESENT (0) (0) (1)
     let s := s.putAt Hid.WAKE_AT (0) (0) (0)
     let s := s.putAt Hid.BOOT (0) (0) (1)
     let s := s.putAt Reg.DEV_STATE.STATE (0) (0) (4)
     let s := s.putAt Reg.HB_STATUS.ADDR (0) (0) (64)
     let s := s.putAt Reg.FUSE_STATUS.STAGE (0) (0) (1)
     let s := s.putAt Reg.HB_CFG.PEC_REQ (0) (0) (0)
     let s := s.putAt Reg.UPD_STATUS.STATE (0) (0) (5)
     let s := s.putAt Hid.UPD_STEP (0) (0) (4)
     let s := s.putAt Hid.PRESENT (0) (0) (1)
     let s := s.putAt Hid.FW_NEW (0) (0) (0)
     let s := s.putAt Hid.PRESENT (1) (0) (1)
     let s := s.putAt Hid.FW_NEW (1) (0) (1)
     let s := s.putAt Reg.REIN_STATUS.SHADOW_READY (1) (0) (1)
     (s.upd = Upd.activating ∨ s.upd = Upd.reverting) ∧
     s.get Hid.UPD_STEP 0 = 4 ∧
     s.on Hid.PRESENT m.val ∧
     s.on Hid.FW_NEW m.val = false ∧
     s.isActive m.val ∧
     s.on Hid.PRESENT (peer m.val) ∧
     s.on Reg.REIN_STATUS.SHADOW_READY (peer m.val) ∧
     s.on Hid.FW_NEW (peer m.val)) ∧
    (let m : Mgr := 0
     let s := State.reset
     let s := s.putAt Reg.REIN_STATUS.ACTIVE (0) (0) (1)
     let s := s.putAt Reg.REIN_STATUS.ACTIVE (1) (0) (0)
     let s := s.putAt Hid.PRESENT (0) (0) (1)
     let s := s.putAt Hid.WAKE_AT (0) (0) (0)
     let s := s.putAt Hid.BOOT (0) (0) (1)
     let s := s.putAt Reg.DEV_STATE.STATE (0) (0) (4)
     let s := s.putAt Reg.HB_STATUS.ADDR (0) (0) (64)
     let s := s.putAt Reg.FUSE_STATUS.STAGE (0) (0) (1)
     let s := s.putAt Reg.HB_CFG.PEC_REQ (0) (0) (0)
     let s := s.putAt Reg.UPD_STATUS.STATE (0) (0) (5)
     let s := s.putAt Hid.UPD_STEP (0) (0) (4)
     let s := s.putAt Hid.PRESENT (0) (0) (1)
     let s := s.putAt Hid.FW_NEW (0) (0) (0)
     let s := s.putAt Hid.PRESENT (1) (0) (0)
     let s := s.putAt Hid.FW_NEW (1) (0) (0)
     (s.upd = Upd.activating ∨ s.upd = Upd.reverting) ∧
     s.get Hid.UPD_STEP 0 = 4 ∧
     s.on Hid.PRESENT m.val ∧
     s.on Hid.FW_NEW m.val = false ∧
     s.isActive m.val ∧
     s.on Hid.PRESENT (peer m.val) = false ∧
     s.on Hid.FW_NEW (peer m.val) = false) ∧
    (let m : Mgr := 1
     let s := State.reset
     let s := s.putAt Hid.PRESENT (1) (0) (0)
     (s.on Hid.PRESENT m.val = false ∨ s.on Hid.FW_NEW m.val ∨ s.get Hid.UPD_STEP 0 ≠ 4 ∨ (s.isActive m.val = false ∧ s.on Reg.REIN_STATUS.SHADOW_READY m.val = false))) ∧
    (let s := State.reset
     let s := s.putAt Reg.UPD_STATUS.STATE (0) (0) (6)
     s.upd ≠ Upd.activating ∧
     s.upd ≠ Upd.reverting) := by decide +kernel

/-- States and operands that meet the hypotheses of UpdatePreparationToReturn. -/
theorem wit_updatePreparationToReturn_7 :
    (let msg : PortMsg := .svc 7 []
     let s := State.reset
     let s := s.putAt Reg.REIN_STATUS.ACTIVE (0) (0) (1)
     let s := s.putAt Reg.REIN_STATUS.ACTIVE (1) (0) (0)
     let s := s.putAt Hid.PRESENT (0) (0) (1)
     let s := s.putAt Hid.WAKE_AT (0) (0) (0)
     let s := s.putAt Hid.BOOT (0) (0) (1)
     let s := s.putAt Reg.DEV_STATE.STATE (0) (0) (4)
     let s := s.putAt Reg.HB_STATUS.ADDR (0) (0) (64)
     let s := s.putAt Reg.FUSE_STATUS.STAGE (0) (0) (1)
     let s := s.putAt Reg.HB_CFG.PEC_REQ (0) (0) (0)
     let s := s.putAt Reg.UPD_STATUS.STATE (0) (0) (6)
     let s := s.putAt Hid.UPD_DEADLINE (0) (0) (2 ^ 50)
     let s := s.putAt Hid.EPOCH (0) (0) (0)
     let s := s.putAt Reg.LBIST_STATUS.COMPLETE_ST (0) (0) (1)
     let s := s.putAt Reg.UPD_ROLLBACK.IMAGE_RB (0) (0) (0)
     let s := s.putAt Reg.LOAD_STATUS.SLOT (0) (0) (2)
     s.portGives 8 msg [] ∧
     s.upd = Upd.trial ∧
     s.fullBeat < s.get Hid.UPD_DEADLINE 0 ∧
     s.on Reg.LBIST_STATUS.COMPLETE_ST s.act ∧
     s.get Reg.UPD_ROLLBACK.IMAGE_RB 0 ≤ s.get Reg.UPD_ROLLBACK.BLOWN 0) ∧
    (let msg : PortMsg := .svc 7 []
     let s := State.reset
     let s := s.putAt Reg.REIN_STATUS.ACTIVE (0) (0) (1)
     let s := s.putAt Reg.REIN_STATUS.ACTIVE (1) (0) (0)
     let s := s.putAt Hid.PRESENT (0) (0) (1)
     let s := s.putAt Hid.WAKE_AT (0) (0) (0)
     let s := s.putAt Hid.BOOT (0) (0) (1)
     let s := s.putAt Reg.DEV_STATE.STATE (0) (0) (4)
     let s := s.putAt Reg.HB_STATUS.ADDR (0) (0) (64)
     let s := s.putAt Reg.FUSE_STATUS.STAGE (0) (0) (1)
     let s := s.putAt Reg.HB_CFG.PEC_REQ (0) (0) (0)
     let s := s.putAt Reg.UPD_STATUS.STATE (0) (0) (6)
     let s := s.putAt Hid.UPD_DEADLINE (0) (0) (2 ^ 50)
     let s := s.putAt Hid.EPOCH (0) (0) (0)
     let s := s.putAt Reg.LBIST_STATUS.COMPLETE_ST (0) (0) (1)
     let s := s.putAt Hid.UPD_DEADLINE (0) (0) (0)
     s.portGives 8 msg [] ∧
     s.upd = Upd.trial ∧
     s.get Hid.UPD_DEADLINE 0 ≤ s.fullBeat) ∧
    (let msg : PortMsg := .svc 7 []
     let s := State.reset
     let s := s.putAt Reg.REIN_STATUS.ACTIVE (0) (0) (1)
     let s := s.putAt Reg.REIN_STATUS.ACTIVE (1) (0) (0)
     let s := s.putAt Hid.PRESENT (0) (0) (1)
     let s := s.putAt Hid.WAKE_AT (0) (0) (0)
     let s := s.putAt Hid.BOOT (0) (0) (1)
     let s := s.putAt Reg.DEV_STATE.STATE (0) (0) (4)
     let s := s.putAt Reg.HB_STATUS.ADDR (0) (0) (64)
     let s := s.putAt Reg.FUSE_STATUS.STAGE (0) (0) (1)
     let s := s.putAt Reg.HB_CFG.PEC_REQ (0) (0) (0)
     let s := s.putAt Reg.UPD_STATUS.STATE (0) (0) (6)
     let s := s.putAt Hid.UPD_DEADLINE (0) (0) (2 ^ 50)
     let s := s.putAt Hid.EPOCH (0) (0) (0)
     let s := s.putAt Reg.LBIST_STATUS.COMPLETE_ST (0) (0) (1)
     let s := s.putAt Reg.LBIST_STATUS.COMPLETE_ST (0) (0) (0)
     s.portGives 8 msg [] ∧
     s.upd = Upd.trial ∧
     s.fullBeat < s.get Hid.UPD_DEADLINE 0 ∧
     s.on Reg.LBIST_STATUS.COMPLETE_ST s.act = false) ∧
    (let msg : PortMsg := .svc 7 []
     let s := State.reset
     let s := s.putAt Reg.REIN_STATUS.ACTIVE (0) (0) (1)
     let s := s.putAt Reg.REIN_STATUS.ACTIVE (1) (0) (0)
     let s := s.putAt Hid.PRESENT (0) (0) (1)
     let s := s.putAt Hid.WAKE_AT (0) (0) (0)
     let s := s.putAt Hid.BOOT (0) (0) (1)
     let s := s.putAt Reg.DEV_STATE.STATE (0) (0) (4)
     let s := s.putAt Reg.HB_STATUS.ADDR (0) (0) (64)
     let s := s.putAt Reg.FUSE_STATUS.STAGE (0) (0) (1)
     let s := s.putAt Reg.HB_CFG.PEC_REQ (0) (0) (0)
     let s := s.putAt Reg.UPD_STATUS.STATE (0) (0) (6)
     let s := s.putAt Hid.UPD_DEADLINE (0) (0) (2 ^ 50)
     let s := s.putAt Hid.EPOCH (0) (0) (0)
     let s := s.putAt Reg.LBIST_STATUS.COMPLETE_ST (0) (0) (1)
     let s := s.putAt Hid.UPD_PRIOR (0) (0) (0)
     s.portGives 9 msg [] ∧
     s.upd = Upd.trial ∧
     s.get Hid.UPD_PRIOR 0 = 0) := by decide +kernel

/-- States and operands that meet the hypotheses of UpdatePreparationToReturn. -/
theorem wit_updatePreparationToReturn_8 :
    (let s := State.reset
     let s := s.putAt Reg.REIN_STATUS.ACTIVE (0) (0) (1)
     let s := s.putAt Reg.REIN_STATUS.ACTIVE (1) (0) (0)
     let s := s.putAt Hid.PRESENT (0) (0) (1)
     let s := s.putAt Hid.WAKE_AT (0) (0) (0)
     let s := s.putAt Hid.BOOT (0) (0) (1)
     let s := s.putAt Reg.DEV_STATE.STATE (0) (0) (4)
     let s := s.putAt Reg.HB_STATUS.ADDR (0) (0) (64)
     let s := s.putAt Reg.FUSE_STATUS.STAGE (0) (0) (1)
     let s := s.putAt Reg.HB_CFG.PEC_REQ (0) (0) (0)
     let s := s.putAt Reg.UPD_STATUS.STATE (0) (0) (6)
     let s := s.putAt Hid.UPD_DEADLINE (0) (0) (2 ^ 50)
     let s := s.putAt Hid.EPOCH (0) (0) (0)
     let s := s.putAt Reg.LBIST_STATUS.COMPLETE_ST (0) (0) (1)
     let s := s.putAt Hid.UPD_DEADLINE (0) (0) (0)
     let s := s.putAt Hid.UPD_PRIOR (0) (0) (0)
     s.upd = Upd.trial ∧
     s.active.isSome ∧
     s.get Hid.UPD_DEADLINE 0 ≤ s.fullBeat ∧
     s.get Hid.UPD_PRIOR 0 = 0) ∧
    (let s := State.reset
     let s := s.putAt Reg.UPD_STATUS.STATE (0) (0) (1)
     (s.upd ≠ Upd.trial ∨ s.fullBeat < s.get Hid.UPD_DEADLINE 0)) ∧
    (let supplyOk : Bool := true
     let s := State.reset
     let s := s.putAt Reg.REIN_STATUS.ACTIVE (0) (0) (1)
     let s := s.putAt Reg.REIN_STATUS.ACTIVE (1) (0) (0)
     let s := s.putAt Hid.PRESENT (0) (0) (1)
     let s := s.putAt Hid.WAKE_AT (0) (0) (0)
     let s := s.putAt Hid.BOOT (0) (0) (1)
     let s := s.putAt Reg.DEV_STATE.STATE (0) (0) (4)
     let s := s.putAt Reg.HB_STATUS.ADDR (0) (0) (64)
     let s := s.putAt Reg.FUSE_STATUS.STAGE (0) (0) (1)
     let s := s.putAt Reg.HB_CFG.PEC_REQ (0) (0) (0)
     let s := s.putAt Reg.UPD_STATUS.ROLLBACK_PEND (0) (0) (1)
     let s := s.putAt Hid.FMAP_ON (0) (0) (0)
     let s := s.putAt Hid.BEAT (0) (0) (60000005)
     let s := s.putAt Hid.ROLL_AT (0) (0) (5)
     let s := s.putAt Hid.ROLL_WANT (0) (0) (3)
     let s := s.putAt Reg.FUSE_STATUS.PROG_BUSY (0) (0) (0)
     let s := s.putAt Hid.PRESENT (1) (0) (1)
     let s := s.putAt Reg.REIN_STATUS.SHADOW_READY (0) (0) (1)
     let s := s.putAt Reg.REIN_STATUS.SHADOW_READY (1) (0) (1)
     s.on Reg.UPD_STATUS.ROLLBACK_PEND 0 ∧
     s.active.isSome ∧
     s.rollbackDue ∧
     s.on Hid.FMAP_ON 0 = false ∧
     s.fuseHolds supplyOk true = 0) ∧
    (let supplyOk : Bool := false
     let s := State.reset
     let s := s.putAt Reg.REIN_STATUS.ACTIVE (0) (0) (1)
     let s := s.putAt Reg.REIN_STATUS.ACTIVE (1) (0) (0)
     let s := s.putAt Hid.PRESENT (0) (0) (1)
     let s := s.putAt Hid.WAKE_AT (0) (0) (0)
     let s := s.putAt Hid.BOOT (0) (0) (1)
     let s := s.putAt Reg.DEV_STATE.STATE (0) (0) (4)
     let s := s.putAt Reg.HB_STATUS.ADDR (0) (0) (64)
     let s := s.putAt Reg.FUSE_STATUS.STAGE (0) (0) (1)
     let s := s.putAt Reg.HB_CFG.PEC_REQ (0) (0) (0)
     let s := s.putAt Reg.UPD_STATUS.ROLLBACK_PEND (0) (0) (1)
     let s := s.putAt Hid.FMAP_ON (0) (0) (0)
     let s := s.putAt Hid.BEAT (0) (0) (60000005)
     let s := s.putAt Hid.ROLL_AT (0) (0) (5)
     let s := s.putAt Hid.ROLL_WANT (0) (0) (3)
     let s := s.putAt Hid.PRESENT (1) (0) (0)
     s.on Reg.UPD_STATUS.ROLLBACK_PEND 0 ∧
     s.active.isSome ∧
     s.rollbackDue ∧
     s.on Hid.FMAP_ON 0 = false ∧
     s.fuseHolds supplyOk true ≠ 0) := by decide +kernel

/-- States and operands that meet the hypotheses of UpdatePreparationToReturn. -/
theorem wit_updatePreparationToReturn_9 :
    (let s := State.reset
     (s.on Reg.UPD_STATUS.ROLLBACK_PEND 0 = false ∨ s.rollbackDue = false)) := by decide +kernel

/-- States and operands that meet the hypotheses of RegisterAccesses. -/
theorem wit_registerAccesses_1 :
    (let w : Who := .mc0
     let m : Mgr := 0
     let addr : BitVec 32 := 0x400A0000
     let bytes : Nat := 4
     let data : Word := 0x50001
     let more : List OneWrite := []
     let b : Blk := .upd
     let i : Nat := 0
     let off : Nat := 0
     let s := State.reset
     let s := s.putAt Reg.REIN_STATUS.ACTIVE (0) (0) (1)
     let s := s.putAt Reg.REIN_STATUS.ACTIVE (1) (0) (0)
     let s := s.putAt Hid.PRESENT (0) (0) (1)
     more = [] ∧
     bytes = 4 ∧
     addr.toNat % 4 = 0 ∧
     place addr.toNat = .block b i off ∧
     plainReg b off ∧
     s.reach w m = s.act ∧
     s.isActive s.act ∧
     s.emptyRail b i = false ∧
     s.regRefuses b i off data.toNat = false) ∧
    (let w : Who := .mc0
     let m : Mgr := 0
     let addr : BitVec 32 := 0x400A0000
     let bytes : Nat := 4
     let more : List OneWrite := []
     let b : Blk := .upd
     let i : Nat := 0
     let off : Nat := 0
     let s := State.reset
     let s := s.putAt Reg.REIN_STATUS.ACTIVE (0) (0) (1)
     let s := s.putAt Reg.REIN_STATUS.ACTIVE (1) (0) (0)
     let s := s.putAt Hid.PRESENT (0) (0) (1)
     more = [] ∧
     bytes = 4 ∧
     addr.toNat % 4 = 0 ∧
     place addr.toNat = .block b i off ∧
     fieldsAt b off ≠ [] ∧
     s.reach w m = s.act ∧
     s.isActive s.act ∧
     s.emptyRail b i = false) ∧
    (let w : Who := .mc0
     let m : Mgr := 0
     let addr : BitVec 32 := 0x400A0000
     let bytes : Nat := 4
     let data : Word := 1
     let hw : List HwUpdate := []
     let more : List OneWrite := []
     let b : Blk := .upd
     let i : Nat := 0
     let off : Nat := 0
     let s := State.reset
     let s := s.putAt Reg.REIN_STATUS.ACTIVE (0) (0) (1)
     let s := s.putAt Reg.REIN_STATUS.ACTIVE (1) (0) (0)
     let s := s.putAt Hid.PRESENT (0) (0) (1)
     more = [] ∧
     bytes = 4 ∧
     addr.toNat % 4 = 0 ∧
     place addr.toNat = .block b i off ∧
     fieldsAt b off ≠ [] ∧
     hw = [] ∧
     s.reach w m = s.act ∧
     s.isActive s.act ∧
     s.emptyRail b i = false ∧
     s.regRefuses b i off data.toNat) ∧
    (let w : Who := .mc0
     let m : Mgr := 0
     let addr : BitVec 32 := 0x400A0000
     let bytes : Nat := 4
     let data : Word := 1
     let hw : List HwUpdate := []
     let more : List OneWrite := []
     let b : Blk := .upd
     let i : Nat := 0
     let off : Nat := 0
     let s := State.reset
     let s := s.putAt Reg.REIN_STATUS.ACTIVE (0) (0) (1)
     let s := s.putAt Reg.REIN_STATUS.ACTIVE (1) (0) (0)
     let s := s.putAt Hid.PRESENT (0) (0) (1)
     more = [] ∧
     bytes = 4 ∧
     addr.toNat % 4 = 0 ∧
     place addr.toNat = .block b i off ∧
     plainReg b off ∧
     hw = [] ∧
     s.reach w m = s.act ∧
     s.isActive s.act ∧
     s.emptyRail b i = false ∧
     s.regRefuses b i off data.toNat) := by decide +kernel

/-- States and operands that meet the hypotheses of RegisterAccesses. -/
theorem wit_registerAccesses_2 :
    (let w : Who := .mc0
     let m : Mgr := 0
     let addr : BitVec 32 := 0x51100040
     let bytes : Nat := 4
     let hw : List HwUpdate := []
     let more : List OneWrite := []
     let b : Blk := .rail
     let i : Nat := 48
     let off : Nat := 0x40
     let s := State.reset
     let s := s.putAt Reg.REIN_STATUS.ACTIVE (0) (0) (1)
     let s := s.putAt Reg.REIN_STATUS.ACTIVE (1) (0) (0)
     let s := s.putAt Hid.PRESENT (0) (0) (1)
     let s := s.over (List.range 96) (fun s p => s.put Reg.PH_CFG.RAIL p 63)
     more = [] ∧
     bytes = 4 ∧
     addr.toNat % 4 = 0 ∧
     place addr.toNat = .block b i off ∧
     s.emptyRail b i ∧
     hw = [] ∧
     s.isActive (s.reach w m)) ∧
    (let w : Who := .mc0
     let m : Mgr := 0
     let addr : BitVec 32 := 0x400A0FF0
     let bytes : Nat := 4
     let more : List OneWrite := []
     let b : Blk := .upd
     let i : Nat := 0
     let off : Nat := 0xFF0
     let s := State.reset
     let s := s.putAt Reg.REIN_STATUS.ACTIVE (0) (0) (1)
     let s := s.putAt Reg.REIN_STATUS.ACTIVE (1) (0) (0)
     let s := s.putAt Hid.PRESENT (0) (0) (1)
     more = [] ∧
     bytes = 4 ∧
     addr.toNat % 4 = 0 ∧
     place addr.toNat = .block b i off ∧
     fieldsAt b off = [] ∧
     (s.emptyRail b i = false ∨ s.isActive (s.reach w m) = false)) ∧
    (let addr : BitVec 32 := 0x400A0002
     let bytes : Nat := 4
     let hw : List HwUpdate := []
     let more : List OneWrite := []
     let b : Blk := .upd
     let i : Nat := 0
     let off : Nat := 2
     let s := State.reset
     let s := s.putAt Reg.REIN_STATUS.ACTIVE (0) (0) (1)
     let s := s.putAt Reg.REIN_STATUS.ACTIVE (1) (0) (0)
     let _s := s.putAt Hid.PRESENT (0) (0) (1)
     more = [] ∧
     hw = [] ∧
     place addr.toNat = .block b i off ∧
     (addr.toNat % 4 ≠ 0 ∨ bytes ≠ 4)) ∧
    (let w : Who := .mc0
     let m : Mgr := 1
     let addr : BitVec 32 := 0x40090300
     let bytes : Nat := 4
     let hw : List HwUpdate := []
     let more : List OneWrite := []
     let b : Blk := .rein
     let i : Nat := 0
     let off : Nat := 0x300
     let s := State.reset
     let s := s.putAt Reg.REIN_STATUS.ACTIVE (0) (0) (1)
     let s := s.putAt Reg.REIN_STATUS.ACTIVE (1) (0) (0)
     let s := s.putAt Hid.PRESENT (0) (0) (1)
     more = [] ∧
     bytes = 4 ∧
     addr.toNat % 4 = 0 ∧
     place addr.toNat = .block b i off ∧
     b.onMgr ∧
     hw = [] ∧
     s.reach w m ≠ s.act ∧
     ownWord b off ∧
     plainReg b off) := by decide +kernel

/-- States and operands that meet the hypotheses of RegisterAccesses. -/
theorem wit_registerAccesses_3 :
    (let w : Who := .mc0
     let m : Mgr := 1
     let addr : BitVec 32 := 0x400A0000
     let bytes : Nat := 4
     let hw : List HwUpdate := []
     let more : List OneWrite := []
     let b : Blk := .upd
     let i : Nat := 0
     let off : Nat := 0
     let s := State.reset
     let s := s.putAt Reg.REIN_STATUS.ACTIVE (0) (0) (1)
     let s := s.putAt Reg.REIN_STATUS.ACTIVE (1) (0) (0)
     let s := s.putAt Hid.PRESENT (0) (0) (1)
     more = [] ∧
     bytes = 4 ∧
     addr.toNat % 4 = 0 ∧
     place addr.toNat = .block b i off ∧
     fieldsAt b off ≠ [] ∧
     hw = [] ∧
     ((b.onMgr ∧ s.reach w m ≠ s.act ∧ ownWord b off = false) ∨ (b.onMgr = false ∧ s.isActive (s.reach w m) = false))) ∧
    (let hw : List HwUpdate := []
     let more : List OneWrite := [⟨.sc, false, 0x400A0000, 4, 5⟩]
     let x : OneWrite := ⟨.sc, false, 0x400A0000, 4, 5⟩
     let s := State.reset
     let s := s.putAt Reg.REIN_STATUS.ACTIVE (0) (0) (1)
     let s := s.putAt Reg.REIN_STATUS.ACTIVE (1) (0) (0)
     let _s := s.putAt Hid.PRESENT (0) (0) (1)
     more = [x] ∧
     hw = []) ∧
    (let w : Who := .mc0
     let m : Mgr := 0
     let addr : BitVec 32 := 0x400A0000
     let bytes : Nat := 4
     let data : Word := 0x50001
     let hw : List HwUpdate := []
     let more : List OneWrite := []
     let s := State.reset
     let s := s.putAt Reg.REIN_STATUS.ACTIVE (0) (0) (1)
     let s := s.putAt Reg.REIN_STATUS.ACTIVE (1) (0) (0)
     let s := s.putAt Hid.PRESENT (0) (0) (1)
     more = [] ∧
     s.reach w m = s.act ∧
     s.active.isSome ∧
     s.isActive s.act ∧
     bytes = 4 ∧
     hw = [] ∧
     addr.toNat = Reg.UPD_CFG.HC_DEADLINE.addr (0) (0) ∧
     1 ≤ Reg.UPD_CFG.HC_DEADLINE.part data.toNat ∧
     Reg.UPD_CFG.HC_DEADLINE.part data.toNat ≤ 60) ∧
    (let w : Who := .mc0
     let m : Mgr := 0
     let addr : BitVec 32 := 0x400A0000
     let bytes : Nat := 4
     let data : Word := 1
     let hw : List HwUpdate := []
     let more : List OneWrite := []
     let s := State.reset
     let s := s.putAt Reg.REIN_STATUS.ACTIVE (0) (0) (1)
     let s := s.putAt Reg.REIN_STATUS.ACTIVE (1) (0) (0)
     let s := s.putAt Hid.PRESENT (0) (0) (1)
     more = [] ∧
     s.reach w m = s.act ∧
     s.active.isSome ∧
     s.isActive s.act ∧
     bytes = 4 ∧
     hw = [] ∧
     addr.toNat = Reg.UPD_CFG.HC_DEADLINE.addr (0) (0) ∧
     (Reg.UPD_CFG.HC_DEADLINE.part data.toNat = 0 ∨ 60 < Reg.UPD_CFG.HC_DEADLINE.part data.toNat)) := by decide +kernel

/-- States and operands that meet the hypotheses of RegisterAccesses. -/
theorem wit_registerAccesses_4 :
    (let w : Who := .mc0
     let m : Mgr := 0
     let addr : BitVec 32 := 0x400A0004
     let bytes : Nat := 4
     let data : Word := 0x8000
     let hw : List HwUpdate := []
     let more : List OneWrite := []
     let s := State.reset
     let s := s.putAt Reg.REIN_STATUS.ACTIVE (0) (0) (1)
     let s := s.putAt Reg.REIN_STATUS.ACTIVE (1) (0) (0)
     let s := s.putAt Hid.PRESENT (0) (0) (1)
     let s := s.putAt Reg.UPD_STATUS.EVT (0) (0) (1)
     more = [] ∧
     s.reach w m = s.act ∧
     s.active.isSome ∧
     s.isActive s.act ∧
     bytes = 4 ∧
     hw = [] ∧
     addr.toNat = Reg.UPD_STATUS.EVT.addr (0) (0) ∧
     data = 0x8000) ∧
    (let w : Who := .mc0
     let m : Mgr := 0
     let addr : BitVec 32 := 0x400A0004
     let bytes : Nat := 4
     let data : Word := 0xFF1CFF
     let hw : List HwUpdate := []
     let more : List OneWrite := []
     let s := State.reset
     let s := s.putAt Reg.REIN_STATUS.ACTIVE (0) (0) (1)
     let s := s.putAt Reg.REIN_STATUS.ACTIVE (1) (0) (0)
     let s := s.putAt Hid.PRESENT (0) (0) (1)
     more = [] ∧
     s.reach w m = s.act ∧
     s.active.isSome ∧
     s.isActive s.act ∧
     bytes = 4 ∧
     hw = [] ∧
     addr.toNat = Reg.UPD_STATUS.EVT.addr (0) (0) ∧
     data.toNat &&& 0xE300 = 0) ∧
    (let w : Who := .mc0
     let m : Mgr := 0
     let addr : BitVec 32 := 0x400A0004
     let bytes : Nat := 4
     let data : Word := 0x8000
     let hw : List HwUpdate := [⟨15, 1⟩]
     let more : List OneWrite := []
     let s := State.reset
     let s := s.putAt Reg.REIN_STATUS.ACTIVE (0) (0) (1)
     let s := s.putAt Reg.REIN_STATUS.ACTIVE (1) (0) (0)
     let s := s.putAt Hid.PRESENT (0) (0) (1)
     more = [] ∧
     s.reach w m = s.act ∧
     s.active.isSome ∧
     s.isActive s.act ∧
     bytes = 4 ∧
     addr.toNat = Reg.UPD_STATUS.EVT.addr (0) (0) ∧
     data = 0x8000 ∧
     hw = [⟨15, 1⟩]) ∧
    (let w : Who := .mc0
     let m : Mgr := 0
     let addr : BitVec 32 := 0x400A0008
     let bytes : Nat := 4
     let hw : List HwUpdate := []
     let more : List OneWrite := []
     let s := State.reset
     let s := s.putAt Reg.REIN_STATUS.ACTIVE (0) (0) (1)
     let s := s.putAt Reg.REIN_STATUS.ACTIVE (1) (0) (0)
     let s := s.putAt Hid.PRESENT (0) (0) (1)
     more = [] ∧
     s.reach w m = s.act ∧
     s.active.isSome ∧
     s.isActive s.act ∧
     bytes = 4 ∧
     hw = [] ∧
     addr.toNat = Reg.UPD_PROGRESS.TOTAL.addr (0) (0)) := by decide +kernel

/-- States and operands that meet the hypotheses of RegisterAccesses. -/
theorem wit_registerAccesses_5 :
    (let w : Who := .mc0
     let m : Mgr := 0
     let addr : BitVec 32 := 0x50000008
     let bytes : Nat := 4
     let hw : List HwUpdate := []
     let more : List OneWrite := []
     let p : Phase := 0
     let s := State.reset
     let s := s.putAt Reg.REIN_STATUS.ACTIVE (0) (0) (1)
     let s := s.putAt Reg.REIN_STATUS.ACTIVE (1) (0) (0)
     let s := s.putAt Hid.PRESENT (0) (0) (1)
     more = [] ∧
     s.reach w m = s.act ∧
     s.active.isSome ∧
     s.isActive s.act ∧
     bytes = 4 ∧
     hw = [] ∧
     addr.toNat = Reg.PH_ICAL.IOFS.addr (p) (0)) ∧
    (let w : Who := .mc0
     let m : Mgr := 0
     let addr : BitVec 32 := 0x50000008
     let bytes : Nat := 4
     let hw : List HwUpdate := [⟨0, 7⟩]
     let more : List OneWrite := []
     let p : Phase := 0
     let x : Word := 7
     let s := State.reset
     let s := s.putAt Reg.REIN_STATUS.ACTIVE (0) (0) (1)
     let s := s.putAt Reg.REIN_STATUS.ACTIVE (1) (0) (0)
     let s := s.putAt Hid.PRESENT (0) (0) (1)
     more = [] ∧
     s.reach w m = s.act ∧
     s.active.isSome ∧
     s.isActive s.act ∧
     bytes = 4 ∧
     addr.toNat = Reg.PH_ICAL.IOFS.addr (p) (0) ∧
     hw = [⟨0, x⟩]) ∧
    (let w : Who := .mc0
     let m : Mgr := 0
     let addr : BitVec 32 := 0x40050000
     let bytes : Nat := 4
     let hw : List HwUpdate := []
     let more : List OneWrite := []
     let s := State.reset
     let s := s.putAt Reg.REIN_STATUS.ACTIVE (0) (0) (1)
     let s := s.putAt Reg.REIN_STATUS.ACTIVE (1) (0) (0)
     let s := s.putAt Hid.PRESENT (0) (0) (1)
     let s := s.putAt Reg.WDT_CFG.LOCK (0) (0) (1)
     more = [] ∧
     s.reach w m = s.act ∧
     s.active.isSome ∧
     s.isActive s.act ∧
     bytes = 4 ∧
     hw = [] ∧
     addr.toNat = Reg.WDT_CFG.PERIOD.addr (0) (0) ∧
     s.on Reg.WDT_CFG.LOCK 0 ∧
     s.lockHit .wdt 0) ∧
    (let w : Who := .mc0
     let m : Mgr := 0
     let addr : BitVec 32 := 0x40050000
     let bytes : Nat := 4
     let data : Word := 0x640A02
     let hw : List HwUpdate := []
     let more : List OneWrite := []
     let s := State.reset
     let s := s.putAt Reg.REIN_STATUS.ACTIVE (0) (0) (1)
     let s := s.putAt Reg.REIN_STATUS.ACTIVE (1) (0) (0)
     let s := s.putAt Hid.PRESENT (0) (0) (1)
     let s := s.putAt Reg.WDT_CFG.LOCK (0) (0) (0)
     more = [] ∧
     s.reach w m = s.act ∧
     s.active.isSome ∧
     s.isActive s.act ∧
     bytes = 4 ∧
     hw = [] ∧
     addr.toNat = Reg.WDT_CFG.PERIOD.addr (0) (0) ∧
     s.on Reg.WDT_CFG.LOCK 0 = false ∧
     data = 0x640A02) := by decide +kernel

/-- States and operands that meet the hypotheses of RegisterAccesses. -/
theorem wit_registerAccesses_6 :
    (let addr : BitVec 32 := 0x5C000004
     let more : List OneWrite := []
     let s := State.reset
     let s := s.putAt Reg.REIN_STATUS.ACTIVE (0) (0) (1)
     let s := s.putAt Reg.REIN_STATUS.ACTIVE (1) (0) (0)
     let _s := s.putAt Hid.PRESENT (0) (0) (1)
     more = [] ∧
     (place addr.toNat = .readOnly ∨ place addr.toNat = .nothing)) ∧
    (let addr : BitVec 32 := 0x400A0002
     let bytes : Nat := 4
     let hw : List HwUpdate := []
     let more : List OneWrite := []
     let s := State.reset
     let s := s.putAt Reg.REIN_STATUS.ACTIVE (0) (0) (1)
     let s := s.putAt Reg.REIN_STATUS.ACTIVE (1) (0) (0)
     let _s := s.putAt Hid.PRESENT (0) (0) (1)
     more = [] ∧
     0x400A0000 ≤ addr.toNat ∧
     addr.toNat < 0x400B0000 ∧
     (addr.toNat % 4 ≠ 0 ∨ bytes ≠ 4) ∧
     hw = []) ∧
    (let w : Who := .mc0
     let m : Mgr := 1
     let addr : BitVec 32 := 0x400A0000
     let hw : List HwUpdate := []
     let more : List OneWrite := []
     let s := State.reset
     let s := s.putAt Reg.REIN_STATUS.ACTIVE (0) (0) (1)
     let s := s.putAt Reg.REIN_STATUS.ACTIVE (1) (0) (0)
     let s := s.putAt Hid.PRESENT (0) (0) (1)
     more = [] ∧
     0x400A0000 ≤ addr.toNat ∧
     addr.toNat < 0x400B0000 ∧
     s.reach w m ≠ s.act ∧
     hw = []) ∧
    (let w : Who := .mc0
     let m : Mgr := 0
     let secure : Bool := false
     let addr : BitVec 32 := 0x10000102
     let bytes : Nat := 2
     let more : List OneWrite := []
     let s := State.reset
     let s := s.putAt Reg.REIN_STATUS.ACTIVE (0) (0) (1)
     let s := s.putAt Reg.REIN_STATUS.ACTIVE (1) (0) (0)
     let s := s.putAt Hid.PRESENT (0) (0) (1)
     more = [] ∧
     0x20000 ≤ addr.toNat ∧
     (memOf addr.toNat = 0 ∨ memOf addr.toNat = 2 ∧ s.reach w m = s.act) ∧
     memOf (addr.toNat + bytes - 1) = memOf addr.toNat ∧
     (mayReachSecure w secure ∨ (inSecure addr.toNat = false ∧ inSecure (addr.toNat + bytes - 1) = false)) ∧
     (bytes = 1 ∨ bytes = 2 ∨ bytes = 4) ∧
     Memory.wf s.mem = true) := by decide +kernel

/-- States and operands that meet the hypotheses of RegisterAccesses. -/
theorem wit_registerAccesses_7 :
    (let w : Who := .mc0
     let secure : Bool := false
     let addr : BitVec 32 := 0x100F0004
     let bytes : Nat := 4
     let more : List OneWrite := []
     let s := State.reset
     let s := s.putAt Reg.REIN_STATUS.ACTIVE (0) (0) (1)
     let s := s.putAt Reg.REIN_STATUS.ACTIVE (1) (0) (0)
     let _s := s.putAt Hid.PRESENT (0) (0) (1)
     more = [] ∧
     memOf addr.toNat = 0 ∧
     memOf (addr.toNat + bytes - 1) = 0 ∧
     (inSecure addr.toNat ∨ inSecure (addr.toNat + bytes - 1)) ∧
     mayReachSecure w secure = false) ∧
    (let addr : BitVec 32 := 0x2002A004
     let bytes : Nat := 4
     let more : List OneWrite := []
     let s := State.reset
     let s := s.putAt Reg.REIN_STATUS.ACTIVE (0) (0) (1)
     let s := s.putAt Reg.REIN_STATUS.ACTIVE (1) (0) (0)
     let s := s.putAt Hid.PRESENT (0) (0) (1)
     more = [] ∧
     memOf addr.toNat = 3 ∧
     bytes = 4 ∧
     addr.toNat % 4 = 0 ∧
     feFirmware addr.toNat ∧
     Memory.wf s.mem = true) ∧
    (let w : Who := .mc1
     let addr : BitVec 32 := 0xE0000010
     let bytes : Nat := 4
     let more : List OneWrite := []
     let c : Fin 4 := 1
     let s := State.reset
     let s := s.putAt Reg.REIN_STATUS.ACTIVE (0) (0) (1)
     let s := s.putAt Reg.REIN_STATUS.ACTIVE (1) (0) (0)
     let s := s.putAt Hid.PRESENT (0) (0) (1)
     more = [] ∧
     memOf addr.toNat = 1 ∧
     coreOf w = some c.val ∧
     addr.toNat + bytes ≤ 0xE0020000 ∧
     (bytes = 1 ∨ bytes = 2 ∨ bytes = 4) ∧
     Memory.wf s.mem = true) ∧
    (let w : Who := .mc0
     let m : Mgr := 0
     let addr : BitVec 32 := 0x50400004
     let bytes : Nat := 4
     let more : List OneWrite := []
     let u : Tile := 0
     let e : Slot := 0
     let b : Bool := false
     let k : BitVec 10 := 1
     let s := State.reset
     let s := s.putAt Reg.REIN_STATUS.ACTIVE (0) (0) (1)
     let s := s.putAt Reg.REIN_STATUS.ACTIVE (1) (0) (0)
     let s := s.putAt Hid.PRESENT (0) (0) (1)
     let s := s.putAt Reg.ENG_STATUS.BANK (0) (0) (0)
     let s := s.putAt Hid.E_RUN (0) (0) (1)
     more = [] ∧
     bytes = 4 ∧
     addr.toNat = progAddr u e b.toNat k.toNat ∧
     s.isActive (s.reach w m) ∧
     s.get Reg.ENG_STATUS.BANK (engBlock u e) = b.toNat ∧
     s.memRuns u e) := by decide +kernel

/-- States and operands that meet the hypotheses of RegisterAccesses. -/
theorem wit_registerAccesses_8 :
    (let w : Who := .mc0
     let m : Mgr := 0
     let addr : BitVec 32 := 0x50401004
     let bytes : Nat := 4
     let more : List OneWrite := []
     let u : Tile := 0
     let e : Slot := 0
     let b : Bool := true
     let k : BitVec 10 := 1
     let s := State.reset
     let s := s.putAt Reg.REIN_STATUS.ACTIVE (0) (0) (1)
     let s := s.putAt Reg.REIN_STATUS.ACTIVE (1) (0) (0)
     let s := s.putAt Hid.PRESENT (0) (0) (1)
     more = [] ∧
     bytes = 4 ∧
     addr.toNat = progAddr u e b.toNat k.toNat ∧
     s.isActive (s.reach w m) ∧
     (s.memRuns u e = false ∨ s.get Reg.ENG_STATUS.BANK (engBlock u e) ≠ b.toNat) ∧
     Memory.wf s.mem = true) ∧
    (let w : Who := .mc0
     let m : Mgr := 0
     let addr : BitVec 32 := 0x50402004
     let bytes : Nat := 4
     let hw : List HwUpdate := []
     let more : List OneWrite := []
     let u : Tile := 0
     let e : Slot := 0
     let k : Fin 512 := 1
     let s := State.reset
     let s := s.putAt Reg.REIN_STATUS.ACTIVE (0) (0) (1)
     let s := s.putAt Reg.REIN_STATUS.ACTIVE (1) (0) (0)
     let s := s.putAt Hid.PRESENT (0) (0) (1)
     more = [] ∧
     s.reach w m = s.act ∧
     s.active.isSome ∧
     s.isActive s.act ∧
     bytes = 4 ∧
     hw = [] ∧
     addr.toNat = dmAddr u e k) ∧
    (let w : Who := .mc0
     let m : Mgr := 0
     let addr : BitVec 32 := 0x400A0000
     let bytes : Nat := 4
     let b : Blk := .upd
     let i : Nat := 0
     let off : Nat := 0
     let s := State.reset
     let s := s.putAt Reg.REIN_STATUS.ACTIVE (0) (0) (1)
     let s := s.putAt Reg.REIN_STATUS.ACTIVE (1) (0) (0)
     let s := s.putAt Hid.PRESENT (0) (0) (1)
     bytes = 4 ∧
     addr.toNat % 4 = 0 ∧
     place addr.toNat = .block b i off ∧
     fieldsAt b off ≠ [] ∧
     s.emptyRail b i = false ∧
     (b ≠ .evc ∨ (s.evcRead w (s.reach w m) off).isNone) ∧
     (b ≠ .hpd ∨ off < 0x7000 ∨ 0x8000 ≤ off) ∧
     lowPair b off = none ∧
     highPair b off = none ∧
     wrapWord b off = false) ∧
    (let addr : BitVec 32 := 0x58007000
     let bytes : Nat := 4
     let b : Blk := .hpd
     let i : Nat := 0
     let off : Nat := 0x7000
     let s := State.reset
     let s := s.putAt Reg.REIN_STATUS.ACTIVE (0) (0) (1)
     let s := s.putAt Reg.REIN_STATUS.ACTIVE (1) (0) (0)
     let _s := s.putAt Hid.PRESENT (0) (0) (1)
     bytes = 4 ∧
     addr.toNat % 4 = 0 ∧
     place addr.toNat = .block b i off ∧
     fieldsAt b off ≠ [] ∧
     b = .hpd ∧
     0x7000 ≤ off ∧
     off < 0x8000 ∧
     lowPair b off = none ∧
     highPair b off = none) := by decide +kernel

/-- States and operands that meet the hypotheses of RegisterAccesses. -/
theorem wit_registerAccesses_9 :
    (let w : Who := .mc0
     let m : Mgr := 0
     let addr : BitVec 32 := 0x5010019C
     let bytes : Nat := 4
     let b : Blk := .rail
     let i : Nat := 0
     let off : Nat := 0x19C
     let s := State.reset
     let s := s.putAt Reg.REIN_STATUS.ACTIVE (0) (0) (1)
     let s := s.putAt Reg.REIN_STATUS.ACTIVE (1) (0) (0)
     let s := s.putAt Hid.PRESENT (0) (0) (1)
     let s := s.over (List.range 4) (fun s u => (s.put Hid.TILE_FAIL u 0).put Hid.BC_VERDICT u 1)
     bytes = 4 ∧
     addr.toNat % 4 = 0 ∧
     place addr.toNat = .block b i off ∧
     fieldsAt b off ≠ [] ∧
     s.emptyRail b i = false ∧
     (b ≠ .evc ∨ (s.evcRead w (s.reach w m) off).isNone) ∧
     (b ≠ .hpd ∨ off < 0x7000 ∨ 0x8000 ≤ off) ∧
     wrapWord b off ∧
     lowPair b off = none ∧
     highPair b off = none) ∧
    (let w : Who := .mc0
     let m : Mgr := 0
     let addr : BitVec 32 := 0x40090100
     let bytes : Nat := 4
     let b : Blk := .rein
     let i : Nat := 0
     let off : Nat := 0x100
     let s := State.reset
     let s := s.putAt Reg.REIN_STATUS.ACTIVE (0) (0) (1)
     let s := s.putAt Reg.REIN_STATUS.ACTIVE (1) (0) (0)
     let s := s.putAt Hid.PRESENT (0) (0) (1)
     bytes = 4 ∧
     addr.toNat % 4 = 0 ∧
     place addr.toNat = .block b i off ∧
     fieldsAt b off ≠ [] ∧
     s.emptyRail b i = false ∧
     (b ≠ .evc ∨ (s.evcRead w (s.reach w m) off).isNone) ∧
     (b ≠ .hpd ∨ off < 0x7000 ∨ 0x8000 ≤ off) ∧
     (lowPair b off).isSome) ∧
    (let w : Who := .mc0
     let m : Mgr := 0
     let addr : BitVec 32 := 0x40090104
     let bytes : Nat := 4
     let b : Blk := .rein
     let i : Nat := 0
     let off : Nat := 0x104
     let s := State.reset
     let s := s.putAt Reg.REIN_STATUS.ACTIVE (0) (0) (1)
     let s := s.putAt Reg.REIN_STATUS.ACTIVE (1) (0) (0)
     let s := s.putAt Hid.PRESENT (0) (0) (1)
     let s := { s with snaps := [⟨0, whoIx .mc0, 0x40090100, [9], false⟩] }
     bytes = 4 ∧
     addr.toNat % 4 = 0 ∧
     place addr.toNat = .block b i off ∧
     fieldsAt b off ≠ [] ∧
     s.emptyRail b i = false ∧
     (b ≠ .evc ∨ (s.evcRead w (s.reach w m) off).isNone) ∧
     (b ≠ .hpd ∨ off < 0x7000 ∨ 0x8000 ≤ off) ∧
     lowPair b off = none ∧
     (highPair b off).isSome ∧
     (s.snapAt (s.reach w m) w (blockAddr b i off - 4)).isSome) ∧
    (let w : Who := .mc0
     let m : Mgr := 0
     let addr : BitVec 32 := 0x50100198
     let bytes : Nat := 4
     let b : Blk := .rail
     let i : Nat := 0
     let off : Nat := 0x198
     let s := State.reset
     let s := s.putAt Reg.REIN_STATUS.ACTIVE (0) (0) (1)
     let s := s.putAt Reg.REIN_STATUS.ACTIVE (1) (0) (0)
     let s := s.putAt Hid.PRESENT (0) (0) (1)
     let s := s.over (List.range 4) (fun s u => (s.put Hid.TILE_FAIL u 0).put Hid.BC_VERDICT u 1)
     let s := { s with snaps := [] }
     bytes = 4 ∧
     addr.toNat % 4 = 0 ∧
     place addr.toNat = .block b i off ∧
     fieldsAt b off ≠ [] ∧
     s.emptyRail b i = false ∧
     (b ≠ .evc ∨ (s.evcRead w (s.reach w m) off).isNone) ∧
     (b ≠ .hpd ∨ off < 0x7000 ∨ 0x8000 ≤ off) ∧
     lowPair b off = none ∧
     highPair b off = some true ∧
     s.snapAt (s.reach w m) w (blockAddr b i off - 4) = none) := by decide +kernel

/-- States and operands that meet the hypotheses of RegisterAccesses. -/
theorem wit_registerAccesses_10 :
    (let w : Who := .mc0
     let m : Mgr := 0
     let addr : BitVec 32 := 0x40090104
     let bytes : Nat := 4
     let b : Blk := .rein
     let i : Nat := 0
     let off : Nat := 0x104
     let s := State.reset
     let s := s.putAt Reg.REIN_STATUS.ACTIVE (0) (0) (1)
     let s := s.putAt Reg.REIN_STATUS.ACTIVE (1) (0) (0)
     let s := s.putAt Hid.PRESENT (0) (0) (1)
     let s := { s with snaps := [] }
     bytes = 4 ∧
     addr.toNat % 4 = 0 ∧
     place addr.toNat = .block b i off ∧
     fieldsAt b off ≠ [] ∧
     s.emptyRail b i = false ∧
     (b ≠ .evc ∨ (s.evcRead w (s.reach w m) off).isNone) ∧
     (b ≠ .hpd ∨ off < 0x7000 ∨ 0x8000 ≤ off) ∧
     lowPair b off = none ∧
     highPair b off = some false ∧
     s.snapAt (s.reach w m) w (blockAddr b i off - 4) = none) ∧
    (let addr : BitVec 32 := 0x51100040
     let bytes : Nat := 4
     let b : Blk := .rail
     let i : Nat := 48
     let off : Nat := 0x40
     let s := State.reset
     let s := s.putAt Reg.REIN_STATUS.ACTIVE (0) (0) (1)
     let s := s.putAt Reg.REIN_STATUS.ACTIVE (1) (0) (0)
     let s := s.putAt Hid.PRESENT (0) (0) (1)
     let s := s.over (List.range 96) (fun s p => s.put Reg.PH_CFG.RAIL p 63)
     bytes = 4 ∧
     addr.toNat % 4 = 0 ∧
     place addr.toNat = .block b i off ∧
     s.emptyRail b i) ∧
    (let addr : BitVec 32 := 0x400A0FF0
     let bytes : Nat := 4
     let b : Blk := .upd
     let i : Nat := 0
     let off : Nat := 0xFF0
     let s := State.reset
     let s := s.putAt Reg.REIN_STATUS.ACTIVE (0) (0) (1)
     let s := s.putAt Reg.REIN_STATUS.ACTIVE (1) (0) (0)
     let s := s.putAt Hid.PRESENT (0) (0) (1)
     bytes = 4 ∧
     addr.toNat % 4 = 0 ∧
     place addr.toNat = .block b i off ∧
     fieldsAt b off = [] ∧
     s.emptyRail b i = false ∧
     (b ≠ .hpd ∨ off < 0x7000 ∨ 0x8000 ≤ off)) ∧
    (let addr : BitVec 32 := 0x400A0002
     let bytes : Nat := 4
     let b : Blk := .upd
     let i : Nat := 0
     let off : Nat := 2
     let s := State.reset
     let s := s.putAt Reg.REIN_STATUS.ACTIVE (0) (0) (1)
     let s := s.putAt Reg.REIN_STATUS.ACTIVE (1) (0) (0)
     let _s := s.putAt Hid.PRESENT (0) (0) (1)
     place addr.toNat = .block b i off ∧
     (addr.toNat % 4 ≠ 0 ∨ bytes ≠ 4)) := by decide +kernel

/-- States and operands that meet the hypotheses of RegisterAccesses. -/
theorem wit_registerAccesses_11 :
    (let w : Who := .mc0
     let m : Mgr := 0
     let addr : BitVec 32 := 0x400000C0
     let bytes : Nat := 4
     let b : Blk := .evc
     let i : Nat := 0
     let off : Nat := 0xC0
     let s := State.reset
     let s := s.putAt Reg.REIN_STATUS.ACTIVE (0) (0) (1)
     let s := s.putAt Reg.REIN_STATUS.ACTIVE (1) (0) (0)
     let s := s.putAt Hid.PRESENT (0) (0) (1)
     bytes = 4 ∧
     addr.toNat % 4 = 0 ∧
     place addr.toNat = .block b i off ∧
     b = .evc ∧
     fieldsAt b off ≠ [] ∧
     (s.evcRead w (s.reach w m) off).isSome) ∧
    (let w : Who := .mc0
     let secure : Bool := false
     let addr : BitVec 32 := 0x10000100
     let bytes : Nat := 2
     let s := State.reset
     let s := s.putAt Reg.REIN_STATUS.ACTIVE (0) (0) (1)
     let s := s.putAt Reg.REIN_STATUS.ACTIVE (1) (0) (0)
     let s := s.putAt Hid.PRESENT (0) (0) (1)
     let _s := { s with mem := [(mgrMem 0 0x10000100, 5)] }
     0x20000 ≤ addr.toNat ∧
     (memOf addr.toNat = 0 ∨ memOf addr.toNat = 2) ∧
     memOf (addr.toNat + bytes - 1) = memOf addr.toNat ∧
     (mayReachSecure w secure ∨ (inSecure addr.toNat = false ∧ inSecure (addr.toNat + bytes - 1) = false)) ∧
     bytes ≤ 4) ∧
    (let w : Who := .mc0
     let secure : Bool := false
     let addr : BitVec 32 := 0x100F0004
     let bytes : Nat := 4
     let s := State.reset
     let s := s.putAt Reg.REIN_STATUS.ACTIVE (0) (0) (1)
     let s := s.putAt Reg.REIN_STATUS.ACTIVE (1) (0) (0)
     let _s := s.putAt Hid.PRESENT (0) (0) (1)
     memOf addr.toNat = 0 ∧
     memOf (addr.toNat + bytes - 1) = 0 ∧
     (inSecure addr.toNat ∨ inSecure (addr.toNat + bytes - 1)) ∧
     mayReachSecure w secure = false) ∧
    (let w : Who := .mc0
     let m : Mgr := 0
     let addr : BitVec 32 := 0x2002A004
     let bytes : Nat := 4
     let s := State.reset
     let s := s.putAt Reg.REIN_STATUS.ACTIVE (0) (0) (1)
     let s := s.putAt Reg.REIN_STATUS.ACTIVE (1) (0) (0)
     let s := s.putAt Hid.PRESENT (0) (0) (1)
     memOf addr.toNat = 3 ∧
     memOf (addr.toNat + bytes - 1) = 3 ∧
     s.feOk (mgrMem (s.reach w m) addr.toNat) bytes ∧
     bytes ≤ 4) := by decide +kernel

/-- States and operands that meet the hypotheses of RegisterAccesses. -/
theorem wit_registerAccesses_12 :
    (let w : Who := .mc1
     let addr : BitVec 32 := 0xE0000010
     let bytes : Nat := 4
     let c : Fin 4 := 1
     let s := State.reset
     let s := s.putAt Reg.REIN_STATUS.ACTIVE (0) (0) (1)
     let s := s.putAt Reg.REIN_STATUS.ACTIVE (1) (0) (0)
     let _s := s.putAt Hid.PRESENT (0) (0) (1)
     memOf addr.toNat = 1 ∧
     coreOf w = some c.val ∧
     addr.toNat + bytes ≤ 0xE0020000 ∧
     bytes ≤ 4) ∧
    (let addr : BitVec 32 := 0x50400004
     let bytes : Nat := 4
     let u : Tile := 0
     let e : Slot := 0
     let b : Fin 2 := 0
     let k : BitVec 10 := 1
     let s := State.reset
     let s := s.putAt Reg.REIN_STATUS.ACTIVE (0) (0) (1)
     let s := s.putAt Reg.REIN_STATUS.ACTIVE (1) (0) (0)
     let s := s.putAt Hid.PRESENT (0) (0) (1)
     bytes = 4 ∧
     addr.toNat = progAddr u e b.val k.toNat ∧
     s.unhurt addr.toNat) ∧
    (let addr : BitVec 32 := 0x50402004
     let bytes : Nat := 4
     let u : Tile := 0
     let e : Slot := 0
     let k : Fin 512 := 1
     let s := State.reset
     let s := s.putAt Reg.REIN_STATUS.ACTIVE (0) (0) (1)
     let s := s.putAt Reg.REIN_STATUS.ACTIVE (1) (0) (0)
     let s := s.putAt Hid.PRESENT (0) (0) (1)
     bytes = 4 ∧
     addr.toNat = dmAddr u e k ∧
     s.unhurt addr.toNat) ∧
    (let addr : BitVec 32 := 8
     let s := State.reset
     let s := s.putAt Reg.REIN_STATUS.ACTIVE (0) (0) (1)
     let s := s.putAt Reg.REIN_STATUS.ACTIVE (1) (0) (0)
     let _s := s.putAt Hid.PRESENT (0) (0) (1)
     addr.toNat < 0x20000) := by decide +kernel

/-- States and operands that meet the hypotheses of RegisterAccesses. -/
theorem wit_registerAccesses_13 :
    (let addr : BitVec 32 := 0x50300004
     let bytes : Nat := 4
     let s := State.reset
     let s := s.putAt Reg.REIN_STATUS.ACTIVE (0) (0) (1)
     let s := s.putAt Reg.REIN_STATUS.ACTIVE (1) (0) (0)
     let _s := s.putAt Hid.PRESENT (0) (0) (1)
     bytes = 4 ∧
     addr.toNat % 4 = 0 ∧
     (0x400B8000 ≤ addr.toNat ∧ addr.toNat < 0x400C0000 ∨ place addr.toNat = .readOnly ∧ 0x50000000 ≤ addr.toNat ∧ addr.toNat < 0x54000000)) ∧
    (let addr : BitVec 32 := 0x5C000008
     let bytes : Nat := 4
     let s := State.reset
     let s := s.putAt Reg.REIN_STATUS.ACTIVE (0) (0) (1)
     let s := s.putAt Reg.REIN_STATUS.ACTIVE (1) (0) (0)
     let _s := s.putAt Hid.PRESENT (0) (0) (1)
     bytes = 4 ∧
     addr.toNat % 4 = 0 ∧
     0x5C000000 ≤ addr.toNat ∧
     addr.toNat < 0x5C010000) ∧
    (let addr : BitVec 32 := 0x5C000044
     let bytes : Nat := 4
     let s := State.reset
     let s := s.putAt Reg.REIN_STATUS.ACTIVE (0) (0) (1)
     let s := s.putAt Reg.REIN_STATUS.ACTIVE (1) (0) (0)
     let _s := s.putAt Hid.PRESENT (0) (0) (1)
     bytes = 4 ∧
     addr.toNat % 4 = 0 ∧
     (0x5C000040 ≤ addr.toNat ∧ addr.toNat < 0x5C0000A8 ∨ 0x5C000100 ≤ addr.toNat ∧ addr.toNat < 0x5C0001A0)) ∧
    (let addr : BitVec 32 := 0x5D000000
     let s := State.reset
     let s := s.putAt Reg.REIN_STATUS.ACTIVE (0) (0) (1)
     let s := s.putAt Reg.REIN_STATUS.ACTIVE (1) (0) (0)
     let _s := s.putAt Hid.PRESENT (0) (0) (1)
     place addr.toNat = .nothing) := by decide +kernel

/-- States and operands that meet the hypotheses of RegisterAccesses. -/
theorem wit_registerAccesses_14 :
    (let addr : BitVec 32 := 0x50100194
     let bytes : Nat := 4
     let u : Tile := 0
     let r : Rail := 0
     let s := State.reset
     let s := s.putAt Reg.REIN_STATUS.ACTIVE (0) (0) (1)
     let s := s.putAt Reg.REIN_STATUS.ACTIVE (1) (0) (0)
     let s := s.putAt Hid.PRESENT (0) (0) (1)
     let s := s.putAt Reg.RAIL_E_LO.E (0) (0) (5)
     let s := s.putAt Reg.RAIL_E_HI.E (0) (0) (6)
     bytes = 4 ∧
     addr.toNat = Reg.RAIL_E_LO.E.addr (railIx u r) 0 ∧
     (s.tilesOf r).contains u.val ∧
     s.dev ≠ Dev.fuseHold) ∧
    (let addr : BitVec 32 := 0x50100198
     let bytes : Nat := 4
     let u : Tile := 0
     let r : Rail := 0
     let s := State.reset
     let s := s.putAt Reg.REIN_STATUS.ACTIVE (0) (0) (1)
     let s := s.putAt Reg.REIN_STATUS.ACTIVE (1) (0) (0)
     let s := s.putAt Hid.PRESENT (0) (0) (1)
     let s := { s with snaps := [⟨0, whoIx .mc0, 0x50100194, [9], false⟩] }
     bytes = 4 ∧
     addr.toNat = Reg.RAIL_E_HI.E.addr (railIx u r) 0 ∧
     (s.tilesOf r).contains u.val) ∧
    (let m : Mgr := 0
     let s := State.reset
     let s := s.putAt Reg.REIN_STATUS.ACTIVE (0) (0) (1)
     let s := s.putAt Reg.REIN_STATUS.ACTIVE (1) (0) (0)
     let s := s.putAt Hid.PRESENT (0) (0) (1)
     let s := s.putAt Hid.ROLE_LOW (0) (0) (1)
     s.on Hid.ROLE_LOW m.val) ∧
    (let u : Unit5 := 0
     let m : Mgr := 0
     let w : Who := .mc0
     let off : BitVec 24 := 8
     let data : Word := 0x12340056
     let b : Blk := .phase
     let i : Nat := 0
     let o : Nat := 8
     let s := State.reset
     let s := s.putAt Reg.REIN_STATUS.ACTIVE (0) (0) (1)
     let s := s.putAt Reg.REIN_STATUS.ACTIVE (1) (0) (0)
     let s := s.putAt Hid.PRESENT (0) (0) (1)
     let s := s.putAt Hid.ROLE_LOW (0) (0) (1)
     s.on Hid.ROLE_LOW m.val ∧
     (windowAddr u off.toNat) % 4 = 0 ∧
     place (windowAddr u off.toNat) = .block b i o ∧
     plainReg b o ∧
     s.reach w m = s.act ∧
     s.isActive s.act ∧
     s.emptyRail b i = false ∧
     s.regRefuses b i o data.toNat = false) := by decide +kernel

/-- States and operands that meet the hypotheses of RegisterAccesses. -/
theorem wit_registerAccesses_15 :
    (let u : Unit5 := 0
     let m : Mgr := 0
     let w : Who := .mc0
     let off : BitVec 24 := 0x200
     let data : Word := 0xFFFFFFFF
     let b : Blk := .phase
     let i : Nat := 0
     let o : Nat := 0x200
     let s := State.reset
     let s := s.putAt Reg.REIN_STATUS.ACTIVE (0) (0) (1)
     let s := s.putAt Reg.REIN_STATUS.ACTIVE (1) (0) (0)
     let s := s.putAt Hid.PRESENT (0) (0) (1)
     let s := s.putAt Hid.ROLE_LOW (0) (0) (1)
     let s := s.putAt Reg.PH_PROT.ILIM_CEIL (0) (0) (0)
     s.on Hid.ROLE_LOW m.val ∧
     (windowAddr u off.toNat) % 4 = 0 ∧
     place (windowAddr u off.toNat) = .block b i o ∧
     fieldsAt b o ≠ [] ∧
     s.reach w m = s.act ∧
     s.isActive s.act ∧
     s.emptyRail b i = false ∧
     s.regRefuses b i o data.toNat) ∧
    (let u : Unit5 := 0
     let m : Mgr := 0
     let off : BitVec 24 := 0x18000
     let s := State.reset
     let s := s.putAt Reg.REIN_STATUS.ACTIVE (0) (0) (1)
     let s := s.putAt Reg.REIN_STATUS.ACTIVE (1) (0) (0)
     let s := s.putAt Hid.PRESENT (0) (0) (1)
     let s := s.putAt Hid.ROLE_LOW (0) (0) (1)
     s.on Hid.ROLE_LOW m.val ∧
     (place (windowAddr u off.toNat) = .nothing ∨ place (windowAddr u off.toNat) = .readOnly)) ∧
    (let u : Unit5 := 0
     let m : Mgr := 0
     let sentActive : Bool := true
     let s := State.reset
     let s := s.putAt Hid.ROLE_LOW (0) (0) (0)
     s.on Hid.ROLE_LOW m.val = false ∧
     sentActive ∧
     u.val < 4) ∧
    (let u : Unit5 := 4
     let m : Mgr := 0
     let sentActive : Bool := true
     let s := State.reset
     let s := s.putAt Hid.ROLE_LOW (0) (0) (0)
     s.on Hid.ROLE_LOW m.val = false ∧
     sentActive ∧
     u.val = 4) := by decide +kernel

/-- States and operands that meet the hypotheses of RegisterAccesses. -/
theorem wit_registerAccesses_16 :
    (let m : Mgr := 0
     let sentActive : Bool := false
     let s := State.reset
     let s := s.putAt Hid.ROLE_LOW (0) (0) (0)
     s.on Hid.ROLE_LOW m.val = false ∧
     sentActive = false) := by decide +kernel

/-- States and operands that meet the hypotheses of WaitingCommands. -/
theorem wit_waitingCommands_1 :
    (let b : Nat := 0
     let s := State.reset
     let s := s.putAt Reg.REIN_STATUS.ACTIVE (0) (0) (1)
     let s := s.putAt Reg.REIN_STATUS.ACTIVE (1) (0) (0)
     let s := s.putAt Hid.PRESENT (0) (0) (1)
     let s := { s with cmds := [] }
     let s := s.over (List.range 48) (fun s k => s.putAt Hid.EN_STAGE 0 k 0)
     let s := s.putAt Reg.CLK_STATUS.ROOT_LOCK (0) (0) (1)
     let s := s.putAt Reg.CLK_STATUS.ROOT_LOCK (1) (0) (1)
     let s := s.putAt Hid.RELOCK_STAGE (0) (0) (0)
     let s := s.over (List.range 4) (fun s u => (s.put Reg.TILE_CLK_STATUS.REF_SRC u 0).put Reg.TILE_CLK_STATUS.SETTLING u 0)
     let s := s.putAt Reg.HPD_CLK_STATUS.REF_SRC (0) (0) (0)
     let s := s.putAt Reg.HPD_CLK_STATUS.SETTLING (0) (0) (0)
     let s := { s with cmds := [⟨.lane, 5, 0, 3, 0, 0, 0, false⟩] }
     ((s.waiting.filter fun x => decide (beatDiff s.beat x.1 ≤ 200) && s.waitReady x.2) = [(b, .lane)])) ∧
    (let b : Nat := 0
     let r : Rail := 2
     let y : Nat := 900
     let s := State.reset
     let s := s.putAt Reg.REIN_STATUS.ACTIVE (0) (0) (1)
     let s := s.putAt Reg.REIN_STATUS.ACTIVE (1) (0) (0)
     let s := s.putAt Hid.PRESENT (0) (0) (1)
     let s := { s with cmds := [] }
     let s := s.over (List.range 48) (fun s k => s.putAt Hid.EN_STAGE 0 k 0)
     let s := s.putAt Reg.CLK_STATUS.ROOT_LOCK (0) (0) (1)
     let s := s.putAt Reg.CLK_STATUS.ROOT_LOCK (1) (0) (1)
     let s := s.putAt Hid.RELOCK_STAGE (0) (0) (0)
     let s := s.over (List.range 4) (fun s u => (s.put Reg.TILE_CLK_STATUS.REF_SRC u 0).put Reg.TILE_CLK_STATUS.SETTLING u 0)
     let s := s.putAt Reg.HPD_CLK_STATUS.REF_SRC (0) (0) (0)
     let s := s.putAt Reg.HPD_CLK_STATUS.SETTLING (0) (0) (0)
     let s := { s with cmds := [⟨.setpoint 2 900, 5, 0, 3, 0, 0, 0, false⟩] }
     ((s.waiting.filter fun x => decide (beatDiff s.beat x.1 ≤ 200) && s.waitReady x.2) = [(b, .setpoint r y)])) ∧
    (let b : Nat := 0
     let p : Phase := 7
     let s := State.reset
     let s := s.putAt Reg.REIN_STATUS.ACTIVE (0) (0) (1)
     let s := s.putAt Reg.REIN_STATUS.ACTIVE (1) (0) (0)
     let s := s.putAt Hid.PRESENT (0) (0) (1)
     let s := { s with cmds := [] }
     let s := s.over (List.range 48) (fun s k => s.putAt Hid.EN_STAGE 0 k 0)
     let s := s.putAt Reg.CLK_STATUS.ROOT_LOCK (0) (0) (1)
     let s := s.putAt Reg.CLK_STATUS.ROOT_LOCK (1) (0) (1)
     let s := s.putAt Hid.RELOCK_STAGE (0) (0) (0)
     let s := s.over (List.range 4) (fun s u => (s.put Reg.TILE_CLK_STATUS.REF_SRC u 0).put Reg.TILE_CLK_STATUS.SETTLING u 0)
     let s := s.putAt Reg.HPD_CLK_STATUS.REF_SRC (0) (0) (0)
     let s := s.putAt Reg.HPD_CLK_STATUS.SETTLING (0) (0) (0)
     let s := { s with cmds := [⟨.phAdd 7, 5, 0, 3, 0, 0, 0, false⟩] }
     let s := s.putAt Reg.PH_STATE.STATE (7) (0) (Ph.shed)
     let s := s.putAt Hid.TSD_ON (0) (0) (0)
     ((s.waiting.filter fun x => decide (beatDiff s.beat x.1 ≤ 200) && s.waitReady x.2) = [(b, .phAdd p)]) ∧
     s.ph p = Ph.shed ∧
     s.on Hid.TSD_ON (tileOf p) = false) ∧
    (let b : Nat := 0
     let r : Rail := 2
     let s := State.reset
     let s := s.putAt Reg.REIN_STATUS.ACTIVE (0) (0) (1)
     let s := s.putAt Reg.REIN_STATUS.ACTIVE (1) (0) (0)
     let s := s.putAt Hid.PRESENT (0) (0) (1)
     let s := { s with cmds := [] }
     let s := s.over (List.range 48) (fun s k => s.putAt Hid.EN_STAGE 0 k 0)
     let s := s.putAt Reg.CLK_STATUS.ROOT_LOCK (0) (0) (1)
     let s := s.putAt Reg.CLK_STATUS.ROOT_LOCK (1) (0) (1)
     let s := s.putAt Hid.RELOCK_STAGE (0) (0) (0)
     let s := s.over (List.range 4) (fun s u => (s.put Reg.TILE_CLK_STATUS.REF_SRC u 0).put Reg.TILE_CLK_STATUS.SETTLING u 0)
     let s := s.putAt Reg.HPD_CLK_STATUS.REF_SRC (0) (0) (0)
     let s := s.putAt Reg.HPD_CLK_STATUS.SETTLING (0) (0) (0)
     let s := s.over (List.range 96) (fun s p => s.put Reg.PH_CFG.RAIL p 63)
     let s := s.putAt Reg.RAIL_SUP_CFG.KIND (s.homeIx 2) (0) (1)
     let s := s.putAt Hid.EN_STAGE (0) (2) (1)
     let s := { s with cmds := [⟨.railOn 2, 5, 0, 3, 0, 0, 0, false⟩] }
     let s := s.putAt Reg.PH_CFG.RAIL (s.home r * 24) (0) (r)
     let s := s.putAt Reg.PH_PROT.ILIM_CEIL (s.home r * 24) (0) (9)
     let s := s.putAt Reg.ISO_STATE.ISO_DRIVE (0) (0) (0)
     let s := s.putAt Hid.LAW_BUSY (0) (r) (0)
     let s := s.putAt Reg.DIAG_RESULT.BUSY (s.home r) (0) (0)
     ((s.waiting.filter fun x => decide (beatDiff s.beat x.1 ≤ 200) && s.waitReady x.2) = [(b, .railOn r)]) ∧
     s.enStep r = 1 ∧
     s.kindOf r = 1 ∧
     s.onAt Hid.LAW_BUSY 0 r = false ∧
     s.diagHolds r = false ∧
     s.enableFault r = none) := by decide +kernel

/-- States and operands that meet the hypotheses of WaitingCommands. -/
theorem wit_waitingCommands_2 :
    (let s := State.reset
     let s := s.putAt Reg.REIN_STATUS.ACTIVE (0) (0) (1)
     let s := s.putAt Reg.REIN_STATUS.ACTIVE (1) (0) (0)
     let s := s.putAt Hid.PRESENT (0) (0) (1)
     let s := { s with cmds := [] }
     let s := s.over (List.range 48) (fun s k => s.putAt Hid.EN_STAGE 0 k 0)
     let s := s.putAt Reg.CLK_STATUS.ROOT_LOCK (0) (0) (1)
     let s := s.putAt Reg.CLK_STATUS.ROOT_LOCK (1) (0) (1)
     let s := s.putAt Hid.RELOCK_STAGE (0) (0) (0)
     let s := s.over (List.range 4) (fun s u => (s.put Reg.TILE_CLK_STATUS.REF_SRC u 0).put Reg.TILE_CLK_STATUS.SETTLING u 0)
     let s := s.putAt Reg.HPD_CLK_STATUS.REF_SRC (0) (0) (0)
     let s := s.putAt Reg.HPD_CLK_STATUS.SETTLING (0) (0) (0)
     ((s.waiting.filter fun x => decide (beatDiff s.beat x.1 ≤ 200) && s.waitReady x.2) = [])) ∧
    (let b : Nat := 0
     let s := State.reset
     let s := s.putAt Hid.SEQ_STEP (0) (0) (0)
     let s := s.putAt Hid.TSD_QUEUE (0) (0) (0)
     let s := s.over (List.range 4) (fun s k => s.put Hid.AK_STEP k 0)
     let s := s.putAt Reg.REIN_STATUS.ACTIVE (0) (0) (1)
     let s := s.putAt Reg.REIN_STATUS.ACTIVE (1) (0) (0)
     let s := s.putAt Hid.PRESENT (0) (0) (1)
     let s := { s with cmds := [] }
     let s := s.over (List.range 48) (fun s k => s.putAt Hid.EN_STAGE 0 k 0)
     let s := s.putAt Reg.CLK_STATUS.ROOT_LOCK (0) (0) (1)
     let s := s.putAt Reg.CLK_STATUS.ROOT_LOCK (1) (0) (1)
     let s := s.putAt Hid.RELOCK_STAGE (0) (0) (0)
     let s := s.over (List.range 4) (fun s u => (s.put Reg.TILE_CLK_STATUS.REF_SRC u 0).put Reg.TILE_CLK_STATUS.SETTLING u 0)
     let s := s.putAt Reg.HPD_CLK_STATUS.REF_SRC (0) (0) (0)
     let s := s.putAt Reg.HPD_CLK_STATUS.SETTLING (0) (0) (0)
     let s := { s with cmds := [⟨.lane, 5, 0, 3, 0, 0, 0, false⟩] }
     s.quiet ∧
     s.waiting = [(b, .lane)] ∧
     beatDiff s.beat b ≤ 200 ∧
     s.clockReady []) ∧
    (let b : Nat := 0
     let r : Rail := 2
     let v : Nat := 900
     let s := State.reset
     let s := s.putAt Hid.SEQ_STEP (0) (0) (0)
     let s := s.putAt Hid.TSD_QUEUE (0) (0) (0)
     let s := s.over (List.range 4) (fun s k => s.put Hid.AK_STEP k 0)
     let s := s.putAt Reg.REIN_STATUS.ACTIVE (0) (0) (1)
     let s := s.putAt Reg.REIN_STATUS.ACTIVE (1) (0) (0)
     let s := s.putAt Hid.PRESENT (0) (0) (1)
     let s := { s with cmds := [] }
     let s := s.over (List.range 48) (fun s k => s.putAt Hid.EN_STAGE 0 k 0)
     let s := s.putAt Reg.CLK_STATUS.ROOT_LOCK (0) (0) (1)
     let s := s.putAt Reg.CLK_STATUS.ROOT_LOCK (1) (0) (1)
     let s := s.putAt Hid.RELOCK_STAGE (0) (0) (0)
     let s := s.over (List.range 4) (fun s u => (s.put Reg.TILE_CLK_STATUS.REF_SRC u 0).put Reg.TILE_CLK_STATUS.SETTLING u 0)
     let s := s.putAt Reg.HPD_CLK_STATUS.REF_SRC (0) (0) (0)
     let s := s.putAt Reg.HPD_CLK_STATUS.SETTLING (0) (0) (0)
     let s := { s with cmds := [⟨.setpoint 2 900, 5, 0, 3, 0, 0, 0, false⟩] }
     s.quiet ∧
     s.waiting = [(b, .setpoint r v)] ∧
     beatDiff s.beat b ≤ 200 ∧
     s.railReady r) ∧
    (let b : Nat := 0
     let p : Phase := 7
     let s := State.reset
     let s := s.putAt Hid.SEQ_STEP (0) (0) (0)
     let s := s.putAt Hid.TSD_QUEUE (0) (0) (0)
     let s := s.over (List.range 4) (fun s k => s.put Hid.AK_STEP k 0)
     let s := s.putAt Reg.REIN_STATUS.ACTIVE (0) (0) (1)
     let s := s.putAt Reg.REIN_STATUS.ACTIVE (1) (0) (0)
     let s := s.putAt Hid.PRESENT (0) (0) (1)
     let s := { s with cmds := [] }
     let s := s.over (List.range 48) (fun s k => s.putAt Hid.EN_STAGE 0 k 0)
     let s := s.putAt Reg.CLK_STATUS.ROOT_LOCK (0) (0) (1)
     let s := s.putAt Reg.CLK_STATUS.ROOT_LOCK (1) (0) (1)
     let s := s.putAt Hid.RELOCK_STAGE (0) (0) (0)
     let s := s.over (List.range 4) (fun s u => (s.put Reg.TILE_CLK_STATUS.REF_SRC u 0).put Reg.TILE_CLK_STATUS.SETTLING u 0)
     let s := s.putAt Reg.HPD_CLK_STATUS.REF_SRC (0) (0) (0)
     let s := s.putAt Reg.HPD_CLK_STATUS.SETTLING (0) (0) (0)
     let s := { s with cmds := [⟨.phAdd 7, 5, 0, 3, 0, 0, 0, false⟩] }
     let s := s.putAt Reg.PH_STATE.STATE (7) (0) (Ph.shed)
     s.quiet ∧
     s.waiting = [(b, .phAdd p)] ∧
     beatDiff s.beat b ≤ 200 ∧
     s.clockReady [tileOf p] ∧
     s.ph p = Ph.shed) := by decide +kernel

/-- States and operands that meet the hypotheses of WaitingCommands. -/
theorem wit_waitingCommands_3 :
    (let s := State.reset
     let s := s.putAt Hid.SEQ_STEP (0) (0) (0)
     let s := s.putAt Hid.TSD_QUEUE (0) (0) (0)
     let s := s.over (List.range 4) (fun s k => s.put Hid.AK_STEP k 0)
     let s := s.putAt Reg.REIN_STATUS.ACTIVE (0) (0) (1)
     let s := s.putAt Reg.REIN_STATUS.ACTIVE (1) (0) (0)
     let s := s.putAt Hid.PRESENT (0) (0) (1)
     let s := { s with cmds := [] }
     let s := s.over (List.range 48) (fun s k => s.putAt Hid.EN_STAGE 0 k 0)
     let s := { s with cmds := [⟨.lane, 5, 0, 3, 0, 0, 0, false⟩] }
     s.quiet ∧
     (∀ x ∈ s.waiting, s.waitReady x.2 = false)) ∧
    (let b : Nat := 0
     let k : CmdKind := .lane
     let s := State.reset
     let s := s.putAt Reg.REIN_STATUS.ACTIVE (0) (0) (1)
     let s := s.putAt Reg.REIN_STATUS.ACTIVE (1) (0) (0)
     let s := s.putAt Hid.PRESENT (0) (0) (1)
     let s := { s with cmds := [] }
     let s := s.over (List.range 48) (fun s k => s.putAt Hid.EN_STAGE 0 k 0)
     let s := { s with cmds := [⟨.lane, 5, 0, 3, 0, 0, 0, false⟩] }
     let s := s.putAt Hid.BEAT (0) (0) (500)
     ((s.waiting.filter fun x => decide (200 ≤ beatDiff s.beat x.1)) = [(b, k)]) ∧
     s.accepted k) ∧
    (let b : Nat := 0
     let r : Rail := 2
     let s := State.reset
     let s := s.putAt Reg.REIN_STATUS.ACTIVE (0) (0) (1)
     let s := s.putAt Reg.REIN_STATUS.ACTIVE (1) (0) (0)
     let s := s.putAt Hid.PRESENT (0) (0) (1)
     let s := { s with cmds := [] }
     let s := s.over (List.range 48) (fun s k => s.putAt Hid.EN_STAGE 0 k 0)
     let s := { s with cmds := [⟨.railOn 2, 5, 0, 3, 0, 0, 0, false⟩] }
     let s := s.putAt Hid.BEAT (0) (0) (500)
     ((s.waiting.filter fun x => decide (200 ≤ beatDiff s.beat x.1)) = [(b, .railOn r)])) ∧
    (let s := State.reset
     let s := s.putAt Reg.REIN_STATUS.ACTIVE (0) (0) (1)
     let s := s.putAt Reg.REIN_STATUS.ACTIVE (1) (0) (0)
     let s := s.putAt Hid.PRESENT (0) (0) (1)
     let s := { s with cmds := [] }
     let s := s.over (List.range 48) (fun s k => s.putAt Hid.EN_STAGE 0 k 0)
     let s := s.putAt Hid.BEAT (0) (0) (100)
     ((s.waiting.filter fun x => decide (200 ≤ beatDiff s.beat x.1)) = [])) := by decide +kernel

/-- States and operands that meet the hypotheses of WaitingCommands. -/
theorem wit_waitingCommands_4 :
    (let b : Nat := 0
     let c : Cmd := ⟨.lane, 5, 0, 3, 0, 0, 0, false⟩
     let s := State.reset
     let s := s.putAt Hid.SEQ_STEP (0) (0) (0)
     let s := s.putAt Hid.TSD_QUEUE (0) (0) (0)
     let s := s.over (List.range 4) (fun s k => s.put Hid.AK_STEP k 0)
     let s := s.putAt Reg.REIN_STATUS.ACTIVE (0) (0) (1)
     let s := s.putAt Reg.REIN_STATUS.ACTIVE (1) (0) (0)
     let s := s.putAt Hid.PRESENT (0) (0) (1)
     let s := { s with cmds := [] }
     let s := s.over (List.range 48) (fun s k => s.putAt Hid.EN_STAGE 0 k 0)
     let s := { s with cmds := [⟨.lane, 5, 0, 3, 0, 0, 0, false⟩] }
     let s := s.putAt Hid.BEAT (0) (0) (500)
     s.quiet ∧
     s.waiting = [(b, .lane)] ∧
     200 ≤ beatDiff s.beat b ∧
     s.cmds = [c]) ∧
    (let b : Nat := 0
     let r : Rail := 2
     let c : Cmd := ⟨.railOn 2, 5, 0, 3, 0, 0, 0, false⟩
     let s := State.reset
     let s := s.putAt Hid.SEQ_STEP (0) (0) (0)
     let s := s.putAt Hid.TSD_QUEUE (0) (0) (0)
     let s := s.over (List.range 4) (fun s k => s.put Hid.AK_STEP k 0)
     let s := s.putAt Reg.REIN_STATUS.ACTIVE (0) (0) (1)
     let s := s.putAt Reg.REIN_STATUS.ACTIVE (1) (0) (0)
     let s := s.putAt Hid.PRESENT (0) (0) (1)
     let s := { s with cmds := [] }
     let s := s.over (List.range 48) (fun s k => s.putAt Hid.EN_STAGE 0 k 0)
     let s := { s with cmds := [⟨.railOn 2, 5, 0, 3, 0, 0, 0, false⟩] }
     let s := s.putAt Hid.BEAT (0) (0) (500)
     s.quiet ∧
     s.waiting = [(b, .railOn r)] ∧
     200 ≤ beatDiff s.beat b ∧
     s.cmds = [c]) ∧
    (let s := State.reset
     let s := s.putAt Hid.SEQ_STEP (0) (0) (0)
     let s := s.putAt Hid.TSD_QUEUE (0) (0) (0)
     let s := s.over (List.range 4) (fun s k => s.put Hid.AK_STEP k 0)
     let s := s.putAt Reg.REIN_STATUS.ACTIVE (0) (0) (1)
     let s := s.putAt Reg.REIN_STATUS.ACTIVE (1) (0) (0)
     let s := s.putAt Hid.PRESENT (0) (0) (1)
     let s := { s with cmds := [] }
     let s := s.over (List.range 48) (fun s k => s.putAt Hid.EN_STAGE 0 k 0)
     let s := { s with cmds := [⟨.lane, 5, 0, 3, 0, 0, 0, false⟩] }
     let s := s.putAt Hid.BEAT (0) (0) (100)
     s.quiet ∧
     (∀ x ∈ s.waiting, beatDiff s.beat x.1 < 200)) := by decide +kernel

/-- States and operands that meet the hypotheses of TickBoundaries. -/
theorem wit_tickBoundaries_1 :
    (let u : Tile := 0
     let s := State.reset
     let s := s.putAt Hid.BC_VERDICT (u) (0) (1)
     let s := s.putAt Reg.DEV_STATE.STATE (0) (0) (4)
     let s := s.putAt Hid.LBIST_ON (0) (0) (0)
     let s := s.putAt Hid.TICK (0) (0) (8)
     s.tileRuns u) ∧
    (let u : Tile := 0
     let s := State.reset
     let s := s.putAt Hid.BC_VERDICT (u) (0) (0)
     s.tileRuns u = false) ∧
    (let u : Tile := 0
     let upsets : List (Slot × BitVec 12 × Upset) := []
     let s := State.reset
     let s := s.putAt Hid.BC_VERDICT (u) (0) (1)
     let s := s.putAt Reg.DEV_STATE.STATE (0) (0) (4)
     let s := s.putAt Hid.LBIST_ON (0) (0) (0)
     let s := s.putAt Hid.TICK (0) (0) (8)
     s.tileRuns u ∧
     (∀ e : Slot, s.engineLaw u e = 0) ∧
     upsets = []) ∧
    (let u : Tile := 0
     let e : Slot := 3
     let k : Fin 512 := 5
     let x : Word := 77
     let s := State.reset
     let s := s.putAt Hid.BC_VERDICT (u) (0) (1)
     let s := s.putAt Reg.DEV_STATE.STATE (0) (0) (4)
     let s := s.putAt Hid.LBIST_ON (0) (0) (0)
     let s := { s with dmPend := [(0, dmAddr 0 3 5, 3), (0, dmAddr 0 3 5, 77)] }
     let s := s.over (List.range 96) (fun s p => s.put Reg.PH_CFG.RAIL p 63)
     s.tileRuns u ∧
     (((s.arrived u).filter fun y => y.1 = dmAddr u e k).getLast? = some (dmAddr u e k, x)) ∧
     ((s.arrived u).all fun y => decide (y.1 = dmAddr u e k ∨ y.1 + 4 ≤ dmAddr u e k ∨ dmAddr u e k + 4 ≤ y.1)) ∧
     Memory.wf s.mem = true) := by decide +kernel

/-- States and operands that meet the hypotheses of TickBoundaries. -/
theorem wit_tickBoundaries_2 :
    (let u : Tile := 0
     let upsets : List (Slot × BitVec 12 × Upset) := []
     let e : Slot := 3
     let k : Fin 512 := 5
     let x : Word := 77
     let s := State.reset
     let s := s.putAt Hid.BC_VERDICT (u) (0) (1)
     let s := s.putAt Reg.DEV_STATE.STATE (0) (0) (4)
     let s := s.putAt Hid.LBIST_ON (0) (0) (0)
     let s := { s with dmPend := [(0, dmAddr 0 3 5, 77)] }
     let s := s.over (List.range 96) (fun s p => s.put Reg.PH_CFG.RAIL p 63)
     s.tileRuns u ∧
     upsets = [] ∧
     (∀ e : Slot, s.engineLaw u e = 0) ∧
     s.dmPend = [(u.val, dmAddr u e k, x)] ∧
     Memory.wf s.mem = true ∧
     s.capturing u = false) ∧
    (let u : Tile := 0
     let upsets : List (Slot × BitVec 12 × Upset) := []
     let e : Slot := 2
     let s := State.reset
     let s := s.putAt Hid.BC_VERDICT (u) (0) (1)
     let s := s.putAt Reg.DEV_STATE.STATE (0) (0) (4)
     let s := s.putAt Hid.LBIST_ON (0) (0) (0)
     let s := s.putAt Hid.E_RUN ((engIx u e)) (0) (1)
     let s := s.putAt Hid.E_WAIT ((engIx u e)) (0) (1)
     let s := s.putAt Hid.E_LATE ((engIx u e)) (0) (0)
     let s := s.putAt Hid.E_STGW ((engIx u e)) (2) (1)
     let s := s.putAt Hid.E_STG ((engIx u e)) (2) (1234)
     let s := s.putAt Reg.SPARE_STATUS.BUSY (u) (0) (0)
     let s := s.putAt Hid.HANDING_OVER (u) (0) (0)
     let s := s.putAt Hid.HANDING_BACK (u) (0) (0)
     let s := s.over (List.range 25) (fun s e => (s.putAt Hid.BANK_LAW (engIx u e) 0 0).putAt Hid.BANK_LAW (engIx u e) 1 0)
     s.tileRuns u ∧
     e.val < 24 ∧
     (s.atEnd u upsets).on Hid.E_RUN (engIx u e) ∧
     (s.atEnd u upsets).spareServes u = false ∧
     (s.atEnd u upsets).get Hid.HANDING_BACK u = 0 ∧
     (s.atEnd u upsets).on Hid.E_WAIT (engIx u e) ∧
     (s.atEnd u upsets).on Hid.E_LATE (engIx u e) = false) ∧
    (let u : Tile := 0
     let upsets : List (Slot × BitVec 12 × Upset) := []
     let e : Slot := 2
     let s := State.reset
     let s := s.putAt Hid.BC_VERDICT (u) (0) (1)
     let s := s.putAt Reg.DEV_STATE.STATE (0) (0) (4)
     let s := s.putAt Hid.LBIST_ON (0) (0) (0)
     let s := s.putAt Hid.E_RUN ((engIx u e)) (0) (1)
     let s := s.putAt Hid.E_WAIT ((engIx u e)) (0) (0)
     let s := s.putAt Reg.SPARE_STATUS.BUSY (u) (0) (0)
     let s := s.putAt Hid.HANDING_OVER (u) (0) (0)
     let s := s.putAt Hid.HANDING_BACK (u) (0) (0)
     let s := s.over (List.range 25) (fun s e => (s.putAt Hid.BANK_LAW (engIx u e) 0 0).putAt Hid.BANK_LAW (engIx u e) 1 0)
     s.tileRuns u ∧
     e.val < 24 ∧
     (s.atEnd u upsets).on Hid.E_RUN (engIx u e) ∧
     (s.atEnd u upsets).spareServes u = false ∧
     (s.atEnd u upsets).get Hid.HANDING_BACK u = 0 ∧
     (s.atEnd u upsets).on Hid.E_WAIT (engIx u e) = false) ∧
    (let u : Tile := 0
     let levels : List (Level × Level) := (List.replicate 12 (100000, 100000))
     let c : Fin 12 := 2
     let r : Rail := 4
     let s := State.reset
     let s := s.putAt Hid.BC_VERDICT (u) (0) (1)
     let s := s.putAt Reg.DEV_STATE.STATE (0) (0) (4)
     let s := s.putAt Hid.LBIST_ON (0) (0) (0)
     let s := s.putAt Reg.DIAG_RESULT.BUSY (u) (0) (0)
     let s := s.putAt Reg.RAIL_SNS.CHAN (railIx 0 4) (0) (2)
     s.tileRuns u ∧
     c.val < levels.length ∧
     s.onAt Reg.CHAN_STATE.LOST u c = false ∧
     s.chanDiag u c = false ∧
     r.val ∈ s.railsOfChan u c) := by decide +kernel

/-- States and operands that meet the hypotheses of TickBoundaries. -/
theorem wit_tickBoundaries_3 :
    (let u : Tile := 0
     let levels : List (Level × Level) := (List.replicate 12 (100000, 100000))
     let c : Fin 12 := 2
     let r : Rail := 4
     let s := State.reset
     let s := s.putAt Hid.BC_VERDICT (u) (0) (1)
     let s := s.putAt Reg.DEV_STATE.STATE (0) (0) (4)
     let s := s.putAt Hid.LBIST_ON (0) (0) (0)
     let s := s.putAt Reg.DIAG_RESULT.BUSY (u) (0) (0)
     let s := s.putAt Reg.SNS_STATUS.SPARE_POS (u) (0) (31)
     let s := s.putAt Reg.RAIL_SNS.CHAN (railIx 0 4) (0) (2)
     s.tileRuns u ∧
     c.val < levels.length ∧
     s.onAt Reg.CHAN_STATE.LOST u c = false ∧
     s.chanDiag u c = false ∧
     r.val ∈ s.railsOfChan u c ∧
     s.spareIn u (2 * c) = false ∧
     s.spareIn u (2 * c + 1) = false ∧
     s.onAt Hid.SLICE_LOST u (2 * c) = false ∧
     s.onAt Hid.SLICE_LOST u (2 * c + 1) = false) := by decide +kernel

theorem wit_stepKeepsCanonicalForm :
    (let s : State := { State.reset.wr32 0x110000000 5 with pending := [.jrnlNote .mc0 0 7] }
     (Cells.wf s.cells = true ∧ Memory.wf s.mem = true) ∧ (match step s with | .next t => decide (t.jrnA.length = 1) | _ => false) = true) := by decide +kernel

end Sys2Proof.Tests
end

section
/-!
# The canonical form of cells and memory

Every operation of the model that answers a state keeps `State.Canon`: one lemma an operation, `State.Canon.<operation>`, in the order of the model's
files. Each proof follows its definition from the last operation back to the state it began with, so it names the operations that the definition is made
of; the only facts about lists are those of Laws/Cells and Laws/Memory, which the primitive operations below cite. An operation that takes another as its
argument takes the proof for that argument. At the end stand the commands, the step, and the obligations about them.
-/
namespace Sys2Proof.Machine

section
variable {s t : State}

/-! ## The primitive operations -/

theorem State.Canon.putAt (h : s.Canon) {f : Fld} {i j v : Nat} : (s.putAt f i j v).Canon := State.putAt_canon f i j v h
theorem State.Canon.put (h : s.Canon) {f : Fld} {i v : Nat} : (s.put f i v).Canon := h.putAt
theorem State.Canon.raise (h : s.Canon) {f : Fld} {i : Nat} : (s.raise f i).Canon := h.put
theorem State.Canon.clr (h : s.Canon) {f : Fld} {i : Nat} : (s.clr f i).Canon := h.put
theorem State.Canon.raiseAt (h : s.Canon) {f : Fld} {i j : Nat} : (s.raiseAt f i j).Canon := h.putAt
theorem State.Canon.clrAt (h : s.Canon) {f : Fld} {i j : Nat} : (s.clrAt f i j).Canon := h.putAt
theorem State.Canon.putB (h : s.Canon) {f : Fld} {i : Nat} {b : Bool} : (s.putB f i b).Canon := h.put
theorem State.Canon.putBit (h : s.Canon) {f : Fld} {i b : Nat} {v : Bool} : (s.putBit f i b v).Canon := h.put
theorem State.Canon.bumpAt (h : s.Canon) {f : Fld} {i j : Nat} : (s.bumpAt f i j).Canon := State.bumpAt_canon f i j h
theorem State.Canon.bump (h : s.Canon) {f : Fld} {i : Nat} : (s.bump f i).Canon := h.bumpAt
theorem State.Canon.putI (h : s.Canon) {f : Fld} {i : Nat} {x : Int} : (s.putI f i x).Canon := h.put
theorem State.Canon.putIAt (h : s.Canon) {f : Fld} {i j : Nat} {x : Int} : (s.putIAt f i j x).Canon := h.putAt
theorem State.Canon.putFit (h : s.Canon) {f : Fld} {i j : Nat} {x : Int} : (s.putFit f i j x).Canon := State.putFit_canon f i j x h
theorem State.Canon.resetCells (h : s.Canon) {gone : Key → Bool} : (s.resetCells gone).Canon := State.resetCells_canon gone h
theorem State.Canon.wrBytes (h : s.Canon) {a : Nat} {l : List Byte} : (s.wrBytes a l).Canon := State.wrBytes_canon a l h
theorem State.Canon.wr8 (h : s.Canon) {a : Nat} {v : Byte} : (s.wr8 a v).Canon := h.wrBytes (l := [v])
theorem State.Canon.wr32 (h : s.Canon) {a : Nat} {v : Word} : (s.wr32 a v).Canon := h.wr8.wr8.wr8.wr8
theorem State.Canon.zeroMem (h : s.Canon) {lo hi : Nat} : (s.zeroMem lo hi).Canon := State.zeroMem_canon lo hi h

theorem State.Canon.cells (h : s.Canon) : Cells.wf s.cells = true := h.1
theorem State.Canon.mem (h : s.Canon) : Memory.wf s.mem = true := h.2

/-- What changes neither cells nor memory keeps the form. -/
theorem State.Canon.same (h : s.Canon) {jrnA jrnB : List JEntry} {cmds : List Cmd} {dmPend : List (Nat × Nat × Word)} {snaps : List Snap}
    {laneDue : List LaneDue} {snapBuf : List Byte} {metArch : List MetRec} {metTxA metTxB : List MetFrame} {evMain evSafe evHost : List EvRec}
    {evFolds : List EvFold} {evKept : List EvKept} {awlProbes awlErrs : List AwlUnit} {feBad : List Nat} {ecc : List (Nat × Upset)}
    {perms : List Perm} {hbReply svcReply : List Byte} {freeCtr : Nat} {pending : List Instr} :
    (State.mk s.cells s.mem jrnA jrnB cmds dmPend snaps laneDue snapBuf metArch metTxA metTxB evMain evSafe evHost evFolds evKept awlProbes
      awlErrs feBad ecc perms hbReply svcReply freeCtr pending).Canon := h

theorem State.Canon.wrFe (h : s.Canon) {a : Nat} {l : List Byte} : (s.wrFe a l).Canon := .wrBytes (.same h)
theorem State.Canon.draw (h : s.Canon) : s.draw.2.Canon := .same h

/-! ## Choices and repetitions -/

theorem State.Canon.ite {c : Prop} [Decidable c] (hs : s.Canon) (ht : t.Canon) : (if c then s else t).Canon := by
  split
  · exact hs
  · exact ht

theorem State.Canon.dite {c : Prop} [Decidable c] {f : c → State} {g : ¬c → State} (hf : ∀ hc, (f hc).Canon) (hg : ∀ hc, (g hc).Canon) :
    (if hc : c then f hc else g hc).Canon := by
  split
  · exact hf _
  · exact hg _

theorem State.Canon.elim {α : Type} {o : Option α} {f : α → State} (h : s.Canon) (hf : ∀ {a}, s.Canon → (f a).Canon) :
    (o.elim s f).Canon := by
  cases o with
  | none => exact h
  | some a => exact hf h

theorem State.Canon.when {b : Bool} {g : State → State} (h : s.Canon) (hg : ∀ {s : State}, s.Canon → (g s).Canon) : (s.when b g).Canon :=
  State.when_keeps h hg

theorem State.Canon.over {α : Type} {l : List α} {g : State → α → State} (h : s.Canon) (hg : ∀ {s : State} {a}, s.Canon → (g s a).Canon) :
    (s.over l g).Canon :=
  State.over_keeps h fun _ _ _ h => hg h

theorem State.Canon.foldl {α : Type} {l : List α} {g : State → α → State} (h : s.Canon) (hg : ∀ {s : State} {a}, s.Canon → (g s a).Canon) :
    (l.foldl g s).Canon := State.Canon.over h hg

/-- The state of a pair that a match has taken apart. -/
theorem State.Canon.sndOf {α : Type} {p : α × State} {a : α} (h : p.2.Canon) (e : p = (a, t)) : t.Canon := by rw [e] at h; exact h

theorem State.Canon.fstOf {α : Type} {p : State × α} {a : α} (h : p.1.Canon) (e : p = (t, a)) : t.Canon := by rw [e] at h; exact h
end


section
variable {s : State}

/-! ## Machine/Operands -/

theorem State.Canon.putRail (h : s.Canon) {f : Fld} {r v : Nat} : (s.putRail f r v).Canon := .over h fun h => .put h

theorem State.Canon.wrEng (h : s.Canon) {a : Nat} {l : List Byte} : (s.wrEng a l).Canon := .wrBytes (.same h)

theorem State.Canon.bankFill (h : s.Canon) {t e b law : Nat} {l : List Byte} : (s.bankFill t e b law l).Canon := .putAt (.wrEng h)

theorem State.Canon.bankWord (h : s.Canon) {t e b i : Nat} {v : Word} : (s.bankWord t e b i v).Canon := .clrAt (.wrEng h)

theorem State.Canon.wrData (h : s.Canon) {t e i : Nat} {v : Word} : (s.wrData t e i v).Canon := .wrEng h

theorem State.Canon.putBitAt (h : s.Canon) {f : Fld} {n : Nat} {v : Bool} : (s.putBitAt f n v).Canon := .putAt h

theorem State.Canon.once (h : s.Canon) {n : Nat} : (s.once n).Canon := .putBitAt h

theorem State.Canon.onceMgr (h : s.Canon) {k : Nat} : (s.onceMgr k).Canon := .once h

/-! ## Machine/Awl -/

theorem State.Canon.awlError (h : s.Canon) {kind t u : Nat} : (s.awlError kind t u).Canon := .ite h (.ite (.same (.same h)) (.same h))

/-! ## Machine/Journal -/

theorem State.Canon.jrnPush (h : s.Canon) {e : JEntry} : (s.jrnPush e).Canon := .same h

theorem State.Canon.journal (h : s.Canon) {origin kind tag status target code arg : Nat} :
    (s.journal origin kind tag status target code arg).Canon := by
  unfold State.journal
  exact .putB (.put (.put (.jrnPush h)))

theorem State.Canon.jReg (h : s.Canon) {w : Who} {f : Fld} {i j target kind status : Nat} : (s.jReg w f i j target kind status).Canon := .journal h

theorem State.Canon.jDone (h : s.Canon) {w : Who} {f : Fld} {i target : Nat} : (s.jDone w f i target).Canon := .jReg h

theorem State.Canon.jRefused (h : s.Canon) {w : Who} {f : Fld} {i target status : Nat} : (s.jRefused w f i target status).Canon := .jReg h

theorem State.Canon.jAction (h : s.Canon) {status target code arg : Nat} : (s.jAction status target code arg).Canon := .journal h

theorem State.Canon.accept (h : s.Canon) {kind : CmdKind} {origin tag target code arg : Nat} {started : Bool} :
    (s.accept kind origin tag target code arg started).Canon := by
  unfold State.accept
  exact .same (.journal h)

theorem State.Canon.acceptReg (h : s.Canon) {w : Who} {kind : CmdKind} {f : Fld} {i target : Nat} {started : Bool} :
    (s.acceptReg w kind f i target started).Canon :=
  .accept h

theorem State.Canon.jComplete (h : s.Canon) {c : Cmd} {status result : Nat} : (s.jComplete c status result).Canon := .journal h

theorem State.Canon.complete (h : s.Canon) {kind : CmdKind} {status result : Nat} : (s.complete kind status result).Canon := by
  unfold State.complete
  exact .over (.same h) fun h => .jComplete h

theorem State.Canon.acceptRun (h : s.Canon) {w : Who} {f : Fld} {i target : Nat} : (s.acceptRun w f i target).Canon := .acceptReg h

theorem State.Canon.endRun (h : s.Canon) {f : Fld} {i : Nat} {ok : Bool} : (s.endRun f i ok).Canon := .complete h

theorem State.Canon.start (h : s.Canon) {kind : CmdKind} : (s.start kind).Canon := .same h

/-! ## Machine/Backbone -/

theorem State.Canon.crcError (h : s.Canon) {u : Nat} : (s.crcError u).Canon := .ite (.bump h) (.bump h)

theorem State.Canon.noteCopy (h : s.Canon) {path : FramePath} {l : Nat} {ok : Bool} : (s.noteCopy path l ok).Canon := by
  unfold State.noteCopy
  split
  · exact .ite (.clrAt h) (.bumpAt h)

theorem State.Canon.frameReceive (h : s.Canon) {path : FramePath} {ok0 ok1 : Bool} : (s.frameReceive path ok0 ok1).Canon := by
  unfold State.frameReceive
  refine .ite (.noteCopy (.noteCopy h)) ?_
  split
  · exact .crcError (.noteCopy (.noteCopy h))
  · exact .noteCopy (.noteCopy h)

theorem State.Canon.laneError (h : s.Canon) {path : FramePath} {l : Nat} : (s.laneError path l).Canon := by
  unfold State.laneError
  split
  · exact .ite (.awlError h) h
  · exact h

theorem State.Canon.laneFail (h : s.Canon) {path : FramePath} {l : Nat} : (s.laneFail path l).Canon := by
  unfold State.laneFail
  split
  · split
    · exact .ite (.laneError (.putBit h)) h

theorem State.Canon.beatFrame (h : s.Canon) {m : Nat} : (s.beatFrame m).Canon :=
  .ite (.putAt (.putAt (.over h fun h => .clr (.clr (.putAt (.putAt (.putAt h))))))) h

theorem State.Canon.linkWait (h : s.Canon) {m : Nat} : (s.linkWait m).Canon := .ite (.bump (.bump h)) h

theorem State.Canon.beatAdvance (h : s.Canon) {m : Nat} : (s.beatAdvance m).Canon :=
  .ite (.linkWait h) (.ite (.put h) (.when (.when (.put (.linkWait h)) fun h => .put h) fun h => .clr h))

theorem State.Canon.slotTake (h : s.Canon) {t x u e : Nat} : (s.slotTake t x u e).Canon := by
  unfold State.slotTake
  exact .putAt (.clrAt (.clrAt (.putAt (.putAt (.when h fun h => .raiseAt h)))))

theorem State.Canon.slotReceive (h : s.Canon) {t : Nat} {upper : Bool} {slot : Nat} {crcOk : Bool} : (s.slotReceive t upper slot crcOk).Canon := by
  unfold State.slotReceive
  exact .ite h (.ite (.slotTake (.when (.putAt h) fun h => .raiseAt h)) (.crcError (.bumpAt (.putAt (.when (.putAt h) fun h => .raiseAt h)))))

theorem State.Canon.slotLaneFail (h : s.Canon) {t : Nat} {upper : Bool} {lane : Nat} : (s.slotLaneFail t upper lane).Canon := by
  unfold State.slotLaneFail
  exact .ite h (.ite (.putAt (.clrAt (.put (.awlError (.putBit h))))) (.raiseAt (.awlError (.putBit h))))

theorem State.Canon.lockTo (h : s.Canon) {u m : Nat} : (s.lockTo u m).Canon := .put (.put h)

theorem State.Canon.switchTo (h : s.Canon) {u m : Nat} : (s.switchTo u m).Canon := .raise (.bump (.raise (.lockTo h)))

theorem State.Canon.refStop (h : s.Canon) {m : Nat} : (s.refStop m).Canon := by
  unfold State.refStop
  exact .over (.clr (.clr h)) fun h => .clr h

theorem State.Canon.refDrive (h : s.Canon) {m : Nat} : (s.refDrive m).Canon := .raise (.raise h)

theorem State.Canon.busError (h : s.Canon) {w : Who} {m : Nat} : (s.busError w m).Canon := .putAt h

theorem State.Canon.served (h : s.Canon) {w : Who} {m : Nat} : (s.served w m).Canon := .putAt h

theorem State.Canon.sscWrite (h : s.Canon) {w : Who} {m mode : Nat} : (s.sscWrite w m mode).Canon :=
  .ite (.busError h) (.ite (.served h) (.ite (.refStop (.put (.raise (.raise (.put (.served h)))))) (.refStop (.put (.raise (.raise (.put (.served
    h))))))))

theorem State.Canon.relockDone (h : s.Canon) : s.relockDone.Canon := by
  unfold State.relockDone
  exact .ite (.refStop (.put (.over (.refDrive h) fun h => .switchTo (.raise h)))) (.ite (.clr (.clr (.clr (.when (.refDrive h) fun h => .over h
    fun h => .switchTo (.raise h))))) h)

theorem State.Canon.refEdgeLoss (h : s.Canon) {u : Nat} : (s.refEdgeLoss u).Canon := by
  unfold State.refEdgeLoss
  exact .ite (.raise (.put (.clr h))) h

theorem State.Canon.refValid (h : s.Canon) {u m : Nat} : (s.refValid u m).Canon :=
  .ite h (.ite (.ite (.lockTo (.raise (.refDrive h))) (.ite (.ite (.lockTo (.raise (.refDrive h))) (.raise (.refDrive h))) (.ite (.raise (.refDrive
    h)) (.switchTo (.raise (.refDrive h)))))) (.ite (.raise (.switchTo (.raise (.refDrive h)))) (.raise (.refDrive h))))

theorem State.Canon.holdoverExpire (h : s.Canon) {u : Nat} : (s.holdoverExpire u).Canon := .ite (.raise (.put h)) h

theorem State.Canon.settlingEnd (h : s.Canon) {u : Nat} : (s.settlingEnd u).Canon := .clr (.clr h)

theorem State.Canon.refFollowRole (h : s.Canon) {m : Nat} : (s.refFollowRole m).Canon := .over h fun h => .ite (.switchTo h) h

theorem State.Canon.xtalFail (h : s.Canon) {m : Nat} : (s.xtalFail m).Canon := .raise (.refStop (.raise h))

theorem State.Canon.xtalCompare (h : s.Canon) {failA failB : Bool} : (s.xtalCompare failA failB).Canon := by
  unfold State.xtalCompare
  exact .ite (.ite (.putB (.putB h)) (.raise (.putB (.putB h)))) (.ite (.xtalFail (.putB (.putB h))) (.ite (.xtalFail (.putB (.putB h))) (.putB
    (.putB h))))

theorem State.Canon.rootLockLoss (h : s.Canon) {m : Nat} : (s.rootLockLoss m).Canon := .ite (.refStop (.raise h)) h

/-! ## Machine/Phase -/

theorem State.Canon.event (h : s.Canon) {p b : Nat} : (s.event p b).Canon := .putBit h

theorem State.Canon.railEventOn (h : s.Canon) {t r b : Nat} : (s.railEventOn t r b).Canon := .over h fun h => .event h

theorem State.Canon.railEvent (h : s.Canon) {r b : Nat} : (s.railEvent r b).Canon := .over h fun h => .event h

theorem State.Canon.toMid (h : s.Canon) {p : Nat} : (s.toMid p).Canon := by
  unfold State.toMid
  exact .clr (.clr (.raise (.raise (.put (.when h fun h => .raise h)))))

theorem State.Canon.stageOn (h : s.Canon) {p : Nat} : (s.stageOn p).Canon := .putBit h

theorem State.Canon.stageCheck (h : s.Canon) {p : Nat} : (s.stageCheck p).Canon := by
  unfold State.stageCheck
  exact .ite (.putBit h) h

theorem State.Canon.engineStop (h : s.Canon) {p : Nat} : (s.engineStop p).Canon := by
  unfold State.engineStop
  exact .clr (.clr (.clr (.clr (.clr (.clr (.clr h))))))

theorem State.Canon.bankTo (h : s.Canon) {p b : Nat} : (s.bankTo p b).Canon := .ite h (.raise (.clr (.put h)))

theorem State.Canon.engineStart (h : s.Canon) {p : Nat} : (s.engineStart p).Canon :=
  .ite h (.raise (.raise (.put (.bankTo (.over (.clr (.clr (.clr (.clr (.raise (.clr (.clr (.clr (.over (.clr (.clr (.clr (.clr (.clrAt (.clrAt
    (.over h fun h => .clrAt h))))))) fun h => .clrAt h))))))))) fun h => .clr h)))))

theorem State.Canon.probeOver (h : s.Canon) {p : Nat} : (s.probeOver p).Canon := .clr (.clr h)

theorem State.Canon.unmark (h : s.Canon) {p : Nat} : (s.unmark p).Canon := .clr (.clr h)

theorem State.Canon.toOff (h : s.Canon) {p : Nat} : (s.toOff p).Canon := by
  unfold State.toOff
  exact .stageCheck (.clr (.clr (.clr (.probeOver (.clr (.clr (.unmark (.clr (.put (.put (.engineStop h)))))))))))

theorem State.Canon.toBlocked (h : s.Canon) {p : Nat} : (s.toBlocked p).Canon := by
  unfold State.toBlocked
  exact .stageCheck (.probeOver (.unmark (.toMid (.put (.engineStop h)))))

theorem State.Canon.toProbe (h : s.Canon) {p : Nat} : (s.toProbe p).Canon := by
  unfold State.toProbe
  exact .ite (.engineStart (.stageOn (.put (.toMid h)))) (.stageOn (.put (.toMid h)))

theorem State.Canon.toActive (h : s.Canon) {p : Nat} : (s.toActive p).Canon := .raise (.put h)

theorem State.Canon.countRepeat (h : s.Canon) {p cause : Nat} : (s.countRepeat p cause).Canon := .ite (.bump h) h

theorem State.Canon.shedNow (h : s.Canon) {p cause : Nat} : (s.shedNow p cause).Canon := by
  unfold State.shedNow
  exact .ite (.raise (.toBlocked (.clr (.countRepeat h)))) (.event (.bump (.raise (.put (.put (.probeOver (.unmark (.toMid (.clr (.countRepeat
    h))))))))))

theorem State.Canon.shed (h : s.Canon) {p cause : Nat} : (s.shed p cause).Canon := .ite (.shedNow h) h

theorem State.Canon.shedAny (h : s.Canon) {p cause : Nat} : (s.shedAny p cause).Canon := .ite h (.shedNow (.ite (.complete h) h))

theorem State.Canon.stageFault (h : s.Canon) {t g : Nat} : (s.stageFault t g).Canon := by
  unfold State.stageFault
  exact .over (.putBit (.putBit h)) fun h => .ite (.raise (.shed h)) h

theorem State.Canon.noStageTemp (h : s.Canon) {t g : Nat} : (s.noStageTemp t g).Canon := .ite (.putAt h) (.putAt h)

theorem State.Canon.unDerate (h : s.Canon) {t g : Nat} : (s.unDerate t g).Canon := .clrAt (.clrAt (.putBit h))

theorem State.Canon.midHoldEnd (h : s.Canon) {p : Nat} : (s.midHoldEnd p).Canon := by
  unfold State.midHoldEnd
  exact .ite (.put (.clr h)) (.clr h)

theorem State.Canon.throttleStep (h : s.Canon) {t r : Nat} : (s.throttleStep t r).Canon := .ite h (.put h)

theorem State.Canon.cycleStart (h : s.Canon) {r t : Nat} : (s.cycleStart r t).Canon := by
  unfold State.cycleStart
  exact .ite h (.over (.raise (.put (.put (.throttleStep h)))) fun h => .put (.when h fun h => .clr (.put h)))

theorem State.Canon.setOnTime (h : s.Canon) {p : Nat} : (s.setOnTime p).Canon := by
  unfold State.setOnTime
  exact .ite (.raise (.bump (.raise (.put h)))) (.put h)

theorem State.Canon.joinActive (h : s.Canon) {p : Nat} : (s.joinActive p).Canon := .ite (.toActive (.clr h)) h

theorem State.Canon.leadingEdge (h : s.Canon) {p : Nat} : (s.leadingEdge p).Canon := by
  unfold State.leadingEdge
  extract_lets s1 s2 mark s3 s4 held s5
  have h2 : s2.Canon := .joinActive (.clr (.clr (.when h fun h => .clr h)))
  have h3 : s3.Canon := .clr h2
  have h4 : s4.Canon := .setOnTime h3
  have h5 : s5.Canon := .clr h4
  exact .ite (.raise (.clr (.toMid h2))) (.ite (.shedNow h2) (.ite h3 (.ite (.raise (.put (.clr (.toMid h2)))) (.ite h3 (.ite h4
    (.ite (.ite h5 (.put h5)) (.put h5)))))))

theorem State.Canon.addParked (h : s.Canon) {p : Nat} : (s.addParked p).Canon := .ite (.toActive (.when h fun h => .clr h)) h

theorem State.Canon.loadSignal (h : s.Canon) {t p k : Nat} : (s.loadSignal t p k).Canon := .ite (.ite (.put h) (.addParked h)) (.put (.put h))

theorem State.Canon.parkOne (h : s.Canon) {r : Nat} : (s.parkOne r).Canon := by
  unfold State.parkOne
  refine .ite h ?_
  refine .ite (.clr h) ?_
  split
  · exact .clr (.raise (.loadSignal h))
  · exact h

theorem State.Canon.addOne (h : s.Canon) {r : Nat} : (s.addOne r).Canon := by
  unfold State.addOne
  refine .ite h ?_
  split
  · exact .raise (.loadSignal (.when (.clr (.over h fun h => .clr (.unmark h))) fun h => .clr h))
  · exact h

theorem State.Canon.addAllParked (h : s.Canon) {t r : Nat} : (s.addAllParked t r).Canon := .over h fun h => .loadSignal h

theorem State.Canon.hostShed (h : s.Canon) {w : Who} {p : Nat} {withAdd : Bool} : (s.hostShed w p withAdd).Canon := by
  unfold State.hostShed
  exact .when (.when (.jDone h) fun h => .raise h) fun h => .put h

theorem State.Canon.readdStart (h : s.Canon) {p : Nat} : (s.readdStart p).Canon := .ite (.raise (.toProbe (.put h))) h

theorem State.Canon.hostAdd (h : s.Canon) {w : Who} {p : Nat} : (s.hostAdd w p).Canon := by
  unfold State.hostAdd
  exact .ite (.raise (.jDone h)) (.ite (.put h) (.ite (.ite (.raise (.readdStart (.acceptReg h))) (.acceptReg h)) (.when (.addParked (.jDone h))
    fun h => .raise h)))

theorem State.Canon.hostUnblock (h : s.Canon) {w : Who} {p : Nat} : (s.hostUnblock w p).Canon := by
  unfold State.hostUnblock
  exact .ite (.toOff (.jDone h)) (.raise (.jDone h))

theorem State.Canon.isoTile (h : s.Canon) {t g : Nat} : (s.isoTile t g).Canon := .putBit h

theorem State.Canon.isoMgr (h : s.Canon) {m g : Nat} : (s.isoMgr m g).Canon := .putBit h

theorem State.Canon.isoRelease (h : s.Canon) {w : Who} {g : Nat} : (s.isoRelease w g).Canon :=
  .ite (.over (.over (.jDone h) fun h => .putBit h) fun h => .putBit h) (.jRefused h)

theorem State.Canon.isoShed (h : s.Canon) {t g : Nat} : (s.isoShed t g).Canon := .ite (.over h fun h => .stageCheck (.shed h)) h

theorem State.Canon.writeOffset (h : s.Canon) {p : Nat} {o : ProbeObs} : (s.writeOffset p o).Canon := .ite (.putI h) h

theorem State.Canon.probeFailed (h : s.Canon) {p v : Nat} : (s.probeFailed p v).Canon := by
  unfold State.probeFailed
  exact .ite (.isoTile (.raise (.toBlocked h))) (.raise (.toBlocked h))

theorem State.Canon.readdComplete (h : s.Canon) {p : Nat} {o : ProbeObs} : (s.readdComplete p o).Canon :=
  .ite h (.ite (.complete (.raise (.raise (.clr (.put (.writeOffset h)))))) (.complete (.probeFailed (.clr (.put (.writeOffset h))))))

/-! ## Machine/Engine -/

theorem State.Canon.setW (h : s.Canon) {x k : Nat} {v : Word} : (s.setW x k v).Canon := .putAt h

theorem State.Canon.setAcc (h : s.Canon) {x k : Nat} {v : Sys2Proof.Acc} : (s.setAcc x k v).Canon := .putAt h

theorem State.Canon.setFlags (h : s.Canon) {x : Nat} {z n c v : Bool} : (s.setFlags x z n c v).Canon := .putB (.putB (.putB (.putB h)))

theorem State.Canon.aluFlags (h : s.Canon) {x : Nat} {r : Alu} : (s.aluFlags x r).Canon := .setFlags h

theorem State.Canon.setAlu (h : s.Canon) {x d : Nat} {r : Alu} : (s.setAlu x d r).Canon := .aluFlags (.setW h)

theorem State.Canon.loadCheckpoint (h : s.Canon) {src dst p : Nat} : (s.loadCheckpoint src dst p).Canon := by
  unfold State.loadCheckpoint
  exact .raise (.event (.clr (.over (.over (.put (.bankTo (.put (.clr (.put (.over (.setFlags (.putAt (.putAt (.over h fun h => .putAt h))))
    fun h => .clrAt h)))))) fun h => .put h) fun h => .putAt h)))

theorem State.Canon.holdDuty (h : s.Canon) {p : Nat} : (s.holdDuty p).Canon := .ite (.put h) h

theorem State.Canon.engineFault (h : s.Canon) {t e kind : Nat} {ckptOk : Bool} : (s.engineFault t e kind ckptOk).Canon :=
  .ite (.ite (.awlError (.shedAny (.put h))) h) (.ite h (.ite (.awlError (.clr (.put h))) (.ite (.clr (.put (.put (.loadCheckpoint (.holdDuty (.clr
    (.awlError (.clr (.put h))))))))) (.shedAny (.awlError (.clr (.put h)))))))

theorem State.Canon.repaired (h : s.Canon) {a : Nat} : (s.repaired a).Canon := .same h

theorem State.Canon.memFault (h : s.Canon) {t e kind : Nat} : (s.memFault t e kind).Canon := .ite h (.engineFault h)

theorem State.Canon.eccRead (h : s.Canon) {t e off : Nat} : (s.eccRead t e off).1.Canon := by
  unfold State.eccRead
  extract_lets
  split
  · exact h
  · exact .awlError (.repaired (.bump h))
  · exact .awlError (.memFault h)
  · exact .wrEng (.draw h)

theorem State.Canon.engExec (h : s.Canon) {t e : Nat} {g : State → Nat → Nat → State} (hg : ∀ {s : State} {a1 : Nat} {a2 : Nat}, s.Canon → (g s a1
    a2).Canon) :
    (s.engExec t e g).Canon := by
  unfold State.engExec
  exact .ite (.ite (hg (.put (.put (.eccRead h)))) (.eccRead h)) h

theorem State.Canon.engAlu (h : s.Canon) {t e : Nat} {d a b : Fin 16} {f : Word → Word → Alu} : (s.engAlu t e d a b f).Canon :=
  .engExec h fun h => .setAlu h

theorem State.Canon.accumulate (h : s.Canon) {x i : Nat} {k : Fin 2} {y : Int} : (s.accumulate x i k y).Canon := by
  unfold State.accumulate
  split
  · exact .when (.setAcc h) fun h => .raise h

theorem State.Canon.stage (h : s.Canon) {x port : Nat} {v : Word} : (s.stage x port v).Canon := .raiseAt (.putAt h)

theorem State.Canon.bankWrite (h : s.Canon) {t e : Nat} {bank : Bool} {idx : Nat} {v : Word} : (s.bankWrite t e bank idx v).Canon := by
  unfold State.bankWrite
  exact .ite (.raise h) (.ite (.bankWord h) (.raise (.clr (.bankWord h))))

theorem State.Canon.bankCrcDone (h : s.Canon) {t e : Nat} : (s.bankCrcDone t e).Canon := by
  unfold State.bankCrcDone
  exact .ite (.clr (.raise (.put h))) h

theorem State.Canon.swapArm (h : s.Canon) {w : Who} {t r : Nat} : (s.swapArm w t r).Canon := by
  unfold State.swapArm
  exact .ite (.jRefused (.raise h)) (.raise (.acceptRun h))

theorem State.Canon.checkpoint (h : s.Canon) {x p : Nat} : (s.checkpoint x p).Canon := by
  unfold State.checkpoint
  exact .put (.put (.put (.over (.over (.over h fun h => .putAt h) fun h => .putAt h) fun h => .putAt h)))

theorem State.Canon.swapEngine (h : s.Canon) {p : Nat} : (s.swapEngine p).Canon := by
  unfold State.swapEngine
  exact .when (.putBit (.raise (.clr (.clr (.clr (.bankTo h)))))) fun h => .checkpoint h

theorem State.Canon.bankSwap (h : s.Canon) {t r : Nat} : (s.bankSwap t r).Canon := by
  unfold State.bankSwap
  exact .ite (.endRun (.raise (.clr (.put (.over h fun h => .ite h (.ite (.swapEngine h) (.raise h))))))) h

theorem State.Canon.failInj (h : s.Canon) {w : Who} {p : Nat} {ckptOk : Bool} : (s.failInj w p ckptOk).Canon := by
  unfold State.failInj
  exact .engineFault (.jDone h)

theorem State.Canon.endHold (h : s.Canon) {p : Nat} : (s.endHold p).Canon := .ite (.put h) h

theorem State.Canon.takeoverDone (h : s.Canon) {t : Nat} : (s.takeoverDone t).Canon := by
  unfold State.takeoverDone
  exact .ite (.clr (.bump (.raise (.raise (.raise (.endHold h)))))) (.ite (.endRun (.clr (.put (.clr (.clr (.endHold (.when h fun h => .clr h)))))))
    h)

theorem State.Canon.handback (h : s.Canon) {w : Who} {t : Nat} : (s.handback w t).Canon := by
  unfold State.handback
  exact .ite (.put (.clr (.clr (.loadCheckpoint (.holdDuty (.acceptRun h)))))) (.jRefused (.raise h))

/-! ## Machine/Setpoint -/

theorem State.Canon.presentVset (h : s.Canon) {t r : Nat} : (s.presentVset t r).Canon := by
  unfold State.presentVset
  exact .put h

theorem State.Canon.spDone (h : s.Canon) {t r : Nat} {soft : Bool} : (s.spDone t r soft).Canon := by
  unfold State.spDone
  exact .when (.ite (.putAt (.clr (.clr (.raise (.raise (.clr (.when (.railEventOn h) fun h => .put h))))))) (.clr (.put (.railEventOn h))))
    fun h => .over h fun h => .complete h

theorem State.Canon.spStep (h : s.Canon) {t r : Nat} : (s.spStep t r).Canon := by
  unfold State.spStep
  exact .presentVset (.ite (.when h fun h => .put h) (.ite (.ite (.put (.put (.when h fun h => .put h))) (.spDone (.put (.put (.when h fun h => .put
    h))))) (.ite (.spDone (.put (.put (.when h fun h => .put h)))) (.put (.when h fun h => .put h)))))

theorem State.Canon.softStart (h : s.Canon) {r v2 : Nat} : (s.softStart r v2).Canon :=
  .over h fun h => .presentVset (.railEventOn (.putB (.clr (.raise (.clr (.clr (.put (.put (.put h)))))))))

theorem State.Canon.spHold (h : s.Canon) {r : Nat} : (s.spHold r).Canon := .over h fun h => .clr (.clr (.clr (.put h)))

theorem State.Canon.setpointStart (h : s.Canon) {r target : Nat} : (s.setpointStart r target).Canon :=
  .over h fun h => .railEventOn (.ite (.raise (.put h)) (.raise (.put (.put h))))

theorem State.Canon.setpointWrite (h : s.Canon) {w : Who} {r target : Nat} {stopSameTick : Bool} :
    (s.setpointWrite w r target stopSameTick).Canon := by
  unfold State.setpointWrite
  exact .ite (.when (.putRail h) fun h => .jRefused h) (.ite (.putRail (.when h fun h => .jDone h)) (.ite (.complete (.acceptReg h)) (.ite
    (.setpointStart (.putRail (.acceptReg h))) (.putRail (.acceptReg h)))))

theorem State.Canon.lawSelect (h : s.Canon) {r law : Nat} : (s.lawSelect r law).Canon :=
  .ite (.putRail h) (.ite h (.ite (.putRail h) (.putAt (.putRail h))))

theorem State.Canon.lawCopied (h : s.Canon) {r : Nat} : (s.lawCopied r).Canon := by
  unfold State.lawCopied
  exact .putAt (.putRail (.over h fun h => .raise (.clr (.put (.bankFill (.bankFill h))))))

/-! ## Machine/Cinch -/

theorem State.Canon.capTrigger (h : s.Canon) {t kind : Nat} : (s.capTrigger t kind).Canon := .ite (.put (.raise (.raise h))) h

theorem State.Canon.capTriggerRail (h : s.Canon) {r kind : Nat} : (s.capTriggerRail r kind).Canon := .over h fun h => .ite (.capTrigger h) h

theorem State.Canon.windowUpdate (h : s.Canon) {t r : Nat} : (s.windowUpdate t r).Canon := by
  unfold State.windowUpdate
  exact .ite h (.putI h)

theorem State.Canon.windowTick (h : s.Canon) {i : Nat} : (s.windowTick i).Canon := .bump (.bump (.over h fun h => .put h))

theorem State.Canon.levelSense (h : s.Canon) {i v : Nat} : (s.levelSense i v).Canon := by
  unfold State.levelSense
  exact .ite (.raise h) (.ite (.clr h) h)

theorem State.Canon.fire (h : s.Canon) {p : Nat} : (s.fire p).Canon := .ite h (.ite (.raise h) (.put (.raise h)))

theorem State.Canon.fireTile (h : s.Canon) {t r : Nat} : (s.fireTile t r).Canon := by
  unfold State.fireTile
  exact .railEventOn (.put (.raise (.raise (.over (.when h fun h => .over h fun h => .addParked h) fun h => .fire h))))

theorem State.Canon.cancelPulses (h : s.Canon) {t r : Nat} : (s.cancelPulses t r).Canon := .over h fun h => .put h

theorem State.Canon.cutForecast (h : s.Canon) {t r : Nat} : (s.cutForecast t r).Canon := by
  unfold State.cutForecast
  exact .ite (.bump (.raise (.over h fun h => .clr h))) (.over h fun h => .clr h)

theorem State.Canon.cinchTrip (h : s.Canon) {t r v : Nat} {onBoundary : Bool} : (s.cinchTrip t r v onBoundary).Canon := by
  unfold State.cinchTrip
  exact .ite (.capTriggerRail (.over (.cutForecast (.putB (.clr (.clr (.put (.raise (.raise (.put (.bump (.raise (.levelSense h)))))))))))
    fun h => .fireTile h)) (.levelSense h)

theorem State.Canon.fireEnd (h : s.Canon) {p : Nat} {inOn : Bool} : (s.fireEnd p inOn).Canon :=
  .ite (.ite (.clr h) (.ite (.put (.clr h)) (.ite (.toMid (.clr h)) (.put (.clr h))))) h

theorem State.Canon.ipkCut (h : s.Canon) {p : Nat} {inOn : Bool} : (s.ipkCut p inOn).Canon := by
  unfold State.ipkCut
  exact .ite (.bump (.clr (.fireEnd h))) h

theorem State.Canon.cinchRelease (h : s.Canon) {t r v : Nat} : (s.cinchRelease t r v).Canon := by
  unfold State.cinchRelease
  exact .ite (.over (.when (.clr (.raise (.levelSense h))) fun h => .raise h) fun h => .over (.put (.clr h)) fun h => .fireEnd h) (.levelSense h)

theorem State.Canon.handoverEnd (h : s.Canon) {t r : Nat} : (s.handoverEnd t r).Canon := by
  unfold State.handoverEnd
  exact .ite (.over (.clr (.clr h)) fun h => .railEventOn (.raise (.clr (.putI (.put h))))) h

theorem State.Canon.fcDrop (h : s.Canon) {t r : Nat} : (s.fcDrop t r).Canon := by
  unfold State.fcDrop
  exact .ite (.clr (.clr (.cancelPulses (.bump h)))) h

theorem State.Canon.fcAccept (h : s.Canon) {t r : Nat} {w : Word} : (s.fcAccept t r w).Canon := by
  unfold State.fcAccept
  exact .ite (.fcDrop (.put (.bump h))) (.clr (.raise (.clr (.clr (.put (.put (.put (.put (.put (.put (.when (.railEventOn (.fcDrop (.put (.bump
    h)))) fun h => .addAllParked h)))))))))))

theorem State.Canon.fcWord (h : s.Canon) {t : Nat} {portB : Bool} {w : Word} {stopOk lostToA : Bool} : (s.fcWord t portB w stopOk lostToA).Canon :=
  .ite h (.ite (.once (.bump (.clr h))) (.ite (.clr h) (.ite (.fcAccept (.clr h)) (.bump (.clr h)))))

theorem State.Canon.fcFireStart (h : s.Canon) {t r : Nat} : (s.fcFireStart t r).Canon := by
  unfold State.fcFireStart
  refine .ite ?_ h
  refine .ite (.when (.raise h) fun h => .bump h) ?_
  split
  · exact .over (.when (.when (.raise h) fun h => .bump h) fun h => .raise h) fun h => .put (.put (.put (.put h)))

theorem State.Canon.pulseStart (h : s.Canon) {p : Nat} : (s.pulseStart p).Canon := by
  unfold State.pulseStart
  exact .ite h (.ite (.put h) (.fire (.put (.put (.put h)))))

theorem State.Canon.pulseEnd (h : s.Canon) {p : Nat} : (s.pulseEnd p).Canon := .ite (.fireEnd (.put h)) h

theorem State.Canon.fcExpire (h : s.Canon) {t r : Nat} : (s.fcExpire t r).Canon := by
  unfold State.fcExpire
  exact .ite (.clr (.clr (.once (.bump (.railEventOn h))))) h

theorem State.Canon.fcJudge (h : s.Canon) {t r : Nat} : (s.fcJudge t r).Canon := by
  unfold State.fcJudge
  exact .ite (.ite (.clr (.clr (.bump h))) (.fcExpire h)) h

/-! ## Machine/Faults -/

theorem State.Canon.snapTrigger (h : s.Canon) {cause rail : Nat} : (s.snapTrigger cause rail).Canon :=
  .ite h (.ite (.bump (.putBit h)) (.over (.put (.put (.put (.put (.raise h))))) fun h => .capTrigger h))

theorem State.Canon.fltAssert (h : s.Canon) {cls : Nat} : (s.fltAssert cls).Canon := .ite (.putBit (.raise h)) h

theorem State.Canon.jRail (h : s.Canon) {f : Fld} {r status : Nat} : (s.jRail f r status).Canon := .jAction h

/-! ## Machine/Sense -/

theorem State.Canon.pairNote (h : s.Canon) {t p code spare : Nat} : (s.pairNote t p code spare).Canon := by
  unfold State.pairNote
  exact .ite (.put (.put h)) h

theorem State.Canon.diagNote (h : s.Canon) {t n : Nat} {x : Int} : (s.diagNote t n x).Canon := by
  unfold State.diagNote
  exact .ite (.putAt (.putIAt h)) h

theorem State.Canon.dischargeSample (h : s.Canon) {p : Nat} : (s.dischargeSample p).Canon :=
  .ite h (.ite (.ite (.raise (.toMid h)) h) (.ite (.ite (.clr (.put h)) h) h))

theorem State.Canon.fallLow (h : s.Canon) {p : Nat} : (s.fallLow p).Canon := .ite (.toMid h) (.put h)

theorem State.Canon.limitAct (h : s.Canon) {p : Nat} : (s.limitAct p).Canon := by
  unfold State.limitAct
  exact .fallLow (.bump (.raise (.clr (.clr (.raise (.when h fun h => .bump h))))))

theorem State.Canon.diodeMid (h : s.Canon) {p : Nat} {inOn : Bool} : (s.diodeMid p inOn).Canon := .ite (.toMid h) h

theorem State.Canon.phaseCode (h : s.Canon) {p code : Nat} {inOn : Bool} : (s.phaseCode p code inOn).Canon :=
  .ite (.diagNote h) (.when (.ite (.limitAct (.ipkCut (.put (.put (.put h))))) (.dischargeSample (.diodeMid (.ipkCut (.put (.put (.put h)))))))
    fun h => .shed (.raise h))

theorem State.Canon.phaseScan (h : s.Canon) {p : Nat} {level spare : Sys2Proof.Level} : (s.phaseScan p level spare).Canon := by
  unfold State.phaseScan
  split
  · exact h
  · exact .phaseCode (.pairNote h)

theorem State.Canon.channelConvert (h : s.Canon) {t c : Nat} {a b : Nat × Nat} : (s.channelConvert t c a b).1.Canon := by
  unfold State.channelConvert
  exact .putAt (.when (.putAt (.putAt (.putAt h))) fun h => .raiseAt h)

theorem State.Canon.senseConversion (h : s.Canon) {t c : Nat} {a b : Nat × Nat} : (s.senseConversion t c a b).Canon := by
  unfold State.senseConversion
  extract_lets
  split
  next e =>
    exact .ite (.diagNote (.fstOf (.channelConvert h) e)) (.over (.fstOf (.channelConvert h) e) fun h => .put (.over (.putAt h) fun h => .putAt h))

theorem State.Canon.senseLevels (h : s.Canon) {t c : Nat} {a b spare : Sys2Proof.Level} : (s.senseLevels t c a b spare).Canon := by
  unfold State.senseLevels
  exact .senseConversion (.pairNote (.pairNote h))

theorem State.Canon.skewRun (h : s.Canon) {t m : Nat} : (s.skewRun t m).Canon := .ite h (.raise (.put h))

theorem State.Canon.skewCommand (h : s.Canon) {w : Who} {t : Nat} : (s.skewCommand w t).Canon := .ite (.jDone h) (.skewRun (.acceptRun h))

theorem State.Canon.streak (h : s.Canon) {f : Fld} {i j : Nat} {b : Bool} : (s.streak f i j b).Canon := .ite (.bumpAt h) (.clrAt h)

theorem State.Canon.since (h : s.Canon) {f : Fld} {i j : Nat} {b : Bool} : (s.since f i j b).Canon := .ite (.clrAt h) (.when h fun h => .putAt h)

theorem State.Canon.vinCheck (h : s.Canon) {g : Nat} : (s.vinCheck g).Canon := .since h

theorem State.Canon.vinWindow (h : s.Canon) {t g : Nat} {f : Fld} {bad : Bool} : (s.vinWindow t g f bad).Canon := by
  unfold State.vinWindow
  exact .ite (.over (.streak h) fun h => .putBit h) (.streak h)

theorem State.Canon.vinReading (h : s.Canon) {t g code : Nat} : (s.vinReading t g code).Canon :=
  .ite h (.vinCheck (.vinWindow (.vinWindow (.putAt h))))

theorem State.Canon.putStageTemp (h : s.Canon) {t k v : Nat} : (s.putStageTemp t k v).Canon := .putAt h

theorem State.Canon.stageReading (h : s.Canon) {t k code : Nat} : (s.stageReading t k code).Canon := by
  unfold State.stageReading
  extract_lets
  split
  · exact .clrAt (.clrAt (.putBit (.putStageTemp (.when h fun h => .putBit h))))
  · exact .when (.when (.streak (.streak (.putStageTemp (.when h fun h => .putBit h)))) fun h => .putBit h) fun h => .putBit h

theorem State.Canon.tvcConvert (h : s.Canon) {t : Nat} {level : Sys2Proof.Level} : (s.tvcConvert t level).Canon :=
  .ite h (.ite (.vinReading (.put h)) (.ite (.stageReading (.put h)) (.put h)))

theorem State.Canon.diagStart (h : s.Canon) {t : Nat} : (s.diagStart t).Canon := by
  unfold State.diagStart
  exact .ite (.put (.over (.put (.put (.raise h))) fun h => .clrAt (.clrAt h))) (.raise (.put h))

theorem State.Canon.igCompare (h : s.Canon) {m g : Nat} {i : Int} : (s.igCompare m g i).Canon := by
  unfold State.igCompare
  exact .ite (.snapTrigger (.over (.raiseAt (.raiseAt (.isoMgr (.when (.streak h) fun h => .clrAt h)))) fun h => .railEvent h)) (.when (.streak h)
    fun h => .clrAt h)

theorem State.Canon.groupEnergy (h : s.Canon) {m g : Nat} {p : Int} : (s.groupEnergy m g p).Canon := by
  unfold State.groupEnergy
  exact .when (.putAt (.putAt (.putAt h))) fun h => .putBit h

theorem State.Canon.estCurrent (h : s.Canon) {m g : Nat} : (s.estCurrent m g).Canon := by
  unfold State.estCurrent
  exact .ite (.putAt (.draw h)) (.putAt h)

theorem State.Canon.hkConvert (h : s.Canon) {m input code : Nat} : (s.hkConvert m input code).Canon := by
  unfold State.hkConvert
  exact .ite (.when (.putAt (.putAt h)) fun h => .vinCheck h) (.ite (.igCompare (.when (.putAt (.putAt h)) fun h => .groupEnergy (.putAt h))) (.when
    (.estCurrent (.clrAt (.clrAt (.putAt h)))) fun h => .groupEnergy h))

theorem State.Canon.hkNext (h : s.Canon) {m : Nat} {level : Sys2Proof.Level} : (s.hkNext m level).Canon := by
  unfold State.hkNext
  exact .hkConvert (.put h)

theorem State.Canon.railEnergy (h : s.Canon) {i : Nat} {x : Int} : (s.railEnergy i x).Canon := .ite h (.when (.put (.put (.put h))) fun h => .raise h)

theorem State.Canon.windowBegin (h : s.Canon) {t i : Nat} : (s.windowBegin t i).Canon := .ite (.clr (.clr (.clr (.clr (.clr h))))) h

theorem State.Canon.telemetryTick (h : s.Canon) {t r : Nat} : (s.telemetryTick t r).Canon := by
  unfold State.telemetryTick
  exact .railEnergy (.ite (.clr (.put (.put (.putI (.putI (.put (.bump (.windowBegin h)))))))) (.put (.put (.putI (.putI (.put (.bump (.windowBegin
    h))))))))

theorem State.Canon.windowEnd (h : s.Canon) {t r : Nat} : (s.windowEnd t r).Canon := by
  unfold State.windowEnd
  exact .ite (.clr (.putFit (.putFit (.put h)))) h

theorem State.Canon.accLow (h : s.Canon) {w : Who} {a : EnergyAcc} {v : Nat} : (s.accLow w a v).Canon := by
  unfold State.accLow
  split
  · exact .putAt h
  · exact .putAt h

theorem State.Canon.accHigh (h : s.Canon) {w : Who} {a : EnergyAcc} {v : Nat} {inc : Bool} : (s.accHigh w a v inc).Canon := by
  unfold State.accHigh
  split
  · exact .ite h (.when (.clrAt (.clr (.put (.put h)))) fun h => .raise h)
  · exact .ite h (.when (.clrAt (.clrAt (.putAt (.putAt h)))) fun h => .putBit h)

theorem State.Canon.powerEstimate (h : s.Canon) {t : Nat} : (s.powerEstimate t).Canon := .over h fun h => .over (.putAt h) fun h => .putAt h

theorem State.Canon.sumPartials (h : s.Canon) {m g : Nat} : (s.sumPartials m g).Canon := by
  unfold State.sumPartials
  exact .putAt h

theorem State.Canon.estStale (h : s.Canon) {m g : Nat} : (s.estStale m g).Canon := .putBit h

theorem State.Canon.partialSend (h : s.Canon) {t : Nat} : (s.partialSend t).Canon :=
  .over h fun h => .over h fun h => .sumPartials (.estStale (.putBit (.putAt (.putAt h))))

theorem State.Canon.partialStale (h : s.Canon) {m t g : Nat} : (s.partialStale m t g).Canon := by
  unfold State.partialStale
  exact .ite h (.sumPartials (.estStale (.putBit h)))

/-! ## Machine/Rails -/

theorem State.Canon.driveEn (h : s.Canon) {r : Nat} {b : Bool} : (s.driveEn r b).Canon := .putBit h

theorem State.Canon.enFail (h : s.Canon) {r res : Nat} : (s.enFail r res).Canon := by
  unfold State.enFail
  exact .fltAssert (.snapTrigger (.put (.when h fun h => .jAction h)))

theorem State.Canon.enableEnd (h : s.Canon) {r res : Nat} : (s.enableEnd r res).Canon := by
  unfold State.enableEnd
  exact .complete (.when (.putAt (.putAt (.when (.put h) fun h => .raise h))) fun h => .enFail h)

theorem State.Canon.putLive (h : s.Canon) {f : Fld} {r v : Nat} : (s.putLive f r v).Canon := .ite (.putRail h) (.put h)

theorem State.Canon.putRs (h : s.Canon) {r v : Nat} : (s.putRs r v).Canon := .putLive h

theorem State.Canon.phasesOff (h : s.Canon) {r : Nat} : (s.phasesOff r).Canon := .over h fun h => .ite h (.toOff h)

theorem State.Canon.enableAbort (h : s.Canon) {r res : Nat} : (s.enableAbort r res).Canon := by
  unfold State.enableAbort
  exact .enableEnd (.putRs (.phasesOff (.putAt h)))

theorem State.Canon.enableNext (h : s.Canon) {r : Nat} : (s.enableNext r).Canon := by
  unfold State.enableNext
  refine .ite (.putAt h) ?_
  refine .ite (.putAt h) ?_
  split
  · exact .enableAbort h
  · exact .ite (.putAt (.putAt (.putRs (.driveEn h)))) (.over (.putAt (.putAt (.putAt (.putAt (.putAt h))))) fun h => .toProbe h)

theorem State.Canon.enableReady (h : s.Canon) {r : Nat} : (s.enableReady r).Canon := .ite (.enableNext (.start h)) h

theorem State.Canon.enableRetry (h : s.Canon) {r : Nat} : (s.enableRetry r).Canon := .ite (.enableNext h) h

theorem State.Canon.enablesGo (h : s.Canon) : s.enablesGo.Canon := .over h fun h => .enableRetry h

theorem State.Canon.nameStart (h : s.Canon) {r : Nat} : (s.nameStart r).Canon := .over h fun h => .put h

theorem State.Canon.enableStart (h : s.Canon) {r : Nat} {bySeq : Bool} : (s.enableStart r bySeq).Canon := by
  unfold State.enableStart
  exact .ite (.enableNext (.putRs (.putRail (.putAt (.putAt h))))) (.ite (.enableReady (.nameStart (.putAt (.putRs (.putRail (.putAt (.putAt
    h))))))) (.nameStart (.putAt (.putRs (.putRail (.putAt (.putAt h)))))))

theorem State.Canon.halfShow (h : s.Canon) {r : Nat} {runs : Bool} : (s.halfShow r runs).Canon := .ite (.putRail h) h

theorem State.Canon.enablePassed (h : s.Canon) {r v2 : Nat} : (s.enablePassed r v2).Canon := by
  unfold State.enablePassed
  exact .softStart (.halfShow (.putRs (.putAt (.putAt (.over h fun h => .ite (.toActive h) h)))))

theorem State.Canon.spCancel (h : s.Canon) {r : Nat} : (s.spCancel r).Canon := by
  unfold State.spCancel
  exact .spHold (.over h fun h => .complete h)

theorem State.Canon.stopRegulated (h : s.Canon) {r : Nat} : (s.stopRegulated r).Canon := by
  unfold State.stopRegulated
  exact .over (.spCancel (.over h fun h => .cancelPulses (.fcExpire (.clr (.railEventOn h))))) fun h => .when h fun h => .put h

theorem State.Canon.stopBegin (h : s.Canon) {r tmo : Nat} {bySeq : Bool} : (s.stopBegin r tmo bySeq).Canon := by
  unfold State.stopBegin
  exact .putAt (.putAt (.putAt (.putAt (.putAt (.putRs (.putLive (.putLive (.ite (.driveEn h) (.stopRegulated h)))))))))

theorem State.Canon.railStop (h : s.Canon) {r tmo : Nat} {bySeq : Bool} : (s.railStop r tmo bySeq).Canon :=
  .ite h (.ite (.when h fun h => .putAt (.putAt h)) (.ite (.enableAbort h) (.stopBegin (.when h fun h => .enableEnd h))))

theorem State.Canon.enableStop (h : s.Canon) {r res : Nat} : (s.enableStop r res).Canon := .ite (.enableAbort h) (.ite (.stopBegin (.enableEnd h)) h)

theorem State.Canon.turnOffEnd (h : s.Canon) {r status : Nat} : (s.turnOffEnd r status).Canon := by
  unfold State.turnOffEnd
  exact .complete (.clrAt (.putAt (.putAt (.putRs (.putLive (.putLive (.halfShow (.spHold (.phasesOff h)))))))))

theorem State.Canon.railOffNow (h : s.Canon) {r : Nat} {stuck : Bool} : (s.railOffNow r stuck).Canon := .turnOffEnd h

theorem State.Canon.enableRail (h : s.Canon) {r : Nat} {bySeq : Bool} : (s.enableRail r bySeq).Canon := .enableStart (.when h fun h => .turnOffEnd h)

theorem State.Canon.dischargeHigh (h : s.Canon) {r : Nat} : (s.dischargeHigh r).Canon := by
  unfold State.dischargeHigh
  exact .ite (.putLive h) h

theorem State.Canon.holdMid (h : s.Canon) {l : List Nat} : (s.holdMid l).Canon := .over h fun h => .raise (.unmark (.toMid h))

/-! ## Machine/Sequencer -/

theorem State.Canon.seqEnd (h : s.Canon) {res : Nat} : (s.seqEnd res).Canon := by
  unfold State.seqEnd
  exact .complete (.clr (.put (.put (.putAt (.putAt (.put (.raise (.clr (.clr (.put h))))))))))

theorem State.Canon.unwindFrom (h : s.Canon) {k : Nat} : (s.unwindFrom k).Canon := by
  unfold State.unwindFrom
  split
  · exact .seqEnd h
  · exact .over (.clr (.put (.put (.put (.put h))))) fun h => .railStop h

theorem State.Canon.unwindPoll {n : Nat} : ∀ {s : State}, s.Canon → (State.unwindPoll n s).Canon := by
  induction n with
  | zero => exact id
  | succ n ih =>
    intro s h
    unfold State.unwindPoll
    exact .ite (ih (.unwindFrom h)) h

theorem State.Canon.seqFail (h : s.Canon) {res : Nat} : (s.seqFail res).Canon := .ite h (.ite (.unwindPoll (.unwindFrom (.clr (.clr h)))) (.seqEnd h))

theorem State.Canon.stageEnd (h : s.Canon) : s.stageEnd.Canon := by
  unfold State.stageEnd
  exact .ite (.put (.put (.put (.clr (.over h fun h => .putBit h))))) (.seqEnd (.clr (.over h fun h => .putBit h)))

theorem State.Canon.localPoll (h : s.Canon) {t : Nat} : (s.localPoll t).Canon := .ite (.ite (.put (.put (.put h))) (.put h)) h

theorem State.Canon.localBegin (h : s.Canon) {t : Nat} : (s.localBegin t).Canon := by
  unfold State.localBegin
  split
  · exact .ite h (.put (.put (.put (.put h))))
  · exact h

theorem State.Canon.localStage (h : s.Canon) {t : Nat} : (s.localStage t).Canon := by
  unfold State.localStage
  exact .ite h (.localPoll (.put (.over h fun h => .railStop h)))

theorem State.Canon.restartPoll {n : Nat} : ∀ {s : State}, s.Canon → (State.restartPoll n s).Canon := by
  induction n with
  | zero => exact id
  | succ n ih =>
    intro s h
    unfold State.restartPoll
    refine .ite h ?_
    split
    · exact .put h
    · have ht {r} := State.Canon.put (State.Canon.putBit h (f := Hid.TSD_QUEUE) (i := 0) (b := r) (v := false)) (f := Hid.TSD_CUR) (i := 0) (v := r)
      exact ih (.ite ht (.ite (.enableStart ht) (.put ht)))

theorem State.Canon.seqWait (h : s.Canon) : s.seqWait.Canon := by
  unfold State.seqWait
  exact .ite (.unwindPoll h) (.ite h (.ite (.ite (.stageEnd h) h) (.ite (.ite (.seqFail h) (.stageEnd h)) h)))

theorem State.Canon.seqPoll (h : s.Canon) : s.seqPoll.Canon := by
  unfold State.seqPoll
  exact .restartPoll (.over (.seqWait h) fun h => .localPoll h)

theorem State.Canon.onRefused (h : s.Canon) {origin tag r : Nat} : (s.onRefused origin tag r).Canon := by
  unfold State.onRefused
  exact .journal (.put h)

theorem State.Canon.railOn (h : s.Canon) {origin tag r : Nat} {withOff : Bool} : (s.railOn origin tag r withOff).Canon := by
  unfold State.railOn
  exact .ite (.journal (.put h)) (.ite (.onRefused h) (.ite (.journal h) (.enableRail (.accept h))))

theorem State.Canon.railOff (h : s.Canon) {origin tag r : Nat} {withOn : Bool} : (s.railOff origin tag r withOn).Canon := by
  unfold State.railOff
  exact .ite (.seqFail (.ite (.journal (.when h fun h => .put h)) (.when (.railStop (.accept (.when h fun h => .put h))) fun h => .complete h)))
    (.seqPoll (.ite (.journal (.when h fun h => .put h)) (.when (.railStop (.accept (.when h fun h => .put h))) fun h => .complete h)))

theorem State.Canon.pgAssert (h : s.Canon) {r : Nat} : (s.pgAssert r).Canon := by
  unfold State.pgAssert
  exact .ite (.seqPoll (.ite (.enableEnd (.put (.putRs (.putLive h)))) (.putLive h))) h

theorem State.Canon.pgLoss (h : s.Canon) {r : Nat} : (s.pgLoss r).Canon := by
  unfold State.pgLoss
  exact .ite (.ite (.seqFail (.bump (.put (.putLive h)))) (.bump (.put (.putLive h)))) h

theorem State.Canon.pgTimeout (h : s.Canon) {r : Nat} : (s.pgTimeout r).Canon := by
  unfold State.pgTimeout
  exact .ite (.seqPoll (.enableStop h)) h

theorem State.Canon.seqBegin (h : s.Canon) {q : Nat} : (s.seqBegin q).Canon := by
  unfold State.seqBegin
  exact .ite (.seqEnd (.clr (.clr (.put (.put (.put (.put (.put (.clr (.put (.put (.put (.raise h))))))))))))) (.clr (.clr (.put (.put (.put (.put
    (.put (.clr (.put (.put (.put (.raise h))))))))))))

theorem State.Canon.seqAbort (h : s.Canon) : s.seqAbort.Canon := by
  unfold State.seqAbort
  exact .over (.seqEnd h) fun h => .railStop h

theorem State.Canon.seqRefused (h : s.Canon) {origin tag q status : Nat} : (s.seqRefused origin tag q status).Canon := by
  unfold State.seqRefused
  exact .ite (.raise (.journal h)) (.putAt (.raise (.put (.put (.journal h)))))

theorem State.Canon.seqRun (h : s.Canon) {origin tag q : Nat} : (s.seqRun origin tag q).Canon := by
  unfold State.seqRun
  exact .ite (.seqRefused h) (.seqBegin (.accept (.when h fun h => .seqAbort h)))

theorem State.Canon.seqReplace (h : s.Canon) {q : Nat} : (s.seqReplace q).Canon := by
  unfold State.seqReplace
  exact .seqBegin (.accept (.ite (.ite (.seqEnd h) (.seqAbort h)) h))

theorem State.Canon.stageOn' (h : s.Canon) {r : Nat} : (s.stageOn' r).Canon := .ite h (.ite (.raise (.put h)) (.ite (.enableRail (.putBit h)) h))

theorem State.Canon.stageStart (h : s.Canon) : s.stageStart.Canon := by
  unfold State.stageStart
  exact .ite h (.seqPoll (.ite (.over (.when (.putB (.clr (.put (.put (.put h))))) fun h => .put h) fun h => .railStop h) (.over (.when (.putB (.clr
    (.put (.put (.put h))))) fun h => .put h) fun h => .stageOn' h)))

theorem State.Canon.stageTimeout (h : s.Canon) : s.stageTimeout.Canon := .ite h (.seqFail (.over h fun h => .enableStop h))

theorem State.Canon.firstTimeout (h : s.Canon) {r : Nat} : (s.firstTimeout r).Canon :=
  .ite (.when (.dischargeHigh (.putRs (.putAt h))) fun h => .raise h) h

theorem State.Canon.secondTimeout (h : s.Canon) {r : Nat} : (s.secondTimeout r).Canon :=
  .ite (.seqPoll (.fltAssert (.snapTrigger (.when (.jRail (.put (.put (.railOffNow h)))) fun h => .raise h)))) h

theorem State.Canon.prestartDone (h : s.Canon) {r : Nat} {obs : List (Phase × ProbeObs)} : (s.prestartDone r obs).Canon :=
  .ite h (.ite (.enablePassed (.over (.over h fun h => .put h) fun h => .ite (.writeOffset h) h)) (.seqPoll (.enableAbort (.over (.over (.over h
    fun h => .put h) fun h => .ite (.writeOffset h) h) fun h => .ite (.toOff h) (.probeFailed h)))))

/-! ## Machine/Protection -/

theorem State.Canon.chDisagree (h : s.Canon) {r : Nat} : (s.chDisagree r).Canon := by
  unfold State.chDisagree
  exact .ite (.clr (.clr (.put h))) h

theorem State.Canon.protectNote (h : s.Canon) {r : Nat} : (s.protectNote r).Canon := by
  unfold State.protectNote
  exact .fltAssert (.snapTrigger (.jRail (.bump (.put h))))

theorem State.Canon.protectOff (h : s.Canon) {r : Nat} : (s.protectOff r).Canon := .ite h (.ite (.enableStop h) (.stopBegin h))

theorem State.Canon.overvoltageOff (h : s.Canon) {r : Nat} : (s.overvoltageOff r).Canon := by
  unfold State.overvoltageOff
  exact .ite (.when (.dischargeHigh (.putAt (.holdMid (.protectOff h)))) fun h => .putRs h) (.protectOff h)

theorem State.Canon.protectAct (h : s.Canon) {r act : Nat} {ov : Bool} : (s.protectAct r act ov).Canon :=
  .ite h (.seqPoll (.when (.ite (.overvoltageOff (.protectNote h)) (.protectOff (.protectNote h))) fun h => .seqRun h))

theorem State.Canon.confirm (h : s.Canon) {r ev : Nat} {f : Fld} {act : Nat} : (s.confirm r ev f act).Canon := by
  unfold State.confirm
  exact .protectAct (.capTriggerRail (.put (.railEvent h)))

theorem State.Canon.confirmAfter (h : s.Canon) {r b : Nat} {n : Fld} {ticks ev : Nat} {f : Fld} {act : Nat} :
    (s.confirmAfter r b n ticks ev f act).Canon := by
  unfold State.confirmAfter
  exact .ite (.confirm (.putBit h)) h

theorem State.Canon.lostShow (h : s.Canon) {r : Nat} : (s.lostShow r).Canon := .when h fun h => .put h

theorem State.Canon.railKill (h : s.Canon) {r : Nat} : (s.railKill r).Canon :=
  .ite h (.ite (.lostShow (.enableAbort (.protectNote h))) (.putAt (.putBit (.putLive (.holdMid (.protectOff (.protectNote h)))))))

theorem State.Canon.lostOff (h : s.Canon) {r : Nat} : (s.lostOff r).Canon := by
  unfold State.lostOff
  exact .ite (.seqPoll (.lostShow (.railOffNow (.putBit h)))) h

/-! ## Machine/Halves -/

theorem State.Canon.lastHalf (h : s.Canon) {t r : Nat} : (s.lastHalf t r).Canon := .put (.railKill h)

theorem State.Canon.rejoinEnd (h : s.Canon) {r : Nat} : (s.rejoinEnd r).Canon :=
  .ite h (.endRun (.putAt (.putAt (.over h fun h => .ite (.toOff (.put (.put (.probeOver (.toMid h))))) (.raise (.put (.put (.probeOver (.toMid
    h)))))))))

theorem State.Canon.halfAnnounce (h : s.Canon) {t r cause : Nat} : (s.halfAnnounce t r cause).Canon := by
  unfold State.halfAnnounce
  exact .ite h (.ite (.lastHalf h) (.holdMid (.bump (.put (.put (.clr (.put (.put (.rejoinEnd h)))))))))

theorem State.Canon.actStandby (h : s.Canon) {r : Nat} {standby : Bool} : (s.actStandby r standby).Canon :=
  .ite h (.over (.putAt h) fun h => .ite (.event (.put h)) h)

theorem State.Canon.survive (h : s.Canon) {t r cause : Nat} : (s.survive t r cause).Canon := by
  unfold State.survive
  exact .snapTrigger (.raise (.over (.over (.put (.put (.when (.raise (.clr (.bump (.put (.put (.over (.rejoinEnd h) fun h => .clr h))))))
    fun h => .clr (.clr (.actStandby h))))) fun h => .addParked h) fun h => .capTrigger h))

theorem State.Canon.downTaken (h : s.Canon) {t r : Nat} : (s.downTaken t r).Canon := .elim h fun h => .clrAt h

theorem State.Canon.halfDeclare (h : s.Canon) {t r : Nat} : (s.halfDeclare t r).Canon := by
  unfold State.halfDeclare
  exact .ite (.downTaken h) (.ite (.ite (.holdMid (.downTaken h)) (.railKill (.downTaken h))) (.ite (.downTaken h) (.ite (.survive (.downTaken h))
    (.ite (.over (.survive (.downTaken h)) fun h => .raise (.put h)) (.survive (.downTaken h))))))

theorem State.Canon.splitYield (h : s.Canon) {r : Nat} : (s.splitYield r).Canon := by
  unfold State.splitYield
  split
  · exact h
  · exact .ite (.actStandby (.put (.put (.halfAnnounce h)))) h

theorem State.Canon.rejoined (h : s.Canon) {r half : Nat} : (s.rejoined r half).Canon := by
  unfold State.rejoined
  exact .over (.putAt (.putAt (.over h fun h => .clr (.clr (.put h))))) fun h => .endRun h

theorem State.Canon.rejoinNext (h : s.Canon) {r : Nat} : (s.rejoinNext r).Canon := by
  unfold State.rejoinNext
  refine .ite h ?_
  extract_lets
  split
  · exact .putAt (.clr (.raise (.toProbe (.put (.put (.put h))))))
  · exact .ite (.putAt (.putAt h)) (.rejoined h)

theorem State.Canon.joinHalf (h : s.Canon) {t u r : Nat} : (s.joinHalf t u r).Canon := .over h fun h => .put h

theorem State.Canon.rejoin (h : s.Canon) {w : Who} {t r : Nat} : (s.rejoin w t r).Canon := by
  unfold State.rejoin
  exact .ite (.jRefused (.raise h)) (.ite (.actStandby (.rejoined (.joinHalf (.jDone h)))) (.rejoinNext (.downTaken (.clr (.putAt (.putAt (.putAt
    (.over (.joinHalf (.acceptRun h)) fun h => .put h))))))))

theorem State.Canon.senseLost (h : s.Canon) {t c : Nat} : (s.senseLost t c).Canon :=
  .over h fun h => .ite (.halfAnnounce h) (.ite (.put h) (.railKill h))

/-! ## Machine/Kerb -/

theorem State.Canon.kerbCause (h : s.Canon) {c : Nat} : (s.kerbCause c).Canon := .putBit h

theorem State.Canon.haltCore (h : s.Canon) {c : Nat} {b : Bool} : (s.haltCore c b).Canon := .putAt h

theorem State.Canon.kerbEnter (h : s.Canon) {c : Nat} : (s.kerbEnter c).Canon := by
  unfold State.kerbEnter
  extract_lets s1 s2 s3 s4
  have h2 : s2.Canon := .snapTrigger (.bump (.kerbCause (.raise (.put h))))
  have h4 : s4.Canon := .haltCore (.haltCore (.fltAssert (.jAction h2)))
  refine .ite (.kerbCause h) (.ite h ?_)
  split
  · exact .seqReplace h4
  · exact .ite (.seqAbort h4) h4

theorem State.Canon.autoRun (h : s.Canon) : s.autoRun.Canon := by
  unfold State.autoRun
  split
  · exact .seqRun h
  · exact h

theorem State.Canon.kerbExit (h : s.Canon) {w : Who} : (s.kerbExit w).Canon :=
  .ite (.autoRun (.put (.haltCore (.haltCore (.clr (.clr (.over (.jDone h) fun h => .clr h))))))) (.jRefused (.raise h))

/-! ## Machine/Thermal -/

theorem State.Canon.levelShow (h : s.Canon) {d : Die} : (s.levelShow d).Canon := by
  unfold State.levelShow
  exact .put h

theorem State.Canon.levelStep (h : s.Canon) {i : Nat} {hi lo on evt : Fld} {x thr : Int} : (s.levelStep i hi lo on evt x thr).Canon := by
  unfold State.levelStep
  exact .when (.when (.streak (.streak h)) fun h => .raise (.raise h)) fun h => .clr h

theorem State.Canon.thermalReading (h : s.Canon) {d : Die} {a b : Int} : (s.thermalReading d a b).Canon := by
  unfold State.thermalReading
  extract_lets
  split
  · exact .streak (.since (.since (.levelShow (.levelStep (.levelStep (.put h))))))
  · exact (.since (.since (.levelShow (.levelStep (.levelStep (.put h))))))
  · exact .streak (.since (.since (.levelShow (.levelStep (.levelStep (.put h))))))

theorem State.Canon.shutPhase (h : s.Canon) {p : Nat} : (s.shutPhase p).Canon := .ite h (.ite (.toMid h) (.when (.shedNow h) fun h => .complete h))

theorem State.Canon.tileShutdown (h : s.Canon) {t : Nat} : (s.tileShutdown t).Canon :=
  .ite h (.seqPoll (.clr (.levelShow (.over (.over (.put (.when (.put (.bump (.raise (.over (.over (.put (.raise h)) fun h => .shutPhase h)
    fun h => .enableStop h)))) fun h => .raise h)) fun h => .railKill h) fun h => .halfAnnounce h))))

theorem State.Canon.restartNote (h : s.Canon) {t : Nat} : (s.restartNote t).Canon := by
  unfold State.restartNote
  exact .put (.putAt (.putAt (.putAt h)))

theorem State.Canon.restartForget (h : s.Canon) {t : Nat} : (s.restartForget t).Canon := .put (.over h fun h => .clrAt h)

theorem State.Canon.restartRails (h : s.Canon) {t : Nat} : (s.restartRails t).Canon := by
  unfold State.restartRails
  exact .ite h (.ite (.clr h) (.seqPoll (.put (.clr h))))

theorem State.Canon.skewDone (h : s.Canon) {t c trim spare : Nat} : (s.skewDone t c trim spare).Canon :=
  .ite (.ite (.putBit (.putAt (.put h))) (.restartRails (.enablesGo (.endRun (.raise (.clr (.putBit (.putAt (.put h))))))))) h

/-! ## Machine/Lane -/

theorem State.Canon.laneCrcErr (h : s.Canon) : s.laneCrcErr.Canon := .bump h

theorem State.Canon.laneSend (h : s.Canon) {kind dest op args : Nat} : (s.laneSend kind dest op args).Canon := by
  unfold State.laneSend
  exact .ite (.put (.clr (.put (.put (.put (.put h)))))) (.put (.put (.put (.clr (.put (.put (.put (.put h))))))))

theorem State.Canon.laneSendHost (h : s.Canon) : s.laneSendHost.Canon := by
  unfold State.laneSendHost
  exact .ite (.complete (.raise (.laneSend (.clr h)))) (.laneSend (.clr h))

theorem State.Canon.laneStage (h : s.Canon) : s.laneStage.Canon := by
  unfold State.laneStage
  split
  · exact .ite (.laneSend (.put h)) (.ite (.laneSend h) h)

theorem State.Canon.laneField (h : s.Canon) : s.laneField.Canon := .ite h (.ite (.put (.clr h)) (.ite h (.ite (.laneSendHost h) (.laneStage h))))

theorem State.Canon.masterCycle (h : s.Canon) {readBackBad : Bool} : (s.masterCycle readBackBad).Canon :=
  .ite h (.ite (.raise (.streak h)) (.ite (.laneField (.put (.put (.put (.streak h))))) (.bump (.streak h))))

theorem State.Canon.laneCycle (h : s.Canon) {readBackBad : Bool} : (s.laneCycle readBackBad).Canon :=
  .ite (.masterCycle h) (.when h fun h => .put h)

theorem State.Canon.laneStageEnd (h : s.Canon) {ok : Bool} : (s.laneStageEnd ok).Canon := by
  unfold State.laneStageEnd
  exact .ite (.clr h) (.ite (.seqPoll (.raise (.clr h))) (.seqFail (.clr h)))

theorem State.Canon.laneRx (h : s.Canon) {status data : Nat} : (s.laneRx status data).Canon := .putAt (.putAt h)

theorem State.Canon.laneReply (h : s.Canon) {src seq status data : Nat} {crc : BitVec 16} : (s.laneReply src seq status data crc).Canon :=
  .ite h (.ite (.laneCrcErr h) (.ite h (.ite (.complete (.raise (.laneRx (.clr (.clr h))))) (.ite (.clr (.clr h)) (.ite (.ite (.clr (.clr h))
    (.laneStageEnd (.clr (.clr h)))) (.ite (.laneStageEnd (.clr (.clr h))) (.ite (.clr (.clr h)) (.laneStageEnd (.clr (.clr h))))))))))

theorem State.Canon.laneMissing (h : s.Canon) : s.laneMissing.Canon := by
  unfold State.laneMissing
  exact .ite h (.ite (.raise (.put (.clr h))) (.ite (.laneStageEnd (.when (.fltAssert (.putBit (.clr (.clr h)))) fun h => .complete (.raise h)))
    (.when (.fltAssert (.putBit (.clr (.clr h)))) fun h => .complete (.raise h))))

theorem State.Canon.laneGo (h : s.Canon) {w : Who} {m : Nat} : (s.laneGo w m).Canon :=
  .ite (.busError h) (.when (.acceptReg (.served h)) fun h => .raise h)

theorem State.Canon.laneStep (h : s.Canon) {d : Nat} : (s.laneStep d).Canon := by
  unfold State.laneStep
  exact .same (.bump (.put (.put (.when h fun h => .put h))))

theorem State.Canon.laneBeat (h : s.Canon) {b : Nat} : (s.laneBeat b).Canon := by
  unfold State.laneBeat
  exact .put (.ite (.clr h) (.ite (.laneStep (.clr h)) (.ite (.put (.clr h)) (.jAction (.clr (.raise (.put (.clr h))))))))

theorem State.Canon.beatFrameIn (h : s.Canon) {beat flags : Nat} {crc : Byte} : (s.beatFrameIn beat flags crc).Canon :=
  .ite h (.ite (.laneCrcErr h) (.ite (.laneBeat (.put h)) (.when h fun h => .raise h)))

theorem State.Canon.laneAnswer (h : s.Canon) {bcast : Bool} {seq status data : Nat} : (s.laneAnswer bcast seq status data).Canon :=
  .ite h (.put (.put (.put (.put (.raise h)))))

theorem State.Canon.laneTake (h : s.Canon) {f : LaneHead} {mayBcast : Bool} {op args status data : Nat} {effect : State → State} (heffect : ∀ {s :
    State}, s.Canon → (effect s).Canon) :
    (s.laneTake f mayBcast op args status data effect).Canon := by
  unfold State.laneTake
  exact .ite h (.ite (.laneCrcErr h) (.ite h (.ite (.laneAnswer (.when h fun h => .clr h)) (.ite (.laneAnswer (heffect (.put (.put (.raise (.when h
    fun h => .clr h)))))) (.laneAnswer (.when (.when h fun h => .clr h) fun h => .journal h))))))

theorem State.Canon.laneDefer (h : s.Canon) {seq d : Nat} {x : LaneWork} : (s.laneDefer seq d x).Canon := .same h

theorem State.Canon.fltRelease (h : s.Canon) : s.fltRelease.Canon := .clr (.clr h)

theorem State.Canon.laneRun (h : s.Canon) {x : LaneDue} : (s.laneRun x).Canon := by
  unfold State.laneRun
  split
  · exact .seqRun h
  · exact .railOn h
  · exact .railOff h
  · exact .snapTrigger h

theorem State.Canon.laneDeadline (h : s.Canon) : s.laneDeadline.Canon := by
  unfold State.laneDeadline
  split
  · exact .laneRun (.same h)
  · exact h

theorem State.Canon.fltSeen (h : s.Canon) : s.fltSeen.Canon :=
  .ite h (.ite (.seqRun (.snapTrigger (.raise (.when h fun h => .raise h)))) (.ite (.kerbEnter (.snapTrigger (.raise (.when h fun h => .raise h))))
    (.snapTrigger (.raise (.when h fun h => .raise h)))))

/-! ## Machine/Slices -/

theorem State.Canon.scanShow (h : s.Canon) {t : Nat} : (s.scanShow t).Canon := by
  unfold State.scanShow
  exact .ite (.put (.draw h)) (.put h)

theorem State.Canon.degrade (h : s.Canon) {t p : Nat} : (s.degrade t p).Canon := by
  unfold State.degrade
  refine .ite (.scanShow (.raiseAt h)) ?_
  refine .ite (.raiseAt (.raiseAt h)) ?_
  split
  · exact .scanShow (.putAt (.putAt (.putBit (.clrAt (.raiseAt (.raiseAt (.raiseAt h)))))))
  · exact .senseLost (.raise (.raiseAt (.raiseAt (.raiseAt h))))

theorem State.Canon.sliceFail (h : s.Canon) {t p : Nat} : (s.sliceFail t p).Canon := by
  unfold State.sliceFail
  exact .ite (.degrade (.awlError h)) (.clr (.put (.raise (.raise (.putBit (.awlError h))))))

theorem State.Canon.rotPassed (h : s.Canon) {t : Nat} : (s.rotPassed t).Canon := .ite h (.putBit h)

theorem State.Canon.rotStart (h : s.Canon) {t : Nat} : (s.rotStart t).Canon :=
  .ite h (.ite (.put (.put (.clr (.clr (.put h))))) (.ite (.put (.clr (.clr (.put h)))) (.put (.put (.clr (.clr (.put h)))))))

theorem State.Canon.rotFree (h : s.Canon) {t : Nat} : (s.rotFree t).Canon := .clr (.put h)

theorem State.Canon.rotCompare (h : s.Canon) {t : Nat} : (s.rotCompare t).Canon :=
  .ite h (.ite (.ite (.put (.clr (.clr h))) (.rotFree (.raise (.clr (.clr h))))) (.ite (.ite (.rotFree (.clr (.clr h))) (.sliceFail (.clr (.clr
    h)))) (.clr (.clr h))))

theorem State.Canon.sliceCalibrated (h : s.Canon) {t p : Nat} {ofs gain : Int} : (s.sliceCalibrated t p ofs gain).Canon :=
  .ite (.when h fun h => .degrade h) (.ite h (.ite (.clr (.clr (.put (.putIAt (.putIAt h))))) (.sliceFail h)))

theorem State.Canon.spareCalibrated (h : s.Canon) {t : Nat} {trims : List (Int × Int)} : (s.spareCalibrated t trims).Canon := by
  unfold State.spareCalibrated
  exact .ite (.ite h (.degrade (.rotFree (.raise (.clr h))))) (.ite h (.ite (.rotPassed (.bump (.rotFree (.over h fun h => .putIAt (.putIAt h)))))
    (.raise (.rotFree h))))

theorem State.Canon.diagPhase (h : s.Canon) {p : Nat} : (s.diagPhase p).Canon := .ite (.shedNow h) (.ite (.toBlocked h) h)

theorem State.Canon.diagShow (h : s.Canon) {t verdict : Nat} {err : Int} {step : Nat} : (s.diagShow t verdict err step).Canon := by
  unfold State.diagShow
  exact .when (.ite (.putAt (.clr (.put (.put (.put h))))) (.ite (.clr (.put (.put (.put h)))) (.diagPhase (.clr (.put (.put (.put h)))))))
    fun h => .hostAdd (.clr h)

theorem State.Canon.diagDone (h : s.Canon) {t : Nat} {beyond within : Bool} : (s.diagDone t beyond within).Canon :=
  .ite (.seqPoll (.enablesGo (.diagShow h))) h

theorem State.Canon.isoSensed (h : s.Canon) {t g : Nat} : (s.isoSensed t g).Canon := .ite (.seqPoll (.over (.isoShed h) fun h => .railStop h)) h

/-! ## Machine/Holdup -/

theorem State.Canon.socShow (h : s.Canon) : s.socShow.Canon := by
  unfold State.socShow
  exact .ite (.put (.putB (.put h))) (.ite (.put (.draw (.putB (.put h)))) (.put (.putB (.put h))))

theorem State.Canon.setFcc (h : s.Canon) {v : Nat} : (s.setFcc v).Canon := .put (.put h)

theorem State.Canon.learnDrop (h : s.Canon) : s.learnDrop.Canon := .clr h

theorem State.Canon.gaugeStore (h : s.Canon) : s.gaugeStore.Canon := by
  unfold State.gaugeStore
  split
  · exact h
  · exact .over h fun h => .put (.put (.clr (.wrFe h)))

theorem State.Canon.packSend (h : s.Canon) {cmd : Nat} {l : List Byte} : (s.packSend cmd l).Canon := by
  unfold State.packSend
  exact .clr (.put h)

theorem State.Canon.authBegin (h : s.Canon) : s.authBegin.Canon :=
  .ite (.raise h) (.ite (.put h) (.ite (.put h) (.ite (.put h) (.packSend (.put (.put h))))))

theorem State.Canon.authSeries (h : s.Canon) : s.authSeries.Canon := .authBegin (.put h)

theorem State.Canon.packSwap (h : s.Canon) {id : Nat} {auth : Bool} : (s.packSwap id auth).Canon := by
  unfold State.packSwap
  exact .gaugeStore (.when (.socShow (.put (.when (.clr (.raise (.clr (.put (.learnDrop (.clr h)))))) fun h => .put (.clr (.clr (.setFcc h))))))
    fun h => .authSeries (.put h))

theorem State.Canon.chgTimer0 (h : s.Canon) : s.chgTimer0.Canon := .put (.over h fun h => .clrAt h)

theorem State.Canon.elapsedShow (h : s.Canon) : s.elapsedShow.Canon := .when h fun h => .put h

theorem State.Canon.chgShow (h : s.Canon) : s.chgShow.Canon := by
  unfold State.chgShow
  exact .putB (.putB (.put h))

theorem State.Canon.chgTo (h : s.Canon) {ph : Nat} : (s.chgTo ph).Canon := .elapsedShow (.chgShow (.clr (.put h)))

theorem State.Canon.chgEval (h : s.Canon) : s.chgEval.Canon := by
  unfold State.chgEval
  exact .ite (.ite (.put (.chgTo h)) (.chgTo h)) (.ite (.ite (.put h) (.put (.chgTo h))) h)

theorem State.Canon.chgDetect (h : s.Canon) : s.chgDetect.Canon := .chgEval (.chgTimer0 (.chgTo h))

theorem State.Canon.chgFault (h : s.Canon) {f : Fld} : (s.chgFault f).Canon := .ite h (.jAction (.put (.chgTo (.raise h))))

theorem State.Canon.chgEnable (h : s.Canon) {en : Bool} : (s.chgEnable en).Canon := by
  unfold State.chgEnable
  exact .ite (.ite (.chgDetect (.putB h)) (.chgTimer0 (.putB h))) (.ite (.put (.chgTo (.putB h))) (.putB h))

theorem State.Canon.chgBegin (h : s.Canon) {ph : Nat} : (s.chgBegin ph).Canon := .putB (.chgTo h)

theorem State.Canon.chgCount (h : s.Canon) : s.chgCount.Canon := .ite (.elapsedShow (.putAt h)) h

theorem State.Canon.btsConvert (h : s.Canon) {mv : Nat} {t : Int} : (s.btsConvert mv t).Canon := by
  unfold State.btsConvert
  exact .chgEval (.chgCount (.chgShow (.streak (.when (.put (.put (.put (.put h)))) fun h => .raise h))))

theorem State.Canon.chgFaultClear (h : s.Canon) {mask : Nat} : (s.chgFaultClear mask).Canon := by
  unfold State.chgFaultClear
  exact .ite (.ite (.chgDetect (.over h fun h => .clr h)) (.chgTimer0 (.chgTo (.over h fun h => .clr h)))) (.over h fun h => .clr h)

theorem State.Canon.presenceStart (h : s.Canon) : s.presenceStart.Canon := by
  unfold State.presenceStart
  exact .ite (.put (.put (.clr (.raise h)))) h

theorem State.Canon.packFound (h : s.Canon) {was : Bool} {id : Option (BitVec 64)} : (s.packFound was id).Canon := by
  unfold State.packFound
  exact .ite (.packSwap (.when h fun h => .raise h)) (.ite (.authSeries (.when h fun h => .raise h)) (.when h fun h => .raise h))

theorem State.Canon.presenceEnd (h : s.Canon) {id : Option (BitVec 64)} : (s.presenceEnd id).Canon := by
  unfold State.presenceEnd
  extract_lets missing was s1 s2
  have h1 : s1.Canon := .putB (.clr (.clr h))
  have h2 : s2.Canon := .ite (.put (.when h1 fun h => .raise h)) (.packFound h1)
  exact .ite h (.ite (.chgEval h2) (.ite (.chgFault h2) (.ite (.chgTo h2) (.chgEval (.chgBegin h2)))))

theorem State.Canon.gaugeWake (h : s.Canon) : s.gaugeWake.Canon := .put (.clr (.when h fun h => .clr h))

theorem State.Canon.pairCarry (h : s.Canon) {cause : Nat} : (s.pairCarry cause).Canon := by
  unfold State.pairCarry
  exact .chgEval (.gaugeWake (.put (.raise (.put (.raise (.put (.put h)))))))

theorem State.Canon.pairTrigger (h : s.Canon) {cause : Nat} : (s.pairTrigger cause).Canon := .ite (.pairCarry (.bump h)) (.ite (.pairCarry h) h)

theorem State.Canon.vbbTrip (h : s.Canon) {v : Nat} : (s.vbbTrip v).Canon := .ite (.pairTrigger (.put h)) h

theorem State.Canon.pairOff (h : s.Canon) {st : Nat} : (s.pairOff st).Canon := .clr (.put (.put h))

theorem State.Canon.pairFault (h : s.Canon) {f : Fld} : (s.pairFault f).Canon := .ite (.chgEval (.jAction (.raise (.pairOff h)))) h

theorem State.Canon.handbackStart (h : s.Canon) : s.handbackStart.Canon := .ite (.put (.clr (.put h))) h

theorem State.Canon.handbackStep (h : s.Canon) : s.handbackStep.Canon := .ite h (.ite (.chgEval (.pairOff (.clr (.put h)))) (.clr (.put h)))

theorem State.Canon.modeBusy (h : s.Canon) {w : Who} : (s.modeBusy w).Canon := .jRefused (.raise h)

theorem State.Canon.bfetOpen (h : s.Canon) {w : Who} : (s.bfetOpen w).Canon :=
  .ite (.modeBusy h) (.ite (.jDone h) (.chgEval (.pairOff (.put (.jDone h)))))

theorem State.Canon.pairArm (h : s.Canon) : s.pairArm.Canon := by
  unfold State.pairArm
  extract_lets
  split
  · exact .pairTrigger (.pairOff h)
  · exact .chgEval (.pairOff h)

theorem State.Canon.bfetArm (h : s.Canon) {w : Who} : (s.bfetArm w).Canon :=
  .ite (.modeBusy h) (.ite (.pairArm (.put (.jDone h))) (.put (.jDone h)))

theorem State.Canon.pairFaultClear (h : s.Canon) {oc short : Bool} : (s.pairFaultClear oc short).Canon := by
  unfold State.pairFaultClear
  exact .ite (.pairArm (.when (.when h fun h => .clr h) fun h => .clr h)) (.when (.when h fun h => .clr h) fun h => .clr h)

theorem State.Canon.buckShow (h : s.Canon) : s.buckShow.Canon := .putB h

theorem State.Canon.searchStart (h : s.Canon) : s.searchStart.Canon := .ite (.put (.clr (.put h))) h

theorem State.Canon.searchEnd (h : s.Canon) {res : Nat} : (s.searchEnd res).Canon := .put (.clr (.put h))

theorem State.Canon.searchUp (h : s.Canon) : s.searchUp.Canon := .put (.clr (.put h))

theorem State.Canon.searchStep (h : s.Canon) : s.searchStep.Canon := .ite h (.ite (.searchEnd (.put h)) (.ite (.searchUp h) (.clr (.put h))))

theorem State.Canon.pauseEnd (h : s.Canon) : s.pauseEnd.Canon := .ite h (.ite (.searchUp h) (.ite (.searchEnd h) h))

theorem State.Canon.sagWatch (h : s.Canon) : s.sagWatch.Canon := .ite h (.ite (.searchEnd (.put (.clr h))) (.bump (.put (.clr h))))

theorem State.Canon.buckBack (h : s.Canon) : s.buckBack.Canon := .when h fun h => .put h

theorem State.Canon.vauxValid (h : s.Canon) : s.vauxValid.Canon :=
  .ite h (.chgEval (.when (.buckBack (.buckShow (.raise (.clr h)))) fun h => .searchStart h))

theorem State.Canon.vauxInvalid (h : s.Canon) {v : Nat} : (s.vauxInvalid v).Canon := by
  unfold State.vauxInvalid
  exact .ite h (.ite (.when (.clr (.put h)) fun h => .raise h) (.chgEval (.pairTrigger (.when (.clr (.buckShow (.clr (.when (.clr (.put h))
    fun h => .raise h)))) fun h => .searchEnd h))))

theorem State.Canon.hpdRead (h : s.Canon) {x : HpdMeas} : (s.hpdRead x).Canon := by
  unfold State.hpdRead
  exact .putB (.putB (.put (.putI (.put (.put (.put (.put h)))))))

theorem State.Canon.budgetShow (h : s.Canon) : s.budgetShow.Canon := by
  unfold State.budgetShow
  exact .put h

theorem State.Canon.inputCounts (h : s.Canon) : s.inputCounts.Canon := by
  unfold State.inputCounts
  exact .bump (.bump (.streak (.streak (.streak h))))

theorem State.Canon.pairCounts (h : s.Canon) : s.pairCounts.Canon := by
  unfold State.pairCounts
  exact .when (.when (.streak (.streak (.streak h))) fun h => .bump h) fun h => .raise h

theorem State.Canon.chgCounts (h : s.Canon) : s.chgCounts.Canon := by
  unfold State.chgCounts
  exact .bump (.bump (.when (.streak (.streak (.streak (.streak h)))) fun h => .put h))

theorem State.Canon.vbbStep (h : s.Canon) : s.vbbStep.Canon := by
  unfold State.vbbStep
  exact .ite h (.put h)

theorem State.Canon.iinShare (h : s.Canon) {x : HpdMeas} : (s.iinShare x).Canon := by
  unfold State.iinShare
  exact .putB (.when (.vbbStep (.chgCounts (.chgShow (.pairCounts (.inputCounts (.budgetShow (.hpdRead h))))))) fun h => .put h)

theorem State.Canon.hpdShutdown (h : s.Canon) : s.hpdShutdown.Canon :=
  .ite h (.chgEval (.pairTrigger (.buckShow (.levelShow (.when (.put (.bump (.raise (.clr (.put (.raise h)))))) fun h => .raise h)))))

theorem State.Canon.hpdRestart (h : s.Canon) : s.hpdRestart.Canon := .chgEval (.buckBack (.buckShow (.levelShow (.clr h))))

theorem State.Canon.hpdRestartDue (h : s.Canon) : s.hpdRestartDue.Canon := .ite (.hpdRestart (.put (.putAt (.putAt (.putAt h))))) h

theorem State.Canon.hpdForget (h : s.Canon) : s.hpdForget.Canon := .clr (.put (.over h fun h => .clrAt h))

theorem State.Canon.hpdTsdClr (h : s.Canon) {w : Who} : (s.hpdTsdClr w).Canon :=
  .ite (.jRefused (.raise h)) (.ite (.hpdRestart (.hpdForget (.jDone h))) (.jDone h))

/-! ## Machine/Gauge -/

theorem State.Canon.countOut (h : s.Canon) {q : Nat} : (s.countOut q).Canon := by
  unfold State.countOut
  exact .put (.put (.put (.ite (.bump (.put h)) (.put h))))

theorem State.Canon.countQ (h : s.Canon) {q : Int} : (s.countQ q).Canon := by
  unfold State.countQ
  exact .ite (.countOut (.put h)) (.put h)

theorem State.Canon.rbatStep (h : s.Canon) {v0 : Nat} {i0 : Int} {v : Nat} {i : Int} : (s.rbatStep v0 i0 v i).Canon := by
  unfold State.rbatStep
  exact .ite (.put h) h

theorem State.Canon.rbatUpdate (h : s.Canon) {v : Nat} {i : Int} : (s.rbatUpdate v i).Canon := by
  unfold State.rbatUpdate
  exact .put (.putIAt (.putAt (.putAt (.putAt (.ite (.rbatStep h) (.ite (.rbatStep h) h))))))

theorem State.Canon.anchorErr (h : s.Canon) {e : Int} : (s.anchorErr e).Canon := .putI h

theorem State.Canon.fullAnchor (h : s.Canon) : s.fullAnchor.Canon := by
  unfold State.fullAnchor
  exact .gaugeStore (.clr (.put (.raise (.raise (.raise (.raise (.put (.anchorErr h))))))))

theorem State.Canon.kerbLow (h : s.Canon) {vec : Int} : (s.kerbLow vec).Canon := by
  unfold State.kerbLow
  exact .ite (.putB (.ite (.bump h) (.put h))) (.putB (.ite (.bump h) (.put h)))

theorem State.Canon.sampleShow (h : s.Canon) {i : Int} {v : Nat} : (s.sampleShow i v).Canon := by
  unfold State.sampleShow
  exact .putI (.put (.putI (.put (.put h))))

theorem State.Canon.gaugeFrame (h : s.Canon) {u : Int} {v : Nat} : (s.gaugeFrame u v).Canon := by
  unfold State.gaugeFrame
  extract_lets i s1 s2 vec s3 full s4 s5 s6
  have h2 : s2.Canon := .when (.bump (.rbatUpdate (.countQ (.sampleShow h)))) fun h => .learnDrop h
  have h3 : s3.Canon := .ite (.ite (.bump h2) h2) (.put h2)
  have h4 : s4.Canon := .when (.clr h3) fun h => .fullAnchor h
  have h5 : s5.Canon := .ite (.bump h4) (.put h4)
  exact .ite h (.streak (.kerbLow (.socShow h5)))

theorem State.Canon.learnEnd (h : s.Canon) : s.learnEnd.Canon :=
  .ite h (.ite (.raise (.raise (.setFcc (.put (.learnDrop h))))) (.raise (.put (.learnDrop h))))

theorem State.Canon.emptyAnchor (h : s.Canon) : s.emptyAnchor.Canon :=
  .ite h (.gaugeStore (.socShow (.clr (.put (.when (.raise (.put (.learnEnd (.anchorErr h)))) fun h => .raise h)))))

theorem State.Canon.authVerdict (h : s.Canon) {v : Nat} : (s.authVerdict v).Canon := by
  unfold State.authVerdict
  exact .chgEval (.when (.when (.when (.jAction (.clr (.put (.raise (.put h))))) fun h => .bump h) fun h => .bump h) fun h => .authSeries (.clr h))

theorem State.Canon.packNone (h : s.Canon) {l : List Byte} : (s.packNone l).Canon := .authVerdict (.when h fun h => .raise h)

theorem State.Canon.getId (h : s.Canon) {reply : List Byte} {nonce : Nat} : (s.getId reply nonce).Canon := by
  unfold State.getId
  refine .ite h ?_
  split
  · exact .packNone h
  · exact .ite (.authVerdict (.ite (.packSwap h) h)) (.packSend (.put (.put (.ite (.packSwap h) h))))

theorem State.Canon.challenge (h : s.Canon) {reply : List Byte} : (s.challenge reply).Canon := by
  unfold State.challenge
  refine .ite h ?_
  split
  · exact .packNone h
  · exact .ite (.authVerdict h) (.authVerdict h)

/-! ## Machine/Met -/

theorem State.Canon.metCount (h : s.Canon) {reg rem : Fld} {e : Nat} : (s.metCount reg rem e).Canon := by
  unfold State.metCount
  exact .put (.put h)

theorem State.Canon.metFlag (h : s.Canon) {b : Nat} : (s.metFlag b).Canon := .putBit h

theorem State.Canon.metOver (h : s.Canon) {above : Bool} : (s.metOver above).Canon := by
  unfold State.metOver
  exact .ite (.put (.putB h)) (.when (.put (.metFlag (.putB h))) fun h => .bumpAt (.put (.raise h)))

theorem State.Canon.metExtremes (h : s.Canon) {vNum iNum : Int} : (s.metExtremes vNum iNum).Canon := by
  unfold State.metExtremes
  exact .when (.when (.when (.when (.raise h) fun h => .put h) fun h => .put h) fun h => .put h) fun h => .put h

theorem State.Canon.metStreams (h : s.Canon) {xi xv : Int} {flat : BitVec 2} : (s.metStreams xi xv flat).Canon := by
  unfold State.metStreams
  exact .streak (.streak (.streak (.streak (.streak h))))

theorem State.Canon.metSecond (h : s.Canon) : s.metSecond.Canon := .ite (.put h) (.clr (.put (.put h)))

theorem State.Canon.metStuckSample (h : s.Canon) : s.metStuckSample.Canon := by
  unfold State.metStuckSample
  exact .ite (.put (.metFlag h)) (.bumpAt (.put (.metFlag h)))

theorem State.Canon.metAdd (h : s.Canon) {c : MetCal} {iNum : Int} {e : Nat} : (s.metAdd c iNum e).Canon := by
  unfold State.metAdd
  exact .when (.when (.when h fun h => .metCount h) fun h => .metCount h) fun h => .put (.put h)

theorem State.Canon.metSample (h : s.Canon) {xi xv : Int} {flat : BitVec 2} : (s.metSample xi xv flat).Canon :=
  .ite h (.metSecond (.ite (.metStuckSample (.metExtremes (.put (.put (.put (.metOver (.bump (.metStreams h)))))))) (.metAdd (.metExtremes (.put
    (.put (.put (.metOver (.bump (.metStreams h))))))))))

theorem State.Canon.metHalf (h : s.Canon) : s.metHalf.Canon :=
  .ite h (.ite (.bump (.put (.put (.put h)))) (.put (.put (.raise (.put (.put (.bump (.put (.put (.put h))))))))))

theorem State.Canon.metClock (h : s.Canon) {ok : Bool} : (s.metClock ok).Canon :=
  .ite h (.ite (.ite (.put h) (.raise (.put h))) (.ite (.clr (.ite (.put h) (.raise (.put h)))) (.ite (.put (.metFlag (.ite (.put h) (.raise (.put
    h))))) (.bumpAt (.put (.metFlag (.ite (.put h) (.raise (.put h)))))))))

theorem State.Canon.metSend (h : s.Canon) {m : Nat} {f : MetFrame} : (s.metSend m f).Canon := .ite h (.ite (.same h) (.same h))

theorem State.Canon.metSendBoth (h : s.Canon) {f : MetFrame} : (s.metSendBoth f).Canon := .metSend (.metSend h)

theorem State.Canon.metComplete (h : s.Canon) : s.metComplete.Canon := by
  unfold State.metComplete
  exact .over (.same h) fun h => .metSendBoth h

theorem State.Canon.metDelta (h : s.Canon) {now before : Nat} : (s.metDelta now before).2.Canon := by
  unfold State.metDelta
  split
  · exact h
  · exact .draw h

theorem State.Canon.metExt (h : s.Canon) {f : Fld} : (s.metExt f).2.Canon := by
  unfold State.metExt
  split
  · exact h
  · exact .draw h

/-- A pair in whose first case the state is taken as it is. -/
theorem State.Canon.pairIte {α : Type} {c : Prop} [Decidable c] {a : α} {p : α × State} (h : s.Canon) (hp : p.2.Canon) :
    (if c then (a, s) else p).2.Canon := by
  split
  · exact h
  · exact hp

theorem State.Canon.metTake (h : s.Canon) {kind : Nat} : (s.metTake kind).Canon := by
  unfold State.metTake
  extract_lets
  split
  next e1 =>
  have h1 := (State.Canon.pairIte h (.metDelta h)).sndOf e1
  split
  next e2 =>
  have h2 := (State.Canon.pairIte h1 (.metDelta h1)).sndOf e2
  split
  next e3 =>
  have h3 := (State.Canon.metExt h2).sndOf e3
  split
  next e4 =>
  have h4 := (State.Canon.metExt h3).sndOf e4
  exact .put (.same h4)

theorem State.Canon.metNewInterval (h : s.Canon) : s.metNewInterval.Canon := by
  unfold State.metNewInterval
  exact .put (.put (.put (.put (.put (.put (.put (.put (.put h))))))))

theorem State.Canon.metInterval (h : s.Canon) {completed : Bool} : (s.metInterval completed).Canon :=
  .ite (.when (.metNewInterval (.metTake h)) fun h => .metComplete h) h

theorem State.Canon.metStore (h : s.Canon) {completed : Bool} : (s.metStore completed).Canon := by
  unfold State.metStore
  exact .put (.wrBytes (.put h))

theorem State.Canon.metWatchdog (h : s.Canon) : s.metWatchdog.Canon :=
  .ite h (.metComplete (.when (.bumpAt (.metFlag h)) fun h => .clr (.metStore h)))

theorem State.Canon.metFall (h : s.Canon) {completed : Bool} : (s.metFall completed).Canon :=
  .ite h (.put (.put (.put (.clr (.clr (.clr (.when h fun h => .metStore h)))))))

theorem State.Canon.metFromCells (h : s.Canon) {ks : List Nat} {seq : Nat} : (s.metFromCells ks seq).Canon := by
  unfold State.metFromCells
  exact .when (.put (.put (.put (.put (.put (.put (.put (.put (.put h))))))))) fun h => .bumpAt (.metFlag h)

theorem State.Canon.metRebuild (h : s.Canon) : s.metRebuild.Canon := by
  unfold State.metRebuild
  exact .put (.metFlag (.when (.put (.put (.put (.put (.put (.put (.put (.put h)))))))) fun h => .put (.put (.put h))))

theorem State.Canon.metRestore (h : s.Canon) : s.metRestore.Canon := by
  unfold State.metRestore
  exact .metStore (.metStore (.metStore (.put (.put (.ite (.metRebuild (.over h fun h => .bumpAt h)) (.metFromCells (.over h fun h => .bumpAt
    h)))))))

theorem State.Canon.resetFld (h : s.Canon) {f : Fld} : (s.resetFld f).Canon := .over h fun h => .putAt h

theorem State.Canon.metSenseBank (h : s.Canon) {bankOk : BitVec 4} {n : Nat} : (s.metSenseBank bankOk n).Canon := .ite h (.putAt h)

theorem State.Canon.metStart (h : s.Canon) {serial : Nat} {serialOk keyOk : Bool} {bankOk : BitVec 4} :
    (s.metStart serial serialOk keyOk bankOk).Canon := by
  unfold State.metStart
  extract_lets s1 s2 s3 s4 s5 bad s6
  have h3 : s3.Canon := .when (.raise (.same (.over h fun h => .resetFld h))) fun h => .put h
  have h6 : s6.Canon := .metRestore (.putB (.over (.putB h3) fun h => .metSenseBank h))
  exact .ite h (.ite h6 (.metComplete (.metTake (.metComplete h6))))

theorem State.Canon.metRepeat (h : s.Canon) {rep : MetRepeat} : (s.metRepeat rep).Canon := by
  unfold State.metRepeat
  refine .ite h ?_
  split
  · split
    · exact .metSendBoth h
    · exact h
  · exact .metSendBoth h
  · exact .metSendBoth h

theorem State.Canon.metServe (h : s.Canon) {m code : Nat} {g : State → State} (hg : ∀ {s : State}, s.Canon → (g s).Canon) :
    (s.metServe m code g).Canon :=
  .ite (hg (.putAt h)) h

theorem State.Canon.metSendLast (h : s.Canon) {m : Nat} : (s.metSendLast m).Canon := by
  unfold State.metSendLast
  split
  · exact .metSend (.putAt h)
  · exact h

theorem State.Canon.metReplay (h : s.Canon) {m : Nat} : (s.metReplay m).Canon := by
  unfold State.metReplay
  extract_lets
  split
  · exact h
  · refine .ite (.metSend (.putAt h)) ?_
    split
    · exact .metSend (.putAt h)
    · exact h

theorem State.Canon.metStrobe (h : s.Canon) {w : Who} {m code : Nat} : (s.metStrobe w m code).Canon := by
  unfold State.metStrobe
  exact .ite (.raise (.put (.served h))) (.ite (.put (.raise (.put (.served h)))) (.ite (.bumpAt (.put (.raise (.put (.served h))))) (.ite (.putAt
    (.put (.raise (.put (.served h))))) (.put (.raise (.put (.served h)))))))

theorem State.Canon.metNewRec (h : s.Canon) {m : Nat} {b : List Byte} : (s.metNewRec m b).Canon := by
  unfold State.metNewRec
  exact .ite h (.when (.bump (.raise (.raise (.wrBytes h)))) fun h => .raise h)

theorem State.Canon.metTakeFrame (h : s.Canon) {m : Nat} {f : MetFrame} : (s.metTakeFrame m f).Canon := by
  unfold State.metTakeFrame
  exact .ite (.wrBytes (.put (.raise h))) (.ite (.when (.wrBytes (.put (.raise h))) fun h => .clr h) (.ite (.when (.wrBytes (.put (.raise h)))
    fun h => .clr h) (.ite (.metNewRec (.put (.raise h))) (.clr (.wrBytes (.wrBytes (.put (.raise h))))))))

theorem State.Canon.metReceive (h : s.Canon) {m : Nat} {arrived : List Byte} : (s.metReceive m arrived).Canon := by
  unfold State.metReceive
  split
  · exact h
  · refine .ite (.ite (.same h) (.same h)) ?_
    split
    · exact .metTakeFrame (.ite (.same h) (.same h))
    · exact .bump (.ite (.same h) (.same h))

theorem State.Canon.metBankWrite (h : s.Canon) {n : Nat} {b : MetBank} {completed : Bool} : (s.metBankWrite n b completed).Canon := by
  unfold State.metBankWrite
  refine .ite h ?_
  extract_lets
  split
  next e =>
    exact .putAt (.putAt (.putAt (.putAt (.putAt (.putAt (.putAt (.putAt (.putAt (.putAt (.putAt (.putAt (.sndOf (.draw (.put h)) e))))))))))))

theorem State.Canon.metLock (h : s.Canon) {key : Nat} : (s.metLock key).Canon := .ite (.raise (.put h)) h

/-! ## Machine/Events -/

theorem State.Canon.trace (h : s.Canon) {m c typ low w1 : Nat} : (s.trace m c typ low w1).Canon :=
  .ite h (.ite (.bump h) (.when (.put (.wrBytes h)) fun h => .raise h))

theorem State.Canon.ringWrite (h : s.Canon) {base size : Nat} {r : EvRec} : (s.ringWrite base size r).Canon :=
  .over h fun h => .over h fun h => .wrBytes h

theorem State.Canon.mainWrite (h : s.Canon) {r : EvRec} : (s.mainWrite r).Canon := .ringWrite h

theorem State.Canon.nextSeq (h : s.Canon) : s.nextSeq.2.Canon := by
  unfold State.nextSeq
  exact .put h

theorem State.Canon.setQueue (h : s.Canon) {q : EvQueue} {l : List EvRec} : (s.setQueue q l).Canon := by
  unfold State.setQueue
  split
  · exact .same h
  · exact .same h
  · exact .same h

theorem State.Canon.qPut (h : s.Canon) {q : EvQueue} {r : EvRec} : (s.qPut q r).Canon := by
  unfold State.qPut
  split
  · exact .put (.mainWrite (.setQueue h))
  · exact .put (.ringWrite (.setQueue h))
  · exact .setQueue h

theorem State.Canon.qLose (h : s.Canon) {q : EvQueue} {beat : Nat} : (s.qLose q beat).Canon := by
  unfold State.qLose
  split
  · refine .ite ?_ ?_
    · extract_lets
      split
      · exact .mainWrite (.setQueue h)
      · exact .ringWrite (.setQueue h)
      · exact .setQueue h
    · refine .ite ?_ h
      split
      next e =>
        exact .raise (.qPut (.sndOf (.nextSeq h) e))
  · exact h

theorem State.Canon.hostCopy (h : s.Canon) {r : EvRec} : (s.hostCopy r).Canon := .ite (.qPut h) (.qLose h)

theorem State.Canon.activate (h : s.Canon) {n : Nat} : (s.activate n).Canon := .putBitAt (.putBitAt h)

theorem State.Canon.foldClose (h : s.Canon) {k : Nat} : (s.foldClose k).Canon := by
  unfold State.foldClose
  split
  · exact h
  · exact .when (.same h) fun h => .hostCopy h

theorem State.Canon.foldEnds (h : s.Canon) {k beat sub : Nat} : (s.foldEnds k beat sub).Canon := .when h fun h => .foldClose h

theorem State.Canon.foldJoin (h : s.Canon) {r : EvRec} {n beat sub : Nat} : (s.foldJoin r n beat sub).Canon := by
  unfold State.foldJoin
  exact .activate (.mainWrite (.same h))

theorem State.Canon.noRoom (h : s.Canon) {q : EvQueue} {n beat sub : Nat} : (s.noRoom q n beat sub).Canon :=
  .ite (.ite h (.qLose (.putAt (.putAt (.putBitAt h))))) (.qLose h)

theorem State.Canon.record (h : s.Canon) {n beat sub count : Nat} {again late takeover : Bool} :
    (s.record n beat sub count again late takeover).Canon := by
  unfold State.record
  extract_lets
  split
  · exact .foldJoin (.when h fun h => .foldEnds h)
  · refine .ite (.noRoom (.when h fun h => .foldEnds h)) ?_
    split
    next e =>
      exact .when (.when (.activate (.qPut (.sndOf (.nextSeq (.when h fun h => .foldEnds h)) e))) fun h => .same h) fun h => .hostCopy h

theorem State.Canon.wakeCores (h : s.Canon) {n : Nat} : (s.wakeCores n).Canon := by
  unfold State.wakeCores
  exact .when (.over h fun h => .trace (.raiseAt (.clrAt h))) fun h => .trace (.clr h)

theorem State.Canon.countEdge (h : s.Canon) {n beat sub : Nat} : (s.countEdge n beat sub).Canon := by
  unfold State.countEdge
  exact .bumpAt (.when h fun h => .putAt (.putAt h))

theorem State.Canon.occur (h : s.Canon) {n beat sub : Nat} {takeover : Bool} : (s.occur n beat sub takeover).Canon :=
  .ite h (.ite (.ite (.wakeCores h) (.countEdge (.wakeCores h))) (.record (.wakeCores h)))

theorem State.Canon.lineSet (h : s.Canon) {n : Nat} {v : Bool} {detail beat sub : Nat} {takeover : Bool} :
    (s.lineSet n v detail beat sub takeover).Canon := by
  unfold State.lineSet
  exact .ite (.occur (.putAt (.putBitAt h))) (.putAt (.putBitAt h))

theorem State.Canon.heldFlush (h : s.Canon) : s.heldFlush.Canon := .over h fun h => .ite (.record h) h

theorem State.Canon.onceEnd (h : s.Canon) {n : Nat} : (s.onceEnd n).Canon :=
  .ite h (.ite (.when (.putBitAt (.putBitAt h)) fun h => .countEdge h) (.putBitAt h))

theorem State.Canon.srcComplete (h : s.Canon) {n : Nat} : (s.srcComplete n).Canon :=
  .ite (.bump h) (.ite (.bumpAt h) (.ite (.record (.same (.clrAt (.clrAt (.putBitAt (.putBitAt (.onceEnd h))))))) (.ite (.occur (.same (.clrAt
    (.clrAt (.putBitAt (.putBitAt (.onceEnd h))))))) (.same (.clrAt (.clrAt (.putBitAt (.putBitAt (.onceEnd h)))))))))

theorem State.Canon.foldComplete (h : s.Canon) {seq : Nat} : (s.foldComplete seq).Canon := by
  unfold State.foldComplete
  split
  · exact .over h fun h => .srcComplete h
  · exact .bump h

theorem State.Canon.evcAccess (h : s.Canon) {w : Who} {m : Nat} {g : State → State} (hg : ∀ {s : State}, s.Canon → (g s).Canon) :
    (s.evcAccess w m g).Canon :=
  .ite (.busError h) (hg (.served h))

theorem State.Canon.window (h : s.Canon) {f : Fld} {m who : Nat} {r : EvRec} : (s.window f m who r).Canon := .over h fun h => .putAt h

theorem State.Canon.markTaken (h : s.Canon) {r : EvRec} : (s.markTaken r).Canon := .ite h (.ite (.over h fun h => .putBitAt h) (.putBitAt h))

theorem State.Canon.coreTakes (h : s.Canon) {c : Nat} {r : EvRec} : (s.coreTakes c r).Canon := .ite h (.bumpAt (.when h fun h => .putAt h))

theorem State.Canon.take (h : s.Canon) {q : EvQueue} {w : Who} {m : Nat} : (s.take q w m).Canon := by
  unfold State.take
  extract_lets m'
  split
  · exact .putAt h
  · extract_lets s1 s2 s3 s4
    have h3 : s3.Canon := .when (.putAt (.markTaken (.window (.setQueue h)))) fun h => .put h
    have h4 : s4.Canon := by
      dsimp only [s4]
      split
      · exact .trace (.coreTakes (.draw h3))
      · exact h3
    exact .heldFlush h4

theorem State.Canon.hostTake (h : s.Canon) {w : Who} {m : Nat} : (s.hostTake w m).Canon := by
  unfold State.hostTake
  extract_lets
  split
  · exact .putAt h
  · exact .putAt (.window (.same h))

/-! ## Machine/Resets -/

theorem State.Canon.tileDrops (h : s.Canon) {r : Nat} : (s.tileDrops r).Canon :=
  .ite h (.ite (.enableAbort (.protectNote h)) (.railOffNow (.protectOff (.protectNote h))))

theorem State.Canon.tileEnds (h : s.Canon) {t : Nat} : (s.tileEnds t).Canon := by
  unfold State.tileEnds
  exact .endRun (.endRun (.over h fun h => .endRun h))

theorem State.Canon.snapsDrop (h : s.Canon) {a b : Nat} : (s.snapsDrop a b).Canon := .same h

theorem State.Canon.tileReset (h : s.Canon) {t : Nat} : (s.tileReset t).Canon := by
  unfold State.tileReset
  exact .seqPoll (.over (.raise (.snapsDrop (.zeroMem (.resetCells (.tileEnds (.over h fun h => .tileDrops h)))))) fun h => .when h fun h => .raise
    h)

theorem State.Canon.tileRestart (h : s.Canon) {t : Nat} : (s.tileRestart t).Canon := by
  unfold State.tileRestart
  exact .when (.tileReset (.clr h)) fun h => .clr h

theorem State.Canon.tileTsdClr (h : s.Canon) {w : Who} {t : Nat} : (s.tileTsdClr w t).Canon :=
  .ite (.jRefused (.raise h)) (.ite (.tileRestart (.restartForget (.clr (.jDone h)))) (.jDone h))

theorem State.Canon.managerReset (h : s.Canon) {m : Nat} : (s.managerReset m).Canon := by
  unfold State.managerReset
  exact .same (.clr (.clr (.clr (.zeroMem (.zeroMem (.zeroMem (.resetCells h)))))))

theorem State.Canon.explicitFault (h : s.Canon) {m : Nat} : (s.explicitFault m).Canon :=
  .ite h (.when (.awlError (.put (.managerReset h))) fun h => .raise h)

theorem State.Canon.flashPut (h : s.Canon) {a : Nat} {l : List Byte} : (s.flashPut a l).Canon := .wrBytes h

theorem State.Canon.freeBytes (h : s.Canon) {n : Nat} : (s.freeBytes n).1.Canon := .same h

theorem State.Canon.chunkUndefined (h : s.Canon) {c : Nat} : (s.chunkUndefined c).Canon := by
  unfold State.chunkUndefined
  split
  next e =>
    exact .flashPut (.fstOf (.freeBytes h) e)

theorem State.Canon.flashCut (h : s.Canon) : s.flashCut.Canon := .when h fun h => .chunkUndefined h

theorem State.Canon.memFilter (h : s.Canon) {p : Host.Cell → Bool} : ({ s with mem := s.mem.filter p } : State).Canon :=
  ⟨h.cells, Memory.wf_filter p h.mem⟩

theorem State.Canon.dropWork (h : s.Canon) : s.dropWork.Canon := .same (.memFilter h)

theorem State.Canon.addrSample (h : s.Canon) : s.addrSample.Canon := .ite (.put h) h

theorem State.Canon.systemReset (h : s.Canon) {cause : Nat} : (s.systemReset cause).Canon := by
  unfold State.systemReset
  exact .addrSample (.bump (.put (.over (.over (.hpdForget (.clr (.dropWork (.resetCells (.flashCut h))))) fun h => .refDrive h) fun h => .put h)))

theorem State.Canon.powerOnReset (h : s.Canon) {cause : Nat} : (s.powerOnReset cause).Canon := by
  unfold State.powerOnReset
  exact .addrSample (.put (.dropWork (.resetCells h)))

/-! ## Machine/UpdState -/

theorem State.Canon.mapWrite (h : s.Canon) {off : Nat} {l : List Byte} : (s.mapWrite off l).Canon := .over h fun h => .wrFe h

theorem State.Canon.mapSave (h : s.Canon) : s.mapSave.Canon := by
  unfold State.mapSave
  exact .mapWrite h

theorem State.Canon.updTo (h : s.Canon) {st : Nat} : (s.updTo st).Canon := .mapSave (.ite h (.raise (.put h)))

theorem State.Canon.updStep (h : s.Canon) {n : Nat} : (s.updStep n).Canon := .mapSave (.put h)

theorem State.Canon.updAction (h : s.Canon) {status : Nat} : (s.updAction status).Canon := .jAction h

theorem State.Canon.updComplete (h : s.Canon) {k st arg : Nat} : (s.updComplete k st arg).Canon := by
  unfold State.updComplete
  exact .complete (.when h fun h => .put h)

theorem State.Canon.flashIdle (h : s.Canon) : s.flashIdle.Canon := .clr (.clr (.clr h))

theorem State.Canon.updInterrupt (h : s.Canon) : s.updInterrupt.Canon := by
  unfold State.updInterrupt
  exact .when (.when (.clr (.clr (.flashIdle (.foldl (.flashCut h) fun h => .updComplete h)))) fun h => .clr h) fun h => .updTo h

/-! ## Machine/Managers -/

theorem State.Canon.xtalFaults (h : s.Canon) : s.xtalFaults.Canon := .over h fun h => .explicitFault h

theorem State.Canon.mirrorCopy (h : s.Canon) {off : Nat} : (s.mirrorCopy off).Canon := .ite (.wr32 h) h

theorem State.Canon.mirrorSweep (h : s.Canon) : s.mirrorSweep.Canon := .ite h (.put (.over h fun h => .bump (.wr32 h)))

theorem State.Canon.journalRestore (h : s.Canon) : s.journalRestore.Canon := by
  unfold State.journalRestore
  exact .when (.same h) fun h => .jAction (.raise h)

theorem State.Canon.claim (h : s.Canon) {m : Nat} : (s.claim m).Canon := by
  unfold State.claim
  exact .clr (.clr (.clr (.when (.put (.put (.raise (.raise h)))) fun h => .put h)))

theorem State.Canon.eventReplay (h : s.Canon) : s.eventReplay.Canon := by
  unfold State.eventReplay
  exact .over (.over (.same h) fun h => .lineSet h) fun h => .record (.putBitAt h)

theorem State.Canon.resumeCmds (h : s.Canon) : s.resumeCmds.Canon := .clr (.put (.complete h))

theorem State.Canon.resume (h : s.Canon) {m : Nat} : (s.resume m).Canon := by
  unfold State.resume
  exact .seqPoll (.clr (.put (.put (.when (.over (.eventReplay (.clr (.updInterrupt (.resumeCmds (.clr (.over (.refFollowRole h) fun h => .clrAt
    h)))))) fun h => .capTrigger h) fun h => .kerbEnter h))))

theorem State.Canon.takeover (h : s.Canon) {m : Nat} {high : Bool} : (s.takeover m high).Canon := .ite (.resume (.bump (.raise (.claim h)))) h

theorem State.Canon.roleRelease (h : s.Canon) {m : Nat} : (s.roleRelease m).Canon := .clr (.clr h)

theorem State.Canon.handover (h : s.Canon) {w : Who} {m : Nat} : (s.handover w m).Canon := by
  unfold State.handover
  exact .ite (.takeover (.raise (.roleRelease (.jDone h)))) (.jRefused h)

theorem State.Canon.heartbeatSend (h : s.Canon) {m : Nat} : (s.heartbeatSend m).Canon :=
  .ite h (.put (.put (.put (.putB (.put (.put (.raise (.clr h))))))))

theorem State.Canon.beatAlign (h : s.Canon) {m b e : Nat} : (s.beatAlign m b e).Canon := by
  unfold State.beatAlign
  exact .ite (.clr (.put (.put h))) (.ite (.raise h) (.clr h))

theorem State.Canon.roleContest (h : s.Canon) : s.roleContest.Canon := .ite (.refFollowRole (.jAction (.bump (.bump (.raise (.roleRelease h)))))) h

theorem State.Canon.heartbeatReceive (h : s.Canon) {m : Nat} {ok : Bool} : (s.heartbeatReceive m ok).Canon := by
  unfold State.heartbeatReceive
  exact .ite h (.ite (.clr h) (.roleContest (.when (.clr (.clr (.put (.clr h)))) fun h => .when (.put (.beatAlign h)) fun h => .raise h)))

theorem State.Canon.stCheck (h : s.Canon) : s.stCheck.Canon := .when h fun h => .raise h

theorem State.Canon.heartbeatMiss (h : s.Canon) {m : Nat} : (s.heartbeatMiss m).Canon :=
  .ite h (.ite (.stCheck (.when (.raise (.bump (.bump (.clr h)))) fun h => .raise h)) (.bump (.bump (.clr h))))

theorem State.Canon.sweepIn (h : s.Canon) {m : Nat} : (s.sweepIn m).Canon := by
  unfold State.sweepIn
  exact .over (.over (.same (.over (.zeroMem h) fun h => .wr8 h)) fun h => .mainWrite h) fun h => .ringWrite h

theorem State.Canon.joinShadow (h : s.Canon) {m : Nat} : (s.joinShadow m).Canon := by
  unfold State.joinShadow
  exact .sweepIn (.put (.beatAlign (.raise (.raise h))))

theorem State.Canon.shadowReady (h : s.Canon) {m : Nat} : (s.shadowReady m).Canon :=
  .ite h (.ite (.awlError (.put (.managerReset h))) (.clr (.raise (.journalRestore h))))

/-! ## Machine/Probes -/

theorem State.Canon.awlRuns (h : s.Canon) {kind t u : Nat} : (s.awlRuns kind t u).Canon := .same h

theorem State.Canon.lbistBegin (h : s.Canon) {target : Nat} : (s.lbistBegin target).Canon := by
  unfold State.lbistBegin
  exact .when (.put (.put (.put h))) fun h => .managerReset h

theorem State.Canon.awlStart (h : s.Canon) {kind t u : Nat} : (s.awlStart kind t u).Canon :=
  .ite (.ite (.lbistBegin (.awlRuns h)) h) (.ite (.awlRuns h) h)

theorem State.Canon.awlEnd (h : s.Canon) {kind t u verdict : Nat} : (s.awlEnd kind t u verdict).Canon := by
  unfold State.awlEnd
  exact .onceMgr (.jAction (.put (.put (.put (.same h)))))

theorem State.Canon.awlEffect (h : s.Canon) {kind t u : Nat} {transient : Bool} : (s.awlEffect kind t u transient).Canon := by
  unfold State.awlEffect
  split
  · exact .ite (.raise h) h
  · exact .putB h
  · exact .ite h (.ite (.put h) (.put h))
  · exact h

theorem State.Canon.awlVerdict (h : s.Canon) {kind t u : Nat} {passed : Bool} : (s.awlVerdict kind t u passed).Canon :=
  .ite h (.stCheck (.when (.awlEffect (.bump (.awlEnd h))) fun h => .putBit h))

theorem State.Canon.governed (h : s.Canon) {w : Who} {m : Nat} {g : State → State} (hg : ∀ {s : State}, s.Canon → (g s).Canon) :
    (s.governed w m g).Canon :=
  .ite (.busError h) (hg (.served h))

theorem State.Canon.lbistStart (h : s.Canon) {w : Who} {target : Nat} : (s.lbistStart w target).Canon := by
  unfold State.lbistStart
  exact .ite (.lbistBegin (.acceptReg (.put h))) (.when (.jRefused (.put h)) fun h => .put h)

theorem State.Canon.lbistDone (h : s.Canon) {sig : DWord} : (s.lbistDone sig).Canon := by
  unfold State.lbistDone
  exact .ite h (.stCheck (.ite (.putB (.tileReset (.complete (.onceMgr (.clr (.put (.put h))))))) (.ite (.resetCells (.complete (.onceMgr (.clr
    (.put (.put h)))))) (.putB (.put (.complete (.onceMgr (.clr (.put (.put h))))))))))

/-! ## Machine/Capture -/

theorem State.Canon.capArm (h : s.Canon) {t : Nat} : (s.capArm t).Canon := by
  unfold State.capArm
  exact .clr (.clr (.clr (.clr (.clr (.clr (.clr (.raise (.raise h))))))))

theorem State.Canon.capDisarm (h : s.Canon) {t : Nat} : (s.capDisarm t).Canon := .clr (.clr h)

theorem State.Canon.capNow (h : s.Canon) {t : Nat} : (s.capNow t).Canon := .ite (.put (.raise (.raise h))) h

theorem State.Canon.capAppend (h : s.Canon) {t : Nat} {l : List Byte} : (s.capAppend t l).Canon := by
  unfold State.capAppend
  exact .put (.wrBytes h)

theorem State.Canon.capRoll (h : s.Canon) {t : Nat} : (s.capRoll t).Canon := by
  unfold State.capRoll
  exact .when (.when (.when (.clr (.put h)) fun h => .raise h) fun h => .put h) fun h => .put h

theorem State.Canon.capOpen (h : s.Canon) {t : Nat} : (s.capOpen t).Canon := .ite (.over h fun h => .capAppend h) h

theorem State.Canon.capOne (h : s.Canon) {t : Nat} {r : List Byte} : (s.capOne t r).Canon := by
  unfold State.capOne
  exact .ite (.capAppend (.capOpen (.ite (.capRoll h) h))) (.ite (.capRoll h) h)

theorem State.Canon.capWrite (h : s.Canon) {t : Nat} {l : List (List Byte)} : (s.capWrite t l).Canon :=
  .ite h (.over (.ite (.capRoll (.capOpen h)) (.capOpen h)) fun h => .capOne h)

theorem State.Canon.capTick (h : s.Canon) {t : Nat} {writes : List (Nat × Word)} {marks : List (Nat × Nat)} {waited : Nat → Bool} :
    (s.capTick t writes marks waited).Canon :=
  .ite h (.capWrite h)

/-! ## Machine/Mgmt -/

theorem State.Canon.coreSleep (h : s.Canon) {m c pc : Nat} : (s.coreSleep m c pc).Canon :=
  .ite h (.ite (.trace h) (.ite (.raiseAt (.putAt (.trace h))) (.raise (.putAt (.trace h)))))

theorem State.Canon.memError (h : s.Canon) {m mem : Nat} : (s.memError m mem).Canon := .ite (.awlError h) (.ite (.awlError h) h)

theorem State.Canon.memCorrected (h : s.Canon) {m mem : Nat} : (s.memCorrected m mem).Canon := .raise (.bump (.memError h))

theorem State.Canon.memUncorrectable (h : s.Canon) {m mem : Nat} : (s.memUncorrectable m mem).Canon := .raise (.explicitFault (.memError h))

theorem State.Canon.spStore (h : s.Canon) {w : Who} {m : Nat} {secure : Bool} {a n : Nat} {v : Word} {row : Upset} :
    (s.spStore w m secure a n v row).Canon := by
  unfold State.spStore
  refine .ite (.busError h) ?_
  refine .ite (.raise (.busError h)) ?_
  refine .ite (.busError h) ?_
  split
  · exact .memUncorrectable (.busError h)
  · exact .wrBytes (.memCorrected (.served h))
  · exact .wrBytes (.served h)

theorem State.Canon.feGood (h : s.Canon) {a : Nat} : (s.feGood a).Canon := .same h

theorem State.Canon.feStore (h : s.Canon) {w : Who} {m a n : Nat} {v : Word} : (s.feStore w m a n v).Canon := by
  unfold State.feStore
  exact .ite (.busError h) (.wrBytes (.feGood (.served h)))

theorem State.Canon.scrub (h : s.Canon) {m a : Nat} {row : Upset} : (s.scrub m a row).Canon := by
  unfold State.scrub
  refine .ite h ?_
  split
  · exact .memCorrected h
  · exact .ite (.same (.memError h)) (.memUncorrectable h)
  · exact h

theorem State.Canon.wdtStart (h : s.Canon) : s.wdtStart.Canon := .clr (.put (.put (.raise h)))

theorem State.Canon.wdtExpire (h : s.Canon) {cause : Nat} : (s.wdtExpire cause).Canon := by
  unfold State.wdtExpire
  exact .explicitFault (.put (.put (.clr (.put (.raise (.bump (.put (.raise h))))))))

theorem State.Canon.wdtKey (h : s.Canon) {w : Who} {m : Nat} {g : State → State} (hg : ∀ {s : State}, s.Canon → (g s).Canon) :
    (s.wdtKey w m g).Canon := by
  unfold State.wdtKey
  split
  · exact .raise (.served h)
  · exact .governed h fun h => hg h

theorem State.Canon.keyA (h : s.Canon) : s.keyA.Canon :=
  .ite (.ite (.clr h) (.raise h)) (.ite h (.ite (.wdtExpire h) (.ite (.wdtExpire h) (.raise h))))

theorem State.Canon.keyB (h : s.Canon) : s.keyB.Canon :=
  .ite (.ite (.wdtStart h) h) (.ite h (.ite (.wdtExpire h) (.ite (.wdtStart h) (.wdtExpire h))))

theorem State.Canon.badKey (h : s.Canon) : s.badKey.Canon := .ite (.clr h) (.ite h (.wdtExpire h))

theorem State.Canon.wakeSource (h : s.Canon) {b : Nat} : (s.wakeSource b).Canon := .when h fun h => .putBit h

theorem State.Canon.alarm (h : s.Canon) : s.alarm.Canon := .wakeSource (.raise h)

theorem State.Canon.dstApply (h : s.Canon) : s.dstApply.Canon := .ite h (.complete (.clr (.putB h)))

theorem State.Canon.rtcSecond (h : s.Canon) : s.rtcSecond.Canon := .ite h (.when (.dstApply (.put h)) fun h => .alarm h)

theorem State.Canon.rtcHalt (h : s.Canon) : s.rtcHalt.Canon := by
  unfold State.rtcHalt
  exact .ite (.raise h) (.put (.raise (.raise h)))

theorem State.Canon.rtcResume (h : s.Canon) : s.rtcResume.Canon := by
  unfold State.rtcResume
  exact .ite (.clr h) (.when (.when (.clr (.clr h)) fun h => .raise (.bump (.journal h))) fun h => .alarm h)

theorem State.Canon.rtcSecWrite (h : s.Canon) {v : Nat} : (s.rtcSecWrite v).Canon := .ite (.raise (.put h)) (.raise h)

theorem State.Canon.dstCommand (h : s.Canon) {w : Who} {add : Bool} : (s.dstCommand w add).Canon := by
  unfold State.dstCommand
  exact .ite (.jRefused (.raise h)) (.putB (.raise (.acceptReg (.complete (.complete h)))))

theorem State.Canon.zeroSecure (h : s.Canon) {m : Nat} : (s.zeroSecure m).Canon := .zeroMem h

theorem State.Canon.tamper (h : s.Canon) {n : Nat} {samples : BitVec 3} : (s.tamper n samples).Canon :=
  .ite h (.when (.wakeSource (.raise (.when h fun h => .put h))) fun h => .resetCells (.over h fun h => .zeroSecure h))

/-! ## Machine/Fuses -/

theorem State.Canon.fuseBegin (h : s.Canon) {id word len d by' : Nat} : (s.fuseBegin id word len d by').Canon := by
  unfold State.fuseBegin
  exact .raise (.over (.put (.put (.put (.put (.put (.raise h)))))) fun h => .putAt h)

theorem State.Canon.fuseRefuse (h : s.Canon) {reason : Nat} : (s.fuseRefuse reason).Canon := .put (.put h)

theorem State.Canon.fuseGo (h : s.Canon) {key field word len : Nat} {supplyOk : Bool} : (s.fuseGo key field word len supplyOk).Canon := by
  unfold State.fuseGo
  refine .ite (.fuseRefuse h) ?_
  extract_lets
  split
  · exact .fuseRefuse (.put (.put (.put h)))
  · exact .ite (.fuseRefuse (.put (.put (.put h)))) (.fuseBegin (.when (.put (.put (.put h))) fun h => .raise h))

theorem State.Canon.fuseBlow (h : s.Canon) {m : Nat} {f : FuseFld} {desired : Nat} {fails : List (Nat × Bool)} :
    (s.fuseBlow m f desired fails).Canon := by
  unfold State.fuseBlow
  exact .putAt h

theorem State.Canon.killApply (h : s.Canon) : s.killApply.Canon := .when h fun h => .put h

theorem State.Canon.fuseServed (h : s.Canon) {by' : Nat} {weak : Bool} : (s.fuseServed by' weak).Canon := .ite (.complete h) (.ite (.clr h) h)

theorem State.Canon.fuseDone (h : s.Canon) {fails : List (Nat × Nat × Bool)} : (s.fuseDone fails).Canon := by
  unfold State.fuseDone
  split
  · exact h
  · exact .ite h (.ite (.clr (.over h fun h => .putBit (.fuseBlow h))) (.fuseServed (.killApply (.when (.put (.clr (.clr (.over h fun h => .putBit
    (.fuseBlow h))))) fun h => .raise h))))

theorem State.Canon.fuseResume (h : s.Canon) {supplyOk : Bool} : (s.fuseResume supplyOk).Canon := .when h fun h => .raise h

theorem State.Canon.lcRefuse (h : s.Canon) {w : Who} {f : Fld} {reason : Nat} : (s.lcRefuse w f reason).Canon := .jRefused (.put (.raise h))

theorem State.Canon.lcAdvance (h : s.Canon) {w : Who} {key : Nat} {supplyOk : Bool} : (s.lcAdvance w key supplyOk).Canon := by
  unfold State.lcAdvance
  exact .ite (.lcRefuse h) (.ite (.lcRefuse h) (.ite (.lcRefuse h) (.ite (.lcRefuse h) (.fuseBegin (.acceptReg h)))))

theorem State.Canon.blowAll (h : s.Canon) {f : Fld} : (s.blowAll f).Canon := .over h fun h => .put h

theorem State.Canon.lcWipe (h : s.Canon) {w : Who} {key : Nat} : (s.lcWipe w key).Canon := by
  unfold State.lcWipe
  exact .ite (.lcRefuse h) (.ite (.lcRefuse h) (.ite (.lcRefuse h) (.systemReset (.blowAll (.jDone h)))))

/-! ## Machine/Power -/

theorem State.Canon.dieLost (h : s.Canon) {m : Nat} : (s.dieLost m).Canon := by
  unfold State.dieLost
  extract_lets s1 s2
  have h1 : s1.Canon := .resetCells h
  have h2 : s2.Canon := ⟨h1.cells, Memory.wf_filter _ h1.mem⟩
  exact .clr (.clr h2)

theorem State.Canon.powerLost (h : s.Canon) {st : Nat} : (s.powerLost st).Canon := by
  unfold State.powerLost
  exact .put (.dropWork (.resetCells (.over (.flashCut h) fun h => .dieLost h)))

theorem State.Canon.vbiasLoss (h : s.Canon) {m : Nat} : (s.vbiasLoss m).Canon := .ite h (.ite (.powerLost h) (.when (.dieLost h) fun h => .raise h))

theorem State.Canon.firstVbias (h : s.Canon) {m : Nat} : (s.firstVbias m).Canon := .ite h (.raise (.raise (.powerOnReset h)))

theorem State.Canon.vbiasReturn (h : s.Canon) {m : Nat} : (s.vbiasReturn m).Canon := .ite h (.when (.raise (.dieLost h)) fun h => .raise h)

theorem State.Canon.senseKeep (h : s.Canon) {m : Nat} : (s.senseKeep m).Canon := by
  unfold State.senseKeep
  exact .put (.put (.over (.put (.put (.put (.put (.put (.put (.put (.put (.put (.put (.putB (.put h)))))))))))) fun h => .putAt h))

theorem State.Canon.senseShow (h : s.Canon) {m : Nat} : (s.senseShow m).Canon := by
  unfold State.senseShow
  exact .over (.put (.put (.put (.put (.put (.put (.put (.put h)))))))) fun h => .putAt h

theorem State.Canon.devRefuse (h : s.Canon) {w : Who} {f : Fld} {status : Nat} : (s.devRefuse w f status).Canon := .jRefused (.raise h)

theorem State.Canon.sysRst (h : s.Canon) {w : Who} {key : Nat} : (s.sysRst w key).Canon := .ite (.systemReset (.jDone h)) (.devRefuse h)

theorem State.Canon.tileRst (h : s.Canon) {w : Who} {t key : Nat} : (s.tileRst w t key).Canon := .ite (.devRefuse h) (.tileReset (.jDone h))

theorem State.Canon.armEnter (h : s.Canon) : s.armEnter.Canon := .put (.put h)

theorem State.Canon.runEnter (h : s.Canon) : s.runEnter.Canon := .autoRun (.put h)

theorem State.Canon.runCmd (h : s.Canon) {w : Who} : (s.runCmd w).Canon := .ite (.runEnter (.jDone h)) (.devRefuse h)

theorem State.Canon.tilesPark (h : s.Canon) : s.tilesPark.Canon := by
  unfold State.tilesPark
  exact .same (.zeroMem (.resetCells (.over h fun h => .isoMgr h)))

theorem State.Canon.hpdPark (h : s.Canon) : s.hpdPark.Canon := .chgEval (.raise (.pairOff (.buckShow (.clr h))))

theorem State.Canon.parkCmd (h : s.Canon) {w : Who} : (s.parkCmd w).Canon :=
  .ite (.devRefuse h) (.put (.clr (.refStop (.refStop (.over (.tilesPark (.hpdPark (.put (.over (.jDone h) fun h => .trace h)))) fun h => .clr (.clr
    h))))))

/-! ## Machine/RegWrite -/

theorem State.Canon.raiseComp (h : s.Canon) {f : Fld} {i j : Nat} : (s.raiseComp f i j).Canon := by
  unfold State.raiseComp
  split
  · exact .raiseAt h
  · exact h

theorem State.Canon.hwTake (h : s.Canon) {f : Fld} {i j u : Nat} : (s.hwTake f i j u).Canon := by
  unfold State.hwTake
  split
  · exact .ite (.bumpAt h) (.putAt h)
  · exact .putAt h
  · exact .putAt h
  · exact .putAt h
  · exact .putAt h
  · exact .putAt h
  · exact h
  · exact h
  · exact h

theorem State.Canon.fieldWrite (h : s.Canon) {f : Fld} {i j v : Nat} {locked : Bool} {u : Option Nat} : (s.fieldWrite f i j v locked u).Canon := by
  unfold State.fieldWrite
  split
  · exact .putAt h
  · exact .putAt h
  · exact .putAt h
  · exact .ite (.elim h fun h => .putAt h) (.putAt h)
  · exact .elim h fun h => .putAt h
  · exact .elim h fun h => .putAt h
  · exact h
  · exact h
  · exact h

theorem State.Canon.hwOnly (h : s.Canon) {b : Blk} {m i off : Nat} {hw : List HwUpdate} : (s.hwOnly b m i off hw).Canon :=
  .over h fun h => .elim h fun h => .hwTake h

theorem State.Canon.fieldsWrite (h : s.Canon) {b : Blk} {m i off v : Nat} {keep : Fld → Bool} {hw : List HwUpdate} :
    (s.fieldsWrite b m i off v keep hw).Canon := by
  unfold State.fieldsWrite
  exact .over (.over h fun h => .ite h (.ite (.elim h fun h => .hwTake h) (.fieldWrite h))) fun h => .raiseComp h

theorem State.Canon.phaseEffect (h : s.Canon) {w : Who} {p off v : Nat} : (s.phaseEffect w p off v).Canon := by
  unfold State.phaseEffect
  exact .when (.when (.ite (.hostShed (.when h fun h => .raise h)) (.when (.when h fun h => .raise h) fun h => .hostAdd h)) fun h => .hostUnblock h)
    fun h => .failInj h

theorem State.Canon.railEffect (h : s.Canon) {w : Who} {i off v : Nat} {hw : List HwUpdate} : (s.railEffect w i off v hw).Canon := by
  unfold State.railEffect
  exact .when (.when (.when (.elim (.elim (.when (.when (.when (.when (.when h fun h => .swapArm h) fun h => .lawSelect h) fun h => .setpointWrite
    h) fun h => .raise h) fun h => .raise h) fun h => .accLow h) fun h => .accHigh h) fun h => .railOn h) fun h => .railOff h) fun h => .rejoin h

theorem State.Canon.tileEffect (h : s.Canon) {s0 : State} {w : Who} {t off v : Nat} : (s.tileEffect s0 w t off v).Canon := by
  unfold State.tileEffect
  exact .when (.when (.when (.when (.when (.when (.when (.when h fun h => .capArm (.jDone h)) fun h => .capDisarm h) fun h => .capNow (.jDone h))
    fun h => .clr (.clr h)) fun h => .diagStart h) fun h => .skewCommand h) fun h => .handback h) fun h => .tileTsdClr h

theorem State.Canon.chemWrite (h : s.Canon) {locked : Bool} {c : Nat} : (s.chemWrite locked c).Canon := .ite h (.put (.put h))

theorem State.Canon.chgFaultWrite (h : s.Canon) {v : Nat} {hw : List HwUpdate} : (s.chgFaultWrite v hw).Canon := by
  unfold State.chgFaultWrite
  exact .chgFaultClear (.over h fun h => .chgFault h)

theorem State.Canon.pairFaultWrite (h : s.Canon) {v : Nat} {hw : List HwUpdate} : (s.pairFaultWrite v hw).Canon := by
  unfold State.pairFaultWrite
  exact .pairFaultClear (.over h fun h => .pairFault h)

theorem State.Canon.hpdEffect (h : s.Canon) {s0 : State} {w : Who} {off v : Nat} {hw : List HwUpdate} : (s.hpdEffect s0 w off v hw).Canon := by
  unfold State.hpdEffect
  exact .when (.when (.when (.when (.when (.when (.when (.when (.when (.when (.when (.when (.when (.when h fun h => .put h) fun h => .put h)
    fun h => .searchStart h) fun h => .ite (.bfetOpen h) (.bfetArm h)) fun h => .put h) fun h => .pairFaultWrite h) fun h => .chgEnable (.chemWrite
    h)) fun h => .chgFaultWrite h) fun h => .hpdTsdClr h) fun h => .setFcc h) fun h => .gaugeStore (.jDone h)) fun h => .packSwap (.jDone h))
    fun h => .chgEval (.authSeries (.jDone h))) fun h => .gaugeWake h

theorem State.Canon.seqrEffect (h : s.Canon) {w : Who} {m off v : Nat} {hw : List HwUpdate} : (s.seqrEffect w m off v hw).Canon := by
  unfold State.seqrEffect
  exact .elim (.elim (.when (.when (.when (.when (.when (.when (.when (.when (.when h fun h => .seqRun h) fun h => .snapTrigger (.jDone h))
    fun h => .put (.clr (.clr h))) fun h => .laneGo h) fun h => .fltRelease h) fun h => .over (.jDone h) fun h => .isoMgr h) fun h => .over h
    fun h => .isoRelease h) fun h => .kerbEnter (.jDone h)) fun h => .kerbExit h) fun h => .accLow h) fun h => .accHigh h

theorem State.Canon.srcCfgWrite (h : s.Canon) {s0 : State} {n v : Nat} : (s.srcCfgWrite s0 n v).Canon :=
  .ite h (.when (.when (.putAt (.when h fun h => .putAt h)) fun h => .putAt h) fun h => .occur h)

theorem State.Canon.swLineWrite (h : s.Canon) {v : Nat} : (s.swLineWrite v).Canon := by
  unfold State.swLineWrite
  exact .over (.put h) fun h => .lineSet h

theorem State.Canon.evcEffect (h : s.Canon) {s0 : State} {off v : Nat} : (s.evcEffect s0 off v).Canon := by
  unfold State.evcEffect
  exact .elim (.when (.when (.when h fun h => .heldFlush h) fun h => .ite (.foldComplete h) (.srcComplete h)) fun h => .swLineWrite h)
    fun h => .srcCfgWrite h

theorem State.Canon.ldrEffect (h : s.Canon) {w : Who} {off v : Nat} : (s.ldrEffect w off v).Canon := by
  unfold State.ldrEffect
  exact .when (.when (.when (.when h fun h => .runCmd h) fun h => .parkCmd h) fun h => .over h fun h => .tileRst h) fun h => .sysRst h

theorem State.Canon.fuseEffect (h : s.Canon) {w : Who} {off v : Nat} : (s.fuseEffect w off v).Canon := by
  unfold State.fuseEffect
  exact .when (.when (.when h fun h => .fuseGo h) fun h => .lcAdvance h) fun h => .lcWipe h

theorem State.Canon.wdtValue (h : s.Canon) {v : Nat} : (s.wdtValue v).Canon := .ite (.keyA h) (.ite (.keyB h) (.badKey h))

theorem State.Canon.rtcEffect (h : s.Canon) {w : Who} {off v : Nat} : (s.rtcEffect w off v).Canon := by
  unfold State.rtcEffect
  exact .when (.when (.when (.when h fun h => .ite (.rtcHalt h) (.rtcResume h)) fun h => .dstCommand h) fun h => .dstCommand h)
    fun h => .rtcSecWrite h

theorem State.Canon.jrnEffect (h : s.Canon) {w : Who} {off v : Nat} : (s.jrnEffect w off v).Canon := by
  unfold State.jrnEffect
  exact .when (.when h fun h => .journal h) fun h => .putB h

theorem State.Canon.regEffect (h : s.Canon) {s0 : State} {w : Who} {m : Nat} {b : Blk} {i off v : Nat} {hw : List HwUpdate} :
    (s.regEffect s0 w m b i off v hw).Canon := by
  unfold State.regEffect
  split
  · exact .phaseEffect h
  · exact .railEffect h
  · exact .tileEffect h
  · exact .hpdEffect h
  · exact .when (.seqrEffect h) fun h => .metStrobe h
  · exact .when (.when (.when h fun h => .handover h) fun h => .sscWrite h) fun h => .lbistStart h
  · exact .evcEffect h
  · exact .ldrEffect h
  · exact .fuseEffect h
  · exact .when h fun h => .wdtKey h fun h => .wdtValue h
  · exact .rtcEffect h
  · exact .elim h fun h => .trace h
  · exact .when h fun h => .jDone h
  · exact .jrnEffect h
  · exact h
  · exact h
  · exact h
  · exact h
  · exact h
  · exact h

theorem State.Canon.regRefused (h : s.Canon) {w : Who} {b : Blk} {i off v : Nat} : (s.regRefused w b i off v).Canon := by
  unfold State.regRefused
  exact .when (.when (.when (.when (.elim h fun h => .raiseAt h) fun h => .elim h fun h => .raise h) fun h => .jRefused h) fun h => .ite (.modeBusy
    h) (.jRefused h)) fun h => .when (.jRefused h) fun h => .put h

theorem State.Canon.offCfgWrite (h : s.Canon) {m i off v : Nat} {hw : List HwUpdate} : (s.offCfgWrite m i off v hw).Canon := by
  unfold State.offCfgWrite
  exact .when (.fieldsWrite h) fun h => .raise h

theorem State.Canon.regWrite (h : s.Canon) {w : Who} {m : Nat} {b : Blk} {i off v : Nat} {hw : List HwUpdate} : (s.regWrite w m b i off v hw).Canon :=
  .ite (.regRefused (.hwOnly h)) (.ite (.offCfgWrite h) (.regEffect (.when (.fieldsWrite h) fun h => .elim h fun h => .raise h)))

theorem State.Canon.shadowWrite (h : s.Canon) {w : Who} {m : Nat} {b : Blk} {off v : Nat} {hw : List HwUpdate} :
    (s.shadowWrite w m b off v hw).Canon :=
  .ite (.busError (.hwOnly h)) (.elim (.when (.when (.fieldsWrite (.served h)) fun h => .metStrobe h) fun h => .handover h) fun h => .trace h)

theorem State.Canon.blockWrite (h : s.Canon) {w : Who} {m : Nat} {b : Blk} {i off v : Nat} {hw : List HwUpdate} :
    (s.blockWrite w m b i off v hw).Canon :=
  .ite (.served (.hwOnly h)) (.ite (.busError h) (.ite (.ite (.shadowWrite h) (.regWrite (.served h))) (.ite (.busError (.hwOnly h)) (.regWrite
    (.served h)))))

theorem State.Canon.busWrite (h : s.Canon) {w : Who} {m : Nat} {secure : Bool} {a n : Nat} {v : Word} {hw : List HwUpdate} :
    (s.busWrite w m secure a n v hw).Canon := by
  unfold State.busWrite
  extract_lets
  split
  · exact .spStore h
  · exact .feStore h
  · split
    · exact .ite (.busError h) (.wrBytes (.served h))
    · exact .busError h
  · exact .ite (.busError (.hwOnly h)) (.blockWrite h)
  · exact .ite (.busError h) (.bankWrite (.served h))
  · exact .ite (.busError h) (.same (.served h))
  · exact .busError h
  · exact .busError h

theorem State.Canon.cycleWrites {m : Nat} {addr : Word} {l : List OneWrite} : ∀ {s : State} {hw :
    List HwUpdate}, s.Canon → (s.cycleWrites m addr hw l).Canon := by
  induction l with
  | nil => exact id
  | cons x l ih => exact fun h => ih (.busWrite h)

theorem State.Canon.frameWrite (h : s.Canon) {u m : Nat} {w : Who} {sentActive : Bool} {off : Nat} {v : Word} :
    (s.frameWrite u m w sentActive off v).Canon :=
  .ite (.busWrite h) (.ite (.bump h) (.busError h))

theorem State.Canon.snapPut (h : s.Canon) {m : Nat} {w : Who} {a : Nat} {high : List Nat} {wrap : Bool} : (s.snapPut m w a high wrap).Canon := .same h

theorem State.Canon.give (h : s.Canon) {w : Who} {m v : Nat} : (s.give w m v).Canon := .putAt (.served h)

theorem State.Canon.giveFree (h : s.Canon) {w : Who} {m : Nat} : (s.giveFree w m).Canon := by
  unfold State.giveFree
  split
  next e =>
    exact .give (.sndOf (.draw h) e)

/-- What a read of the event controller answers, if it answers. -/
theorem State.Canon.evcRead (h : s.Canon) {w : Who} {m off : Nat} {t : State} (e : s.evcRead w m off = some t) : t.Canon := by
  unfold State.evcRead at e
  split at e
  · cases e; exact .evcAccess h fun h => .take h
  split at e
  · cases e; exact .ite (.busError h) (.evcAccess h fun h => .take h)
  split at e
  · cases e; exact .evcAccess h fun h => .hostTake h
  split at e
  · cases e; exact .give h
  · cases e; exact .give h
  · cases e

theorem State.Canon.blockRead (h : s.Canon) {w : Who} {m : Nat} {b : Blk} {i off : Nat} : (s.blockRead w m b i off).Canon := by
  unfold State.blockRead
  extract_lets a s1
  have h1 : s1.Canon := .when h fun h => .gaugeWake h
  refine .ite (.give h1) (.ite (.busError h1) ?_)
  split
  next e =>
    split at e
    · exact .evcRead h1 e
    · cases e
  · refine .ite (.give (.snapPut h1)) ?_
    split
    · split
      · exact .give h1
      · exact .ite (.give h1) (.giveFree h1)
    · exact .give h1

theorem State.Canon.metRead' (h : s.Canon) {w : Who} {m a : Nat} : (s.metRead' w m a).Canon := by
  unfold State.metRead'
  refine .ite (.busError h) ?_
  refine .ite (.give (.snapPut h)) ?_
  refine .ite ?_ (.give h)
  split
  · exact .give h
  · exact .give h

theorem State.Canon.memRead (h : s.Canon) {w : Who} {m : Nat} {secure : Bool} {a n : Nat} : (s.memRead w m secure a n).Canon := by
  unfold State.memRead
  exact .ite (.busError h) (.ite (.raise (.busError h)) (.give h))

theorem State.Canon.engRead (h : s.Canon) {w : Who} {m t e off : Nat} : (s.engRead w m t e off).Canon := by
  unfold State.engRead
  exact .ite (.give (.eccRead h)) (.giveFree (.eccRead h))

theorem State.Canon.busRead (h : s.Canon) {w : Who} {m : Nat} {secure : Bool} {a n : Nat} : (s.busRead w m secure a n).Canon := by
  unfold State.busRead
  extract_lets
  split
  · exact .memRead h
  · exact .ite (.busError h) (.give h)
  · split
    · exact .ite (.busError h) (.give h)
    · exact .busError h
  · exact .ite (.busError h) (.blockRead h)
  · exact .ite (.busError h) (.engRead h)
  · exact .ite (.busError h) (.engRead h)
  · exact .ite (.giveFree h) (.ite (.ite (.busError h) (.metRead' h)) (.ite (.busError h) (.give h)))
  · exact .busError h

/-! ## Machine/Loader -/

/-- What a register takes from an image, unless it refuses it. -/
theorem State.Canon.loadReg (h : s.Canon) {b : Blk} {i off v : Nat} {t : State} (e : s.loadReg b i off v = some t) : t.Canon := by
  unfold State.loadReg at e
  split at e
  · cases e
  split at e
  · cases e; exact .over h fun h => .fieldWrite h
  · cases e; exact .regWrite h

theorem State.Canon.loadEngine (h : s.Canon) {target : Nat} {l : List Byte} : (s.loadEngine target l).Canon := by
  unfold State.loadEngine
  exact .ite (.wrEng h) (.ite (.bankFill h) (.raise (.clr (.bankFill h))))

theorem State.Canon.assignHomes (h : s.Canon) : s.assignHomes.Canon := .over h fun h => .putAt h

theorem State.Canon.assignSlots (h : s.Canon) : s.assignSlots.Canon := by
  unfold State.assignSlots
  exact .over (.over h fun h => .putAt h) fun h => .over h fun h => .putAt h

theorem State.Canon.listCell (h : s.Canon) {k : Key} {v : Nat} : ({ s with cells := (s.cells.drop k).list k v } : State).Canon :=
  ⟨Cells.wf_list k v (Cells.wf_drop k h.cells), h.mem⟩

theorem State.Canon.kRestore (h : s.Canon) {s0 : State} : (s.kRestore s0).Canon := by
  unfold State.kRestore
  exact .raise (.when (.ite (.foldl (.resetCells h) fun h => .listCell h) h) fun h => .raise h)

theorem State.Canon.gaugeReduce (h : s.Canon) {rm : Int} {stored : Nat} : (s.gaugeReduce rm stored).Canon := by
  unfold State.gaugeReduce
  exact .ite (.clr (.raise h)) (.putI (.raise h))

theorem State.Canon.gaugeTake (h : s.Canon) {l : List (Nat × Nat)} : (s.gaugeTake l).Canon := by
  unfold State.gaugeTake
  exact .socShow (.when (.when (.putI (.put (.put (.put (.setFcc (.put h)))))) fun h => .gaugeReduce h) fun h => .jAction (.raise h))

theorem State.Canon.gaugeRestore (h : s.Canon) : s.gaugeRestore.Canon := .ite h (.raise (.ite (.socShow (.clr (.setFcc (.clr h)))) (.gaugeTake h)))

theorem State.Canon.dropEmptyRails (h : s.Canon) : s.dropEmptyRails.Canon := .resetCells h

theorem State.Canon.copyLaws (h : s.Canon) : s.copyLaws.Canon := .over h fun h => .putAt h

theorem State.Canon.commit (h : s.Canon) {s0 : State} {k : Nat} : (s.commit s0 k).Canon := by
  unfold State.commit
  exact .armEnter (.gaugeRestore (.over (.when (.clr (.put (.put (.put (.put (.putB (.put (.putB (.raise (.over (.kRestore (.copyLaws
    (.dropEmptyRails h))) fun h => .clr h)))))))))) fun h => .raise h) fun h => .put h))

theorem State.Canon.slotRefused (h : s.Canon) {k code : Nat} {where' : Option (Nat × Nat)} : (s.slotRefused k code where').Canon := by
  unfold State.slotRefused
  extract_lets s1 s2
  have h1 : s1.Canon := .put h
  have h2 : s2.Canon := by
    refine .ite h1 ?_
    split
    · exact .put (.put h1)
    · split
      next e1 =>
        split
        next e2 => exact .put (.put (.sndOf (.draw (.sndOf (.draw h1) e1)) e2))
  exact .ite (.clr (.raise h2)) h2

/-! Streaming: the state that it has reached so far. -/

theorem State.Canon.streamEntry {x : Stream} (h : x.st.Canon) {sec off a v : Nat} : (x.entry sec off a v).st.Canon := by
  unfold Stream.entry
  split
  · exact h
  split
  · exact h
  split
  · split
    · exact h
    · split
      next e => exact .loadReg h e
      · exact h
  · exact .bankWord h
  · exact .wrData h
  · exact .wr32 h
  · split
    · exact .feStore h
    · exact h
  all_goals exact h

theorem State.Canon.streamLate {x : Stream} (h : x.st.Canon) {sec off a v : Nat} : (x.late sec off a v).st.Canon := by
  unfold Stream.late
  split
  · exact h
  split
  · split
    next e => exact .loadReg h e
    · exact h
  · exact h

theorem State.Canon.streamFold {α : Type} {l : List α} {f : Stream → α → Stream} (hf : ∀ {x : Stream} {a}, x.st.Canon → (f x a).st.Canon) :
    ∀ {x : Stream}, x.st.Canon → (l.foldl f x).st.Canon := by
  induction l with
  | nil => exact id
  | cons a l ih => exact fun h => ih (hf h)

theorem State.Canon.streamTake {x : Stream} (h : x.st.Canon) {k : Nat} {c : Section'} : (x.take k c).st.Canon := by
  unfold Stream.take
  split
  · exact h
  split
  · exact h
  · extract_lets l x1
    have h1 : x1.st.Canon := by
      unfold x1
      split
      · exact .putAt h
      · exact h
    split
    · exact .over h1 fun h => .wrBytes h
    · exact .over h1 fun h => .wrBytes h
    · exact .streamFold (fun h => .streamEntry h) h1
    · exact .loadEngine h1
    · split
      · exact .same h1
      · exact h1

theorem State.Canon.stream (h : s.Canon) {k : Nat} : (s.stream k).st.Canon := by
  unfold State.stream
  exact .streamFold (fun h => .streamTake h) (.same h)

theorem State.Canon.settle {x : Stream} (h : x.st.Canon) : x.settle.st.Canon := by
  unfold Stream.settle
  extract_lets x1
  have h1 : x1.st.Canon := .streamFold (fun h => .streamLate h) h
  dsimp only
  exact .assignSlots (.assignHomes h1)

theorem State.Canon.loadCommit (h : s.Canon) : s.loadCommit.Canon := by
  unfold State.loadCommit
  refine .ite h ?_
  split
  · exact h
  · exact .ite (.slotRefused h) (.ite (.slotRefused h) (.ite (.slotRefused h) (.ite (.slotRefused h) (.ite (.slotRefused h)
      (.commit (.settle (.stream h)))))))

/-! ## Machine/UpdMap -/

theorem State.Canon.chunkPut (h : s.Canon) {c v : Nat} : (s.chunkPut c v).Canon := by
  unfold State.chunkPut
  exact .ite (.mapSave (.put (.mapWrite h))) (.ite (.mapSave (.put (.mapWrite h))) (.mapWrite h))

theorem State.Canon.chunksOpen (h : s.Canon) : s.chunksOpen.Canon := .put (.over h fun h => .mapWrite h)

theorem State.Canon.tableMerge (h : s.Canon) : s.tableMerge.Canon := .ite h (.ite h (.updAction (.raise (.over h fun h => .mapWrite h))))

theorem State.Canon.mapTake (h : s.Canon) {m : Nat} : (s.mapTake m).Canon := by
  unfold State.mapTake
  exact .put (.put (.put (.put (.put (.put (.put (.put h)))))))

theorem State.Canon.mapVoid (h : s.Canon) : s.mapVoid.Canon := by
  unfold State.mapVoid
  exact .clr (.clr (.clr (.clr (.clr (.clr (.clr (.clr (.over h fun h => .zeroMem h))))))))

theorem State.Canon.mapRestore (h : s.Canon) : s.mapRestore.Canon := by
  unfold State.mapRestore
  split
  · exact .mapVoid h
  · exact .mapTake (.tableMerge (.mapWrite h))

theorem State.Canon.selWrite (h : s.Canon) {slot trial prior : Nat} : (s.selWrite slot trial prior).Canon := by
  unfold State.selWrite
  split
  · exact .over h fun h => .wrFe h

theorem State.Canon.selRevert (h : s.Canon) : s.selRevert.Canon := by
  unfold State.selRevert
  exact .ite (.updAction (.raise (.selWrite h))) h

theorem State.Canon.slotChoice (h : s.Canon) : s.slotChoice.Canon := .put h

theorem State.Canon.updAfterReset (h : s.Canon) : s.updAfterReset.Canon := by
  unfold State.updAfterReset
  exact .ite (.updTo (.clr h)) (.ite (.updTo (.clr h)) (.ite (.updTo (.put (.clr h))) (.clr h)))

theorem State.Canon.bufClear (h : s.Canon) {p : Nat} : (s.bufClear p).Canon := .zeroMem h

theorem State.Canon.bufWrite (h : s.Canon) {p off : Nat} {l : List Byte} : (s.bufWrite p off l).Canon := .wrBytes h

/-! ## Machine/Ports -/

theorem State.Canon.hbDone (h : s.Canon) {code target arg : Nat} : (s.hbDone code target arg).Canon := .bump (.journal h)

theorem State.Canon.cmlSet (h : s.Canon) {b : Nat} : (s.cmlSet b).Canon := .putBit h

theorem State.Canon.hbFlags (h : s.Canon) {status : Nat} : (s.hbFlags status).Canon :=
  .ite (.clr (.cmlSet (.raise h))) (.ite (.clr (.cmlSet (.raise h))) (.ite (.cmlSet (.raise h)) (.ite (.raise h) (.ite (.cmlSet h) h))))

theorem State.Canon.hbRefuse (h : s.Canon) {status code target arg : Nat} : (s.hbRefuse status code target arg).Canon := .bump (.hbFlags (.journal h))

theorem State.Canon.recode (h : s.Canon) {s0 : State} {old new arg : Nat} : (s.recode s0 old new arg).Canon := by
  unfold State.recode
  exact .same h

theorem State.Canon.winWrite {svc : Bool} {ws : List Nat} : ∀ {s : State} {l : List Byte}, s.Canon → (s.winWrite svc ws l).1.Canon := by
  induction ws with
  | nil => exact id
  | cons a t ih =>
    intro s l h
    unfold State.winWrite
    extract_lets s1
    have h1 : s1.Canon := .busWrite h
    split
    · exact h1
    split
    · exact h1
    · exact ih h1

theorem State.Canon.winRead {svc : Bool} {ws : List Nat} : ∀ {s : State}, s.Canon → (s.winRead svc ws).1.Canon := by
  induction ws with
  | nil => exact id
  | cons a t ih =>
    intro s h
    unfold State.winRead
    extract_lets s1
    have h1 : s1.Canon := .busRead h
    split
    · exact h1
    · exact ih h1

theorem State.Canon.winFail (h : s.Canon) {e : Option Nat} : (s.winFail e).Canon := .elim h fun h => .put h

theorem State.Canon.winPut (h : s.Canon) {svc : Bool} {ws : List Nat} {l : List Byte} {target code arg : Nat} :
    (s.winPut svc ws l target code arg).1.Canon := by
  unfold State.winPut
  exact .winFail (.winWrite (.journal h))

/-! ## Machine/HostBus -/

theorem State.Canon.unsupported (h : s.Canon) : s.unsupported.Canon := .bump (.clr (.cmlSet (.raise h)))

theorem State.Canon.hostMsg (h : s.Canon) {cmd : Nat} {write paged inLoad supported : Bool} {g : State → State} (hg : ∀ {s : State}, s.Canon → (g
    s).Canon) :
    (s.hostMsg cmd write paged inLoad supported g).Canon := by
  unfold State.hostMsg
  exact .ite (.wakeSource (.clr (.same h))) (.ite (.clr (.same h)) (.ite (.ite (.hbRefuse (.clr (.same h))) (.bump (.clr (.same h)))) (.ite
    (.unsupported (.same h)) (hg (.raise (.same h))))))

theorem State.Canon.hbSend (h : s.Canon) {cmd : Nat} {l : List Byte} : (s.hbSend cmd l).Canon := .same h

theorem State.Canon.hbBlock (h : s.Canon) {cmd : Nat} {l : List Byte} : (s.hbBlock cmd l).Canon := .hbSend h

theorem State.Canon.hbByte (h : s.Canon) {cmd v : Nat} : (s.hbByte cmd v).Canon := .hbSend h

theorem State.Canon.hbWord (h : s.Canon) {cmd v : Nat} : (s.hbWord cmd v).Canon := .hbSend h

theorem State.Canon.hbFree (h : s.Canon) {cmd : Nat} : (s.hbFree cmd).Canon := .hbWord (.draw h)

theorem State.Canon.winStatusSet (h : s.Canon) {cmd st : Nat} : (s.winStatusSet cmd st).Canon := .when h fun h => .put h

theorem State.Canon.hostWrite (h : s.Canon) {c : WriteCmd} {bytes : List Byte} {g : State → List Byte → State} (hg : ∀ {s : State} {l : List Byte},
    s.Canon → (g s l).Canon) :
    (s.hostWrite c bytes g).Canon := by
  unfold State.hostWrite
  exact .ite (.winStatusSet (.hbRefuse h)) (.ite (.cmlSet (.winStatusSet (.hbRefuse h))) (hg h))

theorem State.Canon.writeDone (h : s.Canon) {c : WriteCmd} {data : List Byte} : (s.writeDone c data).Canon := .hbDone h

theorem State.Canon.writeRefused (h : s.Canon) {c : WriteCmd} {addr : Nat} : (s.writeRefused c addr).Canon := .hbRefuse h

theorem State.Canon.readOrWrite (h : s.Canon) {c : WriteCmd} {rd inLoad supported : Bool} {bytes : List Byte} {read : State → State} {g : State →
    List Byte → State} (hread : ∀ {s : State}, s.Canon → (read s).Canon) (hg : ∀ {s : State} {a1 : List Byte}, s.Canon → (g s a1).Canon) :
    (s.readOrWrite c rd inLoad supported bytes read g).Canon :=
  .hostMsg h fun h => .ite (hread h) (.hostWrite h fun h => hg h)

theorem State.Canon.pageCmd (h : s.Canon) {rd : Bool} {bytes : List Byte} : (s.pageCmd rd bytes).Canon := by
  unfold State.pageCmd
  exact .readOrWrite h (fun h => .hbByte h) fun h => .ite (.put (.writeDone h)) (.writeRefused h)

theorem State.Canon.viaRegister (h : s.Canon) {s0 : State} {c : WriteCmd} {f : Fld} {data : List Byte} : (s.viaRegister s0 c f data).Canon := by
  unfold State.viaRegister
  exact .ite (.bump (.hbFlags (.recode h))) (.bump (.recode h))

theorem State.Canon.operate (h : s.Canon) {c : WriteCmd} {on : Bool} {l : List Byte} : (s.operate c on l).Canon :=
  .ite (.writeDone h) (.viaRegister (.over h fun h => .ite (.railOn h) (.railOff h)))

theorem State.Canon.operationCmd (h : s.Canon) {rd : Bool} {bytes : List Byte} : (s.operationCmd rd bytes).Canon := by
  unfold State.operationCmd
  exact .readOrWrite h (fun h => .hbByte h) fun h => .ite (.operate h) (.ite (.operate h) (.writeRefused h))

theorem State.Canon.hostRead (h : s.Canon) {cmd : Nat} {inLoad supported : Bool} {g : State → State} (hg : ∀ {s : State}, s.Canon → (g s).Canon) :
    (s.hostRead cmd inLoad supported g).Canon :=
  .hostMsg h fun h => hg h

theorem State.Canon.clearFaults (h : s.Canon) {bytes : List Byte} : (s.clearFaults bytes).Canon := by
  unfold State.clearFaults
  exact .hostMsg h fun h => .hostWrite h fun h => .put (.over (.writeDone h) fun h => .over h fun h => .over h fun h => .clr h)

theorem State.Canon.writeProtect (h : s.Canon) {rd : Bool} {bytes : List Byte} : (s.writeProtect rd bytes).Canon := by
  unfold State.writeProtect
  exact .readOrWrite h (fun h => .hbByte h) fun h => .ite (.writeRefused h) (.ite (.raise (.raise (.writeRefused h))) (.put (.writeDone h)))

theorem State.Canon.hbVolts (h : s.Canon) {cmd : Nat} {num : Int} {den u : Nat} : (s.hbVolts cmd num den u).Canon := by
  unfold State.hbVolts
  exact .ite (.hbWord h) (.hbFree h)

theorem State.Canon.railVolts (h : s.Canon) {cmd v : Nat} : (s.railVolts cmd v).Canon := .hbVolts h

theorem State.Canon.voutCommand (h : s.Canon) {rd : Bool} {bytes : List Byte} : (s.voutCommand rd bytes).Canon := by
  unfold State.voutCommand
  exact .readOrWrite h (fun h => .railVolts h) fun h => .ite (.viaRegister (.setpointWrite h)) (.ite (.writeDone (.setpointWrite h)) (.writeRefused
    (.setpointWrite h)))

theorem State.Canon.limitWrite (h : s.Canon) {c : WriteCmd} {f : Fld} {v : Int} {l : List Byte} : (s.limitWrite c f v l).Canon := by
  unfold State.limitWrite
  exact .ite (.writeRefused h) (.ite (.writeRefused (.over h fun h => .regRefused h)) (.over (.writeDone h) fun h => .regWrite h))

theorem State.Canon.ovLimitCmd (h : s.Canon) {rd : Bool} {bytes : List Byte} : (s.ovLimitCmd rd bytes).Canon := by
  unfold State.ovLimitCmd
  exact .readOrWrite h (fun h => .railVolts h) fun h => .limitWrite h

theorem State.Canon.ocLimitCmd (h : s.Canon) {rd : Bool} {bytes : List Byte} : (s.ocLimitCmd rd bytes).Canon := by
  unfold State.ocLimitCmd
  exact .readOrWrite h (fun h => .hbWord h) fun h => .limitWrite h

theorem State.Canon.hbLinear (h : s.Canon) {cmd : Nat} {num : Int} {den : Nat} : (s.hbLinear cmd num den).Canon := .hbWord h

theorem State.Canon.readVin (h : s.Canon) : s.readVin.Canon := by
  unfold State.readVin
  refine .ite (.hbLinear h) ?_
  split
  · exact .hbLinear h
  · exact .hbFree h

theorem State.Canon.readTemp1 (h : s.Canon) : s.readTemp1.Canon := by
  unfold State.readTemp1
  split
  · exact .hbLinear h
  · exact .hbFree h

theorem State.Canon.winAddrCmd (h : s.Canon) {rd : Bool} {bytes : List Byte} : (s.winAddrCmd rd bytes).Canon := by
  unfold State.winAddrCmd
  exact .readOrWrite h (fun h => .hbBlock h) fun h => .put (.writeDone h)

theorem State.Canon.winAdvance (h : s.Canon) {st a n : Nat} : (s.winAdvance st a n).Canon := by
  unfold State.winAdvance
  exact .when (.put h) fun h => .put h

theorem State.Canon.winDataWrite (h : s.Canon) {c : WriteCmd} {l : List Byte} : (s.winDataWrite c l).Canon := by
  unfold State.winDataWrite
  refine .ite (.winStatusSet (.hbRefuse h)) ?_
  split
  next e =>
    exact .ite (.fstOf (.winPut h) e) (.winAdvance (.bump (.fstOf (.winPut h) e)))

theorem State.Canon.winDataRead (h : s.Canon) : s.winDataRead.Canon := by
  unfold State.winDataRead
  refine .ite (.hbBlock (.put (.bump (.raise h)))) ?_
  split
  next e =>
    exact .hbBlock (.winAdvance (.winFail (.fstOf (.winRead h) e)))

theorem State.Canon.winDataCmd (h : s.Canon) {rd : Bool} {bytes : List Byte} : (s.winDataCmd rd bytes).Canon := by
  unfold State.winDataCmd
  exact .readOrWrite h (fun h => .winDataRead h) fun h => .winDataWrite h

theorem State.Canon.winRlenCmd (h : s.Canon) {rd : Bool} {bytes : List Byte} : (s.winRlenCmd rd bytes).Canon := by
  unfold State.winRlenCmd
  exact .readOrWrite h (fun h => .hbByte h) fun h => .ite (.put (.writeDone h)) (.writeRefused h)

theorem State.Canon.callRefused (h : s.Canon) {st : Nat} : (s.callRefused st).Canon := .bump (.hbFlags h)

theorem State.Canon.hostCall (h : s.Canon) {cmd : Nat} {bytes : List Byte} {g : State → Nat → List Byte} : (s.hostCall cmd bytes g).Canon :=
  .hostMsg h fun h => .ite (.callRefused h) (.ite (.callRefused h) (.hbBlock h))

theorem State.Canon.ackTake (h : s.Canon) {v : Nat} : (s.ackTake v).Canon := .putB (.put h)

theorem State.Canon.jrnlAckCmd (h : s.Canon) {bytes : List Byte} : (s.jrnlAckCmd bytes).Canon := by
  unfold State.jrnlAckCmd
  exact .hostMsg h fun h => .hostWrite h fun h => .ite (.raise (.writeRefused h)) (.ackTake (.writeDone h))

theorem State.Canon.portTake (h : s.Canon) {w : Who} : (s.portTake w).1.Canon := by
  unfold State.portTake
  split
  · exact h
  · exact .hostTake h

theorem State.Canon.tagCmd (h : s.Canon) {rd : Bool} {bytes : List Byte} : (s.tagCmd rd bytes).Canon := by
  unfold State.tagCmd
  exact .readOrWrite h (fun h => .hbWord h) fun h => .put (.writeDone h)

theorem State.Canon.busTimeout (h : s.Canon) {f : Fld} : (s.busTimeout f).Canon := .ite (.same (.clr (.bump (.cmlSet (.raise h))))) h

theorem State.Canon.stretchTimeout (h : s.Canon) {cmd : Byte} {sent : List Byte} {left : Nat} : (s.stretchTimeout cmd sent left).Canon :=
  .ite h (.same (.cmlSet (.raise h)))

/-! ## Machine/Service -/

theorem State.Canon.svcReplyWith (h : s.Canon) {cmd st : Nat} {l : List Byte} : (s.svcReplyWith cmd st l).Canon := .bump (.same h)

theorem State.Canon.svcFlags (h : s.Canon) {status : Nat} : (s.svcFlags status).Canon := .ite (.raise h) (.ite (.raise h) (.ite (.raise h) h))

theorem State.Canon.svcEntry (h : s.Canon) {kind status target cmd arg : Nat} : (s.svcEntry kind status target cmd arg).Canon := .journal h

theorem State.Canon.svcRefuse (h : s.Canon) {cmd status target arg : Nat} {entry : Bool} : (s.svcRefuse cmd status target arg entry).Canon := by
  unfold State.svcRefuse
  exact .svcReplyWith (.bump (.svcFlags (.when h fun h => .svcEntry h)))

theorem State.Canon.svcDone (h : s.Canon) {cmd target arg : Nat} {l : List Byte} : (s.svcDone cmd target arg l).Canon := .svcReplyWith (.svcEntry h)

theorem State.Canon.svcMsg (h : s.Canon) {c : SvcCmd} {tag : Nat} {payload : List Byte} {g : State → State} (hg : ∀ {s : State}, s.Canon → (g
    s).Canon) :
    (s.svcMsg c tag payload g).Canon := by
  unfold State.svcMsg
  exact .ite (.wakeSource (.same h)) (.ite (.same h) (.ite (.svcRefuse (.clr (.put (.same h)))) (.ite (.svcRefuse (.clr (.put (.same h)))) (.ite
    (.svcRefuse (.clr (.put (.same h)))) (hg (.clr (.put (.same h))))))))

theorem State.Canon.svcPing (h : s.Canon) {tag : Nat} {l : List Byte} : (s.svcPing tag l).Canon := .svcMsg h fun h => .svcReplyWith h

theorem State.Canon.svcWinRead (h : s.Canon) {tag : Nat} {l : List Byte} : (s.svcWinRead tag l).Canon := by
  unfold State.svcWinRead
  refine .svcMsg h fun h => ?_
  refine .ite (.svcRefuse h) ?_
  split
  next e =>
    exact .svcReplyWith (.winFail (.fstOf (.winRead h) e))

theorem State.Canon.svcWinWrite (h : s.Canon) {tag : Nat} {l : List Byte} : (s.svcWinWrite tag l).Canon := by
  unfold State.svcWinWrite
  refine .svcMsg h fun h => ?_
  refine .ite (.svcRefuse h) ?_
  split
  next e =>
    exact .ite (.svcReplyWith (.fstOf (.winPut h) e)) (.fstOf (.winPut h) e)

theorem State.Canon.svcJrnlRead (h : s.Canon) {tag : Nat} {l : List Byte} : (s.svcJrnlRead tag l).Canon := .svcMsg h fun h => .svcReplyWith h

theorem State.Canon.takeMany {n : Nat} : ∀ {s : State}, s.Canon → (s.takeMany n).1.Canon := by
  induction n with
  | zero => exact id
  | succ n ih => exact fun h => ih (.portTake h)

theorem State.Canon.svcHqRead (h : s.Canon) {tag : Nat} {l : List Byte} : (s.svcHqRead tag l).Canon := by
  unfold State.svcHqRead
  refine .svcMsg h fun h => ?_
  split
  next e =>
    exact .svcReplyWith (.fstOf (.takeMany h) e)

theorem State.Canon.setBaud (h : s.Canon) {tag : Nat} {l : List Byte} : (s.setBaud tag l).Canon :=
  .svcMsg h fun h => .ite (.svcRefuse h) (.put (.raise (.put (.svcDone h))))

theorem State.Canon.svcDevState (h : s.Canon) {tag : Nat} {l : List Byte} : (s.svcDevState tag l).Canon := .svcMsg h fun h => .svcReplyWith h

theorem State.Canon.vendorCmd (h : s.Canon) {k tag : Nat} {l : List Byte} : (s.vendorCmd k tag l).Canon := by
  unfold State.vendorCmd
  refine .svcMsg h fun h => ?_
  split
  next e =>
    exact .svcReplyWith (.svcEntry (.sndOf (.draw h) e))

theorem State.Canon.svcReservedCmd (h : s.Canon) {cmd tag : Nat} {l : List Byte} : (s.svcReservedCmd cmd tag l).Canon := .ite h (.svcMsg h fun h => h)

theorem State.Canon.svcDiscard (h : s.Canon) {f : Fld} : (s.svcDiscard f).Canon := .ite (.same (.bump (.raise h))) h

theorem State.Canon.svcBad (h : s.Canon) {framing : Bool} {raw : List Byte} : (s.svcBad framing raw).Canon :=
  .ite (.svcDiscard h) (.ite (.svcDiscard h) h)

theorem State.Canon.baudApply (h : s.Canon) : s.baudApply.Canon := .ite (.raise (.put (.clr (.put h)))) h

theorem State.Canon.baudFallback (h : s.Canon) : s.baudFallback.Canon := .ite (.put (.clr h)) h

theorem State.Canon.note (h : s.Canon) {w : Who} {code : Nat} : (s.note w code).Canon := .journal h

theorem State.Canon.ackWrite (h : s.Canon) {v : Nat} : (s.ackWrite v).Canon := .ite (.raise h) (.ackTake h)

/-! ## Machine/Update -/

theorem State.Canon.updLast (h : s.Canon) {st : Nat} : (s.updLast st).Canon := .put h

theorem State.Canon.updRefuse (h : s.Canon) {p k st arg : Nat} {l : List Byte} : (s.updRefuse p k st arg l).Canon := by
  unfold State.updRefuse
  exact .ite (.hbRefuse (.updLast h)) (.svcRefuse (.updLast h))

theorem State.Canon.updDone (h : s.Canon) {p k : Nat} {l : List Byte} : (s.updDone p k l).Canon := by
  unfold State.updDone
  exact .ite (.hbDone (.updLast h)) (.svcDone (.updLast h))

theorem State.Canon.updAccept (h : s.Canon) {p k : Nat} {l : List Byte} : (s.updAccept p k l).Canon := by
  unfold State.updAccept
  exact .ite (.bump (.accept (.updLast h))) (.svcReplyWith (.accept (.updLast h)))

theorem State.Canon.updMsg (h : s.Canon) {k : Nat} {msg : PortMsg} {len : Option Nat} {rule : List Byte → Bool} {states : List Nat} {g : State → Nat
    → List Byte → State} (hg : ∀ {s : State} {p : Nat} {l : List Byte}, s.Canon → (g s p l).Canon) :
    (s.updMsg k msg len rule states g).Canon := by
  cases msg with
  | host bytes => exact .hostMsg h fun h => .hostWrite h fun h => .ite (.updRefuse h) (.ite (.updRefuse h) (hg h))
  | svc tag l => exact .svcMsg h fun h => .ite (.updRefuse h) (hg h)

theorem State.Canon.updSend (h : s.Canon) {k : Nat} {msg : PortMsg} {states : List Nat} {g : State → Nat → State} (hg : ∀ {s : State} {a1 : Nat},
    s.Canon → (g s a1).Canon) :
    (s.updSend k msg states g).Canon :=
  .updMsg h fun h => hg h

theorem State.Canon.updRead (h : s.Canon) {k : Nat} {msg : PortMsg} {call : Bool} {g : State → Nat → List Byte} : (s.updRead k msg call g).Canon := by
  unfold State.updRead
  split
  · exact .ite (.ite (.hostCall h) (.hostMsg h fun h => .callRefused h)) (.hostRead h fun h => .ite (.hbBlock h) (.callRefused h))
  · exact .svcMsg h fun h => .svcReplyWith h

theorem State.Canon.eraseStart (h : s.Canon) {c n : Nat} : (s.eraseStart c n).Canon := by
  unfold State.eraseStart
  exact .put (.put (.put (.raise (.chunkPut h))))

theorem State.Canon.flashFree (h : s.Canon) : s.flashFree.Canon := by
  unfold State.flashFree
  exact .ite (.eraseStart (.clr (.flashIdle h))) (.flashIdle h)

theorem State.Canon.sessionOpen (hs : s.Canon) {h : List Byte} : (s.sessionOpen h).Canon := by
  unfold State.sessionOpen
  exact .ite (.raise (.updTo (.chunksOpen (.put (.put (.put (.put (.mapWrite hs)))))))) (.eraseStart (.updTo (.chunksOpen (.put (.put (.put (.put
      (.mapWrite hs))))))))

theorem State.Canon.updBegin (h : s.Canon) {p : Nat} {l : List Byte} : (s.updBegin p l).Canon := by
  unfold State.updBegin
  exact .ite (.updRefuse (.bufClear h)) (.ite (.updRefuse (.bufClear h)) (.ite (.updRefuse (.bufClear h)) (.ite (.updRefuse (.bufClear h))
    (.sessionOpen (.updDone (.bufClear h))))))

theorem State.Canon.updData (h : s.Canon) {p : Nat} {l : List Byte} : (s.updData p l).Canon := by
  unfold State.updData
  exact .ite (.updRefuse h) (.bufWrite (.updDone h))

theorem State.Canon.updCommit (h : s.Canon) {p : Nat} {l : List Byte} : (s.updCommit p l).Canon := by
  unfold State.updCommit
  exact .ite (.updRefuse h) (.ite (.updRefuse (.bufClear h)) (.ite (.updRefuse (.bufClear h)) (.ite (.updRefuse (.bufClear h)) (.put (.put (.raise
    (.chunkPut (.bufWrite (.bufClear (.updAccept (.bufClear h)))))))))))

theorem State.Canon.chunkProgrammed (h : s.Canon) {ok : Bool} : (s.chunkProgrammed ok).Canon :=
  .ite h (.flashFree (.updComplete (.ite (.chunkPut (.flashPut h)) (.chunkUndefined h))))

theorem State.Canon.updErase (h : s.Canon) {p : Nat} {l : List Byte} : (s.updErase p l).Canon := by
  unfold State.updErase
  exact .ite (.updRefuse h) (.ite (.updComplete (.updAccept h)) (.ite (.updRefuse h) (.eraseStart (.updAccept h))))

theorem State.Canon.chunkErased (h : s.Canon) {ok : Bool} : (s.chunkErased ok).Canon :=
  .ite h (.ite (.flashFree (.updComplete (.chunkUndefined h))) (.ite (.eraseStart (.chunkPut (.zeroMem h))) (.flashFree (.updComplete (.chunkPut
    (.zeroMem h))))))

theorem State.Canon.updAbort (h : s.Canon) {p : Nat} : (s.updAbort p).Canon := by
  unfold State.updAbort
  exact .updTo (.when (.clr (.when (.updDone h) fun h => .put (.updComplete h))) fun h => .clr (.updComplete h))

theorem State.Canon.updFinish (h : s.Canon) {p : Nat} : (s.updFinish p).Canon :=
  .ite (.updRefuse h) (.ite (.updRefuse h) (.put (.updTo (.updAccept h))))

theorem State.Canon.finishEnd (h : s.Canon) {st : Nat} : (s.finishEnd st).Canon := by
  unfold State.finishEnd
  exact .updTo (.updComplete (.clr (.flashIdle h)))

theorem State.Canon.finishDigest (h : s.Canon) : s.finishDigest.Canon := .ite (.raise (.put (.chunkPut h))) (.finishEnd h)

theorem State.Canon.finishHeader (h : s.Canon) {ok : Bool} : (s.finishHeader ok).Canon :=
  .ite (.finishEnd (.chunkUndefined h)) (.finishEnd (.chunkPut (.flashPut h)))

theorem State.Canon.finishComplete (h : s.Canon) {header : Option Bool} : (s.finishComplete header).Canon := by
  unfold State.finishComplete
  extract_lets
  split
  · exact .ite (.finishHeader (.ite (.finishDigest h) h)) (.ite (.finishDigest h) h)
  · exact .ite (.finishDigest h) h

theorem State.Canon.updPrepare (h : s.Canon) {p : Nat} : (s.updPrepare p).Canon :=
  .ite (.updRefuse h) (.ite (.updRefuse h) (.ite (.updComplete (.updTo (.updAccept h))) (.raise (.updAccept h))))

theorem State.Canon.stageFirmware (h : s.Canon) {k : Nat} : (s.stageFirmware k).Canon := by
  unfold State.stageFirmware
  exact .put (.put (.put (.put (.over h fun h => .wrBytes (.wrBytes h)))))

theorem State.Canon.bankPrepare (h : s.Canon) {t e law : Nat} {l : List Byte} : (s.bankPrepare t e law l).Canon := by
  unfold State.bankPrepare
  exact .put (.raise (.clr (.bankFill h)))

theorem State.Canon.prepareTiles (h : s.Canon) {k : Nat} : (s.prepareTiles k).Canon := by
  unfold State.prepareTiles
  exact .over (.over (.over h fun h => .clr h) fun h => .bankPrepare h) fun h => .over h fun h => .bankPrepare h

theorem State.Canon.entryApply (h : s.Canon) {a v : Nat} : (s.entryApply a v).Canon := by
  unfold State.entryApply
  extract_lets
  split
  · exact .when (.busWrite h) fun h => .fieldsWrite h
  · exact .busWrite h

theorem State.Canon.dataWords (h : s.Canon) {k p n : Nat} : (s.dataWords k p n).Canon := .over h fun h => .wrEng h

theorem State.Canon.resulting (h : s.Canon) {k : Nat} : (s.resulting k).Canon := by
  unfold State.resulting
  extract_lets s1 s2 s3
  have h2 : s2.Canon := by
    refine .over (.over h fun h => .dataWords h) fun h => ?_
    split
    · exact .putRail h
    · exact .ite (.entryApply h) h
  exact .assignSlots (.assignHomes (.over h2 fun h => .wr32 h))

theorem State.Canon.railTurn (h : s.Canon) {r : Nat} : (s.railTurn r).Canon := by
  unfold State.railTurn
  exact .ite (.over h fun h => .dataWords h) (.over (.over h fun h => .dataWords h) fun h => .swapArm (.put h))

theorem State.Canon.stepThree (h : s.Canon) : s.stepThree.Canon := by
  unfold State.stepThree
  exact .updStep (.assignSlots (.assignHomes (.same (.over (.updStep (.put h)) fun h => .ite (.entryApply h) h))))

theorem State.Canon.railsFrom {l : List Nat} : ∀ {s : State}, s.Canon → (s.railsFrom l).Canon := by
  induction l with
  | nil => exact fun h => .stepThree h
  | cons r t ih =>
    intro s h
    unfold State.railsFrom
    exact .ite (ih h) (.ite (.railTurn (.mapSave (.put h))) (ih (.railTurn (.mapSave (.put h)))))

theorem State.Canon.activateFrom (h : s.Canon) {slot trial prior : Nat} : (s.activateFrom slot trial prior).Canon := by
  unfold State.activateFrom
  exact .railsFrom (.updStep (.selWrite (.updStep (.clr (.clr (.clr h))))))

theorem State.Canon.loadRestart (h : s.Canon) : s.loadRestart.Canon := by
  unfold State.loadRestart
  exact .slotChoice (.raise (.put (.clr (.clr (.clr h)))))

theorem State.Canon.updActivate (h : s.Canon) {p : Nat} : (s.updActivate p).Canon := by
  unfold State.updActivate
  refine .ite (.loadRestart (.updTo (.updComplete (.selWrite (.updAccept h))))) ?_
  refine .ite (.updRefuse h) ?_
  refine .ite (.updRefuse h) ?_
  refine .ite (.updTo (.updRefuse h)) ?_
  split
  · exact .updRefuse h
  · exact .ite (.updRefuse h) (.activateFrom (.updTo (.updAccept h)))

theorem State.Canon.activationRail (h : s.Canon) : s.activationRail.Canon := by
  unfold State.activationRail
  exact .ite h (.railsFrom (.elim h fun h => .putRail (.putRail h)))

theorem State.Canon.fwPlace (h : s.Canon) {m : Nat} {a b : List Byte} : (s.fwPlace m a b).Canon := .put (.wrBytes (.wrBytes h))

theorem State.Canon.fwFlash (h : s.Canon) {m : Nat} : (s.fwFlash m).Canon := by
  unfold State.fwFlash
  split
  · exact h
  · exact .fwPlace h

theorem State.Canon.fwStaged (h : s.Canon) {m : Nat} : (s.fwStaged m).Canon := .ite (.fwPlace h) (.raise (.fwFlash h))

theorem State.Canon.activationReset (h : s.Canon) {m : Nat} : (s.activationReset m).Canon := .raise (.fwStaged (.awlError (.put (.managerReset h))))

theorem State.Canon.imageShow (h : s.Canon) {slot : Nat} : (s.imageShow slot).Canon := by
  unfold State.imageShow
  exact .over (.put (.put (.put (.put h)))) fun h => .putAt h

theorem State.Canon.activationEnd (h : s.Canon) : s.activationEnd.Canon := by
  unfold State.activationEnd
  exact .ite (.updTo (.put (.updComplete (.put (.put (.clr (.clr (.imageShow h)))))))) (.updTo (.ite (.updComplete (.raise (.put (.put (.clr (.clr
    (.imageShow h))))))) (.updAction (.raise (.put (.put (.clr (.clr (.imageShow h)))))))))

theorem State.Canon.mapReturn (h : s.Canon) {m : Nat} : (s.mapReturn m).Canon := .clr (.mapRestore (.raise h))

theorem State.Canon.resetExit (h : s.Canon) {m : Nat} : (s.resetExit m).Canon := by
  unfold State.resetExit
  exact .ite h (.ite h (.ite (.resume (.claim (.raise (.mapReturn (.ite (.fwStaged h) (.fwFlash h)))))) (.joinShadow (.mapReturn (.ite (.fwStaged h)
    (.fwFlash h))))))

theorem State.Canon.activationStep (h : s.Canon) {m : Nat} : (s.activationStep m).Canon := by
  unfold State.activationStep
  exact .ite h (.ite (.ite (.activationReset h) h) (.ite (.ite (.activationEnd (.activationReset (.takeover (.raise (.roleRelease h))))) h) (.ite h
    (.activationEnd (.resetExit (.activationReset h))))))

theorem State.Canon.rollbackTry (h : s.Canon) {supplyOk first : Bool} : (s.rollbackTry supplyOk first).Canon := by
  unfold State.rollbackTry
  exact .ite (.when (.fuseRefuse (.raise (.put h))) fun h => .updAction h) (.fuseBegin (.put h))

theorem State.Canon.updConfirm (h : s.Canon) {p : Nat} {supplyOk : Bool} : (s.updConfirm p supplyOk).Canon :=
  .ite (.updRefuse h) (.ite (.updRefuse h) (.ite (.rollbackTry (.put (.updTo (.selWrite (.updDone h))))) (.updTo (.selWrite (.updDone h)))))

theorem State.Canon.revertEntry (h : s.Canon) {st : Nat} : (s.revertEntry st).Canon := .ite (.updComplete h) (.updAction h)

theorem State.Canon.revertFail (h : s.Canon) : s.revertFail.Canon := by
  unfold State.revertFail
  exact .updTo (.revertEntry (.raise (.selWrite h)))

theorem State.Canon.revertHold (h : s.Canon) {st : Nat} : (s.revertHold st).Canon := by
  unfold State.revertHold
  exact .updTo (.revertEntry (.raise (.selWrite (.clr h))))

theorem State.Canon.revertBegin (h : s.Canon) {host : Bool} : (s.revertBegin host).Canon := by
  unfold State.revertBegin
  exact .ite (.revertFail (.updTo (.putB h))) (.raise (.updTo (.putB h)))

theorem State.Canon.revertActivate (h : s.Canon) {k : Nat} : (s.revertActivate k).Canon :=
  .ite (.revertHold h) (.ite (.revertHold h) (.activateFrom h))

theorem State.Canon.prepareComplete (h : s.Canon) {good : Bool} : (s.prepareComplete good).Canon :=
  .ite h (.ite (.ite (.revertActivate (.clr (.prepareTiles (.stageFirmware h)))) (.revertHold (.clr (.prepareTiles (.stageFirmware h))))) (.ite
    (.updComplete (.updTo (.clr (.prepareTiles (.stageFirmware h))))) (.updComplete (.clr (.prepareTiles (.stageFirmware h))))))

/-! ## Machine/Reports -/

theorem State.Canon.detailOf (h : s.Canon) {n : Nat} : (s.detailOf n).2.Canon := by
  unfold State.detailOf
  split
  · exact h
  · exact .draw h

theorem State.Canon.report (h : s.Canon) {n tick : Nat} : (s.report n tick).Canon := by
  unfold State.report
  split
  next e =>
    extract_lets
    split
    · exact .lineSet (.sndOf (.detailOf h) e)
    · exact .ite (.same (.sndOf (.detailOf h) e)) (.sndOf (.detailOf h) e)

theorem State.Canon.refresh (h : s.Canon) {die : Nat} : (s.refresh die).Canon := .over h fun h => .report h

/-! ## Machine/Start -/

theorem State.Canon.lateJoin (h : s.Canon) {m : Nat} : (s.lateJoin m).Canon :=
  .ite h (.ite (.mapRestore (.joinShadow (.fwFlash (.put h)))) (.raise h))

theorem State.Canon.fuseSense (h : s.Canon) {m : Nat} {vio33 : Bool} : (s.fuseSense m vio33).Canon :=
  .ite h (.ite (.lateJoin (.when (.put (.raise (.senseKeep h))) fun h => .refDrive h)) (.when (.when (.when (.put (.raise (.senseKeep h)))
    fun h => .refDrive h) fun h => .putB h) fun h => .senseShow h))

theorem State.Canon.blockToTile (h : s.Canon) {t x : Nat} : (s.blockToTile t x).Canon := by
  unfold State.blockToTile
  exact .put (.over (.over h fun h => .put h) fun h => .put (.put h))

theorem State.Canon.lawsToTile (h : s.Canon) {t : Nat} : (s.lawsToTile t).Canon :=
  .over h fun h => .ite h (.put (.raise (.clr (.put (.bankFill (.bankFill h))))))

theorem State.Canon.tileWords (h : s.Canon) {t n : Nat} : (s.tileWords t n).Canon := by
  unfold State.tileWords
  refine .over h fun h => ?_
  refine .over h fun h => ?_
  split
  · exact .ite (.bankWord h) h
  · exact .ite (.wrData h) h
  · exact h

theorem State.Canon.tileRewrite (h : s.Canon) {t : Nat} : (s.tileRewrite t).Canon := by
  unfold State.tileRewrite
  split
  · exact h
  · exact .clr (.lawsToTile (.tileWords (.over h fun h => .loadEngine h)))

theorem State.Canon.tileLeaves (h : s.Canon) {t x : Nat} : (s.tileLeaves t x).Canon := by
  unfold State.tileLeaves
  exact .when (.skewRun (.blockToTile h)) fun h => .tileRewrite h

theorem State.Canon.tileReceive (h : s.Canon) {t copyA copyB : Nat} {own fused : Bool} : (s.tileReceive t copyA copyB own fused).Canon := by
  unfold State.tileReceive
  exact .ite h (.ite (.when (.put (.putB (.putB h))) fun h => .raise h) (.ite (.tileLeaves (.put (.putB (.putB h)))) (.put (.putB (.putB h)))))

theorem State.Canon.hpdStart (h : s.Canon) : s.hpdStart.Canon :=
  .ite h (.ite (.pairArm (.when (.buckShow (.raise h)) fun h => .searchStart h)) (.chgEval (.when (.buckShow (.raise h)) fun h => .searchStart h)))

theorem State.Canon.hpdReceive (h : s.Canon) {copyA copyB : Nat} : (s.hpdReceive copyA copyB).Canon := by
  unfold State.hpdReceive
  exact .ite h (.ite (.when (.put (.put (.put h))) fun h => .hpdStart h) (.put h))

theorem State.Canon.singleShow (h : s.Canon) {copyA copyB : Nat} : (s.singleShow copyA copyB).Canon := .when h fun h => .raise h

theorem State.Canon.hpdHold (h : s.Canon) : s.hpdHold.Canon := .chgEval (.pairOff (.buckShow (.clr h)))

theorem State.Canon.fuseHold (h : s.Canon) : s.fuseHold.Canon := by
  unfold State.fuseHold
  exact .over (.when (.raise (.put h)) fun h => .hpdHold h) fun h => .tileReset h

theorem State.Canon.wipeArrays (h : s.Canon) : s.wipeArrays.Canon := by
  unfold State.wipeArrays
  exact .same (.clr (.clr (.clr (.over (.resetCells h) fun h => .zeroMem h))))

theorem State.Canon.wipePads (h : s.Canon) : s.wipePads.Canon := .over h fun h => .zeroMem h

theorem State.Canon.wipeFuses (h : s.Canon) : s.wipeFuses.Canon := by
  unfold State.wipeFuses
  exact .put (.clr (.over h fun h => .put (.put (.put h))))

theorem State.Canon.wipeResume (h : s.Canon) : s.wipeResume.Canon := by
  unfold State.wipeResume
  exact .hpdHold (.clr (.raise (.put (.put (.wipeFuses (.wipePads (.wipeArrays h)))))))

theorem State.Canon.pendRevert (h : s.Canon) : s.pendRevert.Canon := .when h fun h => .raise h

theorem State.Canon.bootSlot (h : s.Canon) : s.bootSlot.Canon := .raise (.slotChoice (.selRevert (.updAfterReset (.pendRevert (.mapRestore h)))))

theorem State.Canon.bufsClear (h : s.Canon) : s.bufsClear.Canon := .bufClear (.bufClear (.bufClear h))

theorem State.Canon.rolesStart (h : s.Canon) : s.rolesStart.Canon := by
  unfold State.rolesStart
  exact .ite (.joinShadow (.put (.claim h))) (.claim h)

theorem State.Canon.bootGo (h : s.Canon) : s.bootGo.Canon := by
  unfold State.bootGo
  exact .ite (.wipeResume (.when (.bufsClear (.put (.rolesStart (.journalRestore (.raise h))))) fun h => .wdtStart h)) (.bootSlot (.when (.bufsClear
    (.put (.rolesStart (.journalRestore (.raise h))))) fun h => .wdtStart h))

theorem State.Canon.integrityDecision (h : s.Canon) : s.integrityDecision.Canon :=
  .ite h (.ite (.bootGo (.over h fun h => .putB h)) (.fuseHold (.over h fun h => .putB h)))

theorem State.Canon.tileRegs (h : s.Canon) {n : Nat} : (s.tileRegs n).Canon := by
  refine .over h fun h => .over h fun {t a} h => ?_
  split
  · cases e : t.loadReg _ _ _ _ with
    | none => exact h
    | some => exact .loadReg h e
  · exact .bankWord h
  · exact .wrData h
  · exact h

theorem State.Canon.wakeTiles (h : s.Canon) {pass : Nat} : (s.wakeTiles pass).Canon :=
  .over h fun h => .ite (.skewRun (.blockToTile (.put h))) (.put h)

theorem State.Canon.wakeSettings (h : s.Canon) : s.wakeSettings.Canon := by
  unfold State.wakeSettings
  split
  · exact .armEnter h
  · exact .ite (.armEnter (.over (.tileRegs h) fun h => .tileRewrite h)) (.loadRestart (.clr (.over h fun h => .tileReset h)))

theorem State.Canon.resumeCores (h : s.Canon) : s.resumeCores.Canon := by
  unfold State.resumeCores
  exact .when (.over h fun h => .trace h) fun h => .wdtStart h

theorem State.Canon.wake (h : s.Canon) {src pass : Nat} : (s.wake src pass).Canon := by
  unfold State.wake
  exact .ite h (.wakeSettings (.hpdStart (.wakeTiles (.resumeCores (.over (.when (.clr (.put h)) fun h => .put h) fun h => .refDrive h)))))

/-! ## Machine/Ziluoz -/

theorem State.Canon.putAccI (h : s.Canon) {x k : Nat} {v : Int} : (s.putAccI x k v).Canon := .setAcc h

theorem State.Canon.lawEntry (h : s.Canon) {t e x i : Nat} : (s.lawEntry t e x i).Canon := by
  unfold State.lawEntry
  exact .put (.clr (.clr (.putBit (.clr (.over h fun h => .putAt h)))))

theorem State.Canon.rampInc (h : s.Canon) {x i : Nat} {n : Int} : (s.rampInc x i n).Canon := .accumulate h

theorem State.Canon.rampStart (h : s.Canon) {x i : Nat} {step : Int} : (s.rampStart x i step).Canon := by
  unfold State.rampStart
  exact .ite (.clr (.when h fun h => .rampInc h)) (.rampInc (.put (.putI (.when h fun h => .rampInc h))))

theorem State.Canon.rampTick (h : s.Canon) {x i : Nat} : (s.rampTick x i).Canon := .ite (.put (.rampInc h)) h

theorem State.Canon.lawHandler (h : s.Canon) {x i j : Nat} : (s.lawHandler x i j).Canon := by
  unfold State.lawHandler
  exact .ite (.ite h (.clr h)) (.ite (.ite (.clr (.putAccI h)) (.clr h)) (.ite (.ite (.rampStart h) h) (.ite (.ite (.rampStart h) h) (.ite (.when
    (.clr (.clrAt h)) fun h => .clrAt h) h))))

theorem State.Canon.voltageLoop (h : s.Canon) {x i law : Nat} : (s.voltageLoop x i law).1.Canon := by
  unfold State.voltageLoop
  exact .stage (.when (.ite (.accumulate h) (.ite h (.putAccI h))) fun h => .putAccI h)

theorem State.Canon.cycleWork (h : s.Canon) {x i : Nat} : (s.cycleWork x i).Canon :=
  .ite (.clr h) (.clr (.putI (.when (.when (.putI h) fun h => .accumulate h) fun h => .putAccI h)))

theorem State.Canon.currentError (h : s.Canon) {x : Nat} {ref : Int} : (s.currentError x ref).Canon := by
  unfold State.currentError
  exact .put h

theorem State.Canon.lawDuty (h : s.Canon) {x : Nat} : (s.lawDuty x).Canon := by
  unfold State.lawDuty
  exact .stage h

theorem State.Canon.lawTick (h : s.Canon) {x i law : Nat} : (s.lawTick x i law).Canon := by
  unfold State.lawTick
  extract_lets s1 s2 ev s3 role
  have h2 : s2.Canon := .when (.rampTick h) fun h => .put h
  have h3 : s3.Canon := by
    unfold s3
    cases ev with
    | some j => exact .putBit (.lawHandler h2)
    | none => exact h2
  have h4 : (if role = 0 then (s3, s3.portS x 3) else s3.voltageLoop x i law).1.Canon := by
    split
    · exact h3
    · exact .voltageLoop h3
  split
  next e =>
    extract_lets s4 s5 s6
    have h5 : s5.Canon := .when (.currentError (h4.fstOf e)) fun h => .raise h
    have h6 : s6.Canon := .ite (.clr (.cycleWork h5)) h5
    exact .when (.put (.lawDuty h6)) fun h => .put h

theorem State.Canon.lawLeaves (h : s.Canon) {t e x i : Nat} : (s.lawLeaves t e x i).Canon := by
  unfold State.lawLeaves
  exact .raise (.put (.put (.draw (.over (.over (.over h fun h => .putAt (.draw h)) fun h => .put (.draw h)) fun h => .wrData (.draw h)))))

theorem State.Canon.lawRun (h : s.Canon) {t e : Nat} : (s.lawRun t e).Canon := by
  unfold State.lawRun
  exact .ite h (.lawLeaves (.ite (.lawEntry h) (.lawTick h)))

/-! ## Machine/Tick -/

theorem State.Canon.dataWrites (h : s.Canon) {t : Nat} : (s.dataWrites t).Canon := .over (.same h) fun h => .wrEng h

theorem State.Canon.commitDuty (h : s.Canon) {p v : Nat} : (s.commitDuty p v).Canon := by
  unfold State.commitDuty
  exact .ite (.setOnTime (.put h)) (.put h)

theorem State.Canon.commitPorts (h : s.Canon) {x p : Nat} : (s.commitPorts x p).Canon := by
  unfold State.commitPorts
  extract_lets follower s1 s2 s3 s4
  have h1 : s1.Canon := by
    dsimp only [s1]
    split
    · exact .commitDuty h
    · exact h
  have h2 : s2.Canon := by
    dsimp only [s2]
    split
    · exact .ite (.raise h1) (.put h1)
    · exact h1
  have h3 : s3.Canon := by
    dsimp only [s3]
    split
    · exact .put h2
    · exact h2
  have h4 : s4.Canon := by
    dsimp only [s4]
    split
    · exact .put h3
    · exact h3
  exact .over h4 fun h => .clrAt h

theorem State.Canon.refUpdate (h : s.Canon) {t r : Nat} {waited : Nat → Bool} : (s.refUpdate t r waited).Canon := by
  unfold State.refUpdate
  split
  · exact h
  · exact .putAt (.putAt (.over h fun h => .putAt (.putAt h)))

theorem State.Canon.snapshot (h : s.Canon) {x p : Nat} : (s.snapshot x p).Canon := .over h fun h => .putAt h

theorem State.Canon.roleUpdate (h : s.Canon) {p : Nat} : (s.roleUpdate p).Canon := .ite h (.event (.put h))

theorem State.Canon.latchEvents (h : s.Canon) {p : Nat} : (s.latchEvents p).Canon := .clr (.put h)

theorem State.Canon.waitingBoundary (h : s.Canon) {x p : Nat} : (s.waitingBoundary x p).Canon := by
  unfold State.waitingBoundary
  exact .checkpoint (.ite (.raise (.swapEngine (.clr (.clr (.raise (.clr (.snapshot (.latchEvents h)))))))) (.clr (.clr (.raise (.clr (.snapshot
    (.latchEvents h)))))))

theorem State.Canon.overrun (h : s.Canon) {x p : Nat} : (s.overrun x p).Canon := by
  unfold State.overrun
  exact .clr (.clr (.bump (.bump (.raise h))))

theorem State.Canon.moveStage (h : s.Canon) {t : Nat} : (s.moveStage t).Canon := by
  unfold State.moveStage
  exact .ite (.put h) (.ite (.when (.put h) fun h => .raise h) (.ite (.put h) (.ite (.when (.put h) fun h => .raise h) h)))

theorem State.Canon.standBy (h : s.Canon) {t : Nat} : (s.standBy t).Canon := by
  unfold State.standBy
  exact .ite h (.ite (.clr h) (.ite (.clr (.clr (.over (.over (.ite (.raise (.clr (.raise h))) h) fun h => .clrAt h) fun h => .putAt (.draw h))))
    (.clr (.over (.ite (.raise (.clr (.raise h))) h) fun h => .clrAt h))))

theorem State.Canon.throttleTick (h : s.Canon) {t r : Nat} : (s.throttleTick t r).Canon := by
  unfold State.throttleTick
  exact .ite (.when h fun h => .clr h) (.putRail (.putAt (.putAt (.when h fun h => .clr h))))

theorem State.Canon.condition (h : s.Canon) {n : Fld} {i b : Nat} {holds : Bool} : (s.condition n i b holds).Canon :=
  .ite (.bump h) (.putBit (.clr h))

theorem State.Canon.protectTick (h : s.Canon) {t r : Nat} : (s.protectTick t r).Canon := by
  unfold State.protectTick
  exact .streak (.streak (.condition (.condition (.condition h))))

theorem State.Canon.overvoltageFollow (h : s.Canon) {t r : Nat} : (s.overvoltageFollow t r).Canon := .ite (.holdMid h) h

theorem State.Canon.countDown (h : s.Canon) {f : Fld} {i : Nat} : (s.countDown f i).Canon := .put h

theorem State.Canon.lossTick (h : s.Canon) {i : Nat} : (s.lossTick i).Canon := .when h fun h => .countDown h

theorem State.Canon.pgPins (h : s.Canon) {t pg : Nat} : (s.pgPins t pg).Canon :=
  .over h fun h => .ite (.clrAt h) (.ite (.bumpAt h) (.putBit (.clrAt (.bumpAt h))))

theorem State.Canon.pgTick (h : s.Canon) {t r : Nat} : (s.pgTick t r).Canon := by
  unfold State.pgTick
  exact .ite (.clr (.bump h)) (.clr (.bump h))

theorem State.Canon.prestartSense (h : s.Canon) {t r : Nat} : (s.prestartSense t r).Canon := by
  unfold State.prestartSense
  exact .when (.when h fun h => .putAt h) fun h => .putAt h

theorem State.Canon.loadArrive (h : s.Canon) {p : Nat} : (s.loadArrive p).Canon := by
  unfold State.loadArrive
  exact .ite (.addParked (.clr h)) (.when (.clr h) fun h => .put h)

theorem State.Canon.cycleCompare (h : s.Canon) {i : Nat} : (s.cycleCompare i).Canon := by
  unfold State.cycleCompare
  exact .put (.putB h)

theorem State.Canon.slotBoundary (h : s.Canon) {t r : Nat} : (s.slotBoundary t r).Canon := by
  refine .elim h fun h => ?_
  extract_lets fresh flags s1 s2 s3 s4
  have h2 : s2.Canon := .ite (.when h fun h => .bumpAt h) (.clrAt (.bumpAt (.when h fun h => .putAt h)))
  have h4 : s4.Canon := .when (.putAt (.clrAt h2)) fun h => .cycleCompare h
  exact .ite (.over h4 fun h => .loadArrive h) h4

theorem State.Canon.cycleAdvance (h : s.Canon) {t r : Nat} : (s.cycleAdvance t r).Canon := by
  unfold State.cycleAdvance
  exact .ite (.clr (.clr (.clr (.clr (.put h))))) (.put (.put (.when (.put h) fun h => .clr h)))

theorem State.Canon.loadCount (h : s.Canon) {t r : Nat} : (s.loadCount t r).Canon := by
  unfold State.loadCount
  exact .ite h (.over (.clr (.ite (.when (.ite (.bump h) (.clr h)) fun h => .bump h) (.clr (.ite (.bump h) (.clr h))))) fun h => .clr h)

theorem State.Canon.railBefore (h : s.Canon) {t r : Nat} : (s.railBefore t r).Canon := by
  unfold State.railBefore
  exact .when (.when (.when (.spStep (.lossTick (.countDown (.loadCount (.windowTick (.bump (.cycleAdvance (.slotBoundary h))))))))
    fun h => .prestartSense h) fun h => .when (.overvoltageFollow (.throttleTick (.windowUpdate h))) fun h => .protectTick h) fun h => .pgTick h

theorem State.Canon.slotCommit (h : s.Canon) {t r : Nat} : (s.slotCommit t r).Canon := by
  unfold State.slotCommit
  extract_lets
  split
  · exact h
  · exact .ite h (.putAt (.putAt (.putAt (.putAt (.putAt h)))))

theorem State.Canon.railAfter (h : s.Canon) {t r : Nat} : (s.railAfter t r).Canon := by
  unfold State.railAfter
  exact .clr (.clr (.when (.slotCommit h) fun h => .telemetryTick h))

theorem State.Canon.senseAll (h : s.Canon) {t : Nat} {levels : List (Sys2Proof.Level × Sys2Proof.Level)} {spare : Sys2Proof.Level} :
    (s.senseAll t levels spare).Canon :=
  .over h fun h => .senseLevels h

theorem State.Canon.ffgainRefresh (h : s.Canon) {t : Nat} : (s.ffgainRefresh t).Canon := .ite (.over h fun h => .put h) h

theorem State.Canon.tileBefore (h : s.Canon) {t : Nat} {levels : List (Sys2Proof.Level × Sys2Proof.Level)} {spare : Sys2Proof.Level} {pg : Nat} :
    (s.tileBefore t levels spare pg).Canon := by
  unfold State.tileBefore
  exact .ffgainRefresh (.over (.over (.bump (.pgPins (.senseAll (.when (.put h) fun h => .raise h)))) fun h => .clr (.clr (.bump h)))
    fun h => .railBefore h)

theorem State.Canon.engineBoundaries (h : s.Canon) {t : Nat} : (s.engineBoundaries t).Canon := by
  unfold State.engineBoundaries
  exact .standBy (.over (.over (.over (.over (.over (.moveStage h) fun h => .commitPorts h) fun h => .roleUpdate h) fun h => .refUpdate h)
    fun h => .waitingBoundary h) fun h => .overrun h)

theorem State.Canon.upsets (h : s.Canon) {t : Nat} {l : List (Slot × BitVec 12 × Upset)} : (s.upsets t l).Canon :=
  .over h fun h => .same (.repaired h)

theorem State.Canon.tickBoundary (h : s.Canon) {t : Nat} {levels : List (Sys2Proof.Level × Sys2Proof.Level)} {spare : Sys2Proof.Level} {pg : Nat}
    {upsets : List (Slot × BitVec 12 × Upset)} :
    (s.tickBoundary t levels spare pg upsets).Canon := by
  unfold State.tickBoundary
  exact .capTick (.over (.engineBoundaries (.tileBefore (.dataWrites (.over (.upsets h) fun h => .lawRun h)))) fun h => .railAfter h)

/-! ## Machine/Snapshot -/

theorem State.Canon.snapLatch (h : s.Canon) {iso : Nat} {flt : Bool} {va vb vio : Nat} : (s.snapLatch iso flt va vb vio).Canon :=
  .ite h (.putB (.put (.same h)))

theorem State.Canon.snapComplete (h : s.Canon) {delivered : Nat} : (s.snapComplete delivered).Canon :=
  .ite h (.same (.clr (.clr (.put (.clr (.put (.raise (.over h fun h => .wrBytes h))))))))

/-! ## Machine/Waiting -/

theorem State.Canon.waitRun (h : s.Canon) {k : CmdKind} : (s.waitRun k).Canon := by
  unfold State.waitRun
  split
  · exact .enableReady h
  · exact .setpointStart (.start h)
  · exact .ite (.complete h) (.ite (.complete h) (.readdStart (.start h)))
  · exact .raise (.start h)
  · exact h

theorem State.Canon.waitsRun (h : s.Canon) : s.waitsRun.Canon := .over h fun h => .ite (.waitRun h) h

theorem State.Canon.waitReject (h : s.Canon) {k : CmdKind} : (s.waitReject k).Canon := by
  unfold State.waitReject
  extract_lets s1
  have h1 : s1.Canon := by
    unfold s1
    split
    · exact .enableAbort h
    · exact .complete h
  exact .onceMgr (.bump h1)

theorem State.Canon.waitsReject (h : s.Canon) : s.waitsReject.Canon := .over h fun h => .ite (.waitReject h) h

end

/-! ## The commands -/

section
variable {s : State}

theorem Answers.bev_canon (h : s.Canon) (t : Tile) (e : Slot) (target : BitVec 10) : Answers (.bev t e target) s State.Canon := by
  refine ⟨_, rfl, .engExec h fun h => ?_⟩
  split
  · exact .put h
  · exact h

theorem Answers.seqStageStart_canon (h : s.Canon) (tile : Option Tile) : Answers (.seqStageStart tile) s State.Canon := by
  cases tile with
  | none => exact ⟨_, rfl, .stageStart h⟩
  | some t => exact ⟨_, rfl, .localStage h⟩

theorem Answers.traceMark_canon (h : s.Canon) (w : Who) (m : Mgr) (v : Word) : Answers (.traceMark w m v) s State.Canon := by
  refine ⟨_, rfl, ?_⟩
  split
  · exact .trace (.served h)
  · exact .served h

theorem Answers.mfrHqRead_canon (h : s.Canon) : Answers .mfrHqRead s State.Canon := by
  refine ⟨_, rfl, .hostRead h fun h => ?_⟩
  split
  next e => exact .hbBlock (.fstOf (.portTake h) e)

/-- Every command answers a next state, in canonical form where the state was: the lemma of the operation that each arm of `exec` calls. -/
theorem exec_canon (c : Instr) (h : s.Canon) : Answers c s State.Canon := by
  cases c with
  | regWrite => exact ⟨_, rfl, .cycleWrites h⟩
  | lowWordSnapshotRead => exact ⟨_, rfl, .busRead h⟩
  | crossingFrameReceive => exact ⟨_, rfl, .frameReceive h⟩
  | crossingLaneFail => exact ⟨_, rfl, .laneFail h⟩
  | crossingRegWrite => exact ⟨_, rfl, .frameWrite h⟩
  | beatFrameSend => exact ⟨_, rfl, .beatFrame h⟩
  | slotReceive => exact ⟨_, rfl, .slotReceive h⟩
  | slotLaneFail => exact ⟨_, rfl, .slotLaneFail h⟩
  | sscModeWrite => exact ⟨_, rfl, .sscWrite h⟩
  | rootRelockDone => exact ⟨_, rfl, .relockDone h⟩
  | refEdgeLoss => exact ⟨_, rfl, .refEdgeLoss h⟩
  | refValid10us => exact ⟨_, rfl, .refValid h⟩
  | holdoverExpire => exact ⟨_, rfl, .holdoverExpire h⟩
  | settlingEnd => exact ⟨_, rfl, .settlingEnd h⟩
  | xtalStop => exact ⟨_, rfl, .xtalFaults (.xtalFail (.raise h))⟩
  | xtalCompareWindow => exact ⟨_, rfl, .xtalFaults (.xtalCompare h)⟩
  | commandClockReady => exact ⟨_, rfl, .seqPoll (.waitsRun h)⟩
  | pllNotReadyReject => exact ⟨_, rfl, .seqPoll (.waitsReject h)⟩
  | beatAdvance => exact ⟨_, rfl, .beatAdvance h⟩
  | tickBoundary => exact ⟨_, rfl, .ite (.tickBoundary h) h⟩
  | cycleStart => exact ⟨_, rfl, .cycleStart h⟩
  | phaseLeadingEdge => exact ⟨_, rfl, .leadingEdge h⟩
  | phaseScanConversion => exact ⟨_, rfl, .phaseScan h⟩
  | imonFaultTrip => exact ⟨_, rfl, .ite (.raise (.shed h)) h⟩
  | imonNoReport => exact ⟨_, rfl, .shed h⟩
  | stgTfFault => exact ⟨_, rfl, .stageFault h⟩
  | stgTfLow => exact ⟨_, rfl, .unDerate (.noStageTemp (.putBit (.putBit h)))⟩
  | midHoldEnd => exact ⟨_, rfl, .midHoldEnd h⟩
  | parkDwellExpire => exact ⟨_, rfl, .parkOne h⟩
  | addThresholdHeld => exact ⟨_, rfl, .addOne h⟩
  | phShed => exact ⟨_, rfl, .hostShed h⟩
  | phAdd => exact ⟨_, rfl, .hostAdd h⟩
  | phUnblock => exact ⟨_, rfl, .hostUnblock h⟩
  | readdProbeComplete => exact ⟨_, rfl, .ite (.rejoinNext (.readdComplete h)) (.ite (.rejoinNext h) h)⟩
  | prestartTestComplete => exact ⟨_, rfl, .prestartDone h⟩
  | isoAssert => exact ⟨_, rfl, .ite (.isoMgr (.jDone (.served h))) (.busError h)⟩
  | isoRelease => exact ⟨_, rfl, .isoRelease h⟩
  | isoNSensedLow => exact ⟨_, rfl, .isoSensed h⟩
  | phTimingWrite => exact ⟨_, rfl, .ite (.raise (.put (.put (.put h)))) (.raise h)⟩
  | nop => exact ⟨_, rfl, .engExec h fun h => h⟩
  | add => exact ⟨_, rfl, .engAlu h⟩
  | sub => exact ⟨_, rfl, .engAlu h⟩
  | adds => exact ⟨_, rfl, .engAlu h⟩
  | subs => exact ⟨_, rfl, .engAlu h⟩
  | andOp => exact ⟨_, rfl, .engAlu h⟩
  | orOp => exact ⟨_, rfl, .engAlu h⟩
  | xor => exact ⟨_, rfl, .engAlu h⟩
  | minOp => exact ⟨_, rfl, .engAlu h⟩
  | maxOp => exact ⟨_, rfl, .engAlu h⟩
  | shl => exact ⟨_, rfl, .engAlu h⟩
  | shr => exact ⟨_, rfl, .engAlu h⟩
  | sra => exact ⟨_, rfl, .engAlu h⟩
  | muls => exact ⟨_, rfl, .engAlu h⟩
  | clamp => exact ⟨_, rfl, .engExec h fun h => .setAlu h⟩
  | cmp => exact ⟨_, rfl, .engExec h fun h => .aluFlags h⟩
  | addi => exact ⟨_, rfl, .engExec h fun h => .setAlu h⟩
  | shli => exact ⟨_, rfl, .engExec h fun h => .setAlu h⟩
  | srai => exact ⟨_, rfl, .engExec h fun h => .setAlu h⟩
  | lil => exact ⟨_, rfl, .engExec h fun h => .setW h⟩
  | lih => exact ⟨_, rfl, .engExec h fun h => .setW h⟩
  | cmpi => exact ⟨_, rfl, .engExec h fun h => .aluFlags h⟩
  | ld => exact ⟨_, rfl, .engExec h fun h => .ite (.setW (.eccRead h)) (.eccRead h)⟩
  | st => exact ⟨_, rfl, .engExec h fun h => .wrEng h⟩
  | mac => exact ⟨_, rfl, .engExec h fun h => .accumulate h⟩
  | msu => exact ⟨_, rfl, .engExec h fun h => .accumulate h⟩
  | ald => exact ⟨_, rfl, .engExec h fun h => .setAcc h⟩
  | ard => exact ⟨_, rfl, .engExec h fun h => .setAlu h⟩
  | inPort => exact ⟨_, rfl, .engExec h fun h => .setW h⟩
  | outPort => exact ⟨_, rfl, .engExec h fun h => .stage h⟩
  | evr => exact ⟨_, rfl, .engExec h fun h => .setAlu h⟩
  | eclr => exact ⟨_, rfl, .engExec h fun h => .put h⟩
  | bev t e target => exact .bev_canon h t e target
  | br => exact ⟨_, rfl, .engExec h fun h => .ite (.put h) h⟩
  | jl => exact ⟨_, rfl, .engExec h fun h => .put (.setW h)⟩
  | jr => exact ⟨_, rfl, .engExec h fun h => .put h⟩
  | waitt => exact ⟨_, rfl, .engExec h fun h => .raise (.put h)⟩
  | illegalInstruction => exact ⟨_, rfl, .ite (.put (.raise (.raise h))) h⟩
  | overrunShed => exact ⟨_, rfl, .ite (.shedAny h) h⟩
  | programBankWrite => exact ⟨_, rfl, .bankWrite h⟩
  | bankCrcDone => exact ⟨_, rfl, .bankCrcDone h⟩
  | dataMemoryWrite => exact ⟨_, rfl, .same h⟩
  | engineScrub => exact ⟨_, rfl, .ite (.eccRead h) h⟩
  | swapArm => exact ⟨_, rfl, .swapArm h⟩
  | bankSwap => exact ⟨_, rfl, .bankSwap h⟩
  | engineFault => exact ⟨_, rfl, .engineFault h⟩
  | spareTakeoverDone => exact ⟨_, rfl, .takeoverDone h⟩
  | failInj => exact ⟨_, rfl, .failInj h⟩
  | handback => exact ⟨_, rfl, .handback h⟩
  | spareSelfCheck => exact ⟨_, rfl, .ite (.awlError (.raise h)) h⟩
  | lawSelect => exact ⟨_, rfl, .lawSelect h⟩
  | lawCopyDone => exact ⟨_, rfl, .ite (.seqPoll (.enableRetry (.lawCopied h))) h⟩
  | setpointCommand => exact ⟨_, rfl, .setpointWrite h⟩
  | slopeFire => exact ⟨_, rfl, .ite (.clr (.raise h)) h⟩
  | slopeWindowEnd => exact ⟨_, rfl, .ite (.clr h) h⟩
  | cinchTrip => exact ⟨_, rfl, .cinchTrip h⟩
  | cinchRelease => exact ⟨_, rfl, .cinchRelease h⟩
  | cinchHandoverEnd => exact ⟨_, rfl, .handoverEnd h⟩
  | cinchHoldoffEnd => exact ⟨_, rfl, .ite h (.clr h)⟩
  | cinchWireMismatch => exact ⟨_, rfl, .ite (.putBit h) h⟩
  | forecastWord => exact ⟨_, rfl, .fcWord h⟩
  | forecastClockLoss => exact ⟨_, rfl, .raise h⟩
  | forecastDue => exact ⟨_, rfl, .ite (.raise (.railEventOn h)) h⟩
  | forecastFireStart => exact ⟨_, rfl, .fcFireStart h⟩
  | forecastPulseStart => exact ⟨_, rfl, .pulseStart h⟩
  | forecastPulseEnd => exact ⟨_, rfl, .pulseEnd h⟩
  | forecastJudge => exact ⟨_, rfl, .fcJudge h⟩
  | skewCal => exact ⟨_, rfl, .skewCommand h⟩
  | skewCalDone => exact ⟨_, rfl, .skewDone h⟩
  | rotationPositionStart => exact ⟨_, rfl, .rotStart h⟩
  | rotationCompare => exact ⟨_, rfl, .rotCompare h⟩
  | sliceCalibrationDone => exact ⟨_, rfl, .sliceCalibrated h⟩
  | spareSelfCalDone => exact ⟨_, rfl, .spareCalibrated h⟩
  | tvcConversion => exact ⟨_, rfl, .tvcConvert h⟩
  | diagStart => exact ⟨_, rfl, .diagStart h⟩
  | diagComplete => exact ⟨_, rfl, .diagDone h⟩
  | hkConversion => exact ⟨_, rfl, .hkNext h⟩
  | vinDisagreeConfirm => exact ⟨_, rfl, .when h fun h => .putBit h⟩
  | tlmWindowEnd => exact ⟨_, rfl, .windowEnd h⟩
  | pkClr => exact ⟨_, rfl, .raise h⟩
  | accLowWrite => exact ⟨_, rfl, .accLow h⟩
  | accHighWrite => exact ⟨_, rfl, .accHigh h⟩
  | powerEstimate => exact ⟨_, rfl, .powerEstimate h⟩
  | powerPartialSend => exact ⟨_, rfl, .partialSend h⟩
  | powerPartialStale => exact ⟨_, rfl, .partialStale h⟩
  | railOn => exact ⟨_, rfl, .railOn h⟩
  | railOff => exact ⟨_, rfl, .railOff h⟩
  | pgAssert => exact ⟨_, rfl, .pgAssert h⟩
  | pgLoss => exact ⟨_, rfl, .pgLoss h⟩
  | enablePgTimeout => exact ⟨_, rfl, .pgTimeout h⟩
  | seqRun => exact ⟨_, rfl, .seqRun (.put h)⟩
  | seqStageStart tile => exact .seqStageStart_canon h tile
  | seqStageTimeout => exact ⟨_, rfl, .stageTimeout h⟩
  | railBelowOffThreshold => exact ⟨_, rfl, .ite (.seqPoll (.railOffNow h)) h⟩
  | shutdownFirstTimeout => exact ⟨_, rfl, .firstTimeout h⟩
  | shutdownSecondTimeout => exact ⟨_, rfl, .secondTimeout h⟩
  | snapTake => exact ⟨_, rfl, .snapTrigger (.jDone h)⟩
  | snapshotLatch => exact ⟨_, rfl, .snapLatch h⟩
  | snapshotComplete => exact ⟨_, rfl, .snapComplete h⟩
  | laneCycleStart => exact ⟨_, rfl, .laneCycle h⟩
  | laneBeatFrame => exact ⟨_, rfl, .beatFrameIn h⟩
  | hello => exact ⟨_, rfl, .laneTake h fun h => h⟩
  | laneStatus => exact ⟨_, rfl, .laneTake h fun h => h⟩
  | seqRunLane => exact ⟨_, rfl, .laneTake h fun h => .laneDefer h⟩
  | laneRailOn => exact ⟨_, rfl, .laneTake h fun h => .laneDefer h⟩
  | laneRailOff => exact ⟨_, rfl, .laneTake h fun h => .laneDefer h⟩
  | laneSnap => exact ⟨_, rfl, .laneTake h fun h => .laneDefer h⟩
  | laneKerb => exact ⟨_, rfl, .laneTake h fun h => .kerbEnter (.journal h)⟩
  | laneFltRelease => exact ⟨_, rfl, .laneTake h fun h => .fltRelease (.journal h)⟩
  | seqQuery => exact ⟨_, rfl, .laneTake h fun h => h⟩
  | laneBadOpcode => exact ⟨_, rfl, .ite (.laneTake h (fun h => h)) h⟩
  | laneReply => exact ⟨_, rfl, .laneReply h⟩
  | laneReplyMissing => exact ⟨_, rfl, .laneMissing h⟩
  | laneDeadline => exact ⟨_, rfl, .laneDeadline h⟩
  | laneLost => exact ⟨_, rfl, .when h fun h => .raise h⟩
  | masterListenEnd => exact ⟨_, rfl, .when h fun h => .raise h⟩
  | sqlTxGo => exact ⟨_, rfl, .laneGo h⟩
  | fltNFault => exact ⟨_, rfl, .fltSeen h⟩
  | fltRelease => exact ⟨_, rfl, .fltRelease h⟩
  | phaseOcShed => exact ⟨_, rfl, .ite (.shed h) h⟩
  | chDisagree => exact ⟨_, rfl, .chDisagree h⟩
  | railOvConfirm => exact ⟨_, rfl, .confirmAfter h⟩
  | railUvConfirm => exact ⟨_, rfl, .confirmAfter h⟩
  | railOcConfirm => exact ⟨_, rfl, .confirmAfter h⟩
  | senseLostOff => exact ⟨_, rfl, .lostOff h⟩
  | thermalReading => exact ⟨_, rfl, .thermalReading h⟩
  | tileThermalShutdown => exact ⟨_, rfl, .tileShutdown h⟩
  | tileThermalRestart => exact ⟨_, rfl, .ite (.tileRestart (.restartNote h)) h⟩
  | tsdClr => exact ⟨_, rfl, .ite (.tileTsdClr h) (.hpdTsdClr h)⟩
  | mgrThermalShutdown => exact ⟨_, rfl, .explicitFault h⟩
  | hpdThermalShutdown => exact ⟨_, rfl, .hpdShutdown h⟩
  | hpdThermalRestart => exact ⟨_, rfl, .hpdRestartDue h⟩
  | throttleKerb => exact ⟨_, rfl, .ite (.kerbEnter h) h⟩
  | sensorDisagree => exact ⟨_, rfl, .when h fun h => .raise h⟩
  | vauxValid => exact ⟨_, rfl, .when h fun h => .wakeSource (.vauxValid h)⟩
  | vauxInvalid => exact ⟨_, rfl, .vauxInvalid h⟩
  | iinShare => exact ⟨_, rfl, .iinShare h⟩
  | iinSearch => exact ⟨_, rfl, .searchStart h⟩
  | iinSearchStart => exact ⟨_, rfl, .ite (.searchStart h) h⟩
  | iinSearchStep => exact ⟨_, rfl, .searchStep h⟩
  | iinSearchPauseEnd => exact ⟨_, rfl, .pauseEnd h⟩
  | sagWatch => exact ⟨_, rfl, .sagWatch h⟩
  | vbbTrip => exact ⟨_, rfl, .vbbTrip h⟩
  | bfetLinearEnd => exact ⟨_, rfl, .ite (.put h) h⟩
  | chargeBlockOff => exact ⟨_, rfl, .ite (.clr h) h⟩
  | dsgOc => exact ⟨_, rfl, .when h fun h => .pairFault h⟩
  | dsgShort => exact ⟨_, rfl, .when h fun h => .pairFault h⟩
  | fetDegraded => exact ⟨_, rfl, .ite (.raise h) h⟩
  | handbackStart => exact ⟨_, rfl, .handbackStart h⟩
  | handbackRampStep => exact ⟨_, rfl, .handbackStep h⟩
  | bfetOpen => exact ⟨_, rfl, .bfetOpen h⟩
  | bfetArm => exact ⟨_, rfl, .bfetArm h⟩
  | bfetFaultClear => exact ⟨_, rfl, .pairFaultClear h⟩
  | chgEnable => exact ⟨_, rfl, .chgEnable h⟩
  | chgVpreReached => exact ⟨_, rfl, .when h fun h => .chgTo h⟩
  | chgVccReached => exact ⟨_, rfl, .when h fun h => .chgTo h⟩
  | chgVcvReached => exact ⟨_, rfl, .when h fun h => .chgBegin h⟩
  | chgTerminate => exact ⟨_, rfl, .when h fun h => .putB (.chgTo h)⟩
  | chgRecharge => exact ⟨_, rfl, .when h fun h => .chgDetect (.bump h)⟩
  | btsConversion => exact ⟨_, rfl, .btsConvert h⟩
  | btsFault => exact ⟨_, rfl, .when h fun h => .chgFault h⟩
  | chgTimerExpire => exact ⟨_, rfl, .when h fun h => .chgFault h⟩
  | batOv => exact ⟨_, rfl, .when h fun h => .chgFault (.when h (fun h => .raise h))⟩
  | presenceTestStart => exact ⟨_, rfl, .presenceStart h⟩
  | presenceTestEnd => exact ⟨_, rfl, .presenceEnd h⟩
  | batShort => exact ⟨_, rfl, .when h fun h => .chgFault h⟩
  | chgOc => exact ⟨_, rfl, .when h fun h => .chgFault h⟩
  | chgFaultClear => exact ⟨_, rfl, .chgFaultClear h⟩
  | buckPhaseStop => exact ⟨_, rfl, .putBit h⟩
  | gaugeFrame => exact ⟨_, rfl, .gaugeFrame h⟩
  | emptyAnchor => exact ⟨_, rfl, .emptyAnchor h⟩
  | hibernate => exact ⟨_, rfl, .ite (.gaugeStore (.learnDrop (.raise h))) h⟩
  | hibConversion => exact ⟨_, rfl, .ite (.socShow (.countQ h)) h⟩
  | gaugeWake => exact ⟨_, rfl, .gaugeWake h⟩
  | gaugeStore => exact ⟨_, rfl, .ite h (.gaugeStore (.clr h))⟩
  | ggStore => exact ⟨_, rfl, .gaugeWake (.gaugeStore (.jDone h))⟩
  | invalidate => exact ⟨_, rfl, .gaugeWake (.packSwap (.jDone h))⟩
  | authStart => exact ⟨_, rfl, .chgEval (.authSeries (.jDone h))⟩
  | getId => exact ⟨_, rfl, .getId h⟩
  | challenge => exact ⟨_, rfl, .challenge h⟩
  | packReplyTimeout => exact ⟨_, rfl, .when h fun h => .authVerdict (.raise h)⟩
  | authRetry => exact ⟨_, rfl, .when h fun h => .chgEval (.authBegin h)⟩
  | metPowerUp => exact ⟨_, rfl, .metStart h⟩
  | metSample => exact ⟨_, rfl, .metSample h⟩
  | metHalfSample => exact ⟨_, rfl, .metHalf h⟩
  | metPulseEnd => exact ⟨_, rfl, .ite (.clr h) h⟩
  | metStreamStuck => exact ⟨_, rfl, .ite (.metFlag (.raiseAt h)) h⟩
  | metStreamResume => exact ⟨_, rfl, .ite (.clrAt (.clrAt h)) h⟩
  | metClockCheck => exact ⟨_, rfl, .metClock h⟩
  | metIntervalRecord => exact ⟨_, rfl, .metInterval h⟩
  | metWatchdog => exact ⟨_, rfl, .metWatchdog h⟩
  | metTallyStore => exact ⟨_, rfl, .ite (.clr (.putB (.metStore h))) h⟩
  | metSupplyFall => exact ⟨_, rfl, .metFall h⟩
  | metLiveSend => exact ⟨_, rfl, .ite (.put (.metSendBoth h)) h⟩
  | metPeriodicSend => exact ⟨_, rfl, .metRepeat h⟩
  | sendId => exact ⟨_, rfl, .metServe h fun h => .metSend h⟩
  | sendHealth => exact ⟨_, rfl, .metServe h fun h => .metSend h⟩
  | sendLast => exact ⟨_, rfl, .metServe h fun h => .metSendLast h⟩
  | replayPrev => exact ⟨_, rfl, .metServe h fun h => .metReplay h⟩
  | metReqStrobe => exact ⟨_, rfl, .metStrobe h⟩
  | metReqTimeout => exact ⟨_, rfl, .ite (.raise (.clr h)) h⟩
  | metFrameReceive => exact ⟨_, rfl, .metReceive h⟩
  | metLinkLost => exact ⟨_, rfl, .ite (.raise (.clr h)) h⟩
  | metCalBankWrite => exact ⟨_, rfl, .metBankWrite h⟩
  | metLock => exact ⟨_, rfl, .metLock h⟩
  | halfLossAnnounce => exact ⟨_, rfl, .ite (.halfAnnounce h) h⟩
  | halfLossDeclare => exact ⟨_, rfl, .halfDeclare h⟩
  | halfLossHoldEnd => exact ⟨_, rfl, .ite (.clr h) h⟩
  | splitYield => exact ⟨_, rfl, .splitYield h⟩
  | rejoin => exact ⟨_, rfl, .rejoin h⟩
  | rejoinRoleSwap => exact ⟨_, rfl, .ite (.rejoined (.actStandby h)) h⟩
  | heartbeatSend => exact ⟨_, rfl, .ite (.chgEval (.authBegin (.heartbeatSend h))) (.heartbeatSend h)⟩
  | heartbeatReceive => exact ⟨_, rfl, .heartbeatReceive h⟩
  | heartbeatMiss => exact ⟨_, rfl, .heartbeatMiss h⟩
  | roleDeadmanRelease => exact ⟨_, rfl, .ite (.roleRelease h) h⟩
  | takeover => exact ⟨_, rfl, .takeover h⟩
  | handover => exact ⟨_, rfl, .handover h⟩
  | mirrorCopy => exact ⟨_, rfl, .mirrorCopy h⟩
  | mirrorSweep => exact ⟨_, rfl, .mirrorSweep h⟩
  | shadowReady => exact ⟨_, rfl, .shadowReady h⟩
  | mgrSilent => exact ⟨_, rfl, .ite (.raise h) h⟩
  | autoKerb => exact ⟨_, rfl, .ite (.localBegin (.raise h)) h⟩
  | awlProbeStart => exact ⟨_, rfl, .awlStart h⟩
  | awlVerdict => exact ⟨_, rfl, .awlVerdict h⟩
  | awlNotRun => exact ⟨_, rfl, .ite (.awlEnd h) h⟩
  | lbistStart => exact ⟨_, rfl, .governed h fun h => .lbistStart h⟩
  | lbistDone => exact ⟨_, rfl, .lbistDone h⟩
  | captureArm => exact ⟨_, rfl, .capArm (.jDone h)⟩
  | capTrig => exact ⟨_, rfl, .capNow (.jDone h)⟩
  | captureStop => exact ⟨_, rfl, .ite (.raise (.clr h)) h⟩
  | kerbEnter => exact ⟨_, rfl, .kerbEnter (.jDone h)⟩
  | kerbSocEntry => exact ⟨_, rfl, .ite (.kerbEnter h) h⟩
  | kerbExit => exact ⟨_, rfl, .kerbExit h⟩
  | eventReport => exact ⟨_, rfl, .report h⟩
  | eventReportRefresh => exact ⟨_, rfl, .refresh h⟩
  | foldClose => exact ⟨_, rfl, .ite (.foldClose h) h⟩
  | evcTake => exact ⟨_, rfl, .evcAccess h fun h => .take h⟩
  | evcScTake => exact ⟨_, rfl, .ite (.busError h) (.evcAccess h fun h => .take h)⟩
  | evcHqTake => exact ⟨_, rfl, .evcAccess h fun h => .hostTake h⟩
  | evcComplete => exact ⟨_, rfl, .evcAccess h fun h => .srcComplete h⟩
  | foldComplete => exact ⟨_, rfl, .evcAccess h fun h => .foldComplete h⟩
  | powerOnReset => exact ⟨_, rfl, .firstVbias h⟩
  | fuseSenseDone => exact ⟨_, rfl, .fuseSense h⟩
  | broadcastReceive => exact ⟨_, rfl, .ite (.tileReceive (.singleShow h)) (.hpdReceive (.singleShow h))⟩
  | integrityDecision => exact ⟨_, rfl, .integrityDecision h⟩
  | loadCommit => exact ⟨_, rfl, .loadCommit h⟩
  | armToRun => exact ⟨_, rfl, .ite (.runEnter h) h⟩
  | devRun => exact ⟨_, rfl, .governed h fun h => .runCmd h⟩
  | armLate => exact ⟨_, rfl, .ite (.raise h) h⟩
  | fuseProgram => exact ⟨_, rfl, .governed h fun h => .fuseGo h⟩
  | fuseProgramDone => exact ⟨_, rfl, .fuseDone h⟩
  | fuseProgramResume => exact ⟨_, rfl, .fuseResume h⟩
  | lcAdvance => exact ⟨_, rfl, .governed h fun h => .lcAdvance h⟩
  | lcWipe => exact ⟨_, rfl, .governed h fun h => .lcWipe h⟩
  | rstNAssert => exact ⟨_, rfl, .ite (.raise (.systemReset h)) h⟩
  | rstNRelease => exact ⟨_, rfl, .addrSample (.clr h)⟩
  | sysRst => exact ⟨_, rfl, .governed h fun h => .sysRst h⟩
  | tileRst => exact ⟨_, rfl, .governed h fun h => .tileRst h⟩
  | devPark => exact ⟨_, rfl, .governed h fun h => .parkCmd h⟩
  | devWake => exact ⟨_, rfl, .wake h⟩
  | mewsEnter => exact ⟨_, rfl, .powerLost h⟩
  | vbiasLoss => exact ⟨_, rfl, .vbiasLoss h⟩
  | vioValid => exact ⟨_, rfl, .addrSample (.put (.raise h))⟩
  | coreWait => exact ⟨_, rfl, .coreSleep h⟩
  | scratchpadStore => exact ⟨_, rfl, .spStore h⟩
  | framStore => exact ⟨_, rfl, .feStore h⟩
  | memoryScrub => exact ⟨_, rfl, .scrub h⟩
  | keyA => exact ⟨_, rfl, .wdtKey h fun h => .keyA h⟩
  | keyB => exact ⟨_, rfl, .wdtKey h fun h => .keyB h⟩
  | wdtBadKey => exact ⟨_, rfl, .wdtKey h fun h => .badKey h⟩
  | ewarn => exact ⟨_, rfl, .ite (.raise h) h⟩
  | wdtTimeout => exact ⟨_, rfl, .ite (.wdtExpire h) h⟩
  | wdtPulseEnd => exact ⟨_, rfl, .ite (.when (.clr h) (fun h => .systemReset h)) h⟩
  | rtcSecond => exact ⟨_, rfl, .rtcSecond h⟩
  | rtcHalt => exact ⟨_, rfl, .governed h fun h => .rtcHalt h⟩
  | rtcResume => exact ⟨_, rfl, .governed h fun h => .rtcResume h⟩
  | rtcSecWrite => exact ⟨_, rfl, .governed h fun h => .rtcSecWrite h⟩
  | dstAdd => exact ⟨_, rfl, .governed h fun h => .dstCommand h⟩
  | dstSub => exact ⟨_, rfl, .governed h fun h => .dstCommand h⟩
  | bkupLow => exact ⟨_, rfl, .ite (.raise (.clr (.clr (.clr h)))) (.ite (.raise h) h)⟩
  | tamper => exact ⟨_, rfl, .tamper h⟩
  | traceMark w m v => exact .traceMark_canon h w m v
  | page => exact ⟨_, rfl, .pageCmd h⟩
  | operation => exact ⟨_, rfl, .operationCmd h⟩
  | onOffConfig => exact ⟨_, rfl, .hostRead h fun h => .hbByte h⟩
  | clearFaults => exact ⟨_, rfl, .clearFaults h⟩
  | writeProtect => exact ⟨_, rfl, .writeProtect h⟩
  | capability => exact ⟨_, rfl, .hostRead h fun h => .hbByte h⟩
  | voutMode => exact ⟨_, rfl, .hostRead h fun h => .hbByte h⟩
  | voutCommand => exact ⟨_, rfl, .voutCommand h⟩
  | voutMax => exact ⟨_, rfl, .hostRead h fun h => .railVolts h⟩
  | voutOvFaultLimit => exact ⟨_, rfl, .ovLimitCmd h⟩
  | ioutOcFaultLimit => exact ⟨_, rfl, .ocLimitCmd h⟩
  | statusByte => exact ⟨_, rfl, .hostRead h fun h => .hbByte h⟩
  | statusWord => exact ⟨_, rfl, .hostRead h fun h => .hbWord h⟩
  | statusVout => exact ⟨_, rfl, .hostRead h fun h => .hbByte h⟩
  | statusIout => exact ⟨_, rfl, .hostRead h fun h => .hbByte h⟩
  | statusCml => exact ⟨_, rfl, .hostRead h fun h => .hbByte h⟩
  | readVin => exact ⟨_, rfl, .hostRead h fun h => .readVin h⟩
  | readIin => exact ⟨_, rfl, .hostRead h fun h => .hbLinear h⟩
  | readVout => exact ⟨_, rfl, .hostRead h fun h => .ite (.railVolts h) (.hbVolts h)⟩
  | readIout => exact ⟨_, rfl, .hostRead h fun h => .hbLinear h⟩
  | readTemperature1 => exact ⟨_, rfl, .hostRead h fun h => .readTemp1 h⟩
  | readTemperature2 => exact ⟨_, rfl, .hostRead h fun h => .hbLinear h⟩
  | readPout => exact ⟨_, rfl, .hostRead h fun h => .hbLinear h⟩
  | readPin => exact ⟨_, rfl, .hostRead h fun h => .hbLinear h⟩
  | pmbusRevision => exact ⟨_, rfl, .hostRead h fun h => .hbByte h⟩
  | mfrId => exact ⟨_, rfl, .hostRead h fun h => .hbBlock h⟩
  | mfrModel => exact ⟨_, rfl, .hostRead h fun h => .hbBlock h⟩
  | mfrRevision => exact ⟨_, rfl, .hostRead h fun h => .hbBlock h⟩
  | mfrSerial => exact ⟨_, rfl, .hostRead h fun h => .hbBlock h⟩
  | mfrWinAddr => exact ⟨_, rfl, .winAddrCmd h⟩
  | mfrWinData => exact ⟨_, rfl, .winDataCmd h⟩
  | mfrWinRlen => exact ⟨_, rfl, .winRlenCmd h⟩
  | mfrWinStatus => exact ⟨_, rfl, .hostRead h fun h => .hbByte h⟩
  | mfrDevState => exact ⟨_, rfl, .hostRead h fun h => .hbBlock h⟩
  | mfrJrnlHead => exact ⟨_, rfl, .hostRead h fun h => .hbBlock h⟩
  | mfrJrnlRead => exact ⟨_, rfl, .hostCall h⟩
  | mfrJrnlAck => exact ⟨_, rfl, .jrnlAckCmd h⟩
  | mfrHqRead => exact .mfrHqRead_canon h
  | mfrTag => exact ⟨_, rfl, .tagCmd h⟩
  | quickCommand => exact ⟨_, rfl, .hostMsg h fun h => h⟩
  | alertResponse => exact ⟨_, rfl, .ite (.same (.raise h)) (.same (.clr h))⟩
  | unsupportedCommand => exact ⟨_, rfl, .hostMsg h fun h => h⟩
  | sclTimeout => exact ⟨_, rfl, .busTimeout h⟩
  | sdaTimeout => exact ⟨_, rfl, .busTimeout h⟩
  | stretchTimeout => exact ⟨_, rfl, .stretchTimeout h⟩
  | hbParkWake => exact ⟨_, rfl, .ite (.same (.wakeSource (.putB h))) h⟩
  | svcPing => exact ⟨_, rfl, .svcPing h⟩
  | winRead => exact ⟨_, rfl, .svcWinRead h⟩
  | winWrite => exact ⟨_, rfl, .svcWinWrite h⟩
  | jrnlRead => exact ⟨_, rfl, .svcJrnlRead h⟩
  | hqRead => exact ⟨_, rfl, .svcHqRead h⟩
  | setBaud => exact ⟨_, rfl, .setBaud h⟩
  | devState => exact ⟨_, rfl, .svcDevState h⟩
  | vendorTest => exact ⟨_, rfl, .vendorCmd h⟩
  | svcReservedCmd => exact ⟨_, rfl, .svcReservedCmd h⟩
  | svcBadFrame => exact ⟨_, rfl, .svcBad h⟩
  | svcGapTimeout => exact ⟨_, rfl, .svcDiscard h⟩
  | svcBaudApply => exact ⟨_, rfl, .baudApply h⟩
  | svcBaudFallback => exact ⟨_, rfl, .baudFallback h⟩
  | jrnlNote => exact ⟨_, rfl, .governed h fun h => .note h⟩
  | jrnlAckWrite => exact ⟨_, rfl, .governed h fun h => .ackWrite h⟩
  | updateStatusCmd => exact ⟨_, rfl, .updRead h⟩
  | updBegin => exact ⟨_, rfl, .updMsg h fun h => .updBegin h⟩
  | updData => exact ⟨_, rfl, .updMsg h fun h => .updData h⟩
  | updCommit => exact ⟨_, rfl, .updMsg h fun h => .updCommit h⟩
  | updErase => exact ⟨_, rfl, .updMsg h fun h => .updErase h⟩
  | eraseChunkDone => exact ⟨_, rfl, .chunkErased h⟩
  | updFinish => exact ⟨_, rfl, .updSend h fun h => .updFinish h⟩
  | finishComplete => exact ⟨_, rfl, .finishComplete h⟩
  | updPrepare => exact ⟨_, rfl, .updSend h fun h => .updPrepare h⟩
  | prepareComplete => exact ⟨_, rfl, .prepareComplete h⟩
  | updActivate => exact ⟨_, rfl, .updSend h fun h => .updActivate h⟩
  | activationRailStep => exact ⟨_, rfl, .activationRail h⟩
  | activationReset => exact ⟨_, rfl, .activationStep h⟩
  | healthConfirm => exact ⟨_, rfl, .updSend h fun h => .updConfirm h⟩
  | updRevert => exact ⟨_, rfl, .updSend h fun h => .revertBegin (.updAccept h)⟩
  | trialDeadline => exact ⟨_, rfl, .ite (.revertBegin h) h⟩
  | updAbort => exact ⟨_, rfl, .updSend h fun h => .updAbort h⟩
  | updMap => exact ⟨_, rfl, .updRead h⟩
  | rollbackRetry => exact ⟨_, rfl, .ite (.rollbackTry h) h⟩
  | lockstepMismatch => exact ⟨_, rfl, .once (.explicitFault h)⟩
  | rootLockLoss => exact ⟨_, rfl, .rootLockLoss h⟩
  | vbiasReturn => exact ⟨_, rfl, .vbiasReturn h⟩
  | managerResetExit => exact ⟨_, rfl, .resetExit h⟩
  | coreSupplySupervisorReset => exact ⟨_, rfl, .tileReset h⟩
  | vioOutOfRange => exact ⟨_, rfl, .put (.clr (.clr h))⟩
  | vbackupLoss => exact ⟨_, rfl, .ite h (.put (.raise (.resetCells h)))⟩
  | laneFrameCrcFail => exact ⟨_, rfl, .when h fun h => .laneCrcErr h⟩
  | chunkProgramDone => exact ⟨_, rfl, .chunkProgrammed h⟩

/-- A step on a state in canonical form answers one in canonical form. -/
theorem step_canon {t : State} (h : s.Canon) (e : step s = .next t) : t.Canon := by
  unfold step at e
  split at e
  · cases e
    exact h
  · obtain ⟨u, hu, hc⟩ := exec_canon _ (State.Canon.same h)
    rw [hu] at e
    cases e
    exact hc
end

theorem State.Canon.reset : State.reset.Canon := ⟨rfl, rfl⟩

/-- Settles O58: a step runs one command on the state with the rest of the queue, and every command is made of operations that keep the form. -/
theorem stepKeepsCanonicalForm : Obligations.StepKeepsCanonicalForm := by
  unfold Obligations.StepKeepsCanonicalForm
  exact fun _ _ h e => step_canon h e

/-- Settles O57: nothing is listed after power-on. -/
theorem resetIsCanonical : Obligations.ResetIsCanonical := State.Canon.reset

/-- Settles O55: both parts are the two cases of `step`. -/
theorem stepRunsFrontCommand : Obligations.StepRunsFrontCommand := by
  unfold Obligations.StepRunsFrontCommand
  refine ⟨fun _ _ _ => rfl, fun s h => ?_⟩
  unfold step
  rw [h]

/-- Settles O56: each arm of `exec` calls a meaning whose value is `.next` of a state. -/
theorem everyCommandCompletes : Obligations.EveryCommandCompletes := by
  unfold Obligations.EveryCommandCompletes
  intro c s
  cases c <;> exact ⟨_, rfl⟩

/-- Settles O60: a cell that is not listed reads its reset value and a byte reads 0; nothing is listed, and the constants hold the tables' values. -/
theorem resetValues : Obligations.ResetValues := by
  unfold Obligations.ResetValues
  refine ⟨fun _ _ _ => rfl, fun _ => rfl, ⟨rfl, rfl, rfl, rfl, rfl, rfl, rfl, rfl, rfl⟩, ?_⟩
  decide

end Sys2Proof.Machine
end

section
/-!
# Statements of the scope that fail

Each refutation evaluates the model on one concrete state and cites the value that contradicts the statement.
-/
namespace Sys2Proof.Machine

/-! ## Register accesses (O52)

`Obligations.RegisterAccesses` gives every field of a written register the value `State.taken`, which cuts the old value of a read-only field
to the field's width; the write itself leaves the cell of such a field alone. The two differ where the cell holds more than the width,
and the statement asks for no state in which every cell fits its field. -/

/-- MGR_A is active, and the cell of the read-only, 16 bit wide UPD_PROGRESS.TOTAL holds 2^16. -/
def totalTooWide : State :=
  { State.reset with cells := [(Reg.REIN_STATUS.ACTIVE.key 0 0, 1), (Reg.UPD_PROGRESS.TOTAL.key 0 0, 2 ^ 16)] }

/-- That state after MC_0 has written the word 0 to the register of UPD_PROGRESS. -/
def totalTooWideWritten : State := totalTooWide.cycleWrites 0 0x400A0008 [] (inOrder [⟨.mc0, false, 0x400A0008, 4, 0⟩])

theorem exec_regWrite_totalTooWide :
    exec (.regWrite .mc0 0 false 0x400A0008 4 0 [] []) totalTooWide = .next totalTooWideWritten := rfl

theorem place_updProgress : place (0x400A0008 : Word).toNat = .block .upd 0 0x8 := by decide +kernel

theorem plainReg_updProgress : plainReg .upd 0x8 = true := by decide +kernel

theorem total_mem_fieldsAt_updProgress : (Reg.UPD_PROGRESS.TOTAL, 0) ∈ fieldsAt .upd 0x8 := by decide +kernel

theorem regRefuses_totalTooWide : totalTooWide.regRefuses .upd 0 0x8 (0 : Word).toNat = false := by decide +kernel

/-- The statement's value for TOTAL: what it held, cut to 16 bits. -/
theorem taken_totalTooWide :
    totalTooWide.taken .upd 0x8 Reg.UPD_PROGRESS.TOTAL (Reg.UPD_PROGRESS.TOTAL.at totalTooWide.act 0) 0 (0 : Word).toNat [] = 0 := by
  decide +kernel

/-- The model's value for TOTAL: what it held. -/
theorem getAt_totalTooWideWritten :
    totalTooWideWritten.getAt Reg.UPD_PROGRESS.TOTAL (Reg.UPD_PROGRESS.TOTAL.at totalTooWide.act 0) 0 = 2 ^ 16 := by
  decide +kernel

/-- Refutes O52: a write of UPD_PROGRESS leaves the read-only TOTAL as it was, 2^16 in `totalTooWide`, where the first clause asks for its
value modulo 2^16. -/
theorem not_registerAccesses : ¬ Obligations.RegisterAccesses := by
  unfold Obligations.RegisterAccesses
  rintro ⟨plainWrite, -⟩
  obtain ⟨t, run, fields, -⟩ := plainWrite .mc0 0 false 0x400A0008 4 0 [] [] .upd 0 0x8 totalTooWide rfl rfl (by decide)
    place_updProgress plainReg_updProgress (by decide +kernel) (by decide +kernel) (by decide) regRefuses_totalTooWide
  rw [exec_regWrite_totalTooWide, Host.Outcome.next.injEq] at run
  subst run
  have total := fields _ total_mem_fieldsAt_updProgress
  rw [getAt_totalTooWideWritten, taken_totalTooWide] at total
  exact absurd total (by decide)

/-! ## Resets (O40)

`Obligations.ResetsByPinAndCommand` asks that the newest journal entry after TILE_RST is the command's own DONE entry, while no sequence and no
restart is under way. `State.tileEnds` completes the commands that ran on in the tile, and each of them is journalled after that DONE entry. -/

/-- The state after power-on and MC_0's SKEW_CAL of tile 0: the calibration runs. -/
def skewRunning : State := State.reset.skewCommand .mc0 0

/-- That state after MC_0's TILE_RST of tile 0 with its key. -/
def skewReset : State := skewRunning.governed .mc0 0 fun s => s.tileRst .mc0 0 0x9D62

theorem exec_skewCal_reset : exec (.skewCal .mc0 0) State.reset = .next skewRunning := rfl

theorem exec_tileRst_skewRunning : exec (.tileRst .mc0 0 0 0x9D62#16) skewRunning = .next skewReset := rfl

/-- The journal after the reset, newest first: the end of the calibration stands before the DONE entry of TILE_RST. -/
theorem jrnA_skewReset : skewReset.jrnA.map (fun e => (e.kind, e.status)) =
    [(JKind.complete, JStatus.failed), (JKind.done, JStatus.ok), (JKind.accepted, JStatus.ok)] := by decide +kernel

theorem logged_kind_newest {s : State} {kind status target : Nat} (h : s.logged kind status target = true) :
    (s.jrnA.map fun e => (e.kind, e.status)).head? = some (kind, status) := by
  unfold State.logged at h
  cases hj : s.jrnA with
  | nil => simp [hj] at h
  | cons e l => simp_all

/-- Refutes O40: a TILE_RST of a tile whose skew calibration runs ends the calibration, so the newest entry is the calibration's COMPLETE with
status failed and not the DONE entry of TILE_RST. The state is two commands from power-on. -/
theorem not_resetsByPinAndCommand : ¬ Obligations.ResetsByPinAndCommand := by
  unfold Obligations.ResetsByPinAndCommand
  rintro ⟨-, -, -, -, -, tileRst, -⟩
  obtain ⟨t, run, -, -, -, -, logged⟩ := tileRst .mc0 0 0 0x9D62#16 skewRunning (by decide +kernel) rfl (by decide +kernel)
    (by decide +kernel) (by decide +kernel)
  rw [exec_tileRst_skewRunning, Host.Outcome.next.injEq] at run
  subst run
  have newest := logged_kind_newest logged
  rw [jrnA_skewReset] at newest
  exact absurd newest (by decide)

end Sys2Proof.Machine
end

section
/-!
# What an operation leaves alone

`CellsBut l s t` says it of the cells, `OnlyFields l s t` also of all memories and records, and `OnlyFieldsLog l s t` of those that no journal entry
changes. Each holds of a state and itself, of one operation after another, of fewer fields, and of a repeated operation; so the frame of an operation
follows from the frames of the operations that its definition is made of.
-/
namespace Sys2Proof.Machine

/-- Cells of no other field than the named ones have changed. -/
structure CellsBut (l : List Fld) (s t : State) : Prop where
  getAt (f : Fld) (i j : Nat) (hf : f.id ∉ l.map Fld.id) : t.getAt f i j = s.getAt f i j

section
variable {s t u : State} {l l' : List Fld}

/-! ## Cells -/

theorem CellsBut.refl (l : List Fld) (s : State) : CellsBut l s s := ⟨fun _ _ _ _ => rfl⟩

theorem CellsBut.trans (h : CellsBut l s t) (h' : CellsBut l t u) : CellsBut l s u :=
  ⟨fun f i j hf => (h'.getAt f i j hf).trans (h.getAt f i j hf)⟩

theorem CellsBut.mono (h : CellsBut l s t) (hl : l.map Fld.id ⊆ l'.map Fld.id) : CellsBut l' s t :=
  ⟨fun f i j hf => h.getAt f i j fun hm => hf (hl hm)⟩

/-- One more operation, with a frame within the fields named. -/
theorem CellsBut.andThen (h : CellsBut l s t) (h' : CellsBut l' t u) (hl : l'.map Fld.id ⊆ l.map Fld.id := by decide) : CellsBut l s u :=
  h.trans (h'.mono hl)

theorem CellsBut.get (h : CellsBut l s t) {f : Fld} (hf : f.id ∉ l.map Fld.id) (i : Nat) : t.get f i = s.get f i := h.getAt f i 0 hf

theorem CellsBut.over {α : Type} {g : State → α → State} (h : ∀ s a, CellsBut l s (g s a)) (L : List α) (s : State) : CellsBut l s (s.over L g) :=
  State.over_keeps (P := CellsBut l s) (.refl l s) fun t a _ ht => ht.trans (h t a)

theorem State.putAt_cellsBut (s : State) (f : Fld) (i j v : Nat) : CellsBut [f] s (s.putAt f i j v) :=
  ⟨fun g i' j' hg => s.getAt_putAt_field f g i j i' j' v fun e => hg (by simp [e])⟩

theorem CellsBut.putAt (h : CellsBut l s t) {f : Fld} {i j v : Nat} (hf : [f].map Fld.id ⊆ l.map Fld.id := by decide) :
    CellsBut l s (t.putAt f i j v) := h.andThen (t.putAt_cellsBut f i j v) hf

/-! ## Cells, memories and records -/

theorem OnlyFields.cellsBut (h : OnlyFields l s t) : CellsBut l s t := ⟨h.2⟩

theorem OnlyFields.refl (l : List Fld) (s : State) : OnlyFields l s s := ⟨rfl, fun _ _ _ _ => rfl⟩

theorem OnlyFields.trans (h : OnlyFields l s t) (h' : OnlyFields l t u) : OnlyFields l s u :=
  ⟨h'.1.trans h.1, (h.cellsBut.trans h'.cellsBut).getAt⟩

theorem OnlyFields.mono (h : OnlyFields l s t) (hl : l.map Fld.id ⊆ l'.map Fld.id) : OnlyFields l' s t := ⟨h.1, (h.cellsBut.mono hl).getAt⟩

theorem OnlyFields.over {α : Type} {g : State → α → State} (h : ∀ s a, OnlyFields l s (g s a)) (L : List α) (s : State) : OnlyFields l s (s.over L g) :=
  State.over_keeps (P := OnlyFields l s) (.refl l s) fun t a _ ht => ht.trans (h t a)

/-- One more operation, with a frame within the fields named. -/
theorem OnlyFields.andThen (h : OnlyFields l s t) (h' : OnlyFields l' t u) (hl : l'.map Fld.id ⊆ l.map Fld.id := by decide) : OnlyFields l s u :=
  h.trans (h'.mono hl)

theorem OnlyFields.cmds (h : OnlyFields l s t) : t.cmds = s.cmds := (congrArg State.cmds h.1 :)

theorem OnlyFields.accepted (h : OnlyFields l s t) (kind : CmdKind) : t.accepted kind = s.accepted kind := by
  rw [State.accepted, State.accepted, h.cmds]

theorem State.putAt_onlyFields (s : State) (f : Fld) (i j v : Nat) : OnlyFields [f] s (s.putAt f i j v) := ⟨rfl, (s.putAt_cellsBut f i j v).getAt⟩

theorem OnlyFields.putAt (h : OnlyFields l s t) {f : Fld} {i j v : Nat} (hf : [f].map Fld.id ⊆ l.map Fld.id := by decide) :
    OnlyFields l s (t.putAt f i j v) := h.andThen (t.putAt_onlyFields f i j v) hf

/-! ## Cells, memories and records apart from the journal -/

theorem OnlyFieldsLog.cellsBut (h : OnlyFieldsLog l s t) : CellsBut (l ++ logFlds) s t := ⟨h.2⟩

theorem OnlyFieldsLog.refl (l : List Fld) (s : State) : OnlyFieldsLog l s s := ⟨rfl, fun _ _ _ _ => rfl⟩

theorem OnlyFieldsLog.trans (h : OnlyFieldsLog l s t) (h' : OnlyFieldsLog l t u) : OnlyFieldsLog l s u :=
  ⟨h'.1.trans h.1, (h.cellsBut.trans h'.cellsBut).getAt⟩

theorem OnlyFieldsLog.mono (h : OnlyFieldsLog l s t) (hl : l.map Fld.id ⊆ l'.map Fld.id) : OnlyFieldsLog l' s t :=
  ⟨h.1, (h.cellsBut.mono (by
    simp only [List.map_append]
    exact List.append_subset.mpr ⟨List.subset_append_of_subset_left _ hl, List.subset_append_right _ _⟩)).getAt⟩

/-- One more operation, with a frame within the fields named. -/
theorem OnlyFieldsLog.andThen (h : OnlyFieldsLog l s t) (h' : OnlyFieldsLog l' t u) (hl : l'.map Fld.id ⊆ l.map Fld.id := by decide) :
    OnlyFieldsLog l s u := h.trans (h'.mono hl)

theorem OnlyFields.log (h : OnlyFields l s t) : OnlyFieldsLog l s t :=
  ⟨congrArg (fun s : State => { s with jrnA := [], jrnB := [], cmds := [], freeCtr := 0 }) h.1,
    (h.cellsBut.mono (by simp only [List.map_append]; exact List.subset_append_left _ _)).getAt⟩

theorem State.journal_onlyFieldsLog (s : State) (origin kind tag status target code arg : Nat) :
    OnlyFieldsLog [] s (s.journal origin kind tag status target code arg) := by
  refine ⟨rfl, fun f i j hf => ?_⟩
  simp only [logFlds, List.nil_append, List.map_cons, List.map_nil, List.mem_cons, List.not_mem_nil, or_false, not_or] at hf
  obtain ⟨next, oldest, unread⟩ := hf
  exact s.journal_getAt _ _ _ _ _ _ _ f i j next oldest unread

theorem State.acceptReg_onlyFieldsLog (s : State) (w : Who) (kind : CmdKind) (f : Fld) (i target : Nat) (started : Bool) :
    OnlyFieldsLog [] s (s.acceptReg w kind f i target started) := s.journal_onlyFieldsLog ..

end

/-! ## Reading after repeated writes -/

/-- A write, read at any cell. -/
theorem State.getAt_putAt (s : State) (f : Fld) (i j v i' j' : Nat) :
    (s.putAt f i j v).getAt f i' j' = if i' = i ∧ j' = j then v % 2 ^ f.wid else s.getAt f i' j' := by
  split
  case isTrue h => rw [h.1, h.2, State.getAt_putAt_same]
  case isFalse h => exact s.getAt_putAt_key v fun e => h (by simpa [Fld.key] using e)

/-- What one turn of a repeated operation makes true and every turn keeps holds at the end; the turns may rest on an invariant `Q` of their own. -/
theorem State.over_of_mem {α : Type} {P : State → Prop} (Q : State → Prop) {g : State → α → State} {l : List α} {s : State} {a : α} (ha : a ∈ l)
    (hs : Q s) (keepQ : ∀ s b, Q s → Q (g s b)) (makeP : ∀ s, Q s → P (g s a)) (keepP : ∀ s b, Q s → P s → P (g s b)) : P (s.over l g) := by
  induction l generalizing s with
  | nil => cases ha
  | cons b l ih =>
    rcases List.mem_cons.mp ha with rfl | ha
    · exact (State.over_keeps (P := fun t => Q t ∧ P t) ⟨keepQ s a hs, makeP s hs⟩ fun t c _ h => ⟨keepQ t c h.1, keepP t c h.1 h.2⟩).2
    · exact ih ha (keepQ s b hs)

/-- A value that some turns of a repeated operation set to `c`, and the others leave, is `c` after a turn that sets it. -/
theorem State.over_sets {α β : Type} (v : State → β) {c : β} {sets : α → Prop} [DecidablePred sets] {g : State → α → State} {l : List α} {a : α}
    (s : State) (h : ∀ s b, v (g s b) = if sets b then c else v s) (ha : a ∈ l) (hit : sets a) : v (s.over l g) = c := by
  refine State.over_of_mem (P := fun t => v t = c) (fun _ => True) ha trivial (fun _ _ _ => trivial) (fun t _ => ?_) fun t b _ ht => ?_
  · rw [h, if_pos hit]
  · rw [h, ht, ite_self]

/-! ## The rail's phases and tiles -/

section
variable {s t : State} {l : List Fld}

theorem CellsBut.phasesOf (h : CellsBut l s t) (hl : Reg.PH_CFG.RAIL.id ∉ l.map Fld.id) (r : Nat) : t.phasesOf r = s.phasesOf r := by
  have same : ∀ p, t.railOf p = s.railOf p := h.get hl
  simp only [State.phasesOf, same]

theorem CellsBut.phasesOn (h : CellsBut l s t) (hl : Reg.PH_CFG.RAIL.id ∉ l.map Fld.id) (u r : Nat) : t.phasesOn u r = s.phasesOn u r := by
  rw [State.phasesOn, State.phasesOn, h.phasesOf hl]

theorem CellsBut.home (h : CellsBut l s t) (hl : Hid.HOME.id ∉ l.map Fld.id) (r : Nat) : t.home r = s.home r := h.getAt _ 0 r hl

theorem CellsBut.tilesOf (h : CellsBut l s t) (hl : Reg.PH_CFG.RAIL.id ∉ l.map Fld.id) (hh : Hid.HOME.id ∉ l.map Fld.id) (r : Nat) :
    t.tilesOf r = s.tilesOf r := by
  simp only [State.tilesOf, h.home hh, h.phasesOn hl]

end

section
variable (s : State) (r : Nat)

theorem State.home_mem_tilesOf : s.home r ∈ s.tilesOf r := List.mem_cons_self

/-- The tile that runs a rail is its home tile or its partner. -/
theorem State.leadTile_mem_tilesOf : s.leadTile r ∈ s.tilesOf r := by
  unfold State.leadTile
  dsimp only
  split
  case isTrue => exact s.home_mem_tilesOf r
  case isFalse =>
    split
    case h_1 => exact s.home_mem_tilesOf r
    case h_2 q hq =>
      split
      · exact List.mem_of_getElem? hq
      · exact s.home_mem_tilesOf r

theorem State.putRail_onlyFields (f : Fld) (v : Nat) : OnlyFields [f] s (s.putRail f r v) :=
  .over (fun t u => t.putAt_onlyFields f (railIx u r) 0 v) _ s

/-- Every tile of the rail holds what was written. -/
theorem State.get_putRail (f : Fld) (v : Nat) {u : Nat} (hu : u ∈ s.tilesOf r) : (s.putRail f r v).get f (railIx u r) = v % 2 ^ f.wid :=
  State.over_sets (fun t => t.get f (railIx u r)) (sets := fun b => railIx u r = railIx b r) s
    (fun t b => by simp only [State.get_eq, State.put_eq, State.getAt_putAt, and_true]) hu rfl

end

/-! ## Events -/

theorem testBit_withBit_true (n b : Nat) : (withBit n b true).testBit b = true := by
  unfold withBit
  split
  case isTrue h => exact h
  case isFalse h => simpa [Nat.add_comm n, Nat.testBit_two_pow_add_eq] using h

section
variable (s : State)

theorem State.event_onlyFields (p b : Nat) : OnlyFields [Reg.ENG_EV.PENDING] s (s.event p b) := s.putAt_onlyFields ..

theorem State.railEventOn_onlyFields (u r b : Nat) : OnlyFields [Reg.ENG_EV.PENDING] s (s.railEventOn u r b) :=
  .over (fun t p => t.event_onlyFields p b) _ s

/-- An event latches in its phase, and the same event of every other phase is as it was. -/
theorem State.bit_event {b : Nat} (hb : b < 16) (p q : Nat) :
    (s.event q b).bit Reg.ENG_EV.PENDING p b = if p = q then true else s.bit Reg.ENG_EV.PENDING p b := by
  simp only [State.bit, State.event, State.putBit, State.get_eq, State.put_eq, State.getAt_putAt, and_true]
  split
  case isTrue h =>
    rw [show Reg.ENG_EV.PENDING.wid = 16 from rfl, Nat.testBit_mod_two_pow, testBit_withBit_true]
    simpa using hb
  case isFalse => rfl

/-- An event of a rail latches in every phase of it on the tile. -/
theorem State.bit_railEventOn {b : Nat} (hb : b < 16) {u r p : Nat} (hp : p ∈ s.phasesOn u r) :
    (s.railEventOn u r b).bit Reg.ENG_EV.PENDING p b = true :=
  State.over_sets (fun t => t.bit Reg.ENG_EV.PENDING p b) s (fun t q => t.bit_event hb p q) hp rfl

/-- An event that is latched stays latched while it is raised elsewhere. -/
theorem State.bit_railEventOn_keeps {b : Nat} (hb : b < 16) {u r p : Nat} (h : s.bit Reg.ENG_EV.PENDING p b = true) :
    (s.railEventOn u r b).bit Reg.ENG_EV.PENDING p b = true :=
  State.over_keeps (P := fun t => t.bit Reg.ENG_EV.PENDING p b = true) h fun t q _ ht => by rw [t.bit_event hb, ht, ite_self]

end

/-! ## The newest journal entry -/

theorem State.logged_jReg (s : State) (w : Who) (f : Fld) (i j target kind status : Nat) :
    (s.jReg w f i j target kind status).logged kind status target = true := by
  rw [State.logged, State.jReg, State.journal_head]
  simp [State.entryNow]

end Sys2Proof.Machine
end

section
/-!
# Set-points and control laws (R106, R107, R118, R119)

Each operation has its frame, what it makes true, and an equation for each of its cases; the obligation is put together from these.
-/
namespace Sys2Proof.Machine

/-! ## A set-point command starts -/

/-- What the start of a set-point command writes at the place `i` of the rail's block on one tile. -/
def State.rampAt (s : State) (target i : Nat) : State :=
  let soft := decide (s.get Hid.SP_MODE i = SpMode.soft)
  let s := s.put Hid.SP_TGT i target
  if soft then s.raise Hid.SP_CMD i else (s.put Hid.SP_MODE i SpMode.ramp).raise Reg.RAIL_SP_STATUS.RAMPING i

/-- One tile's turn of `State.setpointStart`. -/
def State.tileSetpoint (s : State) (r target u : Nat) : State := (s.rampAt target (railIx u r)).railEventOn u r Ev.vsetChg

theorem State.setpointStart_eq (s : State) (r target : Nat) :
    s.setpointStart r target = s.over (s.tilesOf r) fun s u => s.tileSetpoint r target u := rfl

/-- The generator's fields that the start of a set-point command writes. -/
def rampFlds : List Fld := [Hid.SP_TGT, Hid.SP_CMD, Hid.SP_MODE, Reg.RAIL_SP_STATUS.RAMPING]

/-- At the place `i` of a rail's block the generator ramps to the target. -/
def State.RampsTo (s : State) (target i : Nat) : Prop :=
  s.get Hid.SP_TGT i = target % 2 ^ 16 ∧ s.get Hid.SP_MODE i = SpMode.ramp ∧ s.get Reg.RAIL_SP_STATUS.RAMPING i = 1

section
variable {s : State} {r target u i k p : Nat}

theorem State.rampAt_soft (h : s.get Hid.SP_MODE i = SpMode.soft) : s.rampAt target i = (s.put Hid.SP_TGT i target).raise Hid.SP_CMD i := by
  simp only [State.rampAt, h, decide_true, if_true]

theorem State.rampAt_ramp (h : s.get Hid.SP_MODE i ≠ SpMode.soft) :
    s.rampAt target i = ((s.put Hid.SP_TGT i target).put Hid.SP_MODE i SpMode.ramp).raise Reg.RAIL_SP_STATUS.RAMPING i := by
  simp only [State.rampAt, h, decide_false, Bool.false_eq_true, if_false]

theorem State.rampAt_onlyFields (s : State) (target i : Nat) : OnlyFields rampFlds s (s.rampAt target i) := by
  by_cases h : s.get Hid.SP_MODE i = SpMode.soft
  · rw [State.rampAt_soft h]
    exact (OnlyFields.refl _ s).putAt.putAt
  · rw [State.rampAt_ramp h]
    exact (OnlyFields.refl _ s).putAt.putAt.putAt

/-- Other places of the rail's block are as they were. -/
theorem State.get_rampAt_elsewhere (hk : k ≠ i) (f : Fld) : (s.rampAt target i).get f k = s.get f k := by
  by_cases h : s.get Hid.SP_MODE i = SpMode.soft
  · rw [State.rampAt_soft h]
    simp [hk]
  · rw [State.rampAt_ramp h]
    simp [hk]

/-- The ramp starts outside a soft-start. -/
theorem State.rampsTo_rampAt (h : s.get Hid.SP_MODE i ≠ SpMode.soft) : (s.rampAt target i).RampsTo target i := by
  rw [State.rampAt_ramp h]
  unfold State.RampsTo
  simp (disch := decide) only [State.get_eq, State.put_eq, State.raise_eq, State.getAt_putAt_field, State.getAt_putAt_same]
  exact ⟨rfl, rfl, rfl⟩

theorem State.RampsTo.notSoft (h : s.RampsTo target i) : s.get Hid.SP_MODE i ≠ SpMode.soft := by
  rw [h.2.1]
  decide

/-- A ramp goes on while one to the same target starts. -/
theorem State.RampsTo.rampAt (h : s.RampsTo target k) (i : Nat) : (s.rampAt target i).RampsTo target k := by
  by_cases here : k = i
  · exact here ▸ State.rampsTo_rampAt h.notSoft
  · simpa only [State.RampsTo, State.get_rampAt_elsewhere here] using h

/-- No soft-start begins. -/
theorem State.notSoft_rampAt (h : s.get Hid.SP_MODE k ≠ SpMode.soft) (i : Nat) : (s.rampAt target i).get Hid.SP_MODE k ≠ SpMode.soft := by
  by_cases here : k = i
  · exact here ▸ (State.rampsTo_rampAt h).notSoft
  · rwa [State.get_rampAt_elsewhere here]

/-- The events of a turn leave the generator alone. -/
theorem State.rampsTo_railEventOn (b : Nat) : (s.railEventOn u r b).RampsTo target k ↔ s.RampsTo target k := by
  have events := (s.railEventOn_onlyFields u r b).cellsBut
  rw [State.RampsTo, State.RampsTo, events.get (by decide), events.get (by decide), events.get (by decide)]

/-! Every tile's turn, and the rail. -/

/-- The fields that the start of a set-point command writes. -/
def spStartFlds : List Fld := Reg.ENG_EV.PENDING :: rampFlds

theorem State.tileSetpoint_onlyFields (s : State) (r target u : Nat) : OnlyFields spStartFlds s (s.tileSetpoint r target u) :=
  ((s.rampAt_onlyFields ..).mono (by decide)).andThen (State.railEventOn_onlyFields ..)

theorem State.setpointStart_onlyFields (s : State) (r target : Nat) : OnlyFields spStartFlds s (s.setpointStart r target) :=
  .over (fun t u => t.tileSetpoint_onlyFields r target u) _ s

theorem State.notSoft_tileSetpoint (h : s.get Hid.SP_MODE k ≠ SpMode.soft) (u : Nat) :
    (s.tileSetpoint r target u).get Hid.SP_MODE k ≠ SpMode.soft := by
  rw [State.tileSetpoint, (State.railEventOn_onlyFields ..).cellsBut.get (by decide)]
  exact State.notSoft_rampAt h _

/-- Every tile of the rail that is in no soft-start ramps to the target. -/
theorem State.rampsTo_setpointStart (hu : u ∈ s.tilesOf r) (h : s.get Hid.SP_MODE (railIx u r) ≠ SpMode.soft) :
    (s.setpointStart r target).RampsTo target (railIx u r) := by
  rw [State.setpointStart_eq]
  refine State.over_of_mem (P := fun t => t.RampsTo target (railIx u r)) (fun t => t.get Hid.SP_MODE (railIx u r) ≠ SpMode.soft)
    hu h (fun t v ht => ?_) (fun t ht => ?_) fun t v _ ht => ?_
  · exact State.notSoft_tileSetpoint ht v
  · exact (State.rampsTo_railEventOn _).mpr (State.rampsTo_rampAt ht)
  · exact (State.rampsTo_railEventOn _).mpr (ht.rampAt _)

/-- VSET_CHG latches in every phase of the rail (R118). -/
theorem State.vsetChg_setpointStart (hu : u ∈ s.tilesOf r) (hp : p ∈ s.phasesOn u r) :
    (s.setpointStart r target).bit Reg.ENG_EV.PENDING p Ev.vsetChg = true := by
  rw [State.setpointStart_eq]
  refine State.over_of_mem (P := fun t => t.bit Reg.ENG_EV.PENDING p Ev.vsetChg = true) (OnlyFields spStartFlds s)
    hu (.refl _ s) (fun t v ht => ?_) (fun t ht => ?_) fun t v _ ht => ?_
  · exact ht.trans (t.tileSetpoint_onlyFields r target v)
  · refine State.bit_railEventOn _ (by decide) ?_
    rwa [(ht.andThen (t.rampAt_onlyFields ..)).cellsBut.phasesOn (by decide)]
  · refine State.bit_railEventOn_keeps _ (by decide) ?_
    rwa [State.bit, (t.rampAt_onlyFields ..).cellsBut.get (by decide)]

end

/-! ## A write of VSET_TGT -/

section
variable {s : State} {w : Who} {r target : Nat} {stop : Bool}

/-- A set-point outside the range or forbidden by the ceiling (R119, R191). -/
theorem State.setpointWrite_refused (h : s.setptOk (s.leadIx r) target = false) :
    s.setpointWrite w r target stop = (s.putRail Reg.RAIL_SETPT.SP_REJ r 1).when (s.running r) fun t =>
      t.jRefused w Reg.RAIL_SETPT.VSET_TGT (s.leadIx r) r JStatus.refused := by
  simp only [State.setpointWrite, h, Bool.not_false, if_true]

/-- A rail that no soft-start has begun or finished takes the value. -/
theorem State.setpointWrite_idle (h : s.setptOk (s.leadIx r) target = true) (done : s.on Hid.SP_DONE (s.leadIx r) = false)
    (mode : s.get Hid.SP_MODE (s.leadIx r) ≠ SpMode.soft) :
    s.setpointWrite w r target stop = (s.when (s.running r) fun t =>
      t.jDone w Reg.RAIL_SETPT.VSET_TGT (s.leadIx r) r).putRail Reg.RAIL_SETPT.VSET_TGT r target := by
  simp only [State.setpointWrite, h, done, mode, Bool.not_true, Bool.not_false, Bool.false_eq_true, ne_eq, not_false_eq_true, decide_true,
    Bool.and_self, if_true, if_false]

/-- A set-point command on a clock-ready rail starts (R30, R118). -/
theorem State.setpointWrite_command (h : s.setptOk (s.leadIx r) target = true) (done : s.on Hid.SP_DONE (s.leadIx r) = true)
    (ready : s.railReady r = true) :
    s.setpointWrite w r target false = ((s.acceptReg w (.setpoint r target) Reg.RAIL_SETPT.VSET_TGT (s.leadIx r) r true).putRail
      Reg.RAIL_SETPT.VSET_TGT r target).setpointStart r target := by
  simp [State.setpointWrite, h, done, ready]

end

/-! ## Selecting a law -/

section
variable {s : State} {r law : Nat}

/-- A value without a meaning (R106). -/
theorem State.lawSelect_unknown (h : lawKnown law = false) : s.lawSelect r law = s.putRail Reg.RAIL_LAW.LAW_REJ r 1 := by
  simp only [State.lawSelect, h, Bool.not_false, if_true]

/-- A new law of the library on a rail whose phases are all OFF or BLOCKED (R107). -/
theorem State.lawSelect_new (h : lawKnown law = true) (h0 : law ≠ 0) (new : s.get Reg.RAIL_LAW.LAW_ID (s.homeIx r) ≠ law)
    (idle : s.railIdle r = true) : s.lawSelect r law = (s.putRail Reg.RAIL_LAW.LAW_ID r law).putAt Hid.LAW_BUSY 0 r 1 := by
  simp only [State.lawSelect, h, h0, new, idle, Bool.not_true, Bool.false_eq_true, if_false]

end

/-! ## The end of a law's copy -/

theorem State.getAt_wrEng (s : State) (a : Nat) (l : List Byte) (f : Fld) (i j : Nat) : (s.wrEng a l).getAt f i j = s.getAt f i j :=
  State.getAt_wrBytes ..

/-- A filled bank shows the law that it holds. -/
theorem State.getAt_bankFill (s : State) (t e b law : Nat) (l : List Byte) (i j : Nat) : (s.bankFill t e b law l).getAt Hid.BANK_LAW i j =
    if i = engIx t e ∧ j = b then law % 256 else s.getAt Hid.BANK_LAW i j := by
  rw [State.bankFill, State.getAt_putAt, State.getAt_wrEng]
  rfl

theorem State.bankFill_cellsBut (s : State) (t e b law : Nat) (l : List Byte) : CellsBut [Hid.BANK_LAW] s (s.bankFill t e b law l) :=
  .putAt ⟨fun f i j _ => s.getAt_wrEng _ l f i j⟩

/-- One phase's turn of `State.lawCopied`. -/
def State.lawCopyPhase (s : State) (law p : Nat) : State :=
  let t := tileOf p
  let e := localOf p
  let s := (s.bankFill t e 0 law (lawBytes law)).bankFill t e 1 law (lawBytes law)
  ((s.put Reg.ENG_CTRL.EV_EN p 0x3FFF).clr Reg.ENG_STATUS.CRC_VALID p).raise Hid.CRC_BUSY (engIx t e)

/-- The fields that a copy writes in the engines. -/
def lawCopyFlds : List Fld := [Hid.BANK_LAW, Reg.ENG_CTRL.EV_EN, Reg.ENG_STATUS.CRC_VALID, Hid.CRC_BUSY]

/-- The turns for every phase of the rail. -/
def State.lawCopyAll (s : State) (r law : Nat) : State := s.over (s.phasesOf r) fun s p => s.lawCopyPhase law p

theorem State.lawCopied_eq (s : State) (r : Nat) :
    s.lawCopied r = ((s.lawCopyAll r (s.get Reg.RAIL_LAW.LAW_ID (s.homeIx r))).putRail Reg.RAIL_LAW.LOADED_ID r
      (s.get Reg.RAIL_LAW.LAW_ID (s.homeIx r))).putAt Hid.LAW_BUSY 0 r 0 := rfl

section
variable (s : State) (law p : Nat)

theorem State.lawCopyPhase_cellsBut : CellsBut lawCopyFlds s (s.lawCopyPhase law p) :=
  (((CellsBut.refl _ s).andThen (s.bankFill_cellsBut ..)).andThen (State.bankFill_cellsBut ..)).putAt.putAt.putAt

theorem State.evEn_lawCopyPhase (k : Nat) :
    (s.lawCopyPhase law p).get Reg.ENG_CTRL.EV_EN k = if k = p then 0x3FFF else s.get Reg.ENG_CTRL.EV_EN k := by
  simp (disch := decide) only [State.lawCopyPhase, State.get_eq, State.put_eq, State.clr_eq, State.raise_eq, State.getAt_putAt_field,
    State.getAt_putAt, and_true]
  rw [(State.bankFill_cellsBut ..).getAt _ _ _ (by decide), (State.bankFill_cellsBut ..).getAt _ _ _ (by decide)]
  rfl

theorem State.crcValid_lawCopyPhase (k : Nat) :
    (s.lawCopyPhase law p).get Reg.ENG_STATUS.CRC_VALID k = if k = p then 0 else s.get Reg.ENG_STATUS.CRC_VALID k := by
  simp (disch := decide) only [State.lawCopyPhase, State.get_eq, State.put_eq, State.clr_eq, State.raise_eq, State.getAt_putAt_field,
    State.getAt_putAt, and_true, Nat.zero_mod]
  rw [(State.bankFill_cellsBut ..).getAt _ _ _ (by decide), (State.bankFill_cellsBut ..).getAt _ _ _ (by decide)]

theorem State.bankLaw_lawCopyPhase (x : Nat) : (s.lawCopyPhase law p).getAt Hid.BANK_LAW x 1 =
    if x = engIx (tileOf p) (localOf p) then law % 256 else s.getAt Hid.BANK_LAW x 1 := by
  simp (disch := decide) only [State.lawCopyPhase, State.put_eq, State.clr_eq, State.raise_eq, State.getAt_putAt_field, State.getAt_bankFill,
    and_true, Nat.one_ne_zero, and_false, if_false]

end

section
variable {s : State} {r law p u : Nat}

theorem State.lawCopyAll_cellsBut (s : State) (r law : Nat) : CellsBut lawCopyFlds s (s.lawCopyAll r law) :=
  .over (fun t p => t.lawCopyPhase_cellsBut law p) _ s

theorem State.lawCopied_cellsBut (s : State) (r : Nat) :
    CellsBut (Reg.RAIL_LAW.LOADED_ID :: Hid.LAW_BUSY :: lawCopyFlds) s (s.lawCopied r) := by
  rw [State.lawCopied_eq]
  exact (((s.lawCopyAll_cellsBut ..).mono (by decide)).andThen (State.putRail_onlyFields ..).cellsBut).putAt

/-- LOADED_ID shows the law on every tile of the rail. -/
theorem State.loadedId_lawCopied (hu : u ∈ s.tilesOf r) :
    (s.lawCopied r).get Reg.RAIL_LAW.LOADED_ID (railIx u r) = s.get Reg.RAIL_LAW.LAW_ID (s.homeIx r) % 256 := by
  rw [State.lawCopied_eq, (State.putAt_cellsBut ..).get (by decide)]
  refine State.get_putRail _ r _ _ ?_
  rwa [(s.lawCopyAll_cellsBut ..).tilesOf (by decide) (by decide)]

theorem State.lawBusy_lawCopied (s : State) (r : Nat) : (s.lawCopied r).onAt Hid.LAW_BUSY 0 r = false := by
  rw [State.lawCopied_eq, State.onAt, State.getAt_putAt_same]
  rfl

/-- Every engine of the rail holds the law in its second bank, with EV_EN = 0x3FFF and no valid bank CRC (R107). -/
theorem State.engines_lawCopied (hp : p ∈ s.phasesOf r) :
    (s.lawCopied r).get Reg.ENG_CTRL.EV_EN p = 0x3FFF ∧ (s.lawCopied r).get Reg.ENG_STATUS.CRC_VALID p = 0 ∧
      (s.lawCopied r).getAt Hid.BANK_LAW (engIx (tileOf p) (localOf p)) 1 = s.get Reg.RAIL_LAW.LAW_ID (s.homeIx r) % 256 := by
  have shown (t : State) (v : Nat) : CellsBut [Reg.RAIL_LAW.LOADED_ID, Hid.LAW_BUSY] t
      ((t.putRail Reg.RAIL_LAW.LOADED_ID r v).putAt Hid.LAW_BUSY 0 r 0) :=
    ((t.putRail_onlyFields ..).cellsBut.mono (by decide)).putAt
  rw [State.lawCopied_eq, (shown _ _).get (by decide), (shown _ _).get (by decide), (shown _ _).getAt _ _ _ (by decide)]
  refine ⟨?_, ?_, ?_⟩
  · exact State.over_sets (fun t => t.get Reg.ENG_CTRL.EV_EN p) s (fun t q => t.evEn_lawCopyPhase _ q p) hp rfl
  · exact State.over_sets (fun t => t.get Reg.ENG_STATUS.CRC_VALID p) s (fun t q => t.crcValid_lawCopyPhase _ q p) hp rfl
  · exact State.over_sets (fun t => t.getAt Hid.BANK_LAW (engIx (tileOf p) (localOf p)) 1) s (fun t q => t.bankLaw_lawCopyPhase _ q _) hp rfl

end

/-! ## What follows a change of a rail while nothing is in progress -/

section
variable {s t : State} {l : List Fld}

theorem State.enableRetry_idle {r : Nat} (h : s.enStep r = 0) : s.enableRetry r = s := by
  simp only [State.enableRetry, h]
  rfl

theorem State.seqWait_idle (h : s.get Hid.SEQ_STEP 0 = 0) : s.seqWait = s := by
  simp only [State.seqWait, h]
  rfl

theorem State.localPoll_idle {u : Nat} (h : s.get Hid.AK_STEP u = 0) : s.localPoll u = s := by
  simp only [State.localPoll, h]
  rfl

/-- With no rail queued after a thermal restart, at most the rail whose turn it is changes. -/
theorem State.restartPoll_empty (n : Nat) (h : s.get Hid.TSD_QUEUE 0 = 0) : OnlyFields [Hid.TSD_CUR] s (State.restartPoll n s) := by
  cases n with
  | zero => exact .refl _ s
  | succ n =>
    have none : ((List.range 48).find? fun r => s.bit Hid.TSD_QUEUE 0 r) = none :=
      List.find?_eq_none.mpr fun r _ => by simp only [State.bit, h, Nat.zero_testBit, Bool.false_eq_true, not_false_eq_true]
    unfold State.restartPoll
    simp only [none]
    split
    · exact .refl _ s
    · exact s.putAt_onlyFields ..

theorem State.seqPoll_quiet (h : s.quiet = true) : OnlyFields [Hid.TSD_CUR] s s.seqPoll := by
  simp only [State.quiet, Bool.and_eq_true, List.all_eq_true, decide_eq_true_eq] at h
  obtain ⟨⟨seq, tiles⟩, queue⟩ := h
  have polled : s.over (List.range 4) (fun s t => s.localPoll t) = s :=
    State.over_keeps (P := fun t => t = s) rfl fun t u hu e => by rw [e, State.localPoll_idle (tiles u hu)]
  rw [State.seqPoll, State.seqWait_idle seq, polled]
  exact State.restartPoll_empty 49 queue

theorem CellsBut.quiet (h : CellsBut l s t) (seq : Hid.SEQ_STEP.id ∉ l.map Fld.id) (tiles : Hid.AK_STEP.id ∉ l.map Fld.id)
    (queue : Hid.TSD_QUEUE.id ∉ l.map Fld.id) : t.quiet = s.quiet := by
  simp only [State.quiet, h.get seq, h.get tiles, h.get queue]

/-- Where no enable of the rail is in progress, the end of the copy starts nothing else. -/
theorem State.lawCopyDone_quiet {r : Nat} (hq : s.quiet = true) (he : s.enStep r = 0) :
    CellsBut [Hid.TSD_CUR] (s.lawCopied r) ((s.lawCopied r).enableRetry r).seqPoll := by
  have copied := s.lawCopied_cellsBut r
  rw [State.enableRetry_idle ((copied.getAt _ _ _ (by decide)).trans he)]
  exact (State.seqPoll_quiet ((copied.quiet (by decide) (by decide) (by decide)).trans hq)).cellsBut

end

/-! ## The commands -/

section
variable {s : State} {r : Rail}

/-- A set-point that is allowed, where no soft-start has begun or finished, stands in VSET_TGT at once. -/
theorem answers_setpoint_idle (w : Who) (target : BitVec 16) (stop : Bool) (ok : s.setptOk (s.leadIx r) target.toNat = true)
    (done : s.on Hid.SP_DONE (s.leadIx r) = false) (mode : s.get Hid.SP_MODE (s.leadIx r) ≠ SpMode.soft) :
    Answers (.setpointCommand w r target stop) s fun t => t.get Reg.RAIL_SETPT.VSET_TGT (s.leadIx r) = target.toNat ∧
      OnlyFieldsLog [Reg.RAIL_SETPT.VSET_TGT] s t := by
  have journalled : OnlyFieldsLog [] s (s.when (s.running r) fun t => t.jDone w Reg.RAIL_SETPT.VSET_TGT (s.leadIx r) r) :=
    State.when_keeps (.refl _ s) fun _ => s.journal_onlyFieldsLog ..
  refine ⟨_, rfl, ?_⟩
  rw [State.setpointWrite_idle ok done mode]
  refine ⟨?_, (journalled.mono (by decide)).andThen (State.putRail_onlyFields ..).log⟩
  refine (State.get_putRail _ _ _ _ ?_).trans (Nat.mod_eq_of_lt target.isLt)
  rw [journalled.cellsBut.tilesOf (by decide) (by decide)]
  exact s.leadTile_mem_tilesOf r

/-- The fields that a set-point command writes. -/
def spCommandFlds : List Fld := Reg.RAIL_SETPT.VSET_TGT :: spStartFlds

/-- A set-point command on a clock-ready rail ramps every tile of it that is in no soft-start (R118). -/
theorem answers_setpoint_command (w : Who) (target : BitVec 16) (ok : s.setptOk (s.leadIx r) target.toNat = true)
    (done : s.on Hid.SP_DONE (s.leadIx r) = true) (ready : s.railReady r = true) :
    Answers (.setpointCommand w r target false) s fun t => (∀ u ∈ s.tilesOf r, t.get Reg.RAIL_SETPT.VSET_TGT (railIx u r) = target.toNat ∧
      (s.get Hid.SP_MODE (railIx u r) ≠ SpMode.soft → t.RampsTo target.toNat (railIx u r)) ∧
      ∀ p ∈ s.phasesOn u r, t.bit Reg.ENG_EV.PENDING p Ev.vsetChg = true) ∧
      t.accepted (.setpoint r target.toNat) = true ∧ OnlyFieldsLog spCommandFlds s t := by
  refine ⟨_, rfl, ?_⟩
  rw [State.setpointWrite_command ok done ready]
  generalize ha : s.acceptReg w (.setpoint r target.toNat) Reg.RAIL_SETPT.VSET_TGT (s.leadIx r) r true = a
  have accept : OnlyFieldsLog [] s a := ha ▸ s.acceptReg_onlyFieldsLog ..
  have accepted : a.accepted (.setpoint r target.toNat) = true := ha ▸ s.accept_accepted ..
  have write := a.putRail_onlyFields r Reg.RAIL_SETPT.VSET_TGT target.toNat
  have start := (a.putRail Reg.RAIL_SETPT.VSET_TGT r target.toNat).setpointStart_onlyFields r target.toNat
  have before : CellsBut (Reg.RAIL_SETPT.VSET_TGT :: logFlds) s (a.putRail Reg.RAIL_SETPT.VSET_TGT r target.toNat) :=
    (accept.cellsBut.mono (by decide)).andThen write.cellsBut
  refine ⟨fun u hu => ⟨?_, fun soft => ?_, fun p hp => ?_⟩, ?_, ?_⟩
  · rw [start.cellsBut.get (by decide), State.get_putRail a r _ _ (by rwa [accept.cellsBut.tilesOf (by decide) (by decide)])]
    exact Nat.mod_eq_of_lt target.isLt
  · refine State.rampsTo_setpointStart ?_ ?_
    · rwa [before.tilesOf (by decide) (by decide)]
    · rwa [before.get (by decide)]
  · refine State.vsetChg_setpointStart (u := u) ?_ ?_
    · rwa [before.tilesOf (by decide) (by decide)]
    · rwa [before.phasesOn (by decide)]
  · rw [start.accepted, write.accepted, accepted]
  · exact ((accept.mono (by decide)).andThen write.log).andThen start.log

/-- A set-point that is not allowed sets SP_REJ, and a running rail journals the refusal (R119, R191). -/
theorem answers_setpoint_refused (w : Who) (target : BitVec 16) (stop : Bool) (bad : s.setptOk (s.leadIx r) target.toNat = false) :
    Answers (.setpointCommand w r target stop) s fun t => t.get Reg.RAIL_SETPT.SP_REJ (s.leadIx r) = 1 ∧
      (s.running r = true → t.logged JKind.refused JStatus.refused r = true) ∧ OnlyFieldsLog [Reg.RAIL_SETPT.SP_REJ] s t := by
  refine ⟨_, rfl, ?_⟩
  rw [State.setpointWrite_refused bad]
  generalize hm : s.putRail Reg.RAIL_SETPT.SP_REJ r 1 = m
  have mark : OnlyFields [Reg.RAIL_SETPT.SP_REJ] s m := hm ▸ s.putRail_onlyFields ..
  have marked : m.get Reg.RAIL_SETPT.SP_REJ (s.leadIx r) = 1 := hm ▸ s.get_putRail r _ 1 (s.leadTile_mem_tilesOf r)
  have refusal : OnlyFieldsLog [] m (m.when (s.running r) fun t => t.jRefused w Reg.RAIL_SETPT.VSET_TGT (s.leadIx r) r JStatus.refused) :=
    State.when_keeps (.refl _ m) fun _ => m.journal_onlyFieldsLog ..
  refine ⟨?_, fun running => ?_, mark.log.andThen refusal⟩
  · rw [refusal.cellsBut.get (by decide), marked]
  · rw [running, State.when_true]
    exact m.logged_jReg ..

/-- A new law of the library on an idle rail is taken, and its copy starts (R107). -/
theorem answers_lawSelect_new (w : Who) {law : Byte} (known : law = 0x10 ∨ law = 0x11 ∨ law = 0x12)
    (new : s.get Reg.RAIL_LAW.LAW_ID (s.homeIx r) ≠ law.toNat) (idle : s.railIdle r = true) :
    Answers (.lawSelect w r law) s fun t => t.get Reg.RAIL_LAW.LAW_ID (s.homeIx r) = law.toNat ∧ t.onAt Hid.LAW_BUSY 0 r = true ∧
      OnlyFields [Reg.RAIL_LAW.LAW_ID, Hid.LAW_BUSY] s t := by
  have meaning : lawKnown law.toNat = true ∧ law.toNat ≠ 0 := by
    rcases known with rfl | rfl | rfl <;> decide
  refine ⟨_, rfl, ?_⟩
  rw [State.lawSelect_new meaning.1 meaning.2 new idle]
  refine ⟨?_, ?_, ((s.putRail_onlyFields ..).mono (by decide)).putAt⟩
  · rw [(State.putAt_cellsBut ..).get (by decide)]
    exact (s.get_putRail r _ _ (s.home_mem_tilesOf r)).trans (Nat.mod_eq_of_lt law.isLt)
  · rw [State.onAt, State.getAt_putAt_same]
    rfl

/-- A reserved law sets LAW_REJ (R106). -/
theorem answers_lawSelect_reserved (w : Who) {law : Byte} (h0 : law ≠ 0) (h1 : law ≠ 0x10) (h2 : law ≠ 0x11) (h3 : law ≠ 0x12) :
    Answers (.lawSelect w r law) s fun t => t.get Reg.RAIL_LAW.LAW_REJ (s.homeIx r) = 1 ∧ OnlyFields [Reg.RAIL_LAW.LAW_REJ] s t := by
  have reserved : lawKnown law.toNat = false := by
    have differs {k : Byte} (h : law ≠ k) : law.toNat ≠ k.toNat := fun e => h (BitVec.eq_of_toNat_eq e)
    simp only [lawKnown, Bool.or_eq_false_iff, decide_eq_false_iff_not]
    exact ⟨⟨⟨differs h0, differs h1⟩, differs h2⟩, differs h3⟩
  refine ⟨_, rfl, ?_⟩
  rw [State.lawSelect_unknown reserved]
  exact ⟨s.get_putRail r _ 1 (s.home_mem_tilesOf r), s.putRail_onlyFields ..⟩

/-- A copy in progress ends. -/
theorem exec_lawCopyDone_busy (busy : s.onAt Hid.LAW_BUSY 0 r = true) :
    exec (.lawCopyDone r) s = .next ((s.lawCopied r).enableRetry r).seqPoll := by
  show execLawCopyDone r s = _
  rw [execLawCopyDone, if_pos busy]

end

/-- Settles O14: the equation of each case of SETPOINT_COMMAND, LAW_SELECT and LAW_COPY_DONE with the frames of the operations in it. -/
theorem setpointsAndLaws : Obligations.SetpointsAndLaws := by
  unfold Obligations.SetpointsAndLaws
  refine ⟨?idle, ?command, ?refused, ?new, ?reserved, ?copiedQuiet, ?copied⟩
  case idle =>
    intro w r target stop s ok done mode
    obtain ⟨t, run, taken, frame⟩ := answers_setpoint_idle w target stop ok done mode
    exact ⟨t, run, taken, frame.cellsBut.get (by decide) _, frame.mono (by decide)⟩
  case command =>
    rintro w r target stop s ok done mode rfl ready
    obtain ⟨t, run, tiles, accepted, frame⟩ := answers_setpoint_command w target ok done ready
    obtain ⟨taken, ramps, -⟩ := tiles _ (s.leadTile_mem_tilesOf r)
    obtain ⟨tgt, ramp, ramping⟩ := ramps mode
    obtain ⟨-, -, events⟩ := tiles _ (s.home_mem_tilesOf r)
    exact ⟨t, run, taken, tgt.trans (Nat.mod_eq_of_lt target.isLt), ramp, ramping, accepted, events, frame.mono (by decide)⟩
  case refused =>
    intro w r target stop s bad
    obtain ⟨t, run, mark, entry, frame⟩ := answers_setpoint_refused w target stop bad
    exact ⟨t, run, mark, frame.cellsBut.get (by decide) _, entry, frame⟩
  case new =>
    intro w r law s known new idle
    exact answers_lawSelect_new w known new idle
  case reserved =>
    intro w r law s h0 h1 h2 h3
    exact answers_lawSelect_reserved w h0 h1 h2 h3
  case copiedQuiet =>
    intro r s busy quiet idle
    have kept := State.lawCopyDone_quiet quiet idle
    refine ⟨_, exec_lawCopyDone_busy busy, ?_, ?_, fun p hp => ?_⟩
    · exact (kept.get (by decide) _).trans (State.loadedId_lawCopied (s.home_mem_tilesOf r))
    · rw [State.onAt, kept.getAt _ _ _ (by decide)]
      exact s.lawBusy_lawCopied r
    · rw [kept.get (by decide), kept.get (by decide), kept.getAt _ _ _ (by decide)]
      exact State.engines_lawCopied hp
  case copied =>
    intro r s busy
    exact ⟨_, exec_lawCopyDone_busy busy, _, rfl, State.loadedId_lawCopied (s.home_mem_tilesOf r), s.lawBusy_lawCopied r, rfl⟩

end Sys2Proof.Machine
end

section
/-!
# Statements of sequencing that fail

Each refutation evaluates the model on one concrete state and cites the value that contradicts the statement.
-/
namespace Sys2Proof.Machine

/-- What a command answers is the state that `exec` gives. -/
theorem Answers.of_exec {c : Instr} {s t : State} {P : State → Prop} (h : Answers c s P) (run : exec c s = .next t) : P t := by
  obtain ⟨u, answered, holds⟩ := h
  rw [run, Host.Outcome.next.injEq] at answered
  exact answered ▸ holds

/-! ## Watched rails (O19, O20, O22)

The three statements have every enable of a watched rail that is off, in RUN, on sound tiles and held by no diagnosis drive its EN and wait for PG.
The model fails such an enable first where a check of `State.enableFault` fails: while the rail's sense channel shows DIAG_FAIL, its home tile refuses
every enable of it (R155), and the rail stays off with RESULT = DIAG_FAIL. -/

/-- The device is in RUN. RAIL_0 is watched, homed on TILE_0 and off, and its sense channel 0 has failed its last diagnosis. -/
def watchedChannelFailed : State :=
  let s := (State.reset.put Reg.DEV_STATE.STATE 0 Dev.run).put Hid.BC_VERDICT 0 1
  let s := (s.put Reg.RAIL_SUP_CFG.KIND (railIx 0 0) 2).put Reg.RAIL_SNS.CHAN (railIx 0 0) 0
  s.raiseAt Reg.CHAN_STATE.DIAG_FAIL 0 0

/-- That state after ON for RAIL_0 from MC_0. -/
def watchedChannelFailedOn : State := watchedChannelFailed.railOn (originOf .mc0) (watchedChannelFailed.tagOf .mc0) 0 false

theorem exec_railOn_watchedChannelFailed : exec (.railOn .mc0 0 false) watchedChannelFailed = .next watchedChannelFailedOn := rfl

/-- What the statements ask of the rail before its enable. -/
theorem watchedChannelFailed_enableable : watchedChannelFailed.inSeq 0 = false ∧ watchedChannelFailed.enableAllowed 0 = true ∧
    watchedChannelFailed.rs 0 = Rs.off ∧ watchedChannelFailed.kindOf 0 = 2 ∧ watchedChannelFailed.diagHolds 0 = false := by decide +kernel

/-- The enable has ended: the rail is off, and RESULT says why. -/
theorem watchedChannelFailedOn_off : watchedChannelFailedOn.rs 0 = Rs.off ∧
    watchedChannelFailedOn.get Reg.RAIL_SUP_STATUS.RESULT (railIx 0 0) = EnRes.diagFail := by decide +kernel

/-- Refutes O19: ON for a watched rail whose sense channel has failed its diagnosis leaves the rail off with RESULT = DIAG_FAIL, where the first
clause has it ramping. -/
theorem not_railsOnAndOff : ¬ Obligations.RailsOnAndOff := by
  unfold Obligations.RailsOnAndOff
  rintro ⟨watchedOn, -⟩
  obtain ⟨free, allowed, off, watched, undiagnosed⟩ := watchedChannelFailed_enableable
  obtain ⟨ramping, -⟩ := (watchedOn .mc0 0 false watchedChannelFailed rfl free allowed off watched undiagnosed).of_exec
    exec_railOn_watchedChannelFailed
  exact absurd (ramping.symm.trans watchedChannelFailedOn_off.1) (by decide)

/-- In that state SEQ_0 runs, and the delay before its stage 0 is over. The stage has RAIL_0 and a lane part. -/
def watchedStageDue : State :=
  let s := (watchedChannelFailed.raise Reg.SEQ_STATUS.ACTIVE 0).put Hid.SEQ_STEP 0 SeqStep.delay
  (s.put Reg.SEQ_STG.RAILS_LO 0 1).raise Reg.SEQ_STG.LANE_EN 0

theorem exec_seqStageStart_watchedStageDue : exec (.seqStageStart none) watchedStageDue = .next watchedStageDue.stageStart := rfl

/-- What the statement asks of the sequencer, of the tiles' own orders and of the rail before the stage. -/
theorem watchedStageDue_starts : watchedStageDue.get Hid.SEQ_STEP 0 = SeqStep.delay ∧
    watchedStageDue.stageDelay watchedStageDue.seqNo (watchedStageDue.get Hid.SEQ_NEXT 0) ≤
      beatDiff watchedStageDue.beat (watchedStageDue.get Hid.SEQ_BEAT 0) ∧
    watchedStageDue.seqDown = false ∧
    watchedStageDue.onAt Reg.SEQ_STG.LANE_EN 0 (stgIx watchedStageDue.seqNo (watchedStageDue.get Hid.SEQ_NEXT 0)) = true ∧
    watchedStageDue.get Hid.SEQ_NEXT 0 < 16 ∧ watchedStageDue.get Hid.TSD_QUEUE 0 = 0 := by decide +kernel

theorem watchedStageDue_orders : watchedStageDue.get Hid.AK_STEP 0 = 0 ∧ watchedStageDue.get Hid.AK_STEP 1 = 0 ∧
    watchedStageDue.get Hid.AK_STEP 2 = 0 ∧ watchedStageDue.get Hid.AK_STEP 3 = 0 := by decide +kernel

theorem watchedStageDue_rail : 0 ∈ watchedStageDue.stageRails watchedStageDue.seqNo (watchedStageDue.get Hid.SEQ_NEXT 0) ∧
    watchedStageDue.rs 0 = Rs.off ∧ watchedStageDue.kindOf 0 = 2 ∧ watchedStageDue.enableAllowed 0 = true ∧
    watchedStageDue.diagHolds 0 = false := by decide +kernel

/-- The stage's enable has ended, and counts against the stage. -/
theorem stageStart_watchedStageDue_off : watchedStageDue.stageStart.rs 0 = Rs.off ∧ watchedStageDue.stageStart.on Hid.SEQ_BAD 0 = true := by
  decide +kernel

/-- Refutes O20: a stage with a watched rail whose sense channel has failed its diagnosis leaves the rail off, where the third clause has it
ramping. -/
theorem not_sequencesAndSnapshots : ¬ Obligations.SequencesAndSnapshots := by
  unfold Obligations.SequencesAndSnapshots
  rintro ⟨-, -, stage, -⟩
  obtain ⟨delayed, due, up, lane, inTable, unqueued⟩ := watchedStageDue_starts
  obtain ⟨member, off, watched, allowed, undiagnosed⟩ := watchedStageDue_rail
  obtain ⟨-, -, -, -, rails⟩ := (stage none watchedStageDue rfl delayed due up lane inTable unqueued watchedStageDue_orders).of_exec
    exec_seqStageStart_watchedStageDue
  obtain ⟨ramping, -⟩ := rails 0 member off watched allowed undiagnosed
  exact absurd (ramping.symm.trans stageStart_watchedStageDue_off.1) (by decide)

/-- A lane RAIL_ON for RAIL_0 with deadline 5. -/
def railOnDue : LaneDue := ⟨5, 1, .railOn 0⟩

/-- In that state the lane command has been accepted, and the worker's beat is 7. -/
def watchedDeadline : State := { watchedChannelFailed.put Hid.BEAT 0 7 with laneDue := [railOnDue] }

theorem exec_laneDeadline_watchedDeadline : exec .laneDeadline watchedDeadline = .next watchedDeadline.laneDeadline := rfl

theorem watchedDeadline_ripe : watchedDeadline.laneDue.find? (fun x => decide (beatDiff watchedDeadline.beat x.due < 2 ^ 39)) = some railOnDue := by
  decide +kernel

theorem watchedDeadline_rail : watchedDeadline.inSeq 0 = false ∧ watchedDeadline.enableAllowed 0 = true ∧ watchedDeadline.rs 0 = Rs.off ∧
    watchedDeadline.kindOf 0 = 2 ∧ watchedDeadline.diagHolds 0 = false := by decide +kernel

/-- The command has executed, and its enable has ended. -/
theorem laneDeadline_watchedDeadline_off : watchedDeadline.laneDeadline.rs 0 = Rs.off ∧ watchedDeadline.laneDeadline.laneDue = [] := by
  decide +kernel

/-- Refutes O22: a RAIL_ON whose deadline has come leaves a watched rail whose sense channel has failed its diagnosis off, where the last clause
has it ramping. -/
theorem not_laneWorker : ¬ Obligations.LaneWorker := by
  unfold Obligations.LaneWorker
  rintro ⟨-, -, -, -, -, -, -, -, -, -, -, -, -, -, -, -, -, -, -, -, railOn⟩
  obtain ⟨free, allowed, off, watched, undiagnosed⟩ := watchedDeadline_rail
  obtain ⟨-, ramping, -⟩ := (railOn railOnDue 0 watchedDeadline watchedDeadline_ripe rfl free allowed off watched undiagnosed).of_exec
    exec_laneDeadline_watchedDeadline
  exact absurd (ramping.symm.trans laneDeadline_watchedDeadline_off.1) (by decide)

/-! ## A lost worker (O21)

`Obligations.LaneMasterAndFaultWire` has LANE_REPLY_MISSING set the bit of WORKER_LOST below LN_GRANT for every grant below 16. WORKER_LOST has 7 bits,
one for each of the workers 1 to 7 (R183), so the clause fails for a grant above 7. A write of LN_GRANT, which is 3 bits wide, leaves no such
grant, but the statement asks for no state in which every cell fits its field. -/

/-- MC_0's frame was sent to worker 8, which the cell of LN_GRANT holds, and to it again as often as RETRY says. -/
def grantedWorker8 : State :=
  { State.reset with cells := [(Hid.LN_GRANT.key 0 0, 8), (Hid.LN_SENT.key 0 0, 1), (Hid.LN_TRIES.key 0 0, 3)] }

theorem exec_laneReplyMissing_grantedWorker8 : exec .laneReplyMissing grantedWorker8 = .next grantedWorker8.laneMissing := rfl

theorem grantedWorker8_awaits : grantedWorker8.get Hid.LN_GRANT 0 = 8 ∧
    grantedWorker8.get Reg.SQL_CFG.RETRY 0 ≤ grantedWorker8.get Hid.LN_TRIES 0 ∧ grantedWorker8.get Hid.LN_SENT 0 = 1 ∧
    grantedWorker8.get Hid.LN_STAGE 0 = 0 := by decide +kernel

/-- WORKER_LOST has no bit 7 to set. -/
theorem laneMissing_grantedWorker8_unmarked : grantedWorker8.laneMissing.bit Reg.SQL_STATUS.WORKER_LOST 0 7 = false := by decide +kernel

/-- Refutes O21: the worker that a grant of 8 names has no bit in WORKER_LOST, where the clause of LANE_REPLY_MISSING with the resends used up has
the bit set for every grant below 16. -/
theorem not_laneMasterAndFaultWire : ¬ Obligations.LaneMasterAndFaultWire := by
  unfold Obligations.LaneMasterAndFaultWire
  rintro ⟨-, -, -, -, -, -, -, -, -, -, -, -, -, usedUp, -⟩
  obtain ⟨grant, retries, sent, unstaged⟩ := grantedWorker8_awaits
  obtain ⟨marked, -⟩ := (usedUp grantedWorker8 (by omega) (by omega) retries sent unstaged).of_exec exec_laneReplyMissing_grantedWorker8
  rw [grant, laneMissing_grantedWorker8_unmarked] at marked
  exact absurd marked (by decide)

end Sys2Proof.Machine
end

section
/-!
# Statements of protection and thermal shutdown that fail

Each refutation evaluates the model on one concrete state and cites the value that contradicts the statement.
-/
namespace Sys2Proof.Machine
-- As in the tests: a proof that waits for an earlier one to be checked would hold a thread and its stack.
set_option Elab.async false

/-! ## A host SHED that meets a protection (O23)

`Obligations.ProtectionResponses` has every ACTIVE phase of a rail that an undervoltage turns off marked for its turn-off, MARK_MID = 3. The model marks
every such phase but one that a host SHED has marked before: it keeps that mark, so that it becomes SHED with cause HOST at its next leading edge (R62),
and goes OFF with its rail. -/

/-- RAIL_0 is regulated, homed on TILE_0, on with phase 0 ACTIVE, and its undervoltage has held for UV_DLY; UV_ACT is 1. -/
def undervolted : State :=
  let s := (State.reset.put Reg.RAIL_SUP_CFG.KIND (railIx 0 0) 1).put Reg.RAIL_SUP_STATUS.RSTATE (railIx 0 0) Rs.on
  let s := (s.put Reg.PH_CFG.RAIL 0 0).put Reg.PH_STATE.STATE 0 Ph.active
  (s.put Reg.RAIL_UV.UV_ACT (railIx 0 0) 1).put Hid.UV_N (railIx 0 0) 5000

/-- That state after MC_0's SHED of phase 0, which waits for the phase's next leading edge. -/
def undervoltedMarked : State := undervolted.hostShed .mc0 0 false

/-- That state after RAIL_UV_CONFIRM of RAIL_0. -/
def undervoltedConfirmed : State := undervoltedMarked.confirmAfter 0 1 Hid.UV_N
  (100 * max 1 (undervoltedMarked.get Reg.RAIL_UV.UV_DLY (undervoltedMarked.leadIx 0))) Ev.railUv Reg.RAIL_PROT_STATUS.UV_EVT
  (undervoltedMarked.get Reg.RAIL_UV.UV_ACT (undervoltedMarked.leadIx 0))

theorem exec_phShed_undervolted : exec (.phShed .mc0 0 false) undervolted = .next undervoltedMarked := rfl

theorem exec_railUvConfirm_undervoltedMarked : exec (.railUvConfirm 0) undervoltedMarked = .next undervoltedConfirmed := rfl

/-- What the statement asks of the rail and of its undervoltage. -/
theorem undervoltedMarked_confirms : undervoltedMarked.kindOf 0 = 1 ∧
    100 * max 1 (undervoltedMarked.get Reg.RAIL_UV.UV_DLY (undervoltedMarked.leadIx 0)) ≤
      undervoltedMarked.get Hid.UV_N (undervoltedMarked.leadIx 0) ∧
    undervoltedMarked.bit Hid.CONF (undervoltedMarked.leadIx 0) 1 = false ∧ undervoltedMarked.rs 0 = Rs.on ∧
    undervoltedMarked.enStep 0 = 0 ∧ undervoltedMarked.quiet = true ∧
    undervoltedMarked.get Reg.RAIL_UV.UV_ACT (undervoltedMarked.leadIx 0) = 1 := by decide +kernel

/-- Phase 0 belongs to the rail and is ACTIVE. -/
theorem undervoltedMarked_phase : 0 ∈ undervoltedMarked.phasesOf 0 ∧ undervoltedMarked.ph 0 = Ph.active := by decide +kernel

/-- The rail is stopping, and the phase keeps the mark of the host's SHED. -/
theorem undervoltedConfirmed_mark : undervoltedConfirmed.rs 0 = Rs.stopLo ∧ undervoltedConfirmed.get Hid.MARK_MID 0 = 2 := by decide +kernel

/-- Refutes O23: a phase that a host SHED has marked keeps that mark while an undervoltage turns its rail off, where the sixth clause has it marked
for the turn-off. The state is the answer to a SHED command. -/
theorem not_protectionResponses : ¬ Obligations.ProtectionResponses := by
  unfold Obligations.ProtectionResponses
  rintro ⟨-, -, -, -, -, undervoltage, -⟩
  obtain ⟨regulated, held, unconfirmed, on, idle, quiet, acts⟩ := undervoltedMarked_confirms
  obtain ⟨member, active⟩ := undervoltedMarked_phase
  obtain ⟨-, -, -, phases⟩ := (undervoltage 0 undervoltedMarked regulated held unconfirmed on idle quiet acts).of_exec
    exec_railUvConfirm_undervoltedMarked
  have marked := (phases 0 member).2 active
  rw [undervoltedConfirmed_mark.2] at marked
  exact absurd marked (by decide)

/-! ## TSD_CLR while a calibration runs (O24)

`Obligations.ThermalLevels` asks that the newest journal entry after a TSD_CLR that ends a latched shutdown is the command's own DONE entry. The restart is a
tile reset, and `State.tileEnds` completes the commands that ran on in the tile: each of them is journalled after that DONE entry. -/

/-- TILE_0 is in a latched thermal shutdown, at 0 °C. -/
def shutdownLatched : State := (State.reset.raise Hid.TSD_ON 0).raise Reg.TILE_THERM.TSD_LATCH 0

/-- That state after MC_0's SKEW_CAL of TILE_0: the calibration runs. -/
def latchedSkewRunning : State := shutdownLatched.skewCommand .mc0 0

/-- That state after MC_0's TSD_CLR of TILE_0. -/
def latchedCleared : State := latchedSkewRunning.tileTsdClr .mc0 0

theorem exec_skewCal_shutdownLatched : exec (.skewCal .mc0 0) shutdownLatched = .next latchedSkewRunning := rfl

theorem exec_tsdClr_latchedSkewRunning : exec (.tsdClr .mc0 0) latchedSkewRunning = .next latchedCleared :=
  congrArg Host.Outcome.next (if_pos (by decide))

/-- What the statement asks of the tile: it is cold, and its shutdown is latched. -/
theorem latchedSkewRunning_clears : latchedSkewRunning.getI Reg.TILE_THERM.TEMP 0 < 2160 ∧
    latchedSkewRunning.on Reg.TILE_THERM.TSD_LATCH 0 = true := by decide +kernel

/-- The shutdown has ended. In the journal, newest first, the end of the calibration stands before the DONE entry of TSD_CLR. -/
theorem latchedCleared_journal : latchedCleared.on Hid.TSD_ON 0 = false ∧ latchedCleared.jrnA.map (fun e => (e.kind, e.status)) =
    [(JKind.complete, JStatus.failed), (JKind.done, JStatus.ok), (JKind.accepted, JStatus.ok)] := by decide +kernel

/-- Refutes O24: a TSD_CLR of a tile whose skew calibration runs ends the calibration, so the newest entry is the calibration's COMPLETE with status failed
and not the DONE entry of TSD_CLR, which the seventh clause asks for. -/
theorem not_thermalLevels : ¬ Obligations.ThermalLevels := by
  unfold Obligations.ThermalLevels
  rintro ⟨-, -, -, -, -, -, clear, -⟩
  obtain ⟨cold, latched⟩ := latchedSkewRunning_clears
  obtain ⟨-, -, -, logged⟩ := (clear .mc0 0 latchedSkewRunning (by decide) cold latched).of_exec exec_tsdClr_latchedSkewRunning
  have newest := logged_kind_newest logged
  rw [latchedCleared_journal.2] at newest
  exact absurd newest (by decide)

end Sys2Proof.Machine
end

section
/-!
# What follows a claim keeps the role (R289 to R292)

A manager that has claimed ROLE resumes the management: it replays events, interrupts an update, may enter Kerb mode, and polls the sequencer. None of this
writes the fields that say who holds the role. `KeepsRole s t` says it of two states, and each operation that `State.resume` is made of keeps it.
-/
namespace Sys2Proof.Machine
-- As in the tests: a proof that waits for an earlier one to be checked would hold a thread and its stack.
set_option Elab.async false

/-- The fields that say who holds the role, since when, and whether a shadow may take it. -/
def roleFlds : List Fld := [Reg.REIN_STATUS.ACTIVE, Hid.ROLE_LOW, Reg.REIN_STATUS.EPOCH, Reg.REIN_STATUS.SHADOW_READY, Hid.TRIG, Hid.BEAT_HOLD,
  Reg.REIN_STATUS.TAKEOVER_EVT, Reg.REIN_COUNTS.TAKEOVER_COUNT]

/-- The field is none of those. -/
def Fld.roleFree (f : Fld) : Bool := !(roleFlds.map Fld.id).contains f.id

/-- The role stands in `t` as in `s`. -/
structure KeepsRole (s t : State) : Prop where
  getAt (f : Fld) (hf : f ∈ roleFlds) (i j : Nat) : t.getAt f i j = s.getAt f i j

section
variable {s₀ s t : State}

/-! ## Reading -/

theorem KeepsRole.refl (s : State) : KeepsRole s s := ⟨fun _ _ _ _ => rfl⟩

theorem KeepsRole.get (h : KeepsRole s t) {f : Fld} {i : Nat} (hf : f ∈ roleFlds := by decide) : t.get f i = s.get f i := h.getAt f hf i 0

theorem KeepsRole.on (h : KeepsRole s t) {f : Fld} {i : Nat} (hf : f ∈ roleFlds := by decide) : t.on f i = s.on f i := by
  rw [State.on, State.on, h.get hf]

theorem KeepsRole.active (h : KeepsRole s t) : t.active = s.active := by
  rw [State.active, State.active, State.isActive, State.isActive, State.isActive, State.isActive, h.on, h.on]

/-! ## The primitive operations -/

/-- Nothing but memories and records has changed. -/
theorem KeepsRole.same (h : KeepsRole s₀ s) (e : t.cells = s.cells := by rfl) : KeepsRole s₀ t :=
  ⟨fun f hf i j => by rw [← h.getAt f hf, State.getAt, State.getAt, e]⟩

theorem KeepsRole.putAt (h : KeepsRole s₀ s) {f : Fld} {i j v : Nat} (hf : f.roleFree = true := by decide) : KeepsRole s₀ (s.putAt f i j v) :=
  ⟨fun g hg i' j' => by
    rw [← h.getAt g hg]
    refine s.getAt_putAt_field f g i j i' j' v fun e => ?_
    have : f.roleFree = false := by simpa [Fld.roleFree, ← e] using ⟨g, hg, rfl⟩
    simp [hf] at this⟩

theorem KeepsRole.bumpAt (h : KeepsRole s₀ s) {f : Fld} {i j : Nat} (hf : f.roleFree = true := by decide) : KeepsRole s₀ (s.bumpAt f i j) := by
  unfold State.bumpAt
  split
  · exact h.putAt hf
  · exact h

theorem KeepsRole.ite {c : Prop} [Decidable c] (hs : KeepsRole s₀ s) (ht : KeepsRole s₀ t) : KeepsRole s₀ (if c then s else t) := by
  split
  · exact hs
  · exact ht

theorem KeepsRole.when {b : Bool} {g : State → State} (h : KeepsRole s₀ s) (hg : ∀ {s : State}, KeepsRole s₀ s → KeepsRole s₀ (g s)) :
    KeepsRole s₀ (s.when b g) := State.when_keeps h hg

theorem KeepsRole.over {α : Type} {l : List α} {g : State → α → State} (h : KeepsRole s₀ s)
    (hg : ∀ {s : State} {a}, KeepsRole s₀ s → KeepsRole s₀ (g s a)) : KeepsRole s₀ (s.over l g) := State.over_keeps h fun _ _ _ h => hg h

theorem KeepsRole.wrBytes (h : KeepsRole s₀ s) {a : Nat} {l : List Byte} : KeepsRole s₀ (s.wrBytes a l) := h.same (State.wrBytes_cells ..)

theorem KeepsRole.wrFe (h : KeepsRole s₀ s) {a : Nat} {l : List Byte} : KeepsRole s₀ (s.wrFe a l) := .wrBytes h.same

theorem KeepsRole.putRail (h : KeepsRole s₀ s) {f : Fld} {r v : Nat} (hf : f.roleFree = true := by decide) : KeepsRole s₀ (s.putRail f r v) :=
  .over h fun h => h.putAt hf

theorem KeepsRole.putLive (h : KeepsRole s₀ s) {f : Fld} {r v : Nat} (hf : f.roleFree = true := by decide) : KeepsRole s₀ (s.putLive f r v) :=
  .ite (h.putRail hf) (h.putAt hf)

theorem roleFree_clkF {u : Nat} {f g : Fld} (hf : f.roleFree = true) (hg : g.roleFree = true) : (clkF u f g).roleFree = true := by
  unfold clkF
  split
  · exact hf
  · exact hg
end

section
variable {s₀ s : State}

/-! ## The journal -/

theorem KeepsRole.journal (h : KeepsRole s₀ s) {origin kind tag status target code arg : Nat} :
    KeepsRole s₀ (s.journal origin kind tag status target code arg) := by
  unfold State.journal
  exact (h.same (t := s.jrnPush _)).putAt.putAt.putAt

theorem KeepsRole.accept (h : KeepsRole s₀ s) {kind : CmdKind} {origin tag target code arg : Nat} {started : Bool} :
    KeepsRole s₀ (s.accept kind origin tag target code arg started) := h.journal.same

theorem KeepsRole.complete (h : KeepsRole s₀ s) {kind : CmdKind} {status result : Nat} : KeepsRole s₀ (s.complete kind status result) := by
  unfold State.complete
  exact .over h.same fun h => h.journal

theorem KeepsRole.start (h : KeepsRole s₀ s) {kind : CmdKind} : KeepsRole s₀ (s.start kind) := h.same

/-! ## References -/

theorem KeepsRole.switchTo (h : KeepsRole s₀ s) {u m : Nat} : KeepsRole s₀ (s.switchTo u m) := by
  have free {f g : Fld} (hf : f.roleFree = true := by decide) (hg : g.roleFree = true := by decide) : (clkF u f g).roleFree = true :=
    roleFree_clkF hf hg
  exact ((((h.putAt free).putAt free).putAt free).bumpAt free).putAt free

theorem KeepsRole.refFollowRole (h : KeepsRole s₀ s) {m : Nat} : KeepsRole s₀ (s.refFollowRole m) := .over h fun h => .ite h.switchTo h

/-! ## Phases -/

theorem KeepsRole.railEventOn (h : KeepsRole s₀ s) {t r b : Nat} : KeepsRole s₀ (s.railEventOn t r b) := .over h fun h => h.putAt

theorem KeepsRole.toMid (h : KeepsRole s₀ s) {p : Nat} : KeepsRole s₀ (s.toMid p) := by
  unfold State.toMid
  exact .putAt (.putAt (.putAt (.putAt (.putAt (.when h fun h => h.putAt)))))

theorem KeepsRole.stageCheck (h : KeepsRole s₀ s) {p : Nat} : KeepsRole s₀ (s.stageCheck p) := by
  unfold State.stageCheck
  exact .ite h.putAt h

theorem KeepsRole.engineStop (h : KeepsRole s₀ s) {p : Nat} : KeepsRole s₀ (s.engineStop p) := by
  unfold State.engineStop
  exact h.putAt.putAt.putAt.putAt.putAt.putAt.putAt

theorem KeepsRole.bankTo (h : KeepsRole s₀ s) {p b : Nat} : KeepsRole s₀ (s.bankTo p b) := .ite h h.putAt.putAt.putAt

/-- The ports of an engine and what its law carries. -/
theorem KeepsRole.clearPorts (h : KeepsRole s₀ s) {g : Fld → Nat} : KeepsRole s₀ (s.over (engPortFlds ++ lawFlds) fun s f => s.clr f (g f)) :=
  State.over_keeps h fun _ f hf h => h.putAt ((by decide : ∀ f ∈ engPortFlds ++ lawFlds, f.roleFree = true) f hf)

theorem KeepsRole.engineStart (h : KeepsRole s₀ s) {p : Nat} : KeepsRole s₀ (s.engineStart p) := by
  unfold State.engineStart
  refine .ite h ?_
  extract_lets x s1 s2 s3 s4 s5 s6 s7 s8
  have registers : KeepsRole s₀ s1 := .over h fun h => h.putAt
  have flags : KeepsRole s₀ s3 := registers.putAt.putAt.putAt.putAt.putAt.putAt
  have staged : KeepsRole s₀ s4 := .over flags fun h => h.putAt
  have cleared : KeepsRole s₀ s6 := staged.putAt.putAt.putAt.putAt.putAt.putAt.putAt.putAt
  exact cleared.clearPorts.bankTo.putAt.putAt.putAt

theorem KeepsRole.toOff (h : KeepsRole s₀ s) {p : Nat} : KeepsRole s₀ (s.toOff p) := by
  unfold State.toOff
  exact h.engineStop.putAt.putAt.putAt.putAt.putAt.putAt.putAt.putAt.putAt.putAt.putAt.putAt.stageCheck

theorem KeepsRole.toProbe (h : KeepsRole s₀ s) {p : Nat} : KeepsRole s₀ (s.toProbe p) :=
  .ite h.toMid.putAt.putAt.engineStart h.toMid.putAt.putAt

/-! ## Captures, snapshots and FLT_N -/

theorem KeepsRole.capTrigger (h : KeepsRole s₀ s) {t kind : Nat} : KeepsRole s₀ (s.capTrigger t kind) := .ite h.putAt.putAt.putAt h

theorem KeepsRole.snapTrigger (h : KeepsRole s₀ s) {cause rail : Nat} : KeepsRole s₀ (s.snapTrigger cause rail) :=
  .ite h (.ite (.bumpAt h.putAt) (.over h.putAt.putAt.putAt.putAt.putAt fun h => h.capTrigger))

theorem KeepsRole.fltAssert (h : KeepsRole s₀ s) {cls : Nat} : KeepsRole s₀ (s.fltAssert cls) := .ite h.putAt.putAt h

/-! ## Enables -/

theorem KeepsRole.enFail (h : KeepsRole s₀ s) {r res : Nat} : KeepsRole s₀ (s.enFail r res) := by
  unfold State.enFail
  exact .fltAssert (.snapTrigger (.putAt (.when h fun h => h.journal)))

theorem KeepsRole.enableEnd (h : KeepsRole s₀ s) {r res : Nat} : KeepsRole s₀ (s.enableEnd r res) := by
  unfold State.enableEnd
  exact .complete (.when (.putAt (.putAt (.when h.putAt fun h => h.putAt))) fun h => h.enFail)

theorem KeepsRole.phasesOff (h : KeepsRole s₀ s) {r : Nat} : KeepsRole s₀ (s.phasesOff r) := .over h fun h => .ite h h.toOff

theorem KeepsRole.enableAbort (h : KeepsRole s₀ s) {r res : Nat} : KeepsRole s₀ (s.enableAbort r res) := by
  unfold State.enableAbort
  exact .enableEnd (.putLive (.phasesOff h.putAt))

theorem KeepsRole.enableNext (h : KeepsRole s₀ s) {r : Nat} : KeepsRole s₀ (s.enableNext r) := by
  unfold State.enableNext
  refine .ite h.putAt (.ite h.putAt ?_)
  split
  · exact h.enableAbort
  · exact .ite (.putAt (.putAt (.putLive h.putAt))) (.over h.putAt.putAt.putAt.putAt.putAt fun h => h.toProbe)

theorem KeepsRole.enableReady (h : KeepsRole s₀ s) {r : Nat} : KeepsRole s₀ (s.enableReady r) := .ite h.start.enableNext h

theorem KeepsRole.nameStart (h : KeepsRole s₀ s) {r : Nat} : KeepsRole s₀ (s.nameStart r) := .over h fun h => h.putAt

theorem KeepsRole.enableStart (h : KeepsRole s₀ s) {r : Nat} {bySeq : Bool} : KeepsRole s₀ (s.enableStart r bySeq) := by
  unfold State.enableStart
  extract_lets s1 s2
  have h1 : KeepsRole s₀ s1 := .putRail h.putAt.putAt
  have h2 : KeepsRole s₀ s2 := .nameStart (.putAt (.putLive h1))
  exact .ite (.enableNext (.putLive h1)) (.ite h2.enableReady h2)

/-! ## Turning off -/

theorem KeepsRole.spHold (h : KeepsRole s₀ s) {r : Nat} : KeepsRole s₀ (s.spHold r) := .over h fun h => h.putAt.putAt.putAt.putAt

theorem KeepsRole.spCancel (h : KeepsRole s₀ s) {r : Nat} : KeepsRole s₀ (s.spCancel r) := by
  unfold State.spCancel
  exact .spHold (.over h fun h => h.complete)

theorem KeepsRole.cancelPulses (h : KeepsRole s₀ s) {t r : Nat} : KeepsRole s₀ (s.cancelPulses t r) := .over h fun h => h.putAt

theorem KeepsRole.fcExpire (h : KeepsRole s₀ s) {t r : Nat} : KeepsRole s₀ (s.fcExpire t r) := by
  unfold State.fcExpire
  exact .ite (.putAt (.putAt (.putAt (.bumpAt h.railEventOn)))) h

theorem KeepsRole.stopRegulated (h : KeepsRole s₀ s) {r : Nat} : KeepsRole s₀ (s.stopRegulated r) := by
  unfold State.stopRegulated
  exact .over (.spCancel (.over h fun h => .cancelPulses (.fcExpire (.putAt h.railEventOn)))) fun h => .when h fun h => h.putAt

theorem KeepsRole.stopBegin (h : KeepsRole s₀ s) {r tmo : Nat} {bySeq : Bool} : KeepsRole s₀ (s.stopBegin r tmo bySeq) := by
  unfold State.stopBegin
  exact .putAt (.putAt (.putAt (.putAt (.putAt (.putLive (.putLive (.putLive (.ite h.putAt h.stopRegulated))))))))

theorem KeepsRole.railStop (h : KeepsRole s₀ s) {r tmo : Nat} {bySeq : Bool} : KeepsRole s₀ (s.railStop r tmo bySeq) :=
  .ite h (.ite (.when h fun h => h.putAt.putAt) (.ite h.enableAbort (.stopBegin (.when h fun h => h.enableEnd))))

/-! ## The sequencer -/

theorem KeepsRole.seqEnd (h : KeepsRole s₀ s) {res : Nat} : KeepsRole s₀ (s.seqEnd res) := by
  unfold State.seqEnd
  exact .complete h.putAt.putAt.putAt.putAt.putAt.putAt.putAt.putAt.putAt.putAt

theorem KeepsRole.unwindFrom (h : KeepsRole s₀ s) {k : Nat} : KeepsRole s₀ (s.unwindFrom k) := by
  unfold State.unwindFrom
  split
  · exact h.seqEnd
  · exact .over h.putAt.putAt.putAt.putAt.putAt fun h => h.railStop

theorem KeepsRole.unwindPoll {n : Nat} : ∀ {s : State}, KeepsRole s₀ s → KeepsRole s₀ (State.unwindPoll n s) := by
  induction n with
  | zero => exact id
  | succ n ih => exact fun h => .ite (ih h.unwindFrom) h

theorem KeepsRole.seqFail (h : KeepsRole s₀ s) {res : Nat} : KeepsRole s₀ (s.seqFail res) :=
  .ite h (.ite (.unwindPoll (.unwindFrom h.putAt.putAt)) h.seqEnd)

theorem KeepsRole.stageEnd (h : KeepsRole s₀ s) : KeepsRole s₀ s.stageEnd := by
  unfold State.stageEnd
  extract_lets k s1 s2
  have h1 : KeepsRole s₀ s1 := .over h fun h => h.putAt
  have h2 : KeepsRole s₀ s2 := h1.putAt
  exact .ite h2.putAt.putAt.putAt h2.seqEnd

theorem KeepsRole.localPoll (h : KeepsRole s₀ s) {t : Nat} : KeepsRole s₀ (s.localPoll t) :=
  .ite (.ite h.putAt.putAt.putAt h.putAt) h

theorem KeepsRole.restartPoll {n : Nat} : ∀ {s : State}, KeepsRole s₀ s → KeepsRole s₀ (State.restartPoll n s) := by
  induction n with
  | zero => exact id
  | succ n ih =>
    intro s h
    unfold State.restartPoll
    refine .ite h ?_
    split
    · exact h.putAt
    case h_2 r _ =>
      have turn : KeepsRole s₀ ((s.putBit Hid.TSD_QUEUE 0 r false).put Hid.TSD_CUR 0 r) := h.putAt.putAt
      exact ih (.ite turn (.ite turn.enableStart turn.putAt))

theorem KeepsRole.seqWait (h : KeepsRole s₀ s) : KeepsRole s₀ s.seqWait := by
  unfold State.seqWait
  exact .ite h.unwindPoll (.ite h (.ite (.ite h.stageEnd h) (.ite (.ite h.seqFail h.stageEnd) h)))

theorem KeepsRole.seqPoll (h : KeepsRole s₀ s) : KeepsRole s₀ s.seqPoll := .restartPoll (.over h.seqWait fun h => h.localPoll)

theorem KeepsRole.seqBegin (h : KeepsRole s₀ s) {q : Nat} : KeepsRole s₀ (s.seqBegin q) := by
  unfold State.seqBegin
  extract_lets s1 s2 s3 s4
  have begun : KeepsRole s₀ s4 := h.putAt.putAt.putAt.putAt.putAt.putAt.putAt.putAt.putAt.putAt.putAt.putAt
  exact .ite begun.seqEnd begun

theorem KeepsRole.seqAbort (h : KeepsRole s₀ s) : KeepsRole s₀ s.seqAbort := by
  unfold State.seqAbort
  exact .over h.seqEnd fun h => h.railStop

theorem KeepsRole.seqReplace (h : KeepsRole s₀ s) {q : Nat} : KeepsRole s₀ (s.seqReplace q) := by
  unfold State.seqReplace
  exact .seqBegin (.accept (.ite (.ite h.seqEnd h.seqAbort) h))

/-! ## Kerb mode -/

theorem KeepsRole.kerbEnter (h : KeepsRole s₀ s) {c : Nat} : KeepsRole s₀ (s.kerbEnter c) := by
  unfold State.kerbEnter
  extract_lets s1 s2 s3 s4
  have entered : KeepsRole s₀ s2 := .snapTrigger (.bumpAt h.putAt.putAt.putAt)
  have halted : KeepsRole s₀ s4 := .putAt (.putAt (.fltAssert entered.journal))
  refine .ite h.putAt (.ite h ?_)
  split
  · exact halted.seqReplace
  · exact .ite halted.seqAbort halted

/-! ## The event controller -/

theorem KeepsRole.trace (h : KeepsRole s₀ s) {m c typ low w1 : Nat} : KeepsRole s₀ (s.trace m c typ low w1) :=
  .ite h (.ite h.bumpAt (.when h.wrBytes.putAt fun h => h.putAt))

theorem KeepsRole.ringWrite (h : KeepsRole s₀ s) {base size : Nat} {r : EvRec} : KeepsRole s₀ (s.ringWrite base size r) :=
  .over h fun h => .over h fun h => h.wrBytes

theorem KeepsRole.setQueue (h : KeepsRole s₀ s) {q : EvQueue} {l : List EvRec} : KeepsRole s₀ (s.setQueue q l) := by
  cases q with
  | main => exact h.same
  | safe => exact h.same
  | host => exact h.same

theorem KeepsRole.qPut (h : KeepsRole s₀ s) {q : EvQueue} {r : EvRec} : KeepsRole s₀ (s.qPut q r) := by
  cases q with
  | main => exact h.setQueue.ringWrite.putAt
  | safe => exact h.setQueue.ringWrite.putAt
  | host => exact h.same

theorem KeepsRole.qLose (h : KeepsRole s₀ s) {q : EvQueue} {beat : Nat} : KeepsRole s₀ (s.qLose q beat) := by
  unfold State.qLose
  split
  · refine .ite ?_ (.ite (.putAt (.qPut h.putAt)) h)
    cases q with
    | main => exact h.setQueue.ringWrite
    | safe => exact h.setQueue.ringWrite
    | host => exact h.setQueue
  · exact h

theorem KeepsRole.hostCopy (h : KeepsRole s₀ s) {r : EvRec} : KeepsRole s₀ (s.hostCopy r) := .ite h.qPut h.qLose

theorem KeepsRole.foldEnds (h : KeepsRole s₀ s) {k beat sub : Nat} : KeepsRole s₀ (s.foldEnds k beat sub) := by
  refine .when h fun {s} h => ?_
  unfold State.foldClose
  split
  · exact h
  · exact .when h.same fun h => h.hostCopy

theorem KeepsRole.foldJoin (h : KeepsRole s₀ s) {r : EvRec} {n beat sub : Nat} : KeepsRole s₀ (s.foldJoin r n beat sub) := by
  unfold State.foldJoin
  exact .putAt (.putAt (.ringWrite h.same))

theorem KeepsRole.noRoom (h : KeepsRole s₀ s) {q : EvQueue} {n beat sub : Nat} : KeepsRole s₀ (s.noRoom q n beat sub) :=
  .ite (.ite h (.qLose h.putAt.putAt.putAt)) h.qLose

theorem KeepsRole.record (h : KeepsRole s₀ s) {n beat sub count : Nat} {again late takeover : Bool} :
    KeepsRole s₀ (s.record n beat sub count again late takeover) := by
  unfold State.record
  extract_lets cls k folds s1
  have h1 : KeepsRole s₀ s1 := .when h fun h => h.foldEnds
  split
  · exact h1.foldJoin
  · exact .ite h1.noRoom (.when (.when (.putAt (.putAt (.qPut h1.putAt))) fun h => h.same) fun h => h.hostCopy)

theorem KeepsRole.wakeCores (h : KeepsRole s₀ s) {n : Nat} : KeepsRole s₀ (s.wakeCores n) := by
  unfold State.wakeCores
  exact .when (.over h fun h => .trace h.putAt.putAt) fun h => .trace h.putAt

theorem KeepsRole.countEdge (h : KeepsRole s₀ s) {n beat sub : Nat} : KeepsRole s₀ (s.countEdge n beat sub) := by
  unfold State.countEdge
  exact .bumpAt (.when h fun h => h.putAt.putAt)

theorem KeepsRole.occur (h : KeepsRole s₀ s) {n beat sub : Nat} {takeover : Bool} : KeepsRole s₀ (s.occur n beat sub takeover) :=
  .ite h (.ite (.ite h.wakeCores h.wakeCores.countEdge) h.wakeCores.record)

theorem KeepsRole.lineSet (h : KeepsRole s₀ s) {n : Nat} {v : Bool} {detail beat sub : Nat} {takeover : Bool} :
    KeepsRole s₀ (s.lineSet n v detail beat sub takeover) := by
  unfold State.lineSet
  exact .ite (.occur h.putAt.putAt) h.putAt.putAt

theorem KeepsRole.eventReplay (h : KeepsRole s₀ s) : KeepsRole s₀ s.eventReplay := by
  unfold State.eventReplay
  exact .over (.over h.same fun h => h.lineSet) fun h => .record h.putAt

/-! ## The update engine -/

theorem KeepsRole.flashCut (h : KeepsRole s₀ s) : KeepsRole s₀ s.flashCut := .when h fun h => .wrBytes h.same

theorem KeepsRole.updTo (h : KeepsRole s₀ s) {st : Nat} : KeepsRole s₀ (s.updTo st) :=
  .over (.ite h h.putAt.putAt) fun h => h.wrFe

theorem KeepsRole.updComplete (h : KeepsRole s₀ s) {k st arg : Nat} : KeepsRole s₀ (s.updComplete k st arg) := by
  unfold State.updComplete
  exact .complete (.when h fun h => h.putAt)

theorem KeepsRole.updInterrupt (h : KeepsRole s₀ s) : KeepsRole s₀ s.updInterrupt := by
  unfold State.updInterrupt
  extract_lets s1 s2
  have completed : KeepsRole s₀ s2 := .over (l := [3, 4, 5, 6]) h.flashCut fun h => h.updComplete
  exact .when (.when completed.putAt.putAt.putAt.putAt.putAt fun h => h.putAt) fun h => h.updTo

/-! ## The claim's sequel -/

/-- A manager that resumes the management leaves the role as it is. -/
theorem KeepsRole.resume (h : KeepsRole s₀ s) {m : Nat} : KeepsRole s₀ (s.resume m) := by
  unfold State.resume
  extract_lets s1 s2 s3 s4 s5 s6
  have awake : KeepsRole s₀ s2 := .putAt (.over h.refFollowRole fun h => h.putAt)
  have replayed : KeepsRole s₀ s3 := .eventReplay (.putAt (.updInterrupt (.putAt (.putAt awake.complete))))
  have entered : KeepsRole s₀ s5 := .when (.over replayed fun h => h.capTrigger) fun h => h.kerbEnter
  exact entered.putAt.putAt.putAt.seqPoll
end

end Sys2Proof.Machine
end

section
/-!
# Heartbeats, the deadman and the role (R288 to R291)

Each operation of the managers has its frame, what it makes true, and an equation for each of its cases; the obligation is put together from these.
-/
namespace Sys2Proof.Machine
-- As in the tests: a proof that waits for an earlier one to be checked would hold a thread and its stack.
set_option Elab.async false

/-! ## The two managers -/

theorem peer_ne (m : Nat) : peer m ≠ m := by
  unfold peer
  omega

theorem peer_peer {m : Nat} (h : m < 2) : peer (peer m) = m := by
  unfold peer
  omega

section
variable {s : State}

theorem State.act_lt (s : State) : s.act < 2 := by
  unfold State.act State.active
  split
  · decide
  · split <;> decide

theorem State.reach_lt (s : State) (w : Who) (m : Mgr) : s.reach w m < 2 := by
  cases w
  case host | svc => exact s.act_lt
  all_goals exact m.isLt

/-- A manager is MGR_A or MGR_B, and its peer the other one. -/
theorem mgr_cases {m : Nat} (h : m < 2) : (m = 0 ∧ peer m = 1) ∨ (m = 1 ∧ peer m = 0) := by
  unfold peer
  omega

theorem State.active_of_sole {m : Nat} (h : m < 2) (hm : s.isActive m = true) (hp : s.isActive (peer m) = false) : s.active = some m := by
  obtain ⟨rfl, e⟩ | ⟨rfl, e⟩ := mgr_cases h
  · simp [State.active, hm]
  · rw [e] at hp
    simp [State.active, hm, hp]

theorem State.active_isSome {m : Nat} (h : m < 2) (hm : s.isActive m = true) : s.active.isNone = false := by
  obtain ⟨rfl, -⟩ | ⟨rfl, -⟩ := mgr_cases h
  · simp [State.active, hm]
  · simp only [State.active, hm, if_true]
    split <;> rfl

end

/-! ## Frames -/

section
variable {s t : State} {l : List Fld}

theorem State.bumpAt_cellsBut (s : State) (f : Fld) (i j : Nat) : CellsBut [f] s (s.bumpAt f i j) :=
  ⟨fun g i' j' hg => s.getAt_bumpAt_field f g i j i' j' fun e => hg (by simp [e])⟩

theorem State.bumpAt_onlyFields (s : State) (f : Fld) (i j : Nat) : OnlyFields [f] s (s.bumpAt f i j) := by
  refine ⟨?_, (s.bumpAt_cellsBut f i j).getAt⟩
  unfold State.bumpAt
  split <;> rfl

theorem CellsBut.bumpAt (h : CellsBut l s t) {f : Fld} {i j : Nat} (hf : [f].map Fld.id ⊆ l.map Fld.id := by decide) :
    CellsBut l s (t.bumpAt f i j) := h.andThen (t.bumpAt_cellsBut f i j) hf

theorem OnlyFields.bumpAt (h : OnlyFields l s t) {f : Fld} {i j : Nat} (hf : [f].map Fld.id ⊆ l.map Fld.id := by decide) :
    OnlyFields l s (t.bumpAt f i j) := h.andThen (t.bumpAt_onlyFields f i j) hf

theorem CellsBut.when {b : Bool} {g : State → State} (h : CellsBut l s t) (hg : ∀ {u}, CellsBut l s u → CellsBut l s (g u)) :
    CellsBut l s (t.when b g) := State.when_keeps h hg

theorem OnlyFields.when {b : Bool} {g : State → State} (h : OnlyFields l s t) (hg : ∀ {u}, OnlyFields l s u → OnlyFields l s (g u)) :
    OnlyFields l s (t.when b g) := State.when_keeps h hg

theorem OnlyFields.ite {u : State} {c : Prop} [Decidable c] (ht : OnlyFields l s t) (hu : OnlyFields l s u) :
    OnlyFields l s (if c then t else u) := by
  split
  · exact ht
  · exact hu

theorem CellsBut.ite {u : State} {c : Prop} [Decidable c] (ht : CellsBut l s t) (hu : CellsBut l s u) :
    CellsBut l s (if c then t else u) := by
  split
  · exact ht
  · exact hu

theorem CellsBut.on (h : CellsBut l s t) {f : Fld} {i : Nat} (hf : f.id ∉ l.map Fld.id := by decide) : t.on f i = s.on f i := by
  rw [State.on, State.on, h.get hf]

theorem CellsBut.isActive (h : CellsBut l s t) (hl : Reg.REIN_STATUS.ACTIVE.id ∉ l.map Fld.id := by decide) (k : Nat) : t.isActive k = s.isActive k :=
  h.on hl

theorem CellsBut.bumped (h : CellsBut l s t) {f : Fld} {i : Nat} (hf : f.id ∉ l.map Fld.id := by decide) : t.bumped f i = s.bumped f i := by
  rw [State.bumped, State.bumped, h.get hf]

theorem OnlyCells.refl (k : List (Fld × Nat × Nat)) (s : State) : OnlyCells k s s := ⟨rfl, fun _ _ _ _ => rfl⟩

/-- One more cell is written, which is among those named. -/
theorem OnlyCells.putAt {k : List (Fld × Nat × Nat)} (h : OnlyCells k s t) {f : Fld} {i j v : Nat} (hf : (f, i, j) ∈ k) :
    OnlyCells k s (t.putAt f i j v) := by
  refine ⟨h.1, fun g i' j' hg => (t.getAt_putAt_key v fun e => hg ?_).trans (h.2 g i' j' hg)⟩
  rw [e]
  exact List.mem_map.mpr ⟨_, hf, rfl⟩

end

/-- A counter goes up by one and stays at all ones (R6). -/
theorem State.get_bumpAt_same (s : State) (f : Fld) (i : Nat) : (s.bumpAt f i 0).get f i = s.bumped f i := s.getAt_bumpAt_same f i 0

/-! ## Sending -/

section
variable {s : State} {m : Nat}

/-- The fields that a heartbeat's sender writes. -/
def hbSendFlds : List Fld := [Hid.ROLE_WAIT, Hid.HB_SENT, Hid.HB_BEAT, Hid.HB_EPOCH, Hid.HB_ROLE, Hid.HB_REPOCH, Hid.HB_HEALTH, Hid.HB_SEQ]

theorem State.heartbeatSend_absent (h : s.on Hid.PRESENT m = false) : s.heartbeatSend m = s := by
  simp only [State.heartbeatSend, h, Bool.not_false, if_true]

theorem State.heartbeatSend_onlyFields (s : State) (m : Nat) : OnlyFields hbSendFlds s (s.heartbeatSend m) := by
  unfold State.heartbeatSend
  exact .ite (.refl _ s) (OnlyFields.refl _ s).putAt.putAt.putAt.putAt.putAt.putAt.putAt.putAt

/-- The heartbeat of manager `m` of state `s` is on its way in `t`: beat, epoch, role, role epoch and sequence count; the deadman is armed again. -/
def State.Sends (s : State) (m : Nat) (t : State) : Prop :=
  t.on Hid.HB_SENT m = true ∧ t.get Hid.HB_BEAT m = s.get Hid.BEAT m % 2 ^ 40 ∧ t.get Hid.HB_EPOCH m = s.get Hid.EPOCH m % 2 ^ 16 ∧
    t.on Hid.HB_ROLE m = s.isActive m ∧ t.get Hid.HB_REPOCH m = s.get Reg.REIN_STATUS.EPOCH m % 2 ^ 8 ∧
    t.get Hid.HB_SEQ m = (s.get Hid.HB_SEQ m + 1) % 2 ^ 8 ∧ t.get Hid.ROLE_WAIT m = 0

theorem State.sends_heartbeatSend (h : s.on Hid.PRESENT m = true) : s.Sends m (s.heartbeatSend m) := by
  simp only [State.Sends, State.heartbeatSend, h, Bool.not_true, Bool.false_eq_true, if_false]
  simp (disch := decide) only [State.on, State.isActive, State.get_eq, State.put_eq, State.clr_eq, State.raise_eq, State.putB_eq,
    State.getAt_putAt_field, State.getAt_putAt_same]
  refine ⟨rfl, rfl, rfl, ?_, rfl, rfl, rfl⟩
  by_cases active : s.getAt Reg.REIN_STATUS.ACTIVE m 0 = 0
  · simp [active]
  · simp [active, Hid.HB_ROLE]

/-- What leaves the sender's fields alone leaves the heartbeat on its way. -/
theorem State.Sends.of_cellsBut {t u : State} {l : List Fld} (h : s.Sends m t) (e : CellsBut l t u)
    (hl : ∀ f ∈ hbSendFlds, f.id ∉ l.map Fld.id := by decide) : s.Sends m u := by
  simp only [hbSendFlds, List.forall_mem_cons] at hl
  obtain ⟨wait, sent, beat, epoch, role, repoch, -, seq, -⟩ := hl
  simpa only [State.Sends, e.on sent, e.get beat, e.get epoch, e.on role, e.get repoch, e.get seq, e.get wait] using h

/-! The authentication that begins again (R249). -/

theorem State.authBegin_starts (idle : s.on Hid.AUTH_RUN 0 = false) (pack : s.on Reg.CHG_STATUS.BAT_PRESENT 0 = true)
    (asked : s.on Reg.PACK_CFG.AUTH_REQ 0 = true) (led : s.active.isNone = false) :
    s.authBegin = ((s.put Reg.PACK_STATUS.AUTH_STATE 0 Auth.pending).put Hid.AUTH_RUN 0 1).packSend 1 [] := by
  simp only [State.authBegin, idle, pack, asked, led, Bool.not_true, Bool.false_eq_true, if_false]

/-- The fields that a start of an authentication writes. -/
def authFlds : List Fld := [Hid.AUTH_Q, Reg.PACK_STATUS.AUTH_STATE, Hid.AUTH_RUN, Hid.PL_TX, Hid.AUTH_N]

theorem State.authBegin_onlyFields (s : State) : OnlyFields authFlds s s.authBegin := by
  have same := OnlyFields.refl authFlds s
  unfold State.authBegin
  exact .ite same.putAt (.ite same.putAt (.ite same.putAt (.ite same.putAt same.putAt.putAt.putAt.putAt)))

/-- The fields that the charger writes where a reason to suspend may have come or gone. -/
def chgEvalFlds : List Fld := [Reg.CHG_STATUS.PHASE, Hid.CHG_N, Hid.CHG_I, Reg.CHG_STATUS.CUTBACK, Reg.CHG_STATUS.HALF_RATE, Reg.CHG_COUNTS.ELAPSED,
  Reg.CHG_STATUS.SUSP]

theorem State.chgEval_onlyFields (s : State) : OnlyFields chgEvalFlds s s.chgEval := by
  have same := OnlyFields.refl chgEvalFlds s
  have phase (ph : Nat) : OnlyFields chgEvalFlds s (s.chgTo ph) := by
    unfold State.chgTo State.elapsedShow
    exact .when (OnlyFields.putAt (OnlyFields.putAt (OnlyFields.putAt same.putAt.putAt))) fun h => h.putAt
  unfold State.chgEval
  exact .ite (.ite (phase _).putAt (phase _)) (.ite (.ite same.putAt (phase _).putAt) same)

theorem answers_heartbeatSend {m : Mgr} (present : s.on Hid.PRESENT m = true)
    (h : s.isActive m = false ∨ s.get Reg.PACK_STATUS.AUTH_STATE 0 ≠ Auth.noManager) :
    Answers (.heartbeatSend m) s fun t => s.Sends m t ∧ OnlyFields hbSendFlds s t := by
  have frame := s.heartbeatSend_onlyFields m
  refine ⟨s.heartbeatSend m, congrArg Host.Outcome.next (if_neg ?_), State.sends_heartbeatSend present, frame⟩
  rw [frame.cellsBut.isActive, frame.cellsBut.get (by decide)]
  rcases h with h | h
  · simp only [h, Bool.false_and, Bool.false_eq_true, not_false_eq_true]
  · simp only [h, decide_false, Bool.and_false, Bool.false_eq_true, not_false_eq_true]

theorem answers_heartbeatSend_authenticates {m : Mgr} (present : s.on Hid.PRESENT m = true) (active : s.isActive m = true)
    (found : s.get Reg.PACK_STATUS.AUTH_STATE 0 = Auth.noManager) (pack : s.on Reg.CHG_STATUS.BAT_PRESENT 0 = true)
    (asked : s.on Reg.PACK_CFG.AUTH_REQ 0 = true) (idle : s.on Hid.AUTH_RUN 0 = false) :
    Answers (.heartbeatSend m) s fun t => s.Sends m t ∧ t.get Reg.PACK_STATUS.AUTH_STATE 0 = Auth.pending ∧ t.get Hid.AUTH_RUN 0 = 1 ∧
      OnlyFields (hbSendFlds ++ authFlds ++ chgEvalFlds) s t := by
  generalize ha : s.heartbeatSend m = a
  have send : OnlyFields hbSendFlds s a := ha ▸ s.heartbeatSend_onlyFields m
  have active' : a.isActive m = true := by rwa [send.cellsBut.isActive]
  have auth := a.authBegin_onlyFields
  have eval := a.authBegin.chgEval_onlyFields
  have begun : a.authBegin.get Reg.PACK_STATUS.AUTH_STATE 0 = Auth.pending ∧ a.authBegin.get Hid.AUTH_RUN 0 = 1 := by
    rw [State.authBegin_starts (by rwa [send.cellsBut.on]) (by rwa [send.cellsBut.on]) (by rwa [send.cellsBut.on])
      (State.active_isSome m.isLt active')]
    simp (disch := decide) only [State.packSend, State.get_eq, State.put_eq, State.clr_eq, State.getAt_putAt_field, State.getAt_putAt_same]
    exact ⟨rfl, rfl⟩
  refine ⟨a.authBegin.chgEval, ?_, ?_, ?_, ?_, ((send.mono (by decide)).andThen auth).andThen eval⟩
  · subst ha
    refine congrArg Host.Outcome.next (if_pos ?_)
    rw [active', send.cellsBut.get (by decide), found]
    rfl
  · exact ((ha ▸ State.sends_heartbeatSend present : s.Sends m a).of_cellsBut auth.cellsBut).of_cellsBut eval.cellsBut
  · rw [eval.cellsBut.get (by decide), begun.1]
  · rw [eval.cellsBut.get (by decide), begun.2]

theorem answers_heartbeatSend_absent {m : Mgr} (absent : s.on Hid.PRESENT m = false) (shadow : s.isActive m = false) :
    Answers (.heartbeatSend m) s fun t => t = s := by
  refine ⟨_, congrArg Host.Outcome.next (if_neg ?_), State.heartbeatSend_absent absent⟩
  simp only [State.heartbeatSend_absent absent, shadow, Bool.false_and, Bool.false_eq_true, not_false_eq_true]

end

/-! ## Receiving -/

section
variable {s : State} {m : Nat}

/-- What a heartbeat that arrives intact does to the manager's count of misses, whoever sent it. -/
def State.hears (s : State) (m : Nat) : State :=
  (((s.clr Hid.HB_SENT (peer m)).put Reg.REIN_STATUS.MISSES m 0).clr Reg.REIN_STATUS.PEER_LOST m).clr Hid.HB_WAIT m

/-- What a shadow takes from the active manager's heartbeat: its beat, the role's epoch, an explicit fault. -/
def State.follows (s : State) (m : Nat) : State :=
  ((s.beatAlign m (s.get Hid.HB_BEAT (peer m)) (s.get Hid.HB_EPOCH (peer m))).put Reg.REIN_STATUS.EPOCH m (s.get Hid.HB_REPOCH (peer m))).when
    (s.bit Hid.HB_HEALTH (peer m) 0) fun s => s.raise Hid.TRIG m

theorem State.hears_cellsBut (s : State) (m : Nat) :
    CellsBut [Hid.HB_SENT, Reg.REIN_STATUS.MISSES, Reg.REIN_STATUS.PEER_LOST, Hid.HB_WAIT] s (s.hears m) :=
  (CellsBut.refl _ s).putAt.putAt.putAt.putAt

theorem State.hears_makes (s : State) (m : Nat) :
    (s.hears m).get Reg.REIN_STATUS.MISSES m = 0 ∧ (s.hears m).get Reg.REIN_STATUS.PEER_LOST m = 0 ∧ (s.hears m).on Hid.HB_SENT (peer m) = false := by
  simp (disch := decide) only [State.hears, State.on, State.get_eq, State.put_eq, State.clr_eq, State.getAt_putAt_field, State.getAt_putAt_same]
  exact ⟨rfl, rfl, rfl⟩

theorem State.hears_isActive (s : State) (m k : Nat) : (s.hears m).isActive k = s.isActive k := (s.hears_cellsBut m).on

/-! The beat of a shadow (R34). -/

theorem State.beatAlign_cellsBut (s : State) (m b e : Nat) : CellsBut [Hid.BEAT, Hid.EPOCH, Hid.BEAT_HOLD] s (s.beatAlign m b e) := by
  have same := CellsBut.refl [Hid.BEAT, Hid.EPOCH, Hid.BEAT_HOLD] s
  unfold State.beatAlign
  exact .ite same.putAt.putAt.putAt (.ite same.putAt same.putAt)

theorem State.beatAlign_forward {b e : Nat} (h : s.get Hid.EPOCH m * 2 ^ 40 + s.get Hid.BEAT m < e * 2 ^ 40 + b) (hb : b < 2 ^ 40) (he : e < 2 ^ 16) :
    (s.beatAlign m b e).get Hid.BEAT m = b ∧ (s.beatAlign m b e).get Hid.EPOCH m = e := by
  have align : s.beatAlign m b e = ((s.put Hid.BEAT m b).put Hid.EPOCH m e).clr Hid.BEAT_HOLD m := if_pos h
  simp (disch := decide) only [align, State.get_eq, State.put_eq, State.clr_eq, State.getAt_putAt_field, State.getAt_putAt_same]
  exact ⟨Nat.mod_eq_of_lt hb, Nat.mod_eq_of_lt he⟩

theorem State.beatAlign_hold {b e : Nat} (h : e * 2 ^ 40 + b < s.get Hid.EPOCH m * 2 ^ 40 + s.get Hid.BEAT m) :
    (s.beatAlign m b e).on Hid.BEAT_HOLD m = true ∧ (s.beatAlign m b e).get Hid.BEAT m = s.get Hid.BEAT m := by
  have align : s.beatAlign m b e = s.raise Hid.BEAT_HOLD m := (if_neg (Nat.lt_asymm h)).trans (if_pos h)
  simp (disch := decide) only [align, State.on, State.get_eq, State.raise_eq, State.getAt_putAt_field, State.getAt_putAt_same]
  exact ⟨rfl, trivial⟩

/-- A trigger that a condition raises is all that is written. -/
theorem CellsBut.trigger (s : State) (b : Bool) (k : Nat) : CellsBut [Hid.TRIG] s (s.when b fun s => s.raise Hid.TRIG k) :=
  .when (.refl _ s) fun h => h.putAt

theorem State.trigger_on {b : Bool} (s : State) (k : Nat) (h : b = true) : (s.when b fun s => s.raise Hid.TRIG k).on Hid.TRIG k = true := by
  rw [h, State.when_true, State.on, State.raise_eq, State.get_eq, State.getAt_putAt_same]
  rfl

theorem State.follows_cellsBut (s : State) (m : Nat) :
    CellsBut [Hid.BEAT, Hid.EPOCH, Hid.BEAT_HOLD, Reg.REIN_STATUS.EPOCH, Hid.TRIG] s (s.follows m) := by
  have align := (s.beatAlign_cellsBut m (s.get Hid.HB_BEAT (peer m)) (s.get Hid.HB_EPOCH (peer m))).mono
    (l' := [Hid.BEAT, Hid.EPOCH, Hid.BEAT_HOLD, Reg.REIN_STATUS.EPOCH, Hid.TRIG]) (by decide)
  exact align.putAt.andThen (.trigger _ _ _)

/-- The beat of a shadow that follows is the aligned one. -/
theorem State.follows_align (s : State) (m : Nat) :
    CellsBut [Reg.REIN_STATUS.EPOCH, Hid.TRIG] (s.beatAlign m (s.get Hid.HB_BEAT (peer m)) (s.get Hid.HB_EPOCH (peer m))) (s.follows m) :=
  (CellsBut.refl _ _).putAt.andThen (.trigger _ _ _)

theorem State.follows_epoch (s : State) (m : Nat) : (s.follows m).get Reg.REIN_STATUS.EPOCH m = s.get Hid.HB_REPOCH (peer m) % 2 ^ 8 := by
  unfold State.follows
  rw [(CellsBut.trigger _ _ _).get (by decide)]
  exact State.getAt_putAt_same ..

theorem State.follows_trig (h : s.bit Hid.HB_HEALTH (peer m) 0 = true) : (s.follows m).on Hid.TRIG m = true :=
  State.trigger_on _ m h

/-! Two claims at once (R291). -/

theorem State.roleContest_sole (h : s.isActive 0 = false ∨ s.isActive 1 = false) : s.roleContest = s :=
  if_neg (by rcases h with h | h <;> simp [h])

theorem State.roleContest_of_inactive (hm : m < 2) (h : s.isActive m = false) : s.roleContest = s := by
  obtain ⟨rfl, -⟩ | ⟨rfl, -⟩ := mgr_cases hm
  · exact State.roleContest_sole (.inl h)
  · exact State.roleContest_sole (.inr h)

/-- The clock fields that a change of the reference writes. -/
def refFlds : List Fld := [Reg.TILE_CLK_STATUS.REF_SRC, Reg.HPD_CLK_STATUS.REF_SRC, Hid.FOLLOWED, Hid.FOLLOWED_H, Reg.TILE_CLK_STATUS.SWITCH_EVT,
  Reg.HPD_CLK_STATUS.SWITCH_EVT, Reg.TILE_CLK_STATUS.SWITCH_COUNT, Reg.HPD_CLK_STATUS.SWITCH_COUNT, Reg.TILE_CLK_STATUS.SETTLING,
  Reg.HPD_CLK_STATUS.SETTLING]

theorem State.switchTo_cellsBut (s : State) (u k : Nat) : CellsBut refFlds s (s.switchTo u k) := by
  have same := CellsBut.refl refFlds s
  by_cases tile : u < 4
  · simp only [State.switchTo, State.lockTo, clkF, if_pos tile]
    exact same.putAt.putAt.putAt.bumpAt.putAt
  · simp only [State.switchTo, State.lockTo, clkF, if_neg tile]
    exact same.putAt.putAt.putAt.bumpAt.putAt

theorem State.refFollowRole_cellsBut (s : State) (k : Nat) : CellsBut refFlds s (s.refFollowRole k) :=
  .over (fun t u => .ite (t.switchTo_cellsBut u k) (.refl _ t)) _ s

/-- MGR_B withdraws, and both managers count it. -/
def State.withdraws (s : State) : State :=
  (((s.roleRelease 1).raise Reg.REIN_STATUS.ROLE_CONTEST 1).bump Reg.REIN_COUNTS.CONTEST_COUNT 0).bump Reg.REIN_COUNTS.CONTEST_COUNT 1

theorem State.roleContest_both (a : s.isActive 0 = true) (b : s.isActive 1 = true) :
    s.roleContest = (s.withdraws.jAction JStatus.ok noTarget 544 0).refFollowRole 0 := if_pos (by rw [a, b]; rfl)

theorem State.roleContest_cellsBut (a : s.isActive 0 = true) (b : s.isActive 1 = true) :
    CellsBut (logFlds ++ refFlds) s.withdraws s.roleContest := by
  rw [State.roleContest_both a b]
  exact ((s.withdraws.journal_onlyFieldsLog ..).cellsBut.mono (by decide)).andThen (State.refFollowRole_cellsBut ..)

theorem State.withdraws_cellsBut (s : State) :
    CellsBut [Hid.ROLE_LOW, Reg.REIN_STATUS.ACTIVE, Reg.REIN_STATUS.ROLE_CONTEST, Reg.REIN_COUNTS.CONTEST_COUNT] s s.withdraws :=
  (CellsBut.refl _ s).putAt.putAt.putAt.bumpAt.bumpAt

theorem State.withdraws_makes (s : State) :
    s.withdraws.isActive 0 = s.isActive 0 ∧ s.withdraws.isActive 1 = false ∧ s.withdraws.on Hid.ROLE_LOW 1 = false ∧
      s.withdraws.on Reg.REIN_STATUS.ROLE_CONTEST 1 = true ∧
      s.withdraws.get Reg.REIN_COUNTS.CONTEST_COUNT 0 = s.bumped Reg.REIN_COUNTS.CONTEST_COUNT 0 := by
  have count : ∀ t : State, (t.bumpAt Reg.REIN_COUNTS.CONTEST_COUNT 1 0).get Reg.REIN_COUNTS.CONTEST_COUNT 0 = t.get Reg.REIN_COUNTS.CONTEST_COUNT 0 :=
    fun t => t.getAt_bumpAt_key (by decide)
  simp (disch := decide) only [State.withdraws, State.roleRelease, State.bump_eq, State.raise_eq, State.clr_eq, count, State.get_bumpAt_same]
  simp (disch := decide) only [State.isActive, State.on, State.bumped, State.get_eq, State.getAt_bumpAt_field, State.getAt_putAt_field,
    State.getAt_putAt_same, State.getAt_putAt_block]
  exact ⟨rfl, rfl, rfl, rfl, rfl⟩

/-! The heartbeat's cases. -/

theorem State.heartbeatReceive_ok (present : s.on Hid.PRESENT m = true) (sent : s.on Hid.HB_SENT (peer m) = true) :
    s.heartbeatReceive m true =
      ((s.hears m).when ((s.hears m).on Hid.HB_ROLE (peer m) && !(s.hears m).isActive m) fun s => s.follows m).roleContest := by
  simp only [State.heartbeatReceive, present, sent, Bool.not_true, Bool.or_self, Bool.false_eq_true, if_false]
  rfl

theorem answers_heartbeatReceive_heard {m : Mgr} {ok : Bool} (intact : ok = true) (present : s.on Hid.PRESENT m = true)
    (sent : s.on Hid.HB_SENT (peer m) = true) (shadow : s.isActive (peer m) = false) :
    Answers (.heartbeatReceive m ok) s fun t =>
      t.get Reg.REIN_STATUS.MISSES m = 0 ∧ t.get Reg.REIN_STATUS.PEER_LOST m = 0 ∧ t.on Hid.HB_SENT (peer m) = false := by
  subst intact
  refine ⟨_, congrArg Host.Outcome.next (State.heartbeatReceive_ok present sent), ?_⟩
  generalize ((s.hears m).on Hid.HB_ROLE (peer m) && !(s.hears m).isActive m) = c
  have frame : CellsBut [Hid.BEAT, Hid.EPOCH, Hid.BEAT_HOLD, Reg.REIN_STATUS.EPOCH, Hid.TRIG] (s.hears m) ((s.hears m).when c fun s => s.follows m) :=
    .when (.refl _ _) fun h => h.trans (State.follows_cellsBut ..)
  have shadow' : ((s.hears m).when c fun s => s.follows m).isActive (peer m) = false := by
    rwa [frame.isActive, State.hears_isActive]
  rw [State.roleContest_of_inactive (by unfold peer; omega) shadow', frame.get (by decide), frame.get (by decide), frame.on]
  exact s.hears_makes m

theorem answers_heartbeatReceive_follows {m : Mgr} {ok : Bool} (intact : ok = true) (present : s.on Hid.PRESENT m = true)
    (sent : s.on Hid.HB_SENT (peer m) = true) (lead : s.on Hid.HB_ROLE (peer m) = true) (shadow : s.isActive m = false)
    (beat : s.get Hid.HB_BEAT (peer m) < 2 ^ 40) (epoch : s.get Hid.HB_EPOCH (peer m) < 2 ^ 16) :
    Answers (.heartbeatReceive m ok) s fun t => t.get Reg.REIN_STATUS.EPOCH m = s.get Hid.HB_REPOCH (peer m) % 2 ^ 8 ∧
      (s.get Hid.EPOCH m * 2 ^ 40 + s.get Hid.BEAT m < s.get Hid.HB_EPOCH (peer m) * 2 ^ 40 + s.get Hid.HB_BEAT (peer m) →
        t.get Hid.BEAT m = s.get Hid.HB_BEAT (peer m) ∧ t.get Hid.EPOCH m = s.get Hid.HB_EPOCH (peer m)) ∧
      (s.get Hid.HB_EPOCH (peer m) * 2 ^ 40 + s.get Hid.HB_BEAT (peer m) < s.get Hid.EPOCH m * 2 ^ 40 + s.get Hid.BEAT m →
        t.on Hid.BEAT_HOLD m = true ∧ t.get Hid.BEAT m = s.get Hid.BEAT m) ∧
      (s.bit Hid.HB_HEALTH (peer m) 0 = true → t.on Hid.TRIG m = true) := by
  subst intact
  have heard := s.hears_cellsBut m
  have hbeat : (s.hears m).get Hid.HB_BEAT (peer m) = s.get Hid.HB_BEAT (peer m) := heard.get (by decide) _
  have hepoch : (s.hears m).get Hid.HB_EPOCH (peer m) = s.get Hid.HB_EPOCH (peer m) := heard.get (by decide) _
  have hrole : (s.hears m).get Hid.HB_REPOCH (peer m) = s.get Hid.HB_REPOCH (peer m) := heard.get (by decide) _
  have hown : (s.hears m).get Hid.BEAT m = s.get Hid.BEAT m := heard.get (by decide) _
  have hownEpoch : (s.hears m).get Hid.EPOCH m = s.get Hid.EPOCH m := heard.get (by decide) _
  have hhealth : (s.hears m).bit Hid.HB_HEALTH (peer m) 0 = s.bit Hid.HB_HEALTH (peer m) 0 := congrArg (Nat.testBit · 0) (heard.get (by decide) _)
  have hlead : (s.hears m).on Hid.HB_ROLE (peer m) = true := heard.on.trans lead
  have hshadow : (s.hears m).isActive m = false := (s.hears_isActive m m).trans shadow
  generalize ha : s.hears m = a at hbeat hepoch hrole hown hownEpoch hhealth hlead hshadow
  have align := a.follows_align m
  have shadow' : (a.follows m).isActive m = false := by rwa [(a.follows_cellsBut m).isActive]
  refine ⟨a.follows m, congrArg Host.Outcome.next ?_, ?_, fun ahead => ?_, fun behind => ?_, fun faulty => ?_⟩
  · rw [State.heartbeatReceive_ok present sent, ha, hlead, hshadow, Bool.not_false, Bool.and_self, State.when_true,
      State.roleContest_of_inactive m.isLt shadow']
  · rw [State.follows_epoch, hrole]
  · rw [align.get (by decide), align.get (by decide), hbeat, hepoch]
    exact State.beatAlign_forward (by rwa [hown, hownEpoch]) beat epoch
  · rw [align.on, align.get (by decide), hbeat, hepoch, ← hown]
    exact State.beatAlign_hold (by rwa [hown, hownEpoch])
  · exact State.follows_trig (hhealth.trans faulty)

theorem answers_heartbeatReceive_damaged {m : Mgr} {ok : Bool} (damaged : ok = false) :
    Answers (.heartbeatReceive m ok) s fun t => OnlyCells [(Hid.HB_SENT, peer m, 0)] s t := by
  subst damaged
  refine ⟨_, rfl, ?_⟩
  unfold State.heartbeatReceive
  dsimp only
  split
  · exact .refl _ s
  · exact (OnlyCells.refl _ s).putAt (.head _)

theorem answers_heartbeatReceive_contest {m : Mgr} {ok : Bool} (intact : ok = true) (present : s.on Hid.PRESENT m = true)
    (sent : s.on Hid.HB_SENT (peer m) = true) (a : s.isActive 0 = true) (b : s.isActive 1 = true) :
    Answers (.heartbeatReceive m ok) s fun t => t.isActive 0 = true ∧ t.isActive 1 = false ∧ t.on Hid.ROLE_LOW 1 = false ∧
      t.on Reg.REIN_STATUS.ROLE_CONTEST 1 = true ∧ t.get Reg.REIN_COUNTS.CONTEST_COUNT 0 = s.bumped Reg.REIN_COUNTS.CONTEST_COUNT 0 ∧
      t.get Reg.REIN_STATUS.MISSES m = 0 := by
  subst intact
  have active : ∀ k : Mgr, s.isActive k = true
    | 0 => a
    | 1 => b
  have heard := s.hears_cellsBut m
  obtain ⟨misses, -, -⟩ := s.hears_makes m
  have a' : (s.hears m).isActive 0 = true := (s.hears_isActive m 0).trans a
  have b' : (s.hears m).isActive 1 = true := (s.hears_isActive m 1).trans b
  obtain ⟨stays, yields, low, contest, count⟩ := (s.hears m).withdraws_makes
  have frame := State.roleContest_cellsBut a' b'
  refine ⟨(s.hears m).roleContest, congrArg Host.Outcome.next ?_, ?_⟩
  · rw [State.heartbeatReceive_ok present sent, State.hears_isActive, active m, Bool.not_true, Bool.and_false, State.when_false]
  · dsimp only
    rw [frame.isActive, frame.isActive, frame.on, frame.on, frame.get (by decide), frame.get (by decide),
      (s.hears m).withdraws_cellsBut.get (by decide) m, count, heard.bumped]
    exact ⟨stays.trans a', yields, low, contest, rfl, misses⟩

end

/-! ## Misses -/

section
variable {s : State} {m : Nat}

/-- An interval without a heartbeat ends: it is counted. -/
def State.missed (s : State) (m : Nat) : State := ((s.clr Hid.HB_WAIT m).bump Reg.REIN_STATUS.MISSES m).bump Reg.REIN_COUNTS.MISS_COUNT m

/-- The third interval in a row loses the peer, and a shadow has its trigger. -/
def State.losesPeer (s : State) (m : Nat) : State :=
  ((s.raise Reg.REIN_STATUS.PEER_LOST m).when (!s.isActive m) fun s => s.raise Hid.TRIG m).stCheck

theorem State.heartbeatMiss_early (h : s.on Hid.PRESENT m = false ∨ s.get Hid.HB_WAIT m < 20) : s.heartbeatMiss m = s :=
  if_pos (by rcases h with h | h <;> simp only [h, Bool.not_false, Bool.true_or, decide_true, Bool.or_true])

theorem State.heartbeatMiss_eq (present : s.on Hid.PRESENT m = true) (wait : 20 ≤ s.get Hid.HB_WAIT m) :
    s.heartbeatMiss m = if 3 ≤ (s.missed m).get Reg.REIN_STATUS.MISSES m then (s.missed m).losesPeer m else s.missed m :=
  if_neg (by simp only [present, Nat.not_lt.mpr wait, decide_false, Bool.not_true, Bool.or_self, Bool.false_eq_true, not_false_eq_true])

theorem State.missed_onlyFields (s : State) (m : Nat) :
    OnlyFields [Hid.HB_WAIT, Reg.REIN_STATUS.MISSES, Reg.REIN_COUNTS.MISS_COUNT] s (s.missed m) := (OnlyFields.refl _ s).putAt.bumpAt.bumpAt

theorem State.missed_makes (few : s.get Reg.REIN_STATUS.MISSES m < 3) :
    (s.missed m).get Reg.REIN_STATUS.MISSES m = s.get Reg.REIN_STATUS.MISSES m + 1 ∧
      (s.missed m).get Reg.REIN_COUNTS.MISS_COUNT m = s.bumped Reg.REIN_COUNTS.MISS_COUNT m ∧ (s.missed m).get Hid.HB_WAIT m = 0 := by
  have room : s.bumped Reg.REIN_STATUS.MISSES m = s.get Reg.REIN_STATUS.MISSES m + 1 :=
    if_pos (Nat.lt_of_lt_of_le (Nat.succ_lt_succ few) (by decide))
  rw [← room]
  simp only [State.missed, State.bump_eq, State.clr_eq, State.get_bumpAt_same]
  simp (disch := decide) only [State.bumped, State.get_eq, State.getAt_bumpAt_field, State.getAt_bumpAt_same, State.getAt_putAt_field,
    State.getAt_putAt_same]
  exact ⟨rfl, rfl, rfl⟩

theorem State.stCheck_onlyFields (s : State) : OnlyFields [Reg.LBIST_STATUS.COMPLETE_ST] s s.stCheck := .when (.refl _ s) fun h => h.putAt

theorem State.losesPeer_onlyFields (s : State) (m : Nat) :
    OnlyFields [Reg.REIN_STATUS.PEER_LOST, Hid.TRIG, Reg.LBIST_STATUS.COMPLETE_ST] s (s.losesPeer m) :=
  (OnlyFields.when (OnlyFields.refl _ s).putAt fun h => h.putAt).andThen (State.stCheck_onlyFields _)

theorem State.losesPeer_makes (s : State) (m : Nat) :
    (s.losesPeer m).get Reg.REIN_STATUS.PEER_LOST m = 1 ∧ (s.isActive m = false → (s.losesPeer m).on Hid.TRIG m = true) := by
  have check := fun t : State => t.stCheck_onlyFields.cellsBut
  unfold State.losesPeer
  rw [(check _).get (by decide), (check _).on, (CellsBut.trigger _ _ _).get (by decide)]
  exact ⟨State.getAt_putAt_same .., fun shadow => State.trigger_on _ m (by rw [shadow, Bool.not_false])⟩

theorem answers_heartbeatMiss {m : Mgr} (present : s.on Hid.PRESENT m = true) (wait : 20 ≤ s.get Hid.HB_WAIT m)
    (few : s.get Reg.REIN_STATUS.MISSES m < 3) :
    Answers (.heartbeatMiss m) s fun t => t.get Reg.REIN_STATUS.MISSES m = s.get Reg.REIN_STATUS.MISSES m + 1 ∧
      t.get Reg.REIN_COUNTS.MISS_COUNT m = s.bumped Reg.REIN_COUNTS.MISS_COUNT m ∧
      (s.get Reg.REIN_STATUS.MISSES m = 2 → t.get Reg.REIN_STATUS.PEER_LOST m = 1 ∧ (s.isActive m = false → t.on Hid.TRIG m = true)) ∧
      t.get Hid.HB_WAIT m = 0 ∧ OnlyFields [Hid.HB_WAIT, Reg.REIN_STATUS.MISSES, Reg.REIN_COUNTS.MISS_COUNT, Reg.REIN_STATUS.PEER_LOST, Hid.TRIG,
        Reg.LBIST_STATUS.COMPLETE_ST] s t := by
  obtain ⟨misses, count, waits⟩ := State.missed_makes few
  have frame := s.missed_onlyFields m
  have frame' := frame.mono (l' := [Hid.HB_WAIT, Reg.REIN_STATUS.MISSES, Reg.REIN_COUNTS.MISS_COUNT, Reg.REIN_STATUS.PEER_LOST, Hid.TRIG,
    Reg.LBIST_STATUS.COMPLETE_ST]) (by decide)
  refine ⟨_, congrArg Host.Outcome.next (State.heartbeatMiss_eq present wait), ?_⟩
  rw [misses]
  split
  case isTrue third =>
    have lost := (s.missed m).losesPeer_onlyFields m
    obtain ⟨peerLost, trig⟩ := (s.missed m).losesPeer_makes m
    have same {f : Fld} (hf : f.id ∉ [Reg.REIN_STATUS.PEER_LOST, Hid.TRIG, Reg.LBIST_STATUS.COMPLETE_ST].map Fld.id) :
        ((s.missed m).losesPeer m).get f m = (s.missed m).get f m := lost.cellsBut.get hf m
    refine ⟨(same (by decide)).trans misses, (same (by decide)).trans count, fun _ => ⟨peerLost, fun shadow => trig ?_⟩,
      (same (by decide)).trans waits, frame'.andThen lost⟩
    rwa [frame.cellsBut.isActive]
  case isFalse early => exact ⟨misses, count, fun two => absurd (by omega) early, waits, frame'⟩

theorem answers_heartbeatMiss_early {m : Mgr} (h : s.on Hid.PRESENT m = false ∨ s.get Hid.HB_WAIT m < 20) :
    Answers (.heartbeatMiss m) s fun t => t = s := ⟨_, rfl, State.heartbeatMiss_early h⟩

end

/-! ## The deadman -/

section
variable {s : State} {m : Nat}

theorem State.roleRelease_onlyCells (s : State) (m : Nat) : OnlyCells [(Hid.ROLE_LOW, m, 0), (Reg.REIN_STATUS.ACTIVE, m, 0)] s (s.roleRelease m) :=
  ((OnlyCells.refl _ s).putAt (.head _)).putAt (.tail _ (.head _))

theorem State.roleRelease_makes (s : State) (m : Nat) : (s.roleRelease m).on Hid.ROLE_LOW m = false ∧ (s.roleRelease m).isActive m = false := by
  simp (disch := decide) only [State.roleRelease, State.isActive, State.on, State.get_eq, State.clr_eq, State.getAt_putAt_field, State.getAt_putAt_same]
  exact ⟨rfl, rfl⟩

theorem answers_roleDeadmanRelease {m : Mgr} (out : s.deadmanOut m = true) :
    Answers (.roleDeadmanRelease m) s fun t => t.on Hid.ROLE_LOW m = false ∧ t.isActive m = false ∧
      OnlyCells [(Hid.ROLE_LOW, m, 0), (Reg.REIN_STATUS.ACTIVE, m, 0)] s t := by
  obtain ⟨low, active⟩ := s.roleRelease_makes m
  exact ⟨_, congrArg Host.Outcome.next (if_pos out), low, active, s.roleRelease_onlyCells m⟩

theorem answers_roleDeadmanRelease_armed {m : Mgr} (armed : s.deadmanOut m = false) : Answers (.roleDeadmanRelease m) s fun t => t = s :=
  ⟨_, congrArg Host.Outcome.next (if_neg (by simp [armed])), rfl⟩

end

/-! ## Takeover -/

section
variable {s : State} {m : Nat}

/-- A takeover up to the point where the manager resumes the management. -/
def State.tookOver (s : State) (m : Nat) : State := ((s.claim m).raise Reg.REIN_STATUS.TAKEOVER_EVT m).bump Reg.REIN_COUNTS.TAKEOVER_COUNT m

/-- What lets a shadow take the role: it runs, is ready, has its trigger and senses ROLE high. -/
def State.mayTake (s : State) (m : Nat) (high : Bool) : Bool :=
  s.on Hid.PRESENT m && !s.isActive m && s.on Reg.REIN_STATUS.SHADOW_READY m && s.on Hid.TRIG m && high && s.roleOpen m

theorem State.mayTake_iff {high : Bool} : s.mayTake m high = true ↔ s.on Hid.PRESENT m = true ∧ s.isActive m = false ∧
    s.on Reg.REIN_STATUS.SHADOW_READY m = true ∧ s.on Hid.TRIG m = true ∧ high = true ∧ s.roleOpen m = true := by
  simp only [State.mayTake, Bool.and_eq_true, Bool.not_eq_true', and_assoc]

theorem State.takeover_eq {high : Bool} (h : s.mayTake m high = true) : s.takeover m high = (s.tookOver m).resume m := if_pos h

theorem State.takeover_none {high : Bool} (h : ¬ s.mayTake m high = true) : s.takeover m high = s := if_neg h

/-- The claim's fields of the manager itself. -/
theorem State.tookOver_makes (s : State) (m : Nat) :
    (s.tookOver m).isActive m = true ∧ (s.tookOver m).on Hid.ROLE_LOW m = true ∧ (s.tookOver m).get Reg.REIN_STATUS.TAKEOVER_EVT m = 1 ∧
      (s.tookOver m).get Reg.REIN_COUNTS.TAKEOVER_COUNT m = s.bumped Reg.REIN_COUNTS.TAKEOVER_COUNT m ∧
      (s.tookOver m).on Reg.REIN_STATUS.SHADOW_READY m = false ∧ (s.tookOver m).on Hid.TRIG m = false ∧ (s.tookOver m).on Hid.BEAT_HOLD m = false := by
  simp only [State.tookOver, State.claim, State.bump_eq, State.get_bumpAt_same]
  cases s.isActive (peer m) <;>
  · simp (disch := decide) only [Bool.not_true, Bool.not_false, State.when_true, State.when_false, State.isActive, State.on, State.bumped,
      State.get_eq, State.raise_eq, State.clr_eq, State.put_eq, State.getAt_bumpAt_field, State.getAt_putAt_field, State.getAt_putAt_same]
    exact ⟨rfl, rfl, rfl, rfl, rfl, rfl, rfl⟩

/-- The epoch goes up by one in both managers; of two claims at once each has the same value (R289, R291). -/
theorem State.tookOver_epoch (s : State) (m : Nat) :
    (s.tookOver m).get Reg.REIN_STATUS.EPOCH m =
        (if s.isActive (peer m) = true then s.get Reg.REIN_STATUS.EPOCH (peer m) else s.get Reg.REIN_STATUS.EPOCH m + 1) % 2 ^ 8 ∧
      (s.tookOver m).get Reg.REIN_STATUS.EPOCH (peer m) =
        if s.isActive (peer m) = true then s.get Reg.REIN_STATUS.EPOCH (peer m) else (s.get Reg.REIN_STATUS.EPOCH m + 1) % 2 ^ 8 := by
  have own (t : State) (v : Nat) : (t.putAt Reg.REIN_STATUS.EPOCH (peer m) 0 v).getAt Reg.REIN_STATUS.EPOCH m 0 = t.getAt Reg.REIN_STATUS.EPOCH m 0 :=
    t.getAt_putAt_block _ _ _ _ _ _ _ (peer_ne m).symm
  have other (t : State) (v : Nat) :
      (t.putAt Reg.REIN_STATUS.EPOCH m 0 v).getAt Reg.REIN_STATUS.EPOCH (peer m) 0 = t.getAt Reg.REIN_STATUS.EPOCH (peer m) 0 :=
    t.getAt_putAt_block _ _ _ _ _ _ _ (peer_ne m)
  simp only [State.tookOver, State.claim]
  cases s.isActive (peer m) <;>
  · simp (disch := decide) only [Bool.not_true, Bool.not_false, State.when_true, State.when_false, State.get_eq, State.raise_eq, State.clr_eq,
      State.put_eq, State.bump_eq, State.getAt_bumpAt_field, State.getAt_putAt_field, State.getAt_putAt_same, own, other]
    exact ⟨rfl, rfl⟩

/-- A claim leaves the other manager's claim as it is. -/
theorem State.tookOver_elsewhere {k : Nat} (h : k ≠ m) :
    (s.tookOver m).isActive k = s.isActive k ∧ (s.tookOver m).on Hid.ROLE_LOW k = s.on Hid.ROLE_LOW k := by
  have block (t : State) (f : Fld) (v : Nat) : (t.putAt f m 0 v).getAt f k 0 = t.getAt f k 0 := t.getAt_putAt_block _ _ _ _ _ _ _ h
  simp only [State.tookOver, State.claim]
  cases s.isActive (peer m) <;>
  · simp (disch := decide) only [Bool.not_true, Bool.not_false, State.when_true, State.when_false, State.isActive, State.on, State.get_eq,
      State.raise_eq, State.clr_eq, State.put_eq, State.bump_eq, State.getAt_bumpAt_field, State.getAt_putAt_field, block]
    exact ⟨rfl, rfl⟩

theorem State.keepsRole_takes (s : State) (m : Nat) : KeepsRole (s.tookOver m) ((s.tookOver m).resume m) := (KeepsRole.refl _).resume

theorem answers_takeover {m : Mgr} {high : Bool} (h : s.mayTake m high = true) :
    Answers (.takeover m high) s fun t => t.isActive m = true ∧ t.on Hid.ROLE_LOW m = true ∧
      t.get Reg.REIN_STATUS.EPOCH m =
        (if s.isActive (peer m) = true then s.get Reg.REIN_STATUS.EPOCH (peer m) else s.get Reg.REIN_STATUS.EPOCH m + 1) % 2 ^ 8 ∧
      t.get Reg.REIN_STATUS.EPOCH (peer m) =
        (if s.isActive (peer m) = true then s.get Reg.REIN_STATUS.EPOCH (peer m) else (s.get Reg.REIN_STATUS.EPOCH m + 1) % 2 ^ 8) ∧
      t.get Reg.REIN_STATUS.TAKEOVER_EVT m = 1 ∧ t.get Reg.REIN_COUNTS.TAKEOVER_COUNT m = s.bumped Reg.REIN_COUNTS.TAKEOVER_COUNT m ∧
      t.on Reg.REIN_STATUS.SHADOW_READY m = false ∧ t.on Hid.TRIG m = false ∧ t.on Hid.BEAT_HOLD m = false := by
  have role := s.keepsRole_takes m
  obtain ⟨active, low, event, count, ready, trig, hold⟩ := s.tookOver_makes m
  obtain ⟨own, other⟩ := s.tookOver_epoch m
  exact ⟨_, congrArg Host.Outcome.next (State.takeover_eq h), role.on.trans active, role.on.trans low, role.get.trans own, role.get.trans other,
    role.get.trans event, role.get.trans count, role.on.trans ready, role.on.trans trig, role.on.trans hold⟩

theorem answers_takeover_none {m : Mgr} {high : Bool} (h : ¬ s.mayTake m high = true) : Answers (.takeover m high) s fun t => t = s :=
  ⟨_, rfl, State.takeover_none h⟩

end

/-! ## Handover -/

section
variable {s : State} {w : Who} {m : Nat}

/-- The active manager `m` has released ROLE on HANDOVER, and its shadow has the trigger. -/
def State.handsOver (s : State) (w : Who) (m : Nat) : State :=
  ((s.jDone w Reg.REIN_CTRL.HANDOVER m noTarget).roleRelease m).raise Hid.TRIG (peer m)

theorem State.handsOver_cellsBut (s : State) (w : Who) (m : Nat) :
    CellsBut (logFlds ++ [Hid.ROLE_LOW, Reg.REIN_STATUS.ACTIVE, Hid.TRIG]) s (s.handsOver w m) :=
  ((s.journal_onlyFieldsLog ..).cellsBut.mono (l' := logFlds ++ [Hid.ROLE_LOW, Reg.REIN_STATUS.ACTIVE, Hid.TRIG]) (by decide)).putAt.putAt.putAt

theorem State.handsOver_makes (s : State) (w : Who) (m : Nat) : (s.handsOver w m).on Hid.ROLE_LOW m = false ∧ (s.handsOver w m).isActive m = false ∧
    (s.handsOver w m).on Hid.TRIG (peer m) = true := by
  simp (disch := decide) only [State.handsOver, State.roleRelease, State.isActive, State.on, State.get_eq, State.clr_eq, State.raise_eq,
    State.getAt_putAt_field, State.getAt_putAt_same]
  exact ⟨rfl, rfl, rfl⟩

theorem State.handsOver_peer (s : State) (w : Who) (m : Nat) : (s.handsOver w m).on Hid.ROLE_LOW (peer m) = s.on Hid.ROLE_LOW (peer m) ∧
    (s.handsOver w m).isActive (peer m) = s.isActive (peer m) := by
  have log : CellsBut ([] ++ logFlds) s (s.jDone w Reg.REIN_CTRL.HANDOVER m noTarget) := (s.journal_onlyFieldsLog ..).cellsBut
  have block (t : State) (f : Fld) (v : Nat) : (t.putAt f m 0 v).getAt f (peer m) 0 = t.getAt f (peer m) 0 :=
    t.getAt_putAt_block _ _ _ _ _ _ _ (peer_ne m)
  rw [← log.on, ← log.isActive]
  simp (disch := decide) only [State.handsOver, State.roleRelease, State.isActive, State.on, State.get_eq, State.clr_eq, State.raise_eq,
    State.getAt_putAt_field, block]
  exact ⟨rfl, rfl⟩

/-- No driver holds ROLE low any more. -/
theorem State.roleOpen_of_released {k : Nat} (hm : m < 2) (own : s.on Hid.ROLE_LOW m = false) (other : s.on Hid.ROLE_LOW (peer m) = false) :
    s.roleOpen k = true := by
  have low : s.roleLow = false := by
    obtain ⟨rfl, e⟩ | ⟨rfl, e⟩ := mgr_cases hm <;> rw [e] at other <;> rw [State.roleLow, own, other] <;> rfl
  rw [State.roleOpen, low]
  rfl

theorem State.handover_eq {m : Mgr} (active : s.isActive (s.reach w m) = true) (present : s.on Hid.PRESENT (peer (s.reach w m)) = true)
    (ready : s.on Reg.REIN_STATUS.SHADOW_READY (peer (s.reach w m)) = true) :
    s.handover w m = (s.handsOver w (s.reach w m)).takeover (peer (s.reach w m)) true := if_pos (by simp only [active, present, ready, Bool.and_self])

theorem State.handover_refused {m : Mgr} (h : s.isActive (s.reach w m) = false ∨ s.on Hid.PRESENT (peer (s.reach w m)) = false ∨
    s.on Reg.REIN_STATUS.SHADOW_READY (peer (s.reach w m)) = false) :
    s.handover w m = s.jRefused w Reg.REIN_CTRL.HANDOVER (s.reach w m) noTarget JStatus.refused :=
  if_neg (by rcases h with h | h | h <;> simp only [h, Bool.false_and, Bool.and_false, Bool.false_eq_true, not_false_eq_true])

theorem State.handsOver_mayTake (hm : m < 2) (sole : s.isActive (peer m) = false) (present : s.on Hid.PRESENT (peer m) = true)
    (released : s.on Hid.ROLE_LOW (peer m) = false) (ready : s.on Reg.REIN_STATUS.SHADOW_READY (peer m) = true) :
    (s.handsOver w m).mayTake (peer m) true = true := by
  have frame := s.handsOver_cellsBut w m
  obtain ⟨low, -, trig⟩ := s.handsOver_makes w m
  obtain ⟨low', active'⟩ := s.handsOver_peer w m
  exact State.mayTake_iff.mpr ⟨frame.on.trans present, active'.trans sole, frame.on.trans ready, trig, rfl,
    State.roleOpen_of_released hm low (low'.trans released)⟩

theorem answers_handover {m : Mgr} (active : s.isActive (s.reach w m) = true) (sole : s.isActive (peer (s.reach w m)) = false)
    (present : s.on Hid.PRESENT (peer (s.reach w m)) = true) (released : s.on Hid.ROLE_LOW (peer (s.reach w m)) = false)
    (ready : s.on Reg.REIN_STATUS.SHADOW_READY (peer (s.reach w m)) = true) :
    Answers (.handover w m) s fun t => t.active = some (peer (s.reach w m)) ∧ t.on Hid.ROLE_LOW (s.reach w m) = false ∧
      t.on Hid.ROLE_LOW (peer (s.reach w m)) = true ∧
      t.get Reg.REIN_STATUS.EPOCH (peer (s.reach w m)) = (s.get Reg.REIN_STATUS.EPOCH (peer (s.reach w m)) + 1) % 2 ^ 8 ∧
      t.get Reg.REIN_STATUS.TAKEOVER_EVT (peer (s.reach w m)) = 1 := by
  have hand := State.handover_eq active present ready
  have lt := s.reach_lt w m
  generalize s.reach w m = a at *
  have epochs : (s.handsOver w a).get Reg.REIN_STATUS.EPOCH (peer a) = s.get Reg.REIN_STATUS.EPOCH (peer a) :=
    (s.handsOver_cellsBut w a).get (by decide) _
  have takes := State.takeover_eq (State.handsOver_mayTake (w := w) lt sole present released ready)
  obtain ⟨low, inactive, -⟩ := s.handsOver_makes w a
  generalize s.handsOver w a = h at *
  have role := h.keepsRole_takes (peer a)
  obtain ⟨active', low', event, -⟩ := h.tookOver_makes (peer a)
  obtain ⟨inactive', high⟩ := h.tookOver_elsewhere (peer_ne a).symm
  have epoch := (h.tookOver_epoch (peer a)).1
  rw [peer_peer lt, inactive, if_neg Bool.false_ne_true, epochs] at epoch
  refine ⟨_, congrArg Host.Outcome.next (hand.trans takes), role.active.trans ?_, role.on.trans (high.trans low), role.on.trans low',
    role.get.trans epoch, role.get.trans event⟩
  exact State.active_of_sole (by unfold peer; omega) active' (by rw [peer_peer lt, inactive', inactive])

theorem answers_handover_refused {m : Mgr} (h : s.isActive (s.reach w m) = false ∨ s.on Hid.PRESENT (peer (s.reach w m)) = false ∨
    s.on Reg.REIN_STATUS.SHADOW_READY (peer (s.reach w m)) = false) :
    Answers (.handover w m) s fun t => t.logged JKind.refused JStatus.refused noTarget = true ∧ OnlyFieldsLog [] s t :=
  ⟨_, congrArg Host.Outcome.next (State.handover_refused h), s.logged_jReg .., s.journal_onlyFieldsLog ..⟩

end

/-! ## Explicit faults -/

section
variable {s : State} {m : Nat}

theorem State.awlError_cells (s : State) (kind t u : Nat) : (s.awlError kind t u).cells = s.cells := by
  unfold State.awlError
  split
  · rfl
  · dsimp only
    split <;> rfl

theorem State.awlError_jrnA (s : State) (kind t u : Nat) : (s.awlError kind t u).jrnA = s.jrnA := by
  unfold State.awlError
  split
  · rfl
  · dsimp only
    split <;> rfl

theorem State.getAt_awlError (s : State) (kind t u : Nat) (f : Fld) (i j : Nat) : (s.awlError kind t u).getAt f i j = s.getAt f i j := by
  rw [State.getAt, State.getAt, s.awlError_cells]

/-- The cells that a manager reset of die `m` clears. -/
def mgrGone (m : Nat) (k : Key) : Bool := k.ret = Ret.M.idx && k.ofMgr && k.2.1 = m

theorem State.getAt_managerReset (s : State) (m : Nat) (f : Fld) (i j : Nat) : (s.managerReset m).getAt f i j =
    ((((s.resetCells (mgrGone m)).putAt Hid.ROLE_LOW m 0 0).putAt Hid.PRESENT m 0 0).putAt Reg.REIN_STATUS.ACTIVE m 0 0).getAt f i j := rfl

/-- A manager reset ends what its die held: it is out, inactive, and drives ROLE no longer. -/
theorem State.managerReset_makes (s : State) (m : Nat) :
    (s.managerReset m).on Hid.PRESENT m = false ∧ (s.managerReset m).isActive m = false ∧ (s.managerReset m).on Hid.ROLE_LOW m = false := by
  simp (disch := decide) only [State.isActive, State.on, State.get_eq, State.getAt_managerReset, State.getAt_putAt_field, State.getAt_putAt_same]
  exact ⟨rfl, rfl, rfl⟩

/-- A manager reset leaves the other die's claim alone. -/
theorem State.managerReset_isActive {k : Nat} (h : k ≠ m) : (s.managerReset m).isActive k = s.isActive k := by
  have block (t : State) (f : Fld) (v : Nat) : (t.putAt f m 0 v).getAt f k 0 = t.getAt f k 0 := t.getAt_putAt_block _ _ _ _ _ _ _ h
  have cell : (s.managerReset m).getAt Reg.REIN_STATUS.ACTIVE k 0 = s.getAt Reg.REIN_STATUS.ACTIVE k 0 := by
    rw [State.getAt_managerReset, block, State.getAt_putAt_field _ _ _ _ _ _ _ _ (by decide), State.getAt_putAt_field _ _ _ _ _ _ _ _ (by decide),
      State.getAt_resetCells, if_neg (by simp [mgrGone, Fld.key, h])]
  exact congrArg (fun v => decide (v ≠ 0)) cell

/-- A manager with an explicit fault is out, in manager reset. -/
def State.Faulted (s : State) (m : Nat) (t : State) : Prop :=
  t.on Hid.PRESENT m = false ∧ t.isActive m = false ∧ t.on Hid.ROLE_LOW m = false ∧ t.get Hid.ST_STATE m = 1 ∧
    (s.isActive m = true → t.on Hid.TRIG (peer m) = true)

theorem State.explicitFault_eq (present : s.on Hid.PRESENT m = true) :
    s.explicitFault m = (((s.managerReset m).put Hid.ST_STATE m 1).awlError Awl.manager 0 m).when (s.isActive m) fun s => s.raise Hid.TRIG (peer m) :=
  if_neg (by rw [present]; decide)

theorem State.faulted_explicitFault (present : s.on Hid.PRESENT m = true) : s.Faulted m (s.explicitFault m) := by
  obtain ⟨out, inactive, low⟩ := s.managerReset_makes m
  have state : CellsBut [Hid.ST_STATE] (s.managerReset m) (((s.managerReset m).put Hid.ST_STATE m 1).awlError Awl.manager 0 m) :=
    ⟨fun f i j hf => (State.getAt_awlError ..).trans ((State.putAt_cellsBut ..).getAt f i j hf)⟩
  have value : (((s.managerReset m).put Hid.ST_STATE m 1).awlError Awl.manager 0 m).get Hid.ST_STATE m = 1 :=
    (State.getAt_awlError ..).trans (State.getAt_putAt_same ..)
  rw [State.explicitFault_eq present]
  generalize ((s.managerReset m).put Hid.ST_STATE m 1).awlError Awl.manager 0 m = r at *
  have trig := CellsBut.trigger r (s.isActive m) (peer m)
  exact ⟨trig.on.trans (state.on.trans out), (trig.isActive (k := m)).trans ((state.isActive (k := m)).trans inactive),
    trig.on.trans (state.on.trans low), (trig.get (by decide) m).trans value, fun lead => State.trigger_on r _ lead⟩

theorem State.explicitFault_peer (present : s.on Hid.PRESENT m = true) : (s.explicitFault m).isActive (peer m) = s.isActive (peer m) := by
  rw [State.explicitFault_eq present, (CellsBut.trigger _ _ _).isActive, State.isActive, State.on, State.get_eq, State.getAt_awlError,
    State.put_eq, State.getAt_putAt_field _ _ _ _ _ _ _ _ (by decide)]
  exact State.managerReset_isActive (peer_ne m)

theorem State.explicitFault_jrnA (present : s.on Hid.PRESENT m = true) : (s.explicitFault m).jrnA = s.jrnA := by
  rw [State.explicitFault_eq present]
  refine (State.when_same State.jrnA _ _ (fun t => t.raise Hid.TRIG (peer m)) fun _ => rfl).trans ?_
  exact State.awlError_jrnA ..

/-- What leaves the fault's fields alone leaves the manager in its reset. -/
theorem State.Faulted.of_cellsBut {t u : State} {l : List Fld} (h : s.Faulted m t) (e : CellsBut l t u)
    (hl : ∀ f ∈ [Hid.PRESENT, Reg.REIN_STATUS.ACTIVE, Hid.ROLE_LOW, Hid.ST_STATE, Hid.TRIG], f.id ∉ l.map Fld.id := by decide) : s.Faulted m u := by
  simp only [List.forall_mem_cons] at hl
  obtain ⟨present, active, low, state, trig, -⟩ := hl
  simpa only [State.Faulted, e.on present, e.isActive active, e.on low, e.get state, e.on trig] using h

theorem answers_mgrThermalShutdown {m : Mgr} (present : s.on Hid.PRESENT m = true) :
    Answers (.mgrThermalShutdown m) s fun t => t.on Hid.PRESENT m = false ∧ t.isActive m = false ∧ t.on Hid.ROLE_LOW m = false ∧
      t.get Hid.ST_STATE m = 1 ∧ (s.isActive m = true → t.on Hid.TRIG (peer m) = true) ∧ t.isActive (peer m) = s.isActive (peer m) ∧
      t.jrnA = s.jrnA := by
  obtain ⟨out, inactive, low, state, trig⟩ := State.faulted_explicitFault present
  exact ⟨_, rfl, out, inactive, low, state, trig, State.explicitFault_peer present, State.explicitFault_jrnA present⟩

/-- A condition that is recorded once stands. -/
theorem State.bitAt_once (s : State) (n : Nat) : (s.once n).bitAt Hid.EV_ONCE n = true := by
  rw [State.once, State.putBitAt, State.bitAt, State.getAt_putAt_same, show Hid.EV_ONCE.wid = 32 from rfl, Nat.testBit_mod_two_pow, testBit_withBit_true]
  simp [Nat.mod_lt]

theorem answers_lockstepMismatch {m : Mgr} (present : s.on Hid.PRESENT m = true) :
    Answers (.lockstepMismatch m) s fun t => t.on Hid.PRESENT m = false ∧ t.isActive m = false ∧ t.on Hid.ROLE_LOW m = false ∧
      t.get Hid.ST_STATE m = 1 ∧ (s.isActive m = true → t.on Hid.TRIG (peer m) = true) ∧ t.bitAt Hid.EV_ONCE (504 + 32 * m.val + 2) = true := by
  have once : CellsBut [Hid.EV_ONCE] (s.explicitFault m) ((s.explicitFault m).once (504 + 32 * m.val + 2)) := State.putAt_cellsBut ..
  obtain ⟨out, inactive, low, state, trig⟩ := (State.faulted_explicitFault present).of_cellsBut once
  exact ⟨_, rfl, out, inactive, low, state, trig, State.bitAt_once ..⟩

end

/-- Settles O33: each clause is a lemma about one operation of the managers; of a takeover, what the new lead resumes keeps the role's fields. -/
theorem managersAndHeartbeats : Obligations.ManagersAndHeartbeats := by
  unfold Obligations.ManagersAndHeartbeats
  simp only [decide_eq_true_eq]
  refine ⟨fun m s => ?_, fun m s => ?_, fun m s absent => answers_heartbeatSend_absent absent,
    fun m ok s => answers_heartbeatReceive_heard, fun m ok s => answers_heartbeatReceive_follows, fun m ok s => answers_heartbeatReceive_damaged,
    fun m ok s => answers_heartbeatReceive_contest, fun m s => answers_heartbeatMiss, fun m s => answers_heartbeatMiss_early,
    fun m s => answers_roleDeadmanRelease, fun m s => answers_roleDeadmanRelease_armed, fun m high s => ?_, fun m high s => ?_,
    fun w m s => answers_handover, fun w m s => answers_handover_refused, fun m s => answers_mgrThermalShutdown, fun m s => answers_lockstepMismatch⟩
  · intro present h
    obtain ⟨t, next, ⟨sent, beat, epoch, role, repoch, seq, wait⟩, frame⟩ := answers_heartbeatSend present h
    exact ⟨t, next, sent, beat, epoch, role, repoch, seq, wait, frame⟩
  · intro present active found pack asked idle
    obtain ⟨t, next, ⟨sent, beat, epoch, role, repoch, seq, wait⟩, pending, runs, frame⟩ :=
      answers_heartbeatSend_authenticates present active found pack asked idle
    exact ⟨t, next, sent, beat, epoch, role, repoch, seq, wait, pending, runs, frame.mono (by decide)⟩
  · intro high present shadow ready trig senses
    exact answers_takeover (State.mayTake_iff.mpr ⟨present, shadow, ready, trig, high, senses⟩)
  · intro h
    refine answers_takeover_none fun may => ?_
    obtain ⟨present, shadow, ready, trig, high, senses⟩ := State.mayTake_iff.mp may
    simp [present, shadow, ready, trig, high, senses] at h

end Sys2Proof.Machine
end
